-- ==== Sys2Proof/Word.lean ====
section
/-!
DEFINITION. The word and byte of the register space (R8, R11, R32) and their plainest arithmetic.
-/

namespace Sys2Proof

/-- A 32-bit register word (R8). -/
abbrev Word := BitVec 32

/-- A byte. -/
abbrev Byte := BitVec 8

/-- A 64-bit value held as a _LO/_HI pair (R8). -/
abbrev Word64 := BitVec 64

end Sys2Proof
end

