-- ==== Sys2Proof/Syntax.lean ====
section
/-!
DEFINITION. The commands of the DG-960: one constructor of Instr for every row of spec/opcode_table.json, with the
operands the command carries, and the operand types.
-/

namespace Sys2Proof

/-- Ethernet port n (Table 0-4: ports 0 to 56). -/
abbrev EthPort := Fin 57
/-- CAN channel n. -/
abbrev CanCh := Fin 24
/-- LIN channel n. -/
abbrev LinCh := Fin 8
/-- Voholt link n. -/
abbrev VhLink := Fin 4
/-- TIM launch slot, timed-object slot. -/
abbrev TimSlot := Fin 16
/-- GPIO pin. -/
abbrev Gpio := Fin 24
/-- Traffic class (R6). -/
abbrev Class := Fin 8
/-- Host semaphore (R318). -/
abbrev Sem := Fin 32
/-- SUPEN output (R257). -/
abbrev SupenIdx := Fin 8
/-- WAK launch slot. -/
abbrev WakSlot := Fin 8
/-- A set of segments of the consent ring, 0 the whole device (R261). -/
abbrev SleepSet := Fin 64
/-- A link code (R338): 0 to 3 Voholt link, 4 to 7 Voholt-over-Ethernet on port 0 to 3. -/
abbrev LinkCode := Fin 8

/-- The launch slots of the device (Table 1-6, R143): those with a software slot number, the handover slot, and the
internal slots of gate lists and LIN schedules (R145, R189). -/
inductive Slot where
  | tim (k : TimSlot)
  | can (ch : CanCh) (k : TimSlot)
  | wak (k : WakSlot)
  | kalow (r : Nat)
  | aut (k : Nat)
  | handover
  | gate (p : EthPort)
  | streamGate (g : Nat)
  | linSch (ch : LinCh)
  | sleepCommit
  deriving DecidableEq, Repr

/-- The initiators of a register access (R33), coded as `PG_ERR_CAP0.initiator` (Table 2-18). -/
inductive Initiator where
  | braceA | braceB | host | debug | tableDma | resetCtl | cascade
  deriving DecidableEq, Repr

/-- The two braces. -/
inductive Brace where
  | a | b
  deriving DecidableEq, Repr

/-- The divided clocks with a stable indicator (R15, Table 17-10 `STAT.stable`). -/
inductive Clock where
  | brc | dram | vlt | fab | tim | per | can
  deriving DecidableEq, Repr

/-- The sources of a class D reset that no other command requests (Table 17-1; R350 for the temperature is
DIE_TEMP_SAMPLE). -/
inductive ResetCause where
  | region13 | thermal | bothWatchdogs | startFailure | wake
  deriving DecidableEq, Repr

/-- The brown-out conditions (R386), coded as the journal's cause (R387). -/
inductive BrownOutCause where
  | undervoltage | undervoltageTime | overvoltage | overvoltageTime
  deriving DecidableEq, Repr

/-- The halt reasons of the boot record (Table 17-5). -/
inductive HaltReason where
  | brace | clock | fault
  deriving DecidableEq, Repr

/-- A key record slot that failed its check at start (R238): the record and which of its two slots. -/
structure RecordFail where
  record : Nat
  slot1 : Bool
  deriving DecidableEq, Repr

/-- What the device keeps of an image that has passed a verify (Tables 18-2, 18-3): header fields, and of the type 1 block
the TCM offset, the length and the digest. -/
structure ImageHeader where
  version : Nat
  secVer : Nat
  ctlVer : Nat
  ctlMin : Nat
  hwMin : Nat
  entry : Nat
  code : Option (Nat × Nat × List Byte)
  deriving DecidableEq, Repr

/-- An entry of an image's block table (Table 18-3), and the bytes of its block; `zero` says that bytes 2 and 3 are zero. -/
structure ImageBlock where
  kind : Nat
  target : Nat
  zero : Bool
  offset : Nat
  length : Nat
  dest : Nat
  digest : List Byte
  data : List Byte
  deriving DecidableEq, Repr

/-- An image as it is read from a bank (R370): the fields of Table 18-2, its n blocks in the order of the block table, and
whether its signature, checked with the public key of an image anchor, is valid; `zero` says that the bytes of the header
without a field are zero. -/
structure BankImage where
  magic : Nat
  format : Nat
  version : Nat
  secVer : Nat
  ctlVer : Nat
  ctlMin : Nat
  hwMin : Nat
  curve : Nat
  xfer : Nat
  entry : Nat
  length : Nat
  zero : Bool
  blocks : List ImageBlock
  signed : Bool
  deriving DecidableEq, Repr

/-- What the blocks of a start image load (Table 18-4, types 1 to 4): brace code and data as (TCM offset, bytes), table
entries, Kalow records as (mem, index, words), page shadows as (page index, offset, value), and path entries as
(device, entry). -/
structure StartImage where
  code : List (Nat × List Byte)
  tables : List (Nat × Nat × Nat)
  kalow : List (Nat × Nat × List Nat)
  shadows : List (Nat × Nat × Nat)
  paths : List (Nat × Nat)
  deriving DecidableEq, Repr

/-- How a verify of a bank ends (R372). -/
inductive VerifyResult where
  | pass | badImage | blockCheck | incompatible
  deriving DecidableEq, Repr

/-- The activation guards (Table 18-5). -/
inductive Guard where
  | motion | supply | owner | sleep | halt
  deriving DecidableEq, Repr

/-- What a scrub pass finds at one unit (R297). -/
inductive ScrubFind where
  | clean | correctable (hard : Bool) | uncorrectable
  deriving DecidableEq, Repr

/-- A difference a brace sweep found (R285, R286): the brace, the structure (1 registers, 2 I-cache, 3 D-cache, 4 TCM)
and the word or entry index. -/
structure SweepDiff where
  brace : Brace
  structure_ : Nat
  index : Nat
  deriving DecidableEq, Repr
/-- The descriptor windows of the device (R126): which command a window is running. -/
inductive Window where
  | stream | streamGate | recovery | gcl | klwDesc | klwSlot | autCtx | autChg | linSch (ch : LinCh) | path
  deriving DecidableEq, Repr

/-- A destination of interrupt messages: the host or the active brace (R50, R302). -/
inductive MsgDest where
  | host
  | brace
  deriving DecidableEq, Repr

/-- What a key operation finds uncorrectable: its source, or the wrapping key that its destination names (R244). -/
inductive KeyUe where
  | src | wrapping
  deriving DecidableEq, Repr

/-- What of a cipher context reads uncorrectable: its record (0) or one of its two key slots (1, 2) (R233). -/
abbrev CvPart := Fin 3

/-- A Vault memory error met by a read for egress (Table 3-7): a data coin uncorrectable, before or after transmission
has started, and which of the frame's coins it is; Reserve data corrected; the slip outside its next field; one or both copies of the next field; a link word
or coin list; or, met by the cipher bank for it, the record (0) or a key slot (1, 2) of its generate context (R233). -/
inductive VaultErr where
  | data (started : Bool) (coin : Nat) | corrected | slip | nextOne | nextBoth | link | cipher (part : CvPart)
  deriving DecidableEq, Repr

/-- A table slot: table and index. -/
structure TblAt where
  table : Nat
  index : Nat
  deriving DecidableEq, Repr

/-- A frame record of a CAN or LIN frame (R172, Table 8-2): identifier, format 0 11-bit, 1 29-bit, 2 CAN XL, 3 LIN, and
the data bytes, whose count is the record's `len`. -/
structure BusRecord where
  id : Nat
  fmt : Nat
  dlc : Nat := 0
  fdf : Bool := false
  brs : Bool := false
  esi : Bool := false
  rtr : Bool := false
  sec : Bool := false
  enh : Bool := false
  sdt : Nat := 0
  vcid : Nat := 0
  af : Nat := 0
  data : List Byte := []
  deriving DecidableEq, Repr
/-- A table DMA descriptor as placed in its ring (Table 4-11): its key or ternary value and mask, and its entry, as
numbers of the bytes least-significant first; `ue` 1 where the descriptor, 2 where an entry that the operation reads, is
uncorrectable (R101), and `bad` the slot of that entry where an insert or a flush reads it. -/
structure TblDesc where
  own : Bool
  irq : Bool
  table : Nat
  index : Nat
  key : Nat
  entry : Nat
  ue : Nat
  bad : Nat := 0
  deriving DecidableEq, Repr
/-- A BRACE port descriptor as it stands in TCM (Table 13-6). -/
structure BpDesc where
  own : Bool
  tsEvent : Bool
  direct : Bool
  len : Nat
  buf : Nat
  port : Nat
  domain : Nat
  cls : Nat
  deriving DecidableEq, Repr
/-- How a read of host memory completed (R315): with data, Unsupported Request, Completer Abort, or poisoned. -/
inductive CplStatus where
  | ok | unsupported | abort | poisoned
  deriving DecidableEq, Repr
/-- A host ring descriptor as the port fetched it (Table 15-8). -/
structure HostDesc where
  own : Bool
  irq : Bool
  tsEvent : Bool
  direct : Bool
  len : Nat
  port : Nat
  domain : Nat
  cls : Nat
  buf : Nat
  deriving DecidableEq, Repr
/-- The memory BARs of the host function (Table 15-3). -/
inductive Bar where
  | registers | mram | msix
  deriving DecidableEq, Repr
/-- What is unmasked: a vector, the function, or MSI-X as a whole is enabled (R317). -/
inductive Unmask where
  | vector (v : Fin 64) | function | enable
  deriving DecidableEq, Repr
/-- A HELLO (Table 16-2, R340): the sender's priority, UID and device ID, and the best master it knows: priority, UID,
ID, generation, sequence and its hops to it. -/
structure Hello where
  prio : Nat
  uid : Nat
  dev : Nat
  devV : Bool
  master : Bool
  mprio : Nat
  muid : Nat
  mid : Nat
  mgen : Nat
  seq : Nat
  hops : Nat
  deriving DecidableEq, Repr
/-- The key of a cascade-wide commit (R342): launch time and group, or 256 plus a page index. -/
structure CommitKey where
  t : Nat
  g : Nat
  deriving DecidableEq, Repr
/-- A VOTE (Table 16-2): 1 YES, 2 NO, 3 ABORT, with the device that votes and its number of devices. -/
structure Vote where
  key : CommitKey
  dev : Nat
  n : Nat
  vote : Nat
  deriving DecidableEq, Repr
/-- A DECIDE (Table 16-2), with its source and sequence (R333) and the link it arrived on. -/
structure Decide where
  key : CommitKey
  commit : Bool
  src : Nat
  seq : Nat
  link : Nat
  deriving DecidableEq, Repr
/-- Codeword pairs that carried a cascade frame (R328): pairs of which only the second copy decoded, and pairs of which
neither did. -/
structure CwPairs where
  corrected : Nat
  lost : Nat
  deriving DecidableEq, Repr
/-- The control messages of the cascade, CONSENT tokens apart (Table 16-2). -/
inductive Ctl where
  | hello (h : Hello)
  | idReq (uid want : Nat)
  | idGrant (uid dev : Nat)
  | timeReq (t1 : Int)
  | timeRsp (t2 t3 : Int)
  | vote (v : Vote)
  | decide (x : Decide)
  deriving DecidableEq, Repr
/-- The tamper sensors (Table 11-6). -/
inductive Sensor where
  | tampern | mesh | glitch | temperature | debug
  deriving DecidableEq, Repr
/-- The wake detectors (Table 12-2). -/
inductive WakeSrc where
  | can (ch : CanCh) | lin (ch : LinCh) | eth (p : EthPort) | pin (n : Fin 8) | host | vh (n : VhLink)
  deriving DecidableEq, Repr
/-- A consent token (Table 12-3): type 1 PROPOSE, 2 COMMIT, 3 VETO, 4 WAKE. -/
structure Token where
  type : Nat
  set_ : Nat
  origin : Nat
  seq : Nat
  count : Nat
  sender : Nat
  t : Nat
  deriving DecidableEq, Repr
/-- What Kalow found uncorrectable (R204): nothing, the route's record or its layout's; the store entry of a signal; or,
for the n-th message of a container, the record of its input route or of that route's layout. -/
inductive KlwUe where
  | none | route | layout | store (sig : Nat) | message (n : Nat) (layout : Bool)
  deriving DecidableEq, Repr
/-- A Listen decoder (R260): CAN channels 0 to 23, LIN channels as 24 to 31. -/
abbrev Decoder := Fin 32

/-- The operations and events of the DG-960 (spec/opcode_table.json), each whole and indivisible. -/
inductive Instr where
  /-- R386: VSUP has stayed above 7.5 V for 10 ms, so a class P reset starts and MAIN rails ramp with the wake-source record set to power-on. -/
  | powerOn
  /-- R358: MAIN rails and hold-up store become valid (t0) and the reset controller begins the release order. -/
  | mainRailsValid
  /-- R387: VSUP meets a brown-out condition and the supply-loss sequence begins toward Off. -/
  | brownOut (cause : BrownOutCause) (vmin : Nat)
  /-- R387: The power-loss journal and the boot record halt field are written in MRAM. -/
  | powerLossJournalWritten
  /-- R387: MAIN goes off at the end of the supply-loss sequence and the device is Off. -/
  | supplyLossMainOff
  /-- R386: VSUP falls below 8.0 V, setting crank and counting CRANK_CNT. -/
  | vsupCrankEntry (mv10 : Nat)
  /-- R386: VSUP rises above 40.0 V, counting OV_CNT and raising OV. -/
  | vsupOvEntry (mv10 : Nat)
  /-- R396: VSUP falls below the uv_warn level of the option bytes and UV_WARN is raised. -/
  | vsupUvWarn (mv10 : Nat)
  /-- R349: RESETN stays low for 1 µs and a class D reset enters its assertion phase, or is recorded in WSR_SEEN while MAIN is off. -/
  | resetnAssert
  /-- R349: RESETN rises and the held assertion phase may end. -/
  | resetnRelease
  /-- R55: A write of the key to SYS.DEV_RESET starts a class D reset; other values are captured in BAD_ACC. -/
  | devReset (i : Initiator) (v : Word)
  /-- R347: A class D reset asserts, clearing every MAIN unit and setting outputs to their reset states. -/
  | classDReset (cause : ResetCause)
  /-- R348: The 200 µs assertion phase ends (t0) and the release sequence starts. -/
  | classDAssertionEnd
  /-- R350: The 100 µs die temperature measurement raises THERM_WARN, starts a THERMAL class D reset after 1 ms above 140 °C, or ends its hold below 120 °C. -/
  | dieTempSample (celsius : Int)
  /-- R16: The 1 ms check of the 50 MHz reference against the AON oscillator; a deviation beyond ±2,000 ppm puts the device in Halt. -/
  | referenceCheck (ppm : Int)
  /-- R16: The root PLL loses lock; divided clock stable indicators fall. -/
  | rootPllLockLoss
  /-- R16: The root PLL regains lock within 10 µs; LOL counted and the event raised. -/
  | rootPllRelock (ns : Nat)
  /-- R16: Loss of root PLL lock lasts 10 µs and the device enters Halt. -/
  | rootPllLossTimeout
  /-- R15: A divided clock's stable indicator rises, releasing units held in CLOCK_WAIT. -/
  | clockStable (c : Clock)
  /-- R359: A unit's clock has not become stable within 10 ms of the release request; it reports CLOCK_FAIL. -/
  | clockWaitTimeout (pg : Nat)
  /-- R358: The root array is powered up and read by 0.35 ms after t0. -/
  | rootArrayRead
  /-- R235: A root secret regeneration attempt completes; a match sets root good, failure retries up to three times then reports ROOT_FAIL. -/
  | rootRegenAttemptDone (cells : List Byte)
  /-- R356: The reset controller reads and votes the three option copies, loads the option shadow, compares and advances the boot counter and starts the fill. -/
  | optionLoad
  /-- R355: After the fill the reset controller rewrites the non-chosen option copies with the chosen image. -/
  | optionCopyRepair
  /-- R293: The on-die memory fill ends; filled units leave FILL_WAIT and the Reserve fill starts. -/
  | ondieFillDone
  /-- R293: A Reserve row completes its fill and its coins join the free list; the last row sets FILL_STAT bit 1 and MILE[6]. -/
  | reserveRowFilled (coins : Nat) (last : Bool)
  /-- R238: The start check of key records ends with fallbacks or losses counted and the Strongbox reports ready. -/
  | keyRecordCheckDone (fails : List RecordFail) (healthy : Bool)
  /-- R361: The signature check of the boot bank image ends; failure triggers fallback or a start failure. -/
  | imageCheckDone (img : BankImage)
  /-- R361: The start-image tables are loaded and checked, putting the start-image data path in service. -/
  | startTableLoadDone (ok : Bool) (img : StartImage)
  /-- R278: The comparator self-test of a brace ends; a failure marks the brace failed. -/
  | braceSelfTestDone (br : Brace) (failed : Word)
  /-- R363: The active brace writes the boot-good key in Start: boot counter cleared, FAULTN released, READY high, Service. -/
  | bootGood (i : Initiator) (v : Word)
  /-- R361: No boot-good within BOOT_TMO after brace release and the start fails. -/
  | bootGoodTimeout
  /-- R366: Half of BOOT_TMO has passed without boot-good and BOOT_HALF is raised. -/
  | bootHalf
  /-- R365: A write of the key to RST.BOOT_CLR in Kennel mode clears the boot counter; elsewhere it sets ERR. -/
  | bootClr (i : Initiator) (v : Word)
  /-- R353: A write of RST.OUT_CTL drives or releases FAULTN and holds READY under the stated conditions. -/
  | outCtlWrite (i : Initiator) (v : Word)
  /-- R357: A write of the key to OPT.CMD starts writing the staged image to all three copies, or is refused. -/
  | optionWrite (i : Initiator) (v : Word)
  /-- R357: The option write completes and OPT_DONE is raised. -/
  | optionWriteDone (ok : Bool)
  /-- R29: An unrecoverable fault or the loss of both braces moves the device to Halt. -/
  | unrecoverableFault (why : HaltReason)
  /-- R37: A write of PG_CTRL.reset starts a class U reset of the unit, or has no effect and sets ERR on pages that refuse it. -/
  | unitReset (i : Initiator) (pg : Nat)
  /-- R37: The 64 CK_PER cycle unit reset ends and release waits for the clock. -/
  | unitResetEnd (pg : Nat)
  /-- R36: A write of PG_CTRL.enable stops the unit at its next item boundary or resumes it. -/
  | pgEnableWrite (i : Initiator) (pg : Nat) (en : Bool)
  /-- R38: A write of PG_CTRL.isolate 1, or a device-made request, sets iso 1 and stops new items to the unit. -/
  | isolateRequest (i : Option Initiator) (pg : Nat)
  /-- R38: Items in an isolating unit have finished or been discarded and iso becomes 2. -/
  | isolationComplete (pg : Nat)
  /-- R38: A write of PG_CTRL.isolate 0 sets iso 3, or waits until iso reaches 2. -/
  | returnRequest (i : Initiator) (pg : Nat)
  /-- R38: A returning unit reports ready and iso becomes 0. -/
  | returnComplete (pg : Nat)
  /-- R39: A write to a shadow offset changes the shadow only, or is ignored while armed or locked. -/
  | shadowWrite (i : Initiator) (pg : Nat) (off : Nat) (v : Word)
  /-- R39: A write to a live register with RWS fields changes its RW fields and sets LIVE_WR if an RWS value differs. -/
  | liveRegisterWrite (i : Initiator) (pg : Nat) (off : Nat) (v : Word)
  /-- R9: A write to a register that has no behaviour of its own. -/
  | registerWrite (i : Initiator) (pg : Nat) (off : Nat) (v : Word)
  /-- R32: An access to an unmapped offset, a narrow write or a write to a reserved offset is ignored and captured in BAD_ACC. -/
  | unmappedAccess (i : Initiator) (addr : Nat) (write : Bool) (narrow : Bool)
  /-- R10: A read of an RC register returns its value and clears it. -/
  | counterReadClear (i : Initiator) (pg : Nat) (off : Nat)
  /-- R32: A read of a latched capture register that re-arms its capture. -/
  | captureReadRearm (i : Initiator) (pg : Nat) (off : Nat)
  /-- R41: PG_COMMIT cmd 1 runs the consistency check and commits at once, or is refused. -/
  | commitNow (i : Initiator) (pg : Nat) (group : Nat)
  /-- R42: PG_COMMIT cmd 2 checks and arms a commit at PG_COMMIT_T. -/
  | commitTimed (i : Initiator) (pg : Nat) (group : Nat)
  /-- R43: PG_COMMIT cmd 3 checks and prepares a cascade-wide commit, voting in the cascade. -/
  | commitCascade (i : Initiator) (pg : Nat) (group : Nat)
  /-- R42: PG_COMMIT cmd 4 aborts a checking, armed or prepared commit, or is answered with TOO_LATE. -/
  | commitAbort (i : Initiator) (pg : Nat) (group : Nat)
  /-- R41: PG_COMMIT cmd 5 copies live RWS fields and staged window records back to the shadows. -/
  | commitRevert (i : Initiator) (pg : Nat) (group : Nat)
  /-- R41: PG_COMMIT cmd 0, 6 or 7 is refused with BAD_CMD. -/
  | commitBadCmd (i : Initiator) (pg : Nat) (group : Nat) (cmd : Nat)
  /-- R41: The consistency check ends: the commit takes effect, arms, prepares or is refused. -/
  | commitCheckDone (pg : Nat) (ue : Bool)
  /-- R42: Device time reaches an armed commit's launch time and all shadows become live in that tick. -/
  | commitLaunch (pg : Nat)
  /-- R44: SYS.GRP_CMD cmd 1 checks and commits a group at once. -/
  | grpCommitNow (i : Initiator) (g : Nat)
  /-- R44: SYS.GRP_CMD cmd 2 checks and arms a group commit at GRP_T. -/
  | grpCommitTimed (i : Initiator) (g : Nat)
  /-- R44: SYS.GRP_CMD cmd 3 checks and prepares a cascade-wide group commit. -/
  | grpCommitCascade (i : Initiator) (g : Nat)
  /-- R44: SYS.GRP_CMD cmd 4 aborts a group commit. -/
  | grpCommitAbort (i : Initiator) (g : Nat)
  /-- R44: SYS.GRP_CMD cmd 5 reverts the shadows of every member page. -/
  | grpCommitRevert (i : Initiator) (g : Nat)
  /-- R48: PG_FENCE kind 1 issues a Config fence and assigns a token. -/
  | fenceConfig (i : Initiator) (pg : Nat)
  /-- R48: PG_FENCE kind 2 issues a Table fence. -/
  | fenceTable (i : Initiator) (pg : Nat)
  /-- R320: PG_FENCE kind 3 issues a Bridge fence on HBR. -/
  | fenceBridge (i : Initiator) (pg : Nat)
  /-- R149: PG_FENCE kind 4 issues a Time fence. -/
  | fenceTime (i : Initiator) (pg : Nat)
  /-- R48: PG_FENCE kind 5 issues a Queue fence on the named queue. -/
  | fenceQueue (i : Initiator) (pg : Nat) (q : Nat)
  /-- R46: A 17th fence or an unsupported kind is refused and ERR is set. -/
  | fenceRefused (i : Initiator) (pg : Nat) (v : Word)
  /-- R47: A fence's condition holds and it completes in token order, setting FENCE_DONE. -/
  | fenceComplete (pg : Nat)
  /-- R47: A fence reaches SYS.FENCE_TMO and completes with error. -/
  | fenceTimeout (pg : Nat)
  /-- R50: A write of PG_IRQ_EN that sends a message for every enabled bit whose status is 1. -/
  | irqEnWrite (i : Initiator) (pg : Nat) (v : Word)
  /-- R50: A write of PG_IRQ_SET sets status bits for test and sends messages on rises. -/
  | irqSetWrite (i : Initiator) (pg : Nat) (v : Word) (mism : Option MsgDest)
  /-- R52: A W1C write of PG_IRQ_STAT clears bits; clearing ERR re-arms the first-error capture. -/
  | irqStatClear (i : Initiator) (pg : Nat) (v : Word)
  /-- R53: A write of PG_LOCK locks, unlocks or counts a wrong key toward the permanent lock. -/
  | pgLockWrite (i : Initiator) (pg : Nat) (v : Word)
  /-- R18: The start of frame passes the ingress timestamp point and the ingress time is captured. -/
  | frameStart (p : Nat) (eighth : Nat)
  /-- R68: A coin of arriving data is written to the Till or Reserve and charged to the domain Account. -/
  | frameDataCoin (p : Nat) (data : List Byte)
  /-- R19: The first 128 bytes are received (tH) and the lookup is issued. -/
  | frameHeadReceived (p : Nat)
  /-- R20: The snapshot returns at tH + 120 ns with the frame's only forwarding decision. -/
  | lookupResult (p : Nat) (pipe : Bool) (ue : Option TblAt)
  /-- R18: The last byte and frame check are received (tE) and the slip is completed. -/
  | frameEnd (p : Nat) (fcsGood : Bool) (pcsErr : Bool) (frags : Nat) (asmErr : Nat) (smdErr : Nat)
  /-- R106: The traffic manager applies the step 6 checks and the Allowance to the frame. -/
  | policingDecision (p : Nat) (ue : Nat)
  /-- R223: Ingress verification of a SecTAG ICV or CMAC trailer completes and passes or discards the frame. -/
  | ingressCheckValueResult (p : Nat) (ue : Option CvPart)
  /-- R18: The slip enters the VOQ of each output of the decision, or by cut-through before tE. -/
  | voqEnqueue (p : Nat) (mism : Option Nat)
  /-- R69: A CAN or LIN controller hands a complete frame to the Vault, charged whole or discarded by the Account. -/
  | busFrameHandoff (p : Nat)
  /-- R70: A back-pressure change reaches the input's port within 40 ns and takes effect there. -/
  | backpressureReachPort (p : Nat)
  /-- R63: A spill copy completes, the slip is switched and the Till coins are freed. -/
  | spillCopyDone (voq : Nat) (ue : Bool)
  /-- R65: The first two coins of a Reserve head frame reach the staging buffer and the VOQ is offered to the scheduler. -/
  | reservePrefetchDone (voq : Nat)
  /-- R117: The scheduler picks a VOQ for an output and the frame is read out. -/
  | egressPick (out : Nat) (err : Option VaultErr) (bp : Option BpDesc) (own : Nat)
  /-- R139: A frame's first byte crosses the egress timestamp point and an item is queued if required. -/
  | egressTimestamp (out : Nat) (eighth : Nat) (mism : Bool)
  /-- R75: A copy finishes transmission and releases its reference, freeing coins at the last. -/
  | transmitEnd (out : Nat)
  /-- R76: The 100 µs sweep discards expired multicast copies at VOQ heads. -/
  | mcHoldSweep
  /-- R77: The periodic Auditor count check compares free and held coins per tier, may start a walk. -/
  | auditorCountCheck
  /-- R78: AUD_CTRL.walk starts a walk, flipping the walk generation. -/
  | auditorWalkStart (i : Initiator)
  /-- R78: A phase of an Auditor walk ends and the next begins. -/
  | auditorWalkPhaseDone
  /-- R79: A walk ends, reclaiming and correcting if enabled, and raises WALK_DONE, LEAK or DUP. -/
  | walkDone
  /-- R84: A read of AUD_LEAKQ_LO removes the head item or returns the idle item. -/
  | audLeakqRead (i : Initiator) (mism : Bool)
  /-- R86: A write of QUE.VOQ_SEL latches that VOQ's counts from one instant. -/
  | voqSelWrite (i : Initiator) (v : Word)
  /-- R98: A learn event is served at in_ns + 16 µs: insert, move, pin or no effect. -/
  | learnEventService (mism : Bool)
  /-- R98: A pin's FLAP_HOLD elapses and the entry is unpinned with moves cleared. -/
  | pinHoldExpiry (slot : Nat)
  /-- R99: SWEEP_PER elapses and a Sweeper pass starts, or is omitted while one runs. -/
  | sweepPassStart
  /-- R99: SWEEP_CTRL.now starts a pass at once, or is omitted while one runs. -/
  | sweepNow (i : Initiator)
  /-- R99: The Sweeper treats one MAC slot, clearing hit, setting strike or removing the entry. -/
  | sweepSlotVisit (hitNow : Bool)
  /-- R99: A Sweeper pass completes, counting passes and raising SWEEP_DONE. -/
  | sweepPassDone
  /-- R99: The 2 s window pass clears moves in entries whose window has ended. -/
  | windowPass
  /-- R93: A table DMA INSERT descriptor inserts an entry by key with relocation or stash. -/
  | tblInsert (ring : Nat) (d : TblDesc)
  /-- R101: A table DMA UPDATE descriptor rewrites an entry by key. -/
  | tblUpdate (ring : Nat) (d : TblDesc)
  /-- R101: A table DMA DELETE descriptor removes an entry by key, moving a stash entry in. -/
  | tblDelete (ring : Nat) (d : TblDesc)
  /-- R101: A table DMA LOOKUP descriptor reads an entry by key. -/
  | tblLookup (ring : Nat) (d : TblDesc)
  /-- R101: A table DMA READ_IDX descriptor reads a slot by index. -/
  | tblReadIdx (ring : Nat) (d : TblDesc)
  /-- R101: A table DMA WRITE_IDX descriptor writes a VLAN, list or ternary entry by index. -/
  | tblWriteIdx (ring : Nat) (d : TblDesc)
  /-- R102: A table DMA READ_LOCK descriptor reads an entry and locks it. -/
  | tblReadLock (ring : Nat) (d : TblDesc)
  /-- R102: A table DMA WRITE_UNLOCK descriptor writes a locked entry and clears its lock. -/
  | tblWriteUnlock (ring : Nat) (d : TblDesc)
  /-- R102: A table DMA UNLOCK descriptor clears a lock without writing. -/
  | tblUnlock (ring : Nat) (d : TblDesc)
  /-- R101: A table DMA FLUSH descriptor starts removing matching learned MAC entries. -/
  | tblFlush (ring : Nat) (d : TblDesc)
  /-- R101: A FLUSH completes and its descriptor is written back. -/
  | tblFlushDone (ring : Nat)
  /-- R101: A table DMA EPOCH descriptor writes back the current epoch. -/
  | tblEpoch (ring : Nat) (d : TblDesc)
  /-- R101: RING_CTRL.resume restarts a halted table DMA ring at HEAD. -/
  | tblRingResume (i : Initiator) (ring : Nat)
  /-- R102: A table entry lock lasts LOCK_TMO and clears, counting LOCK_EXP. -/
  | lockExpiry (table : Nat) (slot : Nat)
  /-- R89: TRACE_CTRL.arm captures the next snapshot of the traced port. -/
  | traceArm (i : Initiator) (v : Word)
  /-- R114: No frame passes for reset_ms and the recovery function resets, raising RCVY_RESET. -/
  | recoveryResetTimeout (fn : Nat)
  /-- R116: Each latent_ms period compares discards with passes and may count a latent error. -/
  | latentErrorTest (fn : Nat)
  /-- R145: The internal slot with action 0x02 starts or swaps a port's gate list at S. -/
  | gateListStart (p : EthPort) (ue : Bool)
  /-- R145: The internal slot with action 0x03 starts or swaps a stream gate's list at S. -/
  | streamGateListStart (g : Nat)
  /-- R119: A port's gate entry interval ends and the next entry's gate states and operation apply. -/
  | gateEntryEnd (p : EthPort) (ue : Bool)
  /-- R111: A stream gate entry interval ends and the next entry applies. -/
  | streamGateEntryEnd (g : Nat)
  /-- R119: A gate list's cycle time ends and the list restarts at entry 0. -/
  | gateListCycleEnd (p : EthPort) (ue : Bool)
  /-- R126: STR_CMD cmd 1 reads a stream record, live or staged, to STR_DATA. -/
  | streamRead (i : Initiator) (staged : Bool)
  /-- R126: STR_CMD cmd 2 stages STR_DATA as the stream record. -/
  | streamStage (i : Initiator)
  /-- R126: STR_CMD cmd 3 copies stream counters to STR_CNT and clears them. -/
  | streamCountersCopy (i : Initiator)
  /-- R126: SG_CMD cmd 1 reads a stream gate parameter record or entry. -/
  | streamGateRead (i : Initiator) (staged : Bool)
  /-- R122: SG_CMD cmd 2 writes an entry of a free bank or stages the parameter record. -/
  | streamGateWrite (i : Initiator)
  /-- R126: FR_CMD cmd 1 reads a recovery record and latches its live state. -/
  | recoveryRead (i : Initiator) (staged : Bool)
  /-- R126: FR_CMD cmd 2 stages a recovery record. -/
  | recoveryStage (i : Initiator)
  /-- R126: FR_CMD cmd 3 copies recovery counters and clears them. -/
  | recoveryCountersCopy (i : Initiator)
  /-- R127: GCL_CMD cmd 1 reads a gate-control entry. -/
  | gclRead (i : Initiator)
  /-- R122: GCL_CMD cmd 2 writes a gate-control entry of a free bank, or is refused. -/
  | gclWrite (i : Initiator)
  /-- R126: A window command completes and busy clears. -/
  | windowCommandDone (w : Window)
  /-- R127: A write of CBS_SEL latches the credit of a port and class into CBS_CRED. -/
  | cbsSelWrite (i : Initiator) (v : Word)
  /-- R124: IEEE 802.3br verification succeeds or fails and preemption becomes active or not. -/
  | preemptVerifyDone (p : EthPort) (ok : Bool)
  /-- R132: MEAS_CTL.submit latches a servo sample, or it is refused. -/
  | sampleSubmit (i : Initiator) (v : Word)
  /-- R132: The servo applies a latched sample: stale, outlier, step or rate update. -/
  | sampleApply
  /-- R133: No accepted sample for HOLD_TMO and the servo enters HOLDOVER. -/
  | holdoverTimeout
  /-- R135: ADJ_CMD cmd 1 steps device time by ADJ. -/
  | adjStep (i : Initiator)
  /-- R135: ADJ_CMD cmd 2 sets device time to ADJ as a step. -/
  | adjSet (i : Initiator)
  /-- R135: ADJ_CMD cmd 3 loads rate_q and INTEG. -/
  | adjRate (i : Initiator)
  /-- R144: A control word write with armed 1 arms a launch slot, late or refused as stated. -/
  | slotArm (i : Initiator) (sl : Slot) (ctl : Word)
  /-- R144: A write of armed 0 before the launch tick cancels the slot. -/
  | slotDisarm (i : Initiator) (sl : Slot) (ctl : Word)
  /-- R147: A TIM slot with action 0x10 drives its GPIO high. -/
  | gpioHigh (k : TimSlot)
  /-- R147: A TIM slot with action 0x11 drives its GPIO low. -/
  | gpioLow (k : TimSlot)
  /-- R147: A TIM slot with action 0x12 toggles its GPIO. -/
  | gpioToggle (k : TimSlot)
  /-- R147: A TIM slot with action 0x13 starts a GPIO pulse. -/
  | gpioPulse (k : TimSlot)
  /-- R146: The pulse width elapses and the pulse ends. -/
  | gpioPulseEnd (g : Gpio)
  /-- R143: A TIM slot with action 0x14 raises the SLOT event. -/
  | slotMessage (k : TimSlot)
  /-- R144: A slot's launch time passes in Halt and it completes without its action. -/
  | slotLaunchInHalt (sl : Slot)
  /-- R148: An edge on a capture input latches device time or counts CAP_OVR. -/
  | gpioCaptureEdge (g : Gpio) (rising : Bool)
  /-- R141: A read of TSQ_LO removes the head timestamp item or returns the idle item. -/
  | tsqRead (i : Initiator) (p : EthPort) (mism : Bool)
  /-- R141: A write of TSQ_CAP_SEL copies that port's lost capture into the window. -/
  | tsqCapSelWrite (i : Initiator) (v : Word)
  /-- R141: Writing 1 to TSQ_CAP_ID.valid clears and re-arms the selected port's lost capture. -/
  | tsqCapClear (i : Initiator)
  /-- R153: A PHY whose pages report ready starts training with its committed role and speed. -/
  | phyTrainingStart (p : EthPort)
  /-- R153: A training attempt exceeds its time and restarts, counting LINK_FAIL. -/
  | trainingTimeout (p : EthPort)
  /-- R154: link_status rises and a draining port stops draining. -/
  | ethLinkUp (p : EthPort) (ms : Nat)
  /-- R154: link_status falls, cutting the frame in reception and starting the hold. -/
  | ethLinkDown (p : EthPort)
  /-- R154: A PHY PLL loses lock and takes its own link down, raising PLL_LOSS. -/
  | phyPllLoss (p : EthPort)
  /-- R155: hold_ms passes with the link down and the port drains its VOQs. -/
  | linkHoldExpiry (p : EthPort)
  /-- R156: The port has had nothing to send for LPI_IDLE and the transmitter enters low-power idle. -/
  | lpiIdleTimeout (p : EthPort)
  /-- R156: The wake time Tw ends and the eligible frame starts. -/
  | lpiWakeDone (p : EthPort)
  /-- R157: PHY.DIAG_CMD.run starts a cable test, dropping the link. -/
  | diagRun (i : Initiator) (p : EthPort)
  /-- R157: PHY.DIAG_CMD.abort ends the test with result 7. -/
  | diagAbort (i : Initiator) (p : EthPort)
  /-- R157: The cable test ends with its result and the PHY retrains. -/
  | diagDone (p : EthPort) (result : Nat) (dist : Nat)
  /-- R157: The 1 ms SQI update may raise SQI_LOW. -/
  | sqiUpdate (p : EthPort) (sqi : Nat) (lpiRx : Bool) (corr : Nat) (unc : Nat) (pcs : Nat)
  /-- R163: A good PAUSE frame pauses every class or releases them. -/
  | pauseReceived (p : EthPort) (quanta : Nat)
  /-- R163: A good PFC frame pauses or releases the classes of its named priorities. -/
  | pfcReceived (p : EthPort) (vector : Nat) (times : List Nat)
  /-- R161: A MAC control frame with another opcode is consumed and counted, raising MC_UNK. -/
  | macctlUnknownReceived (p : EthPort)
  /-- R163: A received pause time runs out and the class is released. -/
  | pauseTimerExpiry (p : EthPort) (c : Class)
  /-- R162: Half the pause time passes while asserted and the flow-control frame is sent again. -/
  | flowControlRefresh (p : EthPort)
  /-- R164: A class stays paused beyond PWD_CFG.ms and the pause watchdog trips and acts. -/
  | pwdTrip (p : EthPort) (c : Class)
  /-- R164: PWD_IGN elapses and received pause for the class is obeyed again. -/
  | pwdBreakEnd (p : EthPort) (c : Class)
  /-- R168: LDG_CTL.snap loads the Ledger snapshot bank. -/
  | ldgSnap (i : Initiator) (p : EthPort)
  /-- R167: LDG_CTL.clear clears the Ledger counters and snapshot. -/
  | ldgClear (i : Initiator) (p : EthPort)
  /-- R177: A received CAN frame becomes valid and is checked, filtered, routed and stored. -/
  | canFrameValid (ch : CanCh) (r : BusRecord) (ago : Nat) (ue : Option Nat)
  /-- R177: A frame on the bus ends in an error and is counted in ERR_FRAMES. -/
  | canErrorFrame (ch : CanCh) (lec : Nat) (eights : Nat)
  /-- R180: OBJ_CMD 1 locks the object named in OBJ_SEL. -/
  | objLock (i : Initiator) (ch : CanCh) (ue : Bool)
  /-- R180: OBJ_CMD 2 releases the lock, making the shadow current. -/
  | objRelease (i : Initiator) (ch : CanCh)
  /-- R179: A write of RXF_POP removes the head item of a CAN FIFO. -/
  | rxfPop (i : Initiator) (ch : CanCh) (v : Word) (ue : Bool) (mism : Bool)
  /-- R176: An access to MR_DATA reads or writes a message RAM word and advances MR_ADDR. -/
  | mrDataAccess (i : Initiator) (ch : CanCh) (write : Option Word) (ue : Bool)
  /-- R174: At the next bus idle a committed CFG, timing or TRX mode change takes effect. -/
  | canBusIdleApply (ch : CanCh) (idle : Bool)
  /-- R174: The channel has integrated over 11 recessive bits and takes part in bus traffic. -/
  | canIntegrationDone (ch : CanCh)
  /-- R181: A CAN frame's EOF ends and its reference is released. -/
  | canTxDone (ch : CanCh)
  /-- R182: The channel loses arbitration and will retransmit. -/
  | canArbLost (ch : CanCh)
  /-- R182: An error in the channel's own transmission leads to retransmission or abandon at the retry limit. -/
  | canTxError (ch : CanCh) (lec : Nat) (clash : Bool) (exempt : Bool) (eights : Nat)
  /-- R184: With boff_auto, wait_ms after bus-off entry recovery starts. -/
  | boffWaitExpiry (ch : CanCh)
  /-- R184: CTL.restart starts bus-off recovery. -/
  | boffRestart (i : Initiator) (ch : CanCh)
  /-- R184: 128 occurrences of 11 recessive bits end recovery and raise RECOVERED. -/
  | boffRecovered (ch : CanCh)
  /-- R184: Bus-off lasts hold_ms and the channel drains its frames. -/
  | boffHoldExpiry (ch : CanCh)
  /-- R183: A CAN timed-object slot with action 0x04 puts its object into arbitration. -/
  | timedDispatch (ch : CanCh) (k : TimSlot)
  /-- R188: A LIN header is received and answered from a publish buffer, subscribed to or ignored. -/
  | linHeaderReceived (ch : LinCh) (brk : Nat) (baud : Nat) (pid : Nat)
  /-- R188: A LIN response is received and handed to the Vault or counted as a checksum error. -/
  | linResponseReceived (ch : LinCh) (data : List Byte) (cksOk : Bool) (framingOk : Bool) (ago : Nat)
  /-- R188: No response arrives within the response time and NO_RESP is counted. -/
  | linNoResponse (ch : LinCh)
  /-- R189: A LIN schedule slot launch (0x05) sends its header or stays silent. -/
  | linScheduleSlot (ch : LinCh) (bitErr : Bool)
  /-- R190: A write of LIN RXF_POP removes the head item. -/
  | linRxfPop (i : Initiator) (ch : LinCh) (mism : Bool)
  /-- R189: SCH_CMD cmd 1 reads a schedule entry. -/
  | linSchRead (i : Initiator) (ch : LinCh)
  /-- R189: SCH_CMD cmd 2 writes a schedule entry of a free bank, or is refused. -/
  | linSchWrite (i : Initiator) (ch : LinCh)
  /-- R194: Kalow picks a frame copy from its VOQs and consumes it by its input route. -/
  | kalowPick (ue : KlwUe) (err : Option VaultErr)
  /-- R198: An unpack commits its placements in one tick and fires trigger lists of changed signals. -/
  | kalowUnpackCommit (ue : Option Nat)
  /-- R202: A chg or rx trigger takes its snapshot 25 ns later and packs, or schedules a pending pack. -/
  | kalowTriggeredPack (r : Nat) (ue : KlwUe)
  /-- R202: A Kalow slot launch (0x06) packs a PDU with S equal to the launch time. -/
  | kalowPeriodicPack (r : Nat) (ue : KlwUe)
  /-- R202: A pending pack's minimum interval ends and it runs. -/
  | kalowPendingPack (r : Nat) (ue : KlwUe)
  /-- R203: Back-pressure on the class is released and the deferred pack runs. -/
  | kalowDeferredPack (r : Nat) (ue : KlwUe)
  /-- R199: A packed PDU is handed to the Vault on port 96, releasing held store writes. -/
  | kalowPackHandoff
  /-- R200: The 1 ms timeout checker sets timed-out signals to TIMEOUT. -/
  | kalowTimeoutCheck
  /-- R209: agg_us passes since an open tunnel frame's first message and it is sent. -/
  | kalowAggTimeout (r : Nat)
  /-- R213: S_CMD 1 latches one signal's value, status and age from a snapshot. -/
  | storeRead (i : Initiator) (ue : Bool)
  /-- R213: S_CMD 2 forces a signal's value as a commit. -/
  | storeForce (i : Initiator)
  /-- R213: DUMP_CTL.go starts a store dump. -/
  | dumpGo (i : Initiator)
  /-- R213: DUMP_PER elapses and the dump repeats, or the period is omitted. -/
  | dumpPeriod
  /-- R213: A dump's data is visible and DUMP_DONE is raised. -/
  | dumpDone (ue : Option Nat)
  /-- R213: DUMP_CTL.resume continues a halted dump channel. -/
  | dumpResume (i : Initiator)
  /-- R215: D_CMD 1 reads a Kalow descriptor record. -/
  | klwDescRead (i : Initiator) (staged : Bool)
  /-- R215: D_CMD 2 stages a Kalow descriptor record. -/
  | klwDescStage (i : Initiator)
  /-- R215: L_CMD 1 reads a Kalow launch slot. -/
  | klwSlotRead (i : Initiator)
  /-- R215: L_CMD 2 writes a Kalow launch slot. -/
  | klwSlotWrite (i : Initiator)
  /-- R217: The 1 ms known-answer test of each engine; a failure isolates the engine. -/
  | knownAnswerTest (failed : Word)
  /-- R217: Writing a bit of ENG_FAIL returns an automatically isolated engine. -/
  | engFailClear (i : Initiator) (v : Word)
  /-- R220: CTX_CMD 1 reads a context record. -/
  | ctxRead (i : Initiator) (staged : Bool)
  /-- R220: CTX_CMD 2 stages a context record. -/
  | ctxStage (i : Initiator)
  /-- R234: CTX_CMD 3 copies context counters and clears them. -/
  | ctxCountersCopy (i : Initiator)
  /-- R234: CTX_CMD 4 latches a context's live slot state. -/
  | ctxLatchState (i : Initiator)
  /-- R231: CTX_CMD 5 changes over one context at once. -/
  | changeoverNow (i : Initiator)
  /-- R231: An AUT slot launch (0x07) changes over every context of its group. -/
  | keyChangeover (grp : Nat)
  /-- R231: overlap_ms passes and a format 3 old key is zeroised. -/
  | oldKeyOverlapEnd (ctx : Nat)
  /-- R231: The computations begun before a changeover end and the old slot is zeroised. -/
  | oldSlotZeroise (ctx : Nat)
  /-- R234: CHG_CMD 1 reads a changeover slot. -/
  | chgSlotRead (i : Initiator)
  /-- R234: CHG_CMD 2 writes a changeover slot. -/
  | chgSlotWrite (i : Initiator)
  /-- R241: Key op 0x1 imports a plain key into a record while provisioning is open. -/
  | importPlain (i : Initiator)
  /-- R241: Key op 0x2 imports a wrapped blob into a record. -/
  | importWrapped (i : Initiator)
  /-- R241: Key op 0x3 loads a key into an empty AUT slot. -/
  | load (i : Initiator)
  /-- R240: Key op 0x4 derives a key by the KDF. -/
  | derive (i : Initiator)
  /-- R241: Key op 0x5 unwraps a blob into a place. -/
  | unwrap (i : Initiator)
  /-- R240: Key op 0x6 wraps a key into RES. -/
  | wrap (i : Initiator)
  /-- R240: Key op 0x7 computes a CMAC over data into RES. -/
  | cmac (i : Initiator) (data : List Byte)
  /-- R243: Key op 0x8 generates a key from the DRBG. -/
  | generate (i : Initiator)
  /-- R243: Key op 0x9 returns 16 random bytes. -/
  | random (i : Initiator)
  /-- R240: Key op 0xA zeroises a record or holding register. -/
  | zero (i : Initiator)
  /-- R245: Key op 0xB checks an owner token to open provisioning or clear tamper latches. -/
  | token (i : Initiator)
  /-- R240: An undefined key op code is refused with BAD_ARG. -/
  | keyBadOp (i : Initiator) (op : Nat)
  /-- R244: A key operation ends, writing status and raising CMD_DONE. -/
  | keyOpDone (ue : Option KeyUe)
  /-- R245: KEY.PROV.close closes provisioning permanently, or is ignored without an owner anchor. -/
  | provClose (i : Initiator)
  /-- R243: A DRBG reseed runs after 2^20 requests or every 100 ms after a health failure. -/
  | drbgReseed (healthy : Bool)
  /-- R239: Masked cell masks are renewed every 1 µs. -/
  | maskRenew
  /-- R246: An enabled tamper sensor fires and sets its latch, starting the alarm if all were clear. -/
  | tamperSensorFire (sensor : Sensor)
  /-- R247: The background rewrite of selectors to empty after an erase completes. -/
  | tamperEraseDone
  /-- R247: A write of 1 to TMP.EN bits enables sensors until class P. -/
  | tamperEnable (i : Initiator) (v : Word)
  /-- R249: A write to TMP.LATCH clears bits under Log, or is ignored with ERR otherwise. -/
  | tamperLatchClear (i : Initiator) (v : Word)
  /-- R250: SIG.CTL.go starts a signature verification, or is ignored while busy. -/
  | sigGo (i : Initiator) (data : List Byte)
  /-- R250: A verification ends with its result and DONE or HALT raised. -/
  | sigDone (ue : Option Nat)
  /-- R251: ANCH_CMD 1 writes an empty anchor slot while provisioning is open. -/
  | anchWrite (i : Initiator) (purpose : Nat)
  /-- R251: ANCH_CMD 2 revokes an anchor slot permanently. -/
  | anchRevoke (i : Initiator)
  /-- R258: An enabled wake detector fires: Listen, wake decision, segment wake or BUS_WAKE. -/
  | wakeDetect (src : WakeSrc)
  /-- R260: A Listen decoder receives a frame or header matching a wake frame, a genuine wake. -/
  | listenFrameMatch (chan : Decoder) (r : BusRecord)
  /-- R260: A CAN decoder's error count reaches err_lim, a genuine wake. -/
  | listenErrorLimit (ch : CanCh)
  /-- R260: Ethernet energy persists for 1 ms in Listen, a genuine wake. -/
  | listenEnergyPersist (p : EthPort)
  /-- R260: No genuine wake within tmo_ms and the device returns to Dormant. -/
  | listenTimeout
  /-- R263: CONS_CMD 1 starts a consent round as origin, sending PROPOSE. -/
  | consentRoundStart (i : Initiator) (set : SleepSet) (pins : Nat)
  /-- R265: CONS_CMD 2 vetoes the open round. -/
  | consentVetoCmd (i : Initiator)
  /-- R263: Local consent has held for CONS_IDLE and an automatic round starts. -/
  | autoRoundStart (pins : Nat)
  /-- R263: A PROPOSE token is forwarded with count, vetoed, or completes at the origin. -/
  | proposeReceived (t : Token) (pins : Nat)
  /-- R264: A COMMIT token arms the sleep-commit slot at T and is forwarded. -/
  | commitTokenReceived (t : Token)
  /-- R265: A VETO disarms T and is forwarded, or acts as a wake after T. -/
  | vetoReceived (t : Token)
  /-- R270: A WAKE token wakes the device's segments of the set. -/
  | wakeTokenReceived (t : Token)
  /-- R264: COMMIT has not returned by T − guard_us and the origin sends a VETO. -/
  | commitGuardExpiry
  /-- R264: A device in Settle receives neither COMMIT nor VETO within CONS_TMO and vetoes. -/
  | consTimeout
  /-- R265: A device loses consent to the open set before T and sends a VETO. -/
  | localConsentLost (pins : Nat)
  /-- R267: The sleep-commit slot of set 0 executes at T and the device goes to Dormant. -/
  | sleepCommitDevice
  /-- R268: The sleep-commit slot of a set executes and its segments sleep; Partial. -/
  | sleepCommitSet
  /-- R270: A write of SEG_CMD wakes the named segments. -/
  | segmentWakeCmd (i : Initiator) (v : Word)
  /-- R270: A WAK slot with action 0x09 wakes the segments of its mask. -/
  | segmentWakeLaunch (k : WakSlot)
  /-- R257: off_ms passes after a sleep and the SUPEN output goes off. -/
  | supenOffDelay (n : SupenIdx)
  /-- R275: The comparator finds two copies' outputs differ, starting a fault handover or class B reset. -/
  | braceMismatch (br : Brace) (group : Nat)
  /-- R287: A brace watchdog expires, causing handover, class B or class D reset. -/
  | braceWatchdogExpiry (br : Brace)
  /-- R287: A write of WDG_KICK kicks the watchdog or counts as an expiry. -/
  | wdgKick (br : Brace) (v : Word)
  /-- R282: A keyed HO_CMD write requests a planned handover to this brace, or is refused. -/
  | handoverCmd (i : Initiator) (br : Brace) (v : Word)
  /-- R290: PG_CTRL.reset on a BRC page requests a class B reset, refused for a lone active brace. -/
  | classBResetRequest (i : Initiator) (br : Brace)
  /-- R293: A brace's TCM and caches have been refilled after its class B reset. -/
  | classBFillDone (br : Brace)
  /-- R281: The TCM copy of resynchronisation ends and the brace starts at SB_VEC. -/
  | resyncCopyDone (br : Brace)
  /-- R281: Firmware writes ROLE.sb_ok and the brace reports STANDBY. -/
  | sbOk (br : Brace)
  /-- R278: STEST_CMD.run self-tests the standby brace. -/
  | stestRun (i : Initiator) (br : Brace)
  /-- R285: period_ms elapses and a brace sweep starts, or the period is omitted. -/
  | braceSweep
  /-- R285: SWP_CMD.now starts a sweep of both braces at once. -/
  | braceSweepNow (i : Initiator)
  /-- R286: A sweep ends; differences are latent mismatches acted on by SWP_CFG.action. -/
  | braceSweepDone (diffs : List SweepDiff)
  /-- R289: The BRACE port fetches a transmit descriptor and enters its frame into the Vault. -/
  | bpTxFetch (c : Class) (d : BpDesc) (data : List Byte)
  /-- R295: The scrubber takes a word from the repair queue, writes, tests and remaps it. -/
  | repair (hard : Bool) (mism : Bool)
  /-- R296: SCB.CTL.go starts a scrub pass, or is refused. -/
  | scrubGo (i : Initiator)
  /-- R296: SCB.CTL.abort ends a pass at the next unit. -/
  | scrubAbort (i : Initiator)
  /-- R296: PER elapses and the pass repeats, or is omitted. -/
  | scrubPeriod
  /-- R297: A pass reads one unit, correcting, remapping or queueing its repair. -/
  | scrubUnitRead (f : ScrubFind)
  /-- R297: A pass ends, summary registers hold its values and DONE is raised. -/
  | scrubPassDone
  /-- R299: A Reserve row copy to a spare row completes and the row switches. -/
  | reserveRowRemapDone (chan : Nat) (coins : List Nat)
  /-- R305: Each second a region's correctable errors are compared with CE_THR. -/
  | ceThresholdCheck
  /-- R304: ECC.INJ.arm arms one error injection, or is refused. -/
  | injectArm (i : Initiator) (v : Word)
  /-- R300: ECC.REC_CLR clears the remap record at the next class D reset. -/
  | remapRecordClear (i : Initiator)
  /-- R310: PE_RSTN falls, taking the link down and holding HBR in reset. -/
  | peRstnLow
  /-- R310: PE_RSTN rises, a wake source, and the link trains once HBR is ready. -/
  | peRstnRise
  /-- R310: A Function Level Reset or hot reset acts as a unit reset of HBR. -/
  | functionLevelReset
  /-- R310: The PCI Express link reaches L0; held messages are sent and rings resume. -/
  | pcieLinkUp (gen : Nat) (width : Nat)
  /-- R325: The link leaves L0 and the receive VOQs toward port 57 are held. -/
  | pcieLinkDown
  /-- R310: PE_WAKEN is released 1 s after the wake decision. -/
  | peWakenRelease
  /-- R312: An inbound host write is carried posted or acknowledged to its target. -/
  | hostWrite (bar : Bar) (off : Nat) (v : Word) (narrow : Bool) (poisoned : Bool)
  /-- R314: A retry-class host read hits the Retriever or starts a fetch. -/
  | hostRetryRead (bar : Bar) (off : Nat)
  /-- R315: A split-class host read completes in order within 20 µs. -/
  | hostSplitRead (bar : Bar) (off : Nat)
  /-- R314: wait_ns passes without data and the read completes with the retry word. -/
  | retrieverWaitExpiry (e : Nat)
  /-- R314: A Retriever fetch returns its data into the entry. -/
  | retrieverFetchDone (e : Nat)
  /-- R314: Data not collected within hold_us is discarded and RTV_EXP raised. -/
  | retrieverHoldExpiry (e : Nat)
  /-- R316: A read-buffer line ages out or is evicted, counting a discarded prefetch. -/
  | prefetchLineDiscard (line : Nat)
  /-- R315: A completion arrives for an outbound read, delivering or failing it. -/
  | outboundReadCompletion (tag : Nat) (status : CplStatus) (data : Word)
  /-- R315: An outbound read reaches CPL_TMO and fails. -/
  | outboundReadTimeout (tag : Nat)
  /-- R319: A read of PWE_LO removes the head log item. -/
  | pweRead (i : Initiator)
  /-- R318: A read of SEM takes a free semaphore or reports its holder. -/
  | semRead (i : Initiator) (n : Sem)
  /-- R318: A write with release 1 from the holder frees the semaphore. -/
  | semRelease (i : Initiator) (n : Sem)
  /-- R318: A semaphore held longer than SEM_TMO is freed and SEM_EXP raised. -/
  | semTimeout (n : Sem)
  /-- R317: A vector or function is unmasked, or MSI-X enabled, and pending messages are sent. -/
  | msixUnmask (what : Unmask)
  /-- R321: A transmit ring fetches a descriptor and reads its frame into the Vault. -/
  | hostTxDescFetch (c : Class) (d : HostDesc) (data : List Byte)
  /-- R321: A transmit frame is in the Vault and its descriptor is written back. -/
  | hostTxFrameDone (c : Class)
  /-- R322: A received frame is written to host memory and its descriptor written back. -/
  | hostRxWriteDone (c : Class) (d : HostDesc) (status : CplStatus)
  /-- R324: CTL.resume restarts a halted host ring. -/
  | hostRingResume (i : Initiator) (tx : Bool) (c : Class)
  /-- R325: hold_ms passes with the host unreachable and the receive VOQs drain. -/
  | hostLinkHoldExpiry
  /-- R329: A Voholt link comes up; credits granted and HELLO and TIME resume. -/
  | vhLinkUp (n : VhLink) (grant : List Nat)
  /-- R344: A Voholt link goes down: credits cleared, VOQs drained, path switched. -/
  | vhLinkDown (n : VhLink) (inRx : Bool)
  /-- R334: A received control block returns credits per class. -/
  | vhControlBlock (n : VhLink) (returns : List Nat)
  /-- R332: A cascade frame is received, checked and looked up or discarded. -/
  | vhFrameReceived (n : VhLink) (tag : Word64) (data : List Byte) (chk : Nat) (pairs : CwPairs) (eighth : Nat)
  /-- R335: HOLD_I rises and the link starts no new data frame. -/
  | holdIRise (n : VhLink)
  /-- R335: HOLD_I falls and the link may start data frames. -/
  | holdIFall (n : VhLink)
  /-- R340: hello_us elapses and HELLO is sent on every link that is up. -/
  | helloSend
  /-- R340: A HELLO updates the best master, upstream link and master sequence. -/
  | helloReceived (code : LinkCode) (h : Hello)
  /-- R340: mloss × hello_us passes without advance or a better master and an election follows. -/
  | masterLoss
  /-- R337: An ID_REQ is relayed toward the master or granted by it. -/
  | idReqReceived (code : LinkCode) (uid : Word64) (want : Nat)
  /-- R337: An ID_GRANT sets the device ID or is relayed back. -/
  | idGrantReceived (uid : Word64) (dev : Nat)
  /-- R337: The 1 ms hold of a relayed request's link ends. -/
  | idGrantLinkRelease (uid : Word64)
  /-- R341: sync_us elapses and a member sends TIME_REQ on its upstream link. -/
  | timeSync
  /-- R341: A TIME_REQ is answered with TIME_RSP carrying t2 and t3. -/
  | timeReqReceived (code : LinkCode) (t3 : Int)
  /-- R341: A TIME_RSP yields delay and e, submitting a servo sample. -/
  | timeRspReceived (t1 : Int) (t2 : Int) (t3 : Int) (t4 : Int)
  /-- R343: The master counts a VOTE toward a key's decision, or relays it. -/
  | voteReceived (v : Vote)
  /-- R343: A DECIDE arms or fails the prepared cascade-wide commit. -/
  | decideReceived (d : Decide)
  /-- R343: T − lead_us arrives with votes missing and the master decides ABORT. -/
  | ccDeadline (key : CommitKey)
  /-- R343: Every 10 µs until T − guard_us the master resends DECIDE. -/
  | decideResend
  /-- R343: No decision by T − guard_us and the commit fails with CASCADE_DOWN. -/
  | ccGuardExpiry (key : CommitKey)
  /-- R343: Launch action 0x0A makes a decided cascade-wide commit take effect at T. -/
  | cascadeCommitExecute (key : CommitKey)
  /-- R338: The primary link stays up for REVERT and the path returns to it. -/
  | pathRevert (dev : Nat)
  /-- R338: PATH_CMD cmd 1 reads a path entry. -/
  | pathRead (i : Initiator) (staged : Bool)
  /-- R338: PATH_CMD cmd 2 stages a path entry. -/
  | pathStage (i : Initiator)
  /-- R371: UPD CMD 1 starts copying bytes into the non-running bank. -/
  | bankWrite (i : Initiator) (bank : Bool)
  /-- R371: A bank write completes or halts with MRAM_FAIL. -/
  | bankWriteDone (ok : Bool)
  /-- R372: UPD CMD 2 starts verifying a bank's header, signature and digests. -/
  | bankVerify (i : Initiator) (bank : Bool)
  /-- R372: A verify ends, setting verified or reporting its failure. -/
  | bankVerifyDone (img : BankImage)
  /-- R375: UPD CMD 3 prepares activation, resetting the standby and entering Update. -/
  | prepare (i : Initiator) (motion : Bool) (mv10 : Nat)
  /-- R375: The code block is copied into the standby's TCM and the standby starts at entry. -/
  | prepareCopyDone (code : List Byte)
  /-- R375: sb_ok is not written within SB_TMO and the activation aborts. -/
  | standbyTimeout
  /-- R380: UPD CMD 4 writes the option bank and requests a class D reset. -/
  | updateRestart (i : Initiator) (motion : Bool) (mv10 : Nat)
  /-- R375: UPD CMD 5 aborts a write, verify or activation before its launch tick. -/
  | updateAbort (i : Initiator)
  /-- R374: An activation guard starts to hold and aborts a pending activation. -/
  | guardOnset (g : Guard)
  /-- R376: Arming HO_CTL in state READY arms the handover slot, otherwise refused. -/
  | handoverSlotArm (i : Initiator) (ctl : Word)
  /-- R376: The handover slot (0x0B) launches a planned handover to the new image. -/
  | braceHandoverLaunch
  /-- R377: A keyed CONFIRM write writes the option bank, raises SEC_FLOOR and ends Update. -/
  | confirm (i : Initiator) (v : Word)
  /-- R377: CONF_TMO passes without confirm and a class D reset rolls back. -/
  | confirmTimeout
  /-- R374: OLOCK.set sets the owner lock bit. -/
  | olockSet (i : Initiator)
  /-- R374: OLOCK.unlock lifts the owner lock on a valid owner signature. -/
  | olockUnlock (i : Initiator)
  /-- R374: OLOCK.clear clears the owner lock bit after an unlock. -/
  | olockClear (i : Initiator)
  /-- R379: PART.go starts loading PHY code into a port group one port at a time. -/
  | phyCodeLoad (i : Initiator) (group : Nat) (motion : Bool) (mv10 : Nat)
  /-- R379: A port's link is up again after its code load and the next port starts. -/
  | phyCodePortDone (p : EthPort)
  /-- R379: 1 s passes without link and the load moves to the next port. -/
  | phyCodePortTimeout (p : EthPort)
  /-- R267: A wake detected after the sleep commit time T, held by the always-on domain, powers MAIN again once MAIN has been off for at least 1 ms. -/
  | heldWakeMainOn
  /-- R312: A brace read or write to the host memory window is carried posted or acknowledged, or fails and is logged. -/
  | outboundAccess (br : Brace) (addr : Nat) (write : Option Word)
  /-- R325: A host configuration write that disables or enables bus mastering or moves the function into or out of D3hot holds or resumes port 57 and the rings. -/
  | pcieConfigWrite (bme : Bool) (d3 : Bool) (msixEn : Bool) (fmask : Bool)
  /-- R257: A write of SUPEN_CFG.cmd switches a manual-mode SUPEN output on or off at once. -/
  | supenCmdWrite (i : Initiator) (n : SupenIdx) (on : Bool)
  /-- R147: A write of TIM.GPIO_OWN hands pins to the TIM slots, which makes them outputs driven low, or returns them to capture inputs. -/
  | gpioOwnWrite (i : Initiator) (v : Word)
  /-- R143: An armed launch slot with action 0x00 reaches its launch time and sets fired, then disarms or rearms, with no action. -/
  | slotActionNone (sl : Slot)
  deriving DecidableEq, Repr

end Sys2Proof
end

