-- ==== Sys2Proof/WellFormed.lean ====
section
/-!
DEFINITION. Which commands are well formed: every operand names something that the spec gives the device (a port of
Table 0-4, a page of Table 2-1, an entry of a table or memory) and fits the field that carries it. A command that is not
well formed is no row of the table; `exec` answers it with the fault `illFormed`.
-/

namespace Sys2Proof

/-- A port number that is not reserved (Table 0-4, R4). -/
def isPort (p : Nat) : Bool := decide (p ≤ 61) || (decide (64 ≤ p) && decide (p ≤ 97))

/-- A CAN or LIN port (Table 0-4). -/
def isBusPort (p : Nat) : Bool := decide (64 ≤ p) && decide (p ≤ 95)

/-- A page index of Table 2-1. -/
def isPage (pg : Nat) : Bool :=
  decide (pg ≤ 5) || pg == 8 || (decide (0x10 ≤ pg) && decide (pg < 0x20)) ||
  [0x20, 0x30, 0x38, 0x40, 0x200, 0x210, 0x220, 0x230, 0x280, 0x290, 0x2A0, 0x2A1, 0x2C0, 0x300].contains pg ||
  (decide (0x50 ≤ pg) && decide (pg < 0x60)) || (decide (0x100 ≤ pg) && decide (pg < 0x172)) ||
  (decide (0x180 ≤ pg) && decide (pg < 0x198)) || (decide (0x1A0 ≤ pg) && decide (pg < 0x1A8)) ||
  (decide (0x1C0 ≤ pg) && decide (pg < 0x1D0)) || (decide (0x2E0 ≤ pg) && decide (pg < 0x2E4))

/-- An offset of an aligned word in a page of 4 KiB (R32, R33). -/
def isOffset (off : Nat) : Bool := decide (off < 4096) && off % 4 == 0

/-- A virtual output queue: input, output and class (R59). -/
def isVoq (q : Nat) : Bool := isPort (q / 1024) && isPort (q / 8 % 128)

/-- The slot has a control register that software writes (R143). -/
def Slot.hasWord : Slot → Bool
  | .tim _ => true
  | .can _ _ => true
  | .wak _ => true
  | .kalow r => decide (r < 8192)
  | .aut k => decide (k < 64)
  | .handover => true
  | .gate _ => false
  | .streamGate _ => false
  | .linSch _ => false
  | .sleepCommit => false

/-- The slot exists (Table 9-1 for routes, Table 10-1 `grp` for changeover groups, R111 for stream gates). -/
def Slot.wf : Slot → Bool
  | .streamGate g => decide (g < 128)
  | .kalow r => decide (r < 8192)
  | .aut k => decide (k < 64)
  | _ => true

/-- One of the 1,024 key records (R237). -/
def RecordFail.wf (x : RecordFail) : Bool := decide (x.record < 1024)

/-- Fields of Table 18-3 that fit their bytes, and as many bytes of the block as its length says. -/
def ImageBlock.wf (b : ImageBlock) : Bool :=
  decide (b.kind < 2 ^ 8) && decide (b.target < 2 ^ 8) && decide (b.offset < 2 ^ 32) && decide (b.length < 2 ^ 32) &&
  decide (b.dest < 2 ^ 32) && decide (b.digest.length = 32) && decide (b.data.length = b.length)

/-- Fields of Table 18-2 that fit their bytes, and well-formed blocks. -/
def BankImage.wf (h : BankImage) : Bool :=
  decide (h.magic < 2 ^ 32) && decide (h.format < 2 ^ 16) && decide (h.version < 2 ^ 32) && decide (h.secVer < 2 ^ 32) &&
  decide (h.ctlVer < 2 ^ 16) && decide (h.ctlMin < 2 ^ 16) && decide (h.hwMin < 2 ^ 8) && decide (h.curve < 2 ^ 8) &&
  decide (h.xfer < 2 ^ 8) && decide (h.entry < 2 ^ 32) && decide (h.length < 2 ^ 32) && decide (h.blocks.length < 2 ^ 16) &&
  h.blocks.all ImageBlock.wf

/-- A structure a sweep compares (R286). -/
def SweepDiff.wf (x : SweepDiff) : Bool := decide (1 ≤ x.structure_) && decide (x.structure_ ≤ 4)

/-- A slot, stash entry or index of one of the six tables (Table 4-4, R94, R95). -/
def TblAt.wf (x : TblAt) : Bool :=
  match x.table with
  | 0 => decide (x.index < 262160)
  | 1 => decide (x.index < 65552)
  | 2 => decide (x.index < 32784)
  | 3 => decide (x.index < 4096)
  | 4 => decide (x.index < 4096)
  | 5 => decide (x.index < 2048)
  | _ => false

/-- A frame record whose fields fit Table 8-2. -/
def BusRecord.wf (r : BusRecord) : Bool :=
  decide (r.id < 2 ^ 29) && decide (r.fmt < 4) && decide (r.dlc < 16) && decide (r.sdt < 256) && decide (r.vcid < 256) &&
  decide (r.af < 2 ^ 32) && decide (r.data.length ≤ 2048)

/-- A descriptor whose fields fit Table 4-11. -/
def TblDesc.wf (x : TblDesc) : Bool :=
  decide (x.table < 16) && decide (x.index < 2 ^ 19) && decide (x.key < 2 ^ 512) && decide (x.entry < 2 ^ 384) &&
  decide (x.ue < 3) && decide (x.bad < 2 ^ 19)

/-- A descriptor whose fields fit Table 13-6. -/
def BpDesc.wf (x : BpDesc) : Bool :=
  decide (x.len < 2 ^ 14) && decide (x.buf < 2 ^ 19) && decide (x.port < 128) && decide (x.domain < 16) &&
  decide (x.cls < 8)

/-- A descriptor whose fields fit Table 15-8, its buffer aligned to 8 bytes. -/
def HostDesc.wf (x : HostDesc) : Bool :=
  decide (x.len < 2 ^ 14) && decide (x.port < 128) && decide (x.domain < 16) && decide (x.cls < 8) &&
  decide (x.buf < 2 ^ 64) && x.buf % 8 == 0

/-- The key of a cascade-wide commit: a 64-bit time, and a group or 256 plus a page index (R342). -/
def CommitKey.wf (k : CommitKey) : Bool := decide (k.t < 2 ^ 64) && (decide (k.g < 256) || isPage (k.g - 256))

/-- 64-bit UIDs and 10-bit device IDs (R5, Table 16-2). -/
def Hello.wf (h : Hello) : Bool :=
  decide (h.uid < 2 ^ 64) && decide (h.muid < 2 ^ 64) && decide (h.dev < 1024) && decide (h.mid < 1024)

/-- A vote of Table 16-2. -/
def Vote.wf (v : Vote) : Bool :=
  v.key.wf && decide (v.dev < 1024) && decide (1 ≤ v.vote) && decide (v.vote ≤ 3)

/-- A decision by a device, on a link code (R338). -/
def Decide.wf (x : Decide) : Bool := x.key.wf && decide (x.src < 1024) && decide (x.link < 8)

/-- A token whose fields fit Table 12-3. -/
def Token.wf (t : Token) : Bool :=
  decide (t.type < 16) && decide (t.set_ < 64) && decide (t.origin < 1024) && decide (t.seq < 256) &&
  decide (t.count < 2048) && decide (t.sender < 1024) && decide (t.t < 2 ^ 64)

/-- A signal store entry (Table 9-1). -/
def KlwUe.wf : KlwUe → Bool
  | .store sig => decide (sig < 16384)
  | _ => true

/-- Every operand of the command names something the device has. -/
def Instr.wf : Instr → Bool
  | .brownOut _ vmin => decide (vmin < 8192)
  | .clockWaitTimeout pg => isPage pg
  | .rootRegenAttemptDone _ => true
  | .keyRecordCheckDone fails _ => fails.all RecordFail.wf
  | .imageCheckDone img => img.wf
  | .unitReset _ pg => isPage pg
  | .unitResetEnd pg => isPage pg
  | .pgEnableWrite _ pg _ => isPage pg
  | .isolateRequest _ pg => isPage pg
  | .isolationComplete pg => isPage pg
  | .returnRequest _ pg => isPage pg
  | .returnComplete pg => isPage pg
  | .shadowWrite _ pg off _ => isPage pg && isOffset off
  | .liveRegisterWrite _ pg off _ => isPage pg && isOffset off
  | .registerWrite _ pg off _ => isPage pg && isOffset off
  | .unmappedAccess _ addr _ _ => decide (addr < 2 ^ 26)
  | .counterReadClear _ pg off => isPage pg && isOffset off
  | .captureReadRearm _ pg off => isPage pg && isOffset off
  | .commitNow _ pg group => isPage pg && decide (group < 256)
  | .commitTimed _ pg group => isPage pg && decide (group < 256)
  | .commitCascade _ pg group => isPage pg && decide (group < 256)
  | .commitAbort _ pg group => isPage pg && decide (group < 256)
  | .commitRevert _ pg group => isPage pg && decide (group < 256)
  | .commitBadCmd _ pg group cmd => isPage pg && decide (group < 256) && (cmd == 0 || cmd == 6 || cmd == 7)
  | .commitCheckDone pg _ => isPage pg
  | .commitLaunch pg => isPage pg
  | .grpCommitNow _ g => decide (g < 256)
  | .grpCommitTimed _ g => decide (g < 256)
  | .grpCommitCascade _ g => decide (g < 256)
  | .grpCommitAbort _ g => decide (g < 256)
  | .grpCommitRevert _ g => decide (g < 256)
  | .fenceConfig _ pg => isPage pg
  | .fenceTable _ pg => isPage pg
  | .fenceBridge _ pg => isPage pg
  | .fenceTime _ pg => isPage pg
  | .fenceQueue _ pg q => isPage pg && decide (q < 16)
  | .fenceRefused _ pg _ => isPage pg
  | .fenceComplete pg => isPage pg
  | .fenceTimeout pg => isPage pg
  | .irqEnWrite _ pg _ => isPage pg
  | .irqSetWrite _ pg _ _ => isPage pg
  | .irqStatClear _ pg _ => isPage pg
  | .pgLockWrite _ pg _ => isPage pg
  | .frameStart p eighth => isPort p && decide (eighth < 8)
  | .frameDataCoin p data => isPort p && decide (1 ≤ data.length) && decide (data.length ≤ 64)
  | .frameHeadReceived p => isPort p
  | .lookupResult p _ ue => isPort p && ue.all TblAt.wf
  | .frameEnd p _ _ _ _ _ => isPort p
  | .policingDecision p ue => isPort p && decide (ue < 4)
  | .ingressCheckValueResult p _ => isPort p
  | .voqEnqueue p mism => isPort p && mism.all isVoq
  | .busFrameHandoff p => isBusPort p
  | .backpressureReachPort p => isPort p
  | .spillCopyDone voq _ => isVoq voq
  | .reservePrefetchDone voq => isVoq voq
  | .egressPick out _ bp own => isPort out && bp.all BpDesc.wf && decide (own < 256)
  | .egressTimestamp out eighth _ => isPort out && decide (eighth < 8)
  | .transmitEnd out => isPort out
  | .pinHoldExpiry slot => TblAt.wf ⟨0, slot⟩
  | .tblInsert ring d => decide (ring < 2) && d.wf
  | .tblUpdate ring d => decide (ring < 2) && d.wf
  | .tblDelete ring d => decide (ring < 2) && d.wf
  | .tblLookup ring d => decide (ring < 2) && d.wf
  | .tblReadIdx ring d => decide (ring < 2) && d.wf
  | .tblWriteIdx ring d => decide (ring < 2) && d.wf
  | .tblReadLock ring d => decide (ring < 2) && d.wf
  | .tblWriteUnlock ring d => decide (ring < 2) && d.wf
  | .tblUnlock ring d => decide (ring < 2) && d.wf
  | .tblFlush ring d => decide (ring < 2) && d.wf
  | .tblFlushDone ring => decide (ring < 2)
  | .tblEpoch ring d => decide (ring < 2) && d.wf
  | .tblRingResume _ ring => decide (ring < 2)
  | .lockExpiry table slot => TblAt.wf ⟨table, slot⟩
  | .recoveryResetTimeout fn => decide (fn < 1024)
  | .latentErrorTest fn => decide (fn < 1024)
  | .streamGateListStart g => decide (g < 128)
  | .streamGateEntryEnd g => decide (g < 128)
  | .slotArm _ sl ctl => sl.hasWord && ctl.getLsbD 31
  | .slotDisarm _ sl ctl => sl.hasWord && !ctl.getLsbD 31
  | .slotLaunchInHalt sl => sl.wf
  | .diagDone _ result dist => decide (result < 16) && decide (dist < 4096)
  | .sqiUpdate _ sqi _ _ _ _ => decide (sqi < 8)
  | .pauseReceived _ quanta => decide (quanta < 65536)
  | .pfcReceived _ vector times => decide (vector < 256) && decide (times.length = 8) && times.all (fun t => decide (t < 65536))
  | .canFrameValid _ r _ _ => r.wf
  | .canErrorFrame _ lec _ => decide (lec < 8)
  | .canTxError _ lec _ _ _ => decide (lec < 8)
  | .linHeaderReceived _ _ baud pid => decide (baud < 65536) && decide (pid < 256)
  | .linResponseReceived _ data _ _ _ => decide (data.length ≤ 8)
  | .kalowTriggeredPack r ue => decide (r < 8192) && ue.wf
  | .kalowPeriodicPack r ue => decide (r < 8192) && ue.wf
  | .kalowPendingPack r ue => decide (r < 8192) && ue.wf
  | .kalowDeferredPack r ue => decide (r < 8192) && ue.wf
  | .kalowAggTimeout r => decide (r < 8192)
  | .keyChangeover grp => decide (grp < 64)
  | .oldKeyOverlapEnd ctx => decide (ctx < 4096)
  | .oldSlotZeroise ctx => decide (ctx < 4096)
  | .keyBadOp _ op => (op == 0 || (decide (12 ≤ op) && decide (op < 16)))
  | .anchWrite _ purpose => decide (purpose < 4)
  | .listenFrameMatch _ r => r.wf
  | .consentRoundStart _ _ pins => decide (pins < 256)
  | .autoRoundStart pins => decide (pins < 256)
  | .proposeReceived t pins => t.wf && decide (pins < 256)
  | .commitTokenReceived t => t.wf
  | .vetoReceived t => t.wf
  | .wakeTokenReceived t => t.wf
  | .localConsentLost pins => decide (pins < 256)
  | .braceMismatch _ group => decide (group < 32)
  | .braceSweepDone diffs => diffs.all SweepDiff.wf
  | .bpTxFetch _ d _ => d.wf
  | .reserveRowRemapDone chan _ => decide (chan < 16)
  | .pcieLinkUp gen width => decide (1 ≤ gen) && decide (gen ≤ 4) && [1, 2, 4].contains width
  | .retrieverWaitExpiry e => decide (e < 8)
  | .retrieverFetchDone e => decide (e < 8)
  | .retrieverHoldExpiry e => decide (e < 8)
  | .prefetchLineDiscard line => decide (line < 16)
  | .hostTxDescFetch _ d _ => d.wf
  | .hostRxWriteDone _ d _ => d.wf
  | .vhLinkUp _ grant => decide (grant.length = 8)
  | .vhControlBlock _ returns => decide (returns.length = 8) && returns.all (fun t => decide (t < 65536))
  | .vhFrameReceived _ _ _ chk _ eighth => decide (eighth < 8) && decide (chk < 4294967296)
  | .helloReceived _ h => h.wf
  | .idReqReceived _ _ want => decide (want < 1024)
  | .idGrantReceived _ dev => decide (dev < 1024)
  | .voteReceived v => v.wf
  | .decideReceived d => d.wf
  | .ccDeadline key => key.wf
  | .ccGuardExpiry key => key.wf
  | .cascadeCommitExecute key => key.wf
  | .pathRevert dev => decide (dev < 1024)
  | .bankVerifyDone img => img.wf
  | .handoverSlotArm _ ctl => ctl.getLsbD 31
  | .phyCodeLoad _ group _ _ => decide (group < 256)
  | .outboundAccess _ addr _ => decide (addr < 2 ^ 40)
  | .slotActionNone sl => sl.wf
  | .powerOn | .mainRailsValid | .powerLossJournalWritten | .supplyLossMainOff | .vsupCrankEntry _ | .vsupOvEntry _
  | .vsupUvWarn _ | .resetnAssert | .resetnRelease | .devReset _ _ | .classDReset _ | .classDAssertionEnd
  | .dieTempSample _ | .referenceCheck _ | .rootPllLockLoss | .rootPllRelock _ | .rootPllLossTimeout
  | .clockStable _ | .rootArrayRead | .optionLoad | .optionCopyRepair | .ondieFillDone | .reserveRowFilled _ _
  | .startTableLoadDone _ _ | .braceSelfTestDone _ _ | .bootGood _ _ | .bootGoodTimeout | .bootHalf | .bootClr _ _
  | .outCtlWrite _ _ | .optionWrite _ _ | .optionWriteDone _ | .unrecoverableFault _ | .mcHoldSweep
  | .auditorCountCheck | .auditorWalkStart _ | .auditorWalkPhaseDone | .walkDone | .audLeakqRead _ _
  | .voqSelWrite _ _ | .learnEventService _ | .sweepPassStart | .sweepNow _ | .sweepSlotVisit _ | .sweepPassDone
  | .windowPass | .traceArm _ _ | .gateListStart _ _ | .gateEntryEnd _ _ | .gateListCycleEnd _ _ | .streamRead _ _
  | .streamStage _ | .streamCountersCopy _ | .streamGateRead _ _ | .streamGateWrite _ | .recoveryRead _ _
  | .recoveryStage _ | .recoveryCountersCopy _ | .gclRead _ | .gclWrite _ | .windowCommandDone _ | .cbsSelWrite _ _
  | .preemptVerifyDone _ _ | .sampleSubmit _ _ | .sampleApply | .holdoverTimeout | .adjStep _ | .adjSet _
  | .adjRate _ | .gpioHigh _ | .gpioLow _ | .gpioToggle _ | .gpioPulse _ | .gpioPulseEnd _ | .slotMessage _
  | .gpioCaptureEdge _ _ | .tsqRead _ _ _ | .tsqCapSelWrite _ _ | .tsqCapClear _ | .phyTrainingStart _
  | .trainingTimeout _ | .ethLinkUp _ _ | .ethLinkDown _ | .phyPllLoss _ | .linkHoldExpiry _ | .lpiIdleTimeout _
  | .lpiWakeDone _ | .diagRun _ _ | .diagAbort _ _ | .macctlUnknownReceived _ | .pauseTimerExpiry _ _
  | .flowControlRefresh _ | .pwdTrip _ _ | .pwdBreakEnd _ _ | .ldgSnap _ _ | .ldgClear _ _ | .objLock _ _ _
  | .objRelease _ _ | .rxfPop _ _ _ _ _ | .mrDataAccess _ _ _ _ | .canBusIdleApply _ _ | .canIntegrationDone _
  | .canTxDone _ | .canArbLost _ | .boffWaitExpiry _ | .boffRestart _ _ | .boffRecovered _ | .boffHoldExpiry _
  | .timedDispatch _ _ | .linNoResponse _ | .linScheduleSlot _ _ | .linRxfPop _ _ _ | .linSchRead _ _
  | .linSchWrite _ _ | .kalowPick _ _ | .kalowUnpackCommit _ | .kalowPackHandoff | .kalowTimeoutCheck
  | .storeRead _ _ | .storeForce _ | .dumpGo _ | .dumpPeriod | .dumpDone _ | .dumpResume _ | .klwDescRead _ _
  | .klwDescStage _ | .klwSlotRead _ | .klwSlotWrite _ | .knownAnswerTest _ | .engFailClear _ _ | .ctxRead _ _
  | .ctxStage _ | .ctxCountersCopy _ | .ctxLatchState _ | .changeoverNow _ | .chgSlotRead _ | .chgSlotWrite _
  | .importPlain _ | .importWrapped _ | .load _ | .derive _ | .unwrap _ | .wrap _ | .cmac _ _ | .generate _
  | .random _ | .zero _ | .token _ | .keyOpDone _ | .provClose _ | .drbgReseed _ | .maskRenew | .tamperSensorFire _
  | .tamperEraseDone | .tamperEnable _ _ | .tamperLatchClear _ _ | .sigGo _ _ | .sigDone _ | .anchRevoke _
  | .wakeDetect _ | .listenErrorLimit _ | .listenEnergyPersist _ | .listenTimeout | .consentVetoCmd _
  | .commitGuardExpiry | .consTimeout | .sleepCommitDevice | .sleepCommitSet | .segmentWakeCmd _ _
  | .segmentWakeLaunch _ | .supenOffDelay _ | .braceWatchdogExpiry _ | .wdgKick _ _ | .handoverCmd _ _ _
  | .classBResetRequest _ _ | .classBFillDone _ | .resyncCopyDone _ | .sbOk _ | .stestRun _ _ | .braceSweep
  | .braceSweepNow _ | .repair _ _ | .scrubGo _ | .scrubAbort _ | .scrubPeriod | .scrubUnitRead _ | .scrubPassDone
  | .ceThresholdCheck | .injectArm _ _ | .remapRecordClear _ | .peRstnLow | .peRstnRise | .functionLevelReset
  | .pcieLinkDown | .peWakenRelease | .hostWrite _ _ _ _ _ | .hostRetryRead _ _ | .hostSplitRead _ _
  | .outboundReadCompletion _ _ _ | .outboundReadTimeout _ | .pweRead _ | .semRead _ _ | .semRelease _ _
  | .semTimeout _ | .msixUnmask _ | .hostTxFrameDone _ | .hostRingResume _ _ _ | .hostLinkHoldExpiry
  | .vhLinkDown _ _ | .holdIRise _ | .holdIFall _ | .helloSend | .masterLoss | .idGrantLinkRelease _ | .timeSync
  | .timeReqReceived _ _ | .timeRspReceived _ _ _ _ | .decideResend | .pathRead _ _ | .pathStage _ | .bankWrite _ _
  | .bankWriteDone _ | .bankVerify _ _ | .prepare _ _ _ | .prepareCopyDone _ | .standbyTimeout
  | .updateRestart _ _ _ | .updateAbort _ | .guardOnset _ | .braceHandoverLaunch | .confirm _ _ | .confirmTimeout
  | .olockSet _ | .olockUnlock _ | .olockClear _ | .phyCodePortDone _ | .phyCodePortTimeout _ | .heldWakeMainOn
  | .pcieConfigWrite _ _ _ _ | .supenCmdWrite _ _ _ | .gpioOwnWrite _ _ => true

end Sys2Proof
end

