-- ==== Sys2Proof/Decode.lean ====
section
/-!
DEFINITION. The words of the opcode table. The table gives no row any bits: the commands come from outside the block and
have no encoding.
-/

namespace Sys2Proof

/-- The command that a word spells by the bits of the opcode table: none, since no row has bits. -/
def decodeTableWord (_nbits _w : Nat) : Option Instr := none

end Sys2Proof
end

