-- ==== Sys2Proof/Config.lean ====
section
/-!
DEFINITION. What one implementation fixes and the spec does not: the free values (opaque constants without a body, so
that no proof can lean on a value of theirs).
-/

namespace Sys2Proof.Config

/-- The n-th free value drawn by a step: a result the spec leaves open (log entry 4). -/
opaque freeValue : Nat → BitVec 64

/-- The helper data written at production, 6 KiB (R235). -/
opaque helperData : List Byte

/-- The 64-bit check stored beside the helper data (R235). -/
opaque rootCheck : List Byte

/-- The code of the helper data: the helper data and the cells read give the corrected bits and the largest number of errors
corrected in one block; none where a block has more than it corrects (R235). -/
opaque correct : List Byte → List Byte → Option (List Byte × Nat)

/-- How the corrected bits of the root array enter the two AES-CMACs that compress them to 256 bits: the spec states the
function and the result's length, not how two results of 128 bits are had (R235). -/
opaque extractInput : Bool → List Byte → List Byte

/-- The mask of a masked cell: under the mask key, of a cell, at a renewal (R239). -/
opaque mask : List Byte → Nat → Nat → List Byte

/-- The place of a masked cell under the mask key (R239). -/
opaque cellPlace : List Byte → Nat → Nat

/-- The digest of Dunuen's image anchor (R251). -/
opaque imageAnchor : List Byte

/-- The coded units of a memory region whose size the spec does not give (R292, Table 14-2). -/
opaque regionUnits : Nat → Nat

/-- The macro of a region that holds a coded unit (R298). -/
opaque macroOf : Nat → Nat → Nat

end Sys2Proof.Config
end

