-- ==== Sys2Proof/Machine/NMap.lean ====
section
/-!
DEFINITION. A sparse map from addresses or indices to values in one canonical form: keys strictly rising, and no entry
equal to what an unlisted key reads as. Register files, memories and tables are held in it, so that equal contents are
equal data.
-/

namespace Sys2Proof.Machine

/-- A sparse map: (key, value) pairs. -/
abbrev NMap (α : Type) := List (Nat × α)

/-- The listed value at a key. -/
def NMap.find {α : Type} : NMap α → Nat → Option α
  | [], _ => none
  | (k, v) :: m, a => if k = a then some v else NMap.find m a

/-- The value at a key, `z` where the key is not listed. -/
def NMap.get {α : Type} (z : α) (m : NMap α) (a : Nat) : α := (NMap.find m a).getD z

/-- The map without an entry at the key. -/
def NMap.erase {α : Type} : NMap α → Nat → NMap α
  | [], _ => []
  | (k, v) :: m, a => if k = a then NMap.erase m a else (k, v) :: NMap.erase m a

/-- The map with the entry at the key, in rising order. -/
def NMap.insert {α : Type} : NMap α → Nat → α → NMap α
  | [], a, v => [(a, v)]
  | (k, w) :: m, a, v =>
    if a < k then (a, v) :: (k, w) :: m
    else if a = k then (a, v) :: m
    else (k, w) :: NMap.insert m a v

/-- Write a value at a key whose unlisted value is `z`. -/
def NMap.set {α : Type} [DecidableEq α] (z : α) (m : NMap α) (a : Nat) (v : α) : NMap α :=
  if v = z then NMap.erase m a else NMap.insert m a v

/-- Every key of the map lies above `b`, strictly rising. -/
def NMap.rising {α : Type} : Nat → NMap α → Bool
  | _, [] => true
  | b, (k, _) :: m => decide (b ≤ k) && NMap.rising (k + 1) m

/-- The canonical form, for the unlisted values `z`. -/
def NMap.wf {α : Type} [DecidableEq α] (z : Nat → α) (m : NMap α) : Bool :=
  NMap.rising 0 m && m.all (fun e => decide (e.2 ≠ z e.1))

end Sys2Proof.Machine
end

