-- ==== Sys2Proof/Machine/RegMap.lean ====
section
/-!
DEFINITION. The register map: every page, every register, every field, its access code and its reset value,
transcribed from the register tables of the spec (R32 to R35 and the tables named at each list), and the name and
place of every register and field. A register is named by its register-space offset (R32).
-/

namespace Sys2Proof.Machine

/-- Access codes, Table 0-5 (R10). -/
inductive Acc where
  | rw | ro | wo | w1c | w1s | rc | rws | rol
  deriving DecidableEq, Repr

/-- One field of a register: its bits, its access, its reset value, and how far it is kept: 0 reset by
classes P and D, 1 held in the always-on domain and reset by class P alone, 2 held in MRAM. -/
structure Fld where
  hi : Nat
  lo : Nat
  acc : Acc
  rst : Nat
  keep : Nat
  deriving DecidableEq, Repr

/-- A register, or a one or two dimensional array of registers of one layout, of a page. -/
structure RegRow where
  off : Nat
  n1 : Nat
  s1 : Nat
  n2 : Nat
  s2 : Nat
  flds : List Fld
  deriving DecidableEq, Repr

/-- A named field: the register's register-space offset and the field's bits. -/
structure FRef where
  addr : Nat
  hi : Nat
  lo : Nat
  deriving DecidableEq, Repr

/-- A field that a class D reset returns to its reset value. -/
def rf (hi lo : Nat) (acc : Acc) (rst : Nat) : Fld := ⟨hi, lo, acc, rst, 0⟩
/-- A field of the always-on domain (marked AON). -/
def kf (hi lo : Nat) (acc : Acc) (rst : Nat) : Fld := ⟨hi, lo, acc, rst, 1⟩
/-- A field held in MRAM or mirrored there: it keeps its value through class P and D resets. -/
def mf (hi lo : Nat) (acc : Acc) (rst : Nat) : Fld := ⟨hi, lo, acc, rst, 2⟩
def row1 (off : Nat) (fs : List Fld) : RegRow := ⟨off, 1, 0, 1, 0, fs⟩
def rowA (off n s : Nat) (fs : List Fld) : RegRow := ⟨off, n, s, 1, 0, fs⟩
def rowB (off n1 s1 n2 s2 : Nat) (fs : List Fld) : RegRow := ⟨off, n1, s1, n2, s2, fs⟩

/-- The row covers the page offset `o`. -/
def RegRow.covers (r : RegRow) (o : Nat) : Bool :=
  if o < r.off then false
  else if r.s1 = 0 then o == r.off
  else
    let d := o - r.off
    decide (d / r.s1 < r.n1) &&
      (if r.s2 = 0 then d % r.s1 == 0
       else decide (d % r.s1 / r.s2 < r.n2) && d % r.s1 % r.s2 == 0)

/-- The pages of Table 2-1, a group's pages told apart where they carry different registers. -/
inductive PgKind where
  | sys | rst | opt | clk | pwr | wak | tim
  | vlt0 | vlt1 | vlt2 | vlt3 | vlt4 | vltX | que | fwd | lrn | tbl
  | trm0 | trm1 | trm2 | trm3 | trmP | trm7 | trm8 | trm9 | trmX
  | eth | phy | can | lin | klw0 | klw1 | klw2 | klw3 | klw4 | klwX
  | aut | key | tmp | sig | brc | ecc | scb | hbr | vhl | upd
  deriving DecidableEq, Repr

/-- The page at a page index, with its instance number (Table 2-1, R34). -/
def pageKind (pg : Nat) : Option (PgKind × Nat) :=
  if pg < 0x10 then
    match pg with
    | 0 => some (.sys, 0) | 1 => some (.rst, 0) | 2 => some (.opt, 0) | 3 => some (.clk, 0)
    | 4 => some (.pwr, 0) | 5 => some (.wak, 0) | 8 => some (.tim, 0) | _ => none
  else if pg < 0x20 then
    match pg - 0x10 with
    | 0 => some (.vlt0, 0) | 1 => some (.vlt1, 1) | 2 => some (.vlt2, 2) | 3 => some (.vlt3, 3)
    | 4 => some (.vlt4, 4) | k => some (.vltX, k)
  else if pg < 0x50 then
    match pg with
    | 0x20 => some (.que, 0) | 0x30 => some (.fwd, 0) | 0x38 => some (.lrn, 0) | 0x40 => some (.tbl, 0) | _ => none
  else if pg < 0x60 then
    match pg - 0x50 with
    | 0 => some (.trm0, 0) | 1 => some (.trm1, 1) | 2 => some (.trm2, 2) | 3 => some (.trm3, 3)
    | 4 => some (.trmP, 4) | 5 => some (.trmP, 5) | 6 => some (.trmP, 6)
    | 7 => some (.trm7, 7) | 8 => some (.trm8, 8) | 9 => some (.trm9, 9) | k => some (.trmX, k)
  else if pg < 0x100 then none
  else if pg < 0x100 + 114 then
    (if pg % 2 = 0 then some (.eth, (pg - 0x100) / 2) else some (.phy, (pg - 0x100) / 2))
  else if pg < 0x180 then none
  else if pg < 0x180 + 24 then some (.can, pg - 0x180)
  else if pg < 0x1A0 then none
  else if pg < 0x1A0 + 8 then some (.lin, pg - 0x1A0)
  else if pg < 0x1C0 then none
  else if pg < 0x1D0 then
    match pg - 0x1C0 with
    | 0 => some (.klw0, 0) | 1 => some (.klw1, 1) | 2 => some (.klw2, 2) | 3 => some (.klw3, 3)
    | 4 => some (.klw4, 4) | k => some (.klwX, k)
  else
    match pg with
    | 0x200 => some (.aut, 0) | 0x210 => some (.key, 0) | 0x220 => some (.tmp, 0) | 0x230 => some (.sig, 0)
    | 0x280 => some (.brc, 0) | 0x290 => some (.brc, 1) | 0x2A0 => some (.ecc, 0) | 0x2A1 => some (.scb, 0)
    | 0x2C0 => some (.hbr, 0) | 0x2E0 => some (.vhl, 0) | 0x2E1 => some (.vhl, 1) | 0x2E2 => some (.vhl, 2)
    | 0x2E3 => some (.vhl, 3) | 0x300 => some (.upd, 0) | _ => none

namespace PgKind

/-- Block type code (Table 2-1). -/
def typeCode : PgKind → Nat
  | sys => 0x01 | rst => 0x02 | opt => 0x03 | clk => 0x04 | pwr => 0x05 | wak => 0x06 | tim => 0x07
  | vlt0 | vlt1 | vlt2 | vlt3 | vlt4 | vltX => 0x10
  | que => 0x11 | fwd => 0x12 | lrn => 0x13 | tbl => 0x14
  | trm0 | trm1 | trm2 | trm3 | trmP | trm7 | trm8 | trm9 | trmX => 0x15
  | eth => 0x20 | phy => 0x21 | can => 0x22 | lin => 0x23
  | klw0 | klw1 | klw2 | klw3 | klw4 | klwX => 0x24
  | aut => 0x30 | key => 0x31 | tmp => 0x32 | sig => 0x33 | brc => 0x34 | ecc => 0x35 | scb => 0x36
  | hbr => 0x38 | vhl => 0x39 | upd => 0x3A

/-- `PG_ID.instance` (Table 2-3): the port, channel, link or group page number; 0 for single pages. -/
def inst (_ : PgKind) (n : Nat) : Nat := n

/-- `PG_CAP.shadow`: the page has shadowed registers or staged window records (R126, R150, R192, R193, R215, R234,
R252 to R254, R272, R290, R305, R306, R327, R346, R366 to R368, R382, R396; DEDUCED elsewhere from the RWS fields of
the page's table). -/
def shadow : PgKind → Bool
  | pwr | wak | tim | vlt0 | vlt1 | vlt3 | vlt4 | que | fwd | lrn => true
  | trm1 | trm2 | trm3 | trmP | trm7 | trm8 | eth | phy | can | lin | klw0 | klw1 => true
  | aut | tmp | hbr | vhl => true
  | _ => false

/-- `PG_CAP.timed` (same rules; DEDUCED equal to `shadow` where no rule states it). -/
def timed (k : PgKind) : Bool := k.shadow

/-- `PG_CAP.isolate` (R165, R192, R193, R346; R81, R105 and the page rules deny it elsewhere). -/
def isolate : PgKind → Bool
  | eth | can | lin | vhl => true
  | _ => false

/-- `PG_CAP.queues` (R66, R101, R192, R193, R306). -/
def queues : PgKind → Nat
  | que => 1 | tbl => 2 | can => 3 | lin => 2 | scb => 1 | _ => 0

/-- `PG_CAP.fences`, bit 0 Config, 1 Table, 2 Bridge, 3 Time, 4 Queue (Table 2-15). -/
def fences (k : PgKind) : Nat :=
  0b01011 + (if k = hbr then 0b00100 else 0) + (if k.queues = 0 then 0 else 0b10000)

end PgKind

/-- The factory base MAC address (Table 7-5 `MAC`: factory base plus n). DESIGN CHOICE, log entry 10: the spec gives no value. -/
def factoryMacLo (n : Nat) : Nat := n

/-- The speed code of the port's group: E25, E10, E1, E100, E100-S (Table 7-6, `CFG.speed`). -/
def groupSpeed (n : Nat) : Nat :=
  if n < 4 then 6 else if n < 16 then 5 else if n < 40 then 2 else 1

/-- The header of every page (Table 2-2, R35). -/
def hdrRows (k : PgKind) (n : Nat) : List RegRow :=
  [row1 0x0 [rf 31 24 .ro (k.typeCode), rf 23 16 .ro (k.inst n), rf 15 8 .ro 1, rf 7 0 .ro 0],
   row1 0x4 [rf 31 16 .ro 0, rf 11 8 .ro (k.queues), rf 7 3 .ro (k.fences), rf 2 2 .ro (k.timed.toNat), rf 1 1 .ro (k.isolate.toNat), rf 0 0 .ro (k.shadow.toNat)],
   row1 0x8 [rf 15 8 .ro 1, rf 0 0 .ro 0],
   row1 0xC [rf 31 16 .ro 0, rf 8 8 .ro 0, rf 7 7 .ro 0, rf 6 6 .ro 0, rf 5 4 .ro 0, rf 1 1 .ro 0, rf 0 0 .ro 1],
   row1 0x10 [rf 2 2 .rw 0, rf 1 1 .w1s 0, rf 0 0 .rw 1],
   row1 0x14 [rf 31 24 .rw 0, rf 23 16 .ro 0, rf 11 8 .ro 0, rf 2 0 .wo 0],
   row1 0x18 [rf 31 0 .rw 0],
   row1 0x1C [rf 31 0 .rw 0],
   row1 0x20 [rf 31 0 .w1c 0],
   row1 0x24 [rf 31 0 .rw 0],
   row1 0x28 [rf 31 0 .w1s 0],
   row1 0x2C [rf 23 23 .rw 0, rf 21 16 .rw 0, rf 15 15 .rw 0, rf 7 0 .rw 0],
   row1 0x30 [rf 31 24 .rol 0, rf 23 16 .rol 0, rf 15 12 .rol 0, rf 11 0 .rol 0],
   row1 0x34 [rf 31 0 .rol 0],
   row1 0x38 [rf 31 0 .rol 0],
   row1 0x3C [rf 31 0 .rol 0],
   row1 0x40 [rf 23 20 .rw 0, rf 18 16 .rw 0, rf 15 0 .ro 0],
   row1 0x44 [rf 17 17 .w1c 0, rf 16 16 .ro 0, rf 15 0 .ro 0xFFFF],
   row1 0x48 [rf 31 0 .wo 0],
   row1 0x4C [rf 31 0 .rw 0]]

/-- Tables 2-20, 2-22. -/
def rowsSYS : List RegRow :=
  [row1 0x100 [rf 31 16 .ro 0x960, rf 15 8 .ro 0, rf 7 0 .ro 0],
   row1 0x104 [rf 22 16 .ro 0, rf 3 0 .ro 3],
   row1 0x108 [rf 27 16 .ro 0, rf 11 0 .ro 0],
   row1 0x10C [rf 16 16 .ro 0, rf 9 0 .ro 0],
   row1 0x110 [rf 31 16 .rc 0, rf 12 8 .rol 0, rf 3 0 .rol 0],
   row1 0x114 [rf 31 31 .rol 0, rf 30 28 .rol 0, rf 25 0 .rol 0],
   row1 0x118 [rf 10 8 .wo 0, rf 7 0 .wo 0],
   row1 0x11C [rf 31 18 .ro 0, rf 15 8 .ro 0, rf 3 0 .ro 0],
   row1 0x120 [rf 31 0 .rw 0],
   row1 0x124 [rf 31 0 .rw 0],
   row1 0x128 [rf 15 0 .rw 0x3E8],
   row1 0x12C [rf 31 0 .wo 0]]

/-- Table 3-8 (R82). -/
def rowsVLT0 : List RegRow :=
  [row1 0x100 [rf 17 0 .ro 0x3C000],
   row1 0x104 [rf 14 0 .ro 0x4000],
   row1 0x108 [rf 25 0 .ro 0],
   row1 0x10C [rf 20 0 .ro 0x100000],
   row1 0x110 [rf 25 0 .ro 0x1FE0000],
   row1 0x114 [rf 25 0 .ro 0x10000],
   row1 0x118 [rf 2 0 .ro 0],
   row1 0x11C [rf 17 0 .ro 0],
   row1 0x120 [rf 17 0 .rws 0x20000],
   row1 0x124 [rf 17 0 .rws 0x12000],
   row1 0x128 [rf 17 0 .rws 0x18000],
   row1 0x12C [rf 25 0 .rws 0x40000],
   row1 0x130 [rf 25 0 .rws 0x80000],
   row1 0x134 [rf 25 0 .rws 0x10000],
   row1 0x138 [rf 17 0 .rws 0x18000],
   row1 0x13C [rf 17 0 .rws 0x10000],
   row1 0x180 [rf 31 0 .ro 0],
   row1 0x184 [rf 31 0 .ro 0],
   row1 0x188 [rf 31 0 .rc 0],
   row1 0x18C [rf 31 0 .rc 0]] ++
  [row1 0x190 [rf 31 0 .rc 0],
   row1 0x194 [rf 31 0 .rc 0],
   row1 0x198 [rf 31 0 .rc 0],
   row1 0x19C [rf 31 0 .rc 0],
   row1 0x1A0 [rf 31 0 .rc 0],
   row1 0x1A4 [rf 31 0 .rc 0],
   row1 0x1A8 [rf 31 0 .rc 0]]

/-- Table 3-9 (R83). -/
def rowsVLT1 : List RegRow :=
  [rowA 0x100 16 0x20 [rf 25 0 .rws 0x4000],
   rowA 0x104 16 0x20 [rf 25 0 .rws 0x1000],
   rowA 0x108 16 0x20 [rf 25 0 .rws 0x200000],
   rowA 0x10C 16 0x20 [rf 25 0 .rws 0x1E8480],
   rowA 0x110 16 0x20 [rf 25 0 .rws 0x1CFDE0],
   rowA 0x114 16 0x20 [rf 25 0 .ro 0],
   rowA 0x118 16 0x20 [rf 25 0 .ro 0],
   rowA 0x11C 16 0x20 [rf 31 0 .rc 0],
   row1 0x300 [rf 15 0 .ro 0],
   rowA 0x340 16 0x4 [rf 25 0 .ro 0],
   rowA 0x380 16 0x4 [rf 25 0 .ro 0]]

/-- Table 3-10 (R84). -/
def rowsVLT2 : List RegRow :=
  [row1 0x100 [rf 15 8 .rw 1, rf 2 2 .rw 1, rf 1 1 .rw 1, rf 0 0 .w1s 0],
   row1 0x104 [rf 31 16 .ro 0, rf 4 4 .ro 0, rf 3 1 .ro 0],
   row1 0x108 [rf 25 0 .ro 0],
   row1 0x10C [rf 25 0 .ro 0],
   row1 0x110 [rf 25 0 .ro 0],
   row1 0x114 [rf 31 0 .rc 0],
   row1 0x118 [rf 31 0 .ro 0],
   row1 0x11C [rf 31 0 .ro 0xF0000000],
   row1 0x120 [rf 25 0 .ro 0]]

/-- Table 3-11 (R85). -/
def rowsVLT3 : List RegRow :=
  [rowB 0x100 62 0x10 4 0x4 [rf 31 16 .rws 0xFFFF, rf 15 0 .rws 0xFFFF],
   rowB 0x4E0 2 0x10 4 0x4 [rf 31 16 .ro 0, rf 15 0 .ro 0],
   rowB 0x500 34 0x10 4 0x4 [rf 31 16 .rws 0xFFFF, rf 15 0 .rws 0xFFFF]]

/-- Table 3-11 (R85). -/
def rowsVLT4 : List RegRow :=
  [rowA 0x100 58 0x4 [rf 19 0 .rws 0x200],
   rowA 0x1E8 4 0x4 [rf 19 0 .rws 0x800],
   rowA 0x300 62 0x4 [rf 19 0 .ro 0]]

/-- Table 3-12 (R86). -/
def rowsQUE : List RegRow :=
  [row1 0x100 [rf 16 0 .rw 0],
   row1 0x104 [rf 25 0 .ro 0],
   row1 0x108 [rf 25 0 .ro 0],
   row1 0x10C [rf 17 0 .ro 0],
   row1 0x110 [rf 31 0 .ro 0],
   rowA 0x120 8 0x4 [rf 17 0 .rws 0x100],
   rowA 0x140 8 0x4 [rf 19 0 .rws 0x2710],
   row1 0x160 [rf 15 0 .rws 0x2400],
   row1 0x164 [rf 31 0 .rc 0],
   rowA 0x180 25 0x4 [rf 31 0 .ro 0],
   rowA 0x400 98 0x4 [rf 15 8 .rws 0, rf 7 0 .rws 0]]

/-- Table 4-14. -/
def rowsFWD : List RegRow :=
  [row1 0x100 [rf 31 0 .ro 0],
   row1 0x104 [rf 15 0 .ro 0],
   rowA 0x110 3 0x8 [rf 31 0 .rws 0xFFFFFFFF],
   rowA 0x114 3 0x8 [rf 31 0 .rws 0xA5A55A5A],
   row1 0x128 [rf 5 0 .rws 8],
   rowA 0x200 96 0x4 [rf 31 16 .rws 1, rf 15 15 .rws 0, rf 14 14 .rws 1, rf 13 12 .rws 0, rf 11 0 .rws 1],
   rowA 0x380 2 0x4 [rf 31 16 .ro 0xFFFF, rf 15 15 .rws 0, rf 14 14 .rws 1, rf 13 12 .rws 0, rf 11 0 .rws 1],
   rowA 0x400 62 0x4 [rf 23 0 .rws 0xFAC688],
   rowA 0x604 10 0x4 [rf 31 0 .rc 0],
   row1 0x680 [rf 31 0 .ro 0],
   row1 0x684 [rf 31 0 .ro 0],
   row1 0x688 [rf 31 0 .ro 0],
   row1 0x68C [rf 31 0 .ro 0],
   row1 0x690 [rf 31 0 .rc 0],
   row1 0x694 [rf 22 20 .rol 0, rf 18 0 .rol 0],
   row1 0x700 [rf 9 9 .rw 0, rf 8 8 .w1s 0, rf 6 0 .rw 0],
   rowA 0x704 4 0x4 [rf 31 0 .rol 0]]

/-- Table 4-15. -/
def rowsLRN : List RegRow :=
  [row1 0x100 [rf 12 0 .ro 0],
   row1 0x104 [rf 31 0 .rc 0],
   row1 0x108 [rf 31 16 .rws 0x3E8, rf 4 4 .rws 0, rf 3 0 .rws 4],
   row1 0x10C [rf 15 0 .rws 0x3C],
   row1 0x110 [rf 31 0 .rws 0x186A0],
   row1 0x114 [rf 31 16 .ro 0, rf 1 1 .w1s 0, rf 0 0 .rw 1],
   row1 0x118 [rf 31 0 .rc 0],
   row1 0x11C [rf 31 0 .rc 0],
   row1 0x120 [rf 31 0 .rc 0],
   row1 0x124 [rf 31 0 .rc 0],
   row1 0x128 [rf 31 0 .rc 0],
   row1 0x130 [rf 31 0 .rol 0],
   row1 0x134 [rf 30 24 .rol 0, rf 22 16 .rol 0, rf 15 0 .rol 0],
   row1 0x138 [rf 11 0 .rol 0],
   rowA 0x200 62 0x4 [rf 31 31 .rws 0, rf 18 0 .rws 0x1000],
   rowA 0x2F8 2 0x4 [rf 31 31 .ro 0, rf 18 0 .ro 0],
   rowA 0x300 62 0x4 [rf 18 0 .ro 0],
   rowA 0x400 62 0x4 [rf 31 0 .rc 0]]

/-- Table 4-16. -/
def rowsTBL : List RegRow :=
  [rowA 0x100 2 0x20 [rf 31 7 .rw 0],
   rowA 0x104 2 0x20 [rf 7 0 .rw 0],
   rowA 0x108 2 0x20 [rf 3 0 .rw 4],
   rowA 0x10C 2 0x20 [rf 11 0 .ro 0],
   rowA 0x110 2 0x20 [rf 11 0 .rw 0],
   rowA 0x114 2 0x20 [rf 31 16 .ro 0, rf 15 8 .ro 0, rf 0 0 .ro 0],
   rowA 0x118 2 0x20 [rf 1 1 .w1s 0, rf 0 0 .rw 0],
   row1 0x180 [rf 15 0 .rw 0xA],
   row1 0x184 [rf 4 0 .ro 0],
   row1 0x188 [rf 31 0 .rc 0],
   rowA 0x190 3 0x4 [rf 18 0 .ro 0],
   rowA 0x1A0 3 0x4 [rf 4 0 .ro 0]]

/-- Table 5-4 (R126). -/
def rowsTRM0 : List RegRow :=
  [row1 0x100 [rf 31 0 .rc 0],
   row1 0x104 [rf 31 0 .rc 0],
   row1 0x108 [rf 31 0 .rc 0],
   row1 0x10C [rf 31 0 .rc 0]]

/-- Table 5-4. -/
def rowsTRM1 : List RegRow :=
  [row1 0x100 [rf 11 0 .rw 0],
   row1 0x104 [rf 8 8 .wo 0, rf 1 0 .wo 0],
   row1 0x108 [rf 1 1 .ro 0, rf 0 0 .ro 0],
   rowA 0x110 5 0x4 [rf 31 0 .rw 0],
   rowA 0x140 8 0x4 [rf 31 0 .ro 0],
   row1 0x180 [rf 31 0 .rc 0]]

/-- Table 5-4. -/
def rowsTRM2 : List RegRow :=
  [row1 0x100 [rf 22 16 .rw 0, rf 15 15 .rw 0, rf 14 14 .rw 0, rf 5 0 .rw 0],
   row1 0x104 [rf 8 8 .wo 0, rf 1 0 .wo 0],
   row1 0x108 [rf 1 1 .ro 0, rf 0 0 .ro 0],
   rowA 0x110 4 0x4 [rf 31 0 .rw 0]]

/-- Table 5-4. -/
def rowsTRM3 : List RegRow :=
  [row1 0x100 [rf 9 0 .rw 0],
   row1 0x104 [rf 1 0 .wo 0],
   row1 0x108 [rf 1 1 .ro 0, rf 0 0 .ro 0],
   rowA 0x110 2 0x4 [rf 31 0 .rw 0],
   row1 0x118 [rf 16 16 .ro 0, rf 15 0 .ro 0],
   row1 0x11C [rf 31 0 .ro 0],
   rowA 0x140 8 0x4 [rf 31 0 .ro 0]]

/-- `PRE_CFG` of the ports from slot `first` on of a port block page, with the access of `pre_en` (R124, R127). -/
def preRow (first c : Nat) (acc : Acc) : RegRow :=
  rowA (0x124 + first * 0x40) c 0x40 [rf 23 16 .rws 0xA, rf 11 10 .rws 0, rf 9 9 .rws 0, rf 8 8 acc 0, rf 7 0 .rws 0xFF]

/-- Table 5-8 (R127), pages 4 to 6: the port blocks of c ports; ports 0 to 3 and 56 have no preemption. -/
def rowsTRM4 (n c : Nat) : List RegRow :=
  (match n with
   | 4 => [preRow 0 4 .ro, preRow 4 16 .rws]
   | 5 => [preRow 0 20 .rws]
   | _ => [preRow 0 16 .rws, preRow 16 1 .ro, preRow 17 3 .rws]) ++
  [rowA 0x100 c 0x40 [rf 1 1 .rws 0, rf 0 0 .rws 0],
   rowA 0x104 c 0x40 [rf 10 0 .rws 1],
   rowA 0x108 c 0x40 [rf 31 0 .rws 0],
   rowA 0x10C c 0x40 [rf 31 0 .rws 0],
   rowA 0x110 c 0x40 [rf 29 0 .rws 0xF4240],
   rowA 0x114 c 0x40 [rf 29 0 .rws 0],
   rowA 0x118 c 0x40 [rf 9 0 .rws 0x8C],
   rowA 0x11C c 0x40 [rf 25 16 .ro 0, rf 3 3 .ro 0, rf 2 2 .ro 0, rf 1 1 .ro 0, rf 0 0 .ro 0],
   rowA 0x120 c 0x40 [rf 31 0 .rc 0],
   rowA 0x128 c 0x40 [rf 3 3 .ro 0, rf 2 0 .ro 0],
   rowA 0x130 c 0x40 [rf 31 0 .ro 0],
   rowA 0x134 c 0x40 [rf 31 0 .ro 0],
   rowA 0x138 c 0x40 [rf 1 1 .rws 0, rf 0 0 .rws 0]]

/-- Table 5-8 (R127), pages 7 and 8: the shaper words of c ports. -/
def rowsShaper (c : Nat) : List RegRow := [rowB 0x100 c 0x20 8 4 [rf 31 31 .rws 0, rf 25 0 .rws 0]]

/-- Table 5-8 (R127), pages 7 and 8: the credit window. -/
def rowsCBS : List RegRow :=
  [row1 0x500 [rf 8 3 .rw 0, rf 2 0 .rw 0],
   row1 0x504 [rf 31 0 .ro 0]]

/-- Table 5-8 (R127). -/
def rowsTRM9 : List RegRow :=
  [row1 0x100 [rf 27 22 .rw 0, rf 10 10 .rw 0, rf 9 0 .rw 0],
   row1 0x104 [rf 1 0 .wo 0],
   row1 0x108 [rf 1 1 .ro 0, rf 0 0 .ro 0],
   row1 0x10C [rf 31 0 .rw 0],
   row1 0x110 [rf 9 8 .rw 0, rf 7 0 .rw 0]]

/-- Tables 6-10, 6-11 (R150). -/
def rowsTIM : List RegRow :=
  [row1 0x100 [rf 31 0 .ro 0],
   row1 0x104 [rf 31 0 .ro 0],
   row1 0x108 [rf 31 0 .ro 0],
   row1 0x10C [rf 31 0 .ro 0],
   row1 0x110 [rf 15 0 .ro 0],
   row1 0x114 [rf 27 24 .ro 0, rf 23 16 .ro 0, rf 13 12 .ro 0, rf 9 8 .ro 0, rf 4 4 .ro 0, rf 2 0 .ro 0],
   row1 0x118 [rf 31 0 .ro 0],
   row1 0x11C [rf 31 0 .ro 0],
   row1 0x120 [rf 5 4 .rws 0, rf 1 0 .rws 0],
   row1 0x124 [rf 11 8 .rws 4, rf 3 0 .rws 1],
   row1 0x128 [rf 31 0 .rws 0x3E8],
   row1 0x12C [rf 31 28 .rws 3, rf 27 0 .rws 0x186A0],
   row1 0x130 [rf 15 0 .rws 0x32],
   row1 0x134 [rf 15 0 .rws 0x190],
   row1 0x138 [rf 9 0 .rws 0xC8],
   row1 0x140 [rf 31 0 .rw 0],
   row1 0x144 [rf 31 0 .rw 0],
   row1 0x148 [rf 31 0 .rw 0],
   row1 0x14C [rf 31 0 .rw 0],
   row1 0x150 [rf 15 8 .rw 0, rf 5 4 .rw 0, rf 0 0 .w1s 0]] ++
  [row1 0x154 [rf 31 0 .ro 0],
   row1 0x158 [rf 31 0 .rc 0],
   row1 0x15C [rf 31 0 .rc 0],
   row1 0x160 [rf 31 0 .rc 0],
   row1 0x164 [rf 31 0 .rc 0],
   row1 0x168 [rf 31 0 .ro 0],
   row1 0x170 [rf 31 0 .rw 0],
   row1 0x174 [rf 31 0 .rw 0],
   row1 0x178 [rf 1 0 .wo 0],
   rowA 0x180 4 0x4 [rf 8 8 .rws 0, rf 7 0 .rws 0],
   rowA 0x200 16 0x10 [rf 31 0 .rw 0],
   rowA 0x204 16 0x10 [rf 31 0 .rw 0],
   rowA 0x208 16 0x10 [rf 31 31 .rw 0, rf 30 30 .rw 0, rf 29 29 .ro 0, rf 28 28 .ro 0, rf 27 8 .rw 0, rf 7 0 .rw 0],
   rowA 0x20C 16 0x10 [rf 31 0 .rw 0],
   rowA 0x300 4 0x10 [rf 12 12 .rw 0, rf 9 8 .rw 0, rf 4 0 .rw 0],
   rowA 0x304 4 0x10 [rf 31 0 .rol 0],
   rowA 0x308 4 0x10 [rf 31 0 .rol 0],
   rowA 0x30C 4 0x10 [rf 31 0 .rc 0],
   row1 0x340 [rf 31 0 .ro 0],
   row1 0x344 [rf 24 0 .ro 0]] ++
  [row1 0x348 [rf 6 0 .rw 0],
   row1 0x34C [rf 31 31 .w1c 0, rf 23 20 .rol 0, rf 15 0 .rol 0],
   row1 0x350 [rf 31 0 .rol 0],
   row1 0x354 [rf 31 0 .rol 0],
   row1 0x358 [rf 31 0 .rc 0],
   row1 0x35C [rf 31 0 .rc 0],
   row1 0x360 [rf 23 0 .rw 0],
   row1 0x364 [rf 31 0 .rc 0],
   rowA 0x400 57 0x10 [rf 31 0 .ro 0],
   rowA 0x404 57 0x10 [rf 31 0 .ro 0xF0000000],
   rowA 0x408 57 0x10 [rf 8 0 .ro 0],
   rowA 0x40C 57 0x10 [rf 31 0 .rc 0]]

/-- Table 7-5. -/
def rowsETH (n : Nat) : List RegRow :=
  [row1 0x100 [rf 16 16 (if n < 4 then .rws else .ro) 0, rf 13 0 .rws 0x2400],
   row1 0x104 [rf 31 16 .rws 0xFFFF, rf 1 1 .rws 0, rf 0 0 .rws 0],
   row1 0x108 [rf 31 16 .rws 0x64, rf 1 0 .rws 1],
   row1 0x10C [rf 15 0 .rws 0x3E8],
   row1 0x110 [rf 31 0 .rws (factoryMacLo n)],
   row1 0x114 [rf 15 0 .rws 0],
   row1 0x118 [rf 13 0 .rws 0x32],
   row1 0x11C [rf 23 0 .rws 0xFAC688],
   row1 0x120 [rf 31 24 .ro 0, rf 23 16 .ro 0, rf 3 1 .ro 0, rf 0 0 .ro 0],
   row1 0x124 [rf 7 0 .ro 0],
   row1 0x128 [rf 31 0 .rc 0],
   row1 0x12C [rf 31 0 .rc 0],
   row1 0x130 [rf 1 1 .w1s 0, rf 0 0 .w1s 0],
   row1 0x134 [rf 31 0 .w1c 0],
   row1 0x138 [rf 31 0 .w1c 0],
   rowA 0x400 64 0x8 [rf 31 0 .ro 0],
   rowA 0x404 64 0x8 [rf 7 0 .ro 0]]

/-- Table 7-6. -/
def rowsPHY (n : Nat) : List RegRow :=
  [row1 0x100 [rf 10 10 (if 16 ≤ n ∧ n < 40 then .rws else .ro) 0, rf 8 8 (if n < 40 then .rws else .ro) 0, rf 6 4 (if 4 ≤ n ∧ n < 16 then .rws else .ro) (groupSpeed n), rf 0 0 .rws 0],
   row1 0x104 [rf 15 0 .rws 0x14],
   row1 0x108 [rf 2 0 .rw 3],
   row1 0x10C [rf 11 9 .ro 0, rf 8 8 .ro 0, rf 6 4 .ro 0, rf 3 3 .ro 0, rf 2 2 .ro 0, rf 1 1 .ro 0, rf 0 0 .ro 0],
   row1 0x110 [rf 15 0 .ro 0],
   row1 0x114 [rf 1 1 .w1s 0, rf 0 0 .w1s 0],
   row1 0x118 [rf 31 31 .ro 0, rf 19 8 .ro 0, rf 3 0 .ro 0],
   row1 0x11C [rf 31 0 .rc 0],
   row1 0x120 [rf 31 0 .rc 0],
   row1 0x124 [rf 31 0 .rc 0],
   row1 0x128 [rf 31 0 .rc 0]]

/-- Table 8-8 (R192). -/
def rowsCAN : List RegRow :=
  [row1 0x100 [rf 31 24 .rws 0, rf 17 17 .rws 0, rf 16 16 .rws 1, rf 9 8 .rws 2, rf 7 0 .rws 0xCC],
   row1 0x104 [rf 31 27 .rws 1, rf 26 18 .rws 0x7F, rf 17 11 .rws 0x20, rf 10 4 .rws 0x20],
   row1 0x108 [rf 31 27 .rws 1, rf 25 20 .rws 0x1D, rf 19 15 .rws 0xA, rf 14 10 .rws 0xA],
   row1 0x10C [rf 31 27 .rws 1, rf 25 20 .rws 5, rf 19 15 .rws 2, rf 14 10 .rws 2],
   row1 0x110 [rf 31 31 .rws 1, rf 30 30 .rws 1, rf 23 16 .rws 6, rf 7 0 .rws 0x1E],
   row1 0x114 [rf 23 16 .rws 0, rf 13 8 .rws 6, rf 5 0 .rws 2],
   row1 0x118 [rf 5 5 .rw 0, rf 4 4 .rw 1, rf 1 0 .rw 0],
   row1 0x11C [rf 8 8 .rws 0, rf 5 5 .rws 0, rf 4 4 .rws 0, rf 3 0 .rws 1],
   rowA 0x120 2 0x8 [rf 26 16 .rws 0, rf 13 0 .rws 0],
   rowA 0x124 2 0x8 [rf 22 16 .rws 0, rf 13 0 .rws 0],
   row1 0x130 [rf 31 22 .rws 0, rf 21 20 .rws 1, rf 13 0 .rws 0],
   row1 0x134 [rf 31 24 .rws 0, rf 21 20 .rws 1, rf 13 0 .rws 0],
   row1 0x138 [rf 31 24 .rws 0, rf 21 20 .rws 1, rf 13 0 .rws 0],
   row1 0x13C [rf 31 16 .rws 0, rf 5 0 .rws 8],
   row1 0x140 [rf 31 16 .rws 0, rf 15 0 .rws 0x32],
   row1 0x144 [rf 0 0 .w1s 0],
   row1 0x180 [rf 24 16 .ro 0, rf 15 8 .ro 0, rf 6 4 .ro 0, rf 3 2 .ro 3, rf 1 1 .ro 0],
   row1 0x184 [rf 23 16 .ro 0, rf 7 0 .ro 0],
   row1 0x188 [rf 31 0 .ro 0],
   row1 0x18C [rf 31 0 .ro 0xF0000000]] ++
  [row1 0x190 [rf 31 0 .ro 0],
   row1 0x194 [rf 31 0 .ro 0xF0000000],
   row1 0x198 [rf 13 0 .ro 0],
   row1 0x19C [rf 13 0 .ro 0],
   row1 0x1A0 [rf 1 1 .w1s 0, rf 0 0 .w1s 0],
   row1 0x1A4 [rf 7 0 .rw 0],
   row1 0x1A8 [rf 1 0 .wo 0],
   row1 0x1AC [rf 31 31 .ro 0, rf 30 30 .ro 0, rf 29 29 .ro 0, rf 28 28 .ro 0, rf 13 0 .ro 0],
   rowA 0x1B0 8 0x4 [rf 31 0 .ro 0],
   row1 0x1D0 [rf 13 0 .rw 0],
   row1 0x1D4 [rf 31 0 .rw 0],
   row1 0x1D8 [rf 31 31 .w1c 0, rf 30 29 .rol 0, rf 28 0 .rol 0],
   row1 0x1DC [rf 31 0 .rol 0],
   row1 0x1E0 [rf 31 0 .rol 0],
   row1 0x1E4 [rf 31 31 .rol 0, rf 30 29 .rol 0, rf 28 0 .rol 0],
   rowA 0x200 16 0x8 [rf 30 29 .rws 0, rf 28 0 .rws 0],
   rowA 0x204 16 0x8 [rf 31 31 .rws 0, rf 30 30 .rws 0, rf 0 0 .ro 0],
   rowA 0x300 16 0x10 [rf 31 0 .rw 0],
   rowA 0x304 16 0x10 [rf 31 0 .rw 0],
   rowA 0x308 16 0x10 [rf 31 31 .rw 0, rf 30 30 .rw 0, rf 29 29 .ro 0, rf 28 28 .ro 0, rf 27 8 .rw 0, rf 7 0 .rw 0]] ++
  [rowA 0x30C 16 0x10 [rf 31 0 .rw 0],
   rowA 0x400 23 0x4 [rf 31 0 .rc 0]]

/-- Table 8-10 (R193). -/
def rowsLIN : List RegRow :=
  [row1 0x100 [rf 30 16 .rws 0x4B00, rf 12 8 .rws 0xD, rf 6 5 .rws 1, rf 1 1 .rws 0, rf 0 0 .rws 0],
   row1 0x104 [rf 14 8 .rws 1, rf 1 1 .rws 0, rf 0 0 .rws 0],
   row1 0x108 [rf 31 0 .rws 0],
   row1 0x10C [rf 31 0 .rws 0],
   row1 0x110 [rf 13 8 .ro 0, rf 3 3 .ro 0, rf 2 2 .ro 0, rf 1 1 .ro 0, rf 0 0 .ro 0],
   row1 0x114 [rf 31 0 .ro 0],
   row1 0x118 [rf 31 0 .ro 0],
   row1 0x120 [rf 6 6 .rw 0, rf 5 0 .rw 0],
   row1 0x124 [rf 1 0 .wo 0],
   row1 0x128 [rf 1 1 .ro 0, rf 0 0 .ro 0],
   row1 0x12C [rf 31 16 .rw 0, rf 7 6 .rw 0, rf 5 0 .rw 0],
   row1 0x180 [rf 31 16 .ro 0, rf 1 1 .ro 0, rf 0 0 .ro 1],
   row1 0x184 [rf 5 0 .ro 0],
   row1 0x188 [rf 31 0 .ro 0],
   row1 0x18C [rf 31 0 .ro 0xF0000000],
   rowA 0x190 8 0x4 [rf 31 0 .ro 0],
   row1 0x1B0 [rf 0 0 .w1s 0],
   rowA 0x1C0 2 0x4 [rf 31 0 .ro 0],
   rowA 0x200 64 0x4 [rf 9 9 .rws 0, rf 8 8 .rws 0, rf 7 4 .rws 8, rf 1 0 .rws 0],
   rowA 0x400 14 0x4 [rf 31 0 .rc 0]]

/-- Table 9-12 (R215). -/
def rowsKLW0 : List RegRow :=
  [row1 0x100 [rf 26 0 .ro 0],
   row1 0x104 [rf 7 0 .ro 0],
   row1 0x108 [rf 31 31 .w1c 0, rf 13 0 .rol 0],
   row1 0x110 [rf 31 31 .rws 0, rf 13 0 .rws 0],
   row1 0x114 [rf 31 0 .rws 0],
   row1 0x118 [rf 31 0 .rws 0],
   row1 0x11C [rf 1 1 .ro 0, rf 0 0 .ro 0],
   rowA 0x200 19 0x4 [rf 31 0 .rc 0]]

/-- Table 9-12. -/
def rowsKLW2 : List RegRow :=
  [row1 0x100 [rf 13 0 .rw 0],
   row1 0x104 [rf 1 0 .wo 0],
   row1 0x108 [rf 31 0 .rw 0],
   row1 0x10C [rf 31 0 .rw 0],
   row1 0x110 [rf 2 2 .ro 0, rf 1 0 .ro 0],
   row1 0x114 [rf 31 0 .ro 0],
   row1 0x118 [rf 31 0 .ro 0],
   row1 0x11C [rf 31 0 .ro 0]]

/-- Table 9-12. -/
def rowsKLW3 : List RegRow :=
  [row1 0x100 [rf 12 0 .rw 0],
   row1 0x104 [rf 1 0 .wo 0],
   row1 0x108 [rf 1 1 .ro 0, rf 0 0 .ro 0],
   row1 0x110 [rf 31 0 .rw 0],
   row1 0x114 [rf 31 0 .rw 0],
   row1 0x118 [rf 31 31 .rw 0, rf 30 30 .rw 0, rf 29 29 .ro 0, rf 28 28 .ro 0, rf 27 8 .rw 0, rf 7 0 .rw 0],
   row1 0x11C [rf 31 0 .rw 0]]

/-- Table 9-12. -/
def rowsKLW4 : List RegRow :=
  [row1 0x100 [rf 31 4 .rw 0],
   row1 0x104 [rf 7 0 .rw 0],
   row1 0x108 [rf 13 0 .rw 0],
   row1 0x10C [rf 14 0 .rw 1],
   row1 0x110 [rf 15 0 .rw 0],
   row1 0x114 [rf 1 1 .w1s 0, rf 0 0 .w1s 0],
   row1 0x118 [rf 15 8 .ro 0, rf 0 0 .ro 0],
   row1 0x11C [rf 31 0 .ro 0],
   row1 0x120 [rf 31 0 .ro 0]]

/-- Table 9-13. -/
def rowsKLW1 : List RegRow :=
  [row1 0x100 [rf 18 16 .rw 0, rf 13 0 .rw 0],
   row1 0x104 [rf 8 8 .wo 0, rf 1 0 .wo 0],
   row1 0x108 [rf 1 1 .ro 0, rf 0 0 .ro 0],
   rowA 0x110 24 0x4 [rf 31 0 .rw 0]]

/-- Tables 10-7, 10-8 (R234). -/
def rowsAUT : List RegRow :=
  [row1 0x100 [rf 11 0 .rw 0],
   row1 0x104 [rf 8 8 .wo 0, rf 2 0 .wo 0],
   row1 0x108 [rf 1 1 .ro 0, rf 0 0 .ro 0],
   rowA 0x110 8 0x4 [rf 31 0 .rw 0],
   rowA 0x140 12 0x4 [rf 31 0 .ro 0],
   row1 0x180 [rf 31 31 .ro 0, rf 13 12 .ro 0, rf 5 4 .ro 0, rf 10 8 .ro 0, rf 2 0 .ro 0],
   row1 0x184 [rf 31 0 .ro 0],
   row1 0x188 [rf 31 0 .ro 0],
   row1 0x18C [rf 31 0 .ro 0],
   row1 0x190 [rf 31 0 .ro 0],
   row1 0x194 [rf 31 0 .rc 0],
   row1 0x198 [rf 31 0 .rc 0],
   row1 0x1A0 [rf 31 31 .w1c 0, rf 30 24 .rol 0, rf 19 16 .rol 0, rf 11 0 .rol 0],
   row1 0x1A4 [rf 31 0 .rol 0],
   row1 0x1A8 [rf 31 0 .rol 0],
   row1 0x1AC [rf 31 31 .w1c 0, rf 12 12 .rol 0, rf 11 0 .rol 0],
   row1 0x1B0 [rf 0 0 .ro 0],
   row1 0x700 [rf 31 0 .rws 0],
   row1 0x704 [rf 31 0 .w1c 0],
   row1 0x708 [rf 31 0 .rc 0]] ++
  [rowA 0x200 57 0x4 [rf 31 31 .rws 0, rf 27 16 .rws 0, rf 15 4 .rws 0, rf 3 3 .rws 0, rf 2 2 .rws 0, rf 1 0 .rws 0],
   rowB 0x300 57 0x10 4 0x4 [rf 31 0 .rc 0],
   row1 0x710 [rf 5 0 .rw 0],
   row1 0x714 [rf 1 0 .wo 0],
   row1 0x718 [rf 1 1 .ro 0, rf 0 0 .ro 0],
   row1 0x720 [rf 31 0 .rw 0],
   row1 0x724 [rf 31 0 .rw 0],
   row1 0x728 [rf 31 31 .rw 0, rf 30 30 .rw 0, rf 29 29 .ro 0, rf 28 28 .ro 0, rf 27 8 .rw 0, rf 7 0 .rw 0],
   row1 0x72C [rf 31 0 .rw 0]]

/-- Table 11-9 (R252). -/
def rowsKEY : List RegRow :=
  [row1 0x100 [rf 9 9 .ro 0, rf 8 8 .ro 0, mf 5 5 .ro 1, rf 4 4 .ro 0, rf 2 0 .ro 0],
   row1 0x104 [rf 19 16 .ro 0, rf 7 0 .ro 0],
   row1 0x108 [mf 31 0 .ro 0],
   row1 0x10C [rf 31 0 .ro 0],
   row1 0x110 [rf 31 0 .ro 0],
   row1 0x114 [mf 31 0 .ro 0],
   row1 0x120 [rf 3 0 .wo 0],
   row1 0x124 [rf 31 30 .rw 3, rf 12 0 .rw 0],
   row1 0x128 [rf 31 30 .rw 3, rf 12 0 .rw 0],
   row1 0x12C [rf 31 24 .rw 0, rf 23 16 .rw 0, rf 13 8 .rw 0, rf 4 4 .rw 0, rf 3 0 .rw 0],
   row1 0x130 [rf 1 0 .rw 0],
   row1 0x134 [rf 31 0 .rw 0],
   row1 0x138 [rf 31 0 .rw 0],
   row1 0x13C [rf 12 0 .rw 0],
   row1 0x140 [rf 31 0 .rw 0],
   row1 0x144 [rf 31 0 .rw 0],
   row1 0x148 [rf 31 0 .rw 0],
   rowA 0x14C 3 0x4 [rf 31 0 .rw 0],
   row1 0x180 [rf 15 8 .ro 0, rf 0 0 .ro 0],
   row1 0x190 [rf 9 0 .rw 0]] ++
  [row1 0x194 [rf 21 16 .ro 0, rf 9 8 .ro 0, rf 4 4 .ro 0, rf 0 0 .ro 0],
   row1 0x198 [rf 31 0 .ro 0],
   row1 0x19C [rf 31 0 .rc 0],
   row1 0x1A0 [rf 31 0 .rc 0],
   row1 0x1A4 [rf 0 0 .w1s 0],
   rowA 0x200 32 0x4 [rf 31 0 .wo 0],
   rowA 0x280 12 0x4 [rf 31 0 .ro 0]]

/-- Table 11-10 (R253). -/
def rowsTMP : List RegRow :=
  [row1 0x100 [kf 4 0 .w1s 3],
   row1 0x104 [kf 4 0 .w1c 0],
   row1 0x108 [rf 17 16 .ro 0, kf 8 8 .ro 0, kf 0 0 .ro 0],
   row1 0x10C [rf 7 0 .rws 0xA],
   row1 0x110 [mf 15 0 .ro 0],
   row1 0x114 [rf 2 0 .rw 0],
   row1 0x118 [mf 31 31 .ro 0, mf 28 24 .ro 0, mf 19 16 .ro 0, mf 15 0 .ro 0],
   row1 0x11C [mf 31 0 .ro 0],
   row1 0x120 [mf 31 0 .ro 0]]

/-- Table 11-11 (R254). -/
def rowsSIG : List RegRow :=
  [row1 0x100 [rf 9 8 .rw 0, rf 6 6 .rw 1, rf 5 5 .rw 1, rf 4 4 .rw 0, rf 0 0 .w1s 0],
   row1 0x104 [rf 31 0 .rw 0],
   row1 0x108 [rf 31 0 .rw 0],
   row1 0x10C [rf 27 0 .rw 0],
   row1 0x110 [rf 3 0 .ro 0],
   rowA 0x140 12 0x4 [rf 31 0 .rw 0],
   rowA 0x200 24 0x4 [rf 31 0 .rw 0],
   rowA 0x260 24 0x4 [rf 31 0 .rw 0],
   row1 0x300 [rf 1 0 .rw 0],
   row1 0x304 [mf 31 31 .ro 0, mf 30 30 .ro 0, mf 17 16 .ro 0, mf 8 8 .ro 0],
   row1 0x308 [rf 5 4 .wo 0, rf 1 0 .wo 0],
   rowA 0x310 12 0x4 [mf 31 0 .ro 0]]

/-- Table 12-6 (R272). -/
def rowsWAK : List RegRow :=
  [row1 0x100 [rf 31 21 .rws 1, rf 20 20 .rws 1, rf 19 19 .rws 0, rf 13 8 .rws 0],
   row1 0x104 [rf 31 16 .rws 0xA, rf 15 0 .rws 0x3E8],
   row1 0x108 [rf 15 0 .rws 0x64],
   row1 0x10C [rf 15 0 .rws 0x1388],
   row1 0x110 [rf 13 8 .wo 0, rf 1 0 .wo 0],
   row1 0x114 [rf 31 24 .ro 0, rf 21 16 .ro 0, rf 13 12 .ro 0, rf 10 0 .ro 0],
   row1 0x118 [rf 9 0 .ro 0],
   row1 0x11C [rf 31 0 .ro 0],
   row1 0x120 [rf 31 0 .ro 0],
   rowA 0x124 8 0x4 [rf 31 0 .rc 0],
   row1 0x144 [rf 31 0 .ro 0],
   row1 0x148 [rf 31 0 .ro 0],
   row1 0x14C [rf 30 16 .rw 0, rf 14 0 .rw 0],
   row1 0x150 [rf 15 0 .rws 0x3E8],
   rowA 0x200 12 0x4 [rf 31 0 .rws 0xFFFFFFFF],
   rowA 0x240 15 0x4 [rf 31 16 .rws 0x3E8, rf 0 0 .rws 1],
   rowA 0x280 15 0x4 [rf 15 0 .rws 0],
   row1 0x2C0 [rf 30 16 .ro 0, rf 14 0 .ro 0],
   row1 0x2C4 [rf 14 0 .w1s 0],
   rowA 0x300 15 0x4 [rf 31 0 .rc 0]] ++
  [rowA 0x404 63 0x4 [rf 15 15 .rws 0, rf 14 0 .rws 0],
   rowA 0x500 8 0x4 [kf 31 31 .rws 0, kf 30 29 .rws 0, kf 24 24 .rws 0, kf 23 20 .rws 0, kf 15 0 .rws 0x40],
   row1 0x520 [kf 23 0 .rws 0xFFFFFF],
   row1 0x524 [kf 20 17 .rws 0xF, kf 16 16 .rws 1, kf 7 0 .rws 0xFF],
   row1 0x528 [kf 31 0 .rws 0],
   row1 0x52C [kf 24 0 .rws 0],
   row1 0x530 [kf 31 31 .rws 1, kf 23 16 .rws 0x20, kf 15 0 .rws 0x3E8],
   row1 0x540 [kf 31 28 .ro 0, kf 23 16 .ro 0, kf 11 8 .ro 0],
   row1 0x544 [kf 11 0 .ro 0],
   row1 0x548 [kf 30 29 .ro 0, kf 28 0 .ro 0],
   row1 0x54C [kf 31 0 .ro 0],
   row1 0x550 [kf 31 0 .ro 0],
   row1 0x554 [kf 15 0 .rc 0],
   row1 0x558 [kf 27 22 .ro 0, kf 21 12 .ro 0, kf 7 0 .ro 0],
   row1 0x55C [kf 31 0 .ro 0],
   row1 0x560 [kf 31 0 .ro 0],
   rowA 0x580 8 0x10 [rf 31 0 .rw 0],
   rowA 0x584 8 0x10 [rf 31 0 .rw 0],
   rowA 0x588 8 0x10 [rf 31 31 .rw 0, rf 30 30 .rw 0, rf 29 29 .ro 0, rf 28 28 .ro 0, rf 27 8 .rw 0, rf 7 0 .rw 0],
   rowA 0x58C 8 0x10 [rf 31 0 .rw 0],
   rowA 0x600 32 0x10 [kf 31 31 .rws 0, kf 30 29 .rws 0, kf 28 0 .rws 0]] ++
  [rowA 0x604 32 0x10 [kf 28 0 .rws 0],
   rowA 0x608 32 0x10 [kf 18 16 .rws 0, kf 8 8 .rws 0, kf 4 0 .rws 0],
   rowA 0x60C 32 0x10 [kf 15 8 .rws 0, kf 7 0 .rws 0]]

/-- Tables 12-7, 19-11 (R396). -/
def rowsPWR : List RegRow :=
  [rowA 0x200 8 0x4 [rf 31 30 .rws 0, rf 27 24 .rws 0, kf 16 16 .rw 0, rf 15 0 .rws 0],
   row1 0x220 [kf 15 8 .ro 0, kf 7 0 .ro 0],
   row1 0x224 [kf 1 1 .ro 0, kf 0 0 .ro 0],
   row1 0x228 [rf 31 0 .ro 0],
   row1 0x22C [rf 31 0 .ro 0],
   row1 0x100 [rf 15 0 .ro 0],
   row1 0x104 [rf 15 0 .rc 0xFFFF],
   row1 0x108 [rf 4 4 .ro 0, rf 3 3 .ro 0, rf 2 2 .ro 0, rf 1 1 .ro 0],
   row1 0x10C [kf 31 0 .rc 0],
   row1 0x110 [kf 31 0 .rc 0],
   row1 0x114 [rf 15 0 .ro 0],
   row1 0x118 [kf 23 0 .rws 0],
   row1 0x120 [mf 31 31 .w1c 0, mf 19 16 .ro 0, mf 3 0 .ro 0, mf 15 4 .ro 0],
   row1 0x124 [mf 31 0 .ro 0],
   row1 0x128 [mf 31 0 .ro 0]]

/-- Tables 13-7, 13-8 (R290), the registers of every BRC page. -/
def rowsBRC : List RegRow :=
  [row1 0x100 [rf 15 8 .ro 0, rf 5 5 .w1s 0, rf 4 4 .ro 0, rf 1 0 .ro 0],
   row1 0x104 [rf 31 16 .wo 0],
   row1 0x108 [rf 8 8 .ro 0, rf 2 0 .ro 0],
   row1 0x10C [rf 31 2 .rw 0x2000000],
   row1 0x110 [rf 31 2 .rw 0x2000000],
   row1 0x114 [rf 31 0 .rc 0],
   row1 0x118 [rf 31 0 .rc 0],
   row1 0x11C [rf 31 31 .w1c 0, rf 4 0 .rol 0],
   row1 0x120 [rf 31 0 .rol 0],
   row1 0x124 [rf 31 0 .rol 0],
   row1 0x128 [rf 31 0 .ro 0],
   row1 0x12C [rf 0 0 .w1s 0],
   row1 0x130 [rf 31 16 .rw 0, rf 15 0 .rw 0x64],
   row1 0x134 [rf 31 0 .wo 0],
   row1 0x138 [rf 31 0 .rc 0],
   row1 0x13C [rf 31 0 .rc 0],
   row1 0x140 [rf 7 0 .rw 0xFF],
   row1 0x144 [rf 7 0 .rw 0xFF],
   row1 0x148 [rf 31 0 .rc 0],
   row1 0x14C [rf 31 0 .rc 0]] ++
  [row1 0x150 [rf 31 31 .w1c 0, rf 27 24 .rol 0, rf 18 0 .rol 0]]

/-- Tables 13-7, 13-8 (R290), the device-wide registers. -/
def rowsBRCdev : List RegRow :=
  [row1 0x200 [rf 17 17 .rw 1, rf 16 16 .rw 0, rf 15 0 .rw 0x32],
   row1 0x204 [rf 0 0 .w1s 0],
   row1 0x208 [rf 31 16 .ro 0, rf 0 0 .ro 0],
   row1 0x20C [rf 15 8 .rw 0xA, rf 3 0 .rw 4],
   row1 0x300 [rf 27 24 .rw 6, rf 18 0 .rw 0],
   row1 0x304 [rf 13 0 .rw 0x800],
   row1 0x308 [rf 9 0 .ro 0],
   row1 0x30C [rf 9 0 .ro 0],
   row1 0x310 [rf 31 0 .rc 0],
   rowA 0x400 8 0x10 [rf 27 24 .rw 4, rf 18 0 .rw 0],
   rowA 0x404 8 0x10 [rf 9 0 .ro 0],
   rowA 0x408 8 0x10 [rf 9 0 .ro 0]]

/-- Table 14-7 (R305). -/
def rowsECC : List RegRow :=
  [rowA 0x100 15 0x8 [rf 31 0 .rc 0],
   rowA 0x104 15 0x8 [rf 31 0 .rc 0],
   row1 0x180 [rf 15 0 .rw 0x3E8],
   row1 0x190 [rf 31 31 .w1c 0, rf 27 24 .rol 0, rf 15 12 .rol 0],
   row1 0x194 [rf 31 0 .rol 0],
   row1 0x198 [rf 15 0 .rol 0],
   row1 0x19C [rf 31 0 .rol 0],
   row1 0x1A0 [rf 31 0 .rol 0],
   row1 0x1B0 [rf 31 31 .ro 0, rf 14 0 .ro 0],
   rowA 0x200 15 0x4 [rf 31 16 .ro 0, rf 15 0 .ro 0],
   rowA 0x240 16 0x4 [rf 6 0 .ro 0],
   rowA 0x280 15 0x4 [rf 25 0 .ro 0],
   row1 0x2C0 [rf 0 0 .w1s 0],
   row1 0x2D0 [rf 31 0 .rc 0],
   row1 0x2D4 [rf 31 31 .w1c 0, rf 27 24 .rol 0, rf 16 0 .rol 0],
   row1 0x300 [rf 31 31 .w1s 0, rf 27 24 .rw 0, rf 17 16 .rw 0],
   row1 0x304 [rf 31 0 .rw 0]]

/-- Table 14-8 (R306). -/
def rowsSCB : List RegRow :=
  [row1 0x100 [rf 3 0 .rw 0],
   row1 0x104 [rf 31 0 .rw 0],
   row1 0x108 [rf 31 0 .rw 0],
   row1 0x10C [rf 15 0 .rw 0],
   row1 0x110 [rf 1 1 .w1s 0, rf 0 0 .w1s 0],
   row1 0x114 [rf 1 1 .ro 0],
   row1 0x120 [rf 31 0 .ro 0],
   row1 0x124 [rf 31 0 .ro 0],
   row1 0x128 [rf 31 0 .ro 0],
   row1 0x12C [rf 31 0 .ro 0],
   row1 0x130 [rf 31 0 .ro 0],
   row1 0x134 [rf 31 0 .ro 0],
   row1 0x138 [rf 31 0 .ro 0],
   row1 0x13C [rf 31 0 .ro 0],
   row1 0x140 [rf 31 0 .ro 0],
   row1 0x150 [rf 6 0 .ro 0],
   row1 0x154 [rf 31 0 .rc 0],
   row1 0x158 [rf 14 0 .ro 0]]

/-- Table 15-9 (R327). -/
def rowsHBR : List RegRow :=
  [row1 0x100 [rf 13 13 .ro 0, rf 12 12 .ro 0, rf 11 11 .ro 0, rf 10 10 .ro 0, rf 9 8 .ro 0, rf 6 4 .ro 0, rf 3 1 .ro 0, rf 0 0 .ro 0],
   row1 0x104 [rf 13 0 .rws 0x32],
   row1 0x108 [rf 15 0 .rws 0x2710],
   row1 0x10C [rf 31 16 .rws 0x3E8, rf 10 0 .rws 0x1F4],
   row1 0x110 [rf 31 31 .ro 0],
   row1 0x114 [rf 31 0 .rol 0],
   row1 0x118 [rf 15 0 .rws 0x7D0],
   row1 0x11C [rf 31 0 .ro 0],
   row1 0x120 [rf 31 0 .ro 0],
   row1 0x124 [rf 31 0 .rws 0],
   row1 0x128 [rf 31 0 .rws 0],
   row1 0x12C [rf 5 0 .rws 0],
   row1 0x130 [rf 4 0 .ro 0],
   row1 0x134 [rf 31 0 .ro 0],
   row1 0x138 [rf 31 0 .ro 0xF0000000],
   row1 0x13C [rf 31 0 .rol 0],
   row1 0x140 [rf 31 0 .rol 0],
   row1 0x144 [rf 15 0 .rws 0x64],
   rowA 0x180 16 0x10 [rf 31 12 .rws 0],
   rowA 0x184 16 0x10 [rf 7 0 .rws 0]] ++
  [rowA 0x188 16 0x10 [rf 31 31 .rws 0, rf 21 16 .rws 0xC, rf 1 1 .rws 0, rf 0 0 .rws 0],
   rowA 0x300 32 0x4 [rf 31 31 .ro 0, rf 19 16 .ro 0xF],
   rowA 0x400 16 0x20 [rf 31 3 .rw 0],
   rowA 0x404 16 0x20 [rf 31 0 .rw 0],
   rowA 0x408 8 0x20 [rf 31 31 .rw 0, rf 23 16 .rw 0, rf 15 15 .rw 0, rf 13 0 .ro 0, rf 3 0 .rw 6],
   rowA 0x508 8 0x20 [rf 31 31 .rw 0, rf 23 16 .rw 0, rf 15 15 .rw 0, rf 13 0 .rw 0x800, rf 3 0 .rw 6],
   rowA 0x40C 16 0x20 [rf 11 0 .ro 0],
   rowA 0x410 16 0x20 [rf 11 0 .rw 0],
   rowA 0x414 16 0x20 [rf 31 16 .ro 0, rf 15 8 .ro 0, rf 0 0 .ro 0],
   rowA 0x418 16 0x20 [rf 0 0 .w1s 0],
   rowA 0x700 14 0x4 [rf 31 0 .rc 0]]

/-- Tables 16-5, 16-6 (R346), the registers of every VHL page. -/
def rowsVHL : List RegRow :=
  [row1 0x100 [rf 15 8 .rws 0x10, rf 0 0 .rws 0],
   rowA 0x104 8 0x4 [rf 11 0 .rws 0x100],
   row1 0x124 [rf 27 16 .rws 0x600, rf 11 0 .rws 0x400],
   row1 0x128 [rf 31 0 .rws 0],
   row1 0x180 [rf 17 8 .ro 0, rf 7 7 .ro 0, rf 6 6 .ro 0, rf 5 4 .ro 0, rf 3 3 .ro 0, rf 2 2 .ro 1, rf 1 1 .ro 1, rf 0 0 .ro 0],
   row1 0x184 [rf 31 0 .ro 0],
   row1 0x188 [rf 31 0 .ro 0],
   row1 0x18C [rf 31 0 .ro 0],
   row1 0x190 [rf 31 0 .ro 0],
   rowA 0x1A0 8 0x4 [rf 15 0 .ro 0],
   row1 0x1C0 [rf 17 0 .ro 0],
   rowA 0x200 17 0x4 [rf 31 0 .rc 0]]

/-- Tables 16-5, 16-6 (R346), the device-wide registers. -/
def rowsVHLdev : List RegRow :=
  [row1 0x400 [rf 31 30 .ro 0, rf 29 20 .ro 0, rf 19 12 .ro 0, rf 11 11 .ro 0, rf 10 10 .ro 0, rf 9 0 .ro 0],
   row1 0x404 [rf 25 16 .rws 0x40, rf 15 0 .rws 0x64],
   row1 0x408 [rf 31 16 .rws 0x3E8, rf 3 0 .rws 3],
   row1 0x40C [rf 15 0 .rws 0x3E8],
   row1 0x410 [rf 31 16 .rws 0x1F4, rf 15 0 .rws 0x64],
   row1 0x414 [rf 10 0 .rw 1],
   row1 0x418 [rf 20 16 .ro 0, rf 15 8 .ro 0, rf 3 0 .ro 0],
   row1 0x420 [rf 31 0 .ro 0],
   row1 0x424 [rf 31 0 .ro 0],
   rowA 0x430 6 0x4 [rf 31 0 .rc 0],
   row1 0x440 [rf 9 0 .rw 0],
   row1 0x444 [rf 8 8 .wo 0, rf 1 0 .wo 0],
   row1 0x448 [rf 1 1 .ro 0, rf 0 0 .ro 0],
   row1 0x44C [rf 31 31 .rw 0, rf 18 18 .ro 0, rf 13 13 .rw 0, rf 10 8 .rw 0, rf 2 0 .rw 0],
   rowA 0x480 4 0x10 [rf 31 0 .rws 0x960],
   rowA 0x484 4 0x10 [rf 15 0 .rws 0x200],
   rowA 0x488 4 0x10 [rf 17 8 .ro 0, rf 7 7 .ro 0, rf 6 6 .ro 0],
   rowA 0x48C 4 0x10 [rf 31 0 .ro 0],
   rowA 0x4C0 4 0x4 [rf 31 0 .rws 0],
   rowB 0x500 4 0x10 4 0x4 [rf 31 0 .rc 0]]

/-- Table 17-8 (R366). -/
def rowsRST : List RegRow :=
  [row1 0x100 [kf 31 27 .ro 0, kf 21 20 .ro 0],
   row1 0x104 [rf 10 8 .ro 0, mf 2 0 .ro 0],
   row1 0x108 [rf 31 0 .wo 0],
   row1 0x10C [rf 31 0 .wo 0],
   row1 0x110 [rf 15 0 .rw 0x1388],
   rowA 0x120 8 0x4 [mf 31 0 .ro 0],
   row1 0x140 [rf 9 8 .ro 0, rf 3 0 .ro 0],
   row1 0x144 [rf 1 1 .rw 0, rf 0 0 .rw 0],
   row1 0x148 [rf 1 1 .ro 0, rf 0 0 .ro 1],
   row1 0x14C [rf 31 16 .rc 0, rf 9 0 .ro 0],
   row1 0x150 [rf 15 8 .ro 0, rf 0 0 .ro 0],
   rowA 0x180 8 0x4 [rf 31 0 .ro 0xFFFFFFFF]]

/-- Table 17-9 (R367). -/
def rowsOPT : List RegRow :=
  [rowA 0x100 16 0x4 [rf 31 0 .ro 0],
   row1 0x140 [rf 18 16 .ro 0, rf 10 8 .ro 0, rf 2 0 .ro 0, rf 31 31 .ro 0, rf 30 30 .ro 0],
   rowA 0x180 16 0x4 [rf 31 0 .rw 0],
   row1 0x1C0 [rf 31 0 .wo 0],
   row1 0x1C4 [rf 11 8 .ro 0, rf 0 0 .ro 0]]

/-- Table 17-10 (R368). -/
def rowsCLK : List RegRow :=
  [row1 0x100 [rf 14 8 .ro 0, rf 1 1 .ro 0, rf 0 0 .ro 0],
   row1 0x104 [rf 31 0 .rc 0],
   row1 0x108 [rf 13 0 .ro 0],
   row1 0x10C [rf 15 0 .ro 0],
   row1 0x110 [rf 14 8 .ro 0]]

/-- Table 18-9 (R382). -/
def rowsUPD : List RegRow :=
  [row1 0x100 [rf 31 24 .ro 0, rf 19 16 .ro 0, rf 0 0 .ro 0],
   row1 0x104 [rf 9 8 .ro 0, rf 4 4 .ro 0, rf 0 0 .ro 0],
   row1 0x108 [rf 31 0 .ro 0],
   row1 0x10C [rf 31 0 .ro 0],
   row1 0x110 [rf 31 0 .ro 0],
   row1 0x114 [mf 31 0 .ro 0],
   row1 0x118 [rf 4 4 .ro 0, rf 3 3 .ro 0, rf 2 2 .ro 0, rf 1 1 .ro 0, rf 0 0 .ro 0],
   row1 0x120 [rf 8 8 .wo 0, rf 3 0 .wo 0],
   row1 0x124 [rf 31 0 .rw 0],
   row1 0x128 [rf 31 0 .rw 0],
   row1 0x12C [rf 26 0 .rw 0],
   row1 0x130 [rf 26 0 .rw 0],
   row1 0x140 [rf 31 0 .rw 0],
   row1 0x144 [rf 31 0 .rw 0],
   row1 0x148 [rf 31 31 .rw 0, rf 30 30 .rw 0, rf 29 29 .ro 0, rf 28 28 .ro 0, rf 27 8 .rw 0, rf 7 0 .rw 0],
   row1 0x150 [rf 31 0 .wo 0],
   row1 0x154 [rf 15 0 .rw 0xA],
   row1 0x158 [rf 15 0 .rw 0x3E8],
   row1 0x15C [rf 31 16 .rw 0, rf 15 0 .rw 0xFFFF],
   row1 0x160 [rf 10 10 .w1s 0, rf 9 9 .w1s 0, rf 8 8 .w1s 0, rf 1 1 .ro 0, mf 0 0 .ro 0]] ++
  [row1 0x164 [mf 31 0 .ro 0],
   row1 0x168 [mf 31 24 .ro 0, mf 19 16 .ro 0, mf 15 0 .ro 0],
   row1 0x174 [rf 23 0 .ro 0],
   row1 0x170 [rf 8 8 .w1s 0, rf 2 0 .rw 0]]

/-- The block registers of a page (R35: 0x100 to 0x7FF). -/
def blockRows (k : PgKind) (n : Nat) : List RegRow :=
  match k with
  | .sys => rowsSYS
  | .rst => rowsRST
  | .opt => rowsOPT
  | .clk => rowsCLK
  | .pwr => rowsPWR
  | .wak => rowsWAK
  | .tim => rowsTIM
  | .vlt0 => rowsVLT0
  | .vlt1 => rowsVLT1
  | .vlt2 => rowsVLT2
  | .vlt3 => rowsVLT3
  | .vlt4 => rowsVLT4
  | .vltX => []
  | .que => rowsQUE
  | .fwd => rowsFWD
  | .lrn => rowsLRN
  | .tbl => rowsTBL
  | .trm0 => rowsTRM0
  | .trm1 => rowsTRM1
  | .trm2 => rowsTRM2
  | .trm3 => rowsTRM3
  | .trmP => rowsTRM4 n 20
  | .trm7 => rowsShaper 32 ++ rowsCBS
  | .trm8 => rowsShaper 32
  | .trm9 => rowsTRM9
  | .trmX => []
  | .eth => rowsETH n
  | .phy => rowsPHY n
  | .can => rowsCAN
  | .lin => rowsLIN
  | .klw0 => rowsKLW0
  | .klw1 => rowsKLW1
  | .klw2 => rowsKLW2
  | .klw3 => rowsKLW3
  | .klw4 => rowsKLW4
  | .klwX => []
  | .aut => rowsAUT
  | .key => rowsKEY
  | .tmp => rowsTMP
  | .sig => rowsSIG
  | .brc => if n = 0 then rowsBRC ++ rowsBRCdev else rowsBRC
  | .ecc => rowsECC
  | .scb => rowsSCB
  | .hbr => rowsHBR
  | .vhl => if n = 0 then rowsVHL ++ rowsVHLdev else rowsVHL
  | .upd => rowsUPD

/-- A row of the list that covers page offset `o`. -/
def findRow : List RegRow → Nat → Option RegRow
  | [], _ => none
  | r :: rs, o => if r.covers o then some r else findRow rs o

/-- The register at a register-space offset, live registers and header only (R34, R35). -/
def liveRow (a : Nat) : Option RegRow :=
  match pageKind (a / 0x1000) with
  | none => none
  | some (k, n) =>
    let o := a % 0x1000
    if o % 4 ≠ 0 then none
    else if o < 0x50 then findRow (hdrRows k n) o
    else if 0x100 ≤ o ∧ o < 0x800 then findRow (blockRows k n) o
    else none

/-- The `_LO` registers of the `_LO`/`_HI` pairs of a page kind: `_HI` stands at the next offset (R8). -/
def loRows : PgKind → List RegRow
  | .sys => [row1 0x120 []]
  | .vlt0 => [row1 0x180 []]
  | .vlt2 => [row1 0x118 []]
  | .fwd => [row1 0x100 [], row1 0x680 [], row1 0x688 []]
  | .lrn => [row1 0x130 []]
  | .tbl => [rowA 0x100 2 0x20 []]
  | .trmP => [rowA 0x108 20 0x40 [], rowA 0x130 20 0x40 []]
  | .trm9 => [row1 0x10C []]
  | .tim => [row1 0x100 [], row1 0x108 [], row1 0x140 [], row1 0x148 [], row1 0x170 [], rowA 0x200 16 0x10 [], rowA 0x304 4 0x10 [], row1 0x350 [], rowA 0x400 57 0x10 []]
  | .eth => [row1 0x110 [], rowA 0x400 64 0x8 []]
  | .can => [row1 0x188 [], row1 0x190 [], row1 0x1DC [], rowA 0x300 16 0x10 []]
  | .lin => [row1 0x108 [], row1 0x114 []]
  | .klw2 => [row1 0x108 [], row1 0x118 []]
  | .klw3 => [row1 0x110 []]
  | .klw4 => [row1 0x100 [], row1 0x11C []]
  | .aut => [row1 0x184 [], row1 0x18C [], row1 0x1A4 [], row1 0x720 []]
  | .key => [row1 0x10C [], row1 0x134 [], row1 0x144 []]
  | .tmp => [row1 0x11C []]
  | .sig => [row1 0x104 []]
  | .wak => [row1 0x11C [], row1 0x144 [], row1 0x54C [], row1 0x55C [], rowA 0x580 8 0x10 []]
  | .pwr => [row1 0x228 [], row1 0x124 []]
  | .brc => [row1 0x120 []]
  | .ecc => [row1 0x19C []]
  | .scb => [row1 0x138 []]
  | .hbr => [row1 0x11C [], row1 0x124 [], row1 0x134 [], row1 0x13C [], rowA 0x180 16 0x10 [], rowA 0x400 16 0x20 []]
  | .vhl => [row1 0x184 [], row1 0x420 [], rowA 0x480 4 0x10 []]
  | .upd => [row1 0x124 [], row1 0x140 []]
  | _ => []

/-- The register is the lower half of a pair (R8). -/
def isLo (a : Nat) : Bool :=
  match pageKind (a / 0x1000) with
  | some (k, _) => a % 0x1000 == 0x18 || (findRow (loRows k) (a % 0x800)).isSome
  | none => false

/-- Some field of the register is shadowed. -/
def RegRow.hasRWS (r : RegRow) : Bool := r.flds.any (fun f => f.acc == .rws)

/-- The register at an offset; a shadow offset (0x800 above a register with RWS fields, R39) has its live register's
row. -/
def regRow (a : Nat) : Option RegRow :=
  if a % 0x1000 < 0x900 then liveRow a
  else
    match liveRow (a - 0x800) with
    | some r => if r.hasRWS then some r else none
    | none => none

/-- The reset value of a row: its fields' reset values in place. -/
def RegRow.rst (r : RegRow) : Word :=
  BitVec.ofNat 32 (r.flds.foldl (fun acc f => acc + f.rst * 2 ^ f.lo) 0)

/-- The value a register takes at reset (R10); 0 for an offset no page maps (R32). -/
def resetValue (a : Nat) : Word :=
  match regRow a with
  | some r => r.rst
  | none => 0


/-! ### The header registers of page `pg` (an index), Table 2-2 -/
def PG_ID (pg : Nat) : Nat := 0x1000 * pg
def PG_ID_type (pg : Nat) : FRef := ⟨(PG_ID pg), 31, 24⟩
def PG_ID_instance (pg : Nat) : FRef := ⟨(PG_ID pg), 23, 16⟩
def PG_ID_major (pg : Nat) : FRef := ⟨(PG_ID pg), 15, 8⟩
def PG_ID_minor (pg : Nat) : FRef := ⟨(PG_ID pg), 7, 0⟩
def PG_CAP (pg : Nat) : Nat := 0x1000 * pg + 0x4
def PG_CAP_block (pg : Nat) : FRef := ⟨(PG_CAP pg), 31, 16⟩
def PG_CAP_queues (pg : Nat) : FRef := ⟨(PG_CAP pg), 11, 8⟩
def PG_CAP_fences (pg : Nat) : FRef := ⟨(PG_CAP pg), 7, 3⟩
def PG_CAP_timed (pg : Nat) : FRef := ⟨(PG_CAP pg), 2, 2⟩
def PG_CAP_isolate (pg : Nat) : FRef := ⟨(PG_CAP pg), 1, 1⟩
def PG_CAP_shadow (pg : Nat) : FRef := ⟨(PG_CAP pg), 0, 0⟩
def PG_READY (pg : Nat) : Nat := 0x1000 * pg + 0x8
def PG_READY_reason (pg : Nat) : FRef := ⟨(PG_READY pg), 15, 8⟩
def PG_READY_ready (pg : Nat) : FRef := ⟨(PG_READY pg), 0, 0⟩
def PG_STATE (pg : Nat) : Nat := 0x1000 * pg + 0xC
def PG_STATE_gen (pg : Nat) : FRef := ⟨(PG_STATE pg), 31, 16⟩
def PG_STATE_armed (pg : Nat) : FRef := ⟨(PG_STATE pg), 8, 8⟩
def PG_STATE_dirty (pg : Nat) : FRef := ⟨(PG_STATE pg), 7, 7⟩
def PG_STATE_locked (pg : Nat) : FRef := ⟨(PG_STATE pg), 6, 6⟩
def PG_STATE_iso (pg : Nat) : FRef := ⟨(PG_STATE pg), 5, 4⟩
def PG_STATE_clk_ok (pg : Nat) : FRef := ⟨(PG_STATE pg), 1, 1⟩
def PG_STATE_in_reset (pg : Nat) : FRef := ⟨(PG_STATE pg), 0, 0⟩
def PG_CTRL (pg : Nat) : Nat := 0x1000 * pg + 0x10
def PG_CTRL_isolate (pg : Nat) : FRef := ⟨(PG_CTRL pg), 2, 2⟩
def PG_CTRL_reset (pg : Nat) : FRef := ⟨(PG_CTRL pg), 1, 1⟩
def PG_CTRL_enable (pg : Nat) : FRef := ⟨(PG_CTRL pg), 0, 0⟩
def PG_COMMIT (pg : Nat) : Nat := 0x1000 * pg + 0x14
def PG_COMMIT_group (pg : Nat) : FRef := ⟨(PG_COMMIT pg), 31, 24⟩
def PG_COMMIT_reason (pg : Nat) : FRef := ⟨(PG_COMMIT pg), 23, 16⟩
def PG_COMMIT_status (pg : Nat) : FRef := ⟨(PG_COMMIT pg), 11, 8⟩
def PG_COMMIT_cmd (pg : Nat) : FRef := ⟨(PG_COMMIT pg), 2, 0⟩
def PG_COMMIT_T_LO (pg : Nat) : Nat := 0x1000 * pg + 0x18
def PG_COMMIT_T_LO_ns (pg : Nat) : FRef := ⟨(PG_COMMIT_T_LO pg), 31, 0⟩
def PG_COMMIT_T_HI (pg : Nat) : Nat := 0x1000 * pg + 0x1C
def PG_COMMIT_T_HI_ns (pg : Nat) : FRef := ⟨(PG_COMMIT_T_HI pg), 31, 0⟩
def PG_IRQ_STAT (pg : Nat) : Nat := 0x1000 * pg + 0x20
def PG_IRQ_STAT_bits (pg : Nat) : FRef := ⟨(PG_IRQ_STAT pg), 31, 0⟩
def PG_IRQ_EN (pg : Nat) : Nat := 0x1000 * pg + 0x24
def PG_IRQ_EN_bits (pg : Nat) : FRef := ⟨(PG_IRQ_EN pg), 31, 0⟩
def PG_IRQ_SET (pg : Nat) : Nat := 0x1000 * pg + 0x28
def PG_IRQ_SET_bits (pg : Nat) : FRef := ⟨(PG_IRQ_SET pg), 31, 0⟩
def PG_IRQ_MSG (pg : Nat) : Nat := 0x1000 * pg + 0x2C
def PG_IRQ_MSG_host_en (pg : Nat) : FRef := ⟨(PG_IRQ_MSG pg), 23, 23⟩
def PG_IRQ_MSG_host_vec (pg : Nat) : FRef := ⟨(PG_IRQ_MSG pg), 21, 16⟩
def PG_IRQ_MSG_brace_en (pg : Nat) : FRef := ⟨(PG_IRQ_MSG pg), 15, 15⟩
def PG_IRQ_MSG_brace_vec (pg : Nat) : FRef := ⟨(PG_IRQ_MSG pg), 7, 0⟩
def PG_ERR_CAP0 (pg : Nat) : Nat := 0x1000 * pg + 0x30
def PG_ERR_CAP0_kind (pg : Nat) : FRef := ⟨(PG_ERR_CAP0 pg), 31, 24⟩
def PG_ERR_CAP0_reason (pg : Nat) : FRef := ⟨(PG_ERR_CAP0 pg), 23, 16⟩
def PG_ERR_CAP0_initiator (pg : Nat) : FRef := ⟨(PG_ERR_CAP0 pg), 15, 12⟩
def PG_ERR_CAP0_offset (pg : Nat) : FRef := ⟨(PG_ERR_CAP0 pg), 11, 0⟩
def PG_ERR_CAP1 (pg : Nat) : Nat := 0x1000 * pg + 0x34
def PG_ERR_CAP1_time (pg : Nat) : FRef := ⟨(PG_ERR_CAP1 pg), 31, 0⟩
def PG_ERR_CAP2 (pg : Nat) : Nat := 0x1000 * pg + 0x38
def PG_ERR_CAP2_detail (pg : Nat) : FRef := ⟨(PG_ERR_CAP2 pg), 31, 0⟩
def PG_ERR_CAP3 (pg : Nat) : Nat := 0x1000 * pg + 0x3C
def PG_ERR_CAP3_detail2 (pg : Nat) : FRef := ⟨(PG_ERR_CAP3 pg), 31, 0⟩
def PG_FENCE (pg : Nat) : Nat := 0x1000 * pg + 0x40
def PG_FENCE_queue (pg : Nat) : FRef := ⟨(PG_FENCE pg), 23, 20⟩
def PG_FENCE_kind (pg : Nat) : FRef := ⟨(PG_FENCE pg), 18, 16⟩
def PG_FENCE_token (pg : Nat) : FRef := ⟨(PG_FENCE pg), 15, 0⟩
def PG_FENCE_DONE (pg : Nat) : Nat := 0x1000 * pg + 0x44
def PG_FENCE_DONE_err_any (pg : Nat) : FRef := ⟨(PG_FENCE_DONE pg), 17, 17⟩
def PG_FENCE_DONE_err (pg : Nat) : FRef := ⟨(PG_FENCE_DONE pg), 16, 16⟩
def PG_FENCE_DONE_token (pg : Nat) : FRef := ⟨(PG_FENCE_DONE pg), 15, 0⟩
def PG_LOCK (pg : Nat) : Nat := 0x1000 * pg + 0x48
def PG_LOCK_key (pg : Nat) : FRef := ⟨(PG_LOCK pg), 31, 0⟩
def PG_SCRATCH (pg : Nat) : Nat := 0x1000 * pg + 0x4C
def PG_SCRATCH_data (pg : Nat) : FRef := ⟨(PG_SCRATCH pg), 31, 0⟩

/-! ### Tables 2-20, 2-22 -/
def SYS_SYS_ID : Nat := 0x100
def SYS_SYS_ID_part : FRef := ⟨SYS_SYS_ID, 31, 16⟩
def SYS_SYS_ID_die : FRef := ⟨SYS_SYS_ID, 15, 8⟩
def SYS_SYS_ID_pkg : FRef := ⟨SYS_SYS_ID, 7, 0⟩
def SYS_MODE : Nat := 0x104
def SYS_MODE_cond : FRef := ⟨SYS_MODE, 22, 16⟩
def SYS_MODE_mode : FRef := ⟨SYS_MODE, 3, 0⟩
def SYS_SUMMARY : Nat := 0x108
def SYS_SUMMARY_err : FRef := ⟨SYS_SUMMARY, 27, 16⟩
def SYS_SUMMARY_ready : FRef := ⟨SYS_SUMMARY, 11, 0⟩
def SYS_DEVID : Nat := 0x10C
def SYS_DEVID_valid : FRef := ⟨SYS_DEVID, 16, 16⟩
def SYS_DEVID_id : FRef := ⟨SYS_DEVID, 9, 0⟩
def SYS_REJ_TRIG : Nat := 0x110
def SYS_REJ_TRIG_count : FRef := ⟨SYS_REJ_TRIG, 31, 16⟩
def SYS_REJ_TRIG_trigger : FRef := ⟨SYS_REJ_TRIG, 12, 8⟩
def SYS_REJ_TRIG_mode : FRef := ⟨SYS_REJ_TRIG, 3, 0⟩
def SYS_BAD_ACC : Nat := 0x114
def SYS_BAD_ACC_write : FRef := ⟨SYS_BAD_ACC, 31, 31⟩
def SYS_BAD_ACC_initiator : FRef := ⟨SYS_BAD_ACC, 30, 28⟩
def SYS_BAD_ACC_offset : FRef := ⟨SYS_BAD_ACC, 25, 0⟩
def SYS_GRP_CMD : Nat := 0x118
def SYS_GRP_CMD_cmd : FRef := ⟨SYS_GRP_CMD, 10, 8⟩
def SYS_GRP_CMD_group : FRef := ⟨SYS_GRP_CMD, 7, 0⟩
def SYS_GRP_STAT : Nat := 0x11C
def SYS_GRP_STAT_page : FRef := ⟨SYS_GRP_STAT, 31, 18⟩
def SYS_GRP_STAT_reason : FRef := ⟨SYS_GRP_STAT, 15, 8⟩
def SYS_GRP_STAT_status : FRef := ⟨SYS_GRP_STAT, 3, 0⟩
def SYS_GRP_T_LO : Nat := 0x120
def SYS_GRP_T_LO_ns : FRef := ⟨SYS_GRP_T_LO, 31, 0⟩
def SYS_GRP_T_HI : Nat := 0x124
def SYS_GRP_T_HI_ns : FRef := ⟨SYS_GRP_T_HI, 31, 0⟩
def SYS_FENCE_TMO : Nat := 0x128
def SYS_FENCE_TMO_ms : FRef := ⟨SYS_FENCE_TMO, 15, 0⟩
def SYS_DEV_RESET : Nat := 0x12C
def SYS_DEV_RESET_key : FRef := ⟨SYS_DEV_RESET, 31, 0⟩

/-! ### Table 3-8 (R82) -/
def VLT_TILL_FREE : Nat := 0x10100
def VLT_TILL_FREE_coins : FRef := ⟨VLT_TILL_FREE, 17, 0⟩
def VLT_BUS_FREE : Nat := 0x10104
def VLT_BUS_FREE_coins : FRef := ⟨VLT_BUS_FREE, 14, 0⟩
def VLT_RSV_FREE : Nat := 0x10108
def VLT_RSV_FREE_coins : FRef := ⟨VLT_RSV_FREE, 25, 0⟩
def VLT_SLIP_FREE : Nat := 0x1010C
def VLT_SLIP_FREE_slips : FRef := ⟨VLT_SLIP_FREE, 20, 0⟩
def VLT_SHR_FREE : Nat := 0x10110
def VLT_SHR_FREE_coins : FRef := ⟨VLT_SHR_FREE, 25, 0⟩
def VLT_HDRM_FREE : Nat := 0x10114
def VLT_HDRM_FREE_coins : FRef := ⟨VLT_HDRM_FREE, 25, 0⟩
def VLT_GXOFF : Nat := 0x10118
def VLT_GXOFF_src : FRef := ⟨VLT_GXOFF, 2, 0⟩
def VLT_MC_PIN : Nat := 0x1011C
def VLT_MC_PIN_coins : FRef := ⟨VLT_MC_PIN, 17, 0⟩
def VLT_TILL_SPILL : Nat := 0x10120
def VLT_TILL_SPILL_coins : FRef := ⟨VLT_TILL_SPILL, 17, 0⟩
def VLT_TILL_XOFF : Nat := 0x10124
def VLT_TILL_XOFF_coins : FRef := ⟨VLT_TILL_XOFF, 17, 0⟩
def VLT_TILL_XON : Nat := 0x10128
def VLT_TILL_XON_coins : FRef := ⟨VLT_TILL_XON, 17, 0⟩
def VLT_SHR_XOFF : Nat := 0x1012C
def VLT_SHR_XOFF_coins : FRef := ⟨VLT_SHR_XOFF, 25, 0⟩
def VLT_SHR_XON : Nat := 0x10130
def VLT_SHR_XON_coins : FRef := ⟨VLT_SHR_XON, 25, 0⟩
def VLT_HEADROOM : Nat := 0x10134
def VLT_HEADROOM_coins : FRef := ⟨VLT_HEADROOM, 25, 0⟩
def VLT_MC_PIN_XOFF : Nat := 0x10138
def VLT_MC_PIN_XOFF_coins : FRef := ⟨VLT_MC_PIN_XOFF, 17, 0⟩
def VLT_MC_PIN_XON : Nat := 0x1013C
def VLT_MC_PIN_XON_coins : FRef := ⟨VLT_MC_PIN_XON, 17, 0⟩
def VLT_SPILL_LO : Nat := 0x10180
def VLT_SPILL_LO_frames : FRef := ⟨VLT_SPILL_LO, 31, 0⟩
def VLT_SPILL_HI : Nat := 0x10184
def VLT_SPILL_HI_frames : FRef := ⟨VLT_SPILL_HI, 31, 0⟩
def VLT_SPILL_ABANDON : Nat := 0x10188
def VLT_SPILL_ABANDON_count : FRef := ⟨VLT_SPILL_ABANDON, 31, 0⟩
def VLT_EMERG : Nat := 0x1018C
def VLT_EMERG_count : FRef := ⟨VLT_EMERG, 31, 0⟩
def VLT_TILL_PE : Nat := 0x10190
def VLT_TILL_PE_count : FRef := ⟨VLT_TILL_PE, 31, 0⟩
def VLT_RSV_CE : Nat := 0x10194
def VLT_RSV_CE_count : FRef := ⟨VLT_RSV_CE, 31, 0⟩
def VLT_RSV_UE : Nat := 0x10198
def VLT_RSV_UE_count : FRef := ⟨VLT_RSV_UE, 31, 0⟩
def VLT_SLIP_UE : Nat := 0x1019C
def VLT_SLIP_UE_count : FRef := ⟨VLT_SLIP_UE, 31, 0⟩
def VLT_LINK_UE : Nat := 0x101A0
def VLT_LINK_UE_count : FRef := ⟨VLT_LINK_UE, 31, 0⟩
def VLT_LOST : Nat := 0x101A4
def VLT_LOST_frames : FRef := ⟨VLT_LOST, 31, 0⟩
def VLT_FLUSH : Nat := 0x101A8
def VLT_FLUSH_count : FRef := ⟨VLT_FLUSH, 31, 0⟩

/-! ### Table 3-9 (R83) -/
def VLT_ACCT_RES (i : Nat) : Nat := 0x11100 + 0x20 * i
def VLT_ACCT_RES_coins (i : Nat) : FRef := ⟨(VLT_ACCT_RES i), 25, 0⟩
def VLT_ACCT_BUS (i : Nat) : Nat := 0x11104 + 0x20 * i
def VLT_ACCT_BUS_coins (i : Nat) : FRef := ⟨(VLT_ACCT_BUS i), 25, 0⟩
def VLT_ACCT_SHR (i : Nat) : Nat := 0x11108 + 0x20 * i
def VLT_ACCT_SHR_coins (i : Nat) : FRef := ⟨(VLT_ACCT_SHR i), 25, 0⟩
def VLT_ACCT_XOFF (i : Nat) : Nat := 0x1110C + 0x20 * i
def VLT_ACCT_XOFF_coins (i : Nat) : FRef := ⟨(VLT_ACCT_XOFF i), 25, 0⟩
def VLT_ACCT_XON (i : Nat) : Nat := 0x11110 + 0x20 * i
def VLT_ACCT_XON_coins (i : Nat) : FRef := ⟨(VLT_ACCT_XON i), 25, 0⟩
def VLT_ACCT_USE (i : Nat) : Nat := 0x11114 + 0x20 * i
def VLT_ACCT_USE_coins (i : Nat) : FRef := ⟨(VLT_ACCT_USE i), 25, 0⟩
def VLT_ACCT_BUSUSE (i : Nat) : Nat := 0x11118 + 0x20 * i
def VLT_ACCT_BUSUSE_coins (i : Nat) : FRef := ⟨(VLT_ACCT_BUSUSE i), 25, 0⟩
def VLT_ACCT_DROP (i : Nat) : Nat := 0x1111C + 0x20 * i
def VLT_ACCT_DROP_frames (i : Nat) : FRef := ⟨(VLT_ACCT_DROP i), 31, 0⟩
def VLT_ACCT_XSTAT : Nat := 0x11300
def VLT_ACCT_XSTAT_xoff : FRef := ⟨VLT_ACCT_XSTAT, 15, 0⟩
def VLT_ACCT_HU (i : Nat) : Nat := 0x11340 + 4 * i
def VLT_ACCT_HU_coins (i : Nat) : FRef := ⟨(VLT_ACCT_HU i), 25, 0⟩
def VLT_ACCT_SU (i : Nat) : Nat := 0x11380 + 4 * i
def VLT_ACCT_SU_coins (i : Nat) : FRef := ⟨(VLT_ACCT_SU i), 25, 0⟩

/-! ### Table 3-10 (R84) -/
def VLT_AUD_CTRL : Nat := 0x12100
def VLT_AUD_CTRL_period : FRef := ⟨VLT_AUD_CTRL, 15, 8⟩
def VLT_AUD_CTRL_auto : FRef := ⟨VLT_AUD_CTRL, 2, 2⟩
def VLT_AUD_CTRL_reclaim : FRef := ⟨VLT_AUD_CTRL, 1, 1⟩
def VLT_AUD_CTRL_walk : FRef := ⟨VLT_AUD_CTRL, 0, 0⟩
def VLT_AUD_STAT : Nat := 0x12104
def VLT_AUD_STAT_walks : FRef := ⟨VLT_AUD_STAT, 31, 16⟩
def VLT_AUD_STAT_last_ok : FRef := ⟨VLT_AUD_STAT, 4, 4⟩
def VLT_AUD_STAT_phase : FRef := ⟨VLT_AUD_STAT, 3, 1⟩
def VLT_AUD_LEAK : Nat := 0x12108
def VLT_AUD_LEAK_coins : FRef := ⟨VLT_AUD_LEAK, 25, 0⟩
def VLT_AUD_DUP : Nat := 0x1210C
def VLT_AUD_DUP_coins : FRef := ⟨VLT_AUD_DUP, 25, 0⟩
def VLT_AUD_RECL : Nat := 0x12110
def VLT_AUD_RECL_coins : FRef := ⟨VLT_AUD_RECL, 25, 0⟩
def VLT_AUD_MISM : Nat := 0x12114
def VLT_AUD_MISM_count : FRef := ⟨VLT_AUD_MISM, 31, 0⟩
def VLT_AUD_LEAKQ_LO : Nat := 0x12118
def VLT_AUD_LEAKQ_LO_item : FRef := ⟨VLT_AUD_LEAKQ_LO, 31, 0⟩
def VLT_AUD_LEAKQ_HI : Nat := 0x1211C
def VLT_AUD_LEAKQ_HI_item : FRef := ⟨VLT_AUD_LEAKQ_HI, 31, 0⟩
def VLT_AUD_CORR : Nat := 0x12120
def VLT_AUD_CORR_coins : FRef := ⟨VLT_AUD_CORR, 25, 0⟩

/-! ### Table 3-11 (R85) -/
def VLT_BP_MAP (i j : Nat) : Nat := 0x13100 + 0x10 * i + 4 * j
def VLT_BP_MAP_cls_hi (i j : Nat) : FRef := ⟨(VLT_BP_MAP i j), 31, 16⟩
def VLT_BP_MAP_cls_lo (i j : Nat) : FRef := ⟨(VLT_BP_MAP i j), 15, 0⟩

/-! ### Table 3-11 (R85) -/
def VLT_HDRM (i : Nat) : Nat := 0x14100 + 4 * i
def VLT_HDRM_coins (i : Nat) : FRef := ⟨(VLT_HDRM i), 19, 0⟩
def VLT_HDRM_USE (i : Nat) : Nat := 0x14300 + 4 * i
def VLT_HDRM_USE_coins (i : Nat) : FRef := ⟨(VLT_HDRM_USE i), 19, 0⟩

/-! ### Table 3-12 (R86) -/
def QUE_VOQ_SEL : Nat := 0x20100
def QUE_VOQ_SEL_voq : FRef := ⟨QUE_VOQ_SEL, 16, 0⟩
def QUE_VOQ_FRAMES : Nat := 0x20104
def QUE_VOQ_FRAMES_frames : FRef := ⟨QUE_VOQ_FRAMES, 25, 0⟩
def QUE_VOQ_COINS : Nat := 0x20108
def QUE_VOQ_COINS_coins : FRef := ⟨QUE_VOQ_COINS, 25, 0⟩
def QUE_VOQ_TILL : Nat := 0x2010C
def QUE_VOQ_TILL_coins : FRef := ⟨QUE_VOQ_TILL, 17, 0⟩
def QUE_VOQ_AGE : Nat := 0x20110
def QUE_VOQ_AGE_us : FRef := ⟨QUE_VOQ_AGE, 31, 0⟩
def QUE_SPILL_THR (i : Nat) : Nat := 0x20120 + 4 * i
def QUE_SPILL_THR_coins (i : Nat) : FRef := ⟨(QUE_SPILL_THR i), 17, 0⟩
def QUE_MC_HOLD (i : Nat) : Nat := 0x20140 + 4 * i
def QUE_MC_HOLD_us (i : Nat) : FRef := ⟨(QUE_MC_HOLD i), 19, 0⟩
def QUE_DRR_Q : Nat := 0x20160
def QUE_DRR_Q_bytes : FRef := ⟨QUE_DRR_Q, 15, 0⟩
def QUE_MC_DROP : Nat := 0x20164
def QUE_MC_DROP_count : FRef := ⟨QUE_MC_DROP, 31, 0⟩
def QUE_XOFF_STAT (i : Nat) : Nat := 0x20180 + 4 * i
def QUE_XOFF_STAT_cls (i : Nat) : FRef := ⟨(QUE_XOFF_STAT i), 31, 0⟩
def QUE_CT_CFG (i : Nat) : Nat := 0x20400 + 4 * i
def QUE_CT_CFG_out_cls (i : Nat) : FRef := ⟨(QUE_CT_CFG i), 15, 8⟩
def QUE_CT_CFG_in_cls (i : Nat) : FRef := ⟨(QUE_CT_CFG i), 7, 0⟩

/-! ### Table 4-14 -/
def FWD_EPOCH_LO : Nat := 0x30100
def FWD_EPOCH_LO_epoch : FRef := ⟨FWD_EPOCH_LO, 31, 0⟩
def FWD_EPOCH_HI : Nat := 0x30104
def FWD_EPOCH_HI_epoch : FRef := ⟨FWD_EPOCH_HI, 15, 0⟩
def FWD_SEED (i j : Nat) : Nat := 0x30110 + 8 * i + 4 * j
def FWD_SEED_seed (i j : Nat) : FRef := ⟨(FWD_SEED i j), 31, 0⟩
def FWD_RELOC : Nat := 0x30128
def FWD_RELOC_moves : FRef := ⟨FWD_RELOC, 5, 0⟩
def FWD_PORT_CFG (i : Nat) : Nat := 0x30200 + 4 * i
def FWD_PORT_CFG_dom (i : Nat) : FRef := ⟨(FWD_PORT_CFG i), 31, 16⟩
def FWD_PORT_CFG_sid_en (i : Nat) : FRef := ⟨(FWD_PORT_CFG i), 15, 15⟩
def FWD_PORT_CFG_learn (i : Nat) : FRef := ⟨(FWD_PORT_CFG i), 14, 14⟩
def FWD_PORT_CFG_accept (i : Nat) : FRef := ⟨(FWD_PORT_CFG i), 13, 12⟩
def FWD_PORT_CFG_pvid (i : Nat) : FRef := ⟨(FWD_PORT_CFG i), 11, 0⟩
def FWD_PCP_MAP (i : Nat) : Nat := 0x30400 + 4 * i
def FWD_PCP_MAP_cls (i : Nat) : FRef := ⟨(FWD_PCP_MAP i), 23, 0⟩
def FWD_DISC (i : Nat) : Nat := 0x30600 + 4 * i
def FWD_DISC_count (i : Nat) : FRef := ⟨(FWD_DISC i), 31, 0⟩
def FWD_LOOKUP0_LO : Nat := 0x30680
def FWD_LOOKUP0_LO_count : FRef := ⟨FWD_LOOKUP0_LO, 31, 0⟩
def FWD_LOOKUP0_HI : Nat := 0x30684
def FWD_LOOKUP0_HI_count : FRef := ⟨FWD_LOOKUP0_HI, 31, 0⟩
def FWD_LOOKUP1_LO : Nat := 0x30688
def FWD_LOOKUP1_LO_count : FRef := ⟨FWD_LOOKUP1_LO, 31, 0⟩
def FWD_LOOKUP1_HI : Nat := 0x3068C
def FWD_LOOKUP1_HI_count : FRef := ⟨FWD_LOOKUP1_HI, 31, 0⟩
def FWD_TBL_UE : Nat := 0x30690
def FWD_TBL_UE_count : FRef := ⟨FWD_TBL_UE, 31, 0⟩
def FWD_UE_CAP : Nat := 0x30694
def FWD_UE_CAP_table : FRef := ⟨FWD_UE_CAP, 22, 20⟩
def FWD_UE_CAP_slot : FRef := ⟨FWD_UE_CAP, 18, 0⟩
def FWD_TRACE_CTRL : Nat := 0x30700
def FWD_TRACE_CTRL_any : FRef := ⟨FWD_TRACE_CTRL, 9, 9⟩
def FWD_TRACE_CTRL_arm : FRef := ⟨FWD_TRACE_CTRL, 8, 8⟩
def FWD_TRACE_CTRL_port : FRef := ⟨FWD_TRACE_CTRL, 6, 0⟩
def FWD_TRACE_RES (i : Nat) : Nat := 0x30704 + 4 * i
def FWD_TRACE_RES_snap (i : Nat) : FRef := ⟨(FWD_TRACE_RES i), 31, 0⟩

/-! ### Table 4-15 -/
def LRN_LQ_COUNT : Nat := 0x38100
def LRN_LQ_COUNT_events : FRef := ⟨LRN_LQ_COUNT, 12, 0⟩
def LRN_LQ_OVF : Nat := 0x38104
def LRN_LQ_OVF_count : FRef := ⟨LRN_LQ_OVF, 31, 0⟩
def LRN_FLAP_CFG : Nat := 0x38108
def LRN_FLAP_CFG_window_ms : FRef := ⟨LRN_FLAP_CFG, 31, 16⟩
def LRN_FLAP_CFG_mode : FRef := ⟨LRN_FLAP_CFG, 4, 4⟩
def LRN_FLAP_CFG_moves : FRef := ⟨LRN_FLAP_CFG, 3, 0⟩
def LRN_FLAP_HOLD : Nat := 0x3810C
def LRN_FLAP_HOLD_s : FRef := ⟨LRN_FLAP_HOLD, 15, 0⟩
def LRN_SWEEP_PER : Nat := 0x38110
def LRN_SWEEP_PER_ms : FRef := ⟨LRN_SWEEP_PER, 31, 0⟩
def LRN_SWEEP_CTRL : Nat := 0x38114
def LRN_SWEEP_CTRL_passes : FRef := ⟨LRN_SWEEP_CTRL, 31, 16⟩
def LRN_SWEEP_CTRL_now : FRef := ⟨LRN_SWEEP_CTRL, 1, 1⟩
def LRN_SWEEP_CTRL_en : FRef := ⟨LRN_SWEEP_CTRL, 0, 0⟩
def LRN_LEARNED : Nat := 0x38118
def LRN_LEARNED_count : FRef := ⟨LRN_LEARNED, 31, 0⟩
def LRN_MOVES : Nat := 0x3811C
def LRN_MOVES_count : FRef := ⟨LRN_MOVES, 31, 0⟩
def LRN_FLAPS : Nat := 0x38120
def LRN_FLAPS_count : FRef := ⟨LRN_FLAPS, 31, 0⟩
def LRN_REMOVED : Nat := 0x38124
def LRN_REMOVED_count : FRef := ⟨LRN_REMOVED, 31, 0⟩
def LRN_LFULL : Nat := 0x38128
def LRN_LFULL_count : FRef := ⟨LRN_LFULL, 31, 0⟩
def LRN_FLAP_CAP_LO : Nat := 0x38130
def LRN_FLAP_CAP_LO_mac : FRef := ⟨LRN_FLAP_CAP_LO, 31, 0⟩
def LRN_FLAP_CAP_HI : Nat := 0x38134
def LRN_FLAP_CAP_HI_first : FRef := ⟨LRN_FLAP_CAP_HI, 30, 24⟩
def LRN_FLAP_CAP_HI_seen : FRef := ⟨LRN_FLAP_CAP_HI, 22, 16⟩
def LRN_FLAP_CAP_HI_mac : FRef := ⟨LRN_FLAP_CAP_HI, 15, 0⟩
def LRN_FLAP_FID : Nat := 0x38138
def LRN_FLAP_FID_fid : FRef := ⟨LRN_FLAP_FID, 11, 0⟩
def LRN_LEASH (i : Nat) : Nat := 0x38200 + 4 * i
def LRN_LEASH_mode (i : Nat) : FRef := ⟨(LRN_LEASH i), 31, 31⟩
def LRN_LEASH_max (i : Nat) : FRef := ⟨(LRN_LEASH i), 18, 0⟩
def LRN_LEASH_USE (i : Nat) : Nat := 0x38300 + 4 * i
def LRN_LEASH_USE_entries (i : Nat) : FRef := ⟨(LRN_LEASH_USE i), 18, 0⟩
def LRN_LEASH_CNT (i : Nat) : Nat := 0x38400 + 4 * i
def LRN_LEASH_CNT_frames (i : Nat) : FRef := ⟨(LRN_LEASH_CNT i), 31, 0⟩

/-! ### Table 4-16 -/
def TBL_RING_LO (i : Nat) : Nat := 0x40100 + 0x20 * i
def TBL_RING_LO_base (i : Nat) : FRef := ⟨(TBL_RING_LO i), 31, 7⟩
def TBL_RING_HI (i : Nat) : Nat := 0x40104 + 0x20 * i
def TBL_RING_HI_base (i : Nat) : FRef := ⟨(TBL_RING_HI i), 7, 0⟩
def TBL_RING_SIZE (i : Nat) : Nat := 0x40108 + 0x20 * i
def TBL_RING_SIZE_log2 (i : Nat) : FRef := ⟨(TBL_RING_SIZE i), 3, 0⟩
def TBL_RING_HEAD (i : Nat) : Nat := 0x4010C + 0x20 * i
def TBL_RING_HEAD_index (i : Nat) : FRef := ⟨(TBL_RING_HEAD i), 11, 0⟩
def TBL_RING_TAIL (i : Nat) : Nat := 0x40110 + 0x20 * i
def TBL_RING_TAIL_index (i : Nat) : FRef := ⟨(TBL_RING_TAIL i), 11, 0⟩
def TBL_RING_STAT (i : Nat) : Nat := 0x40114 + 0x20 * i
def TBL_RING_STAT_at (i : Nat) : FRef := ⟨(TBL_RING_STAT i), 31, 16⟩
def TBL_RING_STAT_cause (i : Nat) : FRef := ⟨(TBL_RING_STAT i), 15, 8⟩
def TBL_RING_STAT_halted (i : Nat) : FRef := ⟨(TBL_RING_STAT i), 0, 0⟩
def TBL_RING_CTRL (i : Nat) : Nat := 0x40118 + 0x20 * i
def TBL_RING_CTRL_resume (i : Nat) : FRef := ⟨(TBL_RING_CTRL i), 1, 1⟩
def TBL_RING_CTRL_en (i : Nat) : FRef := ⟨(TBL_RING_CTRL i), 0, 0⟩
def TBL_LOCK_TMO : Nat := 0x40180
def TBL_LOCK_TMO_ms : FRef := ⟨TBL_LOCK_TMO, 15, 0⟩
def TBL_LOCKS : Nat := 0x40184
def TBL_LOCKS_entries : FRef := ⟨TBL_LOCKS, 4, 0⟩
def TBL_LOCK_EXP : Nat := 0x40188
def TBL_LOCK_EXP_count : FRef := ⟨TBL_LOCK_EXP, 31, 0⟩
def TBL_ENTRIES (i : Nat) : Nat := 0x40190 + 4 * i
def TBL_ENTRIES_entries (i : Nat) : FRef := ⟨(TBL_ENTRIES i), 18, 0⟩
def TBL_STASH (i : Nat) : Nat := 0x401A0 + 4 * i
def TBL_STASH_entries (i : Nat) : FRef := ⟨(TBL_STASH i), 4, 0⟩

/-! ### Table 5-4 (R126) -/
def TRM_SDU_DROP : Nat := 0x50100
def TRM_SDU_DROP_count : FRef := ⟨TRM_SDU_DROP, 31, 0⟩
def TRM_GATE_DROP : Nat := 0x50104
def TRM_GATE_DROP_count : FRef := ⟨TRM_GATE_DROP, 31, 0⟩
def TRM_POL_DROP : Nat := 0x50108
def TRM_POL_DROP_count : FRef := ⟨TRM_POL_DROP, 31, 0⟩
def TRM_DUP_DROP : Nat := 0x5010C
def TRM_DUP_DROP_count : FRef := ⟨TRM_DUP_DROP, 31, 0⟩

/-! ### Table 5-4 -/
def TRM_STR_SEL : Nat := 0x51100
def TRM_STR_SEL_stream : FRef := ⟨TRM_STR_SEL, 11, 0⟩
def TRM_STR_CMD : Nat := 0x51104
def TRM_STR_CMD_staged : FRef := ⟨TRM_STR_CMD, 8, 8⟩
def TRM_STR_CMD_cmd : FRef := ⟨TRM_STR_CMD, 1, 0⟩
def TRM_STR_STAT : Nat := 0x51108
def TRM_STR_STAT_err : FRef := ⟨TRM_STR_STAT, 1, 1⟩
def TRM_STR_STAT_busy : FRef := ⟨TRM_STR_STAT, 0, 0⟩
def TRM_STR_DATA (i : Nat) : Nat := 0x51110 + 4 * i
def TRM_STR_DATA_rec (i : Nat) : FRef := ⟨(TRM_STR_DATA i), 31, 0⟩
def TRM_STR_CNT (i : Nat) : Nat := 0x51140 + 4 * i
def TRM_STR_CNT_count (i : Nat) : FRef := ⟨(TRM_STR_CNT i), 31, 0⟩
def TRM_STR_UE : Nat := 0x51180
def TRM_STR_UE_count : FRef := ⟨TRM_STR_UE, 31, 0⟩

/-! ### Table 5-4 -/
def TRM_SG_SEL : Nat := 0x52100
def TRM_SG_SEL_gate : FRef := ⟨TRM_SG_SEL, 22, 16⟩
def TRM_SG_SEL_bank : FRef := ⟨TRM_SG_SEL, 15, 15⟩
def TRM_SG_SEL_target : FRef := ⟨TRM_SG_SEL, 14, 14⟩
def TRM_SG_SEL_entry : FRef := ⟨TRM_SG_SEL, 5, 0⟩
def TRM_SG_CMD : Nat := 0x52104
def TRM_SG_CMD_staged : FRef := ⟨TRM_SG_CMD, 8, 8⟩
def TRM_SG_CMD_cmd : FRef := ⟨TRM_SG_CMD, 1, 0⟩
def TRM_SG_STAT : Nat := 0x52108
def TRM_SG_STAT_err : FRef := ⟨TRM_SG_STAT, 1, 1⟩
def TRM_SG_STAT_busy : FRef := ⟨TRM_SG_STAT, 0, 0⟩
def TRM_SG_DATA (i : Nat) : Nat := 0x52110 + 4 * i
def TRM_SG_DATA_rec (i : Nat) : FRef := ⟨(TRM_SG_DATA i), 31, 0⟩

/-! ### Table 5-4 -/
def TRM_FR_SEL : Nat := 0x53100
def TRM_FR_SEL_fn : FRef := ⟨TRM_FR_SEL, 9, 0⟩
def TRM_FR_CMD : Nat := 0x53104
def TRM_FR_CMD_cmd : FRef := ⟨TRM_FR_CMD, 1, 0⟩
def TRM_FR_STAT : Nat := 0x53108
def TRM_FR_STAT_err : FRef := ⟨TRM_FR_STAT, 1, 1⟩
def TRM_FR_STAT_busy : FRef := ⟨TRM_FR_STAT, 0, 0⟩
def TRM_FR_DATA (i : Nat) : Nat := 0x53110 + 4 * i
def TRM_FR_DATA_rec (i : Nat) : FRef := ⟨(TRM_FR_DATA i), 31, 0⟩
def TRM_FR_ST0 : Nat := 0x53118
def TRM_FR_ST0_take_any : FRef := ⟨TRM_FR_ST0, 16, 16⟩
def TRM_FR_ST0_seq : FRef := ⟨TRM_FR_ST0, 15, 0⟩
def TRM_FR_ST1 : Nat := 0x5311C
def TRM_FR_ST1_history : FRef := ⟨TRM_FR_ST1, 31, 0⟩
def TRM_FR_CNT (i : Nat) : Nat := 0x53140 + 4 * i
def TRM_FR_CNT_count (i : Nat) : FRef := ⟨(TRM_FR_CNT i), 31, 0⟩

/-! ### Table 5-8 (R127), pages 4 to 6 -/
def TRM_TAS_CTRL (p : Nat) : Nat := 0x54000 + p / 20 * 0x1000 + (p % 20) * 0x40 + 0x100
def TRM_TAS_CTRL_bank (p : Nat) : FRef := ⟨(TRM_TAS_CTRL p), 1, 1⟩
def TRM_TAS_CTRL_en (p : Nat) : FRef := ⟨(TRM_TAS_CTRL p), 0, 0⟩
def TRM_TAS_LEN (p : Nat) : Nat := 0x54000 + p / 20 * 0x1000 + (p % 20) * 0x40 + 0x104
def TRM_TAS_LEN_len (p : Nat) : FRef := ⟨(TRM_TAS_LEN p), 10, 0⟩
def TRM_TAS_BASE_LO (p : Nat) : Nat := 0x54000 + p / 20 * 0x1000 + (p % 20) * 0x40 + 0x108
def TRM_TAS_BASE_LO_base (p : Nat) : FRef := ⟨(TRM_TAS_BASE_LO p), 31, 0⟩
def TRM_TAS_BASE_HI (p : Nat) : Nat := 0x54000 + p / 20 * 0x1000 + (p % 20) * 0x40 + 0x10C
def TRM_TAS_BASE_HI_base (p : Nat) : FRef := ⟨(TRM_TAS_BASE_HI p), 31, 0⟩
def TRM_TAS_CYCLE (p : Nat) : Nat := 0x54000 + p / 20 * 0x1000 + (p % 20) * 0x40 + 0x110
def TRM_TAS_CYCLE_ns (p : Nat) : FRef := ⟨(TRM_TAS_CYCLE p), 29, 0⟩
def TRM_TAS_EXT (p : Nat) : Nat := 0x54000 + p / 20 * 0x1000 + (p % 20) * 0x40 + 0x114
def TRM_TAS_EXT_ns (p : Nat) : FRef := ⟨(TRM_TAS_EXT p), 29, 0⟩
def TRM_TAS_ADV (p : Nat) : Nat := 0x54000 + p / 20 * 0x1000 + (p % 20) * 0x40 + 0x118
def TRM_TAS_ADV_ns (p : Nat) : FRef := ⟨(TRM_TAS_ADV p), 9, 0⟩
def TRM_TAS_STAT (p : Nat) : Nat := 0x54000 + p / 20 * 0x1000 + (p % 20) * 0x40 + 0x11C
def TRM_TAS_STAT_entry (p : Nat) : FRef := ⟨(TRM_TAS_STAT p), 25, 16⟩
def TRM_TAS_STAT_err (p : Nat) : FRef := ⟨(TRM_TAS_STAT p), 3, 3⟩
def TRM_TAS_STAT_pend (p : Nat) : FRef := ⟨(TRM_TAS_STAT p), 2, 2⟩
def TRM_TAS_STAT_run (p : Nat) : FRef := ⟨(TRM_TAS_STAT p), 1, 1⟩
def TRM_TAS_STAT_oper (p : Nat) : FRef := ⟨(TRM_TAS_STAT p), 0, 0⟩
def TRM_TAS_OVR (p : Nat) : Nat := 0x54000 + p / 20 * 0x1000 + (p % 20) * 0x40 + 0x120
def TRM_TAS_OVR_count (p : Nat) : FRef := ⟨(TRM_TAS_OVR p), 31, 0⟩
def TRM_PRE_CFG (p : Nat) : Nat := 0x54000 + p / 20 * 0x1000 + (p % 20) * 0x40 + 0x124
def TRM_PRE_CFG_verify_ms (p : Nat) : FRef := ⟨(TRM_PRE_CFG p), 23, 16⟩
def TRM_PRE_CFG_frag (p : Nat) : FRef := ⟨(TRM_PRE_CFG p), 11, 10⟩
def TRM_PRE_CFG_verify_dis (p : Nat) : FRef := ⟨(TRM_PRE_CFG p), 9, 9⟩
def TRM_PRE_CFG_pre_en (p : Nat) : FRef := ⟨(TRM_PRE_CFG p), 8, 8⟩
def TRM_PRE_CFG_express (p : Nat) : FRef := ⟨(TRM_PRE_CFG p), 7, 0⟩
def TRM_PRE_STAT (p : Nat) : Nat := 0x54000 + p / 20 * 0x1000 + (p % 20) * 0x40 + 0x128
def TRM_PRE_STAT_hold (p : Nat) : FRef := ⟨(TRM_PRE_STAT p), 3, 3⟩
def TRM_PRE_STAT_verify (p : Nat) : FRef := ⟨(TRM_PRE_STAT p), 2, 0⟩
def TRM_PEND_T_LO (p : Nat) : Nat := 0x54000 + p / 20 * 0x1000 + (p % 20) * 0x40 + 0x130
def TRM_PEND_T_LO_ns (p : Nat) : FRef := ⟨(TRM_PEND_T_LO p), 31, 0⟩
def TRM_PEND_T_HI (p : Nat) : Nat := 0x54000 + p / 20 * 0x1000 + (p % 20) * 0x40 + 0x134
def TRM_PEND_T_HI_ns (p : Nat) : FRef := ⟨(TRM_PEND_T_HI p), 31, 0⟩
def TRM_EGR_CFG (p : Nat) : Nat := 0x54000 + p / 20 * 0x1000 + (p % 20) * 0x40 + 0x138
def TRM_EGR_CFG_dei_mark (p : Nat) : FRef := ⟨(TRM_EGR_CFG p), 1, 1⟩
def TRM_EGR_CFG_strip (p : Nat) : FRef := ⟨(TRM_EGR_CFG p), 0, 0⟩

/-! ### Table 5-8 (R127), pages 7 and 8 -/
def TRM_SHAPER (p c : Nat) : Nat := if p ≤ 31 then 0x57100 + 0x20 * p + 4 * c else 0x58100 + 0x20 * (p - 32) + 4 * c
def TRM_SHAPER_en (p c : Nat) : FRef := ⟨(TRM_SHAPER p c), 31, 31⟩
def TRM_SHAPER_idle_slope (p c : Nat) : FRef := ⟨(TRM_SHAPER p c), 25, 0⟩
def TRM_CBS_SEL : Nat := 0x57500
def TRM_CBS_SEL_port : FRef := ⟨TRM_CBS_SEL, 8, 3⟩
def TRM_CBS_SEL_class : FRef := ⟨TRM_CBS_SEL, 2, 0⟩
def TRM_CBS_CRED : Nat := 0x57504
def TRM_CBS_CRED_bits : FRef := ⟨TRM_CBS_CRED, 31, 0⟩

/-! ### Table 5-8 (R127) -/
def TRM_GCL_SEL : Nat := 0x59100
def TRM_GCL_SEL_port : FRef := ⟨TRM_GCL_SEL, 27, 22⟩
def TRM_GCL_SEL_bank : FRef := ⟨TRM_GCL_SEL, 10, 10⟩
def TRM_GCL_SEL_entry : FRef := ⟨TRM_GCL_SEL, 9, 0⟩
def TRM_GCL_CMD : Nat := 0x59104
def TRM_GCL_CMD_cmd : FRef := ⟨TRM_GCL_CMD, 1, 0⟩
def TRM_GCL_STAT : Nat := 0x59108
def TRM_GCL_STAT_err : FRef := ⟨TRM_GCL_STAT, 1, 1⟩
def TRM_GCL_STAT_busy : FRef := ⟨TRM_GCL_STAT, 0, 0⟩
def TRM_GCL_DATA_LO : Nat := 0x5910C
def TRM_GCL_DATA_LO_interval : FRef := ⟨TRM_GCL_DATA_LO, 31, 0⟩
def TRM_GCL_DATA_HI : Nat := 0x59110
def TRM_GCL_DATA_HI_op : FRef := ⟨TRM_GCL_DATA_HI, 9, 8⟩
def TRM_GCL_DATA_HI_gates : FRef := ⟨TRM_GCL_DATA_HI, 7, 0⟩

/-! ### Tables 6-10, 6-11 (R150) -/
def TIM_TICK_LO : Nat := 0x8100
def TIM_TICK_LO_ticks : FRef := ⟨TIM_TICK_LO, 31, 0⟩
def TIM_TICK_HI : Nat := 0x8104
def TIM_TICK_HI_ticks : FRef := ⟨TIM_TICK_HI, 31, 0⟩
def TIM_NOW_LO : Nat := 0x8108
def TIM_NOW_LO_ns : FRef := ⟨TIM_NOW_LO, 31, 0⟩
def TIM_NOW_HI : Nat := 0x810C
def TIM_NOW_HI_ns : FRef := ⟨TIM_NOW_HI, 31, 0⟩
def TIM_NOW_FRAC : Nat := 0x8110
def TIM_NOW_FRAC_frac : FRef := ⟨TIM_NOW_FRAC, 15, 0⟩
def TIM_STAT : Nat := 0x8114
def TIM_STAT_lock_run : FRef := ⟨TIM_STAT, 27, 24⟩
def TIM_STAT_gen : FRef := ⟨TIM_STAT, 23, 16⟩
def TIM_STAT_slot : FRef := ⟨TIM_STAT, 13, 12⟩
def TIM_STAT_src : FRef := ⟨TIM_STAT, 9, 8⟩
def TIM_STAT_set : FRef := ⟨TIM_STAT, 4, 4⟩
def TIM_STAT_state : FRef := ⟨TIM_STAT, 2, 0⟩
def TIM_RATE : Nat := 0x8118
def TIM_RATE_rate : FRef := ⟨TIM_RATE, 31, 0⟩
def TIM_INTEG : Nat := 0x811C
def TIM_INTEG_integ : FRef := ⟨TIM_INTEG, 31, 0⟩
def TIM_SRC : Nat := 0x8120
def TIM_SRC_slot : FRef := ⟨TIM_SRC, 5, 4⟩
def TIM_SRC_src : FRef := ⟨TIM_SRC, 1, 0⟩
def TIM_SERVO_CFG : Nat := 0x8124
def TIM_SERVO_CFG_ki : FRef := ⟨TIM_SERVO_CFG, 11, 8⟩
def TIM_SERVO_CFG_kp : FRef := ⟨TIM_SERVO_CFG, 3, 0⟩
def TIM_STEP_THR : Nat := 0x8128
def TIM_STEP_THR_ns : FRef := ⟨TIM_STEP_THR, 31, 0⟩
def TIM_OUTLIER : Nat := 0x812C
def TIM_OUTLIER_cnt : FRef := ⟨TIM_OUTLIER, 31, 28⟩
def TIM_OUTLIER_ns : FRef := ⟨TIM_OUTLIER, 27, 0⟩
def TIM_LOCK_NS : Nat := 0x8130
def TIM_LOCK_NS_ns : FRef := ⟨TIM_LOCK_NS, 15, 0⟩
def TIM_HOLD_TMO : Nat := 0x8134
def TIM_HOLD_TMO_ms : FRef := ⟨TIM_HOLD_TMO, 15, 0⟩
def TIM_RATE_MAX : Nat := 0x8138
def TIM_RATE_MAX_ppm : FRef := ⟨TIM_RATE_MAX, 9, 0⟩
def TIM_MEAS_E_LO : Nat := 0x8140
def TIM_MEAS_E_LO_e : FRef := ⟨TIM_MEAS_E_LO, 31, 0⟩
def TIM_MEAS_E_HI : Nat := 0x8144
def TIM_MEAS_E_HI_e : FRef := ⟨TIM_MEAS_E_HI, 31, 0⟩
def TIM_MEAS_T_LO : Nat := 0x8148
def TIM_MEAS_T_LO_t : FRef := ⟨TIM_MEAS_T_LO, 31, 0⟩
def TIM_MEAS_T_HI : Nat := 0x814C
def TIM_MEAS_T_HI_t : FRef := ⟨TIM_MEAS_T_HI, 31, 0⟩
def TIM_MEAS_CTL : Nat := 0x8150
def TIM_MEAS_CTL_gen : FRef := ⟨TIM_MEAS_CTL, 15, 8⟩
def TIM_MEAS_CTL_slot : FRef := ⟨TIM_MEAS_CTL, 5, 4⟩
def TIM_MEAS_CTL_submit : FRef := ⟨TIM_MEAS_CTL, 0, 0⟩
def TIM_SAMPLES : Nat := 0x8154
def TIM_SAMPLES_count : FRef := ⟨TIM_SAMPLES, 31, 0⟩
def TIM_REFUSED : Nat := 0x8158
def TIM_REFUSED_count : FRef := ⟨TIM_REFUSED, 31, 0⟩
def TIM_STALE : Nat := 0x815C
def TIM_STALE_count : FRef := ⟨TIM_STALE, 31, 0⟩
def TIM_OUTLIERS : Nat := 0x8160
def TIM_OUTLIERS_count : FRef := ⟨TIM_OUTLIERS, 31, 0⟩
def TIM_STEPS : Nat := 0x8164
def TIM_STEPS_count : FRef := ⟨TIM_STEPS, 31, 0⟩
def TIM_LAST_E : Nat := 0x8168
def TIM_LAST_E_ns : FRef := ⟨TIM_LAST_E, 31, 0⟩
def TIM_ADJ_LO : Nat := 0x8170
def TIM_ADJ_LO_value : FRef := ⟨TIM_ADJ_LO, 31, 0⟩
def TIM_ADJ_HI : Nat := 0x8174
def TIM_ADJ_HI_value : FRef := ⟨TIM_ADJ_HI, 31, 0⟩
def TIM_ADJ_CMD : Nat := 0x8178
def TIM_ADJ_CMD_cmd : FRef := ⟨TIM_ADJ_CMD, 1, 0⟩
def TIM_DOM_CFG (i : Nat) : Nat := 0x8180 + 4 * i
def TIM_DOM_CFG_en (i : Nat) : FRef := ⟨(TIM_DOM_CFG i), 8, 8⟩
def TIM_DOM_CFG_number (i : Nat) : FRef := ⟨(TIM_DOM_CFG i), 7, 0⟩
def TIM_SL_T_LO (i : Nat) : Nat := 0x8200 + 0x10 * i
def TIM_SL_T_LO_ns (i : Nat) : FRef := ⟨(TIM_SL_T_LO i), 31, 0⟩
def TIM_SL_T_HI (i : Nat) : Nat := 0x8204 + 0x10 * i
def TIM_SL_T_HI_ns (i : Nat) : FRef := ⟨(TIM_SL_T_HI i), 31, 0⟩
def TIM_SL_CTL (i : Nat) : Nat := 0x8208 + 0x10 * i
def TIM_SL_CTL_armed (i : Nat) : FRef := ⟨(TIM_SL_CTL i), 31, 31⟩
def TIM_SL_CTL_rearm (i : Nat) : FRef := ⟨(TIM_SL_CTL i), 30, 30⟩
def TIM_SL_CTL_late (i : Nat) : FRef := ⟨(TIM_SL_CTL i), 29, 29⟩
def TIM_SL_CTL_fired (i : Nat) : FRef := ⟨(TIM_SL_CTL i), 28, 28⟩
def TIM_SL_CTL_args (i : Nat) : FRef := ⟨(TIM_SL_CTL i), 27, 8⟩
def TIM_SL_CTL_action (i : Nat) : FRef := ⟨(TIM_SL_CTL i), 7, 0⟩
def TIM_SL_PER (i : Nat) : Nat := 0x820C + 0x10 * i
def TIM_SL_PER_ns (i : Nat) : FRef := ⟨(TIM_SL_PER i), 31, 0⟩
def TIM_CAP_CFG (i : Nat) : Nat := 0x8300 + 0x10 * i
def TIM_CAP_CFG_en (i : Nat) : FRef := ⟨(TIM_CAP_CFG i), 12, 12⟩
def TIM_CAP_CFG_edge (i : Nat) : FRef := ⟨(TIM_CAP_CFG i), 9, 8⟩
def TIM_CAP_CFG_gpio (i : Nat) : FRef := ⟨(TIM_CAP_CFG i), 4, 0⟩
def TIM_CAP_T_LO (i : Nat) : Nat := 0x8304 + 0x10 * i
def TIM_CAP_T_LO_ns (i : Nat) : FRef := ⟨(TIM_CAP_T_LO i), 31, 0⟩
def TIM_CAP_T_HI (i : Nat) : Nat := 0x8308 + 0x10 * i
def TIM_CAP_T_HI_ns (i : Nat) : FRef := ⟨(TIM_CAP_T_HI i), 31, 0⟩
def TIM_CAP_OVR (i : Nat) : Nat := 0x830C + 0x10 * i
def TIM_CAP_OVR_count (i : Nat) : FRef := ⟨(TIM_CAP_OVR i), 31, 0⟩
def TIM_TSQ_NE0 : Nat := 0x8340
def TIM_TSQ_NE0_ports : FRef := ⟨TIM_TSQ_NE0, 31, 0⟩
def TIM_TSQ_NE1 : Nat := 0x8344
def TIM_TSQ_NE1_ports : FRef := ⟨TIM_TSQ_NE1, 24, 0⟩
def TIM_TSQ_CAP_SEL : Nat := 0x8348
def TIM_TSQ_CAP_SEL_port : FRef := ⟨TIM_TSQ_CAP_SEL, 6, 0⟩
def TIM_TSQ_CAP_ID : Nat := 0x834C
def TIM_TSQ_CAP_ID_valid : FRef := ⟨TIM_TSQ_CAP_ID, 31, 31⟩
def TIM_TSQ_CAP_ID_msgtype : FRef := ⟨TIM_TSQ_CAP_ID, 23, 20⟩
def TIM_TSQ_CAP_ID_seq : FRef := ⟨TIM_TSQ_CAP_ID, 15, 0⟩
def TIM_TSQ_CAP_T_LO : Nat := 0x8350
def TIM_TSQ_CAP_T_LO_ns : FRef := ⟨TIM_TSQ_CAP_T_LO, 31, 0⟩
def TIM_TSQ_CAP_T_HI : Nat := 0x8354
def TIM_TSQ_CAP_T_HI_ns : FRef := ⟨TIM_TSQ_CAP_T_HI, 31, 0⟩
def TIM_LATE : Nat := 0x8358
def TIM_LATE_count : FRef := ⟨TIM_LATE, 31, 0⟩
def TIM_SKIP : Nat := 0x835C
def TIM_SKIP_count : FRef := ⟨TIM_SKIP, 31, 0⟩
def TIM_GPIO_OWN : Nat := 0x8360
def TIM_GPIO_OWN_pins : FRef := ⟨TIM_GPIO_OWN, 23, 0⟩
def TIM_TSQ_RST : Nat := 0x8364
def TIM_TSQ_RST_count : FRef := ⟨TIM_TSQ_RST, 31, 0⟩
def TIM_TSQ_LO (i : Nat) : Nat := 0x8400 + 0x10 * i
def TIM_TSQ_LO_item (i : Nat) : FRef := ⟨(TIM_TSQ_LO i), 31, 0⟩
def TIM_TSQ_HI (i : Nat) : Nat := 0x8404 + 0x10 * i
def TIM_TSQ_HI_item (i : Nat) : FRef := ⟨(TIM_TSQ_HI i), 31, 0⟩
def TIM_TSQ_CNT (i : Nat) : Nat := 0x8408 + 0x10 * i
def TIM_TSQ_CNT_items (i : Nat) : FRef := ⟨(TIM_TSQ_CNT i), 8, 0⟩
def TIM_TSQ_LOST (i : Nat) : Nat := 0x840C + 0x10 * i
def TIM_TSQ_LOST_count (i : Nat) : FRef := ⟨(TIM_TSQ_LOST i), 31, 0⟩

/-! ### Table 7-5 -/
def ETH_CFG (n : Nat) : Nat := 0x100100 + 0x2000 * n
def ETH_CFG_vox (n : Nat) : FRef := ⟨(ETH_CFG n), 16, 16⟩
def ETH_CFG_max_len (n : Nat) : FRef := ⟨(ETH_CFG n), 13, 0⟩
def ETH_FC_CFG (n : Nat) : Nat := 0x100104 + 0x2000 * n
def ETH_FC_CFG_quanta (n : Nat) : FRef := ⟨(ETH_FC_CFG n), 31, 16⟩
def ETH_FC_CFG_rx_ign (n : Nat) : FRef := ⟨(ETH_FC_CFG n), 1, 1⟩
def ETH_FC_CFG_mode (n : Nat) : FRef := ⟨(ETH_FC_CFG n), 0, 0⟩
def ETH_PWD_CFG (n : Nat) : Nat := 0x100108 + 0x2000 * n
def ETH_PWD_CFG_ms (n : Nat) : FRef := ⟨(ETH_PWD_CFG n), 31, 16⟩
def ETH_PWD_CFG_action (n : Nat) : FRef := ⟨(ETH_PWD_CFG n), 1, 0⟩
def ETH_PWD_IGN (n : Nat) : Nat := 0x10010C + 0x2000 * n
def ETH_PWD_IGN_ms (n : Nat) : FRef := ⟨(ETH_PWD_IGN n), 15, 0⟩
def ETH_MAC_LO (n : Nat) : Nat := 0x100110 + 0x2000 * n
def ETH_MAC_LO_mac (n : Nat) : FRef := ⟨(ETH_MAC_LO n), 31, 0⟩
def ETH_MAC_HI (n : Nat) : Nat := 0x100114 + 0x2000 * n
def ETH_MAC_HI_mac (n : Nat) : FRef := ⟨(ETH_MAC_HI n), 15, 0⟩
def ETH_LINK_CFG (n : Nat) : Nat := 0x100118 + 0x2000 * n
def ETH_LINK_CFG_hold_ms (n : Nat) : FRef := ⟨(ETH_LINK_CFG n), 13, 0⟩
def ETH_EGR_PCP (n : Nat) : Nat := 0x10011C + 0x2000 * n
def ETH_EGR_PCP_pcp (n : Nat) : FRef := ⟨(ETH_EGR_PCP n), 23, 0⟩
def ETH_STAT (n : Nat) : Nat := 0x100120 + 0x2000 * n
def ETH_STAT_bp (n : Nat) : FRef := ⟨(ETH_STAT n), 31, 24⟩
def ETH_STAT_paused (n : Nat) : FRef := ⟨(ETH_STAT n), 23, 16⟩
def ETH_STAT_speed (n : Nat) : FRef := ⟨(ETH_STAT n), 3, 1⟩
def ETH_STAT_link (n : Nat) : FRef := ⟨(ETH_STAT n), 0, 0⟩
def ETH_PWD_STAT (n : Nat) : Nat := 0x100124 + 0x2000 * n
def ETH_PWD_STAT_broken (n : Nat) : FRef := ⟨(ETH_PWD_STAT n), 7, 0⟩
def ETH_PWD_TRIPS (n : Nat) : Nat := 0x100128 + 0x2000 * n
def ETH_PWD_TRIPS_count (n : Nat) : FRef := ⟨(ETH_PWD_TRIPS n), 31, 0⟩
def ETH_LINK_DOWNS (n : Nat) : Nat := 0x10012C + 0x2000 * n
def ETH_LINK_DOWNS_count (n : Nat) : FRef := ⟨(ETH_LINK_DOWNS n), 31, 0⟩
def ETH_LDG_CTL (n : Nat) : Nat := 0x100130 + 0x2000 * n
def ETH_LDG_CTL_clear (n : Nat) : FRef := ⟨(ETH_LDG_CTL n), 1, 1⟩
def ETH_LDG_CTL_snap (n : Nat) : FRef := ⟨(ETH_LDG_CTL n), 0, 0⟩
def ETH_LDG_HALF0 (n : Nat) : Nat := 0x100134 + 0x2000 * n
def ETH_LDG_HALF0_half (n : Nat) : FRef := ⟨(ETH_LDG_HALF0 n), 31, 0⟩
def ETH_LDG_HALF1 (n : Nat) : Nat := 0x100138 + 0x2000 * n
def ETH_LDG_HALF1_half (n : Nat) : FRef := ⟨(ETH_LDG_HALF1 n), 31, 0⟩
def ETH_LDG_LO (n i : Nat) : Nat := 0x100400 + 0x2000 * n + 8 * i
def ETH_LDG_LO_count (n i : Nat) : FRef := ⟨(ETH_LDG_LO n i), 31, 0⟩
def ETH_LDG_HI (n i : Nat) : Nat := 0x100404 + 0x2000 * n + 8 * i
def ETH_LDG_HI_count (n i : Nat) : FRef := ⟨(ETH_LDG_HI n i), 7, 0⟩

/-! ### Table 7-6 -/
def PHY_CFG (n : Nat) : Nat := 0x101100 + 0x2000 * n
def PHY_CFG_type_b (n : Nat) : FRef := ⟨(PHY_CFG n), 10, 10⟩
def PHY_CFG_lpi_en (n : Nat) : FRef := ⟨(PHY_CFG n), 8, 8⟩
def PHY_CFG_speed (n : Nat) : FRef := ⟨(PHY_CFG n), 6, 4⟩
def PHY_CFG_role (n : Nat) : FRef := ⟨(PHY_CFG n), 0, 0⟩
def PHY_LPI_IDLE (n : Nat) : Nat := 0x101104 + 0x2000 * n
def PHY_LPI_IDLE_us (n : Nat) : FRef := ⟨(PHY_LPI_IDLE n), 15, 0⟩
def PHY_SQI_THR (n : Nat) : Nat := 0x101108 + 0x2000 * n
def PHY_SQI_THR_sqi (n : Nat) : FRef := ⟨(PHY_SQI_THR n), 2, 0⟩
def PHY_STAT (n : Nat) : Nat := 0x10110C + 0x2000 * n
def PHY_STAT_sqi (n : Nat) : FRef := ⟨(PHY_STAT n), 11, 9⟩
def PHY_STAT_pll (n : Nat) : FRef := ⟨(PHY_STAT n), 8, 8⟩
def PHY_STAT_speed (n : Nat) : FRef := ⟨(PHY_STAT n), 6, 4⟩
def PHY_STAT_lpi_rx (n : Nat) : FRef := ⟨(PHY_STAT n), 3, 3⟩
def PHY_STAT_lpi_tx (n : Nat) : FRef := ⟨(PHY_STAT n), 2, 2⟩
def PHY_STAT_pcs_lock (n : Nat) : FRef := ⟨(PHY_STAT n), 1, 1⟩
def PHY_STAT_link (n : Nat) : FRef := ⟨(PHY_STAT n), 0, 0⟩
def PHY_TRAIN_MS (n : Nat) : Nat := 0x101110 + 0x2000 * n
def PHY_TRAIN_MS_ms (n : Nat) : FRef := ⟨(PHY_TRAIN_MS n), 15, 0⟩
def PHY_DIAG_CMD (n : Nat) : Nat := 0x101114 + 0x2000 * n
def PHY_DIAG_CMD_abort (n : Nat) : FRef := ⟨(PHY_DIAG_CMD n), 1, 1⟩
def PHY_DIAG_CMD_run (n : Nat) : FRef := ⟨(PHY_DIAG_CMD n), 0, 0⟩
def PHY_DIAG_RES (n : Nat) : Nat := 0x101118 + 0x2000 * n
def PHY_DIAG_RES_valid (n : Nat) : FRef := ⟨(PHY_DIAG_RES n), 31, 31⟩
def PHY_DIAG_RES_dist (n : Nat) : FRef := ⟨(PHY_DIAG_RES n), 19, 8⟩
def PHY_DIAG_RES_result (n : Nat) : FRef := ⟨(PHY_DIAG_RES n), 3, 0⟩
def PHY_LINK_FAIL (n : Nat) : Nat := 0x10111C + 0x2000 * n
def PHY_LINK_FAIL_count (n : Nat) : FRef := ⟨(PHY_LINK_FAIL n), 31, 0⟩
def PHY_PCS_ERR (n : Nat) : Nat := 0x101120 + 0x2000 * n
def PHY_PCS_ERR_count (n : Nat) : FRef := ⟨(PHY_PCS_ERR n), 31, 0⟩
def PHY_FEC_CORR (n : Nat) : Nat := 0x101124 + 0x2000 * n
def PHY_FEC_CORR_count (n : Nat) : FRef := ⟨(PHY_FEC_CORR n), 31, 0⟩
def PHY_FEC_UNC (n : Nat) : Nat := 0x101128 + 0x2000 * n
def PHY_FEC_UNC_count (n : Nat) : FRef := ⟨(PHY_FEC_UNC n), 31, 0⟩

/-! ### Table 8-8 (R192) -/
def CAN_CFG (n : Nat) : Nat := 0x180100 + 0x1000 * n
def CAN_CFG_retry (n : Nat) : FRef := ⟨(CAN_CFG n), 31, 24⟩
def CAN_CFG_iso_silent (n : Nat) : FRef := ⟨(CAN_CFG n), 17, 17⟩
def CAN_CFG_boff_auto (n : Nat) : FRef := ⟨(CAN_CFG n), 16, 16⟩
def CAN_CFG_proto (n : Nat) : FRef := ⟨(CAN_CFG n), 9, 8⟩
def CAN_CFG_pad (n : Nat) : FRef := ⟨(CAN_CFG n), 7, 0⟩
def CAN_NBT (n : Nat) : Nat := 0x180104 + 0x1000 * n
def CAN_NBT_brp (n : Nat) : FRef := ⟨(CAN_NBT n), 31, 27⟩
def CAN_NBT_tseg1 (n : Nat) : FRef := ⟨(CAN_NBT n), 26, 18⟩
def CAN_NBT_tseg2 (n : Nat) : FRef := ⟨(CAN_NBT n), 17, 11⟩
def CAN_NBT_sjw (n : Nat) : FRef := ⟨(CAN_NBT n), 10, 4⟩
def CAN_DBT (n : Nat) : Nat := 0x180108 + 0x1000 * n
def CAN_DBT_brp (n : Nat) : FRef := ⟨(CAN_DBT n), 31, 27⟩
def CAN_DBT_tseg1 (n : Nat) : FRef := ⟨(CAN_DBT n), 25, 20⟩
def CAN_DBT_tseg2 (n : Nat) : FRef := ⟨(CAN_DBT n), 19, 15⟩
def CAN_DBT_sjw (n : Nat) : FRef := ⟨(CAN_DBT n), 14, 10⟩
def CAN_XBT (n : Nat) : Nat := 0x18010C + 0x1000 * n
def CAN_XBT_brp (n : Nat) : FRef := ⟨(CAN_XBT n), 31, 27⟩
def CAN_XBT_tseg1 (n : Nat) : FRef := ⟨(CAN_XBT n), 25, 20⟩
def CAN_XBT_tseg2 (n : Nat) : FRef := ⟨(CAN_XBT n), 19, 15⟩
def CAN_XBT_sjw (n : Nat) : FRef := ⟨(CAN_XBT n), 14, 10⟩
def CAN_TDC (n : Nat) : Nat := 0x180110 + 0x1000 * n
def CAN_TDC_fd_tdc_en (n : Nat) : FRef := ⟨(CAN_TDC n), 31, 31⟩
def CAN_TDC_xl_tdc_en (n : Nat) : FRef := ⟨(CAN_TDC n), 30, 30⟩
def CAN_TDC_xl_tdco (n : Nat) : FRef := ⟨(CAN_TDC n), 23, 16⟩
def CAN_TDC_fd_tdco (n : Nat) : FRef := ⟨(CAN_TDC n), 7, 0⟩
def CAN_XPWM (n : Nat) : Nat := 0x180114 + 0x1000 * n
def CAN_XPWM_pwmo (n : Nat) : FRef := ⟨(CAN_XPWM n), 23, 16⟩
def CAN_XPWM_pwml (n : Nat) : FRef := ⟨(CAN_XPWM n), 13, 8⟩
def CAN_XPWM_pwms (n : Nat) : FRef := ⟨(CAN_XPWM n), 5, 0⟩
def CAN_TRX (n : Nat) : Nat := 0x180118 + 0x1000 * n
def CAN_TRX_xl_fast (n : Nat) : FRef := ⟨(CAN_TRX n), 5, 5⟩
def CAN_TRX_sic_en (n : Nat) : FRef := ⟨(CAN_TRX n), 4, 4⟩
def CAN_TRX_mode (n : Nat) : FRef := ⟨(CAN_TRX n), 1, 0⟩
def CAN_RX_CFG (n : Nat) : Nat := 0x18011C + 0x1000 * n
def CAN_RX_CFG_lbank (n : Nat) : FRef := ⟨(CAN_RX_CFG n), 8, 8⟩
def CAN_RX_CFG_f1_ovw (n : Nat) : FRef := ⟨(CAN_RX_CFG n), 5, 5⟩
def CAN_RX_CFG_f0_ovw (n : Nat) : FRef := ⟨(CAN_RX_CFG n), 4, 4⟩
def CAN_RX_CFG_nomatch (n : Nat) : FRef := ⟨(CAN_RX_CFG n), 3, 0⟩
def CAN_LB_FLT (n i : Nat) : Nat := 0x180120 + 0x1000 * n + 8 * i
def CAN_LB_FLT_n (n i : Nat) : FRef := ⟨(CAN_LB_FLT n i), 26, 16⟩
def CAN_LB_FLT_base (n i : Nat) : FRef := ⟨(CAN_LB_FLT n i), 13, 0⟩
def CAN_LB_OWN (n i : Nat) : Nat := 0x180124 + 0x1000 * n + 8 * i
def CAN_LB_OWN_n (n i : Nat) : FRef := ⟨(CAN_LB_OWN n i), 22, 16⟩
def CAN_LB_OWN_base (n i : Nat) : FRef := ⟨(CAN_LB_OWN n i), 13, 0⟩
def CAN_OBJ_CFG (n : Nat) : Nat := 0x180130 + 0x1000 * n
def CAN_OBJ_CFG_n (n : Nat) : FRef := ⟨(CAN_OBJ_CFG n), 31, 22⟩
def CAN_OBJ_CFG_dcap (n : Nat) : FRef := ⟨(CAN_OBJ_CFG n), 21, 20⟩
def CAN_OBJ_CFG_base (n : Nat) : FRef := ⟨(CAN_OBJ_CFG n), 13, 0⟩
def CAN_RXF0_CFG (n : Nat) : Nat := 0x180134 + 0x1000 * n
def CAN_RXF0_CFG_n (n : Nat) : FRef := ⟨(CAN_RXF0_CFG n), 31, 24⟩
def CAN_RXF0_CFG_dcap (n : Nat) : FRef := ⟨(CAN_RXF0_CFG n), 21, 20⟩
def CAN_RXF0_CFG_base (n : Nat) : FRef := ⟨(CAN_RXF0_CFG n), 13, 0⟩
def CAN_RXF1_CFG (n : Nat) : Nat := 0x180138 + 0x1000 * n
def CAN_RXF1_CFG_n (n : Nat) : FRef := ⟨(CAN_RXF1_CFG n), 31, 24⟩
def CAN_RXF1_CFG_dcap (n : Nat) : FRef := ⟨(CAN_RXF1_CFG n), 21, 20⟩
def CAN_RXF1_CFG_base (n : Nat) : FRef := ⟨(CAN_RXF1_CFG n), 13, 0⟩
def CAN_TXQ_CFG (n : Nat) : Nat := 0x18013C + 0x1000 * n
def CAN_TXQ_CFG_guard (n : Nat) : FRef := ⟨(CAN_TXQ_CFG n), 31, 16⟩
def CAN_TXQ_CFG_n (n : Nat) : FRef := ⟨(CAN_TXQ_CFG n), 5, 0⟩
def CAN_BOFF_CFG (n : Nat) : Nat := 0x180140 + 0x1000 * n
def CAN_BOFF_CFG_wait_ms (n : Nat) : FRef := ⟨(CAN_BOFF_CFG n), 31, 16⟩
def CAN_BOFF_CFG_hold_ms (n : Nat) : FRef := ⟨(CAN_BOFF_CFG n), 15, 0⟩
def CAN_CTL (n : Nat) : Nat := 0x180144 + 0x1000 * n
def CAN_CTL_restart (n : Nat) : FRef := ⟨(CAN_CTL n), 0, 0⟩
def CAN_STAT (n : Nat) : Nat := 0x180180 + 0x1000 * n
def CAN_STAT_tec (n : Nat) : FRef := ⟨(CAN_STAT n), 24, 16⟩
def CAN_STAT_rec (n : Nat) : FRef := ⟨(CAN_STAT n), 15, 8⟩
def CAN_STAT_lec (n : Nat) : FRef := ⟨(CAN_STAT n), 6, 4⟩
def CAN_STAT_state (n : Nat) : FRef := ⟨(CAN_STAT n), 3, 2⟩
def CAN_STAT_busy (n : Nat) : FRef := ⟨(CAN_STAT n), 1, 1⟩
def CAN_RXF_STAT (n : Nat) : Nat := 0x180184 + 0x1000 * n
def CAN_RXF_STAT_f1 (n : Nat) : FRef := ⟨(CAN_RXF_STAT n), 23, 16⟩
def CAN_RXF_STAT_f0 (n : Nat) : FRef := ⟨(CAN_RXF_STAT n), 7, 0⟩
def CAN_RXF0_LO (n : Nat) : Nat := 0x180188 + 0x1000 * n
def CAN_RXF0_LO_item (n : Nat) : FRef := ⟨(CAN_RXF0_LO n), 31, 0⟩
def CAN_RXF0_HI (n : Nat) : Nat := 0x18018C + 0x1000 * n
def CAN_RXF0_HI_item (n : Nat) : FRef := ⟨(CAN_RXF0_HI n), 31, 0⟩
def CAN_RXF1_LO (n : Nat) : Nat := 0x180190 + 0x1000 * n
def CAN_RXF1_LO_item (n : Nat) : FRef := ⟨(CAN_RXF1_LO n), 31, 0⟩
def CAN_RXF1_HI (n : Nat) : Nat := 0x180194 + 0x1000 * n
def CAN_RXF1_HI_item (n : Nat) : FRef := ⟨(CAN_RXF1_HI n), 31, 0⟩
def CAN_RXF0_ADDR (n : Nat) : Nat := 0x180198 + 0x1000 * n
def CAN_RXF0_ADDR_addr (n : Nat) : FRef := ⟨(CAN_RXF0_ADDR n), 13, 0⟩
def CAN_RXF1_ADDR (n : Nat) : Nat := 0x18019C + 0x1000 * n
def CAN_RXF1_ADDR_addr (n : Nat) : FRef := ⟨(CAN_RXF1_ADDR n), 13, 0⟩
def CAN_RXF_POP (n : Nat) : Nat := 0x1801A0 + 0x1000 * n
def CAN_RXF_POP_f1 (n : Nat) : FRef := ⟨(CAN_RXF_POP n), 1, 1⟩
def CAN_RXF_POP_f0 (n : Nat) : FRef := ⟨(CAN_RXF_POP n), 0, 0⟩
def CAN_OBJ_SEL (n : Nat) : Nat := 0x1801A4 + 0x1000 * n
def CAN_OBJ_SEL_obj (n : Nat) : FRef := ⟨(CAN_OBJ_SEL n), 7, 0⟩
def CAN_OBJ_CMD (n : Nat) : Nat := 0x1801A8 + 0x1000 * n
def CAN_OBJ_CMD_cmd (n : Nat) : FRef := ⟨(CAN_OBJ_CMD n), 1, 0⟩
def CAN_OBJ_STAT (n : Nat) : Nat := 0x1801AC + 0x1000 * n
def CAN_OBJ_STAT_locked (n : Nat) : FRef := ⟨(CAN_OBJ_STAT n), 31, 31⟩
def CAN_OBJ_STAT_new (n : Nat) : FRef := ⟨(CAN_OBJ_STAT n), 30, 30⟩
def CAN_OBJ_STAT_lost (n : Nat) : FRef := ⟨(CAN_OBJ_STAT n), 29, 29⟩
def CAN_OBJ_STAT_ue (n : Nat) : FRef := ⟨(CAN_OBJ_STAT n), 28, 28⟩
def CAN_OBJ_STAT_addr (n : Nat) : FRef := ⟨(CAN_OBJ_STAT n), 13, 0⟩
def CAN_OBJ_NEW (n i : Nat) : Nat := 0x1801B0 + 0x1000 * n + 4 * i
def CAN_OBJ_NEW_new (n i : Nat) : FRef := ⟨(CAN_OBJ_NEW n i), 31, 0⟩
def CAN_MR_ADDR (n : Nat) : Nat := 0x1801D0 + 0x1000 * n
def CAN_MR_ADDR_word (n : Nat) : FRef := ⟨(CAN_MR_ADDR n), 13, 0⟩
def CAN_MR_DATA (n : Nat) : Nat := 0x1801D4 + 0x1000 * n
def CAN_MR_DATA_data (n : Nat) : FRef := ⟨(CAN_MR_DATA n), 31, 0⟩
def CAN_OWN_CAP_ID (n : Nat) : Nat := 0x1801D8 + 0x1000 * n
def CAN_OWN_CAP_ID_valid (n : Nat) : FRef := ⟨(CAN_OWN_CAP_ID n), 31, 31⟩
def CAN_OWN_CAP_ID_fmt (n : Nat) : FRef := ⟨(CAN_OWN_CAP_ID n), 30, 29⟩
def CAN_OWN_CAP_ID_id (n : Nat) : FRef := ⟨(CAN_OWN_CAP_ID n), 28, 0⟩
def CAN_OWN_CAP_T_LO (n : Nat) : Nat := 0x1801DC + 0x1000 * n
def CAN_OWN_CAP_T_LO_ns (n : Nat) : FRef := ⟨(CAN_OWN_CAP_T_LO n), 31, 0⟩
def CAN_OWN_CAP_T_HI (n : Nat) : Nat := 0x1801E0 + 0x1000 * n
def CAN_OWN_CAP_T_HI_ns (n : Nat) : FRef := ⟨(CAN_OWN_CAP_T_HI n), 31, 0⟩
def CAN_CLASH_CAP (n : Nat) : Nat := 0x1801E4 + 0x1000 * n
def CAN_CLASH_CAP_valid (n : Nat) : FRef := ⟨(CAN_CLASH_CAP n), 31, 31⟩
def CAN_CLASH_CAP_fmt (n : Nat) : FRef := ⟨(CAN_CLASH_CAP n), 30, 29⟩
def CAN_CLASH_CAP_id (n : Nat) : FRef := ⟨(CAN_CLASH_CAP n), 28, 0⟩
def CAN_TO_ID (n i : Nat) : Nat := 0x180200 + 0x1000 * n + 8 * i
def CAN_TO_ID_fmt (n i : Nat) : FRef := ⟨(CAN_TO_ID n i), 30, 29⟩
def CAN_TO_ID_id (n i : Nat) : FRef := ⟨(CAN_TO_ID n i), 28, 0⟩
def CAN_TO_CFG (n i : Nat) : Nat := 0x180204 + 0x1000 * n + 8 * i
def CAN_TO_CFG_en (n i : Nat) : FRef := ⟨(CAN_TO_CFG n i), 31, 31⟩
def CAN_TO_CFG_repeat (n i : Nat) : FRef := ⟨(CAN_TO_CFG n i), 30, 30⟩
def CAN_TO_CFG_full (n i : Nat) : FRef := ⟨(CAN_TO_CFG n i), 0, 0⟩
def CAN_TO_SL_T_LO (n i : Nat) : Nat := 0x180300 + 0x1000 * n + 0x10 * i
def CAN_TO_SL_T_LO_ns (n i : Nat) : FRef := ⟨(CAN_TO_SL_T_LO n i), 31, 0⟩
def CAN_TO_SL_T_HI (n i : Nat) : Nat := 0x180304 + 0x1000 * n + 0x10 * i
def CAN_TO_SL_T_HI_ns (n i : Nat) : FRef := ⟨(CAN_TO_SL_T_HI n i), 31, 0⟩
def CAN_TO_SL_CTL (n i : Nat) : Nat := 0x180308 + 0x1000 * n + 0x10 * i
def CAN_TO_SL_CTL_armed (n i : Nat) : FRef := ⟨(CAN_TO_SL_CTL n i), 31, 31⟩
def CAN_TO_SL_CTL_rearm (n i : Nat) : FRef := ⟨(CAN_TO_SL_CTL n i), 30, 30⟩
def CAN_TO_SL_CTL_late (n i : Nat) : FRef := ⟨(CAN_TO_SL_CTL n i), 29, 29⟩
def CAN_TO_SL_CTL_fired (n i : Nat) : FRef := ⟨(CAN_TO_SL_CTL n i), 28, 28⟩
def CAN_TO_SL_CTL_args (n i : Nat) : FRef := ⟨(CAN_TO_SL_CTL n i), 27, 8⟩
def CAN_TO_SL_CTL_action (n i : Nat) : FRef := ⟨(CAN_TO_SL_CTL n i), 7, 0⟩
def CAN_TO_SL_PER (n i : Nat) : Nat := 0x18030C + 0x1000 * n + 0x10 * i
def CAN_TO_SL_PER_ns (n i : Nat) : FRef := ⟨(CAN_TO_SL_PER n i), 31, 0⟩
def CAN_CNT (n i : Nat) : Nat := 0x180400 + 0x1000 * n + 4 * i
def CAN_CNT_count (n i : Nat) : FRef := ⟨(CAN_CNT n i), 31, 0⟩

/-! ### Table 8-10 (R193) -/
def LIN_CFG (n : Nat) : Nat := 0x1A0100 + 0x1000 * n
def LIN_CFG_baud (n : Nat) : FRef := ⟨(LIN_CFG n), 30, 16⟩
def LIN_CFG_brk (n : Nat) : FRef := ⟨(LIN_CFG n), 12, 8⟩
def LIN_CFG_del (n : Nat) : FRef := ⟨(LIN_CFG n), 6, 5⟩
def LIN_CFG_term (n : Nat) : FRef := ⟨(LIN_CFG n), 1, 1⟩
def LIN_CFG_role (n : Nat) : FRef := ⟨(LIN_CFG n), 0, 0⟩
def LIN_SCH_CTL (n : Nat) : Nat := 0x1A0104 + 0x1000 * n
def LIN_SCH_CTL_len (n : Nat) : FRef := ⟨(LIN_SCH_CTL n), 14, 8⟩
def LIN_SCH_CTL_bank (n : Nat) : FRef := ⟨(LIN_SCH_CTL n), 1, 1⟩
def LIN_SCH_CTL_en (n : Nat) : FRef := ⟨(LIN_SCH_CTL n), 0, 0⟩
def LIN_SCH_BASE_LO (n : Nat) : Nat := 0x1A0108 + 0x1000 * n
def LIN_SCH_BASE_LO_base (n : Nat) : FRef := ⟨(LIN_SCH_BASE_LO n), 31, 0⟩
def LIN_SCH_BASE_HI (n : Nat) : Nat := 0x1A010C + 0x1000 * n
def LIN_SCH_BASE_HI_base (n : Nat) : FRef := ⟨(LIN_SCH_BASE_HI n), 31, 0⟩
def LIN_SCH_STAT (n : Nat) : Nat := 0x1A0110 + 0x1000 * n
def LIN_SCH_STAT_entry (n : Nat) : FRef := ⟨(LIN_SCH_STAT n), 13, 8⟩
def LIN_SCH_STAT_err (n : Nat) : FRef := ⟨(LIN_SCH_STAT n), 3, 3⟩
def LIN_SCH_STAT_pend (n : Nat) : FRef := ⟨(LIN_SCH_STAT n), 2, 2⟩
def LIN_SCH_STAT_run (n : Nat) : FRef := ⟨(LIN_SCH_STAT n), 1, 1⟩
def LIN_SCH_STAT_oper (n : Nat) : FRef := ⟨(LIN_SCH_STAT n), 0, 0⟩
def LIN_PEND_T_LO (n : Nat) : Nat := 0x1A0114 + 0x1000 * n
def LIN_PEND_T_LO_ns (n : Nat) : FRef := ⟨(LIN_PEND_T_LO n), 31, 0⟩
def LIN_PEND_T_HI (n : Nat) : Nat := 0x1A0118 + 0x1000 * n
def LIN_PEND_T_HI_ns (n : Nat) : FRef := ⟨(LIN_PEND_T_HI n), 31, 0⟩
def LIN_SCH_SEL (n : Nat) : Nat := 0x1A0120 + 0x1000 * n
def LIN_SCH_SEL_bank (n : Nat) : FRef := ⟨(LIN_SCH_SEL n), 6, 6⟩
def LIN_SCH_SEL_entry (n : Nat) : FRef := ⟨(LIN_SCH_SEL n), 5, 0⟩
def LIN_SCH_CMD (n : Nat) : Nat := 0x1A0124 + 0x1000 * n
def LIN_SCH_CMD_cmd (n : Nat) : FRef := ⟨(LIN_SCH_CMD n), 1, 0⟩
def LIN_SCH_WSTAT (n : Nat) : Nat := 0x1A0128 + 0x1000 * n
def LIN_SCH_WSTAT_err (n : Nat) : FRef := ⟨(LIN_SCH_WSTAT n), 1, 1⟩
def LIN_SCH_WSTAT_busy (n : Nat) : FRef := ⟨(LIN_SCH_WSTAT n), 0, 0⟩
def LIN_SCH_DATA (n : Nat) : Nat := 0x1A012C + 0x1000 * n
def LIN_SCH_DATA_slot_us (n : Nat) : FRef := ⟨(LIN_SCH_DATA n), 31, 16⟩
def LIN_SCH_DATA_type (n : Nat) : FRef := ⟨(LIN_SCH_DATA n), 7, 6⟩
def LIN_SCH_DATA_id (n : Nat) : FRef := ⟨(LIN_SCH_DATA n), 5, 0⟩
def LIN_STAT (n : Nat) : Nat := 0x1A0180 + 0x1000 * n
def LIN_STAT_meas_baud (n : Nat) : FRef := ⟨(LIN_STAT n), 31, 16⟩
def LIN_STAT_sync (n : Nat) : FRef := ⟨(LIN_STAT n), 1, 1⟩
def LIN_STAT_idle (n : Nat) : FRef := ⟨(LIN_STAT n), 0, 0⟩
def LIN_RXF_CNT (n : Nat) : Nat := 0x1A0184 + 0x1000 * n
def LIN_RXF_CNT_items (n : Nat) : FRef := ⟨(LIN_RXF_CNT n), 5, 0⟩
def LIN_RXF_W (n i : Nat) : Nat := 0x1A0188 + 0x1000 * n + 4 * i
def LIN_RXF_W_item (n i : Nat) : FRef := ⟨(LIN_RXF_W n i), 31, 0⟩
def LIN_RXF_POP (n : Nat) : Nat := 0x1A01B0 + 0x1000 * n
def LIN_RXF_POP_pop (n : Nat) : FRef := ⟨(LIN_RXF_POP n), 0, 0⟩
def LIN_PUB_STAT (n i : Nat) : Nat := 0x1A01C0 + 0x1000 * n + 4 * i
def LIN_PUB_STAT_unsent (n i : Nat) : FRef := ⟨(LIN_PUB_STAT n i), 31, 0⟩
def LIN_RESP (n i : Nat) : Nat := 0x1A0200 + 0x1000 * n + 4 * i
def LIN_RESP_store (n i : Nat) : FRef := ⟨(LIN_RESP n i), 9, 9⟩
def LIN_RESP_cks (n i : Nat) : FRef := ⟨(LIN_RESP n i), 8, 8⟩
def LIN_RESP_len (n i : Nat) : FRef := ⟨(LIN_RESP n i), 7, 4⟩
def LIN_RESP_dir (n i : Nat) : FRef := ⟨(LIN_RESP n i), 1, 0⟩
def LIN_CNT (n i : Nat) : Nat := 0x1A0400 + 0x1000 * n + 4 * i
def LIN_CNT_count (n i : Nat) : FRef := ⟨(LIN_CNT n i), 31, 0⟩

/-! ### Table 9-12 (R215) -/
def KLW_LOAD : Nat := 0x1C0100
def KLW_LOAD_ops : FRef := ⟨KLW_LOAD, 26, 0⟩
def KLW_DEFER_STAT : Nat := 0x1C0104
def KLW_DEFER_STAT_cls : FRef := ⟨KLW_DEFER_STAT, 7, 0⟩
def KLW_TMO_CAP : Nat := 0x1C0108
def KLW_TMO_CAP_valid : FRef := ⟨KLW_TMO_CAP, 31, 31⟩
def KLW_TMO_CAP_sig : FRef := ⟨KLW_TMO_CAP, 13, 0⟩
def KLW_MOTION_CFG : Nat := 0x1C0110
def KLW_MOTION_CFG_en : FRef := ⟨KLW_MOTION_CFG, 31, 31⟩
def KLW_MOTION_CFG_sig : FRef := ⟨KLW_MOTION_CFG, 13, 0⟩
def KLW_MOTION_ON : Nat := 0x1C0114
def KLW_MOTION_ON_value : FRef := ⟨KLW_MOTION_ON, 31, 0⟩
def KLW_MOTION_OFF : Nat := 0x1C0118
def KLW_MOTION_OFF_value : FRef := ⟨KLW_MOTION_OFF, 31, 0⟩
def KLW_MOTION_STAT : Nat := 0x1C011C
def KLW_MOTION_STAT_stale : FRef := ⟨KLW_MOTION_STAT, 1, 1⟩
def KLW_MOTION_STAT_moving : FRef := ⟨KLW_MOTION_STAT, 0, 0⟩
def KLW_CNT (i : Nat) : Nat := 0x1C0200 + 4 * i
def KLW_CNT_count (i : Nat) : FRef := ⟨(KLW_CNT i), 31, 0⟩

/-! ### Table 9-12 -/
def KLW_S_SEL : Nat := 0x1C2100
def KLW_S_SEL_sig : FRef := ⟨KLW_S_SEL, 13, 0⟩
def KLW_S_CMD : Nat := 0x1C2104
def KLW_S_CMD_cmd : FRef := ⟨KLW_S_CMD, 1, 0⟩
def KLW_S_VAL_LO : Nat := 0x1C2108
def KLW_S_VAL_LO_value : FRef := ⟨KLW_S_VAL_LO, 31, 0⟩
def KLW_S_VAL_HI : Nat := 0x1C210C
def KLW_S_VAL_HI_value : FRef := ⟨KLW_S_VAL_HI, 31, 0⟩
def KLW_S_STAT : Nat := 0x1C2110
def KLW_S_STAT_unv : FRef := ⟨KLW_S_STAT, 2, 2⟩
def KLW_S_STAT_status : FRef := ⟨KLW_S_STAT, 1, 0⟩
def KLW_S_AGE : Nat := 0x1C2114
def KLW_S_AGE_us : FRef := ⟨KLW_S_AGE, 31, 0⟩
def KLW_S_TSRC_LO : Nat := 0x1C2118
def KLW_S_TSRC_LO_ns : FRef := ⟨KLW_S_TSRC_LO, 31, 0⟩
def KLW_S_TSRC_HI : Nat := 0x1C211C
def KLW_S_TSRC_HI_ns : FRef := ⟨KLW_S_TSRC_HI, 31, 0⟩

/-! ### Table 9-12 -/
def KLW_L_SEL : Nat := 0x1C3100
def KLW_L_SEL_route : FRef := ⟨KLW_L_SEL, 12, 0⟩
def KLW_L_CMD : Nat := 0x1C3104
def KLW_L_CMD_cmd : FRef := ⟨KLW_L_CMD, 1, 0⟩
def KLW_L_STAT : Nat := 0x1C3108
def KLW_L_STAT_err : FRef := ⟨KLW_L_STAT, 1, 1⟩
def KLW_L_STAT_busy : FRef := ⟨KLW_L_STAT, 0, 0⟩
def KLW_L_T_LO : Nat := 0x1C3110
def KLW_L_T_LO_ns : FRef := ⟨KLW_L_T_LO, 31, 0⟩
def KLW_L_T_HI : Nat := 0x1C3114
def KLW_L_T_HI_ns : FRef := ⟨KLW_L_T_HI, 31, 0⟩
def KLW_L_CTL : Nat := 0x1C3118
def KLW_L_CTL_armed : FRef := ⟨KLW_L_CTL, 31, 31⟩
def KLW_L_CTL_rearm : FRef := ⟨KLW_L_CTL, 30, 30⟩
def KLW_L_CTL_late : FRef := ⟨KLW_L_CTL, 29, 29⟩
def KLW_L_CTL_fired : FRef := ⟨KLW_L_CTL, 28, 28⟩
def KLW_L_CTL_args : FRef := ⟨KLW_L_CTL, 27, 8⟩
def KLW_L_CTL_action : FRef := ⟨KLW_L_CTL, 7, 0⟩
def KLW_L_PER : Nat := 0x1C311C
def KLW_L_PER_ns : FRef := ⟨KLW_L_PER, 31, 0⟩

/-! ### Table 9-12 -/
def KLW_DUMP_LO : Nat := 0x1C4100
def KLW_DUMP_LO_base : FRef := ⟨KLW_DUMP_LO, 31, 4⟩
def KLW_DUMP_HI : Nat := 0x1C4104
def KLW_DUMP_HI_base : FRef := ⟨KLW_DUMP_HI, 7, 0⟩
def KLW_DUMP_FIRST : Nat := 0x1C4108
def KLW_DUMP_FIRST_sig : FRef := ⟨KLW_DUMP_FIRST, 13, 0⟩
def KLW_DUMP_N : Nat := 0x1C410C
def KLW_DUMP_N_count : FRef := ⟨KLW_DUMP_N, 14, 0⟩
def KLW_DUMP_PER : Nat := 0x1C4110
def KLW_DUMP_PER_ms : FRef := ⟨KLW_DUMP_PER, 15, 0⟩
def KLW_DUMP_CTL : Nat := 0x1C4114
def KLW_DUMP_CTL_resume : FRef := ⟨KLW_DUMP_CTL, 1, 1⟩
def KLW_DUMP_CTL_go : FRef := ⟨KLW_DUMP_CTL, 0, 0⟩
def KLW_DUMP_STAT : Nat := 0x1C4118
def KLW_DUMP_STAT_cause : FRef := ⟨KLW_DUMP_STAT, 15, 8⟩
def KLW_DUMP_STAT_halted : FRef := ⟨KLW_DUMP_STAT, 0, 0⟩
def KLW_DUMP_T_LO : Nat := 0x1C411C
def KLW_DUMP_T_LO_ns : FRef := ⟨KLW_DUMP_T_LO, 31, 0⟩
def KLW_DUMP_T_HI : Nat := 0x1C4120
def KLW_DUMP_T_HI_ns : FRef := ⟨KLW_DUMP_T_HI, 31, 0⟩

/-! ### Table 9-13 -/
def KLW_D_SEL : Nat := 0x1C1100
def KLW_D_SEL_mem : FRef := ⟨KLW_D_SEL, 18, 16⟩
def KLW_D_SEL_index : FRef := ⟨KLW_D_SEL, 13, 0⟩
def KLW_D_CMD : Nat := 0x1C1104
def KLW_D_CMD_staged : FRef := ⟨KLW_D_CMD, 8, 8⟩
def KLW_D_CMD_cmd : FRef := ⟨KLW_D_CMD, 1, 0⟩
def KLW_D_STAT : Nat := 0x1C1108
def KLW_D_STAT_err : FRef := ⟨KLW_D_STAT, 1, 1⟩
def KLW_D_STAT_busy : FRef := ⟨KLW_D_STAT, 0, 0⟩
def KLW_D_DATA (i : Nat) : Nat := 0x1C1110 + 4 * i
def KLW_D_DATA_rec (i : Nat) : FRef := ⟨(KLW_D_DATA i), 31, 0⟩

/-! ### Tables 10-7, 10-8 (R234) -/
def AUT_CTX_SEL : Nat := 0x200100
def AUT_CTX_SEL_ctx : FRef := ⟨AUT_CTX_SEL, 11, 0⟩
def AUT_CTX_CMD : Nat := 0x200104
def AUT_CTX_CMD_staged : FRef := ⟨AUT_CTX_CMD, 8, 8⟩
def AUT_CTX_CMD_cmd : FRef := ⟨AUT_CTX_CMD, 2, 0⟩
def AUT_CTX_STAT : Nat := 0x200108
def AUT_CTX_STAT_err : FRef := ⟨AUT_CTX_STAT, 1, 1⟩
def AUT_CTX_STAT_busy : FRef := ⟨AUT_CTX_STAT, 0, 0⟩
def AUT_CTX_DATA (i : Nat) : Nat := 0x200110 + 4 * i
def AUT_CTX_DATA_rec (i : Nat) : FRef := ⟨(AUT_CTX_DATA i), 31, 0⟩
def AUT_CTX_CNT (i : Nat) : Nat := 0x200140 + 4 * i
def AUT_CTX_CNT_count (i : Nat) : FRef := ⟨(AUT_CTX_CNT i), 31, 0⟩
def AUT_ST_SLOT : Nat := 0x200180
def AUT_ST_SLOT_act : FRef := ⟨AUT_ST_SLOT, 31, 31⟩
def AUT_ST_SLOT_an1 : FRef := ⟨AUT_ST_SLOT, 13, 12⟩
def AUT_ST_SLOT_an0 : FRef := ⟨AUT_ST_SLOT, 5, 4⟩
def AUT_ST_SLOT_st1 : FRef := ⟨AUT_ST_SLOT, 10, 8⟩
def AUT_ST_SLOT_st0 : FRef := ⟨AUT_ST_SLOT, 2, 0⟩
def AUT_ST_SPEND_LO : Nat := 0x200184
def AUT_ST_SPEND_LO_count : FRef := ⟨AUT_ST_SPEND_LO, 31, 0⟩
def AUT_ST_SPEND_HI : Nat := 0x200188
def AUT_ST_SPEND_HI_count : FRef := ⟨AUT_ST_SPEND_HI, 31, 0⟩
def AUT_ST_PN_LO : Nat := 0x20018C
def AUT_ST_PN_LO_value : FRef := ⟨AUT_ST_PN_LO, 31, 0⟩
def AUT_ST_PN_HI : Nat := 0x200190
def AUT_ST_PN_HI_value : FRef := ⟨AUT_ST_PN_HI, 31, 0⟩
def AUT_CHG_CNT : Nat := 0x200194
def AUT_CHG_CNT_count : FRef := ⟨AUT_CHG_CNT, 31, 0⟩
def AUT_KAT_FAIL : Nat := 0x200198
def AUT_KAT_FAIL_count : FRef := ⟨AUT_KAT_FAIL, 31, 0⟩
def AUT_FAIL_CAP : Nat := 0x2001A0
def AUT_FAIL_CAP_valid : FRef := ⟨AUT_FAIL_CAP, 31, 31⟩
def AUT_FAIL_CAP_port : FRef := ⟨AUT_FAIL_CAP, 30, 24⟩
def AUT_FAIL_CAP_cause : FRef := ⟨AUT_FAIL_CAP, 19, 16⟩
def AUT_FAIL_CAP_ctx : FRef := ⟨AUT_FAIL_CAP, 11, 0⟩
def AUT_FAIL_CAP_T_LO : Nat := 0x2001A4
def AUT_FAIL_CAP_T_LO_ns : FRef := ⟨AUT_FAIL_CAP_T_LO, 31, 0⟩
def AUT_FAIL_CAP_T_HI : Nat := 0x2001A8
def AUT_FAIL_CAP_T_HI_ns : FRef := ⟨AUT_FAIL_CAP_T_HI, 31, 0⟩
def AUT_SPEND_CAP : Nat := 0x2001AC
def AUT_SPEND_CAP_valid : FRef := ⟨AUT_SPEND_CAP, 31, 31⟩
def AUT_SPEND_CAP_exh : FRef := ⟨AUT_SPEND_CAP, 12, 12⟩
def AUT_SPEND_CAP_ctx : FRef := ⟨AUT_SPEND_CAP, 11, 0⟩
def AUT_KEYS : Nat := 0x2001B0
def AUT_KEYS_ready : FRef := ⟨AUT_KEYS, 0, 0⟩
def AUT_ENG_ISO : Nat := 0x200700
def AUT_ENG_ISO_eng : FRef := ⟨AUT_ENG_ISO, 31, 0⟩
def AUT_ENG_FAIL : Nat := 0x200704
def AUT_ENG_FAIL_eng : FRef := ⟨AUT_ENG_FAIL, 31, 0⟩
def AUT_ENG_WAIT : Nat := 0x200708
def AUT_ENG_WAIT_count : FRef := ⟨AUT_ENG_WAIT, 31, 0⟩
def AUT_PORT (i : Nat) : Nat := 0x200200 + 4 * i
def AUT_PORT_tx_en (i : Nat) : FRef := ⟨(AUT_PORT i), 31, 31⟩
def AUT_PORT_tx_ctx (i : Nat) : FRef := ⟨(AUT_PORT i), 27, 16⟩
def AUT_PORT_rx_dflt (i : Nat) : FRef := ⟨(AUT_PORT i), 15, 4⟩
def AUT_PORT_bypass_ptp (i : Nat) : FRef := ⟨(AUT_PORT i), 3, 3⟩
def AUT_PORT_dflt_v (i : Nat) : FRef := ⟨(AUT_PORT i), 2, 2⟩
def AUT_PORT_validate (i : Nat) : FRef := ⟨(AUT_PORT i), 1, 0⟩
def AUT_PORT_CNT (i j : Nat) : Nat := 0x200300 + 0x10 * i + 4 * j
def AUT_PORT_CNT_count (i j : Nat) : FRef := ⟨(AUT_PORT_CNT i j), 31, 0⟩
def AUT_CHG_SEL : Nat := 0x200710
def AUT_CHG_SEL_slot : FRef := ⟨AUT_CHG_SEL, 5, 0⟩
def AUT_CHG_CMD : Nat := 0x200714
def AUT_CHG_CMD_cmd : FRef := ⟨AUT_CHG_CMD, 1, 0⟩
def AUT_CHG_STAT : Nat := 0x200718
def AUT_CHG_STAT_err : FRef := ⟨AUT_CHG_STAT, 1, 1⟩
def AUT_CHG_STAT_busy : FRef := ⟨AUT_CHG_STAT, 0, 0⟩
def AUT_CHG_T_LO : Nat := 0x200720
def AUT_CHG_T_LO_ns : FRef := ⟨AUT_CHG_T_LO, 31, 0⟩
def AUT_CHG_T_HI : Nat := 0x200724
def AUT_CHG_T_HI_ns : FRef := ⟨AUT_CHG_T_HI, 31, 0⟩
def AUT_CHG_CTL : Nat := 0x200728
def AUT_CHG_CTL_armed : FRef := ⟨AUT_CHG_CTL, 31, 31⟩
def AUT_CHG_CTL_rearm : FRef := ⟨AUT_CHG_CTL, 30, 30⟩
def AUT_CHG_CTL_late : FRef := ⟨AUT_CHG_CTL, 29, 29⟩
def AUT_CHG_CTL_fired : FRef := ⟨AUT_CHG_CTL, 28, 28⟩
def AUT_CHG_CTL_args : FRef := ⟨AUT_CHG_CTL, 27, 8⟩
def AUT_CHG_CTL_action : FRef := ⟨AUT_CHG_CTL, 7, 0⟩
def AUT_CHG_PER : Nat := 0x20072C
def AUT_CHG_PER_ns : FRef := ⟨AUT_CHG_PER, 31, 0⟩

/-! ### Table 11-9 (R252) -/
def KEY_STAT : Nat := 0x210100
def KEY_STAT_rng_ok : FRef := ⟨KEY_STAT, 9, 9⟩
def KEY_STAT_ready : FRef := ⟨KEY_STAT, 8, 8⟩
def KEY_STAT_prov : FRef := ⟨KEY_STAT, 5, 5⟩
def KEY_STAT_sealed : FRef := ⟨KEY_STAT, 4, 4⟩
def KEY_STAT_root : FRef := ⟨KEY_STAT, 2, 0⟩
def KEY_ROOT : Nat := 0x210104
def KEY_ROOT_att : FRef := ⟨KEY_ROOT, 19, 16⟩
def KEY_ROOT_margin : FRef := ⟨KEY_ROOT, 7, 0⟩
def KEY_ERASE_CTR : Nat := 0x210108
def KEY_ERASE_CTR_ctr : FRef := ⟨KEY_ERASE_CTR, 31, 0⟩
def KEY_UID_LO : Nat := 0x21010C
def KEY_UID_LO_uid : FRef := ⟨KEY_UID_LO, 31, 0⟩
def KEY_UID_HI : Nat := 0x210110
def KEY_UID_HI_uid : FRef := ⟨KEY_UID_HI, 31, 0⟩
def KEY_TOK_CTR : Nat := 0x210114
def KEY_TOK_CTR_ctr : FRef := ⟨KEY_TOK_CTR, 31, 0⟩
def KEY_CMD : Nat := 0x210120
def KEY_CMD_op : FRef := ⟨KEY_CMD, 3, 0⟩
def KEY_SRC : Nat := 0x210124
def KEY_SRC_kind : FRef := ⟨KEY_SRC, 31, 30⟩
def KEY_SRC_index : FRef := ⟨KEY_SRC, 12, 0⟩
def KEY_DST : Nat := 0x210128
def KEY_DST_kind : FRef := ⟨KEY_DST, 31, 30⟩
def KEY_DST_index : FRef := ⟨KEY_DST, 12, 0⟩
def KEY_ATTR : Nat := 0x21012C
def KEY_ATTR_ctx_len : FRef := ⟨KEY_ATTR, 31, 24⟩
def KEY_ATTR_lab_len : FRef := ⟨KEY_ATTR, 23, 16⟩
def KEY_ATTR_usage : FRef := ⟨KEY_ATTR, 13, 8⟩
def KEY_ATTR_k256 : FRef := ⟨KEY_ATTR, 4, 4⟩
def KEY_ATTR_type : FRef := ⟨KEY_ATTR, 3, 0⟩
def KEY_SA : Nat := 0x210130
def KEY_SA_an : FRef := ⟨KEY_SA, 1, 0⟩
def KEY_DATA_LO : Nat := 0x210134
def KEY_DATA_LO_addr : FRef := ⟨KEY_DATA_LO, 31, 0⟩
def KEY_DATA_HI : Nat := 0x210138
def KEY_DATA_HI_addr : FRef := ⟨KEY_DATA_HI, 31, 0⟩
def KEY_DATA_LEN : Nat := 0x21013C
def KEY_DATA_LEN_bytes : FRef := ⟨KEY_DATA_LEN, 12, 0⟩
def KEY_SSCI : Nat := 0x210140
def KEY_SSCI_ssci : FRef := ⟨KEY_SSCI, 31, 0⟩
def KEY_PN_LO : Nat := 0x210144
def KEY_PN_LO_pn : FRef := ⟨KEY_PN_LO, 31, 0⟩
def KEY_PN_HI : Nat := 0x210148
def KEY_PN_HI_pn : FRef := ⟨KEY_PN_HI, 31, 0⟩
def KEY_SALT (i : Nat) : Nat := 0x21014C + 4 * i
def KEY_SALT_salt (i : Nat) : FRef := ⟨(KEY_SALT i), 31, 0⟩
def KEY_CSTAT : Nat := 0x210180
def KEY_CSTAT_status : FRef := ⟨KEY_CSTAT, 15, 8⟩
def KEY_CSTAT_busy : FRef := ⟨KEY_CSTAT, 0, 0⟩
def KEY_REC_SEL : Nat := 0x210190
def KEY_REC_SEL_rec : FRef := ⟨KEY_REC_SEL, 9, 0⟩
def KEY_REC_INFO : Nat := 0x210194
def KEY_REC_INFO_usage : FRef := ⟨KEY_REC_INFO, 21, 16⟩
def KEY_REC_INFO_state : FRef := ⟨KEY_REC_INFO, 9, 8⟩
def KEY_REC_INFO_slot : FRef := ⟨KEY_REC_INFO, 4, 4⟩
def KEY_REC_INFO_k256 : FRef := ⟨KEY_REC_INFO, 0, 0⟩
def KEY_REC_GEN : Nat := 0x210198
def KEY_REC_GEN_gen : FRef := ⟨KEY_REC_GEN, 31, 0⟩
def KEY_REC_FALLBACK : Nat := 0x21019C
def KEY_REC_FALLBACK_count : FRef := ⟨KEY_REC_FALLBACK, 31, 0⟩
def KEY_REC_LOST : Nat := 0x2101A0
def KEY_REC_LOST_count : FRef := ⟨KEY_REC_LOST, 31, 0⟩
def KEY_PROV : Nat := 0x2101A4
def KEY_PROV_close : FRef := ⟨KEY_PROV, 0, 0⟩
def KEY_BUF (i : Nat) : Nat := 0x210200 + 4 * i
def KEY_BUF_data (i : Nat) : FRef := ⟨(KEY_BUF i), 31, 0⟩
def KEY_RES (i : Nat) : Nat := 0x210280 + 4 * i
def KEY_RES_data (i : Nat) : FRef := ⟨(KEY_RES i), 31, 0⟩

/-! ### Table 11-10 (R253) -/
def TMP_EN : Nat := 0x220100
def TMP_EN_sensors : FRef := ⟨TMP_EN, 4, 0⟩
def TMP_LATCH : Nat := 0x220104
def TMP_LATCH_sensors : FRef := ⟨TMP_LATCH, 4, 0⟩
def TMP_STAT : Nat := 0x220108
def TMP_STAT_resp : FRef := ⟨TMP_STAT, 17, 16⟩
def TMP_STAT_erase_pend : FRef := ⟨TMP_STAT, 8, 8⟩
def TMP_STAT_alarm : FRef := ⟨TMP_STAT, 0, 0⟩
def TMP_FILT : Nat := 0x22010C
def TMP_FILT_us : FRef := ⟨TMP_FILT, 7, 0⟩
def TMP_COUNT : Nat := 0x220110
def TMP_COUNT_count : FRef := ⟨TMP_COUNT, 15, 0⟩
def TMP_LOG_SEL : Nat := 0x220114
def TMP_LOG_SEL_entry : FRef := ⟨TMP_LOG_SEL, 2, 0⟩
def TMP_LOG_ENT : Nat := 0x220118
def TMP_LOG_ENT_aon_time : FRef := ⟨TMP_LOG_ENT, 31, 31⟩
def TMP_LOG_ENT_sensors : FRef := ⟨TMP_LOG_ENT, 28, 24⟩
def TMP_LOG_ENT_mode : FRef := ⟨TMP_LOG_ENT, 19, 16⟩
def TMP_LOG_ENT_start : FRef := ⟨TMP_LOG_ENT, 15, 0⟩
def TMP_LOG_T_LO : Nat := 0x22011C
def TMP_LOG_T_LO_time : FRef := ⟨TMP_LOG_T_LO, 31, 0⟩
def TMP_LOG_T_HI : Nat := 0x220120
def TMP_LOG_T_HI_time : FRef := ⟨TMP_LOG_T_HI, 31, 0⟩

/-! ### Table 11-11 (R254) -/
def SIG_CTL : Nat := 0x230100
def SIG_CTL_slot : FRef := ⟨SIG_CTL, 9, 8⟩
def SIG_CTL_anchor : FRef := ⟨SIG_CTL, 6, 6⟩
def SIG_CTL_hash : FRef := ⟨SIG_CTL, 5, 5⟩
def SIG_CTL_curve : FRef := ⟨SIG_CTL, 4, 4⟩
def SIG_CTL_go : FRef := ⟨SIG_CTL, 0, 0⟩
def SIG_DATA_LO : Nat := 0x230104
def SIG_DATA_LO_addr : FRef := ⟨SIG_DATA_LO, 31, 0⟩
def SIG_DATA_HI : Nat := 0x230108
def SIG_DATA_HI_addr : FRef := ⟨SIG_DATA_HI, 31, 0⟩
def SIG_DATA_LEN : Nat := 0x23010C
def SIG_DATA_LEN_bytes : FRef := ⟨SIG_DATA_LEN, 27, 0⟩
def SIG_STAT : Nat := 0x230110
def SIG_STAT_result : FRef := ⟨SIG_STAT, 3, 0⟩
def SIG_DIG (i : Nat) : Nat := 0x230140 + 4 * i
def SIG_DIG_digest (i : Nat) : FRef := ⟨(SIG_DIG i), 31, 0⟩
def SIG_Q (i : Nat) : Nat := 0x230200 + 4 * i
def SIG_Q_key (i : Nat) : FRef := ⟨(SIG_Q i), 31, 0⟩
def SIG_SG (i : Nat) : Nat := 0x230260 + 4 * i
def SIG_SG_sig (i : Nat) : FRef := ⟨(SIG_SG i), 31, 0⟩
def SIG_ANCH_SEL : Nat := 0x230300
def SIG_ANCH_SEL_slot : FRef := ⟨SIG_ANCH_SEL, 1, 0⟩
def SIG_ANCH_CTL : Nat := 0x230304
def SIG_ANCH_CTL_valid : FRef := ⟨SIG_ANCH_CTL, 31, 31⟩
def SIG_ANCH_CTL_revoked : FRef := ⟨SIG_ANCH_CTL, 30, 30⟩
def SIG_ANCH_CTL_purpose : FRef := ⟨SIG_ANCH_CTL, 17, 16⟩
def SIG_ANCH_CTL_curve : FRef := ⟨SIG_ANCH_CTL, 8, 8⟩
def SIG_ANCH_CMD : Nat := 0x230308
def SIG_ANCH_CMD_purpose : FRef := ⟨SIG_ANCH_CMD, 5, 4⟩
def SIG_ANCH_CMD_cmd : FRef := ⟨SIG_ANCH_CMD, 1, 0⟩
def SIG_ANCH_DIG (i : Nat) : Nat := 0x230310 + 4 * i
def SIG_ANCH_DIG_digest (i : Nat) : FRef := ⟨(SIG_ANCH_DIG i), 31, 0⟩

/-! ### Table 12-6 (R272) -/
def WAK_CONS_CFG : Nat := 0x5100
def WAK_CONS_CFG_ring_n : FRef := ⟨WAK_CONS_CFG, 31, 21⟩
def WAK_CONS_CFG_init : FRef := ⟨WAK_CONS_CFG, 20, 20⟩
def WAK_CONS_CFG_auto : FRef := ⟨WAK_CONS_CFG, 19, 19⟩
def WAK_CONS_CFG_auto_set : FRef := ⟨WAK_CONS_CFG, 13, 8⟩
def WAK_CONS_TIM : Nat := 0x5104
def WAK_CONS_TIM_lead_ms : FRef := ⟨WAK_CONS_TIM, 31, 16⟩
def WAK_CONS_TIM_guard_us : FRef := ⟨WAK_CONS_TIM, 15, 0⟩
def WAK_CONS_TMO : Nat := 0x5108
def WAK_CONS_TMO_ms : FRef := ⟨WAK_CONS_TMO, 15, 0⟩
def WAK_CONS_IDLE : Nat := 0x510C
def WAK_CONS_IDLE_ms : FRef := ⟨WAK_CONS_IDLE, 15, 0⟩
def WAK_CONS_CMD : Nat := 0x5110
def WAK_CONS_CMD_set : FRef := ⟨WAK_CONS_CMD, 13, 8⟩
def WAK_CONS_CMD_cmd : FRef := ⟨WAK_CONS_CMD, 1, 0⟩
def WAK_CONS_STAT : Nat := 0x5114
def WAK_CONS_STAT_seq : FRef := ⟨WAK_CONS_STAT, 31, 24⟩
def WAK_CONS_STAT_set : FRef := ⟨WAK_CONS_STAT, 21, 16⟩
def WAK_CONS_STAT_phase : FRef := ⟨WAK_CONS_STAT, 13, 12⟩
def WAK_CONS_STAT_count : FRef := ⟨WAK_CONS_STAT, 10, 0⟩
def WAK_CONS_ORG : Nat := 0x5118
def WAK_CONS_ORG_origin : FRef := ⟨WAK_CONS_ORG, 9, 0⟩
def WAK_CONS_T_LO : Nat := 0x511C
def WAK_CONS_T_LO_ns : FRef := ⟨WAK_CONS_T_LO, 31, 0⟩
def WAK_CONS_T_HI : Nat := 0x5120
def WAK_CONS_T_HI_ns : FRef := ⟨WAK_CONS_T_HI, 31, 0⟩
def WAK_CONS_CNT (i : Nat) : Nat := 0x5124 + 4 * i
def WAK_CONS_CNT_count (i : Nat) : FRef := ⟨(WAK_CONS_CNT i), 31, 0⟩
def WAK_CONSENT_LO : Nat := 0x5144
def WAK_CONSENT_LO_sets : FRef := ⟨WAK_CONSENT_LO, 31, 0⟩
def WAK_CONSENT_HI : Nat := 0x5148
def WAK_CONSENT_HI_sets : FRef := ⟨WAK_CONSENT_HI, 31, 0⟩
def WAK_KEEP : Nat := 0x514C
def WAK_KEEP_brace : FRef := ⟨WAK_KEEP, 30, 16⟩
def WAK_KEEP_host : FRef := ⟨WAK_KEEP, 14, 0⟩
def WAK_UNSEG_IDLE : Nat := 0x5150
def WAK_UNSEG_IDLE_ms : FRef := ⟨WAK_UNSEG_IDLE, 15, 0⟩
def WAK_SEG_MAP (i : Nat) : Nat := 0x5200 + 4 * i
def WAK_SEG_MAP_seg (i : Nat) : FRef := ⟨(WAK_SEG_MAP i), 31, 0⟩
def WAK_SEG_CFG (i : Nat) : Nat := 0x5240 + 4 * i
def WAK_SEG_CFG_idle_ms (i : Nat) : FRef := ⟨(WAK_SEG_CFG i), 31, 16⟩
def WAK_SEG_CFG_wake_en (i : Nat) : FRef := ⟨(WAK_SEG_CFG i), 0, 0⟩
def WAK_SEG_DISP (i : Nat) : Nat := 0x5280 + 4 * i
def WAK_SEG_DISP_disp (i : Nat) : FRef := ⟨(WAK_SEG_DISP i), 15, 0⟩
def WAK_SEG_STAT : Nat := 0x52C0
def WAK_SEG_STAT_waking : FRef := ⟨WAK_SEG_STAT, 30, 16⟩
def WAK_SEG_STAT_asleep : FRef := ⟨WAK_SEG_STAT, 14, 0⟩
def WAK_SEG_CMD : Nat := 0x52C4
def WAK_SEG_CMD_wake : FRef := ⟨WAK_SEG_CMD, 14, 0⟩
def WAK_SEG_DROP (i : Nat) : Nat := 0x5300 + 4 * i
def WAK_SEG_DROP_count (i : Nat) : FRef := ⟨(WAK_SEG_DROP i), 31, 0⟩
def WAK_SET_MAP (i : Nat) : Nat := 0x5400 + 4 * i
def WAK_SET_MAP_spread (i : Nat) : FRef := ⟨(WAK_SET_MAP i), 15, 15⟩
def WAK_SET_MAP_segs (i : Nat) : FRef := ⟨(WAK_SET_MAP i), 14, 0⟩
def WAK_WK_CFG (i : Nat) : Nat := 0x5500 + 4 * i
def WAK_WK_CFG_en (i : Nat) : FRef := ⟨(WAK_WK_CFG i), 31, 31⟩
def WAK_WK_CFG_mode (i : Nat) : FRef := ⟨(WAK_WK_CFG i), 30, 29⟩
def WAK_WK_CFG_seg_v (i : Nat) : FRef := ⟨(WAK_WK_CFG i), 24, 24⟩
def WAK_WK_CFG_seg (i : Nat) : FRef := ⟨(WAK_WK_CFG i), 23, 20⟩
def WAK_WK_CFG_filt_us (i : Nat) : FRef := ⟨(WAK_WK_CFG i), 15, 0⟩
def WAK_WK_BUS0 : Nat := 0x5520
def WAK_WK_BUS0_can : FRef := ⟨WAK_WK_BUS0, 23, 0⟩
def WAK_WK_BUS1 : Nat := 0x5524
def WAK_WK_BUS1_vh : FRef := ⟨WAK_WK_BUS1, 20, 17⟩
def WAK_WK_BUS1_host : FRef := ⟨WAK_WK_BUS1, 16, 16⟩
def WAK_WK_BUS1_lin : FRef := ⟨WAK_WK_BUS1, 7, 0⟩
def WAK_WK_ETH (i : Nat) : Nat := 0x5528 + 4 * i
def WAK_WK_ETH_ports (i : Nat) : FRef := ⟨(WAK_WK_ETH i), 31, 0⟩
def WAK_LISTEN_CFG : Nat := 0x5530
def WAK_LISTEN_CFG_sel : FRef := ⟨WAK_LISTEN_CFG, 31, 31⟩
def WAK_LISTEN_CFG_err_lim : FRef := ⟨WAK_LISTEN_CFG, 23, 16⟩
def WAK_LISTEN_CFG_tmo_ms : FRef := ⟨WAK_LISTEN_CFG, 15, 0⟩
def WAK_WSR : Nat := 0x5540
def WAK_WSR_cause : FRef := ⟨WAK_WSR, 31, 28⟩
def WAK_WSR_index : FRef := ⟨WAK_WSR, 23, 16⟩
def WAK_WSR_kind : FRef := ⟨WAK_WSR, 11, 8⟩
def WAK_WSR_SEEN : Nat := 0x5544
def WAK_WSR_SEEN_src : FRef := ⟨WAK_WSR_SEEN, 11, 0⟩
def WAK_WSR_ID : Nat := 0x5548
def WAK_WSR_ID_fmt : FRef := ⟨WAK_WSR_ID, 30, 29⟩
def WAK_WSR_ID_id : FRef := ⟨WAK_WSR_ID, 28, 0⟩
def WAK_WSR_T_LO : Nat := 0x554C
def WAK_WSR_T_LO_us : FRef := ⟨WAK_WSR_T_LO, 31, 0⟩
def WAK_WSR_T_HI : Nat := 0x5550
def WAK_WSR_T_HI_us : FRef := ⟨WAK_WSR_T_HI, 31, 0⟩
def WAK_FALSE_WAKES : Nat := 0x5554
def WAK_FALSE_WAKES_count : FRef := ⟨WAK_FALSE_WAKES, 15, 0⟩
def WAK_SLEEP_REC : Nat := 0x5558
def WAK_SLEEP_REC_set : FRef := ⟨WAK_SLEEP_REC, 27, 22⟩
def WAK_SLEEP_REC_origin : FRef := ⟨WAK_SLEEP_REC, 21, 12⟩
def WAK_SLEEP_REC_seq : FRef := ⟨WAK_SLEEP_REC, 7, 0⟩
def WAK_SLEEP_T_LO : Nat := 0x555C
def WAK_SLEEP_T_LO_ns : FRef := ⟨WAK_SLEEP_T_LO, 31, 0⟩
def WAK_SLEEP_T_HI : Nat := 0x5560
def WAK_SLEEP_T_HI_ns : FRef := ⟨WAK_SLEEP_T_HI, 31, 0⟩
def WAK_SL_T_LO (i : Nat) : Nat := 0x5580 + 0x10 * i
def WAK_SL_T_LO_ns (i : Nat) : FRef := ⟨(WAK_SL_T_LO i), 31, 0⟩
def WAK_SL_T_HI (i : Nat) : Nat := 0x5584 + 0x10 * i
def WAK_SL_T_HI_ns (i : Nat) : FRef := ⟨(WAK_SL_T_HI i), 31, 0⟩
def WAK_SL_CTL (i : Nat) : Nat := 0x5588 + 0x10 * i
def WAK_SL_CTL_armed (i : Nat) : FRef := ⟨(WAK_SL_CTL i), 31, 31⟩
def WAK_SL_CTL_rearm (i : Nat) : FRef := ⟨(WAK_SL_CTL i), 30, 30⟩
def WAK_SL_CTL_late (i : Nat) : FRef := ⟨(WAK_SL_CTL i), 29, 29⟩
def WAK_SL_CTL_fired (i : Nat) : FRef := ⟨(WAK_SL_CTL i), 28, 28⟩
def WAK_SL_CTL_args (i : Nat) : FRef := ⟨(WAK_SL_CTL i), 27, 8⟩
def WAK_SL_CTL_action (i : Nat) : FRef := ⟨(WAK_SL_CTL i), 7, 0⟩
def WAK_SL_PER (i : Nat) : Nat := 0x558C + 0x10 * i
def WAK_SL_PER_ns (i : Nat) : FRef := ⟨(WAK_SL_PER i), 31, 0⟩
def WAK_WF (i : Nat) : Nat := 0x5600 + 0x10 * i
def WAK_WF_valid (i : Nat) : FRef := ⟨(WAK_WF i), 31, 31⟩
def WAK_WF_fmt (i : Nat) : FRef := ⟨(WAK_WF i), 30, 29⟩
def WAK_WF_id (i : Nat) : FRef := ⟨(WAK_WF i), 28, 0⟩
def WAK_WF1 (i : Nat) : Nat := 0x5604 + 0x10 * i
def WAK_WF1_mask (i : Nat) : FRef := ⟨(WAK_WF1 i), 28, 0⟩
def WAK_WF2 (i : Nat) : Nat := 0x5608 + 0x10 * i
def WAK_WF2_byte (i : Nat) : FRef := ⟨(WAK_WF2 i), 18, 16⟩
def WAK_WF2_data_v (i : Nat) : FRef := ⟨(WAK_WF2 i), 8, 8⟩
def WAK_WF2_chan (i : Nat) : FRef := ⟨(WAK_WF2 i), 4, 0⟩
def WAK_WF3 (i : Nat) : Nat := 0x560C + 0x10 * i
def WAK_WF3_dmask (i : Nat) : FRef := ⟨(WAK_WF3 i), 15, 8⟩
def WAK_WF3_dval (i : Nat) : FRef := ⟨(WAK_WF3 i), 7, 0⟩

/-! ### Tables 12-7, 19-11 (R396) -/
def PWR_SUPEN_CFG (i : Nat) : Nat := 0x4200 + 4 * i
def PWR_SUPEN_CFG_mode (i : Nat) : FRef := ⟨(PWR_SUPEN_CFG i), 31, 30⟩
def PWR_SUPEN_CFG_seg (i : Nat) : FRef := ⟨(PWR_SUPEN_CFG i), 27, 24⟩
def PWR_SUPEN_CFG_cmd (i : Nat) : FRef := ⟨(PWR_SUPEN_CFG i), 16, 16⟩
def PWR_SUPEN_CFG_off_ms (i : Nat) : FRef := ⟨(PWR_SUPEN_CFG i), 15, 0⟩
def PWR_SUPEN_STAT : Nat := 0x4220
def PWR_SUPEN_STAT_pend : FRef := ⟨PWR_SUPEN_STAT, 15, 8⟩
def PWR_SUPEN_STAT_on : FRef := ⟨PWR_SUPEN_STAT, 7, 0⟩
def PWR_MAIN_STAT : Nat := 0x4224
def PWR_MAIN_STAT_listen : FRef := ⟨PWR_MAIN_STAT, 1, 1⟩
def PWR_MAIN_STAT_main : FRef := ⟨PWR_MAIN_STAT, 0, 0⟩
def PWR_AON_TIME_LO : Nat := 0x4228
def PWR_AON_TIME_LO_us : FRef := ⟨PWR_AON_TIME_LO, 31, 0⟩
def PWR_AON_TIME_HI : Nat := 0x422C
def PWR_AON_TIME_HI_us : FRef := ⟨PWR_AON_TIME_HI, 31, 0⟩
def PWR_VSUP : Nat := 0x4100
def PWR_VSUP_mv : FRef := ⟨PWR_VSUP, 15, 0⟩
def PWR_VSUP_MIN : Nat := 0x4104
def PWR_VSUP_MIN_mv : FRef := ⟨PWR_VSUP_MIN, 15, 0⟩
def PWR_STAT : Nat := 0x4108
def PWR_STAT_motion : FRef := ⟨PWR_STAT, 4, 4⟩
def PWR_STAT_ov : FRef := ⟨PWR_STAT, 3, 3⟩
def PWR_STAT_crank : FRef := ⟨PWR_STAT, 2, 2⟩
def PWR_STAT_uv_warn : FRef := ⟨PWR_STAT, 1, 1⟩
def PWR_CRANK_CNT : Nat := 0x410C
def PWR_CRANK_CNT_count : FRef := ⟨PWR_CRANK_CNT, 31, 0⟩
def PWR_OV_CNT : Nat := 0x4110
def PWR_OV_CNT_count : FRef := ⟨PWR_OV_CNT, 31, 0⟩
def PWR_PIN : Nat := 0x4114
def PWR_PIN_mw : FRef := ⟨PWR_PIN, 15, 0⟩
def PWR_CAN_TERM : Nat := 0x4118
def PWR_CAN_TERM_term : FRef := ⟨PWR_CAN_TERM, 23, 0⟩
def PWR_JRN_STAT : Nat := 0x4120
def PWR_JRN_STAT_valid : FRef := ⟨PWR_JRN_STAT, 31, 31⟩
def PWR_JRN_STAT_mode : FRef := ⟨PWR_JRN_STAT, 19, 16⟩
def PWR_JRN_STAT_cause : FRef := ⟨PWR_JRN_STAT, 3, 0⟩
def PWR_JRN_STAT_vmin : FRef := ⟨PWR_JRN_STAT, 15, 4⟩
def PWR_JRN_T_LO : Nat := 0x4124
def PWR_JRN_T_LO_ns : FRef := ⟨PWR_JRN_T_LO, 31, 0⟩
def PWR_JRN_T_HI : Nat := 0x4128
def PWR_JRN_T_HI_ns : FRef := ⟨PWR_JRN_T_HI, 31, 0⟩

/-! ### Tables 13-7, 13-8 (R290) -/
def BRC_ROLE (n : Nat) : Nat := 0x280100 + 0x10000 * n
def BRC_ROLE_bcause (n : Nat) : FRef := ⟨(BRC_ROLE n), 15, 8⟩
def BRC_ROLE_sb_ok (n : Nat) : FRef := ⟨(BRC_ROLE n), 5, 5⟩
def BRC_ROLE_failed (n : Nat) : FRef := ⟨(BRC_ROLE n), 4, 4⟩
def BRC_ROLE_role (n : Nat) : FRef := ⟨(BRC_ROLE n), 1, 0⟩
def BRC_HO_CMD (n : Nat) : Nat := 0x280104 + 0x10000 * n
def BRC_HO_CMD_key (n : Nat) : FRef := ⟨(BRC_HO_CMD n), 31, 16⟩
def BRC_HO_STAT (n : Nat) : Nat := 0x280108 + 0x10000 * n
def BRC_HO_STAT_err (n : Nat) : FRef := ⟨(BRC_HO_STAT n), 8, 8⟩
def BRC_HO_STAT_cause (n : Nat) : FRef := ⟨(BRC_HO_STAT n), 2, 0⟩
def BRC_HO_VEC (n : Nat) : Nat := 0x28010C + 0x10000 * n
def BRC_HO_VEC_addr (n : Nat) : FRef := ⟨(BRC_HO_VEC n), 31, 2⟩
def BRC_SB_VEC (n : Nat) : Nat := 0x280110 + 0x10000 * n
def BRC_SB_VEC_addr (n : Nat) : FRef := ⟨(BRC_SB_VEC n), 31, 2⟩
def BRC_HO_CNT (n : Nat) : Nat := 0x280114 + 0x10000 * n
def BRC_HO_CNT_count (n : Nat) : FRef := ⟨(BRC_HO_CNT n), 31, 0⟩
def BRC_CMP_MISM (n : Nat) : Nat := 0x280118 + 0x10000 * n
def BRC_CMP_MISM_count (n : Nat) : FRef := ⟨(BRC_CMP_MISM n), 31, 0⟩
def BRC_CMP_CAP (n : Nat) : Nat := 0x28011C + 0x10000 * n
def BRC_CMP_CAP_valid (n : Nat) : FRef := ⟨(BRC_CMP_CAP n), 31, 31⟩
def BRC_CMP_CAP_group (n : Nat) : FRef := ⟨(BRC_CMP_CAP n), 4, 0⟩
def BRC_CMP_CAP_T_LO (n : Nat) : Nat := 0x280120 + 0x10000 * n
def BRC_CMP_CAP_T_LO_ns (n : Nat) : FRef := ⟨(BRC_CMP_CAP_T_LO n), 31, 0⟩
def BRC_CMP_CAP_T_HI (n : Nat) : Nat := 0x280124 + 0x10000 * n
def BRC_CMP_CAP_T_HI_ns (n : Nat) : FRef := ⟨(BRC_CMP_CAP_T_HI n), 31, 0⟩
def BRC_STEST_RES (n : Nat) : Nat := 0x280128 + 0x10000 * n
def BRC_STEST_RES_groups (n : Nat) : FRef := ⟨(BRC_STEST_RES n), 31, 0⟩
def BRC_STEST_CMD (n : Nat) : Nat := 0x28012C + 0x10000 * n
def BRC_STEST_CMD_run (n : Nat) : FRef := ⟨(BRC_STEST_CMD n), 0, 0⟩
def BRC_WDG_CFG (n : Nat) : Nat := 0x280130 + 0x10000 * n
def BRC_WDG_CFG_min_ms (n : Nat) : FRef := ⟨(BRC_WDG_CFG n), 31, 16⟩
def BRC_WDG_CFG_ms (n : Nat) : FRef := ⟨(BRC_WDG_CFG n), 15, 0⟩
def BRC_WDG_KICK (n : Nat) : Nat := 0x280134 + 0x10000 * n
def BRC_WDG_KICK_key (n : Nat) : FRef := ⟨(BRC_WDG_KICK n), 31, 0⟩
def BRC_WDG_CNT (n : Nat) : Nat := 0x280138 + 0x10000 * n
def BRC_WDG_CNT_count (n : Nat) : FRef := ⟨(BRC_WDG_CNT n), 31, 0⟩
def BRC_RST_CNT (n : Nat) : Nat := 0x28013C + 0x10000 * n
def BRC_RST_CNT_count (n : Nat) : FRef := ⟨(BRC_RST_CNT n), 31, 0⟩
def BRC_TCM_GRADE (n : Nat) : Nat := 0x280140 + 0x10000 * n
def BRC_TCM_GRADE_h (n : Nat) : FRef := ⟨(BRC_TCM_GRADE n), 7, 0⟩
def BRC_TCM_MIRROR (n : Nat) : Nat := 0x280144 + 0x10000 * n
def BRC_TCM_MIRROR_m (n : Nat) : FRef := ⟨(BRC_TCM_MIRROR n), 7, 0⟩
def BRC_SB_REFUSED (n : Nat) : Nat := 0x280148 + 0x10000 * n
def BRC_SB_REFUSED_count (n : Nat) : FRef := ⟨(BRC_SB_REFUSED n), 31, 0⟩
def BRC_SWP_MISM (n : Nat) : Nat := 0x28014C + 0x10000 * n
def BRC_SWP_MISM_count (n : Nat) : FRef := ⟨(BRC_SWP_MISM n), 31, 0⟩
def BRC_SWP_CAP (n : Nat) : Nat := 0x280150 + 0x10000 * n
def BRC_SWP_CAP_valid (n : Nat) : FRef := ⟨(BRC_SWP_CAP n), 31, 31⟩
def BRC_SWP_CAP_structure (n : Nat) : FRef := ⟨(BRC_SWP_CAP n), 27, 24⟩
def BRC_SWP_CAP_index (n : Nat) : FRef := ⟨(BRC_SWP_CAP n), 18, 0⟩
def BRC_SWP_CFG (n : Nat) : Nat := 0x280200 + 0x10000 * n
def BRC_SWP_CFG_en (n : Nat) : FRef := ⟨(BRC_SWP_CFG n), 17, 17⟩
def BRC_SWP_CFG_action (n : Nat) : FRef := ⟨(BRC_SWP_CFG n), 16, 16⟩
def BRC_SWP_CFG_period_ms (n : Nat) : FRef := ⟨(BRC_SWP_CFG n), 15, 0⟩
def BRC_SWP_CMD (n : Nat) : Nat := 0x280204 + 0x10000 * n
def BRC_SWP_CMD_now (n : Nat) : FRef := ⟨(BRC_SWP_CMD n), 0, 0⟩
def BRC_SWP_STAT (n : Nat) : Nat := 0x280208 + 0x10000 * n
def BRC_SWP_STAT_passes (n : Nat) : FRef := ⟨(BRC_SWP_STAT n), 31, 16⟩
def BRC_SWP_STAT_last_ok (n : Nat) : FRef := ⟨(BRC_SWP_STAT n), 0, 0⟩
def BRC_FAIL_CFG (n : Nat) : Nat := 0x28020C + 0x10000 * n
def BRC_FAIL_CFG_win_s (n : Nat) : FRef := ⟨(BRC_FAIL_CFG n), 15, 8⟩
def BRC_FAIL_CFG_lim (n : Nat) : FRef := ⟨(BRC_FAIL_CFG n), 3, 0⟩
def BRC_BP_RX_RING (n : Nat) : Nat := 0x280300 + 0x10000 * n
def BRC_BP_RX_RING_log2 (n : Nat) : FRef := ⟨(BRC_BP_RX_RING n), 27, 24⟩
def BRC_BP_RX_RING_base (n : Nat) : FRef := ⟨(BRC_BP_RX_RING n), 18, 0⟩
def BRC_BP_RX_BUF (n : Nat) : Nat := 0x280304 + 0x10000 * n
def BRC_BP_RX_BUF_bytes (n : Nat) : FRef := ⟨(BRC_BP_RX_BUF n), 13, 0⟩
def BRC_BP_RX_HEAD (n : Nat) : Nat := 0x280308 + 0x10000 * n
def BRC_BP_RX_HEAD_index (n : Nat) : FRef := ⟨(BRC_BP_RX_HEAD n), 9, 0⟩
def BRC_BP_RX_TAIL (n : Nat) : Nat := 0x28030C + 0x10000 * n
def BRC_BP_RX_TAIL_index (n : Nat) : FRef := ⟨(BRC_BP_RX_TAIL n), 9, 0⟩
def BRC_BP_RX_LONG (n : Nat) : Nat := 0x280310 + 0x10000 * n
def BRC_BP_RX_LONG_count (n : Nat) : FRef := ⟨(BRC_BP_RX_LONG n), 31, 0⟩
def BRC_BP_TX_RING (n i : Nat) : Nat := 0x280400 + 0x10000 * n + 0x10 * i
def BRC_BP_TX_RING_log2 (n i : Nat) : FRef := ⟨(BRC_BP_TX_RING n i), 27, 24⟩
def BRC_BP_TX_RING_base (n i : Nat) : FRef := ⟨(BRC_BP_TX_RING n i), 18, 0⟩
def BRC_BP_TX_HEAD (n i : Nat) : Nat := 0x280404 + 0x10000 * n + 0x10 * i
def BRC_BP_TX_HEAD_index (n i : Nat) : FRef := ⟨(BRC_BP_TX_HEAD n i), 9, 0⟩
def BRC_BP_TX_TAIL (n i : Nat) : Nat := 0x280408 + 0x10000 * n + 0x10 * i
def BRC_BP_TX_TAIL_index (n i : Nat) : FRef := ⟨(BRC_BP_TX_TAIL n i), 9, 0⟩

/-! ### Table 14-7 (R305) -/
def ECC_CE (i : Nat) : Nat := 0x2A0100 + 8 * i
def ECC_CE_count (i : Nat) : FRef := ⟨(ECC_CE i), 31, 0⟩
def ECC_UE (i : Nat) : Nat := 0x2A0104 + 8 * i
def ECC_UE_count (i : Nat) : FRef := ⟨(ECC_UE i), 31, 0⟩
def ECC_CE_THR : Nat := 0x2A0180
def ECC_CE_THR_per_s : FRef := ⟨ECC_CE_THR, 15, 0⟩
def ECC_CAP : Nat := 0x2A0190
def ECC_CAP_valid : FRef := ⟨ECC_CAP, 31, 31⟩
def ECC_CAP_region : FRef := ⟨ECC_CAP, 27, 24⟩
def ECC_CAP_initiator : FRef := ⟨ECC_CAP, 15, 12⟩
def ECC_CAP_ADDR : Nat := 0x2A0194
def ECC_CAP_ADDR_unit : FRef := ⟨ECC_CAP_ADDR, 31, 0⟩
def ECC_CAP_SYN : Nat := 0x2A0198
def ECC_CAP_SYN_syn : FRef := ⟨ECC_CAP_SYN, 15, 0⟩
def ECC_CAP_T_LO : Nat := 0x2A019C
def ECC_CAP_T_LO_ns : FRef := ⟨ECC_CAP_T_LO, 31, 0⟩
def ECC_CAP_T_HI : Nat := 0x2A01A0
def ECC_CAP_T_HI_ns : FRef := ⟨ECC_CAP_T_HI, 31, 0⟩
def ECC_FILL_STAT : Nat := 0x2A01B0
def ECC_FILL_STAT_ondie : FRef := ⟨ECC_FILL_STAT, 31, 31⟩
def ECC_FILL_STAT_region : FRef := ⟨ECC_FILL_STAT, 14, 0⟩
def ECC_REMAP_USE (i : Nat) : Nat := 0x2A0200 + 4 * i
def ECC_REMAP_USE_free (i : Nat) : FRef := ⟨(ECC_REMAP_USE i), 31, 16⟩
def ECC_REMAP_USE_used (i : Nat) : FRef := ⟨(ECC_REMAP_USE i), 15, 0⟩
def ECC_RSV_ROWS (i : Nat) : Nat := 0x2A0240 + 4 * i
def ECC_RSV_ROWS_used (i : Nat) : FRef := ⟨(ECC_RSV_ROWS i), 6, 0⟩
def ECC_WITHDRAWN (i : Nat) : Nat := 0x2A0280 + 4 * i
def ECC_WITHDRAWN_units (i : Nat) : FRef := ⟨(ECC_WITHDRAWN i), 25, 0⟩
def ECC_REC_CLR : Nat := 0x2A02C0
def ECC_REC_CLR_clr : FRef := ⟨ECC_REC_CLR, 0, 0⟩
def ECC_Q_RST : Nat := 0x2A02D0
def ECC_Q_RST_count : FRef := ⟨ECC_Q_RST, 31, 0⟩
def ECC_Q_CAP : Nat := 0x2A02D4
def ECC_Q_CAP_valid : FRef := ⟨ECC_Q_CAP, 31, 31⟩
def ECC_Q_CAP_kind : FRef := ⟨ECC_Q_CAP, 27, 24⟩
def ECC_Q_CAP_index : FRef := ⟨ECC_Q_CAP, 16, 0⟩
def ECC_INJ : Nat := 0x2A0300
def ECC_INJ_arm : FRef := ⟨ECC_INJ, 31, 31⟩
def ECC_INJ_region : FRef := ⟨ECC_INJ, 27, 24⟩
def ECC_INJ_bits : FRef := ⟨ECC_INJ, 17, 16⟩
def ECC_INJ_ADDR : Nat := 0x2A0304
def ECC_INJ_ADDR_unit : FRef := ⟨ECC_INJ_ADDR, 31, 0⟩

/-! ### Table 14-8 (R306) -/
def SCB_REGION : Nat := 0x2A1100
def SCB_REGION_region : FRef := ⟨SCB_REGION, 3, 0⟩
def SCB_FIRST : Nat := 0x2A1104
def SCB_FIRST_unit : FRef := ⟨SCB_FIRST, 31, 0⟩
def SCB_COUNT : Nat := 0x2A1108
def SCB_COUNT_units : FRef := ⟨SCB_COUNT, 31, 0⟩
def SCB_PER : Nat := 0x2A110C
def SCB_PER_ms : FRef := ⟨SCB_PER, 15, 0⟩
def SCB_CTL : Nat := 0x2A1110
def SCB_CTL_abort : FRef := ⟨SCB_CTL, 1, 1⟩
def SCB_CTL_go : FRef := ⟨SCB_CTL, 0, 0⟩
def SCB_STAT : Nat := 0x2A1114
def SCB_STAT_err : FRef := ⟨SCB_STAT, 1, 1⟩
def SCB_S_WORDS : Nat := 0x2A1120
def SCB_S_WORDS_units : FRef := ⟨SCB_S_WORDS, 31, 0⟩
def SCB_S_CE : Nat := 0x2A1124
def SCB_S_CE_count : FRef := ⟨SCB_S_CE, 31, 0⟩
def SCB_S_UE : Nat := 0x2A1128
def SCB_S_UE_count : FRef := ⟨SCB_S_UE, 31, 0⟩
def SCB_S_HARD : Nat := 0x2A112C
def SCB_S_HARD_count : FRef := ⟨SCB_S_HARD, 31, 0⟩
def SCB_S_REMAP : Nat := 0x2A1130
def SCB_S_REMAP_count : FRef := ⟨SCB_S_REMAP, 31, 0⟩
def SCB_S_FIRST_UE : Nat := 0x2A1134
def SCB_S_FIRST_UE_unit : FRef := ⟨SCB_S_FIRST_UE, 31, 0⟩
def SCB_S_T_LO : Nat := 0x2A1138
def SCB_S_T_LO_ns : FRef := ⟨SCB_S_T_LO, 31, 0⟩
def SCB_S_T_HI : Nat := 0x2A113C
def SCB_S_T_HI_ns : FRef := ⟨SCB_S_T_HI, 31, 0⟩
def SCB_S_DUR : Nat := 0x2A1140
def SCB_S_DUR_us : FRef := ⟨SCB_S_DUR, 31, 0⟩
def SCB_REPQ_CNT : Nat := 0x2A1150
def SCB_REPQ_CNT_items : FRef := ⟨SCB_REPQ_CNT, 6, 0⟩
def SCB_REPQ_LOST : Nat := 0x2A1154
def SCB_REPQ_LOST_count : FRef := ⟨SCB_REPQ_LOST, 31, 0⟩
def SCB_RESCAN : Nat := 0x2A1158
def SCB_RESCAN_region : FRef := ⟨SCB_RESCAN, 14, 0⟩

/-! ### Table 15-9 (R327) -/
def HBR_STAT : Nat := 0x2C0100
def HBR_STAT_perst : FRef := ⟨HBR_STAT, 13, 13⟩
def HBR_STAT_fmask : FRef := ⟨HBR_STAT, 12, 12⟩
def HBR_STAT_msix_en : FRef := ⟨HBR_STAT, 11, 11⟩
def HBR_STAT_bme : FRef := ⟨HBR_STAT, 10, 10⟩
def HBR_STAT_refclk : FRef := ⟨HBR_STAT, 9, 8⟩
def HBR_STAT_width : FRef := ⟨HBR_STAT, 6, 4⟩
def HBR_STAT_gen : FRef := ⟨HBR_STAT, 3, 1⟩
def HBR_STAT_link : FRef := ⟨HBR_STAT, 0, 0⟩
def HBR_LINK_CFG : Nat := 0x2C0104
def HBR_LINK_CFG_hold_ms : FRef := ⟨HBR_LINK_CFG, 13, 0⟩
def HBR_CPL_TMO : Nat := 0x2C0108
def HBR_CPL_TMO_us : FRef := ⟨HBR_CPL_TMO, 15, 0⟩
def HBR_RTV_CFG : Nat := 0x2C010C
def HBR_RTV_CFG_hold_us : FRef := ⟨HBR_RTV_CFG, 31, 16⟩
def HBR_RTV_CFG_wait_ns : FRef := ⟨HBR_RTV_CFG, 10, 0⟩
def HBR_RTV_LAST : Nat := 0x2C0110
def HBR_RTV_LAST_data : FRef := ⟨HBR_RTV_LAST, 31, 31⟩
def HBR_RTV_EXP_ADDR : Nat := 0x2C0114
def HBR_RTV_EXP_ADDR_addr : FRef := ⟨HBR_RTV_EXP_ADDR, 31, 0⟩
def HBR_PF_CFG : Nat := 0x2C0118
def HBR_PF_CFG_age_ns : FRef := ⟨HBR_PF_CFG, 15, 0⟩
def HBR_DISC_PF_LO : Nat := 0x2C011C
def HBR_DISC_PF_LO_addr : FRef := ⟨HBR_DISC_PF_LO, 31, 0⟩
def HBR_DISC_PF_HI : Nat := 0x2C0120
def HBR_DISC_PF_HI_addr : FRef := ⟨HBR_DISC_PF_HI, 31, 0⟩
def HBR_WIN_BASE_LO : Nat := 0x2C0124
def HBR_WIN_BASE_LO_base : FRef := ⟨HBR_WIN_BASE_LO, 31, 0⟩
def HBR_WIN_BASE_HI : Nat := 0x2C0128
def HBR_WIN_BASE_HI_base : FRef := ⟨HBR_WIN_BASE_HI, 31, 0⟩
def HBR_WIN_SIZE : Nat := 0x2C012C
def HBR_WIN_SIZE_log2 : FRef := ⟨HBR_WIN_SIZE, 5, 0⟩
def HBR_PWE_CNT : Nat := 0x2C0130
def HBR_PWE_CNT_items : FRef := ⟨HBR_PWE_CNT, 4, 0⟩
def HBR_PWE_LO : Nat := 0x2C0134
def HBR_PWE_LO_item : FRef := ⟨HBR_PWE_LO, 31, 0⟩
def HBR_PWE_HI : Nat := 0x2C0138
def HBR_PWE_HI_item : FRef := ⟨HBR_PWE_HI, 31, 0⟩
def HBR_PWE_T_LO : Nat := 0x2C013C
def HBR_PWE_T_LO_ns : FRef := ⟨HBR_PWE_T_LO, 31, 0⟩
def HBR_PWE_T_HI : Nat := 0x2C0140
def HBR_PWE_T_HI_ns : FRef := ⟨HBR_PWE_T_HI, 31, 0⟩
def HBR_SEM_TMO : Nat := 0x2C0144
def HBR_SEM_TMO_ms : FRef := ⟨HBR_SEM_TMO, 15, 0⟩
def HBR_RANGE_LO (i : Nat) : Nat := 0x2C0180 + 0x10 * i
def HBR_RANGE_LO_base (i : Nat) : FRef := ⟨(HBR_RANGE_LO i), 31, 12⟩
def HBR_RANGE_HI (i : Nat) : Nat := 0x2C0184 + 0x10 * i
def HBR_RANGE_HI_base (i : Nat) : FRef := ⟨(HBR_RANGE_HI i), 7, 0⟩
def HBR_RANGE_CFG (i : Nat) : Nat := 0x2C0188 + 0x10 * i
def HBR_RANGE_CFG_en (i : Nat) : FRef := ⟨(HBR_RANGE_CFG i), 31, 31⟩
def HBR_RANGE_CFG_log2 (i : Nat) : FRef := ⟨(HBR_RANGE_CFG i), 21, 16⟩
def HBR_RANGE_CFG_pf (i : Nat) : FRef := ⟨(HBR_RANGE_CFG i), 1, 1⟩
def HBR_RANGE_CFG_ack (i : Nat) : FRef := ⟨(HBR_RANGE_CFG i), 0, 0⟩
def HBR_SEM (i : Nat) : Nat := 0x2C0300 + 4 * i
def HBR_SEM_got (i : Nat) : FRef := ⟨(HBR_SEM i), 31, 31⟩
def HBR_SEM_holder (i : Nat) : FRef := ⟨(HBR_SEM i), 19, 16⟩
def HBR_RING_BASE_LO (i : Nat) : Nat := 0x2C0400 + 0x20 * i
def HBR_RING_BASE_LO_base (i : Nat) : FRef := ⟨(HBR_RING_BASE_LO i), 31, 3⟩
def HBR_RING_BASE_HI (i : Nat) : Nat := 0x2C0404 + 0x20 * i
def HBR_RING_BASE_HI_base (i : Nat) : FRef := ⟨(HBR_RING_BASE_HI i), 31, 0⟩
def HBR_RING_CFG (i : Nat) : Nat := 0x2C0408 + 0x20 * i
def HBR_RING_CFG_en (i : Nat) : FRef := ⟨(HBR_RING_CFG i), 31, 31⟩
def HBR_RING_CFG_vec (i : Nat) : FRef := ⟨(HBR_RING_CFG i), 23, 16⟩
def HBR_RING_CFG_vec_en (i : Nat) : FRef := ⟨(HBR_RING_CFG i), 15, 15⟩
def HBR_RING_CFG_buf (i : Nat) : FRef := ⟨(HBR_RING_CFG i), 13, 0⟩
def HBR_RING_CFG_log2 (i : Nat) : FRef := ⟨(HBR_RING_CFG i), 3, 0⟩
def HBR_RING_HEAD (i : Nat) : Nat := 0x2C040C + 0x20 * i
def HBR_RING_HEAD_index (i : Nat) : FRef := ⟨(HBR_RING_HEAD i), 11, 0⟩
def HBR_RING_TAIL (i : Nat) : Nat := 0x2C0410 + 0x20 * i
def HBR_RING_TAIL_index (i : Nat) : FRef := ⟨(HBR_RING_TAIL i), 11, 0⟩
def HBR_RING_STAT (i : Nat) : Nat := 0x2C0414 + 0x20 * i
def HBR_RING_STAT_at (i : Nat) : FRef := ⟨(HBR_RING_STAT i), 31, 16⟩
def HBR_RING_STAT_cause (i : Nat) : FRef := ⟨(HBR_RING_STAT i), 15, 8⟩
def HBR_RING_STAT_halted (i : Nat) : FRef := ⟨(HBR_RING_STAT i), 0, 0⟩
def HBR_RING_CTL (i : Nat) : Nat := 0x2C0418 + 0x20 * i
def HBR_RING_CTL_resume (i : Nat) : FRef := ⟨(HBR_RING_CTL i), 0, 0⟩
def HBR_CNT (i : Nat) : Nat := 0x2C0700 + 4 * i
def HBR_CNT_count (i : Nat) : FRef := ⟨(HBR_CNT i), 31, 0⟩

/-! ### Tables 16-5, 16-6 (R346) -/
def VHL_CFG (n : Nat) : Nat := 0x2E0100 + 0x1000 * n
def VHL_CFG_down_unc (n : Nat) : FRef := ⟨(VHL_CFG n), 15, 8⟩
def VHL_CFG_en (n : Nat) : FRef := ⟨(VHL_CFG n), 0, 0⟩
def VHL_CRED_INIT (n i : Nat) : Nat := 0x2E0104 + 0x1000 * n + 4 * i
def VHL_CRED_INIT_coins (n i : Nat) : FRef := ⟨(VHL_CRED_INIT n i), 11, 0⟩
def VHL_HOLD_WM (n : Nat) : Nat := 0x2E0124 + 0x1000 * n
def VHL_HOLD_WM_hi (n : Nat) : FRef := ⟨(VHL_HOLD_WM n), 27, 16⟩
def VHL_HOLD_WM_lo (n : Nat) : FRef := ⟨(VHL_HOLD_WM n), 11, 0⟩
def VHL_ASYM (n : Nat) : Nat := 0x2E0128 + 0x1000 * n
def VHL_ASYM_ps (n : Nat) : FRef := ⟨(VHL_ASYM n), 31, 0⟩
def VHL_STAT (n : Nat) : Nat := 0x2E0180 + 0x1000 * n
def VHL_STAT_peer (n : Nat) : FRef := ⟨(VHL_STAT n), 17, 8⟩
def VHL_STAT_peer_v (n : Nat) : FRef := ⟨(VHL_STAT n), 7, 7⟩
def VHL_STAT_upstream (n : Nat) : FRef := ⟨(VHL_STAT n), 6, 6⟩
def VHL_STAT_state (n : Nat) : FRef := ⟨(VHL_STAT n), 5, 4⟩
def VHL_STAT_fec (n : Nat) : FRef := ⟨(VHL_STAT n), 3, 3⟩
def VHL_STAT_hold_o (n : Nat) : FRef := ⟨(VHL_STAT n), 2, 2⟩
def VHL_STAT_hold_i (n : Nat) : FRef := ⟨(VHL_STAT n), 1, 1⟩
def VHL_STAT_link (n : Nat) : FRef := ⟨(VHL_STAT n), 0, 0⟩
def VHL_PEER_UID_LO (n : Nat) : Nat := 0x2E0184 + 0x1000 * n
def VHL_PEER_UID_LO_uid (n : Nat) : FRef := ⟨(VHL_PEER_UID_LO n), 31, 0⟩
def VHL_PEER_UID_HI (n : Nat) : Nat := 0x2E0188 + 0x1000 * n
def VHL_PEER_UID_HI_uid (n : Nat) : FRef := ⟨(VHL_PEER_UID_HI n), 31, 0⟩
def VHL_DELAY (n : Nat) : Nat := 0x2E018C + 0x1000 * n
def VHL_DELAY_ps (n : Nat) : FRef := ⟨(VHL_DELAY n), 31, 0⟩
def VHL_LAST_E (n : Nat) : Nat := 0x2E0190 + 0x1000 * n
def VHL_LAST_E_ps (n : Nat) : FRef := ⟨(VHL_LAST_E n), 31, 0⟩
def VHL_CRED (n i : Nat) : Nat := 0x2E01A0 + 0x1000 * n + 4 * i
def VHL_CRED_coins (n i : Nat) : FRef := ⟨(VHL_CRED n i), 15, 0⟩
def VHL_QFILL (n : Nat) : Nat := 0x2E01C0 + 0x1000 * n
def VHL_QFILL_bytes (n : Nat) : FRef := ⟨(VHL_QFILL n), 17, 0⟩
def VHL_CNT (n i : Nat) : Nat := 0x2E0200 + 0x1000 * n + 4 * i
def VHL_CNT_count (n i : Nat) : FRef := ⟨(VHL_CNT n i), 31, 0⟩
def VHL_VC_STAT (n : Nat) : Nat := 0x2E0400 + 0x1000 * n
def VHL_VC_STAT_role (n : Nat) : FRef := ⟨(VHL_VC_STAT n), 31, 30⟩
def VHL_VC_STAT_hops (n : Nat) : FRef := ⟨(VHL_VC_STAT n), 29, 20⟩
def VHL_VC_STAT_mgen (n : Nat) : FRef := ⟨(VHL_VC_STAT n), 19, 12⟩
def VHL_VC_STAT_is_master (n : Nat) : FRef := ⟨(VHL_VC_STAT n), 11, 11⟩
def VHL_VC_STAT_master_v (n : Nat) : FRef := ⟨(VHL_VC_STAT n), 10, 10⟩
def VHL_VC_STAT_master (n : Nat) : FRef := ⟨(VHL_VC_STAT n), 9, 0⟩
def VHL_VC_CFG (n : Nat) : Nat := 0x2E0404 + 0x1000 * n
def VHL_VC_CFG_hop_max (n : Nat) : FRef := ⟨(VHL_VC_CFG n), 25, 16⟩
def VHL_VC_CFG_hello_us (n : Nat) : FRef := ⟨(VHL_VC_CFG n), 15, 0⟩
def VHL_VC_TMR (n : Nat) : Nat := 0x2E0408 + 0x1000 * n
def VHL_VC_TMR_sync_us (n : Nat) : FRef := ⟨(VHL_VC_TMR n), 31, 16⟩
def VHL_VC_TMR_mloss (n : Nat) : FRef := ⟨(VHL_VC_TMR n), 3, 0⟩
def VHL_REVERT (n : Nat) : Nat := 0x2E040C + 0x1000 * n
def VHL_REVERT_ms (n : Nat) : FRef := ⟨(VHL_REVERT n), 15, 0⟩
def VHL_CC_CFG (n : Nat) : Nat := 0x2E0410 + 0x1000 * n
def VHL_CC_CFG_lead_us (n : Nat) : FRef := ⟨(VHL_CC_CFG n), 31, 16⟩
def VHL_CC_CFG_guard_us (n : Nat) : FRef := ⟨(VHL_CC_CFG n), 15, 0⟩
def VHL_VC_CC_N (n : Nat) : Nat := 0x2E0414 + 0x1000 * n
def VHL_VC_CC_N_n (n : Nat) : FRef := ⟨(VHL_VC_CC_N n), 10, 0⟩
def VHL_CC_STAT (n : Nat) : Nat := 0x2E0418 + 0x1000 * n
def VHL_CC_STAT_open (n : Nat) : FRef := ⟨(VHL_CC_STAT n), 20, 16⟩
def VHL_CC_STAT_reason (n : Nat) : FRef := ⟨(VHL_CC_STAT n), 15, 8⟩
def VHL_CC_STAT_status (n : Nat) : FRef := ⟨(VHL_CC_STAT n), 3, 0⟩
def VHL_MASTER_UID_LO (n : Nat) : Nat := 0x2E0420 + 0x1000 * n
def VHL_MASTER_UID_LO_uid (n : Nat) : FRef := ⟨(VHL_MASTER_UID_LO n), 31, 0⟩
def VHL_MASTER_UID_HI (n : Nat) : Nat := 0x2E0424 + 0x1000 * n
def VHL_MASTER_UID_HI_uid (n : Nat) : FRef := ⟨(VHL_MASTER_UID_HI n), 31, 0⟩
def VHL_VC_CNT (n i : Nat) : Nat := 0x2E0430 + 0x1000 * n + 4 * i
def VHL_VC_CNT_count (n i : Nat) : FRef := ⟨(VHL_VC_CNT n i), 31, 0⟩
def VHL_PATH_SEL (n : Nat) : Nat := 0x2E0440 + 0x1000 * n
def VHL_PATH_SEL_dev (n : Nat) : FRef := ⟨(VHL_PATH_SEL n), 9, 0⟩
def VHL_PATH_CMD (n : Nat) : Nat := 0x2E0444 + 0x1000 * n
def VHL_PATH_CMD_staged (n : Nat) : FRef := ⟨(VHL_PATH_CMD n), 8, 8⟩
def VHL_PATH_CMD_cmd (n : Nat) : FRef := ⟨(VHL_PATH_CMD n), 1, 0⟩
def VHL_PATH_STAT (n : Nat) : Nat := 0x2E0448 + 0x1000 * n
def VHL_PATH_STAT_err (n : Nat) : FRef := ⟨(VHL_PATH_STAT n), 1, 1⟩
def VHL_PATH_STAT_busy (n : Nat) : FRef := ⟨(VHL_PATH_STAT n), 0, 0⟩
def VHL_PATH_DATA (n : Nat) : Nat := 0x2E044C + 0x1000 * n
def VHL_PATH_DATA_valid (n : Nat) : FRef := ⟨(VHL_PATH_DATA n), 31, 31⟩
def VHL_PATH_DATA_using_alt (n : Nat) : FRef := ⟨(VHL_PATH_DATA n), 18, 18⟩
def VHL_PATH_DATA_alt_v (n : Nat) : FRef := ⟨(VHL_PATH_DATA n), 13, 13⟩
def VHL_PATH_DATA_alt (n : Nat) : FRef := ⟨(VHL_PATH_DATA n), 10, 8⟩
def VHL_PATH_DATA_primary (n : Nat) : FRef := ⟨(VHL_PATH_DATA n), 2, 0⟩
def VHL_VOX_DA_LO (n i : Nat) : Nat := 0x2E0480 + 0x1000 * n + 0x10 * i
def VHL_VOX_DA_LO_mac (n i : Nat) : FRef := ⟨(VHL_VOX_DA_LO n i), 31, 0⟩
def VHL_VOX_DA_HI (n i : Nat) : Nat := 0x2E0484 + 0x1000 * n + 0x10 * i
def VHL_VOX_DA_HI_mac (n i : Nat) : FRef := ⟨(VHL_VOX_DA_HI n i), 15, 0⟩
def VHL_VOX_STAT (n i : Nat) : Nat := 0x2E0488 + 0x1000 * n + 0x10 * i
def VHL_VOX_STAT_peer (n i : Nat) : FRef := ⟨(VHL_VOX_STAT n i), 17, 8⟩
def VHL_VOX_STAT_peer_v (n i : Nat) : FRef := ⟨(VHL_VOX_STAT n i), 7, 7⟩
def VHL_VOX_STAT_upstream (n i : Nat) : FRef := ⟨(VHL_VOX_STAT n i), 6, 6⟩
def VHL_VOX_DELAY (n i : Nat) : Nat := 0x2E048C + 0x1000 * n + 0x10 * i
def VHL_VOX_DELAY_ps (n i : Nat) : FRef := ⟨(VHL_VOX_DELAY n i), 31, 0⟩
def VHL_VOX_ASYM (n i : Nat) : Nat := 0x2E04C0 + 0x1000 * n + 4 * i
def VHL_VOX_ASYM_ps (n i : Nat) : FRef := ⟨(VHL_VOX_ASYM n i), 31, 0⟩
def VHL_VOX_CNT (n i j : Nat) : Nat := 0x2E0500 + 0x1000 * n + 0x10 * i + 4 * j
def VHL_VOX_CNT_count (n i j : Nat) : FRef := ⟨(VHL_VOX_CNT n i j), 31, 0⟩

/-! ### Table 17-8 (R366) -/
def RST_CAUSE : Nat := 0x1100
def RST_CAUSE_cause : FRef := ⟨RST_CAUSE, 31, 27⟩
def RST_CAUSE_class : FRef := ⟨RST_CAUSE, 21, 20⟩
def RST_BOOT_CNT : Nat := 0x1104
def RST_BOOT_CNT_limit : FRef := ⟨RST_BOOT_CNT, 10, 8⟩
def RST_BOOT_CNT_count : FRef := ⟨RST_BOOT_CNT, 2, 0⟩
def RST_BOOT_GOOD : Nat := 0x1108
def RST_BOOT_GOOD_key : FRef := ⟨RST_BOOT_GOOD, 31, 0⟩
def RST_BOOT_CLR : Nat := 0x110C
def RST_BOOT_CLR_key : FRef := ⟨RST_BOOT_CLR, 31, 0⟩
def RST_BOOT_TMO : Nat := 0x1110
def RST_BOOT_TMO_ms : FRef := ⟨RST_BOOT_TMO, 15, 0⟩
def RST_BOOT_REC (i : Nat) : Nat := 0x1120 + 4 * i
def RST_BOOT_REC_entry (i : Nat) : FRef := ⟨(RST_BOOT_REC i), 31, 0⟩
def RST_KENNEL : Nat := 0x1140
def RST_KENNEL_profile : FRef := ⟨RST_KENNEL, 9, 8⟩
def RST_KENNEL_reason : FRef := ⟨RST_KENNEL, 3, 0⟩
def RST_OUT_CTL : Nat := 0x1144
def RST_OUT_CTL_ready_hold : FRef := ⟨RST_OUT_CTL, 1, 1⟩
def RST_OUT_CTL_fault : FRef := ⟨RST_OUT_CTL, 0, 0⟩
def RST_PINS : Nat := 0x1148
def RST_PINS_faultn : FRef := ⟨RST_PINS, 1, 1⟩
def RST_PINS_resetn : FRef := ⟨RST_PINS, 0, 0⟩
def RST_HOLDOFF : Nat := 0x114C
def RST_HOLDOFF_count : FRef := ⟨RST_HOLDOFF, 31, 16⟩
def RST_HOLDOFF_max_ns : FRef := ⟨RST_HOLDOFF, 9, 0⟩
def RST_THERM : Nat := 0x1150
def RST_THERM_temp : FRef := ⟨RST_THERM, 15, 8⟩
def RST_THERM_warn : FRef := ⟨RST_THERM, 0, 0⟩
def RST_MILE (i : Nat) : Nat := 0x1180 + 4 * i
def RST_MILE_us (i : Nat) : FRef := ⟨(RST_MILE i), 31, 0⟩

/-! ### Table 17-9 (R367) -/
def OPT_IMG (i : Nat) : Nat := 0x2100 + 4 * i
def OPT_IMG_bytes (i : Nat) : FRef := ⟨(OPT_IMG i), 31, 0⟩
def OPT_COPY_STAT : Nat := 0x2140
def OPT_COPY_STAT_bad : FRef := ⟨OPT_COPY_STAT, 18, 16⟩
def OPT_COPY_STAT_used : FRef := ⟨OPT_COPY_STAT, 10, 8⟩
def OPT_COPY_STAT_valid : FRef := ⟨OPT_COPY_STAT, 2, 0⟩
def OPT_COPY_STAT_rom : FRef := ⟨OPT_COPY_STAT, 31, 31⟩
def OPT_COPY_STAT_repair : FRef := ⟨OPT_COPY_STAT, 30, 30⟩
def OPT_STG (i : Nat) : Nat := 0x2180 + 4 * i
def OPT_STG_bytes (i : Nat) : FRef := ⟨(OPT_STG i), 31, 0⟩
def OPT_CMD : Nat := 0x21C0
def OPT_CMD_key : FRef := ⟨OPT_CMD, 31, 0⟩
def OPT_STAT : Nat := 0x21C4
def OPT_STAT_status : FRef := ⟨OPT_STAT, 11, 8⟩
def OPT_STAT_busy : FRef := ⟨OPT_STAT, 0, 0⟩

/-! ### Table 17-10 (R368) -/
def CLK_STAT : Nat := 0x3100
def CLK_STAT_stable : FRef := ⟨CLK_STAT, 14, 8⟩
def CLK_STAT_ref_ok : FRef := ⟨CLK_STAT, 1, 1⟩
def CLK_STAT_root_lock : FRef := ⟨CLK_STAT, 0, 0⟩
def CLK_LOL_CNT : Nat := 0x3104
def CLK_LOL_CNT_count : FRef := ⟨CLK_LOL_CNT, 31, 0⟩
def CLK_LOL_MAX : Nat := 0x3108
def CLK_LOL_MAX_ns : FRef := ⟨CLK_LOL_MAX, 13, 0⟩
def CLK_REF_DEV : Nat := 0x310C
def CLK_REF_DEV_ppm : FRef := ⟨CLK_REF_DEV, 15, 0⟩
def CLK_FAIL : Nat := 0x3110
def CLK_FAIL_clocks : FRef := ⟨CLK_FAIL, 14, 8⟩

/-! ### Table 18-9 (R382) -/
def UPD_STAT : Nat := 0x300100
def UPD_STAT_reason : FRef := ⟨UPD_STAT, 31, 24⟩
def UPD_STAT_state : FRef := ⟨UPD_STAT, 19, 16⟩
def UPD_STAT_busy : FRef := ⟨UPD_STAT, 0, 0⟩
def UPD_BANK : Nat := 0x300104
def UPD_BANK_verified : FRef := ⟨UPD_BANK, 9, 8⟩
def UPD_BANK_run : FRef := ⟨UPD_BANK, 4, 4⟩
def UPD_BANK_boot : FRef := ⟨UPD_BANK, 0, 0⟩
def UPD_VER_A : Nat := 0x300108
def UPD_VER_A_version : FRef := ⟨UPD_VER_A, 31, 0⟩
def UPD_VER_B : Nat := 0x30010C
def UPD_VER_B_version : FRef := ⟨UPD_VER_B, 31, 0⟩
def UPD_RUN_VER : Nat := 0x300110
def UPD_RUN_VER_version : FRef := ⟨UPD_RUN_VER, 31, 0⟩
def UPD_SEC_FLOOR : Nat := 0x300114
def UPD_SEC_FLOOR_floor : FRef := ⟨UPD_SEC_FLOOR, 31, 0⟩
def UPD_GUARD : Nat := 0x300118
def UPD_GUARD_halt : FRef := ⟨UPD_GUARD, 4, 4⟩
def UPD_GUARD_sleep : FRef := ⟨UPD_GUARD, 3, 3⟩
def UPD_GUARD_owner : FRef := ⟨UPD_GUARD, 2, 2⟩
def UPD_GUARD_supply : FRef := ⟨UPD_GUARD, 1, 1⟩
def UPD_GUARD_moving : FRef := ⟨UPD_GUARD, 0, 0⟩
def UPD_CMD : Nat := 0x300120
def UPD_CMD_bank : FRef := ⟨UPD_CMD, 8, 8⟩
def UPD_CMD_cmd : FRef := ⟨UPD_CMD, 3, 0⟩
def UPD_W_SRC_LO : Nat := 0x300124
def UPD_W_SRC_LO_addr : FRef := ⟨UPD_W_SRC_LO, 31, 0⟩
def UPD_W_SRC_HI : Nat := 0x300128
def UPD_W_SRC_HI_addr : FRef := ⟨UPD_W_SRC_HI, 31, 0⟩
def UPD_W_DST : Nat := 0x30012C
def UPD_W_DST_offset : FRef := ⟨UPD_W_DST, 26, 0⟩
def UPD_W_LEN : Nat := 0x300130
def UPD_W_LEN_bytes : FRef := ⟨UPD_W_LEN, 26, 0⟩
def UPD_HO_T_LO : Nat := 0x300140
def UPD_HO_T_LO_ns : FRef := ⟨UPD_HO_T_LO, 31, 0⟩
def UPD_HO_T_HI : Nat := 0x300144
def UPD_HO_T_HI_ns : FRef := ⟨UPD_HO_T_HI, 31, 0⟩
def UPD_HO_CTL : Nat := 0x300148
def UPD_HO_CTL_armed : FRef := ⟨UPD_HO_CTL, 31, 31⟩
def UPD_HO_CTL_rearm : FRef := ⟨UPD_HO_CTL, 30, 30⟩
def UPD_HO_CTL_late : FRef := ⟨UPD_HO_CTL, 29, 29⟩
def UPD_HO_CTL_fired : FRef := ⟨UPD_HO_CTL, 28, 28⟩
def UPD_HO_CTL_args : FRef := ⟨UPD_HO_CTL, 27, 8⟩
def UPD_HO_CTL_action : FRef := ⟨UPD_HO_CTL, 7, 0⟩
def UPD_CONFIRM : Nat := 0x300150
def UPD_CONFIRM_key : FRef := ⟨UPD_CONFIRM, 31, 0⟩
def UPD_CONF_TMO : Nat := 0x300154
def UPD_CONF_TMO_s : FRef := ⟨UPD_CONF_TMO, 15, 0⟩
def UPD_SB_TMO : Nat := 0x300158
def UPD_SB_TMO_ms : FRef := ⟨UPD_SB_TMO, 15, 0⟩
def UPD_CASC_VER : Nat := 0x30015C
def UPD_CASC_VER_need : FRef := ⟨UPD_CASC_VER, 31, 16⟩
def UPD_CASC_VER_low : FRef := ⟨UPD_CASC_VER, 15, 0⟩
def UPD_OLOCK : Nat := 0x300160
def UPD_OLOCK_clear : FRef := ⟨UPD_OLOCK, 10, 10⟩
def UPD_OLOCK_unlock : FRef := ⟨UPD_OLOCK, 9, 9⟩
def UPD_OLOCK_set : FRef := ⟨UPD_OLOCK, 8, 8⟩
def UPD_OLOCK_unlocked : FRef := ⟨UPD_OLOCK, 1, 1⟩
def UPD_OLOCK_locked : FRef := ⟨UPD_OLOCK, 0, 0⟩
def UPD_OLOCK_CTR : Nat := 0x300164
def UPD_OLOCK_CTR_ctr : FRef := ⟨UPD_OLOCK_CTR, 31, 0⟩
def UPD_LAST : Nat := 0x300168
def UPD_LAST_reason : FRef := ⟨UPD_LAST, 31, 24⟩
def UPD_LAST_outcome : FRef := ⟨UPD_LAST, 19, 16⟩
def UPD_LAST_minor_patch : FRef := ⟨UPD_LAST, 15, 0⟩
def UPD_PART_DONE : Nat := 0x300174
def UPD_PART_DONE_done : FRef := ⟨UPD_PART_DONE, 23, 0⟩
def UPD_PART : Nat := 0x300170
def UPD_PART_go : FRef := ⟨UPD_PART, 8, 8⟩
def UPD_PART_group : FRef := ⟨UPD_PART, 2, 0⟩

end Sys2Proof.Machine
end

