-- ==== Sys2Proof/Machine/State.lean ====
section
/-!
DEFINITION. The state of the DG-960: everything the spec gives the block, as plain data, and the queue of the commands
that wait. A register is its own state: `Dev.regs` holds every register of the register space (R32) at its
register-space offset, and a structure below holds only what no register shows.
-/

namespace Sys2Proof.Machine

/-- Why the machine stops. -/
inductive Fault where
  /-- Raised by `exec` for a command whose operands name nothing the spec gives the device (`Instr.wf` is false): such a
  command is no row of the table (safe). -/
  | illFormed
  deriving DecidableEq, Repr

/-- Why a command has no meaning. -/
inductive Refusal where
  /-- Raised by `exec` for a command that has no meaning yet; every command has one, so by none (safe). -/
  | notModelled (mnemonic : String)
  deriving DecidableEq, Repr

/-- The base of the major mode (Table 0-3, R2): the conditions of Table 0-3 are held beside it. -/
inductive Base where
  | off | dormant | listen | start | kennel | service
  deriving DecidableEq, Repr

/-- What a timer is for. -/
inductive TimerKind where
  | oldKey
  | boffWait | boffHold | linResp
  | railsValid | options | rootArray | classDEnd | bootGood | bootHalf | clockWait
  | journal | mainOff | pllLoss | dieTemp | refCheck | optionWrite | optionRepair
  | unitReset | commitCheck | fence
  | bankWrite | bankVerify | prepareCopy | standby | confirm | phyCodeDone | phyCodeTimeout
  | wdg | bFill | resyncCopy | selfTest | sweep | sweepDone
  | scrubPeriod | ceSecond | repair
  | train | linkHold | lpiIdle | lpiWake | diag | fcRefresh | pauseEnd | pwd | pwdBreak
  | pin | sweepPass | windowPass | tableLock | flush | recovReset | latent
  | sem | hostHold | rtvWait | rtvHold | cplTmo
  | kalTmo | kalAgg | kalDump
  | keyOp | sigOp | reseed | tmpErase
  | holdover | sampleApply | pulse
  | spill | prefetch | mcSweep | audCount | walkPhase
  | hello | mloss | timeSync | idRelay | pathRevert | decideResend
  | supenOff | consTmo | listen | mainDark | wakenPin
  deriving DecidableEq, Repr

/-- A running timer: what it is for and, where several run, whose it is. -/
structure Timer where
  kind : TimerKind
  i : Nat := 0
  j : Nat := 0
  deriving DecidableEq, Repr

/-- What the device gives to the outside: interrupt messages (R50), values that reads return (R33), frames of its own
protocols, and pin edges with a time. -/
inductive Output where
  /-- A brace message: vector and page index (R50). -/
  | braceMsg (vec page : Nat)
  /-- An MSI-X message (R50, R317). -/
  | msix (vec : Nat)
  /-- The value a register read returned to an initiator. -/
  | readValue (i : Initiator) (addr : Nat) (v : Word)
  /-- A posted write of the device toward host memory: fabric address and bytes. -/
  | hostWrite (addr : Nat) (data : List Byte)
  /-- A frame an output has sent: its bytes, ended invalidly or not, and its first byte's egress time in root periods. -/
  | frame (port : Nat) (data : List Byte) (bad : Bool) (at_ : Nat)
  /-- A write to host memory by a host ring, or a posted write of the window: host address and bytes. -/
  | pcieWrite (addr : Nat) (data : List Byte)
  /-- An outbound read request: tag, host address, bytes; a zero-length read acknowledges a write (R312). -/
  | pcieRead (tag addr n : Nat)
  /-- The completion of a host read: fabric address and data (R314, R315). -/
  | hostData (addr : Nat) (v : Word)
  /-- A precise access fault of a brace: the address, and whether it was a store (R312, R315). -/
  | braceFault (b : Nat) (addr : Nat) (store : Bool)
  /-- A frame that a CAN or LIN channel has sent, as the bus carries it, and the instant it ended (R173, R188). -/
  | busFrame (port : Nat) (r : BusRecord) (at_ : Nat)
  /-- A GPIO output changes at an instant, root periods (R146). -/
  | gpioEdge (pin : Nat) (level : Bool) (at_ : Nat)
  /-- A control message sent on a link code (R333). -/
  | ctl (link : Nat) (m : Ctl)
  /-- A cascade frame forwarded unopened: link code, tag and payload (R333). -/
  | ctlFrame (link tag : Nat) (data : List Byte)
  /-- A consent token sent on a link (R262): link code (8 inside the device) and token. -/
  | token (link : Nat) (t : Token)
  /-- A SUPEN output goes on or off at an instant, root periods (R257). -/
  | supen (n : Nat) (on : Bool) (at_ : Nat)
  /-- The SOF edge of a timed CAN frame at the transceiver's transmit input (R146). -/
  | canSof (ch : Nat) (at_ : Nat)
  /-- The header of a LIN commander (R187): break and delimiter bits, protected identifier, and when the break begins (R146). -/
  | linHeader (ch brk del pid : Nat) (at_ : Nat)
  deriving DecidableEq, Repr

/-- A key slot of a context (R219): state, key, association number, and the packet number or counter under the key. -/
structure KeySlot where
  st : Nat := 0
  key : List Byte := []
  an : Nat := 0
  pn0 : Nat := 0
  /-- Next PN (format 2), lowest acceptable PN (format 1), last value (format 3), counter (format 4). -/
  pn : Nat := 0
  ssci : Nat := 0
  salt : Nat := 0
  spend : Nat := 0
  warned : Bool := false
  deriving DecidableEq, Repr

/-- Live state of an authentication context: its two slots, which holds the newest key, and the time unit and counter of
freshness mode 2 (R228). -/
structure CtxState where
  s0 : KeySlot := {}
  s1 : KeySlot := {}
  newest : Bool := false
  unit : Nat := 0
  c16 : Nat := 0
  deriving DecidableEq, Repr

/-- A check at ingress as it started (R220): the port's mode and PTP bypass (0 for a record), the context, its record and
slots, the device time, whether it has a usable key, and whether its previous key still overlaps (R229, R231). -/
structure CvStart where
  mode : Nat := 0
  bypass : Bool := false
  ctx : Option Nat := none
  cfg : Nat := 0
  st : CtxState := {}
  ns : Nat := 0
  usable : Bool := false
  overlap : Bool := false
  deriving DecidableEq, Repr

/-- A check value to be generated: its context, and the record and key slot as they stood when it started (R220, R224). -/
structure CvGen where
  ctx : Nat
  cfg : Nat
  slot : KeySlot
  deriving DecidableEq, Repr

/-- A software launch slot (Table 6-7): launch time, control word, rearm period. -/
structure LSlot where
  time : Nat := 0
  ctl : Word := 0
  per : Nat := 0
  deriving DecidableEq, Repr

/-- The cipher bank beside its registers (chapter 10). -/
structure Aut where
  ctx : NMap Nat
  ctxS : NMap Nat
  ctxD : List Nat
  live : NMap CtxState
  /-- Context counters (context × 12 + i). -/
  cnt : NMap Nat
  /-- Changeover slots (R231). -/
  chg : NMap LSlot
  deriving DecidableEq, Repr

/-- What a page's commit engine is doing (R40 to R45). -/
inductive CommitPhase where
  | none | checking | checked | armed | prepared
  deriving DecidableEq, Repr

/-- A fence that has been issued and has not completed (R46 to R49). `mark` is the condition's own data: the epoch for
a Table fence, the descriptors or FIFO items still to be consumed for a Queue fence, 1 for a Bridge fence whose initiator's
write has failed; `slots` the launch slots a Time fence waits for. -/
structure Fence where
  token : Nat
  kind : Nat
  queue : Nat
  by_ : Initiator
  mark : Nat
  slots : List (Slot × Nat)
  /-- What a Queue or Bridge fence waits for: frames, copies, repairs or reads by their numbers. -/
  items : List Nat
  failed : Bool
  deriving DecidableEq, Repr

/-- What a page holds beside its registers. -/
structure PgState where
  /-- The key of the lock; 0 unlocked (R53). -/
  lockKey : Word := 0
  /-- Wrong keys since the last class D reset (R53). -/
  wrongKeys : Nat := 0
  phase : CommitPhase := .none
  /-- The command being carried out: 1 now, 2 timed, 3 cascade-wide. -/
  cmd : Nat := 0
  /-- The group of the commit, 0 for the page alone (R44). -/
  group : Nat := 0
  /-- Who wrote the command. -/
  by_ : Initiator := .resetCtl
  /-- Launch time in device-time nanoseconds. -/
  launch : Nat := 0
  /-- The cascade's COMMIT decision has been received (R45). -/
  decided : Bool := false
  nextToken : Nat := 0
  fences : List Fence := []
  /-- Each initiator's last fence: initiator code, queue, kind (0 refused), token (R46). -/
  last : List (Initiator × Nat × Nat × Nat) := []
  /-- Reports CLOCK_FAIL (R359). -/
  clockFail : Bool := false
  /-- A release has been requested and waits for the clock (R359). -/
  clockWait : Bool := false
  /-- Under a diagnostic (Table 2-6). -/
  diag : Bool := false
  /-- A capture of the page (type ROL) holds its first event until it is read. -/
  captured : Bool := false
  /-- A return was requested while isolating (R38). -/
  returnAsked : Bool := false
  deriving DecidableEq, Repr

/-- Modes, supplies, resets and the start sequence (chapters 1, 17 and 19). -/
structure Power where
  base : Base
  /-- The Halt condition (Table 0-3). -/
  halted : Bool
  /-- The Update condition. -/
  updating : Bool
  /-- The Settle condition. -/
  settling : Bool
  /-- MAIN is switched on. -/
  main : Bool
  /-- The MAIN rails are valid. -/
  rails : Bool
  /-- A class D (or P) reset is in its assertion phase. -/
  asserted : Bool
  /-- RESETN is low (R349). -/
  resetnLow : Bool
  /-- R350 holds the assertion. -/
  thermal : Bool
  /-- The supply-loss sequence runs (R387). -/
  losing : Bool
  /-- t0 of the current start, root periods. -/
  t0 : Nat
  /-- The instant of the last class P reset, root periods: always-on time counts from it. -/
  aon0 : Nat
  /-- Boot-good has released FAULTN since the last class D reset (R353). -/
  goodSeen : Bool
  /-- FAULTN is released, and READY is high but for `OUT_CTL.ready_hold` (R353). -/
  faultn : Bool
  readyUp : Bool
  optionsLoaded : Bool
  /-- The on-die fill has ended (R293). -/
  filled : Bool
  /-- The other bank is being checked (R361). -/
  secondCheck : Bool
  imageGood : Bool
  /-- Start-image tables, or the Kennel profile, are in service. -/
  tablesGood : Bool
  /-- The braces have been released to their self-test. -/
  bracesOut : Bool
  /-- The restriction of closed provisioning is lifted until the next class D reset (R357). -/
  optionsFree : Bool
  /-- The first instant the die was seen above 140 °C without a break (R350). -/
  hotSince : Option Nat
  /-- VSUP by its last report, units of 10 mV, and its minimum since the last journal. -/
  vsup : Nat
  /-- Root PLL lock lost at this instant (R16). -/
  lockLost : Option Nat
  /-- The instant of the root PLL's last lock, root periods (R15). -/
  lockAt : Nat
  /-- The last loss of supply was a brown-out (R386). -/
  brown : Bool
  /-- What the power-loss journal will hold: cause, mode, device time, lowest VSUP (R387). -/
  journal : Option (Nat × Nat × Nat × Nat)
  deriving DecidableEq, Repr

/-- What MRAM holds beside the records shown in registers (Table 18-1): three option copies, the image headers of the
two banks as last verified. -/
structure Mram where
  /-- Option copies 0 to 2, each 64 bytes and its count of uncorrectable words (R355). -/
  options : List (List Byte × Nat)
  headerA : Option ImageHeader
  headerB : Option ImageHeader
  /-- Remap record: (region, unit) pairs remapped, (region, unit) pairs withdrawn, Reserve rows (channel, row). -/
  remapped : List (Nat × Nat)
  withdrawn : List (Nat × Nat)
  /-- The device ID last held (R337). -/
  lastId : Option Nat
  /-- A rollback to be raised at the next start (R377). -/
  rollback : Bool
  deriving DecidableEq, Repr

/-- What the two braces hold beside their registers (chapter 13), by brace: 0 A, 1 B. -/
structure Braces where
  /-- Instants of the brace's class B resets, newest first (R284). -/
  bTimes : NMap (List Nat)
  /-- Last kick of the watchdog since the brace's release, root periods plus 1; 0 none (R287). -/
  kick : NMap Nat
  /-- Braces whose firmware runs after the copy of a resynchronisation or of an activation (R281, R375). -/
  copied : List Nat
  /-- Braces that have passed their self-test at the start and wait for a role (R279). -/
  passed : List Nat
  deriving DecidableEq, Repr

/-- The memory integrity unit and the scrubber beside their registers (chapter 14). -/
structure Integrity where
  /-- The repair queue: region and unit, oldest first, with the item's serial number (R295). -/
  repairQ : List (Nat × Nat × Nat)
  /-- Till words that wait for their coin to be FREE (R295). -/
  waiting : List (Nat × Nat)
  /-- Region, first unit and units of the pass, and of its repetitions (R296). -/
  region : Nat
  first : Nat
  units : Nat
  /-- Reserve rows with a hard burst that are being copied (R299). -/
  rowCopies : Nat
  /-- Next unit of the pass that runs and the units left (R296). -/
  passAt : Nat
  passLeft : Nat
  passStart : Nat
  /-- The summary that the running pass is gathering: words, CE, UE, hard, remaps, first UE. -/
  words : Nat
  ce : Nat
  ue : Nat
  hard : Nat
  remaps : Nat
  firstUe : Nat
  /-- Correctable errors of each region in the current second. -/
  ceSecond : NMap Nat
  /-- Remap entries used per (region, macro), and spare rows used per Reserve channel. -/
  macros : NMap Nat
  /-- Clear the remap record at the next class D reset (R300). -/
  clearRec : Bool
  deriving DecidableEq, Repr

/-- The update unit beside its registers (chapter 18). -/
structure Update where
  /-- Bank, source, offset and length of the write that runs. -/
  bank : Nat
  src : Nat
  dst : Nat
  len : Nat
  /-- The header of the image being activated. -/
  hdr : Option ImageHeader
  /-- The brace that is being loaded. -/
  target : Option Brace
  /-- The option write of a confirm or a restart runs: 1 confirm, 2 restart, 3 OPT.CMD. -/
  optWrite : Nat
  /-- The image of the option write that runs. -/
  optImage : List Byte
  /-- VSUP, filtered over 10 ms, is below the activation limit of the options, as last seen (R374). -/
  supplyLow : Bool
  /-- PHY code load: the group and the port being loaded (R379). -/
  partGroup : Nat
  partPort : Option Nat
  deriving DecidableEq, Repr
/-- A frame in reception at an Ethernet or Voholt input: its Vault frame (none where it never enters the Vault or has been
discarded), the bytes received on the wire and their first 64, whether it arrived while the port was isolated, the classes
whose back-pressure had reached the port at its start (R72), and whether its headroom ran out (R73). -/
structure Rx where
  fid : Option Nat := none
  bytes : Nat := 0
  head : List Byte := []
  iso : Bool := false
  press : Nat := 0
  excess : Bool := false
  /-- Its first bytes arrived while FWD was in unit reset. -/
  rst : Bool := false
  inNs : Nat := 0
  inFrac : Nat := 0
  t0 : Nat := 0
  /-- `max_len` as it stood at its start (R40). -/
  maxLen : Nat := 9216
  /-- The Vault frame it had, where that has been discarded (R98). -/
  gone : Option Nat := none
  deriving DecidableEq, Repr

/-- The Ethernet ports beside their registers (chapter 7). -/
structure Eth where
  /-- Ledger counters, 40 bits, by port × 64 + index (Table 7-4). -/
  ledger : NMap Nat
  /-- Speed code of the link when it was last up. -/
  lastSpeed : NMap Nat
  /-- Outputs whose VOQs drain (R155, R165, R184, R191, R325, R344), and those whose drain has been raised. -/
  draining : List Nat
  drainSaid : List Nat
  /-- Received pause by port × 16 + priority, and + 8 + class for a class that no priority maps to: its end, root periods;
  by port × 8 + class, when the class's unbroken pause began, plus 1 (R163, R164). -/
  paused : NMap Nat
  pausedAt : NMap Nat
  /-- Ports in low-power idle toward the peer, and ports waking from it (R156). -/
  lpi : List Nat
  waking : List Nat
  /-- Classes asserted in the last flow-control frame of each port, and ports with one waiting (R162). -/
  fcSent : NMap Nat
  fcWait : List Nat
  /-- When each port's wire is free for the next flow-control frame, root periods: the end of what it sent last and the gap
  (R162); the length of the last MAC control frame received (R167). -/
  wire : NMap Nat
  ctlLen : NMap Nat
  /-- Frames in reception by input. -/
  rx : NMap (Option Rx)
  deriving DecidableEq, Repr

/-- A learn event (R96, R98): the MAC key, the port or Voholt source it came from, and the frame it rests on. -/
structure Learn where
  key : Nat
  port : Nat
  dest : Nat
  inNs : Nat
  inFrac : Nat
  fid : Nat
  deriving DecidableEq, Repr

/-- A descriptor whose FLUSH runs. -/
structure Flush where
  ring : Nat
  desc : TblDesc
  deriving DecidableEq, Repr

/-- The forwarding tables, the learning unit and table DMA beside their registers (chapter 4). -/
structure Fwd where
  /-- Entries by table × 2^20 + index (Tables 4-5 to 4-9, R94); a ternary rule is value, mask × 2^256 and
  action × 2^512. Unlisted entries are zero. -/
  tab : NMap Nat
  learnQ : List Learn
  park : List Learn
  /-- Pass parity of the Sweeper and the next slot of the pass that runs (R99). -/
  parity : Bool
  sweepAt : Option Nat
  flushes : List Flush
  /-- Locked entries: table and index (R102). -/
  locks : List (Nat × Nat)
  /-- The link port plus 1 on which the remote entry of a key was learned, by key (R97, R332). -/
  linkOf : NMap Nat
  deriving DecidableEq, Repr


/-- An entry of the Retriever (R314): its fabric address, whether it holds the aligned 64-byte block, its data once
fetched, and whether the read that missed still waits for it. -/
structure RtvEntry where
  addr : Nat
  block : Bool := false
  data : Option (List Byte) := none
  waiting : Bool := true
  deriving DecidableEq, Repr

/-- A read-buffer line (R316): its block's fabric address, its reader, its 64 bytes, the dwords not yet delivered, and
when it was fetched. -/
structure PfLine where
  addr : Nat
  by_ : Nat
  data : List Byte
  left : List Nat
  at_ : Nat
  deriving DecidableEq, Repr

/-- An outbound read in flight (R312, R315): its issuer's code, its fabric address, whether it acknowledges a write, and
the bytes of a prefetched block. -/
structure OutRead where
  by_ : Nat
  addr : Nat
  ack : Bool
  serial : Nat := 0
  n : Nat := 0
  deriving DecidableEq, Repr

/-- An item of the posted-write error log (Table 15-6) and its device time. -/
structure PweItem where
  item : Nat
  ns : Nat
  deriving DecidableEq, Repr

/-- The host bridge beside its registers (chapter 15). -/
structure Hbr where
  /-- Masked MSI-X vectors, pending vectors in the order raised (R317), and the address and data words of the table
  (entry × 4 + word). -/
  masked : List Nat
  pba : List Nat
  table : NMap Word
  /-- PE_RSTN is low; PE_WAKEN is driven low; the function is in D3hot. -/
  perst : Bool
  waken : Bool
  d3 : Bool
  /-- Retriever entries and read-buffer lines. -/
  rtv : NMap (Option RtvEntry)
  lines : NMap (Option PfLine)
  /-- Outbound reads in flight by tag. -/
  reads : NMap (Option OutRead)
  /-- The posted-write error log, oldest first, and the initiators with a failed write since their last Bridge fence. -/
  log : List PweItem
  failed : List Nat
  /-- The descriptor each transmit ring works on, with its frame in the Vault. -/
  txBusy : NMap (Option HostDesc)
  deriving DecidableEq, Repr
/-- A signal store entry (R198 to R200): value, t_src, status of Table 9-3, `unv`, when its present value was committed and
when the timeout checker marked it, root periods, and the value, t_src, status and `unv` before that commit (R199). -/
structure Signal where
  value : Nat := 0
  tsrc : Nat := 0
  st : Nat := 0
  unv : Bool := false
  tick : Nat := 0
  mark : Nat := 0
  pvalue : Nat := 0
  ptsrc : Nat := 0
  pst : Nat := 0
  punv : Bool := false
  deriving DecidableEq, Repr

/-- Work that Kalow has picked and not committed: when it commits, the signals it writes with their values, t_src, `unv`,
its receipt trigger list, the frame it belongs to; a record to append to a tunnel route with its bus_id and t_src; a frame
record to emit with destination, list, class and domain; and whether its commit waits for a pack (R199). Beside it the
class of its frame, what it takes of other work's time (R211), and the descriptor records live at its pick (R215). A forced
value belongs to no frame. -/
structure KJob where
  at_ : Nat
  fid : Option Nat
  cls : Nat := 0
  work : Nat := 0
  recs : NMap Nat := []
  unpack : Bool := false
  writes : List (Nat × Nat) := []
  tsrc : Nat := 0
  unv : Bool := false
  rx : Option Nat := none
  tunnel : Option (Nat × Nat × BusRecord) := none
  emit : Option (BusRecord × Nat × Bool × Nat × Nat) := none
  waits : Bool := false
  deriving DecidableEq, Repr

/-- What a pack of a layout builds from (R199, R215): the descriptor records live at its snapshot, and the route's alive and
frame counters. -/
structure KPlan where
  recs : NMap Nat
  alive : Nat
  seq : Nat
  deriving DecidableEq, Repr

/-- A frame that Kalow builds: its route, its snapshot instant in root periods, when it is handed over, the signals it
reads; the plan of a packed layout, or the record or bytes of another frame with the records it tunnels; what it takes of
other work's time (R211). -/
structure KPack where
  route : Nat
  s : Nat
  at_ : Nat
  sigs : List Nat
  plan : Option KPlan
  work : Nat := 0
  n : Nat := 0
  ns : Nat
  frac : Nat
  record : Option BusRecord
  data : List Byte
  dest : Nat
  list : Bool
  cls : Nat
  dom : Nat
  ctx : Option Nat
  deriving DecidableEq, Repr

/-- The open frame of a tunnel output route (R209): the messages so far and their count. -/
structure KOpen where
  bytes : List Byte
  n : Nat
  deriving DecidableEq, Repr

/-- A dump in progress (R213): its address, its signals, its snapshot in root periods and device time, and the descriptor
records live then. -/
structure KDump where
  addr : Nat
  first : Nat
  n : Nat
  s : Nat
  ns : Nat
  recs : NMap Nat
  deriving DecidableEq, Repr

/-- The Kalow signal engine beside its registers (chapter 9). -/
structure Kal where
  /-- Launch slots of the output routes (R199). -/
  slots : NMap LSlot
  /-- Descriptor records by memory × 2^14 + index (Table 9-14), live and staged, and the records staged. -/
  recs : NMap Nat
  recsS : NMap Nat
  recsD : List Nat
  store : NMap Signal
  jobs : List KJob
  packs : List KPack
  /-- Triggers met and not yet served: route, root time and device time of the trigger. -/
  trigs : List (Nat × Nat × Nat)
  /-- S of the last pack of each route, and when its pending pack is due, device-time ns (R202). -/
  lastS : NMap (Option Nat)
  pend : NMap (Option Nat)
  /-- Routes whose pack is deferred (R203). -/
  defer : List Nat
  /-- Alive counter and frame counter of each route (R197, R206, R207). -/
  alive : NMap Nat
  frames : NMap Nat
  opens : NMap (Option KOpen)
  dump : Option KDump
  /-- When the last unpack committed, root periods (R198). -/
  lastCommit : Option Nat
  /-- Signal operations in the current millisecond. -/
  ops : Nat
  deriving DecidableEq, Repr


/-- One slot of a key record: its 128 bytes (Table 11-2), and whether its words read uncorrectable. -/
structure KeyCopy where
  bytes : List Byte := []
  bad : Bool := false
  deriving DecidableEq, Repr

/-- A key record (R237): its selector word and its two slots. -/
structure KeyRec where
  sel : Nat := 0
  s0 : KeyCopy := {}
  s1 : KeyCopy := {}
  deriving DecidableEq, Repr

/-- The working state of the random bit generator (NIST SP 800-90A): its key and its counter block (R243). -/
structure DrbgState where
  key : List Byte := List.replicate 32 0
  v : Nat := 0
  deriving DecidableEq, Repr

/-- A key with its usage and length, as a holding register keeps it (R239). -/
structure HeldKey where
  usage : Nat
  k256 : Bool
  key : List Byte
  deriving DecidableEq, Repr

/-- A place of a key operation (R240): kind and index. -/
structure Place where
  kind : Nat
  index : Nat
  deriving DecidableEq, Repr

/-- The key operation that runs, with its operands as they stood at the command. -/
structure KeyOp where
  code : Nat
  src : Place
  dst : Place
  usage : Nat
  k256 : Bool
  type : Nat
  labLen : Nat
  ctxLen : Nat
  an : Nat
  ssci : Nat
  pn : Nat
  salt : Nat
  buf : List Byte
  data : List Byte
  deriving DecidableEq, Repr

/-- The signature verification that runs: its inputs as they stood at `go`. -/
structure SigOp where
  curve : Bool
  hash : Bool
  addr : Nat
  anchor : Option Nat
  len : Nat
  data : List Byte
  digest : List Byte
  q : List Byte
  sig : List Byte
  deriving DecidableEq, Repr

/-- An anchor slot (R251): validity, revocation, purpose (0 image, 1 owner), curve, SHA-384 digest. -/
structure Anchor where
  valid : Bool := false
  revoked : Bool := false
  purpose : Nat := 0
  curve : Bool := false
  digest : List Byte := []
  deriving DecidableEq, Repr

/-- An entry of the tamper log (Table 11-10). -/
structure TamperLog where
  aon : Bool
  sensors : Nat
  mode : Nat
  start : Nat
  time : Nat
  deriving DecidableEq, Repr

/-- The Strongbox, the tamper log and the signature-check unit beside their registers (chapter 11). -/
structure Key where
  recs : NMap KeyRec
  hold : NMap (Option HeldKey)
  op : Option KeyOp
  sig : Option SigOp
  anchors : NMap Anchor
  /-- Start counter, permanent closing of provisioning, the DRBG's requests since its reseed and its working state. -/
  starts : Nat
  closed : Bool
  requests : Nat
  drbg : DrbgState
  /-- The helper data of the root array and the check beside it (R235). -/
  helper : List Byte
  rootCheck : List Byte
  /-- The root secret and the internal keys of Table 11-1, held while MAIN is powered (R235, R236). -/
  rs : List Byte
  kek : List Byte
  kmk : List Byte
  msk : List Byte
  /-- Contexts whose slots a commit zeroised since the operation started (R242). -/
  touched : List Nat
  /-- Renewals of the cell masks (R239). -/
  masks : Nat
  log : List TamperLog
  /-- Alarms and log entries of sensors that fired with MAIN off, waiting for the next start (R248). -/
  waiting : List TamperLog
  alarmWaits : Bool
  deriving DecidableEq, Repr

/-- The SYS page beside its registers (chapter 2). -/
structure Sys where
  /-- `BAD_ACC` holds a capture that has not been read. -/
  badAccHeld : Bool
  /-- The pages isolated or isolating or returning (the Isolate condition). -/
  isolated : List Nat
  /-- The pages under a diagnostic (the Diagnostic condition). -/
  diags : List Nat
  /-- Upper halves of pairs that a read of the lower half has latched (R8), by register-space offset. -/
  latched : NMap (Option Word)
  deriving DecidableEq, Repr
/-- A sample that has been submitted and not applied (R132): e_q, t_s, domain slot, generation, cascade origin. -/
structure Sample where
  e : Int
  t : Int
  slot : Nat
  gen : Nat
  cascade : Bool
  deriving DecidableEq, Repr

/-- The timebase beside its registers (chapter 6). -/
structure Tim where
  /-- When TIM was released, root periods; none while it is in reset (R128). -/
  released : Option Nat
  /-- tick_ref (R129). -/
  tickRef : Nat
  /-- offset_q, units of 2^-16 ns (R129). -/
  offQ : Int
  /-- t_step, t_prev and outl_run of the servo (R132). -/
  tStep : Int
  tPrev : Int
  outlRun : Nat
  sample : Option Sample
  /-- Slots that were armed at or before device time plus 5 ns (R144). -/
  lateArmed : List (Slot × Nat)
  /-- Levels of the GPIO outputs (R147). -/
  gpio : Nat
  /-- Capture channels that hold an edge, and each channel's last edge in root periods (R148). -/
  capHeld : List Nat
  lastEdge : NMap Nat
  /-- Egress timestamp queues, items oldest first; counts lost since the last marker; first lost timestamp: message
  type, sequence, time (R141). -/
  tsq : NMap (List Nat)
  tsqMark : NMap Nat
  tsqCap : NMap (Option (Nat × Nat × Nat))
  deriving DecidableEq, Repr

/-- Bucket contents of a policing stream (R108). -/
structure Bucket where
  c : Nat := 0
  e : Nat := 0
  cRem : Nat := 0
  eRem : Nat := 0
  last : Nat := 0
  deriving DecidableEq, Repr

/-- A list of gate entries that runs or is pending: bank, length, cycle, extension, and its start (R119, R122). -/
structure ListCfg where
  bank : Nat
  len : Nat
  cycle : Nat
  ext : Nat
  start : Nat
  deriving DecidableEq, Repr

/-- A gate list as it runs (R119 to R122), of a port or a stream gate. -/
structure GateRun where
  cur : Option ListCfg := none
  /-- Start of the cycle, the entry in effect and its end, device-time ns. -/
  cycle0 : Nat := 0
  entry : Nat := 0
  until_ : Nat := 0
  /-- No further cycle begins before the pending list. -/
  holding : Bool := false
  pend : Option ListCfg := none
  /-- Stopped by an error (R125), with the gate states it holds. -/
  err : Bool := false
  states : Nat := 0xFF
  deriving DecidableEq, Repr

/-- Live state of a sequence recovery function (R114, R116). -/
structure Recov where
  takeAny : Bool := true
  seq : Nat := 0
  history : Nat := 0
  /-- How many sequence numbers the history covers since the first one taken. -/
  span : Nat := 0
  /-- Frames passed and discarded in the latent error test's period. -/
  passed : Nat := 0
  discarded : Nat := 0
  deriving DecidableEq, Repr

/-- Credit of a shaped class, in 1/4,800,000 bit, as of an instant (R118). -/
structure Credit where
  units : Int := 0
  at_ : Nat := 0
  /-- The root time until which the class transmits. -/
  to_ : Nat := 0
  deriving DecidableEq, Repr

/-- The traffic manager beside its registers (chapter 5). Records staged since the last commit stand in the lists. -/
structure Trm where
  /-- Stream records live and staged, the streams staged, buckets and counters (stream × 8 + i). -/
  streams : NMap Nat
  streamsS : NMap Nat
  streamsD : List Nat
  buckets : NMap Bucket
  streamCnt : NMap Nat
  /-- Stream gate parameter records, entries (gate × 128 + bank × 64 + entry), and lists as they run. -/
  gates : NMap Nat
  gatesS : NMap Nat
  gatesD : List Nat
  gateEnt : NMap Nat
  gateRun : NMap GateRun
  /-- Recovery records, live state and counters (function × 8 + i). -/
  recs : NMap Nat
  recsS : NMap Nat
  recsD : List Nat
  recov : NMap Recov
  recCnt : NMap Nat
  /-- Gate-control entries (port × 2048 + bank × 1024 + entry) and lists as they run. -/
  gcl : NMap Nat
  tas : NMap GateRun
  credit : NMap Credit
  deriving DecidableEq, Repr


/-- A coin that is not FREE (Table 3-4). -/
inductive CoinSt where
  | fill | held | quar
  deriving DecidableEq, Repr

/-- A frame in the Vault, from its first byte until its last copy has left or been discarded: its slip's fields
(Table 3-3), its coins, its decision (Table 4-2) and how far it has come through Table 1-4. -/
structure Frame where
  id : Nat
  inPort : Nat
  domain : Nat := 0
  cls : Nat := 0
  /-- Stored bytes; `len` is their count, known before the bytes of a record or ring frame. -/
  data : List Byte := []
  len : Nat := 0
  coins : List Nat := []
  /-- Descriptor coin of a frame held in the Reserve (R57, R58). -/
  desc : Option Nat := none
  /-- Charged as a bus frame (R69). -/
  bus : Bool := false
  refs : Nat := 0
  poison : Bool := false
  check : Nat := 0
  ct : Bool := false
  inNs : Nat := 0
  inFrac : Nat := 0
  stream : Option Nat := none
  ctx : Option Nat := none
  route : Option Nat := none
  frer : Option Nat := none
  epoch : Nat := 0
  colour : Nat := 0
  tsEvent : Bool := false
  newCv : Bool := false
  /-- Egress set of the decision. -/
  outs : List Nat := []
  /-- VLAN of the frame and whether it arrived tagged (egress tagging, chapter 7). -/
  vid : Nat := 0
  pcp : Nat := 0
  tagged : Bool := false
  /-- Class of the transmit ring of a host or brace frame; cascade tag of a Voholt frame. -/
  txCls : Nat := 0
  tag : Nat := 0
  /-- Sender's choice of port, class and domain (`direct` 1). -/
  direct : Option (Nat × Nat × Nat) := none
  /-- Destination a Kalow route gives: port or list (R25). -/
  kdest : Option (Nat × Bool) := none
  /-- Context that verified it or passed it marked, and its SecTAG as received: place and length (R224, R225). -/
  vctx : Option Nat := none
  secAt : Option (Nat × Nat) := none
  /-- CAN or LIN record the frame carries, by its form. -/
  record : Option BusRecord := none
  /-- Sequence number of its R-TAG (R112). -/
  seq : Option Nat := none
  /-- Counted under R72: it began arriving while back-pressure was asserted. -/
  hdrm : Bool := false
  /-- Root time of t0, tH, the lookup result, tE, the policing decision and the check result; none until reached. -/
  t0 : Nat := 0
  tH : Option Nat := none
  tL : Option Nat := none
  tE : Option Nat := none
  tP : Option Nat := none
  tC : Option Nat := none
  /-- A check value must be verified at ingress (step 7). -/
  needCv : Bool := false
  /-- The check at ingress as it started, where one has. -/
  cv0 : Option CvStart := none
  /-- Its frame check was good (valid from tE). -/
  good : Bool := true
  /-- Entered its VOQs (step 8), and when. -/
  queued : Bool := false
  tQ : Nat := 0
  /-- A bus frame charged for a descriptor coin that its slip may need (R69). -/
  slipPaid : Bool := false
  /-- Outputs that its VLAN lists as untagged, as the lookup read them (R20). -/
  unt : List Nat := []
  /-- Registers of FWD as they stood when its lookup was issued, where a commit has changed them since (R40). -/
  old : List (Nat × Word) := []
  /-- Held pending lookup while FWD is in unit reset, or to be discarded with this reason at its lookup result. -/
  reset : Bool := false
  deriving DecidableEq, Repr

/-- One copy of a frame in a VOQ: a slip (R59, R60). `slip` is the on-die slip index, none where the slip lives in a
descriptor coin of its own. -/
structure Copy where
  fid : Nat
  out : Nat
  mc : Bool
  slip : Option Nat
  slipCoin : Option Nat
  serial : Nat
  deriving DecidableEq, Repr

/-- A copy that a CAN or LIN channel has drawn from its VOQ and not sent: its VOQ, its channel's port, where the channel
keeps it (CAN: 0 the bid set, 1 + k timed object k; LIN: the identifier of its publish buffer), the record as it will be
sent, and errors in its own transmission so far (R181, R183, R188). Its slip stays in the Vault. -/
structure Draw where
  q : Nat
  copy : Copy
  port : Nat
  place : Nat
  record : BusRecord
  errors : Nat := 0
  /-- When its trailer has been computed and it may bid, and the context of that computation (R226). -/
  ready : Nat := 0
  cv : Option Nat := none
  deriving DecidableEq, Repr

/-- A spill copy in progress (R63). -/
structure Spill where
  fid : Nat
  voq : Nat
  coins : List Nat
  desc : Nat
  /-- The frame's slip lived in the descriptor coin before (R60). -/
  own : Bool
  deriving DecidableEq, Repr

/-- A copy being read out toward an output (step 10). -/
structure Tx where
  out : Nat
  fid : Nat
  cls : Nat
  mc : Bool
  /-- Root time of the scheduler's pick and of the last bit's end. -/
  pick : Nat
  ends : Nat
  /-- The bytes as sent, frame check included. -/
  data : List Byte
  /-- Ends with an invalid frame check. -/
  bad : Bool := false
  /-- The egress timestamp point has been passed. -/
  stamped : Bool := false
  tsEvent : Bool := false
  /-- Context whose check value the copy carries. -/
  cv : Option Nat := none
  /-- The check value of a copy picked before its frame was complete. -/
  gen : Option CvGen := none
  /-- Preempted, waiting to go on. -/
  held : Bool := false
  /-- Bytes to send, frame check included; those of earlier fragments; and when the present fragment passes the egress
  timestamp point. -/
  len : Nat := 0
  sent : Nat := 0
  from_ : Nat := 0
  deriving DecidableEq, Repr

/-- The Vault beside its registers (chapter 3). -/
structure Vault where
  /-- Frames in the store or arriving, oldest first. -/
  frames : List Frame
  nextFrame : Nat
  /-- VOQs by index (R62), head first. -/
  voqs : NMap (List Copy)
  /-- Free lists: ranges (first, count), oldest first. -/
  freeTill : List (Nat × Nat)
  freeBus : List (Nat × Nat)
  freeRsv : List (Nat × Nat)
  freeSlips : List (Nat × Nat)
  /-- Coins that are not FREE: state and walk generation. -/
  coins : NMap (Option (CoinSt × Bool))
  gen : Bool
  /-- A slip has been written into a descriptor coin since an on-die slip was last freed (R60). -/
  slipOut : Bool
  /-- Ethernet inputs whose headroom ran out with no frame in reception, until they isolate (R73). -/
  overdrawn : List Nat
  /-- Reserve coins whose rows have been filled (R293). -/
  rsvJoined : Nat
  /-- In forced spill (R64). -/
  forced : Bool
  spills : List Spill
  /-- VOQs whose Reserve head is staged for the scheduler (R65). -/
  staged : List Nat
  /-- Back-pressure classes that have reached each input's port (R70). -/
  reached : NMap Nat
  /-- Deficit round-robin credit by VOQ (R62). -/
  drr : NMap Nat
  /-- The first instant at which an output can be picked for again, root periods. -/
  free : NMap Nat
  tx : List Tx
  drawn : List Draw
  /-- The walk in progress: marked coins, leaked and double-listed coins (R78). -/
  marked : List Nat
  leaked : List Nat
  doubled : List Nat
  /-- The leak queue: type and coin. -/
  leakQ : List (Nat × Nat)
  deriving DecidableEq, Repr

/-- A data frame in a link's ingress queue (R335): its tag and inner frame, its ingress time, and whether it came beyond
the credit granted. -/
structure VhFrame where
  tag : Nat
  data : List Byte
  inNs : Nat
  inFrac : Nat
  excess : Bool
  deriving DecidableEq, Repr

/-- A key the master holds (R343): the devices that voted YES, their common n, and the decision. -/
structure OpenKey where
  key : CommitKey
  n : Nat
  yes : List Nat
  decided : Option Bool
  deriving DecidableEq, Repr

/-- The Voholt cascade beside its registers (chapter 16). -/
structure Voh where
  /-- Path entries live and staged (R338), the entries staged, and the device IDs on their alternate link. -/
  paths : NMap Nat
  pathsS : NMap Nat
  pathsD : List Nat
  onAlt : List Nat
  /-- Ingress queues by link, oldest first. -/
  inq : NMap (List VhFrame)
  /-- By link × 8 + class: coins the peer may still send, coins whose return is withheld, and the cumulative returns
  sent and received, modulo 65,536 (R334). -/
  credIn : NMap Nat
  held : NMap Nat
  returned : NMap Nat
  peerRet : NMap Nat
  /-- The last HELLO of each neighbour by link code. -/
  nbr : NMap (Option Hello)
  /-- The sequence of the present master as last seen, the master dropped with the sequence it stopped at, and the
  highest generation seen. -/
  seq : Nat
  dropped : Option (Nat × Nat)
  mgenMax : Nat
  /-- The link codes over which an ID grant goes back, by UID, and the IDs granted as master (R337). -/
  relays : List (Nat × Nat)
  granted : List (Nat × Nat)
  /-- Broadcasts forwarded: source device and sequence; the sequence of this device's own (R333). -/
  seen : List (Nat × Nat)
  ownSeq : Nat
  /-- Keys of cascade-wide commits at the master. -/
  keys : List OpenKey
  /-- By link, the instants at which codeword pairs were lost within the last 1 ms, and how many (R329). -/
  lostAt : NMap (List (Nat × Nat))
  /-- A fixed ID was lost to a device with a lower UID (R337). -/
  idLost : Bool
  deriving DecidableEq, Repr
/-- The wake and sleep logic beside its registers (chapter 12). -/
structure Wak where
  /-- Pages of the sleeping segments, each with its segment. -/
  asleepPages : List (Nat × Nat)
  /-- When a port last received or sent a frame, root periods plus 1 (R261). -/
  lastAct : NMap Nat
  /-- This device's own round number, and its own round where it left it for one of a lower origin: set and round number
  (R263). -/
  seq : Nat
  aside : Option (Nat × Nat)
  /-- The rounds whose VETO or WAKE it has sent: type, origin, seq (R262). -/
  sent : List (Nat × Nat × Nat)
  /-- The enabled wake pins that were active when last seen (R261). -/
  pins : Nat
  /-- No automatic round before this instant (R263). -/
  holdOff : Nat
  /-- Consent to the set of automatic rounds was last kept away at this instant (R263). -/
  blocked : Nat
  /-- SUPEN outputs that go on at the next wake decision, kept by their latches in the always-on domain (R257). -/
  follow : Nat
  /-- Bit timings the always-on domain copied at the last sleep commit: NBT of each CAN channel, baud of each LIN channel
  (R260). -/
  timings : NMap Nat
  /-- Error counts of the Listen decoders (R260). -/
  listenErr : NMap Nat
  /-- The wake held by the always-on domain until MAIN has been off for 1 ms: cause, index, kind, and the identifier's
  format and value (R267). -/
  held : Option (Nat × Nat × Nat × Nat × Nat)
  /-- MAIN went off at this instant. -/
  offAt : Nat
  deriving DecidableEq, Repr

/-- What a CAN channel bids with: a drawn copy, by its serial number, or the copy that a timed object keeps, with its record (R183). -/
inductive Bid where
  | draw (serial : Nat)
  | copy (k : Nat) (r : BusRecord)
  deriving DecidableEq, Repr

/-- An identifier object (R180): its current buffer, whether that buffer has not been read since it was written, whether
the shadow has been written under the lock, and whether an unread frame was overwritten. -/
structure CanObj where
  cur : Bool := false
  unread : Bool := false
  shadow : Bool := false
  lost : Bool := false
  deriving DecidableEq, Repr

/-- The CAN and LIN channels beside their registers (chapter 8). -/
structure Bus where
  /-- Records received and not yet handed to the Vault, by port: record and ingress time. -/
  handoff : NMap (List (BusRecord × Nat × Nat))
  /-- Message RAM words by channel × 2^14 + word. -/
  ram : NMap Nat
  /-- Place of the head item of each FIFO (channel × 2 + k), and the FIFOs that lost frames since their last item. -/
  fifoHead : NMap Nat
  fifoOvf : List Nat
  /-- Identifier objects by channel × 256 + object, and the locked object of each channel. -/
  objs : NMap CanObj
  lock : NMap (Option Nat)
  /-- CFG, NBT and TRX as the channel uses them (channel × 4 + i); channels with a committed change, or a mode written,
  that waits for the next bus idle (R174, R175). -/
  inUse : NMap (Option Word)
  cfgWait : List Nat
  trxWait : List Nat
  /-- What each CAN channel transmits or bids with, its timed objects in arbitration, and the copies they keep. -/
  cur : NMap (Option Bid)
  bidding : NMap (List Nat)
  kept : NMap (Option BusRecord)
  /-- Errors met by a timed object's copy since its launch, by channel × 16 + object (R182). -/
  copyErrors : NMap Nat
  /-- CAN channels whose bus-off recovery has started (R184). -/
  recovering : List Nat
  /-- Identifier whose response a LIN channel waits for, and the event-triggered type of its header. -/
  linAwait : NMap (Option (Nat × Bool))
  /-- Instants at which the bytes on a LIN bus that the channel knows of end. -/
  linEnd : NMap Nat
  /-- Publish buffers by channel × 64 + identifier (R188). -/
  linBuf : NMap (Option BusRecord)
  /-- LIN receive FIFOs: items of 10 words. -/
  linFifo : NMap (List (List Word))
  /-- Schedule entries (channel × 128 + bank × 64 + entry): slot µs × 2^16 + type × 2^6 + identifier; lists as they run
  (R189): `until_` the next slot boundary. -/
  sch : NMap Nat
  schRun : NMap GateRun
  deriving DecidableEq, Repr


/-- Everything but the queue of commands. -/
structure Dev where
  aut : Aut
  bus : Bus
  /-- Time in periods of the 4.8 GHz root (Table 1-2). -/
  now : Nat
  /-- Registers and shadows by register-space offset; an unlisted register holds its reset value. -/
  regs : NMap Word
  /-- Fabric memory (Table 13-4), bytes by fabric address; unlisted bytes read 0. -/
  mem : List Host.Cell
  /-- Running timers and their ends, root periods. -/
  timers : List (Timer × Nat)
  /-- Free values drawn so far (the model's own field; log entry 4). -/
  drawn : Nat
  /-- Serial numbers given to queue items so far (the model's own field). -/
  serial : Nat
  /-- What has been given to the outside, oldest first. -/
  out : List Output
  pgs : NMap PgState
  pw : Power
  mram : Mram
  brc : Braces
  ecc : Integrity
  upd : Update
  eth : Eth
  fwd : Fwd
  hbr : Hbr
  kal : Kal
  key : Key
  sys : Sys
  tim : Tim
  trm : Trm
  vlt : Vault
  voh : Voh
  wak : Wak
  deriving DecidableEq, Repr

/-- The machine: the device and its queue of waiting commands, first in, first out. -/
structure State where
  dev : Dev
  pending : List Instr
  deriving DecidableEq, Repr


/-- The CAN and LIN channels after reset. -/
def Bus.init : Bus :=
  { handoff := [], ram := [], fifoHead := [], fifoOvf := [], objs := [], lock := [], inUse := [], cfgWait := [],
    trxWait := [], cur := [], bidding := [], kept := [], copyErrors := [], recovering := [],
    linAwait := [], linEnd := [], linBuf := [], linFifo := [],
    sch := [], schRun := [] }
/-! ### The machine right after reset -/

/-- The factory option image (R397, Table 17-11), its crc included. -/
def factoryImage : List Byte :=
  [0x01, 0x02, 0x03, 0x00, 0x00, 0x00, 0x00, 0x00, 0x00, 0x00, 0x24, 0x00, 0x04, 0x00, 0x01, 0x00,
   0x00, 0x00, 0x00, 0x00, 0x00, 0x00, 0x00, 0x00, 0xA9, 0xFE, 0x09, 0x60, 0x10, 0x00, 0x00, 0x00,
   0x00, 0x00, 0x00, 0x00, 0x00, 0x00, 0x00, 0x00, 0x00, 0x00, 0x00, 0x00, 0x00, 0x00, 0x00, 0x00,
   0x00, 0x00, 0x00, 0x00, 0x00, 0x00, 0x00, 0x00, 0x00, 0x00, 0x00, 0x00, 0x34, 0x0A, 0x28, 0xAF]

/-- Power and modes at the end of a class P reset: MAIN powered, its rails valid, t0 (Table 17-4). -/
def Power.init : Power :=
  { base := .start, halted := false, updating := false, settling := false, main := true, rails := true,
    asserted := false, resetnLow := false, thermal := false, losing := false, t0 := 0, aon0 := 0, goodSeen := false,
    faultn := false, readyUp := false, optionsLoaded := false, filled := false, secondCheck := false, imageGood := false, tablesGood := false,
    bracesOut := false, optionsFree := false, hotSince := none, vsup := 0, lockLost := none, lockAt := 0, brown := false,
    journal := none }

/-- MRAM as the part ships (R395, R397): the factory options in all three copies, no image in either bank. -/
def Mram.init : Mram :=
  { options := [(factoryImage, 0), (factoryImage, 0), (factoryImage, 0)], headerA := none, headerB := none,
    remapped := [], withdrawn := [], lastId := none, rollback := false }

def Braces.init : Braces := { bTimes := [], kick := [], copied := [], passed := [] }

def Integrity.init : Integrity :=
  { repairQ := [], waiting := [], region := 0, first := 0, units := 0, rowCopies := 0, passAt := 0, passLeft := 0, passStart := 0, words := 0, ce := 0, ue := 0, hard := 0,
    remaps := 0, firstUe := 0xFFFFFFFF, ceSecond := [], macros := [], clearRec := false }

def Update.init : Update :=
  { bank := 0, src := 0, dst := 0, len := 0, hdr := none, target := none, optWrite := 0, optImage := [],
    supplyLow := false, partGroup := 0, partPort := none }

/-- The host bridge after reset: the MSI-X table as PCI Express leaves it, every vector masked (PRESUMED, log entry 76). -/
def Hbr.init : Hbr :=
  { masked := List.range 64, pba := [], table := [], perst := false, waken := false, d3 := false, rtv := [], lines := [],
    reads := [], log := [], failed := [], txBusy := [] }

/-- Kalow after reset: every signal NEVER. -/
def Kal.init : Kal :=
  { slots := [], recs := [], recsS := [], recsD := [], store := [], jobs := [], packs := [], trigs := [], lastS := [],
    pend := [], defer := [], alive := [], frames := [], opens := [], dump := none, lastCommit := none, ops := 0 }

/-- The key store as the part ships (R395): no keys, Dunuen's image anchor in slot 0. -/
def Key.init : Key :=
  { recs := [], hold := [], op := none, sig := none,
    anchors := [(0, { valid := true, purpose := 0, curve := true, digest := Config.imageAnchor })],
    starts := 0, closed := false, requests := 0, drbg := {}, helper := Config.helperData,
    rootCheck := Config.rootCheck, rs := [], kek := [], kmk := [], msk := [], touched := [], masks := 0, log := [], waiting := [],
    alarmWaits := false }

def Eth.init : Eth :=
  { ledger := [], lastSpeed := [], draining := [], drainSaid := [], paused := [], pausedAt := [], lpi := [], waking := [],
    fcSent := [], fcWait := [], wire := [], ctlLen := [], rx := [] }

def Fwd.init : Fwd :=
  { tab := [], learnQ := [], park := [], parity := false, sweepAt := none, flushes := [], locks := [], linkOf := [] }

def Aut.init : Aut := { ctx := [], ctxS := [], ctxD := [], live := [], cnt := [], chg := [] }

def Sys.init : Sys := { badAccHeld := false, isolated := [], diags := [], latched := [] }

/-- The timebase while TIM is in reset (R128, R130). -/
def Tim.init : Tim :=
  { released := none, tickRef := 0, offQ := 0, tStep := 0, tPrev := 0, outlRun := 0, sample := none, lateArmed := [],
    gpio := 0, capHeld := [], lastEdge := [], tsq := [], tsqMark := [], tsqCap := [] }

def Trm.init : Trm :=
  { streams := [], streamsS := [], streamsD := [], buckets := [], streamCnt := [], gates := [], gatesS := [], gatesD := [],
    gateEnt := [], gateRun := [], recs := [], recsS := [], recsD := [], recov := [], recCnt := [], gcl := [], tas := [],
    credit := [] }

def Vault.init : Vault :=
  { frames := [], nextFrame := 0, voqs := [], freeTill := [(0, 245760)], freeBus := [(0x3C000, 16384)], freeRsv := [],
    freeSlips := [(0, 1048576)], coins := [], gen := false, slipOut := false, overdrawn := [], rsvJoined := 0, forced := false, spills := [],
    staged := [], reached := [], drr := [], free := [], tx := [], drawn := [], marked := [], leaked := [], doubled := [],
    leakQ := [] }

def Voh.init : Voh :=
  { paths := [], pathsS := [], pathsD := [], onAlt := [], inq := [], credIn := [], held := [], returned := [],
    peerRet := [], nbr := [], seq := 0, dropped := none, mgenMax := 0, relays := [], granted := [], seen := [], ownSeq := 0,
    keys := [], lostAt := [], idLost := false }

/-- The wake and sleep logic after a class P reset. -/
def Wak.init : Wak :=
  { asleepPages := [], lastAct := [], seq := 0, aside := none, sent := [], pins := 0, holdOff := 0, blocked := 0, follow := 0, timings := [],
    listenErr := [], held := none, offAt := 0 }

/-- The device before power arrives: nothing listed, no timer running. -/
def Dev.init : Dev :=
  { aut := Aut.init, bus := Bus.init, now := 0, regs := [], mem := [], timers := [], drawn := 0, serial := 0, out := [],
    pgs := [], pw := Power.init, mram := Mram.init, brc := Braces.init, ecc := Integrity.init, upd := Update.init,
    eth := Eth.init, fwd := Fwd.init, hbr := Hbr.init, kal := Kal.init, key := Key.init, sys := Sys.init,
    tim := Tim.init, trm := Trm.init, vlt := Vault.init, voh := Voh.init, wak := Wak.init }

/-- The registers that a class P reset leaves at another value than their reset value: the always-on pages RST, OPT, PWR
and WAK out of reset and ready (R36), the reset cause (R17), the wake source (R271), the MAIN rails valid and the spare
units of each region (Table 14-5). Every other register holds its reset value. -/
def resetRegs : NMap Word :=
  [(PG_READY 1, 1), (PG_STATE 1, 2), (PG_IRQ_STAT 1, 1), (RST_CAUSE, 0x08000000),
   (PG_READY 2, 1), (PG_STATE 2, 2), (PG_IRQ_STAT 2, 1),
   (PG_READY 4, 1), (PG_STATE 4, 2), (PG_IRQ_STAT 4, 1), (PWR_MAIN_STAT, 1),
   (PG_READY 5, 1), (PG_STATE 5, 2), (PG_IRQ_STAT 5, 1), (WAK_WSR, 0x10000000),
   (ECC_REMAP_USE 0, 0x4000000), (ECC_REMAP_USE 1, 0x4000000), (ECC_REMAP_USE 2, 0x200000),
   (ECC_REMAP_USE 3, 0x800000), (ECC_REMAP_USE 4, 0x400000), (ECC_REMAP_USE 5, 0x600000),
   (ECC_REMAP_USE 6, 0xC00000), (ECC_REMAP_USE 7, 0x800000), (ECC_REMAP_USE 8, 0x600000),
   (ECC_REMAP_USE 9, 0x400000), (ECC_REMAP_USE 10, 0xA00000), (ECC_REMAP_USE 11, 0xA00000),
   (ECC_REMAP_USE 12, 0x200000), (ECC_REMAP_USE 13, 0x100000)]

/-- The machine right after a class P reset, at t0 (Table 17-4): VSUP and the MAIN rails valid, RESETN high, the options
and the root array being read, no command waiting. -/
def State.reset : State :=
  { dev := { Dev.init with
      regs := resetRegs
      timers := [(⟨.options, 0, 0⟩, 1920000), (⟨.rootArray, 0, 0⟩, 1680000), (⟨.refCheck, 0, 0⟩, 4800000),
        (⟨.dieTemp, 0, 0⟩, 480000)] },
    pending := [] }

end Sys2Proof.Machine
end

