-- ==== Sys2Proof/Machine/Ops.lean ====
section
/-!
DEFINITION. The operations the commands share: registers and fields, memory, time and timers, interrupt messages, the
first-error capture, outputs, and the ready state of the units.
-/

namespace Sys2Proof.Machine

/-! ### Registers and fields -/

/-- The stored value of the register at a register-space offset. -/
def Dev.rd (d : Dev) (a : Nat) : Word := NMap.get (resetValue a) d.regs a

/-- Store a register. -/
def Dev.wr (d : Dev) (a : Nat) (v : Word) : Dev := { d with regs := NMap.set (resetValue a) d.regs a v }

/-- The bits hi to lo of a word. -/
def bitsOf (w : Word) (hi lo : Nat) : Nat := w.toNat / 2 ^ lo % 2 ^ (hi - lo + 1)

/-- The word with its bits hi to lo replaced. -/
def withBits (w : Word) (hi lo v : Nat) : Word :=
  BitVec.ofNat 32 (w.toNat - bitsOf w hi lo * 2 ^ lo + v % 2 ^ (hi - lo + 1) * 2 ^ lo)

/-- A field's value. -/
def Dev.get (d : Dev) (f : FRef) : Nat := bitsOf (d.rd f.addr) f.hi f.lo

/-- Set a field, leaving the register's other bits. -/
def Dev.put (d : Dev) (f : FRef) (v : Nat) : Dev := d.wr f.addr (withBits (d.rd f.addr) f.hi f.lo v)

/-- A one-bit field. -/
def Dev.flag (d : Dev) (f : FRef) : Bool := d.get f == 1

/-- Set a field where a condition holds. -/
def Dev.putIf (c : Bool) (f : FRef) (v : Nat) (d : Dev) : Dev := if c then d.put f v else d

/-- The shadow of a field (R39). -/
def FRef.shadow (f : FRef) : FRef := ⟨f.addr + 0x800, f.hi, f.lo⟩

/-- The largest value of a field. -/
def FRef.max (f : FRef) : Nat := 2 ^ (f.hi - f.lo + 1) - 1

/-- Advance a counter field, holding at its largest value (saturating). -/
def Dev.add (f : FRef) (n : Nat) (d : Dev) : Dev := d.put f (min (d.get f + n) f.max)

/-- Advance a counter field by one, wrapping. -/
def Dev.wrapInc (f : FRef) (d : Dev) : Dev := d.put f (d.get f + 1)

/-- A saturating 32-bit counter register. -/
def Dev.count (a : Nat) (d : Dev) : Dev := d.add ⟨a, 31, 0⟩ 1

/-- A _LO/_HI pair (R8). -/
def Dev.rd64 (d : Dev) (lo hi : Nat) : Nat := (d.rd hi).toNat * 2 ^ 32 + (d.rd lo).toNat

/-- Store a _LO/_HI pair. -/
def Dev.wr64 (lo hi : Nat) (v : Nat) (d : Dev) : Dev :=
  (d.wr lo (BitVec.ofNat 32 v)).wr hi (BitVec.ofNat 32 (v / 2 ^ 32))

/-- A signed value of w bits. -/
def signed (w v : Nat) : Int := if v < 2 ^ (w - 1) then (v : Int) else (v : Int) - 2 ^ w

/-- The w-bit two's-complement code of an integer. -/
def unsigned (w : Nat) (x : Int) : Nat := (x % (2 ^ w : Nat)).toNat

/-- An integer held within ± (2^31 - 1). -/
def sat32 (x : Int) : Int := max (-(2 ^ 31 - 1)) (min x (2 ^ 31 - 1))

/-- A bit of a natural number. -/
def bitAt (n i : Nat) : Bool := n / 2 ^ i % 2 == 1

/-- The number with bit i set to b. -/
def setBitTo (n i : Nat) (b : Bool) : Nat :=
  n - (if bitAt n i then 2 ^ i else 0) + (if b then 2 ^ i else 0)

/-- One bit of a register. -/
def Dev.bit (d : Dev) (a i : Nat) : Bool := bitAt (d.rd a).toNat i

/-- Set one bit of a register. -/
def Dev.setBit (a i : Nat) (b : Bool) (d : Dev) : Dev := d.put ⟨a, i, i⟩ (if b then 1 else 0)

/-- Apply an update where a condition holds. -/
def Dev.when (c : Bool) (f : Dev → Dev) (d : Dev) : Dev := if c then f d else d

/-- Apply an update for each item of a list, in order. -/
def Dev.each {α : Type} (l : List α) (f : α → Dev → Dev) (d : Dev) : Dev := l.foldl (fun d x => f x d) d

/-! ### Memory -/

/-- A byte of fabric memory (Table 13-4). -/
def Dev.rdByte (d : Dev) (a : Nat) : Byte := NMap.get 0 d.mem a

/-- Write a byte of fabric memory. -/
def Dev.wrByte (a : Nat) (b : Byte) (d : Dev) : Dev := { d with mem := NMap.set 0 d.mem a b }

/-- Write bytes at rising addresses. -/
def Dev.wrBytes : Nat → List Byte → Dev → Dev
  | _, [], d => d
  | a, b :: bs, d => Dev.wrBytes (a + 1) bs (d.wrByte a b)

/-- The bytes from an address. -/
def Dev.rdBytes (d : Dev) (a n : Nat) : List Byte := (List.range n).map (fun i => d.rdByte (a + i))

/-- A number as n bytes, least-significant byte first (R11). -/
def leBytes (n v : Nat) : List Byte := (List.range n).map (fun i => BitVec.ofNat 8 (v / 256 ^ i))

/-- The number of bytes stored least-significant byte first (R11). -/
def ofLe (bs : List Byte) : Nat := bs.foldr (fun b acc => b.toNat + 256 * acc) 0

/-- The number of bytes in network order. -/
def ofBe (bs : List Byte) : Nat := bs.foldl (fun acc b => acc * 256 + b.toNat) 0

/-- A number as n bytes in network order. -/
def beBytes (n v : Nat) : List Byte := (leBytes n v).reverse

/-! ### Time -/

/-- Root periods in n nanoseconds, rounded up (Table 1-2: 4.8 GHz). -/
def nsT (n : Nat) : Nat := (n * 24 + 4) / 5
/-- Root periods in n microseconds. -/
def usT (n : Nat) : Nat := n * 4800
/-- Root periods in n milliseconds. -/
def msT (n : Nat) : Nat := n * 4800000
/-- Root periods in n seconds. -/
def secT (n : Nat) : Nat := n * 4800000000
/-- Periods of CK_PER, CK_TIM, CK_FAB and CK_VLT in root periods (Table 1-2). -/
def perT (n : Nat) : Nat := n * 48
def timT (n : Nat) : Nat := n * 12
def fabT (n : Nat) : Nat := n * 8

/-- Move the clock to an instant, never back. -/
def Dev.at_ (t : Nat) (d : Dev) : Dev := { d with now := max d.now t }

/-- Always-on time in µs since class P (Table 12-7). -/
def Dev.aonUs (d : Dev) : Nat := (d.now - d.pw.aon0) / 4800

/-- The free-running tick counter (R128). -/
def Dev.ticks (d : Dev) : Nat :=
  match d.tim.released with
  | some t => (d.now - t) / 12
  | none => 0

/-- rate_q, signed, in units of 2^-40 (R129). -/
def Dev.rateQ (d : Dev) : Int := signed 32 (d.rd TIM_RATE).toNat

/-- t_q at a tick count (R129). -/
def Dev.tqAt (d : Dev) (ticks : Nat) : Int :=
  let base : Int := ((ticks : Int) - d.tim.tickRef) * 163840
  d.tim.offQ + base + base * d.rateQ / 2 ^ 40

/-- Device time now, in units of 2^-16 ns (R129). -/
def Dev.tq (d : Dev) : Int := d.tqAt d.ticks

/-- Device time in nanoseconds, a 64-bit count. -/
def Dev.ns (d : Dev) : Nat := (d.tq / 65536 % 2 ^ 64).toNat

/-- The first tick count at which device time reaches T nanoseconds. -/
def Dev.tickFor (d : Dev) (t : Nat) : Nat :=
  let goal : Int := (t : Int) * 65536 - d.tim.offQ
  let est : Nat := (d.tim.tickRef + goal * 2 ^ 40 / (163840 * (2 ^ 40 + d.rateQ))).toNat
  let cands := (List.range 5).map (fun k => est + k - 2)
  match cands.find? (fun k => decide ((t : Int) * 65536 ≤ d.tqAt k)) with
  | some k => k
  | none => est

/-- The first tick count from the current one at which device time has reached T nanoseconds. -/
def Dev.tickOf (d : Dev) (t : Nat) : Nat := max (d.tickFor t) d.ticks

/-- Move the clock to the CK_TIM tick in which device time reaches T (R26). -/
def Dev.atNs (t : Nat) (d : Dev) : Dev :=
  match d.tim.released with
  | some r => d.at_ (r + 12 * d.tickOf t)
  | none => d

/-- Move the clock to the next CK_TIM tick count k from now. -/
def Dev.atTick (k : Nat) (d : Dev) : Dev :=
  match d.tim.released with
  | some r => d.at_ (r + 12 * k)
  | none => d

/-! ### Timers -/

/-- When a timer ends, if it runs. -/
def Dev.due (d : Dev) (t : Timer) : Option Nat :=
  (d.timers.find? (fun e => decide (e.1 = t))).map (·.2)

/-- Stop a timer. -/
def Dev.cancel (t : Timer) (d : Dev) : Dev :=
  { d with timers := d.timers.filter (fun e => decide (e.1 ≠ t)) }

/-- Start a timer, or start it again, to end at an instant. -/
def Dev.arm (t : Timer) (at_ : Nat) (d : Dev) : Dev :=
  let d := d.cancel t
  { d with timers := (t, at_) :: d.timers }

/-- Start a timer to end after a time. -/
def Dev.armIn (t : Timer) (len : Nat) (d : Dev) : Dev := d.arm t (d.now + len)

/-- A timer runs. -/
def Dev.running (d : Dev) (t : Timer) : Bool := (d.due t).isSome

/-- The event at a timer's end: the clock moves to it and the timer stops; without a running timer the event cannot
occur and nothing changes. -/
def Dev.onTimer (t : Timer) (f : Dev → Dev) (d : Dev) : Dev :=
  match d.due t with
  | some e => f ((d.at_ e).cancel t)
  | none => d

/-- A periodic event: the next is due one period after this one was (R398). -/
def Dev.onPeriod (t : Timer) (period : Nat) (f : Dev → Dev) (d : Dev) : Dev :=
  match d.due t with
  | some e => f (((d.at_ e).cancel t).arm t (e + period))
  | none => d

/-- The event that ends a running timer before or at its limit: it occurs now. -/
def Dev.endTimer (t : Timer) (f : Dev → Dev) (d : Dev) : Dev :=
  match d.due t with
  | some _ => f (d.cancel t)
  | none => d

/-! ### Free values and serial numbers -/

/-- A value the spec leaves open, w bits wide: nothing constrains it (log entry 4). -/
def Dev.free (d : Dev) (w : Nat) : Nat × Dev :=
  ((Config.freeValue d.drawn).toNat % 2 ^ w, { d with drawn := d.drawn + 1 })

/-- The next serial number. -/
def Dev.fresh (d : Dev) : Nat × Dev := (d.serial + 1, { d with serial := d.serial + 1 })

/-! ### Outputs and interrupt messages -/

/-- Give something to the outside. -/
def Dev.emit (o : Output) (d : Dev) : Dev := { d with out := d.out ++ [o] }

/-- An MSI-X vector can be sent: the link up, bus mastering and MSI-X enabled, neither function nor vector masked (R317). -/
def Dev.canMsix (d : Dev) (v : Nat) : Bool :=
  d.flag HBR_STAT_link && d.flag HBR_STAT_bme && d.flag HBR_STAT_msix_en && !d.flag HBR_STAT_fmask && !d.hbr.masked.contains v

/-- The MSI-X message of a vector (R317): sent, or held pending until it can be. -/
def Dev.sendMsix (v : Nat) (d : Dev) : Dev :=
  if d.canMsix v then d.emit (.msix v)
  else if d.hbr.pba.contains v then d
  else { d with hbr := { d.hbr with pba := d.hbr.pba ++ [v] } }

/-- The message of a page to each enabled destination (R50). -/
def Dev.sendMsg (pg : Nat) (d : Dev) : Dev :=
  let d := if d.flag (PG_IRQ_MSG_brace_en pg) then d.emit (.braceMsg (d.get (PG_IRQ_MSG_brace_vec pg)) pg) else d
  if d.flag (PG_IRQ_MSG_host_en pg) then d.sendMsix (d.get (PG_IRQ_MSG_host_vec pg)) else d

/-- Write a page's interrupt status and enable; each bit of STAT AND EN that rises sends one message (R50). -/
def Dev.irqWrite (pg stat en : Nat) (d : Dev) : Dev :=
  let old := (d.rd (PG_IRQ_STAT pg) &&& d.rd (PG_IRQ_EN pg))
  let new := BitVec.ofNat 32 stat &&& BitVec.ofNat 32 en
  let d := (d.wr (PG_IRQ_STAT pg) (BitVec.ofNat 32 stat)).wr (PG_IRQ_EN pg) (BitVec.ofNat 32 en)
  Dev.each ((List.range 32).filter (fun i => new.getLsbD i && !old.getLsbD i)) (fun _ d => d.sendMsg pg) d

/-- Raise one event of a page (R50). -/
def Dev.raise (pg bit : Nat) (d : Dev) : Dev :=
  if d.bit (PG_IRQ_STAT pg) bit then d
  else
    let d := d.setBit (PG_IRQ_STAT pg) bit true
    if d.bit (PG_IRQ_EN pg) bit then d.sendMsg pg else d

/-! The common event bits (Table 2-16). -/
def irqReady : Nat := 0
def irqCommitDone : Nat := 1
def irqCommitFail : Nat := 2
def irqFence : Nat := 3
def irqErr : Nat := 4
def irqLiveWr : Nat := 5
def irqLockViol : Nat := 6
def irqIso : Nat := 7

/-- Initiator codes (Table 2-18). -/
def iniCode : Initiator → Nat
  | .braceA => 0 | .braceB => 1 | .host => 2 | .debug => 3 | .tableDma => 4 | .resetCtl => 5 | .cascade => 6

/-- The first-error capture of a page (R52, Table 2-18): it holds the first error and sets ERR; while ERR is set it
captures nothing. -/
def Dev.capture (pg kind reason : Nat) (i : Initiator) (off detail detail2 : Nat) (d : Dev) : Dev :=
  if d.bit (PG_IRQ_STAT pg) irqErr then d
  else
    let c0 := kind % 256 * 2 ^ 24 + reason % 256 * 2 ^ 16 + iniCode i * 2 ^ 12 + off % 4096
    let d := d.wr (PG_ERR_CAP0 pg) (BitVec.ofNat 32 c0)
    let d := d.wr (PG_ERR_CAP1 pg) (BitVec.ofNat 32 d.ns)
    let d := d.wr (PG_ERR_CAP2 pg) (BitVec.ofNat 32 detail)
    let d := d.wr (PG_ERR_CAP3 pg) (BitVec.ofNat 32 detail2)
    d.raise pg irqErr

/-- ERR of a page for a block-specific error (kind 0x10; DESIGN CHOICE, log entry 9). -/
def Dev.setErr (pg : Nat) (i : Initiator) (off detail : Nat) (d : Dev) : Dev := d.capture pg 0x10 0 i off detail 0

/-- A write that a rule of its unit makes ignored with ERR: an ignored write, kind 0x02 (Table 2-18). -/
def Dev.ignoredErr (pg : Nat) (i : Initiator) (off detail : Nat) (d : Dev) : Dev := d.capture pg 0x02 0 i off detail 0

/-! ### Pages -/

/-- What a page holds beside its registers. -/
def Dev.pg (d : Dev) (pg : Nat) : PgState := NMap.get {} d.pgs pg

/-- Change what a page holds beside its registers. -/
def Dev.setPg (pg : Nat) (s : PgState) (d : Dev) : Dev := { d with pgs := NMap.set {} d.pgs pg s }

def Dev.modPg (pg : Nat) (f : PgState → PgState) (d : Dev) : Dev := d.setPg pg (f (d.pg pg))

/-- Page indices of Table 2-1. -/
def pgSYS : Nat := 0x000
def pgRST : Nat := 0x001
def pgOPT : Nat := 0x002
def pgCLK : Nat := 0x003
def pgPWR : Nat := 0x004
def pgWAK : Nat := 0x005
def pgTIM : Nat := 0x008
def pgVLT (n : Nat) : Nat := 0x010 + n
def pgQUE : Nat := 0x020
def pgFWD : Nat := 0x030
def pgLRN : Nat := 0x038
def pgTBL : Nat := 0x040
def pgTRM (n : Nat) : Nat := 0x050 + n
def pgETH (n : Nat) : Nat := 0x100 + 2 * n
def pgPHY (n : Nat) : Nat := 0x101 + 2 * n
def pgCAN (n : Nat) : Nat := 0x180 + n
def pgLIN (n : Nat) : Nat := 0x1A0 + n
def pgKLW (n : Nat) : Nat := 0x1C0 + n
def pgAUT : Nat := 0x200
def pgKEY : Nat := 0x210
def pgTMP : Nat := 0x220
def pgSIG : Nat := 0x230
def pgBRC (n : Nat) : Nat := 0x280 + 0x10 * n
def pgECC : Nat := 0x2A0
def pgSCB : Nat := 0x2A1
def pgHBR : Nat := 0x2C0
def pgVHL (n : Nat) : Nat := 0x2E0 + n
def pgUPD : Nat := 0x300

/-- Every page, in page-index order (Table 2-1). -/
def allPages : List Nat :=
  [0, 1, 2, 3, 4, 5, 8] ++ (List.range 16).map pgVLT ++ [pgQUE, pgFWD, pgLRN, pgTBL] ++ (List.range 16).map pgTRM ++
  (List.range 114).map (· + 0x100) ++ (List.range 24).map pgCAN ++ (List.range 8).map pgLIN ++
  (List.range 16).map pgKLW ++
  [pgAUT, pgKEY, pgTMP, pgSIG, pgBRC 0, pgBRC 1, pgECC, pgSCB, pgHBR, pgVHL 0, pgVHL 1, pgVHL 2, pgVHL 3, pgUPD]

/-- The subsystem of a page (Table 1-1); 0 for SYS and for the units that serve all twelve. -/
def subsystemOf (pg : Nat) : Nat :=
  match pageKind pg with
  | none => 0
  | some (k, _) =>
    match k with
    | .rst | .opt | .pwr | .wak => 1
    | .clk | .tim => 2
    | .vlt0 | .vlt1 | .vlt2 | .vlt3 | .vlt4 | .vltX | .que => 3
    | .fwd | .lrn | .tbl => 4
    | .trm0 | .trm1 | .trm2 | .trm3 | .trmP | .trm7 | .trm8 | .trm9 | .trmX => 5
    | .eth | .phy => 6
    | .can | .lin => 7
    | .klw0 | .klw1 | .klw2 | .klw3 | .klw4 | .klwX => 8
    | .aut | .key | .tmp | .sig => 9
    | .brc => 10
    | .hbr => 11
    | .vhl => 12
    | .sys | .ecc | .scb | .upd => 0

/-- The pages of a subsystem. -/
def pagesOf (s : Nat) : List Nat := allPages.filter (fun pg => subsystemOf pg == s)

/-- The clock that feeds a page (Table 1-2; DEDUCED from its Serves column, log entry 73); none for the always-on pages. -/
def clockOf (pg : Nat) : Option Clock :=
  match pageKind pg with
  | none => none
  | some (k, _) =>
    match k with
    | .rst | .opt | .pwr | .wak => none
    | .tim => some .tim
    | .vlt0 | .vlt1 | .vlt2 | .vlt3 | .vlt4 | .vltX | .que => some .vlt
    | .fwd | .lrn | .tbl => some .fab
    | .trm0 | .trm1 | .trm2 | .trm3 | .trmP | .trm7 | .trm8 | .trm9 | .trmX => some .fab
    | .can | .lin => some .can
    | .brc => some .brc
    | _ => some .per

/-- A page's unit has memory in the fill of R293 (DEDUCED from Table 14-2, log entry 73). -/
def filledUnit (pg : Nat) : Bool :=
  let s := subsystemOf pg
  s == 3 || s == 4 || s == 5 || s == 7 || s == 8 || s == 10 || pg == pgTIM || pg == pgAUT || pg == pgKEY

/-- The bit of a clock in `CLK.STAT.stable` and `CLK.FAIL` (Table 17-10), counted from bit 8. -/
def clockIx : Clock → Nat
  | .brc => 0 | .dram => 1 | .vlt => 2 | .fab => 3 | .tim => 4 | .per => 5 | .can => 6

/-- The period of a divided clock in root periods (Table 1-2). -/
def clockDiv : Clock → Nat
  | .brc => 4 | .dram => 3 | .vlt => 6 | .fab => 8 | .tim => 12 | .per => 48 | .can => 60

/-- A clock's stable indicator (R15). -/
def Dev.stable (d : Dev) (c : Clock) : Bool := bitAt (d.get CLK_STAT_stable) (clockIx c)

/-- The unit's clock is stable; the Vault needs the fabric and DRAM clocks as well (Table 1-1). -/
def Dev.clockOk (d : Dev) (pg : Nat) : Bool :=
  match clockOf pg with
  | none => true
  | some .vlt => d.stable .vlt && d.stable .fab && d.stable .dram
  | some c => d.stable c

/-- The register `PG_READY` reports ready. -/
def Dev.ready (d : Dev) (pg : Nat) : Bool := d.flag (PG_READY_ready pg)

/-- Every page of a subsystem reports ready (Table 2-20 SUMMARY). -/
def Dev.subReady (d : Dev) (s : Nat) : Bool := (pagesOf s).all d.ready

/-- The subsystems a page's row of Table 1-1 needs are ready (R13). -/
def Dev.depsReady (d : Dev) (pg : Nat) : Bool :=
  match subsystemOf pg with
  | 2 => d.subReady 1
  | 3 => d.subReady 2 && d.pw.filled
  | 4 => d.subReady 3 && d.pw.tablesGood
  | 5 => d.subReady 4 && d.subReady 2
  | 6 => d.subReady 3 && d.subReady 5 && d.subReady 2
  | 7 => d.subReady 3 && d.subReady 2
  | 8 => d.subReady 3 && d.subReady 4 && d.subReady 2
  | 9 => d.subReady 1 && d.subReady 2
  | 10 => (d.pw.imageGood || decide (d.pw.base = .kennel)) && d.subReady 2
  | 11 => d.subReady 3 && d.subReady 2
  | 12 => d.subReady 3 && d.subReady 2
  | _ => true

/-- The unit belongs to a sleeping segment (R268). -/
def Dev.asleep (d : Dev) (pg : Nat) : Bool := d.wak.asleepPages.any (fun e => e.1 == pg)

/-- The ready reason of a page: the first of Table 2-6 that holds (R36). -/
def Dev.reasonOf (d : Dev) (pg : Nat) : Nat :=
  let s := d.pg pg
  let held := d.flag (PG_STATE_in_reset pg)
  if d.pw.halted then 0x0B
  else if s.clockFail then 0x03
  else if held && filledUnit pg && d.pw.optionsLoaded && !d.pw.filled then 0x05
  else if held && subsystemOf pg == 10 && d.running ⟨.bFill, (pg - 0x280) / 0x10, 0⟩ then 0x05
  else if held && !s.clockWait then 0x01
  else if !d.clockOk pg then 0x02
  else if held then 0x01
  else if !d.depsReady pg then 0x04
  else if !d.flag (PG_CTRL_enable pg) then 0x07
  else if d.get (PG_STATE_iso pg) != 0 then 0x06
  else if s.diag then 0x08
  else if d.asleep pg then 0x09
  else if (pg == pgAUT || pg == pgKEY) && !d.flag KEY_STAT_ready then 0x0A
  else 0x00

/-- Bring a page's `PG_READY` and clock-ok bit up to date; a change of `ready` raises READY_CHG (R36). -/
def Dev.refreshPg (pg : Nat) (d : Dev) : Dev :=
  let r := d.reasonOf pg
  let was := d.ready pg
  let d := (d.put (PG_READY_reason pg) r).put (PG_READY_ready pg) (if r = 0 then 1 else 0)
  let d := d.put (PG_STATE_clk_ok pg) (if d.clockOk pg then 1 else 0)
  if was == decide (r = 0) then d else d.raise pg irqReady

/-- The order in which readiness follows from readiness (Table 1-1): subsystem by subsystem. -/
def refreshOrder : List Nat :=
  pagesOf 0 ++ pagesOf 1 ++ pagesOf 2 ++ pagesOf 3 ++ pagesOf 4 ++ pagesOf 5 ++ pagesOf 6 ++ pagesOf 7 ++ pagesOf 8 ++
  pagesOf 9 ++ pagesOf 10 ++ pagesOf 11 ++ pagesOf 12

/-- Bring every page up to date. -/
def Dev.refresh (d : Dev) : Dev := Dev.each refreshOrder Dev.refreshPg d

/-- Bring a page up to date, and the pages whose readiness rests on it. -/
def Dev.refreshFrom (pg : Nat) (d : Dev) : Dev :=
  let s := subsystemOf pg
  if 1 ≤ s ∧ s ≤ 5 then d.refresh else d.refreshPg pg

/-- Ports 62, 63 and 98 to 127 are reserved (R4, Table 0-4). -/
def reservedPort (p : Nat) : Bool := p == 62 || p == 63 || (decide (98 ≤ p) && decide (p < 128))

/-! ### Who may access -/

/-- MAIN is up and no reset is asserted: register accesses reach the fabric. -/
def Dev.up (d : Dev) : Bool := d.pw.main && d.pw.rails && !d.pw.asserted

/-- The role of a brace (Table 13-1). -/
def Dev.role (d : Dev) (b : Nat) : Nat := d.get (BRC_ROLE_role b)

/-- The index of a brace. -/
def brIx : Brace → Nat
  | .a => 0 | .b => 1

def brOther : Brace → Brace
  | .a => .b | .b => .a

/-- The active brace. -/
def Dev.active (d : Dev) : Option Brace :=
  if d.role 0 = 1 then some .a else if d.role 1 = 1 then some .b else none

/-- The brace of an initiator. -/
def iniBrace : Initiator → Option Brace
  | .braceA => some .a | .braceB => some .b | _ => none

/-- A register access of an initiator: none while the fabric is down; a brace that is not active is refused with an
access fault and counted (R280). -/
def Dev.access (i : Initiator) (f : Dev → Dev) (d : Dev) : Dev :=
  if !d.up then d
  else
    match iniBrace i with
    | some b => if d.role (brIx b) = 1 then f d else d.count (BRC_SB_REFUSED (brIx b))
    | none => f d

/-- A unit takes up new items: `PG_CTRL.enable` 1 and not in reset (R36, Table 2-8). -/
def Dev.works (d : Dev) (pg : Nat) : Bool := d.flag (PG_CTRL_enable pg) && !d.flag (PG_STATE_in_reset pg)

/-- The unit has come far enough to report ready: out of reset, its clock stable, the subsystems of its row of Table 1-1
ready, and enabled (R13, R14, Table 2-6). -/
def Dev.inService (d : Dev) (pg : Nat) : Bool :=
  !d.pw.halted && d.works pg && !(d.pg pg).clockFail && d.clockOk pg && d.depsReady pg

/-- A channel's page works: out of reset, enabled, and awake; an isolated one still takes part in its bus. -/
def Dev.chanOn (d : Dev) (pg : Nat) : Bool :=
  d.ready pg || (d.get (PG_STATE_iso pg) != 0 && !d.flag (PG_STATE_in_reset pg) && !d.asleep pg && !d.pw.halted)

/-- One item of a page's queue has been consumed: the Queue fences on it come one item closer (R47, R48). -/
def Dev.fenceTook (pg q : Nat) (d : Dev) : Dev :=
  if (d.pg pg).fences.isEmpty then d
  else
    d.modPg pg (fun s => { s with fences := s.fences.map (fun f =>
      if f.kind = 5 ∧ f.queue = q then { f with mark := f.mark - 1 } else f) })

/-- The committed change of a CAN channel is in effect: the Config fences no longer wait for it (R48, R174). -/
def Dev.cfgInEffect (ch : Nat) (d : Dev) : Dev :=
  { d with pgs := d.pgs.map (fun e => (e.1, { e.2 with fences := e.2.fences.map (fun f =>
      if f.kind = 1 then { f with items := f.items.filter (· != ch) } else f) })) }

/-- A page is locked (R53). -/
def Dev.locked (d : Dev) (pg : Nat) : Bool := (d.pg pg).lockKey != 0

/-- A write the lock refuses (R53). -/
def Dev.lockViol (pg : Nat) (i : Initiator) (off v : Nat) (d : Dev) : Dev :=
  (d.capture pg 0x05 0x06 i off v 0).raise pg irqLockViol

/-- A write of a lockable register of a page: an access that the lock may refuse (R53). -/
def Dev.write (i : Initiator) (pg off v : Nat) (f : Dev → Dev) (d : Dev) : Dev :=
  d.access i (fun d => if d.locked pg then d.lockViol pg i off v else f d)

/-- A write of a register that holds RW fields beside command bits: on a locked page the RW fields keep their values,
LOCK_VIOL is set, and the rest of the write takes effect (R53). -/
def Dev.writeMixed (i : Initiator) (pg off v : Nat) (f : Bool → Dev → Dev) (d : Dev) : Dev :=
  d.access i (fun d => if d.locked pg then f true (d.lockViol pg i off v) else f false d)

/-! ### Bad accesses and rejected triggers (SYS page) -/

/-- The bad-access capture (R32, Table 2-22): the first since `BAD_ACC` was read. -/
def Dev.badAccess (i : Initiator) (write : Bool) (off : Nat) (d : Dev) : Dev :=
  if d.sys.badAccHeld then d
  else
    let d := d.put SYS_BAD_ACC_write (if write then 1 else 0)
    let d := d.put SYS_BAD_ACC_initiator (iniCode i)
    let d := d.put SYS_BAD_ACC_offset off
    { d with sys := { d.sys with badAccHeld := true } }

/-- The conditions that hold: bit 0 Halt, 1 Kennel, 2 Update, 3 Settle, 4 Isolate, 5 Diagnostic, 6 Partial (R54). -/
def Dev.conds (d : Dev) : Nat :=
  (if d.pw.halted then 1 else 0) + (if d.pw.base = .kennel then 2 else 0) + (if d.pw.updating then 4 else 0) +
  (if d.pw.settling then 8 else 0) + (if d.sys.isolated.isEmpty then 0 else 16) +
  (if d.sys.diags.isEmpty then 0 else 32) + (if d.get WAK_SEG_STAT_asleep = 0 then 0 else 64)

/-- The reported major mode, a code of Table 2-21 (R2, R54). -/
def Dev.mode (d : Dev) : Nat :=
  match d.pw.base with
  | .off => 0 | .dormant => 1 | .listen => 2
  | b =>
    if d.pw.halted then 0xB
    else if b = .kennel then 4
    else if b = .start then 3
    else if d.pw.updating then 8
    else if d.pw.settling then 7
    else if !d.sys.isolated.isEmpty then 9
    else if !d.sys.diags.isEmpty then 0xA
    else if d.get WAK_SEG_STAT_asleep != 0 then 6
    else 5

/-- Bring `SYS.MODE` up to date. -/
def Dev.syncMode (d : Dev) : Dev := (d.put SYS_MODE_mode d.mode).put SYS_MODE_cond d.conds

/-- A trigger of Table 1-7 in a mode that does not list it (R29): counted, the first captured. -/
def Dev.rejectTrig (code : Nat) (d : Dev) : Dev :=
  let d := if d.get SYS_REJ_TRIG_count = 0 then
      (d.put SYS_REJ_TRIG_trigger code).put SYS_REJ_TRIG_mode d.mode
    else d
  d.add SYS_REJ_TRIG_count 1

/-! ### The form of every meaning -/

/-- The outcome of a command whose effect on the device is `f`: the queue stays as it is. -/
def effect (f : Dev → Dev) (s : State) : Host.Outcome State Fault Refusal := .next { s with dev := f s.dev }

/-- The same for a command whose operands must name something the device has: `ok` is the command's `Instr.wf`. -/
def effectIf (ok : Bool) (f : Dev → Dev) (s : State) : Host.Outcome State Fault Refusal :=
  if ok then effect f s else .fault .illFormed

end Sys2Proof.Machine
end

