-- ==== Sys2Proof/Machine/Crypto.lean ====
section
/-!
DEFINITION. The cryptographic functions of the standards that the spec names: AES (FIPS 197), AES-CMAC (NIST SP 800-38B),
the GHASH and integrity check value of IEEE 802.1AE (R223), key wrap (RFC 3394), SHA-256 and SHA-384 (FIPS 180-4), ECDSA
verification on P-256 and P-384 (FIPS 186-5), and CTR_DRBG with AES-256 (NIST SP 800-90A) (log entry 93).
-/

namespace Sys2Proof.Machine

/-- A byte string cut or filled with zeros to n bytes. -/
def fixLen (n : Nat) (l : List Byte) : List Byte := (l ++ List.replicate n 0).take n

/-- The bytes as numbers. -/
def nums (l : List Byte) : List Nat := l.map (fun b => b.toNat)

/-- Numbers as bytes. -/
def octets (l : List Nat) : List Byte := l.map (BitVec.ofNat 8)

/-- A byte string cut into pieces of n bytes, the last one as it comes; `fuel` at least the number of pieces. -/
def piecesOf (n : Nat) : Nat → List Byte → List (List Byte)
  | 0, _ => []
  | _, [] => []
  | fuel + 1, l => l.take n :: piecesOf n fuel (l.drop n)

/-- The pieces of n bytes of a byte string. -/
def pieces (n : Nat) (l : List Byte) : List (List Byte) := piecesOf n l.length l

/-- Two byte strings combined bit by bit, to the length of the shorter. -/
def xorBytes (a b : List Byte) : List Byte := List.zipWith (fun x y => x ^^^ y) a b

/-! ### AES (FIPS 197) -/

/-- The S-box of FIPS 197, entry i in the i-th byte. -/
def aesBox : Nat :=
    0x1531d871f1e5a534ccf73f362693fdb7c072a49cafa2d4adf04759fa7dc982ca76abd7fe2b670130c56f6bf27b777c63 +
    0xcf584c4a39becb6a5bb1fc20ed00d153842fe329b3d63b52a05a6e1b1a2c830975b227ebe28012079a059618c323c704 * 2 ^ 384 +
    0x73195d643d7ea7c41744975fec130ccdd2f3ff1021dab6bcf5389d928f40a351a89f3c507f02f94585334d43fbaaefd0 * 2 ^ 768 +
    0x8ae7a65eaf4566ca94ed58d6d37c8e779e4959162acd3c25c2406490a3a32e0db0b5ede14b8ee4688902a22dc4f8160 * 2 ^ 1152 +
    0xdf2855cee9871e9b948ed9691198f8e19e1dc186b95735610ef6034866b53e708a8bbd4b1f74dde8c6b4a61c2e2578ba * 2 ^ 1536 +
    0x16bb54b00f2d99416842e6bf0d89a18c * 2 ^ 1920

/-- The inverse S-box of FIPS 197. -/
def aesUnbox : Nat :=
    0x4ec3fa420b954cee3d23c2a632947b54cbe9dec444438e3487ff2f9b8239e37cfbd7f3819ea340bf38a53630d56a0952 +
    0x849d8da75746155edab9edfd5048706c92b6655dcc5ca4d41698688664f6f87225d18b6d49a25b76b224d92866a12e08 * 2 ^ 384 +
    0x73e6b4f0cecff297eadc674f4111913a6b8a130103bdafc1020f3fca8f1e2cd00645b3b80558e4f70ad3bc8c00abd890 * 2 ^ 768 +
    0xf45acd78fec0db9a2079d2c64b3e56fc1bbe18aa0e62b76f89c5291d711af1476edf751ce837f9e28535ade72274ac96 * 2 ^ 1152 +
    0x619953833cbbebc8b0f52aae4d3be0a0ef9cc9939f7ae52d0d4ab519a97f51605fec8027591012b131c7078833a8dd1f * 2 ^ 1536 +
    0x7d0c2155631469e126d677ba7e042b17 * 2 ^ 1920

/-- A byte through a substitution box. -/
def through (box b : Nat) : Nat := box / 256 ^ b % 256

/-- Multiplication by x in GF(2^8). -/
def xtime (b : Nat) : Nat := if 128 ≤ b then Nat.xor (b * 2 % 256) 0x1B else b * 2

/-- Multiplication in GF(2^8) by a number below 16. -/
def gmul (k b : Nat) : Nat :=
  let b2 := xtime b
  let b4 := xtime b2
  let b8 := xtime b4
  Nat.xor (Nat.xor (if k % 2 = 1 then b else 0) (if k / 2 % 2 = 1 then b2 else 0))
    (Nat.xor (if k / 4 % 2 = 1 then b4 else 0) (if k / 8 % 2 = 1 then b8 else 0))

/-- A column of four bytes times the circulant matrix of a first row. -/
def mixColumn (row s : List Nat) : List Nat :=
  (List.range 4).map (fun r => (List.range 4).foldl (fun z j => Nat.xor z (gmul (row.getD ((j + 4 - r) % 4) 0) (s.getD j 0))) 0)

/-- The columns of a state of 16 bytes, mixed. -/
def mixColumns (row s : List Nat) : List Nat :=
  (List.range 4).flatMap (fun c => mixColumn row ((s.drop (4 * c)).take 4))

/-- The rows of a state shifted left by `k` times their number. -/
def shiftRows (k : Nat) (s : List Nat) : List Nat :=
  (List.range 16).map (fun i => s.getD ((i / 4 + k * (i % 4)) % 4 * 4 + i % 4) 0)

def xorNums (a b : List Nat) : List Nat := List.zipWith Nat.xor a b

/-- One word more of the key schedule: `nk` words of key, `ws` the words so far, `rc` the round constant. -/
def nextWord (nk : Nat) (st : List (List Nat) × Nat) : List (List Nat) × Nat :=
  let (ws, rc) := st
  let i := ws.length
  let t := ws.getD (i - 1) []
  let back := ws.getD (i - nk) []
  if i % nk = 0 then
    (ws ++ [xorNums back (xorNums ((t.drop 1 ++ t.take 1).map (through aesBox)) [rc, 0, 0, 0])], xtime rc)
  else if nk = 8 ∧ i % 8 = 4 then (ws ++ [xorNums back (t.map (through aesBox))], rc)
  else (ws ++ [xorNums back t], rc)

/-- The rounds of a key of 16 or 32 bytes (R216). -/
def aesRounds (key : List Byte) : Nat := if key.length ≤ 16 then 10 else 14

/-- The round keys of a key of 16 or 32 bytes, 16 bytes each. -/
def roundKeys (key : List Byte) : List (List Nat) :=
  let nk := if key.length ≤ 16 then 4 else 8
  let k := nums (fixLen (4 * nk) key)
  let w0 := (List.range nk).map (fun i => (k.drop (4 * i)).take 4)
  let n := aesRounds key
  let ws := ((List.range (4 * (n + 1) - nk)).foldl (fun st _ => nextWord nk st) (w0, 1)).1
  (List.range (n + 1)).map (fun r => ((ws.drop (4 * r)).take 4).flatten)

/-- Encipher one block of 16 bytes under a key of 16 or 32 bytes. -/
def aes (key block : List Byte) : List Byte :=
  let ks := roundKeys key
  let n := aesRounds key
  let s := xorNums (nums (fixLen 16 block)) (ks.getD 0 [])
  let s := (List.range (n - 1)).foldl (fun s r =>
    xorNums (mixColumns [2, 3, 1, 1] (shiftRows 1 (s.map (through aesBox)))) (ks.getD (r + 1) [])) s
  octets (xorNums (shiftRows 1 (s.map (through aesBox))) (ks.getD n []))

/-- Decipher one block. -/
def aesInv (key block : List Byte) : List Byte :=
  let ks := roundKeys key
  let n := aesRounds key
  let s := (shiftRows 3 (xorNums (nums (fixLen 16 block)) (ks.getD n []))).map (through aesUnbox)
  let s := (List.range (n - 1)).foldl (fun s r =>
    (shiftRows 3 (mixColumns [14, 11, 13, 9] (xorNums s (ks.getD (n - 1 - r) [])))).map (through aesUnbox)) s
  octets (xorNums s (ks.getD 0 []))

/-! ### AES-CMAC (NIST SP 800-38B) -/

/-- Doubling in GF(2^128), most significant bit first. -/
def dbl128 (n : Nat) : Nat := if 2 ^ 127 ≤ n then Nat.xor (n * 2 % 2 ^ 128) 0x87 else n * 2

/-- AES-CMAC of a byte string: 16 bytes. -/
def cmac (key m : List Byte) : List Byte :=
  let k1 := dbl128 (ofBe (aes key (List.replicate 16 0)))
  let blocks := if m.isEmpty then [[]] else pieces 16 m
  let last := blocks.getLastD []
  let fin := if last.length = 16 then xorBytes last (beBytes 16 k1)
    else xorBytes (fixLen 16 (last ++ [0x80])) (beBytes 16 (dbl128 k1))
  let c := (blocks.dropLast).foldl (fun c b => aes key (xorBytes c b)) (List.replicate 16 0)
  aes key (xorBytes c fin)

/-! ### GHASH and the check value of R223 -/

/-- Multiplication in the field of GHASH. -/
def gf128 (x y : Nat) : Nat :=
  ((List.range 128).foldl (fun (zv : Nat × Nat) i =>
    let z := if x / 2 ^ (127 - i) % 2 = 1 then Nat.xor zv.1 zv.2 else zv.1
    (z, if zv.2 % 2 = 1 then Nat.xor (zv.2 / 2) (0xE1 * 2 ^ 120) else zv.2 / 2)) (0, y)).1

/-- GHASH over a byte string, padded with zeros to whole blocks and followed by the length block. -/
def ghash (h : Nat) (a : List Byte) : Nat :=
  let y := (pieces 16 a).foldl (fun y b => gf128 (Nat.xor y (ofBe (fixLen 16 b))) h) 0
  gf128 (Nat.xor y (8 * a.length * 2 ^ 64)) h

/-- The integrity check value of a frame under a slot key and initialization vector. -/
def gcmIcv (key iv f : List Byte) : List Byte :=
  let h := ofBe (aes key (List.replicate 16 0))
  xorBytes (aes key (iv ++ [0, 0, 0, 1])) (beBytes 16 (ghash h f))

/-! ### Key wrap (RFC 3394) -/

/-- One step of the wrapping: the register A, the words R, and the step's number t, which takes the word (t - 1) mod n. -/
def wrapStep (kek : List Byte) (n : Nat) (st : List Byte × List (List Byte)) (t : Nat) : List Byte × List (List Byte) :=
  let i := t % n
  let b := aes kek (st.1 ++ st.2.getD i [])
  (xorBytes (b.take 8) (beBytes 8 (t + 1)), st.2.set i (b.drop 8))

/-- Wrap a key under a wrapping key: eight bytes more. -/
def keyWrap (kek key : List Byte) : List Byte :=
  let r := pieces 8 key
  let st := (List.range (6 * r.length)).foldl (wrapStep kek r.length) (List.replicate 8 0xA6, r)
  st.1 ++ st.2.flatten

/-- One step of the unwrapping. -/
def unwrapStep (kek : List Byte) (n : Nat) (st : List Byte × List (List Byte)) (t : Nat) : List Byte × List (List Byte) :=
  let i := t % n
  let b := aesInv kek (xorBytes st.1 (beBytes 8 (t + 1)) ++ st.2.getD i [])
  (b.take 8, st.2.set i (b.drop 8))

/-- Unwrap a blob; none where the integrity value fails. -/
def keyUnwrap (kek blob : List Byte) : Option (List Byte) :=
  let r := pieces 8 (blob.drop 8)
  let st := (List.range (6 * r.length)).reverse.foldl (unwrapStep kek r.length) (blob.take 8, r)
  if st.1 = List.replicate 8 0xA6 then some st.2.flatten else none

/-! ### SHA-256 and SHA-384 (FIPS 180-4) -/

/-- The constants of SHA-256 (FIPS 180-4), the t-th in the t-th word. -/
def sha256K : Nat :=
    0x550c7dc3243185be12835b01d807aa98ab1c5ed5923f82a459f111f13956c25be9b5dba5b5c0fbcf71374491428a2f98 +
    0x76f988da5cb0a9dc4a7484aa2de92c6f240ca1cc0fc19dc6efbe4786e49b69c1c19bf1749bdc06a780deb1fe72be5d74 * 2 ^ 384 +
    0x53380d134d2c6dfc2e1b213827b70a851429296706ca6351d5a79147c6e00bf3bf597fc7b00327c8a831c66d983e5152 * 2 ^ 768 +
    0x106aa070f40e3585d6990624d192e819c76c51a3c24b8b70a81a664ba2bfe8a192722c8581c2c92e766a0abb650a7354 * 2 ^ 1152 +
    0x8cc7020884c8781478a5636f748f82ee682e6ff35b9cca4f4ed8aa4a391c0cb334b0bcb52748774c1e376c0819a4c116 * 2 ^ 1536 +
    0xc67178f2bef9a3f7a4506ceb90befffa * 2 ^ 1920

/-- The constants of SHA-384 (FIPS 180-4). -/
def sha512K : Nat :=
    0x59f111f1b605d0193956c25bf348b538e9b5dba58189dbbcb5c0fbcfec4d3b2f7137449123ef65cd428a2f98d728ae22 +
    0x550c7dc3d5ffb4e2243185be4ee4b28c12835b0145706fbed807aa98a3030242ab1c5ed5da6d8118923f82a4af194f9b * 2 ^ 384 +
    0xefbe4786384f25e3e49b69c19ef14ad2c19bf174cf6926949bdc06a725c7123580deb1fe3b1696b172be5d74f27b896f * 2 ^ 768 +
    0x76f988da831153b55cb0a9dcbd41fbd44a7484aa6ea6e4832de92c6f592b0275240ca1cc77ac9c650fc19dc68b8cd5b5 * 2 ^ 1152 +
    0xd5a79147930aa725c6e00bf33da88fc2bf597fc7beef0ee4b00327c898fb213fa831c66d2db43210983e5152ee66dfab * 2 ^ 1536 +
    0x53380d139d95b3df4d2c6dfc5ac42aed2e1b21385c26c92627b70a8546d22ffc142929670a0e6e7006ca6351e003826f * 2 ^ 1920 +
    0xa81a664bbc423001a2bfe8a14cf1036492722c851482353b81c2c92e47edaee6766a0abb3c77b2a8650a73548baf63de * 2 ^ 2304 +
    0x106aa07032bbd1b8f40e35855771202ad69906245565a910d192e819d6ef5218c76c51a30654be30c24b8b70d0f89791 * 2 ^ 2688 +
    0x4ed8aa4ae3418acb391c0cb3c5c95a6334b0bcb5e19b48a82748774cdf8eeb991e376c085141ab5319a4c116b8d2d0c8 * 2 ^ 3072 +
    0x8cc702081a6439ec84c87814a1f0ab7278a5636f43172f60748f82ee5defb2fc682e6ff3d6b2b8a35b9cca4f7763e373 * 2 ^ 3456 +
    0xd186b8c721c0c207ca273eceea26619cc67178f2e372532bbef9a3f7b2c67915a4506cebde82bde990befffa23631e28 * 2 ^ 3840 +
    0x1b710b35131c471b113f9804bef90dae0a637dc5a2c898a606f067aa72176fbaf57d4f7fee6ed178eada7dd6cde0eb1e * 2 ^ 4224 +
    0x597f299cfc657e2a4cc5d4becb3e42b6431d67c49c100d4c3c9ebe0a15c9bebc32caab7b40c7249328db77f523047d84 * 2 ^ 4608 +
    0x6c44198c4a4758175fcb6fab3ad6faec * 2 ^ 4992

/-- A word of w bits rotated right. -/
def rotr (w n x : Nat) : Nat := x / 2 ^ n + x % 2 ^ n * 2 ^ (w - n)

/-- The parameters of a hash: word width, rounds, round constants, and the shifts of its four functions. -/
structure ShaKind where
  w : Nat
  rounds : Nat
  k : Nat
  big0 : Nat × Nat × Nat
  big1 : Nat × Nat × Nat
  small0 : Nat × Nat × Nat
  small1 : Nat × Nat × Nat

def sha256Kind : ShaKind := ⟨32, 64, sha256K, (2, 13, 22), (6, 11, 25), (7, 18, 3), (17, 19, 10)⟩
def sha384Kind : ShaKind := ⟨64, 80, sha512K, (28, 34, 39), (14, 18, 41), (1, 8, 7), (19, 61, 6)⟩

/-- Three rotations combined. -/
def shaBig (w : Nat) (s : Nat × Nat × Nat) (x : Nat) : Nat :=
  Nat.xor (rotr w s.1 x) (Nat.xor (rotr w s.2.1 x) (rotr w s.2.2 x))

/-- Two rotations and a shift combined. -/
def shaSmall (w : Nat) (s : Nat × Nat × Nat) (x : Nat) : Nat :=
  Nat.xor (rotr w s.1 x) (Nat.xor (rotr w s.2.1 x) (x / 2 ^ s.2.2))

/-- One word more of the message schedule, newest first. -/
def shaSched (p : ShaKind) (ws : List Nat) : List Nat :=
  let g (n : Nat) : Nat := ws.getD (n - 1) 0
  (shaSmall p.w p.small1 (g 2) + g 7 + shaSmall p.w p.small0 (g 15) + g 16) % 2 ^ p.w :: ws

/-- One round over the eight working words. -/
def shaRound (p : ShaKind) (s : List Nat) (wt kt : Nat) : List Nat :=
  match s with
  | [a, b, c, d, e, f, g, h] =>
    let ch := Nat.xor (Nat.land e f) (Nat.land (2 ^ p.w - 1 - e) g)
    let maj := Nat.xor (Nat.land a b) (Nat.xor (Nat.land a c) (Nat.land b c))
    let t1 := h + shaBig p.w p.big1 e + ch + kt + wt
    let t2 := shaBig p.w p.big0 a + maj
    [(t1 + t2) % 2 ^ p.w, a, b, c, (d + t1) % 2 ^ p.w, e, f, g]
  | _ => s

/-- One block into the hash. -/
def shaBlock (p : ShaKind) (hs : List Nat) (block : List Byte) : List Nat :=
  let n := p.w / 8
  let w0 := ((pieces n block).map ofBe).reverse
  let ws := ((List.range (p.rounds - 16)).foldl (fun ws _ => shaSched p ws) w0).reverse
  let s := (List.range p.rounds).foldl (fun s t => shaRound p s (ws.getD t 0) (p.k / 2 ^ (p.w * t) % 2 ^ p.w)) hs
  List.zipWith (fun a b => (a + b) % 2 ^ p.w) hs s

/-- The hash of a byte string: padded, its blocks taken in order, `out` words of the result. -/
def shaHash (p : ShaKind) (h0 : List Nat) (out : Nat) (m : List Byte) : List Byte :=
  let n := p.w / 8
  let block := 16 * n
  let used := m.length + 1 + 2 * n
  let pad := (block - used % block) % block
  let msg := m ++ [0x80] ++ List.replicate pad 0 ++ beBytes (2 * n) (8 * m.length)
  (((pieces block msg).foldl (shaBlock p) h0).take out).flatMap (beBytes n)

/-- SHA-256, or SHA-384 where `long`. -/
def sha (long : Bool) (m : List Byte) : List Byte :=
  if long then
    shaHash sha384Kind [0xcbbb9d5dc1059ed8, 0x629a292a367cd507, 0x9159015a3070dd17, 0x152fecd8f70e5939, 0x67332667ffc00b31,
      0x8eb44a8768581511, 0xdb0c2e0d64f98fa7, 0x47b5481dbefa4fa4] 6 m
  else
    shaHash sha256Kind [0x6a09e667, 0xbb67ae85, 0x3c6ef372, 0xa54ff53a, 0x510e527f, 0x9b05688c, 0x1f83d9ab, 0x5be0cd19] 8 m

/-! ### ECDSA (FIPS 186-5) -/

/-- A curve over a prime field with a = -3: the prime, b, the base point and its order, the bytes of a coordinate. -/
structure EcCurve where
  p : Nat
  b : Nat
  gx : Nat
  gy : Nat
  n : Nat
  len : Nat

def curveP256 : EcCurve :=
  { p := 0xffffffff00000001000000000000000000000000ffffffffffffffffffffffff
    b := 0x5ac635d8aa3a93e7b3ebbd55769886bc651d06b0cc53b0f63bce3c3e27d2604b
    gx := 0x6b17d1f2e12c4247f8bce6e563a440f277037d812deb33a0f4a13945d898c296
    gy := 0x4fe342e2fe1a7f9b8ee7eb4a7c0f9e162bce33576b315ececbb6406837bf51f5
    n := 0xffffffff00000000ffffffffffffffffbce6faada7179e84f3b9cac2fc632551
    len := 32 }

def curveP384 : EcCurve :=
  { p := 0xfffffffffffffffffffffffffffffffffffffffffffffffffffffffffffffffeffffffff0000000000000000ffffffff
    b := 0xb3312fa7e23ee7e4988e056be3f82d19181d9c6efe8141120314088f5013875ac656398d8a2ed19d2a85c8edd3ec2aef
    gx := 0xaa87ca22be8b05378eb1c71ef320ad746e1d3b628ba79b9859f741e082542a385502f25dbf55296c3a545e3872760ab7
    gy := 0x3617de4a96262c6f5d9e98bf9292dc29f8f41dbd289a147ce9da3113b5f0b8c00a60b1ce1d7e819d7a431d7c90ea0e5f
    n := 0xffffffffffffffffffffffffffffffffffffffffffffffffc7634d81f4372ddf581a0db248b0a77aecec196accc52973
    len := 48 }

def curveOf (long : Bool) : EcCurve := if long then curveP384 else curveP256

/-- a to the power e modulo m, over the lowest `bits` bits of e. -/
def powMod (bits a e m : Nat) : Nat :=
  ((List.range bits).foldl (fun (r : Nat × Nat) i =>
    (if e / 2 ^ i % 2 = 1 then r.1 * r.2 % m else r.1, r.2 * r.2 % m)) (1, a % m)).1

/-- The inverse modulo a prime. -/
def invMod (a m : Nat) : Nat := powMod 384 a (m - 2) m

/-- A difference modulo m of numbers below m. -/
def subMod (a b m : Nat) : Nat := (a + m - b) % m

/-- The sum of two points; none is the point at infinity. -/
def EcCurve.add (c : EcCurve) : Option (Nat × Nat) → Option (Nat × Nat) → Option (Nat × Nat)
  | none, q => q
  | p, none => p
  | some (x1, y1), some (x2, y2) =>
    if x1 = x2 ∧ (y1 + y2) % c.p = 0 then none
    else
      let l := if x1 = x2 then subMod (3 * x1 * x1 % c.p) 3 c.p * invMod (2 * y1) c.p % c.p
        else subMod y2 y1 c.p * invMod (subMod x2 x1 c.p) c.p % c.p
      let x := subMod (l * l % c.p) ((x1 + x2) % c.p) c.p
      some (x, subMod (l * subMod x1 x c.p % c.p) y1 c.p)

/-- A multiple of a point. -/
def EcCurve.mul (c : EcCurve) (k : Nat) (q : Option (Nat × Nat)) : Option (Nat × Nat) :=
  (List.range (8 * c.len)).foldl (fun r i =>
    let r := c.add r r
    if k / 2 ^ (8 * c.len - 1 - i) % 2 = 1 then c.add r q else r) none

/-- A public key is a point of the curve. -/
def EcCurve.has (c : EcCurve) (x y : Nat) : Bool :=
  decide (x < c.p) && decide (y < c.p) && decide (y * y % c.p = (subMod (x * x * x % c.p) (3 * x % c.p) c.p + c.b) % c.p)

/-- ECDSA verification: curve, public key x and y, digest, signature r and s, all big-endian; false where r or s is out
of range (R250). -/
def ecdsaValid (long : Bool) (q dig sig : List Byte) : Bool :=
  let c := curveOf long
  let x := ofBe (q.take c.len)
  let y := ofBe ((q.drop c.len).take c.len)
  let r := ofBe (sig.take c.len)
  let s := ofBe ((sig.drop c.len).take c.len)
  if !c.has x y || r == 0 || s == 0 || decide (c.n ≤ r) || decide (c.n ≤ s) then false
  else
    let w := invMod s c.n
    let u1 := ofBe (dig.take c.len) * w % c.n
    let u2 := r * w % c.n
    match c.add (c.mul u1 (some (c.gx, c.gy))) (c.mul u2 (some (x, y))) with
    | none => false
    | some (vx, _) => vx % c.n == r

/-! ### CTR_DRBG with AES-256 (NIST SP 800-90A) -/

/-- n blocks of the generator's key stream after its counter block. -/
def DrbgState.stream (s : DrbgState) (n : Nat) : List Byte :=
  (List.range n).flatMap (fun i => aes s.key (beBytes 16 ((s.v + 1 + i) % 2 ^ 128)))

/-- The update with 48 bytes of provided data. -/
def DrbgState.update (s : DrbgState) (data : List Byte) : DrbgState :=
  let t := xorBytes (s.stream 3) (fixLen 48 data)
  { key := t.take 32, v := ofBe (t.drop 32) }

/-- n bytes, and the state after them. -/
def DrbgState.generate (s : DrbgState) (n : Nat) : List Byte × DrbgState :=
  let blocks := (n + 15) / 16
  let out := (s.stream blocks).take n
  (out, ({ s with v := (s.v + blocks) % 2 ^ 128 } : DrbgState).update [])

end Sys2Proof.Machine
end

