-- ==== Sys2Proof/Machine/Parse.lean ====
section
/-!
DEFINITION. Bit fields of records wider than a register, the check functions over byte strings, and the parsing of an
Ethernet-framed frame as the lookup sees it (R95, R112, R160, R222).
-/

namespace Sys2Proof.Machine

/-! ### Records -/

/-- The bits hi to lo of a record. -/
def nb (n hi lo : Nat) : Nat := n / 2 ^ lo % 2 ^ (hi - lo + 1)

/-- One bit of a record. -/
def nbit (n i : Nat) : Bool := nb n i i == 1

/-- The record with its bits hi to lo replaced. -/
def nset (n hi lo v : Nat) : Nat := n - nb n hi lo * 2 ^ lo + v % 2 ^ (hi - lo + 1) * 2 ^ lo

/-- A field with its valid bit. -/
def nopt (n hi lo v : Nat) : Option Nat := if nbit n v then some (nb n hi lo) else none

/-- The numbers below n whose bit is set in a mask. -/
def maskList (n m : Nat) : List Nat := (List.range n).filter (fun i => bitAt m i)

/-! ### Check functions -/

/-- One byte into a most-significant-first CRC of 32 bits (R92). -/
def crcByte (poly c b : Nat) : Nat :=
  (List.range 8).foldl (fun c _ =>
    if 2 ^ 31 ≤ c then Nat.xor (c * 2 % 2 ^ 32) poly else c * 2 % 2 ^ 32) (Nat.xor c (b * 2 ^ 24))

/-- The hash of R92 over a key's bytes, least-significant byte first. -/
def crcHash (poly seed : Nat) (k : List Byte) : Nat := k.foldl (fun c b => crcByte poly c b.toNat) seed

/-- One byte into the reflected CRC-32 of IEEE 802.3. -/
def crc32Byte (c b : Nat) : Nat :=
  (List.range 8).foldl (fun c _ => if c % 2 = 1 then Nat.xor (c / 2) 0xEDB88320 else c / 2) (Nat.xor c b)

/-- The CRC-32 of IEEE 802.3 of a byte string. -/
def crc32 (bs : List Byte) : Nat :=
  Nat.xor (bs.foldl (fun c b => crc32Byte c b.toNat) 0xFFFFFFFF) 0xFFFFFFFF

/-- A frame check as it stands in a frame. -/
def fcsOf (bs : List Byte) : List Byte := leBytes 4 (crc32 bs)

/-! ### Ethernet headers -/

/-- The IP fields of a frame. -/
structure IpHdr where
  v6 : Bool
  src : Nat
  dst : Nat
  proto : Nat
  dscp : Nat
  sport : Nat
  dport : Nat
  deriving DecidableEq, Repr

/-- A SecTAG as received: its place, its length, TCI and AN byte, packet number and explicit SCI. -/
structure SecTag where
  at_ : Nat
  len : Nat
  tci : Nat
  pn : Nat
  sci : Option Nat
  deriving DecidableEq, Repr

/-- The header of an Ethernet-framed frame. -/
structure Hdr where
  da : Nat
  sa : Nat
  /-- The outer 802.1Q tag: PCP, DEI, VID. -/
  tag : Option (Nat × Bool × Nat)
  /-- Place of the tag. -/
  tagAt : Nat
  sec : Option SecTag
  /-- Sequence number of a recognised R-TAG, and its place. -/
  rtag : Option (Nat × Nat)
  etype : Nat
  /-- Place of what follows the EtherType. -/
  body : Nat
  ip : Option IpHdr
  deriving DecidableEq, Repr

/-- A big-endian number of n bytes at a place; missing bytes read 0. -/
def be (bs : List Byte) (at_ n : Nat) : Nat := ofBe ((List.range n).map (fun i => bs.getD (at_ + i) 0))

/-- A protocol number has ports. -/
def hasPorts (p : Nat) : Bool := p == 6 || p == 17 || p == 33 || p == 132 || p == 136

/-- The IP header after an EtherType. A fragment that is not an IPv4 packet's first shows no ports (log entry 28). -/
def parseIp (bs : List Byte) (et at_ : Nat) : Option IpHdr :=
  if et = 0x0800 ∧ be bs at_ 1 / 16 = 4 then
    let l4 := at_ + 4 * (be bs at_ 1 % 16)
    let p := be bs (at_ + 9) 1
    let ports := hasPorts p && be bs (at_ + 6) 2 % 8192 == 0
    some { v6 := false, src := be bs (at_ + 12) 4, dst := be bs (at_ + 16) 4, proto := p,
           dscp := be bs (at_ + 1) 1 / 4, sport := if ports then be bs l4 2 else 0,
           dport := if ports then be bs (l4 + 2) 2 else 0 }
  else if et = 0x86DD ∧ be bs at_ 1 / 16 = 6 then
    let p := be bs (at_ + 6) 1
    some { v6 := true, src := be bs (at_ + 20) 4, dst := be bs (at_ + 36) 4, proto := p,
           dscp := be bs at_ 2 / 64 % 64, sport := if hasPorts p then be bs (at_ + 40) 2 else 0,
           dport := if hasPorts p then be bs (at_ + 42) 2 else 0 }
  else none

/-- A SecTAG at a place: the SCI is present when the SC bit of the TCI is set. -/
def parseSec (bs : List Byte) (at_ : Nat) : SecTag :=
  let tci := be bs (at_ + 2) 1
  let sc := bitAt tci 5
  { at_ := at_, len := if sc then 16 else 8, tci := tci, pn := be bs (at_ + 4) 4,
    sci := if sc then some (be bs (at_ + 8) 8) else none }

/-- Parse a frame's header; `sec` on a port in mode 1 or 2 (R222), where a SecTAG is parsed past. An R-TAG is recognised
directly after the source address, or directly after a single 802.1Q tag (R112). -/
def parseHdr (bs : List Byte) (sec : Bool) : Hdr :=
  let s1 := if sec && be bs 12 2 == 0x88E5 then some (parseSec bs 12) else none
  let p := 12 + (match s1 with | some s => s.len | none => 0)
  let tagged := be bs p 2 == 0x8100
  let tci := be bs (p + 2) 2
  let q := if tagged then p + 4 else p
  let rt := be bs q 2 == 0xF1C1
  let r := if rt then q + 6 else q
  let s2 := if sec && s1.isNone && be bs r 2 == 0x88E5 then some (parseSec bs r) else none
  let e := r + (match s2 with | some s => s.len | none => 0)
  let et := be bs e 2
  { da := be bs 0 6, sa := be bs 6 6,
    tag := if tagged then some (tci / 8192, bitAt tci 12, tci % 4096) else none, tagAt := p,
    sec := if s1.isSome then s1 else s2,
    rtag := if rt then some (be bs (q + 4) 2, q) else none, etype := et, body := e + 2,
    ip := parseIp bs et (e + 2) }

/-- The 802.1Q tag carries a VID: a priority tag counts as untagged (R160). -/
def Hdr.vlanTagged (h : Hdr) : Bool :=
  match h.tag with
  | some (_, _, vid) => vid != 0
  | none => false

/-- The PCP of step 1 of Table 4-1. -/
def Hdr.pcp (h : Hdr) : Nat :=
  match h.tag with
  | some (pcp, _, _) => pcp
  | none => 0

end Sys2Proof.Machine
end

