-- ==== Sys2Proof/Machine/Integrity.lean ====
section
/-!
DEFINITION. Memory errors and the repair queue as every unit uses them (R294, R295, R301). The commands of the ECC and
SCB pages are in Scrub.lean.
-/

namespace Sys2Proof.Machine

/-- Units from `first` on of a region are written: an injection armed for one of them has taken effect, and disarms (R304). -/
def Dev.wroteUnits (region first n : Nat) (d : Dev) : Dev :=
  let u := d.get ECC_INJ_ADDR_unit
  if d.flag ECC_INJ_arm && d.get ECC_INJ_region == region && decide (first ≤ u ∧ u < first + n) then d.put ECC_INJ_arm 0 else d

/-- Put a word into the repair queue (R295): not twice; a full queue drops it, counts it and marks the region. -/
def Dev.pushRepair (region unit : Nat) (d : Dev) : Dev :=
  if d.ecc.repairQ.any (fun e => e.1 == region && e.2.1 == unit) then d
  else if 64 ≤ d.ecc.repairQ.length then
    let d := d.count SCB_REPQ_LOST
    (d.put SCB_RESCAN_region (setBitTo (d.get SCB_RESCAN_region) region true)).raise pgSCB 10
  else
    let (n, d) := d.fresh
    let d := { d with ecc := { d.ecc with repairQ := d.ecc.repairQ ++ [(region, unit, n)] } }
    d.put SCB_REPQ_CNT_items d.ecc.repairQ.length

/-- Queue an uncorrectable word for repair: none of regions 1, 13 and 14; a Till word waits until its coin is FREE (R295). -/
def Dev.needRepair (region unit : Nat) (d : Dev) : Dev :=
  if region = 1 ∨ region = 13 ∨ region = 14 then d
  else if region = 0 then
    (if NMap.get none d.vlt.coins (unit / 32) = none then d.pushRepair region unit
     else if d.ecc.waiting.contains (region, unit) then d
     else { d with ecc := { d.ecc with waiting := d.ecc.waiting ++ [(region, unit)] } })
  else d.pushRepair region unit

/-- An uncorrectable error: counted, the first captured, UE raised with the capture (R294), and the word queued for
repair. The syndrome is a free value: the spec gives the code, not its bits. -/
def Dev.uncorrectable (region unit reader : Nat) (d : Dev) : Dev :=
  let d := d.count (ECC_UE region)
  let d :=
    if d.flag ECC_CAP_valid then d
    else
      let (syn, d) := d.free 16
      let d := ((d.put ECC_CAP_valid 1).put ECC_CAP_region region).put ECC_CAP_initiator reader
      let d := (d.wr ECC_CAP_ADDR (BitVec.ofNat 32 unit)).put ECC_CAP_SYN_syn syn
      let d := d.wr64 ECC_CAP_T_LO ECC_CAP_T_HI d.ns
      d.raise pgECC 8
  d.needRepair region unit

/-- A unit meets an uncorrectable word of a brace's TCM or of MRAM, by its fabric address (Tables 13-4, 14-2). -/
def Dev.memUe (a : Nat) (d : Dev) : Dev :=
  if 0x10000000 ≤ a ∧ a < 0x10080000 then d.uncorrectable 10 ((a - 0x10000000) / 8) 8
  else if 0x10080000 ≤ a ∧ a < 0x10100000 then d.uncorrectable 11 ((a - 0x10080000) / 8) 8
  else if 0x80000000 ≤ a ∧ a < 0x90000000 then d.uncorrectable 14 ((a - 0x80000000) / 8) 8
  else d

/-- A correctable error: counted, for the second's threshold as well (R294, R305). -/
def Dev.correctable (region : Nat) (d : Dev) : Dev :=
  let d := d.count (ECC_CE region)
  { d with ecc := { d.ecc with
      ceSecond := NMap.set 0 d.ecc.ceSecond region (NMap.get 0 d.ecc.ceSecond region + 1) } }

/-- A hardware queue is reset for a pointer mismatch: counted, the first captured, Q_RST raised (R301, Table 14-6). -/
def Dev.queueReset (kind index : Nat) (d : Dev) : Dev :=
  let d := d.count ECC_Q_RST
  let d :=
    if d.flag ECC_Q_CAP_valid then d
    else ((d.put ECC_Q_CAP_valid 1).put ECC_Q_CAP_kind kind).put ECC_Q_CAP_index index
  d.raise pgECC 12

/-- A coin has returned to FREE: Till words that waited for it enter the repair queue (R295). -/
def Dev.releaseWaiting (coin : Nat) (d : Dev) : Dev :=
  let (mine, rest) := d.ecc.waiting.partition (fun e => e.2 / 32 == coin)
  let d := { d with ecc := { d.ecc with waiting := rest } }
  d.each mine (fun e d => d.pushRepair e.1 e.2)

end Sys2Proof.Machine
end

