-- ==== Sys2Proof/Machine/Vault.lean ====
section
/-!
DEFINITION. The Vault (chapter 3): coins, Accounts, back-pressure, VOQs, spills, the Auditor, and memory errors; and the
commands of the VLT and QUE pages that do not pick or enqueue a frame (those are in Arrive.lean, Pick.lean and Egress.lean).
-/

namespace Sys2Proof.Machine

/-! ### Coins (R56, R57, R61) -/

/-- Coins of the device (R56). -/
def totalCoins : Nat := 33816576

/-- The Till holds the coin. -/
def inTill (c : Nat) : Bool := decide (c < 0x40000)

/-- The bus partition holds the coin (Table 3-1). -/
def inBus (c : Nat) : Bool := decide (0x3C000 ≤ c) && decide (c < 0x40000)

/-- Take the first item of a free list. -/
def takeFree : List (Nat × Nat) → Option (Nat × List (Nat × Nat))
  | [] => none
  | (a, n) :: rest => if n ≤ 1 then some (a, rest) else some (a, (a + 1, n - 1) :: rest)

/-- Append an item to a free list (Table 3-4). -/
def giveFree : List (Nat × Nat) → Nat → List (Nat × Nat)
  | [], c => [(c, 1)]
  | [(a, n)], c => if a + n = c then [(a, n + 1)] else [(a, n), (c, 1)]
  | e :: rest, c => e :: giveFree rest c

/-- Items of a free list. -/
def freeCount (l : List (Nat × Nat)) : Nat := l.foldl (fun n e => n + e.2) 0

/-- Where a coin is taken from. -/
inductive Pool where
  | till | bus | rsv
  deriving DecidableEq, Repr

/-- The state of a coin; none FREE. -/
def Dev.coin (d : Dev) (c : Nat) : Option (CoinSt × Bool) := NMap.get none d.vlt.coins c

def Dev.setCoin (c : Nat) (s : Option (CoinSt × Bool)) (d : Dev) : Dev :=
  { d with vlt := { d.vlt with coins := NMap.set none d.vlt.coins c s } }

/-- Record forced spill (R64) and the Till's back-pressure (R70) after the free Till count has changed. -/
def Dev.tillChanged (d : Dev) : Dev :=
  let free := d.get VLT_TILL_FREE_coins
  let d :=
    if !d.vlt.forced && decide (free < d.get VLT_TILL_SPILL_coins) then
      let d := { d with vlt := { d.vlt with forced := true } }
      (d.count VLT_EMERG).raise (pgVLT 0) 11
    else if d.vlt.forced && decide (d.get VLT_TILL_SPILL_coins ≤ free) then
      { d with vlt := { d.vlt with forced := false } }
    else d
  if !d.bit VLT_GXOFF 0 && decide (free < d.get VLT_TILL_XOFF_coins) then
    (d.setBit VLT_GXOFF 0 true).raise (pgVLT 0) 8
  else if d.bit VLT_GXOFF 0 && decide (d.get VLT_TILL_XON_coins ≤ free) then d.setBit VLT_GXOFF 0 false
  else d

/-- Record the multicast-pin back-pressure (R70) after `MC_PIN` has changed. -/
def Dev.pinChanged (d : Dev) : Dev :=
  let n := d.get VLT_MC_PIN_coins
  if !d.bit VLT_GXOFF 2 && decide (d.get VLT_MC_PIN_XOFF_coins ≤ n) then
    (d.setBit VLT_GXOFF 2 true).raise (pgVLT 0) 10
  else if d.bit VLT_GXOFF 2 && decide (n ≤ d.get VLT_MC_PIN_XON_coins) then d.setBit VLT_GXOFF 2 false
  else d

/-- The free-coin register of a pool. -/
def poolFree : Pool → FRef
  | .till => VLT_TILL_FREE_coins | .bus => VLT_BUS_FREE_coins | .rsv => VLT_RSV_FREE_coins

def Dev.poolList (d : Dev) : Pool → List (Nat × Nat)
  | .till => d.vlt.freeTill | .bus => d.vlt.freeBus | .rsv => d.vlt.freeRsv

def Dev.setPool (p : Pool) (l : List (Nat × Nat)) (d : Dev) : Dev :=
  match p with
  | .till => { d with vlt := { d.vlt with freeTill := l } }
  | .bus => { d with vlt := { d.vlt with freeBus := l } }
  | .rsv => { d with vlt := { d.vlt with freeRsv := l } }

/-- Take a coin of a pool: FREE to FILL, its walk generation set to the current one (Table 3-4). -/
def Dev.takeCoin (p : Pool) (d : Dev) : Option (Nat × Dev) :=
  match takeFree (d.poolList p) with
  | none => none
  | some (c, rest) =>
    let d := d.setPool p rest
    let d := d.put (poolFree p) (d.get (poolFree p) - 1)
    let d := d.setCoin c (some (.fill, d.vlt.gen))
    some (c, if p = .till then d.tillChanged else d)

/-- Take n coins of a pool, all or none. -/
def Dev.takeCoins (p : Pool) : Nat → Dev → Option (List Nat × Dev)
  | 0, d => some ([], d)
  | n + 1, d =>
    match d.takeCoin p with
    | none => none
    | some (c, d) =>
      match Dev.takeCoins p n d with
      | none => none
      | some (cs, d) => some (c :: cs, d)

/-- Which pool a coin belongs to. -/
def poolOf (c : Nat) : Pool := if inBus c then .bus else if inTill c then .till else .rsv

/-- A coin returns to FREE and is appended to its pool's free list; a withdrawn coin stays in QUAR (Table 3-4). -/
def Dev.freeCoin (c : Nat) (d : Dev) : Dev :=
  match d.coin c with
  | some (.quar, _) => d
  | _ =>
    let p := poolOf c
    let d := d.setCoin c none
    let d := d.setPool p (giveFree (d.poolList p) c)
    let d := d.put (poolFree p) (d.get (poolFree p) + 1)
    let d := if p = .till then d.tillChanged else d
    d.releaseWaiting c

/-- A coin becomes HELD (Table 3-4). -/
def Dev.holdCoin (c : Nat) (d : Dev) : Dev :=
  match d.coin c with
  | some (.fill, g) => d.setCoin c (some (.held, g))
  | _ => d

/-! ### Accounts (R68 to R70) -/

/-- SU[d], the shared use of a domain. -/
def Dev.sharedUse (d : Dev) (k : Nat) : Nat :=
  (d.get (VLT_ACCT_USE_coins k) - d.get (VLT_ACCT_HU_coins k) - d.get (VLT_ACCT_RES_coins k)) +
  (d.get (VLT_ACCT_BUSUSE_coins k) - d.get (VLT_ACCT_BUS_coins k))

/-- A sum over the domains. -/
def sumDomains (f : Nat → Nat) : Nat := (List.range 16).foldl (fun n k => n + f k) 0

/-- SF, the free shared coins, below 0 where use exceeds the pool. -/
def Dev.sharedFree (d : Dev) : Int :=
  (totalCoins : Int) - sumDomains (fun k => d.get (VLT_ACCT_RES_coins k) + d.get (VLT_ACCT_BUS_coins k)) -
    d.get VLT_HEADROOM_coins - sumDomains d.sharedUse

/-- A[d], the occupancy of a domain. -/
def Dev.occupancy (d : Dev) (k : Nat) : Nat := d.get (VLT_ACCT_USE_coins k) + d.get (VLT_ACCT_BUSUSE_coins k)

/-- Bring a domain's XOFF state, its shared use and the device-wide quantities up to date (R70). -/
def Dev.acctChanged (k : Nat) (d : Dev) : Dev :=
  let d := d.put (VLT_ACCT_SU_coins k) (d.sharedUse k)
  let sf := d.sharedFree
  let d := d.put VLT_SHR_FREE_coins sf.toNat
  let d := d.put VLT_HDRM_FREE_coins (d.get VLT_HEADROOM_coins - sumDomains (fun j => d.get (VLT_ACCT_HU_coins j)))
  let x := d.bit VLT_ACCT_XSTAT k
  let a := d.occupancy k
  let d :=
    if !x && decide (d.get (VLT_ACCT_XOFF_coins k) ≤ a) then (d.setBit VLT_ACCT_XSTAT k true).raise (pgVLT 1) 8
    else if x && decide (a ≤ d.get (VLT_ACCT_XON_coins k)) then (d.setBit VLT_ACCT_XSTAT k false).raise (pgVLT 1) 8
    else d
  if !d.bit VLT_GXOFF 1 && decide (sf < d.get VLT_SHR_XOFF_coins) then
    (d.setBit VLT_GXOFF 1 true).raise (pgVLT 0) 9
  else if d.bit VLT_GXOFF 1 && decide ((d.get VLT_SHR_XON_coins : Int) ≤ sf) then d.setBit VLT_GXOFF 1 false
  else d

/-- A coin of a non-bus frame would be counted against the headroom pool (R68). -/
def Dev.wouldUseHeadroom (d : Dev) (k : Nat) : Bool :=
  decide (d.get (VLT_ACCT_RES_coins k) ≤ d.get (VLT_ACCT_USE_coins k) - d.get (VLT_ACCT_HU_coins k)) &&
  (decide (d.get (VLT_ACCT_SHR_coins k) ≤ d.sharedUse k) || decide (d.sharedFree ≤ 0))

/-- Charge one coin of a non-bus frame (R68). -/
def Dev.chargeCoin (k : Nat) (d : Dev) : Dev :=
  let d := if d.wouldUseHeadroom k then d.put (VLT_ACCT_HU_coins k) (d.get (VLT_ACCT_HU_coins k) + 1) else d
  let d := d.put (VLT_ACCT_USE_coins k) (d.get (VLT_ACCT_USE_coins k) + 1)
  d.acctChanged k

/-- The shared coins that n more bus coins need (R69). -/
def Dev.busShared (d : Dev) (k n : Nat) : Nat :=
  let ub := d.get (VLT_ACCT_BUSUSE_coins k)
  let b := d.get (VLT_ACCT_BUS_coins k)
  (ub + n - b) - (ub - b)

/-- The Account has no room for n bus coins (R69). -/
def Dev.busExhausted (d : Dev) (k n : Nat) : Bool :=
  let s := d.busShared k n
  decide (0 < s) && (decide (d.get (VLT_ACCT_SHR_coins k) < d.sharedUse k + s) || decide (d.sharedFree < s))

/-- Charge n coins of a bus frame (R69). -/
def Dev.chargeBus (k n : Nat) (d : Dev) : Dev :=
  (d.put (VLT_ACCT_BUSUSE_coins k) (d.get (VLT_ACCT_BUSUSE_coins k) + n)).acctChanged k

/-- Release the charge of one coin (R68, R69). -/
def Dev.uncharge (bus : Bool) (k : Nat) (d : Dev) : Dev :=
  if bus then (d.put (VLT_ACCT_BUSUSE_coins k) (d.get (VLT_ACCT_BUSUSE_coins k) - 1)).acctChanged k
  else
    let hu := d.get (VLT_ACCT_HU_coins k)
    let d := if hu = 0 then d else d.put (VLT_ACCT_HU_coins k) (hu - 1)
    (d.put (VLT_ACCT_USE_coins k) (d.get (VLT_ACCT_USE_coins k) - 1)).acctChanged k

/-- Charge one coin of a frame. -/
def Dev.charge (bus : Bool) (k : Nat) (d : Dev) : Dev := if bus then d.chargeBus k 1 else d.chargeCoin k

/-- The grant of a descriptor coin for a spill: by the Account's rules, but never from headroom (R63). -/
def Dev.grantRefused (d : Dev) (bus : Bool) (k : Nat) : Bool :=
  if bus then d.busExhausted k 1 else d.wouldUseHeadroom k

/-! ### Back-pressure (R70, R71) -/

/-- The inputs that are back-pressured (Table 3-5). -/
def pressured (p : Nat) : Bool := decide (p ≤ 61) || p == 96 || p == 97

/-- The domains that back-pressure class c of input p (`BP_MAP`). -/
def Dev.bpMap (d : Dev) (p c : Nat) : Nat :=
  if c % 2 = 0 then d.get (VLT_BP_MAP_cls_lo p (c / 2)) else d.get (VLT_BP_MAP_cls_hi p (c / 2))

/-- Back-pressure is set for input p and class c (R70). -/
def Dev.pressure (d : Dev) (p c : Nat) : Bool :=
  pressured p &&
  ((List.range 16).any (fun k => bitAt (d.bpMap p c) k && d.bit VLT_ACCT_XSTAT k) ||
   (d.bit VLT_GXOFF 1 && (List.range 16).any (fun k => bitAt (d.bpMap p c) k && decide (0 < d.sharedUse k))) ||
   d.bit VLT_GXOFF 0 || d.bit VLT_GXOFF 2)

/-- The classes for which back-pressure of an input is set. -/
def Dev.pressureSet (d : Dev) (p : Nat) : Nat :=
  (List.range 8).foldl (fun n c => n + (if d.pressure p c then 2 ^ c else 0)) 0

/-- The classes whose back-pressure has reached the input's port. -/
def Dev.pressedAt (d : Dev) (p : Nat) : Nat := NMap.get 0 d.vlt.reached p

/-! ### Receive state of an input -/

def Dev.rxOf (d : Dev) (p : Nat) : Option Rx := NMap.get none d.eth.rx p

def Dev.setRx (p : Nat) (r : Option Rx) (d : Dev) : Dev := { d with eth := { d.eth with rx := NMap.set none d.eth.rx p r } }

/-- One coin granted to a frame that began arriving under back-pressure, its descriptor coin included, is counted in
`HDRM_USE` while some class of its input is asserted (R72, Table 3-6). An Ethernet input whose headroom runs out is marked
for isolation: once its frame in reception is whole, or with no frame in reception as soon as the grant is done (R73). -/
def Dev.countHdrm (f : Frame) (d : Dev) : Dev :=
  let p := f.inPort
  if !f.hdrm || decide (61 < p) || d.pressedAt p == 0 then d
  else
    let n := d.get (VLT_HDRM_USE_coins p) + 1
    let d := d.put (VLT_HDRM_USE_coins p) n
    if p < 57 ∧ d.get (VLT_HDRM_coins p) ≤ n then
      match d.rxOf p with
      | some r => d.setRx p (some { r with excess := true })
      | none => { d with vlt := { d.vlt with overdrawn := d.vlt.overdrawn.filter (· != p) ++ [p] } }
    else d

/-! ### Frames and VOQs -/

def Dev.frame (d : Dev) (fid : Nat) : Option Frame := d.vlt.frames.find? (fun f => f.id == fid)

/-- The oldest frame of which a property holds. -/
def Dev.oldest (d : Dev) (q : Frame → Bool) : Option Frame := d.vlt.frames.find? q

/-- Change a frame. -/
def Dev.modFrame (fid : Nat) (g : Frame → Frame) (d : Dev) : Dev :=
  { d with vlt := { d.vlt with frames := d.vlt.frames.map (fun f => if f.id = fid then g f else f) } }

/-- Add a frame and answer its id. -/
def Dev.newFrame (f : Nat → Frame) (d : Dev) : Nat × Dev :=
  let n := d.vlt.nextFrame
  (n, { d with vlt := { d.vlt with frames := d.vlt.frames ++ [f n], nextFrame := n + 1 } })

def Dev.dropFrame (fid : Nat) (d : Dev) : Dev :=
  { d with vlt := { d.vlt with frames := d.vlt.frames.filter (fun f => f.id != fid) } }

/-- The VOQ index of an input, output and class (R62). -/
def voqIx (inp out cls : Nat) : Nat := inp * 1024 + out * 8 + cls

def Dev.voq (d : Dev) (q : Nat) : List Copy := NMap.get [] d.vlt.voqs q

def Dev.setVoq (q : Nat) (l : List Copy) (d : Dev) : Dev :=
  { d with vlt := { d.vlt with voqs := NMap.set [] d.vlt.voqs q l } }

/-- Coins in the Till among a list. -/
def tillCoins (l : List Nat) : Nat := (l.filter inTill).length

/-- Coins of a frame, data and descriptor. -/
def Frame.allCoins (f : Frame) : List Nat := f.coins ++ f.desc.toList

/-- Count a frame's Till coins in or out of `MC_PIN` (R75). -/
def Dev.pin (f : Frame) (on : Bool) (d : Dev) : Dev :=
  let n := tillCoins f.coins
  let m := d.get VLT_MC_PIN_coins
  (d.put VLT_MC_PIN_coins (if on then m + n else m - n)).pinChanged

/-- The Reserve coins that a spill copy has taken: its target coins, and its descriptor coin unless the frame's slip lived
there already. -/
def Spill.taken (s : Spill) : List Nat := if s.own then s.coins else s.desc :: s.coins

/-- The spill copy of a frame ends without effect: its Reserve coins return to FREE and their charge is released. -/
def Dev.dropSpill (f : Frame) (s : Spill) (d : Dev) : Dev :=
  let d := { d with vlt := { d.vlt with spills := d.vlt.spills.filter (fun s => s.fid != f.id) } }
  (d.cancel ⟨.spill, f.id, 0⟩).each s.taken (fun c d => (d.freeCoin c).uncharge f.bus f.domain)

/-- Abandon the spill copy of a frame (R65). -/
def Dev.abandonSpill (fid : Nat) (d : Dev) : Dev :=
  match d.vlt.spills.find? (fun s => s.fid == fid), d.frame fid with
  | some s, some f => (d.dropSpill f s).count VLT_SPILL_ABANDON
  | _, _ => d

/-- Release the slip of a copy: an on-die slip index, or a descriptor coin of its own (R60). -/
def Dev.freeSlip (bus : Bool) (k : Nat) (c : Copy) (d : Dev) : Dev :=
  let d := match c.slip with
    | some s =>
      (({ d with vlt := { d.vlt with freeSlips := giveFree d.vlt.freeSlips s, slipOut := false } } : Dev).put
        VLT_SLIP_FREE_slips (d.get VLT_SLIP_FREE_slips + 1))
    | none => d
  match c.slipCoin with
  | some x => (d.freeCoin x).uncharge bus k
  | none => d

/-- Coins of the frames of a list of copies, data and descriptor; a slip's own descriptor coin counts with its copy. -/
def Dev.copyCoins (d : Dev) (l : List Copy) : Nat :=
  l.foldl (fun n c => n + (match d.frame c.fid with | some f => f.allCoins.length | none => 0) +
    (if c.slipCoin.isSome then 1 else 0)) 0

/-- A frame at a place in its VOQ may spill (R63): complete, one reference, not the head, not being read, all in the
Till, not already spilling, and with a slip in a descriptor coin already or one that its Account grants. -/
def Dev.spillable (d : Dev) (q : List Copy) (k : Nat) : Bool :=
  match q[k]? with
  | none => false
  | some c =>
    match d.frame c.fid with
    | none => false
    | some f =>
      decide (0 < k) && f.tE.isSome && f.refs == 1 && f.desc.isNone && f.coins.all inTill &&
      !d.vlt.spills.any (fun s => s.fid == f.id) && !d.vlt.tx.any (fun t => t.fid == f.id) &&
      (c.slipCoin.isSome || !d.grantRefused f.bus f.domain)

/-- Start the spill copy of the frame at a place of a VOQ: target coins, and a descriptor coin where its slip has none, are
taken and charged; without the free Reserve coins the frame stays in the Till (R60, R63, R293). -/
def Dev.startSpill (q k : Nat) (d : Dev) : Dev :=
  match (d.voq q)[k]? with
  | none => d
  | some c =>
    match d.frame c.fid with
    | none => d
    | some f =>
      let begin_ (x : Nat) (xs : List Nat) (d : Dev) : Dev :=
        let d := d.each xs (fun _ d => d.charge f.bus f.domain)
        let d := { d with vlt := { d.vlt with
          spills := d.vlt.spills ++ [({ fid := f.id, voq := q, coins := xs, desc := x, own := c.slipCoin.isSome } : Spill)] } }
        d.armIn ⟨.spill, f.id, 0⟩ (nsT (150 + 8 * f.coins.length))
      match c.slipCoin with
      | some x =>
        (match d.takeCoins .rsv f.coins.length with
         | some (xs, d) => begin_ x xs d
         | none => d)
      | none =>
        match d.takeCoins .rsv (f.coins.length + 1) with
        | some (x :: xs, d) => begin_ x xs ((d.charge f.bus f.domain).countHdrm f)
        | _ => d

/-- The Till coins of a VOQ. -/
def Dev.voqTill (d : Dev) (q : List Copy) : Nat :=
  q.foldl (fun n c => n + (match d.frame c.fid with | some f => tillCoins f.coins | none => 0)) 0

/-- The frame at a place of a VOQ is to spill if it may: its coins, with all ahead of it, exceed its class's threshold
(R63), or it holds coins of the bus partition (R57). -/
def Dev.dueToSpill (d : Dev) (q : Nat) (l : List Copy) (k : Nat) : Bool :=
  decide (d.get (QUE_SPILL_THR_coins (q % 8)) < d.copyCoins (l.take (k + 1))) ||
  (match l[k]? with
   | some c => (match d.frame c.fid with
     | some f => f.coins.any inBus
     | none => false)
   | none => false)

/-- Spill in one VOQ: its first eligible frame that is to. -/
def Dev.spillOne (q : Nat) (d : Dev) : Dev :=
  let l := d.voq q
  match (List.range l.length).find? (fun k => d.spillable l k && d.dueToSpill q l k) with
  | some k => d.startSpill q k
  | none => d

/-- Spill in one VOQ: every eligible frame that is to, from the head on. -/
def Dev.spillCheck (q : Nat) (d : Dev) : Dev := d.each (d.voq q) (fun _ d => d.spillOne q)

/-- In forced spill, start with the VOQ with the most Till coins, at its eligible frame nearest the tail (R64). One copy
is started at each change of a queue and of equal VOQs the lowest goes (DESIGN CHOICE, log entry 12). -/
def Dev.spillForced (d : Dev) : Dev :=
  if !d.vlt.forced then d
  else
    let cands := d.vlt.voqs.filter (fun e => (List.range e.2.length).any (d.spillable e.2))
    let best := cands.foldl (fun (b : Option (Nat × List Copy)) e =>
      match b with
      | none => some e
      | some x => if d.voqTill x.2 < d.voqTill e.2 then some e else b) none
    match best with
    | none => d
    | some (q, l) =>
      match ((List.range l.length).filter (d.spillable l)).getLast? with
      | some k => d.startSpill q k
      | none => d

/-- What becoming the head of a VOQ brings: a spill copy in progress is abandoned, and a Reserve frame's prefetch starts
(R65). -/
def Dev.newHead (q : Nat) (d : Dev) : Dev :=
  match d.voq q with
  | [] => d
  | c :: _ =>
    let d := d.abandonSpill c.fid
    match d.frame c.fid with
    | some f => if f.desc.isSome then d.armIn ⟨.prefetch, q, 0⟩ (nsT 400) else d
    | none => d

/-- The head of a VOQ can be offered to the scheduler (R65). -/
def Dev.offered (d : Dev) (q : Nat) : Bool :=
  match d.voq q with
  | [] => false
  | c :: _ =>
    match d.frame c.fid with
    | some f => f.desc.isNone || d.vlt.staged.contains q
    | none => false

/-- Every coin of a frame returns to FREE and its charge is released (Table 3-4). -/
def Dev.freeFrame (f : Frame) (d : Dev) : Dev :=
  let d := d.abandonSpill f.id
  let d := d.each f.allCoins (fun c d => (d.freeCoin c).uncharge f.bus f.domain)
  d.dropFrame f.id

/-- The VOQ and place of the last copy of a frame. -/
def Dev.copyPlace (d : Dev) (fid : Nat) : Option Nat :=
  (d.vlt.voqs.find? (fun e => e.2.any (fun c => c.fid == fid))).map (·.1)

/-- Release one reference of a frame; the last one frees its coins, and a count that falls to 1 lets the remaining copy
spill (R75). -/
def Dev.release (fid : Nat) (d : Dev) : Dev :=
  match d.frame fid with
  | none => d
  | some f =>
    if f.refs ≤ 1 then d.freeFrame f
    else
      let d := d.modFrame fid (fun f => { f with refs := f.refs - 1 })
      if f.refs = 2 then
        let d := d.pin f false
        match d.copyPlace fid with
        | some q => d.spillCheck q
        | none => d
      else d

/-- Take the copy at the head of a VOQ out of it: its slip is freed and the next copy becomes the head. -/
def Dev.popVoq (q : Nat) (d : Dev) : Dev :=
  match d.voq q with
  | [] => d
  | c :: rest =>
    let (bus, k) := match d.frame c.fid with
      | some f => (f.bus, f.domain)
      | none => (false, 0)
    let d := d.setVoq q rest
    let d := { d with vlt := { d.vlt with staged := d.vlt.staged.filter (· != q) } }
    let d := d.cancel ⟨.prefetch, q, 0⟩
    let d := d.freeSlip bus k c
    d.newHead q

/-- Take a copy out of the middle of a VOQ. -/
def Dev.cutVoq (q : Nat) (c : Copy) (d : Dev) : Dev :=
  if (d.voq q).head? = some c then d.popVoq q
  else
    let (bus, k) := match d.frame c.fid with
      | some f => (f.bus, f.domain)
      | none => (false, 0)
    (d.setVoq q ((d.voq q).filter (fun e => decide (e ≠ c)))).freeSlip bus k c

/-- Discard a frame whole: every copy leaves its VOQ and its coins return to FREE. -/
def Dev.discardFrame (f : Frame) (d : Dev) : Dev :=
  let d := if 1 < f.refs then d.pin f false else d
  let d := d.each d.vlt.voqs (fun e d =>
    d.each (e.2.filter (fun c => c.fid == f.id)) (fun c d => d.cutVoq e.1 c))
  d.freeFrame f

/-- Give a copy its slip: on-die, or a descriptor coin where no on-die slip is free; the first such write since slips
ran out sets SLIP_SPILL (R60). The first slip of a frame in the Reserve lives in the frame's descriptor coin. -/
def Dev.giveSlip (f : Frame) (first : Bool) (d : Dev) : Option Nat × Option Nat × Dev :=
  if f.desc.isSome && first then (none, none, d)
  else
    match takeFree d.vlt.freeSlips with
    | some (s, rest) =>
      let d := { d with vlt := { d.vlt with freeSlips := rest } }
      (some s, none, d.put VLT_SLIP_FREE_slips (d.get VLT_SLIP_FREE_slips - 1))
    | none =>
      let d := if d.vlt.slipOut then d
        else ({ d with vlt := { d.vlt with slipOut := true } } : Dev).raise (pgVLT 0) 14
      match d.takeCoin .rsv with
      | some (c, d) => (none, some c, ((d.charge f.bus f.domain).countHdrm f).holdCoin c)
      | none => (none, none, d)

/-- Enter a frame into the VOQ of each output of its decision (R18 step 8, R59, R75). -/
def Dev.enqueue (fid : Nat) (outs : List Nat) (d : Dev) : Dev :=
  match d.frame fid with
  | none => d
  | some f =>
    let n := outs.length
    let d := d.modFrame fid (fun f => { f with refs := n, queued := true, outs := outs })
    let d := if 1 < n then d.pin f true else d
    let d := if f.tE.isSome then d.each f.allCoins (fun c d => d.holdCoin c) else d
    d.each outs (fun out d =>
      let q := voqIx f.inPort out f.cls
      let (slip, coin, d) := d.giveSlip f (outs.head? == some out)
      let (sn, d) := d.fresh
      let was := d.voq q
      let d := d.setVoq q (was ++ [{ fid := fid, out := out, mc := decide (1 < n), slip := slip, slipCoin := coin,
                                      serial := sn }])
      let d := if was.isEmpty then d.newHead q else d
      (d.spillCheck q).spillForced)

/-! ### The memories' words (R58, R59) -/

/-- The link word of a Till coin of a frame, the k-th of its coins (R58): next coin, and in the first coin's word the
reference count and the poison flag. -/
def Frame.linkWord (f : Frame) (k : Nat) : Nat :=
  f.coins.getD (k + 1) 0 + (if k = 0 then f.refs % 128 * 2 ^ 26 + (if f.poison then 2 ^ 33 else 0) else 0)

/-- A slip's address as a next field holds it: an on-die index, or the descriptor coin it lives in (Table 3-3). -/
def Dev.slipAddr (d : Dev) (c : Copy) : Nat :=
  let coin := c.slipCoin.or ((d.frame c.fid).bind (·.desc))
  match c.slip, coin with
  | some s, _ => s
  | none, some x => 2 ^ 28 + (x - 0x2000000) % 2 ^ 25
  | none, none => 0

/-- The next field of a copy's slip, with its valid bit [29]. -/
def Dev.nextField (d : Dev) (q : Nat) (c : Copy) : Nat :=
  match ((d.voq q).dropWhile (fun e => decide (e ≠ c))).tail.head? with
  | some n => d.slipAddr n + 2 ^ 29
  | none => 0

/-- An optional field of w bits with its valid bit above it. -/
def validField (w : Nat) (o : Option Nat) : Nat := match o with
  | some v => v % 2 ^ w + 2 ^ w
  | none => 0

/-- The 32 bytes of a slip (Table 3-3). -/
def Dev.slipBytes (d : Dev) (q : Nat) (c : Copy) (f : Frame) : List Byte :=
  let b (x : Bool) (i : Nat) : Nat := if x then 2 ^ i else 0
  leBytes 8 (f.coins.headD 0 + f.len * 2 ^ 26 + f.inPort * 2 ^ 40 + f.domain * 2 ^ 47 + f.cls * 2 ^ 51 + f.coins.length * 2 ^ 54 +
    f.check * 2 ^ 60 + b f.ct 63) ++
  leBytes 8 f.inNs ++
  leBytes 8 (f.inFrac + validField 12 f.stream * 2 ^ 16 + validField 12 f.ctx * 2 ^ 29 + validField 13 f.route * 2 ^ 42 +
    c.out * 2 ^ 56 + b c.mc 63) ++
  leBytes 8 (d.nextField q c + f.epoch % 2 ^ 16 * 2 ^ 30 + f.colour * 2 ^ 46 + b f.tsEvent 48 + b f.newCv 49)

/-- The 256 bytes of the descriptor coin of a frame in the Reserve (Table 3-2): slip, second copy of its next field, coin
list, zeros. -/
def Dev.descBytes (d : Dev) (q : Nat) (c : Copy) (f : Frame) : List Byte :=
  d.slipBytes q c f ++ leBytes 4 (d.nextField q c % 2 ^ 29) ++ (List.range 36).flatMap (fun k => leBytes 4 (f.coins.getD k 0)) ++
  List.replicate 76 0

/-- A frame in the Vault memory discard point: counted in `LOST` (Table 1-5). -/
def Dev.lost (n : Nat) (d : Dev) : Dev := d.add VLT_LOST_frames n

/-! ### The Auditor (R77 to R79) -/

/-- Coins in FILL or HELD, and in QUAR, of a tier. -/
def Dev.coinsIn (d : Dev) (till : Bool) (quar : Bool) : Nat :=
  (d.vlt.coins.filter (fun e => inTill e.1 == till &&
    (match e.2 with
     | some (.quar, _) => quar
     | some _ => !quar
     | none => false))).length

/-- The Till and Reserve counts agree with the coins' states (R77). -/
def Dev.countsAgree (d : Dev) : Bool :=
  d.get VLT_TILL_FREE_coins + d.get VLT_BUS_FREE_coins + d.coinsIn true false == 262144 - d.coinsIn true true &&
  d.get VLT_RSV_FREE_coins + d.coinsIn false false == d.vlt.rsvJoined - d.coinsIn false true

/-- Start a walk unless one runs: the walk generation flips, and phase 1 waits 1 ms (R78). -/
def Dev.startWalk (d : Dev) : Dev :=
  if d.get VLT_AUD_STAT_phase != 0 then d
  else
    let d := { d with vlt := { d.vlt with gen := !d.vlt.gen, marked := [], leaked := [], doubled := [] } }
    let d := (d.put VLT_AUD_STAT_phase 1).put VLT_AUD_CTRL_walk 1
    d.armIn ⟨.walkPhase, 0, 0⟩ (msT 1)

/-- The count check of the Auditor (R77). -/
def opAuditorCountCheck (d : Dev) : Dev :=
  d.onPeriod ⟨.audCount, 0, 0⟩ (msT (max 1 (d.get VLT_AUD_CTRL_period))) (fun d =>
    if d.countsAgree then d
    else
      let d := (d.count VLT_AUD_MISM).raise (pgVLT 2) 9
      if d.flag VLT_AUD_CTRL_auto then d.startWalk else d)

/-- A coin that belongs to the walk: FILL or HELD in the old generation. -/
def Dev.oldCoin (d : Dev) (s : Option (CoinSt × Bool)) : Bool :=
  match s with
  | some (.quar, _) => false
  | some (_, g) => g != d.vlt.gen
  | none => false

/-- The coins of slips that live in descriptor coins of their own, of the frames for which q holds. -/
def Dev.slipCoins (d : Dev) (q : Nat → Bool) : List Nat :=
  d.vlt.voqs.flatMap (fun e => (e.2.filter (fun c => q c.fid)).filterMap (·.slipCoin)) ++
  (d.vlt.drawn.filter (fun x => q x.copy.fid)).filterMap (·.copy.slipCoin)

/-- The coins of spill copies in progress, of the frames for which q holds. -/
def Dev.spillTargets (d : Dev) (q : Nat → Bool) : List Nat :=
  (d.vlt.spills.filter (fun s => q s.fid)).flatMap (·.taken)

/-- Every coin that the frames for which q holds reach: their own, their slips' and their spill copies'. -/
def Dev.reached (d : Dev) (q : Nat → Bool) : List Nat :=
  (d.vlt.frames.filter (fun f => q f.id)).flatMap (·.allCoins) ++ d.slipCoins q ++ d.spillTargets q

/-- How often a coin is listed in a free list. -/
def listed (l : List (Nat × Nat)) (c : Nat) : Nat := (l.filter (fun e => decide (e.1 ≤ c ∧ c < e.1 + e.2))).length

/-- The addresses that two ranges share. -/
def shared (a b : Nat × Nat) : List Nat :=
  let lo := max a.1 b.1
  (List.range (min (a.1 + a.2) (b.1 + b.2) - lo)).map (lo + ·)

/-- The coins that a free list holds twice. -/
def twice : List (Nat × Nat) → List Nat
  | [] => []
  | e :: rest => rest.flatMap (shared e) ++ twice rest

/-- The double-listed coins of the free lists: those listed without being FREE, and those listed twice (R78). -/
def Dev.doubleListed (d : Dev) : List Nat :=
  ((d.vlt.coins.filter (fun e => decide (0 < listed (d.poolList (poolOf e.1)) e.1))).map (·.1) ++
    ([Pool.till, .bus, .rsv].flatMap (fun p => twice (d.poolList p)))).eraseDups

/-- A phase of the walk ends and the next begins (R78): phase 1 after its 1 ms. -/
def opWalkPhaseDone (d : Dev) : Dev :=
  match d.get VLT_AUD_STAT_phase with
  | 1 => d.onTimer ⟨.walkPhase, 0, 0⟩ (fun d => d.put VLT_AUD_STAT_phase 2)
  | 2 =>
    let d := { d with vlt := { d.vlt with marked := d.reached (fun _ => true) } }
    d.put VLT_AUD_STAT_phase 3
  | 3 =>
    let leaks := (d.vlt.coins.filter (fun e => d.oldCoin e.2 && !d.vlt.marked.contains e.1)).map (·.1)
    let d := { d with vlt := { d.vlt with leaked := leaks, doubled := d.doubleListed } }
    d.put VLT_AUD_STAT_phase 4
  | _ => d

/-- Remove one listing of a coin from a free list. -/
def unlist : List (Nat × Nat) → Nat → List (Nat × Nat)
  | [], _ => []
  | (a, n) :: rest, c =>
    if a ≤ c ∧ c < a + n then
      (if c = a then [] else [(a, c - a)]) ++ (if c + 1 = a + n then [] else [(c + 1, a + n - c - 1)]) ++ rest
    else (a, n) :: unlist rest c

/-- Remove the extra listings of a coin: all of them while it is not FREE, all but one otherwise (R79). -/
def Dev.unlistExtra (c : Nat) (d : Dev) : Dev :=
  let l := d.poolList (poolOf c)
  let keep := if (d.coin c).isNone then 1 else 0
  d.setPool (poolOf c) ((List.range (listed l c - keep)).foldl (fun l _ => unlist l c) l)

/-- The correction of a domain's Account: the coins it still holds less those that its frames hold, a coin charged in
advance for a slip included (R69, R79). -/
def Dev.correction (d : Dev) (k : Nat) : Nat :=
  d.occupancy k - (d.reached (fun fid => match d.frame fid with | some f => f.domain == k | none => false)).length -
    (d.vlt.frames.filter (fun f => f.slipPaid && f.domain == k)).length

/-- Correct a domain's Account. -/
def Dev.correctAcct (k : Nat) (d : Dev) : Dev :=
  let n := d.correction k
  let un := d.get (VLT_ACCT_USE_coins k)
  let d := d.put (VLT_ACCT_USE_coins k) (un - min n un)
  let d := d.put (VLT_ACCT_HU_coins k) (min (d.get (VLT_ACCT_HU_coins k)) (d.get (VLT_ACCT_USE_coins k)))
  (d.put (VLT_ACCT_BUSUSE_coins k) (d.get (VLT_ACCT_BUSUSE_coins k) - (n - min n un))).acctChanged k

/-- Clear the walk's own data and end it. -/
def Dev.endWalk (d : Dev) : Dev :=
  let d := { d with vlt := { d.vlt with marked := [], leaked := [], doubled := [] } }
  ((d.put VLT_AUD_STAT_phase 0).put VLT_AUD_CTRL_walk 0).cancel ⟨.walkPhase, 0, 0⟩

/-- A walk ends (R79): leaks and double listings are counted and queued, and with `reclaim` 1 leaked coins return to
FREE, extra listings go, and each Account is corrected. -/
def opWalkDone (d : Dev) : Dev :=
  if d.get VLT_AUD_STAT_phase != 4 then d
  else
    let dup := d.vlt.doubled
    let leaks := d.vlt.leaked.filter (fun c => (d.coin c).isSome)
    let d := (d.put VLT_AUD_LEAK_coins leaks.length).put VLT_AUD_DUP_coins dup.length
    let items := (leaks.map (fun c => (1, c)) ++ dup.map (fun c => (2, c))).take 64
    let d := { d with vlt := { d.vlt with leakQ := (d.vlt.leakQ ++ items).take 64 } }
    let d :=
      if d.flag VLT_AUD_CTRL_reclaim then
        let d := d.each dup Dev.unlistExtra
        let d := d.each leaks Dev.freeCoin
        let corr := sumDomains d.correction
        let d := d.each (List.range 16) Dev.correctAcct
        (d.put VLT_AUD_RECL_coins leaks.length).put VLT_AUD_CORR_coins corr
      else (d.put VLT_AUD_RECL_coins 0).put VLT_AUD_CORR_coins 0
    let d := d.endWalk.wrapInc VLT_AUD_STAT_walks
    let d := d.put VLT_AUD_STAT_last_ok (if leaks.isEmpty && dup.isEmpty then 1 else 0)
    let d := d.raise (pgVLT 2) 8
    let d := if leaks.isEmpty then d else d.raise (pgVLT 2) 10
    if dup.isEmpty then d else d.raise (pgVLT 2) 11

/-- `AUD_CTRL.walk` (R77, R78). -/
def opWalkStart (i : Initiator) (d : Dev) : Dev := d.writeMixed i (pgVLT 2) 0x100 2 (fun _ => Dev.startWalk)

/-- The idle item of a read queue, bits [63:32]. -/
def idleHi : Word := 0xF0000000

/-- A leak queue item, 64 bits (R78). -/
def leakItem (e : Nat × Nat) : Nat := e.1 * 2 ^ 60 + e.2

/-- A read of `AUD_LEAKQ_LO` (R84): the head item is removed and its high half latched; an empty queue, or one whose pointer
copies disagree and that is reset (R301), reads the idle item. -/
def opLeakqRead (i : Initiator) (mism : Bool) (d : Dev) : Dev :=
  d.access i (fun d =>
    let d := if mism then ({ d with vlt := { d.vlt with leakQ := [] } } : Dev).queueReset 5 0 else d
    match d.vlt.leakQ with
    | [] => (d.wr VLT_AUD_LEAKQ_HI idleHi).emit (.readValue i VLT_AUD_LEAKQ_LO 0)
    | e :: rest =>
      let d := { d with vlt := { d.vlt with leakQ := rest } }
      (d.wr VLT_AUD_LEAKQ_HI (BitVec.ofNat 32 (leakItem e / 2 ^ 32))).emit
        (.readValue i VLT_AUD_LEAKQ_LO (BitVec.ofNat 32 (leakItem e))))

/-- The age in µs of the head of a VOQ, saturating; 0 when empty (Table 3-12). -/
def Dev.voqAge (d : Dev) (q : Nat) : Nat :=
  match d.voq q with
  | [] => 0
  | c :: _ =>
    match d.frame c.fid with
    | some f => min ((d.ns - f.inNs) / 1000) (2 ^ 32 - 1)
    | none => 0

/-- A write of `VOQ_SEL` latches the VOQ's counts from one instant (R86). -/
def opVoqSel (i : Initiator) (v : Word) (d : Dev) : Dev :=
  d.write i pgQUE 0x100 v.toNat (fun d =>
    let q := v.toNat % 2 ^ 17
    let d := d.put QUE_VOQ_SEL_voq q
    let l := d.voq q
    let d := d.put QUE_VOQ_FRAMES_frames l.length
    let d := d.put QUE_VOQ_COINS_coins (d.copyCoins l)
    let d := d.put QUE_VOQ_TILL_coins (d.voqTill l)
    d.put QUE_VOQ_AGE_us (d.voqAge q))

/-- A spill copy ends (R63): the slip is switched, the Reserve coins become HELD and the Till coins FREE; an
uncorrectable Till word discards the frame whole (Table 3-7). -/
def Dev.spillDone (s : Spill) (ue : Bool) (d : Dev) : Dev :=
  match d.frame s.fid with
  | none => d
  | some f =>
    if ue then
      let d := (((d.count VLT_TILL_PE).lost 1).raise (pgVLT 0) 12).uncorrectable 0 ((f.coins.find? inTill).getD 0 * 32) 8
      (d.dropSpill f s).discardFrame f
    else
      let d := { d with vlt := { d.vlt with spills := d.vlt.spills.filter (fun e => e.fid != f.id) } }
      let d := d.each s.taken Dev.holdCoin
      let d := d.modFrame f.id (fun f => { f with coins := s.coins, desc := some s.desc })
      let d := d.each f.coins (fun c d => (d.freeCoin c).uncharge f.bus f.domain)
      let d := d.each (d.voq s.voq) (fun c d =>
        if c.fid = f.id then
          let d := d.freeSlip f.bus f.domain (if s.own then { c with slipCoin := none } else c)
          d.setVoq s.voq ((d.voq s.voq).map (fun e => if e.fid = f.id then { e with slip := none, slipCoin := none } else e))
        else d)
      let d := d.wr64 VLT_SPILL_LO VLT_SPILL_HI (d.rd64 VLT_SPILL_LO VLT_SPILL_HI + 1)
      (d.spillCheck s.voq).spillForced

/-- RESERVE_PREFETCH_DONE: the head's first two coins are staged and the VOQ is offered to the scheduler (R65). -/
def opPrefetchDone (q : Nat) (d : Dev) : Dev :=
  d.endTimer ⟨.prefetch, q, 0⟩ (fun d => { d with vlt := { d.vlt with staged := d.vlt.staged ++ [q] } })

/-! ### The multicast hold limit (R76) -/

/-- A Ledger counter of an Ethernet port advances by n, 40 bits wrapping; bit 39 rising sets its half bit (R167, R168).
Ports without a Ledger count nothing. -/
def Dev.ldg (p i n : Nat) (d : Dev) : Dev :=
  if 57 ≤ p then d
  else
    let old := NMap.get 0 d.eth.ledger (p * 64 + i)
    let new := (old + n) % 2 ^ 40
    let d := { d with eth := { d.eth with ledger := NMap.set 0 d.eth.ledger (p * 64 + i) new } }
    if !bitAt old 39 && bitAt new 39 then
      let reg := if i < 32 then ETH_LDG_HALF0 p else ETH_LDG_HALF1 p
      (d.setBit reg (i % 32) true).raise (pgETH p) 10
    else d

/-- The hold limit of a copy in microseconds. -/
def Dev.holdLimit (d : Dev) (f : Frame) : Nat :=
  let h := d.get (QUE_MC_HOLD_us f.cls)
  if 64 ≤ f.inPort ∧ f.inPort ≤ 95 then min h 20000 else h

/-- A copy has been held beyond its limit. -/
def Dev.expired (d : Dev) (c : Copy) : Bool :=
  c.mc && (match d.frame c.fid with
    | some f => decide (f.inNs + d.holdLimit f * 1000 < d.ns)
    | none => false)

/-- Discard the head of a VOQ for its age. -/
def Dev.holdDiscard (q : Nat) (d : Dev) : Dev :=
  match d.voq q with
  | [] => d
  | c :: _ => ((((d.popVoq q).ldg c.out 48 1).count QUE_MC_DROP).raise pgQUE 8).release c.fid

/-- Discard expired copies at the head of a VOQ in turn. -/
def Dev.sweepVoq (q : Nat) : Nat → Dev → Dev
  | 0, d => d
  | n + 1, d =>
    match d.voq q with
    | [] => d
    | c :: _ => if d.expired c then Dev.sweepVoq q n (d.holdDiscard q) else d

/-- MC_HOLD_SWEEP: every 100 µs, every VOQ in ascending index order (R76, R398). -/
def opMcHoldSweep (d : Dev) : Dev :=
  d.onPeriod ⟨.mcSweep, 0, 0⟩ (usT 100) (fun d =>
    d.each d.vlt.voqs (fun e d => d.sweepVoq e.1 e.2.length))

/-- A unit reset of VLT page 2 aborts any walk without reclaim (R81). -/
def Dev.vltUnitReset (d : Dev) : Dev := d.endWalk

/-! ### The meanings of the commands of this file -/

/-- RESERVE_PREFETCH_DONE (R65). -/
def execReservePrefetchDone (voq : Nat) (s : State) : Host.Outcome State Fault Refusal :=
  effectIf (isVoq voq) (opPrefetchDone voq) s

/-- MC_HOLD_SWEEP (R76). -/
def execMcHoldSweep (s : State) : Host.Outcome State Fault Refusal :=
  effect opMcHoldSweep s

/-- AUDITOR_COUNT_CHECK (R77). -/
def execAuditorCountCheck (s : State) : Host.Outcome State Fault Refusal :=
  effect opAuditorCountCheck s

/-- AUDITOR_WALK_START (R78). -/
def execAuditorWalkStart (i : Initiator) (s : State) : Host.Outcome State Fault Refusal :=
  effect (opWalkStart i) s

/-- AUDITOR_WALK_PHASE_DONE (R78). -/
def execAuditorWalkPhaseDone (s : State) : Host.Outcome State Fault Refusal :=
  effect opWalkPhaseDone s

/-- WALK_DONE (R79). -/
def execWalkDone (s : State) : Host.Outcome State Fault Refusal :=
  effect opWalkDone s

/-- AUD_LEAKQ_READ (R84). -/
def execAudLeakqRead (i : Initiator) (mism : Bool) (s : State) : Host.Outcome State Fault Refusal :=
  effect (opLeakqRead i mism) s

/-- VOQ_SEL_WRITE (R86). -/
def execVoqSelWrite (i : Initiator) (v : Word) (s : State) : Host.Outcome State Fault Refusal :=
  effect (opVoqSel i v) s

end Sys2Proof.Machine
end

