-- ==== Sys2Proof/Machine/Tables.lean ====
section
/-!
DEFINITION. The forwarding tables: entries, hashing, insertion with relocation, removal, the learning unit, the Sweeper
(R87, R91 to R94, R96 to R100) and what a lookup reads.
-/

namespace Sys2Proof.Machine

/-! ### Entries -/

/-- w of a hashed table (Table 4-4). -/
def tblW : Nat → Nat
  | 0 => 15 | 1 => 13 | _ => 12

/-- Slots of a hashed table, its stash not counted. -/
def tblSlots (t : Nat) : Nat := 2 ^ (tblW t + 3)

/-- Entries that an index of a table can name (Table 4-4, R94, R95). -/
def tblSize : Nat → Nat
  | 0 => tblSlots 0 + 16 | 1 => tblSlots 1 + 16 | 2 => tblSlots 2 + 16 | 3 => 4096 | 4 => 4096 | 5 => 2048 | _ => 0

/-- The scrub unit of a table slot, counting 64-bit words in table order. -/
def tblUnit (t i : Nat) : Nat :=
  match t with
  | 0 => i * 2
  | 1 => tblSize 0 * 2 + i * 3
  | 2 => tblSize 0 * 2 + tblSize 1 * 3 + i * 2
  | 3 => tblSize 0 * 2 + tblSize 1 * 3 + tblSize 2 * 2 + i
  | 4 => tblSize 0 * 2 + tblSize 1 * 3 + tblSize 2 * 2 + 4096 + i * 2
  | _ => tblSize 0 * 2 + tblSize 1 * 3 + tblSize 2 * 2 + 4096 * 3 + i * 10

/-- The 64-bit words of a table's slot. -/
def tblWords (t : Nat) : Nat := match t with | 1 => 3 | 3 => 1 | 5 => 10 | _ => 2

/-- A slot that the memory integrity unit has withdrawn: it is unusable and reads as invalid (R298). -/
def Dev.deadSlot (d : Dev) (t i : Nat) : Bool :=
  let u := tblUnit t i
  let n := tblWords t
  d.mram.withdrawn.any (fun (e : Nat × Nat) => e.1 == 6 && decide (u ≤ e.2) && decide (e.2 < u + n))

/-- An entry of a table; tables 0 MAC, 1 stream identification, 2 CAN route, 3 VLAN, 4 replication list, 5 ternary. -/
def Dev.ent (d : Dev) (t i : Nat) : Nat := NMap.get 0 d.fwd.tab (t * 2 ^ 20 + i)

def Dev.setEnt (t i e : Nat) (d : Dev) : Dev :=
  let d := d.wroteUnits 6 (tblUnit t i) (tblWords t)
  { d with fwd := { d.fwd with tab := NMap.set 0 d.fwd.tab (t * 2 ^ 20 + i) (if d.deadSlot t i then 0 else e) } }

/-- Key bits of a hashed table's entry. -/
def keyBits : Nat → Nat
  | 1 => 128 | _ => 64

def keyOf (t e : Nat) : Nat := e % 2 ^ keyBits t

/-- The valid and lock bits of an entry (Tables 4-5 to 4-7). -/
def validBit : Nat → Nat
  | 0 => 84 | 1 => 169 | _ => 125
def lockBit : Nat → Nat
  | 0 => 87 | 1 => 170 | _ => 126

def isValid (t e : Nat) : Bool := nbit e (validBit t)
def isLocked (t e : Nat) : Bool := nbit e (lockBit t)

/-- The bucket of a key in a half (R92). -/
def Dev.bucket (d : Dev) (t h k : Nat) : Nat :=
  crcHash (if h = 0 then 0x1EDC6F41 else 0x741B8CD7) (d.rd (FWD_SEED t h)).toNat (leBytes (keyBits t / 8) k) /
    2 ^ (32 - tblW t)

/-- A slot index (R91). -/
def slotIx (t h b s : Nat) : Nat := h * 2 ^ (tblW t + 2) + b * 4 + s

/-- The slots of a key's bucket in a half. -/
def Dev.bucketSlots (d : Dev) (t h k : Nat) : List Nat :=
  let b := d.bucket t h k
  (List.range 4).map (slotIx t h b)

/-- The stash entries of a table. -/
def stashSlots (t : Nat) : List Nat := (List.range 16).map (fun s => tblSlots t + s)

/-- Where a key is found: its two buckets, then the stash. -/
def Dev.findKey (d : Dev) (t k : Nat) : Option Nat :=
  (d.bucketSlots t 0 k ++ d.bucketSlots t 1 k ++ stashSlots t).find?
    (fun i => isValid t (d.ent t i) && keyOf t (d.ent t i) == k)

/-- The epoch, 48 bits (R103). -/
def Dev.epoch (d : Dev) : Nat := d.rd64 FWD_EPOCH_LO FWD_EPOCH_HI % 2 ^ 48

def Dev.bumpEpoch (d : Dev) : Dev := d.wr64 FWD_EPOCH_LO FWD_EPOCH_HI ((d.epoch + 1) % 2 ^ 48)

/-- The device's own ID in global ports (R337): 0 while none is valid. -/
def Dev.ownId (d : Dev) : Nat := if d.flag SYS_DEVID_valid then d.get SYS_DEVID_id else 0

/-- The port a learned entry counts against (R97): not static and no list; an entry learned over the cascade counts on
the link that learned it (R332), and one that software wrote on its `first_port`. -/
def Dev.leashPort (d : Dev) (e : Nat) : Option Nat :=
  let via := NMap.get 0 d.fwd.linkOf (keyOf 0 e)
  let p := if nb e 80 71 = d.ownId then nb e 70 64 else if via = 0 then nb e 94 88 else via - 1
  if isValid 0 e && !nbit e 82 && !nbit e 81 && decide (p < 62) then some p else none

def Dev.leashUse (d : Dev) (p : Nat) : Nat := d.get (LRN_LEASH_USE_entries p)

def Dev.leashAdd (p : Nat) (d : Dev) : Dev := d.put (LRN_LEASH_USE_entries p) (d.leashUse p + 1)
def Dev.leashSub (p : Nat) (d : Dev) : Dev := d.put (LRN_LEASH_USE_entries p) (d.leashUse p - 1)

def Dev.leashOpt (o : Option Nat) (f : Nat → Dev → Dev) (d : Dev) : Dev :=
  match o with
  | some p => f p d
  | none => d

/-- The link port of a key's remote entry, plus 1: set where the entry is learned, kept while it names the same port. -/
def Dev.setLink (k v : Nat) (d : Dev) : Dev := { d with fwd := { d.fwd with linkOf := NMap.set 0 d.fwd.linkOf k v } }

/-- Write an entry of the MAC table and keep the leash counts; `via` the port that learned it. -/
def Dev.setMac (i e : Nat) (via : Option Nat) (d : Dev) : Dev :=
  let was := d.ent 0 i
  let old := d.leashPort was
  let same := isValid 0 was && isValid 0 e && keyOf 0 was == keyOf 0 e && nb was 80 64 == nb e 80 64
  let d := if same then d else (d.setLink (keyOf 0 was) 0).setLink (keyOf 0 e) (match via with
    | some p => p + 1
    | none => 0)
  let new := d.leashPort e
  let d := d.setEnt 0 i e
  if old = new then d else (d.leashOpt old Dev.leashSub).leashOpt new Dev.leashAdd

/-- Write an entry of any table. -/
def Dev.putEnt (t i e : Nat) (d : Dev) (via : Option Nat := none) : Dev :=
  if t = 0 then d.setMac i e via else d.setEnt t i e

/-- Show the stash count; above 12 raises STASH_HI. -/
def Dev.stashCount (t n : Nat) (d : Dev) : Dev :=
  let was := d.get (TBL_STASH_entries t)
  let d := d.put (TBL_STASH_entries t) n
  if was ≤ 12 ∧ 12 < n then d.raise pgFWD 11 else d

/-! ### Insertion (R93) -/

/-- A slot waits for its repair: it is used for nothing until it has been written (R104). -/
def Dev.inRepair (d : Dev) (t i : Nat) : Bool :=
  d.ecc.repairQ.any (fun e => e.1 == 6 && decide (tblUnit t i ≤ e.2.1) && decide (e.2.1 < tblUnit t i + tblWords t))

/-- The slot can take an entry. -/
def Dev.openSlot (d : Dev) (t i : Nat) : Bool := !isValid t (d.ent t i) && !d.deadSlot t i && !d.inRepair t i

/-- The lowest-numbered slot of a list that can take an entry. -/
def Dev.freeSlot (d : Dev) (t : Nat) (l : List Nat) : Option Nat := l.find? (d.openSlot t)

/-- The half of a slot. -/
def halfOf (t i : Nat) : Nat := if i < 2 ^ (tblW t + 2) then 0 else 1

/-- The other bucket of the entry in a slot. -/
def Dev.otherBucket (d : Dev) (t i : Nat) : List Nat :=
  d.bucketSlots t (1 - halfOf t i) (keyOf t (d.ent t i))

/-- Put a path into a level of the search behind those whose last slot is not above its own. -/
def pathIn (p : List Nat) : List (List Nat) → List (List Nat)
  | [] => [p]
  | q :: l => if p.headD 0 < q.headD 0 then p :: q :: l else q :: pathIn p l

/-- Order a level of the search: half 0 before half 1, slots in ascending order (R93), which is the order of the slot
index (R91). -/
def bySlot (l : List (List Nat)) : List (List Nat) := l.foldl (fun m p => pathIn p m) []

/-- Breadth-first search for a relocation path: each path is listed last slot first; its last slot's entry can move to a
free slot of its other bucket. -/
def Dev.searchPath (d : Dev) (t : Nat) : Nat → List Nat → List (List Nat) → Option (Nat × List Nat)
  | 0, _, _ => none
  | n + 1, seen, level =>
    let open_ := level.filter (fun p => match p with
      | [] => false
      | i :: _ => isValid t (d.ent t i) && !isLocked t (d.ent t i))
    let hit := open_.findSome? (fun p => match p with
      | [] => none
      | i :: _ => (d.freeSlot t (d.otherBucket t i)).map (fun f => (f, p)))
    match hit with
    | some r => some r
    | none =>
      let next := open_.flatMap (fun p => match p with
        | [] => []
        | i :: _ => ((d.otherBucket t i).filter (fun j => !seen.contains j)).map (fun j => j :: p))
      Dev.searchPath d t n (seen ++ next.map (fun p => p.headD 0)) (bySlot next)

/-- Move entries along a path, from the free end backwards. -/
def Dev.relocate (t : Nat) : Nat → List Nat → Dev → Dev
  | _, [], d => d
  | free, i :: rest, d =>
    let e := d.ent t i
    Dev.relocate t i rest ((d.setEnt t free e).setEnt t i 0)

/-- Find the place of a new key: a free slot of its buckets, a path of at most `moves` relocations, or the stash. -/
def Dev.makeRoom (d : Dev) (t k : Nat) : Option (Nat × Dev) :=
  let b0 := d.bucketSlots t 0 k
  let b1 := d.bucketSlots t 1 k
  match d.freeSlot t b0 with
  | some i => some (i, d)
  | none =>
    match d.freeSlot t b1 with
    | some i => some (i, d)
    | none =>
      match d.searchPath t (d.get FWD_RELOC_moves) (b0 ++ b1) ((b0 ++ b1).map (fun i => [i])) with
      | some (free, path) => some (path.getLastD free, d.relocate t free path)
      | none =>
        match d.freeSlot t (stashSlots t) with
        | some i => some (i, d.stashCount t (d.get (TBL_STASH_entries t) + 1))
        | none => none

/-- Insert an entry: its index, or none where the table is full. -/
def Dev.insert (t e : Nat) (d : Dev) (via : Option Nat := none) : Option (Nat × Dev) :=
  match d.makeRoom t (keyOf t e) with
  | none => none
  | some (i, d) =>
    let d := d.putEnt t i e via
    some (i, (d.put (TBL_ENTRIES_entries t) (d.get (TBL_ENTRIES_entries t) + 1)).bumpEpoch)

/-- Rewrite an entry in place: a write that changes its content, the lock bit apart, advances the epoch (R103). -/
def Dev.rewrite (t i e : Nat) (d : Dev) (via : Option Nat := none) : Dev :=
  let was := if t < 3 then nset (d.ent t i) (lockBit t) (lockBit t) 0 else d.ent t i
  let now_ := if t < 3 then nset e (lockBit t) (lockBit t) 0 else e
  let d := d.putEnt t i e via
  if was = now_ then d else d.bumpEpoch

/-- A freed slot takes the lowest-numbered stash entry whose bucket it is in (R93). -/
def Dev.unstash (t i : Nat) (d : Dev) : Dev :=
  if !d.openSlot t i then d
  else
    let fits (s : Nat) : Bool :=
      let e := d.ent t s
      isValid t e && !isLocked t e && (d.bucketSlots t (halfOf t i) (keyOf t e)).contains i
    match (stashSlots t).find? fits with
    | some s => ((d.setEnt t i (d.ent t s)).setEnt t s 0).stashCount t (d.get (TBL_STASH_entries t) - 1)
    | none => d

/-- Remove an entry. -/
def Dev.remove (t i : Nat) (d : Dev) : Dev :=
  let d := if t = 0 then d.cancel ⟨.pin, keyOf 0 (d.ent 0 i), 0⟩ else d
  let d := (d.putEnt t i 0).bumpEpoch
  let d := d.put (TBL_ENTRIES_entries t) (d.get (TBL_ENTRIES_entries t) - 1)
  if i < tblSlots t then d.unstash t i else d.stashCount t (d.get (TBL_STASH_entries t) - 1)

/-! ### Learning (R96 to R98) -/

/-- Bits [35:20] of device time. -/
def Dev.winMs (d : Dev) : Nat := d.ns / 2 ^ 20 % 65536

/-- W, the window length in units of 1,048,576 ns (R98). -/
def Dev.windowW (d : Dev) : Nat := min ((d.get LRN_FLAP_CFG_window_ms * 1000000 + 2 ^ 20 - 1) / 2 ^ 20) 62500

/-- e, the elapsed time of an entry's window (R98). -/
def Dev.elapsed (d : Dev) (e : Nat) : Nat := (d.ns / 2 ^ 20 + 65536 - nb e 113 98) % 65536

/-- The entry's key names its FID and address. -/
def macKey (fid mac : Nat) : Nat := fid * 2 ^ 48 + mac

/-- A new learned entry (R98, R99). -/
def Dev.learned (d : Dev) (k dest port : Nat) : Nat :=
  let e := nset (nset (nset (nset k 80 64 dest) 84 84 1) 85 85 1) 94 88 port
  if d.fwd.parity then nset e 114 114 1 else e

/-- The queue's depth is shown. -/
def Dev.lqCount (d : Dev) : Dev := d.put LRN_LQ_COUNT_events d.fwd.learnQ.length

/-- Take an event out of the learn queue. -/
def Dev.dropLearn (v : Learn) (d : Dev) : Dev :=
  { d with fwd := { d.fwd with learnQ := d.fwd.learnQ.filter (fun e => decide (e ≠ v)) } }.lqCount

/-- Capture the first flap since it was read. -/
def Dev.flapCap (v : Learn) (first : Nat) (d : Dev) : Dev :=
  if (d.pg pgLRN).captured then d
  else
    let d := d.wr LRN_FLAP_CAP_LO (BitVec.ofNat 32 v.key)
    let d := (d.put LRN_FLAP_CAP_HI_first first).put LRN_FLAP_CAP_HI_seen v.port
    let d := (d.put LRN_FLAP_CAP_HI_mac (v.key / 2 ^ 32)).put LRN_FLAP_FID_fid (v.key / 2 ^ 48)
    d.modPg pgLRN (fun s => { s with captured := true })

/-- Start a pin's hold (R98); 0 holds until software rewrites the entry. -/
def Dev.startPin (k : Nat) (d : Dev) : Dev :=
  let h := d.get LRN_FLAP_HOLD_s
  if h = 0 then d.cancel ⟨.pin, k, 0⟩ else d.armIn ⟨.pin, k, 0⟩ (secT h)

/-- Serve a learn event whose leash count has been released (R98). -/
def Dev.serve (v : Learn) (d : Dev) : Dev :=
  match d.findKey 0 v.key with
  | none =>
    match d.insert 0 (d.learned v.key v.dest v.port) v.port with
    | some (_, d) => d.count LRN_LEARNED
    | none => (d.count LRN_LFULL).raise pgLRN 12
  | some i =>
    let e := d.ent 0 i
    if nb e 80 64 = v.dest ∨ nbit e 82 ∨ nbit e 83 ∨ nbit e 81 then d
    else
      let restart := nb e 97 95 = 0 ∨ d.windowW ≤ d.elapsed e
      let moves := if restart then 1 else nb e 97 95 + 1
      if d.get LRN_FLAP_CFG_moves < moves then
        let first := nb e 94 88
        let d := d.rewrite 0 i (nset (nset e 80 64 (d.ownId * 128 + first)) 83 83 1)
        ((d.startPin v.key).count LRN_FLAPS).flapCap v first |>.raise pgLRN 8
      else
        let e := if restart then nset e 113 98 d.winMs else e
        (d.rewrite 0 i (nset (nset e 97 95 moves) 80 64 v.dest) v.port).count LRN_MOVES

/-- The entry of an event's key is locked. -/
def Dev.keyLocked (d : Dev) (t k : Nat) : Bool :=
  match d.findKey t k with
  | some i => isLocked t (d.ent t i)
  | none => false

/-- Serve the parked events of a key whose lock has cleared, in order (R102). -/
def Dev.unpark (k : Nat) (d : Dev) : Dev :=
  let (mine, rest) := d.fwd.park.partition (fun v => v.key == k)
  let d := { d with fwd := { d.fwd with park := rest } }
  d.each mine (fun v d => (d.leashSub v.port).serve v)

/-! ### Locks (R102) and table errors (R104) -/

def Dev.showLocks (d : Dev) : Dev := d.put TBL_LOCKS_entries d.fwd.locks.length

/-- The lock of a slot is over: its record and its time-out go, and events parked for its key are served. -/
def Dev.lockOver (t i k : Nat) (d : Dev) : Dev :=
  if !d.fwd.locks.contains (t, i) then d
  else
    let d := { d with fwd := { d.fwd with locks := d.fwd.locks.filter (fun e => decide (e ≠ (t, i))) } }
    let d := d.showLocks.cancel ⟨.tableLock, t, i⟩
    if t = 0 then d.unpark k else d

/-- An uncorrectable entry becomes invalid, is counted and captured (R104); the epoch does not advance (Table 14-5). -/
def Dev.tableLost (t i : Nat) (d : Dev) : Dev :=
  let d := d.count FWD_TBL_UE
  let d := if (d.pg pgFWD).captured then d else
    ((d.put FWD_UE_CAP_table t).put FWD_UE_CAP_slot i).modPg pgFWD (fun s => { s with captured := true })
  let d := d.raise pgFWD 8
  let e := d.ent t i
  if t ≤ 2 ∧ isValid t e = true then
    let d := if t = 0 then d.cancel ⟨.pin, keyOf 0 e, 0⟩ else d
    let d := (d.putEnt t i 0).put (TBL_ENTRIES_entries t) (d.get (TBL_ENTRIES_entries t) - 1)
    let d := if i < tblSlots t then d else d.stashCount t (d.get (TBL_STASH_entries t) - 1)
    d.lockOver t i (keyOf t e)
  else d.setEnt t i 0

/-- An uncorrectable entry that a lookup (reader 8) or a table DMA operation (4) met: it is passed to the scrubber as well. -/
def Dev.tableUe (reader t i : Nat) (d : Dev) : Dev := (d.uncorrectable 6 (tblUnit t i) reader).tableLost t i

/-- The event that is served next: the oldest by ingress time, ties to the lower port. -/
def Dev.nextLearn (d : Dev) : Option Learn :=
  d.fwd.learnQ.foldl (fun (b : Option Learn) v =>
    match b with
    | none => some v
    | some w =>
      let a := v.inNs * 65536 + v.inFrac
      let b := w.inNs * 65536 + w.inFrac
      if a < b ∨ (a = b ∧ v.port < w.port) then some v else some w) none

/-- The learn queue and the park buffer are emptied: each event is counted in LQ_OVF and releases its leash count (R105,
R301). -/
def Dev.learnGone (d : Dev) : Dev :=
  let evs := d.fwd.learnQ ++ d.fwd.park
  let d := { d with fwd := { d.fwd with learnQ := [], park := [] } }.lqCount
  d.each evs (fun v d => ((d.leashSub v.port).count LRN_LQ_OVF).raise pgLRN 9)

/-- LEARN_EVENT_SERVICE: once device time reaches in_ns + 16,000 ns (R98). -/
def opLearnService (mism : Bool) (d : Dev) : Dev :=
  let d := if mism && d.works pgLRN then d.learnGone.queueReset 4 0 else d
  match (if d.works pgLRN then d.nextLearn else none) with
  | none => d
  | some v =>
    let d := (d.atNs (v.inNs + 16000)).dropLearn v
    if d.keyLocked 0 v.key then
      (if d.fwd.park.length < 16 then { d with fwd := { d.fwd with park := d.fwd.park ++ [v] } }
       else ((d.leashSub v.port).count LRN_LQ_OVF).raise pgLRN 9)
    else (d.leashSub v.port).serve v

/-- Cancel the learn event of a frame whose frame check failed (R98). -/
def Dev.cancelLearn (fid : Nat) (d : Dev) : Dev :=
  d.each ((d.fwd.learnQ ++ d.fwd.park).filter (fun v => v.fid == fid)) (fun v d =>
    ({ d with fwd := { d.fwd with park := d.fwd.park.filter (fun e => decide (e ≠ v)) } }.dropLearn v).leashSub v.port)

/-- PIN_HOLD_EXPIRY: the entry of a slot is unpinned with moves cleared (R98). -/
def opPinExpiry (slot : Nat) (d : Dev) : Dev :=
  let k := keyOf 0 (d.ent 0 slot)
  d.onTimer ⟨.pin, k, 0⟩ (fun d =>
    let e := d.ent 0 slot
    if isValid 0 e && nbit e 83 then d.rewrite 0 slot (nset (nset e 83 83 0) 97 95 0) else d)

/-! ### The Sweeper (R99) -/

/-- Start a pass unless one runs. -/
def Dev.startPass (d : Dev) : Dev :=
  if d.fwd.sweepAt.isSome then d
  else { d with fwd := { d.fwd with sweepAt := some 0, parity := !d.fwd.parity } }

/-- SWEEP_PASS_START at the period's end. -/
def opSweepPassStart (d : Dev) : Dev :=
  d.onPeriod ⟨.sweepPass, 0, 0⟩ (msT (d.get LRN_SWEEP_PER_ms)) (fun d =>
    if d.flag LRN_SWEEP_CTRL_en then d.startPass else d)

/-- SWEEP_NOW: `SWEEP_CTRL.now`. -/
def opSweepNow (i : Initiator) (d : Dev) : Dev := d.writeMixed i pgLRN 0x114 2 (fun _ => Dev.startPass)

/-- Treat one entry of the pass; each write advances the epoch (R103). -/
def Dev.sweepEntry (i : Nat) (hitNow : Bool) (d : Dev) : Dev :=
  let e := d.ent 0 i
  if !isValid 0 e || nbit e 82 || nbit e 83 || isLocked 0 e || nbit e 114 == d.fwd.parity then d
  else
    let e := nset e 114 114 (if d.fwd.parity then 1 else 0)
    if hitNow || nbit e 85 then d.rewrite 0 i (nset (nset e 85 85 0) 86 86 0)
    else if !nbit e 86 then d.rewrite 0 i (nset e 86 86 1)
    else (d.remove 0 i).count LRN_REMOVED

/-- SWEEP_SLOT_VISIT: the next slot of the pass in index order. -/
def opSweepVisit (hitNow : Bool) (d : Dev) : Dev :=
  match d.fwd.sweepAt with
  | none => d
  | some i =>
    if tblSize 0 ≤ i || !d.works pgLRN then d
    else
      let d := { d with fwd := { d.fwd with sweepAt := some (i + 1) } }
      (d.at_ (d.now + fabT 8)).sweepEntry i hitNow

/-- SWEEP_PASS_DONE: every slot has been visited. -/
def opSweepPassDone (d : Dev) : Dev :=
  if d.fwd.sweepAt = some (tblSize 0) then
    ({ d with fwd := { d.fwd with sweepAt := none } }.wrapInc LRN_SWEEP_CTRL_passes).raise pgLRN 11
  else d

/-- WINDOW_PASS: every 2 s, windows that have ended lose their moves (R99). -/
def opWindowPass (d : Dev) : Dev :=
  d.onPeriod ⟨.windowPass, 0, 0⟩ (secT 2) (fun d =>
    d.each (d.fwd.tab.filter (fun e => decide (e.1 < 2 ^ 20))) (fun x d =>
      let e := d.ent 0 x.1
      if isValid 0 e && !nbit e 83 && !isLocked 0 e && nb e 97 95 != 0 && decide (d.windowW ≤ d.elapsed e) then
        d.setEnt 0 x.1 (nset e 97 95 0)
      else d))

/-! ### Unit resets (R105) -/

/-- Unit reset of LRN. -/
def Dev.lrnReset (d : Dev) : Dev :=
  let d := ({ d with fwd := { d.fwd with sweepAt := none } } : Dev).learnGone
  (d.cancel ⟨.sweepPass, 0, 0⟩).cancel ⟨.windowPass, 0, 0⟩

/-! ### The meanings of the commands of this file -/

/-- LEARN_EVENT_SERVICE (R98). -/
def execLearnEventService (mism : Bool) (s : State) : Host.Outcome State Fault Refusal :=
  effect (opLearnService mism) s

/-- PIN_HOLD_EXPIRY (R98). -/
def execPinHoldExpiry (slot : Nat) (s : State) : Host.Outcome State Fault Refusal :=
  effectIf (TblAt.wf ⟨0, slot⟩) (opPinExpiry slot) s

/-- SWEEP_PASS_START (R99). -/
def execSweepPassStart (s : State) : Host.Outcome State Fault Refusal :=
  effect opSweepPassStart s

/-- SWEEP_NOW (R99). -/
def execSweepNow (i : Initiator) (s : State) : Host.Outcome State Fault Refusal :=
  effect (opSweepNow i) s

/-- SWEEP_SLOT_VISIT (R99). -/
def execSweepSlotVisit (hitNow : Bool) (s : State) : Host.Outcome State Fault Refusal :=
  effect (opSweepVisit hitNow) s

/-- SWEEP_PASS_DONE (R99). -/
def execSweepPassDone (s : State) : Host.Outcome State Fault Refusal :=
  effect opSweepPassDone s

/-- WINDOW_PASS (R99). -/
def execWindowPass (s : State) : Host.Outcome State Fault Refusal :=
  effect opWindowPass s

end Sys2Proof.Machine
end

