-- ==== Sys2Proof/Machine/Forward.lean ====
section
/-!
DEFINITION. The lookup: the steps of Table 4-1 and the snapshot of Table 4-2 (R88 to R90, R95, R96, R337, R338).
-/

namespace Sys2Proof.Machine

/-! ### Ports -/

/-- The frame is Ethernet-framed: it carries no record (Table 4-1). -/
def Frame.ethFramed (f : Frame) : Bool := f.record.isNone

/-- The port has a link: E25 ports in Voholt-over-Ethernet mode and the VH links carry the cascade. -/
def Dev.vox (d : Dev) (p : Nat) : Bool := decide (p < 4) && d.flag (ETH_CFG_vox p)

/-- The port is a cascade link. -/
def Dev.cascade (d : Dev) (p : Nat) : Bool := (decide (58 ≤ p) && decide (p ≤ 61)) || d.vox p

/-- The port of a link code (R338). -/
def linkPort (code : Nat) : Nat := if code < 4 then 58 + code else code - 4

/-- A link is up and not isolated. -/
def Dev.linkUsable (d : Dev) (code : Nat) : Bool :=
  if code < 4 then d.flag (VHL_STAT_link code) && d.get (PG_STATE_iso (pgVHL code)) == 0
  else d.vox (code - 4) && d.flag (ETH_STAT_link (code - 4)) && d.get (PG_STATE_iso (pgETH (code - 4))) == 0

/-- The path entry of a device: valid, primary, alternate. -/
def Dev.path (d : Dev) (dev : Nat) : Nat := NMap.get 0 d.voh.paths dev

/-- Record a switch to or from the alternate link (R338). -/
def Dev.pathSwitch (dev : Nat) (alt : Bool) (d : Dev) : Dev :=
  if d.voh.onAlt.contains dev == alt then d
  else
    let l := d.voh.onAlt.filter (· != dev)
    let d := { d with voh := { d.voh with onAlt := if alt then l ++ [dev] else l } }
    (d.count (VHL_VC_CNT 0 2)).raise (pgVHL 0) 14

/-- The link code toward another device: the primary link while it is usable and has not to be waited for, otherwise the
alternate (R338). -/
def Dev.pathCode (d : Dev) (dev : Nat) : Option Nat × Dev :=
  let e := d.path dev
  if !nbit e 31 then (none, d)
  else
    let prim := nb e 2 0
    let alt := if nbit e 13 then some (nb e 10 8) else none
    if d.linkUsable prim && !d.voh.onAlt.contains dev then (some prim, d)
    else
      match alt.filter d.linkUsable with
      | some a => (some a, d.pathSwitch dev true)
      | none => if d.linkUsable prim then (some prim, d.pathSwitch dev false) else (none, d)

/-- The device IDs whose primary link is a code. -/
def Dev.primaries (d : Dev) (code : Nat) : List Nat :=
  (d.voh.paths.filter (fun e => nbit e.2 31 && nb e.2 2 0 == code)).map (·.1)

/-- A link has come up: the paths that left it return once it has been up for `REVERT`, and paths without a usable primary
that have it as their alternate take it (R338). -/
def Dev.revertStart (code : Nat) (d : Dev) : Dev :=
  if !d.linkUsable code then d
  else
    let waits := (d.primaries code).filter (fun dev => d.voh.onAlt.contains dev)
    let d := d.each waits (fun dev d => d.armIn ⟨.pathRevert, dev, 0⟩ (msT (d.get (VHL_REVERT_ms 0))))
    let l := d.voh.paths.filter (fun e => nbit e.2 31 && nbit e.2 13 && nb e.2 10 8 == code && !d.linkUsable (nb e.2 2 0))
    d.each (l.map (·.1)) (fun dev d => d.pathSwitch dev true)

/-- A link has gone down, or is isolated: the returns to it stop, and its paths move to their alternates (R338, R344). -/
def Dev.revertStop (code : Nat) (d : Dev) : Dev :=
  d.each (d.primaries code) (fun dev d =>
    let d := d.cancel ⟨.pathRevert, dev, 0⟩
    let e := d.path dev
    if nbit e 13 && d.linkUsable (nb e 10 8) then d.pathSwitch dev true else d)

/-- The egress port a global port resolves to (R337, R338). -/
def Dev.resolve (d : Dev) (g : Nat) : Option Nat × Dev :=
  if g / 128 = d.ownId then (some (g % 128), d)
  else if !d.flag SYS_DEVID_valid then (none, d)
  else
    match d.pathCode (g / 128) with
    | (some c, d) => (some (linkPort c), d)
    | (none, d) => (none, d)

/-! ### The snapshot -/

/-- A snapshot (Table 4-2), with the egress set it names. -/
structure Snap where
  kind : Nat := 0
  dest : Nat := 0
  cls : Nat := 0
  domain : Nat := 0
  stream : Option Nat := none
  ctx : Option Nat := none
  route : Option Nat := none
  frer : Option Nat := none
  trap : Bool := false
  reason : Nat := 0
  learn : Bool := false
  outs : List Nat := []
  deriving DecidableEq, Repr

/-- The snapshot as its 128-bit record (Table 4-2); kind 0 where only port 96 or added ports take the frame (DEDUCED, log
entry 29). -/
def Snap.bits (s : Snap) (epoch : Nat) : Nat :=
  (if s.reason = 0 then s.kind else 0) + s.dest % 4096 * 2 ^ 2 + s.cls * 2 ^ 14 + s.domain * 2 ^ 17 + validField 12 s.stream * 2 ^ 21 +
  validField 12 s.ctx * 2 ^ 34 + validField 13 s.route * 2 ^ 47 + validField 10 s.frer * 2 ^ 61 + (if s.trap then 2 ^ 72 else 0) +
  s.reason * 2 ^ 73 + (if s.learn then 2 ^ 79 else 0) + epoch % 2 ^ 32 * 2 ^ 96

/-- The ports of a replication list; reserved ports read 0 (R94, R4). -/
def Dev.listPorts (d : Dev) (l : Nat) : List Nat :=
  (maskList 98 (d.ent 4 l)).filter (fun p => p != 62 && p != 63)

/-- Set one destination, a port or a list. -/
def Dev.setDest (list : Bool) (dest : Nat) (s : Snap) (d : Dev) : Snap :=
  if list then { s with kind := 2, dest := dest, outs := d.listPorts dest }
  else { s with kind := 1, dest := dest % 128, outs := [dest % 128] }

/-! ### Step 1 -/

/-- The ingress port is in mode 1 or 2: SecTAGs are parsed past (R222). -/
def Dev.secMode (d : Dev) (p : Nat) : Bool :=
  decide (p < 57) && !d.vox p && (d.get (AUT_PORT_validate p) == 1 || d.get (AUT_PORT_validate p) == 2)

/-- The frame came in on a port that was in mode 1 or 2 at its start (R40, R222). -/
def Frame.secured (f : Frame) : Bool := f.cv0.any (fun v => v.mode != 0)

/-- The header of a frame as its lookup sees it: what stands in its first 128 bytes. -/
def Frame.hdr (f : Frame) : Hdr := parseHdr (f.data.take 128) f.secured

/-- The frame's bytes without the frame check that it is stored with. -/
def Frame.body (f : Frame) : List Byte := f.data.take (f.data.length - 4)

/-- The VID of step 1. -/
def Dev.vidOf (d : Dev) (f : Frame) (h : Hdr) : Nat :=
  match h.tag with
  | some (_, _, vid) => if vid = 0 then d.get (FWD_PORT_CFG_pvid f.inPort) else vid
  | none => d.get (FWD_PORT_CFG_pvid f.inPort)

/-- The CAN route key of a record (Table 4-7). -/
def routeKey (port : Nat) (r : BusRecord) : Nat :=
  port + r.fmt * 2 ^ 7 + r.id * 2 ^ 9 + (if r.fmt = 2 then r.vcid * 2 ^ 38 + r.sdt * 2 ^ 46 else 0)

/-- The ingress domain of a frame (Table 4-1 step 1, R25, R289, R332): its Account bears the charge. -/
def Dev.domainOf (d : Dev) (f : Frame) : Nat :=
  match f.direct with
  | some (_, _, k) => k
  | none =>
    if f.inPort = 96 then f.domain
    else
      match f.record with
      | some r =>
        (match d.findKey 2 (routeKey f.inPort r) with
         | some i => nb (d.ent 2 i) 83 80
         | none => 0)
      | none =>
        if d.cascade f.inPort then nb f.tag 10 7 else nb (d.ent 3 (d.vidOf f f.hdr)) 15 12

/-- The class by which an input asserts back-pressure for a frame at its start (R72), and the class step 1 gives it. -/
def Dev.classOf (d : Dev) (f : Frame) (h : Hdr) : Nat :=
  if f.inPort = 97 then f.txCls
  else nb (d.get (FWD_PCP_MAP_cls f.inPort)) (3 * h.pcp + 2) (3 * h.pcp)

/-- Step 1 for Ethernet-framed frames: acceptance, class, VLAN and membership; the snapshot so far, the FID, whether the
VLAN learns, and its member list. An acceptance of 3 refuses every frame (DEDUCED, log entry 29). -/
def Dev.step1 (d : Dev) (f : Frame) (h : Hdr) : Snap × Nat × Bool × Nat :=
  let p := f.inPort
  let acc := d.get (FWD_PORT_CFG_accept p)
  let s : Snap := { cls := d.classOf f h, domain := d.domainOf f }
  let v := d.ent 3 (d.vidOf f h)
  let refused := (acc = 1 ∧ !h.vlanTagged) ∨ (acc = 2 ∧ h.vlanTagged) ∨ acc = 3
  let r := if refused then 0x04
    else if !nbit v 41 then 0x02
    else if !(d.listPorts (nb v 27 16)).contains p then 0x03
    else 0
  ({ s with reason := r }, nb v 11 0, nbit v 40, nb v 27 16)

/-! ### Step 2: stream identification -/

/-- The key of a stream identification entry type (Table 4-6). -/
def sidKey (h : Hdr) (vid type : Nat) : Option Nat :=
  match type with
  | 3 =>
    (match h.ip with
     | some ip =>
       if ip.v6 then none
       else some (3 + vid * 2 ^ 3 + ip.dst * 2 ^ 15 + ip.src * 2 ^ 47 + ip.dscp * 2 ^ 79 + ip.proto * 2 ^ 85 +
                  ip.sport * 2 ^ 109 + ip.dport * 2 ^ 93)
     | none => none)
  | 2 => some (2 + vid * 2 ^ 3 + h.sa * 2 ^ 15)
  | _ => some (1 + vid * 2 ^ 3 + h.da * 2 ^ 15)

/-- The stream identification entry that applies: IPv4 before source before null. -/
def Dev.sidHit (d : Dev) (h : Hdr) (vid : Nat) : Option Nat :=
  [3, 2, 1].findSome? (fun t =>
    match sidKey h vid t with
    | some k => (d.findKey 1 k).map (fun i => d.ent 1 i)
    | none => none)

/-- Step 2. -/
def Dev.step2 (d : Dev) (f : Frame) (h : Hdr) (s : Snap) : Snap :=
  if !d.flag (FWD_PORT_CFG_sid_en f.inPort) then s
  else
    match d.sidHit h (d.vidOf f h) with
    | none => s
    | some e =>
      let s := { s with stream := nopt e 139 128 140, frer := nopt e 150 141 151, ctx := nopt e 167 156 168 }
      if nbit e 155 then { s with cls := nb e 154 152 } else s

/-! ### Step 3: MAC and learning -/

/-- Where a frame's source address would be learned: the source global port of its cascade tag, or its own port. -/
def Dev.learnDest (d : Dev) (f : Frame) : Nat :=
  if d.cascade f.inPort then nb f.tag 37 21 else d.ownId * 128 + f.inPort

/-- The source address check of R96: a discard reason (0 none), and whether a learn event was queued. -/
def Dev.learnCheck (f : Frame) (h : Hdr) (fid : Nat) (d : Dev) : Nat × Bool × Dev :=
  let k := macKey fid h.sa
  let p := f.inPort
  let dest := d.learnDest f
  let mode := d.get LRN_FLAP_CFG_mode
  let d := match d.findKey 0 k with
    | some i => d.setEnt 0 i (nset (d.ent 0 i) 85 85 1)
    | none => d
  let e := match d.findKey 0 k with
    | some i => d.ent 0 i
    | none => 0
  if isValid 0 e && !nbit e 81 && nb e 80 64 == dest then (0, false, d)
  else if isValid 0 e && !nbit e 81 && nbit e 82 then (if mode = 0 then 0x09 else 0, false, d)
  else if isValid 0 e && !nbit e 81 && nbit e 83 then (if mode = 0 then 0x08 else 0, false, d)
  else if d.fwd.learnQ.any (fun v => v.key == k && v.port == p) then (0, false, d)
  else if d.get (LRN_LEASH_max p) < d.leashUse p + 1 then
    let d := (d.count (LRN_LEASH_CNT p)).raise pgLRN 10
    (if d.get (LRN_LEASH_mode p) = 0 then 0x07 else 0, false, d)
  else if 4096 ≤ d.fwd.learnQ.length then (0, false, (d.count LRN_LQ_OVF).raise pgLRN 9)
  else
    let v : Learn := { key := k, port := p, dest := dest, inNs := f.inNs, inFrac := f.inFrac, fid := f.id }
    let d := { d with fwd := { d.fwd with learnQ := d.fwd.learnQ ++ [v] } }.lqCount
    (0, true, d.leashAdd p)

/-- Step 3: the destination by (FID, DA), flooding the member list on a miss; a remote port is resolved. -/
def Dev.step3 (h : Hdr) (fid members : Nat) (s : Snap) (d : Dev) : Snap × Dev :=
  match d.findKey 0 (macKey fid h.da) with
  | none => (d.setDest true members s, d)
  | some i =>
    let e := d.ent 0 i
    let d := d.setEnt 0 i (nset e 85 85 1)
    if nbit e 81 then (d.setDest true (nb e 75 64) s, d)
    else
      match d.resolve (nb e 80 64) with
      | (some p, d) => (d.setDest false p s, d)
      | (none, d) => ({ s with kind := 1, outs := [] }, d)

/-! ### Step 4: ternary rules -/

/-- The ternary key (Table 4-8). -/
def Dev.ternKey (d : Dev) (f : Frame) (h : Hdr) (s : Snap) : Nat :=
  f.inPort + s.domain * 2 ^ 7 +
  (match f.record with
   | some r => (if r.fmt = 3 then 2 else 1) * 2 ^ 26 + r.id * 2 ^ 44 + r.fmt * 2 ^ 73
   | none =>
     d.vidOf f h * 2 ^ 11 + h.pcp * 2 ^ 23 + h.etype * 2 ^ 28 + h.da * 2 ^ 44 + h.sa * 2 ^ 92 +
     (match h.ip with
      | some ip =>
        ip.src * 2 ^ 140 + ip.dst * 2 ^ 172 + ip.proto * 2 ^ 204 + ip.dscp * 2 ^ 212 + ip.sport * 2 ^ 218 +
        ip.dport * 2 ^ 234 + 2 ^ 250 + (if ip.v6 then 2 ^ 251 else 0)
      | none => 0))

/-- The action of the lowest-numbered valid rule that matches (R95). -/
def Dev.ternHit (d : Dev) (key : Nat) : Option Nat :=
  let rules := (d.fwd.tab.filter (fun e => decide (5 * 2 ^ 20 ≤ e.1) && decide (e.1 < 5 * 2 ^ 20 + 2048))).map (·.2)
  (rules.find? (fun r =>
    nbit r (512 + 65) && Nat.land key (nb r 511 256) == Nat.land (nb r 255 0) (nb r 511 256))).map (fun r => nb r 639 512)

/-- Step 4. -/
def Dev.step4 (d : Dev) (a : Nat) (s : Snap) : Snap :=
  let s := match nb a 2 0 with
    | 1 => if s.reason = 0 then { s with reason := 0x05 } else s
    | 2 => d.setDest (nbit a 3) (nb a 15 4) s
    | 3 => { s with outs := s.outs ++ (d.setDest (nbit a 3) (nb a 15 4) s).outs }
    | 4 => { s with outs := s.outs ++ [97], trap := true }
    | _ => s
  let s := if nbit a 16 then { s with domain := nb a 20 17 } else s
  let s := if nbit a 21 then { s with cls := nb a 24 22 } else s
  let s := if nbit a 25 then { s with stream := some (nb a 37 26) } else s
  let s := if nbit a 38 then { s with ctx := some (nb a 50 39) } else s
  if nbit a 51 then { s with route := some (nb a 64 52) } else s

/-! ### Step 5 -/

/-- A port admits a domain (R90). -/
def Dev.admits (d : Dev) (k p : Nat) : Bool :=
  p == 96 || p == 97 || bitAt (d.get (FWD_PORT_CFG_dom p)) k

/-- Step 5: the egress set without the ingress port, the domain check, and an empty set. -/
def Dev.step5 (f : Frame) (s : Snap) (d : Dev) : Snap × Dev :=
  let outs := if s.route.isSome then s.outs ++ [96] else s.outs
  let outs := outs.eraseDups
  let self := f.inPort = 96 ∧ 96 ∈ outs
  let outs := outs.filter (fun p => p != f.inPort && !reservedPort p)
  let d := if self then d.count (KLW_CNT 2) else d
  let s := { s with outs := outs }
  if s.reason ≠ 0 then (s, d)
  else if outs.any (fun p => !d.admits s.domain p) then ({ s with reason := 0x06 }, d.raise pgFWD 9)
  else if outs.isEmpty then ({ s with reason := 0x01 }, d)
  else (s, d)

/-- What the Kennel profile makes of a decision (Table 17-6): in SERVICE_ONLY, frames of E100-S and HOST go to port 97 alone
and port 97 sends to these two; in FLAT, port 97 is reached only from these two. -/
def Dev.kennelSnap (f : Frame) (s : Snap) (d : Dev) : Snap :=
  let service := f.inPort == 56 || f.inPort == 57
  if d.pw.base ≠ .kennel then s
  else
    match d.get RST_KENNEL_profile with
    | 0 =>
      if service then d.setDest false 97 { s with reason := 0, domain := d.domainOf f, route := none, trap := false }
      else if f.inPort = 97 && f.direct.isSome then { s with outs := s.outs.filter (fun p => p == 56 || p == 57) }
      else { s with reason := 0x01 }
    | 1 => if service || f.inPort == 97 then s else { s with outs := s.outs.filter (· != 97) }
    | _ => s

/-- The lookup of a frame: its snapshot and what the lookup changes (Table 4-1). -/
def Dev.lookup (f : Frame) (d : Dev) : Snap × Dev :=
  let h := f.hdr
  let early : Snap × Dev :=
    match f.direct with
    | some (port, cls, dom) => ({ kind := 1, dest := port, cls := cls, domain := dom, outs := [port] }, d)
    | none =>
      if f.inPort = 96 then
        let s : Snap := { cls := f.cls, domain := f.domain, ctx := f.ctx }
        let s := match f.kdest with
          | some (dest, list) => d.setDest list dest s
          | none => s
        (match d.ternHit (d.ternKey f h s) with
         | some a => (d.step4 a s, d)
         | none => (s, d))
      else
        match f.record with
        | some r =>
          (match d.findKey 2 (routeKey f.inPort r) with
           | none => ({ reason := 0x01, domain := f.domain }, d)
           | some i =>
             let e := d.ent 2 i
             let s : Snap := { cls := nb e 79 77, domain := nb e 83 80, route := nopt e 96 84 97,
                               ctx := nopt e 109 98 110, stream := nopt e 122 111 123 }
             let s := if nbit e 124 then d.setDest (nbit e 76) (nb e 75 64) s else s
             let s := if !nbit e 124 && !nbit e 97 then { s with reason := 0x01 } else s
             match d.ternHit (d.ternKey f h s) with
             | some a => (d.step4 a s, d)
             | none => (s, d))
        | none =>
          let (s, fid, vlearn, members) := d.step1 f h
          if s.reason ≠ 0 then (s, d)
          else
            let s := d.step2 f h s
            let (s, d) := d.step3 h fid members s
            let (r, q, d) :=
              if vlearn && decide (f.inPort < 62) && d.flag (FWD_PORT_CFG_learn f.inPort) then d.learnCheck f h fid
              else (0, false, d)
            let s := { s with reason := r, learn := q }
            match d.ternHit (d.ternKey f h s) with
            | some a => (d.step4 a s, d)
            | none => (s, d)
  early.2.step5 f (early.2.kennelSnap f early.1)

/-- Count a lookup of a pipeline (Table 4-14). -/
def Dev.countLookup (pipe : Bool) (d : Dev) : Dev :=
  if pipe then d.wr64 FWD_LOOKUP1_LO FWD_LOOKUP1_HI (d.rd64 FWD_LOOKUP1_LO FWD_LOOKUP1_HI + 1)
  else d.wr64 FWD_LOOKUP0_LO FWD_LOOKUP0_HI (d.rd64 FWD_LOOKUP0_LO FWD_LOOKUP0_HI + 1)

/-- Capture the snapshot of a traced port (R89). -/
def Dev.trace (p : Nat) (s : Snap) (d : Dev) : Dev :=
  if d.flag FWD_TRACE_CTRL_arm && (d.flag FWD_TRACE_CTRL_any || d.get FWD_TRACE_CTRL_port == p) then
    let b := s.bits d.epoch
    let d := d.each [0, 1, 2, 3] (fun i d => d.wr (FWD_TRACE_RES i) (BitVec.ofNat 32 (b / 2 ^ (32 * i))))
    (d.put FWD_TRACE_CTRL_arm 0).raise pgFWD 10
  else d

/-- TRACE_ARM: a write of `TRACE_CTRL` (R89). -/
def opTraceArm (i : Initiator) (v : Word) (d : Dev) : Dev :=
  d.write i pgFWD 0x700 v.toNat (fun d =>
    let d := d.put FWD_TRACE_CTRL_any (bitsOf v 9 9)
    let d := d.put FWD_TRACE_CTRL_port (bitsOf v 6 0)
    Dev.putIf (v.getLsbD 8) FWD_TRACE_CTRL_arm 1 d)

/-! ### The meanings of the commands of this file -/

/-- TRACE_ARM (R89). -/
def execTraceArm (i : Initiator) (v : Word) (s : State) : Host.Outcome State Fault Refusal :=
  effect (opTraceArm i v) s

end Sys2Proof.Machine
end

