-- ==== Sys2Proof/Machine/Lists.lean ====
section
/-!
DEFINITION. Lists that run in device time: the gate lists of ports and stream gates, and the schedule tables of LIN
commanders (R111, R119 to R122, R189).
-/

namespace Sys2Proof.Machine

/-! ### Gate lists -/

def Dev.gateRun (d : Dev) (g : Nat) : GateRun := NMap.get {} d.trm.gateRun g
def Dev.setGateRun (g : Nat) (r : GateRun) (d : Dev) : Dev :=
  { d with trm := { d.trm with gateRun := NMap.set {} d.trm.gateRun g r } }

def Dev.tas (d : Dev) (p : Nat) : GateRun := NMap.get {} d.trm.tas p
def Dev.setTas (p : Nat) (r : GateRun) (d : Dev) : Dev := { d with trm := { d.trm with tas := NMap.set {} d.trm.tas p r } }

/-- The entries of a stream gate's bank and of a port's bank. -/
def Dev.gateEnt (d : Dev) (g bank k : Nat) : Nat := NMap.get 0 d.trm.gateEnt (g * 128 + bank * 64 + k)
def Dev.gclEnt (d : Dev) (p bank k : Nat) : Nat := NMap.get 0 d.trm.gcl (p * 2048 + bank * 1024 + k)

/-- Enter an entry of the running list at an instant: it ends with its interval, or with the cycle where it is the last
entry or is cut. -/
def GateRun.enter (ent : Nat → Nat) (k t : Nat) (r : GateRun) : GateRun :=
  match r.cur with
  | none => r
  | some c =>
    let stop := r.cycle0 + c.cycle
    let u := if c.len ≤ k + 1 then stop else min (t + nb (ent k) 31 0) stop
    { r with entry := k, until_ := u }

/-- Start the pending list. -/
def GateRun.startPend (ent : Nat → Nat → Nat) (r : GateRun) : GateRun :=
  match r.pend with
  | none => r
  | some c =>
    ({ r with cur := some c, cycle0 := c.start, pend := none, holding := false, err := false } : GateRun).enter (ent c.bank) 0 c.start

/-- The entry in effect ends inside its cycle. -/
def GateRun.entryEnds (r : GateRun) : Bool :=
  match r.cur with
  | none => false
  | some c => !r.holding && decide (r.until_ < r.cycle0 + c.cycle)

/-- The cycle ends: another begins, unless it would begin less than the pending list's extension before its start (R122;
DEDUCED, log entry 90). -/
def GateRun.cycleEnd (ent : Nat → Nat → Nat) (r : GateRun) : GateRun :=
  match r.cur with
  | none => r
  | some c =>
    let t := r.cycle0 + c.cycle
    let hold := match r.pend with
      | some n => decide (t < n.start) && decide (n.start - t < n.ext)
      | none => false
    if hold then { r with holding := true }
    else ({ r with cycle0 := t } : GateRun).enter (ent c.bank) 0 t

/-- What a list does next. -/
inductive ListEvent where
  | start | entry | cycle
  deriving DecidableEq, Repr

/-- What a list does next, and the device time of it: the pending list starts, the entry in effect ends, or the cycle does;
at its start the pending list goes before the running one (R122). -/
def GateRun.next (r : GateRun) : Option (ListEvent × Nat) :=
  let own := match r.cur with
    | none => none
    | some c =>
      if r.holding then none
      else if r.entryEnds then some (.entry, r.until_) else some (.cycle, r.cycle0 + c.cycle)
  match r.pend, own with
  | none, o => o
  | some n, none => some (.start, n.start)
  | some n, some o => if n.start ≤ o.2 then some (.start, n.start) else some o

/-- The list after what it does next. -/
def GateRun.advance (ent : Nat → Nat → Nat) (r : GateRun) : GateRun :=
  match r.next, r.cur with
  | some (.start, _), _ => r.startPend ent
  | some (.entry, _), some c => r.enter (ent c.bank) (r.entry + 1) r.until_
  | some (.cycle, _), _ => r.cycleEnd ent
  | _, _ => r

/-- The pending start is given up (R145). -/
def GateRun.dropPend (r : GateRun) : GateRun := { r with pend := none, holding := false }

/-- The start S of a list committed at device time C (R122). -/
def listStart (base cycle c : Nat) : Nat :=
  if c ≤ base then base else if cycle = 0 then c else base + (c - base + cycle - 1) / cycle * cycle

/-- The bank of a list is operational or pending: its entries are not written (R122). -/
def GateRun.bankBusy (r : GateRun) (bank : Nat) : Bool :=
  (match r.cur with | some c => c.bank == bank | none => false) ||
  (match r.pend with | some c => c.bank == bank | none => false)

/-- The launch advance of a port. -/
def Dev.tasAdv (d : Dev) (p : Nat) : Nat := d.get (TRM_TAS_ADV_ns p)

/-! ### Schedule tables (R189) -/

def Dev.schEnt (d : Dev) (ch bank k : Nat) : Nat := NMap.get 0 d.bus.sch (ch * 128 + bank * 64 + k)
def Dev.schRun (d : Dev) (ch : Nat) : GateRun := NMap.get {} d.bus.schRun ch

/-- The slot time of an entry, ns, and the cycle of a list. -/
def slotNs (e : Nat) : Nat := e / 2 ^ 16 * 1000
def Dev.schCycle (d : Dev) (ch bank len : Nat) : Nat := (List.range len).foldl (fun n k => n + slotNs (d.schEnt ch bank k)) 0

/-- The slot that begins at the next boundary: the pending list's first entry where its start has come, else the next
entry of the running list. -/
def Dev.nextSlot (d : Dev) (ch : Nat) : Option (Nat × Bool × GateRun) :=
  let r := d.schRun ch
  match r.cur, r.pend with
  | none, none => none
  | none, some c => some (c.start, true,
      { r with cur := some c, pend := none, entry := 0, until_ := c.start + slotNs (d.schEnt ch c.bank 0) })
  | some c, p =>
    match p.filter (fun n => decide (n.start ≤ r.until_)) with
    | some n => some (r.until_, true,
        { r with cur := some n, pend := none, entry := 0, until_ := r.until_ + slotNs (d.schEnt ch n.bank 0) })
    | none =>
      let k := if c.len ≤ r.entry + 1 then 0 else r.entry + 1
      some (r.until_, false, { r with entry := k, until_ := r.until_ + slotNs (d.schEnt ch c.bank k) })

end Sys2Proof.Machine
end

