-- ==== Sys2Proof/Machine/Slots.lean ====
section
/-!
DEFINITION. Launch slots (R143, R144): their control words, arming, disarming and execution; and the descriptor windows
(R126).
-/

namespace Sys2Proof.Machine

/-! ### Launch slots -/

/-- The registers of a slot that stands in registers: launch time _LO and _HI, control word, period. -/
def slotRegs : Slot → Option (Nat × Nat × Nat × Option Nat)
  | .tim k => some (TIM_SL_T_LO k, TIM_SL_T_HI k, TIM_SL_CTL k, some (TIM_SL_PER k))
  | .can ch k => some (CAN_TO_SL_T_LO ch k, CAN_TO_SL_T_HI ch k, CAN_TO_SL_CTL ch k, some (CAN_TO_SL_PER ch k))
  | .wak k => some (WAK_SL_T_LO k, WAK_SL_T_HI k, WAK_SL_CTL k, some (WAK_SL_PER k))
  | .handover => some (UPD_HO_T_LO, UPD_HO_T_HI, UPD_HO_CTL, none)
  | _ => none

/-- A slot's launch time, control word and period. -/
def Dev.slot (d : Dev) (sl : Slot) : LSlot :=
  match slotRegs sl with
  | some (lo, hi, ctl, per) =>
    { time := d.rd64 lo hi, ctl := d.rd ctl, per := match per with
      | some p => (d.rd p).toNat
      | none => 0 }
  | none =>
    match sl with
    | .kalow r => NMap.get {} d.kal.slots r
    | .aut k => NMap.get {} d.aut.chg k
    | _ => {}

def Dev.setSlot (sl : Slot) (v : LSlot) (d : Dev) : Dev :=
  match slotRegs sl with
  | some (lo, hi, ctl, per) =>
    let d := (d.wr64 lo hi v.time).wr ctl v.ctl
    (match per with
     | some p => d.wr p (BitVec.ofNat 32 v.per)
     | none => d)
  | none =>
    match sl with
    | .kalow r => { d with kal := { d.kal with slots := NMap.set {} d.kal.slots r v } }
    | .aut k => { d with aut := { d.aut with chg := NMap.set {} d.aut.chg k v } }
    | _ => d

/-- Fields of a control word (Table 6-7). -/
def ctlArmed (w : Word) : Bool := w.getLsbD 31
def ctlRearm (w : Word) : Bool := w.getLsbD 30
def ctlAction (w : Word) : Nat := bitsOf w 7 0

def Dev.armed (d : Dev) (sl : Slot) : Bool := ctlArmed (d.slot sl).ctl

/-- The tick in which a slot that was armed late executes (R144). -/
def Dev.lateTick (d : Dev) (sl : Slot) : Option Nat := (d.tim.lateArmed.find? (fun e => decide (e.1 = sl))).map (·.2)

/-- Record, or forget, that a slot was armed late. -/
def Dev.setLate (sl : Slot) (k : Option Nat) (d : Dev) : Dev :=
  let l := d.tim.lateArmed.filter (fun e => decide (e.1 ≠ sl))
  { d with tim := { d.tim with lateArmed := match k with
      | some k => l ++ [(sl, k)]
      | none => l } }

/-- The launch tick of an armed slot has begun. -/
def Dev.begun (d : Dev) (sl : Slot) : Bool :=
  d.armed sl && (match d.lateTick sl with
    | some k => decide (k ≤ d.ticks)
    | none => decide ((d.slot sl).time ≤ d.ns))

/-- The slot's action is for a GPIO that the slots do not own (R147). -/
def Dev.unowned (d : Dev) (sl : Slot) : Bool :=
  match sl with
  | .tim k =>
    let w := d.rd (TIM_SL_CTL k)
    decide (0x10 ≤ ctlAction w) && decide (ctlAction w ≤ 0x13) && !d.bit TIM_GPIO_OWN (bitsOf w 27 23)
  | _ => false

/-- The page of a slot. -/
def slotPage : Slot → Nat
  | .tim _ => pgTIM | .can ch _ => pgCAN ch | .wak _ => pgWAK | .kalow _ => pgKLW 3 | .aut _ => pgAUT
  | .handover => pgUPD | .gate p => pgTRM (4 + p / 20) | .streamGate _ => pgTRM 2 | .linSch ch => pgLIN ch
  | .sleepCommit => pgWAK

/-- The page offset of a slot's control word. -/
def slotOff (sl : Slot) : Nat :=
  match slotRegs sl with
  | some (_, _, ctl, _) => ctl % 4096
  | none => match sl with
    | .aut _ => 0x714
    | .kalow _ => 0x104
    | _ => 0

/-- The action codes a unit accepts (Table 6-8; R183, R199, R231, R376, Table 12-9). -/
def accepts (sl : Slot) (a : Nat) : Bool :=
  match sl with
  | .tim _ => a == 0 || (decide (0x10 ≤ a) && decide (a ≤ 0x14))
  | .can _ _ => a == 0 || a == 4
  | .wak _ => a == 0 || a == 9
  | .kalow _ => a == 0 || a == 6
  | .aut _ => a == 0 || a == 7
  | .handover => a == 0 || a == 0x0B
  | _ => false

/-- The rearm period that a unit refuses to go below (R147, R183, Table 9-11, Table 10-8, R272). -/
def minPeriod : Slot → Nat
  | .tim _ => 1000 | .can _ _ => 10000 | .wak _ => 1000000 | .kalow _ => 50000 | .aut _ => 1000000 | _ => 0

/-- The arguments of a control word that a slot refuses at arming. -/
def badArgs (sl : Slot) (w : Word) : Bool :=
  let a := ctlAction w
  match sl with
  | .tim _ => (decide (0x10 ≤ a) && decide (a ≤ 0x13) && decide (24 ≤ bitsOf w 27 23)) || (a == 0x13 && bitsOf w 22 8 == 0)
  | .wak _ => false
  | .handover => bitsOf w 27 8 != 0 || ctlRearm w
  | _ => bitsOf w 27 8 != 0

/-- Arm a slot: a code or argument the unit does not accept makes the write ignored and sets ERR; arming clears `fired`
(R143, R144, R147). -/
def Dev.armSlot (i : Initiator) (sl : Slot) (w : Word) (d : Dev) : Dev :=
  let v := d.slot sl
  if !accepts sl (ctlAction w) || badArgs sl w || (ctlRearm w && decide (v.per < minPeriod sl)) then
    d.ignoredErr (slotPage sl) i (slotOff sl) w.toNat
  else
    let w' := BitVec.ofNat 32 (2 ^ 31 + (if ctlRearm w then 2 ^ 30 else 0) + (if v.ctl.getLsbD 29 then 2 ^ 29 else 0) +
      bitsOf w 27 0)
    (d.setSlot sl { v with ctl := w' }).setLate sl (if v.time ≤ d.ns + 5 then some (d.ticks + 2) else none)

/-- Cancel a slot: a write of `armed` 0 that arrives before the launch tick; from then on the write has no effect (R144).
An activation whose slot is cancelled is ready again. -/
def Dev.disarmSlot (sl : Slot) (w : Word) (d : Dev) : Dev :=
  if d.begun sl then d
  else
  let v := d.slot sl
  let keep := (if v.ctl.getLsbD 29 then 2 ^ 29 else 0) + (if v.ctl.getLsbD 28 then 2 ^ 28 else 0)
  let d := d.setSlot sl { v with ctl := BitVec.ofNat 32 ((if ctlRearm w then 2 ^ 30 else 0) + keep + bitsOf w 27 0) }
  let d := d.setLate sl none
  if sl = .handover ∧ d.get UPD_STAT_state = 5 then d.put UPD_STAT_state 4 else d

/-- SLOT_ARM of a slot other than the handover slot, whose arming is HANDOVER_SLOT_ARM. -/
def opSlotArm (i : Initiator) (sl : Slot) (w : Word) (d : Dev) : Dev :=
  if sl.hasWord && ctlArmed w && decide (sl ≠ .handover) then
    d.write i (slotPage sl) (slotOff sl) w.toNat (fun d => d.armSlot i sl w)
  else d

/-- SLOT_DISARM. -/
def opSlotDisarm (i : Initiator) (sl : Slot) (w : Word) (d : Dev) : Dev :=
  if sl.hasWord && !ctlArmed w then d.write i (slotPage sl) (slotOff sl) w.toNat (fun d => d.disarmSlot sl w) else d

/-! ### The order of launches (R26) -/

/-- The ring runs: from the start image onward, in no Halt and not in Kennel mode (R364). -/
def Dev.ringRuns (d : Dev) : Bool :=
  d.up && !d.pw.halted && (decide (d.pw.base = .start) || decide (d.pw.base = .service)) && d.pw.tablesGood &&
    !d.flag (PG_STATE_in_reset pgWAK)

/-- 0 idle, 1 proposed, 2 committed, 3 complete. -/
def Dev.phase (d : Dev) : Nat := d.get WAK_CONS_STAT_phase

/-- T of the armed commit. -/
def Dev.sleepT (d : Dev) : Nat := d.rd64 WAK_CONS_T_LO WAK_CONS_T_HI

/-- The sleep-commit slot is armed and may execute for a set of the kind. -/
def Dev.sleepArmed (d : Dev) : Bool := decide (2 ≤ d.phase) && !d.pw.halted && d.ringRuns

/-- Where a launch stands among the others: its tick, whether it is a commit, its unit, its time, and its number in the
unit. -/
structure Turn where
  tick : Nat
  commit : Bool
  page : Nat
  time : Nat
  ix : Nat
  deriving DecidableEq, Repr

/-- A launch goes before another: in an earlier tick; in one tick, commits before the rest, and in one unit by launch time
and number (R26, R27). -/
def Turn.before (a b : Turn) : Bool :=
  decide (a.tick < b.tick) || (a.tick == b.tick && ((a.commit && !b.commit) || (!a.commit && !b.commit && a.page == b.page &&
    (decide (a.time < b.time) || (a.time == b.time && decide (a.ix < b.ix))))))

/-- The number of a slot in its unit: the internal slots by port, then by stream gate (R26). -/
def slotNo : Slot → Nat
  | .tim k => k.val
  | .can _ k => k.val
  | .wak k => k.val
  | .kalow r => r
  | .aut k => k
  | .gate p => p.val
  | .streamGate g => 57 + g
  | _ => 0

/-- The unit of a slot; the pages of the traffic manager are one unit. -/
def slotUnit : Slot → Nat
  | .gate _ | .streamGate _ => pgTRM 0
  | sl => slotPage sl

/-- The turn of a launch of a slot at a device time. -/
def Dev.turnAt (d : Dev) (sl : Slot) (t : Nat) : Turn :=
  { tick := (d.lateTick sl).getD (d.tickOf t), commit := false, page := slotUnit sl, time := t, ix := slotNo sl }

/-- The turn of a commit. -/
def Dev.commitTurn (d : Dev) (t : Nat) : Turn := { tick := d.tickOf t, commit := true, page := 0, time := t, ix := 0 }

/-- The slots that stand in registers. -/
def regSlots : List Slot :=
  (List.finRange 16).map Slot.tim ++ (List.finRange 24).flatMap (fun ch => (List.finRange 16).map (Slot.can ch)) ++
  (List.finRange 8).map Slot.wak ++ [Slot.handover]

/-- The address of a slot's control word. -/
def slotCtl (sl : Slot) : Option Nat := (slotRegs sl).map (fun r => r.2.2.1)

/-- The armed software slots; an armed control word is not its reset value, so its register is listed. -/
def Dev.armedSlots (d : Dev) : List Slot :=
  (d.regs.filter (fun e => ctlArmed e.2)).filterMap (fun e => regSlots.find? (fun sl => slotCtl sl == some e.1)) ++
  (d.kal.slots.filter (fun e => ctlArmed e.2.ctl)).map (fun e => Slot.kalow e.1) ++
  (d.aut.chg.filter (fun e => ctlArmed e.2.ctl)).map (fun e => Slot.aut e.1)

/-- The armed slots that execute at their launch time, with it: an activation's slot while its activation waits, and the
internal slots (R145, R189, R264). -/
def Dev.launches (d : Dev) : List (Slot × Nat) :=
  (d.armedSlots.filter (fun sl => decide (sl ≠ .handover) || ctlAction (d.slot sl).ctl == 0 ||
    (d.get UPD_STAT_state == 5 && d.upd.target.isSome))).map (fun sl => (sl, (d.slot sl).time)) ++
  (if d.sleepArmed then [(Slot.sleepCommit, d.sleepT)] else []) ++
  (List.finRange 8).filterMap (fun (ch : LinCh) =>
    if d.chanOn (pgLIN ch) then (d.nextSlot ch).map (fun x => (Slot.linSch ch, x.1)) else none) ++
  (List.finRange 57).filterMap (fun (p : EthPort) => (d.tas p).pend.map (fun c => (Slot.gate p, c.start - d.tasAdv p))) ++
  d.trm.gateRun.filterMap (fun e => e.2.pend.map (fun c => (Slot.streamGate e.1, c.start)))

/-- The pages whose commit waits for its launch time, with it. -/
def Dev.commitsDue (d : Dev) : List (Nat × Nat) :=
  (d.pgs.filter (fun e => decide (e.2.phase = .armed) || (decide (e.2.phase = .prepared) && e.2.decided))).map
    (fun e => (e.1, e.2.launch))

/-- It is the turn of a launch: none that is armed goes before it; in Halt no order is observable. -/
def Dev.turn (d : Dev) (t : Turn) : Bool :=
  d.pw.halted ||
    (d.launches.all (fun e => !(d.turnAt e.1 e.2).before t) && d.commitsDue.all (fun e => !(d.commitTurn e.2).before t))

/-- The late and skip counters of a slot's unit (R144). -/
def Dev.countLate (sl : Slot) (d : Dev) : Dev :=
  match sl with
  | .tim _ => (d.count TIM_LATE).raise pgTIM 16
  | .can ch _ => d.count (CAN_CNT ch 19)
  | _ => d

def Dev.countSkip (sl : Slot) (n : Nat) (d : Dev) : Dev :=
  match sl with
  | .tim _ => d.add ⟨TIM_SKIP, 31, 0⟩ n
  | _ => d

/-- Complete an execution (R144): `late`, `fired`, and the slot disarms or re-arms to its next period after device
time. -/
def Dev.complete (sl : Slot) (late : Bool) (d : Dev) : Dev :=
  let v := d.slot sl
  let rearm := ctlRearm v.ctl
  let bits := (if rearm then 2 ^ 31 + 2 ^ 30 else 0) + (if late then 2 ^ 29 else 0) + 2 ^ 28 + bitsOf v.ctl 27 0
  let next := v.time + v.per
  let omitted := if rearm ∧ next ≤ d.ns ∧ 0 < v.per then (d.ns - next) / v.per + 1 else 0
  let d := d.setSlot sl { v with ctl := BitVec.ofNat 32 bits, time := if rearm then next + omitted * v.per else v.time }
  let d := d.setLate sl none
  if omitted = 0 then d else d.countSkip sl omitted

/-- Execute an armed slot whose action is one of `acts` at its launch time, or in the second tick after a late arming;
in Halt it completes without its action (R144). A launch does not go before one that is to go first (R26). An action for a
GPIO that the slots do not own is never late (R147). -/
def Dev.launch (sl : Slot) (acts : List Nat) (f : Dev → Dev) (d : Dev) : Dev :=
  if !d.armed sl || !acts.contains (ctlAction (d.slot sl).ctl) || d.pw.halted || !d.turn (d.turnAt sl (d.slot sl).time) then d
  else
    let late := (d.lateTick sl).isSome && !d.unowned sl
    let d := match d.lateTick sl with
      | some k => d.atTick k
      | none => d.atNs (d.slot sl).time
    let d := (f d).complete sl late
    if late then d.countLate sl else d

/-- SLOT_LAUNCH_IN_HALT. -/
def opLaunchInHalt (sl : Slot) (d : Dev) : Dev :=
  if d.pw.halted && sl.hasWord && d.armed sl then (d.atNs (d.slot sl).time).complete sl false else d

/-- SLOT_ACTION_NONE: a slot armed with action 0x00 executes (Table 6-8). -/
def opSlotNone (sl : Slot) (d : Dev) : Dev := if sl.hasWord then d.launch sl [0] id else d

/-! ### Descriptor windows (R126) -/

/-- A window's page, the offset of its command register, its err and busy bits. -/
structure WinRegs where
  page : Nat
  off : Nat
  err : FRef
  busy : FRef
  deriving DecidableEq, Repr

/-- The windows of the device. -/
def winRegs : Window → WinRegs
  | .stream => ⟨pgTRM 1, 0x104, TRM_STR_STAT_err, TRM_STR_STAT_busy⟩
  | .streamGate => ⟨pgTRM 2, 0x104, TRM_SG_STAT_err, TRM_SG_STAT_busy⟩
  | .recovery => ⟨pgTRM 3, 0x104, TRM_FR_STAT_err, TRM_FR_STAT_busy⟩
  | .gcl => ⟨pgTRM 9, 0x104, TRM_GCL_STAT_err, TRM_GCL_STAT_busy⟩
  | .klwDesc => ⟨pgKLW 1, 0x104, KLW_D_STAT_err, KLW_D_STAT_busy⟩
  | .klwSlot => ⟨pgKLW 3, 0x104, KLW_L_STAT_err, KLW_L_STAT_busy⟩
  | .autCtx => ⟨pgAUT, 0x104, AUT_CTX_STAT_err, AUT_CTX_STAT_busy⟩
  | .autChg => ⟨pgAUT, 0x714, AUT_CHG_STAT_err, AUT_CHG_STAT_busy⟩
  | .linSch ch => ⟨pgLIN ch, 0x124, LIN_SCH_WSTAT_err ch, LIN_SCH_WSTAT_busy ch⟩
  | .path => ⟨pgVHL 0, 0x444, VHL_PATH_STAT_err 0, VHL_PATH_STAT_busy 0⟩

/-- A refused window command: err and ERR, kind 0x06, and nothing else (R126). -/
def Dev.winRefuse (i : Initiator) (w : Window) (v : Nat) (d : Dev) : Dev :=
  let r := winRegs w
  (d.put r.err 1).capture r.page 0x06 0 i r.off v 0

/-- A window command: refused while busy or where its target does not allow it; accepted, it clears err and is busy
until WINDOW_COMMAND_DONE. A staging or writing command is a write that the lock may refuse. -/
def Dev.window (i : Initiator) (w : Window) (v : Nat) (writes : Bool) (ok : Dev → Bool) (f : Dev → Dev) (d : Dev) : Dev :=
  let r := winRegs w
  let go (d : Dev) : Dev :=
    if d.flag r.busy || !ok d then d.winRefuse i w v else (f (d.put r.err 0)).put r.busy 1
  if writes then d.write i r.page r.off v go else d.access i go

/-- WINDOW_COMMAND_DONE. -/
def opWindowDone (w : Window) (d : Dev) : Dev := d.put (winRegs w).busy 0

/-- Load the words of a data window from a record, and read a record from them. -/
def Dev.loadWords (f : Nat → Nat) (n v : Nat) (d : Dev) : Dev :=
  d.each (List.range n) (fun i d => d.wr (f i) (BitVec.ofNat 32 (v / 2 ^ (32 * i))))

def Dev.readWords (d : Dev) (f : Nat → Nat) (n : Nat) : Nat :=
  (List.range n).foldl (fun acc i => acc + (d.rd (f i)).toNat * 2 ^ (32 * i)) 0

/-! ### The meanings of the commands of this file -/

/-- WINDOW_COMMAND_DONE (R126). -/
def execWindowCommandDone (w : Window) (s : State) : Host.Outcome State Fault Refusal :=
  effect (opWindowDone w) s

/-- SLOT_DISARM (R144). -/
def execSlotDisarm (i : Initiator) (sl : Slot) (ctl : Word) (s : State) : Host.Outcome State Fault Refusal :=
  effectIf (sl.hasWord && !ctl.getLsbD 31) (opSlotDisarm i sl ctl) s

/-- SLOT_LAUNCH_IN_HALT (R144). -/
def execSlotLaunchInHalt (sl : Slot) (s : State) : Host.Outcome State Fault Refusal :=
  effectIf (sl.wf) (opLaunchInHalt sl) s

/-- SLOT_ACTION_NONE (R143). -/
def execSlotActionNone (sl : Slot) (s : State) : Host.Outcome State Fault Refusal :=
  effectIf (sl.wf) (opSlotNone sl) s

end Sys2Proof.Machine
end

