-- ==== Sys2Proof/Machine/Cipher.lean ====
section
/-!
DEFINITION. The cipher bank (chapter 10): contexts and key slots, verification at ingress, generation at egress, spend
limits, changeovers, engines, and the AUT page's windows.
-/

namespace Sys2Proof.Machine

/-! ### Contexts (R218 to R220) -/

/-- The live record of a context (Table 10-1). -/
def Dev.ctx (d : Dev) (c : Nat) : Nat := NMap.get 0 d.aut.ctx c

def ctxFmt (r : Nat) : Nat := nb r 2 0
def ctxEn (r : Nat) : Bool := nbit r 3

def Dev.cst (d : Dev) (c : Nat) : CtxState := NMap.get {} d.aut.live c

def Dev.setCst (c : Nat) (s : CtxState) (d : Dev) : Dev :=
  { d with aut := { d.aut with live := NMap.set {} d.aut.live c s } }

/-- One of the two slots. -/
def CtxState.slot (s : CtxState) (b : Bool) : KeySlot := if b then s.s1 else s.s0

def CtxState.put (s : CtxState) (b : Bool) (k : KeySlot) : CtxState := if b then { s with s1 := k } else { s with s0 := k }

/-- The slot in a state, if one is. -/
def CtxState.inState (s : CtxState) (st : Nat) : Option Bool :=
  if s.s0.st = st then some false else if s.s1.st = st then some true else none

/-- Zeroise a slot (Table 10-2 EMPTY). -/
def Dev.zeroSlot (c : Nat) (b : Bool) (d : Dev) : Dev := d.setCst c ((d.cst c).put b {})

/-- Engines in service: isolated in neither `ENG_ISO` nor `ENG_FAIL` (R217). -/
def Dev.engines (d : Dev) : Nat :=
  ((List.range 32).filter (fun i => !d.bit AUT_ENG_ISO i && !d.bit AUT_ENG_FAIL i)).length

/-- A context counter advances, saturating (Table 10-6). -/
def Dev.ctxCount (c i : Nat) (d : Dev) : Dev :=
  let n := NMap.get 0 d.aut.cnt (c * 12 + i)
  { d with aut := { d.aut with cnt := NMap.set 0 d.aut.cnt (c * 12 + i) (min (n + 1) (2 ^ 32 - 1)) } }

/-- A check fails at ingress: counted, the first captured, CV_FAIL raised. -/
def Dev.cvFail (f : Frame) (c cause : Nat) (d : Dev) : Dev :=
  let d := d.ctxCount c cause
  let d :=
    if d.flag AUT_FAIL_CAP_valid then d
    else
      let d := ((d.put AUT_FAIL_CAP_valid 1).put AUT_FAIL_CAP_port f.inPort).put AUT_FAIL_CAP_cause cause
      (d.put AUT_FAIL_CAP_ctx c).wr64 AUT_FAIL_CAP_T_LO AUT_FAIL_CAP_T_HI f.inNs
  d.raise pgAUT 8

/-- A verify context has a usable key: enabled, an engine in service, and a slot LOADED or ACTIVE (R229, R217). -/
def Dev.verifiable (d : Dev) (c : Nat) : Bool :=
  let s := d.cst c
  ctxEn (d.ctx c) && decide (0 < d.engines) && (s.s0.st == 1 || s.s0.st == 2 || s.s1.st == 1 || s.s1.st == 2)

/-- A check under a context as it starts now (R220). -/
def Dev.cvStart (d : Dev) (c : Nat) : CvStart :=
  { ctx := some c, cfg := d.ctx c, st := d.cst c, ns := d.ns, usable := d.verifiable c,
    overlap := (d.due ⟨.oldKey, c, 0⟩).any (fun t => decide (d.now < t)) }

/-- A computation for the frame is in progress (R232). -/
def Frame.underCheck (f : Frame) : Bool := f.cv0.any (fun v => v.usable && v.ctx.isSome) && f.tC.isNone

/-- The state of a slot that a check began with, now: as live where it still holds that key, else as it was. -/
def Dev.slotNow (d : Dev) (c : Nat) (b : Bool) (k : KeySlot) : KeySlot :=
  let l := (d.cst c).slot b
  if l.st ≠ 0 ∧ l.key = k.key then l else k

/-- The value that a check accepted, kept with its slot where that still holds the key (R222, R228). -/
def Dev.keepValue (c : Nat) (b : Bool) (k : KeySlot) (v : Nat) (d : Dev) : Dev :=
  let s := d.cst c
  let l := s.slot b
  if l.st ≠ 0 ∧ l.key = k.key then d.setCst c (s.put b { l with pn := v }) else d

/-- A computation asks for an engine: with fewer than 24 in service the spec does not state which requests wait more than
4 cycles; a free value says so, and such a request counts in ENG_WAIT (R217). -/
def Dev.engineAsked (d : Dev) : Dev :=
  if 24 ≤ d.engines then d
  else
    let (w, d) := d.free 1
    if w = 1 then d.count AUT_ENG_WAIT else d

/-- How a check at ingress ends: the frame passes with a check status, under a context, or it is discarded. -/
inductive Verdict where
  | pass (check : Nat) (ctx : Option Nat)
  | drop
  deriving DecidableEq, Repr

/-- A verify context without a usable key: `nokey` discards or passes and marks (R229). -/
def Dev.noKey (f : Frame) (c r : Nat) (d : Dev) : Verdict × Dev :=
  if nbit r 4 then (.pass 4 (some c), d.ctxCount c 4) else (.drop, d.cvFail f c 3)

/-! ### IEEE 802.1AE at ingress (R222) -/

/-- The receive SC of a port and SCI. -/
def Dev.findSc (d : Dev) (p sci : Nat) : Option Nat :=
  (d.aut.ctx.find? (fun e => ctxFmt e.2 == 1 && nb e.2 18 12 == p && nb e.2 95 32 == sci)).map (·.1)

/-- The receive SC of a SecTAG. -/
def Dev.rxSc (d : Dev) (p : Nat) (h : Hdr) (t : SecTag) : Option Nat :=
  match t.sci with
  | some sci => d.findSc p sci
  | none =>
    if bitAt t.tci 6 then d.findSc p (h.sa * 2 ^ 16 + 1)
    else if d.flag (AUT_PORT_dflt_v p) then some (d.get (AUT_PORT_rx_dflt p)) else none

/-- The slot that accepts an association number. -/
def CtxState.byAn (s : CtxState) (an : Nat) : Option Bool :=
  let ok (k : KeySlot) : Bool := (k.st == 1 || k.st == 2) && k.an == an
  if ok s.s0 then some false else if ok s.s1 then some true else none

/-- The packet number: 32 bits as received, or for XPN recovered against the lowest acceptable one. -/
def recoverPn (xpn : Bool) (lowest pn : Nat) : Nat :=
  if !xpn then pn
  else
    let hi := lowest / 2 ^ 32
    if 2 ^ 31 ≤ lowest % 2 ^ 32 ∧ pn < 2 ^ 31 then (hi + 1) * 2 ^ 32 + pn else hi * 2 ^ 32 + pn

/-- The initialization vector of R223. -/
def gcmIv (r : Nat) (k : KeySlot) (pn : Nat) : List Byte :=
  if nbit r 96 then beBytes 12 (Nat.xor k.salt (k.ssci * 2 ^ 64 + pn % 2 ^ 64))
  else beBytes 8 (nb r 95 32) ++ beBytes 4 pn

/-- Where the protected bytes of a frame with a SecTAG end: its short length counts what follows the SecTAG, or the check
value ends the frame (IEEE 802.1AE). -/
def SecTag.dataEnd (t : SecTag) (body : List Byte) : Nat :=
  let sl := be body (t.at_ + 3) 1
  if sl = 0 then body.length - 16 else min (t.at_ + t.len + sl) (body.length - 16)

/-- The check value of a frame is that of its bytes under a key (R223). -/
def icvGood (r : Nat) (k : KeySlot) (pn : Nat) (t : SecTag) (body : List Byte) : Bool :=
  let n := t.dataEnd body
  (body.drop n).take 16 == gcmIcv k.key (gcmIv r k pn) (body.take n)

/-- Verify a frame that carries a SecTAG under the receive SC that its check began with. -/
def Dev.verifySec (f : Frame) (v : CvStart) (c : Nat) (t : SecTag) (d : Dev) : Verdict × Dev :=
  if !v.usable then d.noKey f c v.cfg
  else
    let d := d.engineAsked
    let r := v.cfg
    match v.st.byAn (t.tci % 4) with
    | none => (.drop, d.cvFail f c 7)
    | some b =>
      let k := v.st.slot b
      let low := (d.slotNow c b k).pn
      let pn := recoverPn (nbit r 96) k.pn t.pn
      if nbit r 100 ∧ pn < low then (.drop, d.cvFail f c 2)
      else if !icvGood r k pn t f.body then (.drop, d.cvFail f c 1)
      else (.pass 3 (some c), (d.keepValue c b k (max low (pn + 1 - nb r 159 128))).ctxCount c 0)

/-- The receive handling of a port in mode 1 or 2 (R222). -/
def Dev.verifyPort (f : Frame) (v : CvStart) (h : Hdr) (d : Dev) : Verdict × Dev :=
  let p := f.inPort
  match h.sec with
  | none =>
    if h.etype = 0x888E ∨ (h.etype = 0x88F7 ∧ v.bypass) then (.pass 1 none, d.count (AUT_PORT_CNT p 2))
    else if v.mode = 1 then (.drop, d.count (AUT_PORT_CNT p 0))
    else (.pass 1 none, d)
  | some t =>
    if bitAt t.tci 3 || bitAt t.tci 2 then (.drop, d.count (AUT_PORT_CNT p 3))
    else
      match v.ctx with
      | none => (.drop, d.count (AUT_PORT_CNT p 1))
      | some c => d.verifySec f v c t

/-- The check of a frame on a port in mode 1 or 2 as it starts: by its SecTAG, under its receive SC (R222). -/
def Dev.portStart (d : Dev) (p : Nat) (head : List Byte) : Option CvStart :=
  if !d.secMode p then none
  else
    let h := parseHdr head true
    let v : CvStart := match h.sec with
      | some t => if bitAt t.tci 3 || bitAt t.tci 2 then {} else
        (match d.rxSc p h t with
         | some c => d.cvStart c
         | none => {})
      | none => {}
    some { v with mode := d.get (AUT_PORT_validate p), bypass := d.flag (AUT_PORT_bypass_ptp p) }

/-! ### CMAC on frame records (R226 to R228) -/

/-- A device time in units of a context's time. -/
def timeUnit (r ns : Nat) : Nat := ns / 2 ^ nb r 122 118

/-- The freshness value the verifier reconstructs at a device time from the received low bytes (R228). -/
def freshness (r ns last rx : Nat) : Nat :=
  let b := 8 * nb r 115 113
  let mode := nb r 117 116
  let e := if mode = 0 then last + 1 else if mode = 1 then timeUnit r ns else timeUnit r ns * 2 ^ 16
  let fv := e - e % 2 ^ b + rx
  if mode = 0 then (if fv < e then fv + 2 ^ b else fv)
  else if fv + 2 ^ (b - 1) < e then fv + 2 ^ b
  else if e + 2 ^ (b - 1) < fv ∧ 2 ^ b ≤ fv then fv - 2 ^ b
  else fv

def absDiff (a b : Nat) : Nat := (a - b) + (b - a)

/-- The freshness test. -/
def isFresh (r ns last fv : Nat) : Bool :=
  let win := nb r 95 64
  match nb r 117 116 with
  | 0 => decide (last < fv) && decide (fv ≤ last + win)
  | 1 => decide (absDiff fv (timeUnit r ns) ≤ win)
  | _ => decide (last < fv) && decide (absDiff (fv / 2 ^ 16) (timeUnit r ns) ≤ win)

/-- The MAC input of R227. -/
def cmacInput (r : Nat) (x : BusRecord) (fv : Nat) : List Byte :=
  beBytes 4 (nb r 63 32) ++ beBytes 4 (x.fmt * 2 ^ 29 + x.id) ++ x.data.take (nb r 107 96) ++ beBytes 8 fv

/-- The trailer that a record should carry: freshness bytes, then MAC bytes (R227). -/
def cmacTrailer (r : Nat) (key : List Byte) (x : BusRecord) (fv : Nat) : List Byte :=
  beBytes (nb r 115 113) fv ++ (cmac key (cmacInput r x fv)).take (nb r 112 108)

/-- A record's trailer under one slot: the value reconstructed, and whether the MAC matches. -/
def cmacMatch (v : CvStart) (k : KeySlot) (x : BusRecord) : Nat × Bool :=
  let r := v.cfg
  let plen := nb r 107 96
  let n := nb r 115 113 + nb r 112 108
  let fv := freshness r v.ns k.pn (ofBe ((x.data.drop plen).take (nb r 115 113)))
  (fv, cmacTrailer r k.key x fv == (x.data.drop plen).take n)

/-- Verify a record's trailer under the active key, or under the previous key while it overlaps. -/
def Dev.verifyCmac (f : Frame) (v : CvStart) (c : Nat) (x : BusRecord) (d : Dev) : Verdict × Dev :=
  let r := v.cfg
  if x.data.length < nb r 107 96 + nb r 115 113 + nb r 112 108 then (.drop, d.cvFail f c 6)
  else if !v.usable then d.noKey f c r
  else
    let d := d.engineAsked
    let b := (v.st.inState 2).getD ((v.st.inState 1).getD false)
    let m := cmacMatch v (v.st.slot b) x
    let o := cmacMatch v (v.st.slot (!b)) x
    let overlaps := decide ((v.st.slot (!b)).st = 3) && v.overlap
    let ok (b : Bool) (m : Nat × Bool) : Bool := m.2 && isFresh r v.ns (d.slotNow c b (v.st.slot b)).pn m.1
    if ok b m then (.pass 3 (some c), (d.keepValue c b (v.st.slot b) m.1).ctxCount c 0)
    else if overlaps && ok (!b) o then (.pass 3 (some c), (d.keepValue c (!b) (v.st.slot (!b)) o.1).ctxCount c 10)
    else (.drop, d.cvFail f c (if m.2 || (overlaps && o.2) then 2 else 1))

/-- The check at ingress (step 7): the port's handling, then the snapshot's context (R218, R222, R225, R226). -/
def Dev.verify (f : Frame) (d : Dev) : Verdict × Dev :=
  let first : Verdict × Dev :=
    match f.cv0 with
    | some v => if v.mode = 0 then (.pass f.check none, d) else d.verifyPort f v f.hdr
    | none => (.pass f.check none, d)
  match first with
  | (.drop, d) => (.drop, d)
  | (.pass st c, d) =>
    match f.ctx with
    | none => (.pass st c, d)
    | some k =>
      match f.record with
      | none =>
        if ctxFmt (d.ctx k) = 1 then (if c = some k then (.pass st c, d) else (.drop, d.cvFail f k 8))
        else (.drop, d.cvFail f k 6)
      | some x =>
        match f.cv0 with
        | some v => d.verifyCmac f v k x
        | none => (.drop, d.cvFail f k 6)

/-- The check of a record as its snapshot arrives: by a context of format 3 (R226). -/
def Dev.recordStart (d : Dev) (f : Frame) : Option CvStart :=
  match f.record, f.ctx with
  | some _, some k => if ctxFmt (d.ctx k) = 3 then some (d.cvStart k) else none
  | _, _ => f.cv0

/-- The frame needs a check at ingress: its port was in mode 1 or 2, or its snapshot names a context other than one that
only generates (R21, R218, R225). -/
def Dev.needsCheck (d : Dev) (f : Frame) : Bool :=
  f.secured || f.ctx.any (fun k => f.record.isNone || ctxFmt (d.ctx k) != 4)

/-- The slip's mark of a check value to be written at a bus output (R226). -/
def Dev.marksNew (d : Dev) (f : Frame) : Bool :=
  f.record.isSome && f.ctx.any (fun k => ctxFmt (d.ctx k) == 4 || (ctxFmt (d.ctx k) == 3 && nbit (d.ctx k) 156))

/-- CK_FAB cycles of a CMAC under a record (R226). -/
def cmacCycles (r : Nat) : Nat := 10 + (16 + nb r 107 96 + 15) / 16 * (if nbit r 5 then 14 else 10)

/-! ### Changeover and spend limits (R230, R231) -/

/-- The SPEND_CAP capture of the first warning or exhaustion. -/
def Dev.spendCap (c : Nat) (exh : Bool) (d : Dev) : Dev :=
  if d.flag AUT_SPEND_CAP_valid then d
  else ((d.put AUT_SPEND_CAP_valid 1).put AUT_SPEND_CAP_exh (if exh then 1 else 0)).put AUT_SPEND_CAP_ctx c

/-- A changeover of a context (Table 10-5): the LOADED slot becomes ACTIVE and the other OLD, or under format 1 the older
association is retired; without a LOADED slot CHG_EMPTY. -/
def Dev.changeover (c : Nat) (d : Dev) : Dev :=
  let s := d.cst c
  let fmt := ctxFmt (d.ctx c)
  if fmt = 1 then
    (if s.s0.st = 0 ∨ s.s1.st = 0 then
       (if s.s0.st = 1 ∨ s.s1.st = 1 then d else d.raise pgAUT 12)
     else
       let b := s.newest
       let k := s.slot b
       let d := d.setCst c ((s.put b { k with st := 2 }).put (!b) {})
       (d.count AUT_CHG_CNT).raise pgAUT 11)
  else
    match s.inState 1 with
    | none => d.raise pgAUT 12
    | some b =>
      let k := s.slot b
      let o := s.slot (!b)
      let pn := if fmt = 2 then k.pn0 else 0
      let s := s.put b { k with st := 2, pn := pn, spend := 0, warned := false }
      let s := if o.st = 0 then s else s.put (!b) { o with st := 3 }
      let d := d.setCst c { s with newest := b, unit := 0, c16 := 0 }
      let d := if fmt = 3 ∧ o.st ≠ 0 then d.armIn ⟨.oldKey, c, 0⟩ (msT (nb (d.ctx c) 143 128)) else d
      (d.count AUT_CHG_CNT).raise pgAUT 11

/-- The warning level and the limit of a record (Table 10-1). -/
def spendWarn (r : Nat) : Nat := nb r 191 160 + nb r 231 224 * 2 ^ 32
def spendMax (r : Nat) : Nat := nb r 223 192 + nb r 239 232 * 2 ^ 32

/-- What a slot's spend count brings: its warning once, and at the limit a forced changeover or exhaustion (R230). -/
def Dev.spendActs (c : Nat) (b : Bool) (d : Dev) : Dev :=
  let r := d.ctx c
  let s := d.cst c
  let k := s.slot b
  let first := !k.warned && decide (spendWarn r ≤ k.spend)
  let d := if first then ((d.setCst c (s.put b { k with warned := true })).raise pgAUT 9).spendCap c false else d
  if k.spend < spendMax r then d
  else if ((d.cst c).inState 1).isSome then (d.changeover c).raise pgAUT 13
  else
    let s := d.cst c
    ((d.setCst c (s.put b { s.slot b with st := 4 })).raise pgAUT 10).spendCap c true

/-- A check value is generated: the active slot's spend count advances (R230). -/
def Dev.spend (c : Nat) (b : Bool) (d : Dev) : Dev :=
  let s := d.cst c
  let k := s.slot b
  ((d.setCst c (s.put b { k with spend := k.spend + 1 })).ctxCount c 5).spendActs c b

/-- The ACTIVE slot that a generate context may use, or the counter of the discard: no key or spent (R229, R230). -/
def Dev.genSlot (d : Dev) (c : Nat) : Nat ⊕ Bool :=
  if !ctxEn (d.ctx c) || d.engines == 0 then .inl 3
  else
    match (d.cst c).inState 2 with
    | some b => .inr b
    | none => if ((d.cst c).inState 4).isSome then .inl 9 else .inl 3

/-- A transmit SC gives its next PN to a frame that is picked: the record and slot to compute under, with the PN in the
slot. The counter of the discard where the context cannot generate (R224, R229, R230). -/
def Dev.takePn (c : Nat) (d : Dev) : (Nat ⊕ CvGen) × Dev :=
  match d.genSlot c with
  | .inl cause => (.inl cause, d.ctxCount c cause)
  | .inr b =>
    let d := d.engineAsked
    let s := d.cst c
    let k := s.slot b
    (.inr { ctx := c, cfg := d.ctx c, slot := k }, (d.setCst c (s.put b { k with pn := k.pn + 1 })).spend c b)

/-- The frame with a new SecTAG after its addresses, and its ICV; `bs` the frame without its frame check (R223, R224). -/
def CvGen.frame (g : CvGen) (bs : List Byte) : List Byte :=
  let r := g.cfg
  let k := g.slot
  let sc := nbit r 99
  let tci := k.an + (if nbit r 97 then 2 ^ 6 else 0) + (if sc then 2 ^ 5 else 0) + (if nbit r 98 then 2 ^ 4 else 0)
  let rest := bs.drop 12
  let sl := if rest.length < 48 then rest.length else 0
  let tag := beBytes 2 0x88E5 ++ beBytes 1 tci ++ beBytes 1 sl ++ beBytes 4 (k.pn % 2 ^ 32) ++
    (if sc then beBytes 8 (nb r 95 32) else [])
  let out := bs.take 12 ++ tag ++ rest
  out ++ gcmIcv k.key (gcmIv r k k.pn) out

/-- Write a record's trailer under a generate context (R226 to R228); otherwise the counter of the discard. -/
def Dev.genCmac (c : Nat) (x : BusRecord) (d : Dev) : (Nat ⊕ BusRecord) × Dev :=
  let r := d.ctx c
  let plen := nb r 107 96
  if ctxFmt r ≠ 4 ∨ x.data.length < plen then (.inl 6, d.ctxCount c 6)
  else
    match d.genSlot c with
    | .inl cause => (.inl cause, d.ctxCount c cause)
    | .inr b =>
      let s := d.cst c
      let k := s.slot b
      let unit := timeUnit r d.ns
      let c16 := if s.unit = unit then s.c16 else 0
      let mode := nb r 117 116
      if mode = 2 ∧ 65535 < c16 then (.inl 9, d.ctxCount c 9)
      else
        let d := d.engineAsked
        let fv := if mode = 0 then k.pn + 1 else if mode = 1 then unit else unit * 2 ^ 16 + c16
        let s := s.put b { k with pn := if mode = 0 then fv else k.pn }
        let s := if mode = 2 then { s with unit := unit, c16 := c16 + 1 } else s
        (.inr { x with data := x.data.take plen ++ cmacTrailer r k.key x fv }, (d.setCst c s).spend c b)

/-! ### Engines (R217) -/

/-- KNOWN_ANSWER_TEST: the engines whose test failed are isolated at once. -/
def opKnownAnswer (failed : Word) (d : Dev) : Dev :=
  let new := (List.range 32).filter (fun i => failed.getLsbD i && !d.bit AUT_ENG_FAIL i)
  if new.isEmpty then d
  else
    let was := d.engines
    let d := d.wr AUT_ENG_FAIL (d.rd AUT_ENG_FAIL ||| failed)
    let d := (d.add ⟨AUT_KAT_FAIL, 31, 0⟩ new.length).raise pgAUT 14
    if 24 ≤ was ∧ d.engines < 24 then d.raise pgAUT 18 else d

/-- ENG_FAIL_CLEAR: writing an engine's bit returns it. -/
def opEngFailClear (i : Initiator) (v : Word) (d : Dev) : Dev :=
  d.access i (fun d => d.wr AUT_ENG_FAIL (d.rd AUT_ENG_FAIL &&& ~~~ v))

/-! ### The context window (Table 10-7) -/

def Dev.selCtx (d : Dev) : Nat := d.get AUT_CTX_SEL_ctx

/-- CTX_READ. -/
def opCtxRead (i : Initiator) (staged : Bool) (d : Dev) : Dev :=
  d.window i .autCtx 1 false (fun _ => true) (fun d =>
    let c := d.selCtx
    let r := if staged && d.aut.ctxD.contains c then NMap.get 0 d.aut.ctxS c else d.ctx c
    d.loadWords AUT_CTX_DATA 8 r)

/-- CTX_STAGE. -/
def opCtxStage (i : Initiator) (d : Dev) : Dev :=
  d.window i .autCtx 2 true (fun _ => true) (fun d =>
    let c := d.selCtx
    let r := d.readWords AUT_CTX_DATA 8
    let l := d.aut.ctxD.filter (· != c)
    { d with aut := { d.aut with ctxS := NMap.set 0 d.aut.ctxS c r, ctxD := l ++ [c] } })

/-- CTX_COUNTERS_COPY: the counters are copied and cleared. -/
def opCtxCounters (i : Initiator) (d : Dev) : Dev :=
  d.window i .autCtx 3 false (fun _ => true) (fun d =>
    let c := d.selCtx
    d.each (List.range 12) (fun j d =>
      let d := d.wr (AUT_CTX_CNT j) (BitVec.ofNat 32 (NMap.get 0 d.aut.cnt (c * 12 + j)))
      { d with aut := { d.aut with cnt := NMap.set 0 d.aut.cnt (c * 12 + j) 0 } }))

/-- CTX_LATCH_STATE. -/
def opCtxLatch (i : Initiator) (d : Dev) : Dev :=
  d.window i .autCtx 4 false (fun _ => true) (fun d =>
    let s := d.cst d.selCtx
    let k := s.slot ((s.inState 2).getD s.newest)
    let d := (d.put AUT_ST_SLOT_act (if s.newest then 1 else 0)).put AUT_ST_SLOT_an0 s.s0.an
    let d := ((d.put AUT_ST_SLOT_an1 s.s1.an).put AUT_ST_SLOT_st0 s.s0.st).put AUT_ST_SLOT_st1 s.s1.st
    let mode2 := ctxFmt (d.ctx d.selCtx) = 4 ∧ nb (d.ctx d.selCtx) 117 116 = 2
    (d.wr64 AUT_ST_SPEND_LO AUT_ST_SPEND_HI k.spend).wr64 AUT_ST_PN_LO AUT_ST_PN_HI (if mode2 then s.c16 else k.pn))

/-- CHANGEOVER_NOW. -/
def opChangeoverNow (i : Initiator) (d : Dev) : Dev :=
  d.window i .autCtx 5 false (fun _ => true) (fun d => d.changeover d.selCtx)

/-- KEY_CHANGEOVER: AUT launch slot k changes over every context whose `grp` is k. -/
def opKeyChangeover (grp : Nat) (d : Dev) : Dev :=
  d.launch (.aut grp) [7] (fun d =>
    d.each ((d.aut.ctx.filter (fun e => nb e.2 11 6 == grp && ctxFmt e.2 != 0)).map (·.1)) Dev.changeover)

/-- OLD_KEY_OVERLAP_END: the previous key of a format 3 context is zeroised when its overlap has passed. -/
def opOverlapEnd (c : Nat) (d : Dev) : Dev :=
  d.onTimer ⟨.oldKey, c, 0⟩ (fun d =>
    match (d.cst c).inState 3 with
    | some b => d.zeroSlot c b
    | none => d)

/-- OLD_SLOT_ZEROISE: under formats 2 and 4, once every computation begun before the changeover has ended. -/
def opOldZeroise (c : Nat) (d : Dev) : Dev :=
  let fmt := ctxFmt (d.ctx c)
  if (fmt = 2 ∨ fmt = 4) ∧ !d.vlt.tx.any (fun t => t.cv == some c) ∧
      !d.vlt.drawn.any (fun x => x.cv == some c && decide (d.now < x.ready)) then
    match (d.cst c).inState 3 with
    | some b => d.zeroSlot c b
    | none => d
  else d

/-- CHG_SLOT_READ. -/
def opChgRead (i : Initiator) (d : Dev) : Dev :=
  d.window i .autChg 1 false (fun _ => true) (fun d =>
    let v := d.slot (.aut (d.get AUT_CHG_SEL_slot))
    ((d.wr64 AUT_CHG_T_LO AUT_CHG_T_HI v.time).wr AUT_CHG_CTL v.ctl).wr AUT_CHG_PER (BitVec.ofNat 32 v.per))

/-- Write a launch slot through a window: while it is armed its launch time is kept and the write of it captured (R144);
its control word arms or disarms it. -/
def Dev.winSlot (i : Initiator) (sl : Slot) (time : Nat) (ctl : Word) (per : Nat) (d : Dev) : Dev :=
  let v := d.slot sl
  let d :=
    if ctlArmed v.ctl then
      (if v.time = time then d else d.capture (slotPage sl) 0x02 0 i (slotOff sl) time 0)
    else d.setSlot sl { v with time := time }
  let d := d.setSlot sl { d.slot sl with per := per }
  if ctlArmed ctl then d.armSlot i sl ctl else d.disarmSlot sl ctl

/-- CHG_SLOT_WRITE. -/
def opChgWrite (i : Initiator) (d : Dev) : Dev :=
  d.window i .autChg 2 true (fun _ => true) (fun d =>
    d.winSlot i (.aut (d.get AUT_CHG_SEL_slot)) (d.rd64 AUT_CHG_T_LO AUT_CHG_T_HI) (d.rd AUT_CHG_CTL)
      (d.rd AUT_CHG_PER).toNat)

/-- A commit of the AUT page copies every staged record; one that changes `fmt`, `k256`, `sci` or `data_id` zeroises both
slots and clears the live state (R220); one that lowers a spend level to the count reached acts at once (R230). -/
def Dev.autCommit (d : Dev) : Dev :=
  let d := d.each d.aut.ctxD (fun c d =>
    let old := d.ctx c
    let new := NMap.get 0 d.aut.ctxS c
    let idBits := if ctxFmt new = 1 ∨ ctxFmt new = 2 then 95 else 63
    let d := { d with aut := { d.aut with ctx := NMap.set 0 d.aut.ctx c new } }
    if ctxFmt old ≠ ctxFmt new ∨ nbit old 5 ≠ nbit new 5 ∨ nb old idBits 32 ≠ nb new idBits 32 then
      (({ d with key := { d.key with touched := c :: d.key.touched } } : Dev).setCst c {}).cancel ⟨.oldKey, c, 0⟩
    else
      match (d.cst c).inState 2 with
      | some b => if ctxFmt new = 2 ∨ ctxFmt new = 4 then d.spendActs c b else d
      | none => d)
  { d with aut := { d.aut with ctxD := [], ctxS := [] } }

/-- A context record is lost: it acts as one with `en` 0 (R233). -/
def Dev.ctxLost (c : Nat) (d : Dev) : Dev :=
  let d := d.raise pgAUT 15
  { d with aut := { d.aut with ctx := NMap.set 0 d.aut.ctx c (nset (d.ctx c) 3 3 0) } }

/-- A key slot is lost: it is zeroised (R233). -/
def Dev.slotLost (c : Nat) (b : Bool) (d : Dev) : Dev := (d.raise pgAUT 15).zeroSlot c b

/-- What of a context reads uncorrectable, its record (0) or a slot (1, 2), is lost and passed to the scrubber (R233). -/
def Dev.contextUe (c part : Nat) (d : Dev) : Dev :=
  if part = 0 then (d.ctxLost c).uncorrectable 9 c 8
  else (d.slotLost c (part == 2)).uncorrectable 9 (4096 + 2 * c + (part - 1)) 8

/-- Every slot is zeroised (R233, R246). -/
def Dev.autZero (d : Dev) : Dev := { d with aut := { d.aut with live := [] } }

/-! ### The meanings of the commands of this file -/

/-- KNOWN_ANSWER_TEST (R217). -/
def execKnownAnswerTest (failed : Word) (s : State) : Host.Outcome State Fault Refusal :=
  effect (opKnownAnswer failed) s

/-- ENG_FAIL_CLEAR (R217). -/
def execEngFailClear (i : Initiator) (v : Word) (s : State) : Host.Outcome State Fault Refusal :=
  effect (opEngFailClear i v) s

/-- CTX_READ (R220). -/
def execCtxRead (i : Initiator) (staged : Bool) (s : State) : Host.Outcome State Fault Refusal :=
  effect (opCtxRead i staged) s

/-- CTX_STAGE (R220). -/
def execCtxStage (i : Initiator) (s : State) : Host.Outcome State Fault Refusal :=
  effect (opCtxStage i) s

/-- CTX_COUNTERS_COPY (R234). -/
def execCtxCountersCopy (i : Initiator) (s : State) : Host.Outcome State Fault Refusal :=
  effect (opCtxCounters i) s

/-- CTX_LATCH_STATE (R234). -/
def execCtxLatchState (i : Initiator) (s : State) : Host.Outcome State Fault Refusal :=
  effect (opCtxLatch i) s

/-- CHANGEOVER_NOW (R231). -/
def execChangeoverNow (i : Initiator) (s : State) : Host.Outcome State Fault Refusal :=
  effect (opChangeoverNow i) s

/-- KEY_CHANGEOVER (R231). -/
def execKeyChangeover (grp : Nat) (s : State) : Host.Outcome State Fault Refusal :=
  effectIf (decide (grp < 64)) (opKeyChangeover grp) s

/-- OLD_KEY_OVERLAP_END (R231). -/
def execOldKeyOverlapEnd (ctx : Nat) (s : State) : Host.Outcome State Fault Refusal :=
  effectIf (decide (ctx < 4096)) (opOverlapEnd ctx) s

/-- OLD_SLOT_ZEROISE (R231). -/
def execOldSlotZeroise (ctx : Nat) (s : State) : Host.Outcome State Fault Refusal :=
  effectIf (decide (ctx < 4096)) (opOldZeroise ctx) s

/-- CHG_SLOT_READ (R234). -/
def execChgSlotRead (i : Initiator) (s : State) : Host.Outcome State Fault Refusal :=
  effect (opChgRead i) s

/-- CHG_SLOT_WRITE (R234). -/
def execChgSlotWrite (i : Initiator) (s : State) : Host.Outcome State Fault Refusal :=
  effect (opChgWrite i) s

end Sys2Proof.Machine
end

