-- ==== Sys2Proof/Machine/Time.lean ====
section
/-!
DEFINITION. The timebase (chapter 6): the servo, steps of device time, the TIM launch slots and their GPIO actions, edge
captures, and the egress timestamp queues.
-/

namespace Sys2Proof.Machine

/-! ### The servo (R129 to R135) -/

/-- rmax of R129. -/
def Dev.rateMax (d : Dev) : Int := (d.get TIM_RATE_MAX_ppm : Int) * 2 ^ 40 / 1000000

def Dev.clampRate (d : Dev) (r : Int) : Int := max (-d.rateMax) (min r d.rateMax)

def Dev.integ (d : Dev) : Int := signed 32 (d.rd TIM_INTEG).toNat

def Dev.setInteg (r : Int) (d : Dev) : Dev := d.wr TIM_INTEG (BitVec.ofNat 32 (unsigned 32 r))

/-- A servo update: offset_q and tick_ref to the update tick, plus any step, and the new rate, clamped (R129). -/
def Dev.servo (rate step : Int) (d : Dev) : Dev :=
  let q := d.tq + step
  let t := d.ticks
  let d := { d with tim := { d.tim with offQ := q, tickRef := t } }
  d.wr TIM_RATE (BitVec.ofNat 32 (unsigned 32 (d.clampRate rate)))

/-- A step of device time (R132, R133): t_step, STEPS, STEP, `set`, and the count of samples in the lock window at 0. -/
def Dev.stepTime (step : Int) (d : Dev) : Dev :=
  let before := d.tq / 65536
  let d := d.servo d.rateQ step
  let after := d.tq / 65536
  let d := { d with tim := { d.tim with tStep := max before after } }
  (((d.put TIM_STAT_set 1).put TIM_STAT_lock_run 0).count TIM_STEPS).raise pgTIM 10

/-- Change the servo's state: every change raises STATE_CHG; entry to HOLDOVER freezes the rate at `INTEG` and raises
HOLDOVER (R133). -/
def Dev.setServo (s : Nat) (d : Dev) : Dev :=
  if d.get TIM_STAT_state = s then d
  else
    let d := (d.put TIM_STAT_state s).raise pgTIM 8
    if s = 3 then ((d.servo d.integ 0).put TIM_STAT_lock_run 0).raise pgTIM 9 else d

/-- A commit that changed `TIM.SRC` (R131). -/
def Dev.srcCommitted (d : Dev) : Dev :=
  let d := d.servo d.integ 0
  let d := (d.put TIM_STAT_src (d.get TIM_SRC_src)).put TIM_STAT_slot (d.get TIM_SRC_slot)
  let s := match d.get TIM_SRC_src with
    | 0 => 0
    | 3 => 4
    | _ => 3
  let d := d.cancel ⟨.holdover, 0, 0⟩
  d.setServo s

/-- A sample is refused: the source or the slot does not match (R132). -/
def Dev.sampleRefused (d : Dev) (s : Sample) : Bool :=
  if s.cascade then d.get TIM_SRC_src != 2
  else d.get TIM_SRC_src != 1 || s.slot != d.get TIM_SRC_slot

/-- Latch a sample for its application, at the latest four ticks later. -/
def Dev.latchSample (s : Sample) (d : Dev) : Dev :=
  { d.armIn ⟨.sampleApply, 0, 0⟩ (timT 4) with tim := { d.tim with sample := some s } }

/-- SAMPLE_SUBMIT: a write of `MEAS_CTL` (R132). -/
def opSampleSubmit (i : Initiator) (v : Word) (d : Dev) : Dev :=
  d.writeMixed i pgTIM 0x150 v.toNat (fun lk d =>
    let busy := d.flag TIM_MEAS_CTL_submit
    let gen := if lk then d.get TIM_MEAS_CTL_gen else bitsOf v 15 8
    let slot := if lk then d.get TIM_MEAS_CTL_slot else bitsOf v 5 4
    let d := (d.put TIM_MEAS_CTL_gen gen).put TIM_MEAS_CTL_slot slot
    if !v.getLsbD 0 then d
    else
      let s : Sample := { e := signed 64 (d.rd64 TIM_MEAS_E_LO TIM_MEAS_E_HI),
                          t := d.rd64 TIM_MEAS_T_LO TIM_MEAS_T_HI, slot := slot, gen := gen,
                          cascade := false }
      if busy || d.sampleRefused s then d.count TIM_REFUSED
      else (d.put TIM_MEAS_CTL_submit 1).latchSample s)

/-- Count the run of samples within `LOCK_NS` and move between the states of Table 6-2 for an accepted sample. -/
def Dev.accepted (e : Int) (newm stepped : Bool) (d : Dev) : Dev :=
  let lock : Int := d.get TIM_LOCK_NS_ns
  let inside := !stepped && decide (e.natAbs ≤ lock.toNat * 65536)
  let run0 := if newm then 0 else d.get TIM_STAT_lock_run
  let run := if inside then min 8 (run0 + 1) else 0
  let d := d.put TIM_STAT_lock_run run
  let s := d.get TIM_STAT_state
  if newm || s = 3 then d.setServo 1
  else if s = 2 then
    (if stepped || decide (4 * lock.toNat * 65536 < e.natAbs) then d.setServo 1 else d)
  else if s = 1 then (if run = 8 then d.setServo 2 else d)
  else d

/-- The servo applies a sample (R132). -/
def Dev.applySample (s : Sample) (d : Dev) : Dev :=
  if d.sampleRefused s then d.count TIM_REFUSED
  else if s.t < d.tim.tStep then d.count TIM_STALE
  else
    let newm := s.gen != d.get TIM_STAT_gen
    let rate := if newm then d.integ else d.rateQ
    let outl : Nat := d.get TIM_OUTLIER_ns * 65536
    if d.get TIM_STAT_state = 2 ∧ !newm ∧ outl < s.e.natAbs ∧ d.tim.outlRun + 1 < d.get TIM_OUTLIER_cnt then
      let d := { d with tim := { d.tim with outlRun := d.tim.outlRun + 1 } }
      (d.count TIM_OUTLIERS).raise pgTIM 11
    else
      let d := { d with tim := { d.tim with outlRun := 0 } }
      let d := d.wrapInc ⟨TIM_SAMPLES, 31, 0⟩
      let d := d.put TIM_STAT_gen s.gen
      let d := d.wr TIM_LAST_E (BitVec.ofNat 32 (unsigned 32 (sat32 (s.e / 65536))))
      let d := d.armIn ⟨.holdover, 0, 0⟩ (msT (d.get TIM_HOLD_TMO_ms))
      if d.get TIM_STEP_THR_ns * 65536 ≤ s.e.natAbs then
        let d := (d.servo rate 0).stepTime s.e
        let d := { d with tim := { d.tim with tPrev := s.t + s.e / 65536 } }
        d.accepted s.e newm true
      else
        let i := s.t - d.tim.tPrev
        let d := { d with tim := { d.tim with tPrev := s.t } }
        let hold : Int := (d.get TIM_HOLD_TMO_ms : Int) * 1000000
        if newm ∨ i ≤ 0 ∨ hold < i then (d.servo rate 0).accepted s.e newm false
        else
          let r := (s.e * 2 ^ 24).tdiv i
          let integ := d.clampRate (d.integ + r / 2 ^ d.get TIM_SERVO_CFG_ki)
          let rate := d.clampRate (integ + r / 2 ^ d.get TIM_SERVO_CFG_kp)
          ((d.setInteg integ).servo rate 0).accepted s.e newm false

/-- SAMPLE_APPLY. -/
def opSampleApply (d : Dev) : Dev :=
  d.endTimer ⟨.sampleApply, 0, 0⟩ (fun d =>
    match d.tim.sample with
    | none => d
    | some s =>
      let d := { d with tim := { d.tim with sample := none } }
      let d := if s.cascade then d else d.put TIM_MEAS_CTL_submit 0
      d.applySample s)

/-- HOLDOVER_TIMEOUT: no accepted sample for `HOLD_TMO`. -/
def opHoldoverTimeout (d : Dev) : Dev :=
  d.onTimer ⟨.holdover, 0, 0⟩ (fun d =>
    let s := d.get TIM_STAT_state
    if s = 1 ∨ s = 2 then d.setServo 3 else d)

/-- `ADJ_CMD` acts while `src` is 0 or 3, in the tick after its write; otherwise it sets ERR with kind 0x10 (R135). -/
def Dev.adj (i : Initiator) (cmd : Nat) (f : Dev → Dev) (d : Dev) : Dev :=
  d.access i (fun d =>
    let src := d.get TIM_SRC_src
    if src = 0 ∨ src = 3 then f (d.at_ (d.now + timT 1)) else d.setErr pgTIM i 0x178 cmd)

/-- ADJ_STEP: step by the signed nanoseconds of `ADJ`. -/
def opAdjStep (i : Initiator) (d : Dev) : Dev :=
  d.adj i 1 (fun d => d.stepTime (signed 64 (d.rd64 TIM_ADJ_LO TIM_ADJ_HI) * 65536))

/-- ADJ_SET: step to the value of `ADJ`. -/
def opAdjSet (i : Initiator) (d : Dev) : Dev :=
  d.adj i 2 (fun d => d.stepTime ((d.rd64 TIM_ADJ_LO TIM_ADJ_HI : Int) * 65536 - d.tq))

/-- ADJ_RATE: load rate_q and `INTEG`, clamped. -/
def opAdjRate (i : Initiator) (d : Dev) : Dev :=
  d.adj i 3 (fun d =>
    let r := d.clampRate (signed 32 (d.rd TIM_ADJ_LO).toNat)
    (d.setInteg r).servo r 0)

/-! ### GPIO actions (R146 to R148) -/

/-- Drive a GPIO output that the TIM slots own, an instant's latency later (R146, R147). -/
def Dev.drive (pin : Nat) (level : Bool) (d : Dev) : Dev :=
  if !d.bit TIM_GPIO_OWN pin || bitAt d.tim.gpio pin == level then d
  else
    ({ d with tim := { d.tim with gpio := setBitTo d.tim.gpio pin level } } : Dev).emit (.gpioEdge pin level (d.now + 60))

/-- A GPIO pin takes its state of Table 17-2: high impedance with a weak pull-down, so low; a pulse ends. -/
def Dev.releaseGpio (g : Nat) (d : Dev) : Dev :=
  let d := d.cancel ⟨.pulse, g, 0⟩
  if !bitAt d.tim.gpio g then d
  else ({ d with tim := { d.tim with gpio := setBitTo d.tim.gpio g false } } : Dev).emit (.gpioEdge g false d.now)

/-- The GPIO and the pulse width of a TIM slot. -/
def Dev.slotGpio (d : Dev) (k : Nat) : Nat := bitsOf (d.rd (TIM_SL_CTL k)) 27 23
def Dev.slotWidth (d : Dev) (k : Nat) : Nat := bitsOf (d.rd (TIM_SL_CTL k)) 22 8

/-- GPIO_HIGH. -/
def opGpioHigh (k : TimSlot) (d : Dev) : Dev :=
  d.launch (.tim k) [0x10] (fun d => (d.cancel ⟨.pulse, d.slotGpio k, 0⟩).drive (d.slotGpio k) true)

/-- GPIO_LOW. -/
def opGpioLow (k : TimSlot) (d : Dev) : Dev :=
  d.launch (.tim k) [0x11] (fun d => (d.cancel ⟨.pulse, d.slotGpio k, 0⟩).drive (d.slotGpio k) false)

/-- GPIO_TOGGLE. -/
def opGpioToggle (k : TimSlot) (d : Dev) : Dev :=
  d.launch (.tim k) [0x12] (fun d =>
    (d.cancel ⟨.pulse, d.slotGpio k, 0⟩).drive (d.slotGpio k) (!bitAt d.tim.gpio (d.slotGpio k)))

/-- GPIO_PULSE: the pulse ends after its width. -/
def opGpioPulse (k : TimSlot) (d : Dev) : Dev :=
  d.launch (.tim k) [0x13] (fun d =>
    let g := d.slotGpio k
    let w := d.slotWidth k
    if d.bit TIM_GPIO_OWN g then (d.drive g true).armIn ⟨.pulse, g, 0⟩ (usT w) else d)

/-- GPIO_PULSE_END. -/
def opGpioPulseEnd (g : Gpio) (d : Dev) : Dev := d.onTimer ⟨.pulse, g, 0⟩ (fun d => d.drive g false)

/-- SLOT_MESSAGE: action 0x14 raises SLOT. -/
def opSlotMessage (k : TimSlot) (d : Dev) : Dev := d.launch (.tim k) [0x14] (fun d => d.raise pgTIM 15)

/-- GPIO_OWN_WRITE: a pin newly given to the slots is an output driven low; one taken back is an input (R147). -/
def opGpioOwn (i : Initiator) (v : Word) (d : Dev) : Dev :=
  d.write i pgTIM 0x360 v.toNat (fun d =>
    let own := bitsOf v 23 0
    let gone := (List.range 24).filter (fun g => !bitAt own g)
    let d := d.each gone (fun g d =>
      { d.cancel ⟨.pulse, g, 0⟩ with tim := { d.tim with gpio := setBitTo d.tim.gpio g false } })
    d.put TIM_GPIO_OWN_pins own)

/-- An edge on a GPIO input at a capture channel (R148). -/
def Dev.captureEdge (g : Nat) (rising : Bool) (k : Nat) (d : Dev) : Dev :=
  let kind := d.get (TIM_CAP_CFG_edge k)
  let wanted := kind = 2 ∨ (kind = 0 ∧ rising) ∨ (kind = 1 ∧ !rising)
  if !d.flag (TIM_CAP_CFG_en k) || d.get (TIM_CAP_CFG_gpio k) != g || d.bit TIM_GPIO_OWN g || !wanted then d
  else
    let last := NMap.get 0 d.tim.lastEdge k
    let close := decide (last ≠ 0) && decide (d.now < last + nsT 20)
    let d := { d with tim := { d.tim with lastEdge := NMap.set 0 d.tim.lastEdge k d.now } }
    if close then d
    else if d.tim.capHeld.contains k then d.count (TIM_CAP_OVR k)
    else
      let t := ((d.tq - 491520) / 65536 % 2 ^ 64).toNat
      let d := d.wr64 (TIM_CAP_T_LO k) (TIM_CAP_T_HI k) t
      ({ d with tim := { d.tim with capHeld := d.tim.capHeld ++ [k] } } : Dev).raise pgTIM 17

/-- GPIO_CAPTURE_EDGE. -/
def opGpioEdge (g : Gpio) (rising : Bool) (d : Dev) : Dev :=
  d.each [0, 1, 2, 3] (fun k d => d.captureEdge g rising k)

/-! ### Egress timestamp queues (R139 to R142) -/

def Dev.tsqItems (d : Dev) (p : Nat) : List Nat := NMap.get [] d.tim.tsq p

/-- Show a queue: its count and its bit in TSQ_NE. -/
def Dev.tsqShow (p : Nat) (d : Dev) : Dev :=
  let n := (d.tsqItems p).length
  let d := d.put (TIM_TSQ_CNT_items p) n
  if p < 32 then d.setBit TIM_TSQ_NE0 p (decide (0 < n)) else d.setBit TIM_TSQ_NE1 (p - 32) (decide (0 < n))

def Dev.setTsq (p : Nat) (l : List Nat) (d : Dev) : Dev :=
  let was := (d.tsqItems p).isEmpty
  let d := ({ d with tim := { d.tim with tsq := NMap.set [] d.tim.tsq p l } } : Dev).tsqShow p
  if was && !l.isEmpty then d.raise pgTIM 12 else d

/-- A marker item (Table 6-6). -/
def markerItem (n : Nat) : Nat := 2 * 2 ^ 60 + n % 2 ^ 32 * 2 ^ 4

/-- The PTP header of a frame as sent: place of its first byte. -/
def ptpAt (bs : List Byte) : Option Nat :=
  let h := parseHdr bs false
  if h.etype = 0x88F7 then some h.body
  else if h.etype = 0x0800 ∧ be bs h.body 1 = 0x45 then
    (match h.ip with
     | some ip => if ip.proto = 17 ∧ ip.dport = 319 then some (h.body + 28) else none
     | none => none)
  else none

/-- An egress timestamp item (R140, Table 6-6), for a time in units of 2^-16 ns. -/
def Dev.tsItem (d : Dev) (bs : List Byte) (q : Int) : Nat :=
  let ns := (q / 65536 % 2 ^ 33).toNat
  let frac := (q % 65536).toNat / 4096
  let tail := ns * 2 ^ 4 + frac
  match ptpAt bs with
  | none => 2 ^ 60 + 0xF * 2 ^ 56 + 0xFFFF * 2 ^ 37 + tail
  | some a =>
    let dom := be bs (a + 4) 1
    let slot := (List.range 4).find? (fun s => d.flag (TIM_DOM_CFG_en s) && d.get (TIM_DOM_CFG_number s) == dom)
    2 ^ 60 + be bs a 1 % 16 * 2 ^ 56 + (match slot with
      | some s => 2 ^ 55 + s * 2 ^ 53
      | none => 0) + be bs (a + 30) 2 * 2 ^ 37 + tail

/-- Queue the timestamp of a frame: a full queue, or one with a single free entry while losses wait for their marker,
loses it (R141). -/
def Dev.tsqPush (p : Nat) (bs : List Byte) (q : Int) (d : Dev) : Dev :=
  let l := d.tsqItems p
  let lost := NMap.get 0 d.tim.tsqMark p
  let item := d.tsItem bs q
  if 256 ≤ l.length ∨ (0 < lost ∧ 255 ≤ l.length) then
    let d := (d.count (TIM_TSQ_LOST p)).raise pgTIM 13
    let d := { d with tim := { d.tim with tsqMark := NMap.set 0 d.tim.tsqMark p (lost + 1) } }
    if (NMap.get none d.tim.tsqCap p).isSome then d
    else
      let cap := some (nb item 59 56, nb item 52 37, (q / 65536 % 2 ^ 64).toNat)
      { d with tim := { d.tim with tsqCap := NMap.set none d.tim.tsqCap p cap } }
  else if 0 < lost then
    let d := { d with tim := { d.tim with tsqMark := NMap.set 0 d.tim.tsqMark p 0 } }
    d.setTsq p (l ++ [markerItem lost, item])
  else d.setTsq p (l ++ [item])

/-- Show the lost capture of the selected port in the window. -/
def Dev.tsqCapShow (d : Dev) : Dev :=
  match NMap.get none d.tim.tsqCap (d.get TIM_TSQ_CAP_SEL_port) with
  | none =>
    (((d.put TIM_TSQ_CAP_ID_valid 0).put TIM_TSQ_CAP_ID_msgtype 0).put TIM_TSQ_CAP_ID_seq 0).wr64 TIM_TSQ_CAP_T_LO
      TIM_TSQ_CAP_T_HI 0
  | some (m, s, t) =>
    (((d.put TIM_TSQ_CAP_ID_valid 1).put TIM_TSQ_CAP_ID_msgtype m).put TIM_TSQ_CAP_ID_seq s).wr64 TIM_TSQ_CAP_T_LO
      TIM_TSQ_CAP_T_HI t

/-- TSQ_CAP_SEL_WRITE copies that port's lost capture into the window. -/
def opTsqCapSel (i : Initiator) (v : Word) (d : Dev) : Dev :=
  d.write i pgTIM 0x348 v.toNat (fun d => (d.put TIM_TSQ_CAP_SEL_port (bitsOf v 6 0)).tsqCapShow)

/-- TSQ_CAP_CLEAR: writing 1 to `valid` clears it and re-arms the selected port's capture. -/
def opTsqCapClear (i : Initiator) (d : Dev) : Dev :=
  d.access i (fun d =>
    let p := d.get TIM_TSQ_CAP_SEL_port
    ({ d with tim := { d.tim with tsqCap := NMap.set none d.tim.tsqCap p none } } : Dev).tsqCapShow)

/-- Empty a timestamp queue (R142): timestamps go to TSQ_LOST and the next marker, a marker's own count to the next
marker alone. -/
def Dev.tsqEmpty (p : Nat) (d : Dev) : Dev :=
  let l := d.tsqItems p
  let ts := (l.filter (fun x => nb x 63 60 == 1)).length
  let marks := (l.filter (fun x => nb x 63 60 == 2)).foldl (fun n x => n + nb x 35 4) 0
  let d := d.add ⟨TIM_TSQ_LOST p, 31, 0⟩ ts
  let n := NMap.get 0 d.tim.tsqMark p + ts + marks
  let d := { d with tim := { d.tim with tsqMark := NMap.set 0 d.tim.tsqMark p n } }
  d.setTsq p []

/-- A timestamp queue whose pointer copies disagree is emptied (R142, R301). -/
def Dev.tsqMismatch (p : Nat) (d : Dev) : Dev := (((d.tsqEmpty p).count TIM_TSQ_RST).raise pgTIM 14).queueReset 2 p

/-- TSQ_READ: a read of `TSQ_LO` removes the head item and latches `TSQ_HI`; an empty queue, or one whose
pointer copies disagree, reads the idle item. -/
def opTsqRead (i : Initiator) (p : EthPort) (mism : Bool) (d : Dev) : Dev :=
  d.access i (fun d =>
    let d := if mism then d.tsqMismatch p else d
    match d.tsqItems p with
    | [] => (d.wr (TIM_TSQ_HI p) 0xF0000000).emit (.readValue i (TIM_TSQ_LO p) 0)
    | x :: rest =>
      ((d.setTsq p rest).wr (TIM_TSQ_HI p) (BitVec.ofNat 32 (x / 2 ^ 32))).emit
        (.readValue i (TIM_TSQ_LO p) (BitVec.ofNat 32 x)))

/-- Clear the lost captures and the GPIO captures, which re-arms every channel. -/
def Dev.capsClear (d : Dev) : Dev :=
  let d := ({ d with tim := { d.tim with tsqCap := [], capHeld := [] } } : Dev).tsqCapShow
  d.each [0, 1, 2, 3] (fun k d => d.wr64 (TIM_CAP_T_LO k) (TIM_CAP_T_HI k) 0)

/-- Unit reset of TIM (R142). -/
def Dev.timReset (d : Dev) : Dev :=
  let d := (d.each (List.range 57) Dev.tsqEmpty).capsClear
  let src := d.get TIM_SRC_src
  if src = 1 ∨ src = 2 then d.setServo 3 else d

/-! ### The meanings of the commands of this file -/

/-- SAMPLE_SUBMIT (R132). -/
def execSampleSubmit (i : Initiator) (v : Word) (s : State) : Host.Outcome State Fault Refusal :=
  effect (opSampleSubmit i v) s

/-- HOLDOVER_TIMEOUT (R133). -/
def execHoldoverTimeout (s : State) : Host.Outcome State Fault Refusal :=
  effect opHoldoverTimeout s

/-- ADJ_RATE (R135). -/
def execAdjRate (i : Initiator) (s : State) : Host.Outcome State Fault Refusal :=
  effect (opAdjRate i) s

/-- GPIO_HIGH (R147). -/
def execGpioHigh (k : TimSlot) (s : State) : Host.Outcome State Fault Refusal :=
  effect (opGpioHigh k) s

/-- GPIO_LOW (R147). -/
def execGpioLow (k : TimSlot) (s : State) : Host.Outcome State Fault Refusal :=
  effect (opGpioLow k) s

/-- GPIO_TOGGLE (R147). -/
def execGpioToggle (k : TimSlot) (s : State) : Host.Outcome State Fault Refusal :=
  effect (opGpioToggle k) s

/-- GPIO_PULSE (R147). -/
def execGpioPulse (k : TimSlot) (s : State) : Host.Outcome State Fault Refusal :=
  effect (opGpioPulse k) s

/-- GPIO_PULSE_END (R146). -/
def execGpioPulseEnd (g : Gpio) (s : State) : Host.Outcome State Fault Refusal :=
  effect (opGpioPulseEnd g) s

/-- SLOT_MESSAGE (R143). -/
def execSlotMessage (k : TimSlot) (s : State) : Host.Outcome State Fault Refusal :=
  effect (opSlotMessage k) s

/-- GPIO_CAPTURE_EDGE (R148). -/
def execGpioCaptureEdge (g : Gpio) (rising : Bool) (s : State) : Host.Outcome State Fault Refusal :=
  effect (opGpioEdge g rising) s

/-- TSQ_READ (R141). -/
def execTsqRead (i : Initiator) (p : EthPort) (mism : Bool) (s : State) : Host.Outcome State Fault Refusal :=
  effect (opTsqRead i p mism) s

/-- TSQ_CAP_SEL_WRITE (R141). -/
def execTsqCapSelWrite (i : Initiator) (v : Word) (s : State) : Host.Outcome State Fault Refusal :=
  effect (opTsqCapSel i v) s

/-- TSQ_CAP_CLEAR (R141). -/
def execTsqCapClear (i : Initiator) (s : State) : Host.Outcome State Fault Refusal :=
  effect (opTsqCapClear i) s

/-- GPIO_OWN_WRITE (R147). -/
def execGpioOwnWrite (i : Initiator) (v : Word) (s : State) : Host.Outcome State Fault Refusal :=
  effect (opGpioOwn i v) s

end Sys2Proof.Machine
end

