-- ==== Sys2Proof/Machine/Traffic.lean ====
section
/-!
DEFINITION. The traffic manager (chapter 5): the checks of step 6, stream gates and gate lists, sequence recovery,
shaper credit, and the TRM pages' windows.
-/

namespace Sys2Proof.Machine

/-! ### Stream records (R106 to R110) -/

def Dev.stream (d : Dev) (s : Nat) : Nat := NMap.get 0 d.trm.streams s

def Dev.setStream (s r : Nat) (d : Dev) : Dev :=
  { d with trm := { d.trm with streams := NMap.set 0 d.trm.streams s r } }

/-- A counter of a stream (Table 5-4), saturating. -/
def Dev.strCount (s i : Nat) (d : Dev) : Dev :=
  let n := NMap.get 0 d.trm.streamCnt (s * 8 + i)
  { d with trm := { d.trm with streamCnt := NMap.set 0 d.trm.streamCnt (s * 8 + i) (min (n + 1) (2 ^ 32 - 1)) } }

/-- A counter of a recovery function, saturating. -/
def Dev.recCount (f i n : Nat) (d : Dev) : Dev :=
  let m := NMap.get 0 d.trm.recCnt (f * 8 + i)
  { d with trm := { d.trm with recCnt := NMap.set 0 d.trm.recCnt (f * 8 + i) (min (m + n) (2 ^ 32 - 1)) } }

/-- Whole bytes and the remainder of a refill (R108). -/
def refill (rate dt rem : Nat) : Nat × Nat := ((rate * dt + rem) / 8000000, (rate * dt + rem) % 8000000)

/-- Refill and charge an Allowance (R108): colour 0 green, 1 yellow, 2 red; times are 64-bit counts. -/
def meter (r : Nat) (b : Bucket) (now len : Nat) (yellowIn : Bool) : Nat × Bucket :=
  let dt := min ((now + 2 ^ 64 - b.last) % 2 ^ 64) (2 ^ 47)
  let (cAdd, cRem) := refill (nb r 51 26) dt b.cRem
  let c := b.c + cAdd
  let cbs := nb r 101 78
  let ovf := c - cbs
  let c := min c cbs
  let (eAdd, eRem) := refill (nb r 77 52) dt b.eRem
  let e := min (b.e + eAdd + (if nbit r 126 then ovf else 0)) (nb r 125 102)
  let b := { b with last := now, cRem := cRem, eRem := eRem }
  if !yellowIn ∧ len ≤ c then (0, { b with c := c - len, e := e })
  else if len ≤ e then (1, { b with c := c, e := e - len })
  else (2, { b with c := c, e := e })

/-! ### Gate lists (R111, R119 to R122) -/

/-- The record of a stream gate (Table 5-6). -/
def Dev.gateRec (d : Dev) (g : Nat) : Nat := NMap.get 0 d.trm.gates g

/-- The gate state of a stream gate: open, and the internal priority it gives (R111). -/
def Dev.gateState (d : Dev) (g : Nat) : Bool × Option Nat :=
  let r := d.gateRec g
  let run := d.gateRun g
  if nbit r 8 then (false, none)
  else
    match run.cur with
    | some c =>
      if nbit r 0 then
        let e := d.gateEnt g c.bank run.entry
        (nbit e 32, nopt e 35 33 36)
      else (nbit r 2, nopt r 5 3 6)
    | none => (nbit r 2, nopt r 5 3 6)

/-! ### Sequence recovery (R112 to R116) -/

def Dev.recRec (d : Dev) (f : Nat) : Nat := NMap.get 0 d.trm.recs f
def Dev.recov (d : Dev) (f : Nat) : Recov := NMap.get {} d.trm.recov f
def Dev.setRecov (f : Nat) (r : Recov) (d : Dev) : Dev :=
  { d with trm := { d.trm with recov := NMap.set {} d.trm.recov f r } }

/-- A frame passes the function: counted, and the reset time runs again. -/
def Dev.recPass (f : Nat) (r : Recov) (d : Dev) : Dev :=
  let d := (d.setRecov f { r with passed := r.passed + 1 }).recCount f 0 1
  d.armIn ⟨.recovReset, f, 0⟩ (msT (nb (d.recRec f) 22 7))

/-- A duplicate is discarded. -/
def Dev.recDup (f : Nat) (r : Recov) (d : Dev) : Dev :=
  (d.setRecov f { r with discarded := r.discarded + 1 }).recCount f 1 1

/-- The sequence numbers that a shift of a history by n moves out of its length without having been seen: those among the
`span` numbers since the first one taken whose bit is 0. -/
def lostBits (hist span n h : Nat) : Nat :=
  ((List.range n).filter (fun j => decide (hist - n + j < span) && !bitAt h (hist - n + j))).length

/-- The function resets to take the next sequence number it sees. -/
def Dev.recReset (f : Nat) (d : Dev) : Dev :=
  (d.setRecov f { d.recov f with takeAny := true, history := 0, span := 0 }).recCount f 6 1

/-- Sequence recovery of a frame (R114): it passes or is discarded. -/
def Dev.recover (f : Nat) (seq : Option Nat) (d : Dev) : Bool × Dev :=
  let c := d.recRec f
  let r := d.recov f
  if !nbit c 0 then (true, d)
  else
    match seq with
    | none =>
      let d := d.recCount f 5 1
      if nbit c 23 then (true, d.recPass f r) else (false, d)
    | some s =>
      if r.takeAny then (true, d.recPass f { r with takeAny := false, seq := s, history := 1, span := 1 })
      else
        let delta : Int := signed 16 ((s + 65536 - r.seq) % 65536)
        if nbit c 1 then
          (if delta = 0 then (false, d.recDup f r)
           else
             let d := if delta = 1 then d else d.recCount f 2 1
             (true, d.recPass f { r with seq := s }))
        else
          let hist := nb c 6 2
          let hist := if hist = 0 then 32 else hist
          if hist ≤ delta.natAbs then (false, d.recCount f 3 1)
          else if delta ≤ 0 then
            let k := delta.natAbs
            (if bitAt r.history k then (false, d.recDup f r)
             else (true, (d.recCount f 2 1).recPass f { r with history := setBitTo r.history k true }))
          else
            let d := if delta = 1 then d else d.recCount f 2 1
            let n := delta.natAbs
            (true, (d.recCount f 4 (lostBits hist r.span n r.history)).recPass f
              { r with seq := s, history := setBitTo (r.history * 2 ^ n % 2 ^ hist) 0 true, span := min hist (r.span + n) })

/-- RECOVERY_RESET_TIMEOUT. -/
def opRecoveryReset (f : Nat) (d : Dev) : Dev :=
  d.onTimer ⟨.recovReset, f, 0⟩ (fun d => (d.recReset f).raise (pgTRM 3) 9)

/-- LATENT_ERROR_TEST (R116, R398). -/
def opLatentTest (f : Nat) (d : Dev) : Dev :=
  d.onPeriod ⟨.latent, f, 0⟩ (msT (nb (d.recRec f) 56 41)) (fun d =>
    let c := d.recRec f
    let r := d.recov f
    let d := d.setRecov f { r with passed := 0, discarded := 0 }
    if r.discarded + nb c 40 25 < r.passed then (d.recCount f 7 1).raise (pgTRM 3) 8 else d)

/-! ### Step 6 (R106) -/

/-- The scrub unit of a traffic manager memory: streams, gate records, recovery records, gate-control entries. -/
def trmUnit (kind i : Nat) : Nat :=
  match kind with
  | 1 => i * 3
  | 2 => 4096 * 3 + i * 2
  | 3 => 4096 * 3 + 128 * 2 + i
  | _ => 4096 * 3 + 128 * 2 + 1024 + i

/-- What the owner of a stream (1), stream gate (2) or recovery record (3) does when it reads uncorrectable (R125). -/
def Dev.trmLost (kind i : Nat) (d : Dev) : Dev :=
  match kind with
  | 1 => (d.count TRM_STR_UE).raise (pgTRM 1) 10
  | 2 => d.raise (pgTRM 2) 9
  | _ => (d.recReset i).raise (pgTRM 3) 10

/-- The checks 3 to 5 of Table 5-1 for a stored frame: its slip colour and class, or none where it is discarded; a discarded
frame updates no Allowance (R106), and one without an Allowance keeps its colour (R109). -/
def Dev.police35 (f : Frame) (seq : Option Nat) (ue : Nat) (d : Dev) : Option (Nat × Nat) × Dev :=
  let r := match f.stream with
    | some s => d.stream s
    | none => 0
  let s := f.stream.getD 0
  let gated := nbit r 25
  let g := nb r 24 18
  let bad := gated ∧ ue = 2
  let d := if bad then (d.trmLost 2 g).uncorrectable 7 (trmUnit 2 g) 8 else d
  let gst : Bool × Option Nat :=
    if !gated then (true, none)
    else if bad then (nbit (d.gateRec g) 2, nopt (d.gateRec g) 5 3 6)
    else d.gateState g
  if !gst.1 then
    let d := (d.strCount s 3).count TRM_GATE_DROP
    let gr := d.gateRec g
    let d := if nbit gr 7 ∧ !nbit gr 8 then
        ({ d with trm := { d.trm with gates := NMap.set 0 d.trm.gates g (nset gr 8 8 1) } } : Dev).raise (pgTRM 2) 8
      else d
    (none, d)
  else
    let cls := gst.2.getD f.cls
    let met : Nat × (Dev → Dev) :=
      if nbit r 135 then
        let yin := nbit r 127 && (match f.hdr.tag with
          | some (_, dei, _) => dei
          | none => false)
        let (col, b) := meter r (NMap.get {} d.trm.buckets s) d.ns f.len yin
        (col, fun d => { d with trm := { d.trm with buckets := NMap.set {} d.trm.buckets s b } })
      else (0, id)
    let (col, charge) := met
    let yact := nb r 129 128
    let d := if nbit r 135 ∧ col = 0 then d.strCount s 4 else if col = 1 then d.strCount s 5 else d
    if col = 2 ∨ (col = 1 ∧ yact = 1) then
      let d := (d.strCount s 6).count TRM_POL_DROP
      let d := if col = 2 ∧ nbit r 133 ∧ !nbit r 134 then (d.setStream s (nset r 134 134 1)).raise (pgTRM 1) 9 else d
      (none, d)
    else
      let cls := if col = 1 ∧ yact = 2 then nb r 132 130 else cls
      let rec5 : Bool × Dev :=
        match f.frer with
        | none => (true, d)
        | some fn =>
          if ue = 3 then (true, (d.trmLost 3 fn).uncorrectable 7 (trmUnit 3 fn) 8)
          else d.recover fn seq
      if rec5.1 then (some (if nbit r 135 then col else f.colour, cls), charge rec5.2) else (none, rec5.2.count TRM_DUP_DROP)

/-- The checks of step 6 for a frame (Table 5-1). A frame without a stream passes untouched (R106), and a cut-through frame
meets only the `mafr` and `blocked` flags of checks 1 and 2 (R21). -/
def Dev.police (f : Frame) (seq : Option Nat) (ue : Nat) (d : Dev) : Option (Nat × Nat) × Dev :=
  match f.stream with
  | none => (some (f.colour, f.cls), d)
  | some s =>
    let d := d.strCount s 0
    let r := d.stream s
    if ue = 1 then
      let d := (d.trmLost 1 s).uncorrectable 7 (trmUnit 1 s) 8
      (none, (d.strCount s 2).count TRM_SDU_DROP)
    else if nbit r 134 then (none, (d.strCount s 7).count TRM_SDU_DROP)
    else
      let big := !f.ct ∧ nb r 15 0 ≠ 0 ∧ nb r 15 0 < f.len
      let d := if big ∧ nbit r 16 ∧ !nbit r 17 then (d.setStream s (nset r 17 17 1)).raise (pgTRM 1) 8 else d
      if big ∨ nbit r 17 then (none, (d.strCount s 2).count TRM_SDU_DROP)
      else if f.ct then (some (f.colour, f.cls), d.strCount s 1)
      else
        match d.police35 f seq ue with
        | (some v, d) => (some v, d.strCount s 1)
        | (none, d) => (none, d)

/-! ### Shaper credit (R118) -/

/-- Rate in kb/s of a speed code (Table 7-5). -/
def speedRate : Nat → Nat
  | 1 => 100000 | 2 => 1000000 | 3 => 2500000 | 4 => 5000000 | 5 => 10000000 | 6 => 25000000 | _ => 0

/-- The rate of an output in kb/s: its link's current speed, or the last one while it is down; Voholt 50 Gb/s (R67). -/
def Dev.rate (d : Dev) (p : Nat) : Nat :=
  if 58 ≤ p ∧ p ≤ 61 then 50000000
  else
    let s := if p < 57 then d.get (ETH_STAT_speed p) else 6
    speedRate (if s = 0 then NMap.get 6 d.eth.lastSpeed p else s)

/-- Gate c of an output is open (R119). -/
def Dev.gateOpen (d : Dev) (p c : Nat) : Bool := bitAt (d.tas p).states c

/-- Class c of an Ethernet output is paused by its peer. -/
def Dev.pausedBy (d : Dev) (p c : Nat) : Bool := decide (p < 57) && bitAt (d.get (ETH_STAT_paused p)) c

/-- A class of an output holds a frame. -/
def Dev.backlog (d : Dev) (p c : Nat) : Bool := d.vlt.voqs.any (fun e => e.1 / 8 % 128 == p && e.1 % 8 == c)

/-- The credit record of a class. -/
def Dev.creditOf (d : Dev) (p c : Nat) : Credit := NMap.get {} d.trm.credit (p * 8 + c)

def Dev.setCredit (p c : Nat) (k : Credit) (d : Dev) : Dev :=
  { d with trm := { d.trm with credit := NMap.set {} d.trm.credit (p * 8 + c) k } }

/-- Bring the credit of a class up to the present instant (R118): what it lost while it transmitted, then what it gained, or
lost above zero, since. -/
def Dev.creditSync (p c : Nat) (d : Dev) : Dev :=
  if !d.flag (TRM_SHAPER_en p c) then d
  else
    let k := d.creditOf p c
    let a := max k.at_ (min d.now k.to_)
    let tx : Int := (a - k.at_ : Nat)
    let rest : Int := (d.now - a : Nat)
    let slope : Int := d.get (TRM_SHAPER_idle_slope p c)
    let u :=
      if !d.gateOpen p c then k.units
      else
        let u := k.units + (slope - d.rate p) * tx
        if d.pausedBy p c || decide (d.now < k.to_) then u
        else if d.backlog p c then u + slope * rest
        else min u 0
    d.setCredit p c { k with units := u, at_ := d.now }

/-- Bring every class of a port up to date, before anything changes what its credit does. -/
def Dev.creditPort (p : Nat) (d : Dev) : Dev :=
  if p < 57 then d.each (List.range 8) (fun c d => d.creditSync p c) else d

/-- A class of a port transmits, preamble and interframe gap included, until a root time. -/
def Dev.creditUntil (p c t : Nat) (d : Dev) : Dev :=
  if d.flag (TRM_SHAPER_en p c) then d.setCredit p c { d.creditOf p c with to_ := t } else d

/-- The credit of a class in bits (R118). -/
def Dev.creditBits (d : Dev) (p c : Nat) : Int := (d.creditOf p c).units / 4800000

/-- CBS_SEL_WRITE latches a credit (R127). -/
def opCbsSel (i : Initiator) (v : Word) (d : Dev) : Dev :=
  d.write i (pgTRM 7) 0x500 v.toNat (fun d =>
    let p := bitsOf v 8 3
    let c := bitsOf v 2 0
    let d := ((d.put TRM_CBS_SEL_port p).put TRM_CBS_SEL_class c).creditPort p
    d.wr TRM_CBS_CRED (BitVec.ofNat 32 (unsigned 32 (d.creditBits p c))))

/-! ### Gate lists of ports: events (R119 to R122, R125) -/

/-- Preemption is active on a port (R124). -/
def Dev.preempts (d : Dev) (p : Nat) : Bool :=
  d.flag (TRM_PRE_CFG_pre_en p) && (d.flag (TRM_PRE_CFG_verify_dis p) || d.get (TRM_PRE_STAT_verify p) == 3)

/-- A class is preemptable on a port. -/
def Dev.preemptable (d : Dev) (p c : Nat) : Bool := d.preempts p && !bitAt (d.get (TRM_PRE_CFG_express p)) c

/-- Show a port's list in TAS_STAT and PEND_T. -/
def Dev.tasShow (p : Nat) (d : Dev) : Dev :=
  let r := d.tas p
  let d := (d.put (TRM_TAS_STAT_entry p) r.entry).put (TRM_TAS_STAT_err p) (if r.err then 1 else 0)
  let d := (d.put (TRM_TAS_STAT_pend p) (if r.pend.isSome then 1 else 0)).put (TRM_TAS_STAT_run p)
    (if r.cur.isSome then 1 else 0)
  let d := match r.cur with
    | some c => d.put (TRM_TAS_STAT_oper p) c.bank
    | none => d
  match r.pend with
  | some c => d.wr64 (TRM_PEND_T_LO p) (TRM_PEND_T_HI p) c.start
  | none => d.wr64 (TRM_PEND_T_LO p) (TRM_PEND_T_HI p) 0

/-- Root periods of n bit times at a port's rate. -/
def Dev.bitTime (d : Dev) (p n : Nat) : Nat :=
  let r := d.rate p
  if r = 0 then 0 else (n * 4800000 + r - 1) / r

/-- The bytes after which the fragment being sent can first be cut, a request coming at the present instant: those that have
passed, and no fewer than the smallest fragment's; nothing where less than 64 bytes would remain (R120, R124; PRESUMED, log
entry 91). -/
def Dev.cutAt (d : Dev) (t : Tx) : Option Nat :=
  let passed := ((d.now + 672 - t.from_) * d.rate t.out + 38399999) / 38400000
  let k := max passed (60 + 64 * d.get (TRM_PRE_CFG_frag t.out))
  if t.len < t.sent + k + 64 then none else some k

/-- The preemptable copy that a port is sending. -/
def Dev.preemptee (d : Dev) (p : Nat) : Option Tx :=
  d.vlt.tx.find? (fun t => t.out == p && !t.held && d.preemptable p t.cls && decide (d.now < t.ends))

/-- Preempt the preemptable frame in transmission at the first permitted point: a fragment with its check ends there, and the
port is free after the gap (R120, R124). -/
def Dev.preemptTx (p : Nat) (d : Dev) : Dev :=
  match d.preemptee p with
  | none => d
  | some t =>
    match d.cutAt t with
    | none => d
    | some k =>
      let d := d.creditPort p
      let tx := d.vlt.tx.map (fun x => if x = t then { x with held := true, sent := x.sent + k } else x)
      let free := t.from_ - 672 + d.bitTime p ((k + 24) * 8)
      let d := { d with
        vlt := { d.vlt with tx := tx, free := NMap.set 0 d.vlt.free p free }
        eth := { d.eth with wire := NMap.set 0 d.eth.wire p (t.from_ + d.bitTime p ((k + 16) * 8)) } }
      (d.creditUntil p t.cls free).ldg p 51 1

/-- The gate states change, `TAS_ADV` before the change's own time at the egress timestamp point: a frame still being sent
then is preempted where it can be, and otherwise an overrun (R119, R120). -/
def Dev.gatesTo (p : Nat) (states : Nat) (d : Dev) : Dev :=
  let d := d.creditPort p
  let hit := d.vlt.tx.filter (fun t => t.out == p && !t.held && !bitAt states t.cls && decide (d.now + nsT (d.tasAdv p) < t.ends))
  let excess := hit.any (fun t => !d.preemptable p t.cls)
  let d := d.setTas p { d.tas p with states := states }
  let d := if hit.isEmpty then d else d.preemptTx p
  if excess then (d.count (TRM_TAS_OVR p)).raise (pgTRM (4 + p / 20)) 9 else d

/-- The hold or release operation of an entry (R124). -/
def Dev.holdOp (p op : Nat) (d : Dev) : Dev :=
  match op with
  | 1 =>
    if d.flag (TRM_PRE_STAT_hold p) then d
    else ((d.put (TRM_PRE_STAT_hold p) 1).ldg p 52 1).preemptTx p
  | 2 => d.put (TRM_PRE_STAT_hold p) 0
  | _ => d

/-- The entry in effect acts. -/
def Dev.applyEntry (p : Nat) (d : Dev) : Dev :=
  let r := d.tas p
  match r.cur with
  | none => d.tasShow p
  | some c =>
    let e := d.gclEnt p c.bank r.entry
    ((d.gatesTo p (nb e 39 32)).holdOp p (nb e 41 40)).tasShow p

/-- An uncorrectable gate-control entry stops the list, which holds its gate states (R125). -/
def Dev.gclStop (p : Nat) (d : Dev) : Dev :=
  let r := d.tas p
  ((d.setTas p { r with cur := none, pend := none, err := true }).raise (pgTRM (4 + p / 20)) 8).tasShow p

/-- The list of a port does what it does next; an uncorrectable entry that it comes to stops it (R119, R125). -/
def Dev.gateActs (p : Nat) (ue : Bool) (d : Dev) : Dev :=
  let r := (d.tas p).advance (d.gclEnt p)
  let bank := match r.cur with
    | some c => c.bank
    | none => 0
  if ue then (d.gclStop p).uncorrectable 7 (trmUnit 4 (p * 2048 + bank * 1024 + r.entry)) 8 else (d.setTas p r).applyEntry p

/-- GATE_LIST_START: the internal slot of a port executes (R145). -/
def opGateListStart (p : EthPort) (ue : Bool) (d : Dev) : Dev :=
  match (d.tas p).next with
  | some (.start, t) =>
    if d.pw.halted || !d.turn (d.turnAt (.gate p) (t - d.tasAdv p)) then d else (d.atNs (t - d.tasAdv p)).gateActs p ue
  | _ => d

/-- GATE_ENTRY_END: the next entry of the cycle, or the list stops on an uncorrectable entry. -/
def opGateEntryEnd (p : EthPort) (ue : Bool) (d : Dev) : Dev :=
  match (d.tas p).next with
  | some (.entry, t) => (d.atNs (t - d.tasAdv p)).gateActs p ue
  | _ => d

/-- GATE_LIST_CYCLE_END: the next cycle begins, unless the pending start is too near (R122). -/
def opGateCycleEnd (p : EthPort) (ue : Bool) (d : Dev) : Dev :=
  match (d.tas p).next with
  | some (.cycle, t) => (d.atNs (t - d.tasAdv p)).gateActs p ue
  | _ => d

/-- STREAM_GATE_LIST_START. -/
def opStreamGateStart (g : Nat) (d : Dev) : Dev :=
  match (d.gateRun g).next with
  | some (.start, t) =>
    if d.pw.halted || !d.turn (d.turnAt (.streamGate g) t) then d
    else (d.atNs t).setGateRun g ((d.gateRun g).advance (d.gateEnt g))
  | _ => d

/-- STREAM_GATE_ENTRY_END: the next entry, or the next cycle. -/
def opStreamGateEntryEnd (g : Nat) (d : Dev) : Dev :=
  match (d.gateRun g).next with
  | some (.entry, t) | some (.cycle, t) => (d.atNs t).setGateRun g ((d.gateRun g).advance (d.gateEnt g))
  | _ => d

/-- What the list of a port has passed by device time: its hold operations act in order, and only the last gate states act
(R121). -/
def Dev.gatePasses (p : Nat) : Nat → Dev → Dev
  | 0, d => d
  | n + 1, d =>
    match (d.tas p).next with
    | none => d
    | some (_, t) =>
      if d.ns < t - d.tasAdv p then d
      else
        let d := d.setTas p ((d.tas p).advance (d.gclEnt p))
        let r := d.tas p
        let d := match r.cur with
          | some c => d.holdOp p (nb (d.gclEnt p c.bank r.entry) 41 40)
          | none => d
        d.gatePasses p n

/-- The list of a port after a forward step of device time (R121). -/
def Dev.gateStepped (p : Nat) (d : Dev) : Dev :=
  let e := d.gatePasses p (d.ns + 1)
  if e.tas p = d.tas p then d
  else
    let r := e.tas p
    match r.cur with
    | some c => (e.gatesTo p (nb (e.gclEnt p c.bank r.entry) 39 32)).tasShow p
    | none => e.tasShow p

/-- What the list of a stream gate has passed by device time (R111, R121). -/
def Dev.streamPasses (g : Nat) : Nat → Dev → Dev
  | 0, d => d
  | n + 1, d =>
    match (d.gateRun g).next with
    | none => d
    | some (_, t) =>
      if d.ns < t then d else (d.setGateRun g ((d.gateRun g).advance (d.gateEnt g))).streamPasses g n

/-- Every list after a forward step of device time: ports in ascending order, then stream gates (R26, R121). -/
def Dev.listsStepped (d : Dev) : Dev :=
  if d.pw.halted then d
  else
    let d := d.each (List.range 57) Dev.gateStepped
    d.each (d.trm.gateRun.map (·.1)) (fun g d => d.streamPasses g (d.ns + 1))

/-- A commit that changed a port's list registers (R122): the new list is pending until S, or with `en` 0 every gate
opens. -/
def Dev.tasCommit (p : Nat) (d : Dev) : Dev :=
  let r := d.tas p
  if d.flag (TRM_TAS_CTRL_en p) then
    let cycle := d.get (TRM_TAS_CYCLE_ns p)
    let c : ListCfg := { bank := d.get (TRM_TAS_CTRL_bank p), len := d.get (TRM_TAS_LEN_len p), cycle := cycle,
                         ext := d.get (TRM_TAS_EXT_ns p),
                         start := listStart (d.rd64 (TRM_TAS_BASE_LO p) (TRM_TAS_BASE_HI p)) cycle d.ns }
    (d.setTas p { r with pend := some c }).tasShow p
  else ((d.setTas p { r with cur := none, pend := none, err := false }).gatesTo p 0xFF).tasShow p

/-- A commit that changed a stream gate's list fields (R111, R122). -/
def Dev.gateCommit (g : Nat) (d : Dev) : Dev :=
  let r := d.gateRec g
  let run := d.gateRun g
  if nbit r 0 then
    let c : ListCfg := { bank := nb r 1 1, len := nb r 15 9, cycle := nb r 125 96, ext := 0,
                         start := listStart (nb r 95 32) (nb r 125 96) d.ns }
    d.setGateRun g { run with pend := some c }
  else d.setGateRun g { run with cur := none, pend := none }

/-- The list fields of a stream gate's record: en, bank, len, base, cycle. -/
def gateList (r : Nat) : Nat × Nat × Nat × Nat := (nb r 1 0, nb r 15 9, nb r 95 32, nb r 125 96)

/-- A commit of a TRM page copies its staged records (R110, R111, R116, R126). -/
def Dev.trmCommit (k : Nat) (d : Dev) : Dev :=
  match k with
  | 1 =>
    let d := d.each d.trm.streamsD (fun s d =>
      let r := NMap.get 0 d.trm.streamsS s
      let b := NMap.get {} d.trm.buckets s
      let b := if nbit r 136 then { b with c := nb r 101 78, e := nb r 125 102, cRem := 0, eRem := 0, last := d.ns } else b
      let d := d.setStream s (nset r 136 136 0)
      { d with trm := { d.trm with buckets := NMap.set {} d.trm.buckets s b } })
    { d with trm := { d.trm with streamsD := [], streamsS := [] } }
  | 2 =>
    let d := d.each d.trm.gatesD (fun g d =>
      let old := d.gateRec g
      let r := NMap.get 0 d.trm.gatesS g
      let d := { d with trm := { d.trm with gates := NMap.set 0 d.trm.gates g r } }
      if gateList old = gateList r then d else d.gateCommit g)
    { d with trm := { d.trm with gatesD := [], gatesS := [] } }
  | 3 =>
    let d := d.each d.trm.recsD (fun f d =>
      let old := d.recRec f
      let r := NMap.get 0 d.trm.recsS f
      let d := { d with trm := { d.trm with recs := NMap.set 0 d.trm.recs f r } }
      let d := if nbit r 0 && (!nbit old 0 || nbit old 1 != nbit r 1) then d.setRecov f {} else d
      let lat := nbit r 0 && nbit r 24
      let d := if !lat then d.cancel ⟨.latent, f, 0⟩
        else if (nbit old 0 && nbit old 24) && nb old 56 41 == nb r 56 41 then d
        else (d.setRecov f { d.recov f with passed := 0, discarded := 0 }).armIn ⟨.latent, f, 0⟩ (msT (nb r 56 41))
      if nbit r 0 then d else d.cancel ⟨.recovReset, f, 0⟩)
    { d with trm := { d.trm with recsD := [], recsS := [] } }
  | _ => d

/-- PREEMPT_VERIFY_DONE (R124). -/
def opVerifyDone (p : EthPort) (ok : Bool) (d : Dev) : Dev :=
  if d.get (TRM_PRE_STAT_verify p) != 2 then d
  else if ok then d.put (TRM_PRE_STAT_verify p) 3
  else (d.put (TRM_PRE_STAT_verify p) 4).raise (pgTRM (4 + p / 20)) 10

/-- Preemption verification starts, waits for the link, or is disabled (R124). -/
def Dev.verifyStart (p : Nat) (d : Dev) : Dev :=
  d.put (TRM_PRE_STAT_verify p)
    (if !d.flag (TRM_PRE_CFG_pre_en p) || d.flag (TRM_PRE_CFG_verify_dis p) then 0
     else if d.flag (ETH_STAT_link p) then 2 else 1)

/-! ### Windows (R126, Table 5-4) -/

/-- STREAM_READ. -/
def opStreamRead (i : Initiator) (staged : Bool) (d : Dev) : Dev :=
  d.window i .stream 1 false (fun _ => true) (fun d =>
    let s := d.get TRM_STR_SEL_stream
    d.loadWords TRM_STR_DATA 5
      (if staged && d.trm.streamsD.contains s then NMap.get 0 d.trm.streamsS s else d.stream s))

/-- STREAM_STAGE. -/
def opStreamStage (i : Initiator) (d : Dev) : Dev :=
  d.window i .stream 2 true (fun _ => true) (fun d =>
    let s := d.get TRM_STR_SEL_stream
    let r := d.readWords TRM_STR_DATA 5
    let l := d.trm.streamsD.filter (· != s)
    { d with trm := { d.trm with streamsS := NMap.set 0 d.trm.streamsS s r, streamsD := l ++ [s] } })

/-- STREAM_COUNTERS_COPY. -/
def opStreamCounters (i : Initiator) (d : Dev) : Dev :=
  d.window i .stream 3 false (fun _ => true) (fun d =>
    let s := d.get TRM_STR_SEL_stream
    d.each (List.range 8) (fun j d =>
      let d := d.wr (TRM_STR_CNT j) (BitVec.ofNat 32 (NMap.get 0 d.trm.streamCnt (s * 8 + j)))
      { d with trm := { d.trm with streamCnt := NMap.set 0 d.trm.streamCnt (s * 8 + j) 0 } }))

/-- STREAM_GATE_READ. -/
def opSgRead (i : Initiator) (staged : Bool) (d : Dev) : Dev :=
  d.window i .streamGate 1 false (fun _ => true) (fun d =>
    let g := d.get TRM_SG_SEL_gate
    let v :=
      if d.flag TRM_SG_SEL_target then d.gateEnt g (d.get TRM_SG_SEL_bank) (d.get TRM_SG_SEL_entry)
      else if staged && d.trm.gatesD.contains g then NMap.get 0 d.trm.gatesS g else d.gateRec g
    d.loadWords TRM_SG_DATA 4 v)

/-- STREAM_GATE_WRITE: write an entry of a free bank, or stage the parameter record. -/
def opSgWrite (i : Initiator) (d : Dev) : Dev :=
  d.window i .streamGate 2 true
    (fun d => !d.flag TRM_SG_SEL_target || !(d.gateRun (d.get TRM_SG_SEL_gate)).bankBusy (d.get TRM_SG_SEL_bank))
    (fun d =>
      let g := d.get TRM_SG_SEL_gate
      let v := d.readWords TRM_SG_DATA 4
      if d.flag TRM_SG_SEL_target then
        let k := g * 128 + d.get TRM_SG_SEL_bank * 64 + d.get TRM_SG_SEL_entry
        { d with trm := { d.trm with gateEnt := NMap.set 0 d.trm.gateEnt k (v % 2 ^ 37) } }
      else
        let l := d.trm.gatesD.filter (· != g)
        { d with trm := { d.trm with gatesS := NMap.set 0 d.trm.gatesS g v, gatesD := l ++ [g] } })

/-- RECOVERY_READ: the record and the live state. -/
def opRecoveryRead (i : Initiator) (staged : Bool) (d : Dev) : Dev :=
  d.window i .recovery 1 false (fun _ => true) (fun d =>
    let f := d.get TRM_FR_SEL_fn
    let r := d.recov f
    let d := d.loadWords TRM_FR_DATA 2
      (if staged && d.trm.recsD.contains f then NMap.get 0 d.trm.recsS f else d.recRec f)
    let d := (d.put TRM_FR_ST0_take_any (if r.takeAny then 1 else 0)).put TRM_FR_ST0_seq r.seq
    d.put TRM_FR_ST1_history r.history)

/-- RECOVERY_STAGE. -/
def opRecoveryStage (i : Initiator) (d : Dev) : Dev :=
  d.window i .recovery 2 true (fun _ => true) (fun d =>
    let f := d.get TRM_FR_SEL_fn
    let r := d.readWords TRM_FR_DATA 2
    let l := d.trm.recsD.filter (· != f)
    { d with trm := { d.trm with recsS := NMap.set 0 d.trm.recsS f r, recsD := l ++ [f] } })

/-- RECOVERY_COUNTERS_COPY. -/
def opRecoveryCounters (i : Initiator) (d : Dev) : Dev :=
  d.window i .recovery 3 false (fun _ => true) (fun d =>
    let f := d.get TRM_FR_SEL_fn
    d.each (List.range 8) (fun j d =>
      let d := d.wr (TRM_FR_CNT j) (BitVec.ofNat 32 (NMap.get 0 d.trm.recCnt (f * 8 + j)))
      { d with trm := { d.trm with recCnt := NMap.set 0 d.trm.recCnt (f * 8 + j) 0 } }))

/-- The selected gate-control entry. -/
def Dev.gclSel (d : Dev) : Nat := d.get TRM_GCL_SEL_port * 2048 + d.get TRM_GCL_SEL_bank * 1024 + d.get TRM_GCL_SEL_entry

/-- GCL_READ. -/
def opGclRead (i : Initiator) (d : Dev) : Dev :=
  d.window i .gcl 1 false (fun d => decide (d.get TRM_GCL_SEL_port ≤ 56)) (fun d =>
    let e := NMap.get 0 d.trm.gcl d.gclSel
    ((d.put TRM_GCL_DATA_LO_interval (nb e 31 0)).put TRM_GCL_DATA_HI_op (nb e 41 40)).put TRM_GCL_DATA_HI_gates
      (nb e 39 32))

/-- GCL_WRITE: an entry of a bank that is neither operational nor pending. -/
def opGclWrite (i : Initiator) (d : Dev) : Dev :=
  d.window i .gcl 2 true
    (fun d => decide (d.get TRM_GCL_SEL_port ≤ 56) &&
      !(d.tas (d.get TRM_GCL_SEL_port)).bankBusy (d.get TRM_GCL_SEL_bank))
    (fun d =>
      let e := d.get TRM_GCL_DATA_LO_interval + d.get TRM_GCL_DATA_HI_gates * 2 ^ 32 + d.get TRM_GCL_DATA_HI_op * 2 ^ 40
      { d with trm := { d.trm with gcl := NMap.set 0 d.trm.gcl d.gclSel e } })

/-! ### Guard band (R120) -/

/-- Gate c of a port stays open by the list from the entry in effect until device time `t`, a pending list included (R120). -/
def Dev.openUntil (d : Dev) (p c t : Nat) : Nat → GateRun → Bool
  | 0, _ => true
  | n + 1, r =>
    match r.cur with
    | none =>
      (match r.pend with
       | some nx => if t ≤ nx.start then true else d.openUntil p c t n (r.startPend (d.gclEnt p))
       | none => true)
    | some cf =>
      if !bitAt (nb (d.gclEnt p cf.bank r.entry) 39 32) c then false
      else
        let stop := if r.entryEnds then r.until_ else r.cycle0 + cf.cycle
        let swap := match r.pend with
          | some nx => decide (nx.start ≤ stop) || r.holding
          | none => false
        let edge := match r.pend with
          | some nx => if swap then nx.start else stop
          | none => stop
        if t ≤ edge then true
        else if swap then d.openUntil p c t n (r.startPend (d.gclEnt p))
        else if r.entryEnds then d.openUntil p c t n (r.enter (d.gclEnt p cf.bank) (r.entry + 1) r.until_)
        else d.openUntil p c t n (r.cycleEnd (d.gclEnt p))

/-- The first nanosecond of device time at which a frame of n bytes that is picked at the present instant has left: tp + 140
ns + D (R120). -/
def Dev.leaves (d : Dev) (p n : Nat) : Nat :=
  let r := 65536 * max 1 (d.rate p)
  140 + (d.tq.toNat * max 1 (d.rate p) + (n + 20) * 8 * 1000000 * 65536 + r - 1) / r

/-- A frame of n bytes of class c passes the guard-band test at the present instant. -/
def Dev.guardOk (d : Dev) (p c n : Nat) : Bool :=
  d.openUntil p c (d.leaves p (if d.preemptable p c then 64 else n)) 20000 (d.tas p)

/-! ### The meanings of the commands of this file -/

/-- RECOVERY_RESET_TIMEOUT (R114). -/
def execRecoveryResetTimeout (fn : Nat) (s : State) : Host.Outcome State Fault Refusal :=
  effectIf (decide (fn < 1024)) (opRecoveryReset fn) s

/-- LATENT_ERROR_TEST (R116). -/
def execLatentErrorTest (fn : Nat) (s : State) : Host.Outcome State Fault Refusal :=
  effectIf (decide (fn < 1024)) (opLatentTest fn) s

/-- GATE_LIST_START (R145). -/
def execGateListStart (p : EthPort) (ue : Bool) (s : State) : Host.Outcome State Fault Refusal :=
  effect (opGateListStart p ue) s

/-- STREAM_GATE_LIST_START (R145). -/
def execStreamGateListStart (g : Nat) (s : State) : Host.Outcome State Fault Refusal :=
  effectIf (decide (g < 128)) (opStreamGateStart g) s

/-- GATE_ENTRY_END (R119). -/
def execGateEntryEnd (p : EthPort) (ue : Bool) (s : State) : Host.Outcome State Fault Refusal :=
  effect (opGateEntryEnd p ue) s

/-- STREAM_GATE_ENTRY_END (R111). -/
def execStreamGateEntryEnd (g : Nat) (s : State) : Host.Outcome State Fault Refusal :=
  effectIf (decide (g < 128)) (opStreamGateEntryEnd g) s

/-- GATE_LIST_CYCLE_END (R119). -/
def execGateListCycleEnd (p : EthPort) (ue : Bool) (s : State) : Host.Outcome State Fault Refusal :=
  effect (opGateCycleEnd p ue) s

/-- STREAM_READ (R126). -/
def execStreamRead (i : Initiator) (staged : Bool) (s : State) : Host.Outcome State Fault Refusal :=
  effect (opStreamRead i staged) s

/-- STREAM_STAGE (R126). -/
def execStreamStage (i : Initiator) (s : State) : Host.Outcome State Fault Refusal :=
  effect (opStreamStage i) s

/-- STREAM_COUNTERS_COPY (R126). -/
def execStreamCountersCopy (i : Initiator) (s : State) : Host.Outcome State Fault Refusal :=
  effect (opStreamCounters i) s

/-- STREAM_GATE_READ (R126). -/
def execStreamGateRead (i : Initiator) (staged : Bool) (s : State) : Host.Outcome State Fault Refusal :=
  effect (opSgRead i staged) s

/-- STREAM_GATE_WRITE (R122). -/
def execStreamGateWrite (i : Initiator) (s : State) : Host.Outcome State Fault Refusal :=
  effect (opSgWrite i) s

/-- RECOVERY_READ (R126). -/
def execRecoveryRead (i : Initiator) (staged : Bool) (s : State) : Host.Outcome State Fault Refusal :=
  effect (opRecoveryRead i staged) s

/-- RECOVERY_STAGE (R126). -/
def execRecoveryStage (i : Initiator) (s : State) : Host.Outcome State Fault Refusal :=
  effect (opRecoveryStage i) s

/-- RECOVERY_COUNTERS_COPY (R126). -/
def execRecoveryCountersCopy (i : Initiator) (s : State) : Host.Outcome State Fault Refusal :=
  effect (opRecoveryCounters i) s

/-- GCL_READ (R127). -/
def execGclRead (i : Initiator) (s : State) : Host.Outcome State Fault Refusal :=
  effect (opGclRead i) s

/-- GCL_WRITE (R122). -/
def execGclWrite (i : Initiator) (s : State) : Host.Outcome State Fault Refusal :=
  effect (opGclWrite i) s

/-- CBS_SEL_WRITE (R127). -/
def execCbsSelWrite (i : Initiator) (v : Word) (s : State) : Host.Outcome State Fault Refusal :=
  effect (opCbsSel i v) s

/-- PREEMPT_VERIFY_DONE (R124). -/
def execPreemptVerifyDone (p : EthPort) (ok : Bool) (s : State) : Host.Outcome State Fault Refusal :=
  effect (opVerifyDone p ok) s

end Sys2Proof.Machine
end

