-- ==== Sys2Proof/Machine/Mac.lean ====
section
/-!
DEFINITION. What the MACs of the Ethernet ports share: capture times, the size bins of the Ledger, flow control and its
frames, received pause, draining, low-power idle, and the start of an isolation (R138, R155, R156, R162 to R168, R38).
-/

namespace Sys2Proof.Machine

/-! ### Capture times (R138) -/

/-- Device time at a tick count and an eighth of a tick, units of 2^-16 ns. -/
def Dev.tqEighth (d : Dev) (ticks e : Nat) : Int :=
  let base : Int := ((ticks : Int) - d.tim.tickRef) * 163840 + (e % 8 : Nat) * 20480
  d.tim.offQ + base + base * d.rateQ / 2 ^ 40

/-- The speed code that selects a port's corrections. -/
def Dev.speedOf (d : Dev) (p : Nat) : Nat :=
  let s := d.get (ETH_STAT_speed p)
  if s = 0 then NMap.get 0 d.eth.lastSpeed p else s

/-- The ingress correction of a port, units of 2^-16 ns (Table 6-5). -/
def Dev.inCorr (d : Dev) (p : Nat) : Int :=
  if p < 4 then 27443200
  else if p < 16 then (match d.speedOf p with | 3 => 89128960 | 4 => 45219840 | _ => 23265280)
  else if p < 40 then 66355200
  else if p < 57 then 186777600
  else if 58 ≤ p ∧ p ≤ 61 then 11264000
  else if 64 ≤ p ∧ p ≤ 87 then 7536640
  else if 88 ≤ p ∧ p ≤ 95 then 196608000
  else 0

/-- The egress correction of a port, units of 2^-16 ns. -/
def Dev.outCorr (d : Dev) (p : Nat) : Int :=
  if p < 4 then 17121280
  else if p < 16 then (match d.speedOf p with | 3 => 51855360 | 4 => 26542080 | _ => 13926400)
  else if p < 40 then 35840000
  else if p < 57 then 77987840
  else 6348800

/-- The ingress time of a frame captured now: in_ns and in_frac of its slip. -/
def Dev.ingressTime (d : Dev) (p e : Nat) : Nat × Nat :=
  let q := d.tqEighth d.ticks e - d.inCorr p
  ((q / 65536 % 2 ^ 64).toNat, (q % 65536).toNat)

/-! ### Ledger bins and transmitted frames (R167) -/

/-- The bin of a length, counted from the first bin. -/
def lenBin (n : Nat) : Nat :=
  if n ≤ 64 then 0 else if n ≤ 127 then 1 else if n ≤ 255 then 2 else if n ≤ 511 then 3 else if n ≤ 1023 then 4
  else if n ≤ 1518 then 5 else if n ≤ 2047 then 6 else if n ≤ 4095 then 7 else 8

/-- 0 unicast, 1 multicast, 2 broadcast. -/
def daKind (bs : List Byte) : Nat :=
  let da := be bs 0 6
  if da = 2 ^ 48 - 1 then 2 else if be bs 0 1 % 2 = 1 then 1 else 0

/-- Count a frame an Ethernet port has sent. -/
def Dev.ldgSent (p : Nat) (bs : List Byte) (bad : Bool) (d : Dev) : Dev :=
  let d := d.ldg p 32 bs.length
  if bad then d.ldg p 47 1 else (d.ldg p (33 + daKind bs) 1).ldg p (38 + lenBin bs.length) 1

/-! ### Flow control (R162) -/

/-- The classes named by a port's priority map for each priority. -/
def Dev.pcpClass (d : Dev) (p i : Nat) : Nat := nb (d.get (FWD_PCP_MAP_cls p)) (3 * i + 2) (3 * i)

/-- The port's source address. -/
def Dev.portMac (d : Dev) (p : Nat) : Nat := d.get (ETH_MAC_HI_mac p) * 2 ^ 32 + (d.rd (ETH_MAC_LO p)).toNat

/-- A MAC control frame padded to 64 bytes with its frame check. -/
def Dev.macControl (d : Dev) (p : Nat) (body : List Byte) : List Byte :=
  let f := beBytes 6 0x0180C2000001 ++ beBytes 6 (d.portMac p) ++ beBytes 2 0x8808 ++ body
  let f := f ++ List.replicate (60 - f.length) 0
  f ++ fcsOf f

/-- The flow-control frame of a port for a set of asserted classes, after `was` was sent: the whole current state. -/
def Dev.fcFrame (d : Dev) (p now_ was : Nat) : List Byte :=
  let q := d.get (ETH_FC_CFG_quanta p)
  if d.flag (ETH_FC_CFG_mode p) then d.macControl p (beBytes 2 1 ++ beBytes 2 (if now_ = 0 then 0 else q))
  else
    let named := (List.range 8).filter (fun i => bitAt now_ (d.pcpClass p i) || bitAt was (d.pcpClass p i))
    let vec := named.foldl (fun n i => n + 2 ^ i) 0
    let times := (List.range 8).flatMap (fun i => beBytes 2 (if bitAt now_ (d.pcpClass p i) then q else 0))
    d.macControl p (beBytes 2 0x0101 ++ beBytes 2 vec ++ times)

/-- The port's MAC works: its page out of reset and its link up. -/
def Dev.macUp (d : Dev) (p : Nat) : Bool :=
  decide (p < 57) && !d.flag (PG_STATE_in_reset (pgETH p)) && d.flag (ETH_STAT_link p)

/-- When a port's wire is free for the next flow-control frame. -/
def Dev.wireAt (d : Dev) (p : Nat) : Nat := NMap.get 0 d.eth.wire p

def Dev.setWire (p t : Nat) (d : Dev) : Dev := { d with eth := { d.eth with wire := NMap.set 0 d.eth.wire p t } }

/-- A flow-control frame waits for the wire: its timer is the next instant at which the wire is free. -/
def Dev.fcLater (p : Nat) (d : Dev) : Dev :=
  let d := if d.eth.fcWait.contains p then d else { d with eth := { d.eth with fcWait := d.eth.fcWait ++ [p] } }
  if d.now < d.wireAt p then d.arm ⟨.fcRefresh, p, 0⟩ (d.wireAt p) else d

/-- A port sends a flow-control frame that states the classes of `set`, once its wire is free, and refreshes it while any is
asserted. It takes the wire for its preamble, 64 bytes and the gap, ahead of the next pick. -/
def Dev.fcSend (p set : Nat) (d : Dev) : Dev :=
  let bs := d.fcFrame p set (NMap.get 0 d.eth.fcSent p)
  let start := max d.now (d.wireAt p)
  let d := d.emit (.frame p bs false (start + d.bitTime p 64))
  let d := ((d.ldg p (if d.flag (ETH_FC_CFG_mode p) then 36 else 37) 1).ldg p 32 bs.length).ldg p (38 + lenBin bs.length) 1
  let d := { d with eth := { d.eth with fcSent := NMap.set 0 d.eth.fcSent p set, fcWait := d.eth.fcWait.filter (· != p) } }
  let free := max (NMap.get 0 d.vlt.free p) (start + d.bitTime p 736 - 672)
  let d := ({ d with vlt := { d.vlt with free := NMap.set 0 d.vlt.free p free } } : Dev).setWire p (start + d.bitTime p 672)
  let d := if d.running ⟨.lpiIdle, p, 0⟩ then d.arm ⟨.lpiIdle, p, 0⟩ (start + d.bitTime p 576 + usT (d.get (PHY_LPI_IDLE_us p))) else d
  if set = 0 then d.cancel ⟨.fcRefresh, p, 0⟩
  else d.arm ⟨.fcRefresh, p, 0⟩ (start + d.bitTime p (d.get (ETH_FC_CFG_quanta p) * 256))

/-- The asserted classes that the next flow-control frame states: none from an isolated port (R165). -/
def Dev.fcState (d : Dev) (p : Nat) : Nat :=
  if d.get (PG_STATE_iso (pgETH p)) != 0 then 0 else d.get (ETH_STAT_bp p)

/-- Wake time of a port's transmitter, root periods (Table 7-1). -/
def Dev.wakeTime (d : Dev) (p : Nat) : Nat :=
  if p < 4 then nsT 1500
  else if p < 16 then (match d.speedOf p with | 3 => nsT 6000 | 4 => nsT 3500 | _ => nsT 2000)
  else nsT 12000

/-- A frame became eligible on a port in low-power idle, or a flow-control frame is to be sent: the transmitter wakes. -/
def Dev.lpiLeave (p : Nat) (d : Dev) : Dev :=
  if d.eth.lpi.contains p && !d.eth.waking.contains p then
    let d := { d with eth := { d.eth with waking := d.eth.waking ++ [p] } }
    d.armIn ⟨.lpiWake, p, 0⟩ (d.wakeTime p)
  else d

/-- The current state is to be sent: at once; after the wake of the transmitter; at the next permitted point of a preemptable
frame in transmission; or when what is in transmission, a flow-control frame too, has ended (R162). -/
def Dev.fcPush (p : Nat) (d : Dev) : Dev :=
  if d.eth.lpi.contains p then (d.fcLater p).lpiLeave p
  else
    let d := d.preemptTx p
    if d.vlt.tx.any (fun t => t.out == p && !t.held && decide (d.now < t.ends)) || decide (d.now < d.wireAt p) then d.fcLater p
    else d.fcSend p (d.fcState p)

/-- The asserted set has changed: it is sent. An isolated port sends no flow control. -/
def Dev.fcChanged (p : Nat) (d : Dev) : Dev :=
  if !d.macUp p || d.get (PG_STATE_iso (pgETH p)) != 0 then d else d.fcPush p

/-- A flow-control frame that waits is sent at the end of the frame in transmission. -/
def Dev.fcDrainWait (p : Nat) (d : Dev) : Dev :=
  if d.eth.fcWait.contains p then d.fcSend p (d.fcState p) else d

/-! ### Received pause (R163, R164) -/

/-- The pause timers of a port: one for each priority, and one (8 + class) for each class that no priority maps to. -/
def Dev.pauseSlots (d : Dev) (p : Nat) : List Nat :=
  List.range 8 ++ ((List.range 8).filter (fun c => (List.range 8).all (fun i => d.pcpClass p i != c))).map (8 + ·)

/-- The class of a pause timer. -/
def Dev.slotClass (d : Dev) (p i : Nat) : Nat := if i < 8 then d.pcpClass p i else i - 8

/-- The end of the pause of a class, root periods; 0 none. -/
def Dev.pauseEndOf (d : Dev) (p c : Nat) : Nat :=
  ((d.pauseSlots p).filter (fun i => d.slotClass p i == c)).foldl (fun n i => max n (NMap.get 0 d.eth.paused (p * 16 + i))) 0

/-- Bring one class of a port up to date after its timers have changed: `STAT.paused`, its expiry, the watchdog. -/
def Dev.pauseSync (p c : Nat) (d : Dev) : Dev :=
  let e := d.pauseEndOf p c
  let was := bitAt (d.get (ETH_STAT_paused p)) c
  let bits := d.get (ETH_STAT_paused p)
  if d.now < e then
    let d := d.arm ⟨.pauseEnd, p, c⟩ e
    if was then d
    else
      let d := d.creditPort p
      let d := d.put (ETH_STAT_paused p) (setBitTo bits c true)
      let d := { d with eth := { d.eth with pausedAt := NMap.set 0 d.eth.pausedAt (p * 8 + c) (d.now + 1) } }
      d.armIn ⟨.pwd, p, c⟩ (msT (d.get (ETH_PWD_CFG_ms p)))
  else if was then
    let d := (d.creditPort p).put (ETH_STAT_paused p) (setBitTo bits c false)
    let d := { d with eth := { d.eth with pausedAt := NMap.set 0 d.eth.pausedAt (p * 8 + c) 0 } }
    (d.cancel ⟨.pauseEnd, p, c⟩).cancel ⟨.pwd, p, c⟩
  else d

/-- Load pause timers of a port: (slot, quanta) pairs; a class under a break is not obeyed. -/
def Dev.pauseLoad (p : Nat) (l : List (Nat × Nat)) (d : Dev) : Dev :=
  let broken := d.get (ETH_PWD_STAT_broken p)
  let d := d.each l (fun e d =>
    if bitAt broken (d.slotClass p e.1) then d
    else
      let till := if e.2 = 0 then 0 else d.now + d.bitTime p (e.2 * 512)
      { d with eth := { d.eth with paused := NMap.set 0 d.eth.paused (p * 16 + e.1) till } })
  d.each (List.range 8) (fun c d => if bitAt broken c then d else d.pauseSync p c)

/-- Forget the received pause of the classes of which q holds. -/
def Dev.forgetPause (p : Nat) (q : Nat → Bool) (d : Dev) : Dev :=
  let z := ((d.pauseSlots p).filter (fun i => q (d.slotClass p i))).foldl (fun z i => NMap.set 0 z (p * 16 + i) 0) d.eth.paused
  ({ d with eth := { d.eth with paused := z } } : Dev).each ((List.range 8).filter q) (fun c d => d.pauseSync p c)

/-- Forget the received pause of a class, and of every class. -/
def Dev.unpause (p c : Nat) (d : Dev) : Dev := d.forgetPause p (· == c)
def Dev.unpauseAll (p : Nat) (d : Dev) : Dev := d.forgetPause p (fun _ => true)

/-- A class of an output is paused: the pause acts on picks 64 ns or more after the end of the received frame. -/
def Dev.pauseActs (d : Dev) (p c : Nat) : Bool :=
  d.pausedBy p c && decide (NMap.get 0 d.eth.pausedAt (p * 8 + c) - 1 + nsT 64 ≤ d.now)

/-! ### Draining (R155) -/

def Dev.drains (d : Dev) (out : Nat) : Bool := d.eth.draining.contains out

/-- The VOQs of an output start to drain. -/
def Dev.drainOn (out : Nat) (d : Dev) : Dev :=
  if d.drains out then d else { d with eth := { d.eth with draining := d.eth.draining ++ [out] } }

/-- The drain of an output stops. -/
def Dev.drainOff (out : Nat) (d : Dev) : Dev :=
  let e := d.eth
  { d with eth := { e with draining := e.draining.filter (· != out), drainSaid := e.drainSaid.filter (· != out) } }

/-! ### Low-power idle (R156) -/

/-- The port has no frame to send: its idle time runs. -/
def Dev.lpiStart (p : Nat) (d : Dev) : Dev :=
  if decide (p < 40) && d.flag (PHY_CFG_lpi_en p) && d.flag (ETH_STAT_link p) && !d.eth.lpi.contains p then
    d.armIn ⟨.lpiIdle, p, 0⟩ (usT (d.get (PHY_LPI_IDLE_us p)))
  else d

/-! ### The start of an isolation (R38, R165) -/

/-- Set `PG_STATE.iso`; each change sets ISO_CHG. -/
def Dev.setIso (pg v : Nat) (d : Dev) : Dev :=
  if d.get (PG_STATE_iso pg) = v then d else (d.put (PG_STATE_iso pg) v).raise pg irqIso

/-- A page starts to isolate: `PG_CTRL.isolate`, `PG_STATE.iso` 1, the Isolate condition (R38, Table 1-7). -/
def Dev.isoStart (pg : Nat) (d : Dev) : Dev :=
  let d := (d.put (PG_CTRL_isolate pg) 1).setIso pg 1
  let d := { d with sys := { d.sys with isolated := d.sys.isolated.filter (· != pg) ++ [pg] } }
  (d.refreshFrom pg).syncMode

/-- An Ethernet port isolates: one flow-control frame with time 0 for every asserted class, no flow control after it, and
its VOQs drain (R165). -/
def Dev.isoEth (p : Nat) (d : Dev) : Dev :=
  if d.get (PG_STATE_iso (pgETH p)) != 0 then d
  else
    let owed := d.macUp p && NMap.get 0 d.eth.fcSent p != 0
    let d := { d with eth := { d.eth with fcWait := d.eth.fcWait.filter (· != p) } }
    let d := (((d.cancel ⟨.fcRefresh, p, 0⟩).isoStart (pgETH p)).drainOn p)
    let d := if d.vox p then d.revertStop (p + 4) else d
    if owed then d.fcPush p else d

end Sys2Proof.Machine
end

