-- ==== Sys2Proof/Machine/Segments.lean ====
section
/-!
DEFINITION. Segments and SUPEN outputs as every unit uses them: which ports sleep, what their frames meet, and the wake
of a segment (R256, R257, R268 to R270). The commands of the WAK and PWR pages are in Sleep.lean.
-/

namespace Sys2Proof.Machine

/-- The pages of a port that can belong to a segment. -/
def portPages (p : Nat) : List Nat :=
  if p < 57 then [pgETH p, pgPHY p]
  else if 64 ≤ p ∧ p ≤ 87 then [pgCAN (p - 64)]
  else if 88 ≤ p ∧ p ≤ 95 then [pgLIN (p - 88)]
  else []

/-- The segment code of a port, 15 for none (R256). -/
def Dev.segCode (d : Dev) (p : Nat) : Nat :=
  if p < 96 then nb (d.rd (WAK_SEG_MAP (p / 8))).toNat (4 * (p % 8) + 3) (4 * (p % 8)) else 15

/-- The ports that can belong to a segment. -/
def segPorts : List Nat := List.range 57 ++ (List.range 32).map (· + 64)

/-- The port sleeps: the segment it fell asleep with. -/
def Dev.sleepSeg (d : Dev) (p : Nat) : Option Nat :=
  match portPages p with
  | [] => none
  | pg :: _ => (d.wak.asleepPages.find? (fun e => e.1 == pg)).map (·.2)

/-- The disposition of a class at a sleeping segment (R269). -/
def Dev.disposition (d : Dev) (g c : Nat) : Nat := nb (d.get (WAK_SEG_DISP_disp g)) (2 * c + 1) (2 * c)

/-- A port has received or sent a frame (R261). -/
def Dev.touch (p : Nat) (d : Dev) : Dev := { d with wak := { d.wak with lastAct := NMap.set 0 d.wak.lastAct p (d.now + 1) } }

/-! ### SUPEN outputs (R257) -/

def Dev.supenOn (d : Dev) (n : Nat) : Bool := bitAt (d.get PWR_SUPEN_STAT_on) n

/-- Switch a SUPEN output; a running off delay is cancelled. -/
def Dev.setSupen (n : Nat) (on : Bool) (d : Dev) : Dev :=
  let was := d.supenOn n
  let d := d.put PWR_SUPEN_STAT_on (setBitTo (d.get PWR_SUPEN_STAT_on) n on)
  let d := d.put PWR_SUPEN_STAT_pend (setBitTo (d.get PWR_SUPEN_STAT_pend) n false)
  let d := d.cancel ⟨.supenOff, n, 0⟩
  if was == on then d else d.emit (.supen n on (d.now + nsT 100))

/-- Start the off delay of an output that is on; a delay of 0 ends at once. -/
def Dev.supenDelay (n : Nat) (d : Dev) : Dev :=
  if !d.supenOn n then d
  else if d.get (PWR_SUPEN_CFG_off_ms n) = 0 then d.setSupen n false
  else
    (d.put PWR_SUPEN_STAT_pend (setBitTo (d.get PWR_SUPEN_STAT_pend) n true)).armIn ⟨.supenOff, n, 0⟩
      (msT (d.get (PWR_SUPEN_CFG_off_ms n)))

/-- The outputs in mode 1 that follow a segment. -/
def Dev.segSupens (d : Dev) (g : Nat) : List Nat :=
  (List.range 8).filter (fun n => d.get (PWR_SUPEN_CFG_mode n) == 1 && d.get (PWR_SUPEN_CFG_seg n) == g)

/-! ### Consent tokens on the cascade (R262, R333) -/

/-- A cascade link is up: an isolated link still carries control messages (R345). -/
def Dev.linkUp (d : Dev) (code : Nat) : Bool :=
  if code < 4 then d.flag (VHL_STAT_link code) else d.vox (code - 4) && d.flag (ETH_STAT_link (code - 4))

def Dev.upLinks (d : Dev) : List Nat := (List.range 8).filter d.linkUp

/-- A control message is counted as sent on its link (Table 16-5). -/
def Dev.countCtl (code : Nat) (d : Dev) : Dev := if code < 4 then d.count (VHL_CNT code 2) else d

/-- Send a token on every link that is up except one. -/
def Dev.tokenAll (t : Token) (but : Option Nat) (d : Dev) : Dev :=
  d.each (d.upLinks.filter (fun c => some c != but)) (fun c d => (d.countCtl c).emit (.token c t))

/-- A VETO or WAKE of a round is sent once (R262). -/
def Dev.tokenOnce (t : Token) (but : Option Nat) (d : Dev) : Dev :=
  let k := (t.type, t.origin, t.seq)
  if d.wak.sent.contains k then d
  else ({ d with wak := { d.wak with sent := d.wak.sent ++ [k] } } : Dev).tokenAll t but

/-! ### LIN schedules (R189) -/

/-- Show a schedule. -/
def Dev.schShow (ch : Nat) (d : Dev) : Dev :=
  let r := d.schRun ch
  let d := ((d.put (LIN_SCH_STAT_entry ch) r.entry).put (LIN_SCH_STAT_pend ch) (if r.pend.isSome then 1 else 0)).put
    (LIN_SCH_STAT_run ch) (if r.cur.isSome then 1 else 0)
  let d := match r.cur with
    | some c => d.put (LIN_SCH_STAT_oper ch) c.bank
    | none => d
  d.wr64 (LIN_PEND_T_LO ch) (LIN_PEND_T_HI ch) (match r.pend with | some c => c.start | none => 0)

def Dev.setSchRun (ch : Nat) (r : GateRun) (d : Dev) : Dev :=
  ({ d with bus := { d.bus with schRun := NMap.set {} d.bus.schRun ch r } } : Dev).schShow ch

/-- A commit of `SCH_CTL` and `SCH_BASE`: at the next slot boundary of a running list, else at B or B + N cycles. -/
def Dev.schCommit (ch : Nat) (d : Dev) : Dev :=
  let r := d.schRun ch
  if !d.flag (LIN_SCH_CTL_en ch) then d.setSchRun ch {}
  else
    let bank := d.get (LIN_SCH_CTL_bank ch)
    let len := d.get (LIN_SCH_CTL_len ch)
    let cycle := d.schCycle ch bank len
    let start := match r.cur with
      | some _ => r.until_
      | none => listStart (d.rd64 (LIN_SCH_BASE_LO ch) (LIN_SCH_BASE_HI ch)) cycle d.ns
    d.setSchRun ch { r with pend := some { bank := bank, len := len, cycle := cycle, ext := 0, start := start } }

/-- A commander returns from isolation: its schedule starts as at a commit with none running. -/
def Dev.linBack (ch : Nat) (d : Dev) : Dev :=
  if (d.schRun ch).cur.isNone && (d.schRun ch).pend.isNone && d.flag (LIN_SCH_CTL_en ch) then d.schCommit ch else d

/-! ### The wake of a segment (R270) -/

/-- The WAKE token of a set: the round is that of the last sleep commit. -/
def Dev.wakeToken (d : Dev) (s : Nat) : Token :=
  { type := 4, set_ := s, origin := d.get WAK_SLEEP_REC_origin, seq := d.get WAK_SLEEP_REC_seq, count := 0,
    sender := d.ownId, t := d.ns }

/-- A sleeping segment wakes: its outputs go on, its ports return, each CAN channel integrating, each LIN schedule starting;
a set that spreads sends WAKE. A segment that is awake is not affected. -/
def Dev.segWake (g : Nat) (d : Dev) : Dev :=
  if !bitAt (d.get WAK_SEG_STAT_asleep) g then d
  else
    let mine := (d.wak.asleepPages.filter (fun e => e.2 == g)).map (·.1)
    let d := { d with wak := { d.wak with asleepPages := d.wak.asleepPages.filter (fun e => e.2 != g) } }
    let d := d.put WAK_SEG_STAT_asleep (setBitTo (d.get WAK_SEG_STAT_asleep) g false)
    let d := d.each (d.segSupens g) (fun n d => d.setSupen n true)
    let d := d.each (mine.filter (fun pg => decide (0x180 ≤ pg ∧ pg < 0x198))) (fun pg d =>
      if d.get (CAN_STAT_state (pg - 0x180)) = 2 then d else d.put (CAN_STAT_state (pg - 0x180)) 3)
    let d := d.each mine (fun pg d => d.refreshPg pg)
    let d := d.each (mine.filter (fun pg => decide (0x198 ≤ pg ∧ pg < 0x1A0))) (fun pg d => d.linBack (pg - 0x198))
    let d := d.raise pgWAK 12
    let sets := (List.range 64).filter (fun s => decide (1 ≤ s) && d.flag (WAK_SET_MAP_spread s) && bitAt (d.get (WAK_SET_MAP_segs s)) g)
    let d := d.each sets (fun s d => d.tokenOnce (d.wakeToken s) none)
    d.syncMode

/-- A frame enqueued toward a sleeping output whose disposition is Wake wakes its segment (R269). -/
def Dev.wakeFor (out c : Nat) (d : Dev) : Dev :=
  match d.sleepSeg out with
  | some g => if d.disposition g c = 2 then d.segWake g else d
  | none => d

end Sys2Proof.Machine
end

