-- ==== Sys2Proof/Machine/Arrive.lean ====
section
/-!
DEFINITION. Steps 1 to 8 of Table 1-4: a frame's arrival, its coins and their charges, the lookup result, the frame check
and the Ledger, the policing decision, the check at ingress, and the entry into the VOQs (R18 to R23, R57, R67 to R73).
-/

namespace Sys2Proof.Machine

/-- The frame of a reception is gone: what is still to come of it is not stored. -/
def Dev.unRx (fid : Nat) (d : Dev) : Dev :=
  { d with eth := { d.eth with rx := d.eth.rx.map (fun e =>
      match e.2 with
      | some r => if r.fid = some fid then (e.1, some { r with fid := none, gone := some fid }) else e
      | none => e) } }

/-- Discard a frame that has not entered its VOQs: its coins return to FREE and its learn event is cancelled where the
frame check failed. -/
def Dev.dropArriving (fid : Nat) (d : Dev) : Dev :=
  (match d.frame fid with
   | some f => (Dev.when f.slipPaid (fun d => d.uncharge true f.domain) d).freeFrame f
   | none => d).unRx fid

/-- A cut-through frame that has entered its VOQs ends bad: its copies end with an invalid frame check (R21). -/
def Dev.endBad (fid : Nat) (d : Dev) : Dev :=
  let d := d.modFrame fid (fun f => { f with check := 2, good := false, tE := some d.now })
  { d with vlt := { d.vlt with tx := d.vlt.tx.map (fun t => if t.fid = fid then { t with bad := true } else t) } }

/-! ### Coins of an arriving frame (R57, R68, R72, R73) -/

/-- One coin granted to a frame is charged to its Account and against its input's headroom. -/
def Dev.chargeArriving (f : Frame) (d : Dev) : Dev := (d.charge f.bus f.domain).countHdrm f

/-- A coin of the Reserve for a frame, charged. -/
def Dev.rsvFor (f : Frame) (d : Dev) : Option (Nat × Dev) :=
  match d.takeCoin .rsv with
  | some (c, d) => some (c, d.chargeArriving f)
  | none => none

/-- The frame's next data coin: from its pool of the Till, and from the Reserve from the first coin that the Till cannot
give, with a descriptor coin (R57). Where neither tier has one, none. -/
def Dev.nextCoin (f : Frame) (pool : Pool) (d : Dev) : Option (Frame × Dev) :=
  let fromRsv (f : Frame) (d : Dev) : Option (Frame × Dev) :=
    match d.rsvFor f with
    | some (c, d) => some ({ f with coins := f.coins ++ [c] }, d)
    | none => none
  if f.desc.isSome then fromRsv f d
  else
    match d.takeCoin pool with
    | some (c, d) => some ({ f with coins := f.coins ++ [c] }, d.chargeArriving f)
    | none =>
      match d.rsvFor f with
      | none => none
      | some (c, d) =>
        let d := d.wr64 VLT_SPILL_LO VLT_SPILL_HI (d.rd64 VLT_SPILL_LO VLT_SPILL_HI + 1)
        fromRsv { f with desc := some c } d

/-- Take n more data coins for a frame. -/
def Dev.moreCoins (pool : Pool) : Nat → Frame → Dev → Option (Frame × Dev)
  | 0, f, d => some (f, d)
  | n + 1, f, d =>
    match d.nextCoin f pool with
    | some (f, d) => Dev.moreCoins pool n f d
    | none => none

/-- Put a frame's record back, as it now stands. -/
def Dev.saveFrame (f : Frame) (d : Dev) : Dev := d.modFrame f.id (fun _ => f)

/-- A frame that finds no free coin in either tier is discarded during arrival; one that cut-through has entered into its
VOQs ends invalidly there (R21, R57). -/
def Dev.noCoin (fid : Nat) (d : Dev) : Dev :=
  match d.frame fid with
  | some f => (if f.queued then (d.endBad fid).unRx fid else d.dropArriving fid).lost 1
  | none => d

/-- Till coins that a frame with more than one reference gains as it arrives count in `MC_PIN` (R75). -/
def Dev.pinMore (f : Frame) (was : List Nat) (d : Dev) : Dev :=
  if f.queued ∧ 1 < f.refs then
    (d.put VLT_MC_PIN_coins (d.get VLT_MC_PIN_coins + (tillCoins f.coins - tillCoins was))).pinChanged
  else d

/-- Store more bytes of an arriving frame. -/
def Dev.storeBytes (fid : Nat) (bs : List Byte) (d : Dev) : Dev :=
  match d.frame fid with
  | none => d
  | some f =>
    let len := f.len + bs.length
    let need := (len + 255) / 256 - f.coins.length
    let f := { f with data := f.data ++ bs, len := len }
    let f0 := f
    match Dev.moreCoins .till need f d with
    | some (f, d) => (d.pinMore f f0.coins).saveFrame f
    | none => (d.saveFrame f0).noCoin fid

/-- The class by which an input's back-pressure is asserted for a frame that is not yet looked up (R72). -/
def Dev.pressClass (d : Dev) (f : Frame) : Nat :=
  if f.inPort = 57 then f.txCls
  else if d.cascade f.inPort then nb f.tag 6 4
  else d.classOf f f.hdr

/-- A frame whose every byte is present: its coins, its charges, and tH and tE now (R57, R211). Its id, none where no coin
was free. -/
def Dev.takeIn (mk : Nat → Frame) (d : Dev) : Option Nat × Dev :=
  let (fid, d) := d.newFrame mk
  match d.frame fid with
  | none => (none, d)
  | some f =>
    let f := { f with domain := d.domainOf f }
    let f := { f with hdrm := bitAt (d.pressedAt f.inPort) (d.pressClass f), reset := d.flag (PG_STATE_in_reset pgFWD),
                      len := f.data.length, tH := some d.now, tE := some d.now, t0 := d.now }
    let f := if f.check = 0 then { f with check := 1 } else f
    match Dev.moreCoins .till ((f.len + 255) / 256) f d with
    | some (f, d) => (some fid, d.saveFrame f)
    | none => (none, (d.saveFrame f).noCoin fid)

/-! ### Bus frames (R57, R69) -/

/-- The stored bytes of a frame record (Table 8-2). -/
def recordBytes (r : BusRecord) : List Byte :=
  let b (c : Bool) (i : Nat) : Nat := if c then 2 ^ i else 0
  let w0 := r.id % 2 ^ 29 + r.fmt % 4 * 2 ^ 29
  let w1 := r.dlc % 16 + b r.fdf 4 + b r.brs 5 + b r.esi 6 + b r.rtr 7 + b r.sec 8 + b r.enh 9 + r.sdt % 256 * 2 ^ 16 +
    r.vcid % 256 * 2 ^ 24
  leBytes 4 w0 ++ leBytes 4 w1 ++ leBytes 4 r.af ++ leBytes 4 r.data.length ++ r.data

/-- The frame record at the head of stored bytes. -/
def recordOf (bs : List Byte) : BusRecord :=
  let w (i : Nat) : Nat := ofLe ((bs.drop (4 * i)).take 4)
  let w1 := w 1
  { id := nb (w 0) 28 0, fmt := nb (w 0) 30 29, dlc := nb w1 3 0, fdf := nbit w1 4, brs := nbit w1 5, esi := nbit w1 6,
    rtr := nbit w1 7, sec := nbit w1 8, enh := nbit w1 9, sdt := nb w1 23 16, vcid := nb w1 31 24, af := w 2,
    data := (bs.drop 16).take (nb (w 3) 11 0) }

/-- A bus controller hands a whole record to the Vault: charged at once, or discarded where its Account's reserved and
shared coins are both exhausted. -/
def Dev.admitBus (p : Nat) (r : BusRecord) (inNs inFrac : Nat) (d : Dev) : Dev :=
  let bs := recordBytes r
  let (fid, d) := d.newFrame (fun i =>
    { id := i, inPort := p, bus := true, record := some r, data := bs, len := bs.length, inNs := inNs, inFrac := inFrac,
      check := 1 })
  match d.frame fid with
  | none => d
  | some f =>
    let k := d.domainOf f
    let n := (f.len + 255) / 256
    let noSlip := d.get VLT_SLIP_FREE_slips == 0
    let inRsv := decide (d.get VLT_BUS_FREE_coins < n) && decide (d.get VLT_TILL_FREE_coins < n)
    if d.busExhausted k (n + (if noSlip || inRsv then 1 else 0)) then
      let d := (d.dropFrame fid).count (VLT_ACCT_DROP k)
      d.raise (pgVLT 1) 9
    else
      let pool := if n ≤ d.get VLT_BUS_FREE_coins then Pool.bus else Pool.till
      let paid := noSlip && !inRsv
      let d := Dev.when paid (fun d => d.chargeBus k 1) d
      let f := { f with domain := k, tH := some d.now, tE := some d.now, t0 := d.now, slipPaid := paid,
                        reset := d.flag (PG_STATE_in_reset pgFWD) }
      match Dev.moreCoins pool n f d with
      | some (f, d) => d.saveFrame f
      | none => (d.saveFrame f).noCoin fid

/-! ### Events of a frame in reception on an Ethernet or Voholt input -/

/-- Bytes ahead of the inner frame on a Voholt-over-Ethernet port: addresses, EtherType and cascade tag (R336). -/
def voxHead : Nat := 22

/-- The frame that a reception makes once enough of it is known; none where it never enters the Vault: on an isolated or
sleeping port, a MAC control frame, and on a vox port a foreign EtherType, a control message, an invalid kind, or a data
frame before the device ID is valid (R161, R165, R336, R337). -/
def Dev.entersVault (d : Dev) (p : Nat) (r : Rx) : Bool :=
  !r.iso && be r.head 12 2 != 0x8808 &&
  (!d.vox p || (be r.head 12 2 == 0x88B5 && nb (ofLe ((r.head.drop 14).take 8)) 3 0 == 1 && d.flag SYS_DEVID_valid))

/-- FRAME_START: the ingress time is captured with its correction (R138). -/
def opFrameStart (p eighth : Nat) (d : Dev) : Dev :=
  if !d.macUp p || (d.rxOf p).isSome || (d.sleepSeg p).isSome || !d.works (pgETH p) then d
  else
    let (ns, fr) := d.ingressTime p eighth
    d.setRx p (some { iso := d.get (PG_STATE_iso (pgETH p)) != 0, press := d.pressedAt p, inNs := ns, inFrac := fr, t0 := d.now,
                      maxLen := d.get (ETH_CFG_max_len p) })

/-- Bytes of a reception that must be known before its frame is: its cascade tag, or what its VLAN tag can stand behind,
addresses and a SecTAG with its SCI. -/
def Dev.rxNeed (d : Dev) (p : Nat) : Nat := if d.vox p then voxHead else 34

/-- The Vault frame of a reception: its slip so far, the domain that bears its charge, and whether its coins count
against the port's headroom (R72); then the bytes it has. -/
def Dev.startFrame (p : Nat) (r : Rx) (bytes : List Byte) (d : Dev) : Dev :=
  let tag := if d.vox p then ofLe ((r.head.drop 14).take 8) else 0
  let (fid, d) := d.newFrame (fun i =>
    { id := i, inPort := p, tag := tag, inNs := r.inNs, inFrac := r.inFrac, t0 := r.t0, data := bytes,
      colour := if d.vox p then nb tag 38 38 else 0, cv0 := d.portStart p r.head })
  let d := d.setRx p (some { r with fid := some fid })
  let d := d.modFrame fid (fun f => { f with domain := d.domainOf f, hdrm := bitAt r.press (d.pressClass f), data := [] })
  d.storeBytes fid bytes

/-- FRAME_DATA_COIN: bytes of the frame in reception arrive. Bytes beyond `max_len` are not stored, and reception stops at
`max_len` + 1 bytes (R158). -/
def opFrameData (p : Nat) (data : List Byte) (d : Dev) : Dev :=
  match d.rxOf p with
  | none => d
  | some r =>
    let off := if d.vox p then voxHead else 0
    let kept := data.take (r.maxLen - r.bytes)
    let was := r.bytes
    let r := { r with bytes := min (r.bytes + data.length) (r.maxLen + 1), head := (r.head ++ data).take 64 }
    let d := d.setRx p (some r)
    if was < d.rxNeed p then
      if r.bytes < d.rxNeed p || !d.entersVault p r then d
      else if r.rst || d.flag (PG_STATE_in_reset pgFWD) then d.setRx p (some { r with rst := true })
      else d.startFrame p r (if off = 0 then r.head.take was ++ kept else kept.drop (off - was))
    else
      match r.fid with
      | some fid => d.storeBytes fid kept
      | none => d

/-- FRAME_HEAD_RECEIVED: tH, the first 128 bytes are in, or the whole of a shorter frame; the lookup is issued. -/
def opFrameHead (p : Nat) (d : Dev) : Dev :=
  match d.rxOf p with
  | some r =>
    (match r.fid with
     | some fid => d.modFrame fid (fun f => if f.tH.isNone then { f with tH := some d.now } else f)
     | none => d)
  | none => d

/-- The cut-through conditions of R21 and R67 that a lookup settles. -/
def Dev.cutThrough (d : Dev) (f : Frame) : Bool :=
  let p := f.inPort
  let wire (x : Nat) : Bool := decide (x < 57) || (decide (58 ≤ x) && decide (x ≤ 61))
  let r := match f.stream with
    | some s => d.stream s
    | none => 0
  wire p && f.tE.isNone && f.frer.isNone && !nbit r 135 && !nbit r 25 && nb r 15 0 == 0 && !d.needsCheck f &&
  bitAt (d.get (QUE_CT_CFG_in_cls p)) f.cls &&
  f.outs.all (fun o => wire o && decide (d.rate o ≤ d.rate p) && bitAt (d.get (QUE_CT_CFG_out_cls o)) f.cls &&
    (d.voq (voqIx p o f.cls)).isEmpty)

/-- Discard a frame at the forwarding engine, counted by its reason (Table 4-3). -/
def Dev.fwdDiscard (fid reason : Nat) (d : Dev) : Dev := (d.dropArriving fid).count (FWD_DISC reason)

/-- Registers at given values: those under which a lookup was issued, and back (R40). -/
def Dev.setRegs (l : List (Nat × Word)) (d : Dev) : Dev := d.each l (fun e d => d.wr e.1 e.2)

/-- LOOKUP_RESULT: the snapshot of the oldest frame of an input that waits for it, 72 CK_FAB cycles after tH (R19, R20);
`pipe` the pipeline, `ue` a table entry found uncorrectable by this lookup (R104). -/
def opLookupResult (p : Nat) (pipe : Bool) (ue : Option TblAt) (d : Dev) : Dev :=
  match d.oldest (fun f => d.flag (PG_CTRL_enable pgFWD) && f.inPort == p && f.tH.isSome && f.tL.isNone) with
  | none => d
  | some f =>
    let d := d.at_ (f.tH.getD 0 + fabT 72)
    let d := match ue with
      | some t => d.tableUe 8 t.table t.index
      | none => d
    if f.reset || d.flag (PG_STATE_in_reset pgFWD) then d.fwdDiscard f.id 0x0A
    else
      let live := f.old.map (fun e => (e.1, d.rd e.1))
      let d := d.setRegs f.old
      let h := f.hdr
      let vid := if f.ethFramed then d.vidOf f h else 0
      let (s, d) := d.lookup f
      let d := d.setRegs live
      let d := (d.countLookup pipe).trace p s
      if s.reason ≠ 0 then d.fwdDiscard f.id s.reason
      else
        let f := (d.frame f.id).getD f
        let f := { f with cls := s.cls, stream := s.stream, ctx := s.ctx, route := s.route, frer := s.frer, outs := s.outs,
                          epoch := d.epoch, vid := vid, pcp := h.pcp, old := [],
                          unt := if f.ethFramed then d.listPorts (nb (d.ent 3 vid) 39 28) else [],
                          tagged := h.vlanTagged, seq := Option.map Prod.fst h.rtag, tL := some d.now }
        let f := { f with needCv := d.needsCheck f, newCv := d.marksNew f, cv0 := d.recordStart f }
        d.saveFrame { f with ct := d.cutThrough f }

/-- How long a frame was, and how it ended (R158). -/
def rxKind (maxLen bytes : Nat) (fcs pcs : Bool) : Nat :=
  if bytes < 64 then (if fcs && !pcs then 18 else 19)
  else if maxLen < bytes then (if fcs && !pcs then 20 else 21)
  else if fcs && !pcs then 0
  else 17

/-- Count a received frame in the Ledger (R167): kind 0 accepted. -/
def Dev.ldgReceived (p kind : Nat) (r : Rx) (d : Dev) : Dev :=
  let d := d.ldg p 1 r.bytes
  if r.iso then d.ldg p 23 1
  else if kind = 0 then
    let d := ((d.ldg p 0 r.bytes).ldg p (2 + daKind r.head) 1).ldg p (8 + lenBin r.bytes) 1
    if be r.head 12 2 = 0x8100 then d.ldg p 24 1 else d
  else d.ldg p kind 1

/-- What the MAC merge sublayer counts of a reception (R167): fragments received, assembly and SMD errors, and the assembly
itself where it had fragments and no error. -/
def Dev.ldgMerge (p frags asmErr smdErr : Nat) (d : Dev) : Dev :=
  if (d.rxOf p).isNone then d
  else
    let d := ((d.ldg p 28 frags).ldg p 25 asmErr).ldg p 26 smdErr
    if frags = 0 ∨ asmErr ≠ 0 then d else d.ldg p 27 1

/-- The frame in reception is discarded, or ended invalidly where it has been forwarded already. -/
def Dev.rejectRx (fid : Nat) (d : Dev) : Dev :=
  match d.frame fid with
  | none => d
  | some f => (if f.queued then d.endBad fid else d.dropArriving fid).cancelLearn fid

/-- The frame in reception is complete and good: its slip has its length and check status. -/
def Dev.acceptRx (fid check : Nat) (d : Dev) : Dev :=
  let now := d.now
  let d := d.modFrame fid (fun f => { f with tE := some now, check := check, tH := if f.tH.isSome then f.tH else some now })
  match d.frame fid with
  | some f => if f.queued then d.each f.allCoins (fun c d => d.holdCoin c) else d
  | none => d

/-- What the end of a reception brings on a port whose headroom ran out: the port isolates, OVERDRAFT is set and the port
captured (R73). -/
def Dev.overdraft (p : Nat) (d : Dev) : Dev :=
  ((d.raise (pgVLT 4) 8).capture (pgVLT 4) 0x10 0 .resetCtl 0 p 0).isoEth p

/-- Ports whose headroom ran out with no frame in reception isolate (R73). -/
def Dev.settle (d : Dev) : Dev :=
  let ports := d.vlt.overdrawn
  ({ d with vlt := { d.vlt with overdrawn := [] } } : Dev).each ports (fun p d =>
    if d.get (PG_STATE_iso (pgETH p)) != 0 then d else d.overdraft p)

/-- FRAME_END: the frame check is evaluated and the slip completed (step 5, R158); a MAC control frame with a good frame
check is consumed by the MAC and counted by its own command (R161). -/
def opFrameEnd (p : Nat) (fcsGood pcsErr : Bool) (d : Dev) : Dev :=
  match d.rxOf p with
  | none => d
  | some r =>
    let d := d.setRx p none
    let kind := rxKind r.maxLen r.bytes fcsGood pcsErr
    let ctl := be r.head 12 2 = 0x8808
    let d := if ctl then d else d.touch p
    let d := if pcsErr then (d.ldg p 22 1).count (PHY_PCS_ERR p) else d
    let d := if ctl ∧ kind = 0 then { d with eth := { d.eth with ctlLen := NMap.set 64 d.eth.ctlLen p r.bytes } }
      else d.ldgReceived p kind r
    let d :=
      if d.vox p && kind == 0 && !ctl && !r.iso then
        if be r.head 12 2 ≠ 0x88B5 then d.count (VHL_VOX_CNT 0 p 2)
        else
          let k := nb (ofLe ((r.head.drop 14).take 8)) 3 0
          if k ≠ 1 ∧ k ≠ 2 then d.count (VHL_VOX_CNT 0 p 0)
          else if k = 1 && !d.flag SYS_DEVID_valid then d.ldg p 23 1 else d
      else d
    let d := match r.fid with
      | some fid =>
        if kind = 0 then
          let tag := match d.frame fid with
            | some f => f.tag
            | none => 0
          d.acceptRx fid (if d.vox p then nb tag 41 39 else 1)
        else d.rejectRx fid
      | none =>
        if kind = 0 then (if r.rst then d.count (FWD_DISC 0x0A) else d)
        else match r.gone with
          | some fid => d.cancelLearn fid
          | none => d
    if r.excess then d.overdraft p else d

/-- POLICING_DECISION: step 6 of the oldest frame of an input that waits for it, 10 ns after its end (after its lookup
result where that is later), or 6 CK_FAB cycles after the lookup result of a cut-through frame (R19). -/
def opPolicing (p ue : Nat) (d : Dev) : Dev :=
  match d.oldest (fun f => d.works (pgTRM 1) && f.inPort == p && f.tL.isSome && f.tP.isNone && (f.ct || f.tE.isSome)) with
  | none => d
  | some f =>
    let tl := f.tL.getD 0
    let d := d.at_ (if f.ct then tl + fabT 6 else max tl (f.tE.getD 0 + fabT 6))
    match d.police f f.seq ue with
    | (none, d) => d.dropArriving f.id
    | (some (col, cls), d) =>
      d.modFrame f.id (fun f => { f with colour := col, cls := cls, tP := some d.now })

/-- The instant of the check result (step 7): 24 CK_FAB cycles after tE, and for a record's MAC its CK_FAB cycles after
the snapshot (R226). -/
def Frame.checkTime (f : Frame) : Nat :=
  match f.record, f.cv0 with
  | some _, some v => f.tL.getD 0 + fabT (cmacCycles v.cfg)
  | _, _ => max (f.tL.getD 0) (f.tE.getD 0 + fabT 24)

/-- The context a frame's check is made under: the one it began with, or the one its snapshot names. -/
def Frame.checkCtx (f : Frame) : Option Nat := (f.cv0.bind (fun v => v.ctx)).or f.ctx

/-- A check that meets an uncorrectable record goes on as without a usable key; one that meets an uncorrectable slot, as
with that slot empty (R233). -/
def CvStart.lose (v : CvStart) (part : Nat) : CvStart :=
  if part = 0 then { v with usable := false }
  else
    let s := v.st.put (part == 2) {}
    { v with st := s, usable := v.usable && (s.s0.st == 1 || s.s0.st == 2 || s.s1.st == 1 || s.s1.st == 2) }

/-- INGRESS_CHECK_VALUE_RESULT: step 7 of the oldest frame of an input that waits for it; `ue` what of its context reads
uncorrectable: the record (0), a slot (1, 2). -/
def opIngressCheck (p : Nat) (ue : Option CvPart) (d : Dev) : Dev :=
  match d.oldest (fun f => d.works pgAUT && f.inPort == p && f.tP.isSome && f.needCv && f.tC.isNone && f.tE.isSome) with
  | none => d
  | some f =>
    let d := d.at_ f.checkTime
    let (f, d) := match ue, f.checkCtx with
      | some k, some c => ({ f with cv0 := f.cv0.map (fun v : CvStart => v.lose k) }, d.contextUe c k)
      | _, _ => (f, d)
    match d.verify f with
    | (.drop, d) => d.dropArriving f.id
    | (.pass st c, d) =>
      d.modFrame f.id (fun f => { f with
        check := st, vctx := c, secAt := Option.map (fun s : SecTag => (s.at_, s.len)) f.hdr.sec, tC := some d.now })

/-- A VOQ whose pointer copies disagree has lost both copies of a next field: its frames are discarded, it is counted and
the Auditor starts a walk (R301, Table 3-7). -/
def Dev.voqReset (q : Nat) (d : Dev) : Dev :=
  let d := d.queueReset 1 q
  let l := d.voq q
  let d := ((d.count VLT_FLUSH).raise (pgVLT 0) 13).lost l.length
  let d := d.each l (fun c d => (d.cutVoq q c).release c.fid)
  d.startWalk

/-- VOQ_ENQUEUE: step 8 of the oldest frame of an input that has passed the steps before it, 5 ns after the latest of
them, or 135 ns after tH for a cut-through frame (R18, R19). -/
def opVoqEnqueue (p : Nat) (mism : Option Nat) (d : Dev) : Dev :=
  match d.oldest (fun f => d.works pgQUE && f.inPort == p && !f.queued && f.tP.isSome && (!f.needCv || f.tC.isSome) &&
      (f.tE.isSome || (f.ct && f.outs.all (fun o => (d.voq (voqIx p o f.cls)).isEmpty)))) with
  | none => d
  | some f =>
    let d := d.at_ (max (max (f.tL.getD 0) (f.tP.getD 0)) (f.tC.getD 0) + fabT 3)
    let d := match mism with
      | some q => d.voqReset q
      | none => d
    let f := { f with ct := f.ct && f.tE.isNone, tQ := d.now }
    let d := Dev.when f.slipPaid (fun d => d.uncharge true f.domain) d
    let d := d.each f.outs (fun o d => d.creditPort o)
    let d := (d.saveFrame { f with slipPaid := false }).enqueue f.id f.outs
    (d.each f.outs (fun o d => d.wakeFor o f.cls)).settle

/-- SPILL_COPY_DONE: the oldest spill copy of a VOQ ends at its time. -/
def opSpillCopyDone (q : Nat) (ue : Bool) (d : Dev) : Dev :=
  match d.vlt.spills.find? (fun s => s.voq == q) with
  | none => d
  | some s => (d.onTimer ⟨.spill, s.fid, 0⟩ (Dev.spillDone s ue)).settle

/-- BACKPRESSURE_REACH_PORT: a change of an input's back-pressure reaches its port and acts there (R70 to R72). -/
def opPressureReach (p : Nat) (d : Dev) : Dev :=
  let s := d.pressureSet p
  if !pressured p || s = d.pressedAt p then d
  else
    let d := { d with vlt := { d.vlt with reached := NMap.set 0 d.vlt.reached p s } }
    let d := if s = 0 ∧ p ≤ 61 then d.put (VLT_HDRM_USE_coins p) 0 else d
    if p < 57 then (d.put (ETH_STAT_bp p) s).fcChanged p
    else if p = 96 then d.put KLW_DEFER_STAT_cls s
    else d

/-! ### The meanings of the commands of this file -/

/-- FRAME_HEAD_RECEIVED (R19). -/
def execFrameHeadReceived (p : Nat) (s : State) : Host.Outcome State Fault Refusal :=
  effectIf (isPort p) (opFrameHead p) s

/-- LOOKUP_RESULT (R20). -/
def execLookupResult (p : Nat) (pipe : Bool) (ue : Option TblAt) (s : State) : Host.Outcome State Fault Refusal :=
  effectIf (isPort p && ue.all TblAt.wf) (opLookupResult p pipe ue) s

/-- POLICING_DECISION (R106). -/
def execPolicingDecision (p : Nat) (ue : Nat) (s : State) : Host.Outcome State Fault Refusal :=
  effectIf (isPort p && decide (ue < 4)) (opPolicing p ue) s

/-- INGRESS_CHECK_VALUE_RESULT (R223). -/
def execIngressCheckValueResult (p : Nat) (ue : Option CvPart) (s : State) : Host.Outcome State Fault Refusal :=
  effectIf (isPort p) (opIngressCheck p ue) s

/-- SPILL_COPY_DONE (R63). -/
def execSpillCopyDone (voq : Nat) (ue : Bool) (s : State) : Host.Outcome State Fault Refusal :=
  effectIf (isVoq voq) (opSpillCopyDone voq ue) s

/-- VOQ_ENQUEUE (R18). -/
def execVoqEnqueue (p : Nat) (mism : Option Nat) (s : State) : Host.Outcome State Fault Refusal :=
  effectIf (isPort p && mism.all isVoq) (opVoqEnqueue p mism) s

end Sys2Proof.Machine
end

