-- ==== Sys2Proof/Machine/Fabric.lean ====
section
/-!
DEFINITION. Writes of the device's own engines to fabric memory (Table 13-4): brace TCM inside the device, the host window
over the bridge, with the range table, the outbound carriage, and the posted-write error log (R311, R312, R319).
-/

namespace Sys2Proof.Machine

/-! ### The posted-write error log (R319) -/

/-- The range entry that covers a fabric address, the lowest-numbered first (R311). -/
def Dev.rangeOf (d : Dev) (a : Nat) : Option Nat :=
  (List.range 16).find? (fun i =>
    let base := d.get (HBR_RANGE_HI_base i) * 2 ^ 32 + d.get (HBR_RANGE_LO_base i) * 2 ^ 12
    d.flag (HBR_RANGE_CFG_en i) && decide (base ≤ a) && decide (a < base + 2 ^ d.get (HBR_RANGE_CFG_log2 i)))

/-- Writes to an address are acknowledged (R311, R312). -/
def Dev.acked (d : Dev) (a : Nat) : Bool :=
  match d.rangeOf a with
  | some i => d.flag (HBR_RANGE_CFG_ack i)
  | none => false

/-- Reads of an address are prefetchable (R311): by default those of MRAM. -/
def Dev.prefetchable (d : Dev) (a : Nat) : Bool :=
  match d.rangeOf a with
  | some i => d.flag (HBR_RANGE_CFG_pf i)
  | none => decide (0x80000000 ≤ a) && decide (a < 0x90000000)

/-- A failed write is recorded (R319), and fails its initiator's next Bridge fence (R49). -/
def Dev.writeFailed (code resp a : Nat) (d : Dev) : Dev :=
  let (range, dflt) := match d.rangeOf a with
    | some i => (i, 0)
    | none => (0, 1)
  let item := 2 ^ 60 + code % 16 * 2 ^ 56 + range * 2 ^ 52 + resp % 16 * 2 ^ 48 + dflt * 2 ^ 47 + a % 2 ^ 40
  let d := if d.hbr.failed.contains code then d else { d with hbr := { d.hbr with failed := d.hbr.failed ++ [code] } }
  if 16 ≤ d.hbr.log.length then d.count (HBR_CNT 12)
  else
    let d := { d with hbr := { d.hbr with log := d.hbr.log ++ [({ item := item, ns := d.ns } : PweItem)] } }
    (d.put HBR_PWE_CNT_items d.hbr.log.length).raise pgHBR 11

/-- The n bytes at a fabric address as an engine reads them: what the device's memory holds, and in the host window what the
host's holds. -/
def Dev.dataAt (d : Dev) (a n : Nat) (host : List Byte) : List Byte :=
  let a := a % 2 ^ 40
  if a < 2 ^ 39 then d.rdBytes a n else fixLen n host

/-- n bytes that the spec leaves open. -/
def Dev.freeBytes (n : Nat) (d : Dev) : List Byte × Dev :=
  (List.range n).foldl (fun (acc : List Byte × Dev) _ =>
    let (x, d) := acc.2.free 8
    (acc.1 ++ [BitVec.ofNat 8 x], d)) ([], d)

/-! ### Outbound accesses (R312, R315) -/

/-- The bridge reaches the host: out of reset, the link in L0, bus mastering enabled, the function in D0. -/
def Dev.hostUp (d : Dev) : Bool :=
  d.flag HBR_STAT_link && d.flag HBR_STAT_bme && !d.hbr.d3 && !d.flag (PG_STATE_in_reset pgHBR)

/-- Why an outbound access of a fabric address fails at once: a response code of Table 15-5. -/
def Dev.outFails (d : Dev) (a : Nat) : Option Nat :=
  if !d.flag HBR_STAT_link || d.flag (PG_STATE_in_reset pgHBR) then some 8
  else if !d.flag HBR_STAT_bme || d.hbr.d3 then some 9
  else if d.get HBR_WIN_SIZE_log2 = 0 ∨ 2 ^ d.get HBR_WIN_SIZE_log2 ≤ a - 2 ^ 39 then some 0xA
  else none

/-- The host address of a fabric address in the window. -/
def Dev.hostAddr (d : Dev) (a : Nat) : Nat := (d.rd64 HBR_WIN_BASE_LO HBR_WIN_BASE_HI + (a - 2 ^ 39)) % 2 ^ 64

/-- The bytes that a brace's read of a host range takes: its dword, or of a prefetchable range its 64-byte block and the next
one, where that one may be prefetched too (R316). -/
def Dev.readSpan (d : Dev) (a : Nat) : Nat :=
  let next := a / 64 * 64 + 64
  if !d.prefetchable a then 4
  else if d.prefetchable next && (d.outFails next).isNone && decide (next < 2 ^ 40) then 128
  else 64

/-- Issue an outbound read of n bytes: its tag is the lowest free one from 32 on, and its completion timeout runs. Tags below 32
stand for the reads of the DMA rings. Where no tag is free the read is not issued. -/
def Dev.outRead (r : OutRead) (n : Nat) (d : Dev) : Option Nat × Dev :=
  match (List.range 224).find? (fun t => (NMap.get none d.hbr.reads (t + 32)).isNone) with
  | none => (none, d)
  | some t =>
    let tag := t + 32
    let (k, d) := d.fresh
    let d := { d with hbr := { d.hbr with reads := NMap.set none d.hbr.reads tag (some { r with serial := k, n := n }) } }
    let d := d.armIn ⟨.cplTmo, tag, 0⟩ (usT (d.get HBR_CPL_TMO_us))
    (some tag, d.emit (.pcieRead tag (d.hostAddr (if n < 64 then r.addr else r.addr / 64 * 64)) n))

/-- An outbound write of an initiator to the host window: posted, and followed by a zero-length read of its last dword
where its range is acknowledged. -/
def Dev.outWrite (code a : Nat) (bs : List Byte) (d : Dev) : Dev :=
  match d.outFails a with
  | some resp => d.writeFailed code resp a
  | none =>
    let d := d.emit (.pcieWrite (d.hostAddr a) bs)
    if d.acked a then (d.outRead { by_ := code, addr := a + (bs.length - 1) / 4 * 4, ack := true } 0).2 else d

/-- Write bytes at a fabric address: into memory below the host window, outbound inside it. -/
def Dev.fabWrite (code a : Nat) (bs : List Byte) (d : Dev) : Dev :=
  if a < 2 ^ 39 then d.wrBytes a bs else d.outWrite code a bs

end Sys2Proof.Machine
end

