-- ==== Sys2Proof/Machine/Pick.lean ====
section
/-!
DEFINITION. What picking a frame for an output needs whatever the output: deficit round robin, ageing, the frame's form
as it leaves (R113, R159, R160, R224, R330, R331, R336), memory errors met at read-out (R80), and the discards of the
egress point (R23).
-/

namespace Sys2Proof.Machine

/-! ### Deficit round robin (R62) -/

/-- The VOQs of an output and class that a frame can be taken from, in input order. -/
def Dev.offers (d : Dev) (out c : Nat) : List Nat :=
  (d.vlt.voqs.filter (fun e => e.1 / 8 % 128 == out && e.1 % 8 == c && d.offered e.1)).map (·.1)

/-- The stored length of the frame at the head of a VOQ. -/
def Dev.headLen (d : Dev) (q : Nat) : Nat :=
  match d.voq q with
  | [] => 0
  | c :: _ => match d.frame c.fid with
    | some f => f.len
    | none => 0

/-- The place of a round-robin pointer among the credits. -/
def drrPtr (out c : Nat) : Nat := 2 ^ 17 + out * 8 + c

/-- Walk the round from a VOQ on: each VOQ that the round comes to gains the quantum, and the first whose credit covers
its head frame is taken and charged. -/
def drrWalk (len : Nat → Nat) (quantum : Nat) (qs : List Nat) :
    Nat → Nat → Bool → NMap Nat → Option (Nat × NMap Nat)
  | 0, _, _, _ => none
  | n + 1, at_, visited, cr =>
    match (qs.find? (fun q => decide (at_ ≤ q / 1024))).or qs.head? with
    | none => none
    | some q =>
      let cr := if visited && q / 1024 == at_ then cr else NMap.set 0 cr q (NMap.get 0 cr q + quantum)
      if len q ≤ NMap.get 0 cr q then some (q, NMap.set 0 cr q (NMap.get 0 cr q - len q))
      else drrWalk len quantum qs n (q / 1024 + 1) false cr

/-- The VOQ that deficit round robin takes among those given, and the state with its credit charged. A VOQ that holds no
frame keeps no credit. -/
def Dev.drrTake (out c : Nat) (qs : List Nat) (d : Dev) : Option (Nat × Dev) :=
  let p := NMap.get 0 d.vlt.drr (drrPtr out c)
  let empty := (d.vlt.drr.filter (fun e => decide (e.1 < 2 ^ 17) && e.1 / 8 % 128 == out && e.1 % 8 == c &&
    (d.voq e.1).isEmpty)).map (·.1)
  let cr := empty.foldl (fun m q => NMap.set 0 m q 0) d.vlt.drr
  match drrWalk d.headLen (d.get QUE_DRR_Q_bytes) qs 4000 (p / 2) (p % 2 == 1) cr with
  | none => none
  | some (q, cr) =>
    some (q, { d with vlt := { d.vlt with drr := NMap.set 0 cr (drrPtr out c) (q / 1024 * 2 + 1) } })

/-! ### The form of a frame as it leaves -/

/-- Remove n bytes at a place. -/
def cutBytes (at_ n : Nat) (bs : List Byte) : List Byte := bs.take at_ ++ bs.drop (at_ + n)

/-- Insert bytes at a place. -/
def spliceBytes (at_ : Nat) (x bs : List Byte) : List Byte := bs.take at_ ++ x ++ bs.drop at_

/-- The body without the SecTAG and ICV of a frame that was verified or passed marked (R224). -/
def Frame.bare (f : Frame) : List Byte :=
  match f.hdr.sec, f.vctx with
  | some t, some _ => cutBytes t.at_ t.len (f.body.take (t.dataEnd f.body))
  | _, _ => f.body

/-- The R-TAG of a frame in a recognised position is removed at a port with `strip` (R113). -/
def Dev.stripped (d : Dev) (out : Nat) (bs : List Byte) : List Byte :=
  if out < 57 ∧ d.flag (TRM_EGR_CFG_strip out) then
    match (parseHdr bs false).rtag with
    | some (_, q) => cutBytes q 6 bs
    | none => bs
  else bs

/-- The VLAN tag that a frame leaves an output with (R160, R109): none where its VLAN lists the output as untagged. -/
def Dev.egressTag (d : Dev) (out : Nat) (f : Frame) (h : Hdr) : List Byte :=
  if f.unt.contains out then []
  else
    let pcp := if f.tagged then f.pcp
      else if out < 57 then nb (d.get (ETH_EGR_PCP_pcp out)) (3 * f.cls + 2) (3 * f.cls)
      else f.cls
    let was := match h.tag with
      | some (_, dei, _) => dei
      | none => false
    let dei := was || (decide (out < 57) && d.flag (TRM_EGR_CFG_dei_mark out) && f.colour == 1)
    beBytes 2 0x8100 ++ beBytes 2 (pcp * 8192 + (if dei then 4096 else 0) + f.vid)

/-- The frame with its VLAN tag for an output; frames that Kalow built and frames sent by direct choice are not tagged
by the egress. -/
def Dev.retagged (d : Dev) (out : Nat) (f : Frame) (bs : List Byte) : List Byte :=
  if f.inPort = 96 ∨ f.direct.isSome then bs
  else
    let h := parseHdr bs false
    let bs := match h.tag with
      | some _ => cutBytes h.tagAt 4 bs
      | none => bs
    spliceBytes 12 (d.egressTag out f h) bs

/-- A record without its trailer where its verify context removes it at read-out (R226). -/
def Dev.trimmed (d : Dev) (f : Frame) (r : BusRecord) : BusRecord :=
  match f.ctx with
  | some c =>
    let x := d.ctx c
    if ctxFmt x = 3 ∧ nbit x 123 then { r with data := r.data.take (nb x 107 96) } else r
  | none => r

/-- A frame as an output sends it: an Ethernet-framed one before a new check value, padding and the frame check; a record
without the trailer that is removed at read-out. -/
def Dev.shape (d : Dev) (out : Nat) (f : Frame) : List Byte :=
  if f.ethFramed then d.retagged out f (d.stripped out f.bare)
  else match f.record with
    | some r => recordBytes (d.trimmed f r)
    | none => f.data

/-- The context that writes a new check value into a frame at an Ethernet port (R224); bypass frames keep none. -/
def Dev.txSec (d : Dev) (out : Nat) (bs : List Byte) : Option Nat :=
  if out < 57 ∧ !d.vox out ∧ d.flag (AUT_PORT_tx_en out) then
    let et := (parseHdr bs false).etype
    if et = 0x888E ∨ et = 0x8808 ∨ (et = 0x88F7 ∧ d.flag (AUT_PORT_bypass_ptp out)) then none
    else some (d.get (AUT_PORT_tx_ctx out))
  else none

/-- Pad a frame without its frame check to 60 bytes (R159). -/
def pad60 (bs : List Byte) : List Byte := bs ++ List.replicate (60 - bs.length) 0

/-- The hops a frame leaves a cascade link with; none where they are exhausted (R331). -/
def Dev.hopsOut (d : Dev) (f : Frame) : Option Nat :=
  if d.cascade f.inPort then (if nb f.tag 20 11 = 0 then none else some (nb f.tag 20 11 - 1))
  else some (d.get (VHL_VC_CFG_hop_max 0))

/-- The cascade tag a link port builds (Table 16-1, R331). -/
def Dev.linkTag (d : Dev) (f : Frame) (hops : Nat) : List Byte :=
  let src := if d.cascade f.inPort then nb f.tag 37 21 else d.ownId * 128 + f.inPort
  leBytes 8 (1 + f.cls * 2 ^ 4 + f.domain * 2 ^ 7 + hops * 2 ^ 11 + src * 2 ^ 21 + f.colour % 2 * 2 ^ 38 +
    f.check % 8 * 2 ^ 39)

/-- A cascade frame without its check: on a link of its own, or in an Ethernet frame on a vox port (R330, R336). -/
def Dev.linkForm (d : Dev) (out : Nat) (f : Frame) (hops : Nat) (inner : List Byte) : List Byte :=
  let body := d.linkTag f hops ++ inner
  if d.vox out then
    beBytes 6 (d.get (VHL_VOX_DA_HI_mac 0 out) * 2 ^ 32 + (d.rd (VHL_VOX_DA_LO 0 out)).toNat) ++
      beBytes 6 (d.portMac out) ++ beBytes 2 0x88B5 ++ body
  else body

/-- Bytes a new check value adds. -/
def Dev.secBytes (d : Dev) (c : Nat) : Nat := (if nbit (d.ctx c) 99 then 16 else 8) + 16

/-- The longest a frame still arriving can become: its port's longest, as it stood at its start (R40, R120). -/
def Dev.rxMax (d : Dev) (f : Frame) : Nat :=
  match d.rxOf f.inPort with
  | some r => if r.fid = some f.id then r.maxLen else 9216
  | none => 9216

/-- The egress length of a frame at an output, frame check included (R120, R159); a frame still arriving counts as its
port's longest. -/
def Dev.egressLen (d : Dev) (out : Nat) (f : Frame) : Nat :=
  let bs := d.shape out f
  let n := if f.tE.isSome then bs.length else d.rxMax f - 4
  let n := match d.txSec out bs with
    | some c => n + d.secBytes c
    | none => n
  if 58 ≤ out ∧ out ≤ 61 then n + 12
  else if d.vox out then max 64 (n + 26)
  else max 64 (n + 4)

/-- A frame with its new check value, where it has one, as it leaves a wire output without its frame check. -/
def Dev.wireBytes (d : Dev) (out : Nat) (f : Frame) (g : Option CvGen) : List Byte :=
  let bs := d.shape out f
  let bs := match g with
    | some g => g.frame bs
    | none => bs
  if d.cascade out then d.linkForm out f ((d.hopsOut f).getD 0) bs else pad60 bs

/-- The check value that a frame picked for a wire output gets; the counter of its discard where its context cannot
generate one. -/
def Dev.takeCv (out : Nat) (f : Frame) (d : Dev) : (Nat ⊕ Option CvGen) × Dev :=
  match d.txSec out (d.shape out f) with
  | none => (.inr none, d)
  | some c =>
    match d.takePn c with
    | (.inl n, d) => (.inl n, d)
    | (.inr g, d) => (.inr (some g), d)

/-- The frame check as sent; a frame ended invalidly carries its one's complement (R159). -/
def checkBytes (bs : List Byte) (bad : Bool) : List Byte :=
  if bad then leBytes 4 (2 ^ 32 - 1 - crc32 bs) else fcsOf bs

/-! ### Discards at the egress point (R23) -/

/-- The copy at the head of a VOQ is discarded, counted by `count`. -/
def Dev.dropHead (q : Nat) (count : Dev → Dev) (d : Dev) : Dev :=
  match d.voq q with
  | [] => d
  | c :: _ => (count (d.popVoq q)).release c.fid

/-- Count one frame discarded by the drain of an output (R155, R165, R184, R191, R325, R344). -/
def Dev.countDrain (out : Nat) (d : Dev) : Dev :=
  if out < 57 then d.ldg out 49 1
  else if out = 57 then d.count (HBR_CNT 5)
  else if 58 ≤ out ∧ out ≤ 61 then d.count (VHL_CNT (out - 58) 10)
  else if 64 ≤ out ∧ out ≤ 87 then d.count (CAN_CNT (out - 64) 13)
  else if 88 ≤ out ∧ out ≤ 95 then d.count (LIN_CNT (out - 88) 10)
  else d

/-- The first discard of an Ethernet port's drain raises DRAIN (R155). -/
def Dev.saidDrain (out : Nat) (d : Dev) : Dev :=
  if out < 57 && d.drains out && !d.eth.drainSaid.contains out then
    ({ d with eth := { d.eth with drainSaid := d.eth.drainSaid ++ [out] } } : Dev).raise (pgETH out) 11
  else d

/-- Count a copy that ages out where the host ring page counts it as well (Table 15-9). -/
def Dev.agedOut (q : Nat) (d : Dev) : Dev :=
  let d := d.holdDiscard q
  if q / 8 % 128 = 57 then d.count (HBR_CNT 6) else d

/-! ### Memory errors at read-out (R80, Table 3-7) -/

/-- The head of a VOQ is lost to a memory error before it starts. -/
def Dev.lostHead (q out : Nat) (d : Dev) : Dev := d.dropHead q (fun d => (d.lost 1).ldg out 55 1)

/-- A frame leaves the Vault with its coins left to the walk; its Account is reduced by n of them. -/
def Dev.leakFrame (n : Nat) (f : Frame) (d : Dev) : Dev :=
  let d := d.abandonSpill f.id
  let d := d.each (List.range n) (fun _ d => d.uncharge f.bus f.domain)
  d.dropFrame f.id

/-- The frame at the head of a VOQ leaves every VOQ, and its coins are left to the walk (link word or coin list
uncorrectable): its Account is reduced by its slip's coin count, the data coins (Table 3-7). -/
def Dev.leakHead (q : Nat) (f : Frame) (d : Dev) : Dev :=
  let d := if 1 < f.refs then d.pin f false else d
  let d := d.popVoq q
  let d := d.each d.vlt.voqs (fun e d => d.each (e.2.filter (fun c => c.fid == f.id)) (fun c d => d.cutVoq e.1 c))
  d.leakFrame f.coins.length f

/-- Both copies of a next field are lost: the frame and every later frame of the VOQ are discarded, their coins left to
the walk where no other copy holds them. -/
def Dev.flushVoq (q : Nat) (d : Dev) : Dev :=
  let l := d.voq q
  let d := ((d.count VLT_FLUSH).raise (pgVLT 0) 13).lost l.length
  let d := d.each l (fun c d =>
    let d := d.cutVoq q c
    match d.frame c.fid with
    | some f => if f.refs ≤ 1 then d.leakFrame f.allCoins.length f else d.release c.fid
    | none => d)
  d.startWalk

/-- The memory that the k-th coin of a frame lives in: its region, the counter of its errors, and the coin's first unit. -/
def Frame.home (f : Frame) (k : Nat) : Nat × Nat × Nat :=
  let c := f.coins.getD k (f.coins.headD 0)
  if inTill c then (0, VLT_TILL_PE, c * 32) else (1, VLT_RSV_UE, c * 2)

/-- The unit of a word of a copy's slip: on-die, or in its descriptor coin (Table 3-3, Table 14-2). -/
def slipUnit (f : Frame) (c : Copy) (word : Nat) : Nat × Nat :=
  match c.slip with
  | some s => (3, 4 * s + word)
  | none => (1, 2 * c.slipCoin.getD (f.desc.getD 0))

/-- The unit of the link word of a frame's first coin, or of its coin list (R58, Table 14-2). -/
def Frame.linkUnit (f : Frame) : Nat × Nat :=
  let c := f.coins.headD 0
  if inTill c then (2, c) else (1, 2 * f.desc.getD c)

/-- The context that writes a new check value into a copy for an output (R224, R226). -/
def Dev.genCtx (d : Dev) (out : Nat) (f : Frame) : Option Nat :=
  if out < 57 then d.txSec out (d.shape out f)
  else if 64 ≤ out ∧ out ≤ 95 ∧ f.newCv then
    f.ctx.map (fun c => if ctxFmt (d.ctx c) = 3 then nb (d.ctx c) 155 144 else c)
  else none

/-- What a memory error met at the pick of the head of a VOQ does; the answer tells whether the frame still starts, and
whether it starts to end invalidly. -/
def Dev.meetErr (q out : Nat) (f : Frame) (e : Option VaultErr) (d : Dev) : Option Bool × Dev :=
  let go (d : Dev) : Option Bool × Dev := if f.poison then (none, d.lostHead q out) else (some false, d)
  let slip (w : Nat) : Nat × Nat := (((d.voq q).head?).map (fun c => slipUnit f c w)).getD (3, w)
  match e with
  | none => go d
  | some (.cipher part) => go (match d.genCtx out f with
    | some c => d.contextUe c part
    | none => d)
  | some .corrected => go (if f.coins.all inTill then d else (d.count VLT_RSV_CE).correctable 1)
  | some .nextOne => go (((d.count VLT_SLIP_UE).raise (pgVLT 0) 12).uncorrectable (slip 3).1 (slip 3).2 8)
  | some (.data started k) =>
    let (region, cnt, u) := f.home k
    if f.poison then (none, d.lostHead q out)
    else
      let d := ((d.count cnt).raise (pgVLT 0) 12).uncorrectable region u 8
      let d := d.modFrame f.id (fun f => { f with poison := true })
      if started then (some true, d.lost 1) else (none, d.lostHead q out)
  | some .slip =>
    let d := ((d.count VLT_SLIP_UE).raise (pgVLT 0) 12).uncorrectable (slip 0).1 (slip 0).2 8
    (none, d.lostHead q out)
  | some .nextBoth => (none, ((d.raise (pgVLT 0) 12).uncorrectable (slip 3).1 (slip 3).2 8).flushVoq q)
  | some .link =>
    let d := (((d.count VLT_LINK_UE).raise (pgVLT 0) 12).uncorrectable f.linkUnit.1 f.linkUnit.2 8).lost 1
    (none, (d.leakHead q f).startWalk)

/-! ### When an output can be picked for -/

/-- The instant of the next pick of an output: not before it is free, and one scheduler cycle after the enqueue of the
newest frame that decided nothing yet (R18, R19). -/
def Dev.pickTime (d : Dev) (out : Nat) : Nat := max d.now (NMap.get 0 d.vlt.free out)

/-- The scheduler sees a frame 5 ns after it was enqueued. -/
def Dev.seen (d : Dev) (q : Nat) : Bool :=
  match d.voq q with
  | [] => false
  | c :: _ => match d.frame c.fid with
    | some f => decide (f.tQ + nsT 5 ≤ d.now)
    | none => false

/-- The instant at which the first frame of an output can be seen, where none is seen now. -/
def Dev.firstSeen (d : Dev) (out : Nat) : Nat :=
  let heads := d.vlt.voqs.filter (fun e => e.1 / 8 % 128 == out)
  let ts := heads.filterMap (fun e => match e.2 with
    | [] => none
    | c :: _ => Option.map (fun f : Frame => f.tQ + nsT 5) (d.frame c.fid))
  match ts with
  | [] => d.now
  | t :: rest => rest.foldl min t

/-- Move the clock to the first instant at which an output can be picked for. -/
def Dev.toPick (out : Nat) (d : Dev) : Dev := d.at_ (max (d.pickTime out) (d.firstSeen out))

/-- The VOQs of an output and class whose head the scheduler sees. -/
def Dev.heads (d : Dev) (out c : Nat) : List Nat := (d.offers out c).filter d.seen

/-- The output is busy for n bytes at its rate from a pick at the present instant, preamble and gap included. -/
def Dev.occupy (out n : Nat) (d : Dev) : Dev :=
  { d with vlt := { d.vlt with free := NMap.set 0 d.vlt.free out (d.now + d.bitTime out ((n + 20) * 8)) } }

/-- What becomes of a class at an output whose port sleeps (R269): held, or dropped. -/
def Dev.sleeping (d : Dev) (out c : Nat) : Option Nat :=
  match d.sleepSeg out with
  | some g => some (d.disposition g c)
  | none => none

/-- The highest class for which a choice is made. -/
def highest (f : Nat → Option (Nat × Dev)) : Option (Nat × Nat × Dev) :=
  [7, 6, 5, 4, 3, 2, 1, 0].findSome? (fun c => (f c).map (fun r => (c, r.1, r.2)))

end Sys2Proof.Machine
end

