-- ==== Sys2Proof/Machine/Host.lean ====
section
/-!
DEFINITION. The host bridge's own traffic (chapter 15): the link and its configuration, MSI-X, semaphores, the log window,
and the host rings of port 57; and the rings of port 97 (R289). Host accesses and outbound accesses are in
HostAccess.lean.
-/

namespace Sys2Proof.Machine

/-! ### MSI-X (R317) -/

/-- Send the pending messages that can be sent, in the order raised. -/
def Dev.flushMsix (d : Dev) : Dev :=
  let (go, stay) := d.hbr.pba.partition d.canMsix
  let d := { d with hbr := { d.hbr with pba := stay } }
  d.each go (fun v d => d.emit (.msix v))

/-- A vector is unmasked. -/
def Dev.unmaskVec (v : Nat) (d : Dev) : Dev :=
  ({ d with hbr := { d.hbr with masked := d.hbr.masked.filter (· != v) } } : Dev).flushMsix

/-- MSIX_UNMASK. -/
def opMsixUnmask (what : Unmask) (d : Dev) : Dev :=
  match what with
  | .vector v => d.unmaskVec v
  | .function => (d.put HBR_STAT_fmask 0).flushMsix
  | .enable => (d.put HBR_STAT_msix_en 1).flushMsix

/-! ### Semaphores (R318) -/

/-- Free a semaphore. -/
def Dev.semFree (n : Nat) (d : Dev) : Dev := (d.put (HBR_SEM_holder n) 0xF).cancel ⟨.sem, n, 0⟩

/-- Free every semaphore of a holder that has gone; each release is counted. -/
def Dev.semGone (code : Nat) (d : Dev) : Dev :=
  d.each ((List.range 32).filter (fun n => d.get (HBR_SEM_holder n) == code)) (fun n d => (d.semFree n).count (HBR_CNT 11))

/-- SEM_READ: the value returned holds `got` and the holder after the read. -/
def opSemRead (i : Initiator) (n : Sem) (d : Dev) : Dev :=
  d.access i (fun d =>
    let h := d.get (HBR_SEM_holder n)
    if h = 0xF then
      let d := (d.put (HBR_SEM_holder n) (iniCode i)).armIn ⟨.sem, n, 0⟩ (msT (d.get HBR_SEM_TMO_ms))
      d.emit (.readValue i (HBR_SEM n) (BitVec.ofNat 32 (2 ^ 31 + iniCode i * 2 ^ 16)))
    else d.emit (.readValue i (HBR_SEM n) (BitVec.ofNat 32 (h * 2 ^ 16))))

/-- SEM_RELEASE: a write with `release` 1. -/
def opSemRelease (i : Initiator) (n : Sem) (d : Dev) : Dev :=
  d.access i (fun d =>
    if d.get (HBR_SEM_holder n) = iniCode i then d.semFree n
    else d.ignoredErr pgHBR i (0x300 + 4 * n) (2 ^ 31))

/-- SEM_TIMEOUT. -/
def opSemTimeout (n : Sem) (d : Dev) : Dev :=
  d.onTimer ⟨.sem, n, 0⟩ (fun d => ((d.semFree n).count (HBR_CNT 11)).raise pgHBR 13)

/-! ### The log window (R319) -/

/-- PWE_READ: a read of `PWE_LO` removes the head item and latches the rest of it; an empty log reads the idle item. -/
def opPweRead (i : Initiator) (d : Dev) : Dev :=
  d.access i (fun d =>
    match d.hbr.log with
    | [] => ((d.wr HBR_PWE_LO 0).wr HBR_PWE_HI 0xF0000000).emit (.readValue i HBR_PWE_LO 0)
    | x :: rest =>
      let d := { d with hbr := { d.hbr with log := rest } }
      let d := d.put HBR_PWE_CNT_items rest.length
      let d := ((d.wr64 HBR_PWE_LO HBR_PWE_HI x.item).wr64 HBR_PWE_T_LO HBR_PWE_T_HI x.ns)
      d.emit (.readValue i HBR_PWE_LO (BitVec.ofNat 32 x.item)))

/-! ### Host rings (R321 to R325) -/

/-- A ring's index: transmit ring c, receive ring c. -/
def hRing (tx : Bool) (c : Nat) : Nat := if tx then c else 8 + c

def Dev.hSize (d : Dev) (r : Nat) : Nat := 2 ^ (max 4 (min 12 (d.get (HBR_RING_CFG_log2 r))))
def Dev.hHead (d : Dev) (r : Nat) : Nat := d.get (HBR_RING_HEAD_index r)

/-- The ring has a descriptor between HEAD and TAIL. -/
def Dev.hPosted (d : Dev) (r : Nat) : Bool :=
  decide (d.hHead r % d.hSize r ≠ d.get (HBR_RING_TAIL_index r) % d.hSize r)

/-- The ring runs: enabled and not halted, and the host within reach. -/
def Dev.hRuns (d : Dev) (r : Nat) : Bool :=
  d.hostUp && d.inService pgHBR && d.flag (HBR_RING_CFG_en r) && !d.flag (HBR_RING_STAT_halted r)

/-- The host address of the descriptor at HEAD. -/
def Dev.hAddr (d : Dev) (r : Nat) : Nat :=
  d.get (HBR_RING_BASE_HI_base r) * 2 ^ 32 + d.get (HBR_RING_BASE_LO_base r) * 8 + d.hHead r * 32

def Dev.hAdvance (r : Nat) (d : Dev) : Dev := d.put (HBR_RING_HEAD_index r) ((d.hHead r + 1) % d.hSize r)

/-- A ring halts (R324). A halt that concerns its descriptor passes it, so that a resume starts at the next one. -/
def Dev.hHalt (r cause : Nat) (pass : Bool) (d : Dev) : Dev :=
  if d.flag (HBR_RING_STAT_halted r) then d
  else
    let d := ((d.put (HBR_RING_STAT_halted r) 1).put (HBR_RING_STAT_cause r) cause).put (HBR_RING_STAT_at r) (d.hHead r)
    (Dev.when pass (fun d => d.hAdvance r) d).raise pgHBR 10

/-- A ring's message: its own vector, or RX_DONE or TX_DONE. -/
def Dev.hMessage (r : Nat) (d : Dev) : Dev :=
  if d.flag (HBR_RING_CFG_vec_en r) then d.sendMsix (d.get (HBR_RING_CFG_vec r)) else d.raise pgHBR (if r < 8 then 9 else 8)

/-- The bytes of a transmit descriptor at its write-back. -/
def txDescBytes (x : HostDesc) (status : Nat) : List Byte :=
  let b (c : Bool) (i : Nat) : Nat := if c then 2 ^ i else 0
  leBytes 4 (b x.irq 30 + b x.tsEvent 29 + b x.direct 28 + x.len % 2 ^ 14) ++
  leBytes 4 (x.port % 128 + x.domain % 16 * 2 ^ 7 + x.cls % 8 * 2 ^ 11 + status * 2 ^ 24) ++
  leBytes 8 x.buf ++ List.replicate 16 0

/-- The bytes of a receive descriptor at its write-back. -/
def rxDescBytes (f : Frame) (cls n buf : Nat) (irq : Bool) (status : Nat) : List Byte :=
  leBytes 4 ((if irq then 2 ^ 30 else 0) + n % 2 ^ 14) ++
  leBytes 4 (f.inPort + f.domain * 2 ^ 7 + cls * 2 ^ 11 + f.check % 8 * 2 ^ 16 + status * 2 ^ 24) ++
  leBytes 8 buf ++ leBytes 8 f.inNs ++ leBytes 2 f.inFrac ++ List.replicate 6 0

/-- The stored bytes of a frame that a ring sends, its record where it is directed to a CAN or LIN port. -/
def ringBytes (direct : Bool) (port n : Nat) (data : List Byte) : List Byte × Option BusRecord :=
  let bs := fixLen n data
  if direct ∧ 64 ≤ port ∧ port ≤ 95 then
    let r := recordOf bs
    (recordBytes r, some r)
  else
    let bs := pad60 bs
    (bs ++ fcsOf bs, none)

/-- A ring's frame enters the Vault (R321, R289). -/
def Dev.ringAdmit (inp c : Nat) (direct tsEvent : Bool) (port domain cls n : Nat) (data : List Byte) (d : Dev) : Option Nat × Dev :=
  let (bs, rec) := ringBytes direct port n data
  d.takeIn (fun i =>
    { id := i, inPort := inp, txCls := c, data := bs, len := bs.length, record := rec, tsEvent := tsEvent,
      inNs := d.ns, inFrac := (d.tq % 65536).toNat,
      direct := if direct then some (port % 128, cls % 8, domain % 16) else none })

/-- HOST_TX_DESC_FETCH: the descriptor at HEAD of transmit ring c has been fetched and its buffer read. -/
def opHostTxFetch (c : Class) (x : HostDesc) (data : List Byte) (d : Dev) : Dev :=
  if !d.hRuns c || !d.hPosted c || !x.own || (NMap.get none d.hbr.txBusy c).isSome || bitAt (d.pressedAt 57) c then d
  else if x.len = 0 ∨ 9216 < x.len then
    (d.emit (.pcieWrite (d.hAddr c) (txDescBytes x 4))).hHalt c 4 true
  else
    let (_, d) := d.ringAdmit 57 c x.direct x.tsEvent x.port x.domain x.cls x.len data
    { d with hbr := { d.hbr with txBusy := NMap.set none d.hbr.txBusy c (some x) } }

/-- HOST_TX_FRAME_DONE: write-back, HEAD, then the message (R321). -/
def opHostTxDone (c : Class) (d : Dev) : Dev :=
  match NMap.get none d.hbr.txBusy c with
  | none => d
  | some x =>
    let d := { d with hbr := { d.hbr with txBusy := NMap.set none d.hbr.txBusy c none } }
    let d := (d.emit (.pcieWrite (d.hAddr c) (txDescBytes x 0))).hAdvance c
    let d := (d.count (HBR_CNT 0)).add ⟨HBR_CNT 1, 31, 0⟩ x.len
    if x.irq then d.hMessage c else d

/-- The copy being written to host memory by receive ring c. -/
def Dev.hostTx (d : Dev) (c : Nat) : Option Tx := d.vlt.tx.find? (fun t => t.out == 57 && t.cls == c)

def Dev.dropTx (t : Tx) (d : Dev) : Dev :=
  { d with vlt := { d.vlt with tx := d.vlt.tx.filter (fun u => decide (u ≠ t)) } }

/-- A copy in transfer to the host is lost (R324). -/
def Dev.hostLose (t : Tx) (d : Dev) : Dev := ((d.dropTx t).release t.fid).count (HBR_CNT 5)

/-- HOST_RX_WRITE_DONE: the frame is in its buffer, its descriptor is written back, HEAD advances, then the message; a
write that failed discards the frame and halts the ring; a descriptor without own 1 takes no frame (R322, R324). -/
def opHostRxDone (c : Class) (x : HostDesc) (status : CplStatus) (d : Dev) : Dev :=
  match (if x.own then d.hostTx c else none) with
  | none => d
  | some t =>
    let r := hRing false c
    let fails : Option Nat :=
      if !d.hostUp then some 5
      else match status with
        | .ok => none
        | .poisoned => some 1
        | _ => some 3
    match fails with
    | some 5 => (d.hostLose t).hHalt r 5 false
    | some k =>
      let d := d.writeFailed 7 (if status = .unsupported then 0xB else 0xC) x.buf
      let d := d.emit (.pcieWrite (d.hAddr r) (match d.frame t.fid with
        | some f => rxDescBytes f c 0 x.buf x.irq k
        | none => []))
      (d.hostLose t).hHalt r k true
    | none =>
      let d := d.emit (.pcieWrite x.buf t.data)
      let d := match d.frame t.fid with
        | some f => d.emit (.pcieWrite (d.hAddr r) (rxDescBytes f c t.data.length x.buf x.irq 0))
        | none => d
      let d := (d.hAdvance r).dropTx t
      let d := ((d.release t.fid).count (HBR_CNT 2)).add ⟨HBR_CNT 3, 31, 0⟩ t.data.length
      if x.irq then d.hMessage r else d

/-- HOST_RING_RESUME: a write of `CTL.resume`; a halt for the link clears by itself (R324). -/
def opHostResume (i : Initiator) (tx : Bool) (c : Class) (d : Dev) : Dev :=
  d.access i (fun d =>
    let r := hRing tx c
    if d.get (HBR_RING_STAT_cause r) = 5 then d
    else (d.put (HBR_RING_STAT_halted r) 0).put (HBR_RING_STAT_cause r) 0)

/-! ### The host out of reach (R324 to R326) -/

/-- Rings halt with cause 0x05: their frames in transfer are kept in the Vault, or lost on the way to the host. -/
def Dev.ringsLost (rings : List Nat) (d : Dev) : Dev :=
  d.each rings (fun r d =>
    let busy := r < 8 ∧ (NMap.get none d.hbr.txBusy r).isSome
    let d := d.hHalt r 5 (decide busy)
    if busy then { d with hbr := { d.hbr with txBusy := NMap.set none d.hbr.txBusy r none } }
    else if 8 ≤ r then (match d.hostTx (r - 8) with
      | some t => d.hostLose t
      | none => d)
    else d)

/-- An outbound read ends without data: a brace takes a fault, a table DMA ring halts. -/
def Dev.readFails (r : OutRead) (cause : Nat) (d : Dev) : Dev :=
  if r.by_ < 2 then d.emit (.braceFault r.by_ r.addr r.ack)
  else if r.by_ = 4 then
    d.each [0, 1] (fun c d =>
      if d.flag (TBL_RING_STAT_halted c) || !d.flag (TBL_RING_CTRL_en c) then d
      else
        (((d.put (TBL_RING_STAT_halted c) 1).put (TBL_RING_STAT_cause c) cause).put (TBL_RING_STAT_at c)
          (d.get (TBL_RING_HEAD_index c))).raise pgTBL 10)
  else d

/-- Every outbound read in flight fails. -/
def Dev.readsLost (d : Dev) : Dev :=
  let rs := d.hbr.reads
  let d := { d with hbr := { d.hbr with reads := [] } }
  d.each rs (fun e d => match e.2 with
    | some r => (d.cancel ⟨.cplTmo, e.1, 0⟩).readFails r 5
    | none => d)

/-- The enabled rings. -/
def Dev.ringsOn (d : Dev) : List Nat := (List.range 16).filter (fun r => d.flag (HBR_RING_CFG_en r))

/-- The host goes out of reach: rings halt, and the VOQs toward port 57 are held for the hold time (R325). -/
def Dev.hostGone (d : Dev) : Dev :=
  let d := d.ringsLost d.ringsOn
  if d.drains 57 || d.running ⟨.hostHold, 0, 0⟩ then d
  else if d.get HBR_LINK_CFG_hold_ms = 0 then d.drainOn 57
  else d.armIn ⟨.hostHold, 0, 0⟩ (msT (d.get HBR_LINK_CFG_hold_ms))

/-- The host is within reach again: halts with cause 0x05 clear, the hold and any drain end, held messages go. -/
def Dev.hostBack (d : Dev) : Dev :=
  if !d.hostUp then d
  else
    let d := d.each (List.range 16) (fun r d =>
      if d.flag (HBR_RING_STAT_halted r) && d.get (HBR_RING_STAT_cause r) == 5 then
        (d.put (HBR_RING_STAT_halted r) 0).put (HBR_RING_STAT_cause r) 0
      else d)
    ((d.cancel ⟨.hostHold, 0, 0⟩).drainOff 57).flushMsix

/-- HOST_LINK_HOLD_EXPIRY. -/
def opHostHold (d : Dev) : Dev := d.onTimer ⟨.hostHold, 0, 0⟩ (fun d => d.drainOn 57)

/-- The link leaves L0. -/
def Dev.pcieDown (d : Dev) : Dev :=
  if !d.flag HBR_STAT_link then d
  else
    let d := (((d.put HBR_STAT_link 0).put HBR_STAT_gen 0).put HBR_STAT_width 0).count (HBR_CNT 13)
    (d.raise pgHBR 14).readsLost

/-- PCIE_LINK_UP: the link trains while PE_RSTN is high and HBR works. -/
def opPcieUp (gen width : Nat) (d : Dev) : Dev :=
  if d.hbr.perst || !d.up || !d.inService pgHBR || d.flag HBR_STAT_link then d
  else
    let d := ((d.put HBR_STAT_link 1).put HBR_STAT_gen gen).put HBR_STAT_width width
    (d.raise pgHBR 14).hostBack

/-- PCIE_LINK_DOWN. -/
def opPcieDown (d : Dev) : Dev := if d.flag HBR_STAT_link then d.pcieDown.hostGone else d

/-- PCIE_CONFIG_WRITE: configuration space as the host leaves it. -/
def opPcieConfig (bme d3 msixEn fmask : Bool) (d : Dev) : Dev :=
  if !d.flag HBR_STAT_link then d
  else
    let was := d.hostUp
    let b (x : Bool) : Nat := if x then 1 else 0
    let d := ((d.put HBR_STAT_bme (b bme)).put HBR_STAT_msix_en (b msixEn)).put HBR_STAT_fmask (b fmask)
    let d := { d with hbr := { d.hbr with d3 := d3 } }
    if was && !d.hostUp then d.readsLost.hostGone else d.hostBack.flushMsix

/-- What a unit reset of HBR does beside holding the page (R326). -/
def Dev.hbrReset (d : Dev) : Dev :=
  let d := (d.ringsLost (List.range 16)).readsLost
  let d := { d with hbr := { d.hbr with rtv := [], lines := [] } }
  let d := d.each (List.range 8) (fun e d => (d.cancel ⟨.rtvWait, e, 0⟩).cancel ⟨.rtvHold, e, 0⟩)
  d.semGone 2

/-- Configuration space at its reset values (R310): bus mastering, MSI-X and D3hot off, every vector masked. -/
def Dev.cfgReset (d : Dev) : Dev :=
  let d := ((d.put HBR_STAT_bme 0).put HBR_STAT_msix_en 0).put HBR_STAT_fmask 0
  { d with hbr := { d.hbr with d3 := false, masked := List.range 64, table := [] } }

/-! ### Picks for port 57 (R322) -/

/-- The class that port 57 picks: the highest whose ring has a posted descriptor, fetched with own 1 (bit c of `own`), and
works on none, and which the scheduler sees a frame of. -/
def Dev.hostChoice (own : Nat) (d : Dev) : Option (Nat × Nat × Dev) :=
  highest (fun c =>
    let r := hRing false c
    if d.hRuns r && d.hPosted r && bitAt own c && (d.hostTx c).isNone then d.drrTake 57 c (d.heads 57 c) else none)

/-- EGRESS_PICK for port 57: the head is taken for its receive ring, or discarded as too long for its buffer; a draining
port discards. -/
def Dev.pickHost (err : Option VaultErr) (own : Nat) (d0 : Dev) : Dev :=
  let d := d0.toPick 57
  if d.drains 57 then
    (match highest (fun c => d.drrTake 57 c (d.heads 57 c)) with
     | some (_, q, d) => d.dropHead q (fun d => d.countDrain 57)
     | none => d0)
  else
    match d.hostChoice own with
    | none => d0
    | some (c, q, d) =>
      match d.voq q with
      | [] => d0
      | cp :: _ =>
        if d.expired cp then d.agedOut q
        else
          match d.frame cp.fid with
          | none => d0
          | some f =>
            let bs := d.shape 57 f
            if d.get (HBR_RING_CFG_buf (hRing false c)) < bs.length then d.dropHead q (fun d => d.count (HBR_CNT 4))
            else
              match d.meetErr q 57 f err with
              | (none, d) => d
              | (some bad, d) =>
                let d := d.popVoq q
                { d with vlt := { d.vlt with
                    tx := d.vlt.tx ++ [{ out := 57, fid := f.id, cls := c, mc := cp.mc, pick := d.now, ends := d.now, data := bs, bad := bad }] } }

/-! ### The rings of port 97 (R289) -/

/-- The fabric address of a TCM offset of a brace. -/
def tcmAddr (b off : Nat) : Nat := 0x10000000 + b * 0x80000 + off % 0x80000

/-- The BRACE port writes the active brace's TCM; the mirror writes the standby's in the regions that are mirrored, from the
start of a resynchronisation on (R281). -/
def Dev.wrTcm (off : Nat) (bs : List Byte) (d : Dev) : Dev :=
  match d.active with
  | none => d
  | some x =>
    let a := brIx x
    let mask := if 2 ≤ d.role (1 - a) then d.get (BRC_TCM_MIRROR_m a) else 0
    d.each bs.zipIdx (fun e d =>
      let o := off + e.2
      let d := d.wrByte (tcmAddr a o) e.1
      if bitAt mask (o % 0x80000 / 0x10000) then d.wrByte (tcmAddr (1 - a) o) e.1 else d)

/-- Descriptors of a ring of port 97. -/
def bpSize (log2 : Nat) : Nat := 2 ^ (max 4 (min 10 log2))

/-- The control words of a BRACE port descriptor at its write-back. -/
def bpBytes (x : BpDesc) (rx : Bool) (check inNs inFrac : Nat) : List Byte :=
  let b (c : Bool) (i : Nat) : Nat := if c then 2 ^ i else 0
  leBytes 4 (b (x.tsEvent && !rx) 30 + b (x.direct && !rx) 29 + x.len % 2 ^ 14) ++ leBytes 4 (x.buf % 2 ^ 19) ++
  leBytes 4 (x.port % 128 + x.domain % 16 * 2 ^ 7 + x.cls % 8 * 2 ^ 11 + (if rx then check % 8 * 2 ^ 14 else 0)) ++
  List.replicate 4 0 ++ leBytes 8 inNs ++ leBytes 2 inFrac ++ List.replicate 6 0

/-- BP_TX_FETCH: transmit ring c of port 97; back-pressure of class c stalls it (Table 3-5). -/
def opBpTxFetch (c : Class) (x : BpDesc) (data : List Byte) (d : Dev) : Dev :=
  let n := bpSize (d.get (BRC_BP_TX_RING_log2 0 c))
  let head := d.get (BRC_BP_TX_HEAD_index 0 c)
  if !d.up || d.active.isNone || d.pw.halted || !x.own || bitAt (d.pressedAt 97) c || x.len = 0 || decide (9216 < x.len) ||
      head % n == d.get (BRC_BP_TX_TAIL_index 0 c) % n then d
  else
    let (_, d) := d.ringAdmit 97 c x.direct x.tsEvent x.port x.domain x.cls x.len data
    let d := d.wrTcm (d.get (BRC_BP_TX_RING_base 0 c) + head % n * 32) (bpBytes { x with own := false } false 0 0 0)
    (d.put (BRC_BP_TX_HEAD_index 0 c) ((head + 1) % n)).raise (pgBRC 0) 14

/-- EGRESS_PICK for port 97: the frame and its descriptor are written into both braces' TCM, then BP_RX is raised; `bp` is
the next receive descriptor. -/
def Dev.pickBrace (err : Option VaultErr) (bp : Option BpDesc) (d0 : Dev) : Dev :=
  let n := bpSize (d0.get (BRC_BP_RX_RING_log2 0))
  let head := d0.get (BRC_BP_RX_HEAD_index 0) % n
  let d := d0.toPick 97
  match bp with
  | none => d0
  | some x =>
    if !d.up || d.active.isNone || d.pw.halted || !x.own || head == d.get (BRC_BP_RX_TAIL_index 0) % n then d0
    else
      match highest (fun c => d.drrTake 97 c (d.heads 97 c)) with
      | none => d0
      | some (c, q, d) =>
        match d.voq q with
        | [] => d0
        | cp :: _ =>
          if d.expired cp then d.agedOut q
          else
            match d.frame cp.fid with
            | none => d0
            | some f =>
              let bs := d.shape 97 f
              if d.get (BRC_BP_RX_BUF_bytes 0) < bs.length then d.dropHead q (fun d => d.count (BRC_BP_RX_LONG 0))
              else
                match d.meetErr q 97 f err with
                | (none, d) => d
                | (some _, d) =>
                  let d := d.popVoq q
                  let y := { x with own := false, len := bs.length, port := f.inPort, domain := f.domain, cls := c }
                  let d := (d.wrTcm x.buf bs).wrTcm (d.get (BRC_BP_RX_RING_base 0) + head * 32) (bpBytes y true f.check f.inNs f.inFrac)
                  let d := d.put (BRC_BP_RX_HEAD_index 0) ((head + 1) % n)
                  (d.release f.id).raise (pgBRC 0) 13

/-! ### The meanings of the commands of this file -/

/-- BP_TX_FETCH (R289). -/
def execBpTxFetch (c : Class) (d : BpDesc) (data : List Byte) (s : State) : Host.Outcome State Fault Refusal :=
  effectIf (d.wf) (opBpTxFetch c d data) s

/-- PCIE_LINK_UP (R310). -/
def execPcieLinkUp (gen : Nat) (width : Nat) (s : State) : Host.Outcome State Fault Refusal :=
  effectIf (decide (1 ≤ gen) && decide (gen ≤ 4) && [1, 2, 4].contains width) (opPcieUp gen width) s

/-- PCIE_LINK_DOWN (R325). -/
def execPcieLinkDown (s : State) : Host.Outcome State Fault Refusal :=
  effect opPcieDown s

/-- PWE_READ (R319). -/
def execPweRead (i : Initiator) (s : State) : Host.Outcome State Fault Refusal :=
  effect (opPweRead i) s

/-- SEM_READ (R318). -/
def execSemRead (i : Initiator) (n : Sem) (s : State) : Host.Outcome State Fault Refusal :=
  effect (opSemRead i n) s

/-- SEM_RELEASE (R318). -/
def execSemRelease (i : Initiator) (n : Sem) (s : State) : Host.Outcome State Fault Refusal :=
  effect (opSemRelease i n) s

/-- SEM_TIMEOUT (R318). -/
def execSemTimeout (n : Sem) (s : State) : Host.Outcome State Fault Refusal :=
  effect (opSemTimeout n) s

/-- MSIX_UNMASK (R317). -/
def execMsixUnmask (what : Unmask) (s : State) : Host.Outcome State Fault Refusal :=
  effect (opMsixUnmask what) s

/-- HOST_TX_DESC_FETCH (R321). -/
def execHostTxDescFetch (c : Class) (d : HostDesc) (data : List Byte) (s : State) : Host.Outcome State Fault Refusal :=
  effectIf (d.wf) (opHostTxFetch c d data) s

/-- HOST_TX_FRAME_DONE (R321). -/
def execHostTxFrameDone (c : Class) (s : State) : Host.Outcome State Fault Refusal :=
  effect (opHostTxDone c) s

/-- HOST_RX_WRITE_DONE (R322). -/
def execHostRxWriteDone (c : Class) (d : HostDesc) (status : CplStatus) (s : State) : Host.Outcome State Fault Refusal :=
  effectIf (d.wf) (opHostRxDone c d status) s

/-- HOST_RING_RESUME (R324). -/
def execHostRingResume (i : Initiator) (tx : Bool) (c : Class) (s : State) : Host.Outcome State Fault Refusal :=
  effect (opHostResume i tx c) s

/-- HOST_LINK_HOLD_EXPIRY (R325). -/
def execHostLinkHoldExpiry (s : State) : Host.Outcome State Fault Refusal :=
  effect opHostHold s

/-- PCIE_CONFIG_WRITE (R325). -/
def execPcieConfigWrite (bme : Bool) (d3 : Bool) (msixEn : Bool) (fmask : Bool) (s : State) : Host.Outcome State Fault Refusal :=
  effect (opPcieConfig bme d3 msixEn fmask) s

end Sys2Proof.Machine
end

