-- ==== Sys2Proof/Machine/Bus.lean ====
section
/-!
DEFINITION. The CAN and LIN channels (chapter 8): what both share, the CAN channels with their message RAM, filters,
objects, bid set and timed objects, and the LIN channels with their response tables, publish buffers and schedules.
-/

namespace Sys2Proof.Machine

/-! ### Draws (R181, R183, R188, R191) -/

/-- The ports of a CAN and of a LIN channel. -/
def canPort (ch : Nat) : Nat := 64 + ch
def linPort (ch : Nat) : Nat := 88 + ch

/-- The copies a channel has drawn and not sent, oldest first. -/
def Dev.drawsOf (d : Dev) (port : Nat) : List Draw := d.vlt.drawn.filter (fun x => x.port == port)

/-- Take the copy at the head of a VOQ out of it, its slip kept. -/
def Dev.takeHead (q : Nat) (d : Dev) : Dev :=
  let d := d.setVoq q (d.voq q).tail
  let d := { d with vlt := { d.vlt with staged := d.vlt.staged.filter (· != q) } }
  (d.cancel ⟨.prefetch, q, 0⟩).newHead q

/-- A drawn copy leaves: its slip is freed and its reference released. -/
def Dev.endDraw (x : Draw) (d : Dev) : Dev :=
  let (bus, k) := match d.frame x.copy.fid with
    | some f => (f.bus, f.domain)
    | none => (false, 0)
  let d := { d with vlt := { d.vlt with drawn := d.vlt.drawn.filter (fun y => y.copy.serial != x.copy.serial) } }
  (d.freeSlip bus k x.copy).release x.copy.fid

/-- Drawn copies return to the heads of their VOQs, in their original order. -/
def Dev.undraw (l : List Draw) (d : Dev) : Dev :=
  let d := { d with vlt := { d.vlt with drawn := d.vlt.drawn.filter (fun x => !l.contains x) } }
  d.each l.reverse (fun x d => (d.setVoq x.q (x.copy :: d.voq x.q)).newHead x.q)

/-- A drawn copy is discarded at the egress discard point, counted by `count`. -/
def Dev.dropDraw (count : Dev → Dev) (x : Draw) (d : Dev) : Dev := (count d).endDraw x

/-- A frame's record as a bus output takes it: without the trailer that is removed, and with one generated where its slip
says so; when it may bid, and the context of that computation. Nothing where the context cannot generate (R226). -/
def Dev.busForm (f : Frame) (d : Dev) : Option (BusRecord × Nat × Option Nat) × Dev :=
  let r := d.trimmed f (f.record.getD (recordOf f.data))
  match d.genCtx 64 f with
  | none => (some (r, d.now, none), d)
  | some k =>
    let ready := d.now + fabT (cmacCycles (d.ctx k))
    match d.genCmac k r with
    | (.inl _, d) => (none, d)
    | (.inr r, d) => (some (r, ready, some k), d)

/-- The record stored with the frame at the head of a VOQ. -/
def Dev.headRecord (d : Dev) (q : Nat) : Option BusRecord :=
  match d.voq q with
  | [] => none
  | c :: _ => (d.frame c.fid).map (fun f => f.record.getD (recordOf f.data))

/-- The ingress time of a bus frame whose first edge fell a number of CK_CAN cycles ago (R138). -/
def Dev.busTime (d : Dev) (port ago : Nat) : Nat × Nat :=
  let q := d.tqAt (d.ticks - ago * 5) - d.inCorr port
  ((q / 65536 % 2 ^ 64).toNat, (q % 65536).toNat)

/-- A record received on a channel waits to be handed to the Vault. -/
def Dev.handOff (port : Nat) (r : BusRecord) (t : Nat × Nat) (d : Dev) : Dev :=
  { d with bus := { d.bus with
      handoff := NMap.set [] d.bus.handoff port (NMap.get [] d.bus.handoff port ++ [(r, t.1, t.2)]) } }

/-- BUS_FRAME_HANDOFF: the oldest record of a channel enters the Vault or meets an exhausted Account (R69). -/
def opBusHandoff (p : Nat) (d : Dev) : Dev :=
  match NMap.get [] d.bus.handoff p with
  | [] => d
  | (r, ns, fr) :: rest =>
    let d := { d with bus := { d.bus with handoff := NMap.set [] d.bus.handoff p rest } }
    d.admitBus p r ns fr

/-- A channel is isolated or isolating. -/
def Dev.isoed (d : Dev) (pg : Nat) : Bool := d.get (PG_STATE_iso pg) != 0

/-! ### Items (R179) -/

/-- Data capacity of a code, in bytes, and the words of an item. -/
def dcapBytes : Nat → Nat
  | 0 => 8 | 1 => 64 | _ => 2048
def itemWords : Nat → Nat
  | 0 => 10 | 1 => 24 | _ => 520

/-- A stored item: header, ingress time, and the record cut to the capacity. -/
def itemOf (cap : Nat) (r : BusRecord) (ns : Nat) (ovf own : Bool) : List Nat :=
  let trunc := decide (dcapBytes cap < r.data.length)
  let hdr := 2 ^ 60 + (if trunc then 2 ^ 59 else 0) + (if ovf then 2 ^ 57 else 0) + (if own then 2 ^ 56 else 0)
  let bs := fixLen (16 + dcapBytes cap) (recordBytes r)
  [hdr % 2 ^ 32, hdr / 2 ^ 32, ns % 2 ^ 32, ns / 2 ^ 32] ++
    (List.range ((16 + dcapBytes cap) / 4)).map (fun i => ofLe ((bs.drop (4 * i)).take 4))

/-! ### CAN: message RAM (R176) -/

def Dev.mr (d : Dev) (ch w : Nat) : Nat := NMap.get 0 d.bus.ram (ch * 2 ^ 14 + w % 2 ^ 14)

def Dev.setMr (ch w v : Nat) (d : Dev) : Dev :=
  let d := d.wroteUnits 5 (ch * 8192 + w % 2 ^ 14 / 2) 1
  { d with bus := { d.bus with ram := NMap.set 0 d.bus.ram (ch * 2 ^ 14 + w % 2 ^ 14) (v % 2 ^ 32) } }

def Dev.setMrs (ch w : Nat) (l : List Nat) (d : Dev) : Dev :=
  d.each (l.zip (List.range l.length)) (fun e d => d.setMr ch (w + e.2) e.1)

/-- The configuration of a FIFO: entries, capacity code, base. -/
def Dev.fifoCfg (d : Dev) (ch k : Nat) : Nat × Nat × Nat :=
  let w := d.rd (if k = 0 then CAN_RXF0_CFG ch else CAN_RXF1_CFG ch)
  (bitsOf w 31 24, bitsOf w 21 20, bitsOf w 13 0)

/-- The regions of a bank's lists, the objects and the FIFOs: base and words. -/
def Dev.mrLive (d : Dev) (ch : Nat) : List (Nat × Nat) :=
  let b := d.get (CAN_RX_CFG_lbank ch)
  let f (k : Nat) : Nat × Nat := let (n, c, a) := d.fifoCfg ch k; (a, n * itemWords c)
  [(d.get (CAN_LB_FLT_base ch b), 3 * d.get (CAN_LB_FLT_n ch b)), (d.get (CAN_LB_OWN_base ch b), 2 * d.get (CAN_LB_OWN_n ch b)),
   (d.get (CAN_OBJ_CFG_base ch), 2 * itemWords (d.get (CAN_OBJ_CFG_dcap ch)) * d.get (CAN_OBJ_CFG_n ch)), f 0, f 1]

/-! ### CAN: receive FIFOs (R179) -/

/-- Items in a FIFO. -/
def fifoCnt (ch k : Nat) : FRef := if k = 0 then CAN_RXF_STAT_f0 ch else CAN_RXF_STAT_f1 ch

/-- The word address of an item of a FIFO, counted from the head. -/
def Dev.fifoAt (d : Dev) (ch k j : Nat) : Nat :=
  let (n, c, a) := d.fifoCfg ch k
  a + (NMap.get 0 d.bus.fifoHead (ch * 2 + k) + j) % max 1 n * itemWords c

/-- Show the head item of a FIFO. -/
def Dev.fifoShow (ch k : Nat) (d : Dev) : Dev :=
  let a := d.fifoAt ch k 0
  let none_ := d.get (fifoCnt ch k) = 0
  let lo := if none_ then 0 else d.mr ch a
  let hi := if none_ then 0xF0000000 else d.mr ch (a + 1)
  let d := if k = 0 then (d.wr (CAN_RXF0_LO ch) (BitVec.ofNat 32 lo)).wr (CAN_RXF0_HI ch) (BitVec.ofNat 32 hi)
    else (d.wr (CAN_RXF1_LO ch) (BitVec.ofNat 32 lo)).wr (CAN_RXF1_HI ch) (BitVec.ofNat 32 hi)
  d.put (if k = 0 then CAN_RXF0_ADDR_addr ch else CAN_RXF1_ADDR_addr ch) (if none_ then 0 else a)

/-- Remove the head item of a FIFO. -/
def Dev.fifoPop (ch k : Nat) (d : Dev) : Dev :=
  let n := d.get (fifoCnt ch k)
  if n = 0 then d
  else
    let size := max 1 (d.fifoCfg ch k).1
    let h := (NMap.get 0 d.bus.fifoHead (ch * 2 + k) + 1) % size
    let d := { d with bus := { d.bus with fifoHead := NMap.set 0 d.bus.fifoHead (ch * 2 + k) h } }
    ((d.put (fifoCnt ch k) (n - 1)).fifoShow ch k).fenceTook (pgCAN ch) (k + 1)

/-- The FIFO has lost a frame. -/
def Dev.fifoLost (ch k : Nat) (d : Dev) : Dev :=
  let d := (d.count (CAN_CNT ch (5 + k))).raise (pgCAN ch) 10
  let m := ch * 2 + k
  { d with bus := { d.bus with fifoOvf := d.bus.fifoOvf.filter (· != m) ++ [m] } }

/-- The oldest item of a full FIFO is lost: the item that is now its head, or with none left the next one stored, says
so. -/
def Dev.fifoDrop (ch k : Nat) (d : Dev) : Dev :=
  let d := (d.fifoLost ch k).fifoPop ch k
  if d.get (fifoCnt ch k) = 0 then d
  else
    let a := d.fifoAt ch k 0 + 1
    let d := { d with bus := { d.bus with fifoOvf := d.bus.fifoOvf.filter (· != ch * 2 + k) } }
    (d.setMr ch a (setBitTo (d.mr ch a) 25 true)).fifoShow ch k

/-- Store a frame in a FIFO; a full one loses the new frame, or its oldest item. -/
def Dev.fifoPush (ch k : Nat) (r : BusRecord) (ns : Nat) (own : Bool) (d : Dev) : Dev :=
  let (n, c, _) := d.fifoCfg ch k
  let full := decide (n ≤ d.get (fifoCnt ch k))
  let ovw := if k = 0 then d.flag (CAN_RX_CFG_f0_ovw ch) else d.flag (CAN_RX_CFG_f1_ovw ch)
  if full && (!ovw || n == 0) then d.fifoLost ch k
  else
    let d := if full then d.fifoDrop ch k else d
    let m := d.get (fifoCnt ch k)
    let mark := ch * 2 + k
    let ovf := d.bus.fifoOvf.contains mark
    let d := { d with bus := { d.bus with fifoOvf := d.bus.fifoOvf.filter (· != mark) } }
    let d := (d.setMrs ch (d.fifoAt ch k m) (itemOf c r ns ovf own)).count (CAN_CNT ch 2)
    let d := Dev.when (decide (dcapBytes c < r.data.length)) (fun d => d.count (CAN_CNT ch 8)) d
    let d := (d.put (fifoCnt ch k) (m + 1)).fifoShow ch k
    if m = 0 ∧ !full then d.raise (pgCAN ch) (8 + k) else d

/-- A FIFO is emptied, its items counted as lost. -/
def Dev.fifoEmpty (ch k : Nat) (d : Dev) : Dev :=
  let d := d.add (CAN_CNT_count ch (5 + k)) (d.get (fifoCnt ch k))
  let d := { d with bus := { d.bus with fifoHead := NMap.set 0 d.bus.fifoHead (ch * 2 + k) 0,
                                        fifoOvf := d.bus.fifoOvf.filter (· != ch * 2 + k) } }
  (d.put (fifoCnt ch k) 0).fifoShow ch k

/-- A FIFO is emptied, its items lost, and the fences that waited for them come closer. -/
def Dev.fifoGone (ch k : Nat) (d : Dev) : Dev :=
  (d.fifoEmpty ch k).each (List.range (d.get (fifoCnt ch k))) (fun _ d => d.fenceTook (pgCAN ch) (k + 1))

/-! ### CAN: identifier objects (R180) -/

def Dev.canObj (d : Dev) (ch o : Nat) : CanObj := NMap.get {} d.bus.objs (ch * 256 + o)
def Dev.setCanObj (ch o : Nat) (v : CanObj) (d : Dev) : Dev :=
  { d with bus := { d.bus with objs := NMap.set {} d.bus.objs (ch * 256 + o) v } }
def Dev.lockedObj (d : Dev) (ch : Nat) : Option Nat := NMap.get none d.bus.lock ch
def Dev.setLockedObj (ch : Nat) (v : Option Nat) (d : Dev) : Dev :=
  { d with bus := { d.bus with lock := NMap.set none d.bus.lock ch v } }

/-- The word address of one of an object's two buffers. -/
def Dev.objAt (d : Dev) (ch o : Nat) (b : Bool) : Nat :=
  let w := itemWords (d.get (CAN_OBJ_CFG_dcap ch))
  d.get (CAN_OBJ_CFG_base ch) + (2 * o + (if b then 1 else 0)) * w

/-- Write a frame into an object: the buffer that is not current, swapped in at once unless the object is locked. -/
def Dev.objWrite (ch o : Nat) (r : BusRecord) (ns : Nat) (own : Bool) (d : Dev) : Dev :=
  let x := d.canObj ch o
  let held := d.lockedObj ch == some o
  let c := d.get (CAN_OBJ_CFG_dcap ch)
  let d := d.setMrs ch (d.objAt ch o (!x.cur)) (itemOf c r ns false own)
  let d := Dev.when (decide (dcapBytes c < r.data.length)) (fun d => d.count (CAN_CNT ch 8)) d
  let excess := if held then x.shadow else x.unread
  let x := if held then { x with shadow := true, lost := x.lost || excess }
    else { x with cur := !x.cur, unread := true, lost := x.lost || excess }
  let d := Dev.when excess (fun d => (d.count (CAN_CNT ch 7)).raise (pgCAN ch) 12) (d.setCanObj ch o x)
  let d := Dev.when (held && excess) (fun d => d.put (CAN_OBJ_STAT_lost ch) 1) d
  (d.setBit (CAN_OBJ_NEW ch (o / 32)) (o % 32) true).raise (pgCAN ch) 11

/-- Release the lock of a channel; a shadow that was written becomes current. -/
def Dev.objRelease (ch : Nat) (d : Dev) : Dev :=
  match d.lockedObj ch with
  | none => d
  | some o =>
    let x := d.canObj ch o
    let x := if x.shadow then { x with cur := !x.cur, unread := true, shadow := false } else x
    ((d.setCanObj ch o x).setLockedObj ch none).put (CAN_OBJ_STAT_locked ch) 0

/-- The word of the item header that holds `ue`, of the stored item whose words take in word `w`: an item of a FIFO, or a
buffer of an object. -/
def Dev.itemOver (d : Dev) (ch w : Nat) : Option Nat :=
  let fifo (k : Nat) : List (Nat × Nat) :=
    (List.range (d.get (fifoCnt ch k))).map (fun j => (d.fifoAt ch k j, itemWords (d.fifoCfg ch k).2.1))
  let c := itemWords (d.get (CAN_OBJ_CFG_dcap ch))
  let bufs : List (Nat × Nat) := (List.range (2 * d.get (CAN_OBJ_CFG_n ch))).map (fun k => (d.get (CAN_OBJ_CFG_base ch) + k * c, c))
  ((fifo 0 ++ fifo 1 ++ bufs).find? (fun e => decide (e.1 ≤ w) && decide (w < e.1 + e.2))).map (fun e => e.1 + 1)

/-- What a channel does on an uncorrectable word of its message RAM: it is counted and raised, and a stored item that holds
it is marked (R178, R191). -/
def Dev.mrLost (ch w : Nat) (d : Dev) : Dev :=
  let d := (d.count (CAN_CNT ch 22)).raise (pgCAN ch) 18
  match d.itemOver ch w with
  | none => d
  | some a =>
    let d := ((d.setMr ch a (setBitTo (d.mr ch a) 26 true)).fifoShow ch 0).fifoShow ch 1
    match d.lockedObj ch with
    | some o => if d.objAt ch o (d.canObj ch o).cur + 1 = a then d.put (CAN_OBJ_STAT_ue ch) 1 else d
    | none => d

/-- An uncorrectable word of message RAM, handed to the memory integrity unit as well. -/
def Dev.mrUe (ch w : Nat) (d : Dev) : Dev := (d.mrLost ch w).uncorrectable 5 (ch * 8192 + w % 2 ^ 14 / 2) 8

/-- MR_DATA_ACCESS: a read gives the word, `ue` where it reads uncorrectable; a write stores it unless it is live; and the
address advances (R176). -/
def opMrAccess (i : Initiator) (ch : CanCh) (write : Option Word) (ue : Bool) (d : Dev) : Dev :=
  let a := d.get (CAN_MR_ADDR_word ch)
  let step (d : Dev) : Dev := d.put (CAN_MR_ADDR_word ch) (a + 1)
  match write with
  | none => d.access i (fun d =>
      let d := if ue then d.mrUe ch a else d
      (step d).emit (.readValue i (CAN_MR_DATA ch) (BitVec.ofNat 32 (d.mr ch a))))
  | some v =>
    d.write i (pgCAN ch) 0x1D4 v.toNat (fun d =>
      if (d.mrLive ch).any (fun e => decide (e.1 ≤ a) && decide (a < e.1 + e.2)) then (step d).raise (pgCAN ch) irqLiveWr
      else step (d.setMr ch a v.toNat))

/-- RXF_POP: a write of `RXF_POP`; `ue` where the item that becomes head of the popped FIFO reads uncorrectable,
`mism` where a popped FIFO's pointer copies disagree and it is reset (R301). -/
def opRxfPop (i : Initiator) (ch : CanCh) (v : Word) (ue mism : Bool) (d : Dev) : Dev :=
  d.access i (fun d =>
    d.each ((List.range 2).filter (fun k => v.getLsbD k)) (fun k d =>
      let d := if mism then (d.fifoGone ch k).queueReset 3 ch else d
      let d := d.fifoPop ch k
      if ue && d.get (fifoCnt ch k) != 0 then d.mrUe ch (d.fifoAt ch k 0) else d))

/-- OBJ_LOCK: lock the object named in `OBJ_SEL`; `ue` where its current buffer reads uncorrectable. -/
def opObjLock (i : Initiator) (ch : CanCh) (ue : Bool) (d : Dev) : Dev :=
  d.access i (fun d =>
    let o := d.get (CAN_OBJ_SEL_obj ch)
    if d.get (CAN_OBJ_CFG_n ch) ≤ o then d
    else
      let d := if d.lockedObj ch = some o then d else d.objRelease ch
      let x := d.canObj ch o
      let a := d.objAt ch o x.cur
      let d := if ue then d.mrUe ch a else d
      let d := ((d.put (CAN_OBJ_STAT_locked ch) 1).put (CAN_OBJ_STAT_new ch) (if x.unread then 1 else 0)).put
        (CAN_OBJ_STAT_lost ch) (if x.lost then 1 else 0)
      let d := (d.put (CAN_OBJ_STAT_ue ch) (if ue then 1 else 0)).put (CAN_OBJ_STAT_addr ch) a
      let d := (d.setCanObj ch o { x with unread := false, lost := false }).setLockedObj ch (some o)
      d.setBit (CAN_OBJ_NEW ch (o / 32)) (o % 32) false)

/-- OBJ_RELEASE. -/
def opObjRelease (i : Initiator) (ch : CanCh) (d : Dev) : Dev :=
  d.access i (fun d => d.objRelease ch)

/-- The objects and the lock of a channel are cleared. -/
def Dev.objsClear (ch : Nat) (d : Dev) : Dev :=
  let d := { d with bus := { d.bus with objs := d.bus.objs.filter (fun e => e.1 / 256 != ch) } }
  let d := d.each (List.range 8) (fun j d => d.wr (CAN_OBJ_NEW ch j) 0)
  (d.setLockedObj ch none).wr (CAN_OBJ_STAT ch) 0

/-- A commit that moves or resizes a FIFO or the objects empties them. -/
def Dev.canCarve (ch : Nat) (moved : Nat → Bool) (d : Dev) : Dev :=
  let d := d.each ((List.range 2).filter (fun k => moved (if k = 0 then CAN_RXF0_CFG ch else CAN_RXF1_CFG ch)))
    (fun k d => d.fifoGone ch k)
  if moved (CAN_OBJ_CFG ch) then d.objsClear ch else d

/-! ### CAN: the bus as the channel sees it -/

/-- A register as the channel uses it: index 0 CFG, 1 NBT, 2 TRX (R174, R175). -/
def Dev.canUse (d : Dev) (ch k : Nat) : Word :=
  (NMap.get none d.bus.inUse (ch * 4 + k)).getD
    (resetValue (match k with | 0 => CAN_CFG ch | 1 => CAN_NBT ch | _ => CAN_TRX ch))

def Dev.canProto (d : Dev) (ch : Nat) : Nat := bitsOf (d.canUse ch 0) 9 8
/-- Mode of the transceiver: listen-only while isolated with `iso_silent` 1 (R191). -/
def Dev.canMode (d : Dev) (ch : Nat) : Nat :=
  let m := bitsOf (d.canUse ch 2) 1 0
  if m = 0 && d.isoed (pgCAN ch) && bitsOf (d.canUse ch 0) 17 17 == 1 then 1 else m

/-- One nominal bit in root periods. -/
def Dev.canBit (d : Dev) (ch : Nat) : Nat :=
  let w := d.canUse ch 1
  bitsOf w 31 27 * (1 + bitsOf w 26 18 + bitsOf w 17 11) * 60

def Dev.canState (d : Dev) (ch : Nat) : Nat := d.get (CAN_STAT_state ch)

/-- The channel takes part in bus traffic as a receiver, and as a transmitter. -/
def Dev.canHears (d : Dev) (ch : Nat) : Bool :=
  d.chanOn (pgCAN ch) && decide (d.canState ch ≤ 1) && decide (d.canMode ch ≤ 1)
def Dev.canSpeaks (d : Dev) (ch : Nat) : Bool := d.canHears ch && d.canMode ch == 0

/-- The channel can send a record under its protocol (R173). -/
def canSends (proto : Nat) (r : BusRecord) : Bool :=
  let n := r.data.length
  match r.fmt with
  | 3 => false
  | 2 => proto == 2 && decide (1 ≤ n) && decide (n ≤ 2048)
  | _ => if r.fdf then decide (1 ≤ proto) && decide (n ≤ 64) else decide (n ≤ 8)

/-- The smallest DLC of an FD frame that holds n bytes, and the bytes of that DLC. -/
def fdDlc (n : Nat) : Nat × Nat :=
  if n ≤ 8 then (n, n) else if n ≤ 12 then (9, 12) else if n ≤ 16 then (10, 16) else if n ≤ 20 then (11, 20)
  else if n ≤ 24 then (12, 24) else if n ≤ 32 then (13, 32) else if n ≤ 48 then (14, 48) else (15, 64)

/-- The record as the channel sends it: its DLC, and the padding and the error state of an FD frame (R173, R184). -/
def Dev.canForm (d : Dev) (ch : Nat) (r : BusRecord) : BusRecord :=
  if r.fmt = 2 then { r with dlc := r.data.length - 1 }
  else if r.fdf then
    let (c, n) := fdDlc r.data.length
    { r with dlc := c, esi := d.canState ch == 1,
             data := r.data ++ List.replicate (n - r.data.length) (BitVec.ofNat 8 (bitsOf (d.canUse ch 0) 7 0)) }
  else { r with dlc := r.data.length }

/-- The bits of a frame in bus arbitration order, as a number: the lower wins (ISO 11898-1). -/
def arbKey (r : BusRecord) : Nat :=
  let rtr := if r.rtr then 1 else 0
  match r.fmt with
  | 1 => ((r.id / 2 ^ 18 % 2 ^ 11 * 2 + 1) * 2 + 1) * 2 ^ 19 + r.id % 2 ^ 18 * 2 + rtr
  | 2 => r.id % 2 ^ 11 * 2 * 2 * 2 ^ 19
  | _ => (r.id % 2 ^ 11 * 2 + rtr) * 2 * 2 ^ 19

/-! ### CAN: transmission (R181 to R183) -/

/-- The bid is a copy that timed object k keeps. -/
def Bid.copies (b : Bid) (k : Nat) : Bool :=
  match b with
  | .copy j _ => j == k
  | .draw _ => false

def Dev.canCur (d : Dev) (ch : Nat) : Option Bid := NMap.get none d.bus.cur ch
def Dev.setCanCur (ch : Nat) (b : Option Bid) (d : Dev) : Dev :=
  ({ d with bus := { d.bus with cur := NMap.set none d.bus.cur ch b } } : Dev).put (CAN_STAT_busy ch)
    (if b.isSome then 1 else d.get (CAN_STAT_busy ch))

/-- The timed objects of a channel in arbitration. -/
def Dev.bids (d : Dev) (ch : Nat) : List Nat := NMap.get [] d.bus.bidding ch
def Dev.setBids (ch : Nat) (l : List Nat) (d : Dev) : Dev :=
  { d with bus := { d.bus with bidding := NMap.set [] d.bus.bidding ch l } }

def Dev.keptAt (d : Dev) (ch k : Nat) : Option BusRecord := NMap.get none d.bus.kept (ch * 16 + k)
def Dev.setKept (ch k : Nat) (r : Option BusRecord) (d : Dev) : Dev :=
  { d with bus := { d.bus with kept := NMap.set none d.bus.kept (ch * 16 + k) r } }

/-- The drawn frame of timed object k. -/
def Dev.objDraw (d : Dev) (ch k : Nat) : Option Draw := (d.drawsOf (canPort ch)).find? (fun x => x.place == k + 1)

/-- Show whether a timed object holds a frame. -/
def Dev.showFull (ch k : Nat) (d : Dev) : Dev :=
  d.put (CAN_TO_CFG_full ch k) (if (d.objDraw ch k).isSome || (d.keptAt ch k).isSome then 1 else 0)

/-- Device time lies within the guard of an armed slot's launch (R183). -/
def Dev.inGuard (d : Dev) (ch : Nat) : Bool :=
  let span := d.get (CAN_TXQ_CFG_guard ch) * d.canBit ch * 5 / 24
  (List.finRange 16).any (fun k =>
    let s := if h : ch < 24 then d.slot (.can ⟨ch, h⟩ k) else {}
    ctlArmed s.ctl && decide (d.ns < s.time) && decide (s.time ≤ d.ns + span))

/-- The bid-set copies that are the heads of their (input, class) sequences. -/
def Dev.bidHeads (d : Dev) (ch : Nat) : List Draw :=
  let l := (d.drawsOf (canPort ch)).filter (fun x => x.place == 0)
  l.filter (fun x => !l.any (fun y => y.q == x.q && decide (y.copy.serial < x.copy.serial)))

/-- What a channel can bid with: key of arbitration, age, the bid. -/
def Dev.bidList (d : Dev) (ch : Nat) : List (Nat × Nat × Bid) :=
  let objs := (d.bids ch).filterMap (fun k =>
    match d.objDraw ch k with
    | some x => if x.ready ≤ d.now then some (arbKey x.record, x.copy.serial, Bid.draw x.copy.serial) else none
    | none => (d.keptAt ch k).map (fun r => (arbKey r, 0, Bid.copy k r)))
  let heads := if d.inGuard ch then []
    else ((d.bidHeads ch).filter (fun x => decide (x.ready ≤ d.now))).map (fun x =>
      (arbKey x.record, x.copy.serial, Bid.draw x.copy.serial))
  objs ++ heads

/-- The first in arbitration order, and the older of two equal ones. -/
def bestBid (l : List (Nat × Nat × Bid)) : Option Bid :=
  (l.foldl (fun (b : Option (Nat × Nat × Bid)) e =>
    match b with
    | none => some e
    | some x => if e.1 < x.1 ∨ (e.1 = x.1 ∧ e.2.1 < x.2.1) then some e else b) none).map (·.2.2)

/-- A start of arbitration: the channel bids with its best frame when its bus is idle. -/
def Dev.canStart (ch : Nat) (d : Dev) : Dev :=
  if (d.canCur ch).isSome || d.flag (CAN_STAT_busy ch) || !d.canSpeaks ch then d
  else
    match bestBid (d.bidList ch) with
    | none => d
    | some b => d.setCanCur ch (some b)

/-- The frames of the bid set and the timed objects return to their VOQs, with `keep` all but the one in transmission
(R191). -/
def Dev.canReturn (ch : Nat) (keep : Bool) (d : Dev) : Dev :=
  let cur := if keep then d.canCur ch else none
  let bids := (d.bids ch).filter (fun k =>
    cur != none && (cur.any (fun b => b.copies k) || cur == (d.objDraw ch k).map (fun x => Bid.draw x.copy.serial)))
  let l := (d.drawsOf (canPort ch)).filter (fun x => cur != some (Bid.draw x.copy.serial))
  let d := (d.undraw l).setBids ch bids
  let d := if keep then d else d.setCanCur ch none
  d.each (List.range 16) (fun k d => d.showFull ch k)

/-- The channel's transmission has ended: an isolated channel's frame that is not sent returns to its VOQ (R191). -/
def Dev.canYield (ch : Nat) (d : Dev) : Dev := if d.isoed (pgCAN ch) then d.canReturn ch false else d

/-- The bus becomes idle and arbitration starts again. -/
def Dev.canIdle (ch : Nat) (d : Dev) : Dev :=
  (((d.setCanCur ch none).put (CAN_STAT_busy ch) 0).canYield ch).canStart ch

/-- A frame that joins arbitration starts at once: the bus is idle and the channel takes part in it as a transmitter. -/
def Dev.canFree (d : Dev) (ch : Nat) : Bool := (d.canCur ch).isNone && !d.flag (CAN_STAT_busy ch) && d.canSpeaks ch

/-- A timed object is launched on an idle bus: its frame starts at once, its SOF at the transceiver 50 ns later (R183). -/
def Dev.canLaunch (ch k : Nat) (d : Dev) : Dev :=
  let b := match d.objDraw ch k with
    | some x => some (Bid.draw x.copy.serial)
    | none => (d.keptAt ch k).map (fun r => Bid.copy k r)
  match b with
  | none => d
  | some b => (d.setCanCur ch (some b)).emit (.canSof ch (d.now + nsT 50))

/-- The record a bid sends. -/
def Dev.bidRecord (d : Dev) (ch : Nat) (b : Bid) : Option BusRecord :=
  match b with
  | .draw s => ((d.drawsOf (canPort ch)).find? (fun x => x.copy.serial == s)).map (·.record)
  | .copy _ r => some r

/-- CAN_TX_DONE: the frame in transmission is sent: its reference is released at the end of its EOF, a timed object's
copy is kept, the error counter falls, and arbitration starts again. -/
def opCanTxDone (ch : CanCh) (d : Dev) : Dev :=
  match d.canCur ch with
  | none => d
  | some b =>
    match d.bidRecord ch b with
    | none => d
    | some r =>
      let d := (d.emit (.busFrame (canPort ch) (d.canForm ch r) d.now)).touch (canPort ch)
      let d := (d.count (CAN_CNT ch 9)).put (CAN_STAT_tec ch) (d.get (CAN_STAT_tec ch) - 1)
      let d := if d.get (CAN_STAT_tec ch) < 128 ∧ d.get (CAN_STAT_rec ch) < 128 then d.put (CAN_STAT_state ch) 0 else d
      let d := match b with
        | .draw s =>
          (match (d.drawsOf (canPort ch)).find? (fun x : Draw => x.copy.serial == s) with
           | some x =>
             let d := d.endDraw x
             if x.place = 0 then d
             else ((d.setKept ch (x.place - 1) (some r)).setBids ch ((d.bids ch).filter (· != x.place - 1))).showFull ch (x.place - 1)
           | none => d)
        | .copy k _ => d.setBids ch ((d.bids ch).filter (· != k))
      d.canIdle ch

/-- CAN_ARB_LOST: the channel retransmits at the next start of arbitration; the bus stays busy with the winner. -/
def opCanArbLost (ch : CanCh) (d : Dev) : Dev :=
  match d.canCur ch with
  | none => d
  | some _ => ((d.setCanCur ch none).count (CAN_CNT ch 10)).canYield ch

/-- The channel enters bus-off (R184). -/
def Dev.busOff (ch : Nat) (d : Dev) : Dev :=
  let d := ((d.put (CAN_STAT_state ch) 2).count (CAN_CNT ch 16)).raise (pgCAN ch) 15
  let d := if bitsOf (d.canUse ch 0) 16 16 = 1 then d.armIn ⟨.boffWait, ch, 0⟩ (msT (d.get (CAN_BOFF_CFG_wait_ms ch))) else d
  d.armIn ⟨.boffHold, ch, 0⟩ (msT (d.get (CAN_BOFF_CFG_hold_ms ch)))

/-- Error confinement of ISO 11898-1 after the counters have changed. -/
def Dev.canConfine (ch : Nat) (d : Dev) : Dev :=
  let t := d.get (CAN_STAT_tec ch)
  let r := d.get (CAN_STAT_rec ch)
  if d.canState ch = 2 ∨ d.canState ch = 3 then d
  else if 256 ≤ t then d.busOff ch
  else if 128 ≤ t ∨ 128 ≤ r then (if d.canState ch = 1 then d else (d.put (CAN_STAT_state ch) 1).raise (pgCAN ch) 16)
  else d.put (CAN_STAT_state ch) 0

/-- The first identifier clash since the capture was read (R186). -/
def Dev.clash (ch : Nat) (r : BusRecord) (d : Dev) : Dev :=
  let d := (d.count (CAN_CNT ch 18)).raise (pgCAN ch) 14
  if d.flag (CAN_CLASH_CAP_valid ch) then d
  else ((d.put (CAN_CLASH_CAP_valid ch) 1).put (CAN_CLASH_CAP_fmt ch) r.fmt).put (CAN_CLASH_CAP_id ch) r.id

/-- The retry limit of a frame that met an error in the channel's transmission (R182); a timed object's copy stays for its
later launches. -/
def Dev.canRetry (ch : Nat) (b : Bid) (d : Dev) : Dev :=
  let lim := bitsOf (d.canUse ch 0) 31 24
  match b with
  | .copy k _ =>
    let n := NMap.get 0 d.bus.copyErrors (ch * 16 + k)
    if lim ≠ 0 ∧ lim ≤ n then (d.setBids ch ((d.bids ch).filter (· != k))).count (CAN_CNT ch 12)
    else { d with bus := { d.bus with copyErrors := NMap.set 0 d.bus.copyErrors (ch * 16 + k) (n + 1) } }
  | .draw s =>
    match (d.drawsOf (canPort ch)).find? (fun x => x.copy.serial == s) with
    | none => d
    | some x =>
      if lim ≠ 0 ∧ lim ≤ x.errors then
        let d := d.dropDraw (fun d => d.count (CAN_CNT ch 12)) x
        if x.place = 0 then d else (d.setBids ch ((d.bids ch).filter (· != x.place - 1))).showFull ch (x.place - 1)
      else
        { d with vlt := { d.vlt with
            drawn := d.vlt.drawn.map (fun y => if y.copy.serial = s then { y with errors := y.errors + 1 } else y) } }

/-- The error is one after which ISO 11898-1 leaves the transmit error counter as it is: an acknowledgement that is missing
to an error-passive transmitter (with no dominant bit in its error flag), or a stuff error in arbitration. -/
def Dev.tecExempt (d : Dev) (ch lec : Nat) : Bool := (d.canState ch == 1 && lec == 3) || lec == 1

/-- CAN_TX_ERROR: an error in the channel's own transmission; `clash` where a bit error fell in the control or data field
of its own frame, `exempt` where it is one that leaves the counter as it is, `eights` the further steps of 8 that dominant
bits in and after the error flag bring. -/
def opCanTxError (ch : CanCh) (lec : Nat) (clash exempt : Bool) (eights : Nat) (d : Dev) : Dev :=
  match d.canCur ch with
  | none => d
  | some b =>
    let d := (d.count (CAN_CNT ch 11)).put (CAN_STAT_lec ch) lec
    let d := match clash, d.bidRecord ch b with
      | true, some r => d.clash ch r
      | _, _ => d
    let n := (if exempt && d.tecExempt ch lec then 0 else 8) + 8 * eights
    let d := d.put (CAN_STAT_tec ch) (min 511 (d.get (CAN_STAT_tec ch) + n))
    ((d.canRetry ch b).canConfine ch).canIdle ch

/-- CAN_ERROR_FRAME: a frame on the bus ends in an error (R177); `eights` the steps of 8 that dominant bits in and after the
channel's error flag bring its receive error counter (ISO 11898-1). -/
def opCanErrorFrame (ch : CanCh) (lec eights : Nat) (d : Dev) : Dev :=
  if !d.canHears ch then d
  else
    let d := (d.count (CAN_CNT ch 15)).put (CAN_STAT_lec ch) lec
    let d := d.put (CAN_STAT_rec ch) (min 255 (d.get (CAN_STAT_rec ch) + 1 + 8 * eights))
    (d.canConfine ch).canIdle ch

/-- BOFF_WAIT_EXPIRY. -/
def opBoffWait (ch : CanCh) (d : Dev) : Dev :=
  d.onTimer ⟨.boffWait, ch, 0⟩ (fun d =>
    if d.canState ch = 2 then { d with bus := { d.bus with recovering := d.bus.recovering.filter (· != ch.val) ++ [ch.val] } } else d)

/-- BOFF_RESTART: `CTL.restart` starts a recovery that is not automatic (R184). -/
def opBoffRestart (i : Initiator) (ch : CanCh) (d : Dev) : Dev :=
  d.access i (fun d =>
    if d.canState ch = 2 ∧ bitsOf (d.canUse ch 0) 16 16 = 0 then
      { d with bus := { d.bus with recovering := d.bus.recovering.filter (· != ch.val) ++ [ch.val] } }
    else d)

/-- BOFF_RECOVERED: the channel is error active with both counters 0, and any drain ends. -/
def opBoffRecovered (ch : CanCh) (d : Dev) : Dev :=
  if d.canState ch ≠ 2 ∨ !d.bus.recovering.contains ch.val then d
  else
    let d := { d with bus := { d.bus with recovering := d.bus.recovering.filter (· != ch.val) } }
    let d := ((d.put (CAN_STAT_state ch) 0).put (CAN_STAT_tec ch) 0).put (CAN_STAT_rec ch) 0
    let d := (d.cancel ⟨.boffWait, ch, 0⟩).cancel ⟨.boffHold, ch, 0⟩
    let d := if d.isoed (pgCAN ch) then d else d.drainOff (canPort ch)
    (d.raise (pgCAN ch) 19).canIdle ch

/-- Discard every frame that a channel has drawn, counting TX_DRAIN. -/
def Dev.drainDraws (port : Nat) (d : Dev) : Dev :=
  d.each (d.drawsOf port) (fun x d => d.dropDraw (fun d => d.countDrain port) x)

/-- BOFF_HOLD_EXPIRY: the bid set, the timed objects and the VOQs drain until the channel is error active again. -/
def opBoffHold (ch : CanCh) (d : Dev) : Dev :=
  d.onTimer ⟨.boffHold, ch, 0⟩ (fun d =>
    if d.canState ch ≠ 2 then d
    else
      let d := (d.drainDraws (canPort ch)).setBids ch []
      (d.each (List.range 16) (fun k d => d.showFull ch k)).drainOn (canPort ch))

/-- TIMED_DISPATCH: the launch of a timed object (R183). -/
def opTimedDispatch (ch : CanCh) (k : TimSlot) (d : Dev) : Dev :=
  d.launch (.can ch k) [4] (fun d =>
    let en := d.flag (CAN_TO_CFG_en ch k)
    let has := (d.objDraw ch k).isSome || (d.flag (CAN_TO_CFG_repeat ch k) && (d.keptAt ch k).isSome)
    if !en || !has then d.count (CAN_CNT ch 20)
    else if (d.bids ch).contains k.val then d.count (CAN_CNT ch 21)
    else
      let late := !d.canFree ch || (d.objDraw ch k).any (fun x => decide (d.now < x.ready))
      let d := d.setBids ch (d.bids ch ++ [k.val])
      let d := { d with bus := { d.bus with copyErrors := NMap.set 0 d.bus.copyErrors (ch * 16 + k) 0 } }
      if late then (d.count (CAN_CNT ch 19)).raise (pgCAN ch) 17 else d.canLaunch ch k)

/-! ### CAN: drawing from the VOQs (R181, R183) -/

/-- The timed object whose key a record has. -/
def Dev.timedObj (d : Dev) (ch : Nat) (r : BusRecord) : Option Nat :=
  (List.range 16).find? (fun k => d.flag (CAN_TO_CFG_en ch k) && d.get (CAN_TO_ID_fmt ch k) == r.fmt &&
    d.get (CAN_TO_ID_id ch k) == r.id)

/-- The channel can take the head of a VOQ: into its bid set while it has room, or into a timed object that holds no
unsent frame. -/
def Dev.canTakes (d : Dev) (ch q : Nat) : Bool :=
  match d.headRecord q with
  | none => false
  | some r =>
    match d.timedObj ch r with
    | some k => (d.objDraw ch k).isNone
    | none => decide (((d.drawsOf (canPort ch)).filter (fun x => x.place == 0)).length < d.get (CAN_TXQ_CFG_n ch))

/-- The channel takes the frame at the head of a VOQ. -/
def Dev.canTake (ch q : Nat) (d : Dev) : Dev :=
  match d.voq q with
  | [] => d
  | c :: _ =>
    match d.frame c.fid with
    | none => d
    | some f =>
      match d.busForm f with
      | (none, d) => d.dropHead q id
      | (some (r, ready, cv), d) =>
        let obj := d.timedObj ch r
        if !canSends (d.canProto ch) r || (obj.isSome && decide (256 < 16 + r.data.length)) then
          d.dropHead q (fun d => d.count (CAN_CNT ch 14))
        else
          let place := match obj with
            | some k => k + 1
            | none => 0
          let d := d.takeHead q
          let d := { d with vlt := { d.vlt with
            drawn := d.vlt.drawn ++
              [({ q := q, copy := c, port := canPort ch, place := place, record := r, ready := ready, cv := cv } : Draw)] } }
          match obj with
          | some k => (d.setKept ch k none).showFull ch k
          | none => d.canStart ch

/-! ### CAN: reception (R177, R178, R185) -/

/-- A filter element matches a record (Table 8-4). -/
def fltMatch (w0 w1 w2 : Nat) (r : BusRecord) : Bool :=
  let id1 := nb w0 28 0
  let id2 := nb w1 28 0
  let fmt := nb w1 31 30
  (fmt == 3 || fmt == r.fmt) && (!nbit w2 24 || r.fmt != 2 || nb w2 23 16 == r.vcid) &&
  (match nb w0 31 29 with
   | 1 => decide (id1 ≤ r.id) && decide (r.id ≤ id2)
   | 2 => r.id == id1 || r.id == id2
   | 3 => Nat.land r.id id2 == Nat.land id1 id2
   | _ => false)

/-- The action of the first matching element of the live list, or `nomatch`; element `ue` reads uncorrectable. -/
def Dev.fltAction (d : Dev) (ch : Nat) (r : BusRecord) (ue : Option Nat) : Nat :=
  let b := d.get (CAN_RX_CFG_lbank ch)
  let base := d.get (CAN_LB_FLT_base ch b)
  match (List.range (d.get (CAN_LB_FLT_n ch b))).find? (fun k =>
      some k != ue && fltMatch (d.mr ch (base + 3 * k)) (d.mr ch (base + 3 * k + 1)) (d.mr ch (base + 3 * k + 2)) r) with
  | some k => d.mr ch (base + 3 * k + 2)
  | none => d.get (CAN_RX_CFG_nomatch ch)

/-- The ownership entry that a record matches (R185): valid bit 31 and fmt and id of word 0, pass bit 31 and mask of
word 1. -/
def Dev.ownHit (d : Dev) (ch : Nat) (r : BusRecord) : Option Bool :=
  let b := d.get (CAN_RX_CFG_lbank ch)
  let base := d.get (CAN_LB_OWN_base ch b)
  ((List.range (d.get (CAN_LB_OWN_n ch b))).find? (fun k =>
    let w0 := d.mr ch (base + 2 * k)
    let m := nb (d.mr ch (base + 2 * k + 1)) 28 0
    nbit w0 31 && nb w0 30 29 == r.fmt && Nat.land r.id m == Nat.land (nb w0 28 0) m)).map
    (fun k => nbit (d.mr ch (base + 2 * k + 1)) 31)

/-- An owned identifier from elsewhere: counted, the first captured (R185). -/
def Dev.ownAlarm (ch : Nat) (r : BusRecord) (ns : Nat) (d : Dev) : Dev :=
  let d := (d.count (CAN_CNT ch 17)).raise (pgCAN ch) 13
  if d.flag (CAN_OWN_CAP_ID_valid ch) then d
  else
    let d := ((d.put (CAN_OWN_CAP_ID_valid ch) 1).put (CAN_OWN_CAP_ID_fmt ch) r.fmt).put (CAN_OWN_CAP_ID_id ch) r.id
    d.wr64 (CAN_OWN_CAP_T_LO ch) (CAN_OWN_CAP_T_HI ch) ns

/-- The receive error counter after a frame received without error: one less, and from above 127 to a value between 119
and 127 that ISO 11898-1 leaves open. -/
def Dev.recDown (ch : Nat) (d : Dev) : Dev :=
  let r := d.get (CAN_STAT_rec ch)
  if r ≤ 127 then d.put (CAN_STAT_rec ch) (r - 1)
  else
    let (x, d) := d.free 8
    d.put (CAN_STAT_rec ch) (119 + x % 9)

/-- What a valid frame's action does: count, route and store. -/
def Dev.canAct (ch : Nat) (r : BusRecord) (t : Nat × Nat) (own : Option Bool) (a : Nat) (d : Dev) : Dev :=
  if nbit a 3 then d.count (CAN_CNT ch 3)
  else
    let d :=
      if nbit a 0 && own != some false then (d.count (CAN_CNT ch 1)).handOff (canPort ch) r t else d
    match nb a 2 1 with
    | 1 => d.fifoPush ch 0 r t.1 own.isSome
    | 2 => d.fifoPush ch 1 r t.1 own.isSome
    | 3 =>
      let o := nb a 15 8
      if o < d.get (CAN_OBJ_CFG_n ch) then (d.count (CAN_CNT ch 2)).objWrite ch o r t.1 own.isSome
      else d.count (CAN_CNT ch 22)
    | _ => d

/-- CAN_FRAME_VALID: a frame whose SOF fell `ago` CK_CAN cycles ago becomes valid (R177); `ue` the filter element that
reads uncorrectable. A received Classical frame keeps at most 8 bytes (R173). -/
def opCanFrameValid (ch : CanCh) (r : BusRecord) (ago : Nat) (ue : Option Nat) (d : Dev) : Dev :=
  if !d.canHears ch then d
  else
    let r := if r.fmt < 2 ∧ !r.fdf then { r with data := r.data.take 8 } else r
    let d := (d.recDown ch).canConfine ch
    let d := (d.touch (canPort ch)).canIdle ch
    if d.isoed (pgCAN ch) then d.count (CAN_CNT ch 4)
    else
      let t := d.busTime (canPort ch) ago
      let own := d.ownHit ch r
      let d := if own.isSome then d.ownAlarm ch r t.1 else d
      let d := match ue with
        | some k => d.mrUe ch (d.get (CAN_LB_FLT_base ch (d.get (CAN_RX_CFG_lbank ch))) + 3 * k)
        | none => d
      (d.count (CAN_CNT ch 0)).canAct ch r t own (d.fltAction ch r ue)

/-! ### CAN: configuration, isolation and reset -/

/-- A commit changed `CFG`, the bit timing, `TDC` or `XPWM`, or the mode was written: it waits for the next bus idle. -/
def Dev.canCfgWait (ch : Nat) (d : Dev) : Dev :=
  { d with bus := { d.bus with cfgWait := d.bus.cfgWait.filter (· != ch) ++ [ch] } }
def Dev.canTrxWait (ch : Nat) (d : Dev) : Dev :=
  { d with bus := { d.bus with trxWait := d.bus.trxWait.filter (· != ch) ++ [ch] } }

def Dev.canLatch (ch k : Nat) (w : Word) (d : Dev) : Dev :=
  { d with bus := { d.bus with inUse := NMap.set none d.bus.inUse (ch * 4 + k) (some w) } }

/-- CAN_BUS_IDLE_APPLY: the bus is idle and what waits takes effect, after which a channel with a committed change integrates
again; or, not `idle`, another node's SOF has ended the idle bus. -/
def opCanIdleApply (ch : CanCh) (idle : Bool) (d : Dev) : Dev :=
  if (d.canCur ch).isSome then d
  else if !idle then (if d.canHears ch then d.put (CAN_STAT_busy ch) 1 else d)
  else
    let cfg := d.bus.cfgWait.contains ch.val
    let trx := d.bus.trxWait.contains ch.val
    let d := if trx then d.canLatch ch 2 (d.rd (CAN_TRX ch)) else d
    let d := if cfg then ((d.canLatch ch 0 (d.rd (CAN_CFG ch))).canLatch ch 1 (d.rd (CAN_NBT ch))) else d
    let d := d.cfgInEffect ch.val
    let d := { d with bus := { d.bus with cfgWait := d.bus.cfgWait.filter (· != ch.val),
                                          trxWait := d.bus.trxWait.filter (· != ch.val) } }
    let d := d.put (CAN_STAT_busy ch) 0
    if cfg && d.canState ch != 2 then d.put (CAN_STAT_state ch) 3 else d.canStart ch

/-- CAN_INTEGRATION_DONE: 11 recessive bits have passed. -/
def opCanIntegrated (ch : CanCh) (d : Dev) : Dev :=
  if d.canState ch ≠ 3 ∨ !d.chanOn (pgCAN ch) then d
  else
    let bad := decide (128 ≤ d.get (CAN_STAT_tec ch)) || decide (128 ≤ d.get (CAN_STAT_rec ch))
    ((d.put (CAN_STAT_state ch) (if bad then 1 else 0)).put (CAN_STAT_busy ch) 0).canStart ch

/-- A CAN channel isolates (R191). -/
def Dev.isoCan (ch : Nat) (d : Dev) : Dev :=
  if d.isoed (pgCAN ch) then d else ((d.canReturn ch true).isoStart (pgCAN ch)).drainOn (canPort ch)

/-- A unit reset of a CAN page (R191). -/
def Dev.canReset (ch : Nat) (d : Dev) : Dev :=
  let d := d.canReturn ch false
  let d := d.each (List.range 16) (fun k d => (d.setKept ch k none).showFull ch k)
  let d := (d.each (List.range 2) (fun k d => d.fifoEmpty ch k)).objsClear ch
  let d := { d with bus := { d.bus with recovering := d.bus.recovering.filter (· != ch) } }
  let d := if d.isoed (pgCAN ch) then d else d.drainOff (canPort ch)
  let d := ((d.put (CAN_STAT_tec ch) 0).put (CAN_STAT_rec ch) 0).put (CAN_STAT_state ch) 3
  ((d.put (CAN_STAT_busy ch) 0).cancel ⟨.boffWait, ch, 0⟩).cancel ⟨.boffHold, ch, 0⟩

/-! ### LIN: response table and publish buffers (R188) -/

def Dev.linBuf (d : Dev) (ch id : Nat) : Option BusRecord := NMap.get none d.bus.linBuf (ch * 64 + id)
def Dev.setLinBuf (ch id : Nat) (r : Option BusRecord) (d : Dev) : Dev :=
  { d with bus := { d.bus with linBuf := NMap.set none d.bus.linBuf (ch * 64 + id) r } }
def Dev.linAwait (d : Dev) (ch : Nat) : Option (Nat × Bool) := NMap.get none d.bus.linAwait ch
/-- One bit at a LIN channel's rate, times n, in root periods. -/
def Dev.linBits (d : Dev) (ch n : Nat) : Nat := n * 4800000000 / max 1 (d.get (LIN_CFG_baud ch))

/-- What a LIN channel waits for: a response, with the limit after which there is none (R188). -/
def Dev.setLinAwait (ch : Nat) (x : Option (Nat × Bool)) (d : Dev) : Dev :=
  let d := { d with bus := { d.bus with linAwait := NMap.set none d.bus.linAwait ch x } }
  match x with
  | some (id, _) => d.arm ⟨.linResp, ch, 0⟩
      (max d.now (NMap.get 0 d.bus.linEnd ch) + d.linBits ch (14 * (d.get (LIN_RESP_len ch id) + 1)))
  | none => d.cancel ⟨.linResp, ch, 0⟩

/-- The bytes that the channel knows of end n bit times after those it knew of, or after now. -/
def Dev.linTakesUp (ch n : Nat) (d : Dev) : Dev :=
  let e := max d.now (NMap.get 0 d.bus.linEnd ch) + d.linBits ch n
  { d with bus := { d.bus with linEnd := NMap.set 0 d.bus.linEnd ch e } }

/-- The bus of a LIN channel is idle: no bytes that the channel knows of, and no response it waits for (R193). -/
def Dev.linIdle (d : Dev) (ch : Nat) : Bool := (d.linAwait ch).isNone && decide (NMap.get 0 d.bus.linEnd ch ≤ d.now)

/-- The wait for a response ends without one: NO_RESP. -/
def Dev.linUnanswered (ch : Nat) (d : Dev) : Dev :=
  match d.linAwait ch with
  | none => d
  | some _ => ((d.setLinAwait ch none).count (LIN_CNT ch 3)).raise (pgLIN ch) 10

/-- A protected identifier: the identifier with the parity bits of ISO 17987 (R187). -/
def linPid (id : Nat) : Nat :=
  let b (k : Nat) : Nat := id / 2 ^ k % 2
  let p0 := (b 0 + b 1 + b 2 + b 4) % 2
  let p1 := (b 1 + b 3 + b 4 + b 5 + 1) % 2
  id % 64 + p0 * 64 + p1 * 128

/-- The unsent frame of a publish buffer. -/
def Dev.pubDraw (d : Dev) (ch id : Nat) : Option Draw := (d.drawsOf (linPort ch)).find? (fun x => x.place == id)

/-- Show whether a publish buffer holds an unsent frame. -/
def Dev.pubShow (ch id : Nat) (d : Dev) : Dev :=
  d.setBit (LIN_PUB_STAT ch (id / 32)) (id % 32) (d.pubDraw ch id).isSome

/-- The channel can take the head of a VOQ: a record for a published identifier waits until the buffer's frame has been
sent once; a record it cannot send is taken to be discarded. -/
def Dev.linTakes (d : Dev) (ch q : Nat) : Bool :=
  match d.headRecord q with
  | none => false
  | some r => r.fmt != 3 || d.get (LIN_RESP_dir ch (r.id % 64)) != 2 || (d.pubDraw ch (r.id % 64)).isNone

/-- The channel takes the frame at the head of a VOQ into its publish buffer, padded to its length. -/
def Dev.linTake (ch q : Nat) (d : Dev) : Dev :=
  match d.voq q with
  | [] => d
  | c :: _ =>
    match d.frame c.fid with
    | none => d
    | some f =>
      match d.busForm f with
      | (none, d) => d.dropHead q id
      | (some (r, ready, cv), d) =>
        let id_ := r.id % 64
        let len := d.get (LIN_RESP_len ch id_)
        if r.fmt ≠ 3 ∨ d.get (LIN_RESP_dir ch id_) ≠ 2 ∨ len < r.data.length then
          d.dropHead q (fun d => d.count (LIN_CNT ch 11))
        else
          let r := { r with data := r.data ++ List.replicate (len - r.data.length) 0xFF }
          let d := d.takeHead q
          let d := { d with vlt := { d.vlt with
            drawn := d.vlt.drawn ++
              [({ q := q, copy := c, port := linPort ch, place := id_, record := r, ready := ready, cv := cv } : Draw)] } }
          (Dev.when cv.isNone (fun d => d.setLinBuf ch id_ (some r)) d).pubShow ch id_

/-- Classic or enhanced checksum of an identifier: 60 to 63 always classic (R187). -/
def Dev.linEnh (d : Dev) (ch id : Nat) : Bool := decide (id < 60) && d.flag (LIN_RESP_cks ch id)

/-- A header for an identifier has been sent or received: answered from a publish buffer, its reference released at the
first sending; subscribed; or ignored. A response that was still awaited has not come (R188). -/
def Dev.linHeader (ch id : Nat) (event : Bool) (d : Dev) : Dev :=
  let d := d.linUnanswered ch
  match d.get (LIN_RESP_dir ch id) with
  | 1 => d.setLinAwait ch (some (id, event))
  | 2 =>
    let mine := (d.pubDraw ch id).filter (fun x => decide (x.ready ≤ d.now))
    let d := match mine with
      | some x => d.setLinBuf ch id (some x.record)
      | none => d
    (match d.linBuf ch id with
     | none => d
     | some r =>
       let r := { r with enh := d.linEnh ch id }
       let d := ((d.count (LIN_CNT ch 1)).linTakesUp ch (10 * (r.data.length + 1))).touch (linPort ch)
       let d := d.emit (.busFrame (linPort ch) r (NMap.get 0 d.bus.linEnd ch))
       match mine with
       | some x => (d.endDraw x).pubShow ch id
       | none => d)
  | _ => d

/-- LIN_HEADER_RECEIVED at a responder: a break of at least 11 bits, the rate measured from its sync byte, within 14 % of
its own, and a protected identifier of good parity (R187). -/
def opLinHeader (ch : LinCh) (brk baud pid : Nat) (d : Dev) : Dev :=
  if !d.chanOn (pgLIN ch) || d.flag (LIN_CFG_role ch) || decide (brk < 11) then d
  else
    let b := d.get (LIN_CFG_baud ch)
    let d := d.put (LIN_STAT_meas_baud ch) baud
    if b * 14 < absDiff baud b * 100 then (d.count (LIN_CNT ch 6)).raise (pgLIN ch) 13
    else
      let d := (d.put (LIN_STAT_sync ch) 1).touch (linPort ch)
      if pid = linPid (pid % 64) then d.linHeader ch (pid % 64) false else d

/-- Show the head item of a LIN FIFO. -/
def Dev.linShow (ch : Nat) (d : Dev) : Dev :=
  let l := NMap.get [] d.bus.linFifo ch
  let d := d.put (LIN_RXF_CNT_items ch) l.length
  let ws := match l with
    | [] => [0, idleHi]
    | x :: _ => x
  d.each (List.range 10) (fun i d => d.wr (LIN_RXF_W ch i) (ws.getD i 0))

def Dev.setLinFifo (ch : Nat) (l : List (List Word)) (d : Dev) : Dev :=
  ({ d with bus := { d.bus with linFifo := NMap.set [] d.bus.linFifo ch l } } : Dev).linShow ch

/-- Store a frame in a LIN FIFO; a full one loses it (R190). -/
def Dev.linPush (ch : Nat) (r : BusRecord) (ns : Nat) (d : Dev) : Dev :=
  let l := NMap.get [] d.bus.linFifo ch
  let lost := d.bus.fifoOvf.filter (· != 48 + ch)
  if 32 ≤ l.length then
    ({ d with bus := { d.bus with fifoOvf := lost ++ [48 + ch] } } : Dev).count (LIN_CNT ch 9) |>.raise (pgLIN ch) 9
  else
    let ovf := d.bus.fifoOvf.contains (48 + ch)
    let d := ({ d with bus := { d.bus with fifoOvf := lost } } : Dev).setLinFifo ch
      (l ++ [(itemOf 0 r ns ovf false).map (BitVec.ofNat 32)])
    if l.isEmpty then d.raise (pgLIN ch) 8 else d

/-- LIN_RESPONSE_RECEIVED: the response to the header that waits, whose break fell `ago` CK_CAN cycles ago. With fewer than
`len` data bytes it is no whole response, and the wait goes on to its limit; past the limit nothing waits (R188). -/
def opLinResponse (ch : LinCh) (data : List Byte) (cksOk framingOk : Bool) (ago : Nat) (d : Dev) : Dev :=
  match d.linAwait ch, d.due ⟨.linResp, ch, 0⟩ with
  | none, _ | _, none => d
  | some (id, event), some lim =>
    if lim < d.now ∨ (data.length < d.get (LIN_RESP_len ch id) ∧ framingOk) then d.touch (linPort ch)
    else
    let d := (d.setLinAwait ch none).touch (linPort ch)
    if !framingOk then d.count (LIN_CNT ch 7)
    else if !cksOk then
      let d := (d.count (LIN_CNT ch 4)).raise (pgLIN ch) 11
      if event then (d.count (LIN_CNT ch 8)).raise (pgLIN ch) 12 else d
    else if d.isoed (pgLIN ch) then d.count (LIN_CNT ch 12)
    else
      let t := d.busTime (linPort ch) ago
      let r : BusRecord := { id := id, fmt := 3, enh := d.linEnh ch id, data := data.take (d.get (LIN_RESP_len ch id)) }
      let d := (d.count (LIN_CNT ch 0)).handOff (linPort ch) r t
      if d.flag (LIN_RESP_store ch id) then d.linPush ch r t.1 else d

/-- LIN_NO_RESPONSE: 1.4 × (10 × (len + 1)) bit times after the header. -/
def opLinNoResponse (ch : LinCh) (d : Dev) : Dev := d.onTimer ⟨.linResp, ch, 0⟩ (fun d => d.linUnanswered ch)

/-- The receive FIFO of a LIN channel is emptied, its items counted as lost. -/
def Dev.linFifoGone (ch : Nat) (d : Dev) : Dev :=
  let n := (NMap.get [] d.bus.linFifo ch).length
  ((d.setLinFifo ch []).add (LIN_CNT_count ch 9) n).each (List.range n) (fun _ d => d.fenceTook (pgLIN ch) 1)

/-- LIN_RXF_POP: `mism` where the FIFO's pointer copies disagree and it is reset (R301). -/
def opLinPop (i : Initiator) (ch : LinCh) (mism : Bool) (d : Dev) : Dev :=
  d.access i (fun d =>
    let d := if mism then (d.linFifoGone ch).queueReset 3 (24 + ch) else d
    match NMap.get [] d.bus.linFifo ch with
    | [] => d
    | _ :: l => (d.setLinFifo ch l).fenceTook (pgLIN ch) 1)

/-! ### LIN: schedules (R189) -/

/-- LIN_SCHEDULE_SLOT: a slot of the schedule begins (action 0x05) and its header is sent, or it stays silent; `bitErr`
where the commander detects a bit error of its own. An isolated commander stops its schedule at the end of the slot. -/
def opLinSlot (ch : LinCh) (bitErr : Bool) (d : Dev) : Dev :=
  match d.nextSlot ch with
  | none => d
  | some (t, first, run) =>
    if d.pw.halted || !d.turn (d.turnAt (.linSch ch) t) then d
    else if (d.sleepSeg (linPort ch)).isSome then (d.atNs t).setSchRun ch {}
    else if !d.chanOn (pgLIN ch) then d
    else
      let d := d.atNs t
      if d.isoed (pgLIN ch) then d.setSchRun ch {}
      else
        let d := d.setSchRun ch run
        let d := if first then d.raise (pgLIN ch) 15 else d
        match run.cur with
        | none => d
        | some c =>
          let e := d.schEnt ch c.bank run.entry
          let id := nb e 5 0
          let type := nb e 7 6
          if type = 2 ∧ (d.pubDraw ch id).isNone then d.count (LIN_CNT ch 13)
          else
            let d := ((d.linUnanswered ch).count (LIN_CNT ch 2)).touch (linPort ch)
            let brk := d.get (LIN_CFG_brk ch)
            let del := d.get (LIN_CFG_del ch)
            let d := (d.emit (.linHeader ch brk del (linPid id) (d.now + nsT 50))).linTakesUp ch (brk + del + 20)
            if bitErr then (d.count (LIN_CNT ch 5)).raise (pgLIN ch) 14
            else d.linHeader ch id (type == 1)

/-- LIN_SCH_READ. -/
def opLinSchRead (i : Initiator) (ch : LinCh) (d : Dev) : Dev :=
  d.window i (.linSch ch) 1 false (fun _ => true) (fun d =>
    let e := d.schEnt ch (d.get (LIN_SCH_SEL_bank ch)) (d.get (LIN_SCH_SEL_entry ch))
    ((d.put (LIN_SCH_DATA_slot_us ch) (nb e 31 16)).put (LIN_SCH_DATA_type ch) (nb e 7 6)).put (LIN_SCH_DATA_id ch) (nb e 5 0))

/-- LIN_SCH_WRITE: an entry of a bank that is neither operational nor pending; otherwise refused with `err`, which an
accepted write clears. -/
def opLinSchWrite (i : Initiator) (ch : LinCh) (d : Dev) : Dev :=
  let free (d : Dev) : Bool := !(d.schRun ch).bankBusy (d.get (LIN_SCH_SEL_bank ch))
  d.write i (pgLIN ch) (winRegs (.linSch ch)).off 2 (fun d =>
    let refused := d.flag (LIN_SCH_WSTAT_busy ch) || !free d
    (d.put (LIN_SCH_STAT_err ch) (if refused then 1 else 0)).window i (.linSch ch) 2 true free (fun d =>
      let e := d.get (LIN_SCH_DATA_slot_us ch) * 2 ^ 16 + d.get (LIN_SCH_DATA_type ch) * 2 ^ 6 + d.get (LIN_SCH_DATA_id ch)
      { d with bus := { d.bus with
          sch := NMap.set 0 d.bus.sch (ch * 128 + d.get (LIN_SCH_SEL_bank ch) * 64 + d.get (LIN_SCH_SEL_entry ch)) e } }))

/-! ### LIN: isolation and reset (R191) -/

/-- The publish buffers' unsent frames return to their VOQs. -/
def Dev.linReturn (ch : Nat) (d : Dev) : Dev :=
  let l := d.drawsOf (linPort ch)
  let d := d.undraw l
  d.each l (fun x d => (d.setLinBuf ch x.place none).pubShow ch x.place)

def Dev.isoLin (ch : Nat) (d : Dev) : Dev :=
  if d.isoed (pgLIN ch) then d else ((d.linReturn ch).isoStart (pgLIN ch)).drainOn (linPort ch)

def Dev.linReset (ch : Nat) (d : Dev) : Dev :=
  let d := (((d.linReturn ch).setLinAwait ch none).setSchRun ch {}).each (List.range 64) (fun k d => d.setLinBuf ch k none)
  let d := d.add (LIN_CNT_count ch 9) (NMap.get [] d.bus.linFifo ch).length
  let d := { d with bus := { d.bus with linEnd := NMap.set 0 d.bus.linEnd ch 0,
                                        fifoOvf := d.bus.fifoOvf.filter (· != 48 + ch) } }
  (d.setLinFifo ch []).put (LIN_STAT_sync ch) 0

/-! ### A pick for a bus channel -/

/-- The trailer of a frame in a channel's staging buffer is computed: the frame may bid (R226). -/
def Dev.stageDone (ch : Nat) (d : Dev) : Dev :=
  match ((d.drawsOf (canPort ch)).filter (fun x => x.cv.isSome)).map (fun x => x.ready) with
  | [] => d
  | t :: l => (d.at_ ((l.filter (fun u => decide (d.now < u))).foldl min (max t d.now))).canStart ch

/-- A VOQ of a bus channel can be served: its channel takes the head, or the head is to be discarded. -/
def Dev.busUsable (out c q : Nat) (d : Dev) : Bool :=
  if d.drains out then true
  else
    match d.sleeping out c with
    | some x => x == 1
    | none =>
      if out ≤ 87 then d.chanOn (pgCAN (out - 64)) && d.canTakes (out - 64) q
      else d.chanOn (pgLIN (out - 88)) && d.linTakes (out - 88) q

/-- The class that a bus channel serves, with the VOQ taken. -/
def Dev.busChoice (out : Nat) (d : Dev) : Option (Nat × Nat × Dev) :=
  highest (fun c => d.drrTake out c ((d.heads out c).filter (fun q => d.busUsable out c q)))

/-- EGRESS_PICK for a CAN or LIN channel: one head is drawn, the highest class first and among inputs by deficit round
robin; a draining channel discards it. -/
def Dev.pickBus (out : Nat) (err : Option VaultErr) (d0 : Dev) : Dev :=
  let d := d0.toPick out
  let can := decide (out ≤ 87)
  let drop := d.drains out || d.sleeping out 0 == some 1
  match d.busChoice out with
  | none => if can then d0.stageDone (out - 64) else d0
  | some (c, q, d) =>
    let drop := drop || d.sleeping out c == some 1
    match d.voq q with
    | [] => d
    | x :: _ =>
      if d.expired x then d.agedOut q
      else
        match d.frame x.fid with
        | none => d
        | some f =>
          if drop then
            let d := match d.sleepSeg out with
              | some g => if d.drains out then d else d.count (WAK_SEG_DROP g)
              | none => d
            d.dropHead q (fun d => d.countDrain out)
          else
            match d.meetErr q out f err with
            | (none, d) => d
            | (some bad, d) =>
              if bad then d.dropHead q id
              else if can then d.canTake (out - 64) q
              else d.linTake (out - 88) q

/-! ### The meanings of the commands of this file -/

/-- BUS_FRAME_HANDOFF (R69). -/
def execBusFrameHandoff (p : Nat) (s : State) : Host.Outcome State Fault Refusal :=
  effectIf (isBusPort p) (opBusHandoff p) s

/-- CAN_FRAME_VALID (R177). -/
def execCanFrameValid (ch : CanCh) (r : BusRecord) (ago : Nat) (ue : Option Nat) (s : State) : Host.Outcome State Fault Refusal :=
  effectIf (r.wf) (opCanFrameValid ch r ago ue) s

/-- CAN_ERROR_FRAME (R177). -/
def execCanErrorFrame (ch : CanCh) (lec eights : Nat) (s : State) : Host.Outcome State Fault Refusal :=
  effectIf (decide (lec < 8)) (opCanErrorFrame ch lec eights) s

/-- OBJ_LOCK (R180). -/
def execObjLock (i : Initiator) (ch : CanCh) (ue : Bool) (s : State) : Host.Outcome State Fault Refusal :=
  effect (opObjLock i ch ue) s

/-- OBJ_RELEASE (R180). -/
def execObjRelease (i : Initiator) (ch : CanCh) (s : State) : Host.Outcome State Fault Refusal :=
  effect (opObjRelease i ch) s

/-- RXF_POP (R179). -/
def execRxfPop (i : Initiator) (ch : CanCh) (v : Word) (ue mism : Bool) (s : State) : Host.Outcome State Fault Refusal :=
  effect (opRxfPop i ch v ue mism) s

/-- MR_DATA_ACCESS (R176). -/
def execMrDataAccess (i : Initiator) (ch : CanCh) (write : Option Word) (ue : Bool) (s : State) :
    Host.Outcome State Fault Refusal :=
  effect (opMrAccess i ch write ue) s

/-- CAN_BUS_IDLE_APPLY (R174). -/
def execCanBusIdleApply (ch : CanCh) (idle : Bool) (s : State) : Host.Outcome State Fault Refusal :=
  effect (opCanIdleApply ch idle) s

/-- CAN_INTEGRATION_DONE (R174). -/
def execCanIntegrationDone (ch : CanCh) (s : State) : Host.Outcome State Fault Refusal :=
  effect (opCanIntegrated ch) s

/-- CAN_TX_DONE (R181). -/
def execCanTxDone (ch : CanCh) (s : State) : Host.Outcome State Fault Refusal :=
  effect (opCanTxDone ch) s

/-- CAN_ARB_LOST (R182). -/
def execCanArbLost (ch : CanCh) (s : State) : Host.Outcome State Fault Refusal :=
  effect (opCanArbLost ch) s

/-- CAN_TX_ERROR (R182). -/
def execCanTxError (ch : CanCh) (lec : Nat) (clash exempt : Bool) (eights : Nat) (s : State) :
    Host.Outcome State Fault Refusal :=
  effectIf (decide (lec < 8)) (opCanTxError ch lec clash exempt eights) s

/-- BOFF_WAIT_EXPIRY (R184). -/
def execBoffWaitExpiry (ch : CanCh) (s : State) : Host.Outcome State Fault Refusal :=
  effect (opBoffWait ch) s

/-- BOFF_RESTART (R184). -/
def execBoffRestart (i : Initiator) (ch : CanCh) (s : State) : Host.Outcome State Fault Refusal :=
  effect (opBoffRestart i ch) s

/-- BOFF_RECOVERED (R184). -/
def execBoffRecovered (ch : CanCh) (s : State) : Host.Outcome State Fault Refusal :=
  effect (opBoffRecovered ch) s

/-- BOFF_HOLD_EXPIRY (R184). -/
def execBoffHoldExpiry (ch : CanCh) (s : State) : Host.Outcome State Fault Refusal :=
  effect (opBoffHold ch) s

/-- TIMED_DISPATCH (R183). -/
def execTimedDispatch (ch : CanCh) (k : TimSlot) (s : State) : Host.Outcome State Fault Refusal :=
  effect (opTimedDispatch ch k) s

/-- LIN_HEADER_RECEIVED (R188). -/
def execLinHeaderReceived (ch : LinCh) (brk baud pid : Nat) (s : State) : Host.Outcome State Fault Refusal :=
  effectIf (decide (baud < 65536) && decide (pid < 256)) (opLinHeader ch brk baud pid) s

/-- LIN_RESPONSE_RECEIVED (R188). -/
def execLinResponseReceived (ch : LinCh) (data : List Byte) (cksOk : Bool) (framingOk : Bool) (ago : Nat) (s : State) :
    Host.Outcome State Fault Refusal :=
  effectIf (decide (data.length ≤ 8)) (opLinResponse ch data cksOk framingOk ago) s

/-- LIN_NO_RESPONSE (R188). -/
def execLinNoResponse (ch : LinCh) (s : State) : Host.Outcome State Fault Refusal :=
  effect (opLinNoResponse ch) s

/-- LIN_SCHEDULE_SLOT (R189). -/
def execLinScheduleSlot (ch : LinCh) (bitErr : Bool) (s : State) : Host.Outcome State Fault Refusal :=
  effect (opLinSlot ch bitErr) s

/-- LIN_RXF_POP (R190). -/
def execLinRxfPop (i : Initiator) (ch : LinCh) (mism : Bool) (s : State) : Host.Outcome State Fault Refusal :=
  effect (opLinPop i ch mism) s

/-- LIN_SCH_READ (R189). -/
def execLinSchRead (i : Initiator) (ch : LinCh) (s : State) : Host.Outcome State Fault Refusal :=
  effect (opLinSchRead i ch) s

/-- LIN_SCH_WRITE (R189). -/
def execLinSchWrite (i : Initiator) (ch : LinCh) (s : State) : Host.Outcome State Fault Refusal :=
  effect (opLinSchWrite i ch) s

end Sys2Proof.Machine
end

