-- ==== Sys2Proof/Machine/Kalow.lean ====
section
/-!
DEFINITION. The Kalow signal engine (chapter 9): placements, the signal store, unpacking, triggers and packs, containers
and tunnels, the store window and the dump.
-/

namespace Sys2Proof.Machine

/-! ### Descriptor records (Table 9-14) -/

/-- Memories of the descriptor window. -/
def kmSignal : Nat := 0
def kmPlacement : Nat := 1
def kmLayout : Nat := 2
def kmRoute : Nat := 3
def kmList : Nat := 4
def kmMap : Nat := 5
def kmTemplate : Nat := 6

/-- Entries of a memory; a template's control word is entry index + 256. -/
def kmSize : Nat → Nat
  | 0 => 16384 | 1 => 16384 | 2 => 4096 | 3 => 8192 | 4 => 4096 | 5 => 4096 | 6 => 512 | _ => 0

/-- A record of a descriptor memory. -/
def krecOf (recs : NMap Nat) (m i : Nat) : Nat := NMap.get 0 recs (m * 2 ^ 14 + i)
def Dev.krec (d : Dev) (m i : Nat) : Nat := krecOf d.kal.recs m i
def Dev.sigRec (d : Dev) (s : Nat) : Nat := d.krec kmSignal s
def Dev.route (d : Dev) (r : Nat) : Nat := d.krec kmRoute r

/-- The placements of a layout record. -/
def placementsOf (recs : NMap Nat) (lay : Nat) : List Nat :=
  (List.range (nb lay 34 26)).map (fun k => krecOf recs kmPlacement (nb lay 25 12 + k))

/-- The output routes of a trigger list. -/
def listRoutesOf (recs : NMap Nat) (t : Nat) : List Nat :=
  let r := krecOf recs kmList t
  (List.range (nb r 107 104)).map (fun k => nb r (13 * k + 12) (13 * k))

/-! ### Placements (R195 to R197) -/

/-- The bits that a field of a placement visits, in visiting order. -/
def plcBits (be : Bool) : Nat → Nat → List Nat
  | _, 0 => []
  | b, n + 1 => b :: plcBits be (if be then (if b % 8 = 0 then b + 15 else b - 1) else b + 1) n

def plcLen (p : Nat) : Nat := nb p 19 14 + 1
def plcVisit (p : Nat) : List Nat := plcBits (nbit p 20) (nb p 13 0) (plcLen p)

/-- The field's value in an image: the first bit visited is the most significant for big-endian, the least for
little-endian. -/
def plcGet (p img : Nat) : Nat :=
  let bits := plcVisit p
  let bits := if nbit p 20 then bits.reverse else bits
  (bits.zip (List.range bits.length)).foldl (fun v e => v + (if bitAt img e.1 then 2 ^ e.2 else 0)) 0

/-- The image with a value placed in the field. -/
def plcPut (p v img : Nat) : Nat :=
  let bits := plcVisit p
  let bits := if nbit p 20 then bits.reverse else bits
  (bits.zip (List.range bits.length)).foldl (fun img e => setBitTo img e.1 (bitAt v e.2)) img

/-- Every bit of the field is among the first n bytes of a PDU. -/
def plcPresent (p n : Nat) : Bool := (plcVisit p).all (fun b => decide (b < 8 * n))

/-- The value an unpack writes: sign-extended for type 1, zero-extended otherwise (R196). -/
def plcValue (p img : Nat) : Nat :=
  let v := plcGet p img
  if nb p 22 21 = 1 then unsigned 64 (signed (plcLen p) v) else v

/-! ### The signal store (R198 to R200) -/

def Dev.sig (d : Dev) (s : Nat) : Signal := NMap.get {} d.kal.store s
def Dev.setSig (s : Nat) (v : Signal) (d : Dev) : Dev :=
  { d with kal := { d.kal with store := NMap.set {} d.kal.store s v } }

/-- The effective value of an entry under its signal record (Table 9-3). -/
def effOf (r : Nat) (x : Signal) : Nat :=
  if x.st = 0 then nb r 127 64 else if x.st = 2 ∧ nbit r 144 then nb r 63 0 else x.value

/-- A signal has timed out at device time t. -/
def timedOut (r : Nat) (x : Signal) (t : Nat) : Bool :=
  x.st != 0 && nb r 143 128 != 0 && decide (nb r 143 128 * 1000000 < t - x.tsrc)

/-- The effective value of a signal. -/
def Dev.eff (d : Dev) (s : Nat) : Nat := effOf (d.sigRec s) (d.sig s)

/-- The CK_TIM tick of an instant. -/
def Dev.tickIx (d : Dev) (x : Nat) : Nat := (x - d.tim.released.getD 0) / 12

/-- The instant of a CK_TIM tick. -/
def Dev.tickRoot (d : Dev) (k : Nat) : Nat := d.tim.released.getD 0 + 12 * k

/-- The entry as it stood after all commits in ticks up to and including that of an instant (R199). -/
def Dev.entryAt (d : Dev) (s at_ : Nat) : Signal :=
  let x := d.sig s
  if d.tickIx at_ < d.tickIx x.tick then { x with value := x.pvalue, tsrc := x.ptsrc, st := x.pst, unv := x.punv }
  else if x.st = 2 ∧ d.tickIx at_ < d.tickIx x.mark then { x with st := 1 }
  else x

/-- The entry as a pack sees it at its snapshot, device time t: the timeout evaluated exactly (R200). -/
def Dev.sigAt (d : Dev) (recs : NMap Nat) (s at_ t : Nat) : Signal :=
  let x := d.entryAt s at_
  if timedOut (krecOf recs kmSignal s) x t then { x with st := 2 } else x

/-- Age of an entry in whole units of n ns; none in NEVER. -/
def ageOf (x : Signal) (t n : Nat) : Option Nat := if x.st = 0 then none else some ((t - x.tsrc) / n)

/-- Write a signal: what stood before the tick is kept (R199). -/
def Dev.putSig (s v tsrc : Nat) (unv : Bool) (d : Dev) : Dev :=
  let x := d.sig s
  let x := if x.tick ≠ 0 ∧ d.tickIx x.tick = d.tickIx d.now then x
    else { x with pvalue := x.value, ptsrc := x.tsrc, pst := x.st, punv := x.unv }
  d.setSig s { x with value := v % 2 ^ 64, tsrc := tsrc, st := 1, unv := unv, tick := d.now }

/-- The moving flag (R212). -/
def Dev.motion (d : Dev) : Dev :=
  if !d.flag KLW_MOTION_CFG_en then (d.put KLW_MOTION_STAT_moving 0).put KLW_MOTION_STAT_stale 0
  else
    let s := d.get KLW_MOTION_CFG_sig
    let v := signed 64 (d.eff s)
    if (d.sig s).st ≠ 1 then (d.put KLW_MOTION_STAT_moving 1).put KLW_MOTION_STAT_stale 1
    else
      let d := d.put KLW_MOTION_STAT_stale 0
      if signed 32 (d.get KLW_MOTION_ON_value) < v then d.put KLW_MOTION_STAT_moving 1
      else if v < signed 32 (d.get KLW_MOTION_OFF_value) then d.put KLW_MOTION_STAT_moving 0
      else d

/-- The unit of region 8 that holds a record of a descriptor memory, or, after the seven memories, a store entry. -/
def klwUnit (m i : Nat) : Nat := m * 2 ^ 14 + i

/-- A store entry is lost: NEVER, and no change (R204). -/
def Dev.storeLost (s : Nat) (d : Dev) : Dev :=
  let d := (d.setSig s { d.sig s with st := 0, unv := false }).motion
  (d.count (KLW_CNT 16)).raise (pgKLW 0) 10

/-- An uncorrectable store entry (R204). -/
def Dev.storeUe (s : Nat) (d : Dev) : Dev := (d.storeLost s).uncorrectable 8 (klwUnit 7 s) 8

/-- A record is lost: nothing is built or applied (R204). -/
def Dev.descLost (d : Dev) : Dev := (d.count (KLW_CNT 15)).raise (pgKLW 0) 10

/-- An uncorrectable record (R204). -/
def Dev.descUe (m i : Nat) (d : Dev) : Dev := d.descLost.uncorrectable 8 (klwUnit m i) 8

/-- The output routes that a trigger of a kind packs: bit 17 `chg`, 18 `rx`. -/
def Dev.armedRoutes (d : Dev) (bit : Nat) (l : List Nat) : List Nat :=
  l.filter (fun r => nbit (d.route r) 0 && nbit (d.route r) 1 && nbit (d.route r) bit)

/-- The routes named by the trigger lists of changed signals. -/
def Dev.changedRoutes (d : Dev) (recs : NMap Nat) (sigs : List Nat) : List Nat :=
  d.armedRoutes 17 (sigs.flatMap (fun s =>
    let r := krecOf recs kmSignal s
    if nbit r 157 then listRoutesOf recs (nb r 156 145) else []))

/-- Trigger routes, each once. -/
def Dev.trigger (l : List Nat) (d : Dev) : Dev :=
  let l := l.eraseDups
  { d with kal := { d.kal with trigs := d.kal.trigs ++ l.map (fun r => (r, d.now, d.ns)) } }

/-- Write signals in one commit tick under descriptor records, and fire what changed (R198). -/
def Dev.commitSigs (recs : NMap Nat) (writes : List (Nat × Nat)) (tsrc : Nat) (unv : Bool) (rx : Option Nat) (d : Dev) : Dev :=
  let eff (d : Dev) (s : Nat) : Nat := effOf (krecOf recs kmSignal s) (d.sig s)
  let before := writes.map (fun w => (w.1, eff d w.1))
  let d := d.each writes (fun w d => d.putSig w.1 w.2 tsrc unv)
  let changed := (before.filter (fun b => eff d b.1 != b.2)).map (·.1)
  let fired := d.changedRoutes recs changed.eraseDups ++
    (match rx with
     | some t => d.armedRoutes 18 (listRoutesOf recs t)
     | none => [])
  (d.trigger fired).motion

/-- A pack or dump in progress still needs the previous value of a signal, which a commit now would overwrite (R199): its
snapshot lies before the signal's last commit, and that was in an earlier tick. -/
def Dev.needed (d : Dev) (s : Nat) : Bool :=
  let t := d.tickIx (d.sig s).tick
  t != d.tickIx d.now &&
  (d.kal.packs.any (fun p => p.sigs.contains s && decide (d.tickIx p.s < t)) ||
  (match d.kal.dump with
   | some x => decide ((s + 16384 - x.first) % 16384 < x.n) && decide (d.tickIx x.s < t)
   | none => false))

/-! ### The time that work takes (R211) -/

/-- Root periods of the unpack or pack of n placements: 50 ns and 62.5 ns for every four (Table 9-6). -/
def plcTime (n : Nat) : Nat := nsT 50 + (n + 3) / 4 * 300

/-- Root periods that other work waits for a PDU of n placements: 50 ns and 15.625 ns for each. -/
def workOf (n : Nat) : Nat := nsT 50 + n * 75

/-- How long work of a class waits: for the work of its own or a higher class that is already waiting. -/
def Dev.waitFor (d : Dev) (cls : Nat) : Nat :=
  let l := d.kal.jobs.map (fun j => (j.cls, j.at_, j.work)) ++ d.kal.packs.map (fun p => (p.cls, p.at_, p.work))
  (l.filter (fun e => decide (cls ≤ e.1) && decide (d.now < e.2.1))).foldl (fun n e => n + e.2.2) 0

/-! ### Packs (R197, R202, R203, R205 to R207) -/

/-- The age that a field takes, its maximum in NEVER; an age beyond the field is a value the spec leaves open. -/
def Dev.ageField (x : Signal) (t type len : Nat) (d : Dev) : Nat × Dev :=
  let top := if type = 1 then 2 ^ (len - 1) else 2 ^ len
  match ageOf x t 1000000 with
  | none => (top - 1, d)
  | some a => if a < top then (a, d) else d.free len

/-- The value a placement takes on pack, at the snapshot instant `at_` and device time t. -/
def Dev.packValue (p : Nat) (pl : KPlan) (at_ t : Nat) (d : Dev) : Nat × Dev :=
  let len := plcLen p
  let type := nb p 22 21
  let s := nb p 38 25
  let add := signed 32 (nb p 95 64)
  let x := d.sigAt pl.recs s at_ t
  match nb p 24 23 with
  | 1 => (unsigned len add, d)
  | 2 => (pl.alive % 2 ^ len, d)
  | 3 => d.ageField x t type len
  | _ =>
    let v := effOf (krecOf pl.recs kmSignal s) x
    if type = 2 then (v % 2 ^ len, d)
    else
      let x : Int := if type = 1 then signed 64 v else v
      let y := (x * signed 16 (nb p 55 40)) / (2 ^ nb p 60 56 : Nat) + add
      let lo : Int := if type = 1 then -(2 ^ (len - 1) : Nat) else 0
      let hi : Int := if type = 1 then (2 ^ (len - 1) : Nat) - 1 else (2 ^ len : Nat) - 1
      let z := max lo (min y hi)
      (unsigned len z, if z = y then d else (d.count (KLW_CNT 5)).raise (pgKLW 0) 9)

/-- The image of a layout at a snapshot. -/
def Dev.packImage (lay : Nat) (pl : KPlan) (at_ t : Nat) (d : Dev) : List Byte × Dev :=
  let len := nb lay 11 0
  let img := ofLe (List.replicate len (BitVec.ofNat 8 (nb lay 42 35)))
  let (img, d) := (placementsOf pl.recs lay).foldl (fun (e : Nat × Dev) p =>
    let (v, d) := e.2.packValue p pl at_ t
    (plcPut p v e.1, d)) (img, d)
  (leBytes len img, d)

/-- The template of an output route's record, and its control word. -/
def templateOf (recs : NMap Nat) (x : Nat) : List Byte × Nat :=
  let k := nb x 79 72
  let c := krecOf recs kmTemplate (k + 256)
  ((leBytes 96 (krecOf recs kmTemplate k)).take (nb c 6 0), c)

/-- Overwrite bytes at a place. -/
def pokeBytes (at_ : Nat) (x bs : List Byte) : List Byte := bs.take at_ ++ x ++ bs.drop (at_ + x.length)

/-- An Ethernet frame padded and closed with a valid frame check. -/
def closeFrame (bs : List Byte) : List Byte := pad60 bs ++ fcsOf (pad60 bs)

/-- Sixteen-bit ones' complement sum. -/
def onesSum (bs : List Byte) : Nat :=
  let s := (List.range ((bs.length + 1) / 2)).foldl (fun n i => n + be bs (2 * i) 2) 0
  let s := s % 65536 + s / 65536
  s % 65536 + s / 65536

/-- The NTSCF frame of a route around its ACF messages (R206). -/
def ntscf (recs : NMap Nat) (x seq : Nat) (msgs : List Byte) : List Byte :=
  let (t, c) := templateOf recs x
  let l3 := nb c 14 8
  let n := msgs.length
  let b1 := be t (l3 + 1) 1 / 8 * 8 + n / 256 % 8
  let t := pokeBytes (l3 + 1) (beBytes 1 b1 ++ beBytes 1 (n % 256) ++ beBytes 1 (seq % 256)) t
  closeFrame (t ++ msgs)

/-- An ACF GPC message: type 5, length in quadlets, gpc_msg_id, the PDU image padded to a quadlet. -/
def acfGpc (id : Nat) (img : List Byte) : List Byte :=
  let pad := (4 - img.length % 4) % 4
  let q := (8 + img.length + pad) / 4
  beBytes 2 (5 * 512 + q) ++ beBytes 6 id ++ img ++ List.replicate pad 0

/-- An ACF CAN, CAN Brief or LIN message of a record (Table 9-5). -/
def acfBus (brief : Bool) (bus ns : Nat) (r : BusRecord) : List Byte :=
  let b (c : Bool) (n : Nat) : Nat := if c then n else 0
  let pad := (4 - r.data.length % 4) % 4
  let body := r.data ++ List.replicate pad 0
  if r.fmt = 3 then
    let q := (12 + body.length) / 4
    beBytes 2 (3 * 512 + q) ++ beBytes 1 (pad * 64 + 32 + bus % 32) ++ beBytes 1 (r.id % 64) ++ beBytes 8 ns ++ body
  else
    let q := ((if brief then 8 else 16) + body.length) / 4
    beBytes 2 ((if brief then 2 else 1) * 512 + q) ++
      beBytes 1 (pad * 64 + b (!brief) 32 + b r.rtr 16 + b (r.fmt == 1) 8 + b r.brs 4 + b r.fdf 2 + b r.esi 1) ++
      beBytes 1 (bus % 32) ++ (if brief then [] else beBytes 8 ns) ++ beBytes 4 (r.id % 2 ^ 29) ++ body

/-- The IPv4 and UDP frame of a route around one container entry (R207). -/
def udpFrame (recs : NMap Nat) (x seq : Nat) (img : List Byte) : List Byte :=
  let (t, c) := templateOf recs x
  let l3 := nb c 14 8
  let pay := beBytes 4 (nb x 111 80) ++ beBytes 4 img.length ++ img
  let udpLen := 8 + pay.length
  let t := pokeBytes (l3 + 2) (beBytes 2 (20 + udpLen) ++ beBytes 2 (seq % 65536)) t
  let t := pokeBytes (l3 + 10) (beBytes 2 0) t
  let t := pokeBytes (l3 + 10) (beBytes 2 (65535 - onesSum ((t.drop l3).take 20))) t
  let t := pokeBytes (l3 + 24) (beBytes 2 udpLen ++ beBytes 2 0) t
  let bs := t ++ pay
  if nbit c 15 then
    let pseudo := (t.drop (l3 + 12)).take 8 ++ beBytes 2 17 ++ beBytes 2 udpLen
    let s := onesSum (pseudo ++ bs.drop (l3 + 20))
    closeFrame (pokeBytes (l3 + 26) (beBytes 2 (if s = 65535 then 65535 else 65535 - s)) bs)
  else closeFrame bs

/-- Put a frame that Kalow builds for a route on its way to the Vault. -/
def Dev.sendPdu (p : KPack) (d : Dev) : Dev :=
  let x := d.route p.route
  let p := { p with dest := nb x 50 39, list := nbit x 51, cls := nb x 54 52, dom := nb x 58 55, ctx := nopt x 70 59 71 }
  let n := (NMap.get 0 d.kal.frames p.route + 1) % 65536
  { d with kal := { d.kal with packs := d.kal.packs ++ [p], frames := NMap.set 0 d.kal.frames p.route n } }

/-- Pack an output route with its snapshot at an instant, S the time t and a fraction of a ns (R199): what it builds is read
as of the snapshot while the pack lasts. -/
def Dev.packAt (r : Nat) (ue : KlwUe) (at_ t frac : Nat) (d : Dev) : Dev :=
  let d := match ue with
    | .store s => d.storeUe s
    | _ => d
  let x := d.route r
  let d := { d with kal := { d.kal with lastS := NMap.set none d.kal.lastS r (some t), pend := NMap.set none d.kal.pend r none,
                                        defer := d.kal.defer.filter (· != r) } }
  if ue = .route then d.descUe kmRoute r
  else if ue = .layout then d.descUe kmLayout (nb x 15 4)
  else
    let ps := placementsOf d.kal.recs (d.krec kmLayout (nb x 15 4))
    let pl : KPlan := { recs := d.kal.recs, alive := NMap.get 0 d.kal.alive r, seq := NMap.get 0 d.kal.frames r }
    let done := at_ + d.waitFor (nb x 54 52) + plcTime ps.length + (if nb x 3 2 = 0 then 0 else nsT 100)
    let d := { d with kal := { d.kal with alive := NMap.set 0 d.kal.alive r ((pl.alive + 1) % 2 ^ 64),
                                          ops := d.kal.ops + ps.length } }
    let sigs := (ps.filter (fun p => nb p 24 23 == 0 || nb p 24 23 == 3)).map (fun p => nb p 38 25)
    d.sendPdu { route := r, s := at_, at_ := done, sigs := sigs, plan := some pl, work := workOf ps.length, ns := t,
                frac := frac, record := none, data := [], dest := 0, list := false, cls := 0, dom := 0, ctx := none }

/-- The record and bytes of a frame that Kalow built (R205 to R207): a packed layout's image is as of the snapshot. -/
def Dev.bodyOf (p : KPack) (d : Dev) : Option BusRecord × List Byte × Dev :=
  match p.plan with
  | none => (p.record, p.data, d)
  | some pl =>
    let x := krecOf pl.recs kmRoute p.route
    let (img, d) := d.packImage (krecOf pl.recs kmLayout (nb x 15 4)) pl p.s p.ns
    match nb x 3 2 with
    | 0 =>
      let q : BusRecord := { id := nb x 100 72, fmt := nb x 102 101, fdf := nbit x 103, brs := nbit x 104,
                             enh := nbit x 105, data := img }
      (some q, recordBytes q, d)
    | 1 => (none, ntscf pl.recs x pl.seq (acfGpc (nb x 127 80) img), d)
    | _ => (none, udpFrame pl.recs x pl.seq img, d)

/-- The fraction of a ns of device time, in units of 2^-16. -/
def Dev.frac (d : Dev) : Nat := (d.tq % 65536).toNat

/-- Pack an output route with S the present device time. -/
def Dev.pack (r : Nat) (ue : KlwUe) (d : Dev) : Dev := d.packAt r ue d.now d.ns d.frac

/-- Pack an output route with S a launch time or the end of an interval. -/
def Dev.packDue (r : Nat) (ue : KlwUe) (t : Nat) (d : Dev) : Dev := d.packAt r ue (d.tickRoot (d.tickFor t)) t 0

/-- The class of a route is deferred by back-pressure of input 96 (R203). -/
def Dev.deferred (d : Dev) (r : Nat) : Bool := bitAt (d.get KLW_DEFER_STAT_cls) (nb (d.route r) 54 52)

/-- A pack of a deferred route is put off; a further trigger or launch joins it and is counted. -/
def Dev.deferPack (r : Nat) (d : Dev) : Dev :=
  let d := d.raise (pgKLW 0) 12
  if d.kal.defer.contains r then d.count (KLW_CNT 9) else { d with kal := { d.kal with defer := d.kal.defer ++ [r] } }

/-- The route is a signal route in service: valid, an output route, no tunnel, and Kalow out of reset. -/
def Dev.packs (d : Dev) (r : Nat) : Bool :=
  let x := d.route r
  nbit x 0 && nbit x 1 && nb x 3 2 != 3 && d.works (pgKLW 0) && !d.pw.halted

/-- KALOW_TRIGGERED_PACK: the oldest trigger of a route takes its snapshot 25 ns after it, or schedules or joins a
pending pack (R202). Triggers of one route in one tick give one pack, and one that comes before S of the last pack joins
it. -/
def opKalowTriggered (r : Nat) (ue : KlwUe) (d : Dev) : Dev :=
  match d.kal.trigs.find? (fun t => t.1 == r) with
  | none => d
  | some t =>
    let rest := d.kal.trigs.filter (fun u => decide (u ≠ t))
    let d := { d with kal := { d.kal with trigs := rest } }
    if !d.packs r then d
    else if d.kal.defer.contains r then d.deferPack r
    else if (NMap.get none d.kal.pend r).isSome then d.count (KLW_CNT 10)
    else
      let last := NMap.get none d.kal.lastS r
      if last.any (fun s => decide (t.2.2 < s)) then d.count (KLW_CNT 10)
      else
        let min_ := nb (d.route r) 38 19 * 1000
        match last.filter (fun s => decide (t.2.2 < s + min_)) with
        | some s => { d with kal := { d.kal with pend := NMap.set none d.kal.pend r (some (s + min_)) } }
        | none => if d.deferred r then d.deferPack r else (d.at_ (t.2.1 + nsT 25)).pack r ue

/-- KALOW_PERIODIC_PACK: a launch of the route's slot, S the launch time. -/
def opKalowPeriodic (r : Nat) (ue : KlwUe) (d : Dev) : Dev :=
  d.launch (.kalow r) [6] (fun d =>
    if !d.packs r || !nbit (d.route r) 16 then d
    else if d.deferred r then d.deferPack r
    else d.packDue r ue (d.slot (.kalow r)).time)

/-- KALOW_PENDING_PACK: the minimum interval of a pending pack ends. -/
def opKalowPending (r : Nat) (ue : KlwUe) (d : Dev) : Dev :=
  match NMap.get none d.kal.pend r with
  | none => d
  | some t =>
    let d := d.atNs t
    let d := { d with kal := { d.kal with pend := NMap.set none d.kal.pend r none } }
    if !d.packs r then d else if d.deferred r then d.deferPack r else d.packDue r ue t

/-- KALOW_DEFERRED_PACK: back-pressure on the class has been released. -/
def opKalowDeferred (r : Nat) (ue : KlwUe) (d : Dev) : Dev :=
  if !d.kal.defer.contains r || d.deferred r || !d.packs r then d else d.pack r ue

/-! ### Jobs: unpacking, tunnelling, emission -/

/-- Work of a frame that begins now: it ends after the data's way to Kalow, the work it waits for and its own time, and not
before earlier work of its class (R194, R211). -/
def Dev.addJob (len : Nat) (j : KJob) (d : Dev) : Dev :=
  let own := (d.kal.jobs.filter (fun k => k.cls == j.cls)).foldl (fun t k => max t k.at_) 0
  let t := max own (d.now + nsT 100 + d.waitFor j.cls + len)
  { d with kal := { d.kal with jobs := d.kal.jobs ++ [{ j with at_ := t, recs := d.kal.recs }] } }

/-- An unpack of a layout from the bytes of a PDU: the placements with `upd` 1 whose bits are all present; the others
are counted in SHORT. -/
def Dev.unpackJob (f : Frame) (lay : Nat) (pdu : List Byte) (unv : Bool) (rx : Option Nat) (d : Dev) : Dev :=
  let ps := (placementsOf d.kal.recs (d.krec kmLayout lay)).filter (fun p => nbit p 39)
  let img := ofLe pdu
  let (here, short) := ps.partition (fun p => plcPresent p pdu.length)
  let d := d.add (KLW_CNT_count 4) short.length
  let d := { d with kal := { d.kal with ops := d.kal.ops + here.length } }
  d.addJob (plcTime here.length) { at_ := 0, fid := some f.id, cls := f.cls, work := workOf here.length, unpack := true,
                                   writes := here.map (fun p => (nb p 38 25, plcValue p img)), tsrc := f.inNs, unv := unv, rx := rx }

/-- The receipt trigger list of an input route. -/
def rxList (x : Nat) : Option Nat := nopt x 61 50 62

/-- What a message of a container is: type, bus id, identifier, payload, and the record it becomes. -/
structure Msg where
  type : Nat
  bus : Nat
  id : Nat
  payload : List Byte
  record : BusRecord
  deriving DecidableEq, Repr

/-- The record of an ACF GPC message or a UDP entry: its data, under a header that the spec does not state. -/
def Dev.openRecord (data : List Byte) (d : Dev) : BusRecord × Dev :=
  let (x, d) := d.free 85
  ({ id := nb x 28 0, fmt := nb x 30 29, fdf := nbit x 31, brs := nbit x 32, esi := nbit x 33, rtr := nbit x 34, sec := nbit x 35,
     enh := nbit x 36, sdt := nb x 44 37, vcid := nb x 52 45, af := nb x 84 53, data := data }, d)

/-- A received container message meets the message map of its input route (R208); `bad` where the record of the input route
that it names, or of that route's layout, reads uncorrectable (R204). -/
def Dev.mapMsg (x : Nat) (f : Frame) (unv : Bool) (bad : Option Bool) (m : Msg) (d : Dev) : Dev :=
  let run := (List.range (nb x 49 41)).map (fun k => d.krec kmMap (nb x 40 28 + k))
  match run.find? (fun e => nbit e 55 && nb e 54 53 == m.type && nb e 52 48 == m.bus && nb e 47 0 == m.id) with
  | none => d.count (KLW_CNT 12)
  | some e =>
    let d :=
      if nbit e 56 then
        let y := d.route (nb e 69 57)
        match bad with
        | some false => d.descUe kmRoute (nb e 69 57)
        | some true => d.descUe kmLayout (nb y 15 4)
        | none => d.unpackJob f (nb y 15 4) (m.payload.drop (nb y 27 16)) unv (rxList y)
      else d
    if nbit e 70 then
      let (q, d) := if m.type < 2 then (m.record, d) else d.openRecord m.payload
      d.addJob (nsT 50) { at_ := 0, fid := some f.id, cls := f.cls, work := workOf 0, tsrc := f.inNs,
                          emit := some (q, nb e 82 71, nbit e 83, nb e 86 84, nb e 90 87) }
    else d

/-- The record of the n-th message of a container that reads uncorrectable. -/
def ueOfMessage (ue : KlwUe) (n : Nat) : Option Bool :=
  match ue with
  | .message k lay => if k = n then some lay else none
  | _ => none

/-- The container's parse error (CONT_ERR). -/
def Dev.contErr (d : Dev) : Dev := (d.count (KLW_CNT 11)).raise (pgKLW 0) 11

/-- One ACF message at the head of bytes: its type and its whole length, and the message where Kalow knows the type. -/
def acfParse (bs : List Byte) : Nat × Nat × Option Msg :=
  let h := be bs 0 2
  let type := h / 512
  let n := h % 512 * 4
  let b2 := be bs 2 1
  let pad := b2 / 64
  let tim := if type = 1 then 16 else 8
  let mk (hdr : Nat) : List Byte := (bs.take (n - pad)).drop hdr
  let can : BusRecord :=
    { id := be bs (tim - 4) 4 % 2 ^ 29, fmt := if bitAt b2 3 then 1 else 0, rtr := bitAt b2 4, brs := bitAt b2 2,
      fdf := bitAt b2 1, esi := bitAt b2 0, data := mk tim }
  let msg : Option Msg :=
    match type with
    | 1 => some { type := 0, bus := be bs 3 1 % 32, id := can.id, payload := can.data, record := can }
    | 2 => some { type := 0, bus := be bs 3 1 % 32, id := can.id, payload := can.data, record := can }
    | 3 =>
      let r : BusRecord := { id := be bs 3 1 % 64, fmt := 3, data := mk 12 }
      some { type := 1, bus := b2 % 32, id := r.id, payload := r.data, record := r }
    | 5 =>
      let p := (bs.take n).drop 8
      some { type := 2, bus := 0, id := be bs 2 6, payload := p, record := { id := 0, fmt := 0, data := p } }
    | _ => none
  (type, n, msg)

/-- Act on the ACF messages of a container in frame order, from the n-th; the first argument bounds their number by the
bytes there are. -/
def Dev.acfAll (x : Nat) (f : Frame) (unv : Bool) (ue : KlwUe) : Nat → Nat → List Byte → Dev → Dev
  | 0, _, _, d => d
  | k + 1, n, bs, d =>
    if bs.isEmpty then d
    else
      let (_, len, m) := acfParse bs
      if len = 0 ∨ bs.length < len then d.contErr
      else
        let d := match m with
          | none => d.count (KLW_CNT 13)
          | some m => d.mapMsg x f unv (ueOfMessage ue n) m
        Dev.acfAll x f unv ue k (n + 1) (bs.drop len) d

/-- Act on the entries of a UDP container in frame order, from the n-th. -/
def Dev.udpAll (x : Nat) (f : Frame) (unv : Bool) (ue : KlwUe) : Nat → Nat → List Byte → Dev → Dev
  | 0, _, _, d => d
  | k + 1, n, bs, d =>
    if bs.isEmpty then d
    else
      let len := be bs 4 4
      if bs.length < 8 ∨ bs.length < 8 + len then d.contErr
      else
        let p := (bs.drop 8).take len
        let m : Msg := { type := 3, bus := 0, id := be bs 0 4, payload := p, record := { id := 0, fmt := 0, data := p } }
        Dev.udpAll x f unv ue k (n + 1) (bs.drop (8 + len)) (d.mapMsg x f unv (ueOfMessage ue n) m)

/-- The ACF messages of an IEEE 1722 frame from its AVTP header on: NTSCF or TSCF; none for another subtype. -/
def avtpBody (bs : List Byte) : Option (List Byte) :=
  let sub := be bs 0 1
  if sub = 0x82 then some ((bs.drop 12).take (be bs 1 2 % 2048))
  else if sub = 0x05 then some ((bs.drop 24).take (be bs 20 2))
  else none

/-- The bytes of a UDP payload, whose length stands in the UDP header before it. -/
def udpBody (bs : List Byte) (off : Nat) : List Byte := (bs.drop off).take (be bs (off - 4) 2 - 8)

/-- Kalow consumes a frame by its input route (Table 9-2, R194, R196, R201, R208, R209). -/
def Dev.consume (f : Frame) (ue : KlwUe) (d : Dev) : Dev :=
  match f.route with
  | none => d.count (KLW_CNT 3)
  | some r =>
    let x := d.route r
    if ue = .route then d.descUe kmRoute r
    else if !nbit x 0 || nbit x 1 then d.count (KLW_CNT 3)
    else
      let pend := f.check == 4
      if pend && !nbit x 63 then d.count (KLW_CNT 7)
      else
        let d := if pend then d.count (KLW_CNT 8) else d
        let bytes := match f.record with
          | some q => q.data
          | none => f.data.take (f.data.length - 4)
        let off := nb x 27 16
        match nb x 3 2 with
        | 0 =>
          if ue = .layout then d.descUe kmLayout (nb x 15 4)
          else d.unpackJob f (nb x 15 4) (bytes.drop off) pend (rxList x)
        | 1 =>
          (match avtpBody (bytes.drop off) with
           | none => d.contErr
           | some body => d.acfAll x f pend ue body.length 0 body)
        | 2 =>
          let body := udpBody bytes off
          d.udpAll x f pend ue body.length 0 body
        | _ =>
          match f.record with
          | none => d.count (KLW_CNT 3)
          | some q =>
            if q.fmt = 2 then d.count (KLW_CNT 14)
            else d.addJob (nsT 50) { at_ := 0, fid := some f.id, cls := f.cls, work := workOf 0, tsrc := f.inNs,
                                     tunnel := some (nb x 76 64, nb x 81 77, q) }

/-- KALOW_PICK: the highest class with a frame, deficit round robin among its inputs; a copy beyond its hold limit is
discarded (R194); `ue` the record that reads uncorrectable (R204), `err` a Vault memory error met by the read (R80). -/
def opKalowPick (ue : KlwUe) (err : Option VaultErr) (d0 : Dev) : Dev :=
  if !d0.works (pgKLW 0) || d0.pw.halted then d0
  else
    let d := d0.toPick 96
    match highest (fun c => d.drrTake 96 c (d.heads 96 c)) with
    | none => d0
    | some (_, q, d) =>
      match d.voq q with
      | [] => d
      | c :: _ =>
        if d.expired c then d.holdDiscard q
        else
          match d.frame c.fid with
          | none => d
          | some f =>
            match d.meetErr q 96 f err with
            | (none, d) => d
            | (some true, d) => d.dropHead q id
            | (some false, d) => ((d.consume f ue).popVoq q).release f.id

/-- Send the open frame of a tunnel route (R209). -/
def Dev.sendOpen (r : Nat) (d : Dev) : Dev :=
  match NMap.get none d.kal.opens r with
  | none => d
  | some o =>
    let d := { d with kal := { d.kal with opens := NMap.set none d.kal.opens r none } }
    let x := d.route r
    (d.cancel ⟨.kalAgg, r, 0⟩).sendPdu
      { route := r, s := d.now, at_ := d.now + d.waitFor (nb x 54 52) + nsT 150, sigs := [], plan := none, work := workOf 0,
        n := o.n, ns := d.ns, frac := d.frac, record := none, data := ntscf d.kal.recs x (NMap.get 0 d.kal.frames r) o.bytes,
        dest := 0, list := false, cls := 0, dom := 0, ctx := none }

/-- Append a record to a tunnel route's open frame. -/
def Dev.append (recs : NMap Nat) (r bus tsrc : Nat) (q : BusRecord) (d : Dev) : Dev :=
  let x := krecOf recs kmRoute r
  if !nbit x 0 || !nbit x 1 then d.count (KLW_CNT 3)
  else
    let m := acfBus (nbit x 100) bus tsrc q
    let full := match NMap.get none d.kal.opens r with
      | some o => decide (1500 < 12 + o.bytes.length + m.length)
      | none => false
    let d := if full then d.sendOpen r else d
    let o := (NMap.get none d.kal.opens r).getD { bytes := [], n := 0 }
    let o : KOpen := { bytes := o.bytes ++ m, n := o.n + 1 }
    let d := { d with kal := { d.kal with opens := NMap.set none d.kal.opens r (some o) } }
    let agg := nb x 99 84
    if agg = 0 ∨ nb x 83 80 ≤ o.n then d.sendOpen r
    else if o.n = 1 then d.armIn ⟨.kalAgg, r, 0⟩ (usT agg)
    else d

/-- KALOW_AGG_TIMEOUT. -/
def opKalowAgg (r : Nat) (d : Dev) : Dev := d.onTimer ⟨.kalAgg, r, 0⟩ (fun d => d.sendOpen r)

/-- A job takes effect. -/
def Dev.runJob (j : KJob) (d : Dev) : Dev :=
  let d := if j.unpack && j.fid.isSome then
      ({ d with kal := { d.kal with lastCommit := some d.now } } : Dev).count (KLW_CNT 0)
    else d
  let d := if j.unpack then d.commitSigs j.recs j.writes j.tsrc j.unv j.rx else d
  let d := match j.tunnel with
    | some (r, bus, q) => d.append j.recs r bus j.tsrc q
    | none => d
  match j.emit with
  | none => d
  | some (q, dest, list, cls, dom) =>
    let p : KPack := { route := 0, s := d.now, at_ := d.now, sigs := [], plan := none, ns := d.ns, frac := d.frac,
                       record := some q, data := recordBytes q, dest := dest, list := list, cls := cls, dom := dom, ctx := none }
    { d with kal := { d.kal with packs := d.kal.packs ++ [p] } }

/-- The job that is to commit next: of those that are the oldest of their class and do not wait for a pack, the first due. -/
def nextJob (l : List KJob) : Option KJob :=
  (l.foldl (fun (e : List Nat × Option KJob) j =>
    if e.1.contains j.cls then e
    else (j.cls :: e.1, if j.waits || e.2.any (fun b => decide (b.at_ ≤ j.at_)) then e.2 else some j)) ([], none)).2

/-- A job commits, unless a pack in progress still needs a value it would overwrite, when it waits and is counted
(R199). -/
def Dev.tryJob (j : KJob) (d : Dev) : Dev :=
  if j.writes.any (fun w => d.needed w.1) then
    ({ d with kal := { d.kal with jobs := d.kal.jobs.map (fun k => if k = j then { k with waits := true } else k) } } : Dev).count
      (KLW_CNT 17)
  else ({ d with kal := { d.kal with jobs := d.kal.jobs.erase j } } : Dev).runJob j

/-- Two unpacks never commit in one tick: an unpack goes to the tick after that of the last (R198). -/
def Dev.ownTick (j : KJob) (d : Dev) : Dev :=
  if j.unpack && d.kal.lastCommit.any (fun t => d.tickIx t == d.tickIx d.now) then
    d.at_ (d.tickRoot (d.tickIx d.now + 1))
  else d

/-- KALOW_UNPACK_COMMIT: the next job commits in one tick; `ue` a store entry found uncorrectable. -/
def opKalowCommit (ue : Option Nat) (d : Dev) : Dev :=
  match nextJob d.kal.jobs with
  | none => d
  | some j =>
    let d := (d.at_ j.at_).ownTick j
    let d := match ue with
      | some s => d.storeUe s
      | none => d
    d.tryJob j

/-- The commits that waited for what has ended wait no longer. -/
def Dev.unhold (d : Dev) : Dev :=
  let free (j : KJob) : KJob :=
    if j.waits && !j.writes.any (fun w => d.needed w.1) then { j with waits := false, at_ := max j.at_ d.now } else j
  { d with kal := { d.kal with jobs := d.kal.jobs.map free } }

/-- The frame that Kalow is to hand over next: the first due. -/
def firstPack : List KPack → Option KPack
  | [] => none
  | p :: ps =>
    match firstPack ps with
    | some q => if q.at_ < p.at_ then some q else some p
    | none => some p

/-- KALOW_PACK_HANDOFF: the next frame that Kalow built enters the Vault on port 96 (R25), and the commits that waited for
its pack are released. -/
def opKalowHandoff (d : Dev) : Dev :=
  match firstPack d.kal.packs with
  | none => d
  | some p =>
    let d := d.at_ p.at_
    let (rec_, data, d) := d.bodyOf p
    let d := Dev.when p.plan.isSome (fun d => d.count (KLW_CNT 1)) { d with kal := { d.kal with packs := d.kal.packs.erase p } }
    let (_, d) := d.takeIn (fun i =>
      { id := i, inPort := 96, domain := p.dom, cls := p.cls, data := data, record := rec_, ctx := p.ctx,
        kdest := some (p.dest, p.list), inNs := p.ns, inFrac := p.frac })
    d.unhold

/-! ### The timeout checker (R200, R398) -/

/-- Mark one signal timed out. -/
def Dev.timeOut (s : Nat) (d : Dev) : Dev :=
  let r := d.sigRec s
  let x := d.sig s
  if x.st ≠ 1 || !timedOut r x d.ns then d
  else
    let old := d.eff s
    let d := d.setSig s { x with st := 2, mark := d.now }
    let d := d.count (KLW_CNT 6)
    let d := if d.flag KLW_TMO_CAP_valid then d else (d.put KLW_TMO_CAP_valid 1).put KLW_TMO_CAP_sig s
    let d := d.raise (pgKLW 0) 8
    (if d.eff s = old then d else d.trigger (d.changedRoutes d.kal.recs [s])).motion

/-- KALOW_TIMEOUT_CHECK: every signal in ascending order, once per millisecond; the operations of the millisecond are
shown. -/
def opKalowTimeout (d : Dev) : Dev :=
  d.onPeriod ⟨.kalTmo, 0, 0⟩ (msT 1) (fun d =>
    let d := { (d.put KLW_LOAD_ops d.kal.ops) with kal := { d.kal with ops := 0 } }
    d.each (d.kal.store.map (·.1)) (fun s d => d.timeOut s))

/-! ### Store window, dump and descriptor windows (R213, R215) -/

/-- STORE_READ: one signal from one snapshot. -/
def opStoreRead (i : Initiator) (ue : Bool) (d : Dev) : Dev :=
  d.access i (fun d =>
    let s := d.get KLW_S_SEL_sig
    let d := if ue then d.storeUe s else d
    let x := d.sig s
    let d := d.wr64 KLW_S_VAL_LO KLW_S_VAL_HI x.value
    let d := (d.put KLW_S_STAT_status x.st).put KLW_S_STAT_unv (if x.unv then 1 else 0)
    let d := d.put KLW_S_AGE_us (match ageOf x d.ns 1000 with
      | some a => min a (2 ^ 32 - 1)
      | none => 2 ^ 32 - 1)
    d.wr64 KLW_S_TSRC_LO KLW_S_TSRC_HI x.tsrc)

/-- STORE_FORCE: a commit of `S_VAL` with t_src equal to device time; it waits as an unpack does. -/
def opStoreForce (i : Initiator) (d : Dev) : Dev :=
  d.access i (fun d =>
    let s := d.get KLW_S_SEL_sig
    let v := d.rd64 KLW_S_VAL_LO KLW_S_VAL_HI
    if d.needed s then
      ({ d with kal := { d.kal with jobs := d.kal.jobs ++ [({ at_ := d.now, fid := none, cls := 8, writes := [(s, v)], unpack := true,
                                                              tsrc := d.ns, waits := true, recs := d.kal.recs } : KJob)] } } : Dev).count
        (KLW_CNT 17)
    else d.commitSigs d.kal.recs [(s, v)] d.ns false none)

/-- The bytes of a dump, all as of its snapshot. -/
def Dev.dumpBytes (d : Dev) (k : KDump) : List Byte :=
  (List.range k.n).flatMap (fun j =>
    let s := (k.first + j) % 16384
    let x := d.entryAt s k.s
    let age := match ageOf x k.ns 1000 with
      | some a => min a (2 ^ 32 - 1)
      | none => 2 ^ 32 - 1
    leBytes 8 (effOf (krecOf k.recs kmSignal s) x) ++ leBytes 4 age ++ leBytes 4 (x.st + (if x.unv then 4 else 0)))

/-- A dump starts. -/
def Dev.dumpStart (d : Dev) : Dev :=
  let a := d.get KLW_DUMP_HI_base * 2 ^ 32 + d.get KLW_DUMP_LO_base * 16
  let d := d.wr64 KLW_DUMP_T_LO KLW_DUMP_T_HI d.ns
  let k : KDump := { addr := a, first := d.get KLW_DUMP_FIRST_sig, n := d.get KLW_DUMP_N_count, s := d.now, ns := d.ns,
                     recs := d.kal.recs }
  { (d.put KLW_DUMP_CTL_go 1) with kal := { d.kal with dump := some k } }

/-- Run the dump's period where one is set. -/
def Dev.dumpArm (d : Dev) : Dev :=
  let p := d.get KLW_DUMP_PER_ms
  if p = 0 then d else d.armIn ⟨.kalDump, 0, 0⟩ (msT p)

/-- DUMP_GO; a halted channel takes no go, and one that runs is not started again. -/
def opDumpGo (i : Initiator) (d : Dev) : Dev :=
  d.access i (fun d =>
    if d.kal.dump.isSome || d.flag KLW_DUMP_STAT_halted then d else d.dumpStart.dumpArm)

/-- DUMP_PERIOD: the dump repeats, or the period is omitted. -/
def opDumpPeriod (d : Dev) : Dev :=
  d.onTimer ⟨.kalDump, 0, 0⟩ (fun d =>
    let d := d.dumpArm
    if d.kal.dump.isSome || d.flag KLW_DUMP_STAT_halted then d else d.dumpStart)

/-- DUMP_DONE: the data is visible, or an uncorrectable error, at the n-th entry of the dump, halts the channel. -/
def opDumpDone (ue : Option Nat) (d : Dev) : Dev :=
  match d.kal.dump with
  | none => d
  | some k =>
    let bs := d.dumpBytes k
    let d := { (d.put KLW_DUMP_CTL_go 0) with kal := { d.kal with dump := none } }
    let d := match ue with
      | some n => (((d.storeUe ((k.first + n % k.n) % 16384)).put KLW_DUMP_STAT_cause 8).put KLW_DUMP_STAT_halted 1).raise (pgKLW 4) 9
      | none => (d.fabWrite 8 k.addr bs).raise (pgKLW 4) 8
    d.unhold

/-- DUMP_RESUME: the channel continues with the next period. -/
def opDumpResume (i : Initiator) (d : Dev) : Dev :=
  d.access i (fun d => (d.put KLW_DUMP_STAT_halted 0).put KLW_DUMP_STAT_cause 0)

/-- The record that the descriptor window names. -/
def Dev.dSel (d : Dev) : Nat := d.get KLW_D_SEL_mem * 2 ^ 14 + d.get KLW_D_SEL_index

/-- KLW_DESC_READ. -/
def opKlwRead (i : Initiator) (staged : Bool) (d : Dev) : Dev :=
  d.window i .klwDesc 1 false (fun _ => true) (fun d =>
    let k := d.dSel
    d.loadWords KLW_D_DATA 24
      (if staged && d.kal.recsD.contains k then NMap.get 0 d.kal.recsS k else NMap.get 0 d.kal.recs k))

/-- KLW_DESC_STAGE. -/
def opKlwStage (i : Initiator) (d : Dev) : Dev :=
  d.window i .klwDesc 2 true (fun _ => true) (fun d =>
    let k := d.dSel
    let l := d.kal.recsD.filter (· != k)
    { d with kal := { d.kal with recsS := NMap.set 0 d.kal.recsS k (d.readWords KLW_D_DATA 24), recsD := l ++ [k] } })

/-- A commit of KLW page 1: every staged record at once; a changed route's alive counter starts again (R197, R215). -/
def Dev.klwCommit (d : Dev) : Dev :=
  let d := d.each d.kal.recsD (fun k d =>
    let new := NMap.get 0 d.kal.recsS k
    let isRoute := k / 2 ^ 14 == kmRoute
    let d := Dev.when (isRoute && NMap.get 0 d.kal.recs k != new) (fun d =>
      { d with kal := { d.kal with alive := NMap.set 0 d.kal.alive (k % 2 ^ 14) 0 } }) d
    { d with kal := { d.kal with recs := NMap.set 0 d.kal.recs k new } })
  { d with kal := { d.kal with recsD := [], recsS := [] } }

/-- KLW_SLOT_READ. -/
def opKlwSlotRead (i : Initiator) (d : Dev) : Dev :=
  d.window i .klwSlot 1 false (fun _ => true) (fun d =>
    let v := d.slot (.kalow (d.get KLW_L_SEL_route))
    ((d.wr64 KLW_L_T_LO KLW_L_T_HI v.time).wr KLW_L_CTL v.ctl).wr KLW_L_PER (BitVec.ofNat 32 v.per))

/-- KLW_SLOT_WRITE. -/
def opKlwSlotWrite (i : Initiator) (d : Dev) : Dev :=
  d.window i .klwSlot 2 true (fun _ => true) (fun d =>
    d.winSlot i (.kalow (d.get KLW_L_SEL_route)) (d.rd64 KLW_L_T_LO KLW_L_T_HI) (d.rd KLW_L_CTL) (d.rd KLW_L_PER).toNat)

/-! ### Resets (R214) -/

/-- A unit reset of KLW page 0: work in hand is lost and counted; the store, the descriptors and the slots are kept. -/
def Dev.klwReset (d : Dev) : Dev :=
  let inHand := ((d.kal.jobs.filterMap (·.fid)).eraseDups).length
  let opened := d.kal.opens.foldl (fun n e => n + (match e.2 with | some o => o.n | none => 0)) 0
  let closed := d.kal.packs.foldl (fun n p => n + p.n) 0
  let d := d.add (KLW_CNT_count 18) (inHand + opened + closed)
  let d := { d with timers := d.timers.filter (fun t => decide (t.1.kind ≠ TimerKind.kalAgg)) }
  { d with kal := { d.kal with jobs := [], packs := [], trigs := [], pend := [], defer := [], opens := [] } }

/-- A unit reset of page 4 halts the dump. -/
def Dev.dumpReset (d : Dev) : Dev :=
  ({ (d.put KLW_DUMP_CTL_go 0) with kal := { d.kal with dump := none } } : Dev).cancel ⟨.kalDump, 0, 0⟩

/-! ### The meanings of the commands of this file -/

/-- KALOW_PICK (R194). -/
def execKalowPick (ue : KlwUe) (err : Option VaultErr) (s : State) : Host.Outcome State Fault Refusal :=
  effect (opKalowPick ue err) s

/-- KALOW_UNPACK_COMMIT (R198). -/
def execKalowUnpackCommit (ue : Option Nat) (s : State) : Host.Outcome State Fault Refusal :=
  effect (opKalowCommit ue) s

/-- KALOW_TRIGGERED_PACK (R202). -/
def execKalowTriggeredPack (r : Nat) (ue : KlwUe) (s : State) : Host.Outcome State Fault Refusal :=
  effectIf (decide (r < 8192) && ue.wf) (opKalowTriggered r ue) s

/-- KALOW_PERIODIC_PACK (R202). -/
def execKalowPeriodicPack (r : Nat) (ue : KlwUe) (s : State) : Host.Outcome State Fault Refusal :=
  effectIf (decide (r < 8192) && ue.wf) (opKalowPeriodic r ue) s

/-- KALOW_PENDING_PACK (R202). -/
def execKalowPendingPack (r : Nat) (ue : KlwUe) (s : State) : Host.Outcome State Fault Refusal :=
  effectIf (decide (r < 8192) && ue.wf) (opKalowPending r ue) s

/-- KALOW_DEFERRED_PACK (R203). -/
def execKalowDeferredPack (r : Nat) (ue : KlwUe) (s : State) : Host.Outcome State Fault Refusal :=
  effectIf (decide (r < 8192) && ue.wf) (opKalowDeferred r ue) s

/-- KALOW_PACK_HANDOFF (R199). -/
def execKalowPackHandoff (s : State) : Host.Outcome State Fault Refusal :=
  effect opKalowHandoff s

/-- KALOW_TIMEOUT_CHECK (R200). -/
def execKalowTimeoutCheck (s : State) : Host.Outcome State Fault Refusal :=
  effect opKalowTimeout s

/-- KALOW_AGG_TIMEOUT (R209). -/
def execKalowAggTimeout (r : Nat) (s : State) : Host.Outcome State Fault Refusal :=
  effectIf (decide (r < 8192)) (opKalowAgg r) s

/-- STORE_READ (R213). -/
def execStoreRead (i : Initiator) (ue : Bool) (s : State) : Host.Outcome State Fault Refusal :=
  effect (opStoreRead i ue) s

/-- STORE_FORCE (R213). -/
def execStoreForce (i : Initiator) (s : State) : Host.Outcome State Fault Refusal :=
  effect (opStoreForce i) s

/-- DUMP_GO (R213). -/
def execDumpGo (i : Initiator) (s : State) : Host.Outcome State Fault Refusal :=
  effect (opDumpGo i) s

/-- DUMP_PERIOD (R213). -/
def execDumpPeriod (s : State) : Host.Outcome State Fault Refusal :=
  effect opDumpPeriod s

/-- DUMP_DONE (R213). -/
def execDumpDone (ue : Option Nat) (s : State) : Host.Outcome State Fault Refusal :=
  effect (opDumpDone ue) s

/-- DUMP_RESUME (R213). -/
def execDumpResume (i : Initiator) (s : State) : Host.Outcome State Fault Refusal :=
  effect (opDumpResume i) s

/-- KLW_DESC_READ (R215). -/
def execKlwDescRead (i : Initiator) (staged : Bool) (s : State) : Host.Outcome State Fault Refusal :=
  effect (opKlwRead i staged) s

/-- KLW_DESC_STAGE (R215). -/
def execKlwDescStage (i : Initiator) (s : State) : Host.Outcome State Fault Refusal :=
  effect (opKlwStage i) s

/-- KLW_SLOT_READ (R215). -/
def execKlwSlotRead (i : Initiator) (s : State) : Host.Outcome State Fault Refusal :=
  effect (opKlwSlotRead i) s

/-- KLW_SLOT_WRITE (R215). -/
def execKlwSlotWrite (i : Initiator) (s : State) : Host.Outcome State Fault Refusal :=
  effect (opKlwSlotWrite i) s

end Sys2Proof.Machine
end

