-- ==== Sys2Proof/Machine/Voholt.lean ====
section
/-!
DEFINITION. The Voholt links (chapter 16): link state, credits and HOLD, received cascade frames and their ingress queues,
and the path table. Master election, device IDs, cascade time and cascade-wide commits are in Cascade.lean.
-/

namespace Sys2Proof.Machine

/-- The cascade role of the option bytes (R337). -/
def Dev.vcRole (d : Dev) : Nat := d.get (VHL_VC_STAT_role 0)

/-! ### HOLD and the ingress queue (R335) -/

def Dev.inq (d : Dev) (n : Nat) : List VhFrame := NMap.get [] d.voh.inq n

def Dev.setInq (n : Nat) (l : List VhFrame) (d : Dev) : Dev := { d with voh := { d.voh with inq := NMap.set [] d.voh.inq n l } }

/-- Bytes of a frame in the queue: tag, inner frame and check. -/
def VhFrame.size (f : VhFrame) : Nat := f.data.length + 12

/-- Drive HOLD_O; each assertion is counted and raises HOLD. -/
def Dev.holdO (n : Nat) (on : Bool) (d : Dev) : Dev :=
  if d.flag (VHL_STAT_hold_o n) == on then d
  else if on then ((d.put (VHL_STAT_hold_o n) 1).count (VHL_CNT n 12)).raise (pgVHL n) 9
  else d.put (VHL_STAT_hold_o n) 0

/-- Show the fill of a queue and bring HOLD_O up to date: high while the link is down. -/
def Dev.fillChanged (n : Nat) (d : Dev) : Dev :=
  let fill := (d.inq n).foldl (fun s f => s + f.size) 0
  let d := d.put (VHL_QFILL_bytes n) fill
  if !d.flag (VHL_STAT_link n) then d.holdO n true
  else if d.get (VHL_HOLD_WM_hi n) * 64 ≤ fill then d.holdO n true
  else if fill ≤ d.get (VHL_HOLD_WM_lo n) * 64 then d.holdO n false
  else d

/-- HOLD_I_RISE. -/
def opHoldIRise (n : VhLink) (d : Dev) : Dev := d.put (VHL_STAT_hold_i n) 1

/-- HOLD_I_FALL. -/
def opHoldIFall (n : VhLink) (d : Dev) : Dev := d.put (VHL_STAT_hold_i n) 0

/-! ### Credits (R334) -/

/-- The cost of a data frame with an inner frame of n bytes. -/
def credCost (n : Nat) : Nat := (n + 255) / 256 + 1

/-- Return coins of a class to the peer. -/
def Dev.credReturn (n c k : Nat) (d : Dev) : Dev :=
  let i := n * 8 + c
  { d with voh := { d.voh with
      credIn := NMap.set 0 d.voh.credIn i (NMap.get 0 d.voh.credIn i + k)
      returned := NMap.set 0 d.voh.returned i ((NMap.get 0 d.voh.returned i + k) % 65536) } }

/-- The Vault has a frame: its cost is returned, or withheld while the class is back-pressured. -/
def Dev.credDone (n c k : Nat) (d : Dev) : Dev :=
  if bitAt (d.pressedAt (58 + n)) c then
    { d with voh := { d.voh with held := NMap.set 0 d.voh.held (n * 8 + c) (NMap.get 0 d.voh.held (n * 8 + c) + k) } }
  else d.credReturn n c k

/-- Back-pressure of classes has ended: what was withheld is returned. -/
def Dev.credRelease (n : Nat) (d : Dev) : Dev :=
  d.each (List.range 8) (fun c d =>
    let k := NMap.get 0 d.voh.held (n * 8 + c)
    if k = 0 || bitAt (d.pressedAt (58 + n)) c then d
    else ({ d with voh := { d.voh with held := NMap.set 0 d.voh.held (n * 8 + c) 0 } } : Dev).credReturn n c k)

/-- BACKPRESSURE_REACH_PORT, for every input. -/
def opPressureReachAny (p : Nat) (d : Dev) : Dev :=
  let d := opPressureReach p d
  if 58 ≤ p ∧ p ≤ 61 then d.credRelease (p - 58) else d

/-- VH_CONTROL_BLOCK: the cumulative returns of the eight classes. -/
def opVhControlBlock (n : VhLink) (returns : List Nat) (d : Dev) : Dev :=
  if !d.flag (VHL_STAT_link n) then d
  else
    d.each (List.range 8) (fun c d =>
      let i := n.val * 8 + c
      let new := returns.getD c (NMap.get 0 d.voh.peerRet i) % 65536
      let k := (new + 65536 - NMap.get 0 d.voh.peerRet i) % 65536
      let d := { d with voh := { d.voh with peerRet := NMap.set 0 d.voh.peerRet i new } }
      d.put (VHL_CRED_coins n c) (min 65535 (d.get (VHL_CRED_coins n c) + k)))

/-! ### Link state (R329, R344, R345) -/

/-- PATH_REVERT. -/
def opPathRevert (dev : Nat) (d : Dev) : Dev :=
  d.onTimer ⟨.pathRevert, dev, 0⟩ (fun d => if d.linkUsable (nb (d.path dev) 2 0) then d.pathSwitch dev false else d)

/-- VH_LINK_UP: the peer grants `grant` coins to each class. -/
def opVhLinkUp (n : VhLink) (grant : List Nat) (d : Dev) : Dev :=
  if d.flag (VHL_STAT_link n) || !d.flag (VHL_CFG_en n) || d.vcRole == 0 || !d.up || d.flag (PG_STATE_in_reset (pgVHL n)) ||
      !(d.inq n).isEmpty || !d.inService (pgVHL n) then d
  else
    let iso := d.get (PG_STATE_iso (pgVHL n)) != 0
    let d := ((d.put (VHL_STAT_link n) 1).put (VHL_STAT_fec n) 1).put (VHL_STAT_state n) (if iso then 3 else 2)
    let d := d.each (List.range 8) (fun c d =>
      let i := n.val * 8 + c
      let d := d.put (VHL_CRED_coins n c) (grant.getD c 0)
      { d with voh := { d.voh with
          credIn := NMap.set 0 d.voh.credIn i (d.get (VHL_CRED_INIT_coins n c)), held := NMap.set 0 d.voh.held i 0
          returned := NMap.set 0 d.voh.returned i 0, peerRet := NMap.set 0 d.voh.peerRet i 0 } })
    let d := (d.raise (pgVHL n) 8).fillChanged n
    if iso then d else (d.drainOff (58 + n.val)).revertStart n.val

/-- The neighbour of a link is gone. -/
def Dev.peerGone (code : Nat) (d : Dev) : Dev :=
  let d := { d with voh := { d.voh with nbr := NMap.set none d.voh.nbr code none } }
  if code < 4 then ((d.put (VHL_STAT_peer_v code) 0).put (VHL_STAT_peer code) 0).put (VHL_STAT_upstream code) 0
  else ((d.put (VHL_VOX_STAT_peer_v 0 (code - 4)) 0).put (VHL_VOX_STAT_peer 0 (code - 4)) 0).put (VHL_VOX_STAT_upstream 0 (code - 4)) 0

/-- Discard what an output is sending. -/
def Dev.loseTx (out : Nat) (d : Dev) : Dev :=
  let mine := d.vlt.tx.filter (fun t => t.out == out)
  let d := { d with vlt := { d.vlt with tx := d.vlt.tx.filter (fun t => t.out != out) } }
  d.each mine (fun t d => d.release t.fid)

/-- A link goes down (R344); it trains again while it is enabled. -/
def Dev.vhDown (n : Nat) (d : Dev) : Dev :=
  if !d.flag (VHL_STAT_link n) then d
  else
    let d := ((d.put (VHL_STAT_link n) 0).put (VHL_STAT_fec n) 0).put (VHL_STAT_state n) (if d.flag (VHL_CFG_en n) then 1 else 0)
    let d := (d.count (VHL_CNT n 11)).raise (pgVHL n) 8
    let d := d.each (List.range 8) (fun c d => d.put (VHL_CRED_coins n c) 0)
    let d := { d with voh := { d.voh with lostAt := NMap.set [] d.voh.lostAt n [] } }
    let d := ((d.loseTx (58 + n)).drainOn (58 + n)).fillChanged n
    (d.peerGone n).revertStop n

/-- VH_LINK_DOWN: `inRx` where a cascade frame is in reception. -/
def opVhLinkDown (n : VhLink) (inRx : Bool) (d : Dev) : Dev :=
  if !d.flag (VHL_STAT_link n) then d
  else (Dev.when inRx (fun d => d.count (VHL_CNT n 15)) d).vhDown n

/-! ### Received cascade frames (R328, R332, R334, R335) -/

/-- A control frame: counted; one routed to another device is forwarded by the path table; its content acts by the
command of its type. -/
def Dev.vhControl (n tag : Nat) (data : List Byte) (d : Dev) : Dev :=
  let ctype := nb tag 47 42
  if ctype = 0 ∨ 8 < ctype then d.count (VHL_CNT n 7)
  else
    let d := d.count (VHL_CNT n 3)
    if ctype = 8 ∧ !nbit tag 58 ∧ nb tag 57 48 ≠ d.ownId then
      match d.pathCode (nb tag 57 48) with
      | (some code, d) => (d.countCtl code).emit (.ctlFrame code tag data)
      | (none, d) => d
    else d

/-- A data frame enters the link's ingress queue; without room the link is taken down. -/
def Dev.vhQueue (n tag : Nat) (data : List Byte) (eighth : Nat) (d : Dev) : Dev :=
  let fill := d.get (VHL_QFILL_bytes n)
  if 131072 < fill + data.length + 12 then
    (((d.count (VHL_CNT n 16)).raise (pgVHL n) 16).count (VHL_CNT n 15)).vhDown n
  else
    let i := n * 8 + nb tag 6 4
    let cost := credCost data.length
    let have_ := NMap.get 0 d.voh.credIn i
    let excess := decide (have_ < cost)
    let d := if excess then (d.count (VHL_CNT n 13)).raise (pgVHL n) 11 else d
    let d := { d with voh := { d.voh with credIn := NMap.set 0 d.voh.credIn i (have_ - cost) } }
    let (ns, fr) := d.ingressTime (58 + n) eighth
    let d := d.setInq n (d.inq n ++ [({ tag := tag, data := data, inNs := ns, inFrac := fr, excess := excess } : VhFrame)])
    (d.count (VHL_CNT n 1)).fillChanged n

/-- Codeword pairs are lost: counted and raised; more than `down_unc` within 1 ms take the link down (R328, R329). -/
def Dev.pairsLost (n k : Nat) (d : Dev) : Dev :=
  if k = 0 then d
  else
    let d := (d.add ⟨VHL_CNT n 5, 31, 0⟩ k).raise (pgVHL n) 10
    let l := (NMap.get [] d.voh.lostAt n).filter (fun e => decide (d.now < e.1 + msT 1)) ++ [(d.now, k)]
    let d := { d with voh := { d.voh with lostAt := NMap.set [] d.voh.lostAt n l } }
    if d.get (VHL_CFG_down_unc n) < (l.map (·.2)).sum then d.vhDown n else d

/-- The cascade check: the CRC-32 over the tag and the inner frame (R330). -/
def cascadeCheck (tag : Nat) (data : List Byte) : Nat := crc32 (leBytes 8 tag ++ data)

/-- VH_FRAME_RECEIVED: a frame in a codeword pair of which neither copy decoded fails its cascade check (R328). -/
def opVhFrame (n : VhLink) (tag : BitVec 64) (data : List Byte) (chk : Nat) (pairs : CwPairs) (eighth : Nat) (d : Dev) : Dev :=
  if !d.flag (VHL_STAT_link n) || !d.inService (pgVHL n) then d
  else
    let t := tag.toNat
    let d := d.add ⟨VHL_CNT n 4, 31, 0⟩ pairs.corrected
    if chk != cascadeCheck t data || decide (0 < pairs.lost) then (d.count (VHL_CNT n 6)).pairsLost n pairs.lost
    else if nb t 3 0 = 2 then d.vhControl n t data
    else if nb t 3 0 ≠ 1 then d.count (VHL_CNT n 7)
    else if d.get (PG_STATE_iso (pgVHL n)) ≠ 0 || !d.flag SYS_DEVID_valid then d.count (VHL_CNT n 14)
    else d.vhQueue n t data eighth

/-- The head of a link's queue begins to enter the Vault. -/
def Dev.vhStart (p : Nat) (d : Dev) : Dev :=
  match d.inq (p - 58) with
  | [] => d
  | f :: _ =>
    if (d.rxOf p).isSome then d
    else d.setRx p (some { press := d.pressedAt p, inNs := f.inNs, inFrac := f.inFrac, t0 := d.now, head := f.data.take 64 })

/-- Its next coin of bytes. -/
def Dev.vhData (p : Nat) (d : Dev) : Dev :=
  match d.inq (p - 58), d.rxOf p with
  | f :: _, some r =>
    let part := (f.data.drop r.bytes).take 256
    if part.isEmpty then d
    else
      let first := r.bytes == 0
      let r := { r with bytes := r.bytes + part.length }
      let d := d.setRx p (some r)
      if first then
        if d.flag (PG_STATE_in_reset pgFWD) then d.setRx p (some { r with rst := true })
        else
          let (fid, d) := d.newFrame (fun i =>
            { id := i, inPort := p, tag := f.tag, inNs := r.inNs, inFrac := r.inFrac, t0 := r.t0, data := part,
              colour := nb f.tag 38 38 })
          let d := d.setRx p (some { r with fid := some fid })
          let d := d.modFrame fid (fun f => { f with domain := d.domainOf f, hdrm := bitAt r.press (d.pressClass f), data := [] })
          d.storeBytes fid part
      else
        match r.fid with
        | some fid => d.storeBytes fid part
        | none => d
  | _, _ => d

/-- The whole frame is in the Vault: it leaves the queue, its cost is returned, and a link whose peer sent beyond its
credit is taken down once the port's headroom is used up. -/
def Dev.vhEnd (p : Nat) (d : Dev) : Dev :=
  match d.inq (p - 58), d.rxOf p with
  | f :: rest, some r =>
    if r.bytes < f.data.length then d
    else
      let n := p - 58
      let d := ((d.setRx p none).setInq n rest).fillChanged n
      let d := match r.fid with
        | some fid => (d.storeBytes fid (fcsOf f.data)).acceptRx fid (nb f.tag 41 39)
        | none => if r.rst then d.count (FWD_DISC 0x0A) else d
      let d := d.credDone n (nb f.tag 6 4) (credCost f.data.length)
      if f.excess && decide (d.get (VLT_HDRM_coins p) ≤ d.get (VLT_HDRM_USE_coins p)) then d.vhDown n else d
  | _, _ => d

/-! ### Frame events of every input -/

def isVh (p : Nat) : Bool := decide (58 ≤ p) && decide (p ≤ 61)

/-- FRAME_START. -/
def opFrameStartAny (p eighth : Nat) (d : Dev) : Dev := if isVh p then d.vhStart p else opFrameStart p eighth d

/-- FRAME_DATA_COIN. -/
def opFrameDataAny (p : Nat) (data : List Byte) (d : Dev) : Dev := if isVh p then d.vhData p else opFrameData p data d

/-- FRAME_END; on an Ethernet port with what the MAC merge sublayer reports of the reception. -/
def opFrameEndAny (p : Nat) (fcsGood pcsErr : Bool) (frags asmErr smdErr : Nat) (d : Dev) : Dev :=
  if isVh p then d.vhEnd p else opFrameEnd p fcsGood pcsErr (d.ldgMerge p frags asmErr smdErr)

/-! ### The path window (R338, Table 16-6) -/

/-- PATH_READ. -/
def opPathRead (i : Initiator) (staged : Bool) (d : Dev) : Dev :=
  d.window i .path 1 false (fun _ => true) (fun d =>
    let dev := d.get (VHL_PATH_SEL_dev 0)
    let e := if staged && d.voh.pathsD.contains dev then NMap.get 0 d.voh.pathsS dev else d.path dev
    (d.wr (VHL_PATH_DATA 0) (BitVec.ofNat 32 e)).put (VHL_PATH_DATA_using_alt 0) (if d.voh.onAlt.contains dev then 1 else 0))

/-- PATH_STAGE. -/
def opPathStage (i : Initiator) (d : Dev) : Dev :=
  d.window i .path 2 true (fun _ => true) (fun d =>
    let dev := d.get (VHL_PATH_SEL_dev 0)
    let e := nset (d.rd (VHL_PATH_DATA 0)).toNat 18 18 0
    let l := d.voh.pathsD.filter (· != dev)
    { d with voh := { d.voh with pathsS := NMap.set 0 d.voh.pathsS dev e, pathsD := l ++ [dev] } })

/-- A commit of VHL page 0 copies the staged path entries; a new entry starts on its primary. -/
def Dev.pathCommit (d : Dev) : Dev :=
  let d := d.each d.voh.pathsD (fun dev d =>
    ({ d with voh := { d.voh with
        paths := NMap.set 0 d.voh.paths dev (NMap.get 0 d.voh.pathsS dev), onAlt := d.voh.onAlt.filter (· != dev) } } : Dev).cancel
      ⟨.pathRevert, dev, 0⟩)
  { d with voh := { d.voh with pathsD := [], pathsS := [] } }

/-- A commit of a VHL page: the link trains where `en` rises, and falls to idle where it is cleared. -/
def Dev.vhlCommit (n : Nat) (d : Dev) : Dev :=
  let d := if n = 0 then d.pathCommit else d
  if d.flag (VHL_CFG_en n) then (if d.get (VHL_STAT_state n) = 0 then d.put (VHL_STAT_state n) 1 else d)
  else (d.vhDown n).put (VHL_STAT_state n) 0

/-- A VHL page isolates (R345). -/
def Dev.isoVhl (n : Nat) (d : Dev) : Dev :=
  let d := (((d.isoStart (pgVHL n)).drainOn (58 + n))).revertStop n
  if d.flag (VHL_STAT_link n) then d.put (VHL_STAT_state n) 3 else d

/-- A VHL page returns from isolation. -/
def Dev.vhlBack (n : Nat) (d : Dev) : Dev :=
  if d.flag (VHL_STAT_link n) then ((d.put (VHL_STAT_state n) 2).drainOff (58 + n)).revertStart n else d

/-- A unit reset of a VHL page takes its link down (R345). -/
def Dev.vhlReset (n : Nat) (d : Dev) : Dev := d.vhDown n

/-! ### The meanings of the commands of this file -/

/-- FRAME_START (R18). -/
def execFrameStart (p : Nat) (eighth : Nat) (s : State) : Host.Outcome State Fault Refusal :=
  effectIf (isPort p && decide (eighth < 8)) (opFrameStartAny p eighth) s

/-- FRAME_DATA_COIN (R68). -/
def execFrameDataCoin (p : Nat) (data : List Byte) (s : State) : Host.Outcome State Fault Refusal :=
  effectIf (isPort p && decide (1 ≤ data.length) && decide (data.length ≤ 64)) (opFrameDataAny p data) s

/-- FRAME_END (R18). -/
def execFrameEnd (p : Nat) (fcsGood : Bool) (pcsErr : Bool) (frags asmErr smdErr : Nat) (s : State) :
    Host.Outcome State Fault Refusal :=
  effectIf (isPort p) (opFrameEndAny p fcsGood pcsErr frags asmErr smdErr) s

/-- BACKPRESSURE_REACH_PORT (R70). -/
def execBackpressureReachPort (p : Nat) (s : State) : Host.Outcome State Fault Refusal :=
  effectIf (isPort p) (opPressureReachAny p) s

/-- VH_LINK_UP (R329). -/
def execVhLinkUp (n : VhLink) (grant : List Nat) (s : State) : Host.Outcome State Fault Refusal :=
  effectIf (decide (grant.length = 8)) (opVhLinkUp n grant) s

/-- VH_LINK_DOWN (R344). -/
def execVhLinkDown (n : VhLink) (inRx : Bool) (s : State) : Host.Outcome State Fault Refusal :=
  effect (opVhLinkDown n inRx) s

/-- VH_CONTROL_BLOCK (R334). -/
def execVhControlBlock (n : VhLink) (returns : List Nat) (s : State) : Host.Outcome State Fault Refusal :=
  effectIf (decide (returns.length = 8) && returns.all (fun t => decide (t < 65536)))
    (opVhControlBlock n returns) s

/-- VH_FRAME_RECEIVED (R332). -/
def execVhFrameReceived (n : VhLink) (tag : Word64) (data : List Byte) (chk : Nat) (pairs : CwPairs) (eighth : Nat) (s : State) :
    Host.Outcome State Fault Refusal :=
  effectIf (decide (eighth < 8) && decide (chk < 4294967296)) (opVhFrame n tag data chk pairs eighth) s

/-- HOLD_I_RISE (R335). -/
def execHoldIRise (n : VhLink) (s : State) : Host.Outcome State Fault Refusal :=
  effect (opHoldIRise n) s

/-- HOLD_I_FALL (R335). -/
def execHoldIFall (n : VhLink) (s : State) : Host.Outcome State Fault Refusal :=
  effect (opHoldIFall n) s

/-- PATH_REVERT (R338). -/
def execPathRevert (dev : Nat) (s : State) : Host.Outcome State Fault Refusal :=
  effectIf (decide (dev < 1024)) (opPathRevert dev) s

/-- PATH_READ (R338). -/
def execPathRead (i : Initiator) (staged : Bool) (s : State) : Host.Outcome State Fault Refusal :=
  effect (opPathRead i staged) s

/-- PATH_STAGE (R338). -/
def execPathStage (i : Initiator) (s : State) : Host.Outcome State Fault Refusal :=
  effect (opPathStage i) s

end Sys2Proof.Machine
end

