-- ==== Sys2Proof/Machine/Egress.lean ====
section
/-!
DEFINITION. Steps 9 to 11 of Table 1-4 at Ethernet and Voholt outputs, and the pick of every output (R18, R117, R120, R124,
R139, R155, R159, R269, R331, R334, R335).
-/

namespace Sys2Proof.Machine

/-! ### Copies in transmission -/

/-- The copy that an output is sending, and one that a preemption holds. -/
def Dev.curTx (d : Dev) (out : Nat) : Option Tx := d.vlt.tx.find? (fun t => t.out == out && !t.held)
def Dev.heldTx (d : Dev) (out : Nat) : Option Tx := d.vlt.tx.find? (fun t => t.out == out && t.held)

/-- Replace a copy in transmission. -/
def Dev.swapTx (t u : Tx) (d : Dev) : Dev :=
  { d with vlt := { d.vlt with tx := d.vlt.tx.map (fun x => if x = t then u else x) } }

/-- A preempted frame goes on when nothing is being sent, its gate is open and hold is not asserted (R120, R124). -/
def Dev.resumeTx (p : Nat) (d : Dev) : Dev :=
  match d.heldTx p, d.curTx p with
  | some t, none =>
    if d.gateOpen p t.cls && !d.flag (TRM_PRE_STAT_hold p) then
      let d := ((d.at_ (NMap.get 0 d.vlt.free p)).creditPort p).cancel ⟨.lpiIdle, p, 0⟩
      let n := t.len - t.sent
      let d := d.swapTx t { t with held := false, from_ := d.now + 672, ends := d.now + 672 + d.bitTime p (n * 8) }
      let free := d.now + d.bitTime p ((n + 20) * 8)
      ({ d with vlt := { d.vlt with free := NMap.set 0 d.vlt.free p free } } : Dev).creditUntil p t.cls free
    else d
  | _, _ => d

/-! ### Eligibility at an Ethernet port (R117) -/

/-- The VOQ that a class of an Ethernet port would be served from: `drain` as if every gate were open. -/
def Dev.ethClass (d : Dev) (p c : Nat) (drain : Bool) : Option (Nat × Dev) :=
  let shaped := d.flag (TRM_SHAPER_en p c)
  if shaped && decide ((d.creditOf p c).units < 0) then none
  else if drain then d.drrTake p c (d.heads p c)
  else
    let pre := d.preemptable p c
    if !d.gateOpen p c || d.pauseActs p c || (pre && (d.flag (TRM_PRE_STAT_hold p) || (d.heldTx p).isSome)) then none
    else
      match d.drrTake p c (d.heads p c) with
      | none => none
      | some (q, e) =>
        match d.voq q with
        | [] => none
        | x :: _ => match d.frame x.fid with
          | some f => if d.guardOk p c (d.egressLen p f) then some (q, e) else none
          | none => none

/-- The express class that may interrupt a preemptable frame in transmission. -/
def Dev.expressClass (d : Dev) (p : Nat) : Option (Nat × Nat × Dev) :=
  if (d.preemptee p).any (fun t => (d.cutAt t).isSome) then
    highest (fun c => if d.preemptable p c then none else d.ethClass p c false)
  else none

/-! ### The start of a frame -/

/-- Why a frame that is picked for a wire output does not start, as the count of its discard: too long for the port, a
record on a cascade link, hops exhausted (R159, R331). -/
def Dev.noStart (d : Dev) (out : Nat) (f : Frame) : Option (Dev → Dev) :=
  if d.cascade out && f.record.isSome then
    some (fun d => if out < 57 then d.count (VHL_VOX_CNT 0 out 3) else d.count (VHL_CNT (out - 58) 9))
  else if d.cascade out && (d.hopsOut f).isNone then
    some (fun d => if out < 57 then d.count (VHL_VOX_CNT 0 out 1) else d.count (VHL_CNT (out - 58) 8))
  else if out < 57 && f.tE.isSome && decide (d.get (ETH_CFG_max_len out) < d.egressLen out f) then some (fun d => d.ldg out 50 1)
  else none

/-- The last bit of n bytes, from the pick on: pick-to-timestamp latency and the bytes at the output's rate (R19). -/
def Dev.txEnd (d : Dev) (out pick n : Nat) : Nat := pick + 672 + d.bitTime out (n * 8)

/-- The frame at the head of a VOQ starts: its form is fixed where the whole frame is present. -/
def Dev.startTx (out q c : Nat) (x : Copy) (f : Frame) (bad : Bool) (d : Dev) : Dev :=
  let whole := f.tE.isSome
  match d.takeCv out f with
  | (.inl _, d) => d.dropHead q id
  | (.inr g, d) =>
    let bs := if whole then d.wireBytes out f g else []
    let n := if whole then bs.length + 4 else d.egressLen out f
    let d := (d.creditPort out).popVoq q
    let t : Tx := { out := out, fid := f.id, cls := c, mc := x.mc, pick := d.now,
                    ends := d.txEnd out d.now (if whole then n else 64), data := bs, bad := bad, tsEvent := f.tsEvent,
                    cv := g.map (fun g => g.ctx), gen := if whole then none else g, len := n, from_ := d.now + 672 }
    let d := { d with vlt := { d.vlt with tx := d.vlt.tx ++ [t] } }
    let d := d.occupy out n
    let d := if out < 57 then d.creditUntil out c (NMap.get 0 d.vlt.free out) else d
    d.cancel ⟨.lpiIdle, out, 0⟩

/-- The head of a VOQ is served for a wire output: aged out, discarded, lost to a memory error, or started. -/
def Dev.serveWire (out q c : Nat) (err : Option VaultErr) (d : Dev) : Dev :=
  match d.voq q with
  | [] => d
  | x :: _ =>
    if d.expired x then d.agedOut q
    else
      match d.frame x.fid with
      | none => d
      | some f =>
        match d.noStart out f with
        | some count => d.dropHead q count
        | none =>
          match d.meetErr q out f err with
          | (none, d) => d
          | (some bad, d) => d.startTx out q c x f (bad || f.check == 2)

/-- A drained or dropped frame takes its output for as long as sending it would. -/
def Dev.discardPicked (out q : Nat) (count : Dev → Dev) (d : Dev) : Dev :=
  match d.voq q with
  | [] => d
  | x :: _ =>
    if d.expired x then d.agedOut q
    else
      let n := match d.frame x.fid with
        | some f => d.egressLen out f
        | none => 64
      ((d.dropHead q (fun d => count (d.countDrain out))).saidDrain out).occupy out n

/-- EGRESS_PICK for an Ethernet port. -/
def Dev.pickEth (p : Nat) (err : Option VaultErr) (d0 : Dev) : Dev :=
  let now := (d0.at_ (d0.firstSeen p)).creditPort p
  let d := (d0.toPick p).creditPort p
  if d.drains p then
    match highest (fun c => d.ethClass p c true) with
    | some (_, q, d) => d.discardPicked p q id
    | none => d0
  else
    match d.sleepSeg p with
    | some g =>
      (match highest (fun c => if d.disposition g c = 1 then d.ethClass p c true else none) with
       | some (_, q, d) => d.discardPicked p q (fun d => d.count (WAK_SEG_DROP g))
       | none => d0)
    | none =>
      if !d.macUp p then d0
      else if d.eth.lpi.contains p then (if (highest (fun c => d.ethClass p c false)).isSome then d.lpiLeave p else d0)
      else if d.eth.fcWait.contains p then d0
      else
        match now.expressClass p with
        | some (c, q, e) =>
          let e := e.preemptTx p
          (e.at_ (e.pickTime p)).serveWire p q c err
        | none =>
          if (d.curTx p).isSome then d0
          else
            match highest (fun c => d.ethClass p c false) with
            | some (c, q, d) => d.serveWire p q c err
            | none => if (d.heldTx p).isSome then d.resumeTx p else d0

/-- The coins a frame costs at a link (R334); one still arriving costs as much as its port's longest. -/
def Dev.linkCost (d : Dev) (out : Nat) (f : Frame) : Nat := credCost (d.egressLen out f - 12)

/-- The class that a Voholt link serves, with the VOQ taken: the highest that the scheduler sees a frame of and whose
credit covers that frame. -/
def Dev.linkChoice (out : Nat) (d : Dev) : Option (Nat × Nat × Dev) :=
  highest (fun c =>
    match d.drrTake out c (d.heads out c) with
    | some (q, e) =>
      (match d.voq q with
       | [] => none
       | x :: _ => match d.frame x.fid with
         | some f => if d.linkCost out f ≤ d.get (VHL_CRED_coins (out - 58) c) then some (q, e) else none
         | none => none)
    | none => none)

/-- The credit that the head of a VOQ takes at its pick: a cut-through frame's is taken at its end. -/
def Dev.headCost (out q : Nat) (d : Dev) : Nat :=
  match d.voq q with
  | x :: _ => (match d.frame x.fid with
    | some f => if f.tE.isSome then d.linkCost out f else 0
    | none => 0)
  | [] => 0

/-- EGRESS_PICK for a Voholt link: strict priority over the classes with the credit of their head frame. -/
def Dev.pickVh (out : Nat) (err : Option VaultErr) (d0 : Dev) : Dev :=
  let n := out - 58
  let d := d0.toPick out
  if d.drains out then
    match highest (fun c => d.drrTake out c (d.heads out c)) with
    | some (_, q, d) => d.discardPicked out q id
    | none => d0
  else if !d.flag (VHL_STAT_link n) || d.flag (VHL_STAT_hold_i n) || (d.curTx out).isSome || !d.flag SYS_DEVID_valid then d0
  else
    match d.linkChoice out with
    | none => d0
    | some (c, q, d) =>
      let cost := d.headCost out q
      let was := d.vlt.tx.length
      let d := d.serveWire out q c err
      if d.vlt.tx.length = was then d else d.put (VHL_CRED_coins n c) (d.get (VHL_CRED_coins n c) - cost)

/-- EGRESS_PICK: `err` a Vault memory error met by the read, `bp` the next receive descriptor of port 97, `own`
the host receive rings whose next descriptor has been fetched with own 1. A class that
sleeps at Voholt, host and brace outputs does not exist (R256). -/
def opEgressPick (out : Nat) (err : Option VaultErr) (bp : Option BpDesc) (own : Nat) (d : Dev) : Dev :=
  if !d.works pgQUE then d
  else if out < 57 then (if d.works (pgETH out) || d.drains out then d.pickEth out err else d)
  else if out = 57 then d.pickHost err own
  else if out ≤ 61 then (if d.works (pgVHL (out - 58)) || d.drains out then d.pickVh out err else d)
  else if 64 ≤ out ∧ out ≤ 95 then d.pickBus out err
  else if out = 97 then d.pickBrace err bp
  else d

/-! ### The timestamp point and the end -/

/-- EGRESS_TIMESTAMP: the oldest copy of an output that has not passed the point passes it (R139, R141). -/
def opEgressStamp (out eighth : Nat) (mism : Bool) (d : Dev) : Dev :=
  match d.vlt.tx.find? (fun t => t.out == out && !t.stamped && (decide (out < 57) || isVh out)) with
  | none => d
  | some t =>
    let d := (d.at_ (t.pick + 672)).swapTx t { t with stamped := true }
    if t.tsEvent && decide (out < 57) then
      let bs := match d.frame t.fid with
        | some f => if t.data.isEmpty then d.shape out f else t.data
        | none => t.data
      let d := if mism then d.tsqMismatch out else d
      (d.tsqPush out bs (d.tqEighth d.ticks eighth + d.outCorr out)).ldg out 54 1
    else d

/-- The bytes of a copy at its end: a frame picked before it was complete takes its form now. -/
def Dev.finalForm (d : Dev) (t : Tx) (f : Frame) : List Byte × Bool :=
  if !t.data.isEmpty then (t.data, t.bad) else (d.wireBytes t.out f t.gen, t.bad || f.check == 2)

/-- A copy is sent: its bytes are given out, counted, and its reference released (R75). -/
def Dev.endTx (t : Tx) (f : Frame) (d : Dev) : Dev :=
  let (bs, bad) := d.finalForm t f
  let n := bs.length + 4
  let late := if t.data.isEmpty then max (d.txEnd t.out t.pick n) ((f.tE.getD 0) + 672) else t.ends
  let d := (d.at_ late).creditPort t.out
  let d := (d.emit (.frame t.out (bs ++ checkBytes bs bad) bad (t.pick + 672))).dropTx t
  let d :=
    if t.out < 57 then (d.ldgSent t.out (bs ++ [0, 0, 0, 0]) bad).touch t.out
    else
      let k := t.out - 58
      let d := d.count (VHL_CNT k 0)
      if t.data.isEmpty then d.put (VHL_CRED_coins k t.cls) (d.get (VHL_CRED_coins k t.cls) - credCost (n - 12)) else d
  let d := if t.data.isEmpty then
      let free := max d.now (t.pick + d.bitTime t.out ((n + 20) * 8))
      let d := { d with vlt := { d.vlt with free := NMap.set 0 d.vlt.free t.out free } }
      if t.out < 57 then d.creditUntil t.out t.cls free else d
    else d
  let d := d.release t.fid
  if t.out < 57 then
    let d := (d.setWire t.out (late + d.bitTime t.out 96)).lpiStart t.out
    (d.fcDrainWait t.out).resumeTx t.out
  else d

/-- TRANSMIT_END: the oldest copy that an Ethernet or Voholt output is sending ends; a cut-through frame ends no earlier
than its reception. -/
def opTransmitEnd (out : Nat) (d : Dev) : Dev :=
  if !(decide (out < 57) || isVh out) then d
  else
    match d.curTx out with
    | none => d
    | some t =>
      match d.frame t.fid with
      | none => d.dropTx t
      | some f => if f.tE.isNone then d else d.endTx t f

/-- The copies that an output is sending end invalidly at once (R166). -/
def Dev.cutTx (out : Nat) (d : Dev) : Dev :=
  let d := d.creditPort out
  let mine := d.vlt.tx.filter (fun t => t.out == out)
  d.each mine (fun t d =>
    let bs := match d.frame t.fid with
      | some f => if t.data.isEmpty then d.shape out f else t.data
      | none => t.data
    (((d.emit (.frame out (bs ++ checkBytes bs true) true (t.pick + 672))).ldgSent out (bs ++ [0, 0, 0, 0]) true).dropTx t).release t.fid)

/-! ### The meanings of the commands of this file -/

/-- EGRESS_PICK (R117). -/
def execEgressPick (out : Nat) (err : Option VaultErr) (bp : Option BpDesc) (own : Nat) (s : State) : Host.Outcome State Fault Refusal :=
  effectIf (isPort out && bp.all BpDesc.wf && decide (own < 256)) (opEgressPick out err bp own) s

/-- EGRESS_TIMESTAMP (R139). -/
def execEgressTimestamp (out : Nat) (eighth : Nat) (mism : Bool) (s : State) : Host.Outcome State Fault Refusal :=
  effectIf (isPort out && decide (eighth < 8)) (opEgressStamp out eighth mism) s

/-- TRANSMIT_END (R75). -/
def execTransmitEnd (out : Nat) (s : State) : Host.Outcome State Fault Refusal :=
  effectIf (isPort out) (opTransmitEnd out) s

end Sys2Proof.Machine
end

