-- ==== Sys2Proof/Machine/Ethernet.lean ====
section
/-!
DEFINITION. The Ethernet ports' own commands (chapter 7): training and link state, low-power idle, cable diagnostics,
received flow control and its watchdog, and the Ledger windows.
-/

namespace Sys2Proof.Machine

/-! ### Training and link state (R151, R153 to R155) -/

/-- Training time of a port's group, root periods (Table 7-1). -/
def trainTime (p : Nat) : Nat := msT (if p < 4 then 200 else if p < 16 then 150 else if p < 40 then 120 else 100)

/-- A cable test runs on the port. -/
def Dev.testing (d : Dev) (p : Nat) : Bool := d.running ⟨.diag, p, 0⟩

/-- PHY code is being loaded into the port, for 5 ms (R379). -/
def Dev.codeLoading (d : Dev) (p : Nat) : Bool :=
  match d.due ⟨.phyCodeDone, p, 0⟩ with
  | some t => decide (d.now < t)
  | none => false

/-- PHY_TRAINING_START: both pages of the port report ready. -/
def opTrainStart (p : EthPort) (d : Dev) : Dev :=
  if !d.ready (pgPHY p) || !d.ready (pgETH p) || d.flag (ETH_STAT_link p) || d.testing p || d.codeLoading p || d.running ⟨.train, p, 0⟩ then d
  else (d.put (PHY_STAT_pll p) 1).armIn ⟨.train, p, 0⟩ (trainTime p)

/-- TRAINING_TIMEOUT: counted, and the next attempt starts at once. -/
def opTrainTimeout (p : EthPort) (d : Dev) : Dev :=
  d.onTimer ⟨.train, p, 0⟩ (fun d => ((d.count (PHY_LINK_FAIL p)).raise (pgPHY p) 9).armIn ⟨.train, p, 0⟩ (trainTime p))

/-- ETH_LINK_UP: an attempt reaches link after `ms`. -/
def opEthLinkUp (p : EthPort) (ms : Nat) (d : Dev) : Dev :=
  d.endTimer ⟨.train, p, 0⟩ (fun d =>
    let s := d.get (PHY_CFG_speed p)
    let d := d.creditPort p
    let d := ((d.put (PHY_STAT_link p) 1).put (PHY_STAT_pcs_lock p) 1).put (PHY_STAT_speed p) s
    let d := ((d.put (PHY_TRAIN_MS_ms p) ms).put (ETH_STAT_link p) 1).put (ETH_STAT_speed p) s
    let d := { d with eth := { d.eth with lastSpeed := NMap.set 6 d.eth.lastSpeed p s } }
    let d := (d.raise (pgETH p) 8).cancel ⟨.linkHold, p, 0⟩
    let d := if d.get (PG_STATE_iso (pgETH p)) = 0 then d.drainOff p else d
    let d := d.verifyStart p
    let d := if d.get (ETH_STAT_bp p) = 0 then d else d.fcChanged p
    let d := if d.vox p then d.revertStart (p + 4) else d
    d.lpiStart p)

/-- The link's fields of both pages read down. -/
def Dev.linkGone (p : Nat) (d : Dev) : Dev :=
  d.each [PHY_STAT_link p, PHY_STAT_pcs_lock p, PHY_STAT_speed p, PHY_STAT_lpi_tx p, PHY_STAT_lpi_rx p, ETH_STAT_link p, ETH_STAT_speed p]
    (fun f d => d.put f 0)

/-- The transmitter of a port has left low-power idle and owes no flow control. -/
def Dev.forgetSent (p : Nat) (d : Dev) : Dev :=
  let e := d.eth
  { d with eth := { e with
      lpi := e.lpi.filter (· != p), waking := e.waking.filter (· != p), fcSent := NMap.set 0 e.fcSent p 0,
      fcWait := e.fcWait.filter (· != p) } }

/-- The link of a port falls: counted, the frame in reception is cut short, and the VOQs are held for the hold time. -/
def Dev.ethDown (p : Nat) (d : Dev) : Dev :=
  if !d.flag (ETH_STAT_link p) then d
  else
    let d := (d.creditPort p).linkGone p
    let d := (d.count (ETH_LINK_DOWNS p)).raise (pgETH p) 8
    let d := opFrameEnd p false false d
    let d := d.forgetSent p
    let d := ((d.cancel ⟨.lpiIdle, p, 0⟩).cancel ⟨.lpiWake, p, 0⟩).cancel ⟨.fcRefresh, p, 0⟩
    let d := d.verifyStart p
    let d := if d.vox p then (d.peerGone (p + 4)).revertStop (p + 4) else d
    if d.get (ETH_LINK_CFG_hold_ms p) = 0 then d.drainOn p
    else d.armIn ⟨.linkHold, p, 0⟩ (msT (d.get (ETH_LINK_CFG_hold_ms p)))

/-- ETH_LINK_DOWN. -/
def opEthLinkDown (p : EthPort) (d : Dev) : Dev := d.ethDown p

/-- PHY_PLL_LOSS. -/
def opPllLoss (p : EthPort) (d : Dev) : Dev :=
  if !d.flag (PHY_STAT_pll p) then d
  else (((d.put (PHY_STAT_pll p) 0).raise (pgPHY p) 10).cancel ⟨.train, p, 0⟩).ethDown p

/-- LINK_HOLD_EXPIRY. -/
def opLinkHold (p : EthPort) (d : Dev) : Dev := d.onTimer ⟨.linkHold, p, 0⟩ (fun d => d.drainOn p)

/-- SQI_UPDATE: what the PHY reports each millisecond of a link that is up: its quality, whether it receives low-power idle,
and the codewords and PCS errors since the last report. Ports 40 to 56 have no RS-FEC and no low-power idle. -/
def opSqi (p : EthPort) (sqi : Nat) (lpiRx : Bool) (corr unc pcs : Nat) (d : Dev) : Dev :=
  if !d.flag (PHY_STAT_link p) then d
  else
    let d := d.add ⟨PHY_PCS_ERR p, 31, 0⟩ pcs
    let d := if 40 ≤ p.val then d
      else ((d.put (PHY_STAT_lpi_rx p) (if lpiRx then 1 else 0)).add ⟨PHY_FEC_CORR p, 31, 0⟩ corr).add ⟨PHY_FEC_UNC p, 31, 0⟩ unc
    let was := d.get (PHY_STAT_sqi p)
    let now := min sqi 7
    let t := d.get (PHY_SQI_THR_sqi p)
    let d := d.put (PHY_STAT_sqi p) now
    if now < t ∧ t ≤ was then d.raise (pgPHY p) 11 else d

/-! ### Low-power idle (R156) -/

/-- LPI_IDLE_TIMEOUT: not while a gate list runs, verification is in progress or something is to be sent; the idle time has
then passed, and the entry is made once it may. -/
def opLpiIdle (p : EthPort) (d : Dev) : Dev :=
  match d.due ⟨.lpiIdle, p, 0⟩ with
  | none => d
  | some t =>
    let d := d.at_ t
    if !d.macUp p || (d.tas p).cur.isSome || d.get (TRM_PRE_STAT_verify p) == 2 || d.eth.fcWait.contains p.val ||
        (highest (fun c => d.ethClass p c false)).isSome then d
    else
      let d := d.cancel ⟨.lpiIdle, p, 0⟩
      let d := { d with eth := { d.eth with lpi := d.eth.lpi.filter (· != p.val) ++ [p.val] } }
      (d.put (PHY_STAT_lpi_tx p) 1).ldg p 53 1

/-- LPI_WAKE_DONE. -/
def opLpiWake (p : EthPort) (d : Dev) : Dev :=
  d.onTimer ⟨.lpiWake, p, 0⟩ (fun d =>
    let e := d.eth
    let d := { d with eth := { e with lpi := e.lpi.filter (· != p.val), waking := e.waking.filter (· != p.val) } }
    ((d.put (PHY_STAT_lpi_tx p) 0).lpiStart p).fcDrainWait p)

/-- A commit of the PHY page switches low-power idle on or off: the idle time starts, or the transmitter leaves it. -/
def Dev.lpiCommit (p : Nat) (was : Bool) (d : Dev) : Dev :=
  let on := d.flag (PHY_CFG_lpi_en p)
  if on == was then d
  else if on then (if (d.curTx p).isSome then d else d.lpiStart p)
  else (d.cancel ⟨.lpiIdle, p, 0⟩).lpiLeave p

/-! ### Cable diagnostics (R157) -/

/-- An Update in progress is handing a page's unit over (R30): the brace that an activation loads, or the port that a PHY
code load is loading. -/
def Dev.handedOver (d : Dev) (pg : Nat) : Bool :=
  (match d.upd.partPort with
   | some p => pg == pgPHY p || pg == pgETH p
   | none => false) ||
  (match d.upd.target with
   | some b => pg == pgBRC (brIx b)
   | none => false)

/-- A request refused with UPDATE_BUSY. -/
def Dev.updateBusy (pg : Nat) (i : Initiator) (off v : Nat) (d : Dev) : Dev := d.capture pg 0x10 0x08 i off v 0

/-- Set or clear the diagnostic state of a page, and the Diagnostic condition. -/
def Dev.setDiag (pg : Nat) (on : Bool) (d : Dev) : Dev :=
  let d := d.modPg pg (fun s => { s with diag := on })
  let l := d.sys.diags.filter (· != pg)
  let d := { d with sys := { d.sys with diags := if on then l ++ [pg] else l } }
  (d.refreshPg pg).syncMode

/-- DIAG_RUN. -/
def opDiagRun (i : Initiator) (p : EthPort) (d : Dev) : Dev :=
  d.access i (fun d =>
    if d.testing p then d
    else if d.handedOver (pgPHY p) then d.updateBusy (pgPHY p) i 0x114 1
    else if d.pw.halted then d.rejectTrig 0x14
    else
      let d := (d.cancel ⟨.train, p, 0⟩).ethDown p
      let d := ((d.put (PHY_DIAG_CMD_run p) 1).put (PHY_DIAG_RES_valid p) 0).setDiag (pgPHY p) true
      d.armIn ⟨.diag, p, 0⟩ (msT 50))

/-- The test ends with a result. -/
def Dev.diagEnd (p result dist : Nat) (d : Dev) : Dev :=
  let d := ((d.put (PHY_DIAG_RES_valid p) 1).put (PHY_DIAG_RES_result p) result).put (PHY_DIAG_RES_dist p) dist
  ((d.put (PHY_DIAG_CMD_run p) 0).raise (pgPHY p) 8).setDiag (pgPHY p) false

/-- DIAG_ABORT. -/
def opDiagAbort (i : Initiator) (p : EthPort) (d : Dev) : Dev :=
  d.access i (fun d => if d.testing p then (d.cancel ⟨.diag, p, 0⟩).diagEnd p 7 0 else d)

/-- DIAG_DONE: within 50 ms. A fault nearer than 1 m reads 0. -/
def opDiagDone (p : EthPort) (result dist : Nat) (d : Dev) : Dev :=
  d.endTimer ⟨.diag, p, 0⟩ (fun d => d.diagEnd p result (if dist < 10 then 0 else dist))

/-! ### Received flow control (R161, R163, R164) -/

/-- A MAC control frame counts in its own counter, the octet counters and the size bins, by the length with which it ended;
on an isolated port it is discarded at the MAC. The answer tells whether it is obeyed. -/
def Dev.ldgControl (p i : Nat) (d : Dev) : Bool × Dev :=
  let n := NMap.get 64 d.eth.ctlLen p
  let d := { d with eth := { d.eth with ctlLen := NMap.set 64 d.eth.ctlLen p 64 } }
  if d.get (PG_STATE_iso (pgETH p)) != 0 then (false, (d.ldg p 1 n).ldg p 23 1)
  else (!d.flag (ETH_FC_CFG_rx_ign p), (((d.ldg p i 1).ldg p 0 n).ldg p 1 n).ldg p (8 + lenBin n) 1)

/-- PAUSE_RECEIVED. -/
def opPauseRx (p : EthPort) (quanta : Nat) (d : Dev) : Dev :=
  if !d.macUp p then d
  else
    let (obey, d) := d.ldgControl p 5
    if obey then d.pauseLoad p ((d.pauseSlots p).map (fun i => (i, quanta % 65536))) else d

/-- PFC_RECEIVED: the named priorities and their times. -/
def opPfcRx (p : EthPort) (vector : Nat) (times : List Nat) (d : Dev) : Dev :=
  if !d.macUp p then d
  else
    let (obey, d) := d.ldgControl p 6
    if obey then
      d.pauseLoad p (((List.range 8).filter (fun i => bitAt vector i)).map (fun i => (i, times.getD i 0 % 65536)))
    else d

/-- MACCTL_UNKNOWN_RECEIVED. -/
def opMacCtlUnk (p : EthPort) (d : Dev) : Dev :=
  if !d.macUp p then d
  else if d.get (PG_STATE_iso (pgETH p)) != 0 then (d.ldgControl p 7).2
  else (d.ldgControl p 7).2.raise (pgETH p) 12

/-- PAUSE_TIMER_EXPIRY. -/
def opPauseEnd (p : EthPort) (c : Class) (d : Dev) : Dev := d.onTimer ⟨.pauseEnd, p, c⟩ (fun d => d.pauseSync p c)

/-- FLOW_CONTROL_REFRESH: half the time sent has passed, or the wire is free for a frame that waits. -/
def opFcRefresh (p : EthPort) (d : Dev) : Dev :=
  d.onTimer ⟨.fcRefresh, p, 0⟩ (fun d => if d.eth.fcWait.contains p.val || d.fcState p != 0 then d.fcPush p else d)

/-- PWD_TRIP: the class has been paused without a break for `PWD_CFG.ms` (R164). -/
def opPwdTrip (p : EthPort) (c : Class) (d : Dev) : Dev :=
  d.onTimer ⟨.pwd, p, c⟩ (fun d =>
    let d := (d.count (ETH_PWD_TRIPS p)).raise (pgETH p) 9
    match d.get (ETH_PWD_CFG_action p) with
    | 1 =>
      let d := d.unpause p c
      let d := d.put (ETH_PWD_STAT_broken p) (setBitTo (d.get (ETH_PWD_STAT_broken p)) c true)
      d.armIn ⟨.pwdBreak, p, c⟩ (msT (d.get (ETH_PWD_IGN_ms p)))
    | 2 => d.isoEth p
    | _ => d)

/-- PWD_BREAK_END. -/
def opPwdBreakEnd (p : EthPort) (c : Class) (d : Dev) : Dev :=
  d.onTimer ⟨.pwdBreak, p, c⟩ (fun d => d.put (ETH_PWD_STAT_broken p) (setBitTo (d.get (ETH_PWD_STAT_broken p)) c false))

/-! ### The Ledger windows (R167, R168) -/

/-- Show a counter in the snapshot bank. -/
def Dev.ldgShow (p i v : Nat) (d : Dev) : Dev :=
  (d.put (ETH_LDG_LO_count p i) v).put (ETH_LDG_HI_count p i) (v / 2 ^ 32)

/-- LDG_SNAP. -/
def opLdgSnap (i : Initiator) (p : EthPort) (d : Dev) : Dev :=
  d.access i (fun d =>
    d.each (List.range 64) (fun k d => d.ldgShow p k (NMap.get 0 d.eth.ledger (p.val * 64 + k))))

/-- LDG_CLEAR. -/
def opLdgClear (i : Initiator) (p : EthPort) (d : Dev) : Dev :=
  d.access i (fun d =>
    let d := { d with eth := { d.eth with ledger := d.eth.ledger.filter (fun e => e.1 / 64 != p.val) } }
    d.each (List.range 64) (fun k d => d.ldgShow p k 0))

/-! ### Resets and isolation of the pages (R165, R166) -/

/-- A unit reset of an ETH page. -/
def Dev.ethReset (p : Nat) (d : Dev) : Dev :=
  let d := (opFrameEnd p false false d).cutTx p
  let d := (d.unpauseAll p).put (ETH_PWD_STAT_broken p) 0
  d.each (List.range 8) (fun c d => (d.cancel ⟨.pwd, p, c⟩).cancel ⟨.pwdBreak, p, c⟩)

/-- The release of an ETH page: a flow-control frame for every asserted class goes first. -/
def Dev.ethBack (p : Nat) (d : Dev) : Dev :=
  let d := { d with eth := { d.eth with fcSent := NMap.set 0 d.eth.fcSent p 0 } }
  if d.get (ETH_STAT_bp p) = 0 then d else d.fcChanged p

/-- An ETH page returns from isolation; with the link down its VOQs are held until the hold time has passed (R155). -/
def Dev.ethReturn (p : Nat) (d : Dev) : Dev :=
  let d := (if d.flag (ETH_STAT_link p) || d.running ⟨.linkHold, p, 0⟩ then d.drainOff p else d).ethBack p
  if d.vox p then d.revertStart (p + 4) else d

/-- A unit reset of a PHY page drops the link. -/
def Dev.phyReset (p : Nat) (d : Dev) : Dev :=
  let d := if d.testing p then ((d.cancel ⟨.diag, p, 0⟩).put (PHY_DIAG_CMD_run p) 0).setDiag (pgPHY p) false else d
  (d.cancel ⟨.train, p, 0⟩).ethDown p

/-! ### The meanings of the commands of this file -/

/-- PHY_TRAINING_START (R153). -/
def execPhyTrainingStart (p : EthPort) (s : State) : Host.Outcome State Fault Refusal :=
  effect (opTrainStart p) s

/-- TRAINING_TIMEOUT (R153). -/
def execTrainingTimeout (p : EthPort) (s : State) : Host.Outcome State Fault Refusal :=
  effect (opTrainTimeout p) s

/-- ETH_LINK_UP (R154). -/
def execEthLinkUp (p : EthPort) (ms : Nat) (s : State) : Host.Outcome State Fault Refusal :=
  effect (opEthLinkUp p ms) s

/-- ETH_LINK_DOWN (R154). -/
def execEthLinkDown (p : EthPort) (s : State) : Host.Outcome State Fault Refusal :=
  effect (opEthLinkDown p) s

/-- PHY_PLL_LOSS (R154). -/
def execPhyPllLoss (p : EthPort) (s : State) : Host.Outcome State Fault Refusal :=
  effect (opPllLoss p) s

/-- LINK_HOLD_EXPIRY (R155). -/
def execLinkHoldExpiry (p : EthPort) (s : State) : Host.Outcome State Fault Refusal :=
  effect (opLinkHold p) s

/-- LPI_IDLE_TIMEOUT (R156). -/
def execLpiIdleTimeout (p : EthPort) (s : State) : Host.Outcome State Fault Refusal :=
  effect (opLpiIdle p) s

/-- LPI_WAKE_DONE (R156). -/
def execLpiWakeDone (p : EthPort) (s : State) : Host.Outcome State Fault Refusal :=
  effect (opLpiWake p) s

/-- DIAG_RUN (R157). -/
def execDiagRun (i : Initiator) (p : EthPort) (s : State) : Host.Outcome State Fault Refusal :=
  effect (opDiagRun i p) s

/-- DIAG_ABORT (R157). -/
def execDiagAbort (i : Initiator) (p : EthPort) (s : State) : Host.Outcome State Fault Refusal :=
  effect (opDiagAbort i p) s

/-- DIAG_DONE (R157). -/
def execDiagDone (p : EthPort) (result : Nat) (dist : Nat) (s : State) : Host.Outcome State Fault Refusal :=
  effectIf (decide (result < 16) && decide (dist < 4096)) (opDiagDone p result dist) s

/-- SQI_UPDATE (R157). -/
def execSqiUpdate (p : EthPort) (sqi : Nat) (lpiRx : Bool) (corr unc pcs : Nat) (s : State) :
    Host.Outcome State Fault Refusal :=
  effectIf (decide (sqi < 8)) (opSqi p sqi lpiRx corr unc pcs) s

/-- PAUSE_RECEIVED (R163). -/
def execPauseReceived (p : EthPort) (quanta : Nat) (s : State) : Host.Outcome State Fault Refusal :=
  effectIf (decide (quanta < 65536)) (opPauseRx p quanta) s

/-- PFC_RECEIVED (R163). -/
def execPfcReceived (p : EthPort) (vector : Nat) (times : List Nat) (s : State) : Host.Outcome State Fault Refusal :=
  effectIf (decide (vector < 256) && decide (times.length = 8) && times.all (fun t => decide (t < 65536)))
    (opPfcRx p vector times) s

/-- MACCTL_UNKNOWN_RECEIVED (R161). -/
def execMacctlUnknownReceived (p : EthPort) (s : State) : Host.Outcome State Fault Refusal :=
  effect (opMacCtlUnk p) s

/-- PAUSE_TIMER_EXPIRY (R163). -/
def execPauseTimerExpiry (p : EthPort) (c : Class) (s : State) : Host.Outcome State Fault Refusal :=
  effect (opPauseEnd p c) s

/-- FLOW_CONTROL_REFRESH (R162). -/
def execFlowControlRefresh (p : EthPort) (s : State) : Host.Outcome State Fault Refusal :=
  effect (opFcRefresh p) s

/-- PWD_TRIP (R164). -/
def execPwdTrip (p : EthPort) (c : Class) (s : State) : Host.Outcome State Fault Refusal :=
  effect (opPwdTrip p c) s

/-- PWD_BREAK_END (R164). -/
def execPwdBreakEnd (p : EthPort) (c : Class) (s : State) : Host.Outcome State Fault Refusal :=
  effect (opPwdBreakEnd p c) s

/-- LDG_SNAP (R168). -/
def execLdgSnap (i : Initiator) (p : EthPort) (s : State) : Host.Outcome State Fault Refusal :=
  effect (opLdgSnap i p) s

/-- LDG_CLEAR (R167). -/
def execLdgClear (i : Initiator) (p : EthPort) (s : State) : Host.Outcome State Fault Refusal :=
  effect (opLdgClear i p) s

end Sys2Proof.Machine
end

