-- ==== Sys2Proof/Machine/Key.lean ====
section
/-!
DEFINITION. The Strongbox, the tamper sensors and the signature-check unit (chapter 11).
-/

namespace Sys2Proof.Machine

/-! ### Derivation and the internal keys (R235, R236) -/

/-- The bytes of a label. -/
def ascii (s : String) : List Byte := s.toList.map (fun c => BitVec.ofNat 8 c.toNat)

/-- The counter-mode KDF: the PRF inputs are counter, label, a zero byte, context and length. -/
def kdf (ki label ctx : List Byte) (bits : Nat) : List Byte :=
  ((List.range ((bits + 127) / 128)).flatMap (fun i =>
    cmac ki (beBytes 4 (i + 1) ++ label ++ [0] ++ ctx ++ beBytes 4 bits))).take (bits / 8)

/-- The corrected bits compressed to 256 bits by AES-CMAC under an all-zero key. -/
def rootOf (bits : List Byte) : List Byte :=
  let zero := List.replicate 16 0
  cmac zero (Config.extractInput false bits) ++ cmac zero (Config.extractInput true bits)

/-- The 64-bit check of a root secret. -/
def rootCheckOf (rs : List Byte) : List Byte := kdf rs (ascii "DG960-CHK") [] 64

/-- One regeneration attempt: the cells read are corrected by the helper data and compressed; the root secret and its margin
where the check matches. -/
def Dev.rootTry (d : Dev) (cells : List Byte) : Option (List Byte × Nat) :=
  match Config.correct d.key.helper cells with
  | none => none
  | some (bits, margin) =>
    if margin ≤ 12 ∧ rootCheckOf (rootOf bits) = d.key.rootCheck then some (rootOf bits, margin) else none

/-- The keys derived under the erase counter (Table 11-1). -/
def Dev.deriveStore (d : Dev) : Dev :=
  let c := beBytes 4 (d.get KEY_ERASE_CTR_ctr)
  { d with key := { d.key with kek := kdf d.key.rs (ascii "DG960-KEK") c 256, kmk := kdf d.key.rs (ascii "DG960-REC") c 256 } }

/-- The root secret is good: it is held, and the internal keys are derived from it. -/
def Dev.holdRoot (rs : List Byte) (d : Dev) : Dev :=
  let d := { d with key := { d.key with
    rs := rs, msk := kdf rs (ascii "DG960-MASK") (beBytes 8 d.key.starts) 256 } }
  d.deriveStore

/-! ### Masked cells (R239) -/

/-- The value that a masked cell holds: RS, KEK, KMK and MSK, then the holding registers, then the AUT key slots. -/
def Dev.cell (d : Dev) (i : Nat) : List Byte :=
  match i with
  | 0 => d.key.rs
  | 1 => d.key.kek
  | 2 => d.key.kmk
  | 3 => d.key.msk
  | i =>
    if i < 20 then (match NMap.get none d.key.hold (i - 4) with
      | some k => k.key
      | none => [])
    else ((d.cst ((i - 20) / 2)).slot ((i - 20) % 2 == 1)).key

/-- The mask of a cell, as long as its value: drawn by a generator under MSK and renewed. -/
def Dev.cellMask (d : Dev) (i : Nat) : List Byte :=
  fixLen (d.cell i).length (Config.mask d.key.msk i d.key.masks)

/-- The two shares that a cell is stored as, and where: the value XOR the mask, and the mask. -/
def Dev.cellShares (d : Dev) (i : Nat) : Nat × List Byte × List Byte :=
  (Config.cellPlace d.key.msk i, xorBytes (d.cell i) (d.cellMask i), d.cellMask i)

/-! ### Places and records (R237, R238, R240) -/

def Dev.krc (d : Dev) (r : Nat) : KeyRec := NMap.get {} d.key.recs r

def Dev.setKrc (r : Nat) (x : KeyRec) (d : Dev) : Dev := { d with key := { d.key with recs := NMap.set {} d.key.recs r x } }

def KeyRec.slot (x : KeyRec) (b : Bool) : KeyCopy := if b then x.s1 else x.s0

/-- The selector: its state is valid, and the slot it names. -/
def KeyRec.valid (x : KeyRec) : Bool := nb x.sel 3 0 == 1
def KeyRec.named (x : KeyRec) : Bool := nbit x.sel 4

/-- The selector word that names a slot. -/
def selWord (b : Bool) : Nat := 1 + (if b then 16 else 0)

/-- The fields of a slot (Table 11-2): generation, usage, key length, and the key's wrap. -/
def KeyCopy.gen (c : KeyCopy) : Nat := be c.bytes 0 4
def KeyCopy.usage (c : KeyCopy) : Nat := be c.bytes 4 1
def KeyCopy.k256 (c : KeyCopy) : Bool := be c.bytes 5 1 % 2 == 1
def KeyCopy.blob (c : KeyCopy) : List Byte := (c.bytes.drop 8).take (if c.k256 then 40 else 24)

/-- The check of a slot: the first bytes of the MAC of its content with the record and slot number. -/
def slotCheck (kmk body : List Byte) (r : Nat) (b : Bool) : List Byte :=
  (cmac kmk (body ++ beBytes 2 r ++ [if b then 1 else 0])).take 8

/-- The bytes of a slot that holds a key. -/
def Dev.slotImage (d : Dev) (r : Nat) (b : Bool) (gen : Nat) (k : HeldKey) : List Byte :=
  let body := beBytes 4 gen ++ beBytes 1 k.usage ++ beBytes 1 (if k.k256 then 1 else 0) ++ beBytes 2 0 ++
    fixLen 40 (keyWrap d.key.kek k.key) ++ List.replicate 72 0
  body ++ slotCheck d.key.kmk body r b

/-- The key of a slot that passes its check and whose integrity value holds under KEK. -/
def Dev.slotKey (d : Dev) (r : Nat) (b : Bool) (c : KeyCopy) : Option (List Byte) :=
  if c.bad || c.bytes.length != 128 || c.bytes.drop 120 != slotCheck d.key.kmk (c.bytes.take 120) r b then none
  else keyUnwrap d.key.kek c.blob

/-- A slot passes its check. -/
def Dev.passes (d : Dev) (r : Nat) (b : Bool) (c : KeyCopy) : Bool := (d.slotKey r b c).isSome

/-- The slot of a record in effect, and whether it is the other one (R238). -/
def Dev.inEffect (d : Dev) (r : Nat) : Option (Bool × Bool) :=
  let x := d.krc r
  if !x.valid then none
  else if d.passes r x.named (x.slot x.named) then some (x.named, false)
  else if d.passes r (!x.named) (x.slot (!x.named)) then some (!x.named, true)
  else none

/-- Show the selected record in `REC_INFO` and `REC_GEN`. -/
def Dev.recShow (d : Dev) : Dev :=
  let x := d.krc (d.get KEY_REC_SEL_rec)
  match d.inEffect (d.get KEY_REC_SEL_rec) with
  | none =>
    ((((d.put KEY_REC_INFO_usage 0).put KEY_REC_INFO_state 0).put KEY_REC_INFO_slot 0).put KEY_REC_INFO_k256 0).put
      KEY_REC_GEN_gen 0
  | some (b, other) =>
    let c := x.slot b
    ((((d.put KEY_REC_INFO_usage c.usage).put KEY_REC_INFO_state (if other then 2 else 1)).put KEY_REC_INFO_slot
      (if b then 1 else 0)).put KEY_REC_INFO_k256 (if c.k256 then 1 else 0)).put KEY_REC_GEN_gen c.gen

/-- The key at a record or holding register; none where it is empty. -/
def Dev.keyAt (d : Dev) (p : Place) : Option HeldKey :=
  match p.kind with
  | 0 =>
    let r := p.index % 1024
    (match d.inEffect r with
     | some (b, _) =>
       let c := (d.krc r).slot b
       some { usage := c.usage, k256 := c.k256, key := (d.slotKey r b c).getD [] }
     | none => none)
  | 1 => if p.index < 16 then NMap.get none d.key.hold p.index else none
  | _ => none

/-- Where a record is written next, and its generation: the slot its selector does not name, or the failed one; an empty
record takes generation 1 in slot 0 (R238). -/
def Dev.recTarget (d : Dev) (r : Nat) : Bool × Nat :=
  match d.inEffect r with
  | none => (false, 1)
  | some (b, _) => (!b, (((d.krc r).slot b).gen + 1) % 2 ^ 32)

def KeyRec.put (x : KeyRec) (b : Bool) (c : KeyCopy) : KeyRec := if b then { x with s1 := c } else { x with s0 := c }

/-- Write a record: its slot, then the selector word that names it (R238). -/
def Dev.writeRec (r : Nat) (k : HeldKey) (d : Dev) : Dev :=
  let (b, g) := d.recTarget r
  (d.setKrc r { (d.krc r).put b { bytes := d.slotImage r b g k } with sel := selWord b }).recShow

/-- A write of a record ends after n of its slot's 16 words; the selector is not written (Table 11-5). -/
def Dev.cutRec (r n : Nat) (k : HeldKey) (d : Dev) : Dev :=
  let (b, g) := d.recTarget r
  let old := ((d.krc r).slot b).bytes
  if n = 0 then d
  else d.setKrc r ((d.krc r).put b { bytes := (d.slotImage r b g k).take (8 * n) ++ (fixLen 128 old).drop (8 * n) })

/-- Load a key into an AUT slot: LOADED, with its AN, initial PN, SSCI and salt (R219, R241). -/
def Dev.loadSlot (o : KeyOp) (k : HeldKey) (d : Dev) : Dev :=
  let c := o.dst.index / 2
  let b := o.dst.index % 2 == 1
  let s : KeySlot := { st := 1, key := k.key, an := o.an, pn0 := o.pn, pn := o.pn, ssci := o.ssci, salt := o.salt }
  d.setCst c { (d.cst c).put b s with newest := b }

/-- Write a key to the destination of an operation. -/
def Dev.writeKey (o : KeyOp) (k : HeldKey) (d : Dev) : Dev :=
  match o.dst.kind with
  | 0 => d.writeRec (o.dst.index % 1024) k
  | 1 => { d with key := { d.key with hold := NMap.set none d.key.hold o.dst.index (some k) } }
  | 2 => d.loadSlot o k
  | _ => d

/-! ### Starting a key operation (R240, R241, R244) -/

/-- Status codes of Table 11-4. -/
def ksOk : Nat := 0x00
def ksBusy : Nat := 0x01
def ksSealed : Nat := 0x02
def ksNotReady : Nat := 0x03
def ksUsage : Nat := 0x04
def ksEmpty : Nat := 0x05
def ksNotEmpty : Nat := 0x06
def ksUnwrapFail : Nat := 0x07
def ksProvClosed : Nat := 0x08
def ksCtxChanged : Nat := 0x09
def ksTamper : Nat := 0x0A
def ksUe : Nat := 0x0B
def ksBadArg : Nat := 0x0C
def ksTokenBad : Nat := 0x0D
def ksRngFail : Nat := 0x0E
def ksUnitReset : Nat := 0x0F

/-- The bytes of an array of n words, big-endian in word order. -/
def Dev.wordBytes (d : Dev) (f : Nat → Nat) (n : Nat) : List Byte := (List.range n).flatMap (fun i => beBytes 4 (d.rd (f i)).toNat)

/-- Store bytes in an array of words. -/
def Dev.putBytes (f : Nat → Nat) (n : Nat) (bs : List Byte) (d : Dev) : Dev :=
  d.each (List.range n) (fun i d => d.wr (f i) (BitVec.ofNat 32 (ofBe (fixLen 4 (bs.drop (4 * i))))))

/-- The operands as they stand. -/
def Dev.keyOperands (d : Dev) (code : Nat) (data : List Byte) : KeyOp :=
  { code := code, src := ⟨d.get KEY_SRC_kind, d.get KEY_SRC_index⟩, dst := ⟨d.get KEY_DST_kind, d.get KEY_DST_index⟩,
    usage := d.get KEY_ATTR_usage, k256 := d.flag KEY_ATTR_k256, type := d.get KEY_ATTR_type,
    labLen := d.get KEY_ATTR_lab_len, ctxLen := d.get KEY_ATTR_ctx_len, an := d.get KEY_SA_an, ssci := d.get KEY_SSCI_ssci,
    pn := d.rd64 KEY_PN_LO KEY_PN_HI,
    salt := d.get (KEY_SALT_salt 0) + d.get (KEY_SALT_salt 1) * 2 ^ 32 + d.get (KEY_SALT_salt 2) * 2 ^ 64,
    buf := d.wordBytes KEY_BUF 32, data := data }

/-- `BUF` and the operand registers are cleared. -/
def Dev.clearOperands (d : Dev) : Dev :=
  let d := d.each (List.range 32) (fun i d => d.wr (KEY_BUF i) 0)
  let regs := [KEY_SRC, KEY_DST, KEY_ATTR, KEY_SA, KEY_DATA_LO, KEY_DATA_HI, KEY_DATA_LEN, KEY_SSCI, KEY_PN_LO, KEY_PN_HI,
    KEY_SALT 0, KEY_SALT 1, KEY_SALT 2]
  d.each regs (fun a d => d.wr a (resetValue a))

/-- An operation ends with a status (R244). -/
def Dev.keyEnd (status : Nat) (d : Dev) : Dev :=
  let d := ({ d with key := { d.key with op := none } } : Dev).cancel ⟨.keyOp, 0, 0⟩
  (((d.put KEY_CSTAT_status status).put KEY_CSTAT_busy 0).clearOperands).raise pgKEY 8

/-- The usage bit that an operation's source must carry (Table 11-3). -/
def srcUsage : Nat → Option Nat
  | 2 => some 4 | 3 => some 0 | 4 => some 1 | 5 => some 2 | 6 => some 5 | 7 => some 3 | _ => none

/-- The kinds of place an operation's result can go to. -/
def dstKinds : Nat → List Nat
  | 1 => [0] | 2 => [0] | 3 => [2] | 4 => [0, 1, 2] | 5 => [0, 1, 2] | 8 => [0, 1, 2] | 0xA => [0, 1] | _ => []

/-- Why an AUT slot cannot be written. -/
def Dev.slotRefuses (d : Dev) (o : KeyOp) (k256 : Bool) : Option Nat :=
  if o.dst.kind ≠ 2 then none
  else
    let c := o.dst.index / 2
    if !d.ready pgAUT then some ksNotReady
    else if nbit (d.ctx c) 5 != k256 then some ksBadArg
    else if ((d.cst c).slot (o.dst.index % 2 == 1)).st ≠ 0 then some ksNotEmpty
    else none

/-- The indexes of a kind of place (R240). -/
def Place.inRange (p : Place) : Bool :=
  match p.kind with
  | 0 => decide (p.index < 1024)
  | 1 => decide (p.index < 16)
  | 2 => decide (p.index < 8192)
  | _ => false

/-- The signature-check unit is in use: by a verification, by TOKEN, by the reset controller during start, or by a
verify of a bank (R245, R250, R372). -/
def Dev.sigBusy (d : Dev) : Bool :=
  d.key.sig.isSome || (match d.key.op with | some o => o.code == 0xB | none => false) || (decide (d.pw.base = .start) && !d.pw.imageGood) ||
  d.running ⟨.bankVerify, 0, 0⟩

/-- Why an operation is refused for its own arguments. -/
def Dev.argRefuses (d : Dev) (o : KeyOp) : Option Nat :=
  let src : Option Nat :=
    match srcUsage o.code with
    | none => none
    | some u =>
      if 1 < o.src.kind || !o.src.inRange then some ksBadArg
      else
        match d.keyAt o.src with
        | none => some ksEmpty
        | some k => if bitAt k.usage u then none else some ksUsage
  let dst : Option Nat :=
    if (dstKinds o.code).isEmpty || ((dstKinds o.code).contains o.dst.kind && o.dst.inRange) then none
    else some ksBadArg
  let own : Option Nat :=
    match o.code with
    | 1 => if d.flag KEY_STAT_prov then none else some ksProvClosed
    | 3 => (match d.keyAt o.src with
      | some k => d.slotRefuses o k.k256
      | none => none)
    | 4 => if bitAt o.usage 4 || decide (128 < o.labLen + o.ctxLen) then some ksBadArg else d.slotRefuses o o.k256
    | 5 => if bitAt o.usage 4 then some ksBadArg else d.slotRefuses o o.k256
    | 6 =>
      (if 1 < o.dst.kind || !o.dst.inRange then some ksBadArg
       else
        match d.keyAt o.dst with
        | none => some ksEmpty
        | some k => if bitAt k.usage 2 then none else some ksUsage)
    | 7 => if d.get KEY_DATA_LEN_bytes = 0 ∨ 4096 < d.get KEY_DATA_LEN_bytes then some ksBadArg else none
    | 8 =>
      (if !d.flag KEY_STAT_rng_ok then some ksRngFail
       else if bitAt o.usage 4 then some ksBadArg else d.slotRefuses o o.k256)
    | 9 => if d.flag KEY_STAT_rng_ok then none else some ksRngFail
    | 0xB => if o.type = 1 ∨ o.type = 2 then (if d.sigBusy then some ksTokenBad else none) else some ksBadArg
    | _ => none
  (src.or dst).or own

/-- The longest an operation takes, root periods (Table 11-3). -/
def opTime (o : KeyOp) : Nat :=
  let t := match o.code with
    | 1 => usT 5 | 2 => usT 5 | 3 => usT 2 | 4 => usT 3 | 5 => usT 3 | 6 => usT 3 | 7 => usT 10 | 8 => usT 3 | 9 => usT 1
    | 0xA => usT 40 | _ => msT 1
  if (dstKinds o.code).contains 0 && o.dst.kind == 0 && o.code != 0xA then t + usT 20 else t

/-- A write of `KEY.CMD.op`: refused while busy, sealed or not ready, or for its arguments; otherwise the operation runs. -/
def Dev.keyCommand (i : Initiator) (code : Nat) (data : List Byte) (d : Dev) : Dev :=
  d.access i (fun d =>
    if d.flag KEY_CSTAT_busy then d.put KEY_CSTAT_status ksBusy
    else
      let d := d.each (List.range 12) (fun j d => d.wr (KEY_RES j) 0)
      let o := d.keyOperands code (d.dataAt (d.rd64 KEY_DATA_LO KEY_DATA_HI) (d.get KEY_DATA_LEN_bytes) data)
      if d.flag KEY_STAT_sealed && code != 0xB then d.keyEnd ksSealed
      else if !d.flag KEY_STAT_ready && (!d.flag KEY_STAT_sealed || d.get KEY_STAT_root == 3) then d.keyEnd ksNotReady
      else
        match d.argRefuses o with
        | some st => d.keyEnd st
        | none =>
          let d := { d with key := { d.key with op := some o, touched := [] } }
          (d.put KEY_CSTAT_busy 1).armIn ⟨.keyOp, 0, 0⟩ (opTime o))

def opImportPlain (i : Initiator) (d : Dev) : Dev := d.keyCommand i 1 []
def opImportWrapped (i : Initiator) (d : Dev) : Dev := d.keyCommand i 2 []
def opLoad (i : Initiator) (d : Dev) : Dev := d.keyCommand i 3 []
def opDerive (i : Initiator) (d : Dev) : Dev := d.keyCommand i 4 []
def opUnwrap (i : Initiator) (d : Dev) : Dev := d.keyCommand i 5 []
def opWrap (i : Initiator) (d : Dev) : Dev := d.keyCommand i 6 []
/-- CMAC: `data` what host memory holds at `DATA`, where `DATA` lies in the host window. -/
def opCmac (i : Initiator) (data : List Byte) (d : Dev) : Dev := d.keyCommand i 7 data
def opGenerate (i : Initiator) (d : Dev) : Dev := d.keyCommand i 8 []
def opRandom (i : Initiator) (d : Dev) : Dev := d.keyCommand i 9 []
def opZero (i : Initiator) (d : Dev) : Dev := d.keyCommand i 0xA []
def opToken (i : Initiator) (d : Dev) : Dev := d.keyCommand i 0xB []

/-- KEY_BAD_OP: codes 0x0 and 0xC to 0xF. -/
def opKeyBad (i : Initiator) (op : Nat) (d : Dev) : Dev :=
  if 1 ≤ op % 16 ∧ op % 16 ≤ 0xB then d
  else d.access i (fun d =>
    if d.flag KEY_CSTAT_busy then d.put KEY_CSTAT_status ksBusy
    else (d.each (List.range 12) (fun j d => d.wr (KEY_RES j) 0)).keyEnd ksBadArg)

/-! ### The end of a key operation -/

/-- n bytes of the DRBG; a reseed is due after 2^20 requests (R243). -/
def Dev.draw (n : Nat) (d : Dev) : List Byte × Dev :=
  let (out, g) := d.key.drbg.generate n
  (out, { d with key := { d.key with drbg := g, requests := d.key.requests + 1 } })

/-- The DRBG takes a seed of the noise source: free bytes (R243). -/
def Dev.seed (d : Dev) : Dev :=
  let (bs, d) := d.freeBytes 48
  { d with key := { d.key with drbg := d.key.drbg.update bs, requests := 0 } }

/-- The anchor's key: `SIG.Q` by the anchor's curve. -/
def Dev.sigKey (d : Dev) (curve : Bool) : List Byte :=
  let w := d.wordBytes SIG_Q 24
  if curve then w else w.take 32 ++ (w.drop 48).take 32

/-- An anchor slot accepts a public key. -/
def anchorTakes (a : Anchor) (q : List Byte) : Bool := a.valid && !a.revoked && a.digest == sha true q

/-- The signed message of a token (R245). -/
def Dev.tokenMsg (d : Dev) (purpose : Nat) : List Byte :=
  beBytes 4 purpose ++ beBytes 8 (d.rd64 KEY_UID_LO KEY_UID_HI) ++ beBytes 4 (d.get KEY_TOK_CTR_ctr + 1)

/-- A token is signed for a valid, unrevoked owner anchor. -/
def Dev.tokenGood (d : Dev) (o : KeyOp) : Bool :=
  d.key.sig.isNone && d.key.anchors.any (fun e =>
    e.2.purpose == 1 && anchorTakes e.2 (d.sigKey e.2.curve) &&
    ecdsaValid e.2.curve (d.sigKey e.2.curve) (sha e.2.curve (d.tokenMsg o.type)) (o.buf.take (if e.2.curve then 96 else 64)))

/-- KEY reports ready or waits; mirrored in `AUT.KEYS` (R238, Table 2-6). -/
def Dev.keyReady (on : Bool) (d : Dev) : Dev :=
  let v := if on then 1 else 0
  ((((d.put KEY_STAT_ready v).put AUT_KEYS_ready v).refreshPg pgKEY)).refreshPg pgAUT

/-- The tamper latches are cleared, and the sealed state with them (R249). -/
def Dev.tamperClear (d : Dev) : Dev :=
  let d := ((d.put TMP_LATCH_sensors 0).put TMP_STAT_alarm 0).raise pgTMP 10
  if d.flag KEY_STAT_sealed then (d.put KEY_STAT_sealed 0).keyReady (d.get KEY_STAT_root == 2) else d

/-- Store a key, or the reason why its AUT slot cannot take it any more (R242). -/
def Dev.storeKey (o : KeyOp) (k : HeldKey) (d : Dev) : Dev :=
  if o.dst.kind = 2 ∧ d.key.touched.contains (o.dst.index / 2) then d.keyEnd ksCtxChanged
  else
    match d.slotRefuses o k.k256 with
    | some st => d.keyEnd st
    | none => (d.writeKey o k).keyEnd ksOk

/-- Give a result out in `RES`. -/
def Dev.giveRes (bs : List Byte) (d : Dev) : Dev := (d.putBytes KEY_RES 12 bs).keyEnd ksOk

/-- The key that an operation makes, where its code makes one: as `ATTR` gives it, or a loaded key as it is. Nothing where
an integrity value fails or the source is empty. -/
def Dev.keyMade (o : KeyOp) (d : Dev) : Option HeldKey × Dev :=
  let src := d.keyAt o.src
  let sk := (match src with | some k => k.key | none => [])
  let n := if o.k256 then 32 else 16
  let mk (key : List Byte) : HeldKey := { usage := o.usage, k256 := o.k256, key := fixLen n key }
  match o.code with
  | 1 => (some (mk o.buf), d)
  | 2 | 5 => ((keyUnwrap sk (o.buf.take (n + 8))).map mk, d)
  | 3 => (src, d)
  | 4 => (some (mk (kdf sk (o.buf.take o.labLen) ((o.buf.drop o.labLen).take o.ctxLen) (8 * n))), d)
  | 8 =>
    let (key, d) := d.draw n
    (some (mk key), d)
  | _ => (none, d)

/-- An operation stops midway: where it was writing a record, how many words of the slot were written is free, and the
record in effect stays (R238). -/
def Dev.keyStops (d : Dev) : Dev :=
  match d.key.op with
  | none => d
  | some o =>
    if o.dst.kind = 0 ∧ (dstKinds o.code).contains 0 then
      let (w, d) := d.free 5
      match d.keyMade o with
      | (some k, d) => d.cutRec (o.dst.index % 1024) (min w 16) k
      | (none, d) => d
    else d

/-- An operation is aborted with a status (R244, R246). -/
def Dev.keyAbort (status : Nat) (d : Dev) : Dev := if d.key.op.isSome then d.keyStops.keyEnd status else d

/-- The result of an operation. -/
def Dev.keyResult (o : KeyOp) (d : Dev) : Dev :=
  let src := d.keyAt o.src
  let sk := (match src with | some k => k.key | none => [])
  match o.code with
  | 1 | 2 | 3 | 4 | 5 | 8 =>
    (match d.keyMade o with
     | (some k, d) => d.storeKey o k
     | (none, d) => d.keyEnd (if o.code = 3 then ksEmpty else ksUnwrapFail))
  | 6 => (match d.keyAt o.dst with
    | some w => d.giveRes (keyWrap w.key sk)
    | none => d.keyEnd ksEmpty)
  | 7 => d.giveRes (cmac sk o.data)
  | 9 =>
    let (r, d) := d.draw 16
    d.giveRes r
  | 0xA =>
    let d := if o.dst.kind = 0 then (d.setKrc o.dst.index {}).recShow
      else { d with key := { d.key with hold := NMap.set none d.key.hold o.dst.index none } }
    d.keyEnd ksOk
  | _ =>
    if d.tokenGood o then
      let d := d.put KEY_TOK_CTR_ctr (d.get KEY_TOK_CTR_ctr + 1)
      let d := if o.type = 1 then d.put KEY_STAT_prov 1 else d.tamperClear
      d.keyEnd ksOk
    else d.keyEnd ksTokenBad

/-- The usage bit that a place of an operation must carry: its source's, or that of the wrapping key in DST. -/
def KeyOp.needs (o : KeyOp) : KeyUe → Option (Place × Nat)
  | .src => (srcUsage o.code).map (fun u => (o.src, u))
  | .wrapping => if o.code = 6 then some (o.dst, 2) else none

/-- An uncorrectable error in a key that an operation uses (R244): a record falls back, a holding register is zeroised and
the operation ends with UE. -/
def Dev.keyUe (o : KeyOp) (w : KeyUe) (d : Dev) : Dev :=
  match o.needs w with
  | none => d.keyResult o
  | some (p, u) =>
    if p.kind = 0 then
      let r := p.index % 1024
      match d.inEffect r with
      | none => d.keyEnd ksEmpty
      | some (b, _) =>
        let x := d.krc r
        let d := d.setKrc r (if b then { x with s1 := { x.s1 with bad := true } } else { x with s0 := { x.s0 with bad := true } })
        let d := if (d.inEffect r).isSome then (d.count KEY_REC_FALLBACK).raise pgKEY 11 else (d.count KEY_REC_LOST).raise pgKEY 12
        let d := d.recShow
        match d.keyAt p with
        | some k => if bitAt k.usage u then d.keyResult o else d.keyEnd ksUsage
        | none => d.keyEnd ksEmpty
    else if p.kind = 1 then
      let d := { d with key := { d.key with hold := NMap.set none d.key.hold p.index none } }
      ((d.raise pgKEY 15).uncorrectable 9 (12288 + p.index) 8).keyEnd ksUe
    else d.keyResult o

/-- KEY_OP_DONE: at the latest when its time has passed. -/
def opKeyDone (ue : Option KeyUe) (d : Dev) : Dev :=
  match d.key.op with
  | none => d
  | some o => d.endTimer ⟨.keyOp, 0, 0⟩ (fun d => match ue with
    | some w => d.keyUe o w
    | none => d.keyResult o)

/-- PROV_CLOSE (R245): ignored with ERR without a valid owner anchor. -/
def opProvClose (i : Initiator) (d : Dev) : Dev :=
  d.access i (fun d =>
    if d.key.anchors.any (fun e => e.2.valid && e.2.purpose == 1) then
      ({ d with key := { d.key with closed := true } } : Dev).put KEY_STAT_prov 0
    else d.ignoredErr pgKEY i 0x1A4 1)

/-- The noise source fails a health test: no more random values until a reseed succeeds, tried every 100 ms (R243). -/
def Dev.rngFails (d : Dev) : Dev := ((d.put KEY_STAT_rng_ok 0).raise pgKEY 14).armIn ⟨.reseed, 0, 0⟩ (msT 100)

/-- DRBG_RESEED: a health test that fails acts at once; a reseed is due after 2^20 requests, or every 100 ms while the noise
source is not healthy. -/
def opReseed (healthy : Bool) (d : Dev) : Dev :=
  let retry := d.running ⟨.reseed, 0, 0⟩
  let d' := match d.due ⟨.reseed, 0, 0⟩ with
    | some e => (d.at_ e).cancel ⟨.reseed, 0, 0⟩
    | none => d
  if !healthy then (if retry || d.flag KEY_STAT_rng_ok then d'.rngFails else d)
  else if retry || decide (2 ^ 20 ≤ d.key.requests) then d'.seed.put KEY_STAT_rng_ok 1
  else d

/-- MASK_RENEW: every cell takes a new mask; no value in a masked cell changes (R239). -/
def opMaskRenew (d : Dev) : Dev :=
  if d.pw.main then { d with now := d.now + usT 1, key := { d.key with masks := d.key.masks + 1 } } else d

/-! ### Root secret and start check (R235, R238, R248) -/

/-- Zeroise what a seal zeroises (R239, Table 11-7). -/
def Dev.seal (d : Dev) : Dev :=
  let d := ({ d with key := { d.key with hold := [] } } : Dev).autZero
  ((d.put KEY_STAT_sealed 1).keyReady false).raise pgKEY 13

/-- Advance the erase counter; the selectors are rewritten in the background (Table 11-7). -/
def Dev.eraseKeys (d : Dev) : Dev :=
  let d := (d.put KEY_ERASE_CTR_ctr (d.get KEY_ERASE_CTR_ctr + 1)).put TMP_STAT_erase_pend 0
  d.deriveStore.recShow.armIn ⟨.tmpErase, 0, 0⟩ (msT 50)

/-- The response of the option bytes; `erase` where an erase is due. An erase that is done leaves nothing more to do. -/
def Dev.respond (erase : Bool) (d : Dev) : Dev :=
  let r := d.get TMP_STAT_resp
  if r = 0 then d
  else if r = 1 then d.seal
  else if erase then d.seal.eraseKeys
  else if d.get KEY_STAT_root = 2 then d.keyReady true
  else d

/-- Show the selected log entry. -/
def Dev.logShow (d : Dev) : Dev :=
  match d.key.log[d.get TMP_LOG_SEL_entry]? with
  | none =>
    ((((d.put TMP_LOG_ENT_aon_time 0).put TMP_LOG_ENT_sensors 0).put TMP_LOG_ENT_mode 0).put TMP_LOG_ENT_start 0).wr64
      TMP_LOG_T_LO TMP_LOG_T_HI 0
  | some e =>
    ((((d.put TMP_LOG_ENT_aon_time (if e.aon then 1 else 0)).put TMP_LOG_ENT_sensors e.sensors).put TMP_LOG_ENT_mode
      e.mode).put TMP_LOG_ENT_start e.start).wr64 TMP_LOG_T_LO TMP_LOG_T_HI e.time

/-- Add an entry to the tamper log, newest first, and count an alarm. -/
def Dev.logTamper (e : TamperLog) (d : Dev) : Dev :=
  ({ d with key := { d.key with log := (e :: d.key.log).take 8 } } : Dev).logShow

/-- What fired with MAIN off or during the start enters the log and counts as an alarm now (R248). -/
def Dev.lateAlarm (d : Dev) : Dev :=
  let d := d.each d.key.waiting.reverse (fun e d => d.logTamper e)
  let d := if d.key.alarmWaits then (d.add TMP_COUNT_count 1).raise pgTMP 8 else d
  { d with key := { d.key with waiting := [], alarmWaits := false } }

/-- The response of an alarm at start-up, where a latch bit is set: sealed or erased (R248). -/
def Dev.lateRespond (d : Dev) : Dev :=
  if d.get TMP_LATCH_sensors = 0 then d else d.respond (d.flag TMP_STAT_erase_pend)

/-- ROOT_REGEN_ATTEMPT_DONE: an attempt on the cells as read; the start counter advances once in a regeneration; after the
third failure KEY never gets ready and a waiting alarm has its response now (R235, R236, R248). -/
def opRootAttempt (cells : List Byte) (d : Dev) : Dev :=
  if d.get KEY_STAT_root ≠ 1 then d
  else
    let att := d.get KEY_ROOT_att + 1
    let d := d.put KEY_ROOT_att att
    let d := if att = 1 then { d with key := { d.key with starts := (d.key.starts + 1) % 2 ^ 64 } } else d
    match d.rootTry cells with
    | some (rs, margin) =>
      let d := ((d.holdRoot rs).put KEY_STAT_root 2).put KEY_ROOT_margin margin
      if 8 < margin then d.raise pgKEY 10 else d
    | none =>
      if 3 ≤ att then
        let d := (d.put KEY_STAT_root 3).raise pgKEY 9
        if d.pw.optionsLoaded then d.lateAlarm.lateRespond else d
      else d

/-- The start check of one record slot. -/
def Dev.failSlot (f : RecordFail) (d : Dev) : Dev :=
  let x := d.krc (f.record % 1024)
  d.setKrc (f.record % 1024)
    (if f.slot1 then { x with s1 := { x.s1 with bad := true } } else { x with s0 := { x.s0 with bad := true } })

/-- Count the fallbacks and losses that the start check finds among the valid records. -/
def Dev.countRecs (d : Dev) : Dev :=
  d.each d.key.recs (fun e d =>
    if !e.2.valid || d.passes e.1 e.2.named (e.2.slot e.2.named) then d
    else if (d.inEffect e.1).isSome then (d.count KEY_REC_FALLBACK).raise pgKEY 11
    else (d.count KEY_REC_LOST).raise pgKEY 12)

/-- KEY_RECORD_CHECK_DONE: the record slots whose words read uncorrectable; the DRBG is seeded, by a healthy noise source;
what fired with MAIN off is handled as an alarm now, before KEY reports ready (R238, R243, R248). -/
def opRecordCheck (fails : List RecordFail) (healthy : Bool) (d : Dev) : Dev :=
  if d.get KEY_STAT_root ≠ 2 || d.flag KEY_STAT_ready || d.flag KEY_STAT_sealed || d.flag KEY_STAT_rng_ok ||
      d.running ⟨.reseed, 0, 0⟩ || !d.pw.optionsLoaded then d
  else
    let d := { d with key := { d.key with recs := d.key.recs.map (fun (e : Nat × KeyRec) =>
      (e.1, { e.2 with s0 := { e.2.s0 with bad := false }, s1 := { e.2.s1 with bad := false } })) } }
    let d := (d.each fails (fun (f : RecordFail) (d : Dev) => d.failSlot f)).countRecs
    let d := (if healthy then d.seed.put KEY_STAT_rng_ok 1 else d.rngFails).recShow
    let d := d.lateAlarm
    if d.get TMP_LATCH_sensors = 0 || d.get TMP_STAT_resp = 0 then d.keyReady true
    else d.lateRespond

/-! ### Tamper (R246 to R249) -/

def sensorBit : Sensor → Nat
  | .tampern => 0 | .mesh => 1 | .glitch => 2 | .temperature => 3 | .debug => 4

/-- Computations of the cipher bank are aborted: an ingress frame under verification and a copy in a staging buffer are
discarded, an egress frame that has started ends invalidly; each is counted (R232). -/
def Dev.autAbort (d : Dev) : Dev :=
  let under := d.vlt.frames.filter Frame.underCheck
  let sent := d.vlt.tx.filter (fun t => t.cv.isSome && !t.bad)
  let staged := d.vlt.drawn.filter (fun x => x.cv.isSome && decide (d.now < x.ready))
  if under.isEmpty && sent.isEmpty && staged.isEmpty then d
  else
    let mark (c : Option Nat) (d : Dev) : Dev := match c with
      | some c => d.ctxCount c 11
      | none => d
    let d := d.each under (fun f d => (mark f.checkCtx d).dropArriving f.id)
    let d := d.each sent (fun t d => (mark t.cv d).swapTx t { t with bad := true })
    let d := d.each staged (fun x d => d.dropDraw (mark x.cv) x)
    d.raise pgAUT 16

/-- The alarm: key operations end with TAMPER, nothing more is written, the cipher bank aborts, then the response. -/
def Dev.tamperAlarm (d : Dev) : Dev :=
  let d := ((d.keyAbort ksTamper).autAbort.add TMP_COUNT_count 1).raise pgTMP 8
  d.respond true

/-- TAMPER_SENSOR_FIRE. Sensors 2 to 4 run with MAIN powered; with MAIN off, or before KEY is ready at a start, the alarm
waits for the start check. -/
def opTamperFire (sensor : Sensor) (d : Dev) : Dev :=
  let b := sensorBit sensor
  if d.pw.base = .off || !bitAt (d.get TMP_EN_sensors) b || (decide (2 ≤ b) && !d.pw.main) || bitAt (d.get TMP_LATCH_sensors) b then d
  else
    let was := d.get TMP_LATCH_sensors
    let d := (d.put TMP_LATCH_sensors (setBitTo was b true)).put TMP_STAT_alarm 1
    let e : TamperLog := { aon := !d.pw.main || d.tim.released.isNone, sensors := 2 ^ b, mode := d.mode, start := d.key.starts % 65536,
                           time := if d.pw.main && d.tim.released.isSome then d.ns else d.aonUs }
    let failed := d.get KEY_STAT_root == 3 && d.pw.optionsLoaded
    if !d.pw.main || d.pw.losing || (!d.flag KEY_STAT_ready && !d.flag KEY_STAT_sealed && !failed) then
      let d := { d with key := { d.key with waiting := e :: d.key.waiting, alarmWaits := d.key.alarmWaits || was == 0 } }
      let noErase := d.pw.main && d.pw.optionsLoaded && decide (d.get TMP_STAT_resp < 2)
      if was = 0 && !noErase then d.put TMP_STAT_erase_pend 1 else d
    else
      let d := d.logTamper e
      if was = 0 then d.tamperAlarm else d

/-- TAMPER_ERASE_DONE: the selectors are empty, and the sealed state is left (Table 11-7). -/
def opEraseDone (d : Dev) : Dev :=
  d.endTimer ⟨.tmpErase, 0, 0⟩ (fun d =>
    let d := d.each d.key.recs (fun e d => d.setKrc e.1 { e.2 with sel := 0 })
    ((d.put KEY_STAT_sealed 0).recShow.keyReady (d.get KEY_STAT_root == 2)).raise pgTMP 9)

/-- TAMPER_ENABLE: bits are set by writing 1 (R247). -/
def opTamperEnable (i : Initiator) (v : Word) (d : Dev) : Dev :=
  d.access i (fun d => d.put TMP_EN_sensors (Nat.lor (d.get TMP_EN_sensors) (bitsOf v 4 0)))

/-- TAMPER_LATCH_CLEAR (R249). -/
def opLatchClear (i : Initiator) (v : Word) (d : Dev) : Dev :=
  d.access i (fun d =>
    if d.get TMP_STAT_resp ≠ 0 then d.ignoredErr pgTMP i 0x104 v.toNat
    else
      let left := ((List.range 5).filter (fun b => bitAt (d.get TMP_LATCH_sensors) b && !v.getLsbD b)).foldl (fun n b => n + 2 ^ b) 0
      let cleared := left ≠ d.get TMP_LATCH_sensors
      let d := (d.put TMP_LATCH_sensors left).put TMP_STAT_alarm (if left = 0 then 0 else 1)
      let d := if left = 0 then d.put TMP_STAT_erase_pend 0 else d
      if cleared then d.raise pgTMP 10 else d)

/-! ### The signature-check unit (R250, R251) -/

/-- The halves of a 24-word array by curve. -/
def halves (curve : Bool) (w : List Byte) : List Byte := if curve then w else w.take 32 ++ (w.drop 48).take 32

/-- SIG_GO: `data` what host memory holds at `DATA`, where `DATA` lies in the host window. -/
def opSigGo (i : Initiator) (data : List Byte) (d : Dev) : Dev :=
  d.writeMixed i pgSIG 0x100 1 (fun _ d =>
    if d.sigBusy then d.ignoredErr pgSIG i 0x100 1
    else
      let curve := d.flag SIG_CTL_curve
      let n := d.get SIG_DATA_LEN_bytes
      let s : SigOp :=
        { curve := curve, hash := d.flag SIG_CTL_hash, addr := d.rd64 SIG_DATA_LO SIG_DATA_HI,
          anchor := if d.flag SIG_CTL_anchor then some (d.get SIG_CTL_slot) else none,
          len := n, data := d.dataAt (d.rd64 SIG_DATA_LO SIG_DATA_HI) n data,
          digest := (d.wordBytes SIG_DIG 12).take (if curve then 48 else 32),
          q := halves curve (d.wordBytes SIG_Q 24), sig := halves curve (d.wordBytes SIG_SG 24) }
      let d := { d with key := { d.key with sig := some s } }
      let t := (if s.hash then nsT n else 0) + usT (if curve then 800 else 350)
      (d.put SIG_CTL_go 1).armIn ⟨.sigOp, 0, 0⟩ t)

/-- The result of a verification (Table 11-8), and the digest computed. -/
def Dev.sigResult (d : Dev) (s : SigOp) (ue : Bool) : Nat × Option (List Byte) :=
  let a := match s.anchor with
    | some k => some (NMap.get ({} : Anchor) d.key.anchors k)
    | none => none
  let curveBad := match a with
    | some a => a.valid && a.curve != s.curve
    | none => false
  if (s.hash && s.len == 0) || curveBad then (5, none)
  else if s.hash && ue then (4, none)
  else
    let dig := if s.hash then sha s.curve s.data else s.digest
    let out := if s.hash then some dig else none
    let keyOk := match a with
      | some a => anchorTakes a s.q
      | none => true
    if !keyOk then (3, out) else (if ecdsaValid s.curve s.q dig s.sig then 1 else 2, out)

/-- SIG_DONE: `ue` the byte of the hashed data at which an uncorrectable word is met. -/
def opSigDone (ue : Option Nat) (d : Dev) : Dev :=
  match d.key.sig with
  | none => d
  | some s => d.endTimer ⟨.sigOp, 0, 0⟩ (fun d =>
    let (r, dig) := d.sigResult s ue.isSome
    let d := { d with key := { d.key with sig := none } }
    let d := match ue with
      | some n => if r = 4 then d.memUe (s.addr + n % s.len) else d
      | none => d
    let d := match dig with
      | some bs => d.putBytes SIG_DIG 12 bs
      | none => d
    let d := (d.put SIG_STAT_result r).put SIG_CTL_go 0
    d.raise pgSIG (if r = 4 then 9 else 8))

/-- Show the selected anchor slot. -/
def Dev.anchShow (d : Dev) : Dev :=
  let a := NMap.get {} d.key.anchors (d.get SIG_ANCH_SEL_slot)
  let b (x : Bool) : Nat := if x then 1 else 0
  let d := ((d.put SIG_ANCH_CTL_valid (b a.valid)).put SIG_ANCH_CTL_revoked (b a.revoked)).put SIG_ANCH_CTL_purpose a.purpose
  (d.put SIG_ANCH_CTL_curve (b a.curve)).putBytes SIG_ANCH_DIG 12 a.digest

def Dev.setAnchor (k : Nat) (a : Anchor) (d : Dev) : Dev :=
  ({ d with key := { d.key with anchors := NMap.set {} d.key.anchors k a } } : Dev).anchShow

/-- ANCH_WRITE: an empty slot while provisioning is open. -/
def opAnchWrite (i : Initiator) (purpose : Nat) (d : Dev) : Dev :=
  d.access i (fun d =>
    let k := d.get SIG_ANCH_SEL_slot
    if (NMap.get ({} : Anchor) d.key.anchors k).valid || !d.flag KEY_STAT_prov then d.ignoredErr pgSIG i 0x308 (1 + purpose % 4 * 16)
    else
      let curve := d.flag SIG_CTL_curve
      let revoked := (NMap.get ({} : Anchor) d.key.anchors k).revoked
      d.setAnchor k { valid := true, revoked := revoked, purpose := purpose % 4, curve := curve,
                      digest := sha true (d.sigKey curve) })

/-- ANCH_REVOKE: not of the last unrevoked image anchor. -/
def opAnchRevoke (i : Initiator) (d : Dev) : Dev :=
  d.access i (fun d =>
    let k := d.get SIG_ANCH_SEL_slot
    let a := NMap.get ({} : Anchor) d.key.anchors k
    let image (a : Anchor) : Bool := a.valid && !a.revoked && a.purpose == 0
    if image a && !d.key.anchors.any (fun e => e.1 != k && image e.2) then d.ignoredErr pgSIG i 0x308 2
    else d.setAnchor k { a with revoked := true })

/-! ### Unit resets (R233, R244, R254) -/

def Dev.keyReset (d : Dev) : Dev := d.keyAbort ksUnitReset

def Dev.sigReset (d : Dev) : Dev :=
  if d.key.sig.isSome then
    ((({ d with key := { d.key with sig := none } } : Dev).cancel ⟨.sigOp, 0, 0⟩).put SIG_STAT_result 0).put SIG_CTL_go 0
  else d

/-! ### The meanings of the commands of this file -/

/-- ROOT_REGEN_ATTEMPT_DONE (R235). -/
def execRootRegenAttemptDone (cells : List Byte) (s : State) : Host.Outcome State Fault Refusal :=
  effect (opRootAttempt cells) s

/-- KEY_RECORD_CHECK_DONE (R238). -/
def execKeyRecordCheckDone (fails : List RecordFail) (healthy : Bool) (s : State) : Host.Outcome State Fault Refusal :=
  effectIf (fails.all RecordFail.wf) (opRecordCheck fails healthy) s

/-- IMPORT_PLAIN (R241). -/
def execImportPlain (i : Initiator) (s : State) : Host.Outcome State Fault Refusal :=
  effect (opImportPlain i) s

/-- IMPORT_WRAPPED (R241). -/
def execImportWrapped (i : Initiator) (s : State) : Host.Outcome State Fault Refusal :=
  effect (opImportWrapped i) s

/-- LOAD (R241). -/
def execLoad (i : Initiator) (s : State) : Host.Outcome State Fault Refusal :=
  effect (opLoad i) s

/-- DERIVE (R240). -/
def execDerive (i : Initiator) (s : State) : Host.Outcome State Fault Refusal :=
  effect (opDerive i) s

/-- UNWRAP (R241). -/
def execUnwrap (i : Initiator) (s : State) : Host.Outcome State Fault Refusal :=
  effect (opUnwrap i) s

/-- WRAP (R240). -/
def execWrap (i : Initiator) (s : State) : Host.Outcome State Fault Refusal :=
  effect (opWrap i) s

/-- CMAC (R240). -/
def execCmac (i : Initiator) (data : List Byte) (s : State) : Host.Outcome State Fault Refusal :=
  effect (opCmac i data) s

/-- GENERATE (R243). -/
def execGenerate (i : Initiator) (s : State) : Host.Outcome State Fault Refusal :=
  effect (opGenerate i) s

/-- RANDOM (R243). -/
def execRandom (i : Initiator) (s : State) : Host.Outcome State Fault Refusal :=
  effect (opRandom i) s

/-- ZERO (R240). -/
def execZero (i : Initiator) (s : State) : Host.Outcome State Fault Refusal :=
  effect (opZero i) s

/-- TOKEN (R245). -/
def execToken (i : Initiator) (s : State) : Host.Outcome State Fault Refusal :=
  effect (opToken i) s

/-- KEY_BAD_OP (R240). -/
def execKeyBadOp (i : Initiator) (op : Nat) (s : State) : Host.Outcome State Fault Refusal :=
  effectIf ((op == 0 || (decide (12 ≤ op) && decide (op < 16)))) (opKeyBad i op) s

/-- KEY_OP_DONE (R244). -/
def execKeyOpDone (ue : Option KeyUe) (s : State) : Host.Outcome State Fault Refusal :=
  effect (opKeyDone ue) s

/-- PROV_CLOSE (R245). -/
def execProvClose (i : Initiator) (s : State) : Host.Outcome State Fault Refusal :=
  effect (opProvClose i) s

/-- DRBG_RESEED (R243). -/
def execDrbgReseed (healthy : Bool) (s : State) : Host.Outcome State Fault Refusal :=
  effect (opReseed healthy) s

/-- MASK_RENEW (R239). -/
def execMaskRenew (s : State) : Host.Outcome State Fault Refusal :=
  effect opMaskRenew s

/-- TAMPER_SENSOR_FIRE (R246). -/
def execTamperSensorFire (sensor : Sensor) (s : State) : Host.Outcome State Fault Refusal :=
  effect (opTamperFire sensor) s

/-- TAMPER_ERASE_DONE (R247). -/
def execTamperEraseDone (s : State) : Host.Outcome State Fault Refusal :=
  effect opEraseDone s

/-- TAMPER_ENABLE (R247). -/
def execTamperEnable (i : Initiator) (v : Word) (s : State) : Host.Outcome State Fault Refusal :=
  effect (opTamperEnable i v) s

/-- TAMPER_LATCH_CLEAR (R249). -/
def execTamperLatchClear (i : Initiator) (v : Word) (s : State) : Host.Outcome State Fault Refusal :=
  effect (opLatchClear i v) s

/-- SIG_GO (R250). -/
def execSigGo (i : Initiator) (data : List Byte) (s : State) : Host.Outcome State Fault Refusal :=
  effect (opSigGo i data) s

/-- SIG_DONE (R250). -/
def execSigDone (ue : Option Nat) (s : State) : Host.Outcome State Fault Refusal :=
  effect (opSigDone ue) s

/-- ANCH_WRITE (R251). -/
def execAnchWrite (i : Initiator) (purpose : Nat) (s : State) : Host.Outcome State Fault Refusal :=
  effectIf (decide (purpose < 4)) (opAnchWrite i purpose) s

/-- ANCH_REVOKE (R251). -/
def execAnchRevoke (i : Initiator) (s : State) : Host.Outcome State Fault Refusal :=
  effect (opAnchRevoke i) s

end Sys2Proof.Machine
end

