-- ==== Sys2Proof/Machine/Clear.lean ====
section
/-!
DEFINITION. What a reset of class P or D clears (Table 17-1): every MAIN unit returns to its reset state; the always-on
domain keeps its own under class D, and MRAM its content under both.
-/

namespace Sys2Proof.Machine

/-- A register after a reset: the fields kept at least to `lvl` keep their values (1 the always-on domain, 2 MRAM). -/
def RegRow.cleared (r : RegRow) (lvl : Nat) (v : Word) : Word :=
  BitVec.ofNat 32 (r.flds.foldl (fun n f => n + (if lvl ≤ f.keep then bitsOf v f.hi f.lo else f.rst) * 2 ^ f.lo) 0)

/-- The shadow of a register after a reset: every shadow equals its live field (R45). -/
def RegRow.shadowOf (r : RegRow) (v : Word) : Word :=
  BitVec.ofNat 32 (r.flds.foldl (fun n f => n + (if f.acc = .rws then bitsOf v f.hi f.lo else f.rst) * 2 ^ f.lo) 0)

/-- Clear one register and its shadow. -/
def Dev.clearReg (lvl : Nat) (e : Nat × Word) (m : NMap Word) : NMap Word :=
  match liveRow e.1 with
  | none => m
  | some r =>
    if r.flds.all (fun f => decide (f.keep < lvl)) then m
    else
      let v := r.cleared lvl e.2
      let m := NMap.set (resetValue e.1) m e.1 v
      if r.hasRWS then NMap.set (resetValue (e.1 + 0x800)) m (e.1 + 0x800) (r.shadowOf v) else m

/-- The registers after a reset that keeps fields to `lvl`. -/
def clearRegs (lvl : Nat) (m : NMap Word) : NMap Word := m.foldl (fun acc e => Dev.clearReg lvl e acc) []

/-- The timers that the always-on domain runs: they outlive MAIN. -/
def aonTimer (t : Timer) : Bool :=
  match t.kind with
  | .supenOff | .mainDark | .listen | .railsValid | .mainOff | .journal | .dieTemp | .refCheck | .wakenPin => true
  | _ => false

/-- The levels of the HOLD_I input pins outlast a reset: the register shows the pin (R335). -/
def Dev.holdPins (old d : Dev) : Dev :=
  d.each (List.range 4) (fun n d => d.put (VHL_STAT_hold_i n) (old.get (VHL_STAT_hold_i n)))

/-- Every MAIN unit is cleared; with `lvl` 2 the always-on domain as well. Fabric memory below the MRAM window, the braces'
TCM, reads zero (R293). Tamper entries that wait for the next start are kept (R387). -/
def Dev.clearMain (lvl : Nat) (d : Dev) : Dev :=
  let d := d.keyStops
  let k := d.key
  d.holdPins { d with
    regs := clearRegs lvl d.regs
    mem := d.mem.filter (fun c => decide (0x80000000 ≤ c.1))
    timers := d.timers.filter (fun e => decide (lvl = 1) && aonTimer e.1)
    pgs := []
    aut := Aut.init, bus := Bus.init, brc := Braces.init, eth := Eth.init, fwd := Fwd.init, kal := Kal.init
    sys := Sys.init, tim := Tim.init, trm := Trm.init, vlt := Vault.init, voh := Voh.init, upd := Update.init
    hbr := { Hbr.init with perst := d.hbr.perst, waken := decide (lvl = 1) && d.hbr.waken }
    ecc := { Integrity.init with macros := d.ecc.macros, clearRec := d.ecc.clearRec }
    key := { k with hold := [], op := none, sig := none, requests := 0, touched := [],
                    drbg := {}, rs := [], kek := [], kmk := [], msk := [] }
    wak := if lvl = 1 then { d.wak with asleepPages := [], lastAct := [], seq := 0, aside := none, sent := [], holdOff := 0,
                                        blocked := d.now }
           else { Wak.init with pins := d.wak.pins, blocked := d.now }
    pw := { d.pw with halted := false, updating := false, settling := false, optionsLoaded := false, filled := false,
                      secondCheck := false, imageGood := false, tablesGood := false, bracesOut := false,
                      optionsFree := false, goodSeen := false, faultn := false, readyUp := false, hotSince := none,
                      lockLost := none } }

end Sys2Proof.Machine
end

