-- ==== Sys2Proof/Machine/Sleep.lean ====
section
/-!
DEFINITION. Wake, sleep and partial networking (chapter 12): wake detectors and the wake decision, the Pack consent ring,
the sleep commit, and the wakes of segments.
-/

namespace Sys2Proof.Machine

/-! ### Local consent (R261) -/

/-- The segments of a sleep set: set 0 means every segment. -/
def Dev.setSegs (d : Dev) (s : Nat) : List Nat := if s = 0 then List.range 15 else maskList 15 (d.get (WAK_SET_MAP_segs s))

/-- A port has received and sent no frame for a time in ms. -/
def Dev.idle (d : Dev) (p ms : Nat) : Bool :=
  let t := NMap.get 0 d.wak.lastAct p
  t == 0 || decide (t - 1 + msT ms ≤ d.now)

/-- The ports of a set have been idle for their idle time and `more` ms. -/
def Dev.portsIdle (d : Dev) (s more : Nat) : Bool :=
  segPorts.all (fun p =>
    let g := d.segCode p
    if g < 15 then !(d.setSegs s).contains g || d.idle p (d.get (WAK_SEG_CFG_idle_ms g) + more)
    else s != 0 || d.idle p (d.get WAK_UNSEG_IDLE_ms + more))

/-- No enabled wake pin of the set's segments is active; for set 0 none at all. -/
def Dev.pinsQuiet (d : Dev) (s : Nat) : Bool :=
  (List.range 8).all (fun n =>
    !(d.flag (WAK_WK_CFG_en n) && bitAt d.wak.pins n) ||
    (s != 0 && !(d.flag (WAK_WK_CFG_seg_v n) && (d.setSegs s).contains (d.get (WAK_WK_CFG_seg n)))))

/-- No segment of the set is held awake by `KEEP`. -/
def Dev.notKept (d : Dev) (s : Nat) : Bool :=
  (d.setSegs s).all (fun g => !bitAt (d.get WAK_KEEP_host) g && !bitAt (d.get WAK_KEEP_brace) g)

/-- The device consents to sleep set s. -/
def Dev.consents (d : Dev) (s : Nat) : Bool :=
  d.portsIdle s 0 && d.pinsQuiet s && d.notKept s && !d.pw.updating && decide (d.pw.base ≠ .kennel)

/-- The value of `CONSENT_LO` (h = 0) and `CONSENT_HI` (h = 1). -/
def Dev.consentWord (d : Dev) (h : Nat) : Word :=
  BitVec.ofNat 32 ((List.range 32).foldl (fun n i => n + if d.consents (32 * h + i) then 2 ^ i else 0) 0)

/-- Consent to the set of automatic rounds is kept away by a pin, by `KEEP`, or by Update: the hold of `CONS_IDLE` starts
again (R263). -/
def Dev.seeHold (d : Dev) : Dev :=
  let s := d.get WAK_CONS_CFG_auto_set
  if d.pinsQuiet s && d.notKept s && !d.pw.updating then d else { d with wak := { d.wak with blocked := d.now } }

/-- The enabled wake pins that are active, as seen now. -/
def Dev.seePins (pins : Nat) (d : Dev) : Dev :=
  let d := d.seeHold
  ({ d with wak := { d.wak with pins := pins % 256 } } : Dev).seeHold

/-! ### The consent ring (R262 to R266) -/

/-- This device is the origin of the open round. -/
def Dev.isOrigin (d : Dev) : Bool := d.phase != 0 && d.get WAK_CONS_ORG_origin == d.ownId

/-- A token belongs to the open round. -/
def Dev.ofRound (d : Dev) (t : Token) : Bool :=
  d.phase != 0 && t.origin == d.get WAK_CONS_ORG_origin && t.seq == d.get WAK_CONS_STAT_seq

def Dev.wakCount (i : Nat) (d : Dev) : Dev := d.count (WAK_CONS_CNT i)

/-- The next device of the ring: the lowest ID above this device's that has a path entry, else the lowest (R262). -/
def Dev.nextOfRing (d : Dev) : Option Nat :=
  let ids := ((d.voh.paths.filter (fun e => nbit e.2 31 && e.1 != d.ownId)).map (·.1))
  let above := ids.filter (fun i => decide (d.ownId < i))
  (if above.isEmpty then ids else above).min?

/-- A PROPOSE or COMMIT goes to the next device of the ring; with no link up it returns inside the device, as link 8. -/
def Dev.passOn (t : Token) (d : Dev) : Dev :=
  let t := { t with sender := d.ownId }
  if d.upLinks.isEmpty then d.emit (.token 8 t)
  else
    match d.nextOfRing with
    | none => d
    | some n =>
      match d.pathCode n with
      | (some c, d) => (d.countCtl c).emit (.token c t)
      | (none, d) => d

/-- No round is open. -/
def Dev.closeRound (d : Dev) : Dev :=
  let d := (((d.wr WAK_CONS_STAT 0).wr WAK_CONS_ORG 0).wr64 WAK_CONS_T_LO WAK_CONS_T_HI 0).cancel ⟨.consTmo, 0, 0⟩
  ({ d with pw := { d.pw with settling := false } } : Dev).syncMode

/-- After a veto the origin waits a further `CONS_IDLE` before another automatic round. -/
def Dev.vetoed (d : Dev) : Dev :=
  let d := if d.isOrigin then
      { d with wak := { d.wak with holdOff := d.now + msT (d.get WAK_CONS_IDLE_ms) } }
    else d
  d.closeRound

/-- A VETO of a round on every link that is up (R265). -/
def Dev.sendVeto (set_ origin seq : Nat) (d : Dev) : Dev :=
  let d := (d.wakCount 2).raise pgWAK 10
  d.tokenOnce { type := 3, set_ := set_, origin := origin, seq := seq, count := 0, sender := d.ownId, t := d.ns } none

/-- This device vetoes the open round. -/
def Dev.veto (d : Dev) : Dev :=
  (d.sendVeto (d.get WAK_CONS_STAT_set) (d.get WAK_CONS_ORG_origin) (d.get WAK_CONS_STAT_seq)).vetoed

/-- A wake before T (R265). -/
def Dev.wakeSeen (d : Dev) : Dev := if d.phase = 0 || d.pw.halted then d else d.veto

/-- The device enters a round and Settle (R263). -/
def Dev.enterRound (set_ origin seq count : Nat) (d : Dev) : Dev :=
  let d := ((d.put WAK_CONS_STAT_seq seq).put WAK_CONS_STAT_set set_).put WAK_CONS_STAT_count count
  let d := ((d.put WAK_CONS_STAT_phase 1).put WAK_CONS_ORG_origin origin).armIn ⟨.consTmo, 0, 0⟩
    (msT (d.get WAK_CONS_TMO_ms))
  let d := { d with wak := { d.wak with sent := d.wak.sent.filter (fun e => !(e.2.1 == origin && e.2.2 == seq)) } }
  let d := { d with pw := { d.pw with settling := true } }
  ((d.wakCount 0).raise pgWAK 8).syncMode

/-- The device may enter Settle (Table 1-7). -/
def Dev.maySettle (d : Dev) : Bool := decide (d.pw.base = .service) && !d.pw.updating && !d.pw.halted

/-- A round starts at its origin. -/
def Dev.startRound (s : Nat) (d : Dev) : Dev :=
  let q := (d.wak.seq + 1) % 256
  let d := { d with wak := { d.wak with seq := q } }
  if !d.consents s then d.sendVeto s d.ownId q
  else (d.enterRound s d.ownId q 1).passOn { type := 1, set_ := s, origin := d.ownId, seq := q, count := 1, sender := 0, t := 0 }

/-- CONSENT_ROUND_START: `CONS_CMD` 1. -/
def opRoundStart (i : Initiator) (set : SleepSet) (pins : Nat) (d : Dev) : Dev :=
  d.access i (fun d =>
    let d := d.seePins pins
    if !d.ringRuns || !d.flag WAK_CONS_CFG_init then d
    else if d.phase != 0 || !d.maySettle then d.rejectTrig 0x0B
    else d.startRound set)

/-- CONSENT_VETO_CMD: `CONS_CMD` 2. -/
def opVetoCmd (i : Initiator) (d : Dev) : Dev :=
  d.access i (fun d => if !d.ringRuns then d else if d.phase = 0 then d.rejectTrig 0x0C else d.veto)

/-- AUTO_ROUND_START: consent to `auto_set` has held for `CONS_IDLE` with no round open. -/
def opAutoRound (pins : Nat) (d : Dev) : Dev :=
  let d := d.seePins pins
  let s := d.get WAK_CONS_CFG_auto_set
  if d.ringRuns && d.flag WAK_CONS_CFG_init && d.flag WAK_CONS_CFG_auto && d.phase == 0 && d.maySettle && d.consents s &&
      d.portsIdle s (d.get WAK_CONS_IDLE_ms) && decide (d.wak.holdOff ≤ d.now) &&
      decide (d.wak.blocked + msT (d.get WAK_CONS_IDLE_ms) ≤ d.now) then d.startRound s
  else d

/-- PROPOSE returns to its origin (R264). -/
def Dev.proposeBack (t : Token) (d : Dev) : Dev :=
  let d := d.put WAK_CONS_STAT_count t.count
  if t.count = d.get WAK_CONS_CFG_ring_n then
    let at_ := d.ns + d.get WAK_CONS_TIM_lead_ms * 1000000
    let d := ((d.put WAK_CONS_STAT_phase 2).wr64 WAK_CONS_T_LO WAK_CONS_T_HI at_).cancel ⟨.consTmo, 0, 0⟩
    (d.wakCount 1).passOn { t with type := 2, count := 0, t := at_ }
  else (d.wakCount 7).veto

/-- The device joins a round that another device proposes, or vetoes it. -/
def Dev.join (t : Token) (d : Dev) : Dev :=
  if !d.consents t.set_ then d.sendVeto t.set_ t.origin t.seq
  else if !d.maySettle then (d.rejectTrig 0x0B).sendVeto t.set_ t.origin t.seq
  else (d.enterRound t.set_ t.origin t.seq (t.count + 1)).passOn { t with count := t.count + 1 }

/-- The device leaves its round for one of a lower origin; its own round ends at its time-out (R263). -/
def Dev.setAside (d : Dev) : Dev :=
  let own := d.isOrigin
  let rest := (d.due ⟨.consTmo, 0, 0⟩).getD d.now
  let round := (d.get WAK_CONS_STAT_set, d.get WAK_CONS_STAT_seq)
  let d := d.closeRound
  if own then ({ d with wak := { d.wak with aside := some round } } : Dev).arm ⟨.consTmo, 1, 0⟩ rest else d

/-- PROPOSE_RECEIVED. -/
def opPropose (t : Token) (pins : Nat) (d : Dev) : Dev :=
  let d := d.seePins pins
  if !d.ringRuns then d
  else if t.origin = d.ownId then (if d.ofRound t && d.phase == 1 then d.proposeBack t else d)
  else if d.phase = 0 then d.join t
  else if d.ofRound t then d
  else
    let d := d.wakCount 5
    if t.origin < d.get WAK_CONS_ORG_origin then d.setAside.join t else d

/-- COMMIT_TOKEN_RECEIVED (R264). -/
def opCommitToken (t : Token) (d : Dev) : Dev :=
  if !d.ringRuns || !d.ofRound t then d
  else if d.isOrigin then
    (if d.phase = 2 ∧ d.ns + d.get WAK_CONS_TIM_guard_us * 1000 ≤ d.sleepT then (d.put WAK_CONS_STAT_phase 3).raise pgWAK 9 else d)
  else if d.phase = 1 then
    let d := ((d.put WAK_CONS_STAT_phase 2).wr64 WAK_CONS_T_LO WAK_CONS_T_HI t.t).cancel ⟨.consTmo, 0, 0⟩
    (d.wakCount 1).passOn t
  else d

/-- A token names the round of the last sleep commit, which put segments to sleep (R265). -/
def Dev.ofSleep (d : Dev) (t : Token) : Bool :=
  d.get WAK_SLEEP_REC_set != 0 && t.origin == d.get WAK_SLEEP_REC_origin && t.seq == d.get WAK_SLEEP_REC_seq &&
    d.get WAK_SEG_STAT_asleep != 0

/-- Wake every segment of a set. -/
def Dev.wakeSet (s : Nat) (d : Dev) : Dev := d.each (d.setSegs s) Dev.segWake

/-- VETO_RECEIVED. -/
def opVetoToken (t : Token) (d : Dev) : Dev :=
  if !d.ringRuns || d.wak.sent.contains (3, t.origin, t.seq) then d
  else
    let d := (d.wakCount 3).tokenOnce { t with sender := d.ownId, t := d.ns } none
    if d.ofRound t then (d.raise pgWAK 10).vetoed
    else if d.ofSleep t then (d.wakCount 6).wakeSet (d.get WAK_SLEEP_REC_set)
    else if d.wak.aside.isSome && t.origin == d.ownId then
      ({ d with wak := { d.wak with aside := none } } : Dev).cancel ⟨.consTmo, 1, 0⟩
    else d

/-- WAKE_TOKEN_RECEIVED. -/
def opWakeToken (t : Token) (d : Dev) : Dev :=
  if !d.ringRuns || d.wak.sent.contains (4, t.origin, t.seq) then d
  else
    let late := d.ofSleep t
    let d := d.tokenOnce { t with sender := d.ownId, t := d.ns } none
    (if late then d.wakCount 6 else d).wakeSet (t.set_ % 64)

/-- COMMIT_GUARD_EXPIRY: COMMIT has not returned at T − `guard_us`. -/
def opCommitGuard (d : Dev) : Dev :=
  if d.ringRuns && d.isOrigin && d.phase == 2 then (d.atNs (d.sleepT - d.get WAK_CONS_TIM_guard_us * 1000)).veto else d

/-- CONS_TIMEOUT: neither COMMIT nor VETO within `CONS_TMO`; the round this device left for another ends first. -/
def opConsTimeout (d : Dev) : Dev :=
  match d.wak.aside with
  | some (s, q) =>
    d.onTimer ⟨.consTmo, 1, 0⟩ (fun d =>
      let d := { d with wak := { d.wak with aside := none } }
      ((d.wakCount 4).raise pgWAK 13).sendVeto s d.ownId q)
  | none => d.onTimer ⟨.consTmo, 0, 0⟩ (fun d => ((d.wakCount 4).raise pgWAK 13).veto)

/-- LOCAL_CONSENT_LOST. -/
def opConsentLost (pins : Nat) (d : Dev) : Dev :=
  let d := d.seePins pins
  if d.ringRuns && d.phase != 0 && !d.consents (d.get WAK_CONS_STAT_set) then d.veto else d

/-! ### The sleep commit (R267, R268) -/

/-- The record of a sleep commit. -/
def Dev.sleepRecord (d : Dev) : Dev :=
  let t := d.sleepT
  let d := ((d.put WAK_SLEEP_REC_set (d.get WAK_CONS_STAT_set)).put WAK_SLEEP_REC_origin
    (d.get WAK_CONS_ORG_origin)).put WAK_SLEEP_REC_seq (d.get WAK_CONS_STAT_seq)
  d.wr64 WAK_SLEEP_T_LO WAK_SLEEP_T_HI t

/-- The CAN frames in transmission end. -/
def Dev.endCanTx (l : List CanCh) (d : Dev) : Dev := d.each l (fun ch d => opCanTxDone ch d)

/-- The SUPEN outputs that follow the device or a segment: they go on at the next wake decision. -/
def Dev.followers (d : Dev) : List Nat :=
  (List.range 8).filter (fun n => d.get (PWR_SUPEN_CFG_mode n) == 1 || d.get (PWR_SUPEN_CFG_mode n) == 2)

/-- MAIN goes off: everything in it is lost; what remains is the always-on domain's. -/
def Dev.mainOff (b : Base) (d : Dev) : Dev :=
  let d := d.clearMain 1
  let d := { d with pw := { d.pw with base := b, main := false, rails := false, asserted := false, thermal := false } }
  let d := (d.cancel ⟨.dieTemp, 0, 0⟩).cancel ⟨.refCheck, 0, 0⟩
  (({ d with wak := { d.wak with offAt := d.now, held := none } } : Dev).put PWR_MAIN_STAT_main 0).put PWR_MAIN_STAT_listen 0

/-- The bit timings that the Listen decoders use (R260). -/
def Dev.copyTimings (d : Dev) : Dev :=
  let l := (List.range 24).map (fun ch => (ch, (d.canUse ch 1).toNat)) ++
    (List.range 8).map (fun ch => (24 + ch, d.get (LIN_CFG_baud ch)))
  { d with wak := { d.wak with timings := l.foldl (fun m e => NMap.set 0 m e.1 e.2) [] } }

/-- The timing that a Listen decoder runs at: as copied at the last sleep commit, and after a class P reset as the channel's
registers reset, 500 kb/s with an 80 % sample point and 19,200 b/s (R260). -/
def Dev.listenTiming (d : Dev) (chan : Nat) : Nat :=
  let v := NMap.get 0 d.wak.timings chan
  if v ≠ 0 then v else if chan < 24 then (resetValue (CAN_NBT chan)).toNat else bitsOf (resetValue (LIN_CFG (chan - 24))) 30 16

/-- SLEEP_COMMIT_DEVICE. -/
def opSleepDevice (d : Dev) : Dev :=
  if !(d.sleepArmed && d.get WAK_CONS_STAT_set == 0) || !d.turn (d.turnAt .sleepCommit d.sleepT) then d
  else
    let d := d.atNs d.sleepT
    let d := d.endCanTx (List.finRange 24)
    let l := d.followers
    let d := d.each l Dev.supenDelay
    let d := { d with wak := { d.wak with follow := l.foldl (fun n i => n + 2 ^ i) 0 } }
    let d := d.copyTimings.sleepRecord.put WAK_WSR_SEEN_src 0
    let d := d.closeRound.mainOff .dormant
    d.armIn ⟨.mainDark, 0, 0⟩ (msT 1)

/-- An Ethernet port falls asleep: the link falls and the PHY goes silent, with no hold time (R268). -/
def Dev.ethSleep (p : Nat) (d : Dev) : Dev :=
  let drained := d.drains p
  let d := ((d.cancel ⟨.train, p, 0⟩).ethDown p).cancel ⟨.linkHold, p, 0⟩
  if drained then d else d.drainOff p

/-- A port falls asleep (R268). -/
def Dev.portSleep (p g : Nat) (d : Dev) : Dev :=
  let d := if p < 57 then d.ethSleep p
    else if p < 88 then
      let ch := p - 64
      let d := if h : ch < 24 then opCanTxDone ⟨ch, h⟩ d else d
      (d.canReturn ch false).put (CAN_STAT_busy ch) 0
    else (d.linReturn (p - 88)).setLinAwait (p - 88) none
  let d := { d with wak := { d.wak with asleepPages := d.wak.asleepPages ++ (portPages p).map (fun pg => (pg, g)) } }
  d.each (portPages p) (fun pg d =>
    let d := d.refreshPg pg
    if d.get (PG_STATE_iso pg) = 1 then d.setIso pg 2 else d)

/-- A segment falls asleep. -/
def Dev.segSleep (g : Nat) (d : Dev) : Dev :=
  if bitAt (d.get WAK_SEG_STAT_asleep) g then d
  else
    let d := d.each (segPorts.filter (fun p => d.segCode p == g)) (fun p d => d.portSleep p g)
    let d := d.put WAK_SEG_STAT_asleep (setBitTo (d.get WAK_SEG_STAT_asleep) g true)
    (d.each (d.segSupens g) Dev.supenDelay).raise pgWAK 11

/-- SLEEP_COMMIT_SET. -/
def opSleepSet (d : Dev) : Dev :=
  if !(d.sleepArmed && d.get WAK_CONS_STAT_set != 0) || !d.turn (d.turnAt .sleepCommit d.sleepT) then d
  else
    let d := (d.atNs d.sleepT).sleepRecord
    let segs := d.setSegs (d.get WAK_CONS_STAT_set)
    (d.closeRound.each segs Dev.segSleep).syncMode

/-! ### Wake detection (R258 to R260) -/

/-- The detector is enabled (Table 12-2). -/
def Dev.wakeEnabled (d : Dev) : WakeSrc → Bool
  | .can ch => bitAt (d.get WAK_WK_BUS0_can) ch
  | .lin ch => bitAt (d.get WAK_WK_BUS1_lin) ch
  | .eth p => bitAt (d.get (WAK_WK_ETH_ports (p / 32))) (p % 32)
  | .pin n => d.flag (WAK_WK_CFG_en n)
  | .host => d.flag WAK_WK_BUS1_host
  | .vh n => bitAt (d.get WAK_WK_BUS1_vh) n

/-- The bit of a source in `WSR_SEEN`. -/
def seenBit : WakeSrc → Nat
  | .pin n => n | .can _ => 8 | .lin _ => 8 | .eth _ => 8 | .host => 9 | .vh _ => 10

/-- The trigger code of a wake source (Table 2-23). -/
def wakeTrigger : WakeSrc → Nat
  | .pin _ => 2 | .host => 3 | .vh _ => 4 | _ => 5

def Dev.seeWake (b : Nat) (d : Dev) : Dev := d.put WAK_WSR_SEEN_src (setBitTo (d.get WAK_WSR_SEEN_src) b true)

/-- The wake decision (R259): the record, the SUPEN outputs of modes 1 and 2, and MAIN, whose rails follow within 1.5 ms
(Table 12-5). -/
def Dev.wakeDecide (cause index kind fmt id : Nat) (d : Dev) : Dev :=
  let d := ((d.put WAK_WSR_cause cause).put WAK_WSR_index index).put WAK_WSR_kind kind
  let d := (d.put WAK_WSR_ID_fmt fmt).put WAK_WSR_ID_id id
  let d := d.wr64 WAK_WSR_T_LO WAK_WSR_T_HI d.aonUs
  let d := d.each (maskList 8 d.wak.follow) (fun n d => d.setSupen n true)
  let d := (d.cancel ⟨.listen, 0, 0⟩).cancel ⟨.mainDark, 0, 0⟩
  let d := { d with pw := { d.pw with base := .start, main := true, rails := false } }
  let d := { d with wak := { d.wak with held := none, follow := 0, listenErr := [] } }
  let d := if cause ≠ 4 && d.hbr.perst then
      ({ d with hbr := { d.hbr with waken := true } } : Dev).armIn ⟨.wakenPin, 0, 0⟩ (secT 1)
    else d
  ((d.put PWR_MAIN_STAT_main 1).put PWR_MAIN_STAT_listen 0).armIn ⟨.railsValid, 0, 0⟩ (usT 1500)

/-- A wake with MAIN off: held while MAIN has been off for less than 1 ms (R267). -/
def Dev.wakeOff (src : WakeSrc) (cause index kind fmt id : Nat) (d : Dev) : Dev :=
  if d.wak.held.isSome then d.seeWake (seenBit src)
  else if d.running ⟨.mainDark, 0, 0⟩ && decide (d.now < d.wak.offAt + msT 1) then
    { d with wak := { d.wak with held := some (cause, index, kind, fmt, id) } }
  else d.wakeDecide cause index kind fmt id

/-- Dormant to Listen. -/
def Dev.enterListen (d : Dev) : Dev :=
  let d := { d with pw := { d.pw with base := .listen } }
  let d := { d with wak := { d.wak with listenErr := [] } }
  (d.put PWR_MAIN_STAT_listen 1).armIn ⟨.listen, 0, 0⟩ (msT (d.get WAK_LISTEN_CFG_tmo_ms))

/-- Bus activity with MAIN off: Listen; with `sel` 0 the pattern itself is a genuine wake. -/
def Dev.busActivity (src : WakeSrc) (index : Nat) (plain : Bool) (d : Dev) : Dev :=
  let d := if d.pw.base = .dormant then d.enterListen else d
  if plain && !d.flag WAK_LISTEN_CFG_sel then d.wakeOff src 3 index 1 0 0 else d

/-- A wake detector of a port with MAIN powered: it wakes the port's sleeping segment (R270). -/
def Dev.portWake (p : Nat) (d : Dev) : Dev :=
  match d.sleepSeg p with
  | some g => if d.flag (WAK_SEG_CFG_wake_en g) then d.wakeSeen.segWake g else d
  | none => d

/-- The transceiver of a channel is in Standby while its segment is awake (Table 12-1). -/
def Dev.standsBy (d : Dev) : WakeSrc → Bool
  | .can ch => (d.sleepSeg (canPort ch)).isNone && (d.canMode ch == 2 || d.flag (PG_STATE_in_reset (pgCAN ch)))
  | .lin ch => (d.sleepSeg (linPort ch)).isNone && d.flag (PG_STATE_in_reset (pgLIN ch))
  | _ => false

/-- WAKE_DETECT: a Standby channel whose segment is awake raises BUS_WAKE and nothing else (R255); sources that fire until
MAIN units are released set their bit of `WSR_SEEN` (R259); with MAIN powered, a wake that neither vetoes a round nor wakes a
segment is a rejected trigger (R29). -/
def opWakeDetect (src : WakeSrc) (d : Dev) : Dev :=
  if !d.wakeEnabled src || decide (d.pw.base = .off) || d.pw.losing then d
  else if !d.pw.main then
    match src with
    | .pin n => d.wakeOff src 2 n 0 0 0
    | .host => d.wakeOff src 4 0 0 0 0
    | .vh n => d.wakeOff src 5 n 0 0 0
    | .can ch => d.busActivity src ch true
    | .lin ch => d.busActivity src (24 + ch.val) true
    | .eth p => d.busActivity src p false
  else if !d.pw.rails || d.pw.asserted then d.seeWake (seenBit src)
  else if d.standsBy src then d.raise pgWAK 14
  else if d.pw.halted then d.rejectTrig (wakeTrigger src)
  else if decide (d.pw.base = .start) && d.tim.released.isNone then (d.seeWake (seenBit src)).rejectTrig (wakeTrigger src)
  else
    let e :=
      match src with
      | .pin n =>
        let d := ({ d with wak := { d.wak with pins := setBitTo d.wak.pins n true } } : Dev).wakeSeen
        if d.flag (WAK_WK_CFG_seg_v n) then d.segWake (d.get (WAK_WK_CFG_seg n)) else d
      | .host => d.wakeSeen
      | .vh _ => d
      | .can ch => d.portWake (canPort ch)
      | .lin ch => d.portWake (linPort ch)
      | .eth p => d.portWake p
    if d.pw.settling || decide (d.get WAK_SEG_STAT_asleep ≠ e.get WAK_SEG_STAT_asleep) then e else e.rejectTrig (wakeTrigger src)

/-- A frame or header matches a wake frame (R260). -/
def Dev.wakeMatch (d : Dev) (chan : Nat) (r : BusRecord) : Bool :=
  (List.range 32).any (fun k =>
    let m := d.get (WAK_WF1_mask k)
    d.flag (WAK_WF_valid k) && d.get (WAK_WF2_chan k) == chan && d.get (WAK_WF_fmt k) == r.fmt &&
      (r.id &&& m) == (d.get (WAK_WF_id k) &&& m) &&
      (!d.flag (WAK_WF2_data_v k) ||
        (match r.data[d.get (WAK_WF2_byte k)]? with
         | some b => (b.toNat &&& d.get (WAK_WF3_dmask k)) == (d.get (WAK_WF3_dval k) &&& d.get (WAK_WF3_dmask k))
         | none => false)))

/-- The Listen decoder of a channel runs. -/
def Dev.decodes (d : Dev) (chan : Nat) : Bool :=
  decide (d.pw.base = .listen) &&
    (if chan < 24 then bitAt (d.get WAK_WK_BUS0_can) chan else bitAt (d.get WAK_WK_BUS1_lin) (chan - 24))

/-- LISTEN_FRAME_MATCH: a decoder receives a valid Classical CAN frame or a LIN header. -/
def opListenFrame (chan : Decoder) (r : BusRecord) (d : Dev) : Dev :=
  if !d.decodes chan || (decide (chan.val < 24) && (r.fdf || decide (1 < r.fmt))) then d
  else
    let n := NMap.get 0 d.wak.listenErr chan
    let d := { d with wak := { d.wak with listenErr := NMap.set 0 d.wak.listenErr chan (n - 1) } }
    let seen := if chan.val < 24 then r else { r with data := [] }
    if d.flag WAK_LISTEN_CFG_sel && d.wakeMatch chan seen then
      d.wakeOff (if h : chan.val < 24 then .can ⟨chan, h⟩ else .lin ⟨chan - 24, by omega⟩) 3 chan 0 r.fmt r.id
    else d

/-- LISTEN_ERROR_LIMIT. -/
def opListenErrors (ch : CanCh) (d : Dev) : Dev :=
  if !d.decodes ch then d
  else
    let d := { d with wak := { d.wak with listenErr := NMap.set 0 d.wak.listenErr ch (d.get WAK_LISTEN_CFG_err_lim) } }
    d.wakeOff (.can ch) 3 ch 2 0 0

/-- LISTEN_ENERGY_PERSIST. -/
def opListenEnergy (p : EthPort) (d : Dev) : Dev :=
  if decide (d.pw.base = .listen) && d.wakeEnabled (.eth p) then d.wakeOff (.eth p) 3 p 3 0 0 else d

/-- LISTEN_TIMEOUT. -/
def opListenTimeout (d : Dev) : Dev :=
  d.onTimer ⟨.listen, 0, 0⟩ (fun d =>
    let d := { d with pw := { d.pw with base := .dormant } }
    (d.put PWR_MAIN_STAT_listen 0).add WAK_FALSE_WAKES_count 1)

/-- HELD_WAKE_MAIN_ON: MAIN has been off for 1 ms (R267). -/
def opHeldWake (d : Dev) : Dev :=
  match d.wak.held with
  | some (cause, index, kind, fmt, id) =>
    d.onTimer ⟨.mainDark, 0, 0⟩ (fun d => d.wakeDecide cause index kind fmt id)
  | none => d

/-! ### Segment wakes and SUPEN commands (R257, R270) -/

/-- SEGMENT_WAKE_CMD. -/
def opSegWake (i : Initiator) (v : Word) (d : Dev) : Dev :=
  d.access i (fun d => d.each (maskList 15 v.toNat) Dev.segWake)

/-- SEGMENT_WAKE_LAUNCH. -/
def opSegWakeLaunch (k : WakSlot) (d : Dev) : Dev :=
  d.launch (.wak k) [9] (fun d => d.each (maskList 15 (bitsOf (d.rd (WAK_SL_CTL k)) 22 8)) Dev.segWake)

/-- SUPEN_OFF_DELAY. -/
def opSupenDelay (n : SupenIdx) (d : Dev) : Dev := d.onTimer ⟨.supenOff, n, 0⟩ (fun d => d.setSupen n false)

/-- SUPEN_CMD_WRITE: in mode 0 the output follows `cmd`. -/
def opSupenCmd (i : Initiator) (n : SupenIdx) (on : Bool) (d : Dev) : Dev :=
  d.write i pgPWR (0x200 + 4 * n.val) (if on then 2 ^ 16 else 0) (fun d =>
    let d := d.put (PWR_SUPEN_CFG_cmd n) (if on then 1 else 0)
    if d.get (PWR_SUPEN_CFG_mode n) = 0 then d.setSupen n on else d)

/-- A commit of the PWR page: an output in mode 0 follows `cmd`. -/
def Dev.pwrCommit (d : Dev) : Dev :=
  d.each ((List.range 8).filter (fun n => d.get (PWR_SUPEN_CFG_mode n) == 0)) (fun n d => d.setSupen n (d.flag (PWR_SUPEN_CFG_cmd n)))

/-- Halt or a class D reset ends the round without a token (R266). -/
def Dev.dropRound (d : Dev) : Dev :=
  let d := ({ d with wak := { d.wak with aside := none } } : Dev).cancel ⟨.consTmo, 1, 0⟩
  if d.phase = 0 then d else d.closeRound

/-- A unit reset of WAK: in Settle a VETO goes first (R266). -/
def Dev.wakReset (d : Dev) : Dev := (if d.phase = 0 then d else d.veto).dropRound

/-! ### The meanings of the commands of this file -/

/-- WAKE_DETECT (R258). -/
def execWakeDetect (src : WakeSrc) (s : State) : Host.Outcome State Fault Refusal :=
  effect (opWakeDetect src) s

/-- LISTEN_FRAME_MATCH (R260). -/
def execListenFrameMatch (chan : Decoder) (r : BusRecord) (s : State) : Host.Outcome State Fault Refusal :=
  effectIf (r.wf) (opListenFrame chan r) s

/-- LISTEN_ERROR_LIMIT (R260). -/
def execListenErrorLimit (ch : CanCh) (s : State) : Host.Outcome State Fault Refusal :=
  effect (opListenErrors ch) s

/-- LISTEN_ENERGY_PERSIST (R260). -/
def execListenEnergyPersist (p : EthPort) (s : State) : Host.Outcome State Fault Refusal :=
  effect (opListenEnergy p) s

/-- LISTEN_TIMEOUT (R260). -/
def execListenTimeout (s : State) : Host.Outcome State Fault Refusal :=
  effect opListenTimeout s

/-- CONSENT_ROUND_START (R263). -/
def execConsentRoundStart (i : Initiator) (set : SleepSet) (pins : Nat) (s : State) : Host.Outcome State Fault Refusal :=
  effectIf (decide (pins < 256)) (opRoundStart i set pins) s

/-- CONSENT_VETO_CMD (R265). -/
def execConsentVetoCmd (i : Initiator) (s : State) : Host.Outcome State Fault Refusal :=
  effect (opVetoCmd i) s

/-- AUTO_ROUND_START (R263). -/
def execAutoRoundStart (pins : Nat) (s : State) : Host.Outcome State Fault Refusal :=
  effectIf (decide (pins < 256)) (opAutoRound pins) s

/-- PROPOSE_RECEIVED (R263). -/
def execProposeReceived (t : Token) (pins : Nat) (s : State) : Host.Outcome State Fault Refusal :=
  effectIf (t.wf && decide (pins < 256)) (opPropose t pins) s

/-- COMMIT_TOKEN_RECEIVED (R264). -/
def execCommitTokenReceived (t : Token) (s : State) : Host.Outcome State Fault Refusal :=
  effectIf (t.wf) (opCommitToken t) s

/-- VETO_RECEIVED (R265). -/
def execVetoReceived (t : Token) (s : State) : Host.Outcome State Fault Refusal :=
  effectIf (t.wf) (opVetoToken t) s

/-- WAKE_TOKEN_RECEIVED (R270). -/
def execWakeTokenReceived (t : Token) (s : State) : Host.Outcome State Fault Refusal :=
  effectIf (t.wf) (opWakeToken t) s

/-- COMMIT_GUARD_EXPIRY (R264). -/
def execCommitGuardExpiry (s : State) : Host.Outcome State Fault Refusal :=
  effect opCommitGuard s

/-- CONS_TIMEOUT (R264). -/
def execConsTimeout (s : State) : Host.Outcome State Fault Refusal :=
  effect opConsTimeout s

/-- LOCAL_CONSENT_LOST (R265). -/
def execLocalConsentLost (pins : Nat) (s : State) : Host.Outcome State Fault Refusal :=
  effectIf (decide (pins < 256)) (opConsentLost pins) s

/-- SLEEP_COMMIT_DEVICE (R267). -/
def execSleepCommitDevice (s : State) : Host.Outcome State Fault Refusal :=
  effect opSleepDevice s

/-- SLEEP_COMMIT_SET (R268). -/
def execSleepCommitSet (s : State) : Host.Outcome State Fault Refusal :=
  effect opSleepSet s

/-- SEGMENT_WAKE_CMD (R270). -/
def execSegmentWakeCmd (i : Initiator) (v : Word) (s : State) : Host.Outcome State Fault Refusal :=
  effect (opSegWake i v) s

/-- SEGMENT_WAKE_LAUNCH (R270). -/
def execSegmentWakeLaunch (k : WakSlot) (s : State) : Host.Outcome State Fault Refusal :=
  effect (opSegWakeLaunch k) s

/-- SUPEN_OFF_DELAY (R257). -/
def execSupenOffDelay (n : SupenIdx) (s : State) : Host.Outcome State Fault Refusal :=
  effect (opSupenDelay n) s

/-- HELD_WAKE_MAIN_ON (R267). -/
def execHeldWakeMainOn (s : State) : Host.Outcome State Fault Refusal :=
  effect opHeldWake s

/-- SUPEN_CMD_WRITE (R257). -/
def execSupenCmdWrite (i : Initiator) (n : SupenIdx) (on : Bool) (s : State) : Host.Outcome State Fault Refusal :=
  effect (opSupenCmd i n on) s

end Sys2Proof.Machine
end

