-- ==== Sys2Proof/Machine/Engine.lean ====
section
/-!
DEFINITION. How commits and fences end on every page (R41 to R49): what the resets, Halt, the cascade and the commit
commands share.
-/

namespace Sys2Proof.Machine

/-! ### The end of a commit -/

/-- Commit status codes (Table 2-10). -/
def csIdle : Nat := 0
def csChecking : Nat := 1
def csArmed : Nat := 2
def csPrepared : Nat := 3
def csDone : Nat := 4
def csRefused : Nat := 5
def csAborted : Nat := 6
def csFailed : Nat := 7

/-- Reason codes (Table 2-11). -/
def rsBadCmd : Nat := 0x01
def rsBusy : Nat := 0x02
def rsConsistency : Nat := 0x03
def rsReservedPort : Nat := 0x04
def rsTimePast : Nat := 0x05
def rsLocked : Nat := 0x06
def rsNotReady : Nat := 0x07
def rsUpdateBusy : Nat := 0x08
def rsCascadeAbort : Nat := 0x09
def rsCascadeDown : Nat := 0x0A
def rsTooLate : Nat := 0x0B
def rsUnitReset : Nat := 0x0C
def rsHalt : Nat := 0x0D
def rsGroup : Nat := 0x0E
def rsShadowEcc : Nat := 0x0F
def rsSleepPending : Nat := 0x10

/-- A page's commit is no longer in progress. -/
def Dev.commitIdle (pg : Nat) (d : Dev) : Dev :=
  let d := d.modPg pg (fun s => { s with phase := .none, cmd := 0, group := 0, decided := false })
  (d.put (PG_STATE_armed pg) 0).cancel ⟨.commitCheck, pg, 0⟩

/-- A commit ends without effect: status, reason, COMMIT_FAIL. -/
def Dev.commitEnds (pg status reason : Nat) (d : Dev) : Dev :=
  (((d.commitIdle pg).put (PG_COMMIT_status pg) status).put (PG_COMMIT_reason pg) reason).raise pg irqCommitFail

/-- The status of a group commit (Table 2-22). -/
def Dev.groupStat (status reason page : Nat) (d : Dev) : Dev :=
  ((d.put SYS_GRP_STAT_status status).put SYS_GRP_STAT_reason reason).put SYS_GRP_STAT_page page

/-- The pages whose commit is in progress. -/
def Dev.committing (d : Dev) : List Nat := (d.pgs.filter (fun e => decide (e.2.phase ≠ .none))).map (·.1)

/-- The pages in one commit with a page: its group's, or itself alone (R44). -/
def Dev.comrades (d : Dev) (pg : Nat) : List Nat :=
  let g := (d.pg pg).group
  if g = 0 then [pg] else d.committing.filter (fun p => (d.pg p).group == g)

/-- The key of a page's cascade-wide commit (R342). -/
def Dev.ccKey (d : Dev) (pg : Nat) : CommitKey :=
  let s := d.pg pg
  { t := s.launch, g := if s.group = 0 then 256 + pg else s.group }

/-! ### The end of a fence (R46 to R49) -/

/-- A fence completes. -/
def Dev.fenceEnds (pg : Nat) (f : Fence) (err : Bool) (d : Dev) : Dev :=
  let d := d.modPg pg (fun s => { s with fences := s.fences.filter (fun x => x.token != f.token) })
  let d := (d.put (PG_FENCE_DONE_token pg) f.token).put (PG_FENCE_DONE_err pg) (if err then 1 else 0)
  let d := if err then
      (d.put (PG_FENCE_DONE_err_any pg) 1).capture pg 0x04 0 f.by_ 0x44 f.token
        (if f.kind = 3 && !d.flag HBR_STAT_link then 8 else 0)
    else d
  (d.cancel ⟨.fence, pg, f.token⟩).raise pg irqFence

/-- The leading fences of a page that have failed complete with error, in token order. -/
def Dev.fenceDrain (pg : Nat) : Nat → Dev → Dev
  | 0, d => d
  | n + 1, d =>
    match (d.pg pg).fences with
    | [] => d
    | f :: _ => if f.failed then Dev.fenceDrain pg n (d.fenceEnds pg f true) else d

/-- The fences of a page that a condition concerns fail; each completes after every earlier one of the page. -/
def Dev.fencesFail (pg : Nat) (bad : Fence → Bool) (d : Dev) : Dev :=
  let d := d.modPg pg (fun s => { s with fences := s.fences.map (fun f => if bad f then { f with failed := true } else f) })
  Dev.fenceDrain pg 16 d

/-- Fences on every page that a condition concerns fail. -/
def Dev.allFencesFail (bad : Fence → Bool) (d : Dev) : Dev :=
  d.each ((d.pgs.filter (fun e => e.2.fences.any bad)).map (·.1)) (fun pg d => d.fencesFail pg bad)

end Sys2Proof.Machine
end

