-- ==== Sys2Proof/Machine/Cascade.lean ====
section
/-!
DEFINITION. The control plane of the Voholt cascade (R333, R337 to R343): HELLO and the election, device IDs, cascade time,
and the two-phase vote of cascade-wide commits up to its decision.
-/

namespace Sys2Proof.Machine

/-! ### Sending control messages (R333) -/

/-- Send a control message on a link. -/
def Dev.ctl (code : Nat) (m : Ctl) (d : Dev) : Dev := (d.countCtl code).emit (.ctl code m)

/-- The link that gives the best master. -/
def Dev.upstream (d : Dev) : Option Nat :=
  (List.range 8).find? (fun c =>
    if c < 4 then d.flag (VHL_STAT_upstream c) else d.flag (VHL_VOX_STAT_upstream 0 (c - 4)))

/-- The device's unique identifier. -/
def Dev.uid (d : Dev) : Nat := d.rd64 KEY_UID_LO KEY_UID_HI

/-- Cascade priority and the fixed ID, from the option image in use. -/
def Dev.prio (d : Dev) : Nat := bitsOf (d.rd (OPT_IMG 1)) 15 8
def Dev.fixedId (d : Dev) : Bool := (d.rd (OPT_IMG 1)).getLsbD 2
def Dev.optionId (d : Dev) : Nat := bitsOf (d.rd (OPT_IMG 1)) 25 16

/-- The cascade runs: role 1 or 2, and VHL 0 out of reset. -/
def Dev.cascades (d : Dev) : Bool := d.up && !d.pw.halted && d.vcRole != 0 && !d.flag (PG_STATE_in_reset (pgVHL 0))

/-- This device decides: it is the master, or a candidate with no link up (R342). -/
def Dev.decides (d : Dev) : Bool :=
  d.flag (VHL_VC_STAT_is_master 0) || (d.vcRole == 2 && d.upLinks.isEmpty)

/-- The link toward the master: the path table's, else the upstream link. -/
def Dev.toMaster (d : Dev) : Option Nat × Dev :=
  if !d.flag (VHL_VC_STAT_master_v 0) then (none, d)
  else
    match d.pathCode (d.get (VHL_VC_STAT_master 0)) with
    | (some c, d) => (some c, d)
    | (none, d) => (d.upstream, d)

/-- A broadcast of this device: sent once on every link that is up. -/
def Dev.broadcast (m : Nat → Nat → Ctl) (d : Dev) : Dev :=
  let q := d.voh.ownSeq + 1
  let d := { d with voh := { d.voh with ownSeq := q, seen := d.voh.seen ++ [(d.ownId, q)] } }
  d.each d.upLinks (fun c d => d.ctl c (m d.ownId q))

/-! ### Cascade-wide commits up to the decision (R342, R343) -/

def Dev.leadNs (d : Dev) : Nat := d.get (VHL_CC_CFG_lead_us 0) * 1000
def Dev.guardNs (d : Dev) : Nat := d.get (VHL_CC_CFG_guard_us 0) * 1000

/-- The last cascade-wide outcome. -/
def Dev.ccStat (status reason : Nat) (d : Dev) : Dev :=
  (d.put (VHL_CC_STAT_status 0) status).put (VHL_CC_STAT_reason 0) reason

/-- The pages that are prepared under a key and have no decision. -/
def Dev.waitingFor (d : Dev) (k : CommitKey) : List Nat :=
  (d.pgs.filter (fun e => decide (e.2.phase = .prepared) && !e.2.decided && decide (d.ccKey e.1 = k))).map (·.1)

/-- The commit fails in this device (Table 16-3). -/
def Dev.ccFails (pages : List Nat) (reason : Nat) (d : Dev) : Dev :=
  if pages.isEmpty then d
  else
    let g := (d.pg (pages.headD 0)).group
    let d := d.each pages (fun pg d => d.commitEnds pg csFailed reason)
    let d := if g = 0 then d else d.groupStat csFailed reason (pages.headD 0)
    let d := d.ccStat csFailed reason
    if reason = rsCascadeDown then (d.count (VHL_VC_CNT 0 5)).raise (pgVHL 0) 15 else d

/-- A decision reaches this device: COMMIT by T − `guard_us` arms the commit, ABORT fails it. -/
def Dev.decideActs (k : CommitKey) (commit : Bool) (d : Dev) : Dev :=
  let pages := d.waitingFor k
  if !commit then d.ccFails pages rsCascadeAbort
  else if k.t < d.ns + d.guardNs then d
  else d.each pages (fun pg d => d.modPg pg (fun s => { s with decided := true }))

/-- The open keys of the master. -/
def Dev.openKeys (d : Dev) : Nat := (d.voh.keys.filter (fun k => k.decided.isNone)).length

def Dev.showOpen (d : Dev) : Dev := d.put (VHL_CC_STAT_open 0) d.openKeys

/-- The master decides a key: counted, sent as a broadcast, and acted on. -/
def Dev.decideKey (k : CommitKey) (commit : Bool) (d : Dev) : Dev :=
  let d := { d with voh := { d.voh with
      keys := d.voh.keys.map (fun (o : OpenKey) => if o.key = k then { o with decided := some commit } else o) } }
  let d := (d.count (VHL_VC_CNT 0 (if commit then 3 else 4))).showOpen
  let d := d.broadcast (fun src q => .decide { key := k, commit := commit, src := src, seq := q, link := 0 })
  let d := if d.running ⟨.decideResend, 0, 0⟩ then d else d.armIn ⟨.decideResend, 0, 0⟩ (usT 10)
  d.decideActs k commit

/-- A vote reaches the master. -/
def Dev.voteIn (v : Vote) (d : Dev) : Dev :=
  match d.voh.keys.find? (fun o => decide (o.key = v.key)) with
  | none =>
    let full := decide (16 ≤ d.openKeys)
    let o : OpenKey := { key := v.key, n := v.n, yes := if v.vote = 1 then [v.dev] else [], decided := none }
    let d := { d with voh := { d.voh with keys := d.voh.keys ++ [o] } }
    if full then d.decideKey v.key false
    else
      let d := d.showOpen
      if v.vote ≠ 1 || decide (v.key.t ≤ d.ns + d.leadNs) || decide (v.n = 0) then d.decideKey v.key false
      else if v.n = 1 then d.decideKey v.key true
      else d
  | some o =>
    if o.decided.isSome then d
    else if v.vote ≠ 1 || v.n ≠ o.n || decide (v.key.t ≤ d.ns + d.leadNs) then d.decideKey v.key false
    else
      let yes := if o.yes.contains v.dev then o.yes else o.yes ++ [v.dev]
      let d := { d with voh := { d.voh with
        keys := d.voh.keys.map (fun (x : OpenKey) => if x.key = v.key then { x with yes := yes } else x) } }
      if yes.length = o.n then d.decideKey v.key true else d

/-- This device votes. -/
def Dev.castVote (k : CommitKey) (vote : Nat) (d : Dev) : Dev :=
  let v : Vote := { key := k, dev := d.ownId, n := d.get (VHL_VC_CC_N_n 0), vote := vote }
  if d.decides then d.voteIn v
  else
    match d.toMaster with
    | (some c, d) => d.ctl c (.vote v)
    | (none, d) => d

/-- VOTE_RECEIVED: the master counts it; another device relays it. -/
def opVote (v : Vote) (d : Dev) : Dev :=
  if !d.cascades then d
  else if d.decides then d.voteIn v
  else
    match d.toMaster with
    | (some c, d) => d.ctl c (.vote v)
    | (none, d) => d

/-- DECIDE_RECEIVED: the first copy is forwarded on every other link, and acts. -/
def opDecide (x : Decide) (d : Dev) : Dev :=
  if !d.cascades || d.voh.seen.contains (x.src, x.seq) then d
  else
    let d := { d with voh := { d.voh with seen := d.voh.seen ++ [(x.src, x.seq)] } }
    let d := d.each (d.upLinks.filter (fun c => c != x.link)) (fun c d => d.ctl c (.decide { x with link := 0 }))
    d.decideActs x.key x.commit

/-- CC_DEADLINE: T − `lead_us` with votes missing. -/
def opCcDeadline (key : CommitKey) (d : Dev) : Dev :=
  if d.cascades && d.voh.keys.any (fun o => decide (o.key = key) && o.decided.isNone) then
    (d.atNs (key.t - d.leadNs)).decideKey key false
  else d

/-- DECIDE_RESEND: every 10 µs until T − `guard_us`. -/
def opDecideResend (d : Dev) : Dev :=
  d.onTimer ⟨.decideResend, 0, 0⟩ (fun d =>
    let live := d.voh.keys.filter (fun o => o.decided.isNone || decide (d.ns + d.guardNs < o.key.t))
    let d := { d with voh := { d.voh with keys := live } }
    let d := d.each live (fun o d => match o.decided with
      | some c => d.broadcast (fun src q => .decide { key := o.key, commit := c, src := src, seq := q, link := 0 })
      | none => d)
    if live.any (fun o => o.decided.isSome) then d.armIn ⟨.decideResend, 0, 0⟩ (usT 10) else d)

/-- CC_GUARD_EXPIRY: no decision by T − `guard_us`. -/
def opCcGuard (key : CommitKey) (d : Dev) : Dev :=
  if (d.waitingFor key).isEmpty then d
  else (d.atNs (key.t - d.guardNs)).ccFails (d.waitingFor key) rsCascadeDown

/-- A commit in progress on a page is aborted, and with it its group's and, before the decision, every device's (R45). One
that is still checking is aborted by a unit reset too (DEDUCED, log entry 45). -/
def Dev.abortCommit (pg reason : Nat) (d : Dev) : Dev :=
  let s := d.pg pg
  if s.phase = .none || s.decided then d
  else
    let key := d.ccKey pg
    let mates := d.comrades pg
    let voted := decide (s.phase = .prepared)
    let d := d.each mates (fun p d => d.commitEnds p csAborted (if p = pg then reason else rsGroup))
    let d := if s.group = 0 then d else d.groupStat csAborted reason pg
    if voted then (d.ccStat csAborted reason).castVote key 3 else d

/-! ### The election (R340) -/

/-- The master that is followed: by link, with the neighbour's HELLO; none while this device is master or knows none. -/
def Dev.following (d : Dev) : Option (Nat × Hello) :=
  match d.upstream with
  | some c => (NMap.get none d.voh.nbr c).map (fun h => (c, h))
  | none => none

/-- An advertised master counts: not this device, not too far, not one dropped whose sequence has not advanced. -/
def Dev.advertised (d : Dev) (h : Hello) : Bool :=
  h.master && h.muid != d.uid && decide (h.hops + 1 ≤ d.get (VHL_VC_CFG_hop_max 0)) &&
    (match d.voh.dropped with
     | some (u, q) => !(u == h.muid && decide (h.seq ≤ q))
     | none => true)

/-- A better master: the higher priority, then the lower UID, then the fewer hops, then the lower link code. -/
def betterHello (a b : Nat × Hello) : Bool :=
  if a.2.mprio ≠ b.2.mprio then decide (b.2.mprio < a.2.mprio)
  else if a.2.muid ≠ b.2.muid then decide (a.2.muid < b.2.muid)
  else decide (a.2.hops < b.2.hops)

/-- The best master the neighbours advertise. -/
def Dev.bestAdvert (d : Dev) : Option (Nat × Hello) :=
  ((List.range 8).filterMap (fun c =>
    match NMap.get none d.voh.nbr c with
    | some h => if d.linkUp c && d.advertised h then some (c, h) else none
    | none => none)).foldl (fun best x => match best with
      | none => some x
      | some b => if betterHello x b then some x else some b) none

/-- This device, a candidate, is better than an advertised master. -/
def Dev.outranks (d : Dev) (h : Hello) : Bool :=
  d.vcRole == 2 && (decide (h.mprio < d.prio) || (h.mprio == d.prio && decide (d.uid < h.muid)))

/-- The upstream link is a code, or none is. -/
def Dev.setUpstream (code : Option Nat) (d : Dev) : Dev :=
  d.each (List.range 8) (fun c d =>
    let v := if code = some c then 1 else 0
    if c < 4 then d.put (VHL_STAT_upstream c) v else d.put (VHL_VOX_STAT_upstream 0 (c - 4)) v)

/-- A new master or generation: undecided commits of the old one fail (Table 16-3). -/
def Dev.masterChange (d : Dev) : Dev :=
  let l := d.pgs.filter (fun e => decide (e.2.phase = .prepared) && !e.2.decided)
  let keys := (l.map (fun e => d.ccKey e.1)).eraseDups
  let d := d.each keys (fun k d => d.ccFails (d.waitingFor k) rsCascadeDown)
  ((d.count (VHL_VC_CNT 0 0)).raise (pgVHL 0) 12)

/-- How long a candidate waits, or a master's sequence may stand still. -/
def Dev.lossTime (d : Dev) : Nat := usT (d.get (VHL_VC_TMR_mloss 0) * d.get (VHL_VC_CFG_hello_us 0))

def Dev.lossArm (d : Dev) : Dev := d.armIn ⟨.mloss, 0, 0⟩ d.lossTime

/-- Give this device its ID (R337). -/
def Dev.takeId (id : Nat) (d : Dev) : Dev :=
  let d := (d.put SYS_DEVID_valid 1).put SYS_DEVID_id id
  { d with mram := { d.mram with lastId := some id } }

/-- The lowest device ID that is free at the master. -/
def Dev.freeId (d : Dev) (want : Nat) : Option Nat :=
  let used := d.voh.granted.map (·.2) ++ (if d.flag SYS_DEVID_valid then [d.get SYS_DEVID_id] else []) ++
    (d.voh.nbr.filterMap (fun e => e.2.bind (fun h => if h.devV then some h.dev else none)))
  if want < 1024 && !used.contains want then some want else (List.range 1024).find? (fun i => !used.contains i)

/-- An ID that a master has granted to a UID is kept, whichever master granted it: assigned IDs never collide (R337). -/
def Dev.noteGrant (uid i : Nat) (d : Dev) : Dev :=
  { d with voh := { d.voh with granted := d.voh.granted.filter (fun (e : Nat × Nat) => e.1 != uid) ++ [(uid, i)] } }

/-- The master grants an ID to a UID: what it has granted it before, the wanted ID if free, else the lowest free. -/
def Dev.grantId (uid want : Nat) (d : Dev) : Option Nat × Dev :=
  match d.voh.granted.find? (fun e => e.1 == uid) with
  | some e => (some e.2, d)
  | none =>
    match d.freeId want with
    | some i => (some i, d.noteGrant uid i)
    | none => (none, d)

/-- The ID this device asks for: the one it last held. -/
def Dev.wantId (d : Dev) : Nat := d.mram.lastId.getD 0

/-- A device without an ID asks for one: the master grants its own request, another device sends ID_REQ toward the
master. -/
def Dev.askId (d : Dev) : Dev :=
  if d.flag SYS_DEVID_valid || d.fixedId then d
  else if d.flag (VHL_VC_STAT_is_master 0) then
    match d.grantId d.uid d.wantId with
    | (some i, d) => (d.takeId i).put (VHL_VC_STAT_master 0) i
    | (none, d) => d
  else
    match d.upstream with
    | some c => d.ctl c (.idReq d.uid d.wantId)
    | none => d

/-- This device becomes master. -/
def Dev.becomeMaster (d : Dev) : Dev :=
  let gen := (d.voh.mgenMax + 1) % 256
  let d := { d with voh := { d.voh with mgenMax := gen, seq := 0, dropped := none } }
  let d := (((d.put (VHL_VC_STAT_hops 0) 0).put (VHL_VC_STAT_mgen 0) gen).put (VHL_VC_STAT_is_master 0) 1).put
    (VHL_VC_STAT_master_v 0) 1
  let d := (d.put (VHL_VC_STAT_master 0) d.ownId).wr64 (VHL_MASTER_UID_LO 0) (VHL_MASTER_UID_HI 0) d.uid
  ((d.setUpstream none).cancel ⟨.mloss, 0, 0⟩).masterChange.askId

/-- Follow an advertised master; a new master or generation is a change, and lets the sequence start anew. -/
def Dev.follow (c : Nat) (h : Hello) (d : Dev) : Dev :=
  let same := d.flag (VHL_VC_STAT_master_v 0) && !d.flag (VHL_VC_STAT_is_master 0) &&
    d.rd64 (VHL_MASTER_UID_LO 0) (VHL_MASTER_UID_HI 0) == h.muid && d.get (VHL_VC_STAT_mgen 0) == h.mgen
  let d := if d.flag (VHL_VC_STAT_is_master 0) then
      (({ d with voh := { d.voh with keys := [] } } : Dev).cancel ⟨.decideResend, 0, 0⟩).showOpen
    else d
  let d := (((d.put (VHL_VC_STAT_hops 0) (h.hops + 1)).put (VHL_VC_STAT_mgen 0) h.mgen).put (VHL_VC_STAT_is_master 0) 0).put
    (VHL_VC_STAT_master_v 0) 1
  let d := (d.put (VHL_VC_STAT_master 0) h.mid).wr64 (VHL_MASTER_UID_LO 0) (VHL_MASTER_UID_HI 0) h.muid
  let d := d.setUpstream (some c)
  if same then
    (if d.voh.seq < h.seq then ({ d with voh := { d.voh with seq := h.seq } } : Dev).lossArm else d)
  else (({ d with voh := { d.voh with seq := h.seq, dropped := none } } : Dev).lossArm).masterChange.askId

/-- No master is followed; a candidate waits to become one. -/
def Dev.noMaster (d : Dev) : Dev :=
  let d := (((d.put (VHL_VC_STAT_master_v 0) 0).put (VHL_VC_STAT_is_master 0) 0).put (VHL_VC_STAT_master 0) 0).put (VHL_VC_STAT_hops 0) 0
  let d := (d.wr64 (VHL_MASTER_UID_LO 0) (VHL_MASTER_UID_HI 0) 0).setUpstream none
  if d.running ⟨.mloss, 0, 0⟩ then d else d.lossArm

/-- Choose the best master. -/
def Dev.elect (d : Dev) : Dev :=
  match d.bestAdvert with
  | some (c, h) =>
    if d.outranks h then (if d.flag (VHL_VC_STAT_is_master 0) then d else d.noMaster) else d.follow c h
  | none => if d.flag (VHL_VC_STAT_is_master 0) then d else d.noMaster

/-- The HELLO of this device. -/
def Dev.hello (d : Dev) : Hello :=
  let base : Hello := { prio := d.prio, uid := d.uid, dev := d.ownId, devV := d.flag SYS_DEVID_valid, master := false,
                        mprio := 0, muid := 0, mid := 0, mgen := 0, seq := 0, hops := 0 }
  if d.flag (VHL_VC_STAT_is_master 0) then
    { base with master := true, mprio := d.prio, muid := d.uid, mid := d.ownId, mgen := d.get (VHL_VC_STAT_mgen 0), seq := d.voh.seq }
  else
    match d.following with
    | some (_, h) =>
      { base with master := true, mprio := h.mprio, muid := h.muid, mid := h.mid, mgen := h.mgen, seq := d.voh.seq
                  hops := d.get (VHL_VC_STAT_hops 0) }
    | none => base

/-- HELLO_SEND: every `hello_us`; a device without an ID asks again. -/
def opHelloSend (d : Dev) : Dev :=
  d.onTimer ⟨.hello, 0, 0⟩ (fun d =>
    let d := d.armIn ⟨.hello, 0, 0⟩ (usT (d.get (VHL_VC_CFG_hello_us 0)))
    let d := if d.flag (VHL_VC_STAT_is_master 0) then { d with voh := { d.voh with seq := d.voh.seq + 1 } } else d
    let h := d.hello
    (d.each d.upLinks (fun c d => d.ctl c (.hello h))).askId)

/-- The peer of a link, as its HELLO names it. -/
def Dev.setPeer (code : Nat) (h : Hello) (d : Dev) : Dev :=
  let v := if h.devV then 1 else 0
  if code < 4 then
    ((d.put (VHL_STAT_peer code) h.dev).put (VHL_STAT_peer_v code) v).wr64 (VHL_PEER_UID_LO code) (VHL_PEER_UID_HI code) h.uid
  else (d.put (VHL_VOX_STAT_peer 0 (code - 4)) h.dev).put (VHL_VOX_STAT_peer_v 0 (code - 4)) v

/-- Two devices hold one fixed ID: the higher UID loses it (R337). -/
def Dev.idClash (dev uid : Nat) (d : Dev) : Dev :=
  if d.fixedId && d.flag SYS_DEVID_valid && d.get SYS_DEVID_id == dev && uid != d.uid && decide (uid < d.uid) then
    let d := { d with voh := { d.voh with idLost := true } }
    (((d.put SYS_DEVID_valid 0).put SYS_DEVID_id 0).count (VHL_VC_CNT 0 1)).raise (pgVHL 0) 13
  else d

/-- HELLO_RECEIVED. -/
def opHelloReceived (code : LinkCode) (h : Hello) (d : Dev) : Dev :=
  if !d.cascades || !d.linkUp code then d
  else
    let d := { d with voh := { d.voh with
      nbr := NMap.set none d.voh.nbr code (some h), mgenMax := max d.voh.mgenMax (if h.master then h.mgen else 0) } }
    let d := d.setPeer code h
    let d := if h.devV then d.idClash h.dev h.uid else d
    let d := if h.master then d.idClash h.mid h.muid else d
    d.elect

/-- MASTER_LOSS: a master whose sequence stands still is dropped; a candidate that has heard no better one becomes
master. -/
def opMasterLoss (d : Dev) : Dev :=
  d.onTimer ⟨.mloss, 0, 0⟩ (fun d =>
    if !d.cascades then d
    else if d.flag (VHL_VC_STAT_master_v 0) then
      let u := d.rd64 (VHL_MASTER_UID_LO 0) (VHL_MASTER_UID_HI 0)
      (({ d with voh := { d.voh with dropped := some (u, d.voh.seq) } } : Dev).noMaster).elect
    else if d.vcRole = 2 then d.becomeMaster
    else d)

/-! ### Device IDs (R337) -/

/-- ID_REQ_RECEIVED: the master grants; another device relays it and keeps the link for 1 ms. -/
def opIdReq (code : LinkCode) (uid : Word64) (want : Nat) (d : Dev) : Dev :=
  if !d.cascades || !d.linkUp code then d
  else if d.flag (VHL_VC_STAT_is_master 0) then
    match d.grantId uid.toNat want with
    | (some i, d) => d.ctl code (.idGrant uid.toNat i)
    | (none, d) => d
  else
    match d.upstream with
    | none => d
    | some c =>
      let d := { d with voh := { d.voh with
        relays := (d.voh.relays.filter (fun (e : Nat × Nat) => e.1 != uid.toNat)) ++ [(uid.toNat, code.val)] } }
      (d.armIn ⟨.idRelay, uid.toNat, 0⟩ (msT 1)).ctl c (.idReq uid.toNat want)

/-- ID_GRANT_RECEIVED. -/
def opIdGrant (uid : Word64) (dev : Nat) (d : Dev) : Dev :=
  if !d.cascades then d
  else if uid.toNat = d.uid then (if d.flag SYS_DEVID_valid || d.fixedId then d else d.takeId (dev % 1024))
  else
    match d.voh.relays.find? (fun e => e.1 == uid.toNat) with
    | some e => (d.noteGrant uid.toNat dev).ctl e.2 (.idGrant uid.toNat dev)
    | none => d.noteGrant uid.toNat dev

/-- ID_GRANT_LINK_RELEASE. -/
def opIdRelease (uid : Word64) (d : Dev) : Dev :=
  d.onTimer ⟨.idRelay, uid.toNat, 0⟩ (fun d =>
    { d with voh := { d.voh with relays := d.voh.relays.filter (fun (e : Nat × Nat) => e.1 != uid.toNat) } })

/-! ### Cascade time (R341) -/

/-- TIME_SYNC: a member asks its upstream device. -/
def opTimeSync (d : Dev) : Dev :=
  d.onTimer ⟨.timeSync, 0, 0⟩ (fun d =>
    let d := d.armIn ⟨.timeSync, 0, 0⟩ (usT (d.get (VHL_VC_TMR_sync_us 0)))
    match d.upstream with
    | some c => d.ctl c (.timeReq d.tq)
    | none => d)

/-- TIME_REQ_RECEIVED: the reply carries its receipt and its own egress time. -/
def opTimeReq (code : LinkCode) (t3 : Int) (d : Dev) : Dev :=
  if !d.cascades || !d.linkUp code then d else d.ctl code (.timeRsp d.tq t3)

/-- Picoseconds of a duration in units of 2^-16 ns, and back. -/
def toPs (q : Int) : Int := (q * 125).tdiv 8192
def ofPs (p : Int) : Int := (p * 8192).tdiv 125

/-- TIME_RSP_RECEIVED: delay and e in units of 2^-16 ns; the registers show ps. -/
def opTimeRsp (t1 t2 t3 t4 : Int) (d : Dev) : Dev :=
  match d.upstream with
  | none => d
  | some c =>
    if !d.cascades then d
    else
      let asym := ofPs (signed 32 (if c < 4 then d.get (VHL_ASYM_ps c) else d.get (VHL_VOX_ASYM_ps 0 (c - 4))))
      let delay := ((t4 - t1) - (t3 - t2)).tdiv 2
      let e := ((t2 - t1) - (t4 - t3)).tdiv 2 - asym
      let d := if c < 4 then
          (d.put (VHL_DELAY_ps c) (unsigned 32 (toPs delay))).put (VHL_LAST_E_ps c) (unsigned 32 (sat32 (toPs e)))
        else d.put (VHL_VOX_DELAY_ps 0 (c - 4)) (unsigned 32 (toPs delay))
      if d.get TIM_SRC_src ≠ 2 then d
      else if d.tim.sample.isSome then d.count TIM_REFUSED
      else d.latchSample { e := e, t := t4 / 65536, slot := 0, gen := d.get (VHL_VC_STAT_mgen 0), cascade := true }

/-! ### The start of the cascade -/

/-- VHL 0 leaves reset: HELLO, the time exchange and a candidate's wait begin, and a fixed ID is taken (R337, R340). -/
def Dev.cascadeStart (d : Dev) : Dev :=
  if d.vcRole = 0 then d
  else
    let d := (d.armIn ⟨.hello, 0, 0⟩ (usT (d.get (VHL_VC_CFG_hello_us 0)))).armIn ⟨.timeSync, 0, 0⟩ (usT (d.get (VHL_VC_TMR_sync_us 0)))
    d.lossArm

/-- VHL 0 goes into reset: its exchanges stop, the master is forgotten. -/
def Dev.cascadeStop (d : Dev) : Dev :=
  let d := ((d.cancel ⟨.hello, 0, 0⟩).cancel ⟨.timeSync, 0, 0⟩).noMaster.cancel ⟨.mloss, 0, 0⟩
  (({ d with voh := { d.voh with keys := [], relays := [] } } : Dev).cancel ⟨.decideResend, 0, 0⟩).showOpen

/-! ### The meanings of the commands of this file -/

/-- HELLO_SEND (R340). -/
def execHelloSend (s : State) : Host.Outcome State Fault Refusal :=
  effect opHelloSend s

/-- HELLO_RECEIVED (R340). -/
def execHelloReceived (code : LinkCode) (h : Hello) (s : State) : Host.Outcome State Fault Refusal :=
  effectIf (h.wf) (opHelloReceived code h) s

/-- MASTER_LOSS (R340). -/
def execMasterLoss (s : State) : Host.Outcome State Fault Refusal :=
  effect opMasterLoss s

/-- ID_REQ_RECEIVED (R337). -/
def execIdReqReceived (code : LinkCode) (uid : Word64) (want : Nat) (s : State) : Host.Outcome State Fault Refusal :=
  effectIf (decide (want < 1024)) (opIdReq code uid want) s

/-- ID_GRANT_RECEIVED (R337). -/
def execIdGrantReceived (uid : Word64) (dev : Nat) (s : State) : Host.Outcome State Fault Refusal :=
  effectIf (decide (dev < 1024)) (opIdGrant uid dev) s

/-- ID_GRANT_LINK_RELEASE (R337). -/
def execIdGrantLinkRelease (uid : Word64) (s : State) : Host.Outcome State Fault Refusal :=
  effect (opIdRelease uid) s

/-- TIME_SYNC (R341). -/
def execTimeSync (s : State) : Host.Outcome State Fault Refusal :=
  effect opTimeSync s

/-- TIME_REQ_RECEIVED (R341). -/
def execTimeReqReceived (code : LinkCode) (t3 : Int) (s : State) : Host.Outcome State Fault Refusal :=
  effect (opTimeReq code t3) s

/-- TIME_RSP_RECEIVED (R341). -/
def execTimeRspReceived (t1 : Int) (t2 : Int) (t3 : Int) (t4 : Int) (s : State) : Host.Outcome State Fault Refusal :=
  effect (opTimeRsp t1 t2 t3 t4) s

/-- VOTE_RECEIVED (R343). -/
def execVoteReceived (v : Vote) (s : State) : Host.Outcome State Fault Refusal :=
  effectIf (v.wf) (opVote v) s

/-- DECIDE_RECEIVED (R343). -/
def execDecideReceived (d : Decide) (s : State) : Host.Outcome State Fault Refusal :=
  effectIf (d.wf) (opDecide d) s

/-- CC_DEADLINE (R343). -/
def execCcDeadline (key : CommitKey) (s : State) : Host.Outcome State Fault Refusal :=
  effectIf (key.wf) (opCcDeadline key) s

/-- DECIDE_RESEND (R343). -/
def execDecideResend (s : State) : Host.Outcome State Fault Refusal :=
  effect opDecideResend s

/-- CC_GUARD_EXPIRY (R343). -/
def execCcGuardExpiry (key : CommitKey) (s : State) : Host.Outcome State Fault Refusal :=
  effectIf (key.wf) (opCcGuard key) s

end Sys2Proof.Machine
end

