-- ==== Sys2Proof/Machine/Reset.lean ====
section
/-!
DEFINITION. The reset classes, the release of units, the clocks and Halt (chapters 1 and 17): what every cause of a
reset shares.
-/

namespace Sys2Proof.Machine

/-! ### The boot record (Table 17-5) -/

def recOutcome : FRef := ⟨RST_BOOT_REC 0, 26, 23⟩
def recHalt : FRef := ⟨RST_BOOT_REC 0, 22, 20⟩
def recModeF : FRef := ⟨RST_BOOT_REC 0, 19, 16⟩
def recBank : FRef := ⟨RST_BOOT_REC 0, 15, 15⟩
def recFb : FRef := ⟨RST_BOOT_REC 0, 14, 14⟩

/-- The newest entry's outcome, written once, when the start that made the entry ends (R363). -/
def Dev.outcome (o : Nat) (d : Dev) : Dev :=
  if d.pw.optionsLoaded && d.get recOutcome == 0 then (d.put recOutcome o).put recModeF d.mode else d

/-- Milestone m of the start, in µs from t0 (Table 17-8). -/
def Dev.mile (m : Nat) (d : Dev) : Dev := d.wr (RST_MILE m) (BitVec.ofNat 32 ((d.now - d.pw.t0) / 4800))

/-! ### Release of units (R13, R359) -/

/-- The pages of the always-on domain (Table 1-1). -/
def aonPages : List Nat := [pgRST, pgOPT, pgPWR, pgWAK]

/-- What a unit starts at its release: TIM its counter (R128), a brace its comparator self-test (R278), HBR the hold of port 57 while the host is
out of reach (R325), and the units of R398
the periods they count. -/
def Dev.started (pg : Nat) (d : Dev) : Dev :=
  match pageKind pg with
  | none => d
  | some (k, n) =>
    match k with
    | .tim => if d.tim.released.isSome then d else { d with tim := { d.tim with released := some d.now } }
    | .que => d.armIn ⟨.mcSweep, 0, 0⟩ (usT 100)
    | .vlt2 => d.armIn ⟨.audCount, 0, 0⟩ (msT (max 1 (d.get VLT_AUD_CTRL_period)))
    | .lrn => (d.armIn ⟨.sweepPass, 0, 0⟩ (msT (d.get LRN_SWEEP_PER_ms))).armIn ⟨.windowPass, 0, 0⟩ (secT 2)
    | .klw0 => d.armIn ⟨.kalTmo, 0, 0⟩ (msT 1)
    | .ecc => d.armIn ⟨.ceSecond, 0, 0⟩ (secT 1)
    | .vhl => if n = 0 && !d.running ⟨.hello, 0, 0⟩ then d.cascadeStart else d
    | .eth => d.ethBack n
    | .lin => d.linBack n
    | .hbr => if d.hostUp then d.hostBack else d.hostGone
    | .brc => d.armIn ⟨.selfTest, n, 0⟩ (4 * 2048)
    | _ => d

/-- A unit leaves reset. -/
def Dev.freeUnit (pg : Nat) (d : Dev) : Dev :=
  let d := (d.put (PG_STATE_in_reset pg) 0).put (PG_CTRL_reset pg) 0
  let d := (d.modPg pg (fun s => { s with clockWait := false, clockFail := false })).cancel ⟨.clockWait, pg, 0⟩
  d.started pg

/-- A unit's release is requested: it leaves reset if its clock is stable, and waits for the clock otherwise (R359). PE_RSTN
low holds HBR (R310). -/
def Dev.askRelease (pg : Nat) (d : Dev) : Dev :=
  if pg = pgHBR && d.hbr.perst then d.hostGone
  else if d.clockOk pg then d.freeUnit pg
  else (d.modPg pg (fun s => { s with clockWait := true })).armIn ⟨.clockWait, pg, 0⟩ (msT 10)

/-- UNIT_RESET_END: the 64 CK_PER cycles end and the release waits for the clock (R37). -/
def opUnitResetEnd (pg : Nat) (d : Dev) : Dev :=
  d.onTimer ⟨.unitReset, pg, 0⟩ (fun d => (d.askRelease pg).refreshFrom pg)

/-! ### Supply flags and the start of a release -/

/-- The option byte b in use (Table 17-3). -/
def Dev.opt (d : Dev) (b : Nat) : Nat := bitsOf (d.rd (OPT_IMG (b / 4))) (8 * (b % 4) + 7) (8 * (b % 4))

/-- The supply registers follow the last report of VSUP, in units of 10 mV (Table 19-11). -/
def Dev.showSupply (d : Dev) : Dev :=
  let v := d.pw.vsup
  if v = 0 then d
  else
    let d := (d.put PWR_VSUP_mv v).put PWR_VSUP_MIN_mv (min v (d.get PWR_VSUP_MIN_mv))
    let d := d.put PWR_STAT_ov (if 4000 < v then 1 else 0)
    let d := d.put PWR_STAT_crank (if v < 800 then 1 else 0)
    d.put PWR_STAT_uv_warn (if v < 25 * d.opt 10 then 1 else 0)

/-- The remap entries of each region (Table 14-2); the Reserve's are its spare rows. -/
def remapSpares : List Nat := [1024, 1024, 32, 128, 64, 96, 192, 128, 96, 64, 160, 160, 32, 16, 0]

/-- The remaps and withdrawals of a region, and the spare rows of each Reserve channel, as the record holds them: a Reserve
row is recorded as channel × 64 + its spare row. -/
def Dev.showRemaps (d : Dev) : Dev :=
  let used (r : Nat) : Nat := (d.mram.remapped.filter (fun (e : Nat × Nat) => e.1 == r)).length
  let out (r : Nat) : Nat := (d.mram.withdrawn.filter (fun (e : Nat × Nat) => e.1 == r)).length
  let rows (c : Nat) : Nat := (d.mram.remapped.filter (fun (e : Nat × Nat) => e.1 == 1 && e.2 / 64 == c)).length
  let d := d.each (List.range 15) (fun r d =>
    ((d.put (ECC_REMAP_USE_used r) (used r)).put (ECC_REMAP_USE_free r) (remapSpares.getD r 0 - used r)).put
      (ECC_WITHDRAWN_units r) (out r))
  d.each (List.range 16) (fun c d => d.put (ECC_RSV_ROWS_used c) (rows c))

/-- The addresses from a to e, those of a rising list left out, as ranges. -/
def spans : Nat → Nat → List Nat → List (Nat × Nat)
  | a, e, [] => if a < e then [(a, e - a)] else []
  | a, e, c :: cs => if a ≤ c ∧ c < e then (if a < c then [(a, c - a)] else []) ++ spans (c + 1) e cs else spans a e cs

/-- The coins that the record withdraws, rising (R298 to R300): of Till words and of Reserve bursts. -/
def Dev.withdrawnCoins (d : Dev) : List Nat :=
  let l := d.mram.withdrawn.filterMap (fun (e : Nat × Nat) =>
    if e.1 = 0 then some (e.2 / 32) else if e.1 = 1 then some (e.2 / 2) else none)
  l.eraseDups.mergeSort (fun a b => decide (a ≤ b))

/-- The remap record is applied before the fill: withdrawn coins are in QUAR (R300). -/
def Dev.applyRecord (d : Dev) : Dev :=
  let bad := d.withdrawnCoins
  let d := d.each bad (fun c d => d.setCoin c (some (.quar, d.vlt.gen)))
  let till := spans 0 0x3C000 bad
  let bus := spans 0x3C000 0x40000 bad
  let d := { d with vlt := { d.vlt with freeTill := till, freeBus := bus } }
  ((d.put VLT_TILL_FREE_coins (freeCount till)).put VLT_BUS_FREE_coins (freeCount bus)).showRemaps

/-- t0: the always-on domain runs, and the release order of R358 begins. -/
def Dev.releaseBegins (d : Dev) : Dev :=
  let d := { d with pw := { d.pw with base := .start, asserted := false, t0 := d.now } }
  let d := ((d.each aonPages Dev.freeUnit).showSupply).applyRecord
  let d := (d.armIn ⟨.rootArray, 0, 0⟩ (usT 350)).armIn ⟨.options, 0, 0⟩ (usT 400)
  let d := if d.flag PWR_JRN_STAT_valid then d.raise pgPWR 11 else d
  d.refresh.syncMode

/-- The assertion phase ends where nothing holds it (R348 to R350). -/
def Dev.assertionEnds (d : Dev) : Dev :=
  if !d.pw.asserted || d.pw.resetnLow || d.pw.thermal || d.running ⟨.classDEnd, 0, 0⟩ then d else d.releaseBegins

/-- CLASS_D_ASSERTION_END: 200 µs have passed. -/
def opAssertionEnd (d : Dev) : Dev := d.onTimer ⟨.classDEnd, 0, 0⟩ Dev.assertionEnds

/-! ### Class D and class P -/

/-- Option copies after the first k of the 24 words of a write (R355). -/
def writeCopies (img : List Byte) (k : Nat) (l : List (List Byte × Nat)) : List (List Byte × Nat) :=
  l.zipIdx.map (fun (e : (List Byte × Nat) × Nat) =>
    let n := min 8 (k - 8 * e.2)
    (img.take (8 * n) ++ e.1.1.drop (8 * n), if n = 8 then 0 else e.1.2))

/-- An option write that a reset or a loss of supply cuts off: how many of its words are written the spec leaves open
(R351, R355). -/
def Dev.cutOptionWrite (d : Dev) : Dev :=
  if !d.running ⟨.optionWrite, 0, 0⟩ then d
  else
    let (x, d) := d.free 16
    let d := d.cancel ⟨.optionWrite, 0, 0⟩
    { d with mram := { d.mram with options := writeCopies d.upd.optImage (x % 25) d.mram.options } }

/-! The bank write of R371. -/

/-- The fabric address of an offset of a bank (Tables 13-4, 18-1). -/
def bankAddr (bank off : Nat) : Nat := 0x80000000 + bank * 0x6000000 + off

/-- Root periods that n bytes take at 32 MB/s. -/
def bankTime (n : Nat) : Nat := n * 150

/-- The words that a bank write has written once the word in progress has ended (R31, R351), in bytes. -/
def Dev.bankDone (d : Dev) : Nat :=
  match d.due ⟨.bankWrite, 0, 0⟩ with
  | some t => min d.upd.len ((d.upd.len - (t - d.now) / 150 + 7) / 8 * 8)
  | none => 0

/-- Copy n bytes of fabric memory. What the host window holds is the host's: its bytes are free values. -/
def Dev.copyBytes (src dst n : Nat) (d : Dev) : Dev :=
  if 2 ^ 39 ≤ src then
    d.each (List.range n) (fun k d =>
      let (x, d) := d.free 8
      d.wrByte (dst + k) (BitVec.ofNat 8 x))
  else
    let part := d.mem.filter (fun c => decide (src ≤ c.1) && decide (c.1 < src + n))
    let d := { d with mem := d.mem.filter (fun c => decide (c.1 < dst) || decide (dst + n ≤ c.1)) }
    d.each part (fun c d => d.wrByte (c.1 - src + dst) c.2)

/-- A bank write stops: what it has written stays written (R371), and no further word begins. -/
def Dev.stopBankWrite (d : Dev) : Dev :=
  if !d.running ⟨.bankWrite, 0, 0⟩ then d
  else
    let n := d.bankDone
    (d.cancel ⟨.bankWrite, 0, 0⟩).copyBytes d.upd.src (bankAddr d.upd.bank d.upd.dst) n

/-- Bits 15 to 0 of the version that was activated (Table 18-9). -/
def Dev.activated (d : Dev) : Nat := match d.upd.hdr with | some h => h.version % 65536 | none => 0

/-- An activation that was handed over and not confirmed is rolled back by a reset (R377). -/
def Dev.resetRollsBack (d : Dev) : Dev :=
  if d.get UPD_STAT_state ≠ 6 then d
  else
    let d := ((d.put UPD_LAST_outcome 4).put UPD_LAST_reason 0).put UPD_LAST_minor_patch d.activated
    { d with mram := { d.mram with rollback := true } }

/-- The remap record is cleared where that was requested (R300). -/
def Dev.clearRecord (d : Dev) : Dev :=
  if !d.ecc.clearRec then d
  else { d with mram := { d.mram with remapped := [], withdrawn := [] }, ecc := { d.ecc with clearRec := false, macros := [] } }

/-- MAIN stops: what an activation, an option write and a sleep round leave behind them, and every unit cleared. -/
def Dev.mainCleared (d : Dev) : Dev :=
  (((((d.resetRollsBack).cutOptionWrite).stopBankWrite).dropRound).each (List.range 24) Dev.releaseGpio).clearMain 1

/-- A class D reset takes effect (R347, R348): MAIN is cleared and the assertion phase begins, or begins again. -/
def Dev.classD (cause : Nat) (d : Dev) : Dev :=
  if !d.pw.main || !d.pw.rails || d.pw.losing then d
  else
    let d := if d.pw.base = .start then d.outcome 8 else d
    let d := d.mainCleared.clearRecord
    let d := (d.put RST_CAUSE_cause cause).put RST_CAUSE_class 1
    let d := (d.put KEY_STAT_prov (if d.key.closed then 0 else 1)).put HBR_STAT_perst (if d.hbr.perst then 1 else 0)
    let d := { d with pw := { d.pw with base := .start, asserted := true } }
    d.armIn ⟨.classDEnd, 0, 0⟩ (usT 200)

/-- A failed start: the outcome, and a class D reset (R361). -/
def Dev.startFails (o : Nat) (d : Dev) : Dev := (d.outcome o).classD 8

/-- A class B or U reset waits for the MRAM write pulse in progress, at most 1 µs; where in its word the write stands, and
so how long the wait is, the spec leaves open (R351). -/
def Dev.holdOff (d : Dev) : Dev :=
  if !(d.running ⟨.optionWrite, 0, 0⟩ || d.running ⟨.bankWrite, 0, 0⟩) then d
  else
    let (x, d) := d.free 16
    let n := x % 1001
    if n = 0 then d else (d.add RST_HOLDOFF_count 1).put RST_HOLDOFF_max_ns (max n (d.get RST_HOLDOFF_max_ns))

/-- The tamper latches at class P: their class P values, and what fired while MAIN was off (R247, R387). -/
def Dev.latchWaiting (d : Dev) : Dev :=
  if d.key.waiting.isEmpty then d
  else
    let d := d.put TMP_LATCH_sensors (d.key.waiting.foldl (fun (n : Nat) (e : TamperLog) => n ||| e.sensors) 0)
    (d.put TMP_STAT_alarm 1).put TMP_STAT_erase_pend 1

/-- A class P reset: everything is cleared, MAIN is switched on, and its rails ramp (R347, R17). -/
def Dev.classP (cause : Nat) (d : Dev) : Dev :=
  let d := d.clearMain 2
  let d := { d with pw := { Power.init with resetnLow := d.pw.resetnLow, rails := false, aon0 := d.now } }
  let d := { d with ecc := { d.ecc with clearRec := false } }
  let d := (d.put RST_CAUSE_cause cause).put RST_CAUSE_class 0
  let d := (d.put WAK_WSR_cause 1).put PWR_MAIN_STAT_main 1
  let d := (d.put KEY_STAT_prov (if d.key.closed then 0 else 1)).put HBR_STAT_perst (if d.hbr.perst then 1 else 0)
  d.latchWaiting.armIn ⟨.railsValid, 0, 0⟩ (msT 5)

/-! ### Class B (R284, R293, R347, R348) -/

/-- What brace b's TCM holds is filled with zero (R293). -/
def Dev.tcmCleared (b : Nat) (d : Dev) : Dev :=
  let lo := tcmAddr b 0
  { d with mem := d.mem.filter (fun c => decide (c.1 < lo) || decide (lo + 0x80000 ≤ c.1)) }

/-- Brace b stops: its watchdog, its copy and its test end. -/
def Dev.braceStops (b : Nat) (d : Dev) : Dev :=
  let d := if (d.pg (pgBRC b)).diag then d.setDiag (pgBRC b) false else d
  let d := (((d.cancel ⟨.wdg, b, 0⟩).cancel ⟨.resyncCopy, b, 0⟩).cancel ⟨.selfTest, b, 0⟩).put (BRC_ROLE_role b) 0
  let r := d.brc
  { d with brc := { r with kick := NMap.set 0 r.kick b 0, copied := r.copied.filter (· != b) } }

/-- The class B reset of one brace, by its cause: the registers of Table 13-7 that are not kept return to their reset values,
and the fill of its TCM and caches begins, unless the brace takes one reset too many (R284). -/
def Dev.resetBrace (b cause : Nat) (d : Dev) : Dev :=
  if !d.up || !d.pw.bracesOut || d.flag (BRC_ROLE_failed b) then d
  else
    let d := (d.holdOff.braceStops b).tcmCleared b
    let d := d.each [BRC_HO_STAT b, BRC_STEST_RES b, BRC_STEST_CMD b, BRC_WDG_CFG b, BRC_SB_REFUSED b] (fun a d => d.wr a (resetValue a))
    let d := ((d.put (BRC_ROLE_sb_ok b) 0).put (BRC_ROLE_bcause b) cause).count (BRC_RST_CNT b)
    let win := secT (d.get (BRC_FAIL_CFG_win_s 0))
    let times := d.now :: (NMap.get [] d.brc.bTimes b).filter (fun (t : Nat) => decide (d.now ≤ t + win))
    let d := { d with brc := { d.brc with bTimes := NMap.set [] d.brc.bTimes b times } }
    let d := d.put (PG_STATE_in_reset (pgBRC b)) 1
    let d := if max 1 (d.get (BRC_FAIL_CFG_lim 0)) < times.length then d.put (BRC_ROLE_failed b) 1
      else d.armIn ⟨.bFill, b, 0⟩ (usT 320)
    d.refreshFrom (pgBRC b)

/-! ### Halt (R29 to R31) -/

/-- An activation that has not been handed over ends without effect: the slot is disarmed and the Update condition ends
(R374 to R376). -/
def Dev.updOver (reason : Nat) (d : Dev) : Dev :=
  let d := (d.cancel ⟨.prepareCopy, 0, 0⟩).cancel ⟨.standby, 0, 0⟩
  let d := ((d.put UPD_HO_CTL_armed 0).put UPD_STAT_state 0).put UPD_STAT_reason reason
  let d := (d.put UPD_LAST_outcome 2).put UPD_LAST_reason reason
  let d := d.put UPD_LAST_minor_patch d.activated
  ({ d with pw := { d.pw with updating := false }, upd := { d.upd with target := none },
            wak := { d.wak with blocked := d.now } } : Dev).syncMode

/-- A prepare has been accepted and its launch tick has not come. -/
def Dev.activating (d : Dev) : Bool := decide (3 ≤ d.get UPD_STAT_state) && decide (d.get UPD_STAT_state ≤ 5)

/-- An abort of the activation: the brace it loaded takes a class B reset, and rejoins under the old image (R375). -/
def Dev.updEnds (reason : Nat) (d : Dev) : Dev :=
  if !d.activating then d
  else
    let t := d.upd.target
    let d := d.updOver reason
    match t with
    | some b => d.resetBrace (brIx b) 3
    | none => d

/-- A guard that starts to hold aborts the activation and raises GUARD (R374). -/
def Dev.guardAborts (reason : Nat) (d : Dev) : Dev := if d.activating then (d.updEnds reason).raise pgUPD 14 else d

/-- The outputs take the states of Table 17-2: links fall, what the buses were sending is cut off, and the GPIO pins are
released. -/
def Dev.silence (d : Dev) : Dev :=
  let d := d.each (List.range 24) Dev.releaseGpio
  let d := d.each (List.range 57) Dev.ethDown
  let d := d.each (List.range 4) Dev.vhDown
  let d := if d.flag HBR_STAT_link then d.pcieDown.hostGone else d
  let d := d.each (List.range 24) (fun ch d => (d.setCanCur ch none).put (CAN_STAT_busy ch) 0)
  d.each (List.range 8) (fun ch d => d.setLinAwait ch none)

/-- The internal gate-list slots are disarmed (R144, R145). -/
def Dev.dropStarts (d : Dev) : Dev :=
  let d := d.each (d.trm.tas.map (·.1)) (fun p d => (d.setTas p (d.tas p).dropPend).tasShow p)
  d.each (d.trm.gateRun.map (·.1)) (fun g d => d.setGateRun g (d.gateRun g).dropPend)

/-- Entry to Halt with a halt code of Table 17-5. -/
def Dev.haltEntry (why : Nat) (d : Dev) : Dev :=
  if !d.pw.main || !d.pw.rails || d.pw.losing then d
  else if d.pw.halted then d.rejectTrig 0x17
  else
    let d := (d.dropRound.guardAborts 0x0D).silence
    let d := { d with pw := { d.pw with halted := true, settling := false, faultn := false, readyUp := false } }
    let d := if d.pw.base = .start then d.outcome 9 else d
    let d := (d.put recHalt why).put recModeF d.mode
    let grouped := d.committing.any (fun pg => (d.pg pg).group != 0)
    let d := d.each d.committing (fun pg d => d.commitEnds pg csAborted rsHalt)
    let d := if grouped then d.groupStat csAborted rsHalt 0 else d
    (d.allFencesFail (fun _ => true)).dropStarts.refresh.syncMode

/-- The halt codes of Table 17-5. -/
def haltCode : HaltReason → Nat
  | .brace => 1 | .clock => 2 | .fault => 3

/-- UNRECOVERABLE_FAULT. -/
def opFault (why : HaltReason) (d : Dev) : Dev := d.haltEntry (haltCode why)

/-! ### Sources of a class D reset -/

def causeCode : ResetCause → Nat
  | .region13 => 5 | .thermal => 6 | .bothWatchdogs => 7 | .startFailure => 8 | .wake => 9

/-- CLASS_D_RESET: a start failure occurs in Start alone, and a wake only while MAIN is off, at the rails becoming valid
(R347). -/
def opClassD (cause : ResetCause) (d : Dev) : Dev :=
  match cause with
  | .wake => d
  | .startFailure => if d.pw.base = .start then d.classD 8 else if d.up then d.rejectTrig 0x09 else d
  | .thermal =>
    if !d.pw.main || !d.pw.rails || d.pw.losing then d
    else ({ d with pw := { d.pw with thermal := true } } : Dev).classD 6
  | c => d.classD (causeCode c)

/-- DEV_RESET (R55). -/
def opDevReset (i : Initiator) (v : Word) (d : Dev) : Dev :=
  d.access i (fun d => if v = 0x5A5A0960 then d.classD 4 else d.badAccess i true 0x12C)

/-- RESETN_ASSERT (R349): RESETN has been low for 1 µs. -/
def opResetnLow (d : Dev) : Dev :=
  if d.pw.resetnLow then d
  else
    let d := { d with pw := { d.pw with resetnLow := true } }
    if d.pw.base = .dormant ∨ d.pw.base = .listen then d.put WAK_WSR_SEEN_src (setBitTo (d.get WAK_WSR_SEEN_src) 11 true)
    else d.classD 3

/-- RESETN_RELEASE. -/
def opResetnHigh (d : Dev) : Dev :=
  if !d.pw.resetnLow then d
  else ({ d with pw := { d.pw with resetnLow := false } } : Dev).assertionEnds

/-- DIE_TEMP_SAMPLE (R350): the measurement of every 100 µs. -/
def opDieTemp (celsius : Int) (d : Dev) : Dev :=
  d.onTimer ⟨.dieTemp, 0, 0⟩ (fun d =>
    let d := d.armIn ⟨.dieTemp, 0, 0⟩ (usT 100)
    let d := (d.put RST_THERM_temp (min 255 (celsius + 64).toNat)).put RST_THERM_warn (if 125 < celsius then 1 else 0)
    if d.pw.asserted then
      if d.pw.thermal && decide (celsius < 120) then ({ d with pw := { d.pw with thermal := false } } : Dev).assertionEnds else d
    else
      let d := if 125 < celsius then d.raise pgRST 9 else d
      if celsius ≤ 140 then { d with pw := { d.pw with hotSince := none } }
      else
        match d.pw.hotSince with
        | none => { d with pw := { d.pw with hotSince := some d.now } }
        | some t =>
          if d.now < t + msT 1 then d
          else ({ d with pw := { d.pw with thermal := true } } : Dev).classD 6)

/-! ### Clocks (R15, R16) -/

/-- REFERENCE_CHECK: the check of every 1 ms. -/
def opReference (ppm : Int) (d : Dev) : Dev :=
  d.onTimer ⟨.refCheck, 0, 0⟩ (fun d =>
    let d := d.armIn ⟨.refCheck, 0, 0⟩ (msT 1)
    let ok := decide (-2000 ≤ ppm ∧ ppm ≤ 2000)
    let d :=
      if d.pw.asserted then d
      else (d.put CLK_REF_DEV_ppm (unsigned 16 (max (-32768) (min 32767 ppm)))).put CLK_STAT_ref_ok (if ok then 1 else 0)
    if ok || d.pw.halted then d else d.haltEntry 2)

/-- ROOT_PLL_LOCK_LOSS: every stable indicator falls. -/
def opLockLoss (d : Dev) : Dev :=
  if !d.up || !d.flag CLK_STAT_root_lock then d
  else
    let d := (d.put CLK_STAT_root_lock 0).put CLK_STAT_stable 0
    let d := { d with pw := { d.pw with lockLost := some d.now } }
    (d.armIn ⟨.pllLoss, 0, 0⟩ (usT 10)).refresh

/-- ROOT_PLL_RELOCK: the lock returns after `ns`, within 10 µs. -/
def opRelock (ns : Nat) (d : Dev) : Dev :=
  match d.pw.lockLost with
  | none => d
  | some t =>
    if !d.running ⟨.pllLoss, 0, 0⟩ || decide (10000 < ns) then d
    else
      let d := (d.at_ (t + nsT ns)).cancel ⟨.pllLoss, 0, 0⟩
      let d := { d with pw := { d.pw with lockLost := none, lockAt := d.now } }
      let d := (d.put CLK_STAT_root_lock 1).count CLK_LOL_CNT
      (d.put CLK_LOL_MAX_ns (max ns (d.get CLK_LOL_MAX_ns))).raise pgCLK 8

/-- ROOT_PLL_LOSS_TIMEOUT: the loss lasts 10 µs. -/
def opLockLossEnd (d : Dev) : Dev := d.onTimer ⟨.pllLoss, 0, 0⟩ (fun d => if d.pw.halted then d else d.haltEntry 2)

/-- The time from the root PLL's lock to a clock's stable indicator: the divider's first full period and 256 cycles (R15). -/
def stableAfter (c : Clock) : Nat := 257 * clockDiv c

/-- The root PLL has locked: at a start the first indicator shows when (log entry 66). -/
def Dev.locked1 (c : Clock) (d : Dev) : Dev :=
  if d.flag CLK_STAT_root_lock then d
  else { d.put CLK_STAT_root_lock 1 with pw := { d.pw with lockAt := d.now - stableAfter c } }

/-- CLOCK_STABLE: an indicator rises, 256 cycles of the clock and its first period after the lock. The units that wait for
the clock are released. -/
def opClockStable (c : Clock) (d : Dev) : Dev :=
  if !d.up || d.stable c || d.pw.lockLost.isSome then d
  else
    let d := d.locked1 c
    let d := (d.at_ (d.pw.lockAt + stableAfter c)).put CLK_STAT_stable (setBitTo (d.get CLK_STAT_stable) (clockIx c) true)
    let waiting := allPages.filter (fun pg => (d.pg pg).clockWait && d.clockOk pg)
    (d.each waiting Dev.freeUnit).refresh

/-- CLOCK_WAIT_TIMEOUT: the unit stays in reset and reports CLOCK_FAIL; without CK_BRC no brace can start (R359). -/
def opClockWait (pg : Nat) (d : Dev) : Dev :=
  d.onTimer ⟨.clockWait, pg, 0⟩ (fun d =>
    let d := d.modPg pg (fun s => { s with clockWait := false, clockFail := true })
    let bad := match clockOf pg with
      | some .vlt => [Clock.vlt, Clock.fab, Clock.dram].filter (fun c => !d.stable c)
      | some c => [c]
      | none => []
    let d := d.each bad (fun c d => d.put CLK_FAIL_clocks (setBitTo (d.get CLK_FAIL_clocks) (clockIx c) true))
    let d := (d.raise pgCLK 9).refreshFrom pg
    if clockOf pg = some .brc && d.pw.base = .start && !d.pw.halted then d.haltEntry 2 else d)

/-- ROOT_ARRAY_READ (R358). -/
def opRootArray (d : Dev) : Dev := d.onTimer ⟨.rootArray, 0, 0⟩ (fun d => d.put KEY_STAT_root 1)

/-! ### Supply (chapter 19) -/

/-- POWER_ON: VSUP has stayed above 7.5 V for 10 ms. -/
def opPowerOn (d : Dev) : Dev :=
  if d.pw.base = .off then d.classP (if d.pw.brown then 2 else 1) else if d.up then d.rejectTrig 0x01 else d

/-- MAIN_RAILS_VALID: the rails and the hold-up store are valid; RESETN low holds the reset (R349). -/
def opMainRails (d : Dev) : Dev :=
  d.endTimer ⟨.railsValid, 0, 0⟩ (fun d =>
    let d := { d with pw := { d.pw with rails := true, asserted := true } }
    let d := (d.armIn ⟨.dieTemp, 0, 0⟩ (usT 100)).armIn ⟨.refCheck, 0, 0⟩ (msT 1)
    let cause := d.get WAK_WSR_cause
    let d := if cause = 1 then (if d.pw.resetnLow then d.put WAK_WSR_cause 6 else d)
      else (d.put RST_CAUSE_cause 9).put RST_CAUSE_class 1
    let d := d.put KEY_STAT_prov (if d.key.closed then 0 else 1)
    (d.put HBR_STAT_perst (if d.hbr.perst then 1 else 0)).assertionEnds)

def brownCode : BrownOutCause → Nat
  | .undervoltage => 1 | .undervoltageTime => 2 | .overvoltage => 3 | .overvoltageTime => 4

/-- BROWN_OUT (R387), in any mode (Table 1-7): the supply-loss sequence begins; MAIN's units stop at tL, SUPEN outputs go
off, and nothing wakes the device. -/
def opBrownOut (cause : BrownOutCause) (vmin : Nat) (d : Dev) : Dev :=
  if d.pw.base = .off || d.pw.losing then d
  else
    let d := d.each (List.range 8) (fun n d => d.setSupen n false)
    let j := (brownCode cause, d.mode, d.ns, vmin)
    let d := if d.pw.main then d.mainCleared else { d with pw := { d.pw with base := .dormant } }
    let d := d.each [.railsValid, .classDEnd, .dieTemp, .refCheck, .mainDark, .listen] (fun k d => d.cancel ⟨k, 0, 0⟩)
    let d := { d with pw := { d.pw with brown := true, losing := true, asserted := true, thermal := false, journal := some j } }
    (d.armIn ⟨.journal, 0, 0⟩ (usT 200)).armIn ⟨.mainOff, 0, 0⟩ (msT 2)

/-- The power-loss journal and the halt field are written. -/
def Dev.writeJournal (d : Dev) : Dev :=
  match d.pw.journal with
  | none => d
  | some (cause, mode, ns, vmin) =>
    let d := ((d.put PWR_JRN_STAT_valid 1).put PWR_JRN_STAT_mode mode).put PWR_JRN_STAT_cause cause
    let d := (d.put PWR_JRN_STAT_vmin (vmin / 2)).wr64 PWR_JRN_T_LO PWR_JRN_T_HI ns
    let d := (d.put recHalt 4).put recModeF mode
    { d with pw := { d.pw with journal := none } }

/-- POWER_LOSS_JOURNAL_WRITTEN. -/
def opJournal (d : Dev) : Dev := d.endTimer ⟨.journal, 0, 0⟩ Dev.writeJournal

/-- SUPPLY_LOSS_MAIN_OFF: the journal has been written by then. -/
def opSupplyOff (d : Dev) : Dev :=
  d.endTimer ⟨.mainOff, 0, 0⟩ (fun d =>
    let d := (d.writeJournal).cancel ⟨.journal, 0, 0⟩
    let d := d.mainOff .off
    { d with pw := { d.pw with losing := false } })

/-- A report of VSUP. -/
def Dev.seeVsup (v : Nat) (d : Dev) : Dev :=
  let d := { d with pw := { d.pw with vsup := v } }
  if d.up then d.showSupply else d

/-- VSUP_CRANK_ENTRY: VSUP has fallen below 8.0 V. -/
def opCrank (mv10 : Nat) (d : Dev) : Dev :=
  if d.pw.base = .off || decide (800 ≤ mv10) then d
  else
    let d := (d.seeVsup mv10).count PWR_CRANK_CNT
    if d.up then d.raise pgPWR 9 else d

/-- VSUP_OV_ENTRY: VSUP has risen above 40.0 V. -/
def opOvervoltage (mv10 : Nat) (d : Dev) : Dev :=
  if d.pw.base = .off || decide (mv10 ≤ 4000) then d
  else
    let d := (d.seeVsup mv10).count PWR_OV_CNT
    if d.up then d.raise pgPWR 10 else d

/-- VSUP_UV_WARN: VSUP has fallen below the warning level of the options. -/
def opUvWarn (mv10 : Nat) (d : Dev) : Dev :=
  if !d.up || !d.pw.optionsLoaded || decide (25 * d.opt 10 ≤ mv10) then d else (d.seeVsup mv10).raise pgPWR 8

/-! ### The meanings of the commands of this file -/

/-- POWER_ON (R386). -/
def execPowerOn (s : State) : Host.Outcome State Fault Refusal :=
  effect opPowerOn s

/-- MAIN_RAILS_VALID (R358). -/
def execMainRailsValid (s : State) : Host.Outcome State Fault Refusal :=
  effect opMainRails s

/-- BROWN_OUT (R387). -/
def execBrownOut (cause : BrownOutCause) (vmin : Nat) (s : State) : Host.Outcome State Fault Refusal :=
  effectIf (decide (vmin < 8192)) (opBrownOut cause vmin) s

/-- POWER_LOSS_JOURNAL_WRITTEN (R387). -/
def execPowerLossJournalWritten (s : State) : Host.Outcome State Fault Refusal :=
  effect opJournal s

/-- SUPPLY_LOSS_MAIN_OFF (R387). -/
def execSupplyLossMainOff (s : State) : Host.Outcome State Fault Refusal :=
  effect opSupplyOff s

/-- VSUP_CRANK_ENTRY (R386). -/
def execVsupCrankEntry (mv10 : Nat) (s : State) : Host.Outcome State Fault Refusal :=
  effect (opCrank mv10) s

/-- VSUP_OV_ENTRY (R386). -/
def execVsupOvEntry (mv10 : Nat) (s : State) : Host.Outcome State Fault Refusal :=
  effect (opOvervoltage mv10) s

/-- VSUP_UV_WARN (R396). -/
def execVsupUvWarn (mv10 : Nat) (s : State) : Host.Outcome State Fault Refusal :=
  effect (opUvWarn mv10) s

/-- RESETN_ASSERT (R349). -/
def execResetnAssert (s : State) : Host.Outcome State Fault Refusal :=
  effect opResetnLow s

/-- RESETN_RELEASE (R349). -/
def execResetnRelease (s : State) : Host.Outcome State Fault Refusal :=
  effect opResetnHigh s

/-- DEV_RESET (R55). -/
def execDevReset (i : Initiator) (v : Word) (s : State) : Host.Outcome State Fault Refusal :=
  effect (opDevReset i v) s

/-- CLASS_D_RESET (R347). -/
def execClassDReset (cause : ResetCause) (s : State) : Host.Outcome State Fault Refusal :=
  effect (opClassD cause) s

/-- CLASS_D_ASSERTION_END (R348). -/
def execClassDAssertionEnd (s : State) : Host.Outcome State Fault Refusal :=
  effect opAssertionEnd s

/-- DIE_TEMP_SAMPLE (R350). -/
def execDieTempSample (celsius : Int) (s : State) : Host.Outcome State Fault Refusal :=
  effect (opDieTemp celsius) s

/-- REFERENCE_CHECK (R16). -/
def execReferenceCheck (ppm : Int) (s : State) : Host.Outcome State Fault Refusal :=
  effect (opReference ppm) s

/-- ROOT_PLL_LOCK_LOSS (R16). -/
def execRootPllLockLoss (s : State) : Host.Outcome State Fault Refusal :=
  effect opLockLoss s

/-- ROOT_PLL_RELOCK (R16). -/
def execRootPllRelock (ns : Nat) (s : State) : Host.Outcome State Fault Refusal :=
  effect (opRelock ns) s

/-- ROOT_PLL_LOSS_TIMEOUT (R16). -/
def execRootPllLossTimeout (s : State) : Host.Outcome State Fault Refusal :=
  effect opLockLossEnd s

/-- CLOCK_STABLE (R15). -/
def execClockStable (c : Clock) (s : State) : Host.Outcome State Fault Refusal :=
  effect (opClockStable c) s

/-- CLOCK_WAIT_TIMEOUT (R359). -/
def execClockWaitTimeout (pg : Nat) (s : State) : Host.Outcome State Fault Refusal :=
  effectIf (isPage pg) (opClockWait pg) s

/-- ROOT_ARRAY_READ (R358). -/
def execRootArrayRead (s : State) : Host.Outcome State Fault Refusal :=
  effect opRootArray s

/-- UNRECOVERABLE_FAULT (R29). -/
def execUnrecoverableFault (why : HaltReason) (s : State) : Host.Outcome State Fault Refusal :=
  effect (opFault why) s

/-- UNIT_RESET_END (R37). -/
def execUnitResetEnd (pg : Nat) (s : State) : Host.Outcome State Fault Refusal :=
  effectIf (isPage pg) (opUnitResetEnd pg) s

end Sys2Proof.Machine
end

