-- ==== Sys2Proof/Machine/TableDma.lean ====
section
/-!
DEFINITION. Table DMA: the descriptor rings, the operations of Table 4-12, entry locks and ring halts (R101 to R105).
-/

namespace Sys2Proof.Machine

/-! Status codes (Table 4-13). -/
def stOk : Nat := 0x00
def stNotFound : Nat := 0x01
def stExists : Nat := 0x02
def stFull : Nat := 0x03
def stLocked : Nat := 0x04
def stLockLimit : Nat := 0x05
def stBadOp : Nat := 0x06
def stReserved : Nat := 0x07
def stUe : Nat := 0x08
def stHalt : Nat := 0x09
def stNotLocked : Nat := 0x0A

/-- A ring's size in descriptors. -/
def Dev.ringSize (d : Dev) (c : Nat) : Nat := 2 ^ (max 4 (min 12 (d.get (TBL_RING_SIZE_log2 c))))

def Dev.ringHead (d : Dev) (c : Nat) : Nat := d.get (TBL_RING_HEAD_index c)
def Dev.ringTail (d : Dev) (c : Nat) : Nat := d.get (TBL_RING_TAIL_index c)

/-- The fabric address of the descriptor at the head. -/
def Dev.ringAddr (d : Dev) (c : Nat) : Nat :=
  d.get (TBL_RING_HI_base c) * 2 ^ 32 + d.get (TBL_RING_LO_base c) * 128 + d.ringHead c * 128

/-- The ring has a descriptor to process: enabled, not halted, and not empty (R101). -/
def Dev.ringBusy (d : Dev) (c : Nat) : Bool :=
  decide (c < 2) && d.flag (TBL_RING_CTRL_en c) && !d.flag (TBL_RING_STAT_halted c) &&
  decide (d.ringHead c % d.ringSize c ≠ d.ringTail c % d.ringSize c) && d.works pgTBL

/-- The bytes of a descriptor at write-back: own cleared, status, index, epoch, and the entry or rule read. -/
def dmaBytes (op : Nat) (x : TblDesc) (status index epoch : Nat) (res : Option (Nat × Nat)) : List Byte :=
  let w0 := op + x.table % 16 * 2 ^ 8 + status * 2 ^ 16 + (if x.irq then 2 ^ 30 else 0)
  let (key, entry) := res.getD (x.key, x.entry)
  leBytes 4 w0 ++ leBytes 4 index ++ leBytes 8 epoch ++ leBytes 64 key ++ leBytes 48 entry

/-- Write a descriptor back, clear own, advance HEAD, then raise DONEc where asked (R101). -/
def Dev.writeBack (c op : Nat) (x : TblDesc) (status index : Nat) (res : Option (Nat × Nat)) (d : Dev) : Dev :=
  let d := d.fabWrite 4 (d.ringAddr c) (dmaBytes op x status index d.epoch res)
  let d := d.put (TBL_RING_HEAD_index c) ((d.ringHead c + 1) % d.ringSize c)
  let d := d.fenceTook pgTBL c
  if x.irq then d.raise pgTBL (8 + c) else d

/-- A descriptor that halts the ring with status UE (R101): written back where possible and passed. -/
def Dev.ringHalt (c op : Nat) (x : TblDesc) (d : Dev) : Dev :=
  let at_ := d.ringHead c
  let d := d.writeBack c op x stUe x.index none
  let d := ((d.put (TBL_RING_STAT_halted c) 1).put (TBL_RING_STAT_cause c) stUe).put (TBL_RING_STAT_at c) at_
  d.raise pgTBL 10

/-- Process the descriptor at the head of a ring: the operation answers its status, its index and what it read. -/
def Dev.dma (c op : Nat) (x : TblDesc) (f : Dev → Nat × Nat × Option (Nat × Nat) × Dev) (d : Dev) : Dev :=
  if !d.ringBusy c || !x.own || d.running ⟨.flush, c, 0⟩ then d
  else if d.pw.halted then d.writeBack c op x stHalt x.index none
  else if x.ue = 1 then d.ringHalt c op x
  else
    let (st, ix, res, d) := f d
    if st = stUe then d.ringHalt c op x else d.writeBack c op x st ix res

/-! ### Locks (R102) -/

/-- Set the lock of an entry and start its time-out. -/
def Dev.lockEnt (t i : Nat) (d : Dev) : Dev :=
  let d := d.setEnt t i (nset (d.ent t i) (lockBit t) (lockBit t) 1)
  let d := { d with fwd := { d.fwd with locks := d.fwd.locks ++ [(t, i)] } }
  d.showLocks.armIn ⟨.tableLock, t, i⟩ (msT (max 1 (d.get TBL_LOCK_TMO_ms)))

/-- Clear the lock of an entry; events parked for its key are then served. -/
def Dev.unlockEnt (t i : Nat) (d : Dev) : Dev :=
  let k := keyOf t (d.ent t i)
  let d := d.setEnt t i (nset (d.ent t i) (lockBit t) (lockBit t) 0)
  d.lockOver t i k

/-- LOCK_EXPIRY: a lock lasts `LOCK_TMO` and clears without a write. -/
def opLockExpiry (t i : Nat) (d : Dev) : Dev :=
  d.onTimer ⟨.tableLock, t, i⟩ (fun d => ((d.unlockEnt t i).count TBL_LOCK_EXP).raise pgTBL 11)

/-! ### Operations (Table 4-12) -/

/-- A key in its table's width. -/
def dmaKeyOf (t e : Nat) : Nat := keyOf t e

/-- The descriptor's key in its table's width. -/
def dmaKey (x : TblDesc) : Nat := keyOf x.table x.key

/-- The entry names a reserved port as a source or destination (R4, R101). A replication list names none: its bits of
reserved ports read 0 (R94). -/
def namesReserved (t e : Nat) : Bool :=
  match t with
  | 0 => (!nbit e 81 && reservedPort (nb e 70 64)) || reservedPort (nb e 94 88)
  | 2 => reservedPort (nb e 6 0) || (!nbit e 76 && reservedPort (nb e 70 64))
  | 5 => let a := nb e 639 512
         ((nb a 2 0 == 2 || nb a 2 0 == 3) && !nbit a 3 && reservedPort (nb a 15 4)) ||
           (nb e 262 256 == 127 && reservedPort (nb e 6 0))
  | _ => false

/-- Bits of an entry of a hashed table (Table 4-4). -/
def entryBits (t : Nat) : Nat := 64 * tblWords t

/-- The entry that a write of a hashed table stores, in its width: the operation's key, valid 1, lock 0, and on a MAC entry the
learned fields as for a learned entry (R101). -/
def Dev.hashedEntry (d : Dev) (x : TblDesc) : Nat :=
  let t := x.table
  let w := x.entry % 2 ^ entryBits t
  let e := w - keyOf t w + dmaKey x
  let e := nset (nset e (validBit t) (validBit t) 1) (lockBit t) (lockBit t) 0
  if t = 0 then
    let e := nset (nset (nset (nset e 85 85 1) 86 86 0) 97 95 0) 113 98 0
    nset e 114 114 (if d.fwd.parity then 1 else 0)
  else e

/-- The entry is refused: a stream identification type other than 1 to 3 (Table 4-6). -/
def badEntry (x : TblDesc) : Bool := x.table == 1 && (nb x.key 2 0 == 0 || decide (3 < nb x.key 2 0))

/-- A pinned entry written with `pinned` 1 restarts its hold; written with 0 it loses it (R98). -/
def Dev.pinWritten (t i : Nat) (d : Dev) : Dev :=
  if t = 0 then
    let e := d.ent 0 i
    if nbit e 83 then d.startPin (keyOf 0 e) else d.cancel ⟨.pin, keyOf 0 e, 0⟩
  else d

/-- By key: NOT_FOUND, UE of the entry read, LOCKED, or go on with its index. -/
def Dev.byKey (x : TblDesc) (lockMatters : Bool) (f : Nat → Dev → Nat × Nat × Option (Nat × Nat) × Dev) (d : Dev) :
    Nat × Nat × Option (Nat × Nat) × Dev :=
  if 3 ≤ x.table then (stBadOp, x.index, none, d)
  else
    match d.findKey x.table (dmaKey x) with
    | none => (stNotFound, x.index, none, d)
    | some i =>
      if x.ue = 2 then (stUe, i, none, d.tableUe 4 x.table i)
      else if lockMatters && isLocked x.table (d.ent x.table i) then (stLocked, i, none, d)
      else f i d

/-- What a read of a hashed entry returns. -/
def Dev.readBack (d : Dev) (x : TblDesc) (i : Nat) : Option (Nat × Nat) := some (x.key, d.ent x.table i)

/-- TBL_INSERT; with `ue` 2 an entry that its search reads, `bad`, is uncorrectable. -/
def opTblInsert (c : Nat) (x : TblDesc) (d : Dev) : Dev :=
  d.dma c 0x1 x (fun d =>
    if 3 ≤ x.table || badEntry x then (stBadOp, x.index, none, d)
    else if namesReserved x.table (d.hashedEntry x) then (stReserved, x.index, none, d)
    else if x.ue = 2 then (stUe, x.bad, none, d.tableUe 4 x.table x.bad)
    else
      match d.findKey x.table (dmaKey x) with
      | some i =>
        if isLocked x.table (d.ent x.table i) then (stLocked, i, none, d) else (stExists, i, none, d)
      | none =>
        match d.insert x.table (d.hashedEntry x) with
        | some (i, d) => (stOk, i, none, d.pinWritten x.table i)
        | none => (stFull, x.index, none, d.raise pgTBL 12))

/-- TBL_UPDATE. -/
def opTblUpdate (c : Nat) (x : TblDesc) (d : Dev) : Dev :=
  d.dma c 0x2 x (fun d =>
    if badEntry x then (stBadOp, x.index, none, d)
    else if decide (x.table < 3) && namesReserved x.table (d.hashedEntry x) then (stReserved, x.index, none, d)
    else d.byKey x true (fun i d =>
      (stOk, i, none, (d.rewrite x.table i (d.hashedEntry x)).pinWritten x.table i)))

/-- TBL_DELETE. -/
def opTblDelete (c : Nat) (x : TblDesc) (d : Dev) : Dev :=
  d.dma c 0x3 x (fun d => d.byKey x true (fun i d => (stOk, i, none, d.remove x.table i)))

/-- TBL_LOOKUP. -/
def opTblLookup (c : Nat) (x : TblDesc) (d : Dev) : Dev :=
  d.dma c 0x4 x (fun d => d.byKey x false (fun i d => (stOk, i, d.readBack x i, d)))

/-- TBL_READ_IDX: a ternary rule returns its value and mask as the key and its action as the entry. -/
def opTblReadIdx (c : Nat) (x : TblDesc) (d : Dev) : Dev :=
  d.dma c 0x5 x (fun d =>
    if tblSize x.table ≤ x.index then (stBadOp, x.index, none, d)
    else if x.ue = 2 then (stUe, x.index, none, d.tableUe 4 x.table x.index)
    else
      let e := d.ent x.table x.index
      (stOk, x.index, some (if x.table = 5 then (nb e 511 0, nb e 639 512)
                            else if x.table < 3 then (keyOf x.table e, e) else (x.key, e)), d))

/-- A replication list as it is stored: the bits of ports 0 to 61 and 64 to 97 (R4, R94). -/
def listEntry (e : Nat) : Nat := nb e 61 0 + nb e 97 64 * 2 ^ 64

/-- The whole entry of table 3, 4 or 5 as given; a list's bits of reserved ports are not kept (R4, R94). -/
def dmaWhole (x : TblDesc) : Nat :=
  match x.table with
  | 3 => x.entry % 2 ^ 64
  | 4 => listEntry x.entry
  | _ => x.key % 2 ^ 512 + x.entry % 2 ^ 128 * 2 ^ 512

/-- TBL_WRITE_IDX: tables 3 to 5; a ternary action code 5 to 7 is refused (Table 4-9). -/
def opTblWriteIdx (c : Nat) (x : TblDesc) (d : Dev) : Dev :=
  d.dma c 0x6 x (fun d =>
    if x.table < 3 || decide (tblSize x.table ≤ x.index) || (x.table == 5 && decide (5 ≤ nb x.entry 2 0)) then
      (stBadOp, x.index, none, d)
    else if namesReserved x.table (dmaWhole x) then (stReserved, x.index, none, d)
    else (stOk, x.index, none, d.rewrite x.table x.index (dmaWhole x)))

/-- TBL_READ_LOCK. -/
def opTblReadLock (c : Nat) (x : TblDesc) (d : Dev) : Dev :=
  d.dma c 0x7 x (fun d => d.byKey x true (fun i d =>
    if 16 ≤ d.fwd.locks.length then (stLockLimit, i, none, d)
    else
      let d := d.lockEnt x.table i
      (stOk, i, d.readBack x i, d)))

/-- TBL_WRITE_UNLOCK. -/
def opTblWriteUnlock (c : Nat) (x : TblDesc) (d : Dev) : Dev :=
  d.dma c 0x8 x (fun d =>
    if badEntry x then (stBadOp, x.index, none, d)
    else if decide (x.table < 3) && namesReserved x.table (d.hashedEntry x) then (stReserved, x.index, none, d)
    else d.byKey x false (fun i d =>
      if isLocked x.table (d.ent x.table i) then
        (stOk, i, none, ((d.rewrite x.table i (d.hashedEntry x)).pinWritten x.table i).unlockEnt x.table i)
      else (stNotLocked, i, none, d)))

/-- TBL_UNLOCK. -/
def opTblUnlock (c : Nat) (x : TblDesc) (d : Dev) : Dev :=
  d.dma c 0x9 x (fun d => d.byKey x false (fun i d =>
    if isLocked x.table (d.ent x.table i) then (stOk, i, none, d.unlockEnt x.table i)
    else (stNotLocked, i, none, d)))

/-- A learned MAC entry, one that is not static, that a FLUSH matches: by dest where entry bit 17 is set, by FID where bit 18
is set. -/
def flushMatch (x : TblDesc) (e : Nat) : Bool :=
  isValid 0 e && !nbit e 82 &&
  (!nbit x.entry 17 || nb e 80 64 == nb x.entry 16 0) && (!nbit x.entry 18 || nb e 59 48 == nb x.entry 31 20)

/-- TBL_FLUSH: the flush starts; it ends within 2 ms with its write-back. -/
def opTblFlush (c : Nat) (x : TblDesc) (d : Dev) : Dev :=
  if !d.ringBusy c || !x.own || d.running ⟨.flush, c, 0⟩ then d
  else if d.pw.halted then d.writeBack c 0xA x stHalt x.index none
  else if x.ue = 1 then d.ringHalt c 0xA x
  else if x.table ≠ 0 then d.writeBack c 0xA x stBadOp x.index none
  else { d.armIn ⟨.flush, c, 0⟩ (msT 2) with fwd := { d.fwd with flushes := d.fwd.flushes ++ [⟨c, x⟩] } }

/-- TBL_FLUSH_DONE: unlocked matches are gone, those in the stash first; locked ones are skipped with status LOCKED (R102).
An entry read that is uncorrectable, `bad`, halts the ring (R101). -/
def opTblFlushDone (c : Nat) (d : Dev) : Dev :=
  d.endTimer ⟨.flush, c, 0⟩ (fun d =>
    match d.fwd.flushes.find? (fun f => f.ring == c) with
    | none => d
    | some f =>
      let d := { d with fwd := { d.fwd with flushes := d.fwd.flushes.filter (fun f => f.ring != c) } }
      if f.desc.ue = 2 then (d.tableUe 4 0 f.desc.bad).ringHalt c 0xA f.desc
      else
        let all := (d.fwd.tab.filter (fun e => decide (e.1 < 2 ^ 20))).map (·.1)
        let hits := (all.filter (fun i => flushMatch f.desc (d.ent 0 i))).reverse
        let locked := hits.any (fun i => isLocked 0 (d.ent 0 i))
        let d := d.each hits (fun i d =>
          if flushMatch f.desc (d.ent 0 i) && !isLocked 0 (d.ent 0 i) then d.remove 0 i else d)
        d.writeBack c 0xA f.desc (if locked then stLocked else stOk) f.desc.index none)

/-- TBL_EPOCH. -/
def opTblEpoch (c : Nat) (x : TblDesc) (d : Dev) : Dev := d.dma c 0xB x (fun d => (stOk, x.index, none, d))

/-- TBL_RING_RESUME: `RING_CTRL.resume` (R101). -/
def opTblResume (i : Initiator) (c : Nat) (d : Dev) : Dev :=
  d.writeMixed i pgTBL (0x118 + 0x20 * c) 2 (fun _ d => d.put (TBL_RING_STAT_halted c) 0)

/-- Unit reset of TBL (R105): both rings halt with cause 0 at HEAD and all locks clear. -/
def Dev.tblReset (d : Dev) : Dev :=
  let d := d.each [0, 1] (fun c d =>
    (((d.put (TBL_RING_STAT_halted c) 1).put (TBL_RING_STAT_cause c) 0).put (TBL_RING_STAT_at c) (d.ringHead c)).cancel
      ⟨.flush, c, 0⟩)
  let d := d.raise pgTBL 10
  let d := { d with fwd := { d.fwd with flushes := [] } }
  d.each d.fwd.locks (fun e d => d.unlockEnt e.1 e.2)

/-! ### The meanings of the commands of this file -/

/-- TBL_INSERT (R93). -/
def execTblInsert (ring : Nat) (d : TblDesc) (s : State) : Host.Outcome State Fault Refusal :=
  effectIf (decide (ring < 2) && d.wf) (opTblInsert ring d) s

/-- TBL_UPDATE (R101). -/
def execTblUpdate (ring : Nat) (d : TblDesc) (s : State) : Host.Outcome State Fault Refusal :=
  effectIf (decide (ring < 2) && d.wf) (opTblUpdate ring d) s

/-- TBL_DELETE (R101). -/
def execTblDelete (ring : Nat) (d : TblDesc) (s : State) : Host.Outcome State Fault Refusal :=
  effectIf (decide (ring < 2) && d.wf) (opTblDelete ring d) s

/-- TBL_LOOKUP (R101). -/
def execTblLookup (ring : Nat) (d : TblDesc) (s : State) : Host.Outcome State Fault Refusal :=
  effectIf (decide (ring < 2) && d.wf) (opTblLookup ring d) s

/-- TBL_READ_IDX (R101). -/
def execTblReadIdx (ring : Nat) (d : TblDesc) (s : State) : Host.Outcome State Fault Refusal :=
  effectIf (decide (ring < 2) && d.wf) (opTblReadIdx ring d) s

/-- TBL_WRITE_IDX (R101). -/
def execTblWriteIdx (ring : Nat) (d : TblDesc) (s : State) : Host.Outcome State Fault Refusal :=
  effectIf (decide (ring < 2) && d.wf) (opTblWriteIdx ring d) s

/-- TBL_READ_LOCK (R102). -/
def execTblReadLock (ring : Nat) (d : TblDesc) (s : State) : Host.Outcome State Fault Refusal :=
  effectIf (decide (ring < 2) && d.wf) (opTblReadLock ring d) s

/-- TBL_WRITE_UNLOCK (R102). -/
def execTblWriteUnlock (ring : Nat) (d : TblDesc) (s : State) : Host.Outcome State Fault Refusal :=
  effectIf (decide (ring < 2) && d.wf) (opTblWriteUnlock ring d) s

/-- TBL_UNLOCK (R102). -/
def execTblUnlock (ring : Nat) (d : TblDesc) (s : State) : Host.Outcome State Fault Refusal :=
  effectIf (decide (ring < 2) && d.wf) (opTblUnlock ring d) s

/-- TBL_FLUSH (R101). -/
def execTblFlush (ring : Nat) (d : TblDesc) (s : State) : Host.Outcome State Fault Refusal :=
  effectIf (decide (ring < 2) && d.wf) (opTblFlush ring d) s

/-- TBL_FLUSH_DONE (R101). -/
def execTblFlushDone (ring : Nat) (s : State) : Host.Outcome State Fault Refusal :=
  effectIf (decide (ring < 2)) (opTblFlushDone ring) s

/-- TBL_EPOCH (R101). -/
def execTblEpoch (ring : Nat) (d : TblDesc) (s : State) : Host.Outcome State Fault Refusal :=
  effectIf (decide (ring < 2) && d.wf) (opTblEpoch ring d) s

/-- TBL_RING_RESUME (R101). -/
def execTblRingResume (i : Initiator) (ring : Nat) (s : State) : Host.Outcome State Fault Refusal :=
  effectIf (decide (ring < 2)) (opTblResume i ring) s

/-- LOCK_EXPIRY (R102). -/
def execLockExpiry (table : Nat) (slot : Nat) (s : State) : Host.Outcome State Fault Refusal :=
  effectIf (TblAt.wf ⟨table, slot⟩) (opLockExpiry table slot) s

end Sys2Proof.Machine
end

