-- ==== Sys2Proof/Machine/Checks.lean ====
section
/-!
DEFINITION. The consistency checks of the pages (R41): what each page's check refuses, in the order of its registers, so
that the first that holds names the first failing field.
-/

namespace Sys2Proof.Machine

/-- A case that a check refuses: whether it holds, the register concerned, and the reason. -/
structure Chk where
  bad : Bool
  addr : Nat
  reason : Nat
  deriving DecidableEq, Repr

/-- A case refused with CONSISTENCY. -/
def chk (addr : Nat) (bad : Bool) : Chk := ⟨bad, addr, rsConsistency⟩

/-- A case refused with RESERVED_PORT. -/
def chkPort (addr : Nat) (bad : Bool) : Chk := ⟨bad, addr, rsReservedPort⟩

/-- The shadow of a field, and of a register. -/
def Dev.sh (d : Dev) (f : FRef) : Nat := d.get f.shadow
def Dev.shf (d : Dev) (f : FRef) : Bool := d.flag f.shadow
def Dev.shw (d : Dev) (a : Nat) : Word := d.rd (a + 0x800)

/-- The shadowed fields of a register, in place. -/
def RegRow.staged (r : RegRow) (v : Word) : Nat :=
  r.flds.foldl (fun n f => n + (if f.acc = .rws then bitsOf v f.hi f.lo * 2 ^ f.lo else 0)) 0

/-- A register's shadow differs from its reset value, and from its live value. -/
def Dev.shNonDefault (d : Dev) (a : Nat) : Bool :=
  match liveRow a with
  | some r => r.staged (d.shw a) != r.staged r.rst
  | none => false
def Dev.shDiffers (d : Dev) (a : Nat) : Bool :=
  match liveRow a with
  | some r => r.staged (d.shw a) != r.staged (d.rd a)
  | none => false

/-- Records as they stand after a commit: the live ones overlaid with the staged ones. -/
def overlay (live staged : NMap Nat) (dirty : List Nat) : NMap Nat :=
  dirty.foldl (fun m k => NMap.set 0 m k (NMap.get 0 staged k)) live

/-! ### The Vault and the forwarding tables -/

/-- VLT page 0 (R74). -/
def Dev.chkVlt0 (d : Dev) : List Chk :=
  let s := d.sh
  [chk VLT_TILL_SPILL (decide (s VLT_TILL_SPILL_coins < s VLT_TILL_XON_coins)),
   chk VLT_TILL_XOFF (decide (s VLT_TILL_XOFF_coins < s VLT_HEADROOM_coins)),
   chk VLT_TILL_XON (decide (s VLT_TILL_XON_coins ≤ s VLT_TILL_XOFF_coins)),
   chk VLT_SHR_XON (decide (s VLT_SHR_XON_coins ≤ s VLT_SHR_XOFF_coins)),
   chk VLT_MC_PIN_XON (decide (s VLT_MC_PIN_XOFF_coins ≤ s VLT_MC_PIN_XON_coins))]

/-- VLT page 1 (R74). -/
def Dev.chkVlt1 (d : Dev) : List Chk :=
  let s := d.sh
  let ds := List.range 16
  let sum := ds.foldl (fun n i => n + s (VLT_ACCT_RES_coins i) + s (VLT_ACCT_BUS_coins i)) (d.get VLT_HEADROOM_coins)
  ds.map (fun i => chk (VLT_ACCT_XOFF i)
    (decide (s (VLT_ACCT_XOFF_coins i) ≤ s (VLT_ACCT_XON_coins i)) ||
     decide (s (VLT_ACCT_RES_coins i) + s (VLT_ACCT_BUS_coins i) + s (VLT_ACCT_SHR_coins i) < s (VLT_ACCT_XOFF_coins i)))) ++
  [chk (VLT_ACCT_RES 0) (decide (totalCoins < sum))]

/-- VLT page 4 (R74). -/
def Dev.chkVlt4 (d : Dev) : List Chk :=
  let sum := (List.range 62).foldl (fun n p => n + d.sh (VLT_HDRM_coins p) + 36) 0
  [chk (VLT_HDRM 0) (decide (d.get VLT_HEADROOM_coins < sum))]

/-- QUE (R86): the ranges of Table 3-12, and cut-through classes only on ports 0 to 56 and 58 to 61. -/
def Dev.chkQue (d : Dev) : List Chk :=
  let out (v lo hi : Nat) : Bool := decide (v < lo) || decide (hi < v)
  (List.range 8).map (fun c => chk (QUE_SPILL_THR c) (out (d.sh (QUE_SPILL_THR_coins c)) 16 131072)) ++
  (List.range 8).map (fun c => chk (QUE_MC_HOLD c) (out (d.sh (QUE_MC_HOLD_us c)) 100 1000000)) ++
  [chk QUE_DRR_Q (decide (d.sh QUE_DRR_Q_bytes < 256))] ++
  (List.range 98).map (fun p =>
    let on := d.shw (QUE_CT_CFG p) != 0
    if reservedPort p then chkPort (QUE_CT_CFG p) on
    else chk (QUE_CT_CFG p) ((decide (p = 57) || decide (61 < p)) && on))

/-- FWD: seeds of a table with entries, the relocation bound (R93), and non-default settings of reserved ports. -/
def Dev.chkFwd (d : Dev) : List Chk :=
  (List.range 3).map (fun t => chk (FWD_SEED t 0)
    (decide (d.get (TBL_ENTRIES_entries t) ≠ 0) && (d.shDiffers (FWD_SEED t 0) || d.shDiffers (FWD_SEED t 1)))) ++
  [chk FWD_RELOC (d.sh FWD_RELOC_moves == 0 || decide (32 < d.sh FWD_RELOC_moves))] ++
  [62, 63].map (fun p => chkPort (FWD_PORT_CFG p) (d.shNonDefault (FWD_PORT_CFG p)))

/-! ### The traffic manager -/

/-- TRM page 1 (R126): staged stream records. -/
def Dev.chkStreams (d : Dev) : List Chk :=
  d.trm.streamsD.map (fun s =>
    let r := NMap.get 0 d.trm.streamsS s
    chk (TRM_STR_DATA 0) (nbit r 135 &&
      ((nb r 101 78 == 0 && nb r 125 102 == 0) || (nb r 51 26 == 0 && nb r 77 52 == 0) || nb r 129 128 == 3)))

/-- A cycle outside 1,000 ns to 1,000,000,000 ns (R123). -/
def badCycle (c : Nat) : Bool := decide (c < 1000) || decide (1000000000 < c)

/-- TRM page 2 (R122, R123): staged stream gate records. -/
def Dev.chkGates (d : Dev) : List Chk :=
  d.trm.gatesD.map (fun g =>
    let r := NMap.get 0 d.trm.gatesS g
    let len := nb r 15 9
    chk (TRM_SG_DATA 0) (gateList (d.gateRec g) != gateList r &&
      ((d.gateRun g).pend.isSome ||
       (nbit r 0 && (len == 0 || decide (64 < len) || badCycle (nb r 125 96) ||
          (List.range len).any (fun k => decide (nb (d.gateEnt g (nb r 1 1) k) 31 0 < 40)))))))

/-- TRM page 3 (R114): staged recovery records; `hist` 0 is no length (DEDUCED, log entry 32). -/
def Dev.chkRecs (d : Dev) : List Chk :=
  d.trm.recsD.map (fun f =>
    let r := NMap.get 0 d.trm.recsS f
    chk (TRM_FR_DATA 0) (nbit r 0 &&
      ((!nbit r 1 && nb r 6 2 == 0) || nb r 22 7 == 0 || (nbit r 24 && nb r 56 41 == 0))))

/-- The registers of a port's gate list. -/
def tasRegs (p : Nat) : List Nat :=
  [TRM_TAS_CTRL p, TRM_TAS_LEN p, TRM_TAS_BASE_LO p, TRM_TAS_BASE_HI p, TRM_TAS_CYCLE p, TRM_TAS_EXT p]

/-- The shadowed registers of a port's block (Table 5-8). -/
def portBlock (p : Nat) : List Nat := tasRegs p ++ [TRM_TAS_ADV p, TRM_PRE_CFG p, TRM_EGR_CFG p]

/-- A commit of a port's block would start a list: one that changes its list registers with `en` 1. -/
def Dev.tasStaged (d : Dev) (p : Nat) : Bool := (tasRegs p).any d.shDiffers

/-- A list that R123 refuses. -/
def Dev.badTas (d : Dev) (p : Nat) : Bool :=
  let len := d.sh (TRM_TAS_LEN_len p)
  let ents := (List.range len).map (d.gclEnt p (d.sh (TRM_TAS_CTRL_bank p)))
  let pre := d.shf (TRM_PRE_CFG_pre_en p)
  len == 0 || decide (1024 < len) || badCycle (d.sh (TRM_TAS_CYCLE_ns p)) ||
  ents.any (fun e => decide (nb e 31 0 < 40) || nb e 41 40 == 3 || (!pre && nb e 41 40 != 0))

/-- TRM pages 4 to 6 (R122, R123, R127). -/
def Dev.chkPorts (d : Dev) (k : Nat) : List Chk :=
  ((List.range 20).map (fun j => 20 * (k - 4) + j)).flatMap (fun p =>
    if 57 ≤ p then (portBlock p).map (fun a => chk a (d.shNonDefault a))
    else
      [chk (TRM_TAS_CTRL p) (d.tasStaged p && ((d.tas p).pend.isSome || (d.shf (TRM_TAS_CTRL_en p) && d.badTas p)))])

/-- The highest rate of an Ethernet port, kb/s (Table 7-1). -/
def topRate (p : Nat) : Nat :=
  if p < 4 then 25000000 else if p < 16 then 10000000 else if p < 40 then 1000000 else 100000

/-- TRM pages 7 and 8: the idle slopes of the shaped classes of a port (R118, R127). -/
def Dev.chkShapers (d : Dev) (k : Nat) : List Chk :=
  ((List.range 32).map (fun j => 32 * (k - 7) + j)).map (fun p =>
    let words := (List.range 8).map (TRM_SHAPER p)
    if p = 62 ∨ p = 63 then chkPort (TRM_SHAPER p 0) (words.any d.shNonDefault)
    else if 57 ≤ p then chk (TRM_SHAPER p 0) (words.any d.shNonDefault)
    else
      let sum := (List.range 8).foldl (fun n c =>
        n + if d.shf (TRM_SHAPER_en p c) then d.sh (TRM_SHAPER_idle_slope p c) else 0) 0
      chk (TRM_SHAPER p 0) (decide (topRate p < sum)))

/-! ### Time and the Ethernet ports -/

/-- TIM (R131, R150). -/
def Dev.chkTim (d : Dev) : List Chk :=
  let s := d.sh
  [chk TIM_SRC (s TIM_SRC_src == 1 && d.sh (TIM_DOM_CFG_en (s TIM_SRC_slot)) == 0),
   chk TIM_SERVO_CFG (decide (s TIM_SERVO_CFG_ki < s TIM_SERVO_CFG_kp)),
   chk TIM_STEP_THR (decide (s TIM_STEP_THR_ns < 100)),
   chk TIM_OUTLIER (decide (s TIM_OUTLIER_ns < s TIM_STEP_THR_ns)),
   chk TIM_HOLD_TMO (decide (s TIM_HOLD_TMO_ms < 10)),
   chk TIM_RATE_MAX (s TIM_RATE_MAX_ppm == 0 || decide (1000 < s TIM_RATE_MAX_ppm))]

/-- ETH n (R169). -/
def Dev.chkEth (d : Dev) (n : Nat) : List Chk :=
  let s := d.sh
  [chk (ETH_CFG n) (decide (s (ETH_CFG_max_len n) < 64) || decide (9216 < s (ETH_CFG_max_len n))),
   chk (ETH_CFG n) (decide (4 ≤ n) && s (ETH_CFG_vox n) == 1),
   chk (ETH_FC_CFG n) (s (ETH_FC_CFG_quanta n) == 0),
   chk (ETH_PWD_CFG n) (decide (s (ETH_PWD_CFG_ms n) < 10) || s (ETH_PWD_CFG_action n) == 3),
   chk (ETH_PWD_IGN n) (s (ETH_PWD_IGN_ms n) == 0),
   chk (ETH_MAC_HI n) (bitAt (s (ETH_MAC_HI_mac n)) 8),
   chk (ETH_LINK_CFG n) (decide (10000 < s (ETH_LINK_CFG_hold_ms n)))]

/-- PHY n (R170). -/
def Dev.chkPhy (d : Dev) (n : Nat) : List Chk :=
  let v := d.sh (PHY_CFG_speed n)
  [chk (PHY_CFG n) (decide (4 ≤ n) && decide (n < 16) && (decide (v < 3) || decide (5 < v)))]

/-! ### CAN and LIN -/

/-- CK_CAN cycles of one bit: brp × (1 + tseg1 + tseg2); the rate is 80,000,000 over it (R174). -/
def bitCycles (brp t1 t2 : Nat) : Nat := brp * (1 + t1 + t2)

/-- A rate above `lim` b/s, or no rate. -/
def tooFast (cycles lim : Nat) : Bool := cycles == 0 || decide (lim * cycles < 80000000)

/-- The regions of a channel's message RAM as staged: register, base and size in words (R176). -/
def Dev.canRegions (d : Dev) (n : Nat) : List (Nat × Nat × Nat) :=
  let s := d.sh
  ((List.range 2).map (fun b => (CAN_LB_FLT n b, s (CAN_LB_FLT_base n b), 3 * s (CAN_LB_FLT_n n b)))) ++
  ((List.range 2).map (fun b => (CAN_LB_OWN n b, s (CAN_LB_OWN_base n b), 2 * s (CAN_LB_OWN_n n b)))) ++
  [(CAN_OBJ_CFG n, s (CAN_OBJ_CFG_base n), 2 * itemWords (s (CAN_OBJ_CFG_dcap n)) * s (CAN_OBJ_CFG_n n)),
   (CAN_RXF0_CFG n, s (CAN_RXF0_CFG_base n), itemWords (s (CAN_RXF0_CFG_dcap n)) * s (CAN_RXF0_CFG_n n)),
   (CAN_RXF1_CFG n, s (CAN_RXF1_CFG_base n), itemWords (s (CAN_RXF1_CFG_dcap n)) * s (CAN_RXF1_CFG_n n))]

/-- Two regions share a word. -/
def sharing (a b : Nat × Nat × Nat) : Bool :=
  decide (a.2.2 ≠ 0) && decide (b.2.2 ≠ 0) && decide (a.2.1 < b.2.1 + b.2.2) && decide (b.2.1 < a.2.1 + a.2.2)

/-- The check of the regions: each against those named before it, and against the end of the RAM. -/
def regionChks : List (Nat × Nat × Nat) → List (Nat × Nat × Nat) → List Chk
  | _, [] => []
  | done, r :: rest =>
    chk r.1 ((decide (r.2.2 ≠ 0) && decide (16384 < r.2.1 + r.2.2)) || done.any (sharing r)) :: regionChks (done ++ [r]) rest

/-- CAN n (R174, R176, R192). -/
def Dev.chkCan (d : Dev) (n : Nat) : List Chk :=
  let s := d.sh
  let nom := bitCycles (s (CAN_NBT_brp n)) (s (CAN_NBT_tseg1 n)) (s (CAN_NBT_tseg2 n))
  let fd := bitCycles (s (CAN_DBT_brp n)) (s (CAN_DBT_tseg1 n)) (s (CAN_DBT_tseg2 n))
  let xl := bitCycles (s (CAN_XBT_brp n)) (s (CAN_XBT_tseg1 n)) (s (CAN_XBT_tseg2 n))
  let on := (List.range 16).filter (fun k => d.shf (CAN_TO_CFG_en n k))
  let key (k : Nat) : Nat × Nat := (s (CAN_TO_ID_fmt n k), s (CAN_TO_ID_id n k))
  [chk (CAN_CFG n) (s (CAN_CFG_proto n) == 3),
   chk (CAN_NBT n) (tooFast nom 1000000 || decide (s (CAN_NBT_tseg2 n) < s (CAN_NBT_sjw n))),
   chk (CAN_DBT n) (tooFast fd 8000000 || decide (s (CAN_DBT_tseg2 n) < s (CAN_DBT_sjw n)) || decide (nom < fd)),
   chk (CAN_XBT n) (tooFast xl 20000000 || decide (s (CAN_XBT_tseg2 n) < s (CAN_XBT_sjw n)) || decide (nom < xl)),
   chk (CAN_XPWM n) (d.flag (CAN_TRX_xl_fast n) && s (CAN_XPWM_pwms n) + s (CAN_XPWM_pwml n) != xl),
   chk (CAN_OBJ_CFG n) (decide (256 < s (CAN_OBJ_CFG_n n)) || s (CAN_OBJ_CFG_dcap n) == 3),
   chk (CAN_RXF0_CFG n) (s (CAN_RXF0_CFG_dcap n) == 3),
   chk (CAN_RXF1_CFG n) (s (CAN_RXF1_CFG_dcap n) == 3)] ++
  regionChks [] (d.canRegions n) ++
  on.map (fun k => chk (CAN_TO_ID n k)
    ((key k).1 == 3 || ((key k).1 == 2 && s (CAN_CFG_proto n) != 2) || on.any (fun j => decide (j < k) && key j == key k)))

/-- Register names of a LIN channel's schedule. -/
def schRegs (n : Nat) : List Nat := [LIN_SCH_CTL n, LIN_SCH_BASE_LO n, LIN_SCH_BASE_HI n]

/-- A schedule list that R188 and R189 refuse: its length, an entry of type 3, or a slot shorter than 1.4 × (34 + 10 ×
(len + 1)) bit times. -/
def Dev.badSch (d : Dev) (n : Nat) : Bool :=
  let len := d.sh (LIN_SCH_CTL_len n)
  len == 0 || decide (64 < len) ||
  (List.range len).any (fun k =>
    let e := d.schEnt n (d.sh (LIN_SCH_CTL_bank n)) k
    let l := d.sh (LIN_RESP_len n (nb e 5 0))
    nb e 7 6 == 3 || decide (nb e 31 16 * d.sh (LIN_CFG_baud n) * 10 < 14 * (34 + 10 * (l + 1)) * 1000000))

/-- LIN n (R188, R189, R193). -/
def Dev.chkLin (d : Dev) (n : Nat) : List Chk :=
  let s := d.sh
  [chk (LIN_CFG n) (decide (s (LIN_CFG_baud n) < 1000) || decide (20000 < s (LIN_CFG_baud n)) ||
     decide (s (LIN_CFG_brk n) < 13) || decide (26 < s (LIN_CFG_brk n)) || s (LIN_CFG_del n) == 0 ||
     (s (LIN_CFG_role n) == 0 && s (LIN_CFG_term n) == 1)),
   chk (LIN_SCH_CTL n) (s (LIN_CFG_role n) == 0 && d.shf (LIN_SCH_CTL_en n)),
   chk (LIN_SCH_CTL n) ((schRegs n).any d.shDiffers &&
     ((d.schRun n).pend.isSome || (d.shf (LIN_SCH_CTL_en n) && d.badSch n))),
   chk (LIN_CFG n) (d.shDiffers (LIN_CFG n) && d.shf (LIN_SCH_CTL_en n) && d.badSch n),
   chk (LIN_RESP n 0) ((List.range 64).any (fun i => d.shDiffers (LIN_RESP n i)) && d.shf (LIN_SCH_CTL_en n) && d.badSch n)] ++
  (List.range 64).map (fun i => chk (LIN_RESP n i)
    (s (LIN_RESP_dir n i) == 3 || s (LIN_RESP_len n i) == 0 || decide (8 < s (LIN_RESP_len n i))))

/-! ### Kalow (R195, R197, R205, R207, R209, R215) -/

/-- The visited bits of every placement lie within n bytes, and no two share one. -/
def disjoint : List Nat → List Nat → Bool
  | _, [] => true
  | seen, b :: bs => !seen.contains b && disjoint (b :: seen) bs

/-- A layout that R195 refuses. -/
def badLayout (plcs : List Nat) (len : Nat) : Bool :=
  let bits := plcs.flatMap plcVisit
  bits.any (fun b => decide (8 * len ≤ b)) || !disjoint [] bits

/-- A placement that R195 and R197 refuse. -/
def badPlacement (r : Nat) : Bool :=
  let ty := nb r 22 21
  ty == 3 || nb r 55 40 == 0 || (ty == 2 && (nb r 55 40 != 1 || nb r 60 56 != 0 || nb r 95 64 != 0))

/-- The ports of an output route, a replication list's members each. -/
def Dev.routePorts (d : Dev) (r : Nat) : List Nat := if nbit r 51 then d.listPorts (nb r 50 39) else [nb r 50 39]

/-- A template that is refused on a container: the wrong kind, or IPv4 options (R205, R207). -/
def badTemplate (rec_ : Nat → Nat) (r : Nat) : Bool :=
  let t := nb r 79 72
  let c := nb (rec_ (kmTemplate * 2 ^ 14 + t + 256)) 31 0
  let ip := nbit c 7
  let first := nb (rec_ (kmTemplate * 2 ^ 14 + t)) (8 * nb c 14 8 + 7) (8 * nb c 14 8)
  (ip != (nb r 3 2 == 2)) || (ip && first != 0x45)

/-- An output route that R205, R207 and R209 refuse. -/
def Dev.badOutRoute (d : Dev) (rec_ : Nat → Nat) (r : Nat) : Bool :=
  let kind := nb r 3 2
  let len := nb (rec_ (kmLayout * 2 ^ 14 + nb r 15 4)) 11 0
  let fmt := nb r 102 101
  if kind = 0 then
    (fmt == 3 && (decide (8 < len) || (d.routePorts r).any (fun p => decide (p < 88) || decide (95 < p)))) ||
    (decide (fmt ≤ 1) && (d.routePorts r).any (fun p => decide (p < 64) || decide (87 < p))) ||
    (fmt == 2 && (len == 0 || decide (2048 < len))) ||
    (decide (fmt ≤ 1) && (if nbit r 103 then decide (64 < len) else decide (8 < len)))
  else badTemplate rec_ r || (kind == 3 && (nbit r 16 || nbit r 17 || nbit r 18))

/-- A record of Table 9-14 that the check refuses with CONSISTENCY. -/
def Dev.badKlw (d : Dev) (rec_ : Nat → Nat) (k r : Nat) : Bool :=
  let m := k / 2 ^ 14
  let i := k % 2 ^ 14
  if kmSize m ≤ i then true
  else if m = kmPlacement then badPlacement r
  else if m = kmLayout then
    let n := nb r 34 26
    let ps := (List.range n).map (fun j => rec_ (kmPlacement * 2 ^ 14 + nb r 25 12 + j))
    r != 0 && (decide (256 < n) || nb r 11 0 == 0 || decide (2048 < nb r 11 0) || decide (16384 < nb r 25 12 + n) ||
      ps.any badPlacement || badLayout ps (nb r 11 0))
  else if m = kmRoute then
    nbit r 0 &&
      (if nbit r 1 then d.badOutRoute rec_ r
       else if nb r 3 2 == 3 then nb (rec_ (kmRoute * 2 ^ 14 + nb r 76 64)) 3 1 != 7
       else (nb r 3 2 == 1 || nb r 3 2 == 2) && decide (4096 < nb r 40 28 + nb r 49 41))
  else if m = kmMap then
    nbit r 55 && nbit r 56 && (let q := rec_ (kmRoute * 2 ^ 14 + nb r 69 57); nbit q 1 || nb q 3 2 != 0)
  else false

/-- A record that names a reserved destination port. -/
def klwReserved (k r : Nat) : Bool :=
  let m := k / 2 ^ 14
  (m == kmRoute && nbit r 0 && nbit r 1 && !nbit r 51 && reservedPort (nb r 50 39)) ||
  (m == kmMap && nbit r 55 && nbit r 70 && !nbit r 83 && reservedPort (nb r 82 71))

/-- KLW page 1: the staged records, and the live records that name one. -/
def Dev.chkKlw (d : Dev) : List Chk :=
  let m := overlay d.kal.recs d.kal.recsS d.kal.recsD
  let rec_ (k : Nat) : Nat := NMap.get 0 m k
  if d.kal.recsD.isEmpty then []
  else
    (m.map (·.1) ++ d.kal.recsD).map (fun (k : Nat) =>
      if klwReserved k (rec_ k) then chkPort (KLW_D_DATA 0) true else chk (KLW_D_DATA 0) (d.badKlw rec_ k (rec_ k))) ++
    d.kal.recsD.map (fun k => chk (KLW_D_DATA 0) (decide (kmSize (k / 2 ^ 14) ≤ k % 2 ^ 14)))

/-! ### Security -/

/-- A context record that R228, R230 and R234 refuse. -/
def badCtx (rec_ : Nat → Nat) (r : Nat) : Bool :=
  let fmt := ctxFmt r
  let cm := fmt == 3 || fmt == 4
  let maxS := nb r 223 192 + nb r 239 232 * 2 ^ 32
  let warn := nb r 191 160 + nb r 231 224 * 2 ^ 32
  decide (5 ≤ fmt) ||
  (cm && (nb r 117 116 == 3 || (nb r 117 116 == 2 && decide (nb r 115 113 < 3)) || nb r 115 113 == 0 ||
     decide (4 < nb r 115 113) || decide (nb r 112 108 < 3) || decide (16 < nb r 112 108) ||
     decide (nb r 122 118 < 10) || decide (30 < nb r 122 118) || decide (2045 < nb r 107 96) ||
     decide (2048 < nb r 107 96 + nb r 115 113 + nb r 112 108))) ||
  (fmt == 3 && nbit r 156 && ctxFmt (rec_ (nb r 155 144)) != 4) ||
  ((fmt == 2 || fmt == 4) && (maxS == 0 || decide (maxS < warn))) ||
  (fmt == 2 && !nbit r 96 && decide (2 ^ 32 - 1 < maxS)) ||
  (fmt == 1 && decide (56 < nb r 18 12))

/-- AUT (R217, R234). -/
def Dev.chkAut (d : Dev) : List Chk :=
  let m := overlay d.aut.ctx d.aut.ctxS d.aut.ctxD
  let rec_ (k : Nat) : Nat := NMap.get 0 m k
  let s := d.sh
  let tx := (List.range 57).filter (fun p => d.shf (AUT_PORT_tx_en p))
  m.map (fun (e : Nat × Nat) =>
    if ctxFmt e.2 = 1 ∧ reservedPort (nb e.2 18 12) then chkPort (AUT_CTX_DATA 0) true
    else chk (AUT_CTX_DATA 0) (badCtx rec_ e.2)) ++
  (List.range 57).map (fun p =>
    let t := s (AUT_PORT_tx_ctx p)
    let x := rec_ (s (AUT_PORT_rx_dflt p))
    chk (AUT_PORT p)
      (s (AUT_PORT_validate p) == 3 ||
       (tx.contains p && (ctxFmt (rec_ t) != 2 || tx.any (fun q => decide (q < p) && s (AUT_PORT_tx_ctx q) == t) ||
         (decide (p < 4) && d.flag (ETH_CFG_vox p)))) ||
       (d.shf (AUT_PORT_dflt_v p) && (ctxFmt x != 1 || nb x 18 12 != p)))) ++
  [chk AUT_ENG_ISO (decide (((List.range 32).filter (fun k =>
      !bitAt (s AUT_ENG_ISO_eng) k && !bitAt (d.get AUT_ENG_FAIL_eng) k)).length < 24) &&
    d.shDiffers AUT_ENG_ISO)]

/-! ### Sleep, supply, host bridge and cascade -/

/-- WAK (R256, R269, R272). -/
def Dev.chkWak (d : Dev) : List Chk :=
  let s := d.sh
  let code (p : Nat) : Nat := nb (s (WAK_SEG_MAP_seg (p / 8))) (4 * (p % 8) + 3) (4 * (p % 8))
  [chk WAK_CONS_CFG (s WAK_CONS_CFG_ring_n == 0 || decide (1024 < s WAK_CONS_CFG_ring_n)),
   chk WAK_CONS_TIM (decide (s WAK_CONS_TIM_lead_ms * 1000 ≤ s WAK_CONS_TIM_guard_us)),
   chk WAK_CONS_TMO (s WAK_CONS_TMO_ms == 0),
   chk WAK_UNSEG_IDLE (s WAK_UNSEG_IDLE_ms == 0)] ++
  (List.range 96).map (fun p =>
    let a := WAK_SEG_MAP (p / 8)
    if reservedPort p then chkPort a (code p != 15)
    else chk a (code p != 15 && ((decide (57 ≤ p) && decide (p ≤ 61)) || (decide (p < 4) && d.flag (ETH_CFG_vox p))))) ++
  (List.range 15).map (fun g => chk (WAK_SEG_DISP g) ((List.range 8).any (fun c => nb (s (WAK_SEG_DISP_disp g)) (2 * c + 1) (2 * c) == 3))) ++
  (List.range 8).map (fun k => chk (WAK_SL_PER k)
    (d.flag (WAK_SL_CTL_rearm k) && d.flag (WAK_SL_CTL_armed k) && decide (d.get (WAK_SL_PER_ns k) < 1000000)))

/-- PWR (R257). -/
def Dev.chkPwr (d : Dev) : List Chk :=
  (List.range 8).map (fun n => chk (PWR_SUPEN_CFG n) (d.sh (PWR_SUPEN_CFG_mode n) == 3))

/-- The areas of R311: the register space, MRAM and the host window (Table 13-4). -/
def areaOf (a : Nat) : Nat :=
  if 0x40000000 ≤ a ∧ a < 0x44000000 then 1
  else if 0x80000000 ≤ a ∧ a < 0x90000000 then 2
  else if 0x8000000000 ≤ a ∧ a < 0x10000000000 then 3
  else 0

/-- A range table entry that R311 refuses. -/
def Dev.badRange (d : Dev) (i : Nat) : Bool :=
  let n := d.sh (HBR_RANGE_CFG_log2 i)
  let base := d.sh (HBR_RANGE_LO_base i) * 2 ^ 12 + d.sh (HBR_RANGE_HI_base i) * 2 ^ 32
  let area := areaOf base
  d.shf (HBR_RANGE_CFG_en i) &&
    (decide (n < 12) || decide (39 < n) || base % 2 ^ n != 0 || area == 0 || areaOf (base + 2 ^ n - 1) != area ||
     (area == 2 && d.shf (HBR_RANGE_CFG_ack i)))

/-- HBR (R311, R327). -/
def Dev.chkHbr (d : Dev) : List Chk :=
  let s := d.sh
  let w := s HBR_WIN_SIZE_log2
  let base := s HBR_WIN_BASE_LO_base + s HBR_WIN_BASE_HI_base * 2 ^ 32
  [chk HBR_LINK_CFG (decide (10000 < s HBR_LINK_CFG_hold_ms)),
   chk HBR_CPL_TMO (decide (s HBR_CPL_TMO_us < 50) || decide (50000 < s HBR_CPL_TMO_us)),
   chk HBR_RTV_CFG (decide (s HBR_RTV_CFG_hold_us < 10) || decide (2000 < s HBR_RTV_CFG_wait_ns)),
   chk HBR_PF_CFG (decide (s HBR_PF_CFG_age_ns < 100)),
   chk HBR_WIN_BASE_LO (base % 2 ^ w != 0),
   chk HBR_WIN_SIZE (w != 0 && (decide (w < 12) || decide (39 < w)))] ++
  (List.range 16).map (fun i => chk (HBR_RANGE_LO i) (d.badRange i))

/-- The path entries that the check of VHL 0 refuses: an alternate equal to the primary, and a vox code of a port that is
no vox port. -/
def Dev.badPath (d : Dev) (v : Nat) : Bool :=
  let vox (c : Nat) : Bool := decide (4 ≤ c) && !d.flag (ETH_CFG_vox (c - 4))
  nbit v 31 && (vox (nb v 2 0) || (nbit v 13 && (nb v 10 8 == nb v 2 0 || vox (nb v 10 8))))

/-- VHL n (R346). -/
def Dev.chkVhl (d : Dev) (n : Nat) : List Chk :=
  let s := d.sh
  let sum := (List.range 8).foldl (fun t c => t + s (VHL_CRED_INIT_coins n c)) 0
  let hi := s (VHL_HOLD_WM_hi n)
  [chk (VHL_CFG n) (s (VHL_CFG_down_unc n) == 0 || (d.shf (VHL_CFG_en n) && d.get (VHL_VC_STAT_role 0) == 0)),
   chk (VHL_CRED_INIT n 0) (decide (d.get (VLT_HDRM_coins (58 + n)) < sum)),
   chk (VHL_HOLD_WM n) (decide (1888 < hi) || decide (hi ≤ s (VHL_HOLD_WM_lo n)))] ++
  (if n ≠ 0 then []
   else
    [chk (VHL_VC_CFG 0) (s (VHL_VC_CFG_hop_max 0) == 0 || decide (s (VHL_VC_CFG_hello_us 0) < 10) ||
       decide (10000 < s (VHL_VC_CFG_hello_us 0))),
     chk (VHL_VC_TMR 0) (decide (s (VHL_VC_TMR_sync_us 0) < 100) || decide (s (VHL_VC_TMR_mloss 0) < 2)),
     chk (VHL_CC_CFG 0) (decide (s (VHL_CC_CFG_lead_us 0) < 100) || decide (s (VHL_CC_CFG_guard_us 0) < 10) ||
       decide (s (VHL_CC_CFG_lead_us 0) ≤ s (VHL_CC_CFG_guard_us 0)))] ++
    (overlay d.voh.paths d.voh.pathsS d.voh.pathsD).map (fun (e : Nat × Nat) => chk (VHL_PATH_DATA 0) (d.badPath e.2)))

/-! ### The check of a page -/

/-- The cases of a page's check; a page whose rules refuse nothing passes. -/
def Dev.checks (d : Dev) (pg : Nat) : List Chk :=
  match pageKind pg with
  | none => []
  | some (k, n) =>
    match k with
    | .vlt0 => d.chkVlt0
    | .vlt1 => d.chkVlt1
    | .vlt4 => d.chkVlt4
    | .que => d.chkQue
    | .fwd => d.chkFwd
    | .lrn => [chk LRN_SWEEP_PER (decide (d.sh LRN_SWEEP_PER_ms < 10))]
    | .trm1 => d.chkStreams
    | .trm2 => d.chkGates
    | .trm3 => d.chkRecs
    | .trmP => d.chkPorts n
    | .trm7 => d.chkShapers 7
    | .trm8 => d.chkShapers 8
    | .tim => d.chkTim
    | .eth => d.chkEth n
    | .phy => d.chkPhy n
    | .can => d.chkCan n
    | .lin => d.chkLin n
    | .klw0 => [chk KLW_MOTION_OFF (decide (signed 32 (d.sh KLW_MOTION_ON_value) < signed 32 (d.sh KLW_MOTION_OFF_value)))]
    | .klw1 => d.chkKlw
    | .aut => d.chkAut
    | .tmp => [chk TMP_FILT (d.sh TMP_FILT_us == 0)]
    | .wak => d.chkWak
    | .pwr => d.chkPwr
    | .hbr => d.chkHbr
    | .vhl => d.chkVhl n
    | _ => []

/-- The first case that holds, if any: the page passes its check otherwise. -/
def Dev.checkPage (d : Dev) (pg : Nat) : Option Chk := (d.checks pg).find? (fun c => c.bad)

end Sys2Proof.Machine
end

