-- ==== Sys2Proof/Machine/Commit.lean ====
section
/-!
DEFINITION. Shadows and commits (R39 to R45, R342, R343): the commit commands of a page and of a group, the end of the
check, and the effect of a commit, with what each page's commit starts in its unit.
-/

namespace Sys2Proof.Machine

/-! ### Shadows -/

/-- The live addresses of a page at which the live register or its shadow is listed. -/
def Dev.pageAddrs (d : Dev) (pg : Nat) : List Nat :=
  let mine := d.regs.filter (fun e => decide (e.1 / 0x1000 = pg) && decide (0x100 ≤ e.1 % 0x1000))
  (mine.map (fun e => if 0x800 ≤ e.1 % 0x1000 then e.1 - 0x800 else e.1)).eraseDups

/-- The registers of a page whose shadow differs from the live register. -/
def Dev.changedRegs (d : Dev) (pg : Nat) : List Nat := (d.pageAddrs pg).filter d.shDiffers

/-- A word with the shadowed fields of another. -/
def RegRow.mix (r : RegRow) (live sh : Word) : Word :=
  BitVec.ofNat 32 (r.flds.foldl (fun n f => n + bitsOf (if f.acc = .rws then sh else live) f.hi f.lo * 2 ^ f.lo) 0)

/-- Copy the shadowed fields of a register: shadow to live, and live to shadow. -/
def Dev.shadowToLive (a : Nat) (d : Dev) : Dev :=
  match liveRow a with
  | some r => d.wr a (r.mix (d.rd a) (d.shw a))
  | none => d
def Dev.liveToShadow (a : Nat) (d : Dev) : Dev :=
  match liveRow a with
  | some r => d.wr (a + 0x800) (r.mix (d.shw a) (d.rd a))
  | none => d

/-- A record is staged that differs from its live record. -/
def stagedDiffer (live staged : NMap Nat) (l : List Nat) : Bool :=
  l.any (fun k => NMap.get 0 live k != NMap.get 0 staged k)

/-- Some window record of a page is staged and differs (R126). -/
def Dev.recordsDirty (d : Dev) (pg : Nat) : Bool :=
  match pageKind pg with
  | some (.trm1, _) => stagedDiffer d.trm.streams d.trm.streamsS d.trm.streamsD
  | some (.trm2, _) => stagedDiffer d.trm.gates d.trm.gatesS d.trm.gatesD
  | some (.trm3, _) => stagedDiffer d.trm.recs d.trm.recsS d.trm.recsD
  | some (.klw1, _) => stagedDiffer d.kal.recs d.kal.recsS d.kal.recsD
  | some (.aut, _) => stagedDiffer d.aut.ctx d.aut.ctxS d.aut.ctxD
  | some (.vhl, 0) => stagedDiffer d.voh.paths d.voh.pathsS d.voh.pathsD
  | _ => false

/-- `PG_STATE.dirty` (Table 2-7): a shadow or a staged record differs from what is live. -/
def Dev.dirty (d : Dev) (pg : Nat) : Bool := (d.pageAddrs pg).any d.shDiffers || d.recordsDirty pg

/-- Drop a page's staged records. -/
def Dev.dropRecords (pg : Nat) (d : Dev) : Dev :=
  match pageKind pg with
  | some (.trm1, _) => { d with trm := { d.trm with streamsS := [], streamsD := [] } }
  | some (.trm2, _) => { d with trm := { d.trm with gatesS := [], gatesD := [] } }
  | some (.trm3, _) => { d with trm := { d.trm with recsS := [], recsD := [] } }
  | some (.klw1, _) => { d with kal := { d.kal with recsS := [], recsD := [] } }
  | some (.aut, _) => { d with aut := { d.aut with ctxS := [], ctxD := [] } }
  | some (.vhl, 0) => { d with voh := { d.voh with pathsS := [], pathsD := [] } }
  | _ => d

/-- Every live RWS field goes back to its shadow and every staged record to what is live (command 5 of R41). -/
def Dev.revert (pg : Nat) (d : Dev) : Dev := (d.each (d.changedRegs pg) Dev.liveToShadow).dropRecords pg

/-! ### The effect of a commit -/

/-- What a unit does in the commit tick, before the copy: shapers settle their credit under the old slopes, and lookups in
flight keep the values that change (R40). -/
def Dev.beforeCopy (pg : Nat) (chs : List Nat) (d : Dev) : Dev :=
  match pageKind pg with
  | some (.fwd, _) =>
    let was := chs.map (fun a => (a, d.rd a))
    { d with vlt := { d.vlt with frames := d.vlt.frames.map (fun f =>
        if f.tH.isSome && f.tL.isNone then { f with old := was.filter (fun e => !f.old.any (fun o => o.1 == e.1)) ++ f.old }
        else f) } }
  | some (.trm7, _) | some (.trm8, _) =>
    d.each ((List.range 57).filter (fun p => (List.range 8).any (fun c => chs.contains (TRM_SHAPER p c)))) Dev.creditPort
  | _ => d

/-- A class that becomes shaped starts without credit. -/
def Dev.shaperStarts (chs : List Nat) (was : Nat → Nat → Bool) (d : Dev) : Dev :=
  d.each (List.range 57) (fun p d => d.each (List.range 8) (fun c d =>
    if chs.contains (TRM_SHAPER p c) && d.flag (TRM_SHAPER_en p c) && !was p c then
      d.setCredit p c { units := 0, at_ := d.now }
    else d))

/-- What a unit does in the commit tick, after the copy (R40): `chs` are the registers that changed. -/
def Dev.afterCopy (pg : Nat) (chs : List Nat) (d was : Dev) : Dev :=
  match pageKind pg with
  | none => d
  | some (k, n) =>
    let ch := chs.contains
    match k with
    | .vlt0 => (d.tillChanged.pinChanged).each (List.range 16) Dev.acctChanged
    | .vlt1 => d.each (List.range 16) Dev.acctChanged
    | .que => d.each d.vlt.voqs (fun e d => d.spillCheck e.1)
    | .lrn => if ch LRN_SWEEP_PER then d.armIn ⟨.sweepPass, 0, 0⟩ (msT (d.get LRN_SWEEP_PER_ms)) else d
    | .trm1 => d.trmCommit 1
    | .trm2 => d.trmCommit 2
    | .trm3 => d.trmCommit 3
    | .trmP =>
      d.each ((List.range 20).map (fun j => 20 * (n - 4) + j)) (fun p d =>
        if 57 ≤ p then d
        else
          let d := if (tasRegs p).any ch then d.tasCommit p else d
          if ch (TRM_PRE_CFG p) then d.verifyStart p else d)
    | .trm7 | .trm8 => d.shaperStarts chs (fun p c => was.flag (TRM_SHAPER_en p c))
    | .tim => if ch TIM_SRC then d.srcCommitted else d
    | .eth =>
      let d := if n < 4 && was.flag (ETH_CFG_vox n) && !d.flag (ETH_CFG_vox n) then (d.peerGone (4 + n)).revertStop (4 + n) else d
      if ch (ETH_FC_CFG n) then d.fcChanged n else d
    | .phy =>
      let d := d.lpiCommit n (was.flag (PHY_CFG_lpi_en n))
      if was.get (PHY_CFG_role n) ≠ d.get (PHY_CFG_role n) ∨ was.get (PHY_CFG_speed n) ≠ d.get (PHY_CFG_speed n) ∨
          was.get (PHY_CFG_type_b n) ≠ d.get (PHY_CFG_type_b n) then d.ethDown n else d
    | .can =>
      let d := d.canCarve n ch
      if [CAN_CFG n, CAN_NBT n, CAN_DBT n, CAN_XBT n, CAN_TDC n, CAN_XPWM n].any ch then d.canCfgWait n else d
    | .lin => if (schRegs n).any ch then d.schCommit n else d
    | .klw0 => d.motion
    | .klw1 => d.klwCommit
    | .aut => d.autCommit
    | .pwr => d.pwrCommit
    | .vhl => d.vhlCommit n
    | _ => d

/-- Every shadow of a page becomes live as one action, and the unit acts on what changed (R40). -/
def Dev.copyShadows (pg : Nat) (d : Dev) : Dev :=
  let chs := d.changedRegs pg
  let d := d.beforeCopy pg chs
  (d.each chs Dev.shadowToLive).afterCopy pg chs d

/-- A page's commit takes effect: DONE, the generation advances, COMMIT_DONE (R41). -/
def Dev.commitPage (pg : Nat) (d : Dev) : Dev :=
  let d := ((d.commitIdle pg).copyShadows pg).put (PG_COMMIT_status pg) csDone
  (d.wrapInc (PG_STATE_gen pg)).raise pg irqCommitDone

/-- The commit of one or several pages takes effect in one tick. -/
def Dev.commitPages (pages : List Nat) (d : Dev) : Dev :=
  let g := (d.pg (pages.headD 0)).group
  let d := d.each pages Dev.commitPage
  if g = 0 then d else d.groupStat csDone 0 0

/-! ### Refusals -/

/-- A command is refused: status, reason, COMMIT_FAIL and the capture; BUSY leaves the status (R41). -/
def Dev.refuse (pg reason : Nat) (i : Initiator) (off detail : Nat) (d : Dev) : Dev :=
  let d := d.put (PG_COMMIT_reason pg) reason
  let d := if reason = rsBusy then d else d.put (PG_COMMIT_status pg) csRefused
  (d.raise pg irqCommitFail).capture pg 0x01 reason i off detail 0

/-- An abort that finds nothing to abort (R42): the reason and the capture alone. -/
def Dev.tooLate (pg : Nat) (i : Initiator) (v : Nat) (d : Dev) : Dev :=
  (d.put (PG_COMMIT_reason pg) rsTooLate).capture pg 0x01 rsTooLate i 0x14 v 0

/-- The device takes part in the vote of R342. -/
def Dev.voting (d : Dev) : Bool := d.vcRole != 0

/-- A launch time lies too near (TIME_PAST). -/
def Dev.tooSoon (d : Dev) (cmd t : Nat) : Bool :=
  let lead := if cmd = 3 && d.voting then d.leadNs + 4000 else 4000
  decide (2 ≤ cmd) && decide (t < d.ns + lead)

/-- A cascade-wide command of a member without a path to the master (R43). -/
def Dev.noCoordinator (d : Dev) (cmd : Nat) : Bool :=
  cmd == 3 && d.voting && !d.decides && (d.toMaster).1.isNone

/-- The cause for which a page refuses a command 1, 2 or 3 when it is written (Table 2-11); `grp` of a group's own
command, for which the page's own `PG_COMMIT_T` counts for nothing. -/
def Dev.refusal (d : Dev) (pg cmd t : Nat) : Option Nat :=
  if d.pw.halted then some rsHalt
  else if !d.flag (PG_CAP_shadow pg) || (decide (2 ≤ cmd) && !d.flag (PG_CAP_timed pg)) then some rsBadCmd
  else if (d.pg pg).phase ≠ .none then some rsBusy
  else if d.flag (PG_STATE_in_reset pg) || (d.pg pg).clockFail then some rsNotReady
  else if d.handedOver pg then some rsUpdateBusy
  else if d.tooSoon cmd t then some rsTimePast
  else if d.noCoordinator cmd then some rsCascadeDown
  else none

/-- The check of a page starts: at most 256 CK_PER cycles. -/
def Dev.startCheck (i : Initiator) (pg cmd group t : Nat) (d : Dev) : Dev :=
  let d := d.modPg pg (fun s => { s with phase := .checking, cmd := cmd, group := group, by_ := i, launch := t, decided := false })
  (d.put (PG_COMMIT_status pg) csChecking).armIn ⟨.commitCheck, pg, 0⟩ (perT 256)

/-! ### The commands of a page -/

/-- A write of `PG_COMMIT` with a command: the group field takes its value, and the command acts. The lock refuses the
whole write (R53). -/
def Dev.commitWrite (i : Initiator) (pg group cmd : Nat) (f : Nat → Dev → Dev) (d : Dev) : Dev :=
  let v := group % 256 * 2 ^ 24 + cmd % 8
  if (pageKind pg).isNone then d
  else d.write i pg 0x14 v (fun d => f v (d.put (PG_COMMIT_group pg) group))

/-- Commands 1, 2 and 3 of a page. -/
def Dev.commitCmd (i : Initiator) (pg group cmd : Nat) (d : Dev) : Dev :=
  d.commitWrite i pg group cmd (fun v d =>
    let t := d.rd64 (PG_COMMIT_T_LO pg) (PG_COMMIT_T_HI pg)
    match d.refusal pg cmd t with
    | some r => d.refuse pg r i 0x14 v
    | none => d.startCheck i pg cmd 0 t)

/-- COMMIT_NOW. -/
def opCommitNow (i : Initiator) (pg group : Nat) (d : Dev) : Dev := d.commitCmd i pg group 1

/-- COMMIT_TIMED. -/
def opCommitTimed (i : Initiator) (pg group : Nat) (d : Dev) : Dev := d.commitCmd i pg group 2

/-- COMMIT_CASCADE. -/
def opCommitCascade (i : Initiator) (pg group : Nat) (d : Dev) : Dev := d.commitCmd i pg group 3

/-- An abort comes too late: nothing checks, is armed or prepared, the launch tick has come, or the decision has. -/
def Dev.abortLate (d : Dev) (pg : Nat) : Bool :=
  let s := d.pg pg
  decide (s.phase = .none) || s.decided || ((decide (s.phase = .armed) || decide (s.phase = .prepared)) && decide (s.launch ≤ d.ns))

/-- COMMIT_ABORT (R42, R43). -/
def opCommitAbort (i : Initiator) (pg group : Nat) (d : Dev) : Dev :=
  d.commitWrite i pg group 4 (fun v d =>
    if d.pw.halted then d.refuse pg rsHalt i 0x14 v
    else if (d.pg pg).group ≠ 0 then d.refuse pg rsBusy i 0x14 v
    else if d.abortLate pg then d.tooLate pg i v
    else d.abortCommit pg 0)

/-- COMMIT_REVERT (R41). -/
def opCommitRevert (i : Initiator) (pg group : Nat) (d : Dev) : Dev :=
  d.commitWrite i pg group 5 (fun v d =>
    if d.pw.halted then d.refuse pg rsHalt i 0x14 v
    else if !d.flag (PG_CAP_shadow pg) then d.refuse pg rsBadCmd i 0x14 v
    else if (d.pg pg).phase ≠ .none then d.refuse pg rsBusy i 0x14 v
    else d.revert pg)

/-- COMMIT_BAD_CMD: command codes 0, 6 and 7. -/
def opCommitBad (i : Initiator) (pg group cmd : Nat) (d : Dev) : Dev :=
  if cmd ≠ 0 ∧ cmd ≠ 6 ∧ cmd ≠ 7 then d
  else
    d.commitWrite i pg group cmd (fun v d => d.refuse pg (if d.pw.halted then rsHalt else rsBadCmd) i 0x14 v)

/-! ### The end of the check -/

/-- The pages have all passed: they take effect, arm, or are prepared with a vote (R41 to R44). -/
def Dev.passed (pages : List Nat) (d : Dev) : Dev :=
  let s := d.pg (pages.headD 0)
  if s.cmd = 1 then d.commitPages pages
  else
    let vote := s.cmd == 3 && d.voting
    let d := d.each pages (fun pg d =>
      let d := d.modPg pg (fun s => { s with phase := if vote then .prepared else .armed })
      (d.put (PG_COMMIT_status pg) (if vote then csPrepared else csArmed)).put (PG_STATE_armed pg) 1)
    let d := if s.group = 0 then d else d.groupStat (if vote then csPrepared else csArmed) 0 0
    if vote then (d.ccStat csPrepared 0).castVote (d.ccKey (pages.headD 0)) 1 else d

/-- A member's refusal refuses every member (R44); a cascade-wide commit votes NO (R343). -/
def Dev.memberRefuses (pages : List Nat) (pg reason : Nat) (i : Initiator) (off detail : Nat) (d : Dev) : Dev :=
  let s := d.pg pg
  let key := d.ccKey pg
  let d := d.each pages (fun p d =>
    (d.commitIdle p).refuse p (if p = pg then reason else rsGroup) i (if p = pg then off else 0x14) (if p = pg then detail else 0))
  let d := if s.group = 0 then d else d.groupStat csRefused reason pg
  if s.cmd = 3 && d.voting then d.castVote key 2 else d

/-- COMMIT_CHECK_DONE: the check of a page ends, within its 256 CK_PER cycles. -/
def opCheckDone (pg : Nat) (ue : Bool) (d : Dev) : Dev :=
  d.endTimer ⟨.commitCheck, pg, 0⟩ (fun d =>
    let s := d.pg pg
    let pages := d.comrades pg
    if ue then d.memberRefuses pages pg rsShadowEcc s.by_ 0x14 0
    else
      match d.checkPage pg with
      | some c => d.memberRefuses pages pg c.reason s.by_ (c.addr % 0x1000) (d.shw c.addr).toNat
      | none =>
        let d := d.modPg pg (fun s => { s with phase := .checked })
        if pages.all (fun p => decide ((d.pg p).phase = .checked)) then d.passed pages else d)

/-! ### Launch (R26, R42, R343) -/

/-- COMMIT_LAUNCH: device time reaches the launch time of an armed commit. -/
def opCommitLaunch (pg : Nat) (d : Dev) : Dev :=
  let s := d.pg pg
  if s.phase ≠ .armed || !d.turn (d.commitTurn s.launch) then d
  else
    let d := d.atNs s.launch
    d.commitPages (d.comrades pg)

/-- The pages that wait for T under a key whose COMMIT has been received. -/
def Dev.decidedFor (d : Dev) (k : CommitKey) : List Nat :=
  (d.pgs.filter (fun e => decide (e.2.phase = .prepared) && e.2.decided && decide (d.ccKey e.1 = k))).map (·.1)

/-- CASCADE_COMMIT_EXECUTE: launch action 0x0A at T. -/
def opCascadeExecute (key : CommitKey) (d : Dev) : Dev :=
  let pages := d.decidedFor key
  if pages.isEmpty || !d.turn (d.commitTurn key.t) then d else ((d.atNs key.t).commitPages pages).ccStat csDone 0

/-! ### Groups (R44) -/

/-- The pages that hold a group number. -/
def Dev.members (d : Dev) (g : Nat) : List Nat := allPages.filter (fun pg => d.get (PG_COMMIT_group pg) == g)

/-- The group's commit is in progress. -/
def Dev.groupBusy (d : Dev) (g : Nat) : Bool := d.committing.any (fun p => (d.pg p).group == g)

/-- A group command that names group 0 or a group without a member (R44). -/
def Dev.groupBad (d : Dev) : Dev := d.groupStat csRefused rsBadCmd 0

/-- The refusal of a member before the check: the lock counts here (R53). -/
def Dev.memberRefusal (d : Dev) (pg cmd t : Nat) : Option Nat :=
  match d.refusal pg cmd t with
  | some r => if r = rsHalt then some r else if d.locked pg then some rsLocked else some r
  | none => if d.locked pg then some rsLocked else none

/-- Commands 1, 2 and 3 of a group; a group without a member is BAD_CMD in Halt too (DEDUCED, log entry 19). -/
def Dev.groupCmd (i : Initiator) (g cmd : Nat) (d : Dev) : Dev :=
  d.access i (fun d =>
    let pages := d.members g
    if g = 0 || decide (255 < g) || pages.isEmpty then d.groupBad
    else if d.groupBusy g then (d.put SYS_GRP_STAT_reason rsBusy).each pages (fun p d => d.refuse p rsBusy i 0x14 0)
    else
      let t := d.rd64 SYS_GRP_T_LO SYS_GRP_T_HI
      match pages.find? (fun p => (d.memberRefusal p cmd t).isSome) with
      | some bad =>
        let reason := (d.memberRefusal bad cmd t).getD 0
        let d := d.each pages (fun p d =>
          let own := match d.memberRefusal p cmd t with
            | some r => r
            | none => rsGroup
          d.refuse p own i 0x14 0)
        let d := d.groupStat csRefused reason bad
        if cmd = 3 && d.voting && !d.pw.halted then d.castVote { t := t, g := g } 2 else d
      | none =>
        let d := d.each pages (fun p d => d.startCheck i p cmd g t)
        d.groupStat csChecking 0 0)

/-- GRP_COMMIT_NOW. -/
def opGrpNow (i : Initiator) (g : Nat) (d : Dev) : Dev := d.groupCmd i g 1

/-- GRP_COMMIT_TIMED. -/
def opGrpTimed (i : Initiator) (g : Nat) (d : Dev) : Dev := d.groupCmd i g 2

/-- GRP_COMMIT_CASCADE. -/
def opGrpCascade (i : Initiator) (g : Nat) (d : Dev) : Dev := d.groupCmd i g 3

/-- A group command of an unknown code (R41). -/
def Dev.groupUnknown (i : Initiator) (g v : Nat) (d : Dev) : Dev :=
  d.access i (fun d =>
    let pages := d.members g
    let r := if d.pw.halted then rsHalt else rsBadCmd
    if g = 0 || pages.isEmpty then d.groupBad
    else (d.groupStat csRefused r (pages.headD 0)).each pages (fun p d => d.refuse p r i 0x14 v))

/-- GRP_COMMIT_ABORT: every member is aborted, or the abort comes too late. -/
def opGrpAbort (i : Initiator) (g : Nat) (d : Dev) : Dev :=
  d.access i (fun d =>
    let pages := d.members g
    let busy := d.committing.filter (fun p => (d.pg p).group == g)
    if g = 0 || decide (255 < g) || pages.isEmpty then d.groupBad
    else if d.pw.halted then (d.groupStat csRefused rsHalt 0).each pages (fun p d => d.refuse p rsHalt i 0x14 0)
    else
      match busy with
      | [] => (d.put SYS_GRP_STAT_reason rsTooLate).each pages (fun p d => d.tooLate p i 0)
      | first :: _ =>
        if d.abortLate first then (d.put SYS_GRP_STAT_reason rsTooLate).each busy (fun p d => d.tooLate p i 0)
        else
          let s := d.pg first
          let key := d.ccKey first
          let d := d.each busy (fun p d => d.commitEnds p csAborted 0)
          let d := d.groupStat csAborted 0 0
          if s.phase = .prepared then (d.ccStat csAborted 0).castVote key 3 else d)

/-- GRP_COMMIT_REVERT: every member's shadows go back to live. -/
def opGrpRevert (i : Initiator) (g : Nat) (d : Dev) : Dev :=
  d.access i (fun d =>
    let pages := d.members g
    if g = 0 || decide (255 < g) || pages.isEmpty then d.groupBad
    else
      let why (p : Nat) : Option Nat :=
        if d.pw.halted then some rsHalt
        else if !d.flag (PG_CAP_shadow p) then some rsBadCmd
        else if d.locked p then some rsLocked
        else if (d.pg p).phase ≠ .none then some rsBusy
        else none
      match pages.find? (fun p => (why p).isSome) with
      | some bad =>
        (d.groupStat csRefused ((why bad).getD 0) bad).each pages (fun p d => d.refuse p ((why p).getD rsGroup) i 0x14 0)
      | none => d.each pages Dev.revert)

/-! ### The meanings of the commands of this file -/

/-- COMMIT_NOW (R41). -/
def execCommitNow (i : Initiator) (pg : Nat) (group : Nat) (s : State) : Host.Outcome State Fault Refusal :=
  effectIf (isPage pg && decide (group < 256)) (opCommitNow i pg group) s

/-- COMMIT_TIMED (R42). -/
def execCommitTimed (i : Initiator) (pg : Nat) (group : Nat) (s : State) : Host.Outcome State Fault Refusal :=
  effectIf (isPage pg && decide (group < 256)) (opCommitTimed i pg group) s

/-- COMMIT_CASCADE (R43). -/
def execCommitCascade (i : Initiator) (pg : Nat) (group : Nat) (s : State) : Host.Outcome State Fault Refusal :=
  effectIf (isPage pg && decide (group < 256)) (opCommitCascade i pg group) s

/-- COMMIT_ABORT (R42). -/
def execCommitAbort (i : Initiator) (pg : Nat) (group : Nat) (s : State) : Host.Outcome State Fault Refusal :=
  effectIf (isPage pg && decide (group < 256)) (opCommitAbort i pg group) s

/-- COMMIT_REVERT (R41). -/
def execCommitRevert (i : Initiator) (pg : Nat) (group : Nat) (s : State) : Host.Outcome State Fault Refusal :=
  effectIf (isPage pg && decide (group < 256)) (opCommitRevert i pg group) s

/-- COMMIT_BAD_CMD (R41). -/
def execCommitBadCmd (i : Initiator) (pg : Nat) (group : Nat) (cmd : Nat) (s : State) : Host.Outcome State Fault Refusal :=
  effectIf (isPage pg && decide (group < 256) && (cmd == 0 || cmd == 6 || cmd == 7))
    (opCommitBad i pg group cmd) s

/-- COMMIT_CHECK_DONE (R41). -/
def execCommitCheckDone (pg : Nat) (ue : Bool) (s : State) : Host.Outcome State Fault Refusal :=
  effectIf (isPage pg) (opCheckDone pg ue) s

/-- COMMIT_LAUNCH (R42). -/
def execCommitLaunch (pg : Nat) (s : State) : Host.Outcome State Fault Refusal :=
  effectIf (isPage pg) (opCommitLaunch pg) s

/-- GRP_COMMIT_NOW (R44). -/
def execGrpCommitNow (i : Initiator) (g : Nat) (s : State) : Host.Outcome State Fault Refusal :=
  effectIf (decide (g < 256)) (opGrpNow i g) s

/-- GRP_COMMIT_TIMED (R44). -/
def execGrpCommitTimed (i : Initiator) (g : Nat) (s : State) : Host.Outcome State Fault Refusal :=
  effectIf (decide (g < 256)) (opGrpTimed i g) s

/-- GRP_COMMIT_CASCADE (R44). -/
def execGrpCommitCascade (i : Initiator) (g : Nat) (s : State) : Host.Outcome State Fault Refusal :=
  effectIf (decide (g < 256)) (opGrpCascade i g) s

/-- GRP_COMMIT_ABORT (R44). -/
def execGrpCommitAbort (i : Initiator) (g : Nat) (s : State) : Host.Outcome State Fault Refusal :=
  effectIf (decide (g < 256)) (opGrpAbort i g) s

/-- GRP_COMMIT_REVERT (R44). -/
def execGrpCommitRevert (i : Initiator) (g : Nat) (s : State) : Host.Outcome State Fault Refusal :=
  effectIf (decide (g < 256)) (opGrpRevert i g) s

/-- CASCADE_COMMIT_EXECUTE (R343). -/
def execCascadeCommitExecute (key : CommitKey) (s : State) : Host.Outcome State Fault Refusal :=
  effectIf (key.wf) (opCascadeExecute key) s

end Sys2Proof.Machine
end

