-- ==== Sys2Proof/Machine/Braces.lean ====
section
/-!
DEFINITION. The two management complexes (chapter 13): their release and self-test, roles and resynchronisation, handover,
the watchdogs, the brace sweep and class B resets.
-/

namespace Sys2Proof.Machine

def braceOf (b : Nat) : Brace := if b = 0 then .a else .b
def braceIni (b : Nat) : Initiator := if b = 0 then .braceA else .braceB

def Dev.setBrc (f : Braces → Braces) (d : Dev) : Dev := { d with brc := f d.brc }

/-- A brace can take over: STANDBY (Table 13-1). -/
def Dev.standby (d : Dev) : Option Nat := if d.role 0 = 2 then some 0 else if d.role 1 = 2 then some 1 else none

/-- The watchdog of a brace starts at its release (R287). -/
def Dev.wdgStart (b : Nat) (d : Dev) : Dev :=
  (d.setBrc (fun r => { r with kick := NMap.set 0 r.kick b 0 })).armIn ⟨.wdg, b, 0⟩ (msT (max 1 (d.get (BRC_WDG_CFG_ms b))))

/-- A brace is in reset for good, or failed: nothing brings it back by itself. -/
def Dev.braceDown (d : Dev) (b : Nat) : Bool :=
  d.flag (BRC_ROLE_failed b) || (d.role b == 0 && !d.running ⟨.bFill, b, 0⟩ && !d.running ⟨.selfTest, b, 0⟩)

/-- Both braces failed or in reset with no active brace: Halt (R284). -/
def Dev.bracesGone (d : Dev) : Dev :=
  if d.pw.bracesOut && !d.pw.halted && d.active.isNone && d.braceDown 0 && d.braceDown 1 then d.haltEntry 1 else d

/-- A class B reset of a brace: an activation that was loading it ends (DESIGN CHOICE: reason ABORTED, log entry 85). -/
def Dev.classB (b cause : Nat) (d : Dev) : Dev :=
  let lost := d.activating && decide (d.upd.target = some (braceOf b))
  let d := d.resetBrace b cause
  (if lost then d.updOver 0x2C else d).bracesGone

/-! ### Release, self-test and roles (R278, R279, R281) -/

/-- A brace becomes active at the start. -/
def Dev.activate (b : Nat) (d : Dev) : Dev :=
  (((d.put (BRC_ROLE_role b) 1).wdgStart b).mile 5).refreshFrom (pgBRC b)

/-- Braces are released to their self-test. -/
def Dev.releaseBraces (l : List Nat) (d : Dev) : Dev :=
  let d := { d with pw := { d.pw with bracesOut := true } }
  let d := d.armIn ⟨.sweep, 0, 0⟩ (msT (max 1 (d.get (BRC_SWP_CFG_period_ms 0))))
  d.each l (fun b d => (d.askRelease (pgBRC b)).refreshFrom (pgBRC b))

/-- Resynchronisation begins: the copy of the active brace's TCM at 4 GB/s. One that finds no active brace stops; in Kennel
mode the other brace stays in reset. -/
def Dev.startResync (b : Nat) (d : Dev) : Dev :=
  if d.active.isNone || decide (d.pw.base = .kennel) then d
  else ((d.put (BRC_ROLE_role b) 3).put (BRC_ROLE_sb_ok b) 0).armIn ⟨.resyncCopy, b, 0⟩ (nsT 131072)

/-- A brace's self-test has passed. -/
def Dev.testPassed (b : Nat) (d : Dev) : Dev :=
  if d.activating && decide (d.upd.target = some (braceOf b)) then d.armIn ⟨.prepareCopy, 0, 0⟩ (nsT 524288)
  else if d.active.isSome then d.startResync b
  else if b = 0 || d.flag (BRC_ROLE_failed 0) then
    let d := d.activate b
    let waits := d.brc.passed
    (d.setBrc (fun r => { r with passed := [] })).each waits Dev.startResync
  else d.setBrc (fun r => { r with passed := [b] })

/-- A brace's self-test has failed: the brace is failed and stays in reset. -/
def Dev.testFailed (b : Nat) (d : Dev) : Dev :=
  let d := ((d.put (BRC_ROLE_failed b) 1).put (PG_STATE_in_reset (pgBRC b)) 1).raise (pgBRC b) 12
  let lost := d.activating && decide (d.upd.target = some (braceOf b))
  let d := (if lost then d.updOver 0x2C else d).refreshFrom (pgBRC b)
  let waits := d.brc.passed
  let d := d.setBrc (fun r => { r with passed := [] })
  let d :=
    if d.active.isSome then d
    else if waits.isEmpty then (if d.pw.base = .kennel && b == 0 then d.releaseBraces [1] else d)
    else d.each waits Dev.activate
  d.bracesGone

/-- BRACE_SELF_TEST_DONE: the groups that missed their injected difference, or showed a false mismatch. -/
def opSelfTestDone (br : Brace) (failed : Word) (d : Dev) : Dev :=
  let b := brIx br
  d.endTimer ⟨.selfTest, b, 0⟩ (fun d =>
    let d := if (d.pg (pgBRC b)).diag then d.setDiag (pgBRC b) false else d
    let d := d.wr (BRC_STEST_RES b) failed
    if failed = 0 then d.testPassed b else d.testFailed b)

/-- CLASS_B_FILL_DONE: TCM and caches of the brace are filled again. -/
def opClassBFill (br : Brace) (d : Dev) : Dev :=
  let b := brIx br
  d.endTimer ⟨.bFill, b, 0⟩ (fun d => (d.askRelease (pgBRC b)).refreshFrom (pgBRC b))

/-- Copy the TCM of one brace into the other's. -/
def Dev.copyTcm (src dst : Nat) (d : Dev) : Dev :=
  let lo := tcmAddr src 0
  let part := d.mem.filter (fun c => decide (lo ≤ c.1) && decide (c.1 < lo + 0x80000))
  (d.tcmCleared dst).each part (fun c d => d.wrByte (c.1 - lo + tcmAddr dst 0) c.2)

/-- RESYNC_COPY_DONE: the brace starts at `SB_VEC`. -/
def opResyncDone (br : Brace) (d : Dev) : Dev :=
  let b := brIx br
  d.onTimer ⟨.resyncCopy, b, 0⟩ (fun d =>
    (d.copyTcm (1 - b) b).setBrc (fun r => { r with copied := r.copied.filter (· != b) ++ [b] }))

/-- SB_OK: the brace's firmware reports that it is ready as standby. -/
def opSbOk (br : Brace) (d : Dev) : Dev :=
  let b := brIx br
  if !d.up || !d.brc.copied.contains b || decide (d.role b = 1) then d
  else
    let d := d.put (BRC_ROLE_sb_ok b) 1
    if d.role b = 3 then ((d.put (BRC_ROLE_role b) 2).wdgStart b).refreshFrom (pgBRC b)
    else if d.get UPD_STAT_state = 3 && decide (d.upd.target = some br) then
      ((d.cancel ⟨.standby, 0, 0⟩).put UPD_STAT_state 4).raise pgUPD 10
    else d

/-- STEST_RUN: the standby leaves standby for its self-test; on any other brace there is no standby to test. -/
def opStestRun (i : Initiator) (br : Brace) (d : Dev) : Dev :=
  let b := brIx br
  d.access i (fun d =>
    if d.handedOver (pgBRC b) then d.updateBusy (pgBRC b) i (BRC_STEST_CMD b % 0x1000) 1
    else if d.role b ≠ 2 then d
    else (((d.braceStops b).setDiag (pgBRC b) true).armIn ⟨.selfTest, b, 0⟩ (4 * 2048)).refreshFrom (pgBRC b))

/-! ### Handover (R282, R283, Table 13-2) -/

/-- Brace `old` hands over to brace `new`: initiator role, vectors and the BRACE port are switched. -/
def Dev.handover (old new cause : Nat) (d : Dev) : Dev :=
  let d := (d.braceStops old).put (BRC_ROLE_role new) 1
  let d := ((d.put (BRC_HO_STAT_cause new) cause).put (BRC_HO_STAT_err new) 0).count (BRC_HO_CNT new)
  let d := (d.refreshFrom (pgBRC old)).refreshFrom (pgBRC new)
  (d.raise (pgBRC 0) 10).raise (pgBRC 1) 10

/-- A fault handover: the old brace's fences complete with error, its semaphores are freed, and it takes a class B reset. -/
def Dev.faultHandover (old new cause bcause : Nat) (d : Dev) : Dev :=
  let d := d.handover old new cause
  let d := (d.allFencesFail (fun f => decide (f.by_ = braceIni old))).semGone (iniCode (braceIni old))
  d.classB old bcause

/-- The two braces of a handover to brace b, where it can take place. -/
def Dev.canHandOver (d : Dev) (b : Nat) : Bool := d.role b == 2 && d.role (1 - b) == 1

/-- The mode admits the trigger of a requested handover (Table 1-7): Service, with the conditions that go with it. -/
def Dev.mayHandOver (d : Dev) : Bool := decide (d.pw.base = .service) && !d.pw.halted && !d.pw.settling && !d.pw.updating

/-- HANDOVER_CMD: a write of `HO_CMD` on a brace's page. -/
def opHandoverCmd (i : Initiator) (br : Brace) (v : Word) (d : Dev) : Dev :=
  let b := brIx br
  d.access i (fun d =>
    if bitsOf v 31 16 ≠ 0xB0A7 then d
    else if d.canHandOver b then (if d.mayHandOver then d.handover (1 - b) b 4 else d.rejectTrig 0x10)
    else (d.put (BRC_HO_STAT_err b) 1).setErr (pgBRC b) i 0x104 v.toNat)

/-! ### Mismatch, watchdog, class B request -/

/-- A brace's copies run: it is active, standby, synchronising, or runs the image of an activation. -/
def Dev.braceRuns (d : Dev) (b : Nat) : Bool := d.role b != 0 || d.brc.copied.contains b

/-- A fault of a brace, by its handover cause and class B cause: a fault handover of the active brace to the standby, a class D
reset without one, a class B reset of the other brace (R282). -/
def Dev.braceFault (b cause bcause : Nat) (d : Dev) : Dev :=
  if d.role b ≠ 1 then d.classB b bcause
  else
    match d.standby with
    | some s => d.faultHandover b s cause bcause
    | none => d.classD 7

/-- BRACE_MISMATCH (R275): the output of a group differs, never leaves the brace, and the brace is a mismatch. -/
def opMismatch (br : Brace) (group : Nat) (d : Dev) : Dev :=
  let b := brIx br
  if !d.up || !d.braceRuns b then d
  else
    let d := d.count (BRC_CMP_MISM b)
    let d := if d.flag (BRC_CMP_CAP_valid b) then d
      else ((d.put (BRC_CMP_CAP_valid b) 1).put (BRC_CMP_CAP_group b) group).wr64 (BRC_CMP_CAP_T_LO b) (BRC_CMP_CAP_T_HI b) d.ns
    (d.raise (pgBRC b) 8).braceFault b 1 1

/-- An expiry of a brace's watchdog (R287): of the active brace without a standby, or in Start, a start failure. -/
def Dev.wdgExpires (b : Nat) (d : Dev) : Dev :=
  let d := ((d.cancel ⟨.wdg, b, 0⟩).count (BRC_WDG_CNT b)).raise (pgBRC b) 11
  if d.role b = 1 && decide (d.pw.base = .start) then d.startFails 6 else d.braceFault b 2 2

/-- BRACE_WATCHDOG_EXPIRY: no kick within the window. -/
def opWdgExpiry (br : Brace) (d : Dev) : Dev := d.onTimer ⟨.wdg, brIx br, 0⟩ (fun d => d.wdgExpires (brIx br))

/-- WDG_KICK: a write of a brace's `WDG_KICK`; a wrong key, or a kick too early after the previous one, is an expiry. -/
def opWdgKick (br : Brace) (v : Word) (d : Dev) : Dev :=
  let b := brIx br
  if !d.up || !d.running ⟨.wdg, b, 0⟩ then d
  else
    let last := NMap.get 0 d.brc.kick b
    let early := decide (last ≠ 0) && decide (d.now + 1 < last + msT (d.get (BRC_WDG_CFG_min_ms b)))
    if v ≠ 0x5A5AA5A5 || early then d.wdgExpires b
    else (d.setBrc (fun r => { r with kick := NMap.set 0 r.kick b (d.now + 1) })).armIn ⟨.wdg, b, 0⟩ (msT (max 1 (d.get (BRC_WDG_CFG_ms b))))

/-- A new window of a brace's watchdog counts from the last kick. -/
def Dev.wdgWindow (b was : Nat) (d : Dev) : Dev :=
  match d.due ⟨.wdg, b, 0⟩ with
  | some t => d.arm ⟨.wdg, b, 0⟩ (t - msT (max 1 was) + msT (max 1 (d.get (BRC_WDG_CFG_ms b))))
  | none => d

/-- The class B reset that software requests (R290): the active brace first hands over to the standby, and without one the
request is refused with ERR. A brace being filled or tested takes none. -/
def Dev.classBAsked (i : Initiator) (b : Nat) (d : Dev) : Dev :=
  if d.role b = 1 then
    (if d.canHandOver (1 - b) then (d.handover b (1 - b) 4).classB b 3 else d.setErr (pgBRC b) i 0x10 2)
  else if d.running ⟨.bFill, b, 0⟩ || d.running ⟨.selfTest, b, 0⟩ then d
  else d.classB b 3

/-- CLASS_B_RESET_REQUEST: `PG_CTRL.reset` on a BRC page. -/
def opClassBRequest (i : Initiator) (br : Brace) (d : Dev) : Dev :=
  d.write i (pgBRC (brIx br)) 0x10 2 (Dev.classBAsked i (brIx br))

/-! ### Brace sweep (R285, R286) -/

/-- A sweep of both braces begins: it ends within 2 ms. -/
def Dev.sweepBegins (d : Dev) : Dev :=
  if d.running ⟨.sweepDone, 0, 0⟩ then d else d.armIn ⟨.sweepDone, 0, 0⟩ (msT 2)

/-- BRACE_SWEEP: the period has passed. -/
def opBraceSweep (d : Dev) : Dev :=
  d.onPeriod ⟨.sweep, 0, 0⟩ (msT (max 1 (d.get (BRC_SWP_CFG_period_ms 0)))) (fun d =>
    if d.flag (BRC_SWP_CFG_en 0) then d.sweepBegins else d)

/-- BRACE_SWEEP_NOW: a write of `SWP_CMD.now`. -/
def opBraceSweepNow (i : Initiator) (d : Dev) : Dev := d.access i (fun d => if d.pw.bracesOut then d.sweepBegins else d)

/-- A latent mismatch: counted, captured and raised. -/
def Dev.latent (x : SweepDiff) (d : Dev) : Dev :=
  let b := brIx x.brace
  let d := d.count (BRC_SWP_MISM b)
  let d := if d.flag (BRC_SWP_CAP_valid b) then d
    else ((d.put (BRC_SWP_CAP_valid b) 1).put (BRC_SWP_CAP_structure b) x.structure_).put (BRC_SWP_CAP_index b) x.index
  d.raise (pgBRC b) 9

/-- What action 1 does for a brace with a latent mismatch: nothing without a brace in STANDBY. -/
def Dev.latentActs (b : Nat) (d : Dev) : Dev :=
  match d.standby with
  | none => d
  | some s => if d.role b = 1 then d.faultHandover b s 3 4 else if s = b then d.classB b 4 else d

/-- BRACE_SWEEP_DONE: the differences found. -/
def opSweepDone (diffs : List SweepDiff) (d : Dev) : Dev :=
  d.endTimer ⟨.sweepDone, 0, 0⟩ (fun d =>
    let diffs := diffs.filter (fun x => d.braceRuns (brIx x.brace))
    let d := (d.wrapInc (BRC_SWP_STAT_passes 0)).put (BRC_SWP_STAT_last_ok 0) (if diffs.isEmpty then 1 else 0)
    let d := d.each diffs Dev.latent
    if d.flag (BRC_SWP_CFG_action 0) then d.each (diffs.map (fun x => brIx x.brace)).eraseDups Dev.latentActs else d)

/-! ### The meanings of the commands of this file -/

/-- BRACE_SELF_TEST_DONE (R278). -/
def execBraceSelfTestDone (br : Brace) (failed : Word) (s : State) : Host.Outcome State Fault Refusal :=
  effect (opSelfTestDone br failed) s

/-- BRACE_MISMATCH (R275). -/
def execBraceMismatch (br : Brace) (group : Nat) (s : State) : Host.Outcome State Fault Refusal :=
  effectIf (decide (group < 32)) (opMismatch br group) s

/-- BRACE_WATCHDOG_EXPIRY (R287). -/
def execBraceWatchdogExpiry (br : Brace) (s : State) : Host.Outcome State Fault Refusal :=
  effect (opWdgExpiry br) s

/-- WDG_KICK (R287). -/
def execWdgKick (br : Brace) (v : Word) (s : State) : Host.Outcome State Fault Refusal :=
  effect (opWdgKick br v) s

/-- HANDOVER_CMD (R282). -/
def execHandoverCmd (i : Initiator) (br : Brace) (v : Word) (s : State) : Host.Outcome State Fault Refusal :=
  effect (opHandoverCmd i br v) s

/-- CLASS_B_RESET_REQUEST (R290). -/
def execClassBResetRequest (i : Initiator) (br : Brace) (s : State) : Host.Outcome State Fault Refusal :=
  effect (opClassBRequest i br) s

/-- CLASS_B_FILL_DONE (R293). -/
def execClassBFillDone (br : Brace) (s : State) : Host.Outcome State Fault Refusal :=
  effect (opClassBFill br) s

/-- RESYNC_COPY_DONE (R281). -/
def execResyncCopyDone (br : Brace) (s : State) : Host.Outcome State Fault Refusal :=
  effect (opResyncDone br) s

/-- SB_OK (R281). -/
def execSbOk (br : Brace) (s : State) : Host.Outcome State Fault Refusal :=
  effect (opSbOk br) s

/-- STEST_RUN (R278). -/
def execStestRun (i : Initiator) (br : Brace) (s : State) : Host.Outcome State Fault Refusal :=
  effect (opStestRun i br) s

/-- BRACE_SWEEP (R285). -/
def execBraceSweep (s : State) : Host.Outcome State Fault Refusal :=
  effect opBraceSweep s

/-- BRACE_SWEEP_NOW (R285). -/
def execBraceSweepNow (i : Initiator) (s : State) : Host.Outcome State Fault Refusal :=
  effect (opBraceSweepNow i) s

/-- BRACE_SWEEP_DONE (R286). -/
def execBraceSweepDone (diffs : List SweepDiff) (s : State) : Host.Outcome State Fault Refusal :=
  effectIf (diffs.all SweepDiff.wf) (opSweepDone diffs) s

end Sys2Proof.Machine
end

