-- ==== Sys2Proof/Machine/Start.lean ====
section
/-!
DEFINITION. The start (chapter 17): the vote of the options, the boot counter and the boot record, the memory fill, the
image check and the start-image tables, boot-good, and Kennel mode.
-/

namespace Sys2Proof.Machine

/-! ### The option image (R354 to R357) -/

/-- A field of an option image: bits hi to lo of byte b. -/
def optField (img : List Byte) (b hi lo : Nat) : Nat := (img.getD b 0).toNat / 2 ^ lo % 2 ^ (hi - lo + 1)

/-- The image with a field replaced. -/
def setOpt (b hi lo v : Nat) (img : List Byte) : List Byte :=
  let x := (img.getD b 0).toNat
  img.set b (BitVec.ofNat 8 (x - optField img b hi lo * 2 ^ lo + v % 2 ^ (hi - lo + 1) * 2 ^ lo))

/-- The write sequence number and the crc. -/
def optSeq (img : List Byte) : Nat := ofLe ((img.drop 56).take 4)
def optCrcGood (img : List Byte) : Bool := ofLe (img.drop 60) == crc32 (img.take 60)

/-- A copy is valid: its words decode and its crc matches. -/
def copyValid (c : List Byte × Nat) : Bool := c.2 == 0 && optCrcGood c.1

/-- k_vid of Table 17-3. -/
def kVid (img : List Byte) : Nat := optField img 14 7 0 + 256 * optField img 15 3 0

/-- Encodings that Table 17-3 refuses are changed as it states (the tamper response 3 as Table 11-7, role 3 as R337). -/
def voted (img : List Byte) : List Byte :=
  let img := if optField img 2 2 0 = 0 then setOpt 2 2 0 3 img else img
  let img := if optField img 2 5 4 = 3 then setOpt 2 5 4 0 img else img
  let img := if optField img 3 1 0 = 3 then setOpt 3 1 0 2 img else img
  let img := if optField img 4 1 0 = 3 then setOpt 4 1 0 1 img else img
  let img := if optField img 12 1 0 = 3 then setOpt 12 1 0 0 img else img
  if kVid img = 0 ∨ 4094 < kVid img then setOpt 15 3 0 0 (setOpt 14 7 0 1 img) else img

/-- The outcome of the vote (R355): the image, whether step 2 applied, and whether the ROM image is used. -/
structure OptVote where
  img : List Byte
  repair : Bool := false
  rom : Bool := false
  deriving DecidableEq, Repr

/-- The vote over the copies (R355). -/
def optVote (copies : List (List Byte × Nat)) : OptVote :=
  let good := (copies.filter copyValid).map (·.1)
  match good.find? (fun x => decide (2 ≤ (good.filter (fun y => decide (y = x))).length)) with
  | some x => { img := x }
  | none =>
    match good.foldl (fun (best : Option (List Byte)) x =>
        match best with
        | none => some x
        | some b => if optSeq b < optSeq x then some x else some b) none with
    | some x => { img := x, repair := true }
    | none => { img := factoryImage, rom := true }

/-- The image in use, as the OPT page shows it. -/
def Dev.optImage (d : Dev) : List Byte := (List.range 16).flatMap (fun i => leBytes 4 (d.rd (OPT_IMG i)).toNat)

/-- Three flags as bits 2 to 0. -/
def flagBits (l : List Bool) : Nat := l.zipIdx.foldl (fun n e => n + if e.1 then 2 ^ e.2 else 0) 0

/-- The OPT page takes the outcome of the vote. -/
def Dev.showOptions (v : OptVote) (d : Dev) : Dev :=
  let img := voted v.img
  let d := d.each (List.range 16) (fun i d => d.wr (OPT_IMG i) (BitVec.ofNat 32 (ofLe ((img.drop (4 * i)).take 4))))
  let c := d.mram.options
  let d := d.put OPT_COPY_STAT_bad (flagBits (c.map (fun (e : List Byte × Nat) => e.2 != 0)))
  let d := d.put OPT_COPY_STAT_valid (flagBits (c.map copyValid))
  let d := d.put OPT_COPY_STAT_used (if v.rom then 0 else flagBits (c.map (fun (e : List Byte × Nat) => copyValid e && decide (e.1 = v.img))))
  (d.put OPT_COPY_STAT_rom (if v.rom then 1 else 0)).put OPT_COPY_STAT_repair (if v.repair then 1 else 0)

/-! ### The boot counter and record (R362, R363) -/

/-- A new entry of the boot record. -/
def Dev.newRecord (cause count : Nat) (d : Dev) : Dev :=
  let d := d.each [7, 6, 5, 4, 3, 2, 1] (fun k d => d.wr (RST_BOOT_REC k) (d.rd (RST_BOOT_REC (k - 1))))
  d.wr (RST_BOOT_REC 0) (BitVec.ofNat 32
    (cause * 2 ^ 27 + d.mode * 2 ^ 16 + d.get UPD_BANK_boot * 2 ^ 15 + count * 2 ^ 11))

/-- Kennel mode is entered. -/
def Dev.enterKennel (reason out : Nat) (d : Dev) : Dev :=
  let d := { d with pw := { d.pw with base := .kennel } }
  ((d.put RST_KENNEL_reason reason).put RST_KENNEL_profile (d.opt 12 % 4)).outcome out

/-- What the options set at their load: cascade role and fixed ID, reference clock mode, tamper response. -/
def Dev.optionsAct (d : Dev) : Dev :=
  let d := (d.put (VHL_VC_STAT_role 0) (d.opt 4 % 4)).put HBR_STAT_refclk (d.opt 2 / 16 % 4)
  let d := d.put TMP_STAT_resp (d.opt 3 % 4)
  let d := if d.get TMP_STAT_resp < 2 then d.put TMP_STAT_erase_pend 0 else d
  let d := if d.get KEY_STAT_root = 3 then d.lateAlarm.lateRespond else d
  let d := (d.put UPD_BANK_boot (d.opt 1 % 2)).put UPD_BANK_run (d.opt 1 % 2)
  let d := if d.fixedId && d.vcRole != 0 then d.takeId (d.optionId % 1024) else d
  d.showSupply

/-- OPTION_LOAD (R356, R362): the options are voted and loaded, the boot counter compared and advanced, and the fill
starts. A rollback that waits is raised (R377). -/
def opOptionLoad (d : Dev) : Dev :=
  d.onTimer ⟨.options, 0, 0⟩ (fun d =>
    let v := optVote d.mram.options
    let d := (d.showOptions v).optionsAct
    let d := if v.repair then d.raise pgRST 10 else d
    let d := (({ d with pw := { d.pw with optionsLoaded := true } } : Dev).mile 0)
    let lim := d.opt 2 % 8
    let n := d.get RST_BOOT_CNT_count
    let full := decide (lim ≤ n)
    let n := if full then n else n + 1
    let d := (d.put RST_BOOT_CNT_limit lim).put RST_BOOT_CNT_count n
    let d := d.newRecord (if v.rom then 10 else d.get RST_CAUSE_cause) n
    let d := if v.rom then d.enterKennel 2 3 else if full then d.enterKennel 1 2 else d
    let d := if d.pw.halted then d.outcome 9 else d
    let d := if d.mram.rollback then (({ d with mram := { d.mram with rollback := false } } : Dev).raise pgUPD 13) else d
    d.refresh.syncMode)

/-- OPTION_COPY_REPAIR: the copies take the chosen image (R355). -/
def opCopyRepair (d : Dev) : Dev :=
  d.endTimer ⟨.optionRepair, 0, 0⟩ (fun d =>
    let v := optVote d.mram.options
    { d with mram := { d.mram with options := d.mram.options.map (fun _ => (v.img, 0)) } })

/-! ### Kennel profiles (Table 17-6) -/

/-- Set a shadowed field and its shadow. -/
def Dev.putBoth (f : FRef) (v : Nat) (d : Dev) : Dev := (d.put f v).put f.shadow v

/-- The pages of the ports that a profile leaves silent hold `enable` 0. -/
def Dev.silencePorts (keep : Nat → Bool) (d : Dev) : Dev :=
  let off := ((List.range 57).filter (fun p => !keep p)).flatMap (fun p => [pgETH p, pgPHY p])
  d.each (off ++ (List.range 24).map pgCAN ++ (List.range 8).map pgLIN) (fun pg d => d.put (PG_CTRL_enable pg) 0)

/-- Profile FLAT: the ports form one VLAN through replication list 0 (DESIGN CHOICE: the list, log entry 81), with learning, and the service
address, the factory base address plus 57, is a static entry to port 97. -/
def Dev.flatProfile (d : Dev) : Dev :=
  let vid := d.opt 14 + 256 * (d.opt 15 % 16)
  let mask := ((List.range 7).foldl (fun n i => n + d.opt (16 + i) * 256 ^ i) 0) % 2 ^ 57
  let ports := ((List.range 57).filter (fun p => bitAt mask p || p == 56)) ++ [57, 97]
  let d := d.silencePorts (fun p => bitAt mask p || p == 56)
  let d := d.setEnt 4 0 (ports.foldl (fun n p => n + 2 ^ p) 0)
  let d := d.setEnt 3 vid (vid + 2 ^ 40 + 2 ^ 41)
  let d := d.each ports (fun p d => d.putBoth (FWD_PORT_CFG_pvid p) vid)
  let e := macKey vid 57 + (d.ownId * 128 + 97) * 2 ^ 64 + 2 ^ 82 + 2 ^ 84 + 2 ^ 85
  match d.insert 0 e with
  | some (_, d) => d
  | none => d

/-- The Kennel profile in use is put in service; START_IMAGE waits for the image check. -/
def Dev.kennelProfile (d : Dev) : Dev :=
  let d := d.putBoth (PHY_CFG_role 56) (d.opt 12 / 4 % 2)
  match d.get RST_KENNEL_profile with
  | 0 => { d.silencePorts (· == 56) with pw := { d.pw with tablesGood := true } }
  | 1 => { d.flatProfile with pw := { d.pw with tablesGood := true } }
  | _ => d

/-- Profile 2 without a valid start image: profile 1 (Table 17-6). -/
def Dev.kennelFlat (d : Dev) : Dev := ((d.put RST_KENNEL_profile 1).kennelProfile).refresh

/-! ### Fill (R293) -/

/-- The pages released when the fill ends: all but the always-on domain's and the braces'. -/
def pagesAtFill : List Nat := allPages.filter (fun pg => !aonPages.contains pg && subsystemOf pg != 10)

/-- ONDIE_FILL_DONE: the units are released as their clocks allow (R358); in Kennel mode the profile and the service firmware
start. -/
def opFillDone (d : Dev) : Dev :=
  if !d.up || !d.pw.optionsLoaded || d.pw.filled then d
  else
    let d := { d with pw := { d.pw with filled := true } }
    let d := ((d.put ECC_FILL_STAT_ondie 1).put ECC_FILL_STAT_region 0x7FFD).raise pgECC 13
    let d := d.mile 1
    let d := d.when (decide (d.pw.base = .kennel)) Dev.kennelProfile
    let d := d.each pagesAtFill Dev.askRelease
    let d := d.when (d.flag OPT_COPY_STAT_repair) (fun d => d.armIn ⟨.optionRepair, 0, 0⟩ (usT 30))
    (d.when (decide (d.pw.base = .kennel) && !d.pw.halted) (fun d => d.releaseBraces [0])).refresh

/-- The first coin of the Reserve, and its coins (Table 3-1). -/
def rsvFirst : Nat := 0x2000000

/-- Coins of the Reserve join the free list, but for those that the record withdraws. -/
def Dev.joinReserve (n : Nat) (d : Dev) : Dev :=
  let a := rsvFirst + d.vlt.rsvJoined
  let l := spans a (a + n) d.withdrawnCoins
  let d := { d with vlt := { d.vlt with freeRsv := d.vlt.freeRsv ++ l, rsvJoined := d.vlt.rsvJoined + n } }
  d.put VLT_RSV_FREE_coins (d.get VLT_RSV_FREE_coins + freeCount l)

/-- RESERVE_ROW_FILLED: the next row's coins join in ascending order; the last row joins what is left. -/
def opReserveRow (coins : Nat) (last : Bool) (d : Dev) : Dev :=
  if !d.up || !d.pw.filled || bitAt (d.get ECC_FILL_STAT_region) 1 then d
  else
    let left := rsvFirst - d.vlt.rsvJoined
    let d := d.joinReserve (if last then left else min coins left)
    if last then (d.put ECC_FILL_STAT_region (setBitTo (d.get ECC_FILL_STAT_region) 1 true)).mile 6 else d

/-! ### The image check and the start-image tables (R361) -/

/-- The other bank is checked once where the options allow it. -/
def Dev.mayFallBack (d : Dev) : Bool := bitAt (d.opt 1) 1 && !d.pw.secondCheck

/-- An image or a table has failed. -/
def Dev.imageFails (out : Nat) (d : Dev) : Dev :=
  let d := { d with pw := { d.pw with imageGood := false } }
  if d.pw.base = .kennel then d.kennelFlat
  else if d.mayFallBack then ({ d with pw := { d.pw with secondCheck := true } } : Dev).refresh
  else d.startFails out

/-- The image is to be checked: in Start, and in Kennel profile START_IMAGE. -/
def Dev.awaitsImage (d : Dev) : Bool :=
  d.up && d.pw.filled && !d.pw.tablesGood && !d.pw.halted &&
  (decide (d.pw.base = .start) || (decide (d.pw.base = .kennel) && d.get RST_KENNEL_profile == 2))

/-- The end of the header, the block table and the signature of an image (R370). -/
def imageTableEnd (h : BankImage) : Nat := 256 + 48 * h.blocks.length + (if h.curve = 0 then 64 else 96)

/-- A block of an image is as Tables 18-3 and 18-4 state: it stands on a 4 KiB boundary after the signature, inside the
image, and a type 1 block fits a TCM. -/
def imageBlockGood (h : BankImage) (b : ImageBlock) : Bool :=
  decide (1 ≤ b.kind) && decide (b.kind ≤ 6) && b.zero && b.offset % 4096 == 0 && decide (imageTableEnd h ≤ b.offset) &&
  decide (b.offset + b.length ≤ h.length) &&
  decide (b.target ≤ (if b.kind = 2 then 5 else if b.kind = 5 then 4 else 0)) &&
  (if b.kind = 1 then decide (b.dest + b.length ≤ 0x80000) else b.dest == 0)

/-- The header and the block table of an image are as Tables 18-2 to 18-4 state. -/
def imageWellMade (h : BankImage) : Bool :=
  h.magic == 0x54485849 && h.format == 1 && decide (1 ≤ h.blocks.length) && decide (h.blocks.length ≤ 256) &&
  decide (h.curve ≤ 1) && h.zero && decide (h.entry < 0x80000) && decide (h.length ≤ 100663296) && h.blocks.all (imageBlockGood h)

/-- The signature of an image is valid for a valid, unrevoked anchor of purpose 0 with the curve of its header (R370). -/
def Dev.imageSigned (d : Dev) (h : BankImage) : Bool :=
  h.signed && d.key.anchors.any (fun e => e.2.valid && !e.2.revoked && e.2.purpose == 0 && e.2.curve == (h.curve == 1))

/-- What a verify of an image finds (R372): its form and signature, then the die it asks for, then the digests of its blocks. -/
def Dev.imageVerdict (d : Dev) (h : BankImage) : VerifyResult :=
  if !imageWellMade h || !d.imageSigned h then .badImage
  else if d.get SYS_SYS_ID_die < h.hwMin then .incompatible
  else if h.blocks.any (fun b => decide (sha false b.data ≠ b.digest)) then .blockCheck
  else .pass

/-- What is kept of an image that passes. -/
def imageHeader (h : BankImage) : ImageHeader :=
  { version := h.version, secVer := h.secVer, ctlVer := h.ctlVer, ctlMin := h.ctlMin, hwMin := h.hwMin, entry := h.entry,
    code := (h.blocks.find? (fun b => b.kind == 1)).map (fun b => (b.dest, b.length, b.digest)) }

/-- IMAGE_CHECK_DONE: the form of the image and its signature. -/
def opImageCheck (img : BankImage) (d : Dev) : Dev :=
  if !d.awaitsImage || d.pw.imageGood then d
  else if !imageWellMade img || !d.imageSigned img then (d.put SIG_STAT_result 2).imageFails 4
  else
    let boot := d.get UPD_BANK_boot
    let bank := if d.pw.secondCheck then 1 - boot else boot
    let d := { d with pw := { d.pw with imageGood := true } }
    let d := ((d.put SIG_STAT_result 1).mile 3).wr UPD_RUN_VER (BitVec.ofNat 32 img.version)
    let d := (d.put UPD_BANK_run bank).put recBank bank
    (d.put recFb (if d.pw.secondCheck then 1 else 0)).refresh

/-- Load one table entry: by key into tables 0 to 2, by index into tables 3 to 5 (Table 18-4). -/
def Dev.loadEntry (e : Nat × Nat × Nat) (d : Dev) : Dev :=
  let t := e.1
  if t < 3 then
    let x : TblDesc := { own := true, irq := false, table := t, index := 0, key := dmaKeyOf t e.2.2, entry := e.2.2, ue := 0 }
    if badEntry x || namesReserved t (d.hashedEntry x) || (d.findKey t (dmaKey x)).isSome then d
    else
      match d.insert t (d.hashedEntry x) with
      | some (i, d) => d.pinWritten t i
      | none => d
  else if t < 6 ∧ e.2.1 < tblSize t then (if namesReserved t e.2.2 then d else d.rewrite t e.2.1 (if t = 4 then listEntry e.2.2 else e.2.2))
  else d

/-- Stage one page shadow of the image. -/
def Dev.stageShadow (e : Nat × Nat × Nat) (d : Dev) : Dev :=
  let off := if e.2.1 < 0x800 then e.2.1 else e.2.1 - 0x800
  let a := 0x1000 * e.1 + off
  match liveRow a with
  | some r => if r.hasRWS then d.wr (a + 0x800) (r.mix (d.rd (a + 0x800)) (BitVec.ofNat 32 e.2.2)) else d
  | none => d

/-- Stage one Kalow record, its words least-significant first. -/
def Dev.stageRecord (e : Nat × Nat × List Nat) (d : Dev) : Dev :=
  let k := e.1 * 2 ^ 14 + e.2.1
  let v := e.2.2.foldr (fun w acc => w % 2 ^ 32 + 2 ^ 32 * acc) 0
  { d with kal := { d.kal with recsS := NMap.set 0 d.kal.recsS k v, recsD := d.kal.recsD.filter (· != k) ++ [k] } }

/-- Stage one path entry. -/
def Dev.stagePath (e : Nat × Nat) (d : Dev) : Dev :=
  { d with voh := { d.voh with pathsS := NMap.set 0 d.voh.pathsS e.1 (e.2 % 2 ^ 32), pathsD := d.voh.pathsD.filter (· != e.1) ++ [e.1] } }

/-- The start image is loaded: brace code into both TCMs, table entries, and the shadows and records of every page as one
group. In Kennel mode the Vault keeps its reset values (R364). -/
def Dev.loadImage (img : StartImage) (d : Dev) : Dev :=
  let d := d.each img.code (fun (e : Nat × List Byte) d => Dev.wrBytes (tcmAddr 1 e.1) e.2 (Dev.wrBytes (tcmAddr 0 e.1) e.2 d))
  let d := d.each img.tables Dev.loadEntry
  let shadows := img.shadows.filter (fun (e : Nat × Nat × Nat) => decide (d.pw.base ≠ .kennel) || decide (e.1 / 16 ≠ 1))
  let d := ((d.each shadows Dev.stageShadow).each img.kalow Dev.stageRecord).each img.paths Dev.stagePath
  let touched := shadows.map (·.1) ++ (if img.kalow.isEmpty then [] else [pgKLW 1]) ++ (if img.paths.isEmpty then [] else [pgVHL 0])
  let pages := allPages.filter touched.contains
  match pages.findSome? (fun pg => (d.checkPage pg).map (fun c => (pg, c.reason))) with
  | some (bad, r) => d.each pages (fun p d => d.refuse p (if p = bad then r else rsGroup) .resetCtl 0x14 0)
  | none => d.commitPages pages

/-- Start's boot-good limits begin at the release of the braces (R361, R366). -/
def Dev.bootTimers (d : Dev) : Dev :=
  let ms := d.get RST_BOOT_TMO_ms
  (d.armIn ⟨.bootGood, 0, 0⟩ (msT ms)).armIn ⟨.bootHalf, 0, 0⟩ (msT ms / 2)

/-- START_TABLE_LOAD_DONE. -/
def opTablesLoaded (ok : Bool) (img : StartImage) (d : Dev) : Dev :=
  if !d.awaitsImage || !d.pw.imageGood then d
  else if !ok then d.imageFails 5
  else
    let d := d.loadImage img
    let d := (({ d with pw := { d.pw with tablesGood := true } } : Dev).mile 4).refresh
    if d.pw.base = .kennel then d else (d.releaseBraces [0, 1]).bootTimers

/-! ### Boot-good (R353, R361, R363) -/

/-- BOOT_GOOD: a write of `RST.BOOT_GOOD`. It acts from the active brace and in Start alone. -/
def opBootGood (i : Initiator) (v : Word) (d : Dev) : Dev :=
  d.access i (fun d =>
    let key := v = 0x600D0960
    if key ∧ (iniBrace i).isSome ∧ d.pw.base = .start ∧ !d.pw.halted then
      let d := { d with pw := { d.pw with base := .service, goodSeen := true, faultn := true, readyUp := true } }
      let d := ((d.cancel ⟨.bootGood, 0, 0⟩).cancel ⟨.bootHalf, 0, 0⟩).put RST_BOOT_CNT_count 0
      (d.mile 7).syncMode.outcome 1
    else
      let d := if key ∧ (d.pw.base ≠ .start ∨ d.pw.halted) then d.rejectTrig 0x0A else d
      d.ignoredErr pgRST i 0x108 v.toNat)

/-- BOOT_GOOD_TIMEOUT. -/
def opBootTimeout (d : Dev) : Dev :=
  d.onTimer ⟨.bootGood, 0, 0⟩ (fun d => if d.pw.base = .start then d.startFails 7 else d)

/-- BOOT_HALF. -/
def opBootHalf (d : Dev) : Dev := d.onTimer ⟨.bootHalf, 0, 0⟩ (fun d => d.raise pgRST 8)

/-- A new boot-good limit counts from the release of the braces. -/
def Dev.bootLimit (was : Nat) (d : Dev) : Dev :=
  let ms := d.get RST_BOOT_TMO_ms
  let d := match d.due ⟨.bootGood, 0, 0⟩ with
    | some t => d.arm ⟨.bootGood, 0, 0⟩ (t - msT was + msT ms)
    | none => d
  match d.due ⟨.bootHalf, 0, 0⟩ with
  | some t => d.arm ⟨.bootHalf, 0, 0⟩ (t - msT was / 2 + msT ms / 2)
  | none => d

/-- BOOT_CLR: in Kennel mode the key clears the boot counter (R365). -/
def opBootClr (i : Initiator) (v : Word) (d : Dev) : Dev :=
  d.access i (fun d =>
    if v = 0xC1EA0960 ∧ d.pw.base = .kennel then d.put RST_BOOT_CNT_count 0 else d.ignoredErr pgRST i 0x10C v.toNat)

/-- OUT_CTL_WRITE: FAULTN and READY (R353). -/
def opOutCtl (i : Initiator) (v : Word) (d : Dev) : Dev :=
  d.write i pgRST 0x144 v.toNat (fun d =>
    let fault := bitsOf v 0 0
    let d := (d.put RST_OUT_CTL_ready_hold (bitsOf v 1 1)).put RST_OUT_CTL_fault fault
    let free := fault == 0 && d.pw.goodSeen && !d.pw.halted && decide (d.pw.base ≠ .kennel)
    { d with pw := { d.pw with faultn := free } })

/-! ### Writing the options (R357) -/

/-- The bits of bytes 0 to 55 that Table 17-3 gives a field; the others are zero (R354). -/
def optBits : List Nat :=
  [0xFF, 0x03, 0x37, 0x33, 0x07, 0xFF, 0xFF, 0x03, 0x07, 0xFF, 0xFF, 0, 0x07, 0, 0xFF, 0x0F] ++
    List.replicate 7 0xFF ++ [0x01] ++ List.replicate 4 0xFF ++ [0x3F] ++ List.replicate 27 0

/-- The staged image, its reserved bits zero, with its sequence number and crc. -/
def Dev.stagedImage (d : Dev) : List Byte :=
  let staged := (List.range 14).flatMap (fun i => leBytes 4 (d.rd (OPT_STG i)).toNat)
  let body := List.zipWith (fun (b : Byte) (m : Nat) => b &&& BitVec.ofNat 8 m) staged optBits ++ leBytes 4 (optSeq d.optImage + 1)
  body ++ leBytes 4 (crc32 body)

/-- A write that closed provisioning still admits: the image in use with the fields that may change taken from the staged
image. -/
def permitted (now_ new_ : List Byte) : List Byte :=
  let img := setOpt 1 0 0 (optField new_ 1 0 0) now_
  let img := if optField img 3 1 0 < optField new_ 3 1 0 then setOpt 3 1 0 (optField new_ 3 1 0) img else img
  let img := if optField new_ 3 4 4 = 1 then setOpt 3 4 4 1 img else img
  let img := if optField new_ 3 5 5 = 1 then setOpt 3 5 5 1 img else img
  let img := setOpt 28 5 0 (optField new_ 28 5 0) img
  [24, 25, 26, 27].foldl (fun img b => setOpt b 7 0 (optField new_ b 7 0) img) img

/-- Why a write of the options is refused: a status of Table 17-9. -/
def Dev.optRefusal (d : Dev) (img : List Byte) : Option Nat :=
  let body (x : List Byte) : List Byte := x.take 56
  if d.flag OPT_STAT_busy || d.running ⟨.optionWrite, 0, 0⟩ then some 1
  else if d.key.closed && !d.pw.optionsFree && decide (body (permitted d.optImage img) ≠ body img) then some 2
  else if decide (body (voted img) ≠ body img) || optField img 0 7 0 != 1 || (optField img 4 2 2 == 1 && optField img 4 1 0 == 0) then some 3
  else none

/-- An option write starts: at most 30 µs; `why` 1 a confirm, 2 a restart, 3 software. -/
def Dev.writeOptions (why : Nat) (img : List Byte) (d : Dev) : Dev :=
  let d := { d with upd := { d.upd with optWrite := why, optImage := img } }
  (d.put OPT_STAT_busy 1).armIn ⟨.optionWrite, 0, 0⟩ (usT 30)

/-- OPTION_WRITE: a write of `OPT.CMD`. -/
def opOptionWrite (i : Initiator) (v : Word) (d : Dev) : Dev :=
  d.access i (fun d =>
    if v ≠ 0x0B7E0960 then d
    else
      let img := d.stagedImage
      match d.optRefusal img with
      | some st => d.put OPT_STAT_status st
      | none => d.writeOptions 3 img)

/-! ### The meanings of the commands of this file -/

/-- OPTION_LOAD (R356). -/
def execOptionLoad (s : State) : Host.Outcome State Fault Refusal :=
  effect opOptionLoad s

/-- OPTION_COPY_REPAIR (R355). -/
def execOptionCopyRepair (s : State) : Host.Outcome State Fault Refusal :=
  effect opCopyRepair s

/-- ONDIE_FILL_DONE (R293). -/
def execOndieFillDone (s : State) : Host.Outcome State Fault Refusal :=
  effect opFillDone s

/-- RESERVE_ROW_FILLED (R293). -/
def execReserveRowFilled (coins : Nat) (last : Bool) (s : State) : Host.Outcome State Fault Refusal :=
  effect (opReserveRow coins last) s

/-- IMAGE_CHECK_DONE (R361). -/
def execImageCheckDone (img : BankImage) (s : State) : Host.Outcome State Fault Refusal :=
  effectIf (img.wf) (opImageCheck img) s

/-- START_TABLE_LOAD_DONE (R361). -/
def execStartTableLoadDone (ok : Bool) (img : StartImage) (s : State) : Host.Outcome State Fault Refusal :=
  effect (opTablesLoaded ok img) s

/-- BOOT_GOOD (R363). -/
def execBootGood (i : Initiator) (v : Word) (s : State) : Host.Outcome State Fault Refusal :=
  effect (opBootGood i v) s

/-- BOOT_GOOD_TIMEOUT (R361). -/
def execBootGoodTimeout (s : State) : Host.Outcome State Fault Refusal :=
  effect opBootTimeout s

/-- BOOT_HALF (R366). -/
def execBootHalf (s : State) : Host.Outcome State Fault Refusal :=
  effect opBootHalf s

/-- BOOT_CLR (R365). -/
def execBootClr (i : Initiator) (v : Word) (s : State) : Host.Outcome State Fault Refusal :=
  effect (opBootClr i v) s

/-- OUT_CTL_WRITE (R353). -/
def execOutCtlWrite (i : Initiator) (v : Word) (s : State) : Host.Outcome State Fault Refusal :=
  effect (opOutCtl i v) s

/-- OPTION_WRITE (R357). -/
def execOptionWrite (i : Initiator) (v : Word) (s : State) : Host.Outcome State Fault Refusal :=
  effect (opOptionWrite i v) s

end Sys2Proof.Machine
end

