-- ==== Sys2Proof/Machine/Update.lean ====
section
/-!
DEFINITION. The update unit (chapter 18): writing and verifying a bank, the activation by handover and its confirm, the
restart, the owner lock, and the load of PHY code.
-/

namespace Sys2Proof.Machine

/-! ### What every command shares -/

/-- A command is refused: its reason, and REFUSED (R382). -/
def Dev.updRefuse (reason : Nat) (d : Dev) : Dev := (d.put UPD_STAT_reason reason).raise pgUPD 9

/-- The verified header of a bank. -/
def Dev.header (d : Dev) (bank : Nat) : Option ImageHeader := if bank = 0 then d.mram.headerA else d.mram.headerB

/-- The bank that does not run (R369). -/
def Dev.otherBank (d : Dev) : Nat := 1 - d.get UPD_BANK_run

def Dev.verified (d : Dev) (bank : Nat) : Bool := bitAt (d.get UPD_BANK_verified) bank
def Dev.setVerified (bank : Nat) (b : Bool) (d : Dev) : Dev := d.put UPD_BANK_verified (setBitTo (d.get UPD_BANK_verified) bank b)

/-- The owner lock holds (R374). -/
def Dev.ownerLocked (d : Dev) : Bool := d.flag UPD_OLOCK_locked && !d.flag UPD_OLOCK_unlocked

/-- A write or verify runs, or an activation is under way: one at a time (R372). -/
def Dev.updBusy (d : Dev) : Bool := d.flag UPD_STAT_busy || d.get UPD_STAT_state != 0

/-- A write or verify has ended. -/
def Dev.updIdle (d : Dev) : Dev := (d.put UPD_STAT_busy 0).put UPD_STAT_state 0

/-! ### Guards (Table 18-5) -/

/-- The motion source of the options indicates motion. -/
def Dev.moving (d : Dev) : Bool :=
  let src := d.opt 8 % 4
  let pin := d.get PWR_STAT_motion == d.opt 8 / 4 % 2
  let flag := d.flag KLW_MOTION_STAT_moving
  (src == 1 && pin) || (src == 2 && flag) || (src == 3 && (pin || flag))

/-- The guards that hold: bit 0 moving, 1 supply, 2 owner, 3 sleep, 4 halt. -/
def Dev.guards (d : Dev) : Nat := flagBits [d.moving, d.upd.supplyLow, d.ownerLocked, d.pw.settling, d.pw.halted]

/-- The reason of the first guard that holds, in the order of Table 18-5. -/
def Dev.guardReason (d : Dev) : Option Nat :=
  if d.moving then some 0x20
  else if d.upd.supplyLow then some 0x21
  else if d.ownerLocked then some 0x22
  else if d.pw.settling then some 0x10
  else if d.pw.halted then some 0x0D
  else none

/-- The filtered MOTION level and VSUP as they are at a command, in units of 10 mV. -/
def Dev.seeGuards (motion : Bool) (mv10 : Nat) (d : Dev) : Dev :=
  let d := d.put PWR_STAT_motion (if motion then 1 else 0)
  { d with upd := { d.upd with supplyLow := decide (mv10 < 25 * d.opt 9) } }

/-- The launch tick of the armed handover has come. -/
def Dev.handoverDue (d : Dev) : Bool := d.armed .handover && decide ((d.slot .handover).time ≤ d.ns)

/-- A guard starts to hold: before the launch tick it aborts the activation. -/
def Dev.guardStarts (reason : Nat) (d : Dev) : Dev := if d.handoverDue then d else d.guardAborts reason

/-- GUARD_ONSET: a guard starts to hold. -/
def opGuardOnset (g : Guard) (d : Dev) : Dev :=
  if !d.up then d
  else
    match g with
    | .motion =>
      let src := d.opt 8 % 4
      let d := if (src = 1 ∨ src = 3) && !d.moving then d.put PWR_STAT_motion (d.opt 8 / 4 % 2) else d
      if d.moving then d.guardStarts 0x20 else d
    | .supply =>
      if d.opt 9 = 0 then d else ({ d with upd := { d.upd with supplyLow := true } } : Dev).guardStarts 0x21
    | .owner => if d.ownerLocked then d.guardStarts 0x22 else d
    | .sleep => if d.pw.settling then d.guardStarts 0x10 else d
    | .halt => if d.pw.halted then d.guardStarts 0x0D else d

/-! ### Writing and verifying a bank (R371, R372) -/

/-- The range of a bank write is whole words inside the bank. -/
def bankRange (off n : Nat) : Bool := off % 8 == 0 && n % 8 == 0 && decide (off + n ≤ 0x6000000)

/-- The source of a write as fabric memory: the TCM alias of the brace that writes (Table 13-4). -/
def sourceAddr (i : Initiator) (a : Nat) : Nat :=
  if 0x08000000 ≤ a ∧ a < 0x08080000 then
    match iniBrace i with
    | some b => tcmAddr (brIx b) (a - 0x08000000)
    | none => a
  else a

/-- BANK_WRITE: `CMD.cmd` 1. -/
def opBankWrite (i : Initiator) (bank : Bool) (d : Dev) : Dev :=
  let b := if bank then 1 else 0
  d.access i (fun d =>
    let n := d.get UPD_W_LEN_bytes
    if d.updBusy then d.updRefuse 0x02
    else if b = d.get UPD_BANK_run then d.updRefuse 0x28
    else if d.ownerLocked then d.updRefuse 0x22
    else if !bankRange (d.get UPD_W_DST_offset) n then d.updRefuse 0
    else
      let src := sourceAddr i (d.rd64 UPD_W_SRC_LO UPD_W_SRC_HI % 2 ^ 40)
      let d := { d with upd := { d.upd with bank := b, src := src, dst := d.get UPD_W_DST_offset, len := n } }
      let d := ((d.setVerified b false).put UPD_STAT_busy 1).put UPD_STAT_state 1
      d.armIn ⟨.bankWrite, 0, 0⟩ (bankTime n))

/-- The word of the source that a bank write has come to. -/
def sourceWord (d : Dev) : Nat := d.upd.src + d.bankDone

/-- BANK_WRITE_DONE: all bytes have been copied, or an uncorrectable error in the source halts the write. -/
def opBankWriteDone (ok : Bool) (d : Dev) : Dev :=
  if !d.running ⟨.bankWrite, 0, 0⟩ then d
  else
    let d := match d.due ⟨.bankWrite, 0, 0⟩ with
      | some t => if ok then d.at_ t else d
      | none => d
    let bad := sourceWord d
    let d := d.stopBankWrite.updIdle
    (if ok then d else (d.memUe bad).put UPD_STAT_reason 0x2D).raise pgUPD 8

/-- BANK_VERIFY: `CMD.cmd` 2. -/
def opBankVerify (i : Initiator) (bank : Bool) (d : Dev) : Dev :=
  let b := if bank then 1 else 0
  d.access i (fun d =>
    if d.updBusy || d.sigBusy then d.updRefuse 0x02
    else if b = d.get UPD_BANK_run then d.updRefuse 0x28
    else
      let d := { d with upd := { d.upd with bank := b } }
      ((d.put UPD_STAT_busy 1).put UPD_STAT_state 2).armIn ⟨.bankVerify, 0, 0⟩ (msT 110))

def verifyReason : VerifyResult → Nat
  | .pass => 0 | .badImage => 0x23 | .blockCheck => 0x24 | .incompatible => 0x26

/-- BANK_VERIFY_DONE: what the bank holds is checked. -/
def opBankVerifyDone (img : BankImage) (d : Dev) : Dev :=
  d.endTimer ⟨.bankVerify, 0, 0⟩ (fun d =>
    let b := d.upd.bank
    let res := d.imageVerdict img
    let d := d.updIdle
    let d :=
      if res = .pass then
        let d := (d.setVerified b true).wr (if b = 0 then UPD_VER_A else UPD_VER_B) (BitVec.ofNat 32 img.version)
        if b = 0 then { d with mram := { d.mram with headerA := some (imageHeader img) } }
        else { d with mram := { d.mram with headerB := some (imageHeader img) } }
      else (d.setVerified b false).put UPD_STAT_reason (verifyReason res)
    d.raise pgUPD 8)

/-! ### Activation (R373, R375, R378, R380) -/

/-- The image does not fit the cascade or the die (R378). -/
def Dev.incompatible (d : Dev) (h : ImageHeader) : Bool :=
  decide (d.get UPD_CASC_VER_low < h.ctlMin) || decide (h.ctlVer < d.get UPD_CASC_VER_need) || decide (d.get SYS_SYS_ID_die < h.hwMin)

/-- Why an activation of the bank that does not run is refused, or its header; `needs` a standby. -/
def Dev.activation (d : Dev) (needs : Bool) : Except Nat ImageHeader :=
  let b := d.otherBank
  if d.updBusy then .error 0x02
  else
    match (if d.verified b then d.header b else none) with
    | none => .error 0x29
    | some h =>
      if needs && d.standby.isNone then .error 0x27
      else if h.secVer < d.get UPD_SEC_FLOOR_floor then .error 0x25
      else if d.incompatible h then .error 0x26
      else
        match d.guardReason with
        | some r => .error r
        | none => .ok h

/-- PREPARE: `CMD.cmd` 3. The standby takes a class B reset and the Update condition holds; Start admits no activation
(Table 1-7). -/
def opPrepare (i : Initiator) (motion : Bool) (mv10 : Nat) (d : Dev) : Dev :=
  d.access i (fun d =>
    let d := d.seeGuards motion mv10
    if d.pw.base = .start ∧ !d.pw.halted then d.rejectTrig 0x10
    else
      match d.activation true with
      | .error r => d.updRefuse r
      | .ok h =>
        match d.standby with
        | none => d.updRefuse 0x27
        | some s =>
          let d := d.resetBrace s 3
          let d := { d with pw := { d.pw with updating := true }, upd := { d.upd with hdr := some h, target := some (braceOf s) } }
          let d := (d.put UPD_STAT_state 3).syncMode
          if d.flag (BRC_ROLE_failed s) then d.updOver 0x2C else d)

/-- Where the type 1 block of the image being activated goes, if these bytes have its length and its digest (R375). -/
def Dev.codePlace (d : Dev) (code : List Byte) : Option Nat :=
  match d.upd.hdr.bind (·.code) with
  | some (dest, n, digest) => if code.length = n ∧ sha false code = digest then some dest else none
  | none => none

/-- PREPARE_COPY_DONE: the code block stands in the standby's TCM and the standby starts at its entry; a digest that does not
match aborts. -/
def opPrepareCopy (code : List Byte) (d : Dev) : Dev :=
  match d.upd.target with
  | none => d
  | some t =>
    let b := brIx t
    d.endTimer ⟨.prepareCopy, 0, 0⟩ (fun d =>
      match d.codePlace code with
      | none => d.updEnds 0x24
      | some dest =>
        let d := Dev.wrBytes (tcmAddr b dest) (code.take (0x80000 - dest % 0x80000)) d
        let d := (d.setBrc (fun r => { r with copied := r.copied.filter (· != b) ++ [b] })).wdgStart b
        d.armIn ⟨.standby, 0, 0⟩ (msT (max 10 (d.get UPD_SB_TMO_ms))))

/-- STANDBY_TIMEOUT. -/
def opStandbyTimeout (d : Dev) : Dev := d.onTimer ⟨.standby, 0, 0⟩ (fun d => d.updEnds 0x2A)

/-- HANDOVER_SLOT_ARM: a write of `HO_CTL` that arms the handover slot (R374, R376). -/
def opHandoverArm (i : Initiator) (ctl : Word) (d : Dev) : Dev :=
  if !ctlArmed ctl then d
  else
    d.write i pgUPD 0x148 ctl.toNat (fun d =>
      if d.get UPD_STAT_state ≠ 4 ∨ ctlAction ctl ≠ 0x0B then d.setErr pgUPD i 0x148 ctl.toNat
      else
        match d.guardReason with
        | some r => d.updRefuse r
        | none =>
          let d := d.armSlot i .handover ctl
          if d.armed .handover then d.put UPD_STAT_state 5 else d)

/-- BRACE_HANDOVER_LAUNCH: launch action 0x0B; a guard that has held since before the launch tick has aborted it. -/
def opHandoverLaunch (d : Dev) : Dev :=
  match d.upd.target with
  | none => d
  | some t =>
    if d.get UPD_STAT_state ≠ 5 then d
    else if !d.handoverDue && d.guardReason.isSome then d.guardAborts (d.guardReason.getD 0)
    else
      d.launch .handover [0x0B] (fun d =>
        let b := brIx t
        let d := d.handover (1 - b) b 5
        let d := { d with upd := { d.upd with target := none } }
        let d := match d.upd.hdr with
          | some h => d.wr UPD_RUN_VER (BitVec.ofNat 32 h.version)
          | none => d
        ((d.put UPD_STAT_state 6).raise pgUPD 11).armIn ⟨.confirm, 0, 0⟩ (secT (max 1 (min 600 (d.get UPD_CONF_TMO_s)))))

/-- UPDATE_ABORT: `CMD.cmd` 5. -/
def opUpdAbort (i : Initiator) (d : Dev) : Dev :=
  d.access i (fun d =>
    match d.get UPD_STAT_state with
    | 1 => d.stopBankWrite.updIdle.put UPD_STAT_reason 0x2C
    | 2 => (d.cancel ⟨.bankVerify, 0, 0⟩).updIdle.put UPD_STAT_reason 0x2C
    | _ => if d.activating && !d.handoverDue then d.updEnds 0x2C else d.updRefuse 0x0B)

/-- The stored options with another boot bank, as an option write writes them. -/
def Dev.bankImage (d : Dev) (bank : Nat) : List Byte :=
  let img := setOpt 1 0 0 bank (optVote d.mram.options).img
  let body := img.take 56 ++ leBytes 4 (optSeq d.optImage + 1)
  body ++ leBytes 4 (crc32 body)

/-- UPDATE_RESTART: `CMD.cmd` 4: the option bank is written, then a class D reset. -/
def opRestart (i : Initiator) (motion : Bool) (mv10 : Nat) (d : Dev) : Dev :=
  d.access i (fun d =>
    let d := d.seeGuards motion mv10
    if d.pw.base = .start ∧ !d.pw.halted then d.rejectTrig 0x10
    else
      match d.activation false with
      | .error r => d.updRefuse r
      | .ok _ =>
        if d.running ⟨.optionWrite, 0, 0⟩ then d.updRefuse 0x02
        else (d.put UPD_STAT_state 7).writeOptions 2 (d.bankImage d.otherBank))

/-! ### Confirm (R377) -/

/-- CONFIRM: a write of `CONFIRM` by the new active brace. -/
def opConfirm (i : Initiator) (v : Word) (d : Dev) : Dev :=
  d.access i (fun d =>
    if v ≠ 0xC0F10960 ∨ (iniBrace i).isNone ∨ d.get UPD_STAT_state ≠ 6 then d
    else if d.running ⟨.optionWrite, 0, 0⟩ then d.updRefuse 0x02
    else d.writeOptions 1 (d.bankImage d.otherBank))

/-- A confirm takes effect. -/
def Dev.confirmed (d : Dev) : Dev :=
  let d := (d.cancel ⟨.confirm, 0, 0⟩).put UPD_BANK_boot d.otherBank
  let (sec, ver) := match d.upd.hdr with
    | some h => (h.secVer, h.version)
    | none => (0, 0)
  let d := d.put UPD_SEC_FLOOR_floor (max sec (d.get UPD_SEC_FLOOR_floor))
  let d := ((d.put UPD_LAST_outcome 1).put UPD_LAST_reason 0).put UPD_LAST_minor_patch (ver % 65536)
  let d := { d with pw := { d.pw with updating := false }, wak := { d.wak with blocked := d.now } }
  ((d.put UPD_STAT_state 0).raise pgUPD 12).syncMode

/-- OPTION_WRITE_DONE: the three copies are written, or MRAM fails and how many words are written the spec leaves open. The
write was software's, a confirm's, or a restart's. -/
def opOptionDone (ok : Bool) (d : Dev) : Dev :=
  d.endTimer ⟨.optionWrite, 0, 0⟩ (fun d =>
    let why := d.upd.optWrite
    let (x, d) := if ok then (24, d) else d.free 16
    let d := { d with mram := { d.mram with options := writeCopies d.upd.optImage (x % 25) d.mram.options },
                      upd := { d.upd with optWrite := 0, optImage := [] } }
    let d := ((d.put OPT_STAT_busy 0).put OPT_STAT_status (if ok then 0 else 4)).raise pgOPT 8
    match why, ok with
    | 1, true => d.confirmed
    | 1, false => d.put UPD_STAT_reason 0x2D
    | 2, true => d.classD 4
    | 2, false => (d.put UPD_STAT_state 0).put UPD_STAT_reason 0x2D
    | _, _ => d)

/-- The device restarts from the running bank: a rollback. -/
def Dev.rollsBack (d : Dev) : Dev :=
  let d := (d.put UPD_LAST_outcome 3).put UPD_LAST_reason 0x2B
  let d := (d.put UPD_LAST_minor_patch d.activated).put UPD_STAT_state 0
  ({ d with mram := { d.mram with rollback := true } } : Dev).classD 4

/-- CONFIRM_TIMEOUT: a rollback; a confirm whose option write still runs was in time. -/
def opConfirmTimeout (d : Dev) : Dev :=
  d.onTimer ⟨.confirm, 0, 0⟩ (fun d =>
    match d.due ⟨.optionWrite, 0, 0⟩ with
    | some t =>
      if d.upd.optWrite = 1 then d.arm ⟨.confirm, 0, 0⟩ (t + 1)
      else d.rollsBack
    | none => d.rollsBack)

/-! ### Owner lock (R374) -/

/-- OLOCK_SET: the owner guard holds from then on. -/
def opOlockSet (i : Initiator) (d : Dev) : Dev :=
  d.access i (fun d => ((d.put UPD_OLOCK_locked 1).put UPD_OLOCK_unlocked 0).guardStarts 0x22)

/-- The signature in `SIG.SG` is an owner's, over the unlock message. -/
def Dev.unlockGood (d : Dev) : Bool :=
  let msg := beBytes 4 3 ++ beBytes 8 (d.rd64 KEY_UID_LO KEY_UID_HI) ++ beBytes 4 (d.get UPD_OLOCK_CTR_ctr + 1)
  d.key.anchors.any (fun e =>
    e.2.purpose == 1 && anchorTakes e.2 (d.sigKey e.2.curve) &&
    ecdsaValid e.2.curve (d.sigKey e.2.curve) (sha e.2.curve msg) (halves e.2.curve (d.wordBytes SIG_SG 24)))

/-- OLOCK_UNLOCK. -/
def opOlockUnlock (i : Initiator) (d : Dev) : Dev :=
  d.access i (fun d =>
    if d.sigBusy then d.updRefuse 0x02
    else if d.unlockGood then (d.put UPD_OLOCK_unlocked 1).put UPD_OLOCK_CTR_ctr (d.get UPD_OLOCK_CTR_ctr + 1)
    else d.updRefuse 0x22)

/-- OLOCK_CLEAR: the lock bit is cleared after an unlock. -/
def opOlockClear (i : Initiator) (d : Dev) : Dev :=
  d.access i (fun d => if d.flag UPD_OLOCK_unlocked then d.put UPD_OLOCK_locked 0 else d)

/-- An unknown command code (Table 18-9). -/
def Dev.updUnknown (i : Initiator) (d : Dev) : Dev := d.access i (fun d => d.updRefuse 0)

/-- A write of `PG_CTRL.reset` on the UPD page (R382). -/
def Dev.updReset (i : Initiator) (d : Dev) : Dev :=
  match d.get UPD_STAT_state with
  | 1 => d.stopBankWrite.updIdle.put UPD_STAT_reason 0x2C
  | 2 => (d.cancel ⟨.bankVerify, 0, 0⟩).updIdle.put UPD_STAT_reason 0x2C
  | _ => if d.activating && !d.handoverDue then d.updEnds 0x2C else d.ignoredErr pgUPD i 0x10 2

/-! ### PHY code (R379) -/

/-- The ports of a group, in ascending order (Table 7-1). -/
def phyGroup : Nat → List Nat
  | 0 => List.range 4
  | 1 => (List.range 12).map (· + 4)
  | 2 => (List.range 24).map (· + 16)
  | 3 => (List.range 16).map (· + 40)
  | 4 => [56]
  | _ => []

/-- The load of a port begins: its link falls and the code loads. -/
def Dev.codePort (p : Nat) (d : Dev) : Dev :=
  let d := (d.cancel ⟨.train, p, 0⟩).ethDown p
  let d := (d.armIn ⟨.phyCodeDone, p, 0⟩ (msT 5)).armIn ⟨.phyCodeTimeout, p, 0⟩ (secT 1)
  { d with upd := { d.upd with partPort := some p } }

/-- The load goes on with the next of these ports that is neither isolated nor asleep, or ends. -/
def Dev.codeNext (l : List Nat) (d : Dev) : Dev :=
  match l.find? (fun p => d.get (PG_STATE_iso (pgETH p)) == 0 && d.get (PG_STATE_iso (pgPHY p)) == 0 && !d.asleep (pgPHY p)) with
  | some p => d.codePort p
  | none => (({ d with upd := { d.upd with partPort := none } } : Dev).put UPD_PART_go 0).raise pgUPD 8

/-- PHY_CODE_LOAD: a write of `PART` with `go`. -/
def opPhyCode (i : Initiator) (group : Nat) (motion : Bool) (mv10 : Nat) (d : Dev) : Dev :=
  d.writeMixed i pgUPD 0x170 (2 ^ 8 + group % 8) (fun lk d =>
    let group := if lk then d.get UPD_PART_group else group
    let d := (d.seeGuards motion mv10).put UPD_PART_group group
    if d.upd.partPort.isSome then d.updRefuse 0x02
    else if 4 < group then d.updRefuse 0
    else
      match d.guardReason with
      | some r => d.updRefuse r
      | none =>
        let d := { d with upd := { d.upd with partGroup := group } }
        ((d.put UPD_PART_go 1).put UPD_PART_DONE_done 0).codeNext (phyGroup group))

/-- A port is finished and the next one starts. -/
def Dev.codeDone (p : Nat) (d : Dev) : Dev :=
  let l := phyGroup d.upd.partGroup
  let d := (d.cancel ⟨.phyCodeDone, p, 0⟩).cancel ⟨.phyCodeTimeout, p, 0⟩
  let d := d.put UPD_PART_DONE_done (setBitTo (d.get UPD_PART_DONE_done) (p - l.headD 0) true)
  d.codeNext (l.filter (fun q => decide (p < q)))

/-- PHY_CODE_PORT_DONE: the port's link is up again. -/
def opPhyCodeDone (p : EthPort) (d : Dev) : Dev :=
  if d.upd.partPort = some p.val && d.flag (ETH_STAT_link p) && !d.codeLoading p then d.codeDone p else d

/-- PHY_CODE_PORT_TIMEOUT: 1 s has passed without a link. -/
def opPhyCodeTimeout (p : EthPort) (d : Dev) : Dev :=
  if d.upd.partPort = some p.val && !d.flag (ETH_STAT_link p) then d.onTimer ⟨.phyCodeTimeout, p, 0⟩ (Dev.codeDone p) else d

/-! ### The meanings of the commands of this file -/

/-- OPTION_WRITE_DONE (R357). -/
def execOptionWriteDone (ok : Bool) (s : State) : Host.Outcome State Fault Refusal :=
  effect (opOptionDone ok) s

/-- SLOT_ARM (R144). -/
def execSlotArm (i : Initiator) (sl : Slot) (ctl : Word) (s : State) : Host.Outcome State Fault Refusal :=
  effectIf (sl.hasWord && ctl.getLsbD 31)
    (fun d => if sl = .handover then opHandoverArm i ctl d else opSlotArm i sl ctl d) s

/-- BANK_WRITE (R371). -/
def execBankWrite (i : Initiator) (bank : Bool) (s : State) : Host.Outcome State Fault Refusal :=
  effect (opBankWrite i bank) s

/-- BANK_WRITE_DONE (R371). -/
def execBankWriteDone (ok : Bool) (s : State) : Host.Outcome State Fault Refusal :=
  effect (opBankWriteDone ok) s

/-- BANK_VERIFY (R372). -/
def execBankVerify (i : Initiator) (bank : Bool) (s : State) : Host.Outcome State Fault Refusal :=
  effect (opBankVerify i bank) s

/-- BANK_VERIFY_DONE (R372). -/
def execBankVerifyDone (img : BankImage) (s : State) : Host.Outcome State Fault Refusal :=
  effectIf (img.wf) (opBankVerifyDone img) s

/-- PREPARE (R375). -/
def execPrepare (i : Initiator) (motion : Bool) (mv10 : Nat) (s : State) : Host.Outcome State Fault Refusal :=
  effect (opPrepare i motion mv10) s

/-- PREPARE_COPY_DONE (R375). -/
def execPrepareCopyDone (code : List Byte) (s : State) : Host.Outcome State Fault Refusal :=
  effect (opPrepareCopy code) s

/-- STANDBY_TIMEOUT (R375). -/
def execStandbyTimeout (s : State) : Host.Outcome State Fault Refusal :=
  effect opStandbyTimeout s

/-- UPDATE_RESTART (R380). -/
def execUpdateRestart (i : Initiator) (motion : Bool) (mv10 : Nat) (s : State) : Host.Outcome State Fault Refusal :=
  effect (opRestart i motion mv10) s

/-- UPDATE_ABORT (R375). -/
def execUpdateAbort (i : Initiator) (s : State) : Host.Outcome State Fault Refusal :=
  effect (opUpdAbort i) s

/-- GUARD_ONSET (R374). -/
def execGuardOnset (g : Guard) (s : State) : Host.Outcome State Fault Refusal :=
  effect (opGuardOnset g) s

/-- HANDOVER_SLOT_ARM (R376). -/
def execHandoverSlotArm (i : Initiator) (ctl : Word) (s : State) : Host.Outcome State Fault Refusal :=
  effectIf (ctl.getLsbD 31) (opHandoverArm i ctl) s

/-- BRACE_HANDOVER_LAUNCH (R376). -/
def execBraceHandoverLaunch (s : State) : Host.Outcome State Fault Refusal :=
  effect opHandoverLaunch s

/-- CONFIRM (R377). -/
def execConfirm (i : Initiator) (v : Word) (s : State) : Host.Outcome State Fault Refusal :=
  effect (opConfirm i v) s

/-- CONFIRM_TIMEOUT (R377). -/
def execConfirmTimeout (s : State) : Host.Outcome State Fault Refusal :=
  effect opConfirmTimeout s

/-- OLOCK_SET (R374). -/
def execOlockSet (i : Initiator) (s : State) : Host.Outcome State Fault Refusal :=
  effect (opOlockSet i) s

/-- OLOCK_UNLOCK (R374). -/
def execOlockUnlock (i : Initiator) (s : State) : Host.Outcome State Fault Refusal :=
  effect (opOlockUnlock i) s

/-- OLOCK_CLEAR (R374). -/
def execOlockClear (i : Initiator) (s : State) : Host.Outcome State Fault Refusal :=
  effect (opOlockClear i) s

/-- PHY_CODE_LOAD (R379). -/
def execPhyCodeLoad (i : Initiator) (group : Nat) (motion : Bool) (mv10 : Nat) (s : State) : Host.Outcome State Fault Refusal :=
  effectIf (decide (group < 256)) (opPhyCode i group motion mv10) s

/-- PHY_CODE_PORT_DONE (R379). -/
def execPhyCodePortDone (p : EthPort) (s : State) : Host.Outcome State Fault Refusal :=
  effect (opPhyCodeDone p) s

/-- PHY_CODE_PORT_TIMEOUT (R379). -/
def execPhyCodePortTimeout (p : EthPort) (s : State) : Host.Outcome State Fault Refusal :=
  effect (opPhyCodeTimeout p) s

end Sys2Proof.Machine
end

