-- ==== Sys2Proof/Machine/Launch.lean ====
section
/-!
DEFINITION. Steps of device time: the slots and commits that a forward step passes, and the commands that step device time
(R26, R27, R121, R132, R135).
-/

namespace Sys2Proof.Machine

/-! ### What a forward step passes (R27) -/

/-- Something that waits for a launch time. -/
inductive Waiting where
  | commit (pg : Nat)
  | slot (sl : Slot)
  deriving DecidableEq, Repr

/-- What waits for a launch time that device time has reached, with its turn. -/
def Dev.passedBy (d : Dev) : List (Turn × Waiting) :=
  (d.commitsDue.map (fun e => (d.commitTurn e.2, Waiting.commit e.1)) ++
    d.launches.map (fun e => (d.turnAt e.1 e.2, Waiting.slot e.1))).filter (fun e => decide (e.1.time ≤ d.ns))

/-- Put a launch behind those that are not after it. -/
def insertTurn (x : Turn × Waiting) : List (Turn × Waiting) → List (Turn × Waiting)
  | [] => [x]
  | y :: ys =>
    if x.1.commit && !y.1.commit || (x.1.commit == y.1.commit && decide (x.1.time < y.1.time)) || x.1.before y.1 then x :: y :: ys
    else y :: insertTurn x ys

/-- The LIN slots of a channel that device time has passed, in order. -/
def Dev.linPasses (ch : LinCh) : Nat → Dev → Dev
  | 0, d => d
  | n + 1, d =>
    match d.nextSlot ch with
    | some (t, _, _) => if t ≤ d.ns then (opLinSlot ch false d).linPasses ch n else d
    | none => d

/-- The slot executes. -/
def Dev.runSlot (sl : Slot) (d : Dev) : Dev :=
  if d.pw.halted then opLaunchInHalt sl d
  else if sl.hasWord && ctlAction (d.slot sl).ctl == 0 then opSlotNone sl d
  else
    match sl with
    | .tim k =>
      (match ctlAction (d.slot sl).ctl with
       | 0x10 => opGpioHigh k d
       | 0x11 => opGpioLow k d
       | 0x12 => opGpioToggle k d
       | 0x13 => opGpioPulse k d
       | _ => opSlotMessage k d)
    | .can ch k => opTimedDispatch ch k d
    | .wak k => opSegWakeLaunch k d
    | .kalow r => opKalowPeriodic r .none d
    | .aut k => opKeyChangeover k d
    | .handover => opHandoverLaunch d
    | .sleepCommit => if d.get WAK_CONS_STAT_set = 0 then opSleepDevice d else opSleepSet d
    | .linSch ch => d.linPasses ch (d.ns + 1)
    | _ => d

/-- What waits acts: a commit with those that launch with it, or a slot. -/
def Dev.runWaiting (w : Waiting) (d : Dev) : Dev :=
  match w with
  | .commit pg =>
    if (d.pg pg).phase = .prepared then opCascadeExecute (d.ccKey pg) d else opCommitLaunch pg d
  | .slot sl => d.runSlot sl

/-- After a step of device time: what a forward step passed acts in the tick of the step, commits first, the slots in
launch-time order, and the gate lists follow (R26, R27, R121; DEDUCED, log entry 92). -/
def Dev.afterStep (d before : Dev) : Dev :=
  if d.ns ≤ (before.at_ d.now).ns then d
  else
    let l := d.passedBy.foldl (fun l x => insertTurn x l) []
    (d.each l (fun x d => d.runWaiting x.2)).listsStepped

/-! ### The commands that step device time -/

/-- SAMPLE_APPLY with the launches that a step of its passes. -/
def opSampleTaken (d : Dev) : Dev := (opSampleApply d).afterStep d

/-- ADJ_STEP with the launches that it passes. -/
def opAdjStepped (i : Initiator) (d : Dev) : Dev := (opAdjStep i d).afterStep d

/-- ADJ_SET with the launches that it passes. -/
def opAdjSetTo (i : Initiator) (d : Dev) : Dev := (opAdjSet i d).afterStep d

/-! ### The meanings of the commands of this file -/

/-- SAMPLE_APPLY (R132). -/
def execSampleApply (s : State) : Host.Outcome State Fault Refusal :=
  effect opSampleTaken s

/-- ADJ_STEP (R135). -/
def execAdjStep (i : Initiator) (s : State) : Host.Outcome State Fault Refusal :=
  effect (opAdjStepped i) s

/-- ADJ_SET (R135). -/
def execAdjSet (i : Initiator) (s : State) : Host.Outcome State Fault Refusal :=
  effect (opAdjSetTo i) s

end Sys2Proof.Machine
end

