-- ==== Sys2Proof/Machine/Scrub.lean ====
section
/-!
DEFINITION. The commands of the memory integrity unit and the scrubber (chapter 14): passes, repairs, remaps and withdrawals,
the correctable-error threshold and injection.
-/

namespace Sys2Proof.Machine

/-! ### Regions (Table 14-2) -/

/-- Coded units of a region: as the spec gives them, and fixed by the implementation elsewhere. -/
def regionSize : Nat → Nat
  | 0 => 262144 * 32
  | 1 => 33554432 * 2
  | 2 => 262144
  | 5 => 24 * 8192
  | 6 => tblUnit 5 2048
  | 10 => 65536 + 8192
  | 11 => 65536 + 8192
  | 13 => 0
  | 14 => 33554432
  | r => if r < 15 then Config.regionUnits r else 0

/-- Macros of a region; the Reserve and MRAM have none. -/
def macros : Nat → Nat
  | 0 => 256 | 2 => 8 | 3 => 32 | 4 => 16 | 5 => 24 | 6 => 48 | 7 => 32 | 8 => 24 | 9 => 16 | 10 => 40 | 11 => 40
  | 12 => 8 | 13 => 4 | _ => 1

/-- The key of a unit's macro among the used entries. -/
def macroKey (region unit : Nat) : Nat := region * 1024 + Config.macroOf region unit % macros region

/-! ### Remapping (R298, R299) -/

/-- A coin leaves its tier: QUAR, and out of the free list if it is free (Table 3-4). -/
def Dev.quarantine (c : Nat) (d : Dev) : Dev :=
  let p := poolOf c
  let out := (d.poolList p).flatMap (fun (e : Nat × Nat) => spans e.1 (e.1 + e.2) [c])
  let d := if d.coin c = none && freeCount out < freeCount (d.poolList p) then
      (d.setPool p out).put (poolFree p) (d.get (poolFree p) - 1)
    else d
  let d := d.setCoin c (some (.quar, d.vlt.gen))
  if p = .till then d.tillChanged else d

/-- A hard word that no remap entry is left for is withdrawn. -/
def Dev.withdraw (region unit : Nat) (d : Dev) : Dev :=
  let d := if d.mram.withdrawn.contains (region, unit) then d
    else { d with mram := { d.mram with withdrawn := d.mram.withdrawn ++ [(region, unit)] } }
  let d := if region = 0 then d.quarantine (unit / 32) else if region = 1 then d.quarantine (unit / 2) else d
  d.showRemaps.raise pgECC 11

/-- A word is remapped to a spare of its macro, or has none: whether it was, and the device after. -/
def Dev.remap (region unit : Nat) (d : Dev) : Bool × Dev :=
  let k := macroKey region unit
  let n := NMap.get 0 d.ecc.macros k
  if 4 ≤ n ∨ region = 1 ∨ region = 14 then (false, d)
  else
    let d := { d with ecc := { d.ecc with macros := NMap.set 0 d.ecc.macros k (n + 1) },
                      mram := { d.mram with remapped := d.mram.remapped ++ [(region, unit)] } }
    (true, d.showRemaps.raise pgECC 10)

/-- RESERVE_ROW_REMAP_DONE: the row switches to a spare row of its channel, or, with none left, its coins leave the tier. -/
def opRowRemap (chan : Nat) (coins : List Nat) (d : Dev) : Dev :=
  if d.ecc.rowCopies = 0 then d
  else
    let d := { d with ecc := { d.ecc with rowCopies := d.ecc.rowCopies - 1 } }
    let c := chan % 16
    let n := d.get (ECC_RSV_ROWS_used c)
    if n < 64 then
      ({ d with mram := { d.mram with remapped := d.mram.remapped ++ [(1, c * 64 + n)] } } : Dev).showRemaps.raise pgECC 10
    else (d.each coins (fun k d => d.withdraw 1 (k * 2))).raise pgECC 11

/-! ### Repair (R295) -/

/-- The slot of a table whose words hold a unit of region 6. -/
def slotOfUnit (u : Nat) : Nat × Nat :=
  if u < tblUnit 1 0 then (0, u / 2)
  else if u < tblUnit 2 0 then (1, (u - tblUnit 1 0) / 3)
  else if u < tblUnit 3 0 then (2, (u - tblUnit 2 0) / 2)
  else if u < tblUnit 4 0 then (3, u - tblUnit 3 0)
  else if u < tblUnit 5 0 then (4, (u - tblUnit 4 0) / 2)
  else (5, (u - tblUnit 5 0) / 10)

/-- The repair value of a word, where the model holds the word itself: zero data. -/
def Dev.repairWrite (region unit : Nat) (d : Dev) : Dev :=
  let d := d.wroteUnits region unit 1
  match region with
  | 6 =>
    let (t, i) := slotOfUnit unit
    if t < 3 && !isValid t (d.ent t i) then d.setEnt t i 0 else d
  | 5 =>
    let k := unit / 8192 * 2 ^ 14 + unit % 8192 * 2
    { d with bus := { d.bus with ram := NMap.set 0 (NMap.set 0 d.bus.ram k 0) (k + 1) 0 } }
  | 10 => if unit < 65536 then Dev.wrBytes (tcmAddr 0 (unit * 8)) (List.replicate 8 0) d else d
  | 11 => if unit < 65536 then Dev.wrBytes (tcmAddr 1 (unit * 8)) (List.replicate 8 0) d else d
  | _ => d

/-- The repair queue is reset: its items are counted as dropped, and every region needs a full pass (R301). -/
def Dev.repairsLost (d : Dev) : Dev :=
  let n := d.ecc.repairQ.length
  let d := ({ d with ecc := { d.ecc with repairQ := [] } } : Dev).put SCB_REPQ_CNT_items 0
  ((d.add ⟨SCB_REPQ_LOST, 31, 0⟩ n).put SCB_RESCAN_region 0x7FFF).queueReset 7 0

/-- REPAIR: `mism` where the queue's pointer copies disagree; the word at the head of the repair queue is written, tested, and
remapped if the test finds it hard. -/
def opRepair (hard mism : Bool) (d : Dev) : Dev :=
  let d := if mism && d.up && d.works pgSCB then d.repairsLost else d
  match d.ecc.repairQ with
  | [] => d
  | (region, unit, _) :: rest =>
    if !d.up || !d.works pgSCB then d
    else
      let d := { d with ecc := { d.ecc with repairQ := rest } }
      let d := (d.put SCB_REPQ_CNT_items rest.length).repairWrite region unit
      if !hard then d
      else
        match d.remap region unit with
        | (true, d) => d
        | (false, d) => d.withdraw region unit

/-! ### Passes (R296, R297) -/

/-- A pass begins. -/
def Dev.passBegins (d : Dev) : Dev :=
  let e := d.ecc
  let d := { d with ecc := { e with passAt := e.first, passLeft := e.units, passStart := d.now, words := 0, ce := 0, ue := 0,
                                    hard := 0, remaps := 0, firstUe := 0xFFFFFFFF } }
  (d.put SCB_CTL_go 1).put SCB_CTL_abort 0

/-- SCRUB_GO: a write of `CTL.go`. -/
def opScrubGo (i : Initiator) (d : Dev) : Dev :=
  d.access i (fun d =>
    let r := d.get SCB_REGION_region
    let first := d.get SCB_FIRST_unit
    let n := d.get SCB_COUNT_units
    if d.flag SCB_CTL_go || n = 0 || r = 13 || decide (regionSize r < first + n) then
      (d.put SCB_STAT_err 1).setErr pgSCB i 0x110 1
    else
      let d := { d with ecc := { d.ecc with region := r, first := first, units := n } }
      let d := (d.put SCB_STAT_err 0).passBegins
      let per := d.get SCB_PER_ms
      if per = 0 then d.cancel ⟨.scrubPeriod, 0, 0⟩ else d.armIn ⟨.scrubPeriod, 0, 0⟩ (msT per))

/-- SCRUB_ABORT: the pass ends at the next unit. -/
def opScrubAbort (i : Initiator) (d : Dev) : Dev :=
  d.access i (fun d =>
    if d.flag SCB_CTL_go then { d with ecc := { d.ecc with passLeft := 0 } } else d)

/-- SCRUB_PERIOD: the same pass again, unless it still runs; a period written to 0 ends the repetition. -/
def opScrubPeriod (d : Dev) : Dev :=
  if d.get SCB_PER_ms = 0 then d.onTimer ⟨.scrubPeriod, 0, 0⟩ id
  else d.onPeriod ⟨.scrubPeriod, 0, 0⟩ (msT (d.get SCB_PER_ms)) (fun d => if d.flag SCB_CTL_go then d else d.passBegins)

/-- A coin's frame is discarded (R80): its copies leave without starting. -/
def Dev.poisonCoin (c : Nat) (count : Nat) (d : Dev) : Dev :=
  if d.vlt.frames.any (fun f => f.coins.contains c) then
    ({ d with vlt := { d.vlt with frames := d.vlt.frames.map (fun f => if f.coins.contains c then { f with poison := true } else f) } }
      : Dev).count count |>.raise (pgVLT 0) 12
  else d

/-- The owner of a unit of the traffic manager's memories reads it uncorrectable (R125). -/
def Dev.trmUnitLost (u : Nat) (d : Dev) : Dev :=
  if u < trmUnit 2 0 then d.trmLost 1 (u / 3)
  else if u < trmUnit 3 0 then d.trmLost 2 ((u - trmUnit 2 0) / 2)
  else if u < trmUnit 4 0 then d.trmLost 3 (u - trmUnit 3 0)
  else if u < trmUnit 4 (57 * 2048) then
    let x := u - trmUnit 4 0
    if ((d.tas (x / 2048)).cur.any (fun c => c.bank == x / 1024 % 2)) then d.gclStop (x / 2048) else d
  else d

/-- The owner of a unit of Kalow's memories reads it uncorrectable (R204). -/
def Dev.klwUnitLost (u : Nat) (d : Dev) : Dev :=
  if u < klwUnit 7 0 then d.descLost else if u < klwUnit 7 16384 then d.storeLost (u - klwUnit 7 0) else d

/-- The owner of a unit of the contexts, key slots and holding registers reads it uncorrectable (R233, R244). -/
def Dev.autUnitLost (u : Nat) (d : Dev) : Dev :=
  if u < 4096 then d.ctxLost u
  else if u < 12288 then d.slotLost ((u - 4096) / 2) (u % 2 == 1)
  else if u < 12304 then
    ({ d with key := { d.key with hold := NMap.set none d.key.hold (u - 12288) none } } : Dev).raise pgKEY 15
  else d

/-- An uncorrectable unit met by a pass acts as if its owner had read it (Table 14-4), where the spec places the unit in its
owner's memory. -/
def Dev.scrubUe (region unit : Nat) (d : Dev) : Dev :=
  let d := match region with
    | 0 => d.poisonCoin (unit / 32) VLT_TILL_PE
    | 1 => d.poisonCoin (unit / 2) VLT_RSV_UE
    | 2 => d.poisonCoin unit VLT_LINK_UE
    | 5 => d.mrLost (unit / 8192) (unit % 8192 * 2)
    | 6 => d.tableLost (slotOfUnit unit).1 (slotOfUnit unit).2
    | 7 => d.trmUnitLost unit
    | 8 => d.klwUnitLost unit
    | 9 => d.autUnitLost unit
    | _ => d
  if region = 14 then d.count (ECC_UE 14) else d.uncorrectable region unit 7

/-- A correctable unit: written back and read again; one that errs again is hard, and remapped. -/
def Dev.scrubCe (region unit : Nat) (hard : Bool) (d : Dev) : Dev :=
  let d := d.correctable region
  let d := ({ d with ecc := { d.ecc with ce := d.ecc.ce + 1 } } : Dev).wroteUnits region unit 1
  if !hard || region = 14 then d
  else
    let d := { d with ecc := { d.ecc with hard := d.ecc.hard + 1 } }
    if region = 1 then { d with ecc := { d.ecc with rowCopies := d.ecc.rowCopies + 1 } }
    else
      match d.remap region unit with
      | (true, d) => { d with ecc := { d.ecc with remaps := d.ecc.remaps + 1 } }
      | (false, d) => d.raise pgECC 11

/-- SCRUB_UNIT_READ: the next unit of the pass. Parity corrects nothing: a Till error is uncorrectable. -/
def opScrubRead (f : ScrubFind) (d : Dev) : Dev :=
  if !d.up || !d.works pgSCB || !d.flag SCB_CTL_go || decide (d.ecc.passLeft = 0) then d
  else
    let u := d.ecc.passAt
    let r := d.ecc.region
    let d := { d with ecc := { d.ecc with passAt := u + 1, passLeft := d.ecc.passLeft - 1, words := d.ecc.words + 1 } }
    let bad := match f with
      | .clean => false
      | .correctable _ => r == 0
      | .uncorrectable => true
    if bad then
      let first := decide (d.ecc.ue = 0)
      let d := { d with ecc := { d.ecc with ue := d.ecc.ue + 1, firstUe := if first then u else d.ecc.firstUe } }
      let d := d.scrubUe r u
      if first then d.raise pgSCB 9 else d
    else
      match f with
      | .correctable hard => d.scrubCe r u hard
      | _ => d

/-- SCRUB_PASS_DONE: the summary registers take the values of the pass. -/
def opScrubDone (d : Dev) : Dev :=
  if !d.flag SCB_CTL_go || decide (d.ecc.passLeft ≠ 0) then d
  else
    let e := d.ecc
    let w (a n : Nat) (d : Dev) : Dev := d.wr a (BitVec.ofNat 32 n)
    let d := w SCB_S_REMAP e.remaps (w SCB_S_HARD e.hard (w SCB_S_UE e.ue (w SCB_S_CE e.ce (w SCB_S_WORDS e.words d))))
    let d := w SCB_S_DUR ((d.now - e.passStart) / 4800) (w SCB_S_FIRST_UE e.firstUe d)
    let d := (d.wr64 SCB_S_T_LO SCB_S_T_HI d.ns).put SCB_CTL_go 0
    let d := if e.words = regionSize e.region then
        d.put SCB_RESCAN_region (setBitTo (d.get SCB_RESCAN_region) e.region false)
      else d
    d.raise pgSCB 8

/-- Unit reset of SCB: the pass is aborted, the last summary and the repair queue are kept (R306). -/
def Dev.scbReset (d : Dev) : Dev :=
  ((d.put SCB_CTL_go 0).cancel ⟨.scrubPeriod, 0, 0⟩ : Dev)

/-! ### The threshold, the record, injection -/

/-- CE_THRESHOLD_CHECK: the end of a whole second (R305). -/
def opCeThreshold (d : Dev) : Dev :=
  d.onPeriod ⟨.ceSecond, 0, 0⟩ (secT 1) (fun d =>
    let thr := d.get ECC_CE_THR_per_s
    let excess := thr != 0 && d.ecc.ceSecond.any (fun e => decide (thr < e.2))
    let d := { d with ecc := { d.ecc with ceSecond := [] } }
    if excess then d.raise pgECC 9 else d)

/-- REMAP_RECORD_CLEAR: at the next class D reset (R300). -/
def opRecordClear (i : Initiator) (d : Dev) : Dev :=
  d.access i (fun d => ({ d with ecc := { d.ecc with clearRec := true } } : Dev).put ECC_REC_CLR_clr 1)

/-- INJECT_ARM: a write of `INJ` with `arm` (R304). -/
def opInject (i : Initiator) (v : Word) (d : Dev) : Dev :=
  if !v.getLsbD 31 then d
  else
    d.writeMixed i pgECC 0x300 v.toNat (fun lk d =>
      let r := if lk then d.get ECC_INJ_region else bitsOf v 27 24
      let b := if lk then d.get ECC_INJ_bits else bitsOf v 17 16
      if d.flag ECC_INJ_arm || r = 13 || r = 14 || decide (b = 0) then d.setErr pgECC i 0x300 v.toNat
      else ((d.put ECC_INJ_region r).put ECC_INJ_bits b).put ECC_INJ_arm 1)

/-! ### The meanings of the commands of this file -/

/-- REPAIR (R295). -/
def execRepair (hard mism : Bool) (s : State) : Host.Outcome State Fault Refusal :=
  effect (opRepair hard mism) s

/-- SCRUB_GO (R296). -/
def execScrubGo (i : Initiator) (s : State) : Host.Outcome State Fault Refusal :=
  effect (opScrubGo i) s

/-- SCRUB_ABORT (R296). -/
def execScrubAbort (i : Initiator) (s : State) : Host.Outcome State Fault Refusal :=
  effect (opScrubAbort i) s

/-- SCRUB_PERIOD (R296). -/
def execScrubPeriod (s : State) : Host.Outcome State Fault Refusal :=
  effect opScrubPeriod s

/-- SCRUB_UNIT_READ (R297). -/
def execScrubUnitRead (f : ScrubFind) (s : State) : Host.Outcome State Fault Refusal :=
  effect (opScrubRead f) s

/-- SCRUB_PASS_DONE (R297). -/
def execScrubPassDone (s : State) : Host.Outcome State Fault Refusal :=
  effect opScrubDone s

/-- RESERVE_ROW_REMAP_DONE (R299). -/
def execReserveRowRemapDone (chan : Nat) (coins : List Nat) (s : State) : Host.Outcome State Fault Refusal :=
  effectIf (decide (chan < 16)) (opRowRemap chan coins) s

/-- CE_THRESHOLD_CHECK (R305). -/
def execCeThresholdCheck (s : State) : Host.Outcome State Fault Refusal :=
  effect opCeThreshold s

/-- INJECT_ARM (R304). -/
def execInjectArm (i : Initiator) (v : Word) (s : State) : Host.Outcome State Fault Refusal :=
  effect (opInject i v) s

/-- REMAP_RECORD_CLEAR (R300). -/
def execRemapRecordClear (i : Initiator) (s : State) : Host.Outcome State Fault Refusal :=
  effect (opRecordClear i) s

end Sys2Proof.Machine
end

