-- ==== Sys2Proof/Machine/Pages.lean ====
section
/-!
DEFINITION. What every page has (chapter 2): unit reset, enable, isolation and return, fences, interrupt status, and the
lock.
-/

namespace Sys2Proof.Machine

/-! ### Unit reset (R37) -/

/-- Pages whose unit takes no reset: a write of `PG_CTRL.reset` has no effect and sets ERR (R81, R125, R214, R305,
R366, R396). -/
def PgKind.fixed : PgKind → Bool
  | .rst | .opt | .clk | .pwr | .ecc | .vlt0 | .vlt1 | .vlt3 | .vlt4 | .que => true
  | .trm0 | .trm1 | .trm2 | .trm3 | .trmP | .trm7 | .trm8 | .trm9 | .trmX | .klw1 | .klw2 | .klw3 => true
  | _ => false

/-- A unit reset of FWD: lookups in flight and frames arriving end with reason RESET (R105). -/
def Dev.fwdReset (d : Dev) : Dev :=
  { d with
    vlt := { d.vlt with frames := d.vlt.frames.map (fun f => if f.tL.isNone then { f with reset := true } else f) }
    eth := { d.eth with rx := d.eth.rx.map (fun e => (e.1, e.2.map (fun r => if r.fid.isNone then { r with rst := true } else r))) } }

/-- What a unit reset does to the working state of a page's unit, as its chapter gives it. -/
def Dev.unitCleared (pg : Nat) (d : Dev) : Dev :=
  match pageKind pg with
  | none => d
  | some (k, n) =>
    match k with
    | .wak => d.wakReset
    | .tim => d.timReset
    | .vlt2 => d.vltUnitReset
    | .fwd => d.fwdReset
    | .lrn => d.lrnReset
    | .tbl => d.tblReset
    | .eth => d.ethReset n
    | .phy => d.phyReset n
    | .can => d.canReset n
    | .lin => d.linReset n
    | .klw0 => d.klwReset
    | .klw4 => d.dumpReset
    | .aut => d.autAbort
    | .key => d.keyReset
    | .sig => d.sigReset
    | .scb => d.scbReset
    | .hbr => d.hbrReset
    | .vhl => d.vhlReset n
    | _ => d

/-- The launch time of an armed slot. -/
def Dev.slotDue (d : Dev) (sl : Slot) : Option Nat :=
  match sl with
  | .gate p => Option.map (fun (c : ListCfg) => c.start) (d.tas p).pend
  | .streamGate g => Option.map (fun (c : ListCfg) => c.start) (d.gateRun g).pend
  | .linSch ch => Option.map (fun (c : ListCfg) => c.start) (d.schRun ch).pend
  | .sleepCommit => if d.sleepArmed then some d.sleepT else none
  | sl => if d.armed sl then some (d.slot sl).time else none

/-- The page of the unit that an output's copies leave by. -/
def outPage (o : Nat) : Nat := if 58 ≤ o ∧ o ≤ 61 then pgVHL (o - 58) else if o = 57 then pgHBR else (portPages o).headD 0

/-- The condition of a fence, of whatever page, rests on a unit (R47): a commit that its channel has still to take up, a
copy of an older decision that it sends or keeps, or a launch slot of its own. -/
def Dev.restsOn (d : Dev) (pg : Nat) (f : Fence) : Bool :=
  let old (fid : Nat) : Bool := (d.frame fid).any (fun x => x.tL.isSome && decide (x.epoch < f.mark))
  match f.kind with
  | 1 => f.items.any (fun ch => d.bus.cfgWait.contains ch && pgCAN ch == pg)
  | 2 => d.vlt.tx.any (fun t => outPage t.out == pg && old t.fid) || d.vlt.drawn.any (fun x => outPage x.port == pg && old x.copy.fid)
  | 4 => f.slots.any (fun e => (slotPage e.1 == pg || (slotUnit e.1 == pgKLW 3 && pg == pgKLW 0)) && decide (d.slotDue e.1 = some e.2))
  | _ => false

/-- A unit reset begins: commits in progress on the page are cancelled, its Queue and Bridge fences and every fence
whose condition rests on the unit fail, the unit is cleared, and it is held for 64 CK_PER cycles. -/
def Dev.unitReset (pg : Nat) (d : Dev) : Dev :=
  let d := (d.holdOff.abortCommit pg rsUnitReset).fencesFail pg (fun f => f.kind == 3 || f.kind == 5)
  let d := (d.allFencesFail (d.restsOn pg)).unitCleared pg
  let d := (d.put (PG_STATE_in_reset pg) 1).put (PG_CTRL_reset pg) 1
  (d.armIn ⟨.unitReset, pg, 0⟩ (perT 64)).refreshFrom pg

/-- A request for a unit reset. A unit that is in reset takes none, but one that reports CLOCK_FAIL asks for its release
anew (R359). -/
def Dev.resetAsked (i : Initiator) (pg : Nat) (d : Dev) : Dev :=
  match pageKind pg with
  | none => d
  | some (k, n) =>
    if k.fixed then d.ignoredErr pg i 0x10 2
    else if k = .brc then d.classBAsked i n
    else if k = .upd then d.updReset i
    else if d.flag (PG_STATE_in_reset pg) then
      if (d.pg pg).clockFail then
        ((d.modPg pg (fun s => { s with clockFail := false })).askRelease pg).refreshFrom pg
      else d
    else d.unitReset pg

/-- UNIT_RESET. -/
def opUnitReset (i : Initiator) (pg : Nat) (d : Dev) : Dev :=
  if (pageKind pg).isNone then d else d.write i pg 0x10 2 (Dev.resetAsked i pg)

/-! ### Enable (Table 2-8) -/

/-- `PG_CTRL.enable` takes a value. -/
def Dev.setEnable (pg : Nat) (en : Bool) (d : Dev) : Dev := (d.put (PG_CTRL_enable pg) (if en then 1 else 0)).refreshFrom pg

/-- PG_ENABLE_WRITE. -/
def opPgEnable (i : Initiator) (pg : Nat) (en : Bool) (d : Dev) : Dev :=
  if (pageKind pg).isNone then d else d.write i pg 0x10 (if en then 1 else 0) (Dev.setEnable pg en)

/-! ### Isolation (R38) -/

/-- A unit starts to isolate; one that sleeps has nothing to finish. -/
def Dev.isolate (k : PgKind) (pg n : Nat) (d : Dev) : Dev :=
  let d := d.put (PG_STATE_iso pg) 0
  let d := match k with
    | .eth => d.isoEth n
    | .can => d.isoCan n
    | .lin => d.isoLin n
    | .vhl => d.isoVhl n
    | _ => d
  let d := d.modPg pg (fun s => { s with returnAsked := false })
  if d.asleep pg then d.setIso pg 2 else d

/-- A request to isolate a page's unit. A page without `PG_CAP.isolate` takes none. -/
def Dev.isolateAsked (i : Initiator) (pg : Nat) (d : Dev) : Dev :=
  match pageKind pg with
  | none => d
  | some (k, n) =>
    if !d.flag (PG_CAP_isolate pg) then d
    else if d.get (PG_STATE_iso pg) = 1 ∨ d.get (PG_STATE_iso pg) = 2 then
      (d.put (PG_CTRL_isolate pg) 1).modPg pg (fun s => { s with returnAsked := false })
    else if d.pw.halted then d.rejectTrig 0x12
    else if d.handedOver pg then d.updateBusy pg i 0x10 4
    else d.isolate k pg n

/-- ISOLATE_REQUEST: by an initiator, or made by the device. -/
def opIsolate (i : Option Initiator) (pg : Nat) (d : Dev) : Dev :=
  match i with
  | some i => d.write i pg 0x10 4 (Dev.isolateAsked i pg)
  | none => if d.up then d.isolateAsked .resetCtl pg else d

/-- Nothing is in reception or transmission in a page's unit. -/
def Dev.unitDone (d : Dev) (pg : Nat) : Bool :=
  let noTx (out : Nat) : Bool := d.vlt.tx.all (fun t => t.out != out)
  match pageKind pg with
  | none => true
  | some (k, n) =>
    match k with
    | .eth => noTx n && (match d.rxOf n with
      | none => true
      | some r => r.iso)
    | .can => (d.canCur n).isNone
    | .lin => d.linIdle n
    | .vhl => noTx (58 + n) && (d.rxOf (58 + n)).isNone
    | _ => true

/-- A unit returns to service. -/
def Dev.returning (pg : Nat) (d : Dev) : Dev :=
  ((d.put (PG_CTRL_isolate pg) 0).modPg pg (fun s => { s with returnAsked := false })).setIso pg 3

/-- ISOLATION_COMPLETE: the items in the unit have ended; a return asked for meanwhile takes effect. -/
def opIsolationDone (pg : Nat) (d : Dev) : Dev :=
  if d.get (PG_STATE_iso pg) ≠ 1 || !d.unitDone pg then d
  else
    let d := d.setIso pg 2
    if (d.pg pg).returnAsked then d.returning pg else d

/-- A request for return to service. -/
def Dev.returnAsked (pg : Nat) (d : Dev) : Dev :=
  match d.get (PG_STATE_iso pg) with
  | 1 => (d.put (PG_CTRL_isolate pg) 0).modPg pg (fun s => { s with returnAsked := true })
  | 2 => d.returning pg
  | _ => d.put (PG_CTRL_isolate pg) 0

/-- RETURN_REQUEST. -/
def opReturn (i : Initiator) (pg : Nat) (d : Dev) : Dev :=
  if (pageKind pg).isNone then d else d.write i pg 0x10 0 (Dev.returnAsked pg)

/-- A unit is back in service: its VOQs no longer drain for the isolation. -/
def Dev.unitBack (pg : Nat) (d : Dev) : Dev :=
  match pageKind pg with
  | none => d
  | some (k, n) =>
    match k with
    | .eth => d.ethReturn n
    | .can => if d.canState n = 2 then d else d.drainOff (canPort n)
    | .lin => (d.drainOff (linPort n)).linBack n
    | .vhl => d.vhlBack n
    | _ => d

/-- RETURN_COMPLETE: the unit reports ready again. -/
def opReturnDone (pg : Nat) (d : Dev) : Dev :=
  if d.get (PG_STATE_iso pg) ≠ 3 || (d.put (PG_STATE_iso pg) 0).reasonOf pg ≠ 0 then d
  else
    let d := d.setIso pg 0
    let d := { d with sys := { d.sys with isolated := d.sys.isolated.filter (· != pg) } }
    ((d.unitBack pg).refreshFrom pg).syncMode

/-! ### Fences (R46 to R49) -/

/-- The slots of the device that can be armed. -/
def Dev.allSlots (d : Dev) : List Slot :=
  (List.finRange 16).map Slot.tim ++
  (List.finRange 24).flatMap (fun ch => (List.finRange 16).map (Slot.can ch)) ++
  (List.finRange 8).map Slot.wak ++ d.kal.slots.map (fun e => Slot.kalow e.1) ++ d.aut.chg.map (fun e => Slot.aut e.1) ++
  [Slot.handover, Slot.sleepCommit] ++ (List.finRange 57).map Slot.gate ++
  d.trm.gateRun.map (fun e => Slot.streamGate e.1) ++ (List.finRange 8).map Slot.linSch

/-- The armed slots with a launch time before device time (R149). -/
def Dev.overdue (d : Dev) : List (Slot × Nat) :=
  d.allSlots.filterMap (fun sl => match d.slotDue sl with
    | some t => if t < d.ns then some (sl, t) else none
    | none => none)

/-- What a Queue fence on a page's queue waits for: a count of items, or the numbers of copies, frames or repairs (R66, R101,
R179, R182, R188, R306). -/
def Dev.queued (d : Dev) (pg q : Nat) : Nat × List Nat :=
  match pageKind pg with
  | none => (0, [])
  | some (k, n) =>
    match k with
    | .que => (0, (d.vlt.frames.filter (fun f => f.queued)).map (fun f => f.id))
    | .tbl => ((d.ringTail q + d.ringSize q - d.ringHead q % d.ringSize q) % d.ringSize q, [])
    | .can => if q = 0 then (0, (d.drawsOf (canPort n)).map (fun x => x.copy.serial)) else (d.get (fifoCnt n (q - 1)), [])
    | .lin => if q = 0 then (0, (d.drawsOf (linPort n)).map (fun x => x.copy.serial))
      else ((NMap.get [] d.bus.linFifo n).length, [])
    | .scb => (0, d.ecc.repairQ.map (fun (e : Nat × Nat × Nat) => e.2.2))
    | _ => (0, [])

/-- The serial number of a copy that has neither been sent nor discarded. -/
def Dev.copyHeld (d : Dev) (s : Nat) : Bool :=
  d.vlt.drawn.any (fun x => x.copy.serial == s) || d.vlt.voqs.any (fun e => e.2.any (fun c => c.serial == s))

/-- The condition of a fence holds (Table 2-15, R320). -/
def Dev.fenceHolds (d : Dev) (pg : Nat) (f : Fence) : Bool :=
  match f.kind with
  | 1 => f.items.all (fun ch => !d.bus.cfgWait.contains ch)
  | 2 => d.vlt.frames.all (fun x => !(x.tL.isSome && decide (x.epoch < f.mark)))
  | 3 => d.hbr.reads.all (fun e => match e.2 with
    | some r => !f.items.contains r.serial
    | none => true)
  | 4 => f.slots.all (fun e => decide (d.slotDue e.1 ≠ some e.2))
  | 5 =>
    decide (f.mark = 0) && (match pageKind pg with
      | some (.que, _) => d.vlt.frames.all (fun x => !f.items.contains x.id)
      | some (.scb, _) => d.ecc.repairQ.all (fun (e : Nat × Nat × Nat) => !f.items.contains e.2.2)
      | _ => f.items.all (fun s => !d.copyHeld s))
  | _ => true

/-- An initiator's last fence of a page: its queue, its kind (0 refused) and its token. -/
def Dev.setLast (pg : Nat) (i : Initiator) (v : Nat × Nat × Nat) (d : Dev) : Dev :=
  d.modPg pg (fun s => { s with last := (i, v) :: s.last.filter (fun e => decide (e.1 ≠ i)) })

def Dev.lastFence (d : Dev) (pg : Nat) (i : Initiator) : Nat × Nat × Nat :=
  match (d.pg pg).last.find? (fun e => decide (e.1 = i)) with
  | some e => e.2
  | none => (0, 0, 0)

/-- The page takes a fence of this kind and queue now (R46); a queue that the page does not have is refused (DEDUCED, log
entry 22). -/
def Dev.fenceTaken (d : Dev) (pg kind q : Nat) : Bool :=
  decide (1 ≤ kind) && decide (kind ≤ 5) && bitAt (d.get (PG_CAP_fences pg)) (kind - 1) &&
  (kind != 5 || decide (q < d.get (PG_CAP_queues pg))) && decide ((d.pg pg).fences.length < 16)

/-- The data of a fence's condition at issue. -/
def Dev.newFence (d : Dev) (i : Initiator) (pg kind q : Nat) : Fence :=
  let base : Fence := { token := (d.pg pg).nextToken, kind := kind, queue := q, by_ := i, mark := 0, slots := [], items := [],
                        failed := false }
  match kind with
  | 1 => { base with items := d.bus.cfgWait }
  | 2 => { base with mark := d.epoch }
  | 3 => { base with
      mark := if d.hbr.failed.contains (iniCode i) || !d.flag HBR_STAT_link then 1 else 0
      items := d.hbr.reads.filterMap (fun e => match e.2 with
        | some r => if r.ack && r.by_ == iniCode i then some r.serial else none
        | none => none) }
  | 4 => { base with slots := d.overdue }
  | 5 => { base with mark := (d.queued pg q).1, items := (d.queued pg q).2 }
  | _ => base

/-- A fence is refused: no token, kind reads 0, ERR (R46). -/
def Dev.fenceRefused (i : Initiator) (pg kind q : Nat) (d : Dev) : Dev :=
  let v := q % 16 * 2 ^ 20 + kind % 8 * 2 ^ 16
  (d.setLast pg i (q % 16, 0, (d.lastFence pg i).2.2)).capture pg 0x03 0 i 0x40 v 0

/-- A fence is issued, or refused (R46). In Halt it completes with error at once (R47). -/
def Dev.fence (i : Initiator) (pg kind q : Nat) (d : Dev) : Dev :=
  if !d.fenceTaken pg kind q then d.fenceRefused i pg kind q
  else
    let f := d.newFence i pg kind q
    let d := if kind = 3 then { d with hbr := { d.hbr with failed := d.hbr.failed.filter (· != iniCode i) } } else d
    let d := d.modPg pg (fun s => { s with fences := s.fences ++ [f], nextToken := (s.nextToken + 1) % 65536 })
    let d := (d.setLast pg i (q, kind, f.token)).armIn ⟨.fence, pg, f.token⟩ (msT (d.get SYS_FENCE_TMO_ms))
    if d.pw.halted then d.fencesFail pg (fun x => x.token == f.token) else d

/-- A write of `PG_FENCE`. -/
def Dev.fenceWrite (i : Initiator) (pg kind q : Nat) (d : Dev) : Dev :=
  if (pageKind pg).isNone then d else d.access i (Dev.fence i pg kind q)

/-- FENCE_CONFIG. -/
def opFenceConfig (i : Initiator) (pg : Nat) (d : Dev) : Dev := d.fenceWrite i pg 1 0

/-- FENCE_TABLE. -/
def opFenceTable (i : Initiator) (pg : Nat) (d : Dev) : Dev := d.fenceWrite i pg 2 0

/-- FENCE_BRIDGE. -/
def opFenceBridge (i : Initiator) (pg : Nat) (d : Dev) : Dev := d.fenceWrite i pg 3 0

/-- FENCE_TIME. -/
def opFenceTime (i : Initiator) (pg : Nat) (d : Dev) : Dev := d.fenceWrite i pg 4 0

/-- FENCE_QUEUE. -/
def opFenceQueue (i : Initiator) (pg q : Nat) (d : Dev) : Dev := d.fenceWrite i pg 5 q

/-- FENCE_REFUSED: a write of `PG_FENCE` that the page refuses. -/
def opFenceRefused (i : Initiator) (pg : Nat) (v : Word) (d : Dev) : Dev :=
  let kind := bitsOf v 18 16
  let q := bitsOf v 23 20
  if d.fenceTaken pg kind q then d else d.fenceWrite i pg kind q

/-- FENCE_COMPLETE: the condition of a page's oldest fence holds, and it completes, with error where a write of the
initiator failed (R49); then those behind it that have failed. -/
def opFenceComplete (pg : Nat) (d : Dev) : Dev :=
  match (d.pg pg).fences with
  | [] => d
  | f :: _ =>
    if d.fenceHolds pg f then Dev.fenceDrain pg 16 (d.fenceEnds pg f (f.kind == 3 && f.mark == 1)) else d

/-- The fence of a page whose time-out comes first. -/
def Dev.firstTimeout (d : Dev) (pg : Nat) : Option Nat :=
  let l := (d.pg pg).fences.filterMap (fun f => match d.due ⟨.fence, pg, f.token⟩ with
    | some t => if f.failed then none else some (t, f.token)
    | none => none)
  (l.foldl (fun (best : Option (Nat × Nat)) x => match best with
    | some b => if x.1 < b.1 then some x else some b
    | none => some x) none).map (·.2)

/-- FENCE_TIMEOUT. -/
def opFenceTimeout (pg : Nat) (d : Dev) : Dev :=
  match d.firstTimeout pg with
  | none => d
  | some tok => d.onTimer ⟨.fence, pg, tok⟩ (fun d => d.fencesFail pg (fun f => f.token == tok))

/-! ### Interrupt status (R50, R52) -/

/-- IRQ_EN_WRITE. -/
def opIrqEn (i : Initiator) (pg : Nat) (v : Word) (d : Dev) : Dev :=
  if (pageKind pg).isNone then d else d.access i (fun d => d.irqWrite pg (d.rd (PG_IRQ_STAT pg)).toNat v.toNat)

/-- The message of a page to one destination. -/
def Dev.sendMsgTo (dest : MsgDest) (pg : Nat) (d : Dev) : Dev :=
  match dest with
  | .brace => if d.flag (PG_IRQ_MSG_brace_en pg) then d.emit (.braceMsg (d.get (PG_IRQ_MSG_brace_vec pg)) pg) else d
  | .host => if d.flag (PG_IRQ_MSG_host_en pg) then d.sendMsix (d.get (PG_IRQ_MSG_host_vec pg)) else d

/-- A message queue whose pointer copies disagree is reset, and one message is raised again for every page with an enabled
event that names its destination, in page-index order (R301, R302). -/
def Dev.msgReset (dest : MsgDest) (d : Dev) : Dev :=
  (d.queueReset 6 (match dest with | .host => 0 | .brace => 1)).each
    (allPages.filter (fun pg => d.rd (PG_IRQ_STAT pg) &&& d.rd (PG_IRQ_EN pg) ≠ 0)) (fun pg d => d.sendMsgTo dest pg)

/-- IRQ_SET_WRITE: `mism` names the message queue that a message finds with pointer copies that disagree. -/
def opIrqSet (i : Initiator) (pg : Nat) (v : Word) (mism : Option MsgDest) (d : Dev) : Dev :=
  if (pageKind pg).isNone then d
  else d.access i (fun d =>
    let d := (match mism with
      | some x => d.msgReset x
      | none => d)
    d.irqWrite pg (d.rd (PG_IRQ_STAT pg) ||| v).toNat (d.rd (PG_IRQ_EN pg)).toNat)

/-- IRQ_STAT_CLEAR: the capture takes the next error once ERR is clear. -/
def opIrqClear (i : Initiator) (pg : Nat) (v : Word) (d : Dev) : Dev :=
  if (pageKind pg).isNone then d
  else d.access i (fun d => d.irqWrite pg (d.rd (PG_IRQ_STAT pg) &&& ~~~v).toNat (d.rd (PG_IRQ_EN pg)).toNat)

/-! ### The lock (R53) -/

/-- The lock can no longer be opened. -/
def PgState.permanent (s : PgState) : Bool := decide (16 ≤ s.wrongKeys)

/-- A key is written. -/
def Dev.lockKey (i : Initiator) (pg : Nat) (v : Word) (d : Dev) : Dev :=
  let s := d.pg pg
  if s.lockKey = 0 then
    if v = 0 then d else (d.setPg pg { s with lockKey := v }).put (PG_STATE_locked pg) 1
  else if !s.permanent && s.lockKey == v then (d.setPg pg { s with lockKey := 0 }).put (PG_STATE_locked pg) 0
  else (d.setPg pg { s with wrongKeys := min 16 (s.wrongKeys + 1) }).lockViol pg i 0x48 v.toNat

/-- PG_LOCK_WRITE. -/
def opPgLock (i : Initiator) (pg : Nat) (v : Word) (d : Dev) : Dev :=
  if (pageKind pg).isNone then d else d.access i (Dev.lockKey i pg v)

/-! ### The meanings of the commands of this file -/

/-- UNIT_RESET (R37). -/
def execUnitReset (i : Initiator) (pg : Nat) (s : State) : Host.Outcome State Fault Refusal :=
  effectIf (isPage pg) (opUnitReset i pg) s

/-- PG_ENABLE_WRITE (R36). -/
def execPgEnableWrite (i : Initiator) (pg : Nat) (en : Bool) (s : State) : Host.Outcome State Fault Refusal :=
  effectIf (isPage pg) (opPgEnable i pg en) s

/-- ISOLATE_REQUEST (R38). -/
def execIsolateRequest (i : Option Initiator) (pg : Nat) (s : State) : Host.Outcome State Fault Refusal :=
  effectIf (isPage pg) (opIsolate i pg) s

/-- ISOLATION_COMPLETE (R38). -/
def execIsolationComplete (pg : Nat) (s : State) : Host.Outcome State Fault Refusal :=
  effectIf (isPage pg) (opIsolationDone pg) s

/-- RETURN_REQUEST (R38). -/
def execReturnRequest (i : Initiator) (pg : Nat) (s : State) : Host.Outcome State Fault Refusal :=
  effectIf (isPage pg) (opReturn i pg) s

/-- RETURN_COMPLETE (R38). -/
def execReturnComplete (pg : Nat) (s : State) : Host.Outcome State Fault Refusal :=
  effectIf (isPage pg) (opReturnDone pg) s

/-- FENCE_CONFIG (R48). -/
def execFenceConfig (i : Initiator) (pg : Nat) (s : State) : Host.Outcome State Fault Refusal :=
  effectIf (isPage pg) (opFenceConfig i pg) s

/-- FENCE_TABLE (R48). -/
def execFenceTable (i : Initiator) (pg : Nat) (s : State) : Host.Outcome State Fault Refusal :=
  effectIf (isPage pg) (opFenceTable i pg) s

/-- FENCE_BRIDGE (R320). -/
def execFenceBridge (i : Initiator) (pg : Nat) (s : State) : Host.Outcome State Fault Refusal :=
  effectIf (isPage pg) (opFenceBridge i pg) s

/-- FENCE_TIME (R149). -/
def execFenceTime (i : Initiator) (pg : Nat) (s : State) : Host.Outcome State Fault Refusal :=
  effectIf (isPage pg) (opFenceTime i pg) s

/-- FENCE_QUEUE (R48). -/
def execFenceQueue (i : Initiator) (pg : Nat) (q : Nat) (s : State) : Host.Outcome State Fault Refusal :=
  effectIf (isPage pg && decide (q < 16)) (opFenceQueue i pg q) s

/-- FENCE_REFUSED (R46). -/
def execFenceRefused (i : Initiator) (pg : Nat) (v : Word) (s : State) : Host.Outcome State Fault Refusal :=
  effectIf (isPage pg) (opFenceRefused i pg v) s

/-- FENCE_COMPLETE (R47). -/
def execFenceComplete (pg : Nat) (s : State) : Host.Outcome State Fault Refusal :=
  effectIf (isPage pg) (opFenceComplete pg) s

/-- FENCE_TIMEOUT (R47). -/
def execFenceTimeout (pg : Nat) (s : State) : Host.Outcome State Fault Refusal :=
  effectIf (isPage pg) (opFenceTimeout pg) s

/-- IRQ_EN_WRITE (R50). -/
def execIrqEnWrite (i : Initiator) (pg : Nat) (v : Word) (s : State) : Host.Outcome State Fault Refusal :=
  effectIf (isPage pg) (opIrqEn i pg v) s

/-- IRQ_SET_WRITE (R50). -/
def execIrqSetWrite (i : Initiator) (pg : Nat) (v : Word) (mism : Option MsgDest) (s : State) : Host.Outcome State Fault Refusal :=
  effectIf (isPage pg) (opIrqSet i pg v mism) s

/-- IRQ_STAT_CLEAR (R52). -/
def execIrqStatClear (i : Initiator) (pg : Nat) (v : Word) (s : State) : Host.Outcome State Fault Refusal :=
  effectIf (isPage pg) (opIrqClear i pg v) s

/-- PG_LOCK_WRITE (R53). -/
def execPgLockWrite (i : Initiator) (pg : Nat) (v : Word) (s : State) : Host.Outcome State Fault Refusal :=
  effectIf (isPage pg) (opPgLock i pg v) s

end Sys2Proof.Machine
end

