-- ==== Sys2Proof/Machine/Router.lean ====
section
/-!
DEFINITION. Register accesses (R8 to R10, R32 to R36, R39): what a write and a read of each register-space offset do. A
register with a behaviour of its own acts as its command does; what such a command takes from outside the device is then as
the device last saw it (log entry 20).
-/

namespace Sys2Proof.Machine

/-! ### Writes without a behaviour of their own -/

/-- A write that a page ignores: captured with kind 0x02. -/
def Dev.ignored (i : Initiator) (pg off : Nat) (v : Word) (d : Dev) : Dev := d.capture pg 0x02 0 i off v.toNat 0

/-- A write ignored under R39 or R42 sets LIVE_WR as well. -/
def Dev.ignoredLive (i : Initiator) (pg off : Nat) (v : Word) (d : Dev) : Dev := (d.ignored i pg off v).raise pg irqLiveWr

/-- What a write stores in a register (Table 0-5): RW fields take the value, W1C fields clear where it has ones. -/
def RegRow.written (r : RegRow) (old v : Word) : Word :=
  r.flds.foldl (fun w f =>
    match f.acc with
    | .rw => withBits w f.hi f.lo (bitsOf v f.hi f.lo)
    | .w1c => withBits w f.hi f.lo ((BitVec.ofNat 32 (bitsOf w f.hi f.lo) &&& ~~~BitVec.ofNat 32 (bitsOf v f.hi f.lo)).toNat)
    | _ => w) old

/-- A write carries another value for some RWS field than it has (R39). -/
def RegRow.touchesShadowed (r : RegRow) (live v : Word) : Bool :=
  r.flds.any (fun f => f.acc == .rws && bitsOf live f.hi f.lo != bitsOf v f.hi f.lo)

/-- A register with a field that the lock protects (R53), and one with fields that a write reaches beside those. -/
def RegRow.lockable (r : RegRow) : Bool := r.flds.any (fun f => f.acc == .rw)
def RegRow.unlockable (r : RegRow) : Bool := r.flds.any (fun f => f.acc == .w1s || f.acc == .w1c || f.acc == .wo || f.acc == .rws)

/-- A write with the RW fields that the register has. -/
def RegRow.keepRw (r : RegRow) (old v : Word) : Word :=
  r.flds.foldl (fun w f => if f.acc = .rw then withBits w f.hi f.lo (bitsOf old f.hi f.lo) else w) v

/-- A write of a live register: RW fields take effect, and a differing RWS value is an ignored write (R39). -/
def Dev.plainWrite (i : Initiator) (a : Nat) (v : Word) (d : Dev) : Dev :=
  match liveRow a with
  | none => d
  | some r =>
    let bad := r.touchesShadowed (d.rd a) v
    let d := d.wr a (r.written (d.rd a) v)
    if bad then d.ignoredLive i (a / 0x1000) (a % 0x1000) v else d

/-- A write of a shadow changes the shadow alone; it is refused by the lock and ignored while a commit is armed or
prepared (R39, R42, R53). -/
def Dev.shadowWrite (i : Initiator) (pg off : Nat) (v : Word) (d : Dev) : Dev :=
  let a := pg * 0x1000 + off
  match liveRow (a - 0x800) with
  | none => d
  | some r =>
    if d.locked pg then d.lockViol pg i off v.toNat
    else if d.flag (PG_STATE_armed pg) then d.ignoredLive i pg off v
    else d.wr a (r.mix (d.rd a) v)

/-- A field held at the nearest limit of its range. -/
def Dev.hold (f : FRef) (lo hi : Nat) (d : Dev) : Dev := d.put f (max lo (min hi (d.get f)))

/-! ### The header (R35) -/

/-- A write of `PG_CTRL`: the enable takes its value, a change of `isolate` asks for isolation or return, and `reset` asks for
a unit reset. -/
def Dev.ctrlWrite (i : Initiator) (pg : Nat) (v : Word) (d : Dev) : Dev :=
  let d := if v.getLsbD 0 = d.flag (PG_CTRL_enable pg) then d else d.setEnable pg (v.getLsbD 0)
  let d := if v.getLsbD 2 = d.flag (PG_CTRL_isolate pg) then d
    else if v.getLsbD 2 then d.isolateAsked i pg else d.returnAsked pg
  if v.getLsbD 1 then d.resetAsked i pg else d

/-- A write of `PG_COMMIT`. -/
def Dev.commitReg (i : Initiator) (pg : Nat) (v : Word) (d : Dev) : Dev :=
  let g := bitsOf v 31 24
  match bitsOf v 2 0 with
  | 1 => opCommitNow i pg g d
  | 2 => opCommitTimed i pg g d
  | 3 => opCommitCascade i pg g d
  | 4 => opCommitAbort i pg g d
  | 5 => opCommitRevert i pg g d
  | c => opCommitBad i pg g c d

/-- A write of a header register; a lock leaves its RW registers writable (DEDUCED, log entry 15). -/
def Dev.headerWrite (i : Initiator) (pg off : Nat) (v : Word) (d : Dev) : Dev :=
  match off with
  | 0x10 => if d.locked pg then d.lockViol pg i off v.toNat else d.ctrlWrite i pg v
  | 0x14 => d.commitReg i pg v
  | 0x18 | 0x1C =>
    if d.locked pg then d.lockViol pg i off v.toNat
    else if d.flag (PG_STATE_armed pg) then d.ignoredLive i pg off v
    else d.wr (pg * 0x1000 + off) v
  | 0x20 => opIrqClear i pg v d
  | 0x24 => opIrqEn i pg v d
  | 0x28 => opIrqSet i pg v none d
  | 0x40 => d.fence i pg (bitsOf v 18 16) (bitsOf v 23 20)
  | 0x48 => d.lockKey i pg v
  | _ => d.plainWrite i (pg * 0x1000 + off) v

/-! ### Registers with a behaviour of their own -/

/-- A slot's control word is written. -/
def Dev.slotWrite (i : Initiator) (sl : Slot) (v : Word) (d : Dev) : Dev :=
  if ctlArmed v then (if sl = .handover then opHandoverArm i v d else opSlotArm i sl v d) else opSlotDisarm i sl v d

/-- The commands of the descriptor windows, by window: 1 reads, 2 writes or stages, 3 to 5 as the window gives them. An
unlisted code has no effect, but the context window refuses it (Table 10-7). -/
def Dev.windowCmd (i : Initiator) (w : Window) (v : Word) (d : Dev) : Dev :=
  let staged := v.getLsbD 8
  let c := bitsOf v 2 0
  match w, (if w = .autCtx then c else c % 4) with
  | .stream, 1 => opStreamRead i staged d
  | .stream, 2 => opStreamStage i d
  | .stream, 3 => opStreamCounters i d
  | .streamGate, 1 => opSgRead i staged d
  | .streamGate, 2 => opSgWrite i d
  | .recovery, 1 => opRecoveryRead i staged d
  | .recovery, 2 => opRecoveryStage i d
  | .recovery, 3 => opRecoveryCounters i d
  | .gcl, 1 => opGclRead i d
  | .gcl, 2 => opGclWrite i d
  | .klwDesc, 1 => opKlwRead i staged d
  | .klwDesc, 2 => opKlwStage i d
  | .klwSlot, 1 => opKlwSlotRead i d
  | .klwSlot, 2 => opKlwSlotWrite i d
  | .autCtx, 1 => opCtxRead i staged d
  | .autCtx, 2 => opCtxStage i d
  | .autCtx, 3 => opCtxCounters i d
  | .autCtx, 4 => opCtxLatch i d
  | .autCtx, 5 => opChangeoverNow i d
  | .autCtx, _ => d.winRefuse i .autCtx v.toNat
  | .autChg, 1 => opChgRead i d
  | .autChg, 2 => opChgWrite i d
  | .linSch ch, 1 => opLinSchRead i ch d
  | .linSch ch, 2 => opLinSchWrite i ch d
  | .path, 1 => opPathRead i staged d
  | .path, 2 => opPathStage i d
  | _, _ => d

/-- Number k of n, as an index. -/
def ix (n : Nat) [NeZero n] (k : Nat) : Fin n := Fin.ofNat n k

/-- Writes of the SYS page. -/
def Dev.sysWrite (i : Initiator) (off : Nat) (v : Word) (d : Dev) : Dev :=
  match off with
  | 0x118 =>
    let g := bitsOf v 7 0
    (match bitsOf v 10 8 with
     | 1 => opGrpNow i g d
     | 2 => opGrpTimed i g d
     | 3 => opGrpCascade i g d
     | 4 => opGrpAbort i g d
     | 5 => opGrpRevert i g d
     | _ => d.groupUnknown i g v.toNat)
  | 0x12C => opDevReset i v d
  | 0x128 => (d.plainWrite i SYS_FENCE_TMO v).hold SYS_FENCE_TMO_ms 1 60000
  | _ => d.plainWrite i off v

/-- Writes of the always-on pages (chapters 12, 17 and 19). -/
def Dev.aonWrite (i : Initiator) (k : PgKind) (a : Nat) (v : Word) (d : Dev) : Dev :=
  let off := a % 0x1000
  match k with
  | .rst =>
    (match off with
     | 0x108 => opBootGood i v d
     | 0x10C => opBootClr i v d
     | 0x144 => opOutCtl i v d
     | _ =>
       if a = RST_BOOT_TMO then
         ((d.plainWrite i a v).hold RST_BOOT_TMO_ms 100 65535).bootLimit (d.get RST_BOOT_TMO_ms)
       else d.plainWrite i a v)
  | .opt => if a = OPT_CMD then opOptionWrite i v d else d.plainWrite i a v
  | .pwr =>
    let d := d.plainWrite i a v
    if 0x200 ≤ off ∧ off < 0x220 then opSupenCmd i (ix 8 ((off - 0x200) / 4)) (v.getLsbD 16) d else d
  | .wak =>
    if a = WAK_CONS_CMD then
      (match bitsOf v 1 0 with
       | 1 => opRoundStart i (ix 64 (bitsOf v 13 8)) d.wak.pins d
       | 2 => opVetoCmd i d
       | _ => d)
    else if a = WAK_SEG_CMD then opSegWake i v d
    else if a = WAK_KEEP then (d.seeHold.plainWrite i a v).seeHold
    else if 0x580 ≤ off ∧ off < 0x600 ∧ off % 0x10 = 8 then d.slotWrite i (.wak (ix 8 ((off - 0x580) / 0x10))) v
    else d.plainWrite i a v
  | _ => d.plainWrite i a v

/-- Writes of the TIM page (chapter 6). -/
def Dev.timWrite (i : Initiator) (a : Nat) (v : Word) (d : Dev) : Dev :=
  let off := a % 0x1000
  if a = TIM_MEAS_CTL then opSampleSubmit i v d
  else if a = TIM_ADJ_CMD then
    (match bitsOf v 1 0 with
     | 1 => opAdjStepped i d
     | 2 => opAdjSetTo i d
     | 3 => opAdjRate i d
     | _ => d)
  else if a = TIM_TSQ_CAP_SEL then opTsqCapSel i v d
  else if a = TIM_TSQ_CAP_ID then (if v.getLsbD 31 then opTsqCapClear i d else d)
  else if a = TIM_GPIO_OWN then opGpioOwn i v d
  else if 0x200 ≤ off ∧ off < 0x300 ∧ off % 0x10 = 8 then d.slotWrite i (.tim (ix 16 ((off - 0x200) / 0x10))) v
  else if 0x300 ≤ off ∧ off < 0x340 ∧ off % 0x10 = 0 then
    let d := d.plainWrite i a v
    let k := (off - 0x300) / 0x10
    if d.get (TIM_CAP_CFG_edge k) = 3 then d.put (TIM_CAP_CFG_edge k) 0 else d
  else d.plainWrite i a v

/-- Writes of the Vault, forwarding and traffic manager pages (chapters 3 to 5). -/
def Dev.coreWrite (i : Initiator) (k : PgKind) (a : Nat) (v : Word) (d : Dev) : Dev :=
  let off := a % 0x1000
  match k with
  | .vlt2 =>
    let d := d.plainWrite i a v
    if a = VLT_AUD_CTRL then
      let d := d.hold VLT_AUD_CTRL_period 1 255
      if v.getLsbD 0 then opWalkStart i d else d
    else d
  | .que => if a = QUE_VOQ_SEL then opVoqSel i v d else d.plainWrite i a v
  | .fwd => if a = FWD_TRACE_CTRL then opTraceArm i v d else d.plainWrite i a v
  | .lrn =>
    let d := d.plainWrite i a v
    if a = LRN_SWEEP_CTRL ∧ v.getLsbD 1 then opSweepNow i d else d
  | .tbl =>
    let c := (off - 0x100) / 0x20
    let d := d.plainWrite i a v
    if off < 0x140 then
      if off % 0x20 = 0x18 ∧ v.getLsbD 1 then opTblResume i c d
      else if off % 0x20 = 8 then d.hold (TBL_RING_SIZE_log2 c) 4 12 else d
    else if a = TBL_LOCK_TMO then d.hold TBL_LOCK_TMO_ms 1 65535 else d
  | .trm1 => if a = TRM_STR_CMD then d.windowCmd i .stream v else d.plainWrite i a v
  | .trm2 => if a = TRM_SG_CMD then d.windowCmd i .streamGate v else d.plainWrite i a v
  | .trm3 => if a = TRM_FR_CMD then d.windowCmd i .recovery v else d.plainWrite i a v
  | .trm7 => if a = TRM_CBS_SEL then opCbsSel i v d else d.plainWrite i a v
  | .trm9 => if a = TRM_GCL_CMD then d.windowCmd i .gcl v else d.plainWrite i a v
  | _ => d.plainWrite i a v

/-- Writes of the Ethernet, CAN, LIN and Voholt pages (chapters 7, 8 and 16). -/
def Dev.linkWrite (i : Initiator) (k : PgKind) (n a : Nat) (v : Word) (d : Dev) : Dev :=
  let off := a % 0x1000
  match k with
  | .eth =>
    if a = ETH_LDG_CTL n then
      let d := if v.getLsbD 0 then opLdgSnap i (ix 57 n) d else d
      if v.getLsbD 1 then opLdgClear i (ix 57 n) d else d
    else d.plainWrite i a v
  | .phy =>
    if a = PHY_DIAG_CMD n then
      let d := if v.getLsbD 0 then opDiagRun i (ix 57 n) d else d
      if v.getLsbD 1 then opDiagAbort i (ix 57 n) d else d
    else d.plainWrite i a v
  | .can =>
    let ch : CanCh := ix 24 n
    if a = CAN_CTL n then (if v.getLsbD 0 then opBoffRestart i ch d else d)
    else if a = CAN_RXF_POP n then opRxfPop i ch v false false d
    else if a = CAN_OBJ_CMD n then
      (match bitsOf v 1 0 with
       | 1 => opObjLock i ch false d
       | 2 => opObjRelease i ch d
       | _ => d)
    else if a = CAN_MR_DATA n then opMrAccess i ch (some v) false d
    else if a = CAN_TRX n then
      let d := d.plainWrite i a v
      (if d.get (CAN_TRX_mode n) = 3 then d.put (CAN_TRX_mode n) 0 else d).canTrxWait n
    else if 0x300 ≤ off ∧ off < 0x400 ∧ off % 0x10 = 8 then d.slotWrite i (.can ch (ix 16 ((off - 0x300) / 0x10))) v
    else d.plainWrite i a v
  | .lin =>
    let ch : LinCh := ix 8 n
    if a = LIN_SCH_CMD n then d.windowCmd i (.linSch ch) v
    else if a = LIN_RXF_POP n then (if v.getLsbD 0 then opLinPop i ch false d else d)
    else d.plainWrite i a v
  | .vhl => if n = 0 ∧ a = VHL_PATH_CMD 0 then d.windowCmd i .path v else d.plainWrite i a v
  | _ => d.plainWrite i a v

/-- Writes of the Kalow pages (chapter 9). -/
def Dev.klwWrite (i : Initiator) (k : PgKind) (a : Nat) (v : Word) (d : Dev) : Dev :=
  match k with
  | .klw1 => if a = KLW_D_CMD then d.windowCmd i .klwDesc v else d.plainWrite i a v
  | .klw2 =>
    if a = KLW_S_CMD then
      (match bitsOf v 1 0 with
       | 1 => opStoreRead i false d
       | 2 => opStoreForce i d
       | _ => d)
    else d.plainWrite i a v
  | .klw3 => if a = KLW_L_CMD then d.windowCmd i .klwSlot v else d.plainWrite i a v
  | .klw4 =>
    if a = KLW_DUMP_CTL then
      let d := if v.getLsbD 1 then opDumpResume i d else d
      if v.getLsbD 0 then opDumpGo i d else d
    else
      let d := d.plainWrite i a v
      if a = KLW_DUMP_PER then (if d.get KLW_DUMP_PER_ms = 0 then d.cancel ⟨.kalDump, 0, 0⟩ else d.dumpArm)
      else if a = KLW_DUMP_N then d.hold KLW_DUMP_N_count 1 16384 else d
  | _ => d.plainWrite i a v

/-- Writes of the security pages (chapters 10 and 11). -/
def Dev.secWrite (i : Initiator) (k : PgKind) (a : Nat) (v : Word) (d : Dev) : Dev :=
  match k with
  | .aut =>
    if a = AUT_CTX_CMD then d.windowCmd i .autCtx v
    else if a = AUT_CHG_CMD then d.windowCmd i .autChg v
    else if a = AUT_ENG_FAIL then opEngFailClear i v d
    else d.plainWrite i a v
  | .key =>
    if a = KEY_CMD then
      let op := bitsOf v 3 0
      if op = 0 ∨ 0xB < op then opKeyBad i op d
      else if op = 7 then
        let (bs, d) := d.freeBytes (if d.rd64 KEY_DATA_LO KEY_DATA_HI % 2 ^ 40 < 2 ^ 39 then 0 else d.get KEY_DATA_LEN_bytes)
        d.keyCommand i 7 bs
      else d.keyCommand i op []
    else if a = KEY_PROV then (if v.getLsbD 0 then opProvClose i d else d)
    else
      let d := d.plainWrite i a v
      if a = KEY_REC_SEL then d.recShow else d
  | .tmp =>
    if a = TMP_EN then opTamperEnable i v d
    else if a = TMP_LATCH then opLatchClear i v d
    else
      let d := d.plainWrite i a v
      if a = TMP_LOG_SEL then d.logShow else d
  | .sig =>
    if a = SIG_CTL then
      if d.sigBusy ∧ v.getLsbD 0 then d.ignoredErr pgSIG i 0x100 1
      else
        let d := d.plainWrite i a v
        if v.getLsbD 0 then
          let (bs, d) := d.freeBytes (if d.rd64 SIG_DATA_LO SIG_DATA_HI % 2 ^ 40 < 2 ^ 39 then 0 else d.get SIG_DATA_LEN_bytes)
          opSigGo i bs d
        else d
    else if a = SIG_ANCH_CMD then
      (match bitsOf v 1 0 with
       | 1 => opAnchWrite i (bitsOf v 5 4) d
       | 2 => opAnchRevoke i d
       | _ => d)
    else
      let d := d.plainWrite i a v
      if a = SIG_ANCH_SEL then d.anchShow else d
  | _ => d.plainWrite i a v

/-- The brace of a BRC page. -/
def pageBrace (n : Nat) : Brace := if n = 0 then .a else .b

/-- Writes of the BRC pages (chapter 13). -/
def Dev.brcWrite (i : Initiator) (n a : Nat) (v : Word) (d : Dev) : Dev :=
  let br := pageBrace n
  if a = BRC_HO_CMD n then opHandoverCmd i br v d
  else if a = BRC_STEST_CMD n then (if v.getLsbD 0 then opStestRun i br d else d)
  else if a = BRC_SWP_CMD 0 then (if v.getLsbD 0 then opBraceSweepNow i d else d)
  else
    let was := d.get (BRC_WDG_CFG_ms n)
    let d := d.plainWrite i a v
    if a = BRC_WDG_CFG n then d.wdgWindow n was
    else if a = BRC_SWP_CFG 0 then
      let d := d.hold (BRC_SWP_CFG_period_ms 0) 1 65535
      if d.running ⟨.sweep, 0, 0⟩ then d.armIn ⟨.sweep, 0, 0⟩ (msT (d.get (BRC_SWP_CFG_period_ms 0))) else d
    else d

/-- Writes of the integrity, scrubber, bridge and update pages (chapters 14, 15 and 18). -/
def Dev.careWrite (i : Initiator) (k : PgKind) (a : Nat) (v : Word) (d : Dev) : Dev :=
  let off := a % 0x1000
  match k with
  | .ecc =>
    if a = ECC_REC_CLR then (if v.getLsbD 0 then opRecordClear i d else d)
    else if a = ECC_INJ then opInject i v d
    else d.plainWrite i a v
  | .scb =>
    if a = SCB_CTL then
      let d := if v.getLsbD 1 then opScrubAbort i d else d
      if v.getLsbD 0 then opScrubGo i d else d
    else d.plainWrite i a v
  | .hbr =>
    if 0x300 ≤ off ∧ off < 0x380 then (if v.getLsbD 31 then opSemRelease i (ix 32 ((off - 0x300) / 4)) d else d)
    else if 0x400 ≤ off ∧ off < 0x600 ∧ off % 0x20 = 0x18 then
      (if v.getLsbD 0 then opHostResume i (off < 0x500) (ix 8 ((off - 0x400) / 0x20)) d else d)
    else d.plainWrite i a v
  | .upd =>
    if a = UPD_CMD then
      let m := d.flag PWR_STAT_motion
      (match bitsOf v 3 0 with
       | 1 => opBankWrite i (v.getLsbD 8) d
       | 2 => opBankVerify i (v.getLsbD 8) d
       | 3 => opPrepare i m d.pw.vsup d
       | 4 => opRestart i m d.pw.vsup d
       | 5 => opUpdAbort i d
       | _ => d.updUnknown i)
    else if a = UPD_HO_CTL then d.slotWrite i .handover v
    else if a = UPD_CONFIRM then opConfirm i v d
    else if a = UPD_OLOCK then
      let d := if v.getLsbD 8 then opOlockSet i d else d
      let d := if v.getLsbD 9 then opOlockUnlock i d else d
      if v.getLsbD 10 then opOlockClear i d else d
    else if a = UPD_PART then
      let d := d.plainWrite i a v
      if v.getLsbD 8 then opPhyCode i (bitsOf v 2 0) (d.flag PWR_STAT_motion) d.pw.vsup d else d
    else
      let d := d.plainWrite i a v
      if a = UPD_CONF_TMO then d.hold UPD_CONF_TMO_s 1 600 else d
  | _ => d.plainWrite i a v

/-! ### The write of a block register -/

/-- The launch slot whose launch time stands at an offset (R144). -/
def timeOf (k : PgKind) (n off : Nat) : Option Slot :=
  let half (lo len : Nat) : Option Nat :=
    if lo ≤ off ∧ off < lo + 0x10 * len ∧ off % 0x10 < 8 then some ((off - lo) / 0x10) else none
  match k with
  | .tim => (half 0x200 16).map (fun j => Slot.tim (ix 16 j))
  | .can => (half 0x300 16).map (fun j => Slot.can (ix 24 n) (ix 16 j))
  | .wak => (half 0x580 8).map (fun j => Slot.wak (ix 8 j))
  | .upd => if off = 0x140 ∨ off = 0x144 then some .handover else none
  | _ => none

/-- A write that the page ignores for what it is doing: the launch time of an armed slot (R144), the base and size of a ring
that is enabled (Table 4-16, R327). -/
def Dev.blocked (d : Dev) (k : PgKind) (n off : Nat) (v : Word) : Bool :=
  (match timeOf k n off with
   | some sl => d.armed sl
   | none => false) ||
  (match k with
   | .tbl => decide (off < 0x140) && decide (off % 0x20 ≤ 8) && d.flag (TBL_RING_CTRL_en ((off - 0x100) / 0x20))
   | .hbr =>
     let r := (off - 0x400) / 0x20
     decide (0x400 ≤ off) && decide (off < 0x600) && d.flag (HBR_RING_CFG_en r) &&
       (decide (off % 0x20 < 8) || (decide (off % 0x20 = 8) && v.getLsbD 31 && bitsOf v 3 0 != d.get (HBR_RING_CFG_log2 r)))
   | _ => false)

/-- A write of a block register by its page. -/
def Dev.kindWrite (i : Initiator) (k : PgKind) (n a : Nat) (v : Word) (d : Dev) : Dev :=
  match k with
  | .sys => d.sysWrite i a v
  | .rst | .opt | .pwr | .wak => d.aonWrite i k a v
  | .tim => d.timWrite i a v
  | .vlt2 | .que | .fwd | .lrn | .tbl | .trm1 | .trm2 | .trm3 | .trm7 | .trm9 => d.coreWrite i k a v
  | .eth | .phy | .can | .lin | .vhl => d.linkWrite i k n a v
  | .klw1 | .klw2 | .klw3 | .klw4 => d.klwWrite i k a v
  | .aut | .key | .tmp | .sig => d.secWrite i k a v
  | .brc => d.brcWrite i n a v
  | .ecc | .scb | .hbr | .upd => d.careWrite i k a v
  | _ => d.plainWrite i a v

/-- A write of a block register: a locked page keeps its RW fields and takes the rest of the write (R53). -/
def Dev.blockWrite (i : Initiator) (k : PgKind) (n a : Nat) (r : RegRow) (v : Word) (d : Dev) : Dev :=
  let pg := a / 0x1000
  let off := a % 0x1000
  if r.lockable && d.locked pg then
    let d := d.lockViol pg i off v.toNat
    if r.unlockable then d.kindWrite i k n a (r.keepRw (d.rd a) v) else d
  else if d.blocked k n off v then d.ignored i pg off v
  else d.kindWrite i k n a v

/-- A register write as the fabric carries it (R32): 32 bits, to a mapped offset. -/
def Dev.regWrite (i : Initiator) (a : Nat) (v : Word) (d : Dev) : Dev :=
  match pageKind (a / 0x1000), regRow a with
  | some (k, n), some r =>
    let off := a % 0x1000
    if off < 0x100 then d.headerWrite i (a / 0x1000) off v
    else if 0x800 ≤ off then d.shadowWrite i (a / 0x1000) off v
    else d.blockWrite i k n a r v
  | _, _ => d.badAccess i true a

/-- A register write of an initiator. A brace writes its own watchdog and standby registers whatever its role (R281,
R287). -/
def Dev.busWrite (i : Initiator) (a : Nat) (v : Word) (d : Dev) : Dev :=
  match iniBrace i with
  | some b =>
    if a = BRC_WDG_KICK (brIx b) then opWdgKick b v d
    else if a = BRC_ROLE (brIx b) then (if v.getLsbD 5 then opSbOk b d else d)
    else d.access i (Dev.regWrite i a v)
  | none => d.access i (Dev.regWrite i a v)

/-- SHADOW_WRITE. -/
def opShadowWrite (i : Initiator) (pg off : Nat) (v : Word) (d : Dev) : Dev :=
  if 0x900 ≤ off ∧ off < 0x1000 then d.busWrite i (pg * 0x1000 + off) v else d

/-- LIVE_REGISTER_WRITE: a register with RWS fields. -/
def opLiveWrite (i : Initiator) (pg off : Nat) (v : Word) (d : Dev) : Dev :=
  match liveRow (pg * 0x1000 + off) with
  | some r => if r.hasRWS && decide (off < 0x800) then d.busWrite i (pg * 0x1000 + off) v else d
  | none => d

/-- REGISTER_WRITE. -/
def opRegisterWrite (i : Initiator) (pg off : Nat) (v : Word) (d : Dev) : Dev :=
  if off < 0x1000 then d.busWrite i (pg * 0x1000 + off) v else d

/-- UNMAPPED_ACCESS: a write narrower than 32 bits, a read or write of an unmapped offset, a write of a reserved offset of a
mapped page. -/
def opUnmapped (i : Initiator) (addr : Nat) (write narrow : Bool) (d : Dev) : Dev :=
  if 0x4000000 ≤ addr then d
  else
    d.access i (fun d =>
      let unmapped := (pageKind (addr / 0x1000)).isNone
      let d := if (write && narrow) || unmapped || (write && (regRow addr).isNone) then d.badAccess i write addr else d
      if !write && unmapped then d.emit (.readValue i addr 0) else d)

/-! ### Reads -/

/-- `SYS.SUMMARY` (Table 2-20). -/
def Dev.summary (d : Dev) : Nat :=
  (List.range 12).foldl (fun n k =>
    n + (if d.subReady (k + 1) then 2 ^ k else 0) +
      (if (pagesOf (k + 1)).any (fun pg => d.bit (PG_IRQ_STAT pg) irqErr) then 2 ^ (16 + k) else 0)) 0

/-- What a header register shows an initiator. -/
def Dev.headerShown (d : Dev) (i : Initiator) (pg off : Nat) : Word :=
  let w := d.rd (pg * 0x1000 + off)
  match off with
  | 0x0C => withBits w 7 7 (if d.dirty pg then 1 else 0)
  | 0x28 => 0
  | 0x40 =>
    let (q, kind, tok) := d.lastFence pg i
    BitVec.ofNat 32 (q * 2 ^ 20 + kind * 2 ^ 16 + tok)
  | 0x48 => if (d.pg pg).lockKey = 0 then 0 else if (d.pg pg).permanent then 3 else 1
  | _ => w

/-- What the registers show that follow the device's state at each read. -/
def Dev.derived (d : Dev) (k : PgKind) (n a : Nat) : Option Nat :=
  let off := a % 0x1000
  match k with
  | .sys => if a = SYS_SUMMARY then some d.summary else none
  | .que =>
    if 0x180 ≤ off ∧ off < 0x1E4 then
      let j := (off - 0x180) / 4 * 4
      some (d.pressureSet j + d.pressureSet (j + 1) * 2 ^ 8 + d.pressureSet (j + 2) * 2 ^ 16 + d.pressureSet (j + 3) * 2 ^ 24)
    else none
  | .tim =>
    if a = TIM_TICK_LO then some d.ticks
    else if a = TIM_TICK_HI then some (d.ticks / 2 ^ 32)
    else if a = TIM_NOW_LO then some d.ns
    else if a = TIM_NOW_HI then some (d.ns / 2 ^ 32)
    else if a = TIM_NOW_FRAC then some (d.tq % 65536).toNat
    else none
  | .rst =>
    if a = RST_PINS then some ((if d.pw.faultn then 2 else 0) + (if d.pw.resetnLow then 0 else 1)) else none
  | .pwr =>
    if a = PWR_AON_TIME_LO then some d.aonUs
    else if a = PWR_AON_TIME_HI then some (d.aonUs / 2 ^ 32)
    else if a = PWR_PIN then some (d.free 16).1
    else none
  | .wak =>
    if a = WAK_CONSENT_LO then some (d.consentWord 0).toNat
    else if a = WAK_CONSENT_HI then some (d.consentWord 1).toNat
    else none
  | .upd => if a = UPD_GUARD then some d.guards else none
  | .lin =>
    if a = LIN_STAT n then some (withBits (d.rd a) 0 0 (if d.linIdle n then 1 else 0)).toNat else none
  | _ => none

/-- A word without the fields that read 0: those of type WO and W1S commands (Table 0-5). -/
def RegRow.readable (r : RegRow) (w : Word) : Word :=
  r.flds.foldl (fun w f => if f.acc = .wo then withBits w f.hi f.lo 0 else w) w

/-- What a register shows an initiator, without a read's effects. -/
def Dev.shown (d : Dev) (i : Initiator) (a : Nat) : Word :=
  match pageKind (a / 0x1000), regRow a with
  | some (k, n), some r =>
    let off := a % 0x1000
    if off < 0x100 then r.readable (d.headerShown i (a / 0x1000) off)
    else if 0x800 ≤ off then r.readable (d.rd a)
    else
      match d.derived k n a with
      | some v => BitVec.ofNat 32 v
      | none => r.readable (d.rd a)
  | _, _ => 0

/-- The value of an RC field after a read: its reset value, and for the lowest VSUP the highest code (Table 19-11). -/
def cleared (a : Nat) (f : Fld) : Nat := if a = PWR_VSUP_MIN then 0xFFFF else f.rst

/-- A read clears the register's RC fields (Table 0-5). -/
def Dev.readClears (a : Nat) (d : Dev) : Dev :=
  match liveRow a with
  | none => d
  | some r =>
    if r.flds.any (fun f => f.acc == .rc) then
      d.wr a (r.flds.foldl (fun w f => if f.acc = .rc then withBits w f.hi f.lo (cleared a f) else w) (d.rd a))
    else d

/-- Remember the value of a register for the next read of it (R8). -/
def Dev.latch (i : Initiator) (a : Nat) (d : Dev) : Dev :=
  { d with sys := { d.sys with latched := NMap.set none d.sys.latched a (some (d.shown i a)) } }

/-- A read of a capture lets it take the next event (R32, R104, R148 and the ROL fields of the register tables). -/
def Dev.rearms (a : Nat) (d : Dev) : Dev :=
  if a = SYS_BAD_ACC then { d with sys := { d.sys with badAccHeld := false } }
  else if a = FWD_UE_CAP then d.modPg pgFWD (fun s => { s with captured := false })
  else if a = LRN_FLAP_CAP_LO then d.modPg pgLRN (fun s => { s with captured := false })
  else if a = HBR_RTV_EXP_ADDR then d.modPg pgHBR (fun s => { s with captured := false })
  else if 0x8304 ≤ a ∧ a < 0x8344 ∧ a % 0x10 = 4 then
    { d with tim := { d.tim with capHeld := d.tim.capHeld.filter (· != (a - 0x8304) / 0x10) } }
  else d

/-- A CAN channel's clash capture is armed again by its read (R186). -/
def Dev.clashRead (k : PgKind) (n a : Nat) (d : Dev) : Dev :=
  if k = .can ∧ a = CAN_CLASH_CAP n then d.put (CAN_CLASH_CAP_valid n) 0 else d

/-- The value that a read operation has given after the first `n` outputs, taken back from them. -/
def Dev.taken (n : Nat) (d : Dev) : Word × Dev :=
  let new_ := d.out.drop n
  match new_.getLast? with
  | some (.readValue _ _ v) => (v, { d with out := d.out.take n ++ new_.dropLast })
  | _ => (0, d)

/-- Reads that take something: queues, semaphores and the message RAM window. -/
def Dev.takingRead (i : Initiator) (k : PgKind) (n a : Nat) (d : Dev) : Option Dev :=
  let off := a % 0x1000
  match k with
  | .vlt2 => if a = VLT_AUD_LEAKQ_LO then some (opLeakqRead i false d) else none
  | .tim =>
    if 0x400 ≤ off ∧ off < 0x400 + 0x390 ∧ off % 0x10 = 0 then some (opTsqRead i (ix 57 ((off - 0x400) / 0x10)) false d) else none
  | .can => if a = CAN_MR_DATA n then some (opMrAccess i (ix 24 n) none false d) else none
  | .hbr =>
    if a = HBR_PWE_LO then some (opPweRead i d)
    else if 0x300 ≤ off ∧ off < 0x380 then some (opSemRead i (ix 32 ((off - 0x300) / 4)) d)
    else none
  | _ => none

/-- A register read with its effects: what it returns and the state after it (R8, R32, R33). -/
def Dev.regRead (i : Initiator) (a : Nat) (d : Dev) : Word × Dev :=
  match pageKind (a / 0x1000), regRow a with
  | some (k, n), some _ =>
    (match d.takingRead i k n a with
     | some e => e.taken d.out.length
     | none =>
       match NMap.get none d.sys.latched a with
       | some v => (v, ({ d with sys := { d.sys with latched := NMap.set none d.sys.latched a none } } : Dev).readClears a)
       | none =>
         let v := d.shown i a
         let d := if isLo a then d.latch i (a + 4) else d
         let d := if a = TIM_NOW_LO then d.latch i TIM_NOW_FRAC else d
         let d := if a = LRN_FLAP_CAP_LO then d.latch i LRN_FLAP_FID else d
         let d := if a = PWR_PIN then (d.free 16).2 else d
         (v, ((d.readClears a).rearms a).clashRead k n a))
  | some _, none => (0, d)
  | none, _ => (0, d.badAccess i false a)

/-- A register read of an initiator, answered to it. -/
def Dev.busRead (i : Initiator) (a : Nat) (d : Dev) : Dev :=
  d.access i (fun d =>
    let (v, d) := d.regRead i a
    d.emit (.readValue i a v))

/-- The register has a field of type RC. -/
def clearsOnRead (a : Nat) : Bool :=
  match liveRow a with
  | some r => r.flds.any (fun f => f.acc == .rc)
  | none => false

/-- COUNTER_READ_CLEAR: a read of an RC register. -/
def opCounterRead (i : Initiator) (pg off : Nat) (d : Dev) : Dev :=
  let a := pg * 0x1000 + off
  if off < 0x1000 ∧ clearsOnRead a then d.busRead i a else d

/-- The register's read re-arms a capture. -/
def isCapture (a : Nat) : Bool :=
  a == SYS_BAD_ACC || a == SYS_REJ_TRIG || a == FWD_UE_CAP || a == LRN_FLAP_CAP_LO || a == HBR_RTV_EXP_ADDR ||
  (decide (0x8304 ≤ a) && decide (a < 0x8344) && a % 0x10 == 4) ||
  (List.range 24).any (fun ch => a == CAN_CLASH_CAP ch)

/-- CAPTURE_READ_REARM: a read of a capture register. -/
def opCaptureRead (i : Initiator) (pg off : Nat) (d : Dev) : Dev :=
  let a := pg * 0x1000 + off
  if off < 0x1000 ∧ isCapture a then d.busRead i a else d

/-! ### The meanings of the commands of this file -/

/-- SHADOW_WRITE (R39). -/
def execShadowWrite (i : Initiator) (pg : Nat) (off : Nat) (v : Word) (s : State) : Host.Outcome State Fault Refusal :=
  effectIf (isPage pg && isOffset off) (opShadowWrite i pg off v) s

/-- LIVE_REGISTER_WRITE (R39). -/
def execLiveRegisterWrite (i : Initiator) (pg : Nat) (off : Nat) (v : Word) (s : State) : Host.Outcome State Fault Refusal :=
  effectIf (isPage pg && isOffset off) (opLiveWrite i pg off v) s

/-- REGISTER_WRITE (R9). -/
def execRegisterWrite (i : Initiator) (pg : Nat) (off : Nat) (v : Word) (s : State) : Host.Outcome State Fault Refusal :=
  effectIf (isPage pg && isOffset off) (opRegisterWrite i pg off v) s

/-- UNMAPPED_ACCESS (R32). -/
def execUnmappedAccess (i : Initiator) (addr : Nat) (write : Bool) (narrow : Bool) (s : State) : Host.Outcome State Fault Refusal :=
  effectIf (decide (addr < 2 ^ 26)) (opUnmapped i addr write narrow) s

/-- COUNTER_READ_CLEAR (R10). -/
def execCounterReadClear (i : Initiator) (pg : Nat) (off : Nat) (s : State) : Host.Outcome State Fault Refusal :=
  effectIf (isPage pg && isOffset off) (opCounterRead i pg off) s

/-- CAPTURE_READ_REARM (R32). -/
def execCaptureReadRearm (i : Initiator) (pg : Nat) (off : Nat) (s : State) : Host.Outcome State Fault Refusal :=
  effectIf (isPage pg && isOffset off) (opCaptureRead i pg off) s

end Sys2Proof.Machine
end

