-- ==== Sys2Proof/Machine/HostAccess.lean ====
section
/-!
DEFINITION. Accesses over the host bridge (R309 to R316): PE_RSTN and Function Level Reset, host writes and reads through the
BARs, the Retriever, the read buffer, and the outbound accesses of the braces.
-/

namespace Sys2Proof.Machine

/-! ### PE_RSTN, Function Level Reset, PE_WAKEN (R310) -/

/-- PE_RSTN_LOW: the link is down, configuration space is reset, and HBR is held in unit reset. -/
def opPeRstnLow (d : Dev) : Dev :=
  if d.hbr.perst then d
  else
    let d := { d with hbr := { d.hbr with perst := true } }
    if !d.up then d
    else
      let d := (((d.put HBR_STAT_perst 1).pcieDown).hostGone).cfgReset
      if d.flag (PG_STATE_in_reset pgHBR) then d else d.unitReset pgHBR

/-- PE_RSTN_RISE: HBR is released if its release has come, and the rise is a wake source. -/
def opPeRstnRise (d : Dev) : Dev :=
  if !d.hbr.perst then d
  else
    let d := ({ d with hbr := { d.hbr with perst := false, waken := false } } : Dev).cancel ⟨.wakenPin, 0, 0⟩
    let d := if !d.up then d
      else
        let d := d.put HBR_STAT_perst 0
        if d.pw.filled && d.flag (PG_STATE_in_reset pgHBR) && !d.running ⟨.unitReset, pgHBR, 0⟩ then
          (d.askRelease pgHBR).refreshFrom pgHBR
        else d
    opWakeDetect .host d

/-- FUNCTION_LEVEL_RESET: it comes over the link, which stays up. -/
def opFlr (d : Dev) : Dev :=
  if !d.flag HBR_STAT_link || d.flag (PG_STATE_in_reset pgHBR) then d else ((d.unitReset pgHBR).cfgReset).hostGone

/-- PE_WAKEN_RELEASE. -/
def opPeWakenRelease (d : Dev) : Dev :=
  d.onTimer ⟨.wakenPin, 0, 0⟩ (fun d => { d with hbr := { d.hbr with waken := false } })

/-! ### The read buffer (R316) -/

/-- Drop a line; one with a dword never delivered is a discarded prefetch. -/
def Dev.dropLine (n : Nat) (d : Dev) : Dev :=
  match NMap.get none d.hbr.lines n with
  | none => d
  | some l =>
    let d := { d with hbr := { d.hbr with lines := NMap.set none d.hbr.lines n none } }
    if l.left.isEmpty then d
    else ((d.wr64 HBR_DISC_PF_LO HBR_DISC_PF_HI l.addr).count (HBR_CNT 10)).raise pgHBR 12

/-- The line that holds a reader's block. -/
def Dev.lineOf (d : Dev) (by_ a : Nat) : Option (Nat × PfLine) :=
  d.hbr.lines.findSome? (fun e => match e.2 with
    | some l => if l.by_ = by_ ∧ l.addr = a / 64 * 64 then some (e.1, l) else none
    | none => none)

/-- When a line is too old. -/
def Dev.lineEnd (d : Dev) (l : PfLine) : Nat := l.at_ + nsT (d.get HBR_PF_CFG_age_ns)

/-- A write of an initiator discards its own line of the block. -/
def Dev.lineWritten (by_ a : Nat) (d : Dev) : Dev :=
  match d.lineOf by_ a with
  | some (n, _) => d.dropLine n
  | none => d

/-- A line for a fetched block: a free one, or the oldest, which is evicted. -/
def Dev.keepLine (l : PfLine) (d : Dev) : Dev :=
  let free := (List.range 16).find? (fun n => (NMap.get none d.hbr.lines n).isNone)
  let age (n : Nat) : Nat := match NMap.get none d.hbr.lines n with
    | some x => x.at_
    | none => 0
  let n := free.getD ((List.range 16).foldl (fun b n => if age n < age b then n else b) 0)
  let d := d.dropLine n
  { d with hbr := { d.hbr with lines := NMap.set none d.hbr.lines n (some l) } }

/-- PREFETCH_LINE_DISCARD: a line's age has passed. -/
def opLineDiscard (n : Nat) (d : Dev) : Dev :=
  match NMap.get none d.hbr.lines n with
  | some l => (d.at_ (d.lineEnd l)).dropLine n
  | none => d

/-- The dword of a line at an address. -/
def PfLine.word (l : PfLine) (a : Nat) : Word := BitVec.ofNat 32 (ofLe ((l.data.drop (a % 64 / 4 * 4)).take 4))

/-- A line without the dword that has just been delivered. -/
def PfLine.took (l : PfLine) (a : Nat) : PfLine := { l with left := l.left.filter (· != a % 64 / 4) }

/-- The line of a reader's block while it is young enough; an older one is discarded. -/
def Dev.freshLine (by_ a : Nat) (d : Dev) : Option (Nat × PfLine) × Dev :=
  match d.lineOf by_ a with
  | none => (none, d)
  | some (n, l) => if d.now < d.lineEnd l then (some (n, l), d) else (none, d.dropLine n)

/-! ### Host reads (R313 to R315) -/

/-- One dword at a fabric address of the host's reach, read with its side effects. -/
def Dev.fetchWord (a : Nat) (d : Dev) : Word × Dev :=
  if 0x40000000 ≤ a ∧ a < 0x44000000 then d.regRead .host (a - 0x40000000)
  else (BitVec.ofNat 32 (ofLe (d.rdBytes a 4)), d)

/-- The aligned block of 64 bytes at an address, fetched dword by dword. -/
def Dev.fetchBlock (a : Nat) (d : Dev) : List Byte × Dev :=
  (List.range 16).foldl (fun (acc : List Byte × Dev) k =>
    let (w, d) := acc.2.fetchWord (a / 64 * 64 + 4 * k)
    (acc.1 ++ leBytes 4 w.toNat, d)) ([], d)

/-- Requests of the host are taken: the link is up and HBR is out of reset. -/
def Dev.hostServed (d : Dev) : Bool := d.up && d.flag HBR_STAT_link && !d.flag (PG_STATE_in_reset pgHBR)

/-- The fabric address of a read of retry class (R313). -/
def retryAddr (bar : Bar) (off : Nat) : Option Nat :=
  let o := off / 4 * 4
  match bar with
  | .registers => if 0x1000 ≤ o ∧ o < 0x6000 then some (0x40000000 + o) else none
  | .mram => if o < 0x10000000 then some (0x80000000 + o) else none
  | .msix => none

/-- A completion of retry class carries data, or the retry word. -/
def Dev.rtvData (a : Nat) (w : Word) (d : Dev) : Dev := (d.put HBR_RTV_LAST_data 1).emit (.hostData a w)
def Dev.rtvRetry (a : Nat) (d : Dev) : Dev :=
  ((d.put HBR_RTV_LAST_data 0).count (HBR_CNT 8)).emit (.hostData a 0xFFFF0960)

def Dev.setRtv (e : Nat) (x : Option RtvEntry) (d : Dev) : Dev :=
  { d with hbr := { d.hbr with rtv := NMap.set none d.hbr.rtv e x } }

/-- Free an entry. -/
def Dev.rtvFree (e : Nat) (d : Dev) : Dev := ((d.setRtv e none).cancel ⟨.rtvWait, e, 0⟩).cancel ⟨.rtvHold, e, 0⟩

/-- An entry answers for an address. -/
def RtvEntry.covers (x : RtvEntry) (a : Nat) : Bool := if x.block then x.addr / 64 == a / 64 else x.addr == a

/-- The entry that answers for an address. -/
def Dev.rtvAt (d : Dev) (a : Nat) : Option (Nat × RtvEntry) :=
  d.hbr.rtv.findSome? (fun e => match e.2 with
    | some x => if x.covers a then some (e.1, x) else none
    | none => none)

/-- The dword of an entry's data at an address. -/
def RtvEntry.word (x : RtvEntry) (a : Nat) (bs : List Byte) : Word :=
  BitVec.ofNat 32 (ofLe (if x.block then (bs.drop (a % 64)).take 4 else bs.take 4))

/-- HOST_RETRY_READ. -/
def opHostRetryRead (bar : Bar) (off : Nat) (d : Dev) : Dev :=
  match retryAddr bar off with
  | none => d
  | some a =>
    if !d.hostServed then d
    else
      match d.rtvAt a with
      | some (e, x) =>
        (match x.data with
         | some bs => (d.rtvFree e).rtvData a (x.word a bs)
         | none => d.rtvRetry a)
      | none =>
        match (List.range 8).find? (fun e => (NMap.get none d.hbr.rtv e).isNone) with
        | none => d.rtvRetry a
        | some e =>
          (d.setRtv e (some { addr := a, block := d.prefetchable a })).armIn ⟨.rtvWait, e, 0⟩ (nsT (d.get HBR_RTV_CFG_wait_ns))

/-- RETRIEVER_WAIT_EXPIRY: the read completes with the retry word and the fetch goes on. -/
def opRtvWait (e : Nat) (d : Dev) : Dev :=
  d.onTimer ⟨.rtvWait, e, 0⟩ (fun d =>
    match NMap.get none d.hbr.rtv e with
    | some x => (d.setRtv e (some { x with waiting := false })).rtvRetry x.addr
    | none => d)

/-- RETRIEVER_FETCH_DONE: the data completes the read that waits, or stays in the entry. -/
def opRtvFetch (e : Nat) (d : Dev) : Dev :=
  match NMap.get none d.hbr.rtv e with
  | none => d
  | some x =>
    if x.data.isSome then d
    else
      let (bs, d) := if x.block then d.fetchBlock x.addr
        else
          let (w, d) := d.fetchWord x.addr
          (leBytes 4 w.toNat, d)
      if x.waiting then (d.rtvFree e).rtvData x.addr (x.word x.addr bs)
      else (d.setRtv e (some { x with data := some bs })).armIn ⟨.rtvHold, e, 0⟩ (usT (d.get HBR_RTV_CFG_hold_us))

/-- RETRIEVER_HOLD_EXPIRY: data not collected is discarded. -/
def opRtvHold (e : Nat) (d : Dev) : Dev :=
  d.onTimer ⟨.rtvHold, e, 0⟩ (fun d =>
    match NMap.get none d.hbr.rtv e with
    | none => d
    | some x =>
      let d := (d.rtvFree e).count (HBR_CNT 9)
      let d := if (d.pg pgHBR).captured then d
        else (d.wr HBR_RTV_EXP_ADDR (BitVec.ofNat 32 x.addr)).modPg pgHBR (fun s => { s with captured := true })
      d.raise pgHBR 15)

/-- What BAR4 shows (Table 15-3, R317): the MSI-X table and the pending bits. -/
def Dev.msixShown (d : Dev) (off : Nat) : Word :=
  let w := off / 4
  if off < 0x400 then
    (if w % 4 = 3 then (if d.hbr.masked.contains (w / 4) then 1 else 0) else NMap.get 0 d.hbr.table w)
  else if 0x2000 ≤ off ∧ off < 0x2008 then
    BitVec.ofNat 32 ((List.range 32).foldl (fun n k => n + if d.hbr.pba.contains (32 * ((off - 0x2000) / 4) + k) then 2 ^ k else 0) 0)
  else 0

/-- HOST_SPLIT_READ: register space from a read-buffer line where its range is prefetchable, or by a register read; BAR4
directly. -/
def opHostSplitRead (bar : Bar) (off : Nat) (d : Dev) : Dev :=
  if !d.hostServed || (retryAddr bar off).isSome then d
  else
    let o := off / 4 * 4
    match bar with
    | .mram => d
    | .msix => if 0x4000 ≤ o then d else d.emit (.hostData o (d.msixShown o))
    | .registers =>
      if 0x4000000 ≤ o then d
      else
        let a := 0x40000000 + o
        if d.prefetchable a then
          let (hit, d) := d.freshLine 2 a
          match hit with
          | some (n, l) =>
            let d := d.emit (.hostData a (l.word a))
            { d with hbr := { d.hbr with lines := NMap.set none d.hbr.lines n (some (l.took a)) } }
          | none =>
            let (bs, d) := d.fetchBlock a
            let l : PfLine := { addr := a / 64 * 64, by_ := 2, data := bs, left := List.range 16, at_ := d.now }
            (d.keepLine (l.took a)).emit (.hostData a (l.word a))
        else
          let (w, d) := d.fetchWord a
          d.emit (.hostData a w)

/-! ### Host writes (R309, R312, R319) -/

/-- A host write to the address of a Retriever entry frees it; a read that still waits for it completes with the retry
word. -/
def Dev.rtvWritten (a : Nat) (d : Dev) : Dev :=
  match d.rtvAt a with
  | none => d
  | some (e, x) =>
    let d := d.rtvFree e
    if x.waiting then d.rtvRetry x.addr else d

/-- A write of BAR4: the words of the MSI-X table; the pending bits are read-only. -/
def Dev.msixWrite (off : Nat) (v : Word) (d : Dev) : Dev :=
  let w := off / 4
  if 0x400 ≤ off then d
  else if w % 4 = 3 then
    (if v.getLsbD 0 then { d with hbr := { d.hbr with masked := d.hbr.masked.filter (· != w / 4) ++ [w / 4] } }
     else d.unmaskVec (w / 4))
  else { d with hbr := { d.hbr with table := NMap.set 0 d.hbr.table w v } }

/-- HOST_WRITE: through a BAR; what fails is recorded in the log. -/
def opHostWrite (bar : Bar) (off : Nat) (v : Word) (narrow poisoned : Bool) (d : Dev) : Dev :=
  let o := off / 4 * 4
  if !d.hostServed then d
  else
    match bar with
    | .mram => if 0x10000000 ≤ o then d else d.writeFailed 2 (if poisoned then 4 else 3) (0x80000000 + o)
    | .msix => if 0x4000 ≤ o || poisoned || narrow then d else d.msixWrite o v
    | .registers =>
      if 0x4000000 ≤ o then d
      else
        let a := 0x40000000 + o
        if poisoned then d.writeFailed 2 4 a
        else if narrow then (d.badAccess .host true o).writeFailed 2 2 a
        else if (pageKind (o / 0x1000)).isNone then (d.badAccess .host true o).writeFailed 2 1 a
        else ((d.rtvWritten a).lineWritten 2 a).regWrite .host o v

/-! ### Outbound accesses (R311, R312, R315, R316) -/

/-- OUTBOUND_ACCESS: a brace's load or store in the host memory window. A load from a prefetchable range is served from a
line where one holds its block. -/
def opOutbound (br : Brace) (addr : Nat) (write : Option Word) (d : Dev) : Dev :=
  let i := braceIni (brIx br)
  let code := iniCode i
  if addr < 2 ^ 39 ∨ 2 ^ 40 ≤ addr then d
  else
    d.access i (fun d =>
      let a := addr / 4 * 4
      match write with
      | some v =>
        let fails := (d.outFails a).isSome && d.acked a
        let d := (d.lineWritten code a).outWrite code a (leBytes 4 v.toNat)
        if fails then d.emit (.braceFault code a true) else d
      | none =>
        match d.outFails a with
        | some _ => d.emit (.braceFault code a false)
        | none =>
          let (hit, d) := if d.prefetchable a then d.freshLine code a else (none, d)
          match hit with
          | some (n, l) =>
            let d := d.emit (.readValue i a (l.word a))
            { d with hbr := { d.hbr with lines := NMap.set none d.hbr.lines n (some (l.took a)) } }
          | none => (d.outRead { by_ := code, addr := a, ack := false } (d.readSpan a)).2)

/-- The halt cause of a DMA channel for a read that failed (Table 15-7). -/
def haltCause : CplStatus → Nat
  | .ok => 0 | .poisoned => 1 | .unsupported => 3 | .abort => 3

/-- A write's acknowledging read failed: the write is recorded, and the Bridge fence that waits for it, or else its
initiator's next one, completes with error (R49, R312). -/
def Dev.ackFails (r : OutRead) (resp : Nat) (d : Dev) : Dev :=
  let waits (f : Fence) : Bool := f.kind == 3 && f.items.contains r.serial
  let had := d.hbr.failed.contains r.by_
  let d := d.writeFailed r.by_ resp r.addr
  if (d.pg pgHBR).fences.any waits then
    let d := d.modPg pgHBR (fun s => { s with fences := s.fences.map (fun f => if waits f then { f with mark := 1 } else f) })
    if had then d else { d with hbr := { d.hbr with failed := d.hbr.failed.filter (· != r.by_) } }
  else d

/-- An outbound read in flight ends. -/
def Dev.takeRead (tag : Nat) (d : Dev) : Dev :=
  ({ d with hbr := { d.hbr with reads := NMap.set none d.hbr.reads tag none } } : Dev).cancel ⟨.cplTmo, tag, 0⟩

/-- An outbound read in flight fails, with a halt cause and a response code. -/
def Dev.readEnds (r : OutRead) (cause resp : Nat) (d : Dev) : Dev :=
  (if r.ack then d.ackFails r resp else d).readFails r cause

/-- The 64-byte block of a brace's prefetch: the dword it asked for, and what else the host's memory holds, free values. -/
def Dev.keepBlock (by_ base want : Nat) (w : Word) (d : Dev) : Dev :=
  let (bs, d) := (List.range 16).foldl (fun (acc : List Byte × Dev) k =>
    if base + 4 * k = want then (acc.1 ++ leBytes 4 w.toNat, acc.2)
    else
      let (x, d) := acc.2.free 32
      (acc.1 ++ leBytes 4 x, d)) ([], d)
  let l : PfLine := { addr := base, by_ := by_, data := bs, left := List.range 16, at_ := d.now }
  d.keepLine (if base = want / 64 * 64 then l.took want else l)

/-- A read of a DMA ring's descriptor or buffer fails: tags 0 to 15 stand for the reads of host ring `tag`, 16 and 17 for
those of table DMA ring `tag` - 16. -/
def Dev.ringReadFails (tag cause : Nat) (d : Dev) : Dev :=
  if tag < 16 then (if d.hRuns tag && d.hPosted tag then d.hHalt tag cause true else d)
  else if tag < 18 ∧ d.ringBusy (tag - 16) then
    let c := tag - 16
    (((d.put (TBL_RING_STAT_halted c) 1).put (TBL_RING_STAT_cause c) cause).put (TBL_RING_STAT_at c) (d.ringHead c)).raise pgTBL 10
  else d

/-- OUTBOUND_READ_COMPLETION: data for the brace that waits, the end of an acknowledged write, or a failure. The data of a
ring's read come with the command that uses them. -/
def opOutDone (tag : Nat) (status : CplStatus) (data : Word) (d : Dev) : Dev :=
  if tag < 32 then (if status = .ok then d else d.ringReadFails tag (haltCause status))
  else
    match NMap.get none d.hbr.reads tag with
    | none => d
    | some r =>
      let d := d.takeRead tag
      if status = .ok then
        if r.ack then d
        else
          let d := d.emit (.readValue (braceIni r.by_) r.addr data)
          let base := r.addr / 64 * 64
          let d := if r.n < 64 then d else d.keepBlock r.by_ base r.addr data
          if r.n < 128 then d else d.keepBlock r.by_ (base + 64) r.addr data
      else d.readEnds r (haltCause status) (if status = .unsupported then 0xB else 0xC)

/-- OUTBOUND_READ_TIMEOUT: `CPL_TMO` has passed. -/
def opOutTimeout (tag : Nat) (d : Dev) : Dev :=
  if tag < 32 then d.ringReadFails tag 2
  else
    d.onTimer ⟨.cplTmo, tag, 0⟩ (fun d =>
      match NMap.get none d.hbr.reads tag with
      | none => d
      | some r => (d.takeRead tag).readEnds r 2 0xD)

/-! ### The meanings of the commands of this file -/

/-- PE_RSTN_LOW (R310). -/
def execPeRstnLow (s : State) : Host.Outcome State Fault Refusal :=
  effect opPeRstnLow s

/-- PE_RSTN_RISE (R310). -/
def execPeRstnRise (s : State) : Host.Outcome State Fault Refusal :=
  effect opPeRstnRise s

/-- FUNCTION_LEVEL_RESET (R310). -/
def execFunctionLevelReset (s : State) : Host.Outcome State Fault Refusal :=
  effect opFlr s

/-- PE_WAKEN_RELEASE (R310). -/
def execPeWakenRelease (s : State) : Host.Outcome State Fault Refusal :=
  effect opPeWakenRelease s

/-- HOST_WRITE (R312). -/
def execHostWrite (bar : Bar) (off : Nat) (v : Word) (narrow : Bool) (poisoned : Bool) (s : State) : Host.Outcome State Fault Refusal :=
  effect (opHostWrite bar off v narrow poisoned) s

/-- HOST_RETRY_READ (R314). -/
def execHostRetryRead (bar : Bar) (off : Nat) (s : State) : Host.Outcome State Fault Refusal :=
  effect (opHostRetryRead bar off) s

/-- HOST_SPLIT_READ (R315). -/
def execHostSplitRead (bar : Bar) (off : Nat) (s : State) : Host.Outcome State Fault Refusal :=
  effect (opHostSplitRead bar off) s

/-- RETRIEVER_WAIT_EXPIRY (R314). -/
def execRetrieverWaitExpiry (e : Nat) (s : State) : Host.Outcome State Fault Refusal :=
  effectIf (decide (e < 8)) (opRtvWait e) s

/-- RETRIEVER_FETCH_DONE (R314). -/
def execRetrieverFetchDone (e : Nat) (s : State) : Host.Outcome State Fault Refusal :=
  effectIf (decide (e < 8)) (opRtvFetch e) s

/-- RETRIEVER_HOLD_EXPIRY (R314). -/
def execRetrieverHoldExpiry (e : Nat) (s : State) : Host.Outcome State Fault Refusal :=
  effectIf (decide (e < 8)) (opRtvHold e) s

/-- PREFETCH_LINE_DISCARD (R316). -/
def execPrefetchLineDiscard (line : Nat) (s : State) : Host.Outcome State Fault Refusal :=
  effectIf (decide (line < 16)) (opLineDiscard line) s

/-- OUTBOUND_READ_COMPLETION (R315). -/
def execOutboundReadCompletion (tag : Nat) (status : CplStatus) (data : Word) (s : State) : Host.Outcome State Fault Refusal :=
  effect (opOutDone tag status data) s

/-- OUTBOUND_READ_TIMEOUT (R315). -/
def execOutboundReadTimeout (tag : Nat) (s : State) : Host.Outcome State Fault Refusal :=
  effect (opOutTimeout tag) s

/-- OUTBOUND_ACCESS (R312). -/
def execOutboundAccess (br : Brace) (addr : Nat) (write : Option Word) (s : State) : Host.Outcome State Fault Refusal :=
  effectIf (decide (addr < 2 ^ 40)) (opOutbound br addr write) s

end Sys2Proof.Machine
end

