-- ==== Sys2Proof/Machine/Dispatch.lean ====
section
/-!
DEFINITION. The meaning of every command: one arm for each row of spec/opcode_table.json.
-/

namespace Sys2Proof.Machine

/-- What a command does to everything but the queue. -/
def exec (i : Instr) (s : State) : Host.Outcome State Fault Refusal :=
  match i with
  | .powerOn => Sys2Proof.Machine.execPowerOn s
  | .mainRailsValid => Sys2Proof.Machine.execMainRailsValid s
  | .brownOut cause vmin => Sys2Proof.Machine.execBrownOut cause vmin s
  | .powerLossJournalWritten => Sys2Proof.Machine.execPowerLossJournalWritten s
  | .supplyLossMainOff => Sys2Proof.Machine.execSupplyLossMainOff s
  | .vsupCrankEntry mv10 => Sys2Proof.Machine.execVsupCrankEntry mv10 s
  | .vsupOvEntry mv10 => Sys2Proof.Machine.execVsupOvEntry mv10 s
  | .vsupUvWarn mv10 => Sys2Proof.Machine.execVsupUvWarn mv10 s
  | .resetnAssert => Sys2Proof.Machine.execResetnAssert s
  | .resetnRelease => Sys2Proof.Machine.execResetnRelease s
  | .devReset ini v => Sys2Proof.Machine.execDevReset ini v s
  | .classDReset cause => Sys2Proof.Machine.execClassDReset cause s
  | .classDAssertionEnd => Sys2Proof.Machine.execClassDAssertionEnd s
  | .dieTempSample celsius => Sys2Proof.Machine.execDieTempSample celsius s
  | .referenceCheck ppm => Sys2Proof.Machine.execReferenceCheck ppm s
  | .rootPllLockLoss => Sys2Proof.Machine.execRootPllLockLoss s
  | .rootPllRelock ns => Sys2Proof.Machine.execRootPllRelock ns s
  | .rootPllLossTimeout => Sys2Proof.Machine.execRootPllLossTimeout s
  | .clockStable c => Sys2Proof.Machine.execClockStable c s
  | .clockWaitTimeout pg => Sys2Proof.Machine.execClockWaitTimeout pg s
  | .rootArrayRead => Sys2Proof.Machine.execRootArrayRead s
  | .rootRegenAttemptDone cells => Sys2Proof.Machine.execRootRegenAttemptDone cells s
  | .optionLoad => Sys2Proof.Machine.execOptionLoad s
  | .optionCopyRepair => Sys2Proof.Machine.execOptionCopyRepair s
  | .ondieFillDone => Sys2Proof.Machine.execOndieFillDone s
  | .reserveRowFilled coins last => Sys2Proof.Machine.execReserveRowFilled coins last s
  | .keyRecordCheckDone fails healthy => Sys2Proof.Machine.execKeyRecordCheckDone fails healthy s
  | .imageCheckDone img => Sys2Proof.Machine.execImageCheckDone img s
  | .startTableLoadDone ok img => Sys2Proof.Machine.execStartTableLoadDone ok img s
  | .braceSelfTestDone br failed => Sys2Proof.Machine.execBraceSelfTestDone br failed s
  | .bootGood ini v => Sys2Proof.Machine.execBootGood ini v s
  | .bootGoodTimeout => Sys2Proof.Machine.execBootGoodTimeout s
  | .bootHalf => Sys2Proof.Machine.execBootHalf s
  | .bootClr ini v => Sys2Proof.Machine.execBootClr ini v s
  | .outCtlWrite ini v => Sys2Proof.Machine.execOutCtlWrite ini v s
  | .optionWrite ini v => Sys2Proof.Machine.execOptionWrite ini v s
  | .optionWriteDone ok => Sys2Proof.Machine.execOptionWriteDone ok s
  | .unrecoverableFault why => Sys2Proof.Machine.execUnrecoverableFault why s
  | .unitReset ini pg => Sys2Proof.Machine.execUnitReset ini pg s
  | .unitResetEnd pg => Sys2Proof.Machine.execUnitResetEnd pg s
  | .pgEnableWrite ini pg en => Sys2Proof.Machine.execPgEnableWrite ini pg en s
  | .isolateRequest ini pg => Sys2Proof.Machine.execIsolateRequest ini pg s
  | .isolationComplete pg => Sys2Proof.Machine.execIsolationComplete pg s
  | .returnRequest ini pg => Sys2Proof.Machine.execReturnRequest ini pg s
  | .returnComplete pg => Sys2Proof.Machine.execReturnComplete pg s
  | .shadowWrite ini pg off v => Sys2Proof.Machine.execShadowWrite ini pg off v s
  | .liveRegisterWrite ini pg off v => Sys2Proof.Machine.execLiveRegisterWrite ini pg off v s
  | .registerWrite ini pg off v => Sys2Proof.Machine.execRegisterWrite ini pg off v s
  | .unmappedAccess ini addr write narrow => Sys2Proof.Machine.execUnmappedAccess ini addr write narrow s
  | .counterReadClear ini pg off => Sys2Proof.Machine.execCounterReadClear ini pg off s
  | .captureReadRearm ini pg off => Sys2Proof.Machine.execCaptureReadRearm ini pg off s
  | .commitNow ini pg group => Sys2Proof.Machine.execCommitNow ini pg group s
  | .commitTimed ini pg group => Sys2Proof.Machine.execCommitTimed ini pg group s
  | .commitCascade ini pg group => Sys2Proof.Machine.execCommitCascade ini pg group s
  | .commitAbort ini pg group => Sys2Proof.Machine.execCommitAbort ini pg group s
  | .commitRevert ini pg group => Sys2Proof.Machine.execCommitRevert ini pg group s
  | .commitBadCmd ini pg group cmd => Sys2Proof.Machine.execCommitBadCmd ini pg group cmd s
  | .commitCheckDone pg ue => Sys2Proof.Machine.execCommitCheckDone pg ue s
  | .commitLaunch pg => Sys2Proof.Machine.execCommitLaunch pg s
  | .grpCommitNow ini g => Sys2Proof.Machine.execGrpCommitNow ini g s
  | .grpCommitTimed ini g => Sys2Proof.Machine.execGrpCommitTimed ini g s
  | .grpCommitCascade ini g => Sys2Proof.Machine.execGrpCommitCascade ini g s
  | .grpCommitAbort ini g => Sys2Proof.Machine.execGrpCommitAbort ini g s
  | .grpCommitRevert ini g => Sys2Proof.Machine.execGrpCommitRevert ini g s
  | .fenceConfig ini pg => Sys2Proof.Machine.execFenceConfig ini pg s
  | .fenceTable ini pg => Sys2Proof.Machine.execFenceTable ini pg s
  | .fenceBridge ini pg => Sys2Proof.Machine.execFenceBridge ini pg s
  | .fenceTime ini pg => Sys2Proof.Machine.execFenceTime ini pg s
  | .fenceQueue ini pg q => Sys2Proof.Machine.execFenceQueue ini pg q s
  | .fenceRefused ini pg v => Sys2Proof.Machine.execFenceRefused ini pg v s
  | .fenceComplete pg => Sys2Proof.Machine.execFenceComplete pg s
  | .fenceTimeout pg => Sys2Proof.Machine.execFenceTimeout pg s
  | .irqEnWrite ini pg v => Sys2Proof.Machine.execIrqEnWrite ini pg v s
  | .irqSetWrite ini pg v mism => Sys2Proof.Machine.execIrqSetWrite ini pg v mism s
  | .irqStatClear ini pg v => Sys2Proof.Machine.execIrqStatClear ini pg v s
  | .pgLockWrite ini pg v => Sys2Proof.Machine.execPgLockWrite ini pg v s
  | .frameStart p eighth => Sys2Proof.Machine.execFrameStart p eighth s
  | .frameDataCoin p data => Sys2Proof.Machine.execFrameDataCoin p data s
  | .frameHeadReceived p => Sys2Proof.Machine.execFrameHeadReceived p s
  | .lookupResult p pipe ue => Sys2Proof.Machine.execLookupResult p pipe ue s
  | .frameEnd p fcsGood pcsErr frags asmErr smdErr => Sys2Proof.Machine.execFrameEnd p fcsGood pcsErr frags asmErr smdErr s
  | .policingDecision p ue => Sys2Proof.Machine.execPolicingDecision p ue s
  | .ingressCheckValueResult p ue => Sys2Proof.Machine.execIngressCheckValueResult p ue s
  | .voqEnqueue p mism => Sys2Proof.Machine.execVoqEnqueue p mism s
  | .busFrameHandoff p => Sys2Proof.Machine.execBusFrameHandoff p s
  | .backpressureReachPort p => Sys2Proof.Machine.execBackpressureReachPort p s
  | .spillCopyDone voq ue => Sys2Proof.Machine.execSpillCopyDone voq ue s
  | .reservePrefetchDone voq => Sys2Proof.Machine.execReservePrefetchDone voq s
  | .egressPick out err bp own => Sys2Proof.Machine.execEgressPick out err bp own s
  | .egressTimestamp out eighth mism => Sys2Proof.Machine.execEgressTimestamp out eighth mism s
  | .transmitEnd out => Sys2Proof.Machine.execTransmitEnd out s
  | .mcHoldSweep => Sys2Proof.Machine.execMcHoldSweep s
  | .auditorCountCheck => Sys2Proof.Machine.execAuditorCountCheck s
  | .auditorWalkStart ini => Sys2Proof.Machine.execAuditorWalkStart ini s
  | .auditorWalkPhaseDone => Sys2Proof.Machine.execAuditorWalkPhaseDone s
  | .walkDone => Sys2Proof.Machine.execWalkDone s
  | .audLeakqRead ini mism => Sys2Proof.Machine.execAudLeakqRead ini mism s
  | .voqSelWrite ini v => Sys2Proof.Machine.execVoqSelWrite ini v s
  | .learnEventService mism => Sys2Proof.Machine.execLearnEventService mism s
  | .pinHoldExpiry slot => Sys2Proof.Machine.execPinHoldExpiry slot s
  | .sweepPassStart => Sys2Proof.Machine.execSweepPassStart s
  | .sweepNow ini => Sys2Proof.Machine.execSweepNow ini s
  | .sweepSlotVisit hitNow => Sys2Proof.Machine.execSweepSlotVisit hitNow s
  | .sweepPassDone => Sys2Proof.Machine.execSweepPassDone s
  | .windowPass => Sys2Proof.Machine.execWindowPass s
  | .tblInsert ring d => Sys2Proof.Machine.execTblInsert ring d s
  | .tblUpdate ring d => Sys2Proof.Machine.execTblUpdate ring d s
  | .tblDelete ring d => Sys2Proof.Machine.execTblDelete ring d s
  | .tblLookup ring d => Sys2Proof.Machine.execTblLookup ring d s
  | .tblReadIdx ring d => Sys2Proof.Machine.execTblReadIdx ring d s
  | .tblWriteIdx ring d => Sys2Proof.Machine.execTblWriteIdx ring d s
  | .tblReadLock ring d => Sys2Proof.Machine.execTblReadLock ring d s
  | .tblWriteUnlock ring d => Sys2Proof.Machine.execTblWriteUnlock ring d s
  | .tblUnlock ring d => Sys2Proof.Machine.execTblUnlock ring d s
  | .tblFlush ring d => Sys2Proof.Machine.execTblFlush ring d s
  | .tblFlushDone ring => Sys2Proof.Machine.execTblFlushDone ring s
  | .tblEpoch ring d => Sys2Proof.Machine.execTblEpoch ring d s
  | .tblRingResume ini ring => Sys2Proof.Machine.execTblRingResume ini ring s
  | .lockExpiry table slot => Sys2Proof.Machine.execLockExpiry table slot s
  | .traceArm ini v => Sys2Proof.Machine.execTraceArm ini v s
  | .recoveryResetTimeout fn => Sys2Proof.Machine.execRecoveryResetTimeout fn s
  | .latentErrorTest fn => Sys2Proof.Machine.execLatentErrorTest fn s
  | .gateListStart p ue => Sys2Proof.Machine.execGateListStart p ue s
  | .streamGateListStart g => Sys2Proof.Machine.execStreamGateListStart g s
  | .gateEntryEnd p ue => Sys2Proof.Machine.execGateEntryEnd p ue s
  | .streamGateEntryEnd g => Sys2Proof.Machine.execStreamGateEntryEnd g s
  | .gateListCycleEnd p ue => Sys2Proof.Machine.execGateListCycleEnd p ue s
  | .streamRead ini staged => Sys2Proof.Machine.execStreamRead ini staged s
  | .streamStage ini => Sys2Proof.Machine.execStreamStage ini s
  | .streamCountersCopy ini => Sys2Proof.Machine.execStreamCountersCopy ini s
  | .streamGateRead ini staged => Sys2Proof.Machine.execStreamGateRead ini staged s
  | .streamGateWrite ini => Sys2Proof.Machine.execStreamGateWrite ini s
  | .recoveryRead ini staged => Sys2Proof.Machine.execRecoveryRead ini staged s
  | .recoveryStage ini => Sys2Proof.Machine.execRecoveryStage ini s
  | .recoveryCountersCopy ini => Sys2Proof.Machine.execRecoveryCountersCopy ini s
  | .gclRead ini => Sys2Proof.Machine.execGclRead ini s
  | .gclWrite ini => Sys2Proof.Machine.execGclWrite ini s
  | .windowCommandDone w => Sys2Proof.Machine.execWindowCommandDone w s
  | .cbsSelWrite ini v => Sys2Proof.Machine.execCbsSelWrite ini v s
  | .preemptVerifyDone p ok => Sys2Proof.Machine.execPreemptVerifyDone p ok s
  | .sampleSubmit ini v => Sys2Proof.Machine.execSampleSubmit ini v s
  | .sampleApply => Sys2Proof.Machine.execSampleApply s
  | .holdoverTimeout => Sys2Proof.Machine.execHoldoverTimeout s
  | .adjStep ini => Sys2Proof.Machine.execAdjStep ini s
  | .adjSet ini => Sys2Proof.Machine.execAdjSet ini s
  | .adjRate ini => Sys2Proof.Machine.execAdjRate ini s
  | .slotArm ini sl ctl => Sys2Proof.Machine.execSlotArm ini sl ctl s
  | .slotDisarm ini sl ctl => Sys2Proof.Machine.execSlotDisarm ini sl ctl s
  | .gpioHigh k => Sys2Proof.Machine.execGpioHigh k s
  | .gpioLow k => Sys2Proof.Machine.execGpioLow k s
  | .gpioToggle k => Sys2Proof.Machine.execGpioToggle k s
  | .gpioPulse k => Sys2Proof.Machine.execGpioPulse k s
  | .gpioPulseEnd g => Sys2Proof.Machine.execGpioPulseEnd g s
  | .slotMessage k => Sys2Proof.Machine.execSlotMessage k s
  | .slotLaunchInHalt sl => Sys2Proof.Machine.execSlotLaunchInHalt sl s
  | .gpioCaptureEdge g rising => Sys2Proof.Machine.execGpioCaptureEdge g rising s
  | .tsqRead ini p mism => Sys2Proof.Machine.execTsqRead ini p mism s
  | .tsqCapSelWrite ini v => Sys2Proof.Machine.execTsqCapSelWrite ini v s
  | .tsqCapClear ini => Sys2Proof.Machine.execTsqCapClear ini s
  | .phyTrainingStart p => Sys2Proof.Machine.execPhyTrainingStart p s
  | .trainingTimeout p => Sys2Proof.Machine.execTrainingTimeout p s
  | .ethLinkUp p ms => Sys2Proof.Machine.execEthLinkUp p ms s
  | .ethLinkDown p => Sys2Proof.Machine.execEthLinkDown p s
  | .phyPllLoss p => Sys2Proof.Machine.execPhyPllLoss p s
  | .linkHoldExpiry p => Sys2Proof.Machine.execLinkHoldExpiry p s
  | .lpiIdleTimeout p => Sys2Proof.Machine.execLpiIdleTimeout p s
  | .lpiWakeDone p => Sys2Proof.Machine.execLpiWakeDone p s
  | .diagRun ini p => Sys2Proof.Machine.execDiagRun ini p s
  | .diagAbort ini p => Sys2Proof.Machine.execDiagAbort ini p s
  | .diagDone p result dist => Sys2Proof.Machine.execDiagDone p result dist s
  | .sqiUpdate p sqi lpiRx corr unc pcs => Sys2Proof.Machine.execSqiUpdate p sqi lpiRx corr unc pcs s
  | .pauseReceived p quanta => Sys2Proof.Machine.execPauseReceived p quanta s
  | .pfcReceived p vector times => Sys2Proof.Machine.execPfcReceived p vector times s
  | .macctlUnknownReceived p => Sys2Proof.Machine.execMacctlUnknownReceived p s
  | .pauseTimerExpiry p c => Sys2Proof.Machine.execPauseTimerExpiry p c s
  | .flowControlRefresh p => Sys2Proof.Machine.execFlowControlRefresh p s
  | .pwdTrip p c => Sys2Proof.Machine.execPwdTrip p c s
  | .pwdBreakEnd p c => Sys2Proof.Machine.execPwdBreakEnd p c s
  | .ldgSnap ini p => Sys2Proof.Machine.execLdgSnap ini p s
  | .ldgClear ini p => Sys2Proof.Machine.execLdgClear ini p s
  | .canFrameValid ch r ago ue => Sys2Proof.Machine.execCanFrameValid ch r ago ue s
  | .canErrorFrame ch lec eights => Sys2Proof.Machine.execCanErrorFrame ch lec eights s
  | .objLock ini ch ue => Sys2Proof.Machine.execObjLock ini ch ue s
  | .objRelease ini ch => Sys2Proof.Machine.execObjRelease ini ch s
  | .rxfPop ini ch v ue mism => Sys2Proof.Machine.execRxfPop ini ch v ue mism s
  | .mrDataAccess ini ch write ue => Sys2Proof.Machine.execMrDataAccess ini ch write ue s
  | .canBusIdleApply ch idle => Sys2Proof.Machine.execCanBusIdleApply ch idle s
  | .canIntegrationDone ch => Sys2Proof.Machine.execCanIntegrationDone ch s
  | .canTxDone ch => Sys2Proof.Machine.execCanTxDone ch s
  | .canArbLost ch => Sys2Proof.Machine.execCanArbLost ch s
  | .canTxError ch lec clash exempt eights => Sys2Proof.Machine.execCanTxError ch lec clash exempt eights s
  | .boffWaitExpiry ch => Sys2Proof.Machine.execBoffWaitExpiry ch s
  | .boffRestart ini ch => Sys2Proof.Machine.execBoffRestart ini ch s
  | .boffRecovered ch => Sys2Proof.Machine.execBoffRecovered ch s
  | .boffHoldExpiry ch => Sys2Proof.Machine.execBoffHoldExpiry ch s
  | .timedDispatch ch k => Sys2Proof.Machine.execTimedDispatch ch k s
  | .linHeaderReceived ch brk baud pid => Sys2Proof.Machine.execLinHeaderReceived ch brk baud pid s
  | .linResponseReceived ch data cksOk framingOk ago => Sys2Proof.Machine.execLinResponseReceived ch data cksOk framingOk ago s
  | .linNoResponse ch => Sys2Proof.Machine.execLinNoResponse ch s
  | .linScheduleSlot ch bitErr => Sys2Proof.Machine.execLinScheduleSlot ch bitErr s
  | .linRxfPop ini ch mism => Sys2Proof.Machine.execLinRxfPop ini ch mism s
  | .linSchRead ini ch => Sys2Proof.Machine.execLinSchRead ini ch s
  | .linSchWrite ini ch => Sys2Proof.Machine.execLinSchWrite ini ch s
  | .kalowPick ue err => Sys2Proof.Machine.execKalowPick ue err s
  | .kalowUnpackCommit ue => Sys2Proof.Machine.execKalowUnpackCommit ue s
  | .kalowTriggeredPack r ue => Sys2Proof.Machine.execKalowTriggeredPack r ue s
  | .kalowPeriodicPack r ue => Sys2Proof.Machine.execKalowPeriodicPack r ue s
  | .kalowPendingPack r ue => Sys2Proof.Machine.execKalowPendingPack r ue s
  | .kalowDeferredPack r ue => Sys2Proof.Machine.execKalowDeferredPack r ue s
  | .kalowPackHandoff => Sys2Proof.Machine.execKalowPackHandoff s
  | .kalowTimeoutCheck => Sys2Proof.Machine.execKalowTimeoutCheck s
  | .kalowAggTimeout r => Sys2Proof.Machine.execKalowAggTimeout r s
  | .storeRead ini ue => Sys2Proof.Machine.execStoreRead ini ue s
  | .storeForce ini => Sys2Proof.Machine.execStoreForce ini s
  | .dumpGo ini => Sys2Proof.Machine.execDumpGo ini s
  | .dumpPeriod => Sys2Proof.Machine.execDumpPeriod s
  | .dumpDone ue => Sys2Proof.Machine.execDumpDone ue s
  | .dumpResume ini => Sys2Proof.Machine.execDumpResume ini s
  | .klwDescRead ini staged => Sys2Proof.Machine.execKlwDescRead ini staged s
  | .klwDescStage ini => Sys2Proof.Machine.execKlwDescStage ini s
  | .klwSlotRead ini => Sys2Proof.Machine.execKlwSlotRead ini s
  | .klwSlotWrite ini => Sys2Proof.Machine.execKlwSlotWrite ini s
  | .knownAnswerTest failed => Sys2Proof.Machine.execKnownAnswerTest failed s
  | .engFailClear ini v => Sys2Proof.Machine.execEngFailClear ini v s
  | .ctxRead ini staged => Sys2Proof.Machine.execCtxRead ini staged s
  | .ctxStage ini => Sys2Proof.Machine.execCtxStage ini s
  | .ctxCountersCopy ini => Sys2Proof.Machine.execCtxCountersCopy ini s
  | .ctxLatchState ini => Sys2Proof.Machine.execCtxLatchState ini s
  | .changeoverNow ini => Sys2Proof.Machine.execChangeoverNow ini s
  | .keyChangeover grp => Sys2Proof.Machine.execKeyChangeover grp s
  | .oldKeyOverlapEnd ctx => Sys2Proof.Machine.execOldKeyOverlapEnd ctx s
  | .oldSlotZeroise ctx => Sys2Proof.Machine.execOldSlotZeroise ctx s
  | .chgSlotRead ini => Sys2Proof.Machine.execChgSlotRead ini s
  | .chgSlotWrite ini => Sys2Proof.Machine.execChgSlotWrite ini s
  | .importPlain ini => Sys2Proof.Machine.execImportPlain ini s
  | .importWrapped ini => Sys2Proof.Machine.execImportWrapped ini s
  | .load ini => Sys2Proof.Machine.execLoad ini s
  | .derive ini => Sys2Proof.Machine.execDerive ini s
  | .unwrap ini => Sys2Proof.Machine.execUnwrap ini s
  | .wrap ini => Sys2Proof.Machine.execWrap ini s
  | .cmac ini data => Sys2Proof.Machine.execCmac ini data s
  | .generate ini => Sys2Proof.Machine.execGenerate ini s
  | .random ini => Sys2Proof.Machine.execRandom ini s
  | .zero ini => Sys2Proof.Machine.execZero ini s
  | .token ini => Sys2Proof.Machine.execToken ini s
  | .keyBadOp ini op => Sys2Proof.Machine.execKeyBadOp ini op s
  | .keyOpDone ue => Sys2Proof.Machine.execKeyOpDone ue s
  | .provClose ini => Sys2Proof.Machine.execProvClose ini s
  | .drbgReseed healthy => Sys2Proof.Machine.execDrbgReseed healthy s
  | .maskRenew => Sys2Proof.Machine.execMaskRenew s
  | .tamperSensorFire sensor => Sys2Proof.Machine.execTamperSensorFire sensor s
  | .tamperEraseDone => Sys2Proof.Machine.execTamperEraseDone s
  | .tamperEnable ini v => Sys2Proof.Machine.execTamperEnable ini v s
  | .tamperLatchClear ini v => Sys2Proof.Machine.execTamperLatchClear ini v s
  | .sigGo ini data => Sys2Proof.Machine.execSigGo ini data s
  | .sigDone ue => Sys2Proof.Machine.execSigDone ue s
  | .anchWrite ini purpose => Sys2Proof.Machine.execAnchWrite ini purpose s
  | .anchRevoke ini => Sys2Proof.Machine.execAnchRevoke ini s
  | .wakeDetect src => Sys2Proof.Machine.execWakeDetect src s
  | .listenFrameMatch chan r => Sys2Proof.Machine.execListenFrameMatch chan r s
  | .listenErrorLimit ch => Sys2Proof.Machine.execListenErrorLimit ch s
  | .listenEnergyPersist p => Sys2Proof.Machine.execListenEnergyPersist p s
  | .listenTimeout => Sys2Proof.Machine.execListenTimeout s
  | .consentRoundStart ini set pins => Sys2Proof.Machine.execConsentRoundStart ini set pins s
  | .consentVetoCmd ini => Sys2Proof.Machine.execConsentVetoCmd ini s
  | .autoRoundStart pins => Sys2Proof.Machine.execAutoRoundStart pins s
  | .proposeReceived t pins => Sys2Proof.Machine.execProposeReceived t pins s
  | .commitTokenReceived t => Sys2Proof.Machine.execCommitTokenReceived t s
  | .vetoReceived t => Sys2Proof.Machine.execVetoReceived t s
  | .wakeTokenReceived t => Sys2Proof.Machine.execWakeTokenReceived t s
  | .commitGuardExpiry => Sys2Proof.Machine.execCommitGuardExpiry s
  | .consTimeout => Sys2Proof.Machine.execConsTimeout s
  | .localConsentLost pins => Sys2Proof.Machine.execLocalConsentLost pins s
  | .sleepCommitDevice => Sys2Proof.Machine.execSleepCommitDevice s
  | .sleepCommitSet => Sys2Proof.Machine.execSleepCommitSet s
  | .segmentWakeCmd ini v => Sys2Proof.Machine.execSegmentWakeCmd ini v s
  | .segmentWakeLaunch k => Sys2Proof.Machine.execSegmentWakeLaunch k s
  | .supenOffDelay n => Sys2Proof.Machine.execSupenOffDelay n s
  | .braceMismatch br group => Sys2Proof.Machine.execBraceMismatch br group s
  | .braceWatchdogExpiry br => Sys2Proof.Machine.execBraceWatchdogExpiry br s
  | .wdgKick br v => Sys2Proof.Machine.execWdgKick br v s
  | .handoverCmd ini br v => Sys2Proof.Machine.execHandoverCmd ini br v s
  | .classBResetRequest ini br => Sys2Proof.Machine.execClassBResetRequest ini br s
  | .classBFillDone br => Sys2Proof.Machine.execClassBFillDone br s
  | .resyncCopyDone br => Sys2Proof.Machine.execResyncCopyDone br s
  | .sbOk br => Sys2Proof.Machine.execSbOk br s
  | .stestRun ini br => Sys2Proof.Machine.execStestRun ini br s
  | .braceSweep => Sys2Proof.Machine.execBraceSweep s
  | .braceSweepNow ini => Sys2Proof.Machine.execBraceSweepNow ini s
  | .braceSweepDone diffs => Sys2Proof.Machine.execBraceSweepDone diffs s
  | .bpTxFetch c d data => Sys2Proof.Machine.execBpTxFetch c d data s
  | .repair hard mism => Sys2Proof.Machine.execRepair hard mism s
  | .scrubGo ini => Sys2Proof.Machine.execScrubGo ini s
  | .scrubAbort ini => Sys2Proof.Machine.execScrubAbort ini s
  | .scrubPeriod => Sys2Proof.Machine.execScrubPeriod s
  | .scrubUnitRead f => Sys2Proof.Machine.execScrubUnitRead f s
  | .scrubPassDone => Sys2Proof.Machine.execScrubPassDone s
  | .reserveRowRemapDone chan coins => Sys2Proof.Machine.execReserveRowRemapDone chan coins s
  | .ceThresholdCheck => Sys2Proof.Machine.execCeThresholdCheck s
  | .injectArm ini v => Sys2Proof.Machine.execInjectArm ini v s
  | .remapRecordClear ini => Sys2Proof.Machine.execRemapRecordClear ini s
  | .peRstnLow => Sys2Proof.Machine.execPeRstnLow s
  | .peRstnRise => Sys2Proof.Machine.execPeRstnRise s
  | .functionLevelReset => Sys2Proof.Machine.execFunctionLevelReset s
  | .pcieLinkUp gen width => Sys2Proof.Machine.execPcieLinkUp gen width s
  | .pcieLinkDown => Sys2Proof.Machine.execPcieLinkDown s
  | .peWakenRelease => Sys2Proof.Machine.execPeWakenRelease s
  | .hostWrite bar off v narrow poisoned => Sys2Proof.Machine.execHostWrite bar off v narrow poisoned s
  | .hostRetryRead bar off => Sys2Proof.Machine.execHostRetryRead bar off s
  | .hostSplitRead bar off => Sys2Proof.Machine.execHostSplitRead bar off s
  | .retrieverWaitExpiry e => Sys2Proof.Machine.execRetrieverWaitExpiry e s
  | .retrieverFetchDone e => Sys2Proof.Machine.execRetrieverFetchDone e s
  | .retrieverHoldExpiry e => Sys2Proof.Machine.execRetrieverHoldExpiry e s
  | .prefetchLineDiscard line => Sys2Proof.Machine.execPrefetchLineDiscard line s
  | .outboundReadCompletion tag status data => Sys2Proof.Machine.execOutboundReadCompletion tag status data s
  | .outboundReadTimeout tag => Sys2Proof.Machine.execOutboundReadTimeout tag s
  | .pweRead ini => Sys2Proof.Machine.execPweRead ini s
  | .semRead ini n => Sys2Proof.Machine.execSemRead ini n s
  | .semRelease ini n => Sys2Proof.Machine.execSemRelease ini n s
  | .semTimeout n => Sys2Proof.Machine.execSemTimeout n s
  | .msixUnmask what => Sys2Proof.Machine.execMsixUnmask what s
  | .hostTxDescFetch c d data => Sys2Proof.Machine.execHostTxDescFetch c d data s
  | .hostTxFrameDone c => Sys2Proof.Machine.execHostTxFrameDone c s
  | .hostRxWriteDone c d status => Sys2Proof.Machine.execHostRxWriteDone c d status s
  | .hostRingResume ini tx c => Sys2Proof.Machine.execHostRingResume ini tx c s
  | .hostLinkHoldExpiry => Sys2Proof.Machine.execHostLinkHoldExpiry s
  | .vhLinkUp n grant => Sys2Proof.Machine.execVhLinkUp n grant s
  | .vhLinkDown n inRx => Sys2Proof.Machine.execVhLinkDown n inRx s
  | .vhControlBlock n returns => Sys2Proof.Machine.execVhControlBlock n returns s
  | .vhFrameReceived n tag data chk pairs eighth => Sys2Proof.Machine.execVhFrameReceived n tag data chk pairs eighth s
  | .holdIRise n => Sys2Proof.Machine.execHoldIRise n s
  | .holdIFall n => Sys2Proof.Machine.execHoldIFall n s
  | .helloSend => Sys2Proof.Machine.execHelloSend s
  | .helloReceived code h => Sys2Proof.Machine.execHelloReceived code h s
  | .masterLoss => Sys2Proof.Machine.execMasterLoss s
  | .idReqReceived code uid want => Sys2Proof.Machine.execIdReqReceived code uid want s
  | .idGrantReceived uid dev => Sys2Proof.Machine.execIdGrantReceived uid dev s
  | .idGrantLinkRelease uid => Sys2Proof.Machine.execIdGrantLinkRelease uid s
  | .timeSync => Sys2Proof.Machine.execTimeSync s
  | .timeReqReceived code t3 => Sys2Proof.Machine.execTimeReqReceived code t3 s
  | .timeRspReceived t1 t2 t3 t4 => Sys2Proof.Machine.execTimeRspReceived t1 t2 t3 t4 s
  | .voteReceived v => Sys2Proof.Machine.execVoteReceived v s
  | .decideReceived d => Sys2Proof.Machine.execDecideReceived d s
  | .ccDeadline key => Sys2Proof.Machine.execCcDeadline key s
  | .decideResend => Sys2Proof.Machine.execDecideResend s
  | .ccGuardExpiry key => Sys2Proof.Machine.execCcGuardExpiry key s
  | .cascadeCommitExecute key => Sys2Proof.Machine.execCascadeCommitExecute key s
  | .pathRevert dev => Sys2Proof.Machine.execPathRevert dev s
  | .pathRead ini staged => Sys2Proof.Machine.execPathRead ini staged s
  | .pathStage ini => Sys2Proof.Machine.execPathStage ini s
  | .bankWrite ini bank => Sys2Proof.Machine.execBankWrite ini bank s
  | .bankWriteDone ok => Sys2Proof.Machine.execBankWriteDone ok s
  | .bankVerify ini bank => Sys2Proof.Machine.execBankVerify ini bank s
  | .bankVerifyDone img => Sys2Proof.Machine.execBankVerifyDone img s
  | .prepare ini motion mv10 => Sys2Proof.Machine.execPrepare ini motion mv10 s
  | .prepareCopyDone code => Sys2Proof.Machine.execPrepareCopyDone code s
  | .standbyTimeout => Sys2Proof.Machine.execStandbyTimeout s
  | .updateRestart ini motion mv10 => Sys2Proof.Machine.execUpdateRestart ini motion mv10 s
  | .updateAbort ini => Sys2Proof.Machine.execUpdateAbort ini s
  | .guardOnset g => Sys2Proof.Machine.execGuardOnset g s
  | .handoverSlotArm ini ctl => Sys2Proof.Machine.execHandoverSlotArm ini ctl s
  | .braceHandoverLaunch => Sys2Proof.Machine.execBraceHandoverLaunch s
  | .confirm ini v => Sys2Proof.Machine.execConfirm ini v s
  | .confirmTimeout => Sys2Proof.Machine.execConfirmTimeout s
  | .olockSet ini => Sys2Proof.Machine.execOlockSet ini s
  | .olockUnlock ini => Sys2Proof.Machine.execOlockUnlock ini s
  | .olockClear ini => Sys2Proof.Machine.execOlockClear ini s
  | .phyCodeLoad ini group motion mv10 => Sys2Proof.Machine.execPhyCodeLoad ini group motion mv10 s
  | .phyCodePortDone p => Sys2Proof.Machine.execPhyCodePortDone p s
  | .phyCodePortTimeout p => Sys2Proof.Machine.execPhyCodePortTimeout p s
  | .heldWakeMainOn => Sys2Proof.Machine.execHeldWakeMainOn s
  | .outboundAccess br addr write => Sys2Proof.Machine.execOutboundAccess br addr write s
  | .pcieConfigWrite bme d3 msixEn fmask => Sys2Proof.Machine.execPcieConfigWrite bme d3 msixEn fmask s
  | .supenCmdWrite ini n on => Sys2Proof.Machine.execSupenCmdWrite ini n on s
  | .gpioOwnWrite ini v => Sys2Proof.Machine.execGpioOwnWrite ini v s
  | .slotActionNone sl => Sys2Proof.Machine.execSlotActionNone sl s

end Sys2Proof.Machine
end

