-- ==== Sys2Proof/Machine/Step.lean ====
section
/-!
DEFINITION. The step: the command at the front of the queue, or one CK_TIM tick of an idle block; and the host's form of
placing a command.
-/

namespace Sys2Proof.Machine

/-- The next state. The command at the front of the queue acts on the state with the queue's rest; on an empty queue one
CK_TIM period passes (log entry 2). -/
def step (s : State) : Host.Outcome State Fault Refusal :=
  match s.pending with
  | [] => .next { s with dev := Dev.at_ (s.dev.now + timT 1) s.dev }
  | c :: rest => exec c { s with pending := rest }

/-- The command that a word spells, put at the front of the queue. No row of the table gives bits, so no word spells a
command. -/
def State.withFetchWord (s : State) (nbits w : Nat) : State :=
  match decodeTableWord nbits w with
  | some c => { s with pending := c :: s.pending }
  | none => s

end Sys2Proof.Machine
end

