-- ==== Sys2Proof/Safety.lean ====
section
/-!
DEFINITION. What claims about the device are stated in: that a command completes in a given state of the device, that a
register access is admitted, the canonical form of the sparse maps, and what no command may undo.
-/

namespace Sys2Proof.Machine

/-- The command completes: the device is then in `e`, and the queue is as it was. -/
def Answers (c : Instr) (d e : Dev) : Prop := ∀ q : List Instr, exec c ⟨d, q⟩ = .next ⟨e, q⟩

/-- The command completes in a state of the device of which `P` holds. -/
def Reaches (c : Instr) (d : Dev) (P : Dev → Prop) : Prop := ∃ e, Answers c d e ∧ P e

/-- The fabric takes a register access of the initiator: it is up, and of the braces only the active one (R33, R280). -/
def Dev.accepts (d : Dev) (i : Initiator) : Bool :=
  d.up && (match iniBrace i with
    | some b => d.role (brIx b) == 1
    | none => true)

/-- Registers but for those listed, and every byte of memory, read as before. -/
def Dev.SameBut (d e : Dev) (l : List Nat) : Prop :=
  (∀ a, a ∉ l → e.rd a = d.rd a) ∧ ∀ a, e.rdByte a = d.rdByte a

/-- Registers of every page but those listed, and every byte of memory, read as before. -/
def Dev.SameButPages (d e : Dev) (l : List Nat) : Prop :=
  (∀ a, a / 0x1000 ∉ l → e.rd a = d.rd a) ∧ ∀ a, e.rdByte a = d.rdByte a

/-- Fabric memory is in its canonical form. -/
def Memory.wf (m : List Host.Cell) : Bool := NMap.wf (fun _ => 0) m

/-- The registers, fabric memory and the pages' own data are in canonical form: addresses strictly rising, and none listed
with the value that an unlisted one reads as. -/
def Dev.canonical (d : Dev) : Bool :=
  NMap.wf resetValue d.regs && Memory.wf d.mem && NMap.wf (fun _ => ({} : PgState)) d.pgs

/-- What no command undoes: the canonical form is kept, time does not run back, and what has been given to the outside
stays given, later outputs following it. -/
structure Dev.Follows (d e : Dev) : Prop where
  canonical : d.canonical = true → e.canonical = true
  time : d.now ≤ e.now
  outputs : d.out <+: e.out

end Sys2Proof.Machine
end

