-- ==== Sys2Proof/Laws/PerInstr.lean ====
section
/-!
SUPPORT. The family `Runs`, one lemma per command: a command that is well formed completes with one effect on the device,
whatever waits in the queue, and an ill-formed one stops with `illFormed`.
-/

namespace Sys2Proof.Laws.Runs

/-- The command has one effect on the device: well formed it completes with it, and ill formed it stops. -/
def Statement (i : Instr) : Prop :=
  ∃ f : Machine.Dev → Machine.Dev, ∀ s : Machine.State, Machine.exec i s = Machine.effectIf i.wf f s

theorem powerOn : Statement (.powerOn) := ⟨_, fun _ => rfl⟩
theorem mainRailsValid : Statement (.mainRailsValid) := ⟨_, fun _ => rfl⟩
theorem brownOut (x0 : _) (x1 : _) : Statement (.brownOut x0 x1) := ⟨_, fun _ => rfl⟩
theorem powerLossJournalWritten : Statement (.powerLossJournalWritten) := ⟨_, fun _ => rfl⟩
theorem supplyLossMainOff : Statement (.supplyLossMainOff) := ⟨_, fun _ => rfl⟩
theorem vsupCrankEntry (x0 : _) : Statement (.vsupCrankEntry x0) := ⟨_, fun _ => rfl⟩
theorem vsupOvEntry (x0 : _) : Statement (.vsupOvEntry x0) := ⟨_, fun _ => rfl⟩
theorem vsupUvWarn (x0 : _) : Statement (.vsupUvWarn x0) := ⟨_, fun _ => rfl⟩
theorem resetnAssert : Statement (.resetnAssert) := ⟨_, fun _ => rfl⟩
theorem resetnRelease : Statement (.resetnRelease) := ⟨_, fun _ => rfl⟩
theorem devReset (x0 : _) (x1 : _) : Statement (.devReset x0 x1) := ⟨_, fun _ => rfl⟩
theorem classDReset (x0 : _) : Statement (.classDReset x0) := ⟨_, fun _ => rfl⟩
theorem classDAssertionEnd : Statement (.classDAssertionEnd) := ⟨_, fun _ => rfl⟩
theorem dieTempSample (x0 : _) : Statement (.dieTempSample x0) := ⟨_, fun _ => rfl⟩
theorem referenceCheck (x0 : _) : Statement (.referenceCheck x0) := ⟨_, fun _ => rfl⟩
theorem rootPllLockLoss : Statement (.rootPllLockLoss) := ⟨_, fun _ => rfl⟩
theorem rootPllRelock (x0 : _) : Statement (.rootPllRelock x0) := ⟨_, fun _ => rfl⟩
theorem rootPllLossTimeout : Statement (.rootPllLossTimeout) := ⟨_, fun _ => rfl⟩
theorem clockStable (x0 : _) : Statement (.clockStable x0) := ⟨_, fun _ => rfl⟩
theorem clockWaitTimeout (x0 : _) : Statement (.clockWaitTimeout x0) := ⟨_, fun _ => rfl⟩
theorem rootArrayRead : Statement (.rootArrayRead) := ⟨_, fun _ => rfl⟩
theorem rootRegenAttemptDone (x0 : _) : Statement (.rootRegenAttemptDone x0) := ⟨_, fun _ => rfl⟩
theorem optionLoad : Statement (.optionLoad) := ⟨_, fun _ => rfl⟩
theorem optionCopyRepair : Statement (.optionCopyRepair) := ⟨_, fun _ => rfl⟩
theorem ondieFillDone : Statement (.ondieFillDone) := ⟨_, fun _ => rfl⟩
theorem reserveRowFilled (x0 : _) (x1 : _) : Statement (.reserveRowFilled x0 x1) := ⟨_, fun _ => rfl⟩
theorem keyRecordCheckDone (x0 : _) (x1 : _) : Statement (.keyRecordCheckDone x0 x1) := ⟨_, fun _ => rfl⟩
theorem imageCheckDone (x0 : _) : Statement (.imageCheckDone x0) := ⟨_, fun _ => rfl⟩
theorem startTableLoadDone (x0 : _) (x1 : _) : Statement (.startTableLoadDone x0 x1) := ⟨_, fun _ => rfl⟩
theorem braceSelfTestDone (x0 : _) (x1 : _) : Statement (.braceSelfTestDone x0 x1) := ⟨_, fun _ => rfl⟩
theorem bootGood (x0 : _) (x1 : _) : Statement (.bootGood x0 x1) := ⟨_, fun _ => rfl⟩
theorem bootGoodTimeout : Statement (.bootGoodTimeout) := ⟨_, fun _ => rfl⟩
theorem bootHalf : Statement (.bootHalf) := ⟨_, fun _ => rfl⟩
theorem bootClr (x0 : _) (x1 : _) : Statement (.bootClr x0 x1) := ⟨_, fun _ => rfl⟩
theorem outCtlWrite (x0 : _) (x1 : _) : Statement (.outCtlWrite x0 x1) := ⟨_, fun _ => rfl⟩
theorem optionWrite (x0 : _) (x1 : _) : Statement (.optionWrite x0 x1) := ⟨_, fun _ => rfl⟩
theorem optionWriteDone (x0 : _) : Statement (.optionWriteDone x0) := ⟨_, fun _ => rfl⟩
theorem unrecoverableFault (x0 : _) : Statement (.unrecoverableFault x0) := ⟨_, fun _ => rfl⟩
theorem unitReset (x0 : _) (x1 : _) : Statement (.unitReset x0 x1) := ⟨_, fun _ => rfl⟩
theorem unitResetEnd (x0 : _) : Statement (.unitResetEnd x0) := ⟨_, fun _ => rfl⟩
theorem pgEnableWrite (x0 : _) (x1 : _) (x2 : _) : Statement (.pgEnableWrite x0 x1 x2) := ⟨_, fun _ => rfl⟩
theorem isolateRequest (x0 : _) (x1 : _) : Statement (.isolateRequest x0 x1) := ⟨_, fun _ => rfl⟩
theorem isolationComplete (x0 : _) : Statement (.isolationComplete x0) := ⟨_, fun _ => rfl⟩
theorem returnRequest (x0 : _) (x1 : _) : Statement (.returnRequest x0 x1) := ⟨_, fun _ => rfl⟩
theorem returnComplete (x0 : _) : Statement (.returnComplete x0) := ⟨_, fun _ => rfl⟩
theorem shadowWrite (x0 : _) (x1 : _) (x2 : _) (x3 : _) : Statement (.shadowWrite x0 x1 x2 x3) := ⟨_, fun _ => rfl⟩
theorem liveRegisterWrite (x0 : _) (x1 : _) (x2 : _) (x3 : _) : Statement (.liveRegisterWrite x0 x1 x2 x3) := ⟨_, fun _ => rfl⟩
theorem registerWrite (x0 : _) (x1 : _) (x2 : _) (x3 : _) : Statement (.registerWrite x0 x1 x2 x3) := ⟨_, fun _ => rfl⟩
theorem unmappedAccess (x0 : _) (x1 : _) (x2 : _) (x3 : _) : Statement (.unmappedAccess x0 x1 x2 x3) := ⟨_, fun _ => rfl⟩
theorem counterReadClear (x0 : _) (x1 : _) (x2 : _) : Statement (.counterReadClear x0 x1 x2) := ⟨_, fun _ => rfl⟩
theorem captureReadRearm (x0 : _) (x1 : _) (x2 : _) : Statement (.captureReadRearm x0 x1 x2) := ⟨_, fun _ => rfl⟩
theorem commitNow (x0 : _) (x1 : _) (x2 : _) : Statement (.commitNow x0 x1 x2) := ⟨_, fun _ => rfl⟩
theorem commitTimed (x0 : _) (x1 : _) (x2 : _) : Statement (.commitTimed x0 x1 x2) := ⟨_, fun _ => rfl⟩
theorem commitCascade (x0 : _) (x1 : _) (x2 : _) : Statement (.commitCascade x0 x1 x2) := ⟨_, fun _ => rfl⟩
theorem commitAbort (x0 : _) (x1 : _) (x2 : _) : Statement (.commitAbort x0 x1 x2) := ⟨_, fun _ => rfl⟩
theorem commitRevert (x0 : _) (x1 : _) (x2 : _) : Statement (.commitRevert x0 x1 x2) := ⟨_, fun _ => rfl⟩
theorem commitBadCmd (x0 : _) (x1 : _) (x2 : _) (x3 : _) : Statement (.commitBadCmd x0 x1 x2 x3) := ⟨_, fun _ => rfl⟩
theorem commitCheckDone (x0 : _) (x1 : _) : Statement (.commitCheckDone x0 x1) := ⟨_, fun _ => rfl⟩
theorem commitLaunch (x0 : _) : Statement (.commitLaunch x0) := ⟨_, fun _ => rfl⟩
theorem grpCommitNow (x0 : _) (x1 : _) : Statement (.grpCommitNow x0 x1) := ⟨_, fun _ => rfl⟩
theorem grpCommitTimed (x0 : _) (x1 : _) : Statement (.grpCommitTimed x0 x1) := ⟨_, fun _ => rfl⟩
theorem grpCommitCascade (x0 : _) (x1 : _) : Statement (.grpCommitCascade x0 x1) := ⟨_, fun _ => rfl⟩
theorem grpCommitAbort (x0 : _) (x1 : _) : Statement (.grpCommitAbort x0 x1) := ⟨_, fun _ => rfl⟩
theorem grpCommitRevert (x0 : _) (x1 : _) : Statement (.grpCommitRevert x0 x1) := ⟨_, fun _ => rfl⟩
theorem fenceConfig (x0 : _) (x1 : _) : Statement (.fenceConfig x0 x1) := ⟨_, fun _ => rfl⟩
theorem fenceTable (x0 : _) (x1 : _) : Statement (.fenceTable x0 x1) := ⟨_, fun _ => rfl⟩
theorem fenceBridge (x0 : _) (x1 : _) : Statement (.fenceBridge x0 x1) := ⟨_, fun _ => rfl⟩
theorem fenceTime (x0 : _) (x1 : _) : Statement (.fenceTime x0 x1) := ⟨_, fun _ => rfl⟩
theorem fenceQueue (x0 : _) (x1 : _) (x2 : _) : Statement (.fenceQueue x0 x1 x2) := ⟨_, fun _ => rfl⟩
theorem fenceRefused (x0 : _) (x1 : _) (x2 : _) : Statement (.fenceRefused x0 x1 x2) := ⟨_, fun _ => rfl⟩
theorem fenceComplete (x0 : _) : Statement (.fenceComplete x0) := ⟨_, fun _ => rfl⟩
theorem fenceTimeout (x0 : _) : Statement (.fenceTimeout x0) := ⟨_, fun _ => rfl⟩
theorem irqEnWrite (x0 : _) (x1 : _) (x2 : _) : Statement (.irqEnWrite x0 x1 x2) := ⟨_, fun _ => rfl⟩
theorem irqSetWrite (x0 : _) (x1 : _) (x2 : _) (x3 : _) : Statement (.irqSetWrite x0 x1 x2 x3) := ⟨_, fun _ => rfl⟩
theorem irqStatClear (x0 : _) (x1 : _) (x2 : _) : Statement (.irqStatClear x0 x1 x2) := ⟨_, fun _ => rfl⟩
theorem pgLockWrite (x0 : _) (x1 : _) (x2 : _) : Statement (.pgLockWrite x0 x1 x2) := ⟨_, fun _ => rfl⟩
theorem frameStart (x0 : _) (x1 : _) : Statement (.frameStart x0 x1) := ⟨_, fun _ => rfl⟩
theorem frameDataCoin (x0 : _) (x1 : _) : Statement (.frameDataCoin x0 x1) := ⟨_, fun _ => rfl⟩
theorem frameHeadReceived (x0 : _) : Statement (.frameHeadReceived x0) := ⟨_, fun _ => rfl⟩
theorem lookupResult (x0 : _) (x1 : _) (x2 : _) : Statement (.lookupResult x0 x1 x2) := ⟨_, fun _ => rfl⟩
theorem frameEnd (x0 : _) (x1 : _) (x2 : _) (x3 : _) (x4 : _) (x5 : _) : Statement (.frameEnd x0 x1 x2 x3 x4 x5) := ⟨_, fun _ => rfl⟩
theorem policingDecision (x0 : _) (x1 : _) : Statement (.policingDecision x0 x1) := ⟨_, fun _ => rfl⟩
theorem ingressCheckValueResult (x0 : _) (x1 : _) : Statement (.ingressCheckValueResult x0 x1) := ⟨_, fun _ => rfl⟩
theorem voqEnqueue (x0 : _) (x1 : _) : Statement (.voqEnqueue x0 x1) := ⟨_, fun _ => rfl⟩
theorem busFrameHandoff (x0 : _) : Statement (.busFrameHandoff x0) := ⟨_, fun _ => rfl⟩
theorem backpressureReachPort (x0 : _) : Statement (.backpressureReachPort x0) := ⟨_, fun _ => rfl⟩
theorem spillCopyDone (x0 : _) (x1 : _) : Statement (.spillCopyDone x0 x1) := ⟨_, fun _ => rfl⟩
theorem reservePrefetchDone (x0 : _) : Statement (.reservePrefetchDone x0) := ⟨_, fun _ => rfl⟩
theorem egressPick (x0 : _) (x1 : _) (x2 : _) (x3 : _) : Statement (.egressPick x0 x1 x2 x3) := ⟨_, fun _ => rfl⟩
theorem egressTimestamp (x0 : _) (x1 : _) (x2 : _) : Statement (.egressTimestamp x0 x1 x2) := ⟨_, fun _ => rfl⟩
theorem transmitEnd (x0 : _) : Statement (.transmitEnd x0) := ⟨_, fun _ => rfl⟩
theorem mcHoldSweep : Statement (.mcHoldSweep) := ⟨_, fun _ => rfl⟩
theorem auditorCountCheck : Statement (.auditorCountCheck) := ⟨_, fun _ => rfl⟩
theorem auditorWalkStart (x0 : _) : Statement (.auditorWalkStart x0) := ⟨_, fun _ => rfl⟩
theorem auditorWalkPhaseDone : Statement (.auditorWalkPhaseDone) := ⟨_, fun _ => rfl⟩
theorem walkDone : Statement (.walkDone) := ⟨_, fun _ => rfl⟩
theorem audLeakqRead (x0 : _) (x1 : _) : Statement (.audLeakqRead x0 x1) := ⟨_, fun _ => rfl⟩
theorem voqSelWrite (x0 : _) (x1 : _) : Statement (.voqSelWrite x0 x1) := ⟨_, fun _ => rfl⟩
theorem learnEventService (x0 : _) : Statement (.learnEventService x0) := ⟨_, fun _ => rfl⟩
theorem pinHoldExpiry (x0 : _) : Statement (.pinHoldExpiry x0) := ⟨_, fun _ => rfl⟩
theorem sweepPassStart : Statement (.sweepPassStart) := ⟨_, fun _ => rfl⟩
theorem sweepNow (x0 : _) : Statement (.sweepNow x0) := ⟨_, fun _ => rfl⟩
theorem sweepSlotVisit (x0 : _) : Statement (.sweepSlotVisit x0) := ⟨_, fun _ => rfl⟩
theorem sweepPassDone : Statement (.sweepPassDone) := ⟨_, fun _ => rfl⟩
theorem windowPass : Statement (.windowPass) := ⟨_, fun _ => rfl⟩
theorem tblInsert (x0 : _) (x1 : _) : Statement (.tblInsert x0 x1) := ⟨_, fun _ => rfl⟩
theorem tblUpdate (x0 : _) (x1 : _) : Statement (.tblUpdate x0 x1) := ⟨_, fun _ => rfl⟩
theorem tblDelete (x0 : _) (x1 : _) : Statement (.tblDelete x0 x1) := ⟨_, fun _ => rfl⟩
theorem tblLookup (x0 : _) (x1 : _) : Statement (.tblLookup x0 x1) := ⟨_, fun _ => rfl⟩
theorem tblReadIdx (x0 : _) (x1 : _) : Statement (.tblReadIdx x0 x1) := ⟨_, fun _ => rfl⟩
theorem tblWriteIdx (x0 : _) (x1 : _) : Statement (.tblWriteIdx x0 x1) := ⟨_, fun _ => rfl⟩
theorem tblReadLock (x0 : _) (x1 : _) : Statement (.tblReadLock x0 x1) := ⟨_, fun _ => rfl⟩
theorem tblWriteUnlock (x0 : _) (x1 : _) : Statement (.tblWriteUnlock x0 x1) := ⟨_, fun _ => rfl⟩
theorem tblUnlock (x0 : _) (x1 : _) : Statement (.tblUnlock x0 x1) := ⟨_, fun _ => rfl⟩
theorem tblFlush (x0 : _) (x1 : _) : Statement (.tblFlush x0 x1) := ⟨_, fun _ => rfl⟩
theorem tblFlushDone (x0 : _) : Statement (.tblFlushDone x0) := ⟨_, fun _ => rfl⟩
theorem tblEpoch (x0 : _) (x1 : _) : Statement (.tblEpoch x0 x1) := ⟨_, fun _ => rfl⟩
theorem tblRingResume (x0 : _) (x1 : _) : Statement (.tblRingResume x0 x1) := ⟨_, fun _ => rfl⟩
theorem lockExpiry (x0 : _) (x1 : _) : Statement (.lockExpiry x0 x1) := ⟨_, fun _ => rfl⟩
theorem traceArm (x0 : _) (x1 : _) : Statement (.traceArm x0 x1) := ⟨_, fun _ => rfl⟩
theorem recoveryResetTimeout (x0 : _) : Statement (.recoveryResetTimeout x0) := ⟨_, fun _ => rfl⟩
theorem latentErrorTest (x0 : _) : Statement (.latentErrorTest x0) := ⟨_, fun _ => rfl⟩
theorem gateListStart (x0 : _) (x1 : _) : Statement (.gateListStart x0 x1) := ⟨_, fun _ => rfl⟩
theorem streamGateListStart (x0 : _) : Statement (.streamGateListStart x0) := ⟨_, fun _ => rfl⟩
theorem gateEntryEnd (x0 : _) (x1 : _) : Statement (.gateEntryEnd x0 x1) := ⟨_, fun _ => rfl⟩
theorem streamGateEntryEnd (x0 : _) : Statement (.streamGateEntryEnd x0) := ⟨_, fun _ => rfl⟩
theorem gateListCycleEnd (x0 : _) (x1 : _) : Statement (.gateListCycleEnd x0 x1) := ⟨_, fun _ => rfl⟩
theorem streamRead (x0 : _) (x1 : _) : Statement (.streamRead x0 x1) := ⟨_, fun _ => rfl⟩
theorem streamStage (x0 : _) : Statement (.streamStage x0) := ⟨_, fun _ => rfl⟩
theorem streamCountersCopy (x0 : _) : Statement (.streamCountersCopy x0) := ⟨_, fun _ => rfl⟩
theorem streamGateRead (x0 : _) (x1 : _) : Statement (.streamGateRead x0 x1) := ⟨_, fun _ => rfl⟩
theorem streamGateWrite (x0 : _) : Statement (.streamGateWrite x0) := ⟨_, fun _ => rfl⟩
theorem recoveryRead (x0 : _) (x1 : _) : Statement (.recoveryRead x0 x1) := ⟨_, fun _ => rfl⟩
theorem recoveryStage (x0 : _) : Statement (.recoveryStage x0) := ⟨_, fun _ => rfl⟩
theorem recoveryCountersCopy (x0 : _) : Statement (.recoveryCountersCopy x0) := ⟨_, fun _ => rfl⟩
theorem gclRead (x0 : _) : Statement (.gclRead x0) := ⟨_, fun _ => rfl⟩
theorem gclWrite (x0 : _) : Statement (.gclWrite x0) := ⟨_, fun _ => rfl⟩
theorem windowCommandDone (x0 : _) : Statement (.windowCommandDone x0) := ⟨_, fun _ => rfl⟩
theorem cbsSelWrite (x0 : _) (x1 : _) : Statement (.cbsSelWrite x0 x1) := ⟨_, fun _ => rfl⟩
theorem preemptVerifyDone (x0 : _) (x1 : _) : Statement (.preemptVerifyDone x0 x1) := ⟨_, fun _ => rfl⟩
theorem sampleSubmit (x0 : _) (x1 : _) : Statement (.sampleSubmit x0 x1) := ⟨_, fun _ => rfl⟩
theorem sampleApply : Statement (.sampleApply) := ⟨_, fun _ => rfl⟩
theorem holdoverTimeout : Statement (.holdoverTimeout) := ⟨_, fun _ => rfl⟩
theorem adjStep (x0 : _) : Statement (.adjStep x0) := ⟨_, fun _ => rfl⟩
theorem adjSet (x0 : _) : Statement (.adjSet x0) := ⟨_, fun _ => rfl⟩
theorem adjRate (x0 : _) : Statement (.adjRate x0) := ⟨_, fun _ => rfl⟩
theorem slotArm (x0 : _) (x1 : _) (x2 : _) : Statement (.slotArm x0 x1 x2) := ⟨_, fun _ => rfl⟩
theorem slotDisarm (x0 : _) (x1 : _) (x2 : _) : Statement (.slotDisarm x0 x1 x2) := ⟨_, fun _ => rfl⟩
theorem gpioHigh (x0 : _) : Statement (.gpioHigh x0) := ⟨_, fun _ => rfl⟩
theorem gpioLow (x0 : _) : Statement (.gpioLow x0) := ⟨_, fun _ => rfl⟩
theorem gpioToggle (x0 : _) : Statement (.gpioToggle x0) := ⟨_, fun _ => rfl⟩
theorem gpioPulse (x0 : _) : Statement (.gpioPulse x0) := ⟨_, fun _ => rfl⟩
theorem gpioPulseEnd (x0 : _) : Statement (.gpioPulseEnd x0) := ⟨_, fun _ => rfl⟩
theorem slotMessage (x0 : _) : Statement (.slotMessage x0) := ⟨_, fun _ => rfl⟩
theorem slotLaunchInHalt (x0 : _) : Statement (.slotLaunchInHalt x0) := ⟨_, fun _ => rfl⟩
theorem gpioCaptureEdge (x0 : _) (x1 : _) : Statement (.gpioCaptureEdge x0 x1) := ⟨_, fun _ => rfl⟩
theorem tsqRead (x0 : _) (x1 : _) (x2 : _) : Statement (.tsqRead x0 x1 x2) := ⟨_, fun _ => rfl⟩
theorem tsqCapSelWrite (x0 : _) (x1 : _) : Statement (.tsqCapSelWrite x0 x1) := ⟨_, fun _ => rfl⟩
theorem tsqCapClear (x0 : _) : Statement (.tsqCapClear x0) := ⟨_, fun _ => rfl⟩
theorem phyTrainingStart (x0 : _) : Statement (.phyTrainingStart x0) := ⟨_, fun _ => rfl⟩
theorem trainingTimeout (x0 : _) : Statement (.trainingTimeout x0) := ⟨_, fun _ => rfl⟩
theorem ethLinkUp (x0 : _) (x1 : _) : Statement (.ethLinkUp x0 x1) := ⟨_, fun _ => rfl⟩
theorem ethLinkDown (x0 : _) : Statement (.ethLinkDown x0) := ⟨_, fun _ => rfl⟩
theorem phyPllLoss (x0 : _) : Statement (.phyPllLoss x0) := ⟨_, fun _ => rfl⟩
theorem linkHoldExpiry (x0 : _) : Statement (.linkHoldExpiry x0) := ⟨_, fun _ => rfl⟩
theorem lpiIdleTimeout (x0 : _) : Statement (.lpiIdleTimeout x0) := ⟨_, fun _ => rfl⟩
theorem lpiWakeDone (x0 : _) : Statement (.lpiWakeDone x0) := ⟨_, fun _ => rfl⟩
theorem diagRun (x0 : _) (x1 : _) : Statement (.diagRun x0 x1) := ⟨_, fun _ => rfl⟩
theorem diagAbort (x0 : _) (x1 : _) : Statement (.diagAbort x0 x1) := ⟨_, fun _ => rfl⟩
theorem diagDone (x0 : _) (x1 : _) (x2 : _) : Statement (.diagDone x0 x1 x2) := ⟨_, fun _ => rfl⟩
theorem sqiUpdate (x0 : _) (x1 : _) (x2 : _) (x3 : _) (x4 : _) (x5 : _) : Statement (.sqiUpdate x0 x1 x2 x3 x4 x5) := ⟨_, fun _ => rfl⟩
theorem pauseReceived (x0 : _) (x1 : _) : Statement (.pauseReceived x0 x1) := ⟨_, fun _ => rfl⟩
theorem pfcReceived (x0 : _) (x1 : _) (x2 : _) : Statement (.pfcReceived x0 x1 x2) := ⟨_, fun _ => rfl⟩
theorem macctlUnknownReceived (x0 : _) : Statement (.macctlUnknownReceived x0) := ⟨_, fun _ => rfl⟩
theorem pauseTimerExpiry (x0 : _) (x1 : _) : Statement (.pauseTimerExpiry x0 x1) := ⟨_, fun _ => rfl⟩
theorem flowControlRefresh (x0 : _) : Statement (.flowControlRefresh x0) := ⟨_, fun _ => rfl⟩
theorem pwdTrip (x0 : _) (x1 : _) : Statement (.pwdTrip x0 x1) := ⟨_, fun _ => rfl⟩
theorem pwdBreakEnd (x0 : _) (x1 : _) : Statement (.pwdBreakEnd x0 x1) := ⟨_, fun _ => rfl⟩
theorem ldgSnap (x0 : _) (x1 : _) : Statement (.ldgSnap x0 x1) := ⟨_, fun _ => rfl⟩
theorem ldgClear (x0 : _) (x1 : _) : Statement (.ldgClear x0 x1) := ⟨_, fun _ => rfl⟩
theorem canFrameValid (x0 : _) (x1 : _) (x2 : _) (x3 : _) : Statement (.canFrameValid x0 x1 x2 x3) := ⟨_, fun _ => rfl⟩
theorem canErrorFrame (x0 : _) (x1 : _) (x2 : _) : Statement (.canErrorFrame x0 x1 x2) := ⟨_, fun _ => rfl⟩
theorem objLock (x0 : _) (x1 : _) (x2 : _) : Statement (.objLock x0 x1 x2) := ⟨_, fun _ => rfl⟩
theorem objRelease (x0 : _) (x1 : _) : Statement (.objRelease x0 x1) := ⟨_, fun _ => rfl⟩
theorem rxfPop (x0 : _) (x1 : _) (x2 : _) (x3 : _) (x4 : _) : Statement (.rxfPop x0 x1 x2 x3 x4) := ⟨_, fun _ => rfl⟩
theorem mrDataAccess (x0 : _) (x1 : _) (x2 : _) (x3 : _) : Statement (.mrDataAccess x0 x1 x2 x3) := ⟨_, fun _ => rfl⟩
theorem canBusIdleApply (x0 : _) (x1 : _) : Statement (.canBusIdleApply x0 x1) := ⟨_, fun _ => rfl⟩
theorem canIntegrationDone (x0 : _) : Statement (.canIntegrationDone x0) := ⟨_, fun _ => rfl⟩
theorem canTxDone (x0 : _) : Statement (.canTxDone x0) := ⟨_, fun _ => rfl⟩
theorem canArbLost (x0 : _) : Statement (.canArbLost x0) := ⟨_, fun _ => rfl⟩
theorem canTxError (x0 : _) (x1 : _) (x2 : _) (x3 : _) (x4 : _) : Statement (.canTxError x0 x1 x2 x3 x4) := ⟨_, fun _ => rfl⟩
theorem boffWaitExpiry (x0 : _) : Statement (.boffWaitExpiry x0) := ⟨_, fun _ => rfl⟩
theorem boffRestart (x0 : _) (x1 : _) : Statement (.boffRestart x0 x1) := ⟨_, fun _ => rfl⟩
theorem boffRecovered (x0 : _) : Statement (.boffRecovered x0) := ⟨_, fun _ => rfl⟩
theorem boffHoldExpiry (x0 : _) : Statement (.boffHoldExpiry x0) := ⟨_, fun _ => rfl⟩
theorem timedDispatch (x0 : _) (x1 : _) : Statement (.timedDispatch x0 x1) := ⟨_, fun _ => rfl⟩
theorem linHeaderReceived (x0 : _) (x1 : _) (x2 : _) (x3 : _) : Statement (.linHeaderReceived x0 x1 x2 x3) := ⟨_, fun _ => rfl⟩
theorem linResponseReceived (x0 : _) (x1 : _) (x2 : _) (x3 : _) (x4 : _) : Statement (.linResponseReceived x0 x1 x2 x3 x4) := ⟨_, fun _ => rfl⟩
theorem linNoResponse (x0 : _) : Statement (.linNoResponse x0) := ⟨_, fun _ => rfl⟩
theorem linScheduleSlot (x0 : _) (x1 : _) : Statement (.linScheduleSlot x0 x1) := ⟨_, fun _ => rfl⟩
theorem linRxfPop (x0 : _) (x1 : _) (x2 : _) : Statement (.linRxfPop x0 x1 x2) := ⟨_, fun _ => rfl⟩
theorem linSchRead (x0 : _) (x1 : _) : Statement (.linSchRead x0 x1) := ⟨_, fun _ => rfl⟩
theorem linSchWrite (x0 : _) (x1 : _) : Statement (.linSchWrite x0 x1) := ⟨_, fun _ => rfl⟩
theorem kalowPick (x0 : _) (x1 : _) : Statement (.kalowPick x0 x1) := ⟨_, fun _ => rfl⟩
theorem kalowUnpackCommit (x0 : _) : Statement (.kalowUnpackCommit x0) := ⟨_, fun _ => rfl⟩
theorem kalowTriggeredPack (x0 : _) (x1 : _) : Statement (.kalowTriggeredPack x0 x1) := ⟨_, fun _ => rfl⟩
theorem kalowPeriodicPack (x0 : _) (x1 : _) : Statement (.kalowPeriodicPack x0 x1) := ⟨_, fun _ => rfl⟩
theorem kalowPendingPack (x0 : _) (x1 : _) : Statement (.kalowPendingPack x0 x1) := ⟨_, fun _ => rfl⟩
theorem kalowDeferredPack (x0 : _) (x1 : _) : Statement (.kalowDeferredPack x0 x1) := ⟨_, fun _ => rfl⟩
theorem kalowPackHandoff : Statement (.kalowPackHandoff) := ⟨_, fun _ => rfl⟩
theorem kalowTimeoutCheck : Statement (.kalowTimeoutCheck) := ⟨_, fun _ => rfl⟩
theorem kalowAggTimeout (x0 : _) : Statement (.kalowAggTimeout x0) := ⟨_, fun _ => rfl⟩
theorem storeRead (x0 : _) (x1 : _) : Statement (.storeRead x0 x1) := ⟨_, fun _ => rfl⟩
theorem storeForce (x0 : _) : Statement (.storeForce x0) := ⟨_, fun _ => rfl⟩
theorem dumpGo (x0 : _) : Statement (.dumpGo x0) := ⟨_, fun _ => rfl⟩
theorem dumpPeriod : Statement (.dumpPeriod) := ⟨_, fun _ => rfl⟩
theorem dumpDone (x0 : _) : Statement (.dumpDone x0) := ⟨_, fun _ => rfl⟩
theorem dumpResume (x0 : _) : Statement (.dumpResume x0) := ⟨_, fun _ => rfl⟩
theorem klwDescRead (x0 : _) (x1 : _) : Statement (.klwDescRead x0 x1) := ⟨_, fun _ => rfl⟩
theorem klwDescStage (x0 : _) : Statement (.klwDescStage x0) := ⟨_, fun _ => rfl⟩
theorem klwSlotRead (x0 : _) : Statement (.klwSlotRead x0) := ⟨_, fun _ => rfl⟩
theorem klwSlotWrite (x0 : _) : Statement (.klwSlotWrite x0) := ⟨_, fun _ => rfl⟩
theorem knownAnswerTest (x0 : _) : Statement (.knownAnswerTest x0) := ⟨_, fun _ => rfl⟩
theorem engFailClear (x0 : _) (x1 : _) : Statement (.engFailClear x0 x1) := ⟨_, fun _ => rfl⟩
theorem ctxRead (x0 : _) (x1 : _) : Statement (.ctxRead x0 x1) := ⟨_, fun _ => rfl⟩
theorem ctxStage (x0 : _) : Statement (.ctxStage x0) := ⟨_, fun _ => rfl⟩
theorem ctxCountersCopy (x0 : _) : Statement (.ctxCountersCopy x0) := ⟨_, fun _ => rfl⟩
theorem ctxLatchState (x0 : _) : Statement (.ctxLatchState x0) := ⟨_, fun _ => rfl⟩
theorem changeoverNow (x0 : _) : Statement (.changeoverNow x0) := ⟨_, fun _ => rfl⟩
theorem keyChangeover (x0 : _) : Statement (.keyChangeover x0) := ⟨_, fun _ => rfl⟩
theorem oldKeyOverlapEnd (x0 : _) : Statement (.oldKeyOverlapEnd x0) := ⟨_, fun _ => rfl⟩
theorem oldSlotZeroise (x0 : _) : Statement (.oldSlotZeroise x0) := ⟨_, fun _ => rfl⟩
theorem chgSlotRead (x0 : _) : Statement (.chgSlotRead x0) := ⟨_, fun _ => rfl⟩
theorem chgSlotWrite (x0 : _) : Statement (.chgSlotWrite x0) := ⟨_, fun _ => rfl⟩
theorem importPlain (x0 : _) : Statement (.importPlain x0) := ⟨_, fun _ => rfl⟩
theorem importWrapped (x0 : _) : Statement (.importWrapped x0) := ⟨_, fun _ => rfl⟩
theorem load (x0 : _) : Statement (.load x0) := ⟨_, fun _ => rfl⟩
theorem derive (x0 : _) : Statement (.derive x0) := ⟨_, fun _ => rfl⟩
theorem unwrap (x0 : _) : Statement (.unwrap x0) := ⟨_, fun _ => rfl⟩
theorem wrap (x0 : _) : Statement (.wrap x0) := ⟨_, fun _ => rfl⟩
theorem cmac (x0 : _) (x1 : _) : Statement (.cmac x0 x1) := ⟨_, fun _ => rfl⟩
theorem generate (x0 : _) : Statement (.generate x0) := ⟨_, fun _ => rfl⟩
theorem random (x0 : _) : Statement (.random x0) := ⟨_, fun _ => rfl⟩
theorem zero (x0 : _) : Statement (.zero x0) := ⟨_, fun _ => rfl⟩
theorem token (x0 : _) : Statement (.token x0) := ⟨_, fun _ => rfl⟩
theorem keyBadOp (x0 : _) (x1 : _) : Statement (.keyBadOp x0 x1) := ⟨_, fun _ => rfl⟩
theorem keyOpDone (x0 : _) : Statement (.keyOpDone x0) := ⟨_, fun _ => rfl⟩
theorem provClose (x0 : _) : Statement (.provClose x0) := ⟨_, fun _ => rfl⟩
theorem drbgReseed (x0 : _) : Statement (.drbgReseed x0) := ⟨_, fun _ => rfl⟩
theorem maskRenew : Statement (.maskRenew) := ⟨_, fun _ => rfl⟩
theorem tamperSensorFire (x0 : _) : Statement (.tamperSensorFire x0) := ⟨_, fun _ => rfl⟩
theorem tamperEraseDone : Statement (.tamperEraseDone) := ⟨_, fun _ => rfl⟩
theorem tamperEnable (x0 : _) (x1 : _) : Statement (.tamperEnable x0 x1) := ⟨_, fun _ => rfl⟩
theorem tamperLatchClear (x0 : _) (x1 : _) : Statement (.tamperLatchClear x0 x1) := ⟨_, fun _ => rfl⟩
theorem sigGo (x0 : _) (x1 : _) : Statement (.sigGo x0 x1) := ⟨_, fun _ => rfl⟩
theorem sigDone (x0 : _) : Statement (.sigDone x0) := ⟨_, fun _ => rfl⟩
theorem anchWrite (x0 : _) (x1 : _) : Statement (.anchWrite x0 x1) := ⟨_, fun _ => rfl⟩
theorem anchRevoke (x0 : _) : Statement (.anchRevoke x0) := ⟨_, fun _ => rfl⟩
theorem wakeDetect (x0 : _) : Statement (.wakeDetect x0) := ⟨_, fun _ => rfl⟩
theorem listenFrameMatch (x0 : _) (x1 : _) : Statement (.listenFrameMatch x0 x1) := ⟨_, fun _ => rfl⟩
theorem listenErrorLimit (x0 : _) : Statement (.listenErrorLimit x0) := ⟨_, fun _ => rfl⟩
theorem listenEnergyPersist (x0 : _) : Statement (.listenEnergyPersist x0) := ⟨_, fun _ => rfl⟩
theorem listenTimeout : Statement (.listenTimeout) := ⟨_, fun _ => rfl⟩
theorem consentRoundStart (x0 : _) (x1 : _) (x2 : _) : Statement (.consentRoundStart x0 x1 x2) := ⟨_, fun _ => rfl⟩
theorem consentVetoCmd (x0 : _) : Statement (.consentVetoCmd x0) := ⟨_, fun _ => rfl⟩
theorem autoRoundStart (x0 : _) : Statement (.autoRoundStart x0) := ⟨_, fun _ => rfl⟩
theorem proposeReceived (x0 : _) (x1 : _) : Statement (.proposeReceived x0 x1) := ⟨_, fun _ => rfl⟩
theorem commitTokenReceived (x0 : _) : Statement (.commitTokenReceived x0) := ⟨_, fun _ => rfl⟩
theorem vetoReceived (x0 : _) : Statement (.vetoReceived x0) := ⟨_, fun _ => rfl⟩
theorem wakeTokenReceived (x0 : _) : Statement (.wakeTokenReceived x0) := ⟨_, fun _ => rfl⟩
theorem commitGuardExpiry : Statement (.commitGuardExpiry) := ⟨_, fun _ => rfl⟩
theorem consTimeout : Statement (.consTimeout) := ⟨_, fun _ => rfl⟩
theorem localConsentLost (x0 : _) : Statement (.localConsentLost x0) := ⟨_, fun _ => rfl⟩
theorem sleepCommitDevice : Statement (.sleepCommitDevice) := ⟨_, fun _ => rfl⟩
theorem sleepCommitSet : Statement (.sleepCommitSet) := ⟨_, fun _ => rfl⟩
theorem segmentWakeCmd (x0 : _) (x1 : _) : Statement (.segmentWakeCmd x0 x1) := ⟨_, fun _ => rfl⟩
theorem segmentWakeLaunch (x0 : _) : Statement (.segmentWakeLaunch x0) := ⟨_, fun _ => rfl⟩
theorem supenOffDelay (x0 : _) : Statement (.supenOffDelay x0) := ⟨_, fun _ => rfl⟩
theorem braceMismatch (x0 : _) (x1 : _) : Statement (.braceMismatch x0 x1) := ⟨_, fun _ => rfl⟩
theorem braceWatchdogExpiry (x0 : _) : Statement (.braceWatchdogExpiry x0) := ⟨_, fun _ => rfl⟩
theorem wdgKick (x0 : _) (x1 : _) : Statement (.wdgKick x0 x1) := ⟨_, fun _ => rfl⟩
theorem handoverCmd (x0 : _) (x1 : _) (x2 : _) : Statement (.handoverCmd x0 x1 x2) := ⟨_, fun _ => rfl⟩
theorem classBResetRequest (x0 : _) (x1 : _) : Statement (.classBResetRequest x0 x1) := ⟨_, fun _ => rfl⟩
theorem classBFillDone (x0 : _) : Statement (.classBFillDone x0) := ⟨_, fun _ => rfl⟩
theorem resyncCopyDone (x0 : _) : Statement (.resyncCopyDone x0) := ⟨_, fun _ => rfl⟩
theorem sbOk (x0 : _) : Statement (.sbOk x0) := ⟨_, fun _ => rfl⟩
theorem stestRun (x0 : _) (x1 : _) : Statement (.stestRun x0 x1) := ⟨_, fun _ => rfl⟩
theorem braceSweep : Statement (.braceSweep) := ⟨_, fun _ => rfl⟩
theorem braceSweepNow (x0 : _) : Statement (.braceSweepNow x0) := ⟨_, fun _ => rfl⟩
theorem braceSweepDone (x0 : _) : Statement (.braceSweepDone x0) := ⟨_, fun _ => rfl⟩
theorem bpTxFetch (x0 : _) (x1 : _) (x2 : _) : Statement (.bpTxFetch x0 x1 x2) := ⟨_, fun _ => rfl⟩
theorem repair (x0 : _) (x1 : _) : Statement (.repair x0 x1) := ⟨_, fun _ => rfl⟩
theorem scrubGo (x0 : _) : Statement (.scrubGo x0) := ⟨_, fun _ => rfl⟩
theorem scrubAbort (x0 : _) : Statement (.scrubAbort x0) := ⟨_, fun _ => rfl⟩
theorem scrubPeriod : Statement (.scrubPeriod) := ⟨_, fun _ => rfl⟩
theorem scrubUnitRead (x0 : _) : Statement (.scrubUnitRead x0) := ⟨_, fun _ => rfl⟩
theorem scrubPassDone : Statement (.scrubPassDone) := ⟨_, fun _ => rfl⟩
theorem reserveRowRemapDone (x0 : _) (x1 : _) : Statement (.reserveRowRemapDone x0 x1) := ⟨_, fun _ => rfl⟩
theorem ceThresholdCheck : Statement (.ceThresholdCheck) := ⟨_, fun _ => rfl⟩
theorem injectArm (x0 : _) (x1 : _) : Statement (.injectArm x0 x1) := ⟨_, fun _ => rfl⟩
theorem remapRecordClear (x0 : _) : Statement (.remapRecordClear x0) := ⟨_, fun _ => rfl⟩
theorem peRstnLow : Statement (.peRstnLow) := ⟨_, fun _ => rfl⟩
theorem peRstnRise : Statement (.peRstnRise) := ⟨_, fun _ => rfl⟩
theorem functionLevelReset : Statement (.functionLevelReset) := ⟨_, fun _ => rfl⟩
theorem pcieLinkUp (x0 : _) (x1 : _) : Statement (.pcieLinkUp x0 x1) := ⟨_, fun _ => rfl⟩
theorem pcieLinkDown : Statement (.pcieLinkDown) := ⟨_, fun _ => rfl⟩
theorem peWakenRelease : Statement (.peWakenRelease) := ⟨_, fun _ => rfl⟩
theorem hostWrite (x0 : _) (x1 : _) (x2 : _) (x3 : _) (x4 : _) : Statement (.hostWrite x0 x1 x2 x3 x4) := ⟨_, fun _ => rfl⟩
theorem hostRetryRead (x0 : _) (x1 : _) : Statement (.hostRetryRead x0 x1) := ⟨_, fun _ => rfl⟩
theorem hostSplitRead (x0 : _) (x1 : _) : Statement (.hostSplitRead x0 x1) := ⟨_, fun _ => rfl⟩
theorem retrieverWaitExpiry (x0 : _) : Statement (.retrieverWaitExpiry x0) := ⟨_, fun _ => rfl⟩
theorem retrieverFetchDone (x0 : _) : Statement (.retrieverFetchDone x0) := ⟨_, fun _ => rfl⟩
theorem retrieverHoldExpiry (x0 : _) : Statement (.retrieverHoldExpiry x0) := ⟨_, fun _ => rfl⟩
theorem prefetchLineDiscard (x0 : _) : Statement (.prefetchLineDiscard x0) := ⟨_, fun _ => rfl⟩
theorem outboundReadCompletion (x0 : _) (x1 : _) (x2 : _) : Statement (.outboundReadCompletion x0 x1 x2) := ⟨_, fun _ => rfl⟩
theorem outboundReadTimeout (x0 : _) : Statement (.outboundReadTimeout x0) := ⟨_, fun _ => rfl⟩
theorem pweRead (x0 : _) : Statement (.pweRead x0) := ⟨_, fun _ => rfl⟩
theorem semRead (x0 : _) (x1 : _) : Statement (.semRead x0 x1) := ⟨_, fun _ => rfl⟩
theorem semRelease (x0 : _) (x1 : _) : Statement (.semRelease x0 x1) := ⟨_, fun _ => rfl⟩
theorem semTimeout (x0 : _) : Statement (.semTimeout x0) := ⟨_, fun _ => rfl⟩
theorem msixUnmask (x0 : _) : Statement (.msixUnmask x0) := ⟨_, fun _ => rfl⟩
theorem hostTxDescFetch (x0 : _) (x1 : _) (x2 : _) : Statement (.hostTxDescFetch x0 x1 x2) := ⟨_, fun _ => rfl⟩
theorem hostTxFrameDone (x0 : _) : Statement (.hostTxFrameDone x0) := ⟨_, fun _ => rfl⟩
theorem hostRxWriteDone (x0 : _) (x1 : _) (x2 : _) : Statement (.hostRxWriteDone x0 x1 x2) := ⟨_, fun _ => rfl⟩
theorem hostRingResume (x0 : _) (x1 : _) (x2 : _) : Statement (.hostRingResume x0 x1 x2) := ⟨_, fun _ => rfl⟩
theorem hostLinkHoldExpiry : Statement (.hostLinkHoldExpiry) := ⟨_, fun _ => rfl⟩
theorem vhLinkUp (x0 : _) (x1 : _) : Statement (.vhLinkUp x0 x1) := ⟨_, fun _ => rfl⟩
theorem vhLinkDown (x0 : _) (x1 : _) : Statement (.vhLinkDown x0 x1) := ⟨_, fun _ => rfl⟩
theorem vhControlBlock (x0 : _) (x1 : _) : Statement (.vhControlBlock x0 x1) := ⟨_, fun _ => rfl⟩
theorem vhFrameReceived (x0 : _) (x1 : _) (x2 : _) (x3 : _) (x4 : _) (x5 : _) : Statement (.vhFrameReceived x0 x1 x2 x3 x4 x5) := ⟨_, fun _ => rfl⟩
theorem holdIRise (x0 : _) : Statement (.holdIRise x0) := ⟨_, fun _ => rfl⟩
theorem holdIFall (x0 : _) : Statement (.holdIFall x0) := ⟨_, fun _ => rfl⟩
theorem helloSend : Statement (.helloSend) := ⟨_, fun _ => rfl⟩
theorem helloReceived (x0 : _) (x1 : _) : Statement (.helloReceived x0 x1) := ⟨_, fun _ => rfl⟩
theorem masterLoss : Statement (.masterLoss) := ⟨_, fun _ => rfl⟩
theorem idReqReceived (x0 : _) (x1 : _) (x2 : _) : Statement (.idReqReceived x0 x1 x2) := ⟨_, fun _ => rfl⟩
theorem idGrantReceived (x0 : _) (x1 : _) : Statement (.idGrantReceived x0 x1) := ⟨_, fun _ => rfl⟩
theorem idGrantLinkRelease (x0 : _) : Statement (.idGrantLinkRelease x0) := ⟨_, fun _ => rfl⟩
theorem timeSync : Statement (.timeSync) := ⟨_, fun _ => rfl⟩
theorem timeReqReceived (x0 : _) (x1 : _) : Statement (.timeReqReceived x0 x1) := ⟨_, fun _ => rfl⟩
theorem timeRspReceived (x0 : _) (x1 : _) (x2 : _) (x3 : _) : Statement (.timeRspReceived x0 x1 x2 x3) := ⟨_, fun _ => rfl⟩
theorem voteReceived (x0 : _) : Statement (.voteReceived x0) := ⟨_, fun _ => rfl⟩
theorem decideReceived (x0 : _) : Statement (.decideReceived x0) := ⟨_, fun _ => rfl⟩
theorem ccDeadline (x0 : _) : Statement (.ccDeadline x0) := ⟨_, fun _ => rfl⟩
theorem decideResend : Statement (.decideResend) := ⟨_, fun _ => rfl⟩
theorem ccGuardExpiry (x0 : _) : Statement (.ccGuardExpiry x0) := ⟨_, fun _ => rfl⟩
theorem cascadeCommitExecute (x0 : _) : Statement (.cascadeCommitExecute x0) := ⟨_, fun _ => rfl⟩
theorem pathRevert (x0 : _) : Statement (.pathRevert x0) := ⟨_, fun _ => rfl⟩
theorem pathRead (x0 : _) (x1 : _) : Statement (.pathRead x0 x1) := ⟨_, fun _ => rfl⟩
theorem pathStage (x0 : _) : Statement (.pathStage x0) := ⟨_, fun _ => rfl⟩
theorem bankWrite (x0 : _) (x1 : _) : Statement (.bankWrite x0 x1) := ⟨_, fun _ => rfl⟩
theorem bankWriteDone (x0 : _) : Statement (.bankWriteDone x0) := ⟨_, fun _ => rfl⟩
theorem bankVerify (x0 : _) (x1 : _) : Statement (.bankVerify x0 x1) := ⟨_, fun _ => rfl⟩
theorem bankVerifyDone (x0 : _) : Statement (.bankVerifyDone x0) := ⟨_, fun _ => rfl⟩
theorem prepare (x0 : _) (x1 : _) (x2 : _) : Statement (.prepare x0 x1 x2) := ⟨_, fun _ => rfl⟩
theorem prepareCopyDone (x0 : _) : Statement (.prepareCopyDone x0) := ⟨_, fun _ => rfl⟩
theorem standbyTimeout : Statement (.standbyTimeout) := ⟨_, fun _ => rfl⟩
theorem updateRestart (x0 : _) (x1 : _) (x2 : _) : Statement (.updateRestart x0 x1 x2) := ⟨_, fun _ => rfl⟩
theorem updateAbort (x0 : _) : Statement (.updateAbort x0) := ⟨_, fun _ => rfl⟩
theorem guardOnset (x0 : _) : Statement (.guardOnset x0) := ⟨_, fun _ => rfl⟩
theorem handoverSlotArm (x0 : _) (x1 : _) : Statement (.handoverSlotArm x0 x1) := ⟨_, fun _ => rfl⟩
theorem braceHandoverLaunch : Statement (.braceHandoverLaunch) := ⟨_, fun _ => rfl⟩
theorem confirm (x0 : _) (x1 : _) : Statement (.confirm x0 x1) := ⟨_, fun _ => rfl⟩
theorem confirmTimeout : Statement (.confirmTimeout) := ⟨_, fun _ => rfl⟩
theorem olockSet (x0 : _) : Statement (.olockSet x0) := ⟨_, fun _ => rfl⟩
theorem olockUnlock (x0 : _) : Statement (.olockUnlock x0) := ⟨_, fun _ => rfl⟩
theorem olockClear (x0 : _) : Statement (.olockClear x0) := ⟨_, fun _ => rfl⟩
theorem phyCodeLoad (x0 : _) (x1 : _) (x2 : _) (x3 : _) : Statement (.phyCodeLoad x0 x1 x2 x3) := ⟨_, fun _ => rfl⟩
theorem phyCodePortDone (x0 : _) : Statement (.phyCodePortDone x0) := ⟨_, fun _ => rfl⟩
theorem phyCodePortTimeout (x0 : _) : Statement (.phyCodePortTimeout x0) := ⟨_, fun _ => rfl⟩
theorem heldWakeMainOn : Statement (.heldWakeMainOn) := ⟨_, fun _ => rfl⟩
theorem outboundAccess (x0 : _) (x1 : _) (x2 : _) : Statement (.outboundAccess x0 x1 x2) := ⟨_, fun _ => rfl⟩
theorem pcieConfigWrite (x0 : _) (x1 : _) (x2 : _) (x3 : _) : Statement (.pcieConfigWrite x0 x1 x2 x3) := ⟨_, fun _ => rfl⟩
theorem supenCmdWrite (x0 : _) (x1 : _) (x2 : _) : Statement (.supenCmdWrite x0 x1 x2) := ⟨_, fun _ => rfl⟩
theorem gpioOwnWrite (x0 : _) (x1 : _) : Statement (.gpioOwnWrite x0 x1) := ⟨_, fun _ => rfl⟩
theorem slotActionNone (x0 : _) : Statement (.slotActionNone x0) := ⟨_, fun _ => rfl⟩

end Sys2Proof.Laws.Runs
end

