-- ==== Sys2Proof/Certificates/Slice0/Obligations.lean ====
section
/-!
DEFINITION. What is stated about the device, for the provers. A device is written d, e or t; a statement about a command
quantifies over every device and says which hypotheses it needs.
-/

open Sys2Proof Sys2Proof.Machine

/-- The supply events: power-on, brown-out, journal, MAIN off, crank, overvoltage and undervoltage warning (R29, R386, R387, R396) -/
def Obligations.SupplyEventsAct : Prop :=
  ∀ (d y z : Dev) (cause : BrownOutCause) (vmin mv10 e : Nat),
    (d.pw.base = .off → Answers .powerOn d (d.classP (if d.pw.brown then 2 else 1))) ∧
    (d.pw.base ≠ .off → d.up = true → Answers .powerOn d (d.rejectTrig 0x01)) ∧
    (vmin < 8192 → d.pw.base ≠ .off → d.pw.losing = false →
      z = d.each (List.range 8) (fun n t => t.setSupen n false) →
      y = (if z.pw.main = true then z.mainCleared else { z with pw := { z.pw with base := .dormant } }).each
        [.railsValid, .classDEnd, .dieTemp, .refCheck, .mainDark, .listen] (fun k t => t.cancel ⟨k, 0, 0⟩) →
      Answers (.brownOut cause vmin) d
        ((({ y with pw := { y.pw with brown := true, losing := true, asserted := true, thermal := false,
                                      journal := some (brownCode cause, z.mode, z.ns, vmin) } } : Dev).armIn
          ⟨.journal, 0, 0⟩ (usT 200)).armIn ⟨.mainOff, 0, 0⟩ (msT 2))) ∧
    (d.due ⟨.journal, 0, 0⟩ = some e →
      Answers .powerLossJournalWritten d (d.cancel ⟨.journal, 0, 0⟩).writeJournal) ∧
    (d.due ⟨.mainOff, 0, 0⟩ = some e →
      z = ((d.cancel ⟨.mainOff, 0, 0⟩).writeJournal.cancel ⟨.journal, 0, 0⟩).mainOff .off →
      Answers .supplyLossMainOff d { z with pw := { z.pw with losing := false } }) ∧
    (d.pw.base ≠ .off → mv10 < 800 → z = (d.seeVsup mv10).count PWR_CRANK_CNT →
      (z.up = true → Answers (.vsupCrankEntry mv10) d (z.raise pgPWR 9)) ∧
      (z.up = false → Answers (.vsupCrankEntry mv10) d z)) ∧
    (d.pw.base ≠ .off → 4000 < mv10 → z = (d.seeVsup mv10).count PWR_OV_CNT →
      (z.up = true → Answers (.vsupOvEntry mv10) d (z.raise pgPWR 10)) ∧
      (z.up = false → Answers (.vsupOvEntry mv10) d z)) ∧
    (d.up = true → d.pw.optionsLoaded = true → mv10 < 25 * d.opt 10 →
      Answers (.vsupUvWarn mv10) d ((d.seeVsup mv10).raise pgPWR 8))

/-- The power-loss journal holds the cause, the mode, the time and the lowest VSUP (R387) -/
def Obligations.JournalWriteRecordsTheLoss : Prop :=
  ∀ (d : Dev) (cause mode ns vmin : Nat), d.pw.journal = some (cause, mode, ns, vmin) →
    d.writeJournal.get PWR_JRN_STAT_valid = 1 ∧
    d.writeJournal.get PWR_JRN_STAT_mode = mode % 16 ∧
    d.writeJournal.get PWR_JRN_STAT_cause = cause % 16 ∧
    d.writeJournal.get PWR_JRN_STAT_vmin = vmin / 2 % 4096 ∧
    d.writeJournal.rd64 PWR_JRN_T_LO PWR_JRN_T_HI = ns % 2 ^ 64 ∧
    d.writeJournal.get recHalt = 4 ∧ d.writeJournal.get recModeF = mode % 16 ∧
    d.writeJournal.pw.journal = none ∧
    d.SameBut d.writeJournal [PWR_JRN_STAT, PWR_JRN_T_LO, PWR_JRN_T_HI, RST_BOOT_REC 0]

/-- What a class P reset leaves: cause, wake source, MAIN on, every page in reset, MRAM kept (R17, R347, R358) -/
def Obligations.ClassPResetLeaves : Prop :=
  ∀ (d : Dev) (cause : Nat), cause < 32 →
    (d.classP cause).get RST_CAUSE_cause = cause ∧ (d.classP cause).get RST_CAUSE_class = 0 ∧
    (d.classP cause).get WAK_WSR_cause = 1 ∧ (d.classP cause).get PWR_MAIN_STAT_main = 1 ∧
    (d.classP cause).pw.base = .start ∧ (d.classP cause).pw.main = true ∧ (d.classP cause).pw.rails = false ∧
    (d.classP cause).due ⟨.railsValid, 0, 0⟩ = some (d.now + msT 5) ∧
    (d.classP cause).pgs = [] ∧ (d.classP cause).tim = Tim.init ∧ (d.classP cause).vlt = Vault.init ∧
    (d.classP cause).fwd = Fwd.init ∧ (d.classP cause).eth = Eth.init ∧ (d.classP cause).bus = Bus.init ∧
    (d.classP cause).trm = Trm.init ∧ (d.classP cause).kal = Kal.init ∧ (d.classP cause).aut = Aut.init ∧
    (d.classP cause).brc = Braces.init ∧ (d.classP cause).sys = Sys.init ∧ (d.classP cause).voh = Voh.init ∧
    (d.classP cause).upd = Update.init ∧
    (∀ pg ∈ allPages, pg ∉ [1, 2, 4, 5] → (d.classP cause).flag (PG_STATE_in_reset pg) = true) ∧
    (d.classP cause).mram = d.mram ∧
    (∀ a, a < 0x80000000 → (d.classP cause).rdByte a = 0) ∧
    (∀ a, 0x80000000 ≤ a → (d.classP cause).rdByte a = d.rdByte a)

/-- What a class D reset leaves: cause, class 1, Start, the assertion phase of 200 us, every page in reset (R347, R348) -/
def Obligations.ClassDResetLeaves : Prop :=
  ∀ (d : Dev) (cause : Nat), cause < 32 → d.pw.main = true → d.pw.rails = true → d.pw.losing = false →
    (d.classD cause).get RST_CAUSE_cause = cause ∧ (d.classD cause).get RST_CAUSE_class = 1 ∧
    (d.classD cause).pw.base = .start ∧ (d.classD cause).pw.asserted = true ∧ (d.classD cause).up = false ∧
    (d.classD cause).due ⟨.classDEnd, 0, 0⟩ = some (d.now + usT 200) ∧ (d.classD cause).now = d.now ∧
    (d.classD cause).pw.main = true ∧ (d.classD cause).pw.aon0 = d.pw.aon0 ∧ (d.classD cause).pw.halted = false ∧
    (d.classD cause).pgs = [] ∧ (d.classD cause).tim = Tim.init ∧ (d.classD cause).vlt = Vault.init ∧
    (d.classD cause).fwd = Fwd.init ∧ (d.classD cause).eth = Eth.init ∧ (d.classD cause).bus = Bus.init ∧
    (d.classD cause).trm = Trm.init ∧ (d.classD cause).kal = Kal.init ∧ (d.classD cause).aut = Aut.init ∧
    (d.classD cause).brc = Braces.init ∧ (d.classD cause).sys = Sys.init ∧ (d.classD cause).voh = Voh.init ∧
    (d.classD cause).upd = Update.init ∧
    (∀ pg ∈ allPages, pg ∉ [1, 2, 4, 5] → (d.classD cause).flag (PG_STATE_in_reset pg) = true) ∧
    (∀ a, a < 0x80000000 → (d.classD cause).rdByte a = 0)

/-- RESETN, DEV_RESET, CLASS_D_RESET, the end of the assertion phase and the die temperature (R55, R347, R348, R349, R350) -/
def Obligations.ResetSourcesAct : Prop :=
  ∀ (d : Dev) (i : Initiator) (v : Word) (celsius : Int) (e : Nat),
    (d.pw.resetnLow = false → d.pw.base ≠ .dormant → d.pw.base ≠ .listen →
      Answers .resetnAssert d (({ d with pw := { d.pw with resetnLow := true } } : Dev).classD 3)) ∧
    (d.pw.resetnLow = false → d.pw.base = .dormant ∨ d.pw.base = .listen →
      Answers .resetnAssert d (({ d with pw := { d.pw with resetnLow := true } } : Dev).put WAK_WSR_SEEN_src
        (setBitTo (d.get WAK_WSR_SEEN_src) 11 true))) ∧
    (d.pw.resetnLow = true →
      Answers .resetnRelease d (({ d with pw := { d.pw with resetnLow := false } } : Dev).assertionEnds)) ∧
    (d.accepts i = true →
      Answers (.devReset i 0x5A5A0960) d (d.classD 4) ∧
      (v ≠ 0x5A5A0960 → Answers (.devReset i v) d (d.badAccess i true 0x12C))) ∧
    Answers (.classDReset .region13) d (d.classD 5) ∧
    Answers (.classDReset .bothWatchdogs) d (d.classD 7) ∧
    (d.pw.base = .start → Answers (.classDReset .startFailure) d (d.classD 8)) ∧
    (d.pw.main = true → d.pw.rails = true → d.pw.losing = false →
      Answers (.classDReset .thermal) d (({ d with pw := { d.pw with thermal := true } } : Dev).classD 6)) ∧
    (d.due ⟨.classDEnd, 0, 0⟩ = some e →
      Answers .classDAssertionEnd d ((d.at_ e).cancel ⟨.classDEnd, 0, 0⟩).assertionEnds) ∧
    (d.due ⟨.dieTemp, 0, 0⟩ = some e → d.pw.asserted = false → celsius ≤ 125 →
      Answers (.dieTempSample celsius) d
        { ((((d.at_ e).cancel ⟨.dieTemp, 0, 0⟩).armIn ⟨.dieTemp, 0, 0⟩ (usT 100)).put RST_THERM_temp
            (min 255 (celsius + 64).toNat)).put RST_THERM_warn 0 with pw := { d.pw with hotSince := none } })

/-- The clock events: reference check, root PLL loss, relock and time-out, stable indicators, clock wait time-out (R15, R16, R359) -/
def Obligations.ClockEventsAct : Prop :=
  ∀ (d y z : Dev) (ppm : Int) (ns e t pg : Nat) (c : Clock) (l : List Clock),
    (d.due ⟨.refCheck, 0, 0⟩ = some e → d.pw.asserted = false → -2000 ≤ ppm → ppm ≤ 2000 →
      Answers (.referenceCheck ppm) d
        (((((d.at_ e).cancel ⟨.refCheck, 0, 0⟩).armIn ⟨.refCheck, 0, 0⟩ (msT 1)).put CLK_REF_DEV_ppm
          (unsigned 16 ppm)).put CLK_STAT_ref_ok 1)) ∧
    (d.up = true → d.flag CLK_STAT_root_lock = true →
      Answers .rootPllLockLoss d
        (({ (d.put CLK_STAT_root_lock 0).put CLK_STAT_stable 0 with pw := { d.pw with lockLost := some d.now } } :
          Dev).armIn ⟨.pllLoss, 0, 0⟩ (usT 10)).refresh) ∧
    (d.pw.lockLost = some t → d.due ⟨.pllLoss, 0, 0⟩ = some e → ns ≤ 10000 →
      y = (d.at_ (t + nsT ns)).cancel ⟨.pllLoss, 0, 0⟩ →
      z = ({ y with pw := { y.pw with lockLost := none, lockAt := y.now } } : Dev) →
      Answers (.rootPllRelock ns) d ((((z.put CLK_STAT_root_lock 1).count CLK_LOL_CNT).put CLK_LOL_MAX_ns
        (max ns (d.get CLK_LOL_MAX_ns))).raise pgCLK 8)) ∧
    (d.due ⟨.pllLoss, 0, 0⟩ = some e → d.pw.halted = false →
      Answers .rootPllLossTimeout d (((d.at_ e).cancel ⟨.pllLoss, 0, 0⟩).haltEntry 2)) ∧
    (d.up = true → d.stable c = false → d.pw.lockLost = none →
      y = ((d.locked1 c).at_ ((d.locked1 c).pw.lockAt + stableAfter c)).put CLK_STAT_stable
        (setBitTo ((d.locked1 c).get CLK_STAT_stable) (clockIx c) true) →
      Answers (.clockStable c) d
        ((y.each (allPages.filter (fun pg => (y.pg pg).clockWait && y.clockOk pg)) Dev.freeUnit).refresh)) ∧
    (isPage pg = true → d.due ⟨.clockWait, pg, 0⟩ = some e → clockOf pg = some c →
      y = ((d.at_ e).cancel ⟨.clockWait, pg, 0⟩).modPg pg (fun s => { s with clockWait := false, clockFail := true }) →
      l = (if c = .vlt then [Clock.vlt, Clock.fab, Clock.dram].filter (fun k => !y.stable k) else [c]) →
      z = ((y.each l (fun k t => t.put CLK_FAIL_clocks (setBitTo (t.get CLK_FAIL_clocks) (clockIx k) true))).raise
        pgCLK 9).refreshFrom pg →
      (c = .brc ∧ z.pw.base = .start ∧ z.pw.halted = false → Answers (.clockWaitTimeout pg) d (z.haltEntry 2)) ∧
      (c ≠ .brc ∨ z.pw.base ≠ .start ∨ z.pw.halted = true → Answers (.clockWaitTimeout pg) d z))

/-- The first steps of a start: rails, root array, options, fill, Reserve rows and key record check (R235, R238, R293, R349, R356, R358, R362) -/
def Obligations.StartMemoriesAct : Prop :=
  ∀ (d u w x y z : Dev) (e coins n : Nat) (cells : List Byte) (v : OptVote),
    (d.due ⟨.railsValid, 0, 0⟩ = some e →
      y = ((({ d.cancel ⟨.railsValid, 0, 0⟩ with pw := { d.pw with rails := true, asserted := true } } : Dev).armIn
        ⟨.dieTemp, 0, 0⟩ (usT 100)).armIn ⟨.refCheck, 0, 0⟩ (msT 1)) →
      z = (if d.get WAK_WSR_cause = 1 then (if d.pw.resetnLow = true then y.put WAK_WSR_cause 6 else y)
        else (y.put RST_CAUSE_cause 9).put RST_CAUSE_class 1) →
      Answers .mainRailsValid d ((z.put KEY_STAT_prov (if d.key.closed then 0 else 1)).put HBR_STAT_perst
        (if d.hbr.perst then 1 else 0)).assertionEnds) ∧
    (d.due ⟨.rootArray, 0, 0⟩ = some e →
      Answers .rootArrayRead d (((d.at_ e).cancel ⟨.rootArray, 0, 0⟩).put KEY_STAT_root 1)) ∧
    (d.get KEY_STAT_root = 1 →
      y = d.put KEY_ROOT_att (d.get KEY_ROOT_att + 1) →
      z = (if d.get KEY_ROOT_att = 0 then { y with key := { y.key with starts := (y.key.starts + 1) % 2 ^ 64 } } else y) →
      d.get KEY_ROOT_att < 2 ∨ d.pw.optionsLoaded = false →
      Answers (.rootRegenAttemptDone cells) d ((z.rootTry cells).elim
        (if d.get KEY_ROOT_att < 2 then z else (z.put KEY_STAT_root 3).raise pgKEY 9)
        (fun r => if 8 < r.2 then (((z.holdRoot r.1).put KEY_STAT_root 2).put KEY_ROOT_margin r.2).raise pgKEY 10
          else ((z.holdRoot r.1).put KEY_STAT_root 2).put KEY_ROOT_margin r.2))) ∧
    (d.due ⟨.options, 0, 0⟩ = some e → v = optVote d.mram.options →
      x = (((d.at_ e).cancel ⟨.options, 0, 0⟩).showOptions v).optionsAct →
      y = ({ x.when v.repair (fun t => t.raise pgRST 10) with
        pw := { (x.when v.repair (fun t => t.raise pgRST 10)).pw with optionsLoaded := true } } : Dev).mile 0 →
      n = (if y.opt 2 % 8 ≤ y.get RST_BOOT_CNT_count then y.get RST_BOOT_CNT_count else y.get RST_BOOT_CNT_count + 1) →
      z = ((y.put RST_BOOT_CNT_limit (y.opt 2 % 8)).put RST_BOOT_CNT_count n).newRecord
        (if v.rom then 10 else y.get RST_CAUSE_cause) n →
      w = (if v.rom = true then z.enterKennel 2 3
        else if y.opt 2 % 8 ≤ y.get RST_BOOT_CNT_count then z.enterKennel 1 2 else z) →
      u = (if w.pw.halted = true then w.outcome 9 else w) →
      Answers .optionLoad d ((if u.mram.rollback = true then
        (({ u with mram := { u.mram with rollback := false } } : Dev).raise pgUPD 13) else u).refresh.syncMode)) ∧
    (d.up = true → d.pw.optionsLoaded = true → d.pw.filled = false →
      y = (((({ d with pw := { d.pw with filled := true } } : Dev).put ECC_FILL_STAT_ondie 1).put ECC_FILL_STAT_region
        0x7FFD).raise pgECC 13).mile 1 →
      z = (y.when (decide (y.pw.base = .kennel)) Dev.kennelProfile).each pagesAtFill Dev.askRelease →
      w = z.when (z.flag OPT_COPY_STAT_repair) (fun t => t.armIn ⟨.optionRepair, 0, 0⟩ (usT 30)) →
      Answers .ondieFillDone d (w.when (decide (w.pw.base = .kennel) && !w.pw.halted) (fun t => t.releaseBraces [0])).refresh) ∧
    (d.up = true → d.pw.filled = true → bitAt (d.get ECC_FILL_STAT_region) 1 = false →
      Answers (.reserveRowFilled coins false) d (d.joinReserve (min coins (rsvFirst - d.vlt.rsvJoined))) ∧
      (y = d.joinReserve (rsvFirst - d.vlt.rsvJoined) → Answers (.reserveRowFilled coins true) d
        ((y.put ECC_FILL_STAT_region (setBitTo (y.get ECC_FILL_STAT_region) 1 true)).mile 6))) ∧
    (d.get KEY_STAT_root = 2 → d.flag KEY_STAT_ready = false → d.flag KEY_STAT_sealed = false →
      d.flag KEY_STAT_rng_ok = false → d.due ⟨.reseed, 0, 0⟩ = none → d.pw.optionsLoaded = true →
      y = ({ d with key := { d.key with recs := d.key.recs.map (fun (r : Nat × KeyRec) =>
        (r.1, { r.2 with s0 := { r.2.s0 with bad := false }, s1 := { r.2.s1 with bad := false } })) } } : Dev) →
      z = (y.countRecs.seed.put KEY_STAT_rng_ok 1).recShow →
      z.get TMP_LATCH_sensors = 0 → z.key.waiting = [] → z.key.alarmWaits = false →
      Answers (.keyRecordCheckDone [] true) d (z.keyReady true))

/-- The image check, the start-image tables, the self-test of the braces, boot-good, its limits and the boot counter (R278, R361, R363, R365, R366) -/
def Obligations.StartImageActs : Prop :=
  ∀ (d x y z : Dev) (bank : Nat) (img : BankImage) (si : StartImage) (i : Initiator) (e : Nat) (br : Brace) (failed v : Word),
    (img.wf = true → d.awaitsImage = true → d.pw.imageGood = false →
      (imageWellMade img = true → d.imageSigned img = true →
        bank = (if d.pw.secondCheck then 1 - d.get UPD_BANK_boot else d.get UPD_BANK_boot) →
        z = (((({ d with pw := { d.pw with imageGood := true } } : Dev).put SIG_STAT_result 1).mile 3).wr UPD_RUN_VER
          (BitVec.ofNat 32 img.version)) →
        Answers (.imageCheckDone img) d
          ((((z.put UPD_BANK_run bank).put recBank bank).put recFb (if d.pw.secondCheck then 1 else 0)).refresh)) ∧
      (imageWellMade img = false ∨ d.imageSigned img = false →
        Answers (.imageCheckDone img) d ((d.put SIG_STAT_result 2).imageFails 4))) ∧
    (d.awaitsImage = true → d.pw.imageGood = true →
      (z = (({ d.loadImage si with pw := { (d.loadImage si).pw with tablesGood := true } } : Dev).mile 4).refresh →
        (z.pw.base ≠ .kennel → Answers (.startTableLoadDone true si) d ((z.releaseBraces [0, 1]).bootTimers)) ∧
        (z.pw.base = .kennel → Answers (.startTableLoadDone true si) d z)) ∧
      Answers (.startTableLoadDone false si) d (d.imageFails 5)) ∧
    (d.due ⟨.selfTest, brIx br, 0⟩ = some e →
      x = d.cancel ⟨.selfTest, brIx br, 0⟩ →
      y = (if (x.pg (pgBRC (brIx br))).diag = true then x.setDiag (pgBRC (brIx br)) false else x) →
      Answers (.braceSelfTestDone br 0) d ((y.wr (BRC_STEST_RES (brIx br)) 0).testPassed (brIx br)) ∧
      (failed ≠ 0 → Answers (.braceSelfTestDone br failed) d
        ((y.wr (BRC_STEST_RES (brIx br)) failed).testFailed (brIx br)))) ∧
    (d.accepts i = true → (iniBrace i).isSome = true → d.pw.base = .start → d.pw.halted = false →
      z = ({ d with pw := { d.pw with base := .service, goodSeen := true, faultn := true, readyUp := true } } : Dev) →
      Answers (.bootGood i 0x600D0960) d
        (((((z.cancel ⟨.bootGood, 0, 0⟩).cancel ⟨.bootHalf, 0, 0⟩).put RST_BOOT_CNT_count 0).mile 7).syncMode.outcome 1)) ∧
    (d.due ⟨.bootGood, 0, 0⟩ = some e → d.pw.base = .start →
      Answers .bootGoodTimeout d (((d.at_ e).cancel ⟨.bootGood, 0, 0⟩).startFails 7)) ∧
    (d.due ⟨.bootHalf, 0, 0⟩ = some e →
      Answers .bootHalf d (((d.at_ e).cancel ⟨.bootHalf, 0, 0⟩).raise pgRST 8)) ∧
    (d.accepts i = true → d.pw.base = .kennel →
      Answers (.bootClr i 0xC1EA0960) d (d.put RST_BOOT_CNT_count 0)) ∧
    (d.accepts i = true → v ≠ 0xC1EA0960 → Answers (.bootClr i v) d (d.ignoredErr pgRST i 0x10C v.toNat))

/-- The output control, the writing of the options and the unrecoverable faults (R29, R353, R355, R357) -/
def Obligations.OptionsAndHaltAct : Prop :=
  ∀ (d z : Dev) (i : Initiator) (v : Word) (e st : Nat) (why : HaltReason),
    (d.accepts i = true → d.locked pgRST = false →
      z = (d.put RST_OUT_CTL_ready_hold (bitsOf v 1 1)).put RST_OUT_CTL_fault (bitsOf v 0 0) →
      Answers (.outCtlWrite i v) d { z with pw := { z.pw with
        faultn := (bitsOf v 0 0 == 0) && z.pw.goodSeen && !z.pw.halted && decide (z.pw.base ≠ .kennel) } }) ∧
    (d.accepts i = true → d.optRefusal d.stagedImage = none →
      Answers (.optionWrite i 0x0B7E0960) d
        ((({ d with upd := { d.upd with optWrite := 3, optImage := d.stagedImage } } : Dev).put OPT_STAT_busy 1).armIn
          ⟨.optionWrite, 0, 0⟩ (usT 30))) ∧
    (d.accepts i = true → d.optRefusal d.stagedImage = some st →
      Answers (.optionWrite i 0x0B7E0960) d (d.put OPT_STAT_status st)) ∧
    (d.accepts i = true → v ≠ 0x0B7E0960 → Answers (.optionWrite i v) d d) ∧
    (d.due ⟨.optionWrite, 0, 0⟩ = some e → d.upd.optWrite = 3 →
      z = ({ d.cancel ⟨.optionWrite, 0, 0⟩ with
        mram := { d.mram with options := writeCopies d.upd.optImage 24 d.mram.options },
        upd := { d.upd with optWrite := 0, optImage := [] } } : Dev) →
      Answers (.optionWriteDone true) d (((z.put OPT_STAT_busy 0).put OPT_STAT_status 0).raise pgOPT 8)) ∧
    (d.due ⟨.optionRepair, 0, 0⟩ = some e →
      Answers .optionCopyRepair d
        { d.cancel ⟨.optionRepair, 0, 0⟩ with mram := { d.mram with
            options := d.mram.options.map (fun _ => ((optVote d.mram.options).img, 0)) } }) ∧
    Answers (.unrecoverableFault why) d (d.haltEntry (haltCode why))

/-- What entry to Halt leaves: the halt condition and no Settle, FAULTN and READY low, and the mode Halt in SYS.MODE (R29, R31) -/
def Obligations.HaltEntryLeaves : Prop :=
  ∀ (d : Dev) (why : Nat), d.up = true → d.pw.halted = false → d.pw.base = .service →
    (d.haltEntry why).pw.halted = true ∧ (d.haltEntry why).pw.settling = false ∧
    (d.haltEntry why).pw.faultn = false ∧ (d.haltEntry why).pw.readyUp = false ∧
    (d.haltEntry why).get SYS_MODE_mode = 0xB

/-- Unit reset, enable, isolation and return of a page (R36, R37, R38) -/
def Obligations.PageControlsAct : Prop :=
  ∀ (d : Dev) (i : Initiator) (pg e n : Nat) (k : PgKind) (en : Bool), isPage pg = true → pageKind pg = some (k, n) →
    (d.accepts i = true → d.locked pg = false →
      (k.fixed = false → k ≠ .brc → k ≠ .upd → d.flag (PG_STATE_in_reset pg) = false →
        Answers (.unitReset i pg) d (d.unitReset pg)) ∧
      (k.fixed = true → Answers (.unitReset i pg) d (d.ignoredErr pg i 0x10 2)) ∧
      Answers (.pgEnableWrite i pg en) d ((d.put (PG_CTRL_enable pg) (if en then 1 else 0)).refreshFrom pg) ∧
      (d.flag (PG_CAP_isolate pg) = true → d.get (PG_STATE_iso pg) = 0 → d.pw.halted = false → d.handedOver pg = false →
        Answers (.isolateRequest (some i) pg) d (Dev.isolate k pg n d)) ∧
      (d.get (PG_STATE_iso pg) = 2 → Answers (.returnRequest i pg) d (d.returning pg)) ∧
      (d.get (PG_STATE_iso pg) = 1 → Answers (.returnRequest i pg) d
        ((d.put (PG_CTRL_isolate pg) 0).modPg pg (fun s => { s with returnAsked := true })))) ∧
    (d.up = true → d.flag (PG_CAP_isolate pg) = true → d.get (PG_STATE_iso pg) = 0 → d.pw.halted = false →
      d.handedOver pg = false → Answers (.isolateRequest none pg) d (Dev.isolate k pg n d)) ∧
    (d.due ⟨.unitReset, pg, 0⟩ = some e →
      Answers (.unitResetEnd pg) d ((((d.at_ e).cancel ⟨.unitReset, pg, 0⟩).askRelease pg).refreshFrom pg)) ∧
    (d.get (PG_STATE_iso pg) = 1 → d.unitDone pg = true → ((d.setIso pg 2).pg pg).returnAsked = false →
      Answers (.isolationComplete pg) d (d.setIso pg 2)) ∧
    (d.get (PG_STATE_iso pg) = 3 → (d.put (PG_STATE_iso pg) 0).reasonOf pg = 0 →
      Answers (.returnComplete pg) d
        ((({ d.setIso pg 0 with sys := { (d.setIso pg 0).sys with
            isolated := (d.setIso pg 0).sys.isolated.filter (· != pg) } } : Dev).unitBack pg).refreshFrom pg).syncMode)

/-- What a unit reset of a CAN page leaves: the page in reset for 64 CK_PER cycles, its commit ended, memory kept (R37, R45) -/
def Obligations.UnitResetLeaves : Prop :=
  ∀ (d : Dev) (n : Nat), n < 24 → d.running ⟨.optionWrite, 0, 0⟩ = false → d.running ⟨.bankWrite, 0, 0⟩ = false →
    (d.unitReset (pgCAN n)).get (PG_STATE_in_reset (pgCAN n)) = 1 ∧
    (d.unitReset (pgCAN n)).get (PG_CTRL_reset (pgCAN n)) = 1 ∧
    (d.unitReset (pgCAN n)).due ⟨.unitReset, pgCAN n, 0⟩ = some (d.now + perT 64) ∧
    ((d.pg (pgCAN n)).decided = false → ((d.unitReset (pgCAN n)).pg (pgCAN n)).phase = .none) ∧
    ∀ a, (d.unitReset (pgCAN n)).rdByte a = d.rdByte a

/-- Register writes and reads, shadow writes and accesses to nothing (R8, R9, R10, R32, R33, R39, R53) -/
def Obligations.RegisterAccessesAct : Prop :=
  ∀ (d : Dev) (i : Initiator) (pg off addr : Nat) (v : Word) (r : RegRow) (write : Bool),
    (0x800 ≤ off → off < 0x1000 → liveRow (pg * 0x1000 + off - 0x800) = some r →
      d.locked pg = false → d.flag (PG_STATE_armed pg) = false →
      (d.shadowWrite i pg off v).rd (pg * 0x1000 + off) = r.mix (d.rd (pg * 0x1000 + off)) v ∧
      d.SameBut (d.shadowWrite i pg off v) [pg * 0x1000 + off]) ∧
    (isPage pg = true → isOffset off = true → d.accepts i = true →
      (∀ b, iniBrace i = some b → pg * 0x1000 + off ≠ BRC_WDG_KICK (brIx b) ∧ pg * 0x1000 + off ≠ BRC_ROLE (brIx b)) →
    (0x900 ≤ off → Answers (.shadowWrite i pg off v) d (d.regWrite i (pg * 0x1000 + off) v)) ∧
    (liveRow (pg * 0x1000 + off) = some r → r.hasRWS = true → off < 0x800 →
      Answers (.liveRegisterWrite i pg off v) d (d.regWrite i (pg * 0x1000 + off) v)) ∧
    Answers (.registerWrite i pg off v) d (d.regWrite i (pg * 0x1000 + off) v)) ∧
    (d.accepts i = true → addr < 0x4000000 →
      (pageKind (addr / 0x1000) = none →
        Answers (.unmappedAccess i addr false write) d ((d.badAccess i false addr).emit (.readValue i addr 0)) ∧
        Answers (.unmappedAccess i addr true false) d (d.badAccess i true addr)) ∧
      (regRow addr = none → Answers (.unmappedAccess i addr true false) d (d.badAccess i true addr)) ∧
      Answers (.unmappedAccess i addr true true) d (d.badAccess i true addr)) ∧
    (isPage pg = true → isOffset off = true → d.accepts i = true →
    (clearsOnRead (pg * 0x1000 + off) = true →
      Answers (.counterReadClear i pg off) d ((d.regRead i (pg * 0x1000 + off)).2.emit
        (.readValue i (pg * 0x1000 + off) (d.regRead i (pg * 0x1000 + off)).1))) ∧
    (isCapture (pg * 0x1000 + off) = true →
      Answers (.captureReadRearm i pg off) d ((d.regRead i (pg * 0x1000 + off)).2.emit
        (.readValue i (pg * 0x1000 + off) (d.regRead i (pg * 0x1000 + off)).1))))

/-- The commit commands of a page, the end of its check and its launch (R41, R42, R43) -/
def Obligations.CommitCommandsAct : Prop :=
  ∀ (d : Dev) (i : Initiator) (pg group e cmd r : Nat) (c : Chk), isPage pg = true → group < 256 →
    (pageKind pg).isSome = true →
    (d.accepts i = true → d.locked pg = false →
      ((d.put (PG_COMMIT_group pg) group).refusal pg 1
          ((d.put (PG_COMMIT_group pg) group).rd64 (PG_COMMIT_T_LO pg) (PG_COMMIT_T_HI pg)) = none →
        Answers (.commitNow i pg group) d ((d.put (PG_COMMIT_group pg) group).startCheck i pg 1 0
          ((d.put (PG_COMMIT_group pg) group).rd64 (PG_COMMIT_T_LO pg) (PG_COMMIT_T_HI pg)))) ∧
      ((d.put (PG_COMMIT_group pg) group).refusal pg 2
          ((d.put (PG_COMMIT_group pg) group).rd64 (PG_COMMIT_T_LO pg) (PG_COMMIT_T_HI pg)) = none →
        Answers (.commitTimed i pg group) d ((d.put (PG_COMMIT_group pg) group).startCheck i pg 2 0
          ((d.put (PG_COMMIT_group pg) group).rd64 (PG_COMMIT_T_LO pg) (PG_COMMIT_T_HI pg)))) ∧
      ((d.put (PG_COMMIT_group pg) group).refusal pg 3
          ((d.put (PG_COMMIT_group pg) group).rd64 (PG_COMMIT_T_LO pg) (PG_COMMIT_T_HI pg)) = none →
        Answers (.commitCascade i pg group) d ((d.put (PG_COMMIT_group pg) group).startCheck i pg 3 0
          ((d.put (PG_COMMIT_group pg) group).rd64 (PG_COMMIT_T_LO pg) (PG_COMMIT_T_HI pg)))) ∧
      ((d.put (PG_COMMIT_group pg) group).refusal pg 1
          ((d.put (PG_COMMIT_group pg) group).rd64 (PG_COMMIT_T_LO pg) (PG_COMMIT_T_HI pg)) = some r →
        Answers (.commitNow i pg group) d
          ((d.put (PG_COMMIT_group pg) group).refuse pg r i 0x14 (group % 256 * 2 ^ 24 + 1))) ∧
      ((d.put (PG_COMMIT_group pg) group).refusal pg 2
          ((d.put (PG_COMMIT_group pg) group).rd64 (PG_COMMIT_T_LO pg) (PG_COMMIT_T_HI pg)) = some r →
        Answers (.commitTimed i pg group) d
          ((d.put (PG_COMMIT_group pg) group).refuse pg r i 0x14 (group % 256 * 2 ^ 24 + 2))) ∧
      ((d.put (PG_COMMIT_group pg) group).refusal pg 3
          ((d.put (PG_COMMIT_group pg) group).rd64 (PG_COMMIT_T_LO pg) (PG_COMMIT_T_HI pg)) = some r →
        Answers (.commitCascade i pg group) d
          ((d.put (PG_COMMIT_group pg) group).refuse pg r i 0x14 (group % 256 * 2 ^ 24 + 3))) ∧
      (d.pw.halted = false → (d.pg pg).group = 0 → (d.put (PG_COMMIT_group pg) group).abortLate pg = false →
        Answers (.commitAbort i pg group) d ((d.put (PG_COMMIT_group pg) group).abortCommit pg 0)) ∧
      (d.pw.halted = false → (d.put (PG_COMMIT_group pg) group).flag (PG_CAP_shadow pg) = true →
        (d.pg pg).phase = .none →
        Answers (.commitRevert i pg group) d ((d.put (PG_COMMIT_group pg) group).revert pg)) ∧
      (cmd = 0 ∨ cmd = 6 ∨ cmd = 7 → d.pw.halted = false →
        Answers (.commitBadCmd i pg group cmd) d
          ((d.put (PG_COMMIT_group pg) group).refuse pg rsBadCmd i 0x14 (group % 256 * 2 ^ 24 + cmd % 8)))) ∧
    (d.due ⟨.commitCheck, pg, 0⟩ = some e → (d.pg pg).group = 0 → (d.pg pg).cmd = 1 →
      (d.cancel ⟨.commitCheck, pg, 0⟩).checkPage pg = none →
      Answers (.commitCheckDone pg false) d
        (((d.cancel ⟨.commitCheck, pg, 0⟩).modPg pg (fun s => { s with phase := .checked })).commitPages [pg])) ∧
    (d.due ⟨.commitCheck, pg, 0⟩ = some e → (d.cancel ⟨.commitCheck, pg, 0⟩).checkPage pg = some c →
      Answers (.commitCheckDone pg false) d
        ((d.cancel ⟨.commitCheck, pg, 0⟩).memberRefuses (d.comrades pg) pg c.reason (d.pg pg).by_ (c.addr % 0x1000)
          (d.shw c.addr).toNat)) ∧
    ((d.pg pg).phase = .armed → d.turn (d.commitTurn (d.pg pg).launch) = true →
      Answers (.commitLaunch pg) d ((d.atNs (d.pg pg).launch).commitPages ((d.atNs (d.pg pg).launch).comrades pg)))

/-- An accepted commit reports CHECKING for at most 256 CK_PER cycles; a refused one changes no shadow and no live field (R41) -/
def Obligations.CommitCheckAndRefusalLeave : Prop :=
  ∀ (d : Dev) (i : Initiator) (pg cmd group t r off v : Nat),
    (d.startCheck i pg cmd group t).get (PG_COMMIT_status pg) = csChecking ∧
    (d.startCheck i pg cmd group t).due ⟨.commitCheck, pg, 0⟩ = some (d.now + perT 256) ∧
    ((d.startCheck i pg cmd group t).pg pg).phase = .checking ∧ ((d.startCheck i pg cmd group t).pg pg).cmd = cmd ∧
    ((d.startCheck i pg cmd group t).pg pg).launch = t ∧ ((d.startCheck i pg cmd group t).pg pg).by_ = i ∧
    (∀ q, q ≠ pg → (d.startCheck i pg cmd group t).pg q = d.pg q) ∧
    d.SameBut (d.startCheck i pg cmd group t) [PG_COMMIT pg] ∧
    (r < 32 →
      (d.refuse pg r i off v).get (PG_COMMIT_reason pg) = r ∧
      (r ≠ rsBusy → (d.refuse pg r i off v).get (PG_COMMIT_status pg) = csRefused) ∧
      (r = rsBusy → (d.refuse pg r i off v).get (PG_COMMIT_status pg) = d.get (PG_COMMIT_status pg)) ∧
      (d.refuse pg r i off v).bit (PG_IRQ_STAT pg) irqCommitFail = true ∧
      d.SameBut (d.refuse pg r i off v)
        [PG_COMMIT pg, PG_IRQ_STAT pg, PG_ERR_CAP0 pg, PG_ERR_CAP1 pg, PG_ERR_CAP2 pg, PG_ERR_CAP3 pg])

/-- The group commands: now, timed, cascade-wide, abort and revert (R44) -/
def Obligations.GroupCommitsAct : Prop :=
  ∀ (d : Dev) (i : Initiator) (g : Nat), 1 ≤ g → g < 256 → d.accepts i = true →
    (d.members g = [] →
      Answers (.grpCommitNow i g) d (d.groupStat csRefused rsBadCmd 0) ∧
      Answers (.grpCommitTimed i g) d (d.groupStat csRefused rsBadCmd 0) ∧
      Answers (.grpCommitCascade i g) d (d.groupStat csRefused rsBadCmd 0) ∧
      Answers (.grpCommitAbort i g) d (d.groupStat csRefused rsBadCmd 0) ∧
      Answers (.grpCommitRevert i g) d (d.groupStat csRefused rsBadCmd 0)) ∧
    (d.members g ≠ [] → d.groupBusy g = false →
      ((∀ p ∈ d.members g, d.memberRefusal p 1 (d.rd64 SYS_GRP_T_LO SYS_GRP_T_HI) = none) →
        Answers (.grpCommitNow i g) d ((d.each (d.members g) (fun p t =>
          t.startCheck i p 1 g (d.rd64 SYS_GRP_T_LO SYS_GRP_T_HI))).groupStat csChecking 0 0)) ∧
      ((∀ p ∈ d.members g, d.memberRefusal p 2 (d.rd64 SYS_GRP_T_LO SYS_GRP_T_HI) = none) →
        Answers (.grpCommitTimed i g) d ((d.each (d.members g) (fun p t =>
          t.startCheck i p 2 g (d.rd64 SYS_GRP_T_LO SYS_GRP_T_HI))).groupStat csChecking 0 0)) ∧
      ((∀ p ∈ d.members g, d.memberRefusal p 3 (d.rd64 SYS_GRP_T_LO SYS_GRP_T_HI) = none) →
        Answers (.grpCommitCascade i g) d ((d.each (d.members g) (fun p t =>
          t.startCheck i p 3 g (d.rd64 SYS_GRP_T_LO SYS_GRP_T_HI))).groupStat csChecking 0 0))) ∧
    (d.members g ≠ [] → d.pw.halted = false → d.committing.filter (fun p => (d.pg p).group == g) = [] →
      Answers (.grpCommitAbort i g) d
        ((d.put SYS_GRP_STAT_reason rsTooLate).each (d.members g) (fun p t => t.tooLate p i 0))) ∧
    (∀ p rest, d.committing.filter (fun p => (d.pg p).group == g) = p :: rest → d.members g ≠ [] →
      d.pw.halted = false → d.abortLate p = false → (d.pg p).phase ≠ .prepared →
      Answers (.grpCommitAbort i g) d
        ((d.each (p :: rest) (fun q t => t.commitEnds q csAborted 0)).groupStat csAborted 0 0)) ∧
    (d.members g ≠ [] → d.pw.halted = false →
      (∀ p ∈ d.members g, d.flag (PG_CAP_shadow p) = true ∧ d.locked p = false ∧ (d.pg p).phase = .none) →
      Answers (.grpCommitRevert i g) d (d.each (d.members g) Dev.revert))

/-- The fences: issue of each kind, refusal, completion and time-out (R46, R47, R48, R49, R149, R320) -/
def Obligations.FencesAct : Prop :=
  ∀ (d : Dev) (i : Initiator) (pg q e tok : Nat) (v : Word) (f : Fence) (rest : List Fence), isPage pg = true → q < 16 →
    (pageKind pg).isSome = true →
    (d.accepts i = true →
      Answers (.fenceConfig i pg) d (d.fence i pg 1 0) ∧ Answers (.fenceTable i pg) d (d.fence i pg 2 0) ∧
      Answers (.fenceBridge i pg) d (d.fence i pg 3 0) ∧ Answers (.fenceTime i pg) d (d.fence i pg 4 0) ∧
      Answers (.fenceQueue i pg q) d (d.fence i pg 5 q) ∧
      (d.fenceTaken pg (bitsOf v 18 16) (bitsOf v 23 20) = false →
        Answers (.fenceRefused i pg v) d (d.fenceRefused i pg (bitsOf v 18 16) (bitsOf v 23 20)))) ∧
    ((d.pg pg).fences = f :: rest → d.fenceHolds pg f = true →
      Answers (.fenceComplete pg) d (Dev.fenceDrain pg 16 (d.fenceEnds pg f (f.kind == 3 && f.mark == 1)))) ∧
    (d.firstTimeout pg = some tok → d.due ⟨.fence, pg, tok⟩ = some e →
      Answers (.fenceTimeout pg) d
        (((d.at_ e).cancel ⟨.fence, pg, tok⟩).fencesFail pg (fun x => x.token == tok)))

/-- An accepted fence takes the page's next token and waits behind the earlier fences of the page (R46) -/
def Obligations.FenceIssueQueuesToken : Prop :=
  ∀ (d : Dev) (i : Initiator) (pg kind q : Nat), d.fenceTaken pg kind q = true → kind ≠ 3 → d.pw.halted = false →
    ((d.fence i pg kind q).pg pg).fences = (d.pg pg).fences ++ [d.newFence i pg kind q] ∧
    (d.newFence i pg kind q).token = (d.pg pg).nextToken ∧
    ((d.fence i pg kind q).pg pg).nextToken = ((d.pg pg).nextToken + 1) % 65536 ∧
    (d.fence i pg kind q).lastFence pg i = (q, kind, (d.pg pg).nextToken) ∧
    (d.fence i pg kind q).due ⟨.fence, pg, (d.pg pg).nextToken⟩ = some (d.now + msT (d.get SYS_FENCE_TMO_ms)) ∧
    d.SameBut (d.fence i pg kind q) []

/-- The interrupt registers and the page lock (R50, R52, R53, R301, R302) -/
def Obligations.InterruptsAndLockAct : Prop :=
  ∀ (d : Dev) (i : Initiator) (pg : Nat) (v : Word) (dest : MsgDest), isPage pg = true → (pageKind pg).isSome = true → d.accepts i = true →
    Answers (.irqEnWrite i pg v) d (d.irqWrite pg (d.rd (PG_IRQ_STAT pg)).toNat v.toNat) ∧
    Answers (.irqSetWrite i pg v none) d
      (d.irqWrite pg (d.rd (PG_IRQ_STAT pg) ||| v).toNat (d.rd (PG_IRQ_EN pg)).toNat) ∧
    Answers (.irqStatClear i pg v) d
      (d.irqWrite pg (d.rd (PG_IRQ_STAT pg) &&& ~~~v).toNat (d.rd (PG_IRQ_EN pg)).toNat) ∧
    ((d.pg pg).lockKey = 0 → v ≠ 0 → Answers (.pgLockWrite i pg v) d
      ((d.setPg pg { d.pg pg with lockKey := v }).put (PG_STATE_locked pg) 1)) ∧
    ((d.pg pg).lockKey = 0 → Answers (.pgLockWrite i pg 0) d d) ∧
    ((d.pg pg).lockKey = v → v ≠ 0 → (d.pg pg).wrongKeys < 16 → Answers (.pgLockWrite i pg v) d
      ((d.setPg pg { d.pg pg with lockKey := 0 }).put (PG_STATE_locked pg) 0)) ∧
    ((d.pg pg).lockKey ≠ 0 → v ≠ (d.pg pg).lockKey ∨ 16 ≤ (d.pg pg).wrongKeys → Answers (.pgLockWrite i pg v) d
      ((d.setPg pg { d.pg pg with wrongKeys := min 16 ((d.pg pg).wrongKeys + 1) }).lockViol pg i 0x48 v.toNat)) ∧
    Answers (.irqSetWrite i pg v (some dest)) d
      ((d.msgReset dest).irqWrite pg ((d.msgReset dest).rd (PG_IRQ_STAT pg) ||| v).toNat ((d.msgReset dest).rd (PG_IRQ_EN pg)).toNat)

/-- A write of the interrupt status and enable stores both and sends nothing without a newly counting bit (R50) -/
def Obligations.InterruptStatusWritten : Prop :=
  ∀ (d : Dev) (pg : Nat) (stat en : Word),
    (d.irqWrite pg stat.toNat en.toNat).rd (PG_IRQ_STAT pg) = stat ∧
    (d.irqWrite pg stat.toNat en.toNat).rd (PG_IRQ_EN pg) = en ∧
    d.SameBut (d.irqWrite pg stat.toNat en.toNat) [PG_IRQ_STAT pg, PG_IRQ_EN pg] ∧
    ((stat &&& en) &&& ~~~(d.rd (PG_IRQ_STAT pg) &&& d.rd (PG_IRQ_EN pg)) = 0 →
      (d.irqWrite pg stat.toNat en.toNat).out = d.out ∧ (d.irqWrite pg stat.toNat en.toNat).hbr.pba = d.hbr.pba)

/-- A frame in reception at an Ethernet port and from a cascade link's ingress queue: its start, its bytes, its head and its end (R18, R19, R68, R138, R158, R167, R334, R335) -/
def Obligations.ReceptionActs : Prop :=
  ∀ (d w x y z : Dev) (p eighth fid k : Nat) (r n : Rx) (data : List Byte) (good pcs : Bool) (fr ae se : Nat) (v : VhFrame)
      (l : List VhFrame), eighth < 8 → 1 ≤ data.length → data.length ≤ 64 →
    (p < 57 →
      (d.rxOf p = none → d.macUp p = true → d.works (pgETH p) = true → d.sleepSeg p = none →
        Answers (.frameStart p eighth) d (d.setRx p (some
          { iso := d.get (PG_STATE_iso (pgETH p)) != 0, press := d.pressedAt p, inNs := (d.ingressTime p eighth).1,
            inFrac := (d.ingressTime p eighth).2, t0 := d.now, maxLen := d.get (ETH_CFG_max_len p) }))) ∧
      (d.rxOf p = some r → Answers (.frameStart p eighth) d d) ∧
      (d.rxOf p = some r →
        n = { r with bytes := min (r.bytes + data.length) (r.maxLen + 1), head := (r.head ++ data).take 64 } →
        z = d.setRx p (some n) →
        (r.bytes < z.rxNeed p → n.bytes < z.rxNeed p → Answers (.frameDataCoin p data) d z) ∧
        (d.vox p = false → r.bytes < z.rxNeed p → z.rxNeed p ≤ n.bytes → z.entersVault p n = true → r.rst = false →
          z.flag (PG_STATE_in_reset pgFWD) = false →
          Answers (.frameDataCoin p data) d
            (z.startFrame p n (n.head.take r.bytes ++ data.take (r.maxLen - r.bytes)))) ∧
        (z.rxNeed p ≤ r.bytes → r.fid = some fid →
          Answers (.frameDataCoin p data) d (z.storeBytes fid (data.take (r.maxLen - r.bytes))))) ∧
      (d.rxOf p = some r → r.fid = some fid → r.excess = false → be r.head 12 2 ≠ 0x8808 →
        z = d.ldgMerge p fr ae se → z.rxOf p = some r → y = (z.setRx p none).touch p →
        k = rxKind r.maxLen r.bytes good pcs →
        x = (if pcs = true then (y.ldg p 22 1).count (PHY_PCS_ERR p) else y) →
        w = x.ldgReceived p k r → w.vox p = false →
        (k = 0 → Answers (.frameEnd p good pcs fr ae se) d (w.acceptRx fid 1)) ∧
        (k ≠ 0 → Answers (.frameEnd p good pcs fr ae se) d (w.rejectRx fid)))) ∧
    (isPort p = true → d.rxOf p = some r → r.fid = some fid → Answers (.frameHeadReceived p) d
      (d.modFrame fid (fun f => if f.tH.isNone then { f with tH := some d.now } else f))) ∧
    (58 ≤ p → p ≤ 61 → d.inq (p - 58) = v :: l →
      (d.rxOf p = none → Answers (.frameStart p eighth) d (d.setRx p (some
        { press := d.pressedAt p, inNs := v.inNs, inFrac := v.inFrac, t0 := d.now, head := v.data.take 64 }))) ∧
      (d.rxOf p = some r → r.fid = some fid → r.bytes ≠ 0 → ((v.data.drop r.bytes).take 256).isEmpty = false →
        Answers (.frameDataCoin p data) d ((d.setRx p (some { r with
          bytes := r.bytes + ((v.data.drop r.bytes).take 256).length })).storeBytes fid ((v.data.drop r.bytes).take 256))) ∧
      (d.rxOf p = some r → r.fid = some fid → v.data.length ≤ r.bytes → v.excess = false →
        z = ((d.setRx p none).setInq (p - 58) l).fillChanged (p - 58) →
        Answers (.frameEnd p good pcs fr ae se) d (((z.storeBytes fid (fcsOf v.data)).acceptRx fid (nb v.tag 41 39)).credDone
          (p - 58) (nb v.tag 6 4) (credCost v.data.length))))

/-- The lookup result, the policing decision and the ingress check of the oldest frame of an input (R18, R19, R20, R104, R106, R223, R226, R233) -/
def Obligations.DecisionStepsAct : Prop :=
  ∀ (d u w x y z : Dev) (p vid ue k st : Nat) (f g h : Frame) (s : Snap) (t : Option TblAt) (pipe : Bool) (col cls : Nat)
      (c : Option Nat) (part : CvPart), isPort p = true →
    (d.oldest (fun f => d.flag (PG_CTRL_enable pgFWD) && f.inPort == p && f.tH.isSome && f.tL.isNone) = some f →
      t.all TblAt.wf = true →
      y = t.elim (d.at_ (f.tH.getD 0 + fabT 72)) (fun e => (d.at_ (f.tH.getD 0 + fabT 72)).tableUe 8 e.table e.index) →
      (f.reset = true ∨ y.flag (PG_STATE_in_reset pgFWD) = true →
        Answers (.lookupResult p pipe t) d (y.fwdDiscard f.id 0x0A)) ∧
      (f.reset = false → y.flag (PG_STATE_in_reset pgFWD) = false →
        z = y.setRegs f.old → z.lookup f = (s, u) → vid = (if f.ethFramed then z.vidOf f f.hdr else 0) →
        w = ((u.setRegs (f.old.map (fun e => (e.1, y.rd e.1)))).countLookup pipe).trace p s →
        (s.reason ≠ 0 → Answers (.lookupResult p pipe t) d (w.fwdDiscard f.id s.reason)) ∧
        (s.reason = 0 → w.frame f.id = some h →
          g = { h with cls := s.cls, stream := s.stream, ctx := s.ctx, route := s.route, frer := s.frer, outs := s.outs,
                       epoch := w.epoch, vid := vid, pcp := f.hdr.pcp, old := [],
                       unt := if h.ethFramed then w.listPorts (nb (w.ent 3 vid) 39 28) else [],
                       tagged := f.hdr.vlanTagged, seq := Option.map Prod.fst f.hdr.rtag, tL := some w.now } →
          Answers (.lookupResult p pipe t) d (w.saveFrame
            { g with needCv := w.needsCheck g, newCv := w.marksNew g, cv0 := w.recordStart g,
                     ct := w.cutThrough { g with needCv := w.needsCheck g, newCv := w.marksNew g, cv0 := w.recordStart g } })))) ∧
    (d.oldest (fun f => d.works (pgTRM 1) && f.inPort == p && f.tL.isSome && f.tP.isNone && (f.ct || f.tE.isSome)) = some f →
      ue < 4 →
      y = d.at_ (if f.ct = true then f.tL.getD 0 + fabT 6 else max (f.tL.getD 0) (f.tE.getD 0 + fabT 6)) →
      (y.police f f.seq ue = (none, z) → Answers (.policingDecision p ue) d (z.dropArriving f.id)) ∧
      (y.police f f.seq ue = (some (col, cls), z) → Answers (.policingDecision p ue) d
        (z.modFrame f.id (fun f => { f with colour := col, cls := cls, tP := some z.now })))) ∧
    (d.oldest (fun f => d.works pgAUT && f.inPort == p && f.tP.isSome && f.needCv && f.tC.isNone && f.tE.isSome) = some f →
      y = d.at_ f.checkTime →
      (y.verify f = (.drop, z) → Answers (.ingressCheckValueResult p none) d (z.dropArriving f.id)) ∧
      (y.verify f = (.pass st c, z) → Answers (.ingressCheckValueResult p none) d (z.modFrame f.id (fun g => { g with
        check := st, vctx := c, secAt := Option.map (fun s : SecTag => (s.at_, s.len)) g.hdr.sec, tC := some z.now }))) ∧
      (f.checkCtx = some k → g = { f with cv0 := f.cv0.map (fun v : CvStart => v.lose part) } →
        x = y.contextUe k part →
        (x.verify g = (.drop, z) → Answers (.ingressCheckValueResult p (some part)) d (z.dropArriving g.id)) ∧
        (x.verify g = (.pass st c, z) → Answers (.ingressCheckValueResult p (some part)) d (z.modFrame g.id (fun h => { h with
          check := st, vctx := c, secAt := Option.map (fun s : SecTag => (s.at_, s.len)) h.hdr.sec, tC := some z.now })))))

/-- The entry into the VOQs, the hand-off of bus frames, back-pressure, the spill copy, the prefetch and the hold sweep (R18, R59, R63, R65, R69, R70, R75, R76, R398) -/
def Obligations.VaultEntriesAct : Prop :=
  ∀ (d w y z : Dev) (p q e s : Nat) (m : Option Nat) (ue : Bool) (f g : Frame) (r : BusRecord) (ns fr : Nat)
      (rest : List (BusRecord × Nat × Nat)) (sp : Spill), isPort p = true → isVoq q = true →
    (d.oldest (fun f => d.works pgQUE && f.inPort == p && !f.queued && f.tP.isSome && (!f.needCv || f.tC.isSome) &&
        (f.tE.isSome || (f.ct && f.outs.all (fun o => (d.voq (voqIx p o f.cls)).isEmpty)))) = some f →
      m.all isVoq = true →
      y = m.elim (d.at_ (max (max (f.tL.getD 0) (f.tP.getD 0)) (f.tC.getD 0) + fabT 3))
        (fun v => (d.at_ (max (max (f.tL.getD 0) (f.tP.getD 0)) (f.tC.getD 0) + fabT 3)).voqReset v) →
      g = { f with ct := f.ct && f.tE.isNone, tQ := y.now } →
      z = (if f.slipPaid = true then y.uncharge true f.domain else y) →
      w = ((z.each f.outs (fun o t => t.creditPort o)).saveFrame { g with slipPaid := false }).enqueue f.id f.outs →
      Answers (.voqEnqueue p m) d (w.each f.outs (fun o t => t.wakeFor o f.cls)).settle) ∧
    (isBusPort p = true → NMap.get [] d.bus.handoff p = (r, ns, fr) :: rest → Answers (.busFrameHandoff p) d
      (({ d with bus := { d.bus with handoff := NMap.set [] d.bus.handoff p rest } } : Dev).admitBus p r ns fr)) ∧
    (pressured p = true → s = d.pressureSet p → s ≠ d.pressedAt p →
      y = ({ d with vlt := { d.vlt with reached := NMap.set 0 d.vlt.reached p s } } : Dev) →
      z = (if s = 0 ∧ p ≤ 61 then y.put (VLT_HDRM_USE_coins p) 0 else y) →
      (p < 57 → Answers (.backpressureReachPort p) d ((z.put (ETH_STAT_bp p) s).fcChanged p)) ∧
      (p = 96 → Answers (.backpressureReachPort p) d (z.put KLW_DEFER_STAT_cls s)) ∧
      (58 ≤ p → p ≤ 61 → Answers (.backpressureReachPort p) d (z.credRelease (p - 58))) ∧
      (p = 57 ∨ 62 ≤ p → p ≠ 96 → Answers (.backpressureReachPort p) d z)) ∧
    (d.vlt.spills.find? (fun s => s.voq == q) = some sp → d.due ⟨.spill, sp.fid, 0⟩ = some e →
      y = (d.at_ e).cancel ⟨.spill, sp.fid, 0⟩ →
      Answers (.spillCopyDone q ue) d (y.spillDone sp ue).settle ∧
      (y.frame sp.fid = some f → Answers (.spillCopyDone q true) d
        ((((((y.count VLT_TILL_PE).lost 1).raise (pgVLT 0) 12).uncorrectable 0 ((f.coins.find? inTill).getD 0 * 32) 8).dropSpill
          f sp).discardFrame f).settle)) ∧
    (d.due ⟨.prefetch, q, 0⟩ = some e → Answers (.reservePrefetchDone q) d
      { d.cancel ⟨.prefetch, q, 0⟩ with vlt := { d.vlt with staged := d.vlt.staged ++ [q] } }) ∧
    (d.due ⟨.mcSweep, 0, 0⟩ = some e → Answers .mcHoldSweep d
      ((((d.at_ e).cancel ⟨.mcSweep, 0, 0⟩).arm ⟨.mcSweep, 0, 0⟩ (e + usT 100)).each d.vlt.voqs
        (fun v t => t.sweepVoq v.1 v.2.length)))

/-- The pick of an output, the egress timestamp point and the end of a transmission (R73, R74, R75, R117, R139, R141, R256, R322, R331, R334) -/
def Obligations.EgressActs : Prop :=
  ∀ (d v w y z : Dev) (out eighth c q own head : Nat) (bp : Option BpDesc) (b : BpDesc) (t : Tx) (x : Copy) (l : List Copy) (f : Frame)
      (bs : List Byte) (g : Option CvGen) (m : Bool),
    (d.works pgQUE = true → bp.all BpDesc.wf = true → own < 256 →
      (out < 57 → w = (d.toPick out).creditPort out →
        (d.works (pgETH out) = true → w.drains out = false → w.sleepSeg out = none → w.macUp out = true →
          w.eth.lpi.contains out = false → w.eth.fcWait.contains out = false →
          ((d.at_ (d.firstSeen out)).creditPort out).expressClass out = none → w.curTx out = none →
          highest (fun c => w.ethClass out c false) = some (c, q, y) →
          y.voq q = x :: l → y.expired x = false → y.frame x.fid = some f → y.noStart out f = none → f.poison = false →
          Answers (.egressPick out none bp own) d (y.startTx out q c x f (f.check == 2)) ∧
          (y.takeCv out f = (.inr g, z) → ∃ t ∈ (y.startTx out q c x f (f.check == 2)).vlt.tx,
            t.out = out ∧ t.fid = f.id ∧ t.cls = c ∧ t.bad = (f.check == 2))) ∧
        (d.drains out = true → w.drains out = true → highest (fun c => w.ethClass out c true) = some (c, q, y) →
          y.voq q = x :: l → y.expired x = false → y.frame x.fid = some f →
          Answers (.egressPick out none bp own) d
            (((y.dropHead q (fun t => t.countDrain out)).saidDrain out).occupy out (y.egressLen out f)))) ∧
      ((d.toPick 57).drains 57 = false → (d.toPick 57).hostChoice own = some (c, q, y) →
        y.voq q = x :: l → y.expired x = false → y.frame x.fid = some f → f.poison = false →
        (y.shape 57 f).length ≤ y.get (HBR_RING_CFG_buf (hRing false c)) → z = y.popVoq q →
        Answers (.egressPick 57 none bp own) d { z with vlt := { z.vlt with tx := z.vlt.tx ++
          [{ out := 57, fid := f.id, cls := c, mc := x.mc, pick := z.now, ends := z.now, data := y.shape 57 f, bad := false }] } }) ∧
      (58 ≤ out → out ≤ 61 → d.works (pgVHL (out - 58)) = true → (d.toPick out).drains out = false →
        (d.toPick out).flag (VHL_STAT_link (out - 58)) = true → (d.toPick out).flag (VHL_STAT_hold_i (out - 58)) = false →
        (d.toPick out).curTx out = none → (d.toPick out).flag SYS_DEVID_valid = true →
        (d.toPick out).linkChoice out = some (c, q, y) →
        y.voq q = x :: l → y.expired x = false → y.frame x.fid = some f → y.noStart out f = none → f.poison = false →
        z = y.startTx out q c x f (f.check == 2) → z.vlt.tx.length ≠ y.vlt.tx.length →
        Answers (.egressPick out none bp own) d
          (z.put (VHL_CRED_coins (out - 58) c) (z.get (VHL_CRED_coins (out - 58) c) - y.headCost out q))) ∧
      (64 ≤ out → out ≤ 95 → (d.toPick out).drains out = false → (d.toPick out).sleeping out 0 = none →
        (d.toPick out).busChoice out = some (c, q, y) → y.sleeping out c = none →
        y.voq q = x :: l → y.expired x = false → y.frame x.fid = some f → f.poison = false →
        (out ≤ 87 → Answers (.egressPick out none bp own) d (y.canTake (out - 64) q)) ∧
        (88 ≤ out → Answers (.egressPick out none bp own) d (y.linTake (out - 88) q))) ∧
      (b.wf = true → b.own = true → (d.toPick 97).up = true → (d.toPick 97).active.isSome = true →
        (d.toPick 97).pw.halted = false → head = d.get (BRC_BP_RX_HEAD_index 0) % bpSize (d.get (BRC_BP_RX_RING_log2 0)) →
        head ≠ (d.toPick 97).get (BRC_BP_RX_TAIL_index 0) % bpSize (d.get (BRC_BP_RX_RING_log2 0)) →
        highest (fun c => (d.toPick 97).drrTake 97 c ((d.toPick 97).heads 97 c)) = some (c, q, y) →
        y.voq q = x :: l → y.expired x = false → y.frame x.fid = some f → f.poison = false → bs = y.shape 97 f →
        bs.length ≤ y.get (BRC_BP_RX_BUF_bytes 0) → v = (y.popVoq q).wrTcm b.buf bs →
        z = v.wrTcm ((y.popVoq q).get (BRC_BP_RX_RING_base 0) + head * 32) (bpBytes { b with
            own := false, len := bs.length, port := f.inPort, domain := f.domain, cls := c } true f.check f.inNs f.inFrac) →
        Answers (.egressPick 97 none (some b) own) d (((z.put (BRC_BP_RX_HEAD_index 0)
          ((head + 1) % bpSize (d.get (BRC_BP_RX_RING_log2 0)))).release f.id).raise (pgBRC 0) 13))) ∧
    (out < 57 → eighth < 8 →
      d.vlt.tx.find? (fun t => t.out == out && !t.stamped && (decide (out < 57) || isVh out)) = some t →
      y = (d.at_ (t.pick + 672)).swapTx t { t with stamped := true } →
      (t.tsEvent = false → Answers (.egressTimestamp out eighth m) d y) ∧
      (t.tsEvent = true → y.frame t.fid = some f → bs = (if t.data.isEmpty = true then y.shape out f else t.data) →
        Answers (.egressTimestamp out eighth false) d
          ((y.tsqPush out bs (y.tqEighth y.ticks eighth + y.outCorr out)).ldg out 54 1) ∧
        Answers (.egressTimestamp out eighth true) d
          (((y.tsqMismatch out).tsqPush out bs ((y.tsqMismatch out).tqEighth (y.tsqMismatch out).ticks eighth +
            (y.tsqMismatch out).outCorr out)).ldg out 54 1))) ∧
    (out < 57 ∨ isVh out = true → isPort out = true → d.curTx out = some t → d.frame t.fid = some f →
      (f.tE.isSome = true → Answers (.transmitEnd out) d (d.endTx t f)) ∧
      (f.tE = none → Answers (.transmitEnd out) d d))

/-- The Auditor's count check and walk, its leak queue and the counts of a VOQ, the next state of each stated whole (R77, R78, R79, R84, R86, R301, R398) -/
def Obligations.AuditorActs : Prop :=
  ∀ (d u w x x' y z : Dev) (i : Initiator) (e q : Nat) (v : Word) (a : Nat × Nat) (rest : List (Nat × Nat)) (leaks dup : List Nat),
    (d.due ⟨.audCount, 0, 0⟩ = some e →
      y = (((d.at_ e).cancel ⟨.audCount, 0, 0⟩).arm ⟨.audCount, 0, 0⟩ (e + msT (max 1 (d.get VLT_AUD_CTRL_period)))) →
      z = (y.count VLT_AUD_MISM).raise (pgVLT 2) 9 →
      (y.countsAgree = true → Answers .auditorCountCheck d y) ∧
      (y.countsAgree = false → z.flag VLT_AUD_CTRL_auto = false → Answers .auditorCountCheck d z) ∧
      (y.countsAgree = false → z.flag VLT_AUD_CTRL_auto = true → Answers .auditorCountCheck d z.startWalk)) ∧
    (d.accepts i = true → z = (if d.locked (pgVLT 2) = true then d.lockViol (pgVLT 2) i 0x100 2 else d) →
      (z.get VLT_AUD_STAT_phase = 0 → Answers (.auditorWalkStart i) d
        (((({ z with vlt := { z.vlt with gen := !z.vlt.gen, marked := [], leaked := [], doubled := [] } } : Dev).put
          VLT_AUD_STAT_phase 1).put VLT_AUD_CTRL_walk 1).armIn ⟨.walkPhase, 0, 0⟩ (msT 1))) ∧
      (z.get VLT_AUD_STAT_phase ≠ 0 → Answers (.auditorWalkStart i) d z)) ∧
    (d.get VLT_AUD_STAT_phase = 1 → d.due ⟨.walkPhase, 0, 0⟩ = some e → Answers .auditorWalkPhaseDone d
      (((d.at_ e).cancel ⟨.walkPhase, 0, 0⟩).put VLT_AUD_STAT_phase 2)) ∧
    (d.get VLT_AUD_STAT_phase = 2 → Answers .auditorWalkPhaseDone d
      (({ d with vlt := { d.vlt with marked := d.reached (fun _ => true) } } : Dev).put VLT_AUD_STAT_phase 3)) ∧
    (d.get VLT_AUD_STAT_phase = 3 →
      leaks = (d.vlt.coins.filter (fun c => d.oldCoin c.2 && !d.vlt.marked.contains c.1)).map (fun c => c.1) →
      Answers .auditorWalkPhaseDone d
        (({ d with vlt := { d.vlt with leaked := leaks, doubled := d.doubleListed } } : Dev).put VLT_AUD_STAT_phase 4)) ∧
    (d.get VLT_AUD_STAT_phase = 4 → dup = d.vlt.doubled → leaks = d.vlt.leaked.filter (fun c => (d.coin c).isSome) →
      y = (d.put VLT_AUD_LEAK_coins leaks.length).put VLT_AUD_DUP_coins dup.length →
      z = ({ y with vlt := { y.vlt with leakQ :=
        (y.vlt.leakQ ++ (leaks.map (fun c => (1, c)) ++ dup.map (fun c => (2, c))).take 64).take 64 } } : Dev) →
      u = (z.each dup Dev.unlistExtra).each leaks Dev.freeCoin →
      w = (if z.flag VLT_AUD_CTRL_reclaim = true then ((u.each (List.range 16) Dev.correctAcct).put VLT_AUD_RECL_coins
        leaks.length).put VLT_AUD_CORR_coins (sumDomains u.correction)
        else (z.put VLT_AUD_RECL_coins 0).put VLT_AUD_CORR_coins 0) →
      x = ((w.endWalk.wrapInc VLT_AUD_STAT_walks).put VLT_AUD_STAT_last_ok (if leaks.isEmpty && dup.isEmpty then 1 else 0)).raise
        (pgVLT 2) 8 →
      x' = (if leaks.isEmpty = true then x else x.raise (pgVLT 2) 10) →
      Answers .walkDone d (if dup.isEmpty = true then x' else x'.raise (pgVLT 2) 11)) ∧
    (d.accepts i = true → d.vlt.leakQ = a :: rest → Answers (.audLeakqRead i false) d
      ((({ d with vlt := { d.vlt with leakQ := rest } } : Dev).wr VLT_AUD_LEAKQ_HI
        (BitVec.ofNat 32 (leakItem a / 2 ^ 32))).emit (.readValue i VLT_AUD_LEAKQ_LO (BitVec.ofNat 32 (leakItem a))))) ∧
    (d.accepts i = true → d.vlt.leakQ = [] → Answers (.audLeakqRead i false) d
      ((d.wr VLT_AUD_LEAKQ_HI idleHi).emit (.readValue i VLT_AUD_LEAKQ_LO 0))) ∧
    (d.accepts i = true → z = ({ d with vlt := { d.vlt with leakQ := [] } } : Dev).queueReset 5 0 → z.vlt.leakQ = [] →
      Answers (.audLeakqRead i true) d ((z.wr VLT_AUD_LEAKQ_HI idleHi).emit (.readValue i VLT_AUD_LEAKQ_LO 0))) ∧
    (d.accepts i = true → d.locked pgQUE = false → q = v.toNat % 2 ^ 17 → y = d.put QUE_VOQ_SEL_voq q →
      z = y.put QUE_VOQ_FRAMES_frames (y.voq q).length → w = z.put QUE_VOQ_COINS_coins (z.copyCoins (y.voq q)) →
      x = w.put QUE_VOQ_TILL_coins (w.voqTill (y.voq q)) →
      Answers (.voqSelWrite i v) d (x.put QUE_VOQ_AGE_us (x.voqAge q)))

/-- Learn events, pins, the sweep of the exact-match table, its window pass and the trace: the next state of each stated whole (R89, R98, R99, R103, R301, R398) -/
def Obligations.LearningAndSweepAct : Prop :=
  ∀ (d x y z : Dev) (i : Initiator) (v : Learn) (slot e n ent m : Nat) (hit : Bool) (w : Word),
    (d.works pgLRN = true → d.nextLearn = some v → y = (d.atNs (v.inNs + 16000)).dropLearn v →
      (y.keyLocked 0 v.key = false → Answers (.learnEventService false) d ((y.leashSub v.port).serve v)) ∧
      (y.keyLocked 0 v.key = true → y.fwd.park.length < 16 → Answers (.learnEventService false) d
        { y with fwd := { y.fwd with park := y.fwd.park ++ [v] } }) ∧
      (y.keyLocked 0 v.key = true → 16 ≤ y.fwd.park.length → Answers (.learnEventService false) d
        (((y.leashSub v.port).count LRN_LQ_OVF).raise pgLRN 9))) ∧
    (d.works pgLRN = true → y = ({ d with fwd := { d.fwd with learnQ := [], park := [] } } : Dev).lqCount →
      z = (y.each (d.fwd.learnQ ++ d.fwd.park) (fun v t => ((t.leashSub v.port).count LRN_LQ_OVF).raise pgLRN 9)).queueReset 4 0 →
      z.works pgLRN = true → z.nextLearn = none → Answers (.learnEventService true) d z) ∧
    (slot < 2 ^ 20 → m = keyOf 0 (d.ent 0 slot) → d.due ⟨.pin, m, 0⟩ = some e → y = (d.at_ e).cancel ⟨.pin, m, 0⟩ →
      ent = y.ent 0 slot →
      (isValid 0 ent = true → nbit ent 83 = true → Answers (.pinHoldExpiry slot) d
        (y.rewrite 0 slot (nset (nset ent 83 83 0) 97 95 0))) ∧
      (isValid 0 ent = false ∨ nbit ent 83 = false → Answers (.pinHoldExpiry slot) d y)) ∧
    (d.due ⟨.sweepPass, 0, 0⟩ = some e →
      y = ((d.at_ e).cancel ⟨.sweepPass, 0, 0⟩).arm ⟨.sweepPass, 0, 0⟩ (e + msT (d.get LRN_SWEEP_PER_ms)) →
      (y.flag LRN_SWEEP_CTRL_en = true → y.fwd.sweepAt = none → Answers .sweepPassStart d
        { y with fwd := { y.fwd with sweepAt := some 0, parity := !y.fwd.parity } }) ∧
      (y.flag LRN_SWEEP_CTRL_en = false ∨ y.fwd.sweepAt.isSome = true → Answers .sweepPassStart d y)) ∧
    (d.accepts i = true → y = (if d.locked pgLRN = true then d.lockViol pgLRN i 0x114 2 else d) →
      (y.fwd.sweepAt = none → Answers (.sweepNow i) d
        { y with fwd := { y.fwd with sweepAt := some 0, parity := !y.fwd.parity } }) ∧
      (y.fwd.sweepAt.isSome = true → Answers (.sweepNow i) d y)) ∧
    (d.fwd.sweepAt = some n → n < tblSize 0 → d.works pgLRN = true →
      y = ({ d with fwd := { d.fwd with sweepAt := some (n + 1) } } : Dev).at_ (d.now + fabT 8) → ent = y.ent 0 n →
      (isValid 0 ent = false ∨ nbit ent 82 = true ∨ nbit ent 83 = true ∨ isLocked 0 ent = true ∨ nbit ent 114 = y.fwd.parity →
        Answers (.sweepSlotVisit hit) d y) ∧
      (isValid 0 ent = true → nbit ent 82 = false → nbit ent 83 = false → isLocked 0 ent = false →
        nbit ent 114 = (!y.fwd.parity) → m = nset ent 114 114 (if y.fwd.parity = true then 1 else 0) →
        (hit = true ∨ nbit m 85 = true → Answers (.sweepSlotVisit hit) d (y.rewrite 0 n (nset (nset m 85 85 0) 86 86 0))) ∧
        (hit = false → nbit m 85 = false → nbit m 86 = false → Answers (.sweepSlotVisit hit) d
          (y.rewrite 0 n (nset m 86 86 1))) ∧
        (hit = false → nbit m 85 = false → nbit m 86 = true → Answers (.sweepSlotVisit hit) d
          ((y.remove 0 n).count LRN_REMOVED)))) ∧
    (d.fwd.sweepAt = some (tblSize 0) → Answers .sweepPassDone d
      ((({ d with fwd := { d.fwd with sweepAt := none } } : Dev).wrapInc LRN_SWEEP_CTRL_passes).raise pgLRN 11)) ∧
    (d.due ⟨.windowPass, 0, 0⟩ = some e →
      y = ((d.at_ e).cancel ⟨.windowPass, 0, 0⟩).arm ⟨.windowPass, 0, 0⟩ (e + secT 2) →
      Answers .windowPass d (y.each (y.fwd.tab.filter (fun a => decide (a.1 < 2 ^ 20))) (fun a t =>
        if isValid 0 (t.ent 0 a.1) && !nbit (t.ent 0 a.1) 83 && !isLocked 0 (t.ent 0 a.1) && nb (t.ent 0 a.1) 97 95 != 0 &&
          decide (t.windowW ≤ t.elapsed (t.ent 0 a.1)) then t.setEnt 0 a.1 (nset (t.ent 0 a.1) 97 95 0) else t))) ∧
    (d.accepts i = true → d.locked pgFWD = false →
      y = (d.put FWD_TRACE_CTRL_any (bitsOf w 9 9)).put FWD_TRACE_CTRL_port (bitsOf w 6 0) →
      x = (if w.getLsbD 8 = true then y.put FWD_TRACE_CTRL_arm 1 else y) → Answers (.traceArm i w) d x)

/-- The table DMA descriptors: the status each is written back with, and what it does to its table (R93, R94, R101, R102, R104) -/
def Obligations.TableDescriptorsAct : Prop :=
  ∀ (d d' y : Dev) (c k : Nat) (x : TblDesc), c < 2 → x.wf = true → d.ringBusy c = true → x.own = true →
    d.running ⟨.flush, c, 0⟩ = false →
    (∀ op : Instr × Nat, op ∈ [(.tblInsert c x, 1), (.tblUpdate c x, 2), (.tblDelete c x, 3), (.tblLookup c x, 4),
      (.tblReadIdx c x, 5), (.tblWriteIdx c x, 6), (.tblReadLock c x, 7), (.tblWriteUnlock c x, 8), (.tblUnlock c x, 9),
      (.tblEpoch c x, 11)] →
      (d.pw.halted = true → Answers op.1 d (d.writeBack c op.2 x stHalt x.index none)) ∧
      (d.pw.halted = false → x.ue = 1 → Answers op.1 d (d.ringHalt c op.2 x))) ∧
    (d.pw.halted = false → x.ue ≠ 1 →
      Answers (.tblEpoch c x) d (d.writeBack c 0xB x stOk x.index none) ∧
      (x.table < 3 → badEntry x = false → namesReserved x.table (d.hashedEntry x) = false → x.ue = 2 →
        Answers (.tblInsert c x) d ((d.tableUe 4 x.table x.bad).ringHalt c 1 x)) ∧
      (x.table < 3 → d.findKey x.table (dmaKey x) = some k → x.ue = 2 →
        Answers (.tblLookup c x) d ((d.tableUe 4 x.table k).ringHalt c 4 x) ∧
        Answers (.tblDelete c x) d ((d.tableUe 4 x.table k).ringHalt c 3 x) ∧
        Answers (.tblReadLock c x) d ((d.tableUe 4 x.table k).ringHalt c 7 x) ∧
        Answers (.tblUnlock c x) d ((d.tableUe 4 x.table k).ringHalt c 9 x)) ∧
      (x.index < tblSize x.table → x.ue = 2 → Answers (.tblReadIdx c x) d ((d.tableUe 4 x.table x.index).ringHalt c 5 x)) ∧
      (3 ≤ x.table →
        Answers (.tblInsert c x) d (d.writeBack c 1 x stBadOp x.index none) ∧
        Answers (.tblDelete c x) d (d.writeBack c 3 x stBadOp x.index none) ∧
        Answers (.tblLookup c x) d (d.writeBack c 4 x stBadOp x.index none) ∧
        Answers (.tblReadLock c x) d (d.writeBack c 7 x stBadOp x.index none) ∧
        Answers (.tblUnlock c x) d (d.writeBack c 9 x stBadOp x.index none)) ∧
      (badEntry x = true →
        Answers (.tblInsert c x) d (d.writeBack c 1 x stBadOp x.index none) ∧
        Answers (.tblUpdate c x) d (d.writeBack c 2 x stBadOp x.index none) ∧
        Answers (.tblWriteUnlock c x) d (d.writeBack c 8 x stBadOp x.index none)) ∧
      (x.table < 3 → badEntry x = false → namesReserved x.table (d.hashedEntry x) = true →
        Answers (.tblInsert c x) d (d.writeBack c 1 x stReserved x.index none) ∧
        Answers (.tblUpdate c x) d (d.writeBack c 2 x stReserved x.index none) ∧
        Answers (.tblWriteUnlock c x) d (d.writeBack c 8 x stReserved x.index none))) ∧
    (d.pw.halted = false → x.ue ≠ 1 → x.ue ≠ 2 → x.table < 3 →
      (badEntry x = false → namesReserved x.table (d.hashedEntry x) = false →
        (d.findKey x.table (dmaKey x) = none →
          (d.insert x.table (d.hashedEntry x) = some (k, d') → Answers (.tblInsert c x) d
            ((d'.pinWritten x.table k).writeBack c 1 x stOk k none)) ∧
          (d.insert x.table (d.hashedEntry x) = none → Answers (.tblInsert c x) d
            ((d.raise pgTBL 12).writeBack c 1 x stFull x.index none)) ∧
          Answers (.tblUpdate c x) d (d.writeBack c 2 x stNotFound x.index none) ∧
          Answers (.tblWriteUnlock c x) d (d.writeBack c 8 x stNotFound x.index none)) ∧
        (d.findKey x.table (dmaKey x) = some k → isLocked x.table (d.ent x.table k) = false →
          Answers (.tblInsert c x) d (d.writeBack c 1 x stExists k none) ∧
          Answers (.tblUpdate c x) d (((d.rewrite x.table k (d.hashedEntry x)).pinWritten x.table k).writeBack c 2 x stOk k none) ∧
          Answers (.tblWriteUnlock c x) d (d.writeBack c 8 x stNotLocked k none)) ∧
        (d.findKey x.table (dmaKey x) = some k → isLocked x.table (d.ent x.table k) = true →
          y = ((d.rewrite x.table k (d.hashedEntry x)).pinWritten x.table k).unlockEnt x.table k →
          Answers (.tblInsert c x) d (d.writeBack c 1 x stLocked k none) ∧
          Answers (.tblUpdate c x) d (d.writeBack c 2 x stLocked k none) ∧
          Answers (.tblWriteUnlock c x) d (y.writeBack c 8 x stOk k none))) ∧
      (d.findKey x.table (dmaKey x) = none →
        Answers (.tblDelete c x) d (d.writeBack c 3 x stNotFound x.index none) ∧
        Answers (.tblLookup c x) d (d.writeBack c 4 x stNotFound x.index none) ∧
        Answers (.tblReadLock c x) d (d.writeBack c 7 x stNotFound x.index none) ∧
        Answers (.tblUnlock c x) d (d.writeBack c 9 x stNotFound x.index none)) ∧
      (d.findKey x.table (dmaKey x) = some k → Answers (.tblLookup c x) d
        (d.writeBack c 4 x stOk k (some (x.key, d.ent x.table k)))) ∧
      (d.findKey x.table (dmaKey x) = some k → isLocked x.table (d.ent x.table k) = false →
        Answers (.tblDelete c x) d ((d.remove x.table k).writeBack c 3 x stOk k none) ∧
        (d.fwd.locks.length < 16 → y = d.lockEnt x.table k → Answers (.tblReadLock c x) d
          (y.writeBack c 7 x stOk k (some (x.key, y.ent x.table k)))) ∧
        (16 ≤ d.fwd.locks.length → Answers (.tblReadLock c x) d (d.writeBack c 7 x stLockLimit k none)) ∧
        Answers (.tblUnlock c x) d (d.writeBack c 9 x stNotLocked k none)) ∧
      (d.findKey x.table (dmaKey x) = some k → isLocked x.table (d.ent x.table k) = true →
        Answers (.tblDelete c x) d (d.writeBack c 3 x stLocked k none) ∧
        Answers (.tblReadLock c x) d (d.writeBack c 7 x stLocked k none) ∧
        Answers (.tblUnlock c x) d ((d.unlockEnt x.table k).writeBack c 9 x stOk k none))) ∧
    (d.pw.halted = false → x.ue ≠ 1 → x.ue ≠ 2 →
      (tblSize x.table ≤ x.index → Answers (.tblReadIdx c x) d (d.writeBack c 5 x stBadOp x.index none)) ∧
      (x.index < tblSize x.table → Answers (.tblReadIdx c x) d (d.writeBack c 5 x stOk x.index (some
        (if x.table = 5 then (nb (d.ent 5 x.index) 511 0, nb (d.ent 5 x.index) 639 512)
         else if x.table < 3 then (keyOf x.table (d.ent x.table x.index), d.ent x.table x.index)
         else (x.key, d.ent x.table x.index))))) ∧
      (x.table < 3 ∨ tblSize x.table ≤ x.index ∨ (x.table = 5 ∧ 5 ≤ nb x.entry 2 0) →
        Answers (.tblWriteIdx c x) d (d.writeBack c 6 x stBadOp x.index none)) ∧
      (3 ≤ x.table → x.index < tblSize x.table → (x.table = 5 → nb x.entry 2 0 < 5) →
        (namesReserved x.table (dmaWhole x) = true → Answers (.tblWriteIdx c x) d
          (d.writeBack c 6 x stReserved x.index none)) ∧
        (namesReserved x.table (dmaWhole x) = false → Answers (.tblWriteIdx c x) d
          ((d.rewrite x.table x.index (dmaWhole x)).writeBack c 6 x stOk x.index none))))

/-- The flush of the exact-match table, the ring's resume and the expiry of a lock: the next state of each stated whole (R53, R101, R102) -/
def Obligations.FlushAndLocksAct : Prop :=
  ∀ (d y z : Dev) (i : Initiator) (c e t k : Nat) (x : TblDesc) (f : Flush) (hits : List Nat), c < 2 →
    (x.wf = true → d.ringBusy c = true → x.own = true → d.running ⟨.flush, c, 0⟩ = false →
      (d.pw.halted = true → Answers (.tblFlush c x) d (d.writeBack c 0xA x stHalt x.index none)) ∧
      (d.pw.halted = false →
        (x.ue = 1 → Answers (.tblFlush c x) d (d.ringHalt c 0xA x)) ∧
        (x.ue ≠ 1 → x.table ≠ 0 → Answers (.tblFlush c x) d (d.writeBack c 0xA x stBadOp x.index none)) ∧
        (x.ue ≠ 1 → x.table = 0 → y = d.armIn ⟨.flush, c, 0⟩ (msT 2) →
          Answers (.tblFlush c x) d { y with fwd := { d.fwd with flushes := d.fwd.flushes ++ [⟨c, x⟩] } }))) ∧
    (x.wf = true → d.running ⟨.flush, c, 0⟩ = true → ∀ op : Instr, op ∈ [.tblInsert c x, .tblUpdate c x, .tblDelete c x,
      .tblLookup c x, .tblReadIdx c x, .tblWriteIdx c x, .tblReadLock c x, .tblWriteUnlock c x, .tblUnlock c x, .tblEpoch c x,
      .tblFlush c x] → Answers op d d) ∧
    (d.due ⟨.flush, c, 0⟩ = some e → d.fwd.flushes.find? (fun f => f.ring == c) = some f →
      y = ({ d.cancel ⟨.flush, c, 0⟩ with fwd := { d.fwd with flushes := d.fwd.flushes.filter (fun f => f.ring != c) } } : Dev) →
      (f.desc.ue = 2 → Answers (.tblFlushDone c) d ((y.tableUe 4 0 f.desc.bad).ringHalt c 0xA f.desc)) ∧
      (f.desc.ue ≠ 2 → hits = ((((y.fwd.tab.filter (fun a => decide (a.1 < 2 ^ 20))).map (fun a => a.1)).filter (fun i =>
          flushMatch f.desc (y.ent 0 i)))).reverse →
        z = y.each hits (fun i t => if flushMatch f.desc (t.ent 0 i) && !isLocked 0 (t.ent 0 i) then t.remove 0 i else t) →
        Answers (.tblFlushDone c) d (z.writeBack c 0xA f.desc
          (if hits.any (fun i => isLocked 0 (y.ent 0 i)) then stLocked else stOk) f.desc.index none))) ∧
    (d.accepts i = true → y = (if d.locked pgTBL = true then d.lockViol pgTBL i (0x118 + 0x20 * c) 2 else d) →
      Answers (.tblRingResume i c) d (y.put (TBL_RING_STAT_halted c) 0)) ∧
    (t < 3 → k < tblSize t → d.due ⟨.tableLock, t, k⟩ = some e → Answers (.lockExpiry t k) d
      (((((d.at_ e).cancel ⟨.tableLock, t, k⟩).unlockEnt t k).count TBL_LOCK_EXP).raise pgTBL 11))

/-- The windows of the traffic manager: reads, staging, the copy of counters and the entries of gate lists, each stated whole (R53, R122, R126, R127) -/
def Obligations.WindowCommandsAct : Prop :=
  ∀ (d y z : Dev) (i : Initiator) (w : Window) (staged : Bool) (s n v : Nat),
    (d.accepts i = true → d.flag TRM_STR_STAT_busy = false → y = d.put TRM_STR_STAT_err 0 → s = y.get TRM_STR_SEL_stream →
      (v = (if staged && y.trm.streamsD.contains s then NMap.get 0 y.trm.streamsS s else y.stream s) →
        Answers (.streamRead i staged) d ((y.loadWords TRM_STR_DATA 5 v).put TRM_STR_STAT_busy 1)) ∧
      (d.locked (winRegs .stream).page = false → z = ({ y with trm := { y.trm with
          streamsS := NMap.set 0 y.trm.streamsS s (y.readWords TRM_STR_DATA 5),
          streamsD := y.trm.streamsD.filter (fun e => e != s) ++ [s] } } : Dev) →
        Answers (.streamStage i) d (z.put TRM_STR_STAT_busy 1)) ∧
      (z = y.each (List.range 8) (fun j t =>
          let t := t.wr (TRM_STR_CNT j) (BitVec.ofNat 32 (NMap.get 0 t.trm.streamCnt (s * 8 + j)));
          { t with trm := { t.trm with streamCnt := NMap.set 0 t.trm.streamCnt (s * 8 + j) 0 } }) →
        Answers (.streamCountersCopy i) d (z.put TRM_STR_STAT_busy 1))) ∧
    (d.accepts i = true → d.flag TRM_SG_STAT_busy = false → y = d.put TRM_SG_STAT_err 0 → s = y.get TRM_SG_SEL_gate →
      n = y.readWords TRM_SG_DATA 4 →
      (v = (if y.flag TRM_SG_SEL_target then y.gateEnt s (y.get TRM_SG_SEL_bank) (y.get TRM_SG_SEL_entry)
          else if staged && y.trm.gatesD.contains s then NMap.get 0 y.trm.gatesS s else y.gateRec s) →
        Answers (.streamGateRead i staged) d ((y.loadWords TRM_SG_DATA 4 v).put TRM_SG_STAT_busy 1)) ∧
      (d.locked (winRegs .streamGate).page = false → d.flag TRM_SG_SEL_target = true → y.flag TRM_SG_SEL_target = true →
        ((d.gateRun (d.get TRM_SG_SEL_gate)).bankBusy (d.get TRM_SG_SEL_bank) = false →
          z = ({ y with trm := { y.trm with
            gateEnt := NMap.set 0 y.trm.gateEnt (s * 128 + y.get TRM_SG_SEL_bank * 64 + y.get TRM_SG_SEL_entry) (n % 2 ^ 37) } } : Dev) →
          Answers (.streamGateWrite i) d (z.put TRM_SG_STAT_busy 1)) ∧
        ((d.gateRun (d.get TRM_SG_SEL_gate)).bankBusy (d.get TRM_SG_SEL_bank) = true →
          Answers (.streamGateWrite i) d (d.winRefuse i .streamGate 2))) ∧
      (d.locked (winRegs .streamGate).page = false → d.flag TRM_SG_SEL_target = false → y.flag TRM_SG_SEL_target = false →
        z = ({ y with trm := { y.trm with
          gatesS := NMap.set 0 y.trm.gatesS s n,
          gatesD := y.trm.gatesD.filter (fun e => e != s) ++ [s] } } : Dev) →
        Answers (.streamGateWrite i) d (z.put TRM_SG_STAT_busy 1))) ∧
    (d.accepts i = true → d.flag TRM_FR_STAT_busy = false → y = d.put TRM_FR_STAT_err 0 → s = y.get TRM_FR_SEL_fn →
      (v = (if staged && y.trm.recsD.contains s then NMap.get 0 y.trm.recsS s else y.recRec s) →
        z = y.loadWords TRM_FR_DATA 2 v →
        Answers (.recoveryRead i staged) d ((((z.put TRM_FR_ST0_take_any (if (y.recov s).takeAny then 1 else 0)).put TRM_FR_ST0_seq
          (y.recov s).seq).put TRM_FR_ST1_history (y.recov s).history).put TRM_FR_STAT_busy 1)) ∧
      (d.locked (winRegs .recovery).page = false → z = ({ y with trm := { y.trm with
          recsS := NMap.set 0 y.trm.recsS s (y.readWords TRM_FR_DATA 2),
          recsD := y.trm.recsD.filter (fun e => e != s) ++ [s] } } : Dev) →
        Answers (.recoveryStage i) d (z.put TRM_FR_STAT_busy 1)) ∧
      (z = y.each (List.range 8) (fun j t =>
          let t := t.wr (TRM_FR_CNT j) (BitVec.ofNat 32 (NMap.get 0 t.trm.recCnt (s * 8 + j)));
          { t with trm := { t.trm with recCnt := NMap.set 0 t.trm.recCnt (s * 8 + j) 0 } }) →
        Answers (.recoveryCountersCopy i) d (z.put TRM_FR_STAT_busy 1))) ∧
    (d.accepts i = true → d.flag TRM_GCL_STAT_busy = false → y = d.put TRM_GCL_STAT_err 0 →
      (d.get TRM_GCL_SEL_port ≤ 56 → v = NMap.get 0 y.trm.gcl y.gclSel → Answers (.gclRead i) d
        ((((y.put TRM_GCL_DATA_LO_interval (nb v 31 0)).put TRM_GCL_DATA_HI_op (nb v 41 40)).put TRM_GCL_DATA_HI_gates
          (nb v 39 32)).put TRM_GCL_STAT_busy 1)) ∧
      (d.locked (winRegs .gcl).page = false → d.get TRM_GCL_SEL_port ≤ 56 → (d.tas (d.get TRM_GCL_SEL_port)).bankBusy (d.get TRM_GCL_SEL_bank) = false →
        v = y.get TRM_GCL_DATA_LO_interval + y.get TRM_GCL_DATA_HI_gates * 2 ^ 32 + y.get TRM_GCL_DATA_HI_op * 2 ^ 40 →
        z = ({ y with trm := { y.trm with gcl := NMap.set 0 y.trm.gcl y.gclSel v } } : Dev) →
        Answers (.gclWrite i) d (z.put TRM_GCL_STAT_busy 1)) ∧
      (56 < d.get TRM_GCL_SEL_port → Answers (.gclRead i) d (d.winRefuse i .gcl 1)) ∧
      (d.locked (winRegs .gcl).page = false → 56 < d.get TRM_GCL_SEL_port ∨ (d.tas (d.get TRM_GCL_SEL_port)).bankBusy (d.get TRM_GCL_SEL_bank) = true →
        Answers (.gclWrite i) d (d.winRefuse i .gcl 2))) ∧
    (∀ c : Instr × Window × Nat, c ∈ [(.streamRead i staged, .stream, 1), (.streamStage i, .stream, 2),
        (.streamCountersCopy i, .stream, 3), (.streamGateRead i staged, .streamGate, 1), (.streamGateWrite i, .streamGate, 2),
        (.recoveryRead i staged, .recovery, 1), (.recoveryStage i, .recovery, 2), (.recoveryCountersCopy i, .recovery, 3),
        (.gclRead i, .gcl, 1), (.gclWrite i, .gcl, 2)] → d.accepts i = true →
      (c.2.2 = 2 → d.locked (winRegs c.2.1).page = false) → d.flag (winRegs c.2.1).busy = true → Answers c.1 d (d.winRefuse i c.2.1 c.2.2)) ∧
    (∀ c : Instr × Window × Nat, c ∈ [(.streamStage i, .stream, 2), (.streamGateWrite i, .streamGate, 2),
        (.recoveryStage i, .recovery, 2), (.gclWrite i, .gcl, 2)] → d.accepts i = true →
      d.locked (winRegs c.2.1).page = true →
      Answers c.1 d (d.lockViol (winRegs c.2.1).page i (winRegs c.2.1).off c.2.2)) ∧
    Answers (.windowCommandDone w) d (d.put (winRegs w).busy 0)

/-- Gate lists, the credit read, preemption verification, recovery time-out and the latent error test (R111, R114, R116, R119, R122, R124, R125, R127, R145, R398) -/
def Obligations.GatesAct : Prop :=
  ∀ (d y z : Dev) (i : Initiator) (p : EthPort) (g e t f : Nat) (r r' : GateRun) (c n : ListCfg) (v : Word)
      (ent : Nat → Nat → Nat), g < 128 → f < 1024 →
    (r.pend = some n →
      (∀ c, r.cur = some c → r.holding = false → r.until_ < r.cycle0 + c.cycle → n.start ≤ r.until_) →
      r' = { r with cur := some n, cycle0 := n.start, pend := none, holding := false, err := false, entry := 0,
                    until_ := if n.len ≤ 1 then n.start + n.cycle
                              else min (n.start + nb (ent n.bank 0) 31 0) (n.start + n.cycle) } →
      (∀ c, r.cur = some c → r.holding = false → r.cycle0 + c.cycle ≤ r.until_ → n.start ≤ r.cycle0 + c.cycle) →
      (d.tas p = r → ent = d.gclEnt p → t = n.start - d.tasAdv p → y = d.atNs t →
        (d.pw.halted = false → d.turn (d.turnAt (.gate p) t) = true → Answers (.gateListStart p false) d
          ((y.setTas p r').applyEntry p)) ∧
        (d.pw.halted = false → d.turn (d.turnAt (.gate p) t) = true → Answers (.gateListStart p true) d
          ((y.gclStop p).uncorrectable 7 (trmUnit 4 (p * 2048 + n.bank * 1024)) 8)) ∧
        (d.pw.halted = true → Answers (.gateListStart p false) d d)) ∧
      (d.gateRun g = r → ent = d.gateEnt g →
        (d.pw.halted = false → d.turn (d.turnAt (.streamGate g) n.start) = true → Answers (.streamGateListStart g) d
          ((d.atNs n.start).setGateRun g r')) ∧
        (d.pw.halted = true → Answers (.streamGateListStart g) d d))) ∧
    (r.cur = some c → r.holding = false → r.until_ < r.cycle0 + c.cycle → (∀ n, r.pend = some n → r.until_ < n.start) →
      r' = { r with entry := r.entry + 1, until_ := if c.len ≤ r.entry + 1 + 1 then r.cycle0 + c.cycle
                                                    else min (r.until_ + nb (ent c.bank (r.entry + 1)) 31 0) (r.cycle0 + c.cycle) } →
      (d.tas p = r → ent = d.gclEnt p → y = d.atNs (r.until_ - d.tasAdv p) →
        Answers (.gateEntryEnd p false) d ((y.setTas p r').applyEntry p) ∧
        Answers (.gateEntryEnd p true) d
          ((y.gclStop p).uncorrectable 7 (trmUnit 4 (p * 2048 + c.bank * 1024 + (r.entry + 1))) 8)) ∧
      (d.gateRun g = r → ent = d.gateEnt g → Answers (.streamGateEntryEnd g) d ((d.atNs r.until_).setGateRun g r'))) ∧
    (r.cur = some c → r.holding = false → t = r.cycle0 + c.cycle → t ≤ r.until_ → (∀ n, r.pend = some n → t < n.start) →
      (r' = { r with holding := true } ∧ (∃ n, r.pend = some n ∧ n.start - t < n.ext)) ∨
        (r' = { r with cycle0 := t, entry := 0, until_ := if c.len ≤ 1 then t + c.cycle
                                                        else min (t + nb (ent c.bank 0) 31 0) (t + c.cycle) } ∧
          (∀ n, r.pend = some n → n.ext ≤ n.start - t)) →
      (d.tas p = r → ent = d.gclEnt p → y = d.atNs (t - d.tasAdv p) →
        Answers (.gateListCycleEnd p false) d ((y.setTas p r').applyEntry p) ∧
        Answers (.gateListCycleEnd p true) d
          ((y.gclStop p).uncorrectable 7 (trmUnit 4 (p * 2048 + c.bank * 1024 + r'.entry)) 8)) ∧
      (d.gateRun g = r → ent = d.gateEnt g → Answers (.streamGateEntryEnd g) d ((d.atNs t).setGateRun g r'))) ∧
    (d.accepts i = true → d.locked (pgTRM 7) = false →
      y = ((d.put TRM_CBS_SEL_port (bitsOf v 8 3)).put TRM_CBS_SEL_class (bitsOf v 2 0)).creditPort (bitsOf v 8 3) →
      Answers (.cbsSelWrite i v) d
        (y.wr TRM_CBS_CRED (BitVec.ofNat 32 (unsigned 32 (y.creditBits (bitsOf v 8 3) (bitsOf v 2 0)))))) ∧
    (d.get (TRM_PRE_STAT_verify p) = 2 →
      Answers (.preemptVerifyDone p true) d (d.put (TRM_PRE_STAT_verify p) 3) ∧
      Answers (.preemptVerifyDone p false) d ((d.put (TRM_PRE_STAT_verify p) 4).raise (pgTRM (4 + p / 20)) 10)) ∧
    (d.due ⟨.recovReset, f, 0⟩ = some e → y = (d.at_ e).cancel ⟨.recovReset, f, 0⟩ →
      z = y.setRecov f { y.recov f with takeAny := true, history := 0, span := 0 } →
      Answers (.recoveryResetTimeout f) d ((z.recCount f 6 1).raise (pgTRM 3) 9)) ∧
    (d.due ⟨.latent, f, 0⟩ = some e → t = e + msT (nb (d.recRec f) 56 41) →
      y = ((d.at_ e).cancel ⟨.latent, f, 0⟩).arm ⟨.latent, f, 0⟩ t →
      z = y.setRecov f { y.recov f with passed := 0, discarded := 0 } →
      ((y.recov f).discarded + nb (y.recRec f) 40 25 < (y.recov f).passed → Answers (.latentErrorTest f) d
        ((z.recCount f 7 1).raise (pgTRM 3) 8)) ∧
      ((y.recov f).passed ≤ (y.recov f).discarded + nb (y.recRec f) 40 25 → Answers (.latentErrorTest f) d z))

/-- Servo samples, adjustments of device time and the egress timestamp queues: the next state of each stated whole (R53, R129, R132, R133, R135, R141) -/
def Obligations.TimeServoActs : Prop :=
  ∀ (d u w x y z : Dev) (i : Initiator) (v : Word) (e n gen slot : Nat) (rest : List Nat) (s : Sample) (p : EthPort) (m : Bool)
      (rate integ r iv : Int),
    (d.accepts i = true → z = (if d.locked pgTIM = true then d.lockViol pgTIM i 0x150 v.toNat else d) →
      gen = (if d.locked pgTIM = true then z.get TIM_MEAS_CTL_gen else bitsOf v 15 8) →
      slot = (if d.locked pgTIM = true then z.get TIM_MEAS_CTL_slot else bitsOf v 5 4) →
      y = (z.put TIM_MEAS_CTL_gen gen).put TIM_MEAS_CTL_slot slot →
      s = { e := signed 64 (y.rd64 TIM_MEAS_E_LO TIM_MEAS_E_HI), t := y.rd64 TIM_MEAS_T_LO TIM_MEAS_T_HI,
            slot := slot, gen := gen, cascade := false } →
      (v.getLsbD 0 = false → Answers (.sampleSubmit i v) d y) ∧
      (v.getLsbD 0 = true → z.flag TIM_MEAS_CTL_submit = true ∨ y.get TIM_SRC_src ≠ 1 ∨ slot ≠ y.get TIM_SRC_slot →
        Answers (.sampleSubmit i v) d (y.count TIM_REFUSED)) ∧
      (v.getLsbD 0 = true → z.flag TIM_MEAS_CTL_submit = false → y.get TIM_SRC_src = 1 → slot = y.get TIM_SRC_slot →
        x = (y.put TIM_MEAS_CTL_submit 1).armIn ⟨.sampleApply, 0, 0⟩ (timT 4) →
        Answers (.sampleSubmit i v) d { x with tim := { (y.put TIM_MEAS_CTL_submit 1).tim with sample := some s } })) ∧
    (d.due ⟨.sampleApply, 0, 0⟩ = some e → d.tim.sample = some s →
      x = ({ d.cancel ⟨.sampleApply, 0, 0⟩ with tim := { d.tim with sample := none } } : Dev) →
      y = (if s.cascade = true then x else x.put TIM_MEAS_CTL_submit 0) →
      (y.sampleRefused s = true → Answers .sampleApply d ((y.count TIM_REFUSED).afterStep d)) ∧
      (y.sampleRefused s = false → s.t < y.tim.tStep → Answers .sampleApply d ((y.count TIM_STALE).afterStep d)) ∧
      (y.sampleRefused s = false → y.tim.tStep ≤ s.t → m = (s.gen != y.get TIM_STAT_gen) →
        rate = (if m = true then y.integ else y.rateQ) →
        (y.get TIM_STAT_state = 2 → m = false → y.get TIM_OUTLIER_ns * 65536 < s.e.natAbs →
          y.tim.outlRun + 1 < y.get TIM_OUTLIER_cnt →
          z = ({ y with tim := { y.tim with outlRun := y.tim.outlRun + 1 } } : Dev) →
          Answers .sampleApply d (((z.count TIM_OUTLIERS).raise pgTIM 11).afterStep d)) ∧
        (y.get TIM_STAT_state ≠ 2 ∨ m = true ∨ s.e.natAbs ≤ y.get TIM_OUTLIER_ns * 65536 ∨
            y.get TIM_OUTLIER_cnt ≤ y.tim.outlRun + 1 →
          z = ((({ y with tim := { y.tim with outlRun := 0 } } : Dev).wrapInc ⟨TIM_SAMPLES, 31, 0⟩).put TIM_STAT_gen s.gen).wr
            TIM_LAST_E (BitVec.ofNat 32 (unsigned 32 (sat32 (s.e / 65536)))) →
          w = z.armIn ⟨.holdover, 0, 0⟩ (msT (z.get TIM_HOLD_TMO_ms)) → iv = s.t - w.tim.tPrev →
          (w.get TIM_STEP_THR_ns * 65536 ≤ s.e.natAbs → u = (w.servo rate 0).stepTime s.e → Answers .sampleApply d
            ((({ u with tim := { u.tim with tPrev := s.t + s.e / 65536 } } : Dev).accepted s.e m true).afterStep d)) ∧
          (s.e.natAbs < w.get TIM_STEP_THR_ns * 65536 → u = ({ w with tim := { w.tim with tPrev := s.t } } : Dev) →
            (m = true ∨ iv ≤ 0 ∨ (u.get TIM_HOLD_TMO_ms : Int) * 1000000 < iv → Answers .sampleApply d
              (((u.servo rate 0).accepted s.e m false).afterStep d)) ∧
            (m = false → 0 < iv → iv ≤ (u.get TIM_HOLD_TMO_ms : Int) * 1000000 → r = (s.e * 2 ^ 24).tdiv iv →
              integ = u.clampRate (u.integ + r / 2 ^ u.get TIM_SERVO_CFG_ki) → Answers .sampleApply d
              ((((u.setInteg integ).servo (u.clampRate (integ + r / 2 ^ u.get TIM_SERVO_CFG_kp)) 0).accepted s.e m
                false).afterStep d)))))) ∧
    (d.due ⟨.holdover, 0, 0⟩ = some e → y = (d.at_ e).cancel ⟨.holdover, 0, 0⟩ → z = (y.put TIM_STAT_state 3).raise pgTIM 8 →
      (y.get TIM_STAT_state = 1 ∨ y.get TIM_STAT_state = 2 → Answers .holdoverTimeout d
        (((z.servo z.integ 0).put TIM_STAT_lock_run 0).raise pgTIM 9)) ∧
      (y.get TIM_STAT_state ≠ 1 → y.get TIM_STAT_state ≠ 2 → Answers .holdoverTimeout d y)) ∧
    (d.accepts i = true → d.get TIM_SRC_src = 0 ∨ d.get TIM_SRC_src = 3 → y = d.at_ (d.now + timT 1) →
      Answers (.adjStep i) d ((y.stepTime (signed 64 (y.rd64 TIM_ADJ_LO TIM_ADJ_HI) * 65536)).afterStep d) ∧
      Answers (.adjSet i) d ((y.stepTime ((y.rd64 TIM_ADJ_LO TIM_ADJ_HI : Int) * 65536 - y.tq)).afterStep d) ∧
      (rate = y.clampRate (signed 32 (y.rd TIM_ADJ_LO).toNat) → Answers (.adjRate i) d ((y.setInteg rate).servo rate 0))) ∧
    (d.accepts i = true → d.get TIM_SRC_src ≠ 0 → d.get TIM_SRC_src ≠ 3 →
      Answers (.adjStep i) d ((d.setErr pgTIM i 0x178 1).afterStep d) ∧
      Answers (.adjSet i) d ((d.setErr pgTIM i 0x178 2).afterStep d) ∧
      Answers (.adjRate i) d (d.setErr pgTIM i 0x178 3)) ∧
    (d.accepts i = true → y = (if m = true then d.tsqMismatch p else d) →
      (y.tsqItems p = [] → Answers (.tsqRead i p m) d
        ((y.wr (TIM_TSQ_HI p) 0xF0000000).emit (.readValue i (TIM_TSQ_LO p) 0))) ∧
      (y.tsqItems p = n :: rest → Answers (.tsqRead i p m) d
        (((y.setTsq p rest).wr (TIM_TSQ_HI p) (BitVec.ofNat 32 (n / 2 ^ 32))).emit
          (.readValue i (TIM_TSQ_LO p) (BitVec.ofNat 32 n))))) ∧
    (d.accepts i = true → d.locked pgTIM = false → Answers (.tsqCapSelWrite i v) d ((d.put TIM_TSQ_CAP_SEL_port (bitsOf v 6 0)).tsqCapShow)) ∧
    (d.accepts i = true → d.locked pgTIM = true → Answers (.tsqCapSelWrite i v) d (d.lockViol pgTIM i 0x348 v.toNat)) ∧
    (d.accepts i = true → y = ({ d with tim := { d.tim with tsqCap := NMap.set none d.tim.tsqCap (d.get TIM_TSQ_CAP_SEL_port) none } } : Dev) →
      Answers (.tsqCapClear i) d y.tsqCapShow)

/-- Launch slots: arming, cancelling, execution at the launch time and in Halt; the pins of the TIM slots and the capture of edges (R26, R53, R143, R144, R146, R147, R148, R374) -/
def Obligations.SlotsAndPinsAct : Prop :=
  ∀ (d y z : Dev) (fin : Dev → Dev) (i : Initiator) (sl : Slot) (w w' : Word) (k : TimSlot) (g : Gpio) (e j n : Nat)
      (rising wanted : Bool), j < 4 →
    (d.accepts i = true → sl.hasWord = true → (sl ≠ .handover ∨ w.getLsbD 31 = false) → d.locked (slotPage sl) = false →
      (w.getLsbD 31 = true →
        (Sys2Proof.Machine.accepts sl (ctlAction w) = false ∨ badArgs sl w = true ∨
            (ctlRearm w = true ∧ (d.slot sl).per < minPeriod sl) →
          Answers (.slotArm i sl w) d (d.ignoredErr (slotPage sl) i (slotOff sl) w.toNat)) ∧
        (Sys2Proof.Machine.accepts sl (ctlAction w) = true → badArgs sl w = false →
          (ctlRearm w = true → minPeriod sl ≤ (d.slot sl).per) →
          w' = BitVec.ofNat 32 (2 ^ 31 + (if ctlRearm w then 2 ^ 30 else 0) + (if (d.slot sl).ctl.getLsbD 29 then 2 ^ 29 else 0) +
            bitsOf w 27 0) →
          Answers (.slotArm i sl w) d ((d.setSlot sl { d.slot sl with ctl := w' }).setLate sl
            (if (d.slot sl).time ≤ d.ns + 5 then some (d.ticks + 2) else none)))) ∧
      (w.getLsbD 31 = false → d.begun sl = true → Answers (.slotDisarm i sl w) d d) ∧
      (w.getLsbD 31 = false → d.begun sl = false →
        w' = BitVec.ofNat 32 ((if ctlRearm w then 2 ^ 30 else 0) + ((if (d.slot sl).ctl.getLsbD 29 then 2 ^ 29 else 0) +
          (if (d.slot sl).ctl.getLsbD 28 then 2 ^ 28 else 0)) + bitsOf w 27 0) →
        z = (d.setSlot sl { d.slot sl with ctl := w' }).setLate sl none →
        Answers (.slotDisarm i sl w) d (if sl = .handover ∧ z.get UPD_STAT_state = 5 then z.put UPD_STAT_state 4 else z))) ∧
    (d.armed sl = true → d.pw.halted = false → d.turn (d.turnAt sl (d.slot sl).time) = true →
      y = (d.lateTick sl).elim (d.atNs (d.slot sl).time) (fun t => d.atTick t) →
      fin = (fun t => if (d.lateTick sl).isSome && !d.unowned sl then (t.complete sl true).countLate sl else t.complete sl false) →
      (sl = .tim k → n = y.slotGpio k →
        (ctlAction (d.slot sl).ctl = 0x10 → Answers (.gpioHigh k) d (fin ((y.cancel ⟨.pulse, n, 0⟩).drive n true))) ∧
        (ctlAction (d.slot sl).ctl = 0x11 → Answers (.gpioLow k) d (fin ((y.cancel ⟨.pulse, n, 0⟩).drive n false))) ∧
        (ctlAction (d.slot sl).ctl = 0x12 → Answers (.gpioToggle k) d
          (fin ((y.cancel ⟨.pulse, n, 0⟩).drive n (!bitAt y.tim.gpio n)))) ∧
        (ctlAction (d.slot sl).ctl = 0x13 → y.bit TIM_GPIO_OWN n = true → Answers (.gpioPulse k) d
          (fin ((y.drive n true).armIn ⟨.pulse, n, 0⟩ (usT (y.slotWidth k))))) ∧
        (ctlAction (d.slot sl).ctl = 0x13 → y.bit TIM_GPIO_OWN n = false → Answers (.gpioPulse k) d (fin y)) ∧
        (ctlAction (d.slot sl).ctl = 0x14 → Answers (.slotMessage k) d (fin (y.raise pgTIM 15)))) ∧
      (sl.hasWord = true → sl.wf = true → ctlAction (d.slot sl).ctl = 0 → Answers (.slotActionNone sl) d (fin y))) ∧
    (d.pw.halted = true → sl.hasWord = true → sl.wf = true → d.armed sl = true →
      Answers (.slotLaunchInHalt sl) d ((d.atNs (d.slot sl).time).complete sl false)) ∧
    (d.due ⟨.pulse, g, 0⟩ = some e → Answers (.gpioPulseEnd g) d (((d.at_ e).cancel ⟨.pulse, g, 0⟩).drive g false)) ∧
    (d.accepts i = true → d.locked pgTIM = false →
      y = d.each ((List.range 24).filter (fun g => !bitAt (bitsOf w 23 0) g)) (fun g t =>
        { t.cancel ⟨.pulse, g, 0⟩ with tim := { t.tim with gpio := setBitTo t.tim.gpio g false } }) →
      Answers (.gpioOwnWrite i w) d (y.put TIM_GPIO_OWN_pins (bitsOf w 23 0))) ∧
    (wanted = (d.flag (TIM_CAP_CFG_en j) && d.get (TIM_CAP_CFG_gpio j) == g.val && !d.bit TIM_GPIO_OWN g &&
        (d.get (TIM_CAP_CFG_edge j) == 2 || (d.get (TIM_CAP_CFG_edge j) == 0 && rising) ||
          (d.get (TIM_CAP_CFG_edge j) == 1 && !rising))) →
      (∀ j', j' < 4 → j' ≠ j → d.flag (TIM_CAP_CFG_en j') = false) →
      (wanted = false → Answers (.gpioCaptureEdge g rising) d d) ∧
      (wanted = true → n = NMap.get 0 d.tim.lastEdge j →
        y = ({ d with tim := { d.tim with lastEdge := NMap.set 0 d.tim.lastEdge j d.now } } : Dev) →
        (∀ j', j' < 4 → j' ≠ j → y.flag (TIM_CAP_CFG_en j') = false) →
        (n ≠ 0 → d.now < n + nsT 20 → Answers (.gpioCaptureEdge g rising) d y) ∧
        (n = 0 ∨ n + nsT 20 ≤ d.now → y.tim.capHeld.contains j = true → z = y.count (TIM_CAP_OVR j) →
          (∀ j', j' < 4 → j' ≠ j → z.flag (TIM_CAP_CFG_en j') = false) → Answers (.gpioCaptureEdge g rising) d z) ∧
        (n = 0 ∨ n + nsT 20 ≤ d.now → y.tim.capHeld.contains j = false →
          z = y.wr64 (TIM_CAP_T_LO j) (TIM_CAP_T_HI j) ((y.tq - 491520) / 65536 % 2 ^ 64).toNat →
          (∀ j', j' < 4 → j' ≠ j →
            (({ z with tim := { z.tim with capHeld := z.tim.capHeld ++ [j] } } : Dev).raise pgTIM 17).flag (TIM_CAP_CFG_en j') = false) →
          Answers (.gpioCaptureEdge g rising) d
            (({ z with tim := { z.tim with capHeld := z.tim.capHeld ++ [j] } } : Dev).raise pgTIM 17))))

/-- Training, link up and down, low-power idle, diagnosis, signal quality and the Ledger of an Ethernet port, each stated whole (R153, R154, R155, R156, R157, R167, R168, R338) -/
def Obligations.EthernetLinkActs : Prop :=
  ∀ (d u v w x y z : Dev) (i : Initiator) (p : EthPort) (e s ms result dist sqi corr unc pcs : Nat) (lpi : Bool),
    (d.ready (pgPHY p) = true → d.ready (pgETH p) = true → d.flag (ETH_STAT_link p) = false → d.testing p = false →
      d.codeLoading p = false → d.running ⟨.train, p, 0⟩ = false → Answers (.phyTrainingStart p) d
        ((d.put (PHY_STAT_pll p) 1).armIn ⟨.train, p, 0⟩ (trainTime p))) ∧
    (d.due ⟨.train, p, 0⟩ = some e →
      Answers (.trainingTimeout p) d (((((d.at_ e).cancel ⟨.train, p, 0⟩).count (PHY_LINK_FAIL p)).raise (pgPHY p) 9).armIn
        ⟨.train, p, 0⟩ (trainTime p)) ∧
      (y = d.cancel ⟨.train, p, 0⟩ → s = y.get (PHY_CFG_speed p) →
        z = ((((((y.creditPort p).put (PHY_STAT_link p) 1).put (PHY_STAT_pcs_lock p) 1).put (PHY_STAT_speed p) s).put
          (PHY_TRAIN_MS_ms p) ms).put (ETH_STAT_link p) 1).put (ETH_STAT_speed p) s →
        x = (({ z with eth := { z.eth with lastSpeed := NMap.set 6 z.eth.lastSpeed p s } } : Dev).raise (pgETH p) 8).cancel
          ⟨.linkHold, p, 0⟩ →
        w = (if x.get (PG_STATE_iso (pgETH p)) = 0 then x.drainOff p else x).verifyStart p →
        v = (if w.get (ETH_STAT_bp p) = 0 then w else w.fcChanged p) →
        u = (if v.vox p = true then v.revertStart (p + 4) else v) →
        Answers (.ethLinkUp p ms) d (u.lpiStart p))) ∧
    Answers (.ethLinkDown p) d (d.ethDown p) ∧ (d.flag (ETH_STAT_link p) = false → d.ethDown p = d) ∧
    (d.flag (ETH_STAT_link p) = true →
      z = (opFrameEnd p false false ((((d.creditPort p).linkGone p).count (ETH_LINK_DOWNS p)).raise (pgETH p) 8)).forgetSent p →
      y = (((z.cancel ⟨.lpiIdle, p, 0⟩).cancel ⟨.lpiWake, p, 0⟩).cancel ⟨.fcRefresh, p, 0⟩).verifyStart p →
      x = (if y.vox p = true then (y.peerGone (p + 4)).revertStop (p + 4) else y) →
      (x.get (ETH_LINK_CFG_hold_ms p) = 0 → d.ethDown p = x.drainOn p) ∧
      (x.get (ETH_LINK_CFG_hold_ms p) ≠ 0 →
        d.ethDown p = x.armIn ⟨.linkHold, p, 0⟩ (msT (x.get (ETH_LINK_CFG_hold_ms p))))) ∧
    (d.flag (PHY_STAT_pll p) = true → y = ((d.put (PHY_STAT_pll p) 0).raise (pgPHY p) 10).cancel ⟨.train, p, 0⟩ →
      Answers (.phyPllLoss p) d (y.ethDown p)) ∧
    (d.due ⟨.linkHold, p, 0⟩ = some e → Answers (.linkHoldExpiry p) d (((d.at_ e).cancel ⟨.linkHold, p, 0⟩).drainOn p)) ∧
    (d.due ⟨.lpiIdle, p, 0⟩ = some e → y = d.at_ e →
      (y.macUp p = false ∨ (y.tas p).cur.isSome = true ∨ y.get (TRM_PRE_STAT_verify p) = 2 ∨ y.eth.fcWait.contains p.val = true ∨
        (highest (fun c => y.ethClass p c false)).isSome = true → Answers (.lpiIdleTimeout p) d y) ∧
      (y.macUp p = true → (y.tas p).cur = none → y.get (TRM_PRE_STAT_verify p) ≠ 2 → y.eth.fcWait.contains p.val = false →
        highest (fun c => y.ethClass p c false) = none → z = y.cancel ⟨.lpiIdle, p, 0⟩ →
        x = ({ z with eth := { z.eth with lpi := z.eth.lpi.filter (fun q => q != p.val) ++ [p.val] } } : Dev) →
        Answers (.lpiIdleTimeout p) d ((x.put (PHY_STAT_lpi_tx p) 1).ldg p 53 1))) ∧
    (d.due ⟨.lpiWake, p, 0⟩ = some e → y = (d.at_ e).cancel ⟨.lpiWake, p, 0⟩ →
      z = ({ y with eth := { y.eth with lpi := y.eth.lpi.filter (fun q => q != p.val),
                                        waking := y.eth.waking.filter (fun q => q != p.val) } } : Dev) →
      Answers (.lpiWakeDone p) d (((z.put (PHY_STAT_lpi_tx p) 0).lpiStart p).fcDrainWait p)) ∧
    (d.accepts i = true → d.testing p = false →
      (d.handedOver (pgPHY p) = true → Answers (.diagRun i p) d (d.updateBusy (pgPHY p) i 0x114 1)) ∧
      (d.handedOver (pgPHY p) = false → d.pw.halted = true → Answers (.diagRun i p) d (d.rejectTrig 0x14)) ∧
      (d.handedOver (pgPHY p) = false → d.pw.halted = false → y = (d.cancel ⟨.train, p, 0⟩).ethDown p →
        Answers (.diagRun i p) d
          ((((y.put (PHY_DIAG_CMD_run p) 1).put (PHY_DIAG_RES_valid p) 0).setDiag (pgPHY p) true).armIn ⟨.diag, p, 0⟩ (msT 50))) ∧
      Answers (.diagAbort i p) d d) ∧
    (d.accepts i = true → d.testing p = true → Answers (.diagRun i p) d d ∧
      Answers (.diagAbort i p) d ((d.cancel ⟨.diag, p, 0⟩).diagEnd p 7 0)) ∧
    (result < 16 → dist < 4096 → d.due ⟨.diag, p, 0⟩ = some e → y = d.cancel ⟨.diag, p, 0⟩ →
      z = ((y.put (PHY_DIAG_RES_valid p) 1).put (PHY_DIAG_RES_result p) result).put (PHY_DIAG_RES_dist p)
        (if dist < 10 then 0 else dist) →
      Answers (.diagDone p result dist) d (((z.put (PHY_DIAG_CMD_run p) 0).raise (pgPHY p) 8).setDiag (pgPHY p) false)) ∧
    (sqi < 8 → d.flag (PHY_STAT_link p) = true → y = d.add ⟨PHY_PCS_ERR p, 31, 0⟩ pcs →
      z = (if 40 ≤ p.val then y else ((y.put (PHY_STAT_lpi_rx p) (if lpi then 1 else 0)).add ⟨PHY_FEC_CORR p, 31, 0⟩ corr).add
        ⟨PHY_FEC_UNC p, 31, 0⟩ unc) →
      (sqi < z.get (PHY_SQI_THR_sqi p) → z.get (PHY_SQI_THR_sqi p) ≤ z.get (PHY_STAT_sqi p) →
        Answers (.sqiUpdate p sqi lpi corr unc pcs) d ((z.put (PHY_STAT_sqi p) sqi).raise (pgPHY p) 11)) ∧
      (z.get (PHY_SQI_THR_sqi p) ≤ sqi ∨ z.get (PHY_STAT_sqi p) < z.get (PHY_SQI_THR_sqi p) →
        Answers (.sqiUpdate p sqi lpi corr unc pcs) d (z.put (PHY_STAT_sqi p) sqi))) ∧
    (sqi < 8 → d.flag (PHY_STAT_link p) = false → Answers (.sqiUpdate p sqi lpi corr unc pcs) d d) ∧
    (d.accepts i = true →
      Answers (.ldgSnap i p) d (d.each (List.range 64) (fun k t =>
        (t.put (ETH_LDG_LO_count p k) (NMap.get 0 t.eth.ledger (p.val * 64 + k))).put (ETH_LDG_HI_count p k)
          (NMap.get 0 t.eth.ledger (p.val * 64 + k) / 2 ^ 32))) ∧
      (y = ({ d with eth := { d.eth with ledger := d.eth.ledger.filter (fun a => a.1 / 64 != p.val) } } : Dev) →
        Answers (.ldgClear i p) d (y.each (List.range 64) (fun k t =>
          (t.put (ETH_LDG_LO_count p k) 0).put (ETH_LDG_HI_count p k) (0 / 2 ^ 32)))))

/-- MAC control frames, pause times, the refresh of flow control and the pause watchdog: the next state of each stated whole (R161, R162, R163, R164, R165) -/
def Obligations.FlowControlActs : Prop :=
  ∀ (d d' y z : Dev) (p : EthPort) (c : Sys2Proof.Class) (q vec e : Nat) (times : List Nat),
    (q < 65536 → vec < 256 → times.length = 8 → times.all (fun t => decide (t < 65536)) = true →
      (d.macUp p = true →
        (d.ldgControl p 5 = (true, d') → Answers (.pauseReceived p q) d
          (d'.pauseLoad p ((d'.pauseSlots p).map (fun i => (i, q % 65536))))) ∧
        (d.ldgControl p 5 = (false, d') → Answers (.pauseReceived p q) d d') ∧
        (d.ldgControl p 6 = (true, d') → Answers (.pfcReceived p vec times) d
          (d'.pauseLoad p (((List.range 8).filter (fun i => bitAt vec i)).map (fun i => (i, times.getD i 0 % 65536))))) ∧
        (d.ldgControl p 6 = (false, d') → Answers (.pfcReceived p vec times) d d') ∧
        (d.get (PG_STATE_iso (pgETH p)) = 0 → Answers (.macctlUnknownReceived p) d ((d.ldgControl p 7).2.raise (pgETH p) 12)) ∧
        (d.get (PG_STATE_iso (pgETH p)) ≠ 0 → Answers (.macctlUnknownReceived p) d (d.ldgControl p 7).2)) ∧
      (d.macUp p = false → ∀ op : Instr, op ∈ [.pauseReceived p q, .pfcReceived p vec times, .macctlUnknownReceived p] →
        Answers op d d)) ∧
    (d.due ⟨.pauseEnd, p, c⟩ = some e →
      Answers (.pauseTimerExpiry p c) d (((d.at_ e).cancel ⟨.pauseEnd, p, c⟩).pauseSync p c)) ∧
    (d.due ⟨.fcRefresh, p, 0⟩ = some e → y = (d.at_ e).cancel ⟨.fcRefresh, p, 0⟩ →
      (y.eth.fcWait.contains p.val = true ∨ y.fcState p ≠ 0 → Answers (.flowControlRefresh p) d (y.fcPush p)) ∧
      (y.eth.fcWait.contains p.val = false → y.fcState p = 0 → Answers (.flowControlRefresh p) d y)) ∧
    (d.due ⟨.pwd, p, c⟩ = some e → y = (((d.at_ e).cancel ⟨.pwd, p, c⟩).count (ETH_PWD_TRIPS p)).raise (pgETH p) 9 →
      (y.get (ETH_PWD_CFG_action p) = 1 → z = y.unpause p c → Answers (.pwdTrip p c) d
        ((z.put (ETH_PWD_STAT_broken p) (setBitTo (z.get (ETH_PWD_STAT_broken p)) c true)).armIn ⟨.pwdBreak, p, c⟩
          (msT ((z.put (ETH_PWD_STAT_broken p) (setBitTo (z.get (ETH_PWD_STAT_broken p)) c true)).get (ETH_PWD_IGN_ms p))))) ∧
      (y.get (ETH_PWD_CFG_action p) = 2 → Answers (.pwdTrip p c) d (y.isoEth p)) ∧
      (y.get (ETH_PWD_CFG_action p) ≠ 1 → y.get (ETH_PWD_CFG_action p) ≠ 2 → Answers (.pwdTrip p c) d y)) ∧
    (d.due ⟨.pwdBreak, p, c⟩ = some e → y = (d.at_ e).cancel ⟨.pwdBreak, p, c⟩ → Answers (.pwdBreakEnd p c) d
      (y.put (ETH_PWD_STAT_broken p) (setBitTo (y.get (ETH_PWD_STAT_broken p)) c false)))

/-- CAN reception: valid and error frames, object locks, FIFO pops, the message RAM, bus idle and integration, each stated whole (R53, R171, R173, R174, R176, R177, R179, R180, R185, R301) -/
def Obligations.CanReceptionAct : Prop :=
  ∀ (d x y z : Dev) (i : Initiator) (ch : CanCh) (r r' : BusRecord) (ago lec n o a k : Nat) (v : Word) (b : Bool) (t : Nat × Nat)
      (ue : Option Nat) (obj : CanObj) (m : Bool),
    (r.wf = true →
      (d.canHears ch = false → Answers (.canFrameValid ch r ago ue) d d) ∧
      (d.canHears ch = true → r' = (if r.fmt < 2 ∧ r.fdf = false then { r with data := r.data.take 8 } else r) →
        y = (((d.recDown ch).canConfine ch).touch (canPort ch)).canIdle ch →
        (y.isoed (pgCAN ch) = true → Answers (.canFrameValid ch r ago ue) d (y.count (CAN_CNT ch 4))) ∧
        (y.isoed (pgCAN ch) = false → t = y.busTime (canPort ch) ago →
          z = (if (y.ownHit ch r').isSome then y.ownAlarm ch r' t.1 else y) →
          x = ue.elim z (fun e => z.mrUe ch (z.get (CAN_LB_FLT_base ch (z.get (CAN_RX_CFG_lbank ch))) + 3 * e)) →
          Answers (.canFrameValid ch r ago ue) d
            ((x.count (CAN_CNT ch 0)).canAct ch r' t (y.ownHit ch r') (x.fltAction ch r' ue))))) ∧
    (lec < 8 →
      (d.canHears ch = true → y = (d.count (CAN_CNT ch 15)).put (CAN_STAT_lec ch) lec → Answers (.canErrorFrame ch lec n) d
        (((y.put (CAN_STAT_rec ch) (min 255 (y.get (CAN_STAT_rec ch) + 1 + 8 * n))).canConfine ch).canIdle ch)) ∧
      (d.canHears ch = false → Answers (.canErrorFrame ch lec n) d d)) ∧
    (d.accepts i = true → o = d.get (CAN_OBJ_SEL_obj ch) →
      (d.get (CAN_OBJ_CFG_n ch) ≤ o → Answers (.objLock i ch b) d d) ∧
      (o < d.get (CAN_OBJ_CFG_n ch) → y = (if d.lockedObj ch = some o then d else d.objRelease ch) →
        obj = y.canObj ch o → a = y.objAt ch o obj.cur → z = (if b then y.mrUe ch a else y) →
        x = ((((z.put (CAN_OBJ_STAT_locked ch) 1).put (CAN_OBJ_STAT_new ch) (if obj.unread then 1 else 0)).put (CAN_OBJ_STAT_lost ch)
          (if obj.lost then 1 else 0)).put (CAN_OBJ_STAT_ue ch) (if b then 1 else 0)).put (CAN_OBJ_STAT_addr ch) a →
        Answers (.objLock i ch b) d (((x.setCanObj ch o { obj with unread := false, lost := false }).setLockedObj ch (some o)).setBit
          (CAN_OBJ_NEW ch (o / 32)) (o % 32) false)) ∧
      (d.lockedObj ch = none → Answers (.objRelease i ch) d d) ∧
      (d.lockedObj ch = some k → obj = (if (d.canObj ch k).shadow then
          { d.canObj ch k with cur := !(d.canObj ch k).cur, unread := true, shadow := false } else d.canObj ch k) →
        Answers (.objRelease i ch) d (((d.setCanObj ch k obj).setLockedObj ch none).put (CAN_OBJ_STAT_locked ch) 0)) ∧
      (v.getLsbD 0 = false → v.getLsbD 1 = false → Answers (.rxfPop i ch v b m) d d) ∧
      (k < 2 → v.getLsbD k = true → v.getLsbD (1 - k) = false → y = (if m then (d.fifoGone ch k).queueReset 3 ch else d) →
        z = y.fifoPop ch k → Answers (.rxfPop i ch v b m) d
          (if b && z.get (fifoCnt ch k) != 0 then z.mrUe ch (z.fifoAt ch k 0) else z)) ∧
      (v.getLsbD 0 = true → v.getLsbD 1 = true → Answers (.rxfPop i ch v false false) d ((d.fifoPop ch 0).fifoPop ch 1)) ∧
      (a = d.get (CAN_MR_ADDR_word ch) →
        (y = (if b then d.mrUe ch a else d) → z = y.put (CAN_MR_ADDR_word ch) (a + 1) →
          Answers (.mrDataAccess i ch none b) d (z.emit (.readValue i (CAN_MR_DATA ch) (BitVec.ofNat 32 (y.mr ch a))))) ∧
        (d.locked (pgCAN ch) = true → Answers (.mrDataAccess i ch (some v) b) d (d.lockViol (pgCAN ch) i 0x1D4 v.toNat)) ∧
        (d.locked (pgCAN ch) = false → (d.mrLive ch).any (fun e => decide (e.1 ≤ a) && decide (a < e.1 + e.2)) = true →
          Answers (.mrDataAccess i ch (some v) b) d ((d.put (CAN_MR_ADDR_word ch) (a + 1)).raise (pgCAN ch) irqLiveWr)) ∧
        (d.locked (pgCAN ch) = false → (d.mrLive ch).any (fun e => decide (e.1 ≤ a) && decide (a < e.1 + e.2)) = false →
          Answers (.mrDataAccess i ch (some v) b) d ((d.setMr ch a v.toNat).put (CAN_MR_ADDR_word ch) (a + 1))))) ∧
    (d.canCur ch = none →
      (d.canHears ch = true → Answers (.canBusIdleApply ch false) d (d.put (CAN_STAT_busy ch) 1)) ∧
      (d.canHears ch = false → Answers (.canBusIdleApply ch false) d d) ∧
      (y = (if d.bus.trxWait.contains ch.val then d.canLatch ch 2 (d.rd (CAN_TRX ch)) else d) →
        z = (if d.bus.cfgWait.contains ch.val then (y.canLatch ch 0 (y.rd (CAN_CFG ch))).canLatch ch 1
          (y.rd (CAN_NBT ch)) else y).cfgInEffect ch.val →
        x = ({ z with bus := { z.bus with cfgWait := z.bus.cfgWait.filter (fun c => c != ch.val),
                                          trxWait := z.bus.trxWait.filter (fun c => c != ch.val) } } : Dev).put (CAN_STAT_busy ch) 0 →
        Answers (.canBusIdleApply ch true) d (if d.bus.cfgWait.contains ch.val && x.canState ch != 2 then
          x.put (CAN_STAT_state ch) 3 else x.canStart ch))) ∧
    (d.canCur ch ≠ none → Answers (.canBusIdleApply ch b) d d) ∧
    (d.canState ch = 3 → d.chanOn (pgCAN ch) = true → Answers (.canIntegrationDone ch) d
      (((d.put (CAN_STAT_state ch) (if 128 ≤ d.get (CAN_STAT_tec ch) ∨ 128 ≤ d.get (CAN_STAT_rec ch) then 1 else 0)).put
        (CAN_STAT_busy ch) 0).canStart ch))

/-- CAN transmission: a frame sent, arbitration lost, an error, bus-off and its recovery, timed objects, each stated whole (R146, R171, R181, R182, R183, R184, R186) -/
def Obligations.CanTransmissionAct : Prop :=
  ∀ (d u x y z : Dev) (i : Initiator) (ch : CanCh) (k : TimSlot) (b : Bid) (r : BusRecord) (w : Draw) (e lec n : Nat) (clash ex : Bool),
    (d.canCur ch = some b → d.bidRecord ch b = some r →
      y = (((d.emit (.busFrame (canPort ch) (d.canForm ch r) d.now)).touch (canPort ch)).count (CAN_CNT ch 9)) →
      z = y.put (CAN_STAT_tec ch) (((d.emit (.busFrame (canPort ch) (d.canForm ch r) d.now)).touch (canPort ch)).get
        (CAN_STAT_tec ch) - 1) →
      x = (if z.get (CAN_STAT_tec ch) < 128 ∧ z.get (CAN_STAT_rec ch) < 128 then z.put (CAN_STAT_state ch) 0 else z) →
      (b = .copy n r → Answers (.canTxDone ch) d ((x.setBids ch ((x.bids ch).filter (fun m => m != n))).canIdle ch)) ∧
      (b = .draw n → (x.drawsOf (canPort ch)).find? (fun t : Draw => t.copy.serial == n) = some w →
        (w.place = 0 → Answers (.canTxDone ch) d ((x.endDraw w).canIdle ch)) ∧
        (w.place ≠ 0 → u = x.endDraw w → Answers (.canTxDone ch) d ((((u.setKept ch (w.place - 1) (some r)).setBids ch
          ((u.bids ch).filter (fun m => m != w.place - 1))).showFull ch (w.place - 1)).canIdle ch)))) ∧
    (d.canCur ch = some b → Answers (.canArbLost ch) d (((d.setCanCur ch none).count (CAN_CNT ch 10)).canYield ch)) ∧
    (lec < 8 → d.canCur ch = some b → y = (d.count (CAN_CNT ch 11)).put (CAN_STAT_lec ch) lec →
      z = (if clash = true then (y.bidRecord ch b).elim y (fun r => y.clash ch r) else y) →
      Answers (.canTxError ch lec clash ex n) d ((((z.put (CAN_STAT_tec ch) (min 511 (z.get (CAN_STAT_tec ch) +
        ((if ex && z.tecExempt ch lec then 0 else 8) + 8 * n)))).canRetry ch b).canConfine ch).canIdle ch)) ∧
    (d.due ⟨.boffWait, ch, 0⟩ = some e → y = (d.at_ e).cancel ⟨.boffWait, ch, 0⟩ →
      (y.canState ch = 2 → Answers (.boffWaitExpiry ch) d
        { y with bus := { y.bus with recovering := y.bus.recovering.filter (fun c => c != ch.val) ++ [ch.val] } }) ∧
      (y.canState ch ≠ 2 → Answers (.boffWaitExpiry ch) d y)) ∧
    (d.accepts i = true →
      (d.canState ch = 2 → bitsOf (d.canUse ch 0) 16 16 = 0 → Answers (.boffRestart i ch) d
        { d with bus := { d.bus with recovering := d.bus.recovering.filter (fun c => c != ch.val) ++ [ch.val] } }) ∧
      (d.canState ch ≠ 2 ∨ bitsOf (d.canUse ch 0) 16 16 ≠ 0 → Answers (.boffRestart i ch) d d)) ∧
    (d.canState ch = 2 → d.bus.recovering.contains ch.val = true →
      y = ((({ d with bus := { d.bus with recovering := d.bus.recovering.filter (fun c => c != ch.val) } } : Dev).put
        (CAN_STAT_state ch) 0).put (CAN_STAT_tec ch) 0).put (CAN_STAT_rec ch) 0 →
      z = (y.cancel ⟨.boffWait, ch, 0⟩).cancel ⟨.boffHold, ch, 0⟩ →
      Answers (.boffRecovered ch) d
        (((if z.isoed (pgCAN ch) then z else z.drainOff (canPort ch)).raise (pgCAN ch) 19).canIdle ch)) ∧
    (d.due ⟨.boffHold, ch, 0⟩ = some e → y = (d.at_ e).cancel ⟨.boffHold, ch, 0⟩ →
      (y.canState ch = 2 → Answers (.boffHoldExpiry ch) d
        ((((y.drainDraws (canPort ch)).setBids ch []).each (List.range 16) (fun k t => t.showFull ch k)).drainOn (canPort ch))) ∧
      (y.canState ch ≠ 2 → Answers (.boffHoldExpiry ch) d y)) ∧
    (d.armed (.can ch k) = true → d.pw.halted = false → ctlAction (d.slot (.can ch k)).ctl = 4 →
      d.turn (d.turnAt (.can ch k) (d.slot (.can ch k)).time) = true → d.lateTick (.can ch k) = none →
      z = d.atNs (d.slot (.can ch k)).time →
      (z.flag (CAN_TO_CFG_en ch k) = false ∨ (z.objDraw ch k = none ∧ (z.flag (CAN_TO_CFG_repeat ch k) = false ∨ z.keptAt ch k = none)) →
        Answers (.timedDispatch ch k) d ((z.count (CAN_CNT ch 20)).complete (.can ch k) false)) ∧
      (z.flag (CAN_TO_CFG_en ch k) = true →
        (z.objDraw ch k).isSome = true ∨ (z.flag (CAN_TO_CFG_repeat ch k) = true ∧ (z.keptAt ch k).isSome = true) →
        ((z.bids ch).contains k.val = true → Answers (.timedDispatch ch k) d
          ((z.count (CAN_CNT ch 21)).complete (.can ch k) false)) ∧
        ((z.bids ch).contains k.val = false → y = z.setBids ch (z.bids ch ++ [k.val]) →
          x = ({ y with bus := { y.bus with copyErrors := NMap.set 0 y.bus.copyErrors (ch * 16 + k) 0 } } : Dev) →
          (z.canFree ch = false ∨ (z.objDraw ch k).any (fun x => decide (z.now < x.ready)) = true →
            Answers (.timedDispatch ch k) d (((x.count (CAN_CNT ch 19)).raise (pgCAN ch) 17).complete (.can ch k) false)) ∧
          (z.canFree ch = true → z.objDraw ch k = some w → z.now ≥ w.ready → x.objDraw ch k = some w →
            Answers (.timedDispatch ch k) d
              (((x.setCanCur ch (some (.draw w.copy.serial))).emit (.canSof ch (x.now + nsT 50))).complete (.can ch k) false)) ∧
          (z.canFree ch = true → z.objDraw ch k = none → x.objDraw ch k = none → x.keptAt ch k = some r →
            Answers (.timedDispatch ch k) d
              (((x.setCanCur ch (some (.copy k r))).emit (.canSof ch (x.now + nsT 50))).complete (.can ch k) false)))))

/-- LIN headers, responses, the schedule and the receive FIFO, each stated whole (R53, R146, R187, R188, R189, R190, R301) -/
def Obligations.LinActs : Prop :=
  ∀ (d x y z w : Dev) (i : Initiator) (ch : LinCh) (id brk baud pid own ago lim len t ent : Nat) (data : List Byte) (c : ListCfg)
      (first ev cks m err : Bool) (run : GateRun) (l : List (List Word)) (it : List Word) (r : BusRecord),
    (baud < 65536 → pid < 256 →
      (d.chanOn (pgLIN ch) = false ∨ d.flag (LIN_CFG_role ch) = true ∨ brk < 11 →
        Answers (.linHeaderReceived ch brk baud pid) d d) ∧
      (d.chanOn (pgLIN ch) = true → d.flag (LIN_CFG_role ch) = false → 11 ≤ brk → own = d.get (LIN_CFG_baud ch) →
        y = d.put (LIN_STAT_meas_baud ch) baud →
        (own * 14 < absDiff baud own * 100 → Answers (.linHeaderReceived ch brk baud pid) d
          ((y.count (LIN_CNT ch 6)).raise (pgLIN ch) 13)) ∧
        (absDiff baud own * 100 ≤ own * 14 → z = (y.put (LIN_STAT_sync ch) 1).touch (linPort ch) →
          Answers (.linHeaderReceived ch brk baud pid) d
            (if pid = linPid (pid % 64) then z.linHeader ch (pid % 64) false else z)))) ∧
    (d.linAwait ch = some (id, ev) → d.due ⟨.linResp, ch, 0⟩ = some lim → data.length ≤ 8 → len = d.get (LIN_RESP_len ch id) →
      y = (d.setLinAwait ch none).touch (linPort ch) → z = (y.count (LIN_CNT ch 4)).raise (pgLIN ch) 11 →
      (lim < d.now → Answers (.linResponseReceived ch data cks m ago) d (d.touch (linPort ch))) ∧
      (data.length < len → Answers (.linResponseReceived ch data cks true ago) d (d.touch (linPort ch))) ∧
      (d.now ≤ lim → Answers (.linResponseReceived ch data cks false ago) d (y.count (LIN_CNT ch 7))) ∧
      (d.now ≤ lim → len ≤ data.length →
        Answers (.linResponseReceived ch data false true ago) d
          (if ev = true then (z.count (LIN_CNT ch 8)).raise (pgLIN ch) 12 else z) ∧
        (y.isoed (pgLIN ch) = true → Answers (.linResponseReceived ch data true true ago) d (y.count (LIN_CNT ch 12))) ∧
        (y.isoed (pgLIN ch) = false →
          r = { id := id, fmt := 3, enh := y.linEnh ch id, data := data.take (y.get (LIN_RESP_len ch id)) } →
          w = (y.count (LIN_CNT ch 0)).handOff (linPort ch) r (y.busTime (linPort ch) ago) →
          Answers (.linResponseReceived ch data true true ago) d
            (if w.flag (LIN_RESP_store ch id) then w.linPush ch r (y.busTime (linPort ch) ago).1 else w)))) ∧
    (d.due ⟨.linResp, ch, 0⟩ = some lim → Answers (.linNoResponse ch) d
      (((d.at_ lim).cancel ⟨.linResp, ch, 0⟩).linUnanswered ch)) ∧
    (d.nextSlot ch = some (t, first, run) → d.pw.halted = false → d.turn (d.turnAt (.linSch ch) t) = true →
      (d.sleepSeg (linPort ch) ≠ none → Answers (.linScheduleSlot ch err) d ((d.atNs t).setSchRun ch {})) ∧
      (d.sleepSeg (linPort ch) = none → d.chanOn (pgLIN ch) = true → (d.atNs t).isoed (pgLIN ch) = true →
        Answers (.linScheduleSlot ch err) d ((d.atNs t).setSchRun ch {})) ∧
      (d.sleepSeg (linPort ch) = none → d.chanOn (pgLIN ch) = true → (d.atNs t).isoed (pgLIN ch) = false →
        z = (if first then ((d.atNs t).setSchRun ch run).raise (pgLIN ch) 15 else (d.atNs t).setSchRun ch run) →
        run.cur = some c → ent = z.schEnt ch c.bank run.entry → id = nb ent 5 0 →
        (nb ent 7 6 = 2 → z.pubDraw ch id = none → Answers (.linScheduleSlot ch err) d (z.count (LIN_CNT ch 13))) ∧
        (nb ent 7 6 ≠ 2 ∨ (z.pubDraw ch id).isSome = true →
          w = ((z.linUnanswered ch).count (LIN_CNT ch 2)).touch (linPort ch) →
          x = (w.emit (.linHeader ch (w.get (LIN_CFG_brk ch)) (w.get (LIN_CFG_del ch)) (linPid id) (w.now + nsT 50))).linTakesUp ch
            (w.get (LIN_CFG_brk ch) + w.get (LIN_CFG_del ch) + 20) →
          Answers (.linScheduleSlot ch false) d (x.linHeader ch id (nb ent 7 6 == 1)) ∧
          Answers (.linScheduleSlot ch true) d ((x.count (LIN_CNT ch 5)).raise (pgLIN ch) 14)))) ∧
    (d.accepts i = true →
      (y = (if m then (d.linFifoGone ch).queueReset 3 (24 + ch) else d) →
        (NMap.get [] y.bus.linFifo ch = it :: l → Answers (.linRxfPop i ch m) d ((y.setLinFifo ch l).fenceTook (pgLIN ch) 1)) ∧
        (NMap.get [] y.bus.linFifo ch = [] → Answers (.linRxfPop i ch m) d y)) ∧
      (d.flag (LIN_SCH_WSTAT_busy ch) = true → Answers (.linSchRead i ch) d (d.winRefuse i (.linSch ch) 1)) ∧
      (d.flag (LIN_SCH_WSTAT_busy ch) = false → y = d.put (winRegs (.linSch ch)).err 0 →
        ent = y.schEnt ch (y.get (LIN_SCH_SEL_bank ch)) (y.get (LIN_SCH_SEL_entry ch)) →
        Answers (.linSchRead i ch) d ((((y.put (LIN_SCH_DATA_slot_us ch) (nb ent 31 16)).put (LIN_SCH_DATA_type ch)
          (nb ent 7 6)).put (LIN_SCH_DATA_id ch) (nb ent 5 0)).put (LIN_SCH_WSTAT_busy ch) 1)) ∧
      (d.locked (pgLIN ch) = false →
        (d.flag (LIN_SCH_WSTAT_busy ch) = true ∨ (d.schRun ch).bankBusy (d.get (LIN_SCH_SEL_bank ch)) = true →
          y = d.put (LIN_SCH_STAT_err ch) 1 →
          y.flag (LIN_SCH_WSTAT_busy ch) = true ∨ (y.schRun ch).bankBusy (y.get (LIN_SCH_SEL_bank ch)) = true →
          y.locked (pgLIN ch) = false → y.accepts i = true →
          Answers (.linSchWrite i ch) d (y.winRefuse i (.linSch ch) 2)) ∧
        (d.flag (LIN_SCH_WSTAT_busy ch) = false → (d.schRun ch).bankBusy (d.get (LIN_SCH_SEL_bank ch)) = false →
          y = d.put (LIN_SCH_STAT_err ch) 0 → y.flag (LIN_SCH_WSTAT_busy ch) = false →
          (y.schRun ch).bankBusy (y.get (LIN_SCH_SEL_bank ch)) = false → y.locked (pgLIN ch) = false → y.accepts i = true →
          z = y.put (winRegs (.linSch ch)).err 0 →
          ent = z.get (LIN_SCH_DATA_slot_us ch) * 2 ^ 16 + z.get (LIN_SCH_DATA_type ch) * 2 ^ 6 + z.get (LIN_SCH_DATA_id ch) →
          x = ({ z with bus := { z.bus with
            sch := NMap.set 0 z.bus.sch (ch * 128 + z.get (LIN_SCH_SEL_bank ch) * 64 + z.get (LIN_SCH_SEL_entry ch)) ent } } : Dev) →
          Answers (.linSchWrite i ch) d (x.put (winRegs (.linSch ch)).busy 1))))

/-- Kalow: the pick of its input, the commit of unpacked signals, the ways a pack is made, and the hand-over, each stated whole (R80, R194, R198, R199, R200, R202, R203, R204, R209, R211) -/
def Obligations.KalowPacksAct : Prop :=
  ∀ (d d' y z : Dev) (q e r t s cl : Nat) (w : Nat × Nat × Nat) (ue : KlwUe) (ce : Option Nat) (c : Copy) (l : List Copy) (f : Frame)
      (j : KJob) (p : KPack) (rec' : Option BusRecord) (bs : List Byte),
    (d.works (pgKLW 0) = false ∨ d.pw.halted = true → Answers (.kalowPick ue none) d d) ∧
    (d.works (pgKLW 0) = true → d.pw.halted = false →
      (highest (fun c => (d.toPick 96).drrTake 96 c ((d.toPick 96).heads 96 c)) = none → Answers (.kalowPick ue none) d d) ∧
      (highest (fun c => (d.toPick 96).drrTake 96 c ((d.toPick 96).heads 96 c)) = some (cl, q, y) → y.voq q = c :: l →
        (y.expired c = true → Answers (.kalowPick ue none) d (y.holdDiscard q)) ∧
        (y.expired c = false → y.frame c.fid = some f →
          (f.poison = true → Answers (.kalowPick ue none) d (y.lostHead q 96)) ∧
          (f.poison = false → Answers (.kalowPick ue none) d (((y.consume f ue).popVoq q).release f.id))))) ∧
    (nextJob d.kal.jobs = none → Answers (.kalowUnpackCommit ce) d d) ∧
    (nextJob d.kal.jobs = some j → y = (d.at_ j.at_).ownTick j → z = ce.elim y (fun s => y.storeUe s) →
      (j.writes.any (fun w => z.needed w.1) = true → Answers (.kalowUnpackCommit ce) d
        (({ z with kal := { z.kal with jobs := z.kal.jobs.map (fun k => if k = j then { k with waits := true } else k) } } : Dev).count
          (KLW_CNT 17))) ∧
      (j.writes.any (fun w => z.needed w.1) = false → Answers (.kalowUnpackCommit ce) d
        (({ z with kal := { z.kal with jobs := z.kal.jobs.erase j } } : Dev).runJob j))) ∧
    (r < 8192 → ue.wf = true → d.kal.trigs.find? (fun u => u.1 == r) = some w →
      y = ({ d with kal := { d.kal with trigs := d.kal.trigs.filter (fun u => decide (u ≠ w)) } } : Dev) →
      (y.packs r = false → Answers (.kalowTriggeredPack r ue) d y) ∧
      (y.packs r = true →
        (y.kal.defer.contains r = true → Answers (.kalowTriggeredPack r ue) d (y.deferPack r)) ∧
        (y.kal.defer.contains r = false → (NMap.get none y.kal.pend r).isSome = true →
          Answers (.kalowTriggeredPack r ue) d (y.count (KLW_CNT 10))) ∧
        (y.kal.defer.contains r = false → NMap.get none y.kal.pend r = none →
          (NMap.get none y.kal.lastS r = some s → w.2.2 < s → Answers (.kalowTriggeredPack r ue) d (y.count (KLW_CNT 10))) ∧
          (NMap.get none y.kal.lastS r = some s → s ≤ w.2.2 → t = s + nb (y.route r) 38 19 * 1000 → w.2.2 < t →
            Answers (.kalowTriggeredPack r ue) d
              { y with kal := { y.kal with pend := NMap.set none y.kal.pend r (some t) } }) ∧
          ((∀ s, NMap.get none y.kal.lastS r = some s → s ≤ w.2.2 ∧ s + nb (y.route r) 38 19 * 1000 ≤ w.2.2) →
            (y.deferred r = true → Answers (.kalowTriggeredPack r ue) d (y.deferPack r)) ∧
            (y.deferred r = false → z = y.at_ (w.2.1 + nsT 25) →
              Answers (.kalowTriggeredPack r ue) d (z.packAt r ue z.now z.ns z.frac)))))) ∧
    (r < 8192 → ue.wf = true → d.armed (.kalow r) = true → d.pw.halted = false → ctlAction (d.slot (.kalow r)).ctl = 6 →
      d.turn (d.turnAt (.kalow r) (d.slot (.kalow r)).time) = true → d.lateTick (.kalow r) = none →
      t = (d.slot (.kalow r)).time → y = d.atNs t →
      (y.packs r = false ∨ nbit (y.route r) 16 = false → Answers (.kalowPeriodicPack r ue) d (y.complete (.kalow r) false)) ∧
      (y.packs r = true → nbit (y.route r) 16 = true →
        (y.deferred r = true → Answers (.kalowPeriodicPack r ue) d ((y.deferPack r).complete (.kalow r) false)) ∧
        (y.deferred r = false → (y.slot (.kalow r)).time = t → Answers (.kalowPeriodicPack r ue) d
          ((y.packAt r ue (y.tickRoot (y.tickFor t)) t 0).complete (.kalow r) false)))) ∧
    (r < 8192 → ue.wf = true → NMap.get none d.kal.pend r = some t → d' = d.atNs t →
      y = ({ d' with kal := { d'.kal with pend := NMap.set none d'.kal.pend r none } } : Dev) →
      (y.packs r = false → Answers (.kalowPendingPack r ue) d y) ∧
      (y.packs r = true → y.deferred r = true → Answers (.kalowPendingPack r ue) d (y.deferPack r)) ∧
      (y.packs r = true → y.deferred r = false → Answers (.kalowPendingPack r ue) d
        (y.packAt r ue (y.tickRoot (y.tickFor t)) t 0))) ∧
    (r < 8192 → ue.wf = true →
      (d.kal.defer.contains r = true → d.deferred r = false → d.packs r = true →
        Answers (.kalowDeferredPack r ue) d (d.packAt r ue d.now d.ns d.frac)) ∧
      (d.kal.defer.contains r = false ∨ d.deferred r = true ∨ d.packs r = false → Answers (.kalowDeferredPack r ue) d d)) ∧
    (firstPack d.kal.packs = some p → (d.at_ p.at_).bodyOf p = (rec', bs, d') →
      y = ({ d' with kal := { d'.kal with packs := d'.kal.packs.erase p } } : Dev) →
      z = (if p.plan.isSome then y.count (KLW_CNT 1) else y) →
      Answers .kalowPackHandoff d (z.takeIn (fun i =>
        { id := i, inPort := 96, domain := p.dom, cls := p.cls, data := bs, record := rec', ctx := p.ctx,
          kdest := some (p.dest, p.list), inNs := p.ns, inFrac := p.frac })).2.unhold) ∧
    (d.due ⟨.kalTmo, 0, 0⟩ = some e → y = ((d.at_ e).cancel ⟨.kalTmo, 0, 0⟩).arm ⟨.kalTmo, 0, 0⟩ (e + msT 1) →
      z = ({ (y.put KLW_LOAD_ops y.kal.ops) with kal := { y.kal with ops := 0 } } : Dev) →
      Answers .kalowTimeoutCheck d (z.each (z.kal.store.map (fun s => s.1)) (fun s t => t.timeOut s))) ∧
    (r < 8192 → d.due ⟨.kalAgg, r, 0⟩ = some e → Answers (.kalowAggTimeout r) d
      (((d.at_ e).cancel ⟨.kalAgg, r, 0⟩).sendOpen r))

/-- The signal store, its dump and the windows of Kalow: the next state of each stated whole (R53, R144, R199, R204, R213, R215) -/
def Obligations.StoreAndDumpAct : Prop :=
  ∀ (d y z : Dev) (i : Initiator) (e k n s : Nat) (u staged : Bool) (bs : List Byte) (v : KDump) (a : Nat)
      (j : KJob),
    (d.accepts i = true → s = d.get KLW_S_SEL_sig →
      (y = (if u then d.storeUe s else d) →
        z = ((y.wr64 KLW_S_VAL_LO KLW_S_VAL_HI (y.sig s).value).put KLW_S_STAT_status (y.sig s).st).put KLW_S_STAT_unv
          (if (y.sig s).unv then 1 else 0) →
        a = (ageOf (y.sig s) z.ns 1000).elim (2 ^ 32 - 1) (fun a => min a (2 ^ 32 - 1)) →
        Answers (.storeRead i u) d ((z.put KLW_S_AGE_us a).wr64 KLW_S_TSRC_LO KLW_S_TSRC_HI (y.sig s).tsrc)) ∧
      (d.needed s = false → Answers (.storeForce i) d
        (d.commitSigs d.kal.recs [(s, d.rd64 KLW_S_VAL_LO KLW_S_VAL_HI)] d.ns false none)) ∧
      (d.needed s = true →
        j = { at_ := d.now, fid := none, cls := 8, writes := [(s, d.rd64 KLW_S_VAL_LO KLW_S_VAL_HI)], unpack := true,
              tsrc := d.ns, waits := true, recs := d.kal.recs } →
        Answers (.storeForce i) d
        (({ d with kal := { d.kal with jobs := d.kal.jobs ++ [j] } } : Dev).count (KLW_CNT 17))) ∧
      (d.kal.dump = none → d.flag KLW_DUMP_STAT_halted = false → Answers (.dumpGo i) d d.dumpStart.dumpArm) ∧
      (d.kal.dump.isSome = true ∨ d.flag KLW_DUMP_STAT_halted = true → Answers (.dumpGo i) d d) ∧
      Answers (.dumpResume i) d ((d.put KLW_DUMP_STAT_halted 0).put KLW_DUMP_STAT_cause 0)) ∧
    (y = (d.wr64 KLW_DUMP_T_LO KLW_DUMP_T_HI d.ns) →
      v = { addr := d.get KLW_DUMP_HI_base * 2 ^ 32 + d.get KLW_DUMP_LO_base * 16, first := y.get KLW_DUMP_FIRST_sig,
            n := y.get KLW_DUMP_N_count, s := y.now, ns := y.ns, recs := y.kal.recs } →
      d.dumpStart = { (y.put KLW_DUMP_CTL_go 1) with kal := { y.kal with dump := some v } }) ∧
    (d.due ⟨.kalDump, 0, 0⟩ = some e → y = ((d.at_ e).cancel ⟨.kalDump, 0, 0⟩).dumpArm →
      (y.kal.dump = none → y.flag KLW_DUMP_STAT_halted = false → Answers .dumpPeriod d y.dumpStart) ∧
      (y.kal.dump.isSome = true ∨ y.flag KLW_DUMP_STAT_halted = true → Answers .dumpPeriod d y)) ∧
    (d.kal.dump = some v → bs = d.dumpBytes v →
      y = ({ (d.put KLW_DUMP_CTL_go 0) with kal := { d.kal with dump := none } } : Dev) →
      Answers (.dumpDone none) d ((y.fabWrite 8 v.addr bs).raise (pgKLW 4) 8).unhold ∧
      Answers (.dumpDone (some n)) d (((((y.storeUe ((v.first + n % v.n) % 16384)).put KLW_DUMP_STAT_cause 8).put
        KLW_DUMP_STAT_halted 1).raise (pgKLW 4) 9).unhold)) ∧
    (d.accepts i = true → d.locked (pgKLW 1) = false → d.locked (pgKLW 3) = false →
      (d.flag KLW_D_STAT_busy = true → Answers (.klwDescRead i staged) d (d.winRefuse i .klwDesc 1) ∧
        Answers (.klwDescStage i) d (d.winRefuse i .klwDesc 2)) ∧
      (d.flag KLW_D_STAT_busy = false → y = d.put KLW_D_STAT_err 0 → k = y.dSel →
        (n = (if staged && y.kal.recsD.contains k then NMap.get 0 y.kal.recsS k else NMap.get 0 y.kal.recs k) →
          Answers (.klwDescRead i staged) d ((y.loadWords KLW_D_DATA 24 n).put KLW_D_STAT_busy 1)) ∧
        (z = ({ y with kal := { y.kal with
            recsS := NMap.set 0 y.kal.recsS k (y.readWords KLW_D_DATA 24),
            recsD := y.kal.recsD.filter (fun e => e != k) ++ [k] } } : Dev) →
          Answers (.klwDescStage i) d (z.put KLW_D_STAT_busy 1))) ∧
      (d.flag KLW_L_STAT_busy = true → Answers (.klwSlotRead i) d (d.winRefuse i .klwSlot 1) ∧
        Answers (.klwSlotWrite i) d (d.winRefuse i .klwSlot 2)) ∧
      (d.flag KLW_L_STAT_busy = false → y = d.put KLW_L_STAT_err 0 →
        Answers (.klwSlotRead i) d ((((y.wr64 KLW_L_T_LO KLW_L_T_HI (y.slot (.kalow (y.get KLW_L_SEL_route))).time).wr KLW_L_CTL
          (y.slot (.kalow (y.get KLW_L_SEL_route))).ctl).wr KLW_L_PER
            (BitVec.ofNat 32 (y.slot (.kalow (y.get KLW_L_SEL_route))).per)).put KLW_L_STAT_busy 1) ∧
        Answers (.klwSlotWrite i) d
          ((y.winSlot i (.kalow (y.get KLW_L_SEL_route)) (y.rd64 KLW_L_T_LO KLW_L_T_HI) (y.rd KLW_L_CTL)
            (y.rd KLW_L_PER).toNat).put KLW_L_STAT_busy 1)))

/-- The cipher bank: engine tests, context windows and the changeover of keys, the next state of each stated whole (R53, R144, R217, R220, R231, R234) -/
def Obligations.CipherBankAct : Prop :=
  ∀ (d x y z : Dev) (i : Initiator) (e c g k : Nat) (failed v : Word) (b staged : Bool) (s s' : CtxState),
    (((List.range 32).filter (fun k => failed.getLsbD k && !d.bit AUT_ENG_FAIL k)).length = k →
      (k = 0 → Answers (.knownAnswerTest failed) d d) ∧
      (k ≠ 0 → y = ((d.wr AUT_ENG_FAIL (d.rd AUT_ENG_FAIL ||| failed)).add ⟨AUT_KAT_FAIL, 31, 0⟩ k).raise pgAUT 14 →
        Answers (.knownAnswerTest failed) d (if 24 ≤ d.engines ∧ y.engines < 24 then y.raise pgAUT 18 else y))) ∧
    (d.accepts i = true → Answers (.engFailClear i v) d (d.wr AUT_ENG_FAIL (d.rd AUT_ENG_FAIL &&& ~~~ v))) ∧
    (d.accepts i = true → d.locked pgAUT = false →
      (d.flag AUT_CTX_STAT_busy = true →
        Answers (.ctxRead i staged) d (d.winRefuse i .autCtx 1) ∧ Answers (.ctxStage i) d (d.winRefuse i .autCtx 2) ∧
        Answers (.ctxCountersCopy i) d (d.winRefuse i .autCtx 3) ∧ Answers (.ctxLatchState i) d (d.winRefuse i .autCtx 4) ∧
        Answers (.changeoverNow i) d (d.winRefuse i .autCtx 5)) ∧
      (d.flag AUT_CTX_STAT_busy = false → y = d.put AUT_CTX_STAT_err 0 → c = y.selCtx →
        (k = (if staged && y.aut.ctxD.contains c then NMap.get 0 y.aut.ctxS c else y.ctx c) →
          Answers (.ctxRead i staged) d ((y.loadWords AUT_CTX_DATA 8 k).put AUT_CTX_STAT_busy 1)) ∧
        (z = ({ y with aut := { y.aut with
            ctxS := NMap.set 0 y.aut.ctxS c (y.readWords AUT_CTX_DATA 8),
            ctxD := y.aut.ctxD.filter (fun e => e != c) ++ [c] } } : Dev) →
          Answers (.ctxStage i) d (z.put AUT_CTX_STAT_busy 1)) ∧
        (z = y.each (List.range 12) (fun j t =>
            { t.wr (AUT_CTX_CNT j) (BitVec.ofNat 32 (NMap.get 0 t.aut.cnt (c * 12 + j))) with
                aut := { t.aut with cnt := NMap.set 0 t.aut.cnt (c * 12 + j) 0 } }) →
          Answers (.ctxCountersCopy i) d (z.put AUT_CTX_STAT_busy 1)) ∧
        (s = y.cst c → b = (s.inState 2).getD s.newest →
          z = ((((y.put AUT_ST_SLOT_act (if s.newest then 1 else 0)).put AUT_ST_SLOT_an0 s.s0.an).put AUT_ST_SLOT_an1 s.s1.an).put
            AUT_ST_SLOT_st0 s.s0.st).put AUT_ST_SLOT_st1 s.s1.st →
          x = (z.wr64 AUT_ST_SPEND_LO AUT_ST_SPEND_HI (s.slot b).spend).wr64 AUT_ST_PN_LO AUT_ST_PN_HI
            (if ctxFmt (z.ctx z.selCtx) = 4 ∧ nb (z.ctx z.selCtx) 117 116 = 2 then s.c16 else (s.slot b).pn) →
          Answers (.ctxLatchState i) d (x.put AUT_CTX_STAT_busy 1)) ∧
        Answers (.changeoverNow i) d ((y.changeover c).put AUT_CTX_STAT_busy 1))) ∧
    (s = d.cst c →
      (ctxFmt (d.ctx c) = 1 → s.s0.st ≠ 0 → s.s1.st ≠ 0 →
        s' = (s.put s.newest { s.slot s.newest with st := 2 }).put (!s.newest) {} →
        d.changeover c = ((d.setCst c s').count AUT_CHG_CNT).raise pgAUT 11) ∧
      (ctxFmt (d.ctx c) ≠ 1 → s.inState 1 = none → d.changeover c = d.raise pgAUT 12) ∧
      (ctxFmt (d.ctx c) ≠ 1 → s.inState 1 = some b →
        s' = s.put b { s.slot b with st := 2, pn := if ctxFmt (d.ctx c) = 2 then (s.slot b).pn0 else 0, spend := 0, warned := false } →
        y = d.setCst c { (if (s.slot (!b)).st = 0 then s' else s'.put (!b) { s.slot (!b) with st := 3 }) with
          newest := b, unit := 0, c16 := 0 } →
        z = (if ctxFmt (d.ctx c) = 3 ∧ (s.slot (!b)).st ≠ 0 then y.armIn ⟨.oldKey, c, 0⟩ (msT (nb (y.ctx c) 143 128)) else y) →
        d.changeover c = (z.count AUT_CHG_CNT).raise pgAUT 11)) ∧
    (g < 64 → d.armed (.aut g) = true → d.pw.halted = false → ctlAction (d.slot (.aut g)).ctl = 7 →
      d.turn (d.turnAt (.aut g) (d.slot (.aut g)).time) = true → d.lateTick (.aut g) = none → y = d.atNs (d.slot (.aut g)).time →
      Answers (.keyChangeover g) d
        ((y.each ((y.aut.ctx.filter (fun a => nb a.2 11 6 == g && ctxFmt a.2 != 0)).map (fun a => a.1)) Dev.changeover).complete
          (.aut g) false)) ∧
    (c < 4096 → d.due ⟨.oldKey, c, 0⟩ = some e → y = (d.at_ e).cancel ⟨.oldKey, c, 0⟩ →
      ((y.cst c).inState 3 = some b → Answers (.oldKeyOverlapEnd c) d (y.setCst c ((y.cst c).put b {}))) ∧
      ((y.cst c).inState 3 = none → Answers (.oldKeyOverlapEnd c) d y)) ∧
    (c < 4096 → ctxFmt (d.ctx c) = 2 ∨ ctxFmt (d.ctx c) = 4 → (d.cst c).inState 3 = some b →
      d.vlt.tx.any (fun t => t.cv == some c) = false →
      d.vlt.drawn.any (fun x => x.cv == some c && decide (d.now < x.ready)) = false →
      Answers (.oldSlotZeroise c) d (d.setCst c ((d.cst c).put b {}))) ∧
    (d.accepts i = true → d.locked pgAUT = false →
      (d.flag AUT_CHG_STAT_busy = true → Answers (.chgSlotRead i) d (d.winRefuse i .autChg 1) ∧
        Answers (.chgSlotWrite i) d (d.winRefuse i .autChg 2)) ∧
      (d.flag AUT_CHG_STAT_busy = false → y = d.put AUT_CHG_STAT_err 0 →
        Answers (.chgSlotRead i) d ((((y.wr64 AUT_CHG_T_LO AUT_CHG_T_HI (y.slot (.aut (y.get AUT_CHG_SEL_slot))).time).wr AUT_CHG_CTL
          (y.slot (.aut (y.get AUT_CHG_SEL_slot))).ctl).wr AUT_CHG_PER
            (BitVec.ofNat 32 (y.slot (.aut (y.get AUT_CHG_SEL_slot))).per)).put AUT_CHG_STAT_busy 1) ∧
        Answers (.chgSlotWrite i) d
          ((y.winSlot i (.aut (y.get AUT_CHG_SEL_slot)) (y.rd64 AUT_CHG_T_LO AUT_CHG_T_HI) (y.rd AUT_CHG_CTL)
            (y.rd AUT_CHG_PER).toNat).put AUT_CHG_STAT_busy 1)))

/-- The key operations: refusal while busy, sealed or not ready, the start of an accepted one, and its end; provisioning and the noise source (R239, R240, R241, R243, R244, R245) -/
def Obligations.KeyOperationsAct : Prop :=
  ∀ (d y z : Dev) (i : Initiator) (data : List Byte) (o g : KeyOp) (e st op : Nat) (k : Instr × Nat × List Byte) (w : KeyUe),
    k ∈ [(.importPlain i, 1, []), (.importWrapped i, 2, []), (.load i, 3, []), (.derive i, 4, []), (.unwrap i, 5, []),
      (.wrap i, 6, []), (.cmac i data, 7, data), (.generate i, 8, []), (.random i, 9, []), (.zero i, 0xA, []),
      (.token i, 0xB, [])] →
    z = d.each (List.range 12) (fun j d => d.wr (KEY_RES j) 0) →
    o = z.keyOperands k.2.1 (z.dataAt (z.rd64 KEY_DATA_LO KEY_DATA_HI) (z.get KEY_DATA_LEN_bytes) k.2.2) →
    (d.accepts i = true →
      (d.flag KEY_CSTAT_busy = true → Answers k.1 d (d.put KEY_CSTAT_status ksBusy)) ∧
      (d.flag KEY_CSTAT_busy = false → z.flag KEY_STAT_sealed = true → k.2.1 ≠ 0xB → Answers k.1 d (z.keyEnd ksSealed)) ∧
      (d.flag KEY_CSTAT_busy = false → z.flag KEY_STAT_ready = false →
        z.flag KEY_STAT_sealed = false ∨ (k.2.1 = 0xB ∧ z.get KEY_STAT_root = 3) → Answers k.1 d (z.keyEnd ksNotReady)) ∧
      (d.flag KEY_CSTAT_busy = false → z.flag KEY_STAT_sealed = false ∨ k.2.1 = 0xB →
        z.flag KEY_STAT_ready = true ∨ (z.flag KEY_STAT_sealed = true ∧ z.get KEY_STAT_root ≠ 3) →
        (z.argRefuses o = some st → Answers k.1 d (z.keyEnd st)) ∧
        (z.argRefuses o = none → y = ({ z with key := { z.key with op := some o, touched := [] } } : Dev) →
          Answers k.1 d ((y.put KEY_CSTAT_busy 1).armIn ⟨.keyOp, 0, 0⟩ (opTime o)))) ∧
      (op = 0 ∨ (12 ≤ op ∧ op < 16) →
        (d.flag KEY_CSTAT_busy = true → Answers (.keyBadOp i op) d (d.put KEY_CSTAT_status ksBusy)) ∧
        (d.flag KEY_CSTAT_busy = false → Answers (.keyBadOp i op) d (z.keyEnd ksBadArg))) ∧
      (d.key.anchors.any (fun e => e.2.valid && e.2.purpose == 1) = true → Answers (.provClose i) d
        (({ d with key := { d.key with closed := true } } : Dev).put KEY_STAT_prov 0)) ∧
      (d.key.anchors.any (fun e => e.2.valid && e.2.purpose == 1) = false →
        Answers (.provClose i) d (d.ignoredErr pgKEY i 0x1A4 1))) ∧
    (d.key.op = some g → d.due ⟨.keyOp, 0, 0⟩ = some e →
      Answers (.keyOpDone none) d ((d.cancel ⟨.keyOp, 0, 0⟩).keyResult g) ∧
      Answers (.keyOpDone (some w)) d ((d.cancel ⟨.keyOp, 0, 0⟩).keyUe g w)) ∧
    (y = (d.due ⟨.reseed, 0, 0⟩).elim d (fun e => (d.at_ e).cancel ⟨.reseed, 0, 0⟩) →
      (d.running ⟨.reseed, 0, 0⟩ = true ∨ d.flag KEY_STAT_rng_ok = true → Answers (.drbgReseed false) d y.rngFails) ∧
      (d.running ⟨.reseed, 0, 0⟩ = false → d.flag KEY_STAT_rng_ok = false → Answers (.drbgReseed false) d d) ∧
      (d.running ⟨.reseed, 0, 0⟩ = true ∨ 2 ^ 20 ≤ d.key.requests → Answers (.drbgReseed true) d (y.seed.put KEY_STAT_rng_ok 1)) ∧
      (d.running ⟨.reseed, 0, 0⟩ = false → d.key.requests < 2 ^ 20 → Answers (.drbgReseed true) d d)) ∧
    (d.pw.main = true → Answers .maskRenew d { d with now := d.now + usT 1, key := { d.key with masks := d.key.masks + 1 } }) ∧
    (d.pw.main = false → Answers .maskRenew d d)

/-- Tamper sensors and their response, signature verification and the anchors: the next state of each stated whole (R246, R247, R249, R250, R251) -/
def Obligations.TamperAndSignaturesAct : Prop :=
  ∀ (d w x y z : Dev) (i : Initiator) (s : Sensor) (b e k n r purpose : Nat) (v : Word) (data : List Byte) (op : SigOp) (ev : TamperLog)
      (ue : Option Nat) (out : Option (List Byte)) (a : Anchor),
    (b = sensorBit s →
      (d.pw.base = .off ∨ bitAt (d.get TMP_EN_sensors) b = false ∨ (2 ≤ b ∧ d.pw.main = false) ∨
        bitAt (d.get TMP_LATCH_sensors) b = true → Answers (.tamperSensorFire s) d d) ∧
      (d.pw.base ≠ .off → bitAt (d.get TMP_EN_sensors) b = true → (2 ≤ b → d.pw.main = true) →
        bitAt (d.get TMP_LATCH_sensors) b = false → n = d.get TMP_LATCH_sensors →
        y = (d.put TMP_LATCH_sensors (setBitTo n b true)).put TMP_STAT_alarm 1 →
        ev = { aon := !y.pw.main || y.tim.released.isNone, sensors := 2 ^ b, mode := y.mode, start := y.key.starts % 65536,
               time := if y.pw.main && y.tim.released.isSome then y.ns else y.aonUs } →
        (y.pw.main = true → y.pw.losing = false →
          y.flag KEY_STAT_ready = true ∨ y.flag KEY_STAT_sealed = true ∨ (y.get KEY_STAT_root = 3 ∧ y.pw.optionsLoaded = true) →
          (n = 0 → Answers (.tamperSensorFire s) d (y.logTamper ev).tamperAlarm) ∧
          (n ≠ 0 → Answers (.tamperSensorFire s) d (y.logTamper ev))) ∧
        (y.pw.main = false ∨ y.pw.losing = true ∨ (y.flag KEY_STAT_ready = false ∧ y.flag KEY_STAT_sealed = false ∧
            (y.get KEY_STAT_root ≠ 3 ∨ y.pw.optionsLoaded = false)) →
          z = ({ y with key := { y.key with waiting := ev :: y.key.waiting, alarmWaits := y.key.alarmWaits || n == 0 } } : Dev) →
          (n = 0 → y.pw.main = false ∨ y.pw.optionsLoaded = false ∨ 2 ≤ y.get TMP_STAT_resp →
            Answers (.tamperSensorFire s) d (z.put TMP_STAT_erase_pend 1)) ∧
          (n ≠ 0 ∨ (y.pw.main = true ∧ y.pw.optionsLoaded = true ∧ y.get TMP_STAT_resp < 2) →
            Answers (.tamperSensorFire s) d z)))) ∧
    (d.due ⟨.tmpErase, 0, 0⟩ = some e → y = d.cancel ⟨.tmpErase, 0, 0⟩ →
      z = y.each y.key.recs (fun e t => t.setKrc e.1 { e.2 with sel := 0 }) →
      Answers .tamperEraseDone d (((z.put KEY_STAT_sealed 0).recShow.keyReady (z.get KEY_STAT_root == 2)).raise pgTMP 9)) ∧
    (d.accepts i = true →
      Answers (.tamperEnable i v) d (d.put TMP_EN_sensors (Nat.lor (d.get TMP_EN_sensors) (bitsOf v 4 0))) ∧
      (d.get TMP_STAT_resp ≠ 0 → Answers (.tamperLatchClear i v) d (d.ignoredErr pgTMP i 0x104 v.toNat)) ∧
      (d.get TMP_STAT_resp = 0 →
        n = ((List.range 5).filter (fun b => bitAt (d.get TMP_LATCH_sensors) b && !v.getLsbD b)).foldl (fun n b => n + 2 ^ b) 0 →
        y = (d.put TMP_LATCH_sensors n).put TMP_STAT_alarm (if n = 0 then 0 else 1) →
        z = (if n = 0 then y.put TMP_STAT_erase_pend 0 else y) →
        Answers (.tamperLatchClear i v) d (if n ≠ d.get TMP_LATCH_sensors then z.raise pgTMP 10 else z)) ∧
      (y = (if d.locked pgSIG = true then d.lockViol pgSIG i 0x100 1 else d) →
        (y.sigBusy = true → Answers (.sigGo i data) d (y.ignoredErr pgSIG i 0x100 1)) ∧
        (y.sigBusy = false → n = y.get SIG_DATA_LEN_bytes →
          op = { curve := y.flag SIG_CTL_curve, hash := y.flag SIG_CTL_hash, addr := y.rd64 SIG_DATA_LO SIG_DATA_HI,
                 anchor := if y.flag SIG_CTL_anchor then some (y.get SIG_CTL_slot) else none, len := n,
                 data := y.dataAt (y.rd64 SIG_DATA_LO SIG_DATA_HI) n data,
                 digest := (y.wordBytes SIG_DIG 12).take (if y.flag SIG_CTL_curve then 48 else 32),
                 q := halves (y.flag SIG_CTL_curve) (y.wordBytes SIG_Q 24),
                 sig := halves (y.flag SIG_CTL_curve) (y.wordBytes SIG_SG 24) } →
          z = ({ y with key := { y.key with sig := some op } } : Dev) →
          Answers (.sigGo i data) d ((z.put SIG_CTL_go 1).armIn ⟨.sigOp, 0, 0⟩
            ((if op.hash then nsT n else 0) + usT (if op.curve then 800 else 350))))) ∧
      (k = d.get SIG_ANCH_SEL_slot → a = NMap.get {} d.key.anchors k →
        (purpose < 4 → a.valid = false → d.flag KEY_STAT_prov = true → Answers (.anchWrite i purpose) d (d.setAnchor k
          { valid := true, revoked := a.revoked, purpose := purpose % 4, curve := d.flag SIG_CTL_curve,
            digest := sha true (d.sigKey (d.flag SIG_CTL_curve)) })) ∧
        (purpose < 4 → a.valid = true ∨ d.flag KEY_STAT_prov = false →
          Answers (.anchWrite i purpose) d (d.ignoredErr pgSIG i 0x308 (1 + purpose % 4 * 16))) ∧
        (a.valid = true → a.revoked = false → a.purpose = 0 →
          d.key.anchors.any (fun e => e.1 != k && (e.2.valid && !e.2.revoked && e.2.purpose == 0)) = false →
          Answers (.anchRevoke i) d (d.ignoredErr pgSIG i 0x308 2)) ∧
        (a.valid = false ∨ a.revoked = true ∨ a.purpose ≠ 0 ∨
            d.key.anchors.any (fun e => e.1 != k && (e.2.valid && !e.2.revoked && e.2.purpose == 0)) = true →
          Answers (.anchRevoke i) d (d.setAnchor k { a with revoked := true })))) ∧
    (d.key.sig = some op → d.due ⟨.sigOp, 0, 0⟩ = some e → d.cancel ⟨.sigOp, 0, 0⟩ = y → y.sigResult op ue.isSome = (r, out) →
      z = ({ y with key := { y.key with sig := none } } : Dev) →
      x = ue.elim z (fun n => if r = 4 then z.memUe (op.addr + n % op.len) else z) →
      w = out.elim x (fun bs => x.putBytes SIG_DIG 12 bs) →
      Answers (.sigDone ue) d (((w.put SIG_STAT_result r).put SIG_CTL_go 0).raise pgSIG (if r = 4 then 9 else 8)))

/-- Wake sources with MAIN off, in reset and with MAIN on, Listen, the held wake, and the wake of segments and SUPEN outputs (R257, R258, R259, R260, R267, R270, R29, R53) -/
def Obligations.WakesAct : Prop :=
  ∀ (d y z : Dev) (i : Initiator) (n : SupenIdx) (pn : Fin 8) (ch : CanCh) (ln : LinCh) (c : Decoder) (r : BusRecord) (p : EthPort)
      (vn : VhLink) (k : WakSlot) (src : WakeSrc) (v : Word) (e b : Nat) (x : Nat × Nat × Nat × Nat × Nat) (on : Bool)
      (fin : Dev → Dev),
    (d.wakeEnabled src = false ∨ d.pw.base = .off ∨ d.pw.losing = true → Answers (.wakeDetect src) d d) ∧
    (d.pw.base ≠ .off → d.pw.losing = false → d.wakeEnabled src = true →
      (d.pw.main = false →
        (src = .pin pn → Answers (.wakeDetect src) d (d.wakeOff src 2 pn 0 0 0)) ∧
        (src = .host → Answers (.wakeDetect src) d (d.wakeOff src 4 0 0 0 0)) ∧
        (src = .vh vn → Answers (.wakeDetect src) d (d.wakeOff src 5 vn 0 0 0)) ∧
        (src = .can ch → Answers (.wakeDetect src) d (d.busActivity src ch true)) ∧
        (src = .lin ln → Answers (.wakeDetect src) d (d.busActivity src (24 + ln.val) true)) ∧
        (src = .eth p → Answers (.wakeDetect src) d (d.busActivity src p false))) ∧
      (d.pw.main = true →
        (d.pw.rails = false ∨ d.pw.asserted = true → Answers (.wakeDetect src) d
          (d.put WAK_WSR_SEEN_src (setBitTo (d.get WAK_WSR_SEEN_src) (seenBit src) true))) ∧
        (d.pw.rails = true → d.pw.asserted = false →
          (d.standsBy src = true → Answers (.wakeDetect src) d (d.raise pgWAK 14)) ∧
          (d.standsBy src = false → d.pw.halted = true → Answers (.wakeDetect src) d (d.rejectTrig (wakeTrigger src))) ∧
          (d.standsBy src = false → d.pw.halted = false → d.pw.base = .start → d.tim.released = none →
            Answers (.wakeDetect src) d ((d.put WAK_WSR_SEEN_src
              (setBitTo (d.get WAK_WSR_SEEN_src) (seenBit src) true)).rejectTrig (wakeTrigger src))) ∧
          (d.standsBy src = false → d.pw.halted = false → d.pw.base ≠ .start ∨ d.tim.released.isSome = true →
            y = ({ d with wak := { d.wak with pins := setBitTo d.wak.pins pn true } } : Dev).wakeSeen →
            (src = .pin pn ∧ z = (if y.flag (WAK_WK_CFG_seg_v pn) = true then y.segWake (y.get (WAK_WK_CFG_seg pn)) else y)) ∨
              (src = .host ∧ z = d.wakeSeen) ∨ (src = .vh vn ∧ z = d) ∨ (src = .can ch ∧ z = d.portWake (canPort ch)) ∨
              (src = .lin ln ∧ z = d.portWake (linPort ln)) ∨ (src = .eth p ∧ z = d.portWake p) →
            (d.pw.settling = true ∨ d.get WAK_SEG_STAT_asleep ≠ z.get WAK_SEG_STAT_asleep → Answers (.wakeDetect src) d z) ∧
            (d.pw.settling = false → d.get WAK_SEG_STAT_asleep = z.get WAK_SEG_STAT_asleep →
              Answers (.wakeDetect src) d (z.rejectTrig (wakeTrigger src))))))) ∧
    (r.wf = true →
      (d.decodes c = false ∨ (c.val < 24 ∧ (r.fdf = true ∨ 1 < r.fmt)) → Answers (.listenFrameMatch c r) d d) ∧
      (d.decodes c = true → (c.val < 24 → r.fdf = false ∧ r.fmt ≤ 1) →
        y = { d with wak := { d.wak with listenErr := NMap.set 0 d.wak.listenErr c (NMap.get 0 d.wak.listenErr c - 1) } } →
        (y.flag WAK_LISTEN_CFG_sel = false → Answers (.listenFrameMatch c r) d y) ∧
        (c.val = ch.val →
          (y.wakeMatch c r = false → Answers (.listenFrameMatch c r) d y) ∧
          (y.flag WAK_LISTEN_CFG_sel = true → y.wakeMatch c r = true →
            Answers (.listenFrameMatch c r) d (y.wakeOff (.can ch) 3 c 0 r.fmt r.id))) ∧
        (c.val = 24 + ln.val →
          (y.wakeMatch c { r with data := [] } = false → Answers (.listenFrameMatch c r) d y) ∧
          (y.flag WAK_LISTEN_CFG_sel = true → y.wakeMatch c { r with data := [] } = true →
            Answers (.listenFrameMatch c r) d (y.wakeOff (.lin ln) 3 c 0 r.fmt r.id))))) ∧
    (d.decodes ch.val = false → Answers (.listenErrorLimit ch) d d) ∧
    (d.decodes ch.val = true →
      y = { d with wak := { d.wak with listenErr := NMap.set 0 d.wak.listenErr ch (d.get WAK_LISTEN_CFG_err_lim) } } →
      Answers (.listenErrorLimit ch) d (y.wakeOff (.can ch) 3 ch 2 0 0)) ∧
    (d.pw.base = .listen → d.wakeEnabled (.eth p) = true → Answers (.listenEnergyPersist p) d (d.wakeOff (.eth p) 3 p 3 0 0)) ∧
    (d.pw.base ≠ .listen ∨ d.wakeEnabled (.eth p) = false → Answers (.listenEnergyPersist p) d d) ∧
    (d.due ⟨.listen, 0, 0⟩ = some e → y = (d.at_ e).cancel ⟨.listen, 0, 0⟩ →
      z = { y with pw := { y.pw with base := .dormant } } →
      Answers .listenTimeout d ((z.put PWR_MAIN_STAT_listen 0).add WAK_FALSE_WAKES_count 1)) ∧
    (d.wak.held = some x → d.due ⟨.mainDark, 0, 0⟩ = some e → Answers .heldWakeMainOn d
      (((d.at_ e).cancel ⟨.mainDark, 0, 0⟩).wakeDecide x.1 x.2.1 x.2.2.1 x.2.2.2.1 x.2.2.2.2)) ∧
    (d.wak.held = none → Answers .heldWakeMainOn d d) ∧
    (d.accepts i = true → Answers (.segmentWakeCmd i v) d (d.each (maskList 15 v.toNat) Dev.segWake)) ∧
    (d.armed (.wak k) = true → d.pw.halted = false → ctlAction (d.slot (.wak k)).ctl = 9 →
      d.turn (d.turnAt (.wak k) (d.slot (.wak k)).time) = true →
      y = (d.lateTick (.wak k)).elim (d.atNs (d.slot (.wak k)).time) (fun t => d.atTick t) →
      fin = (fun t => if (d.lateTick (.wak k)).isSome then (t.complete (.wak k) true).countLate (.wak k) else t.complete (.wak k) false) →
      Answers (.segmentWakeLaunch k) d (fin (y.each (maskList 15 (bitsOf (y.rd (WAK_SL_CTL k)) 22 8)) Dev.segWake))) ∧
    (d.due ⟨.supenOff, n, 0⟩ = some e →
      Answers (.supenOffDelay n) d (((d.at_ e).cancel ⟨.supenOff, n, 0⟩).setSupen n false)) ∧
    (d.accepts i = true → b = (if on then 1 else 0) →
      (d.locked pgPWR = true → Answers (.supenCmdWrite i n on) d (d.lockViol pgPWR i (0x200 + 4 * n.val) (b * 2 ^ 16))) ∧
      (d.locked pgPWR = false → y = d.put (PWR_SUPEN_CFG_cmd n) b →
        (y.get (PWR_SUPEN_CFG_mode n) = 0 → Answers (.supenCmdWrite i n on) d (y.setSupen n on)) ∧
        (y.get (PWR_SUPEN_CFG_mode n) ≠ 0 → Answers (.supenCmdWrite i n on) d y)))

/-- The consent ring: rounds begun, joined, committed and vetoed, their time-outs, and the two sleep commits (R263, R264, R265, R267, R268, R270, R26, R29) -/
def Obligations.ConsentRoundsAct : Prop :=
  ∀ (d z y x w u : Dev) (i : Initiator) (s : SleepSet) (pins e n : Nat) (q : Nat × Nat) (tk : Token), tk.wf = true → pins < 256 →
    z = d.seePins pins →
    (d.accepts i = true →
      (z.ringRuns = true → z.flag WAK_CONS_CFG_init = true →
        (z.phase = 0 → z.maySettle = true → Answers (.consentRoundStart i s pins) d (z.startRound s)) ∧
        (z.phase ≠ 0 ∨ z.maySettle = false → Answers (.consentRoundStart i s pins) d (z.rejectTrig 0x0B))) ∧
      (z.ringRuns = false ∨ z.flag WAK_CONS_CFG_init = false → Answers (.consentRoundStart i s pins) d z) ∧
      (d.ringRuns = false → Answers (.consentVetoCmd i) d d) ∧
      (d.ringRuns = true → d.phase ≠ 0 → Answers (.consentVetoCmd i) d d.veto) ∧
      (d.ringRuns = true → d.phase = 0 → Answers (.consentVetoCmd i) d (d.rejectTrig 0x0C))) ∧
    (n = z.get WAK_CONS_CFG_auto_set →
      (z.ringRuns = true → z.flag WAK_CONS_CFG_init = true → z.flag WAK_CONS_CFG_auto = true → z.phase = 0 → z.maySettle = true →
        z.consents n = true → z.portsIdle n (z.get WAK_CONS_IDLE_ms) = true → z.wak.holdOff ≤ z.now →
        z.wak.blocked + msT (z.get WAK_CONS_IDLE_ms) ≤ z.now → Answers (.autoRoundStart pins) d (z.startRound n)) ∧
      (z.ringRuns = false ∨ z.flag WAK_CONS_CFG_init = false ∨ z.flag WAK_CONS_CFG_auto = false ∨ z.phase ≠ 0 ∨
          z.maySettle = false ∨ z.consents n = false ∨ z.portsIdle n (z.get WAK_CONS_IDLE_ms) = false ∨ z.now < z.wak.holdOff ∨
          z.now < z.wak.blocked + msT (z.get WAK_CONS_IDLE_ms) → Answers (.autoRoundStart pins) d z)) ∧
    (z.ringRuns = false → Answers (.proposeReceived tk pins) d z ∧ Answers (.localConsentLost pins) d z) ∧
    (z.ringRuns = true →
      (tk.origin = z.ownId →
        (z.ofRound tk = true → z.phase = 1 → Answers (.proposeReceived tk pins) d (z.proposeBack tk)) ∧
        (z.ofRound tk = false ∨ z.phase ≠ 1 → Answers (.proposeReceived tk pins) d z)) ∧
      (tk.origin ≠ z.ownId →
        (z.phase = 0 → Answers (.proposeReceived tk pins) d (z.join tk)) ∧
        (z.phase ≠ 0 → z.ofRound tk = true → Answers (.proposeReceived tk pins) d z) ∧
        (z.phase ≠ 0 → z.ofRound tk = false → y = z.wakCount 5 →
          (tk.origin < y.get WAK_CONS_ORG_origin → Answers (.proposeReceived tk pins) d (y.setAside.join tk)) ∧
          (y.get WAK_CONS_ORG_origin ≤ tk.origin → Answers (.proposeReceived tk pins) d y))) ∧
      (z.phase ≠ 0 → z.consents (z.get WAK_CONS_STAT_set) = false → Answers (.localConsentLost pins) d z.veto) ∧
      (z.phase = 0 ∨ z.consents (z.get WAK_CONS_STAT_set) = true → Answers (.localConsentLost pins) d z)) ∧
    (d.ringRuns = false ∨ d.ofRound tk = false → Answers (.commitTokenReceived tk) d d) ∧
    (d.ringRuns = true → d.ofRound tk = true →
      (d.isOrigin = true → d.phase = 2 → d.ns + d.get WAK_CONS_TIM_guard_us * 1000 ≤ d.sleepT →
        Answers (.commitTokenReceived tk) d ((d.put WAK_CONS_STAT_phase 3).raise pgWAK 9)) ∧
      (d.isOrigin = true → d.phase ≠ 2 ∨ d.sleepT < d.ns + d.get WAK_CONS_TIM_guard_us * 1000 →
        Answers (.commitTokenReceived tk) d d) ∧
      (d.isOrigin = false → d.phase = 1 → Answers (.commitTokenReceived tk) d
        (((((d.put WAK_CONS_STAT_phase 2).wr64 WAK_CONS_T_LO WAK_CONS_T_HI tk.t).cancel ⟨.consTmo, 0, 0⟩).wakCount 1).passOn tk)) ∧
      (d.isOrigin = false → d.phase ≠ 1 → Answers (.commitTokenReceived tk) d d)) ∧
    (d.ringRuns = false ∨ d.wak.sent.contains (3, tk.origin, tk.seq) = true → Answers (.vetoReceived tk) d d) ∧
    (d.ringRuns = true → d.wak.sent.contains (3, tk.origin, tk.seq) = false → y = d.wakCount 3 →
      x = y.tokenOnce { tk with sender := y.ownId, t := y.ns } none →
      (x.ofRound tk = true → Answers (.vetoReceived tk) d (x.raise pgWAK 10).vetoed) ∧
      (x.ofRound tk = false → x.ofSleep tk = true →
        Answers (.vetoReceived tk) d ((x.wakCount 6).wakeSet ((x.wakCount 6).get WAK_SLEEP_REC_set))) ∧
      (x.ofRound tk = false → x.ofSleep tk = false → x.wak.aside.isSome = true → tk.origin = x.ownId →
        w = { x with wak := { x.wak with aside := none } } → Answers (.vetoReceived tk) d (w.cancel ⟨.consTmo, 1, 0⟩)) ∧
      (x.ofRound tk = false → x.ofSleep tk = false → x.wak.aside = none ∨ tk.origin ≠ x.ownId → Answers (.vetoReceived tk) d x)) ∧
    (d.ringRuns = false ∨ d.wak.sent.contains (4, tk.origin, tk.seq) = true → Answers (.wakeTokenReceived tk) d d) ∧
    (d.ringRuns = true → d.wak.sent.contains (4, tk.origin, tk.seq) = false →
      x = d.tokenOnce { tk with sender := d.ownId, t := d.ns } none →
      Answers (.wakeTokenReceived tk) d ((if d.ofSleep tk = true then x.wakCount 6 else x).wakeSet (tk.set_ % 64))) ∧
    (d.ringRuns = true → d.isOrigin = true → d.phase = 2 → Answers .commitGuardExpiry d
      (d.atNs (d.sleepT - d.get WAK_CONS_TIM_guard_us * 1000)).veto) ∧
    (d.ringRuns = false ∨ d.isOrigin = false ∨ d.phase ≠ 2 → Answers .commitGuardExpiry d d) ∧
    (d.wak.aside = none → d.due ⟨.consTmo, 0, 0⟩ = some e → Answers .consTimeout d
      ((((d.at_ e).cancel ⟨.consTmo, 0, 0⟩).wakCount 4).raise pgWAK 13).veto) ∧
    (d.wak.aside = some q → d.due ⟨.consTmo, 1, 0⟩ = some e → y = (d.at_ e).cancel ⟨.consTmo, 1, 0⟩ →
      x = { y with wak := { y.wak with aside := none } } → w = (x.wakCount 4).raise pgWAK 13 →
      Answers .consTimeout d (w.sendVeto q.1 w.ownId q.2)) ∧
    (d.sleepArmed = false → Answers .sleepCommitSet d d ∧ Answers .sleepCommitDevice d d) ∧
    (d.sleepArmed = true →
      (d.get WAK_CONS_STAT_set = 0 → Answers .sleepCommitSet d d) ∧
      (d.get WAK_CONS_STAT_set ≠ 0 → Answers .sleepCommitDevice d d) ∧
      (d.turn (d.turnAt .sleepCommit d.sleepT) = true → y = d.atNs d.sleepT →
        (d.get WAK_CONS_STAT_set ≠ 0 → x = y.sleepRecord → Answers .sleepCommitSet d
          ((x.closeRound.each (x.setSegs (x.get WAK_CONS_STAT_set)) Dev.segSleep).syncMode)) ∧
        (d.get WAK_CONS_STAT_set = 0 → u = y.endCanTx (List.finRange 24) → x = u.each u.followers Dev.supenDelay →
          w = { x with wak := { x.wak with follow := u.followers.foldl (fun a k => a + 2 ^ k) 0 } } →
          Answers .sleepCommitDevice d
            (((w.copyTimings.sleepRecord.put WAK_WSR_SEEN_src 0).closeRound.mainOff .dormant).armIn ⟨.mainDark, 0, 0⟩ (msT 1)))))

/-- The braces: mismatch, self-test, watchdog, handover, class B reset, resynchronisation, sweep and transmit ring (R275, R278, R281, R282, R285, R286, R287, R289, R290, R293, R30, R53) -/
def Obligations.BracesAct : Prop :=
  ∀ (d y z w : Dev) (i : Initiator) (br : Brace) (b group e : Nat) (v : Word) (c : Sys2Proof.Class) (x : BpDesc) (data : List Byte)
      (diffs l : List SweepDiff) (n head : Nat), b = brIx br →
    (group < 32 →
      (d.up = false ∨ d.braceRuns b = false → Answers (.braceMismatch br group) d d) ∧
      (d.up = true → d.braceRuns b = true → y = d.count (BRC_CMP_MISM b) →
        z = (if y.flag (BRC_CMP_CAP_valid b) = true then y
          else ((y.put (BRC_CMP_CAP_valid b) 1).put (BRC_CMP_CAP_group b) group).wr64 (BRC_CMP_CAP_T_LO b) (BRC_CMP_CAP_T_HI b) y.ns) →
        Answers (.braceMismatch br group) d ((z.raise (pgBRC b) 8).braceFault b 1 1))) ∧
    (d.due ⟨.wdg, b, 0⟩ = some e → Answers (.braceWatchdogExpiry br) d (((d.at_ e).cancel ⟨.wdg, b, 0⟩).wdgExpires b)) ∧
    (d.up = false ∨ d.running ⟨.wdg, b, 0⟩ = false → Answers (.wdgKick br v) d d) ∧
    (d.up = true → d.running ⟨.wdg, b, 0⟩ = true →
      (v ≠ 0x5A5AA5A5 ∨ (NMap.get 0 d.brc.kick b ≠ 0 ∧ d.now + 1 < NMap.get 0 d.brc.kick b + msT (d.get (BRC_WDG_CFG_min_ms b))) →
        Answers (.wdgKick br v) d (d.wdgExpires b)) ∧
      (NMap.get 0 d.brc.kick b = 0 ∨ NMap.get 0 d.brc.kick b + msT (d.get (BRC_WDG_CFG_min_ms b)) ≤ d.now + 1 →
        y = { d with brc := { d.brc with kick := NMap.set 0 d.brc.kick b (d.now + 1) } } →
        Answers (.wdgKick br 0x5A5AA5A5) d (y.armIn ⟨.wdg, b, 0⟩ (msT (max 1 (y.get (BRC_WDG_CFG_ms b))))))) ∧
    (d.accepts i = true →
      (bitsOf v 31 16 ≠ 0xB0A7 → Answers (.handoverCmd i br v) d d) ∧
      (bitsOf v 31 16 = 0xB0A7 → d.canHandOver b = true →
        (d.mayHandOver = true → Answers (.handoverCmd i br v) d (d.handover (1 - b) b 4)) ∧
        (d.mayHandOver = false → Answers (.handoverCmd i br v) d (d.rejectTrig 0x10))) ∧
      (bitsOf v 31 16 = 0xB0A7 → d.canHandOver b = false → Answers (.handoverCmd i br v) d
        ((d.put (BRC_HO_STAT_err b) 1).setErr (pgBRC b) i 0x104 v.toNat)) ∧
      (d.locked (pgBRC b) = true → Answers (.classBResetRequest i br) d (d.lockViol (pgBRC b) i 0x10 2)) ∧
      (d.locked (pgBRC b) = false →
        (d.role b = 1 → d.canHandOver (1 - b) = true → Answers (.classBResetRequest i br) d ((d.handover b (1 - b) 4).classB b 3)) ∧
        (d.role b = 1 → d.canHandOver (1 - b) = false → Answers (.classBResetRequest i br) d (d.setErr (pgBRC b) i 0x10 2)) ∧
        (d.role b ≠ 1 → d.running ⟨.bFill, b, 0⟩ = true ∨ d.running ⟨.selfTest, b, 0⟩ = true →
          Answers (.classBResetRequest i br) d d) ∧
        (d.role b ≠ 1 → d.running ⟨.bFill, b, 0⟩ = false → d.running ⟨.selfTest, b, 0⟩ = false →
          Answers (.classBResetRequest i br) d (d.classB b 3))) ∧
      (d.handedOver (pgBRC b) = true → Answers (.stestRun i br) d (d.updateBusy (pgBRC b) i (BRC_STEST_CMD b % 0x1000) 1)) ∧
      (d.handedOver (pgBRC b) = false →
        (d.role b = 2 → Answers (.stestRun i br) d
          ((((d.braceStops b).setDiag (pgBRC b) true).armIn ⟨.selfTest, b, 0⟩ (4 * 2048)).refreshFrom (pgBRC b))) ∧
        (d.role b ≠ 2 → Answers (.stestRun i br) d d)) ∧
      (d.pw.bracesOut = true → d.running ⟨.sweepDone, 0, 0⟩ = false →
        Answers (.braceSweepNow i) d (d.armIn ⟨.sweepDone, 0, 0⟩ (msT 2))) ∧
      (d.pw.bracesOut = false ∨ d.running ⟨.sweepDone, 0, 0⟩ = true → Answers (.braceSweepNow i) d d)) ∧
    (d.due ⟨.selfTest, b, 0⟩ = some e → y = d.cancel ⟨.selfTest, b, 0⟩ →
      z = (if (y.pg (pgBRC b)).diag = true then y.setDiag (pgBRC b) false else y) →
      (v = 0 → Answers (.braceSelfTestDone br v) d ((z.wr (BRC_STEST_RES b) v).testPassed b)) ∧
      (v ≠ 0 → Answers (.braceSelfTestDone br v) d ((z.wr (BRC_STEST_RES b) v).testFailed b))) ∧
    (d.due ⟨.bFill, b, 0⟩ = some e → Answers (.classBFillDone br) d
      (((d.cancel ⟨.bFill, b, 0⟩).askRelease (pgBRC b)).refreshFrom (pgBRC b))) ∧
    (d.due ⟨.resyncCopy, b, 0⟩ = some e → y = ((d.at_ e).cancel ⟨.resyncCopy, b, 0⟩).copyTcm (1 - b) b →
      w = { y with brc := { y.brc with copied := y.brc.copied.filter (· != b) ++ [b] } } → Answers (.resyncCopyDone br) d w) ∧
    (d.up = false ∨ d.brc.copied.contains b = false ∨ d.role b = 1 → Answers (.sbOk br) d d) ∧
    (d.up = true → d.brc.copied.contains b = true → d.role b ≠ 1 → y = d.put (BRC_ROLE_sb_ok b) 1 →
      (y.role b = 3 → Answers (.sbOk br) d (((y.put (BRC_ROLE_role b) 2).wdgStart b).refreshFrom (pgBRC b))) ∧
      (y.role b ≠ 3 → y.get UPD_STAT_state = 3 → y.upd.target = some br →
        Answers (.sbOk br) d (((y.cancel ⟨.standby, 0, 0⟩).put UPD_STAT_state 4).raise pgUPD 10)) ∧
      (y.role b ≠ 3 → y.get UPD_STAT_state ≠ 3 ∨ y.upd.target ≠ some br → Answers (.sbOk br) d y)) ∧
    (d.due ⟨.sweep, 0, 0⟩ = some e →
      y = ((d.at_ e).cancel ⟨.sweep, 0, 0⟩).arm ⟨.sweep, 0, 0⟩ (e + msT (max 1 (d.get (BRC_SWP_CFG_period_ms 0)))) →
      (y.flag (BRC_SWP_CFG_en 0) = true → y.running ⟨.sweepDone, 0, 0⟩ = false →
        Answers .braceSweep d (y.armIn ⟨.sweepDone, 0, 0⟩ (msT 2))) ∧
      (y.flag (BRC_SWP_CFG_en 0) = false ∨ y.running ⟨.sweepDone, 0, 0⟩ = true → Answers .braceSweep d y)) ∧
    (diffs.all SweepDiff.wf = true → d.due ⟨.sweepDone, 0, 0⟩ = some e → y = d.cancel ⟨.sweepDone, 0, 0⟩ →
      l = diffs.filter (fun q => y.braceRuns (brIx q.brace)) →
      z = ((y.wrapInc (BRC_SWP_STAT_passes 0)).put (BRC_SWP_STAT_last_ok 0) (if l.isEmpty = true then 1 else 0)).each l Dev.latent →
      Answers (.braceSweepDone diffs) d (if z.flag (BRC_SWP_CFG_action 0) = true
        then z.each (l.map (fun q => brIx q.brace)).eraseDups Dev.latentActs else z)) ∧
    (x.wf = true → n = bpSize (d.get (BRC_BP_TX_RING_log2 0 c)) → head = d.get (BRC_BP_TX_HEAD_index 0 c) →
      (d.up = false ∨ d.active = none ∨ d.pw.halted = true ∨ x.own = false ∨ bitAt (d.pressedAt 97) c = true ∨ x.len = 0 ∨
          9216 < x.len ∨ head % n = d.get (BRC_BP_TX_TAIL_index 0 c) % n → Answers (.bpTxFetch c x data) d d) ∧
      (d.up = true → d.active.isSome = true → d.pw.halted = false → x.own = true → bitAt (d.pressedAt 97) c = false →
        1 ≤ x.len → x.len ≤ 9216 → head % n ≠ d.get (BRC_BP_TX_TAIL_index 0 c) % n →
        y = (d.ringAdmit 97 c x.direct x.tsEvent x.port x.domain x.cls x.len data).2 →
        Answers (.bpTxFetch c x data) d (((y.wrTcm (y.get (BRC_BP_TX_RING_base 0 c) + head % n * 32)
          (bpBytes { x with own := false } false 0 0 0)).put (BRC_BP_TX_HEAD_index 0 c) ((head + 1) % n)).raise (pgBRC 0) 14)))

/-- Repair, scrubbing, the remap of Reserve rows, injection and the correctable-error threshold (R295, R296, R297, R299, R300, R301, R304, R305, R53) -/
def Obligations.IntegrityAct : Prop :=
  ∀ (d y z u w : Dev) (i : Initiator) (v : Word) (e chan region unit k per : Nat) (coins : List Nat) (rest : List (Nat × Nat × Nat))
      (hard mism : Bool) (f : ScrubFind),
    (y = (if mism = true ∧ d.up = true ∧ d.works pgSCB = true then d.repairsLost else d) →
      (y.ecc.repairQ = [] ∨ y.up = false ∨ y.works pgSCB = false → Answers (.repair hard mism) d y) ∧
      (y.ecc.repairQ = (region, unit, k) :: rest → y.up = true → y.works pgSCB = true →
        z = { y with ecc := { y.ecc with repairQ := rest } } → u = (z.put SCB_REPQ_CNT_items rest.length).repairWrite region unit →
        (hard = false → Answers (.repair hard mism) d u) ∧
        (hard = true → (u.remap region unit).1 = true → Answers (.repair hard mism) d (u.remap region unit).2) ∧
        (hard = true → (u.remap region unit).1 = false →
          Answers (.repair hard mism) d ((u.remap region unit).2.withdraw region unit)))) ∧
    (d.accepts i = true →
      (region = d.get SCB_REGION_region → unit = d.get SCB_FIRST_unit → k = d.get SCB_COUNT_units →
        (d.flag SCB_CTL_go = true ∨ k = 0 ∨ region = 13 ∨ regionSize region < unit + k →
          Answers (.scrubGo i) d ((d.put SCB_STAT_err 1).setErr pgSCB i 0x110 1)) ∧
        (d.flag SCB_CTL_go = false → k ≠ 0 → region ≠ 13 → unit + k ≤ regionSize region →
          y = { d with ecc := { d.ecc with region := region, first := unit, units := k } } →
          z = (y.put SCB_STAT_err 0).passBegins → per = z.get SCB_PER_ms →
          (per = 0 → Answers (.scrubGo i) d (z.cancel ⟨.scrubPeriod, 0, 0⟩)) ∧
          (per ≠ 0 → Answers (.scrubGo i) d (z.armIn ⟨.scrubPeriod, 0, 0⟩ (msT per))))) ∧
      (d.flag SCB_CTL_go = true → y = { d with ecc := { d.ecc with passLeft := 0 } } → Answers (.scrubAbort i) d y) ∧
      (d.flag SCB_CTL_go = false → Answers (.scrubAbort i) d d) ∧
      (y = { d with ecc := { d.ecc with clearRec := true } } → Answers (.remapRecordClear i) d (y.put ECC_REC_CLR_clr 1)) ∧
      (v.getLsbD 31 = true → y = (if d.locked pgECC = true then d.lockViol pgECC i 0x300 v.toNat else d) →
        region = (if d.locked pgECC = true then y.get ECC_INJ_region else bitsOf v 27 24) →
        k = (if d.locked pgECC = true then y.get ECC_INJ_bits else bitsOf v 17 16) →
        (y.flag ECC_INJ_arm = true ∨ region = 13 ∨ region = 14 ∨ k = 0 →
          Answers (.injectArm i v) d (y.setErr pgECC i 0x300 v.toNat)) ∧
        (y.flag ECC_INJ_arm = false → region ≠ 13 → region ≠ 14 → k ≠ 0 →
          Answers (.injectArm i v) d (((y.put ECC_INJ_region region).put ECC_INJ_bits k).put ECC_INJ_arm 1)))) ∧
    (v.getLsbD 31 = false → Answers (.injectArm i v) d d) ∧
    (d.due ⟨.scrubPeriod, 0, 0⟩ = some e → per = d.get SCB_PER_ms → y = (d.at_ e).cancel ⟨.scrubPeriod, 0, 0⟩ →
      (per = 0 → Answers .scrubPeriod d y) ∧
      (per ≠ 0 → z = y.arm ⟨.scrubPeriod, 0, 0⟩ (e + msT per) →
        (z.flag SCB_CTL_go = true → Answers .scrubPeriod d z) ∧
        (z.flag SCB_CTL_go = false → Answers .scrubPeriod d z.passBegins))) ∧
    (d.up = false ∨ d.works pgSCB = false ∨ d.flag SCB_CTL_go = false ∨ d.ecc.passLeft = 0 → Answers (.scrubUnitRead f) d d) ∧
    (d.up = true → d.works pgSCB = true → d.flag SCB_CTL_go = true → d.ecc.passLeft ≠ 0 →
      y = { d with ecc := { d.ecc with passAt := d.ecc.passAt + 1, passLeft := d.ecc.passLeft - 1, words := d.ecc.words + 1 } } →
      Answers (.scrubUnitRead .clean) d y ∧
      (d.ecc.region ≠ 0 →
        Answers (.scrubUnitRead (.correctable hard)) d (y.scrubCe d.ecc.region d.ecc.passAt hard)) ∧
      (f = .uncorrectable ∨ (d.ecc.region = 0 ∧ f = .correctable hard) →
        z = { y with ecc :=
                { y.ecc with ue := y.ecc.ue + 1, firstUe := if y.ecc.ue = 0 then d.ecc.passAt else y.ecc.firstUe } } →
        w = z.scrubUe d.ecc.region d.ecc.passAt →
        Answers (.scrubUnitRead f) d (if d.ecc.ue = 0 then w.raise pgSCB 9 else w))) ∧
    (d.flag SCB_CTL_go = false ∨ d.ecc.passLeft ≠ 0 → Answers .scrubPassDone d d) ∧
    (d.flag SCB_CTL_go = true → d.ecc.passLeft = 0 →
      y = ((((d.wr SCB_S_WORDS (BitVec.ofNat 32 d.ecc.words)).wr SCB_S_CE (BitVec.ofNat 32 d.ecc.ce)).wr SCB_S_UE
        (BitVec.ofNat 32 d.ecc.ue)).wr SCB_S_HARD (BitVec.ofNat 32 d.ecc.hard)).wr SCB_S_REMAP (BitVec.ofNat 32 d.ecc.remaps) →
      z = (y.wr SCB_S_FIRST_UE (BitVec.ofNat 32 d.ecc.firstUe)).wr SCB_S_DUR (BitVec.ofNat 32 ((y.now - d.ecc.passStart) / 4800)) →
      u = (z.wr64 SCB_S_T_LO SCB_S_T_HI z.ns).put SCB_CTL_go 0 →
      Answers .scrubPassDone d ((if d.ecc.words = regionSize d.ecc.region then u.put SCB_RESCAN_region
        (setBitTo (u.get SCB_RESCAN_region) d.ecc.region false) else u).raise pgSCB 8)) ∧
    (chan < 16 →
      (d.ecc.rowCopies = 0 → Answers (.reserveRowRemapDone chan coins) d d) ∧
      (d.ecc.rowCopies ≠ 0 → y = { d with ecc := { d.ecc with rowCopies := d.ecc.rowCopies - 1 } } → k = y.get (ECC_RSV_ROWS_used chan) →
        (k < 64 → z = { y with mram := { y.mram with remapped := y.mram.remapped ++ [(1, chan * 64 + k)] } } →
          Answers (.reserveRowRemapDone chan coins) d (z.showRemaps.raise pgECC 10)) ∧
        (64 ≤ k → Answers (.reserveRowRemapDone chan coins) d ((y.each coins (fun q t => t.withdraw 1 (q * 2))).raise pgECC 11)))) ∧
    (d.due ⟨.ceSecond, 0, 0⟩ = some e → y = ((d.at_ e).cancel ⟨.ceSecond, 0, 0⟩).arm ⟨.ceSecond, 0, 0⟩ (e + secT 1) →
      z = { y with ecc := { y.ecc with ceSecond := [] } } →
      (y.get ECC_CE_THR_per_s ≠ 0 → y.ecc.ceSecond.any (fun q => decide (y.get ECC_CE_THR_per_s < q.2)) = true →
        Answers .ceThresholdCheck d (z.raise pgECC 9)) ∧
      (y.get ECC_CE_THR_per_s = 0 ∨ y.ecc.ceSecond.any (fun q => decide (y.get ECC_CE_THR_per_s < q.2)) = false →
        Answers .ceThresholdCheck d z))

/-- The host link and its function: reset, training, loss, messages, semaphores and the failed-write log (R310, R317, R318, R319, R325) -/
def Obligations.HostLinkAct : Prop :=
  ∀ (d y z u : Dev) (i : Initiator) (n : Sem) (g w e : Nat) (x : PweItem) (l : List PweItem) (bme d3 en fm : Bool) (k : Fin 64),
    (d.hbr.perst = true → Answers .peRstnLow d d) ∧
    (d.hbr.perst = false → y = { d with hbr := { d.hbr with perst := true } } →
      (d.up = false → Answers .peRstnLow d y) ∧
      (d.up = true → z = ((y.put HBR_STAT_perst 1).pcieDown).hostGone.cfgReset →
        (z.flag (PG_STATE_in_reset pgHBR) = true → Answers .peRstnLow d z) ∧
        (z.flag (PG_STATE_in_reset pgHBR) = false → Answers .peRstnLow d (z.unitReset pgHBR)))) ∧
    (d.hbr.perst = false → Answers .peRstnRise d d) ∧
    (d.hbr.perst = true → z = { d with hbr := { d.hbr with perst := false, waken := false } } → y = z.cancel ⟨.wakenPin, 0, 0⟩ →
      (d.up = false → Answers .peRstnRise d (opWakeDetect .host y)) ∧
      (d.up = true → u = y.put HBR_STAT_perst 0 →
        (u.pw.filled = true → u.flag (PG_STATE_in_reset pgHBR) = true → u.running ⟨.unitReset, pgHBR, 0⟩ = false →
          Answers .peRstnRise d (opWakeDetect .host ((u.askRelease pgHBR).refreshFrom pgHBR))) ∧
        (u.pw.filled = false ∨ u.flag (PG_STATE_in_reset pgHBR) = false ∨ u.running ⟨.unitReset, pgHBR, 0⟩ = true →
          Answers .peRstnRise d (opWakeDetect .host u)))) ∧
    (d.flag HBR_STAT_link = false ∨ d.flag (PG_STATE_in_reset pgHBR) = true → Answers .functionLevelReset d d) ∧
    (d.flag HBR_STAT_link = true → d.flag (PG_STATE_in_reset pgHBR) = false →
      Answers .functionLevelReset d ((d.unitReset pgHBR).cfgReset).hostGone) ∧
    (1 ≤ g → g ≤ 4 → [1, 2, 4].contains w = true →
      (d.hbr.perst = true ∨ d.up = false ∨ d.inService pgHBR = false ∨ d.flag HBR_STAT_link = true →
        Answers (.pcieLinkUp g w) d d) ∧
      (d.hbr.perst = false → d.up = true → d.inService pgHBR = true → d.flag HBR_STAT_link = false →
        Answers (.pcieLinkUp g w) d
          ((((d.put HBR_STAT_link 1).put HBR_STAT_gen g).put HBR_STAT_width w).raise pgHBR 14).hostBack)) ∧
    (d.flag HBR_STAT_link = true → Answers .pcieLinkDown d d.pcieDown.hostGone) ∧
    (d.flag HBR_STAT_link = false → Answers .pcieLinkDown d d ∧ Answers (.pcieConfigWrite bme d3 en fm) d d) ∧
    (d.due ⟨.wakenPin, 0, 0⟩ = some e → y = (d.at_ e).cancel ⟨.wakenPin, 0, 0⟩ → z = { y with hbr := { y.hbr with waken := false } } →
      Answers .peWakenRelease d z) ∧
    (d.flag HBR_STAT_link = true →
      y = ((d.put HBR_STAT_bme (if bme = true then 1 else 0)).put HBR_STAT_msix_en (if en = true then 1 else 0)).put
        HBR_STAT_fmask (if fm = true then 1 else 0) → z = { y with hbr := { y.hbr with d3 := d3 } } →
      (d.hostUp = true → z.hostUp = false → Answers (.pcieConfigWrite bme d3 en fm) d z.readsLost.hostGone) ∧
      (d.hostUp = false ∨ z.hostUp = true → Answers (.pcieConfigWrite bme d3 en fm) d z.hostBack.flushMsix)) ∧
    (d.due ⟨.hostHold, 0, 0⟩ = some e → Answers .hostLinkHoldExpiry d (((d.at_ e).cancel ⟨.hostHold, 0, 0⟩).drainOn 57)) ∧
    Answers (.msixUnmask .function) d (d.put HBR_STAT_fmask 0).flushMsix ∧
    Answers (.msixUnmask .enable) d (d.put HBR_STAT_msix_en 1).flushMsix ∧
    (y = { d with hbr := { d.hbr with masked := d.hbr.masked.filter (· != k.val) } } → Answers (.msixUnmask (.vector k)) d y.flushMsix) ∧
    (d.accepts i = true →
      (d.get (HBR_SEM_holder n) = 0xF →
        y = (d.put (HBR_SEM_holder n) (iniCode i)).armIn ⟨.sem, n, 0⟩ (msT ((d.put (HBR_SEM_holder n) (iniCode i)).get HBR_SEM_TMO_ms)) →
        Answers (.semRead i n) d (y.emit (.readValue i (HBR_SEM n) (BitVec.ofNat 32 (2 ^ 31 + iniCode i * 2 ^ 16))))) ∧
      (d.get (HBR_SEM_holder n) ≠ 0xF → Answers (.semRead i n) d
        (d.emit (.readValue i (HBR_SEM n) (BitVec.ofNat 32 (d.get (HBR_SEM_holder n) * 2 ^ 16))))) ∧
      (d.get (HBR_SEM_holder n) = iniCode i → Answers (.semRelease i n) d (d.semFree n)) ∧
      (d.get (HBR_SEM_holder n) ≠ iniCode i → Answers (.semRelease i n) d (d.ignoredErr pgHBR i (0x300 + 4 * n) (2 ^ 31))) ∧
      (d.hbr.log = [] → Answers (.pweRead i) d
        (((d.wr HBR_PWE_LO 0).wr HBR_PWE_HI 0xF0000000).emit (.readValue i HBR_PWE_LO 0))) ∧
      (d.hbr.log = x :: l → y = { d with hbr := { d.hbr with log := l } } →
        Answers (.pweRead i) d ((((y.put HBR_PWE_CNT_items l.length).wr64 HBR_PWE_LO HBR_PWE_HI x.item).wr64 HBR_PWE_T_LO
          HBR_PWE_T_HI x.ns).emit (.readValue i HBR_PWE_LO (BitVec.ofNat 32 x.item))))) ∧
    (d.due ⟨.sem, n, 0⟩ = some e → Answers (.semTimeout n) d
      (((((d.at_ e).cancel ⟨.sem, n, 0⟩).semFree n).count (HBR_CNT 11)).raise pgHBR 13))

/-- Accesses of the host and of the braces through the bridge: writes, retry and split reads, the Retriever and outbound reads (R312, R313, R314, R315, R316, R319) -/
def Obligations.HostAccessesAct : Prop :=
  ∀ (d y z : Dev) (br : Brace) (i : Initiator) (off o e n addr a tag code : Nat) (v data w : Word) (x : RtvEntry) (r : OutRead)
      (l : PfLine) (bar : Bar) (nar poi : Bool) (bs : List Byte) (st : CplStatus),
    i = braceIni (brIx br) → code = iniCode i →
    (d.hostServed = false → Answers (.hostWrite bar off v nar poi) d d ∧ Answers (.hostRetryRead bar off) d d ∧
      Answers (.hostSplitRead bar off) d d) ∧
    (d.hostServed = true → o = off / 4 * 4 → a = 0x40000000 + o →
      (o < 0x10000000 → Answers (.hostWrite .mram off v nar poi) d
        (d.writeFailed 2 (if poi = true then 4 else 3) (0x80000000 + o))) ∧
      (o < 0x4000 → Answers (.hostWrite .msix off v false false) d (d.msixWrite o v) ∧
        Answers (.hostSplitRead .msix off) d (d.emit (.hostData o (d.msixShown o)))) ∧
      (o < 0x4000000 →
        Answers (.hostWrite .registers off v nar true) d (d.writeFailed 2 4 a) ∧
        Answers (.hostWrite .registers off v true false) d ((d.badAccess .host true o).writeFailed 2 2 a) ∧
        (pageKind (o / 0x1000) = none →
          Answers (.hostWrite .registers off v false false) d ((d.badAccess .host true o).writeFailed 2 1 a)) ∧
        ((pageKind (o / 0x1000)).isSome = true →
          Answers (.hostWrite .registers off v false false) d (((d.rtvWritten a).lineWritten 2 a).regWrite .host o v)) ∧
        (retryAddr .registers off = none →
          (d.prefetchable a = false → d.fetchWord a = (w, y) → Answers (.hostSplitRead .registers off) d (y.emit (.hostData a w))) ∧
          (d.prefetchable a = true → d.freshLine 2 a = (some (n, l), y) → z = y.emit (.hostData a (l.word a)) →
            Answers (.hostSplitRead .registers off) d
              { z with hbr := { z.hbr with lines := NMap.set none z.hbr.lines n (some (l.took a)) } }) ∧
          (d.prefetchable a = true → d.freshLine 2 a = (none, y) → y.fetchBlock a = (bs, z) →
            l = { addr := a / 64 * 64, by_ := 2, data := bs, left := List.range 16, at_ := z.now } →
            Answers (.hostSplitRead .registers off) d ((z.keepLine (l.took a)).emit (.hostData a (l.word a))))))) ∧
    (d.hostServed = true → retryAddr bar off = some addr → Answers (.hostSplitRead bar off) d d ∧
      (d.rtvAt addr = some (e, x) → x.data = some bs →
        Answers (.hostRetryRead bar off) d ((d.rtvFree e).rtvData addr (x.word addr bs))) ∧
      (d.rtvAt addr = some (e, x) → x.data = none → Answers (.hostRetryRead bar off) d (d.rtvRetry addr)) ∧
      (d.rtvAt addr = none → (List.range 8).find? (fun e => (NMap.get none d.hbr.rtv e).isNone) = some e →
        y = d.setRtv e (some { addr := addr, block := d.prefetchable addr }) →
        Answers (.hostRetryRead bar off) d (y.armIn ⟨.rtvWait, e, 0⟩ (nsT (y.get HBR_RTV_CFG_wait_ns)))) ∧
      (d.rtvAt addr = none → (List.range 8).find? (fun e => (NMap.get none d.hbr.rtv e).isNone) = none →
        Answers (.hostRetryRead bar off) d (d.rtvRetry addr))) ∧
    (retryAddr bar off = none → Answers (.hostRetryRead bar off) d d) ∧
    (e < 8 → NMap.get none d.hbr.rtv e = some x →
      (d.due ⟨.rtvWait, e, 0⟩ = some n → Answers (.retrieverWaitExpiry e) d
        ((((d.at_ n).cancel ⟨.rtvWait, e, 0⟩).setRtv e (some { x with waiting := false })).rtvRetry x.addr)) ∧
      (x.data.isSome = true → Answers (.retrieverFetchDone e) d d) ∧
      (x.data = none → (x.block = true ∧ d.fetchBlock x.addr = (bs, y)) ∨
          (x.block = false ∧ d.fetchWord x.addr = (w, y) ∧ bs = leBytes 4 w.toNat) →
        (x.waiting = true → Answers (.retrieverFetchDone e) d ((y.rtvFree e).rtvData x.addr (x.word x.addr bs))) ∧
        (x.waiting = false → Answers (.retrieverFetchDone e) d ((y.setRtv e (some { x with data := some bs })).armIn ⟨.rtvHold, e, 0⟩
          (usT ((y.setRtv e (some { x with data := some bs })).get HBR_RTV_CFG_hold_us))))) ∧
      (d.due ⟨.rtvHold, e, 0⟩ = some n → y = (((d.at_ n).cancel ⟨.rtvHold, e, 0⟩).rtvFree e).count (HBR_CNT 9) →
        ((y.pg pgHBR).captured = true → Answers (.retrieverHoldExpiry e) d (y.raise pgHBR 15)) ∧
        ((y.pg pgHBR).captured = false → Answers (.retrieverHoldExpiry e) d
          (((y.wr HBR_RTV_EXP_ADDR (BitVec.ofNat 32 x.addr)).modPg pgHBR (fun s => { s with captured := true })).raise pgHBR 15)))) ∧
    (n < 16 → NMap.get none d.hbr.lines n = some l →
      Answers (.prefetchLineDiscard n) d ((d.at_ (d.lineEnd l)).dropLine n)) ∧
    (n < 16 → NMap.get none d.hbr.lines n = none → Answers (.prefetchLineDiscard n) d d) ∧
    (addr < 2 ^ 39 → Answers (.outboundAccess br addr (some v)) d d ∧ Answers (.outboundAccess br addr none) d d) ∧
    (2 ^ 39 ≤ addr → addr < 2 ^ 40 → d.accepts i = true → a = addr / 4 * 4 →
      (y = (d.lineWritten code a).outWrite code a (leBytes 4 v.toNat) →
        ((d.outFails a).isSome = true → d.acked a = true →
          Answers (.outboundAccess br addr (some v)) d (y.emit (.braceFault code a true))) ∧
        (d.outFails a = none ∨ d.acked a = false → Answers (.outboundAccess br addr (some v)) d y)) ∧
      ((d.outFails a).isSome = true → Answers (.outboundAccess br addr none) d (d.emit (.braceFault code a false))) ∧
      (d.outFails a = none →
        (d.prefetchable a = true → d.freshLine code a = (some (n, l), y) → z = y.emit (.readValue i a (l.word a)) →
          Answers (.outboundAccess br addr none) d
            { z with hbr := { z.hbr with lines := NMap.set none z.hbr.lines n (some (l.took a)) } }) ∧
        ((d.prefetchable a = false ∧ y = d) ∨ (d.prefetchable a = true ∧ d.freshLine code a = (none, y)) →
          Answers (.outboundAccess br addr none) d (y.outRead { by_ := code, addr := a, ack := false } (y.readSpan a)).2))) ∧
    (tag < 32 → Answers (.outboundReadCompletion tag .ok data) d d ∧
      (st ≠ .ok → Answers (.outboundReadCompletion tag st data) d (d.ringReadFails tag (haltCause st))) ∧
      Answers (.outboundReadTimeout tag) d (d.ringReadFails tag 2)) ∧
    (32 ≤ tag → NMap.get none d.hbr.reads tag = some r → y = d.takeRead tag →
      (r.ack = true → Answers (.outboundReadCompletion tag .ok data) d y) ∧
      (r.ack = false → z = y.emit (.readValue (braceIni r.by_) r.addr data) →
        (r.n < 64 → Answers (.outboundReadCompletion tag .ok data) d z) ∧
        (64 ≤ r.n → r.n < 128 →
          Answers (.outboundReadCompletion tag .ok data) d (z.keepBlock r.by_ (r.addr / 64 * 64) r.addr data)) ∧
        (128 ≤ r.n → Answers (.outboundReadCompletion tag .ok data) d
          ((z.keepBlock r.by_ (r.addr / 64 * 64) r.addr data).keepBlock r.by_ (r.addr / 64 * 64 + 64) r.addr data))) ∧
      (st ≠ .ok → Answers (.outboundReadCompletion tag st data) d
        (y.readEnds r (haltCause st) (if st = .unsupported then 0xB else 0xC))) ∧
      (d.due ⟨.cplTmo, tag, 0⟩ = some e → Answers (.outboundReadTimeout tag) d
        ((((d.at_ e).cancel ⟨.cplTmo, tag, 0⟩).takeRead tag).readEnds r 2 0xD)))

/-- The rings of the host: a transmit descriptor fetched and written back, a received frame written, and the resume of a halted ring (R319, R321, R322, R324) -/
def Obligations.HostRingsAct : Prop :=
  ∀ (d y z u : Dev) (i : Initiator) (c : Sys2Proof.Class) (x : HostDesc) (data : List Byte) (t : Tx) (f : Frame) (tx : Bool) (r k : Nat)
      (st : CplStatus) (bs : List Byte),
    (x.wf = true →
      (d.hRuns c = false ∨ d.hPosted c = false ∨ x.own = false ∨ (NMap.get none d.hbr.txBusy c).isSome = true ∨
          bitAt (d.pressedAt 57) c = true → Answers (.hostTxDescFetch c x data) d d) ∧
      (d.hRuns c = true → d.hPosted c = true → x.own = true → NMap.get none d.hbr.txBusy c = none → bitAt (d.pressedAt 57) c = false →
        (x.len = 0 ∨ 9216 < x.len →
          Answers (.hostTxDescFetch c x data) d ((d.emit (.pcieWrite (d.hAddr c) (txDescBytes x 4))).hHalt c 4 true)) ∧
        (1 ≤ x.len → x.len ≤ 9216 → y = (d.ringAdmit 57 c x.direct x.tsEvent x.port x.domain x.cls x.len data).2 →
          Answers (.hostTxDescFetch c x data) d
            { y with hbr := { y.hbr with txBusy := NMap.set none y.hbr.txBusy c (some x) } }))) ∧
    (NMap.get none d.hbr.txBusy c = none → Answers (.hostTxFrameDone c) d d) ∧
    (NMap.get none d.hbr.txBusy c = some x →
      y = { d with hbr := { d.hbr with txBusy := NMap.set none d.hbr.txBusy c none } } →
      z = ((((y.emit (.pcieWrite (y.hAddr c) (txDescBytes x 0))).hAdvance c).count (HBR_CNT 0)).add ⟨HBR_CNT 1, 31, 0⟩ x.len) →
      (x.irq = true → Answers (.hostTxFrameDone c) d (z.hMessage c)) ∧
      (x.irq = false → Answers (.hostTxFrameDone c) d z)) ∧
    (x.wf = true → r = hRing false c →
      (x.own = false ∨ d.hostTx c = none → Answers (.hostRxWriteDone c x st) d d) ∧
      (x.own = true → d.hostTx c = some t →
        (d.hostUp = false → Answers (.hostRxWriteDone c x st) d ((d.hostLose t).hHalt r 5 false)) ∧
        (d.hostUp = true → st ≠ .ok → k = (if st = .poisoned then 1 else 3) →
          y = d.writeFailed 7 (if st = .unsupported then 0xB else 0xC) x.buf →
          bs = (y.frame t.fid).elim [] (fun f => rxDescBytes f c 0 x.buf x.irq k) →
          Answers (.hostRxWriteDone c x st) d (((y.emit (.pcieWrite (y.hAddr r) bs)).hostLose t).hHalt r k true)) ∧
        (d.hostUp = true → y = d.emit (.pcieWrite x.buf t.data) → y.frame t.fid = some f →
          z = ((y.emit (.pcieWrite (y.hAddr r) (rxDescBytes f c t.data.length x.buf x.irq 0))).hAdvance r).dropTx t →
          u = ((z.release t.fid).count (HBR_CNT 2)).add ⟨HBR_CNT 3, 31, 0⟩ t.data.length →
          (x.irq = true → Answers (.hostRxWriteDone c x .ok) d (u.hMessage r)) ∧
          (x.irq = false → Answers (.hostRxWriteDone c x .ok) d u)))) ∧
    (d.accepts i = true →
      (d.get (HBR_RING_STAT_cause (hRing tx c)) = 5 → Answers (.hostRingResume i tx c) d d) ∧
      (d.get (HBR_RING_STAT_cause (hRing tx c)) ≠ 5 → Answers (.hostRingResume i tx c) d
        ((d.put (HBR_RING_STAT_halted (hRing tx c)) 0).put (HBR_RING_STAT_cause (hRing tx c)) 0)))

/-- The Voholt links: up and down, credit returns, frames, the hold input, and the path window and its revert (R14, R53, R328, R329, R332, R334, R335, R338, R344) -/
def Obligations.CascadeLinksAct : Prop :=
  ∀ (d y z u : Dev) (i : Initiator) (n : VhLink) (grant ret : List Nat) (tag : BitVec 64) (data : List Byte) (dev e k eighth chk : Nat)
      (p : CwPairs) (b : Bool),
    (grant.length = 8 →
      (d.flag (VHL_STAT_link n) = true ∨ d.flag (VHL_CFG_en n) = false ∨ d.vcRole = 0 ∨ d.up = false ∨
          d.flag (PG_STATE_in_reset (pgVHL n)) = true ∨ d.inq n ≠ [] ∨ d.inService (pgVHL n) = false →
        Answers (.vhLinkUp n grant) d d) ∧
      (d.flag (VHL_STAT_link n) = false → d.flag (VHL_CFG_en n) = true → d.vcRole ≠ 0 → d.up = true →
        d.flag (PG_STATE_in_reset (pgVHL n)) = false → d.inq n = [] → d.inService (pgVHL n) = true →
        y = ((d.put (VHL_STAT_link n) 1).put (VHL_STAT_fec n) 1).put (VHL_STAT_state n)
          (if d.get (PG_STATE_iso (pgVHL n)) = 0 then 2 else 3) →
        z = y.each (List.range 8) (fun q s =>
          let s := s.put (VHL_CRED_coins n q) (grant.getD q 0);
          { s with voh := { s.voh with
            credIn := NMap.set 0 s.voh.credIn (n.val * 8 + q) (s.get (VHL_CRED_INIT_coins n q)),
            held := NMap.set 0 s.voh.held (n.val * 8 + q) 0, returned := NMap.set 0 s.voh.returned (n.val * 8 + q) 0,
            peerRet := NMap.set 0 s.voh.peerRet (n.val * 8 + q) 0 } }) →
        u = (z.raise (pgVHL n) 8).fillChanged n →
        (d.get (PG_STATE_iso (pgVHL n)) ≠ 0 → Answers (.vhLinkUp n grant) d u) ∧
        (d.get (PG_STATE_iso (pgVHL n)) = 0 → Answers (.vhLinkUp n grant) d ((u.drainOff (58 + n.val)).revertStart n.val)))) ∧
    (d.flag (VHL_STAT_link n) = true →
      Answers (.vhLinkDown n false) d (d.vhDown n) ∧ Answers (.vhLinkDown n true) d ((d.count (VHL_CNT n 15)).vhDown n)) ∧
    (d.flag (VHL_STAT_link n) = false → Answers (.vhLinkDown n b) d d) ∧
    (ret.length = 8 → ret.all (fun t => decide (t < 65536)) = true →
      (d.flag (VHL_STAT_link n) = false → Answers (.vhControlBlock n ret) d d) ∧
      (d.flag (VHL_STAT_link n) = true → Answers (.vhControlBlock n ret) d
        (d.each (List.range 8) (fun q s =>
          let w := ret.getD q (NMap.get 0 s.voh.peerRet (n.val * 8 + q)) % 65536;
          let g := (w + 65536 - NMap.get 0 s.voh.peerRet (n.val * 8 + q)) % 65536;
          let s := { s with voh := { s.voh with peerRet := NMap.set 0 s.voh.peerRet (n.val * 8 + q) w } };
          s.put (VHL_CRED_coins n q) (min 65535 (s.get (VHL_CRED_coins n q) + g)))))) ∧
    (eighth < 8 → chk < 4294967296 →
      (d.flag (VHL_STAT_link n) = false ∨ d.inService (pgVHL n) = false →
        Answers (.vhFrameReceived n tag data chk p eighth) d d) ∧
      (d.flag (VHL_STAT_link n) = true → d.inService (pgVHL n) = true → y = d.add ⟨VHL_CNT n 4, 31, 0⟩ p.corrected →
        (chk ≠ cascadeCheck tag.toNat data ∨ 0 < p.lost →
          Answers (.vhFrameReceived n tag data chk p eighth) d ((y.count (VHL_CNT n 6)).pairsLost n p.lost)) ∧
        (chk = cascadeCheck tag.toNat data → p.lost = 0 →
          (nb tag.toNat 3 0 = 2 → Answers (.vhFrameReceived n tag data chk p eighth) d
            (y.vhControl n tag.toNat data)) ∧
          (nb tag.toNat 3 0 ≠ 1 → nb tag.toNat 3 0 ≠ 2 →
            Answers (.vhFrameReceived n tag data chk p eighth) d (y.count (VHL_CNT n 7))) ∧
          (nb tag.toNat 3 0 = 1 →
            (y.get (PG_STATE_iso (pgVHL n)) ≠ 0 ∨ y.flag SYS_DEVID_valid = false →
              Answers (.vhFrameReceived n tag data chk p eighth) d (y.count (VHL_CNT n 14))) ∧
            (y.get (PG_STATE_iso (pgVHL n)) = 0 → y.flag SYS_DEVID_valid = true →
              Answers (.vhFrameReceived n tag data chk p eighth) d (y.vhQueue n tag.toNat data eighth)))))) ∧
    Answers (.holdIRise n) d (d.put (VHL_STAT_hold_i n) 1) ∧
    Answers (.holdIFall n) d (d.put (VHL_STAT_hold_i n) 0) ∧
    (dev < 1024 → d.due ⟨.pathRevert, dev, 0⟩ = some e → y = (d.at_ e).cancel ⟨.pathRevert, dev, 0⟩ →
      (y.linkUsable (nb (y.path dev) 2 0) = true → Answers (.pathRevert dev) d (y.pathSwitch dev false)) ∧
      (y.linkUsable (nb (y.path dev) 2 0) = false → Answers (.pathRevert dev) d y)) ∧
    (d.accepts i = true → d.flag (VHL_PATH_STAT_busy 0) = true →
      Answers (.pathRead i b) d (d.winRefuse i .path 1) ∧
      (d.locked (pgVHL 0) = false → Answers (.pathStage i) d (d.winRefuse i .path 2))) ∧
    (d.accepts i = true → d.flag (VHL_PATH_STAT_busy 0) = false → y = d.put (VHL_PATH_STAT_err 0) 0 → k = y.get (VHL_PATH_SEL_dev 0) →
      (e = (if (b && y.voh.pathsD.contains k) = true then NMap.get 0 y.voh.pathsS k else y.path k) →
        Answers (.pathRead i b) d (((y.wr (VHL_PATH_DATA 0) (BitVec.ofNat 32 e)).put (VHL_PATH_DATA_using_alt 0)
          (if y.voh.onAlt.contains k = true then 1 else 0)).put (VHL_PATH_STAT_busy 0) 1)) ∧
      (d.locked (pgVHL 0) = false →
        z = { y with voh := { y.voh with
                pathsS := NMap.set 0 y.voh.pathsS k (nset (y.rd (VHL_PATH_DATA 0)).toNat 18 18 0),
                pathsD := y.voh.pathsD.filter (· != k) ++ [k] } } →
        Answers (.pathStage i) d (z.put (VHL_PATH_STAT_busy 0) 1))) ∧
    (d.accepts i = true → d.locked (pgVHL 0) = true → Answers (.pathStage i) d (d.lockViol (pgVHL 0) i 0x444 2))

/-- The cascade's hellos, its master, device IDs and time (R337, R340, R341) -/
def Obligations.CascadeMembersAct : Prop :=
  ∀ (d y z w : Dev) (c : LinkCode) (h : Hello) (uid : Word64) (want dev e k n : Nat) (t1 t2 t3 t4 asym delay err : Int),
    (d.due ⟨.hello, 0, 0⟩ = some e → z = (d.at_ e).cancel ⟨.hello, 0, 0⟩ →
      y = z.armIn ⟨.hello, 0, 0⟩ (usT (z.get (VHL_VC_CFG_hello_us 0))) →
      w = (if y.flag (VHL_VC_STAT_is_master 0) = true then { y with voh := { y.voh with seq := y.voh.seq + 1 } } else y) →
      Answers .helloSend d (w.each w.upLinks (fun c t => t.ctl c (.hello w.hello))).askId) ∧
    (h.wf = true → d.cascades = false ∨ d.linkUp c = false → Answers (.helloReceived c h) d d) ∧
    (h.wf = true → d.cascades = true → d.linkUp c = true →
      y = { d with voh := { d.voh with
              nbr := NMap.set none d.voh.nbr c (some h), mgenMax := max d.voh.mgenMax (if h.master = true then h.mgen else 0) } } →
      z = (if h.devV = true then (y.setPeer c h).idClash h.dev h.uid else y.setPeer c h) →
      w = (if h.master = true then z.idClash h.mid h.muid else z) → Answers (.helloReceived c h) d w.elect) ∧
    (d.due ⟨.mloss, 0, 0⟩ = some e → y = (d.at_ e).cancel ⟨.mloss, 0, 0⟩ →
      (y.cascades = false → Answers .masterLoss d y) ∧
      (y.cascades = true → y.flag (VHL_VC_STAT_master_v 0) = true →
        z = { y with voh := { y.voh with dropped := some (y.rd64 (VHL_MASTER_UID_LO 0) (VHL_MASTER_UID_HI 0), y.voh.seq) } } →
        Answers .masterLoss d z.noMaster.elect) ∧
      (y.cascades = true → y.flag (VHL_VC_STAT_master_v 0) = false →
        (y.vcRole = 2 → Answers .masterLoss d y.becomeMaster) ∧ (y.vcRole ≠ 2 → Answers .masterLoss d y))) ∧
    (want < 1024 → d.cascades = false ∨ d.linkUp c = false → Answers (.idReqReceived c uid want) d d) ∧
    (want < 1024 → d.cascades = true → d.linkUp c = true →
      (d.flag (VHL_VC_STAT_is_master 0) = true →
        (d.grantId uid.toNat want = (some k, y) → Answers (.idReqReceived c uid want) d (y.ctl c (.idGrant uid.toNat k))) ∧
        (d.grantId uid.toNat want = (none, y) → Answers (.idReqReceived c uid want) d y)) ∧
      (d.flag (VHL_VC_STAT_is_master 0) = false →
        (d.upstream = none → Answers (.idReqReceived c uid want) d d) ∧
        (d.upstream = some k →
          y = { d with voh := { d.voh with relays := d.voh.relays.filter (fun (r : Nat × Nat) => r.1 != uid.toNat) ++ [(uid.toNat, c.val)] } } →
          Answers (.idReqReceived c uid want) d ((y.armIn ⟨.idRelay, uid.toNat, 0⟩ (msT 1)).ctl k (.idReq uid.toNat want))))) ∧
    (dev < 1024 → d.cascades = false → Answers (.idGrantReceived uid dev) d d) ∧
    (dev < 1024 → d.cascades = true →
      (uid.toNat = d.uid → d.flag SYS_DEVID_valid = false → d.fixedId = false → Answers (.idGrantReceived uid dev) d (d.takeId dev)) ∧
      (uid.toNat = d.uid → d.flag SYS_DEVID_valid = true ∨ d.fixedId = true → Answers (.idGrantReceived uid dev) d d) ∧
      (uid.toNat ≠ d.uid →
        y = { d with voh := { d.voh with granted := d.voh.granted.filter (fun (r : Nat × Nat) => r.1 != uid.toNat) ++ [(uid.toNat, dev)] } } →
        (d.voh.relays.find? (fun r => r.1 == uid.toNat) = some (n, k) →
          Answers (.idGrantReceived uid dev) d (y.ctl k (.idGrant uid.toNat dev))) ∧
        (d.voh.relays.find? (fun r => r.1 == uid.toNat) = none → Answers (.idGrantReceived uid dev) d y))) ∧
    (d.due ⟨.idRelay, uid.toNat, 0⟩ = some e → y = (d.at_ e).cancel ⟨.idRelay, uid.toNat, 0⟩ →
      z = { y with voh := { y.voh with relays := y.voh.relays.filter (fun (r : Nat × Nat) => r.1 != uid.toNat) } } →
      Answers (.idGrantLinkRelease uid) d z) ∧
    (d.due ⟨.timeSync, 0, 0⟩ = some e → z = (d.at_ e).cancel ⟨.timeSync, 0, 0⟩ →
      y = z.armIn ⟨.timeSync, 0, 0⟩ (usT (z.get (VHL_VC_TMR_sync_us 0))) →
      (y.upstream = some k → Answers .timeSync d (y.ctl k (.timeReq y.tq))) ∧
      (y.upstream = none → Answers .timeSync d y)) ∧
    (d.cascades = true → d.linkUp c = true → Answers (.timeReqReceived c t3) d (d.ctl c (.timeRsp d.tq t3))) ∧
    (d.cascades = false ∨ d.linkUp c = false → Answers (.timeReqReceived c t3) d d) ∧
    (d.upstream = none ∨ d.cascades = false → Answers (.timeRspReceived t1 t2 t3 t4) d d) ∧
    (d.upstream = some k → d.cascades = true →
      asym = ofPs (signed 32 (if k < 4 then d.get (VHL_ASYM_ps k) else d.get (VHL_VOX_ASYM_ps 0 (k - 4)))) →
      delay = ((t4 - t1) - (t3 - t2)).tdiv 2 → err = ((t2 - t1) - (t4 - t3)).tdiv 2 - asym →
      y = (if k < 4 then (d.put (VHL_DELAY_ps k) (unsigned 32 (toPs delay))).put (VHL_LAST_E_ps k) (unsigned 32 (sat32 (toPs err)))
        else d.put (VHL_VOX_DELAY_ps 0 (k - 4)) (unsigned 32 (toPs delay))) →
      (y.get TIM_SRC_src ≠ 2 → Answers (.timeRspReceived t1 t2 t3 t4) d y) ∧
      (y.get TIM_SRC_src = 2 → y.tim.sample.isSome = true → Answers (.timeRspReceived t1 t2 t3 t4) d (y.count TIM_REFUSED)) ∧
      (y.get TIM_SRC_src = 2 → y.tim.sample = none → Answers (.timeRspReceived t1 t2 t3 t4) d
        (y.latchSample { e := err, t := t4 / 65536, slot := 0, gen := y.get (VHL_VC_STAT_mgen 0), cascade := true })))

/-- Cascade commits: votes, decisions, the deadline, the guard and the execution at T (R26, R343) -/
def Obligations.CascadeCommitsAct : Prop :=
  ∀ (d y z : Dev) (v : Vote) (x : Decide) (key : CommitKey) (e c : Nat) (l : List OpenKey), key.wf = true →
    (v.wf = true →
      (d.cascades = false → Answers (.voteReceived v) d d) ∧
      (d.cascades = true → d.decides = true → Answers (.voteReceived v) d (d.voteIn v)) ∧
      (d.cascades = true → d.decides = false →
        (d.toMaster = (some c, y) → Answers (.voteReceived v) d (y.ctl c (.vote v))) ∧
        (d.toMaster = (none, y) → Answers (.voteReceived v) d y))) ∧
    (x.wf = true →
      (d.cascades = false ∨ d.voh.seen.contains (x.src, x.seq) = true → Answers (.decideReceived x) d d) ∧
      (d.cascades = true → d.voh.seen.contains (x.src, x.seq) = false →
        y = { d with voh := { d.voh with seen := d.voh.seen ++ [(x.src, x.seq)] } } →
        Answers (.decideReceived x) d ((y.each (y.upLinks.filter (fun c => c != x.link))
          (fun c t => t.ctl c (.decide { x with link := 0 }))).decideActs x.key x.commit))) ∧
    (d.cascades = true → d.voh.keys.any (fun o => decide (o.key = key) && o.decided.isNone) = true →
      Answers (.ccDeadline key) d ((d.atNs (key.t - d.leadNs)).decideKey key false)) ∧
    (d.cascades = false ∨ d.voh.keys.any (fun o => decide (o.key = key) && o.decided.isNone) = false →
      Answers (.ccDeadline key) d d) ∧
    (d.due ⟨.decideResend, 0, 0⟩ = some e → y = (d.at_ e).cancel ⟨.decideResend, 0, 0⟩ →
      l = y.voh.keys.filter (fun o => o.decided.isNone || decide (y.ns + y.guardNs < o.key.t)) →
      z = ({ y with voh := { y.voh with keys := l } } : Dev).each l (fun o t => o.decided.elim t (fun b =>
        t.broadcast (fun src q => .decide { key := o.key, commit := b, src := src, seq := q, link := 0 }))) →
      (l.any (fun o => o.decided.isSome) = true → Answers .decideResend d (z.armIn ⟨.decideResend, 0, 0⟩ (usT 10))) ∧
      (l.any (fun o => o.decided.isSome) = false → Answers .decideResend d z)) ∧
    ((d.waitingFor key).isEmpty = false → y = d.atNs (key.t - d.guardNs) →
      Answers (.ccGuardExpiry key) d (y.ccFails (d.waitingFor key) rsCascadeDown)) ∧
    ((d.waitingFor key).isEmpty = true → Answers (.ccGuardExpiry key) d d) ∧
    ((d.decidedFor key).isEmpty = true → Answers (.cascadeCommitExecute key) d d) ∧
    ((d.decidedFor key).isEmpty = false → d.turn (d.commitTurn key.t) = true → Answers (.cascadeCommitExecute key) d
      (((d.atNs key.t).commitPages (d.decidedFor key)).ccStat csDone 0))

/-- The write and the verification of a bank, the owner lock and the loading of PHY code (R53, R371, R372, R374, R375, R379, R382) -/
def Obligations.BanksAct : Prop :=
  ∀ (d y z w : Dev) (i : Initiator) (bank motion ok : Bool) (b k e mv group n r : Nat) (img : BankImage) (res : VerifyResult) (p : EthPort),
    b = (if bank = true then 1 else 0) →
    (d.due ⟨.bankWrite, 0, 0⟩ = some e →
      Answers (.bankWriteDone true) d (((d.at_ e).stopBankWrite.updIdle).raise pgUPD 8) ∧
      Answers (.bankWriteDone false) d (((d.stopBankWrite.updIdle.memUe (sourceWord d)).put UPD_STAT_reason 0x2D).raise pgUPD 8)) ∧
    (d.running ⟨.bankWrite, 0, 0⟩ = false → Answers (.bankWriteDone ok) d d) ∧
    (d.accepts i = true →
      (d.updBusy = true → Answers (.bankWrite i bank) d (d.updRefuse 0x02)) ∧
      (d.updBusy = false → n = d.get UPD_W_LEN_bytes →
        (b = d.get UPD_BANK_run → Answers (.bankWrite i bank) d (d.updRefuse 0x28)) ∧
        (b ≠ d.get UPD_BANK_run → d.ownerLocked = true → Answers (.bankWrite i bank) d (d.updRefuse 0x22)) ∧
        (b ≠ d.get UPD_BANK_run → d.ownerLocked = false → bankRange (d.get UPD_W_DST_offset) n = false →
          Answers (.bankWrite i bank) d (d.updRefuse 0)) ∧
        (b ≠ d.get UPD_BANK_run → d.ownerLocked = false → bankRange (d.get UPD_W_DST_offset) n = true →
          y = { d with upd := { d.upd with
                  bank := b, src := sourceAddr i (d.rd64 UPD_W_SRC_LO UPD_W_SRC_HI % 2 ^ 40), dst := d.get UPD_W_DST_offset, len := n } } →
          Answers (.bankWrite i bank) d
            ((((y.setVerified b false).put UPD_STAT_busy 1).put UPD_STAT_state 1).armIn ⟨.bankWrite, 0, 0⟩ (bankTime n)))) ∧
      (d.updBusy = true ∨ d.sigBusy = true → Answers (.bankVerify i bank) d (d.updRefuse 0x02)) ∧
      (d.updBusy = false → d.sigBusy = false →
        (b = d.get UPD_BANK_run → Answers (.bankVerify i bank) d (d.updRefuse 0x28)) ∧
        (b ≠ d.get UPD_BANK_run → y = { d with upd := { d.upd with bank := b } } → Answers (.bankVerify i bank) d
          (((y.put UPD_STAT_busy 1).put UPD_STAT_state 2).armIn ⟨.bankVerify, 0, 0⟩ (msT 110)))) ∧
      (y = (d.put UPD_OLOCK_locked 1).put UPD_OLOCK_unlocked 0 →
        Answers (.olockSet i) d (if y.handoverDue = true then y else y.guardAborts 0x22)) ∧
      (d.flag UPD_OLOCK_unlocked = true → Answers (.olockClear i) d (d.put UPD_OLOCK_locked 0)) ∧
      (d.flag UPD_OLOCK_unlocked = false → Answers (.olockClear i) d d) ∧
      (d.sigBusy = true → Answers (.olockUnlock i) d (d.updRefuse 0x02)) ∧
      (d.sigBusy = false → d.unlockGood = true → y = d.put UPD_OLOCK_unlocked 1 →
        Answers (.olockUnlock i) d (y.put UPD_OLOCK_CTR_ctr (d.get UPD_OLOCK_CTR_ctr + 1))) ∧
      (d.sigBusy = false → d.unlockGood = false → Answers (.olockUnlock i) d (d.updRefuse 0x22)) ∧
      (group < 256 → w = (if d.locked pgUPD = true then d.lockViol pgUPD i 0x170 (2 ^ 8 + group % 8) else d) →
        k = (if d.locked pgUPD = true then w.get UPD_PART_group else group) → z = (w.seeGuards motion mv).put UPD_PART_group k →
        (z.upd.partPort.isSome = true → Answers (.phyCodeLoad i group motion mv) d (z.updRefuse 0x02)) ∧
        (z.upd.partPort = none →
          (4 < k → Answers (.phyCodeLoad i group motion mv) d (z.updRefuse 0)) ∧
          (k ≤ 4 → z.guardReason = some r → Answers (.phyCodeLoad i group motion mv) d (z.updRefuse r)) ∧
          (k ≤ 4 → z.guardReason = none → y = { z with upd := { z.upd with partGroup := k } } →
            Answers (.phyCodeLoad i group motion mv) d
              (((y.put UPD_PART_go 1).put UPD_PART_DONE_done 0).codeNext (phyGroup k)))))) ∧
    (img.wf = true → d.due ⟨.bankVerify, 0, 0⟩ = some e → y = d.cancel ⟨.bankVerify, 0, 0⟩ → z = y.updIdle →
      res = (if imageWellMade img = false ∨ y.imageSigned img = false then .badImage
        else if y.get SYS_SYS_ID_die < img.hwMin then .incompatible
        else if img.blocks.any (fun b => decide (sha false b.data ≠ b.digest)) = true then .blockCheck else .pass) →
      (res ≠ .pass → Answers (.bankVerifyDone img) d
        (((z.setVerified y.upd.bank false).put UPD_STAT_reason (verifyReason res)).raise pgUPD 8)) ∧
      (res = .pass → w = (z.setVerified y.upd.bank true).wr (if y.upd.bank = 0 then UPD_VER_A else UPD_VER_B)
          (BitVec.ofNat 32 img.version) →
        (y.upd.bank = 0 → Answers (.bankVerifyDone img) d
          (({ w with mram := { w.mram with headerA := some (imageHeader img) } } : Dev).raise pgUPD 8)) ∧
        (y.upd.bank ≠ 0 → Answers (.bankVerifyDone img) d
          (({ w with mram := { w.mram with headerB := some (imageHeader img) } } : Dev).raise pgUPD 8)))) ∧
    (d.upd.partPort = some p.val →
      (d.flag (ETH_STAT_link p) = true → d.codeLoading p = false → Answers (.phyCodePortDone p) d (d.codeDone p)) ∧
      (d.flag (ETH_STAT_link p) = false → d.due ⟨.phyCodeTimeout, p, 0⟩ = some e →
        Answers (.phyCodePortTimeout p) d (Dev.codeDone p ((d.at_ e).cancel ⟨.phyCodeTimeout, p, 0⟩)))) ∧
    (d.upd.partPort ≠ some p.val ∨ d.flag (ETH_STAT_link p) = false ∨ d.codeLoading p = true → Answers (.phyCodePortDone p) d d) ∧
    (d.upd.partPort ≠ some p.val ∨ d.flag (ETH_STAT_link p) = true → Answers (.phyCodePortTimeout p) d d)

/-- The activation: preparation, the standby's copy, the handover slot, its launch, confirmation, restart and abort (R53, R374, R375, R376, R377, R380, R382) -/
def Obligations.ActivationAct : Prop :=
  ∀ (d z u x y : Dev) (i : Initiator) (motion : Bool) (mv r sb dest n e k : Nat) (br : Brace) (code digest : List Byte) (w : Word)
      (hd : ImageHeader) (g : Guard) (cmd : Instr) (fin : Dev → Dev),
    (d.accepts i = true → z = d.seeGuards motion mv →
      (z.pw.base = .start → z.pw.halted = false → Answers (.prepare i motion mv) d (z.rejectTrig 0x10) ∧
        Answers (.updateRestart i motion mv) d (z.rejectTrig 0x10)) ∧
      (z.pw.base ≠ .start ∨ z.pw.halted = true →
        (z.activation true = .error r → Answers (.prepare i motion mv) d (z.updRefuse r)) ∧
        (z.activation true = .ok hd → z.standby = some sb → u = z.resetBrace sb 3 →
          x = { u with
                pw := { u.pw with updating := true },
                upd := { u.upd with hdr := some hd, target := some (braceOf sb) } } → y = (x.put UPD_STAT_state 3).syncMode →
          (y.flag (BRC_ROLE_failed sb) = true → Answers (.prepare i motion mv) d (y.updOver 0x2C)) ∧
          (y.flag (BRC_ROLE_failed sb) = false → Answers (.prepare i motion mv) d y)) ∧
        (z.activation false = .error r → Answers (.updateRestart i motion mv) d (z.updRefuse r)) ∧
        (z.activation false = .ok hd → z.running ⟨.optionWrite, 0, 0⟩ = true →
          Answers (.updateRestart i motion mv) d (z.updRefuse 0x02)) ∧
        (z.activation false = .ok hd → z.running ⟨.optionWrite, 0, 0⟩ = false → y = z.put UPD_STAT_state 7 →
          Answers (.updateRestart i motion mv) d (y.writeOptions 2 (y.bankImage y.otherBank))))) ∧
    (d.upd.target = none → Answers (.prepareCopyDone code) d d) ∧
    (d.upd.target = some br → d.due ⟨.prepareCopy, 0, 0⟩ = some e → y = d.cancel ⟨.prepareCopy, 0, 0⟩ →
      (y.upd.hdr = some hd → hd.code = some (dest, n, digest) →
        (code.length ≠ n ∨ sha false code ≠ digest → Answers (.prepareCopyDone code) d (y.updEnds 0x24)) ∧
        (code.length = n → sha false code = digest →
          z = Dev.wrBytes (tcmAddr (brIx br) dest) (code.take (0x80000 - dest % 0x80000)) y →
          u = { z with brc := { z.brc with copied := z.brc.copied.filter (· != brIx br) ++ [brIx br] } } →
          x = u.wdgStart (brIx br) →
          Answers (.prepareCopyDone code) d (x.armIn ⟨.standby, 0, 0⟩ (msT (max 10 (x.get UPD_SB_TMO_ms)))))) ∧
      (y.upd.hdr.bind (fun h => h.code) = none → Answers (.prepareCopyDone code) d (y.updEnds 0x24))) ∧
    (d.due ⟨.standby, 0, 0⟩ = some e → Answers .standbyTimeout d (((d.at_ e).cancel ⟨.standby, 0, 0⟩).updEnds 0x2A)) ∧
    (d.accepts i = true →
      (d.get UPD_STAT_state = 1 → Answers (.updateAbort i) d (d.stopBankWrite.updIdle.put UPD_STAT_reason 0x2C)) ∧
      (d.get UPD_STAT_state = 2 →
        Answers (.updateAbort i) d ((d.cancel ⟨.bankVerify, 0, 0⟩).updIdle.put UPD_STAT_reason 0x2C)) ∧
      (d.get UPD_STAT_state ≠ 1 → d.get UPD_STAT_state ≠ 2 →
        (d.activating = true → d.handoverDue = false → Answers (.updateAbort i) d (d.updEnds 0x2C)) ∧
        (d.activating = false ∨ d.handoverDue = true → Answers (.updateAbort i) d (d.updRefuse 0x0B))) ∧
      (w.getLsbD 31 = true → cmd = .handoverSlotArm i w ∨ cmd = .slotArm i .handover w →
        (d.locked pgUPD = true → Answers cmd d (d.lockViol pgUPD i 0x148 w.toNat)) ∧
        (d.locked pgUPD = false → d.get UPD_STAT_state ≠ 4 ∨ ctlAction w ≠ 0x0B →
          Answers cmd d (d.setErr pgUPD i 0x148 w.toNat)) ∧
        (d.locked pgUPD = false → d.get UPD_STAT_state = 4 → ctlAction w = 0x0B →
          (d.guardReason = some r → Answers cmd d (d.updRefuse r)) ∧
          (d.guardReason = none → y = d.armSlot i .handover w →
            (y.armed .handover = true → Answers cmd d (y.put UPD_STAT_state 5)) ∧
            (y.armed .handover = false → Answers cmd d y)))) ∧
      (w ≠ 0xC0F10960 ∨ iniBrace i = none ∨ d.get UPD_STAT_state ≠ 6 → Answers (.confirm i w) d d) ∧
      ((iniBrace i).isSome = true → d.get UPD_STAT_state = 6 →
        (d.running ⟨.optionWrite, 0, 0⟩ = true → Answers (.confirm i 0xC0F10960) d (d.updRefuse 0x02)) ∧
        (d.running ⟨.optionWrite, 0, 0⟩ = false →
          Answers (.confirm i 0xC0F10960) d (d.writeOptions 1 (d.bankImage d.otherBank))))) ∧
    (d.due ⟨.confirm, 0, 0⟩ = some e → y = (d.at_ e).cancel ⟨.confirm, 0, 0⟩ →
      (y.due ⟨.optionWrite, 0, 0⟩ = some k → y.upd.optWrite = 1 → Answers .confirmTimeout d (y.arm ⟨.confirm, 0, 0⟩ (k + 1))) ∧
      (y.due ⟨.optionWrite, 0, 0⟩ = none ∨ y.upd.optWrite ≠ 1 → Answers .confirmTimeout d y.rollsBack)) ∧
    (d.upd.target = none ∨ d.get UPD_STAT_state ≠ 5 → Answers .braceHandoverLaunch d d) ∧
    (d.upd.target = some br → d.get UPD_STAT_state = 5 →
      (d.handoverDue = false → d.guardReason = some r → Answers .braceHandoverLaunch d (d.guardAborts r)) ∧
      (d.handoverDue = true ∨ d.guardReason = none → d.armed .handover = true → d.pw.halted = false →
        ctlAction (d.slot .handover).ctl = 0x0B → d.turn (d.turnAt .handover (d.slot .handover).time) = true →
        u = (d.lateTick .handover).elim (d.atNs (d.slot .handover).time) (fun t => d.atTick t) →
        fin = (fun t => if (d.lateTick .handover).isSome then (t.complete .handover true).countLate .handover
          else t.complete .handover false) →
        z = u.handover (1 - brIx br) (brIx br) 5 → x = { z with upd := { z.upd with target := none } } →
        y = x.upd.hdr.elim x (fun h => x.wr UPD_RUN_VER (BitVec.ofNat 32 h.version)) →
        Answers .braceHandoverLaunch d (fin (((y.put UPD_STAT_state 6).raise pgUPD 11).armIn ⟨.confirm, 0, 0⟩
          (secT (max 1 (min 600 (y.get UPD_CONF_TMO_s)))))))) ∧
    (d.up = false → Answers (.guardOnset g) d d) ∧
    (d.up = true →
      (y = (if (d.opt 8 % 4 = 1 ∨ d.opt 8 % 4 = 3) ∧ d.moving = false then d.put PWR_STAT_motion (d.opt 8 / 4 % 2) else d) →
        Answers (.guardOnset .motion) d (if y.moving = true ∧ y.handoverDue = false then y.guardAborts 0x20 else y)) ∧
      (d.opt 9 = 0 → Answers (.guardOnset .supply) d d) ∧
      (d.opt 9 ≠ 0 → y = { d with upd := { d.upd with supplyLow := true } } →
        Answers (.guardOnset .supply) d (if y.handoverDue = true then y else y.guardAborts 0x21)) ∧
      Answers (.guardOnset .owner) d (if d.ownerLocked = true ∧ d.handoverDue = false then d.guardAborts 0x22 else d) ∧
      Answers (.guardOnset .sleep) d (if d.pw.settling = true ∧ d.handoverDue = false then d.guardAborts 0x10 else d) ∧
      Answers (.guardOnset .halt) d (if d.pw.halted = true ∧ d.handoverDue = false then d.guardAborts 0x0D else d))

/-- A step runs the command at the front of the queue; with an empty queue one CK_TIM period passes (log entry 2) (R128) -/
def Obligations.StepRunsFrontCommand : Prop :=
  ∀ (d : Dev) (c : Instr) (q : List Instr),
    step ⟨d, c :: q⟩ = exec c ⟨d, q⟩ ∧ step ⟨d, []⟩ = .next ⟨{ d with now := d.now + timT 1 }, []⟩

/-- The machine right after reset (R36, R128, R130, R347, R358, R366) -/
def Obligations.ResetStateHolds : Prop :=
  State.reset.pending = [] ∧ State.reset.dev.canonical = true ∧ State.reset.dev.now = 0 ∧
    State.reset.dev.pw.base = .start ∧ State.reset.dev.pw.main = true ∧ State.reset.dev.pw.halted = false ∧
    (∀ pg ∈ [1, 2, 4, 5], State.reset.dev.flag (PG_STATE_in_reset pg) = false ∧ State.reset.dev.flag (PG_READY_ready pg) = true) ∧
    (∀ pg ∈ allPages, pg ∉ [1, 2, 4, 5] → State.reset.dev.flag (PG_STATE_in_reset pg) = true) ∧
    State.reset.dev.flag TIM_STAT_set = false ∧ (∀ m, m < 8 → State.reset.dev.rd (RST_MILE m) = 0xFFFFFFFF) ∧
    State.reset.dev.due ⟨.options, 0, 0⟩ = some 1920000 ∧ State.reset.dev.due ⟨.rootArray, 0, 0⟩ = some 1680000 ∧
    State.reset.dev.out = [] ∧ State.reset.dev.mem = []

/-- The factory option image and the option copies of a part as shipped (R397) -/
def Obligations.FactoryOptionImageHolds : Prop :=
  factoryImage.length = 64 ∧
    optField factoryImage 0 7 0 = 1 ∧ optField factoryImage 1 0 0 = 0 ∧ optField factoryImage 1 1 1 = 1 ∧
    optField factoryImage 1 7 2 = 0 ∧ optField factoryImage 2 2 0 = 3 ∧ optField factoryImage 2 5 4 = 0 ∧
    optField factoryImage 2 3 3 = 0 ∧ optField factoryImage 2 7 6 = 0 ∧
    (∀ b ∈ [3, 4, 5, 6, 7, 8, 9], optField factoryImage b 7 0 = 0) ∧ optField factoryImage 10 7 0 = 36 ∧
    optField factoryImage 12 1 0 = 0 ∧ optField factoryImage 12 2 2 = 1 ∧ optField factoryImage 12 7 3 = 0 ∧
    kVid factoryImage = 1 ∧ optField factoryImage 15 7 4 = 0 ∧ (∀ b, b < 24 → 16 ≤ b → optField factoryImage b 7 0 = 0) ∧
    ((factoryImage.drop 24).take 4).map BitVec.toNat = [169, 254, 9, 96] ∧ optField factoryImage 28 5 0 = 16 ∧
    optField factoryImage 28 7 6 = 0 ∧
    (∀ b, b < 60 → b ∉ [0, 1, 2, 10, 12, 14, 24, 25, 26, 27, 28] → factoryImage.getD b 0 = 0) ∧
    (factoryImage.drop 60).map BitVec.toNat = (leBytes 4 (crc32 (factoryImage.take 60))).map BitVec.toNat ∧
    State.reset.dev.mram.options = [(factoryImage, 0), (factoryImage, 0), (factoryImage, 0)]

/-- The egress timestamp item, the marker item and the idle item, field by field (R140) -/
def Obligations.TimestampItemIsLaidOut : Prop :=
  ∀ (d : Dev) (i : Initiator) (p : EthPort) (bs : List Byte) (q : Int) (a s n : Nat),
    (d.tsItem bs q < 2 ^ 64 ∧ nb (d.tsItem bs q) 63 60 = 1 ∧ (nb (d.tsItem bs q) 36 4 : Int) = q / 65536 % 2 ^ 33 ∧
      (nb (d.tsItem bs q) 3 0 : Int) = q % 65536 / 4096) ∧
    (ptpAt bs = some a →
      nb (d.tsItem bs q) 59 56 = be bs a 1 % 16 ∧ nb (d.tsItem bs q) 52 37 = be bs (a + 30) 2 ∧
      (s < 4 → d.flag (TIM_DOM_CFG_en s) = true → d.get (TIM_DOM_CFG_number s) = be bs (a + 4) 1 →
        (∀ k, k < s → d.flag (TIM_DOM_CFG_en k) = false ∨ d.get (TIM_DOM_CFG_number k) ≠ be bs (a + 4) 1) →
        nb (d.tsItem bs q) 55 55 = 1 ∧ nb (d.tsItem bs q) 54 53 = s) ∧
      ((∀ k, k < 4 → d.flag (TIM_DOM_CFG_en k) = false ∨ d.get (TIM_DOM_CFG_number k) ≠ be bs (a + 4) 1) →
        nb (d.tsItem bs q) 55 55 = 0)) ∧
    (markerItem n < 2 ^ 64 ∧ nb (markerItem n) 63 60 = 2 ∧ nb (markerItem n) 59 36 = 0 ∧ nb (markerItem n) 35 4 = n % 2 ^ 32 ∧
      nb (markerItem n) 3 0 = 0) ∧
    (d.accepts i = true → d.tsqItems p = [] → Reaches (.tsqRead i p false) d (fun t =>
      t.out = d.out ++ [.readValue i (TIM_TSQ_LO p) 0] ∧ t.rd (TIM_TSQ_HI p) = 0xF0000000))

/-- Every queue of well-formed commands is worked off, in order, and an ill-formed one is the only stop (R29, R128) -/
def Obligations.QueueIsWorkedOffInOrder : Prop :=
  ∃ f : Instr → Dev → Dev,
    (∀ (c : Instr) (s : State), c.wf = true → exec c s = .next { s with dev := f c s.dev }) ∧
    (∀ (c : Instr) (s : State), c.wf = false → exec c s = .fault .illFormed) ∧
    (∀ (cs q : List Instr) (d : Dev), (∀ c ∈ cs, c.wf = true) →
      Sys2Proof.core.run cs.length (⟨d, cs ++ q⟩ : State) = .next (⟨cs.foldl (fun d c => f c d) d, q⟩ : State))

/-- Every step keeps memory and registers in canonical form, never runs time back and never takes an output back (R27, R128) -/
def Obligations.StepKeepsCanonicalForm : Prop :=
  ∀ (s t : State), step s = .next t →
    (s.dev.canonical = true → t.dev.canonical = true) ∧ s.dev.now ≤ t.dev.now ∧ s.dev.out <+: t.dev.out ∧
    t.pending = s.pending.tail
end

