-- ==== Sys2Proof/Laws/NMap.lean ====
section
/-!
SUPPORT. Sparse maps: what a read gives after a write, and that every operation keeps the canonical form.
-/

namespace Sys2Proof.Machine

variable {α : Type}

theorem NMap.find_erase_same (m : NMap α) (a : Nat) : NMap.find (NMap.erase m a) a = none := by
  induction m with
  | nil => rfl
  | cons e m ih =>
    obtain ⟨k, v⟩ := e
    by_cases h : k = a <;> simp [NMap.erase, NMap.find, h, ih]

theorem NMap.find_erase_other (m : NMap α) {a b : Nat} (h : b ≠ a) : NMap.find (NMap.erase m a) b = NMap.find m b := by
  induction m with
  | nil => rfl
  | cons e m ih =>
    obtain ⟨k, v⟩ := e
    by_cases hk : k = a
    · subst hk; simp [NMap.erase, NMap.find, ih, Ne.symm h]
    · by_cases hb : k = b
      · subst hb; simp [NMap.erase, NMap.find, hk]
      · simp [NMap.erase, NMap.find, hk, hb, ih]

theorem NMap.find_insert_same (m : NMap α) (a : Nat) (v : α) : NMap.find (NMap.insert m a v) a = some v := by
  induction m with
  | nil => simp [NMap.insert, NMap.find]
  | cons e m ih =>
    obtain ⟨k, w⟩ := e
    by_cases h1 : a < k
    · simp [NMap.insert, NMap.find, h1]
    · by_cases h2 : a = k
      · simp [NMap.insert, NMap.find, h2]
      · simp [NMap.insert, NMap.find, h1, h2, ih, Ne.symm h2]

theorem NMap.find_insert_other (m : NMap α) {a b : Nat} (v : α) (h : b ≠ a) :
    NMap.find (NMap.insert m a v) b = NMap.find m b := by
  induction m with
  | nil => simp [NMap.insert, NMap.find, Ne.symm h]
  | cons e m ih =>
    obtain ⟨k, w⟩ := e
    by_cases h1 : a < k
    · simp [NMap.insert, NMap.find, h1, Ne.symm h]
    · by_cases h2 : a = k
      · subst h2; simp [NMap.insert, NMap.find, Ne.symm h]
      · by_cases h3 : k = b
        · subst h3; simp [NMap.insert, NMap.find, h1, h2]
        · simp [NMap.insert, NMap.find, h1, h2, h3, ih]

/-- A read after a write to the same key gives the value written. -/
@[simp] theorem NMap.get_set_same [DecidableEq α] (z : α) (m : NMap α) (a : Nat) (v : α) :
    NMap.get z (NMap.set z m a v) a = v := by
  by_cases h : v = z <;> simp [NMap.get, NMap.set, h, NMap.find_erase_same, NMap.find_insert_same]

/-- A write leaves every other key alone, whatever an unlisted key reads as. -/
theorem NMap.get_set_other [DecidableEq α] (y z : α) (m : NMap α) {a b : Nat} (v : α) (h : b ≠ a) :
    NMap.get y (NMap.set z m a v) b = NMap.get y m b := by
  by_cases hv : v = z <;> simp [NMap.get, NMap.set, hv, NMap.find_erase_other m h, NMap.find_insert_other m v h]

theorem NMap.rising_weaken {b c : Nat} (m : NMap α) (h : c ≤ b) (hr : NMap.rising b m = true) : NMap.rising c m = true := by
  cases m with
  | nil => rfl
  | cons e m =>
    obtain ⟨k, v⟩ := e
    simp [NMap.rising] at hr ⊢
    exact ⟨Nat.le_trans h hr.1, hr.2⟩

theorem NMap.rising_erase (m : NMap α) (a b : Nat) (hr : NMap.rising b m = true) : NMap.rising b (NMap.erase m a) = true := by
  induction m generalizing b with
  | nil => rfl
  | cons e m ih =>
    obtain ⟨k, v⟩ := e
    simp only [NMap.rising, Bool.and_eq_true, decide_eq_true_eq] at hr
    by_cases h : k = a
    · simp only [NMap.erase, h, if_true]
      exact NMap.rising_weaken _ (by omega) (ih (k + 1) hr.2)
    · simp only [NMap.erase, h, if_false, NMap.rising, Bool.and_eq_true, decide_eq_true_eq]
      exact ⟨hr.1, ih (k + 1) hr.2⟩

theorem NMap.rising_insert (m : NMap α) (a b : Nat) (v : α) (hb : b ≤ a) (hr : NMap.rising b m = true) :
    NMap.rising b (NMap.insert m a v) = true := by
  induction m generalizing b with
  | nil => simp [NMap.insert, NMap.rising, hb]
  | cons e m ih =>
    obtain ⟨k, w⟩ := e
    simp only [NMap.rising, Bool.and_eq_true, decide_eq_true_eq] at hr
    by_cases h1 : a < k
    · simp only [NMap.insert, h1, if_true, NMap.rising, Bool.and_eq_true, decide_eq_true_eq]
      exact ⟨hb, by omega, hr.2⟩
    · by_cases h2 : a = k
      · subst h2
        simp only [NMap.insert, Nat.lt_irrefl, if_false, if_true, NMap.rising, Bool.and_eq_true, decide_eq_true_eq]
        exact ⟨hb, hr.2⟩
      · simp only [NMap.insert, h1, h2, if_false, NMap.rising, Bool.and_eq_true, decide_eq_true_eq]
        exact ⟨hr.1, ih (k + 1) (by omega) hr.2⟩

theorem NMap.mem_erase {e : Nat × α} (m : NMap α) (a : Nat) (h : e ∈ NMap.erase m a) : e ∈ m := by
  induction m with
  | nil => exact h
  | cons x m ih =>
    obtain ⟨k, v⟩ := x
    by_cases hk : k = a
    · simp only [NMap.erase, hk, if_true] at h
      exact List.mem_cons_of_mem _ (ih h)
    · simp only [NMap.erase, hk, if_false] at h
      rcases List.mem_cons.mp h with h | h
      · exact h ▸ List.mem_cons_self
      · exact List.mem_cons_of_mem _ (ih h)

theorem NMap.mem_insert {e : Nat × α} (m : NMap α) (a : Nat) (v : α) (h : e ∈ NMap.insert m a v) : e = (a, v) ∨ e ∈ m := by
  induction m with
  | nil => simpa [NMap.insert] using h
  | cons x m ih =>
    obtain ⟨k, w⟩ := x
    by_cases h1 : a < k
    · simp only [NMap.insert, h1, if_true] at h
      exact List.mem_cons.mp h
    · by_cases h2 : a = k
      · simp only [NMap.insert, h2, Nat.lt_irrefl, if_false, if_true] at h
        rcases List.mem_cons.mp h with h | h
        · exact Or.inl (h2 ▸ h)
        · exact Or.inr (List.mem_cons_of_mem _ h)
      · simp only [NMap.insert, h1, h2, if_false] at h
        rcases List.mem_cons.mp h with h | h
        · exact Or.inr (h ▸ List.mem_cons_self)
        · rcases ih h with h | h
          · exact Or.inl h
          · exact Or.inr (List.mem_cons_of_mem _ h)

/-- A write keeps the canonical form. -/
theorem NMap.wf_set [DecidableEq α] (z : Nat → α) (m : NMap α) (a : Nat) (v : α) (h : NMap.wf z m = true) :
    NMap.wf z (NMap.set (z a) m a v) = true := by
  simp only [NMap.wf, Bool.and_eq_true, List.all_eq_true] at h ⊢
  by_cases hv : v = z a
  · simp only [NMap.set, hv, if_true]
    exact ⟨NMap.rising_erase _ _ _ h.1, fun e he => h.2 e (NMap.mem_erase _ _ he)⟩
  · simp only [NMap.set, hv, if_false]
    refine ⟨NMap.rising_insert _ _ _ _ (Nat.zero_le _) h.1, fun e he => ?_⟩
    rcases NMap.mem_insert _ _ _ he with rfl | he
    · simpa using hv
    · exact h.2 e he

@[simp] theorem NMap.wf_nil [DecidableEq α] (z : Nat → α) : NMap.wf z [] = true := rfl

end Sys2Proof.Machine
end

