-- ==== Sys2Proof/Laws/State.lean ====
section
/-!
SUPPORT. The state's fields under the updates that every meaning is made of: one lemma for each field an update leaves
alone, true by `rfl`.
-/

namespace Sys2Proof.Machine

variable (d : Dev)

@[simp] theorem Dev.wr_aut (a : Nat) (v : Word) : (d.wr a v).aut = d.aut := rfl
@[simp] theorem Dev.wr_bus (a : Nat) (v : Word) : (d.wr a v).bus = d.bus := rfl
@[simp] theorem Dev.wr_now (a : Nat) (v : Word) : (d.wr a v).now = d.now := rfl
@[simp] theorem Dev.wr_mem (a : Nat) (v : Word) : (d.wr a v).mem = d.mem := rfl
@[simp] theorem Dev.wr_timers (a : Nat) (v : Word) : (d.wr a v).timers = d.timers := rfl
@[simp] theorem Dev.wr_drawn (a : Nat) (v : Word) : (d.wr a v).drawn = d.drawn := rfl
@[simp] theorem Dev.wr_serial (a : Nat) (v : Word) : (d.wr a v).serial = d.serial := rfl
@[simp] theorem Dev.wr_out (a : Nat) (v : Word) : (d.wr a v).out = d.out := rfl
@[simp] theorem Dev.wr_pgs (a : Nat) (v : Word) : (d.wr a v).pgs = d.pgs := rfl
@[simp] theorem Dev.wr_pw (a : Nat) (v : Word) : (d.wr a v).pw = d.pw := rfl
@[simp] theorem Dev.wr_mram (a : Nat) (v : Word) : (d.wr a v).mram = d.mram := rfl
@[simp] theorem Dev.wr_brc (a : Nat) (v : Word) : (d.wr a v).brc = d.brc := rfl
@[simp] theorem Dev.wr_ecc (a : Nat) (v : Word) : (d.wr a v).ecc = d.ecc := rfl
@[simp] theorem Dev.wr_upd (a : Nat) (v : Word) : (d.wr a v).upd = d.upd := rfl
@[simp] theorem Dev.wr_eth (a : Nat) (v : Word) : (d.wr a v).eth = d.eth := rfl
@[simp] theorem Dev.wr_fwd (a : Nat) (v : Word) : (d.wr a v).fwd = d.fwd := rfl
@[simp] theorem Dev.wr_hbr (a : Nat) (v : Word) : (d.wr a v).hbr = d.hbr := rfl
@[simp] theorem Dev.wr_kal (a : Nat) (v : Word) : (d.wr a v).kal = d.kal := rfl
@[simp] theorem Dev.wr_key (a : Nat) (v : Word) : (d.wr a v).key = d.key := rfl
@[simp] theorem Dev.wr_sys (a : Nat) (v : Word) : (d.wr a v).sys = d.sys := rfl
@[simp] theorem Dev.wr_tim (a : Nat) (v : Word) : (d.wr a v).tim = d.tim := rfl
@[simp] theorem Dev.wr_trm (a : Nat) (v : Word) : (d.wr a v).trm = d.trm := rfl
@[simp] theorem Dev.wr_vlt (a : Nat) (v : Word) : (d.wr a v).vlt = d.vlt := rfl
@[simp] theorem Dev.wr_voh (a : Nat) (v : Word) : (d.wr a v).voh = d.voh := rfl
@[simp] theorem Dev.wr_wak (a : Nat) (v : Word) : (d.wr a v).wak = d.wak := rfl

@[simp] theorem Dev.put_aut (f : FRef) (v : Nat) : (d.put f v).aut = d.aut := rfl
@[simp] theorem Dev.put_bus (f : FRef) (v : Nat) : (d.put f v).bus = d.bus := rfl
@[simp] theorem Dev.put_now (f : FRef) (v : Nat) : (d.put f v).now = d.now := rfl
@[simp] theorem Dev.put_mem (f : FRef) (v : Nat) : (d.put f v).mem = d.mem := rfl
@[simp] theorem Dev.put_timers (f : FRef) (v : Nat) : (d.put f v).timers = d.timers := rfl
@[simp] theorem Dev.put_drawn (f : FRef) (v : Nat) : (d.put f v).drawn = d.drawn := rfl
@[simp] theorem Dev.put_serial (f : FRef) (v : Nat) : (d.put f v).serial = d.serial := rfl
@[simp] theorem Dev.put_out (f : FRef) (v : Nat) : (d.put f v).out = d.out := rfl
@[simp] theorem Dev.put_pgs (f : FRef) (v : Nat) : (d.put f v).pgs = d.pgs := rfl
@[simp] theorem Dev.put_pw (f : FRef) (v : Nat) : (d.put f v).pw = d.pw := rfl
@[simp] theorem Dev.put_mram (f : FRef) (v : Nat) : (d.put f v).mram = d.mram := rfl
@[simp] theorem Dev.put_brc (f : FRef) (v : Nat) : (d.put f v).brc = d.brc := rfl
@[simp] theorem Dev.put_ecc (f : FRef) (v : Nat) : (d.put f v).ecc = d.ecc := rfl
@[simp] theorem Dev.put_upd (f : FRef) (v : Nat) : (d.put f v).upd = d.upd := rfl
@[simp] theorem Dev.put_eth (f : FRef) (v : Nat) : (d.put f v).eth = d.eth := rfl
@[simp] theorem Dev.put_fwd (f : FRef) (v : Nat) : (d.put f v).fwd = d.fwd := rfl
@[simp] theorem Dev.put_hbr (f : FRef) (v : Nat) : (d.put f v).hbr = d.hbr := rfl
@[simp] theorem Dev.put_kal (f : FRef) (v : Nat) : (d.put f v).kal = d.kal := rfl
@[simp] theorem Dev.put_key (f : FRef) (v : Nat) : (d.put f v).key = d.key := rfl
@[simp] theorem Dev.put_sys (f : FRef) (v : Nat) : (d.put f v).sys = d.sys := rfl
@[simp] theorem Dev.put_tim (f : FRef) (v : Nat) : (d.put f v).tim = d.tim := rfl
@[simp] theorem Dev.put_trm (f : FRef) (v : Nat) : (d.put f v).trm = d.trm := rfl
@[simp] theorem Dev.put_vlt (f : FRef) (v : Nat) : (d.put f v).vlt = d.vlt := rfl
@[simp] theorem Dev.put_voh (f : FRef) (v : Nat) : (d.put f v).voh = d.voh := rfl
@[simp] theorem Dev.put_wak (f : FRef) (v : Nat) : (d.put f v).wak = d.wak := rfl

@[simp] theorem Dev.setBit_aut (a i : Nat) (b : Bool) : (d.setBit a i b).aut = d.aut := rfl
@[simp] theorem Dev.setBit_bus (a i : Nat) (b : Bool) : (d.setBit a i b).bus = d.bus := rfl
@[simp] theorem Dev.setBit_now (a i : Nat) (b : Bool) : (d.setBit a i b).now = d.now := rfl
@[simp] theorem Dev.setBit_mem (a i : Nat) (b : Bool) : (d.setBit a i b).mem = d.mem := rfl
@[simp] theorem Dev.setBit_timers (a i : Nat) (b : Bool) : (d.setBit a i b).timers = d.timers := rfl
@[simp] theorem Dev.setBit_drawn (a i : Nat) (b : Bool) : (d.setBit a i b).drawn = d.drawn := rfl
@[simp] theorem Dev.setBit_serial (a i : Nat) (b : Bool) : (d.setBit a i b).serial = d.serial := rfl
@[simp] theorem Dev.setBit_out (a i : Nat) (b : Bool) : (d.setBit a i b).out = d.out := rfl
@[simp] theorem Dev.setBit_pgs (a i : Nat) (b : Bool) : (d.setBit a i b).pgs = d.pgs := rfl
@[simp] theorem Dev.setBit_pw (a i : Nat) (b : Bool) : (d.setBit a i b).pw = d.pw := rfl
@[simp] theorem Dev.setBit_mram (a i : Nat) (b : Bool) : (d.setBit a i b).mram = d.mram := rfl
@[simp] theorem Dev.setBit_brc (a i : Nat) (b : Bool) : (d.setBit a i b).brc = d.brc := rfl
@[simp] theorem Dev.setBit_ecc (a i : Nat) (b : Bool) : (d.setBit a i b).ecc = d.ecc := rfl
@[simp] theorem Dev.setBit_upd (a i : Nat) (b : Bool) : (d.setBit a i b).upd = d.upd := rfl
@[simp] theorem Dev.setBit_eth (a i : Nat) (b : Bool) : (d.setBit a i b).eth = d.eth := rfl
@[simp] theorem Dev.setBit_fwd (a i : Nat) (b : Bool) : (d.setBit a i b).fwd = d.fwd := rfl
@[simp] theorem Dev.setBit_hbr (a i : Nat) (b : Bool) : (d.setBit a i b).hbr = d.hbr := rfl
@[simp] theorem Dev.setBit_kal (a i : Nat) (b : Bool) : (d.setBit a i b).kal = d.kal := rfl
@[simp] theorem Dev.setBit_key (a i : Nat) (b : Bool) : (d.setBit a i b).key = d.key := rfl
@[simp] theorem Dev.setBit_sys (a i : Nat) (b : Bool) : (d.setBit a i b).sys = d.sys := rfl
@[simp] theorem Dev.setBit_tim (a i : Nat) (b : Bool) : (d.setBit a i b).tim = d.tim := rfl
@[simp] theorem Dev.setBit_trm (a i : Nat) (b : Bool) : (d.setBit a i b).trm = d.trm := rfl
@[simp] theorem Dev.setBit_vlt (a i : Nat) (b : Bool) : (d.setBit a i b).vlt = d.vlt := rfl
@[simp] theorem Dev.setBit_voh (a i : Nat) (b : Bool) : (d.setBit a i b).voh = d.voh := rfl
@[simp] theorem Dev.setBit_wak (a i : Nat) (b : Bool) : (d.setBit a i b).wak = d.wak := rfl

@[simp] theorem Dev.add_aut (f : FRef) (n : Nat) : (d.add f n).aut = d.aut := rfl
@[simp] theorem Dev.add_bus (f : FRef) (n : Nat) : (d.add f n).bus = d.bus := rfl
@[simp] theorem Dev.add_now (f : FRef) (n : Nat) : (d.add f n).now = d.now := rfl
@[simp] theorem Dev.add_mem (f : FRef) (n : Nat) : (d.add f n).mem = d.mem := rfl
@[simp] theorem Dev.add_timers (f : FRef) (n : Nat) : (d.add f n).timers = d.timers := rfl
@[simp] theorem Dev.add_drawn (f : FRef) (n : Nat) : (d.add f n).drawn = d.drawn := rfl
@[simp] theorem Dev.add_serial (f : FRef) (n : Nat) : (d.add f n).serial = d.serial := rfl
@[simp] theorem Dev.add_out (f : FRef) (n : Nat) : (d.add f n).out = d.out := rfl
@[simp] theorem Dev.add_pgs (f : FRef) (n : Nat) : (d.add f n).pgs = d.pgs := rfl
@[simp] theorem Dev.add_pw (f : FRef) (n : Nat) : (d.add f n).pw = d.pw := rfl
@[simp] theorem Dev.add_mram (f : FRef) (n : Nat) : (d.add f n).mram = d.mram := rfl
@[simp] theorem Dev.add_brc (f : FRef) (n : Nat) : (d.add f n).brc = d.brc := rfl
@[simp] theorem Dev.add_ecc (f : FRef) (n : Nat) : (d.add f n).ecc = d.ecc := rfl
@[simp] theorem Dev.add_upd (f : FRef) (n : Nat) : (d.add f n).upd = d.upd := rfl
@[simp] theorem Dev.add_eth (f : FRef) (n : Nat) : (d.add f n).eth = d.eth := rfl
@[simp] theorem Dev.add_fwd (f : FRef) (n : Nat) : (d.add f n).fwd = d.fwd := rfl
@[simp] theorem Dev.add_hbr (f : FRef) (n : Nat) : (d.add f n).hbr = d.hbr := rfl
@[simp] theorem Dev.add_kal (f : FRef) (n : Nat) : (d.add f n).kal = d.kal := rfl
@[simp] theorem Dev.add_key (f : FRef) (n : Nat) : (d.add f n).key = d.key := rfl
@[simp] theorem Dev.add_sys (f : FRef) (n : Nat) : (d.add f n).sys = d.sys := rfl
@[simp] theorem Dev.add_tim (f : FRef) (n : Nat) : (d.add f n).tim = d.tim := rfl
@[simp] theorem Dev.add_trm (f : FRef) (n : Nat) : (d.add f n).trm = d.trm := rfl
@[simp] theorem Dev.add_vlt (f : FRef) (n : Nat) : (d.add f n).vlt = d.vlt := rfl
@[simp] theorem Dev.add_voh (f : FRef) (n : Nat) : (d.add f n).voh = d.voh := rfl
@[simp] theorem Dev.add_wak (f : FRef) (n : Nat) : (d.add f n).wak = d.wak := rfl

@[simp] theorem Dev.count_aut (a : Nat) : (d.count a).aut = d.aut := rfl
@[simp] theorem Dev.count_bus (a : Nat) : (d.count a).bus = d.bus := rfl
@[simp] theorem Dev.count_now (a : Nat) : (d.count a).now = d.now := rfl
@[simp] theorem Dev.count_mem (a : Nat) : (d.count a).mem = d.mem := rfl
@[simp] theorem Dev.count_timers (a : Nat) : (d.count a).timers = d.timers := rfl
@[simp] theorem Dev.count_drawn (a : Nat) : (d.count a).drawn = d.drawn := rfl
@[simp] theorem Dev.count_serial (a : Nat) : (d.count a).serial = d.serial := rfl
@[simp] theorem Dev.count_out (a : Nat) : (d.count a).out = d.out := rfl
@[simp] theorem Dev.count_pgs (a : Nat) : (d.count a).pgs = d.pgs := rfl
@[simp] theorem Dev.count_pw (a : Nat) : (d.count a).pw = d.pw := rfl
@[simp] theorem Dev.count_mram (a : Nat) : (d.count a).mram = d.mram := rfl
@[simp] theorem Dev.count_brc (a : Nat) : (d.count a).brc = d.brc := rfl
@[simp] theorem Dev.count_ecc (a : Nat) : (d.count a).ecc = d.ecc := rfl
@[simp] theorem Dev.count_upd (a : Nat) : (d.count a).upd = d.upd := rfl
@[simp] theorem Dev.count_eth (a : Nat) : (d.count a).eth = d.eth := rfl
@[simp] theorem Dev.count_fwd (a : Nat) : (d.count a).fwd = d.fwd := rfl
@[simp] theorem Dev.count_hbr (a : Nat) : (d.count a).hbr = d.hbr := rfl
@[simp] theorem Dev.count_kal (a : Nat) : (d.count a).kal = d.kal := rfl
@[simp] theorem Dev.count_key (a : Nat) : (d.count a).key = d.key := rfl
@[simp] theorem Dev.count_sys (a : Nat) : (d.count a).sys = d.sys := rfl
@[simp] theorem Dev.count_tim (a : Nat) : (d.count a).tim = d.tim := rfl
@[simp] theorem Dev.count_trm (a : Nat) : (d.count a).trm = d.trm := rfl
@[simp] theorem Dev.count_vlt (a : Nat) : (d.count a).vlt = d.vlt := rfl
@[simp] theorem Dev.count_voh (a : Nat) : (d.count a).voh = d.voh := rfl
@[simp] theorem Dev.count_wak (a : Nat) : (d.count a).wak = d.wak := rfl

@[simp] theorem Dev.wrapInc_aut (f : FRef) : (d.wrapInc f).aut = d.aut := rfl
@[simp] theorem Dev.wrapInc_bus (f : FRef) : (d.wrapInc f).bus = d.bus := rfl
@[simp] theorem Dev.wrapInc_now (f : FRef) : (d.wrapInc f).now = d.now := rfl
@[simp] theorem Dev.wrapInc_mem (f : FRef) : (d.wrapInc f).mem = d.mem := rfl
@[simp] theorem Dev.wrapInc_timers (f : FRef) : (d.wrapInc f).timers = d.timers := rfl
@[simp] theorem Dev.wrapInc_drawn (f : FRef) : (d.wrapInc f).drawn = d.drawn := rfl
@[simp] theorem Dev.wrapInc_serial (f : FRef) : (d.wrapInc f).serial = d.serial := rfl
@[simp] theorem Dev.wrapInc_out (f : FRef) : (d.wrapInc f).out = d.out := rfl
@[simp] theorem Dev.wrapInc_pgs (f : FRef) : (d.wrapInc f).pgs = d.pgs := rfl
@[simp] theorem Dev.wrapInc_pw (f : FRef) : (d.wrapInc f).pw = d.pw := rfl
@[simp] theorem Dev.wrapInc_mram (f : FRef) : (d.wrapInc f).mram = d.mram := rfl
@[simp] theorem Dev.wrapInc_brc (f : FRef) : (d.wrapInc f).brc = d.brc := rfl
@[simp] theorem Dev.wrapInc_ecc (f : FRef) : (d.wrapInc f).ecc = d.ecc := rfl
@[simp] theorem Dev.wrapInc_upd (f : FRef) : (d.wrapInc f).upd = d.upd := rfl
@[simp] theorem Dev.wrapInc_eth (f : FRef) : (d.wrapInc f).eth = d.eth := rfl
@[simp] theorem Dev.wrapInc_fwd (f : FRef) : (d.wrapInc f).fwd = d.fwd := rfl
@[simp] theorem Dev.wrapInc_hbr (f : FRef) : (d.wrapInc f).hbr = d.hbr := rfl
@[simp] theorem Dev.wrapInc_kal (f : FRef) : (d.wrapInc f).kal = d.kal := rfl
@[simp] theorem Dev.wrapInc_key (f : FRef) : (d.wrapInc f).key = d.key := rfl
@[simp] theorem Dev.wrapInc_sys (f : FRef) : (d.wrapInc f).sys = d.sys := rfl
@[simp] theorem Dev.wrapInc_tim (f : FRef) : (d.wrapInc f).tim = d.tim := rfl
@[simp] theorem Dev.wrapInc_trm (f : FRef) : (d.wrapInc f).trm = d.trm := rfl
@[simp] theorem Dev.wrapInc_vlt (f : FRef) : (d.wrapInc f).vlt = d.vlt := rfl
@[simp] theorem Dev.wrapInc_voh (f : FRef) : (d.wrapInc f).voh = d.voh := rfl
@[simp] theorem Dev.wrapInc_wak (f : FRef) : (d.wrapInc f).wak = d.wak := rfl

@[simp] theorem Dev.wr64_aut (lo hi v : Nat) : (d.wr64 lo hi v).aut = d.aut := rfl
@[simp] theorem Dev.wr64_bus (lo hi v : Nat) : (d.wr64 lo hi v).bus = d.bus := rfl
@[simp] theorem Dev.wr64_now (lo hi v : Nat) : (d.wr64 lo hi v).now = d.now := rfl
@[simp] theorem Dev.wr64_mem (lo hi v : Nat) : (d.wr64 lo hi v).mem = d.mem := rfl
@[simp] theorem Dev.wr64_timers (lo hi v : Nat) : (d.wr64 lo hi v).timers = d.timers := rfl
@[simp] theorem Dev.wr64_drawn (lo hi v : Nat) : (d.wr64 lo hi v).drawn = d.drawn := rfl
@[simp] theorem Dev.wr64_serial (lo hi v : Nat) : (d.wr64 lo hi v).serial = d.serial := rfl
@[simp] theorem Dev.wr64_out (lo hi v : Nat) : (d.wr64 lo hi v).out = d.out := rfl
@[simp] theorem Dev.wr64_pgs (lo hi v : Nat) : (d.wr64 lo hi v).pgs = d.pgs := rfl
@[simp] theorem Dev.wr64_pw (lo hi v : Nat) : (d.wr64 lo hi v).pw = d.pw := rfl
@[simp] theorem Dev.wr64_mram (lo hi v : Nat) : (d.wr64 lo hi v).mram = d.mram := rfl
@[simp] theorem Dev.wr64_brc (lo hi v : Nat) : (d.wr64 lo hi v).brc = d.brc := rfl
@[simp] theorem Dev.wr64_ecc (lo hi v : Nat) : (d.wr64 lo hi v).ecc = d.ecc := rfl
@[simp] theorem Dev.wr64_upd (lo hi v : Nat) : (d.wr64 lo hi v).upd = d.upd := rfl
@[simp] theorem Dev.wr64_eth (lo hi v : Nat) : (d.wr64 lo hi v).eth = d.eth := rfl
@[simp] theorem Dev.wr64_fwd (lo hi v : Nat) : (d.wr64 lo hi v).fwd = d.fwd := rfl
@[simp] theorem Dev.wr64_hbr (lo hi v : Nat) : (d.wr64 lo hi v).hbr = d.hbr := rfl
@[simp] theorem Dev.wr64_kal (lo hi v : Nat) : (d.wr64 lo hi v).kal = d.kal := rfl
@[simp] theorem Dev.wr64_key (lo hi v : Nat) : (d.wr64 lo hi v).key = d.key := rfl
@[simp] theorem Dev.wr64_sys (lo hi v : Nat) : (d.wr64 lo hi v).sys = d.sys := rfl
@[simp] theorem Dev.wr64_tim (lo hi v : Nat) : (d.wr64 lo hi v).tim = d.tim := rfl
@[simp] theorem Dev.wr64_trm (lo hi v : Nat) : (d.wr64 lo hi v).trm = d.trm := rfl
@[simp] theorem Dev.wr64_vlt (lo hi v : Nat) : (d.wr64 lo hi v).vlt = d.vlt := rfl
@[simp] theorem Dev.wr64_voh (lo hi v : Nat) : (d.wr64 lo hi v).voh = d.voh := rfl
@[simp] theorem Dev.wr64_wak (lo hi v : Nat) : (d.wr64 lo hi v).wak = d.wak := rfl

@[simp] theorem Dev.wrByte_aut (a : Nat) (b : Byte) : (d.wrByte a b).aut = d.aut := rfl
@[simp] theorem Dev.wrByte_bus (a : Nat) (b : Byte) : (d.wrByte a b).bus = d.bus := rfl
@[simp] theorem Dev.wrByte_now (a : Nat) (b : Byte) : (d.wrByte a b).now = d.now := rfl
@[simp] theorem Dev.wrByte_regs (a : Nat) (b : Byte) : (d.wrByte a b).regs = d.regs := rfl
@[simp] theorem Dev.wrByte_timers (a : Nat) (b : Byte) : (d.wrByte a b).timers = d.timers := rfl
@[simp] theorem Dev.wrByte_drawn (a : Nat) (b : Byte) : (d.wrByte a b).drawn = d.drawn := rfl
@[simp] theorem Dev.wrByte_serial (a : Nat) (b : Byte) : (d.wrByte a b).serial = d.serial := rfl
@[simp] theorem Dev.wrByte_out (a : Nat) (b : Byte) : (d.wrByte a b).out = d.out := rfl
@[simp] theorem Dev.wrByte_pgs (a : Nat) (b : Byte) : (d.wrByte a b).pgs = d.pgs := rfl
@[simp] theorem Dev.wrByte_pw (a : Nat) (b : Byte) : (d.wrByte a b).pw = d.pw := rfl
@[simp] theorem Dev.wrByte_mram (a : Nat) (b : Byte) : (d.wrByte a b).mram = d.mram := rfl
@[simp] theorem Dev.wrByte_brc (a : Nat) (b : Byte) : (d.wrByte a b).brc = d.brc := rfl
@[simp] theorem Dev.wrByte_ecc (a : Nat) (b : Byte) : (d.wrByte a b).ecc = d.ecc := rfl
@[simp] theorem Dev.wrByte_upd (a : Nat) (b : Byte) : (d.wrByte a b).upd = d.upd := rfl
@[simp] theorem Dev.wrByte_eth (a : Nat) (b : Byte) : (d.wrByte a b).eth = d.eth := rfl
@[simp] theorem Dev.wrByte_fwd (a : Nat) (b : Byte) : (d.wrByte a b).fwd = d.fwd := rfl
@[simp] theorem Dev.wrByte_hbr (a : Nat) (b : Byte) : (d.wrByte a b).hbr = d.hbr := rfl
@[simp] theorem Dev.wrByte_kal (a : Nat) (b : Byte) : (d.wrByte a b).kal = d.kal := rfl
@[simp] theorem Dev.wrByte_key (a : Nat) (b : Byte) : (d.wrByte a b).key = d.key := rfl
@[simp] theorem Dev.wrByte_sys (a : Nat) (b : Byte) : (d.wrByte a b).sys = d.sys := rfl
@[simp] theorem Dev.wrByte_tim (a : Nat) (b : Byte) : (d.wrByte a b).tim = d.tim := rfl
@[simp] theorem Dev.wrByte_trm (a : Nat) (b : Byte) : (d.wrByte a b).trm = d.trm := rfl
@[simp] theorem Dev.wrByte_vlt (a : Nat) (b : Byte) : (d.wrByte a b).vlt = d.vlt := rfl
@[simp] theorem Dev.wrByte_voh (a : Nat) (b : Byte) : (d.wrByte a b).voh = d.voh := rfl
@[simp] theorem Dev.wrByte_wak (a : Nat) (b : Byte) : (d.wrByte a b).wak = d.wak := rfl

@[simp] theorem Dev.at__aut (t : Nat) : (d.at_ t).aut = d.aut := rfl
@[simp] theorem Dev.at__bus (t : Nat) : (d.at_ t).bus = d.bus := rfl
@[simp] theorem Dev.at__regs (t : Nat) : (d.at_ t).regs = d.regs := rfl
@[simp] theorem Dev.at__mem (t : Nat) : (d.at_ t).mem = d.mem := rfl
@[simp] theorem Dev.at__timers (t : Nat) : (d.at_ t).timers = d.timers := rfl
@[simp] theorem Dev.at__drawn (t : Nat) : (d.at_ t).drawn = d.drawn := rfl
@[simp] theorem Dev.at__serial (t : Nat) : (d.at_ t).serial = d.serial := rfl
@[simp] theorem Dev.at__out (t : Nat) : (d.at_ t).out = d.out := rfl
@[simp] theorem Dev.at__pgs (t : Nat) : (d.at_ t).pgs = d.pgs := rfl
@[simp] theorem Dev.at__pw (t : Nat) : (d.at_ t).pw = d.pw := rfl
@[simp] theorem Dev.at__mram (t : Nat) : (d.at_ t).mram = d.mram := rfl
@[simp] theorem Dev.at__brc (t : Nat) : (d.at_ t).brc = d.brc := rfl
@[simp] theorem Dev.at__ecc (t : Nat) : (d.at_ t).ecc = d.ecc := rfl
@[simp] theorem Dev.at__upd (t : Nat) : (d.at_ t).upd = d.upd := rfl
@[simp] theorem Dev.at__eth (t : Nat) : (d.at_ t).eth = d.eth := rfl
@[simp] theorem Dev.at__fwd (t : Nat) : (d.at_ t).fwd = d.fwd := rfl
@[simp] theorem Dev.at__hbr (t : Nat) : (d.at_ t).hbr = d.hbr := rfl
@[simp] theorem Dev.at__kal (t : Nat) : (d.at_ t).kal = d.kal := rfl
@[simp] theorem Dev.at__key (t : Nat) : (d.at_ t).key = d.key := rfl
@[simp] theorem Dev.at__sys (t : Nat) : (d.at_ t).sys = d.sys := rfl
@[simp] theorem Dev.at__tim (t : Nat) : (d.at_ t).tim = d.tim := rfl
@[simp] theorem Dev.at__trm (t : Nat) : (d.at_ t).trm = d.trm := rfl
@[simp] theorem Dev.at__vlt (t : Nat) : (d.at_ t).vlt = d.vlt := rfl
@[simp] theorem Dev.at__voh (t : Nat) : (d.at_ t).voh = d.voh := rfl
@[simp] theorem Dev.at__wak (t : Nat) : (d.at_ t).wak = d.wak := rfl

@[simp] theorem Dev.cancel_aut (t : Timer) : (d.cancel t).aut = d.aut := rfl
@[simp] theorem Dev.cancel_bus (t : Timer) : (d.cancel t).bus = d.bus := rfl
@[simp] theorem Dev.cancel_now (t : Timer) : (d.cancel t).now = d.now := rfl
@[simp] theorem Dev.cancel_regs (t : Timer) : (d.cancel t).regs = d.regs := rfl
@[simp] theorem Dev.cancel_mem (t : Timer) : (d.cancel t).mem = d.mem := rfl
@[simp] theorem Dev.cancel_drawn (t : Timer) : (d.cancel t).drawn = d.drawn := rfl
@[simp] theorem Dev.cancel_serial (t : Timer) : (d.cancel t).serial = d.serial := rfl
@[simp] theorem Dev.cancel_out (t : Timer) : (d.cancel t).out = d.out := rfl
@[simp] theorem Dev.cancel_pgs (t : Timer) : (d.cancel t).pgs = d.pgs := rfl
@[simp] theorem Dev.cancel_pw (t : Timer) : (d.cancel t).pw = d.pw := rfl
@[simp] theorem Dev.cancel_mram (t : Timer) : (d.cancel t).mram = d.mram := rfl
@[simp] theorem Dev.cancel_brc (t : Timer) : (d.cancel t).brc = d.brc := rfl
@[simp] theorem Dev.cancel_ecc (t : Timer) : (d.cancel t).ecc = d.ecc := rfl
@[simp] theorem Dev.cancel_upd (t : Timer) : (d.cancel t).upd = d.upd := rfl
@[simp] theorem Dev.cancel_eth (t : Timer) : (d.cancel t).eth = d.eth := rfl
@[simp] theorem Dev.cancel_fwd (t : Timer) : (d.cancel t).fwd = d.fwd := rfl
@[simp] theorem Dev.cancel_hbr (t : Timer) : (d.cancel t).hbr = d.hbr := rfl
@[simp] theorem Dev.cancel_kal (t : Timer) : (d.cancel t).kal = d.kal := rfl
@[simp] theorem Dev.cancel_key (t : Timer) : (d.cancel t).key = d.key := rfl
@[simp] theorem Dev.cancel_sys (t : Timer) : (d.cancel t).sys = d.sys := rfl
@[simp] theorem Dev.cancel_tim (t : Timer) : (d.cancel t).tim = d.tim := rfl
@[simp] theorem Dev.cancel_trm (t : Timer) : (d.cancel t).trm = d.trm := rfl
@[simp] theorem Dev.cancel_vlt (t : Timer) : (d.cancel t).vlt = d.vlt := rfl
@[simp] theorem Dev.cancel_voh (t : Timer) : (d.cancel t).voh = d.voh := rfl
@[simp] theorem Dev.cancel_wak (t : Timer) : (d.cancel t).wak = d.wak := rfl

@[simp] theorem Dev.arm_aut (t : Timer) (e : Nat) : (d.arm t e).aut = d.aut := rfl
@[simp] theorem Dev.arm_bus (t : Timer) (e : Nat) : (d.arm t e).bus = d.bus := rfl
@[simp] theorem Dev.arm_now (t : Timer) (e : Nat) : (d.arm t e).now = d.now := rfl
@[simp] theorem Dev.arm_regs (t : Timer) (e : Nat) : (d.arm t e).regs = d.regs := rfl
@[simp] theorem Dev.arm_mem (t : Timer) (e : Nat) : (d.arm t e).mem = d.mem := rfl
@[simp] theorem Dev.arm_drawn (t : Timer) (e : Nat) : (d.arm t e).drawn = d.drawn := rfl
@[simp] theorem Dev.arm_serial (t : Timer) (e : Nat) : (d.arm t e).serial = d.serial := rfl
@[simp] theorem Dev.arm_out (t : Timer) (e : Nat) : (d.arm t e).out = d.out := rfl
@[simp] theorem Dev.arm_pgs (t : Timer) (e : Nat) : (d.arm t e).pgs = d.pgs := rfl
@[simp] theorem Dev.arm_pw (t : Timer) (e : Nat) : (d.arm t e).pw = d.pw := rfl
@[simp] theorem Dev.arm_mram (t : Timer) (e : Nat) : (d.arm t e).mram = d.mram := rfl
@[simp] theorem Dev.arm_brc (t : Timer) (e : Nat) : (d.arm t e).brc = d.brc := rfl
@[simp] theorem Dev.arm_ecc (t : Timer) (e : Nat) : (d.arm t e).ecc = d.ecc := rfl
@[simp] theorem Dev.arm_upd (t : Timer) (e : Nat) : (d.arm t e).upd = d.upd := rfl
@[simp] theorem Dev.arm_eth (t : Timer) (e : Nat) : (d.arm t e).eth = d.eth := rfl
@[simp] theorem Dev.arm_fwd (t : Timer) (e : Nat) : (d.arm t e).fwd = d.fwd := rfl
@[simp] theorem Dev.arm_hbr (t : Timer) (e : Nat) : (d.arm t e).hbr = d.hbr := rfl
@[simp] theorem Dev.arm_kal (t : Timer) (e : Nat) : (d.arm t e).kal = d.kal := rfl
@[simp] theorem Dev.arm_key (t : Timer) (e : Nat) : (d.arm t e).key = d.key := rfl
@[simp] theorem Dev.arm_sys (t : Timer) (e : Nat) : (d.arm t e).sys = d.sys := rfl
@[simp] theorem Dev.arm_tim (t : Timer) (e : Nat) : (d.arm t e).tim = d.tim := rfl
@[simp] theorem Dev.arm_trm (t : Timer) (e : Nat) : (d.arm t e).trm = d.trm := rfl
@[simp] theorem Dev.arm_vlt (t : Timer) (e : Nat) : (d.arm t e).vlt = d.vlt := rfl
@[simp] theorem Dev.arm_voh (t : Timer) (e : Nat) : (d.arm t e).voh = d.voh := rfl
@[simp] theorem Dev.arm_wak (t : Timer) (e : Nat) : (d.arm t e).wak = d.wak := rfl

@[simp] theorem Dev.armIn_aut (t : Timer) (n : Nat) : (d.armIn t n).aut = d.aut := rfl
@[simp] theorem Dev.armIn_bus (t : Timer) (n : Nat) : (d.armIn t n).bus = d.bus := rfl
@[simp] theorem Dev.armIn_now (t : Timer) (n : Nat) : (d.armIn t n).now = d.now := rfl
@[simp] theorem Dev.armIn_regs (t : Timer) (n : Nat) : (d.armIn t n).regs = d.regs := rfl
@[simp] theorem Dev.armIn_mem (t : Timer) (n : Nat) : (d.armIn t n).mem = d.mem := rfl
@[simp] theorem Dev.armIn_drawn (t : Timer) (n : Nat) : (d.armIn t n).drawn = d.drawn := rfl
@[simp] theorem Dev.armIn_serial (t : Timer) (n : Nat) : (d.armIn t n).serial = d.serial := rfl
@[simp] theorem Dev.armIn_out (t : Timer) (n : Nat) : (d.armIn t n).out = d.out := rfl
@[simp] theorem Dev.armIn_pgs (t : Timer) (n : Nat) : (d.armIn t n).pgs = d.pgs := rfl
@[simp] theorem Dev.armIn_pw (t : Timer) (n : Nat) : (d.armIn t n).pw = d.pw := rfl
@[simp] theorem Dev.armIn_mram (t : Timer) (n : Nat) : (d.armIn t n).mram = d.mram := rfl
@[simp] theorem Dev.armIn_brc (t : Timer) (n : Nat) : (d.armIn t n).brc = d.brc := rfl
@[simp] theorem Dev.armIn_ecc (t : Timer) (n : Nat) : (d.armIn t n).ecc = d.ecc := rfl
@[simp] theorem Dev.armIn_upd (t : Timer) (n : Nat) : (d.armIn t n).upd = d.upd := rfl
@[simp] theorem Dev.armIn_eth (t : Timer) (n : Nat) : (d.armIn t n).eth = d.eth := rfl
@[simp] theorem Dev.armIn_fwd (t : Timer) (n : Nat) : (d.armIn t n).fwd = d.fwd := rfl
@[simp] theorem Dev.armIn_hbr (t : Timer) (n : Nat) : (d.armIn t n).hbr = d.hbr := rfl
@[simp] theorem Dev.armIn_kal (t : Timer) (n : Nat) : (d.armIn t n).kal = d.kal := rfl
@[simp] theorem Dev.armIn_key (t : Timer) (n : Nat) : (d.armIn t n).key = d.key := rfl
@[simp] theorem Dev.armIn_sys (t : Timer) (n : Nat) : (d.armIn t n).sys = d.sys := rfl
@[simp] theorem Dev.armIn_tim (t : Timer) (n : Nat) : (d.armIn t n).tim = d.tim := rfl
@[simp] theorem Dev.armIn_trm (t : Timer) (n : Nat) : (d.armIn t n).trm = d.trm := rfl
@[simp] theorem Dev.armIn_vlt (t : Timer) (n : Nat) : (d.armIn t n).vlt = d.vlt := rfl
@[simp] theorem Dev.armIn_voh (t : Timer) (n : Nat) : (d.armIn t n).voh = d.voh := rfl
@[simp] theorem Dev.armIn_wak (t : Timer) (n : Nat) : (d.armIn t n).wak = d.wak := rfl

@[simp] theorem Dev.emit_aut (o : Output) : (d.emit o).aut = d.aut := rfl
@[simp] theorem Dev.emit_bus (o : Output) : (d.emit o).bus = d.bus := rfl
@[simp] theorem Dev.emit_now (o : Output) : (d.emit o).now = d.now := rfl
@[simp] theorem Dev.emit_regs (o : Output) : (d.emit o).regs = d.regs := rfl
@[simp] theorem Dev.emit_mem (o : Output) : (d.emit o).mem = d.mem := rfl
@[simp] theorem Dev.emit_timers (o : Output) : (d.emit o).timers = d.timers := rfl
@[simp] theorem Dev.emit_drawn (o : Output) : (d.emit o).drawn = d.drawn := rfl
@[simp] theorem Dev.emit_serial (o : Output) : (d.emit o).serial = d.serial := rfl
@[simp] theorem Dev.emit_pgs (o : Output) : (d.emit o).pgs = d.pgs := rfl
@[simp] theorem Dev.emit_pw (o : Output) : (d.emit o).pw = d.pw := rfl
@[simp] theorem Dev.emit_mram (o : Output) : (d.emit o).mram = d.mram := rfl
@[simp] theorem Dev.emit_brc (o : Output) : (d.emit o).brc = d.brc := rfl
@[simp] theorem Dev.emit_ecc (o : Output) : (d.emit o).ecc = d.ecc := rfl
@[simp] theorem Dev.emit_upd (o : Output) : (d.emit o).upd = d.upd := rfl
@[simp] theorem Dev.emit_eth (o : Output) : (d.emit o).eth = d.eth := rfl
@[simp] theorem Dev.emit_fwd (o : Output) : (d.emit o).fwd = d.fwd := rfl
@[simp] theorem Dev.emit_hbr (o : Output) : (d.emit o).hbr = d.hbr := rfl
@[simp] theorem Dev.emit_kal (o : Output) : (d.emit o).kal = d.kal := rfl
@[simp] theorem Dev.emit_key (o : Output) : (d.emit o).key = d.key := rfl
@[simp] theorem Dev.emit_sys (o : Output) : (d.emit o).sys = d.sys := rfl
@[simp] theorem Dev.emit_tim (o : Output) : (d.emit o).tim = d.tim := rfl
@[simp] theorem Dev.emit_trm (o : Output) : (d.emit o).trm = d.trm := rfl
@[simp] theorem Dev.emit_vlt (o : Output) : (d.emit o).vlt = d.vlt := rfl
@[simp] theorem Dev.emit_voh (o : Output) : (d.emit o).voh = d.voh := rfl
@[simp] theorem Dev.emit_wak (o : Output) : (d.emit o).wak = d.wak := rfl

@[simp] theorem Dev.setPg_aut (pg : Nat) (x : PgState) : (d.setPg pg x).aut = d.aut := rfl
@[simp] theorem Dev.setPg_bus (pg : Nat) (x : PgState) : (d.setPg pg x).bus = d.bus := rfl
@[simp] theorem Dev.setPg_now (pg : Nat) (x : PgState) : (d.setPg pg x).now = d.now := rfl
@[simp] theorem Dev.setPg_regs (pg : Nat) (x : PgState) : (d.setPg pg x).regs = d.regs := rfl
@[simp] theorem Dev.setPg_mem (pg : Nat) (x : PgState) : (d.setPg pg x).mem = d.mem := rfl
@[simp] theorem Dev.setPg_timers (pg : Nat) (x : PgState) : (d.setPg pg x).timers = d.timers := rfl
@[simp] theorem Dev.setPg_drawn (pg : Nat) (x : PgState) : (d.setPg pg x).drawn = d.drawn := rfl
@[simp] theorem Dev.setPg_serial (pg : Nat) (x : PgState) : (d.setPg pg x).serial = d.serial := rfl
@[simp] theorem Dev.setPg_out (pg : Nat) (x : PgState) : (d.setPg pg x).out = d.out := rfl
@[simp] theorem Dev.setPg_pw (pg : Nat) (x : PgState) : (d.setPg pg x).pw = d.pw := rfl
@[simp] theorem Dev.setPg_mram (pg : Nat) (x : PgState) : (d.setPg pg x).mram = d.mram := rfl
@[simp] theorem Dev.setPg_brc (pg : Nat) (x : PgState) : (d.setPg pg x).brc = d.brc := rfl
@[simp] theorem Dev.setPg_ecc (pg : Nat) (x : PgState) : (d.setPg pg x).ecc = d.ecc := rfl
@[simp] theorem Dev.setPg_upd (pg : Nat) (x : PgState) : (d.setPg pg x).upd = d.upd := rfl
@[simp] theorem Dev.setPg_eth (pg : Nat) (x : PgState) : (d.setPg pg x).eth = d.eth := rfl
@[simp] theorem Dev.setPg_fwd (pg : Nat) (x : PgState) : (d.setPg pg x).fwd = d.fwd := rfl
@[simp] theorem Dev.setPg_hbr (pg : Nat) (x : PgState) : (d.setPg pg x).hbr = d.hbr := rfl
@[simp] theorem Dev.setPg_kal (pg : Nat) (x : PgState) : (d.setPg pg x).kal = d.kal := rfl
@[simp] theorem Dev.setPg_key (pg : Nat) (x : PgState) : (d.setPg pg x).key = d.key := rfl
@[simp] theorem Dev.setPg_sys (pg : Nat) (x : PgState) : (d.setPg pg x).sys = d.sys := rfl
@[simp] theorem Dev.setPg_tim (pg : Nat) (x : PgState) : (d.setPg pg x).tim = d.tim := rfl
@[simp] theorem Dev.setPg_trm (pg : Nat) (x : PgState) : (d.setPg pg x).trm = d.trm := rfl
@[simp] theorem Dev.setPg_vlt (pg : Nat) (x : PgState) : (d.setPg pg x).vlt = d.vlt := rfl
@[simp] theorem Dev.setPg_voh (pg : Nat) (x : PgState) : (d.setPg pg x).voh = d.voh := rfl
@[simp] theorem Dev.setPg_wak (pg : Nat) (x : PgState) : (d.setPg pg x).wak = d.wak := rfl

@[simp] theorem Dev.modPg_aut (pg : Nat) (f : PgState → PgState) : (d.modPg pg f).aut = d.aut := rfl
@[simp] theorem Dev.modPg_bus (pg : Nat) (f : PgState → PgState) : (d.modPg pg f).bus = d.bus := rfl
@[simp] theorem Dev.modPg_now (pg : Nat) (f : PgState → PgState) : (d.modPg pg f).now = d.now := rfl
@[simp] theorem Dev.modPg_regs (pg : Nat) (f : PgState → PgState) : (d.modPg pg f).regs = d.regs := rfl
@[simp] theorem Dev.modPg_mem (pg : Nat) (f : PgState → PgState) : (d.modPg pg f).mem = d.mem := rfl
@[simp] theorem Dev.modPg_timers (pg : Nat) (f : PgState → PgState) : (d.modPg pg f).timers = d.timers := rfl
@[simp] theorem Dev.modPg_drawn (pg : Nat) (f : PgState → PgState) : (d.modPg pg f).drawn = d.drawn := rfl
@[simp] theorem Dev.modPg_serial (pg : Nat) (f : PgState → PgState) : (d.modPg pg f).serial = d.serial := rfl
@[simp] theorem Dev.modPg_out (pg : Nat) (f : PgState → PgState) : (d.modPg pg f).out = d.out := rfl
@[simp] theorem Dev.modPg_pw (pg : Nat) (f : PgState → PgState) : (d.modPg pg f).pw = d.pw := rfl
@[simp] theorem Dev.modPg_mram (pg : Nat) (f : PgState → PgState) : (d.modPg pg f).mram = d.mram := rfl
@[simp] theorem Dev.modPg_brc (pg : Nat) (f : PgState → PgState) : (d.modPg pg f).brc = d.brc := rfl
@[simp] theorem Dev.modPg_ecc (pg : Nat) (f : PgState → PgState) : (d.modPg pg f).ecc = d.ecc := rfl
@[simp] theorem Dev.modPg_upd (pg : Nat) (f : PgState → PgState) : (d.modPg pg f).upd = d.upd := rfl
@[simp] theorem Dev.modPg_eth (pg : Nat) (f : PgState → PgState) : (d.modPg pg f).eth = d.eth := rfl
@[simp] theorem Dev.modPg_fwd (pg : Nat) (f : PgState → PgState) : (d.modPg pg f).fwd = d.fwd := rfl
@[simp] theorem Dev.modPg_hbr (pg : Nat) (f : PgState → PgState) : (d.modPg pg f).hbr = d.hbr := rfl
@[simp] theorem Dev.modPg_kal (pg : Nat) (f : PgState → PgState) : (d.modPg pg f).kal = d.kal := rfl
@[simp] theorem Dev.modPg_key (pg : Nat) (f : PgState → PgState) : (d.modPg pg f).key = d.key := rfl
@[simp] theorem Dev.modPg_sys (pg : Nat) (f : PgState → PgState) : (d.modPg pg f).sys = d.sys := rfl
@[simp] theorem Dev.modPg_tim (pg : Nat) (f : PgState → PgState) : (d.modPg pg f).tim = d.tim := rfl
@[simp] theorem Dev.modPg_trm (pg : Nat) (f : PgState → PgState) : (d.modPg pg f).trm = d.trm := rfl
@[simp] theorem Dev.modPg_vlt (pg : Nat) (f : PgState → PgState) : (d.modPg pg f).vlt = d.vlt := rfl
@[simp] theorem Dev.modPg_voh (pg : Nat) (f : PgState → PgState) : (d.modPg pg f).voh = d.voh := rfl
@[simp] theorem Dev.modPg_wak (pg : Nat) (f : PgState → PgState) : (d.modPg pg f).wak = d.wak := rfl

end Sys2Proof.Machine
end

