-- ==== Sys2Proof/Laws/Ops.lean ====
section
/-!
SUPPORT. The shared operations, each said once: what a register, a field, a byte of memory and a timer read as after an
operation, and what the operation leaves alone.
-/

namespace Sys2Proof.Machine

/-! ### Bits of a word -/

theorem bitsOf_ofNat (n hi lo : Nat) : bitsOf (BitVec.ofNat 32 n) hi lo = n % 2 ^ 32 / 2 ^ lo % 2 ^ (hi - lo + 1) := by
  simp [bitsOf]

theorem bitsOf_lt (w : Word) (hi lo : Nat) : bitsOf w hi lo < 2 ^ (hi - lo + 1) :=
  Nat.mod_lt _ (Nat.two_pow_pos _)

/-- The number with the k bits from lo replaced by v. -/
def replaceBits (n k lo v : Nat) : Nat := n - n / 2 ^ lo % 2 ^ k * 2 ^ lo + v % 2 ^ k * 2 ^ lo

theorem withBits_eq (w : Word) (hi lo v : Nat) :
    withBits w hi lo v = BitVec.ofNat 32 (replaceBits w.toNat (hi - lo + 1) lo v) := rfl

/-- A number splits at a field into what lies above it, the field and what lies below it. -/
theorem split_bits (n k lo : Nat) :
    n = n / 2 ^ (lo + k) * 2 ^ (lo + k) + n / 2 ^ lo % 2 ^ k * 2 ^ lo + n % 2 ^ lo := by
  have h1 := Nat.div_add_mod n (2 ^ lo)
  have h2 := Nat.div_add_mod (n / 2 ^ lo) (2 ^ k)
  have h3 : n / 2 ^ (lo + k) = n / 2 ^ lo / 2 ^ k := by rw [Nat.pow_add, Nat.div_div_eq_div_mul]
  rw [h3, Nat.pow_add]
  calc n = 2 ^ lo * (n / 2 ^ lo) + n % 2 ^ lo := h1.symm
    _ = 2 ^ lo * (2 ^ k * (n / 2 ^ lo / 2 ^ k) + n / 2 ^ lo % 2 ^ k) + n % 2 ^ lo := by rw [h2]
    _ = _ := by rw [Nat.mul_add]; ac_rfl

theorem replaceBits_eq (n k lo v : Nat) :
    replaceBits n k lo v = n / 2 ^ (lo + k) * 2 ^ (lo + k) + v % 2 ^ k * 2 ^ lo + n % 2 ^ lo := by
  have h := split_bits n k lo
  have h2 : n - n / 2 ^ lo % 2 ^ k * 2 ^ lo = n / 2 ^ (lo + k) * 2 ^ (lo + k) + n % 2 ^ lo := by omega
  rw [replaceBits, h2]; omega

theorem replaceBits_lt (n k lo v : Nat) (hn : n < 2 ^ 32) (h : lo + k ≤ 32) : replaceBits n k lo v < 2 ^ 32 := by
  rw [replaceBits_eq]
  have hv : v % 2 ^ k * 2 ^ lo + n % 2 ^ lo < 2 ^ (lo + k) := by
    have a := Nat.mod_lt v (Nat.two_pow_pos k)
    have b := Nat.mod_lt n (Nat.two_pow_pos lo)
    calc v % 2 ^ k * 2 ^ lo + n % 2 ^ lo < v % 2 ^ k * 2 ^ lo + 2 ^ lo := by omega
      _ = (v % 2 ^ k + 1) * 2 ^ lo := by rw [Nat.add_mul, Nat.one_mul]
      _ ≤ 2 ^ k * 2 ^ lo := Nat.mul_le_mul_right _ a
      _ = 2 ^ (lo + k) := by rw [Nat.pow_add, Nat.mul_comm]
  have hq : n / 2 ^ (lo + k) < 2 ^ (32 - (lo + k)) := by
    apply Nat.div_lt_of_lt_mul
    rw [← Nat.pow_add, show lo + k + (32 - (lo + k)) = 32 by omega]; exact hn
  calc _ < n / 2 ^ (lo + k) * 2 ^ (lo + k) + 2 ^ (lo + k) := by omega
    _ = (n / 2 ^ (lo + k) + 1) * 2 ^ (lo + k) := by rw [Nat.add_mul, Nat.one_mul]
    _ ≤ 2 ^ (32 - (lo + k)) * 2 ^ (lo + k) := Nat.mul_le_mul_right _ hq
    _ = 2 ^ 32 := by rw [← Nat.pow_add]; congr 1; omega

theorem bitsOf_replaced (n k lo v : Nat) : replaceBits n k lo v / 2 ^ lo % 2 ^ k = v % 2 ^ k := by
  rw [replaceBits_eq]
  have b := Nat.mod_lt n (Nat.two_pow_pos lo)
  have e : n / 2 ^ (lo + k) * 2 ^ (lo + k) + v % 2 ^ k * 2 ^ lo + n % 2 ^ lo
      = 2 ^ lo * (2 ^ k * (n / 2 ^ (lo + k)) + v % 2 ^ k) + n % 2 ^ lo := by
    rw [Nat.pow_add, Nat.mul_add]; ac_rfl
  rw [e, Nat.mul_add_div (Nat.two_pow_pos _), Nat.div_eq_of_lt b, Nat.add_zero, Nat.mul_add_mod, Nat.mod_mod]

/-- The bits of a field that has been written. -/
theorem bitsOf_withBits_same (w : Word) (hi lo v : Nat) (h1 : lo ≤ hi) (h2 : hi < 32) :
    bitsOf (withBits w hi lo v) hi lo = v % 2 ^ (hi - lo + 1) := by
  have hlt := replaceBits_lt w.toNat (hi - lo + 1) lo v w.isLt (by omega)
  rw [withBits_eq, bitsOf_ofNat, Nat.mod_eq_of_lt hlt, bitsOf_replaced]

/-- A number's bit is a bit of the word. -/
theorem bitAt_testBit (n i : Nat) : bitAt n i = n.testBit i := by
  rw [bitAt, Nat.testBit_eq_decide_div_mod_eq]
  by_cases h : n / 2 ^ i % 2 = 1 <;> simp [h]

theorem testBit_replaceBits (n k lo v i : Nat) :
    (replaceBits n k lo v).testBit i = if lo ≤ i ∧ i < lo + k then v.testBit (i - lo) else n.testBit i := by
  rw [replaceBits_eq]
  have b := Nat.mod_lt n (Nat.two_pow_pos lo)
  have e : n / 2 ^ (lo + k) * 2 ^ (lo + k) + v % 2 ^ k * 2 ^ lo + n % 2 ^ lo
      = 2 ^ lo * (2 ^ k * (n / 2 ^ (lo + k)) + v % 2 ^ k) + n % 2 ^ lo := by
    rw [Nat.pow_add, Nat.mul_add]; ac_rfl
  rw [e, Nat.testBit_two_pow_mul_add _ b]
  by_cases h1 : i < lo
  · have : ¬ (lo ≤ i ∧ i < lo + k) := by omega
    simp [h1, this, Nat.testBit_mod_two_pow]
  · have hm := Nat.mod_lt v (Nat.two_pow_pos k)
    rw [if_neg h1, Nat.testBit_two_pow_mul_add _ hm]
    by_cases h2 : i - lo < k
    · have : lo ≤ i ∧ i < lo + k := by omega
      simp [h2, this, Nat.testBit_mod_two_pow]
    · have : ¬ (lo ≤ i ∧ i < lo + k) := by omega
      rw [if_neg h2, if_neg this, Nat.testBit_div_two_pow]
      congr 1; omega

/-- The bits of a field that lies beside the one written. -/
theorem bitsOf_withBits_other (w : Word) (hi lo v h l : Nat) (h1 : lo ≤ hi) (h2 : hi < 32) (hl : l ≤ h)
    (hd : h < lo ∨ hi < l) : bitsOf (withBits w hi lo v) h l = bitsOf w h l := by
  have hlt := replaceBits_lt w.toNat (hi - lo + 1) lo v w.isLt (by omega)
  rw [withBits_eq, bitsOf_ofNat, Nat.mod_eq_of_lt hlt, bitsOf]
  apply Nat.eq_of_testBit_eq
  intro i
  rw [Nat.testBit_mod_two_pow, Nat.testBit_mod_two_pow, Nat.testBit_div_two_pow, Nat.testBit_div_two_pow,
    testBit_replaceBits]
  by_cases hi' : i < h - l + 1
  · have : ¬ (lo ≤ i + l ∧ i + l < lo + (hi - lo + 1)) := by omega
    simp [this]
  · simp [hi']

/-! ### Registers and fields -/

/-- A field lies within its register. -/
def FRef.ok (f : FRef) : Prop := f.lo ≤ f.hi ∧ f.hi < 32

variable (d : Dev)

@[simp] theorem rd_wr_same (a : Nat) (v : Word) : (d.wr a v).rd a = v := by simp [Dev.rd, Dev.wr]

theorem rd_wr_other {a b : Nat} (v : Word) (h : b ≠ a) : (d.wr a v).rd b = d.rd b := by
  simp [Dev.rd, Dev.wr, NMap.get_set_other _ _ _ _ h]

theorem rd_wr (a b : Nat) (v : Word) : (d.wr a v).rd b = if b = a then v else d.rd b := by
  by_cases h : b = a
  · subst h; simp
  · simp [h, rd_wr_other]

@[simp] theorem rd_put_same (f : FRef) (v : Nat) : (d.put f v).rd f.addr = withBits (d.rd f.addr) f.hi f.lo v := by
  simp [Dev.put]

theorem rd_put_other {f : FRef} {b : Nat} (v : Nat) (h : b ≠ f.addr) : (d.put f v).rd b = d.rd b := by
  simp [Dev.put, rd_wr_other _ _ h]

theorem get_put_same (f : FRef) (v : Nat) (h : f.ok) : (d.put f v).get f = v % 2 ^ (f.hi - f.lo + 1) := by
  simp [Dev.get, bitsOf_withBits_same _ _ _ _ h.1 h.2]

theorem get_put_reg {f g : FRef} (v : Nat) (h : g.addr ≠ f.addr) : (d.put f v).get g = d.get g := by
  simp [Dev.get, rd_put_other _ _ h]

theorem get_put_beside {f g : FRef} (v : Nat) (hf : f.ok) (hg : g.lo ≤ g.hi) (hd : g.hi < f.lo ∨ f.hi < g.lo) :
    (d.put f v).get g = d.get g := by
  by_cases h : g.addr = f.addr
  · simp [Dev.get, h, bitsOf_withBits_other _ _ _ _ _ _ hf.1 hf.2 hg hd]
  · exact get_put_reg d v h

theorem rd_count_other {a b : Nat} (h : b ≠ a) : (d.count a).rd b = d.rd b := rd_put_other d _ h

/-- A saturating counter. -/
theorem rd_count_same (a : Nat) : ((d.count a).rd a).toNat = min ((d.rd a).toNat + 1) (2 ^ 32 - 1) := by
  have hl := (d.rd a).isLt
  have hok : (⟨a, 31, 0⟩ : FRef).ok := ⟨Nat.zero_le _, Nat.lt_succ_self 31⟩
  have h : (d.count a).get ⟨a, 31, 0⟩ = min (d.get ⟨a, 31, 0⟩ + 1) (2 ^ 32 - 1) % 2 ^ 32 := by
    simpa [Dev.count, Dev.add, FRef.max] using get_put_same d ⟨a, 31, 0⟩ _ hok
  have g1 : (d.count a).get ⟨a, 31, 0⟩ = ((d.count a).rd a).toNat := by
    simp only [Dev.get, bitsOf, Nat.pow_zero, Nat.div_one]
    exact Nat.mod_eq_of_lt ((d.count a).rd a).isLt
  have g2 : d.get ⟨a, 31, 0⟩ = (d.rd a).toNat := by
    simp only [Dev.get, bitsOf, Nat.pow_zero, Nat.div_one]
    exact Nat.mod_eq_of_lt hl
  rw [g1, g2] at h
  rw [h]
  exact Nat.mod_eq_of_lt (by omega)

/-! ### Memory -/

@[simp] theorem rdByte_wrByte_same (a : Nat) (b : Byte) : (d.wrByte a b).rdByte a = b := by
  simp [Dev.rdByte, Dev.wrByte]

theorem rdByte_wrByte_other {a c : Nat} (b : Byte) (h : c ≠ a) : (d.wrByte a b).rdByte c = d.rdByte c := by
  simp [Dev.rdByte, Dev.wrByte, NMap.get_set_other _ _ _ _ h]

/-- A write of bytes leaves every address outside them alone. -/
theorem rdByte_wrBytes_outside (a : Nat) (bs : List Byte) (c : Nat) (h : c < a ∨ a + bs.length ≤ c) :
    (d.wrBytes a bs).rdByte c = d.rdByte c := by
  induction bs generalizing a d with
  | nil => rfl
  | cons b bs ih =>
    simp only [Dev.wrBytes, List.length_cons] at h ⊢
    rw [ih (d.wrByte a b) (a + 1) (by omega), rdByte_wrByte_other d b (by omega)]

/-! ### Pages -/

@[simp] theorem pg_setPg_same (pg : Nat) (x : PgState) : (d.setPg pg x).pg pg = x := by simp [Dev.pg, Dev.setPg]

theorem pg_setPg_other {pg q : Nat} (x : PgState) (h : q ≠ pg) : (d.setPg pg x).pg q = d.pg q := by
  simp [Dev.pg, Dev.setPg, NMap.get_set_other _ _ _ _ h]

/-! ### Timers -/

theorem find_filter_ne (l : List (Timer × Nat)) (t u : Timer) (h : u ≠ t) :
    (l.filter (fun e => decide (e.1 ≠ t))).find? (fun e => decide (e.1 = u)) = l.find? (fun e => decide (e.1 = u)) := by
  induction l with
  | nil => rfl
  | cons e l ih =>
    by_cases h1 : e.1 = t
    · have h2 : ¬ e.1 = u := fun hu => h (hu ▸ h1)
      simp [h1, Ne.symm h] at ih ⊢
      exact ih
    · by_cases h2 : e.1 = u
      · simp [h2, h]
      · simp [h1, h2] at ih ⊢
        exact ih

/-- A timer that has been stopped does not run. -/
@[simp] theorem due_cancel_same (t : Timer) : (d.cancel t).due t = none := by
  simp [Dev.due, Dev.cancel, List.find?_eq_none]

theorem due_cancel_other {t u : Timer} (h : u ≠ t) : (d.cancel t).due u = d.due u := by
  simp only [Dev.due, Dev.cancel, find_filter_ne _ _ _ h]

@[simp] theorem due_arm_same (t : Timer) (e : Nat) : (d.arm t e).due t = some e := by simp [Dev.due, Dev.arm]

theorem due_arm_other {t u : Timer} (e : Nat) (h : u ≠ t) : (d.arm t e).due u = d.due u := by
  have := due_cancel_other d h
  simp only [Dev.due, Dev.arm, List.find?_cons, Ne.symm h, decide_false] at this ⊢
  exact this

@[simp] theorem due_armIn_same (t : Timer) (n : Nat) : (d.armIn t n).due t = some (d.now + n) := by simp [Dev.armIn]

/-- An event at a running timer's end happens at that instant, the timer stopped. -/
theorem onTimer_due {t : Timer} {e : Nat} (f : Dev → Dev) (h : d.due t = some e) :
    d.onTimer t f = f ((d.at_ e).cancel t) := by simp [Dev.onTimer, h]

/-- Without a running timer its event cannot occur. -/
theorem onTimer_idle {t : Timer} (f : Dev → Dev) (h : d.due t = none) : d.onTimer t f = d := by simp [Dev.onTimer, h]

theorem endTimer_due {t : Timer} {e : Nat} (f : Dev → Dev) (h : d.due t = some e) : d.endTimer t f = f (d.cancel t) := by
  simp [Dev.endTimer, h]

theorem endTimer_idle {t : Timer} (f : Dev → Dev) (h : d.due t = none) : d.endTimer t f = d := by
  simp [Dev.endTimer, h]

/-! ### Interrupt events -/

theorem sendMsix_regs (v : Nat) : (d.sendMsix v).regs = d.regs := by
  unfold Dev.sendMsix; split
  · rfl
  · split <;> rfl

theorem sendMsg_regs (pg : Nat) : (d.sendMsg pg).regs = d.regs := by
  unfold Dev.sendMsg
  dsimp only
  split <;> split <;> simp [sendMsix_regs]

theorem rd_of_regs {a : Nat} {d e : Dev} (h : d.regs = e.regs) : d.rd a = e.rd a := by simp [Dev.rd, h]

/-- Raising an event writes nothing but the page's `PG_IRQ_STAT`. -/
theorem rd_raise_other {pg b a : Nat} (h : a ≠ PG_IRQ_STAT pg) : (d.raise pg b).rd a = d.rd a := by
  unfold Dev.raise
  split
  · rfl
  · dsimp only
    split
    · rw [rd_of_regs (sendMsg_regs _ _)]; exact rd_put_other d _ h
    · exact rd_put_other d _ h

/-- The event is recorded. -/
theorem bit_raise (pg b : Nat) (hb : b < 32) : (d.raise pg b).bit (PG_IRQ_STAT pg) b = true := by
  have key : ∀ e : Dev, e.regs = (d.setBit (PG_IRQ_STAT pg) b true).regs → e.bit (PG_IRQ_STAT pg) b = true := by
    intro e he
    have h := get_put_same d ⟨PG_IRQ_STAT pg, b, b⟩ 1 ⟨Nat.le_refl _, hb⟩
    have h2 : e.rd (PG_IRQ_STAT pg) = (d.put ⟨PG_IRQ_STAT pg, b, b⟩ 1).rd (PG_IRQ_STAT pg) := rd_of_regs he
    simp only [Dev.get, bitsOf, Nat.sub_self, Nat.zero_add, Nat.pow_one] at h
    simp [Dev.bit, bitAt, h2, h]
  unfold Dev.raise
  split
  · assumption
  · dsimp only
    split
    · exact key _ (sendMsg_regs _ _)
    · exact key _ rfl

/-- A saturating count, an event and a message leave the memory and the time alone. -/
theorem sendMsg_mem (pg : Nat) : (d.sendMsg pg).mem = d.mem := by
  unfold Dev.sendMsg Dev.sendMsix
  dsimp only
  repeat' split
  all_goals rfl

@[simp] theorem raise_mem (pg b : Nat) : (d.raise pg b).mem = d.mem := by
  unfold Dev.raise
  dsimp only
  repeat' split
  all_goals simp [sendMsg_mem]

theorem sendMsg_now (pg : Nat) : (d.sendMsg pg).now = d.now := by
  unfold Dev.sendMsg Dev.sendMsix
  dsimp only
  repeat' split
  all_goals rfl

@[simp] theorem raise_now (pg b : Nat) : (d.raise pg b).now = d.now := by
  unfold Dev.raise
  dsimp only
  repeat' split
  all_goals simp [sendMsg_now]

theorem sendMsg_timers (pg : Nat) : (d.sendMsg pg).timers = d.timers := by
  unfold Dev.sendMsg Dev.sendMsix
  dsimp only
  repeat' split
  all_goals rfl

@[simp] theorem raise_timers (pg b : Nat) : (d.raise pg b).timers = d.timers := by
  unfold Dev.raise
  dsimp only
  repeat' split
  all_goals simp [sendMsg_timers]

/-! ### Accesses -/

/-- An access of an initiator that is no brace, while the fabric is up. -/
theorem access_other {i : Initiator} (f : Dev → Dev) (hu : d.up = true) (hb : iniBrace i = none) : d.access i f = f d := by
  simp [Dev.access, hu, hb]

/-- An access of the active brace. -/
theorem access_active {i : Initiator} {b : Brace} (f : Dev → Dev) (hu : d.up = true) (hb : iniBrace i = some b)
    (hr : d.role (brIx b) = 1) : d.access i f = f d := by
  simp [Dev.access, hu, hb, hr]

/-- An access of a brace that is not active is refused and counted (R280). -/
theorem access_refused {i : Initiator} {b : Brace} (f : Dev → Dev) (hu : d.up = true) (hb : iniBrace i = some b)
    (hr : d.role (brIx b) ≠ 1) : d.access i f = d.count (BRC_SB_REFUSED (brIx b)) := by
  simp [Dev.access, hu, hb, hr]

/-- A write of a page that is not locked. -/
theorem write_unlocked (i : Initiator) (pg off v : Nat) (f : Dev → Dev) (h : d.locked pg = false) :
    d.write i pg off v f = d.access i f := by
  unfold Dev.write Dev.access
  simp [h]

end Sys2Proof.Machine
end

