-- ==== Sys2Proof/Laws/Answers.lean ====
section
/-!
SUPPORT. How a claim about a command is met: the command's operation applied to the device. What a register, a byte, a
timer and a page's data read as in a state written out by its fields, and what raising an event leaves alone.
-/

namespace Sys2Proof.Machine

/-! ### A command completes -/

theorem answers_of {c : Instr} {ok : Bool} {f : Dev → Dev} {d e : Dev} (h : ∀ s, exec c s = effectIf ok f s) (hk : ok = true)
    (hp : f d = e) : Answers c d e := by
  intro q
  rw [h, effectIf, hk]
  subst hp
  rfl

theorem answers_of_effect {c : Instr} {f : Dev → Dev} {d e : Dev} (h : ∀ s, exec c s = effect f s) (hp : f d = e) :
    Answers c d e := by
  intro q
  rw [h]
  subst hp
  rfl

theorem reaches_of {c : Instr} {ok : Bool} {f : Dev → Dev} {d : Dev} {P : Dev → Prop} (h : ∀ s, exec c s = effectIf ok f s)
    (hk : ok = true) (hp : P (f d)) : Reaches c d P := ⟨f d, answers_of h hk rfl, hp⟩

theorem reaches_of_effect {c : Instr} {f : Dev → Dev} {d : Dev} {P : Dev → Prop} (h : ∀ s, exec c s = effect f s)
    (hp : P (f d)) : Reaches c d P := ⟨f d, answers_of_effect h rfl, hp⟩

theorem reaches_of_answers {c : Instr} {d e : Dev} {P : Dev → Prop} (h : Answers c d e) (hp : P e) : Reaches c d P :=
  ⟨e, h, hp⟩

/-- An admitted access has its effect. -/
theorem access_accepts {d : Dev} {i : Initiator} (f : Dev → Dev) (h : d.accepts i = true) : d.access i f = f d := by
  unfold Dev.accepts at h
  unfold Dev.access
  cases hb : iniBrace i with
  | none => simp [hb] at h; simp [h]
  | some b => simp [hb] at h; simp [h]

/-- An admitted write of a page that is not locked has its effect. -/
theorem write_accepts {d : Dev} {i : Initiator} {pg : Nat} (off v : Nat) (f : Dev → Dev) (h : d.accepts i = true)
    (hl : d.locked pg = false) : d.write i pg off v f = f d := by
  rw [write_unlocked d i pg off v f hl, access_accepts f h]

/-- The fabric is up where it takes an access. -/
theorem up_of_accepts {d : Dev} {i : Initiator} (h : d.accepts i = true) : d.up = true := by
  unfold Dev.accepts at h
  simp at h
  exact h.1

/-! ### A state written out by its fields -/

theorem mk_rd (aut : Aut) (bus : Bus) (now : Nat) (regs : NMap Word) (mem : List Host.Cell) (timers : List (Timer × Nat)) (drawn : Nat) (serial : Nat) (out : List Output) (pgs : NMap PgState) (pw : Power) (mram : Mram) (brc : Braces) (ecc : Integrity) (upd : Update) (eth : Eth) (fwd : Fwd) (hbr : Hbr) (kal : Kal) (key : Key) (sys : Sys) (tim : Tim) (trm : Trm) (vlt : Vault) (voh : Voh) (wak : Wak) (a : Nat) :
    (Dev.mk aut bus now regs mem timers drawn serial out pgs pw mram brc ecc upd eth fwd hbr kal key sys tim trm vlt voh wak).rd a = NMap.get (resetValue a) regs a := rfl

theorem mk_get (aut : Aut) (bus : Bus) (now : Nat) (regs : NMap Word) (mem : List Host.Cell) (timers : List (Timer × Nat)) (drawn : Nat) (serial : Nat) (out : List Output) (pgs : NMap PgState) (pw : Power) (mram : Mram) (brc : Braces) (ecc : Integrity) (upd : Update) (eth : Eth) (fwd : Fwd) (hbr : Hbr) (kal : Kal) (key : Key) (sys : Sys) (tim : Tim) (trm : Trm) (vlt : Vault) (voh : Voh) (wak : Wak) (f : FRef) :
    (Dev.mk aut bus now regs mem timers drawn serial out pgs pw mram brc ecc upd eth fwd hbr kal key sys tim trm vlt voh wak).get f = bitsOf (NMap.get (resetValue f.addr) regs f.addr) f.hi f.lo := rfl

theorem mk_rdByte (aut : Aut) (bus : Bus) (now : Nat) (regs : NMap Word) (mem : List Host.Cell) (timers : List (Timer × Nat)) (drawn : Nat) (serial : Nat) (out : List Output) (pgs : NMap PgState) (pw : Power) (mram : Mram) (brc : Braces) (ecc : Integrity) (upd : Update) (eth : Eth) (fwd : Fwd) (hbr : Hbr) (kal : Kal) (key : Key) (sys : Sys) (tim : Tim) (trm : Trm) (vlt : Vault) (voh : Voh) (wak : Wak) (a : Nat) :
    (Dev.mk aut bus now regs mem timers drawn serial out pgs pw mram brc ecc upd eth fwd hbr kal key sys tim trm vlt voh wak).rdByte a = NMap.get 0#8 mem a := rfl

theorem mk_due (aut : Aut) (bus : Bus) (now : Nat) (regs : NMap Word) (mem : List Host.Cell) (timers : List (Timer × Nat)) (drawn : Nat) (serial : Nat) (out : List Output) (pgs : NMap PgState) (pw : Power) (mram : Mram) (brc : Braces) (ecc : Integrity) (upd : Update) (eth : Eth) (fwd : Fwd) (hbr : Hbr) (kal : Kal) (key : Key) (sys : Sys) (tim : Tim) (trm : Trm) (vlt : Vault) (voh : Voh) (wak : Wak) (t : Timer) :
    (Dev.mk aut bus now regs mem timers drawn serial out pgs pw mram brc ecc upd eth fwd hbr kal key sys tim trm vlt voh wak).due t = (timers.find? (fun e => decide (e.1 = t))).map (·.2) := rfl

theorem mk_pg (aut : Aut) (bus : Bus) (now : Nat) (regs : NMap Word) (mem : List Host.Cell) (timers : List (Timer × Nat)) (drawn : Nat) (serial : Nat) (out : List Output) (pgs : NMap PgState) (pw : Power) (mram : Mram) (brc : Braces) (ecc : Integrity) (upd : Update) (eth : Eth) (fwd : Fwd) (hbr : Hbr) (kal : Kal) (key : Key) (sys : Sys) (tim : Tim) (trm : Trm) (vlt : Vault) (voh : Voh) (wak : Wak) (q : Nat) :
    (Dev.mk aut bus now regs mem timers drawn serial out pgs pw mram brc ecc upd eth fwd hbr kal key sys tim trm vlt voh wak).pg q = NMap.get {} pgs q := rfl

variable (d : Dev)

theorem rd_fold (a : Nat) : NMap.get (resetValue a) d.regs a = d.rd a := rfl
theorem get_fold (f : FRef) : bitsOf (NMap.get (resetValue f.addr) d.regs f.addr) f.hi f.lo = d.get f := rfl
theorem rdByte_fold (a : Nat) : NMap.get 0#8 d.mem a = d.rdByte a := rfl
theorem due_fold (t : Timer) : (d.timers.find? (fun e => decide (e.1 = t))).map (·.2) = d.due t := rfl
theorem pg_fold (q : Nat) : NMap.get {} d.pgs q = d.pg q := rfl

/-! ### Raising an event -/

theorem sendMsix_eq (v : Nat) : ∃ o h, d.sendMsix v = { d with out := o, hbr := h } := by
  unfold Dev.sendMsix
  split
  · exact ⟨_, _, rfl⟩
  · split <;> exact ⟨_, _, rfl⟩

theorem sendMsg_eq (pg : Nat) : ∃ o h, d.sendMsg pg = { d with out := o, hbr := h } := by
  unfold Dev.sendMsg
  dsimp only
  split
  · split
    · obtain ⟨o, h, e⟩ := sendMsix_eq (d.emit (.braceMsg (d.get (PG_IRQ_MSG_brace_vec pg)) pg)) _
      exact ⟨o, h, e⟩
    · exact ⟨_, _, rfl⟩
  · split
    · exact sendMsix_eq d _
    · exact ⟨_, _, rfl⟩

/-- An event changes its page's `PG_IRQ_STAT`, and may send a message. -/
theorem raise_eq (pg b : Nat) : ∃ r o h, d.raise pg b = { d with regs := r, out := o, hbr := h } := by
  unfold Dev.raise
  split
  · exact ⟨_, _, _, rfl⟩
  · dsimp only
    split
    · obtain ⟨o, h, e⟩ := sendMsg_eq (d.setBit (PG_IRQ_STAT pg) b true) pg
      exact ⟨_, o, h, e⟩
    · exact ⟨_, _, _, rfl⟩

@[simp] theorem raise_aut (pg b : Nat) : (d.raise pg b).aut = d.aut := by
  obtain ⟨r, o, h, e⟩ := raise_eq d pg b
  rw [e]

@[simp] theorem raise_bus (pg b : Nat) : (d.raise pg b).bus = d.bus := by
  obtain ⟨r, o, h, e⟩ := raise_eq d pg b
  rw [e]

@[simp] theorem raise_drawn (pg b : Nat) : (d.raise pg b).drawn = d.drawn := by
  obtain ⟨r, o, h, e⟩ := raise_eq d pg b
  rw [e]

@[simp] theorem raise_serial (pg b : Nat) : (d.raise pg b).serial = d.serial := by
  obtain ⟨r, o, h, e⟩ := raise_eq d pg b
  rw [e]

@[simp] theorem raise_pgs (pg b : Nat) : (d.raise pg b).pgs = d.pgs := by
  obtain ⟨r, o, h, e⟩ := raise_eq d pg b
  rw [e]

@[simp] theorem raise_pw (pg b : Nat) : (d.raise pg b).pw = d.pw := by
  obtain ⟨r, o, h, e⟩ := raise_eq d pg b
  rw [e]

@[simp] theorem raise_mram (pg b : Nat) : (d.raise pg b).mram = d.mram := by
  obtain ⟨r, o, h, e⟩ := raise_eq d pg b
  rw [e]

@[simp] theorem raise_brc (pg b : Nat) : (d.raise pg b).brc = d.brc := by
  obtain ⟨r, o, h, e⟩ := raise_eq d pg b
  rw [e]

@[simp] theorem raise_ecc (pg b : Nat) : (d.raise pg b).ecc = d.ecc := by
  obtain ⟨r, o, h, e⟩ := raise_eq d pg b
  rw [e]

@[simp] theorem raise_upd (pg b : Nat) : (d.raise pg b).upd = d.upd := by
  obtain ⟨r, o, h, e⟩ := raise_eq d pg b
  rw [e]

@[simp] theorem raise_eth (pg b : Nat) : (d.raise pg b).eth = d.eth := by
  obtain ⟨r, o, h, e⟩ := raise_eq d pg b
  rw [e]

@[simp] theorem raise_fwd (pg b : Nat) : (d.raise pg b).fwd = d.fwd := by
  obtain ⟨r, o, h, e⟩ := raise_eq d pg b
  rw [e]

@[simp] theorem raise_kal (pg b : Nat) : (d.raise pg b).kal = d.kal := by
  obtain ⟨r, o, h, e⟩ := raise_eq d pg b
  rw [e]

@[simp] theorem raise_key (pg b : Nat) : (d.raise pg b).key = d.key := by
  obtain ⟨r, o, h, e⟩ := raise_eq d pg b
  rw [e]

@[simp] theorem raise_sys (pg b : Nat) : (d.raise pg b).sys = d.sys := by
  obtain ⟨r, o, h, e⟩ := raise_eq d pg b
  rw [e]

@[simp] theorem raise_tim (pg b : Nat) : (d.raise pg b).tim = d.tim := by
  obtain ⟨r, o, h, e⟩ := raise_eq d pg b
  rw [e]

@[simp] theorem raise_trm (pg b : Nat) : (d.raise pg b).trm = d.trm := by
  obtain ⟨r, o, h, e⟩ := raise_eq d pg b
  rw [e]

@[simp] theorem raise_vlt (pg b : Nat) : (d.raise pg b).vlt = d.vlt := by
  obtain ⟨r, o, h, e⟩ := raise_eq d pg b
  rw [e]

@[simp] theorem raise_voh (pg b : Nat) : (d.raise pg b).voh = d.voh := by
  obtain ⟨r, o, h, e⟩ := raise_eq d pg b
  rw [e]

@[simp] theorem raise_wak (pg b : Nat) : (d.raise pg b).wak = d.wak := by
  obtain ⟨r, o, h, e⟩ := raise_eq d pg b
  rw [e]

@[simp] theorem rdByte_raise (pg b a : Nat) : (d.raise pg b).rdByte a = d.rdByte a := by simp [Dev.rdByte]

@[simp] theorem due_raise (pg b : Nat) (t : Timer) : (d.raise pg b).due t = d.due t := by simp [Dev.due]

@[simp] theorem rdByte_wr (a : Nat) (v : Word) (x : Nat) : (d.wr a v).rdByte x = d.rdByte x := rfl
@[simp] theorem due_wr (a : Nat) (v : Word) (x : Timer) : (d.wr a v).due x = d.due x := rfl
@[simp] theorem rdByte_put (f : FRef) (v : Nat) (x : Nat) : (d.put f v).rdByte x = d.rdByte x := rfl
@[simp] theorem due_put (f : FRef) (v : Nat) (x : Timer) : (d.put f v).due x = d.due x := rfl
@[simp] theorem rdByte_count (a : Nat) (x : Nat) : (d.count a).rdByte x = d.rdByte x := rfl
@[simp] theorem due_count (a : Nat) (x : Timer) : (d.count a).due x = d.due x := rfl
@[simp] theorem rd_cancel (t : Timer) (x : Nat) : (d.cancel t).rd x = d.rd x := rfl
@[simp] theorem get_cancel (t : Timer) (x : FRef) : (d.cancel t).get x = d.get x := rfl
@[simp] theorem rdByte_cancel (t : Timer) (x : Nat) : (d.cancel t).rdByte x = d.rdByte x := rfl
@[simp] theorem rd_arm (t : Timer) (e : Nat) (x : Nat) : (d.arm t e).rd x = d.rd x := rfl
@[simp] theorem get_arm (t : Timer) (e : Nat) (x : FRef) : (d.arm t e).get x = d.get x := rfl
@[simp] theorem rdByte_arm (t : Timer) (e : Nat) (x : Nat) : (d.arm t e).rdByte x = d.rdByte x := rfl
@[simp] theorem rd_armIn (t : Timer) (n : Nat) (x : Nat) : (d.armIn t n).rd x = d.rd x := rfl
@[simp] theorem get_armIn (t : Timer) (n : Nat) (x : FRef) : (d.armIn t n).get x = d.get x := rfl
@[simp] theorem rdByte_armIn (t : Timer) (n : Nat) (x : Nat) : (d.armIn t n).rdByte x = d.rdByte x := rfl
@[simp] theorem rd_at_ (t : Nat) (x : Nat) : (d.at_ t).rd x = d.rd x := rfl
@[simp] theorem get_at_ (t : Nat) (x : FRef) : (d.at_ t).get x = d.get x := rfl
@[simp] theorem rdByte_at_ (t : Nat) (x : Nat) : (d.at_ t).rdByte x = d.rdByte x := rfl
@[simp] theorem due_at_ (t : Nat) (x : Timer) : (d.at_ t).due x = d.due x := rfl
@[simp] theorem rd_emit (o : Output) (x : Nat) : (d.emit o).rd x = d.rd x := rfl
@[simp] theorem get_emit (o : Output) (x : FRef) : (d.emit o).get x = d.get x := rfl
@[simp] theorem rdByte_emit (o : Output) (x : Nat) : (d.emit o).rdByte x = d.rdByte x := rfl
@[simp] theorem due_emit (o : Output) (x : Timer) : (d.emit o).due x = d.due x := rfl
@[simp] theorem rd_modPg (pg : Nat) (f : PgState → PgState) (x : Nat) : (d.modPg pg f).rd x = d.rd x := rfl
@[simp] theorem get_modPg (pg : Nat) (f : PgState → PgState) (x : FRef) : (d.modPg pg f).get x = d.get x := rfl
@[simp] theorem rdByte_modPg (pg : Nat) (f : PgState → PgState) (x : Nat) : (d.modPg pg f).rdByte x = d.rdByte x := rfl
@[simp] theorem due_modPg (pg : Nat) (f : PgState → PgState) (x : Timer) : (d.modPg pg f).due x = d.due x := rfl

end Sys2Proof.Machine
end

