-- ==== Sys2Proof/Tests/Slice0.lean ====
section
/-!
SUPPORT. Tests: an ill-formed command for each check of `Instr.wf`, single commands against the specification's worked
examples, and a witness for the hypotheses of every clause of every obligation.
-/

set_option maxRecDepth 8000
set_option Elab.async false
set_option linter.unusedVariables false
set_option linter.constructorNameAsVariable false

namespace Sys2Proof.Machine

/-! ### Helpers -/

/-- A device in Service whose pages below are out of reset and enabled. -/
def wit : Dev :=
  { Dev.init with
    pw := { Power.init with base := .service, optionsLoaded := true, filled := true }
    regs := ([pgTIM, pgVLT 0, pgQUE, pgFWD, pgLRN, pgTBL, pgTRM 0, pgTRM 1, pgETH 0, pgPHY 0, pgCAN 0, pgLIN 0, pgKLW 0,
      pgAUT, pgKEY, pgSCB, pgHBR, pgVHL 0, pgUPD] : List Nat).flatMap (fun pg => [(PG_STATE pg, 2), (PG_CTRL pg, 1)]) }

/-- A device in Service whose every page is out of reset, enabled and ready. -/
def witAll : Dev :=
  { Dev.init with
    pw := { Power.init with base := .service, optionsLoaded := true, filled := true, tablesGood := true, imageGood := true }
    regs := allPages.flatMap (fun pg => [(PG_READY pg, 1), (PG_STATE pg, 2), (PG_CTRL pg, 1)]) }.put CLK_STAT_stable 255

/-- A well-made image of one empty code block, signed under the anchor the device has at reset. -/
def goodImage : BankImage :=
  ⟨0x54485849, 1, 7, 0, 0, 0, 0, 1, 0, 0, 0x10000, true, [⟨1, 0, true, 0x10000, 0, 0, sha false [], []⟩], true⟩

/-- Where a master has granted every device ID, it grants no new one. -/
theorem full_grants_none (d : Dev) (hg : d.voh.granted = (List.range 1024).map (fun k => (100 + k, k))) :
    d.grantId 5 5 = (none, d) := by
  have h : ∀ i, i < 1024 → ∀ l : List Nat, (d.voh.granted.map (·.2) ++ l).contains i = true := by
    intro i hi l
    simp [hg, hi]
  have hf : d.voh.granted.find? (fun e => e.1 == 5) = none := by
    rw [hg, List.find?_eq_none]
    simp
    omega
  have hn : d.freeId 5 = none := by
    unfold Dev.freeId
    simp only [List.append_assoc, h 5 (by omega)]
    simp only [Bool.not_true, Bool.and_false, Bool.false_eq_true, if_false, List.find?_eq_none]
    intro i hi
    simp only [h i (List.mem_range.1 hi)]
    decide
  unfold Dev.grantId
  rw [hf, hn]

/-- A master that has granted every device ID. -/
def witFull : Dev :=
  ((({ witAll with voh := { witAll.voh with granted := (List.range 1024).map (fun k => (100 + k, k)) } } : Dev).put
    (VHL_VC_STAT_is_master 0) 1).put (VHL_VC_STAT_role 0) 2).put (VHL_STAT_link 0) 1

theorem witFull_grants_none : witFull.grantId 5 5 = (none, witFull) :=
  full_grants_none witFull (by simp only [witFull, Dev.put_voh])

/-- The device after a command that answers a next state. -/
def after (c : Instr) (d : Dev) : Option Dev :=
  match exec c ⟨d, []⟩ with
  | .next s => some s.dev
  | _ => none

/-! ### Ill-formed commands, one for each check -/

/-- Ports 62, 63 and 98 to 127 are reserved (Table 0-4). -/
theorem test_wf_port : ([62, 63, 98, 127].all fun p => !(Instr.frameHeadReceived p).wf) = true := by decide
/-- Only ports 64 to 95 are CAN and LIN ports (Table 0-4). -/
theorem test_wf_bus_port : ([63, 96].all fun p => !(Instr.busFrameHandoff p).wf) = true := by decide
/-- Pages that Table 2-1 does not name. -/
theorem test_wf_page : ([6, 9, 0x21, 0x172, 0x198, 0x2E4, 0x301].all fun p => !(Instr.unitResetEnd p).wf) = true := by decide
/-- A register offset is a word of a page (R32). -/
theorem test_wf_offset :
    ([4096, 2].all fun o => !(Instr.registerWrite .host 0 o 0).wf) = true := by decide
theorem test_wf_voq : (Instr.spillCopyDone (62 * 1024) false).wf = false := by decide
theorem test_wf_slot_route : (Instr.slotLaunchInHalt (.kalow 8192)).wf = false := by decide
theorem test_wf_slot_group : (Instr.slotLaunchInHalt (.aut 64)).wf = false := by decide
theorem test_wf_slot_gate : (Instr.slotActionNone (.streamGate 128)).wf = false := by decide
/-- A slot without a control register is not armed by a write. -/
theorem test_wf_slot_word : (Instr.slotArm .host (.gate 0) 0x80000005).wf = false := by decide
theorem test_wf_arm_bit : (Instr.slotArm .host (.tim 0) 5).wf = false := by decide
theorem test_wf_disarm_bit : (Instr.slotDisarm .host (.tim 0) 0x80000005).wf = false := by decide
theorem test_wf_handover_bit : (Instr.handoverSlotArm .host 0x0B).wf = false := by decide
theorem test_wf_key_record : (Instr.keyRecordCheckDone [⟨1024, true⟩] true).wf = false := by decide
theorem test_wf_image_header : BankImage.wf { goodImage with magic := 2 ^ 32 } = false := by decide +kernel
theorem test_wf_sweep_structure : (Instr.braceSweepDone [⟨.a, 5, 0⟩]).wf = false := by decide
theorem test_wf_table_slot : (Instr.lockExpiry 0 262160).wf = false := by decide
theorem test_wf_no_table : (Instr.lockExpiry 6 0).wf = false := by decide
theorem test_wf_bus_record : (Instr.listenFrameMatch 0 { id := 2 ^ 29, fmt := 0 }).wf = false := by decide
theorem test_wf_table_ring : (Instr.tblFlushDone 2).wf = false := by decide
theorem test_wf_table_descriptor : (TblDesc.wf ⟨true, false, 16, 0, 0, 0, 0, 0⟩) = false := by decide +kernel
theorem test_wf_table_event : (TblDesc.wf ⟨true, false, 0, 0, 0, 0, 3, 0⟩) = false := by decide +kernel
theorem test_wf_bp_descriptor : (BpDesc.wf ⟨true, false, false, 64, 2 ^ 19, 0, 0, 0⟩) = false := by decide
theorem test_wf_host_descriptor_aligned : (HostDesc.wf ⟨true, false, false, false, 64, 0, 0, 0, 4⟩) = false := by decide
theorem test_wf_commit_key : (Instr.ccDeadline ⟨0, 256 + 6⟩).wf = false := by decide
theorem test_wf_hello : (Instr.helloReceived 0 ⟨0, 0, 1024, false, false, 0, 0, 0, 0, 0, 0⟩).wf = false := by decide
theorem test_wf_vote : (Instr.voteReceived ⟨⟨0, 0⟩, 0, 0, 4⟩).wf = false := by decide
theorem test_wf_decide : (Instr.decideReceived ⟨⟨0, 0⟩, true, 0, 0, 8⟩).wf = false := by decide
theorem test_wf_token : (Instr.vetoReceived ⟨3, 64, 0, 0, 0, 0, 0⟩).wf = false := by decide
theorem test_wf_signal : (Instr.kalowPeriodicPack 0 (.store 16384)).wf = false := by decide
theorem test_wf_route : (Instr.kalowAggTimeout 8192).wf = false := by decide
theorem test_wf_context : (Instr.oldSlotZeroise 4096).wf = false := by decide
theorem test_wf_bit_time : (Instr.frameStart 0 8).wf = false := by decide
theorem test_wf_coin_data : (Instr.frameDataCoin 0 []).wf = false := by decide
theorem test_wf_pfc_times : (Instr.pfcReceived 0 255 [65536, 0, 0, 0, 0, 0, 0, 0]).wf = false := by decide
theorem test_wf_key_op_defined : (Instr.keyBadOp .host 5).wf = false := by decide
theorem test_wf_bad_commit_cmd : (Instr.commitBadCmd .host 1 0 3).wf = false := by decide
theorem test_wf_outbound_address : (Instr.outboundAccess .a (2 ^ 40) none).wf = false := by decide
/-- An ill-formed command is a fault by name. -/
theorem test_ill_formed_faults : exec (.unitResetEnd 6) State.reset = .fault .illFormed := rfl

/-! ### The queue -/

theorem test_reset_queue : State.reset.pending = [] := rfl
/-- The front command runs on the queue's rest. -/
theorem test_front_runs (s : State) :
    step { s with pending := [.semRelease .host 0, .powerOn] } = exec (.semRelease .host 0) { s with pending := [.powerOn] } :=
  rfl
/-- An idle block lets one CK_TIM period of 2.5 ns pass, 12 root periods (Table 1-2). -/
theorem test_idle_tick : (match step ⟨wit, []⟩ with | .next s => s.dev.now - wit.now | _ => 0) = 12 := by decide
/-- No row of the opcode table has bits. -/
theorem test_no_word (n w : Nat) : decodeTableWord n w = none := rfl

/-! ### Worked examples of the specification -/

/-- Table 6-3 step 5: e = +250 ns over 125 ms moves `INTEG` from 13,194,140 to 13,331,578 and `RATE` to 14,431,089. -/
theorem test_servo_example :
    (after .sampleApply
      ((({ wit with tim := { wit.tim with sample := some ⟨250 * 65536, 125000000, 0, 6, false⟩ } } : Dev).put TIM_STAT_gen 6
        |>.put TIM_SRC_src 1 |>.put TIM_STAT_state 1 |>.wr TIM_INTEG 13194140 |>.wr TIM_RATE 13194140).arm
        ⟨.sampleApply, 0, 0⟩ 0)).map (fun d => (d.rd TIM_INTEG, d.rd TIM_RATE)) = some (13331578, 14431089) := by decide
/-- A commit that passes its check makes the staged value live (R40). -/
theorem test_commit_copies :
    (after (.commitCheckDone (pgETH 0) false)
      (((wit.put (FRef.shadow (ETH_CFG_max_len 0)) 2000).modPg (pgETH 0) (fun s => { s with phase := .checking, cmd := 1 })).arm
        ⟨.commitCheck, pgETH 0, 0⟩ 10)).map (fun d => d.get (ETH_CFG_max_len 0)) = some 2000 := by decide +kernel
/-- Check value of the IEEE 802.3 CRC (R397 names it for option images): "123456789" gives 0xCBF43926. -/
theorem test_crc32 : crc32 [0x31, 0x32, 0x33, 0x34, 0x35, 0x36, 0x37, 0x38, 0x39] = 0xCBF43926 := by decide

/-! ### Witnesses of the obligations' hypotheses -/


/-- The hypotheses of `Obligations.SupplyEventsAct` hold together, clause by clause, in 2 parts. -/
theorem test_witness_SupplyEventsAct_part1 :
    (∃ (d : Dev), d.pw.base = .off) ∧
    (∃ (d : Dev), d.pw.base ≠ .off ∧ d.up = true) ∧
    (∃ (d : Dev) (y : Dev) (z : Dev) (vmin : Nat), vmin < 8192 ∧ d.pw.base ≠ .off ∧ d.pw.losing = false ∧ z = d.each (List.range 8) (fun n t => t.setSupen n false) ∧ y = (if z.pw.main = true then z.mainCleared else { z with pw := { z.pw with base := .dormant } }).each [.railsValid, .classDEnd, .dieTemp, .refCheck, .mainDark, .listen] (fun k t => t.cancel ⟨k, 0, 0⟩)) ∧
    (∃ (d : Dev) (e : Nat), d.due ⟨.journal, 0, 0⟩ = some e) ∧
    (∃ (d : Dev) (z : Dev) (e : Nat), d.due ⟨.mainOff, 0, 0⟩ = some e ∧ z = ((d.cancel ⟨.mainOff, 0, 0⟩).writeJournal.cancel ⟨.journal, 0, 0⟩).mainOff .off) ∧
    (∃ (d : Dev) (z : Dev) (mv10 : Nat), d.pw.base ≠ .off ∧ mv10 < 800 ∧ z = (d.seeVsup mv10).count PWR_CRANK_CNT ∧ z.up = true) :=
  ⟨⟨({ wit with pw := { wit.pw with base := .off } } : Dev), by decide +kernel⟩,
   ⟨wit, by decide +kernel, by decide +kernel⟩,
   ⟨wit, _, _, 0, by decide +kernel, by decide +kernel, by decide +kernel, rfl, rfl⟩,
   ⟨wit.arm ⟨.journal, 0, 0⟩ 10, 10, by decide +kernel⟩,
   ⟨wit.arm ⟨.mainOff, 0, 0⟩ 10, _, 10, by decide +kernel, rfl⟩,
   ⟨wit, _, 0, by decide +kernel, by decide +kernel, rfl, by decide +kernel⟩⟩

/-- The same, part 2. -/
theorem test_witness_SupplyEventsAct_part2 :
    (∃ (d : Dev) (z : Dev) (mv10 : Nat), d.pw.base ≠ .off ∧ mv10 < 800 ∧ z = (d.seeVsup mv10).count PWR_CRANK_CNT ∧ z.up = false) ∧
    (∃ (d : Dev) (z : Dev) (mv10 : Nat), d.pw.base ≠ .off ∧ 4000 < mv10 ∧ z = (d.seeVsup mv10).count PWR_OV_CNT ∧ z.up = true) ∧
    (∃ (d : Dev) (z : Dev) (mv10 : Nat), d.pw.base ≠ .off ∧ 4000 < mv10 ∧ z = (d.seeVsup mv10).count PWR_OV_CNT ∧ z.up = false) ∧
    (∃ (d : Dev) (mv10 : Nat), d.up = true ∧ d.pw.optionsLoaded = true ∧ mv10 < 25 * d.opt 10) :=
  ⟨⟨({ wit with pw := { wit.pw with rails := false } } : Dev), _, 0, by decide +kernel, by decide +kernel, rfl, by decide +kernel⟩,
   ⟨wit, _, 4001, by decide +kernel, by decide +kernel, rfl, by decide +kernel⟩,
   ⟨({ wit with pw := { wit.pw with rails := false } } : Dev), _, 4001, by decide +kernel, by decide +kernel, rfl, by decide +kernel⟩,
   ⟨wit.wr (OPT_IMG 2) 0x240000, 0, by decide +kernel, by decide +kernel, by decide +kernel⟩⟩

/-- The hypotheses of `Obligations.JournalWriteRecordsTheLoss` hold together, clause by clause. -/
theorem test_witness_JournalWriteRecordsTheLoss :
    ∃ (d : Dev) (cause : Nat) (mode : Nat) (ns : Nat) (vmin : Nat), d.pw.journal = some (cause, mode, ns, vmin) :=
  ⟨({ wit with pw := { wit.pw with journal := some (0, 0, 0, 0) } } : Dev), 0, 0, 0, 0, by decide +kernel⟩

/-- The hypotheses of `Obligations.ClassPResetLeaves` hold together, clause by clause. -/
theorem test_witness_ClassPResetLeaves :
    (∃ (cause : Nat) (pg : _), cause < 32 ∧ (pg ∈ allPages) ∧ pg ∉ [1, 2, 4, 5]) ∧
    (∃ (cause : Nat) (a : _), cause < 32 ∧ a < 0x80000000) ∧
    (∃ (cause : Nat) (a : _), cause < 32 ∧ 0x80000000 ≤ a) :=
  ⟨⟨0, 0, by decide +kernel, by decide +kernel, by decide +kernel⟩,
   ⟨0, 0, by decide +kernel, by decide +kernel⟩,
   ⟨0, 2147483648, by decide +kernel, by decide +kernel⟩⟩

/-- The hypotheses of `Obligations.ClassDResetLeaves` hold together, clause by clause. -/
theorem test_witness_ClassDResetLeaves :
    (∃ (d : Dev) (cause : Nat) (pg : _), cause < 32 ∧ d.pw.main = true ∧ d.pw.rails = true ∧ d.pw.losing = false ∧ (pg ∈ allPages) ∧ pg ∉ [1, 2, 4, 5]) ∧
    (∃ (d : Dev) (cause : Nat) (a : _), cause < 32 ∧ d.pw.main = true ∧ d.pw.rails = true ∧ d.pw.losing = false ∧ a < 0x80000000) :=
  ⟨⟨wit, 0, 0, by decide +kernel, by decide +kernel, by decide +kernel, by decide +kernel, by decide +kernel, by decide +kernel⟩,
   ⟨wit, 0, 0, by decide +kernel, by decide +kernel, by decide +kernel, by decide +kernel, by decide +kernel⟩⟩

/-- The hypotheses of `Obligations.ResetSourcesAct` hold together, clause by clause, in 2 parts. -/
theorem test_witness_ResetSourcesAct_part1 :
    (∃ (d : Dev), d.pw.resetnLow = false ∧ d.pw.base ≠ .dormant ∧ d.pw.base ≠ .listen) ∧
    (∃ (d : Dev), d.pw.resetnLow = false ∧ (d.pw.base = .dormant ∨ d.pw.base = .listen)) ∧
    (∃ (d : Dev), d.pw.resetnLow = true) ∧
    (∃ (d : Dev) (i : Initiator) (v : Word), d.accepts i = true ∧ v ≠ 0x5A5A0960) ∧
    (∃ (d : Dev), d.pw.base = .start) ∧
    (∃ (d : Dev), d.pw.main = true ∧ d.pw.rails = true ∧ d.pw.losing = false) :=
  ⟨⟨wit, by decide +kernel, by decide +kernel, by decide +kernel⟩,
   ⟨({ wit with pw := { wit.pw with base := .dormant } } : Dev), by decide +kernel, by decide +kernel⟩,
   ⟨({ wit with pw := { wit.pw with resetnLow := true } } : Dev), by decide +kernel⟩,
   ⟨wit, .host, 0, by decide +kernel, by decide +kernel⟩,
   ⟨({ wit with pw := { wit.pw with base := .start } } : Dev), by decide +kernel⟩,
   ⟨wit, by decide +kernel, by decide +kernel, by decide +kernel⟩⟩

/-- The same, part 2. -/
theorem test_witness_ResetSourcesAct_part2 :
    (∃ (d : Dev) (e : Nat), d.due ⟨.classDEnd, 0, 0⟩ = some e) ∧
    (∃ (d : Dev) (celsius : Int) (e : Nat), d.due ⟨.dieTemp, 0, 0⟩ = some e ∧ d.pw.asserted = false ∧ celsius ≤ 125) :=
  ⟨⟨wit.arm ⟨.classDEnd, 0, 0⟩ 10, 10, by decide +kernel⟩,
   ⟨wit.arm ⟨.dieTemp, 0, 0⟩ 10, 0, 10, by decide +kernel, by decide +kernel, by decide +kernel⟩⟩

/-- The hypotheses of `Obligations.ClockEventsAct` hold together, clause by clause, in 2 parts. -/
theorem test_witness_ClockEventsAct_part1 :
    (∃ (d : Dev) (ppm : Int) (e : Nat), d.due ⟨.refCheck, 0, 0⟩ = some e ∧ d.pw.asserted = false ∧ -2000 ≤ ppm ∧ ppm ≤ 2000) ∧
    (∃ (d : Dev), d.up = true ∧ d.flag CLK_STAT_root_lock = true) ∧
    (∃ (d : Dev) (y : Dev) (z : Dev) (ns : Nat) (e : Nat) (t : Nat), d.pw.lockLost = some t ∧ d.due ⟨.pllLoss, 0, 0⟩ = some e ∧ ns ≤ 10000 ∧ y = (d.at_ (t + nsT ns)).cancel ⟨.pllLoss, 0, 0⟩ ∧ z = ({ y with pw := { y.pw with lockLost := none, lockAt := y.now } } : Dev)) ∧
    (∃ (d : Dev) (e : Nat), d.due ⟨.pllLoss, 0, 0⟩ = some e ∧ d.pw.halted = false) ∧
    (∃ (d : Dev) (y : Dev) (c : Clock), d.up = true ∧ d.stable c = false ∧ d.pw.lockLost = none ∧ y = ((d.locked1 c).at_ ((d.locked1 c).pw.lockAt + stableAfter c)).put CLK_STAT_stable (setBitTo ((d.locked1 c).get CLK_STAT_stable) (clockIx c) true)) ∧
    (∃ (d : Dev) (y : Dev) (z : Dev) (e : Nat) (t : Nat) (pg : Nat) (c : Clock) (l : List Clock), isPage pg = true ∧ d.due ⟨.clockWait, pg, 0⟩ = some e ∧ clockOf pg = some c ∧ y = ((d.at_ e).cancel ⟨.clockWait, pg, 0⟩).modPg pg (fun s => { s with clockWait := false, clockFail := true }) ∧ l = (if c = .vlt then [Clock.vlt, Clock.fab, Clock.dram].filter (fun k => !y.stable k) else [c]) ∧ z = ((y.each l (fun k t => t.put CLK_FAIL_clocks (setBitTo (t.get CLK_FAIL_clocks) (clockIx k) true))).raise pgCLK 9).refreshFrom pg ∧ c = .brc ∧ z.pw.base = .start ∧ z.pw.halted = false) :=
  ⟨⟨wit.arm ⟨.refCheck, 0, 0⟩ 10, 0, 10, by decide +kernel, by decide +kernel, by decide +kernel, by decide +kernel⟩,
   ⟨wit.put CLK_STAT_root_lock 1, by decide +kernel, by decide +kernel⟩,
   ⟨({ wit with pw := { wit.pw with lockLost := some 0 } } : Dev).arm ⟨.pllLoss, 0, 0⟩ 10, _, _, 0, 10, _, rfl, by decide +kernel, by decide +kernel, rfl, rfl⟩,
   ⟨wit.arm ⟨.pllLoss, 0, 0⟩ 10, 10, by decide +kernel, by decide +kernel⟩,
   ⟨wit, _, .fab, by decide +kernel, by decide +kernel, by decide +kernel, rfl⟩,
   ⟨(({ wit with pw := { wit.pw with base := .start } } : Dev).arm ⟨.clockWait, (pgBRC 0), 0⟩ 10).arm ⟨.clockWait, pgBRC 0, 0⟩ 10, _, _, 10, 0, (pgBRC 0), _, _, by decide +kernel, by decide +kernel, rfl, rfl, rfl, rfl, by decide +kernel, by decide +kernel, by decide +kernel⟩⟩

/-- The same, part 2. -/
theorem test_witness_ClockEventsAct_part2 :
    ∃ (d : Dev) (y : Dev) (z : Dev) (e : Nat) (t : Nat) (pg : Nat) (c : Clock) (l : List Clock), isPage pg = true ∧ d.due ⟨.clockWait, pg, 0⟩ = some e ∧ clockOf pg = some c ∧ y = ((d.at_ e).cancel ⟨.clockWait, pg, 0⟩).modPg pg (fun s => { s with clockWait := false, clockFail := true }) ∧ l = (if c = .vlt then [Clock.vlt, Clock.fab, Clock.dram].filter (fun k => !y.stable k) else [c]) ∧ z = ((y.each l (fun k t => t.put CLK_FAIL_clocks (setBitTo (t.get CLK_FAIL_clocks) (clockIx k) true))).raise pgCLK 9).refreshFrom pg ∧ (c ≠ .brc ∨ z.pw.base ≠ .start ∨ z.pw.halted = true) :=
  ⟨wit.arm ⟨.clockWait, 0, 0⟩ 10, _, _, 10, 0, 0, _, _, by decide +kernel, by decide +kernel, rfl, rfl, rfl, rfl, by decide +kernel⟩

/-- The hypotheses of `Obligations.StartMemoriesAct` hold together, clause by clause, in 2 parts. -/
theorem test_witness_StartMemoriesAct_part1 :
    (∃ (d : Dev) (y : Dev) (z : Dev) (e : Nat), d.due ⟨.railsValid, 0, 0⟩ = some e ∧ y = ((({ d.cancel ⟨.railsValid, 0, 0⟩ with pw := { d.pw with rails := true, asserted := true } } : Dev).armIn ⟨.dieTemp, 0, 0⟩ (usT 100)).armIn ⟨.refCheck, 0, 0⟩ (msT 1)) ∧ z = (if d.get WAK_WSR_cause = 1 then (if d.pw.resetnLow = true then y.put WAK_WSR_cause 6 else y) else (y.put RST_CAUSE_cause 9).put RST_CAUSE_class 1)) ∧
    (∃ (d : Dev) (e : Nat), d.due ⟨.rootArray, 0, 0⟩ = some e) ∧
    (∃ (d : Dev) (y : Dev) (z : Dev), d.get KEY_STAT_root = 1 ∧ y = d.put KEY_ROOT_att (d.get KEY_ROOT_att + 1) ∧ z = (if d.get KEY_ROOT_att = 0 then { y with key := { y.key with starts := (y.key.starts + 1) % 2 ^ 64 } } else y) ∧ (d.get KEY_ROOT_att < 2 ∨ d.pw.optionsLoaded = false)) ∧
    (∃ (d : Dev) (u : Dev) (w : Dev) (x : Dev) (y : Dev) (z : Dev) (e : Nat) (n : Nat) (v : OptVote), d.due ⟨.options, 0, 0⟩ = some e ∧ v = optVote d.mram.options ∧ x = (((d.at_ e).cancel ⟨.options, 0, 0⟩).showOptions v).optionsAct ∧ y = ({ x.when v.repair (fun t => t.raise pgRST 10) with pw := { (x.when v.repair (fun t => t.raise pgRST 10)).pw with optionsLoaded := true } } : Dev).mile 0 ∧ n = (if y.opt 2 % 8 ≤ y.get RST_BOOT_CNT_count then y.get RST_BOOT_CNT_count else y.get RST_BOOT_CNT_count + 1) ∧ z = ((y.put RST_BOOT_CNT_limit (y.opt 2 % 8)).put RST_BOOT_CNT_count n).newRecord (if v.rom then 10 else y.get RST_CAUSE_cause) n ∧ w = (if v.rom = true then z.enterKennel 2 3 else if y.opt 2 % 8 ≤ y.get RST_BOOT_CNT_count then z.enterKennel 1 2 else z) ∧ u = (if w.pw.halted = true then w.outcome 9 else w)) ∧
    (∃ (d : Dev) (w : Dev) (y : Dev) (z : Dev), d.up = true ∧ d.pw.optionsLoaded = true ∧ d.pw.filled = false ∧ y = (((({ d with pw := { d.pw with filled := true } } : Dev).put ECC_FILL_STAT_ondie 1).put ECC_FILL_STAT_region 0x7FFD).raise pgECC 13).mile 1 ∧ z = (y.when (decide (y.pw.base = .kennel)) Dev.kennelProfile).each pagesAtFill Dev.askRelease ∧ w = z.when (z.flag OPT_COPY_STAT_repair) (fun t => t.armIn ⟨.optionRepair, 0, 0⟩ (usT 30))) ∧
    (∃ (d : Dev) (y : Dev), d.up = true ∧ d.pw.filled = true ∧ bitAt (d.get ECC_FILL_STAT_region) 1 = false ∧ y = d.joinReserve (rsvFirst - d.vlt.rsvJoined)) :=
  ⟨⟨wit.arm ⟨.railsValid, 0, 0⟩ 10, _, _, 10, by decide +kernel, rfl, rfl⟩,
   ⟨wit.arm ⟨.rootArray, 0, 0⟩ 10, 10, by decide +kernel⟩,
   ⟨wit.put KEY_STAT_root 1, _, _, by decide +kernel, rfl, rfl, by decide +kernel⟩,
   ⟨wit.arm ⟨.options, 0, 0⟩ 10, _, _, _, _, _, 10, _, _, by decide +kernel, rfl, rfl, rfl, rfl, rfl, rfl, rfl⟩,
   ⟨({ wit with pw := { wit.pw with filled := false } } : Dev), _, _, _, by decide +kernel, by decide +kernel, by decide +kernel, rfl, rfl, rfl⟩,
   ⟨wit, _, by decide +kernel, by decide +kernel, by decide +kernel, rfl⟩⟩

/-- The same, part 2. -/
theorem test_witness_StartMemoriesAct_part2 :
    ∃ (d : Dev) (y : Dev) (z : Dev), d.get KEY_STAT_root = 2 ∧ d.flag KEY_STAT_ready = false ∧ d.flag KEY_STAT_sealed = false ∧ d.flag KEY_STAT_rng_ok = false ∧ d.due ⟨.reseed, 0, 0⟩ = none ∧ d.pw.optionsLoaded = true ∧ y = ({ d with key := { d.key with recs := d.key.recs.map (fun (r : Nat × KeyRec) => (r.1, { r.2 with s0 := { r.2.s0 with bad := false }, s1 := { r.2.s1 with bad := false } })) } } : Dev) ∧ z = (y.countRecs.seed.put KEY_STAT_rng_ok 1).recShow ∧ z.get TMP_LATCH_sensors = 0 ∧ z.key.waiting = [] ∧ z.key.alarmWaits = false :=
  ⟨((((({ wit with key := { wit.key with waiting := [], alarmWaits := false } } : Dev).put KEY_STAT_root 2).put KEY_STAT_ready 0).put KEY_STAT_sealed 0).put KEY_STAT_rng_ok 0).put TMP_LATCH_sensors 0, _, _, by decide +kernel, by decide +kernel, by decide +kernel, by decide +kernel, by decide +kernel, by decide +kernel, rfl, rfl, by decide +kernel, by decide +kernel, by decide +kernel⟩

/-- The hypotheses of `Obligations.StartImageActs` hold together, clause by clause, in 2 parts. -/
theorem test_witness_StartImageActs_part1 :
    (∃ (d : Dev) (z : Dev) (bank : Nat) (img : BankImage), img.wf = true ∧ d.awaitsImage = true ∧ d.pw.imageGood = false ∧ imageWellMade img = true ∧ d.imageSigned img = true ∧ bank = (if d.pw.secondCheck then 1 - d.get UPD_BANK_boot else d.get UPD_BANK_boot) ∧ z = (((({ d with pw := { d.pw with imageGood := true } } : Dev).put SIG_STAT_result 1).mile 3).wr UPD_RUN_VER (BitVec.ofNat 32 img.version))) ∧
    (∃ (d : Dev) (img : BankImage), img.wf = true ∧ d.awaitsImage = true ∧ d.pw.imageGood = false ∧ (imageWellMade img = false ∨ d.imageSigned img = false)) ∧
    (∃ (d : Dev) (z : Dev) (si : StartImage), d.awaitsImage = true ∧ d.pw.imageGood = true ∧ z = (({ d.loadImage si with pw := { (d.loadImage si).pw with tablesGood := true } } : Dev).mile 4).refresh ∧ z.pw.base ≠ .kennel) ∧
    (∃ (d : Dev) (z : Dev) (si : StartImage), d.awaitsImage = true ∧ d.pw.imageGood = true ∧ z = (({ d.loadImage si with pw := { (d.loadImage si).pw with tablesGood := true } } : Dev).mile 4).refresh ∧ z.pw.base = .kennel) ∧
    (∃ (d : Dev) (x : Dev) (y : Dev) (e : Nat) (br : Brace) (failed : Word), d.due ⟨.selfTest, brIx br, 0⟩ = some e ∧ x = d.cancel ⟨.selfTest, brIx br, 0⟩ ∧ y = (if (x.pg (pgBRC (brIx br))).diag = true then x.setDiag (pgBRC (brIx br)) false else x) ∧ failed ≠ 0) ∧
    (∃ (d : Dev) (z : Dev) (i : Initiator), d.accepts i = true ∧ (iniBrace i).isSome = true ∧ d.pw.base = .start ∧ d.pw.halted = false ∧ z = ({ d with pw := { d.pw with base := .service, goodSeen := true, faultn := true, readyUp := true } } : Dev)) :=
  ⟨⟨({ wit with pw := { wit.pw with base := .start, tablesGood := false, imageGood := false } } : Dev), _, _, goodImage, by decide +kernel, by decide +kernel, by decide +kernel, by decide +kernel, by decide +kernel, rfl, rfl⟩,
   ⟨({ wit with pw := { wit.pw with base := .start, tablesGood := false, imageGood := false } } : Dev), ⟨0x47423936, 1, 0, 0, 0, 0, 0, 0, 0, 0, 0, true, [], true⟩, by decide +kernel, by decide +kernel, by decide +kernel, by decide +kernel⟩,
   ⟨({ wit with pw := { wit.pw with base := .start, tablesGood := false, imageGood := true } } : Dev), _, ⟨[], [], [], [], []⟩, by decide +kernel, by decide +kernel, rfl, by decide +kernel⟩,
   ⟨({ wit with pw := { wit.pw with base := .kennel, tablesGood := false, imageGood := true, bracesOut := true } } : Dev).put RST_KENNEL_profile 2, _, ⟨[], [], [], [], []⟩, by decide +kernel, by decide +kernel, rfl, by decide +kernel⟩,
   ⟨wit.arm ⟨.selfTest, brIx (.a), 0⟩ 10, _, _, 10, .a, 1, by decide +kernel, rfl, rfl, by decide +kernel⟩,
   ⟨({ wit with pw := { wit.pw with base := .start } } : Dev).put (BRC_ROLE_role 0) 1, _, .braceA, by decide +kernel, by decide +kernel, by decide +kernel, by decide +kernel, rfl⟩⟩

/-- The same, part 2. -/
theorem test_witness_StartImageActs_part2 :
    (∃ (d : Dev) (e : Nat), d.due ⟨.bootGood, 0, 0⟩ = some e ∧ d.pw.base = .start) ∧
    (∃ (d : Dev) (e : Nat), d.due ⟨.bootHalf, 0, 0⟩ = some e) ∧
    (∃ (d : Dev) (i : Initiator), d.accepts i = true ∧ d.pw.base = .kennel) ∧
    (∃ (d : Dev) (i : Initiator) (v : Word), d.accepts i = true ∧ v ≠ 0xC1EA0960) :=
  ⟨⟨({ wit with pw := { wit.pw with base := .start } } : Dev).arm ⟨.bootGood, 0, 0⟩ 10, 10, by decide +kernel, by decide +kernel⟩,
   ⟨wit.arm ⟨.bootHalf, 0, 0⟩ 10, 10, by decide +kernel⟩,
   ⟨({ wit with pw := { wit.pw with base := .kennel } } : Dev), .host, by decide +kernel, by decide +kernel⟩,
   ⟨wit, .host, 0, by decide +kernel, by decide +kernel⟩⟩

/-- The hypotheses of `Obligations.OptionsAndHaltAct` hold together, clause by clause. -/
theorem test_witness_OptionsAndHaltAct :
    (∃ (d : Dev) (z : Dev) (i : Initiator) (v : Word), d.accepts i = true ∧ d.locked pgRST = false ∧ z = (d.put RST_OUT_CTL_ready_hold (bitsOf v 1 1)).put RST_OUT_CTL_fault (bitsOf v 0 0)) ∧
    (∃ (d : Dev) (i : Initiator), d.accepts i = true ∧ d.optRefusal d.stagedImage = none) ∧
    (∃ (d : Dev) (i : Initiator) (st : Nat), d.accepts i = true ∧ d.optRefusal d.stagedImage = some st) ∧
    (∃ (d : Dev) (i : Initiator) (v : Word), d.accepts i = true ∧ v ≠ 0x0B7E0960) ∧
    (∃ (d : Dev) (z : Dev) (e : Nat), d.due ⟨.optionWrite, 0, 0⟩ = some e ∧ d.upd.optWrite = 3 ∧ z = ({ d.cancel ⟨.optionWrite, 0, 0⟩ with mram := { d.mram with options := writeCopies d.upd.optImage 24 d.mram.options }, upd := { d.upd with optWrite := 0, optImage := [] } } : Dev)) ∧
    (∃ (d : Dev) (e : Nat), d.due ⟨.optionRepair, 0, 0⟩ = some e) :=
  ⟨⟨wit, _, .host, 0, by decide +kernel, by decide +kernel, rfl⟩,
   ⟨(wit.wr (OPT_STG 0) 0x00030201).wr (OPT_STG 3) 0x00010004, .host, by decide +kernel, by decide +kernel⟩,
   ⟨wit, .host, _, by decide +kernel, rfl⟩,
   ⟨wit, .host, 0, by decide +kernel, by decide +kernel⟩,
   ⟨({ wit with upd := { wit.upd with optWrite := 3 } } : Dev).arm ⟨.optionWrite, 0, 0⟩ 10, _, 10, by decide +kernel, by decide +kernel, rfl⟩,
   ⟨wit.arm ⟨.optionRepair, 0, 0⟩ 10, 10, by decide +kernel⟩⟩

/-- The hypotheses of `Obligations.HaltEntryLeaves` hold together, clause by clause. -/
theorem test_witness_HaltEntryLeaves :
    ∃ (d : Dev), d.up = true ∧ d.pw.halted = false ∧ d.pw.base = .service :=
  ⟨wit, by decide +kernel, by decide +kernel, by decide +kernel⟩

/-- The hypotheses of `Obligations.PageControlsAct` hold together, clause by clause, in 2 parts. -/
theorem test_witness_PageControlsAct_part1 :
    (∃ (d : Dev) (i : Initiator) (pg : Nat) (n : Nat) (k : PgKind), isPage pg = true ∧ pageKind pg = some (k, n) ∧ d.accepts i = true ∧ d.locked pg = false ∧ k.fixed = false ∧ k ≠ .brc ∧ k ≠ .upd ∧ d.flag (PG_STATE_in_reset pg) = false) ∧
    (∃ (d : Dev) (i : Initiator) (pg : Nat) (n : Nat) (k : PgKind), isPage pg = true ∧ pageKind pg = some (k, n) ∧ d.accepts i = true ∧ d.locked pg = false ∧ k.fixed = true) ∧
    (∃ (d : Dev) (i : Initiator) (pg : Nat) (n : Nat) (k : PgKind), isPage pg = true ∧ pageKind pg = some (k, n) ∧ d.accepts i = true ∧ d.locked pg = false ∧ d.flag (PG_CAP_isolate pg) = true ∧ d.get (PG_STATE_iso pg) = 0 ∧ d.pw.halted = false ∧ d.handedOver pg = false) ∧
    (∃ (d : Dev) (i : Initiator) (pg : Nat) (n : Nat) (k : PgKind), isPage pg = true ∧ pageKind pg = some (k, n) ∧ d.accepts i = true ∧ d.locked pg = false ∧ d.get (PG_STATE_iso pg) = 2) ∧
    (∃ (d : Dev) (i : Initiator) (pg : Nat) (n : Nat) (k : PgKind), isPage pg = true ∧ pageKind pg = some (k, n) ∧ d.accepts i = true ∧ d.locked pg = false ∧ d.get (PG_STATE_iso pg) = 1) ∧
    (∃ (d : Dev) (pg : Nat) (n : Nat) (k : PgKind), isPage pg = true ∧ pageKind pg = some (k, n) ∧ d.up = true ∧ d.flag (PG_CAP_isolate pg) = true ∧ d.get (PG_STATE_iso pg) = 0 ∧ d.pw.halted = false ∧ d.handedOver pg = false) :=
  ⟨⟨wit.put (PG_STATE_in_reset 0) 0, .host, 0, _, _, by decide +kernel, rfl, by decide +kernel, by decide +kernel, by decide +kernel, by decide +kernel, by decide +kernel, by decide +kernel⟩,
   ⟨wit, .host, 1, _, .rst, by decide +kernel, rfl, by decide +kernel, by decide +kernel, by decide +kernel⟩,
   ⟨(wit.put (PG_CAP_isolate 0) 1).put (PG_STATE_iso 0) 0, .host, 0, _, _, by decide +kernel, rfl, by decide +kernel, by decide +kernel, by decide +kernel, by decide +kernel, by decide +kernel, by decide +kernel⟩,
   ⟨wit.put (PG_STATE_iso 0) 2, .host, 0, _, _, by decide +kernel, rfl, by decide +kernel, by decide +kernel, by decide +kernel⟩,
   ⟨wit.put (PG_STATE_iso 0) 1, .host, 0, _, _, by decide +kernel, rfl, by decide +kernel, by decide +kernel, by decide +kernel⟩,
   ⟨(wit.put (PG_CAP_isolate 0) 1).put (PG_STATE_iso 0) 0, 0, _, _, by decide +kernel, rfl, by decide +kernel, by decide +kernel, by decide +kernel, by decide +kernel, by decide +kernel⟩⟩

/-- The same, part 2. -/
theorem test_witness_PageControlsAct_part2 :
    (∃ (d : Dev) (pg : Nat) (e : Nat) (n : Nat) (k : PgKind), isPage pg = true ∧ pageKind pg = some (k, n) ∧ d.due ⟨.unitReset, pg, 0⟩ = some e) ∧
    (∃ (d : Dev) (pg : Nat) (n : Nat) (k : PgKind), isPage pg = true ∧ pageKind pg = some (k, n) ∧ d.get (PG_STATE_iso pg) = 1 ∧ d.unitDone pg = true ∧ ((d.setIso pg 2).pg pg).returnAsked = false) ∧
    (∃ (d : Dev) (pg : Nat) (n : Nat) (k : PgKind), isPage pg = true ∧ pageKind pg = some (k, n) ∧ d.get (PG_STATE_iso pg) = 3 ∧ (d.put (PG_STATE_iso pg) 0).reasonOf pg = 0) :=
  ⟨⟨wit.arm ⟨.unitReset, 0, 0⟩ 10, 0, 10, _, _, by decide +kernel, rfl, by decide +kernel⟩,
   ⟨wit.put (PG_STATE_iso 0) 1, 0, _, _, by decide +kernel, rfl, by decide +kernel, by decide +kernel, by decide +kernel⟩,
   ⟨witAll.put (PG_STATE_iso 0) 3, 0, _, _, by decide +kernel, rfl, by decide +kernel, by decide +kernel⟩⟩

/-- The hypotheses of `Obligations.UnitResetLeaves` hold together, clause by clause. -/
theorem test_witness_UnitResetLeaves :
    ∃ (d : Dev) (n : Nat), n < 24 ∧ d.running ⟨.optionWrite, 0, 0⟩ = false ∧ d.running ⟨.bankWrite, 0, 0⟩ = false ∧ (d.pg (pgCAN n)).decided = false :=
  ⟨wit, 0, by decide +kernel, by decide +kernel, by decide +kernel, by decide +kernel⟩

/-- The hypotheses of `Obligations.RegisterAccessesAct` hold together, clause by clause, in 2 parts. -/
theorem test_witness_RegisterAccessesAct_part1 :
    (∃ (d : Dev) (pg : Nat) (off : Nat) (r : RegRow), 0x800 ≤ off ∧ off < 0x1000 ∧ liveRow (pg * 0x1000 + off - 0x800) = some r ∧ d.locked pg = false ∧ d.flag (PG_STATE_armed pg) = false) ∧
    (∃ (d : Dev) (i : Initiator) (pg : Nat) (off : Nat), isPage pg = true ∧ isOffset off = true ∧ d.accepts i = true ∧ (∀ b, iniBrace i = some b → pg * 0x1000 + off ≠ BRC_WDG_KICK (brIx b) ∧ pg * 0x1000 + off ≠ BRC_ROLE (brIx b)) ∧ 0x900 ≤ off) ∧
    (∃ (d : Dev) (i : Initiator) (pg : Nat) (off : Nat) (r : RegRow), isPage pg = true ∧ isOffset off = true ∧ d.accepts i = true ∧ (∀ b, iniBrace i = some b → pg * 0x1000 + off ≠ BRC_WDG_KICK (brIx b) ∧ pg * 0x1000 + off ≠ BRC_ROLE (brIx b)) ∧ liveRow (pg * 0x1000 + off) = some r ∧ r.hasRWS = true ∧ off < 0x800) ∧
    (∃ (d : Dev) (i : Initiator) (addr : Nat), d.accepts i = true ∧ addr < 0x4000000 ∧ pageKind (addr / 0x1000) = none) ∧
    (∃ (d : Dev) (i : Initiator) (addr : Nat), d.accepts i = true ∧ addr < 0x4000000 ∧ regRow addr = none) ∧
    (∃ (d : Dev) (i : Initiator) (pg : Nat) (off : Nat), isPage pg = true ∧ isOffset off = true ∧ d.accepts i = true ∧ clearsOnRead (pg * 0x1000 + off) = true) :=
  ⟨⟨wit.put (PG_STATE_armed 0) 0, 0, 2048, _, by decide +kernel, by decide +kernel, rfl, by decide +kernel, by decide +kernel⟩,
   ⟨wit, .host, 0, 2304, by decide +kernel, by decide +kernel, by decide +kernel, by decide +kernel, by decide +kernel⟩,
   ⟨wit, .host, 0x100, 0x100, _, by decide +kernel, by decide +kernel, by decide +kernel, by decide +kernel, rfl, by decide +kernel, by decide +kernel⟩,
   ⟨wit, .host, 0x6000, by decide +kernel, by decide +kernel, by decide +kernel⟩,
   ⟨wit, .host, 0x100050, by decide +kernel, by decide +kernel, by decide +kernel⟩,
   ⟨wit, .host, pgSYS, 0x110, by decide +kernel, by decide +kernel, by decide +kernel, by decide +kernel⟩⟩

/-- The same, part 2. -/
theorem test_witness_RegisterAccessesAct_part2 :
    ∃ (d : Dev) (i : Initiator) (pg : Nat) (off : Nat), isPage pg = true ∧ isOffset off = true ∧ d.accepts i = true ∧ isCapture (pg * 0x1000 + off) = true :=
  ⟨wit, .host, 0, 0x114, by decide +kernel, by decide +kernel, by decide +kernel, by decide +kernel⟩

/-- The hypotheses of `Obligations.CommitCommandsAct` hold together, clause by clause, in 2 parts. -/
theorem test_witness_CommitCommandsAct_part1 :
    (∃ (d : Dev) (i : Initiator) (pg : Nat) (group : Nat), isPage pg = true ∧ group < 256 ∧ (pageKind pg).isSome = true ∧ d.accepts i = true ∧ d.locked pg = false ∧ (d.put (PG_COMMIT_group pg) group).refusal pg 1 ((d.put (PG_COMMIT_group pg) group).rd64 (PG_COMMIT_T_LO pg) (PG_COMMIT_T_HI pg)) = none) ∧
    (∃ (d : Dev) (i : Initiator) (pg : Nat) (group : Nat), isPage pg = true ∧ group < 256 ∧ (pageKind pg).isSome = true ∧ d.accepts i = true ∧ d.locked pg = false ∧ (d.put (PG_COMMIT_group pg) group).refusal pg 2 ((d.put (PG_COMMIT_group pg) group).rd64 (PG_COMMIT_T_LO pg) (PG_COMMIT_T_HI pg)) = none) ∧
    (∃ (d : Dev) (i : Initiator) (pg : Nat) (group : Nat), isPage pg = true ∧ group < 256 ∧ (pageKind pg).isSome = true ∧ d.accepts i = true ∧ d.locked pg = false ∧ (d.put (PG_COMMIT_group pg) group).refusal pg 3 ((d.put (PG_COMMIT_group pg) group).rd64 (PG_COMMIT_T_LO pg) (PG_COMMIT_T_HI pg)) = none) ∧
    (∃ (d : Dev) (i : Initiator) (pg : Nat) (group : Nat) (r : Nat), isPage pg = true ∧ group < 256 ∧ (pageKind pg).isSome = true ∧ d.accepts i = true ∧ d.locked pg = false ∧ (d.put (PG_COMMIT_group pg) group).refusal pg 1 ((d.put (PG_COMMIT_group pg) group).rd64 (PG_COMMIT_T_LO pg) (PG_COMMIT_T_HI pg)) = some r) ∧
    (∃ (d : Dev) (i : Initiator) (pg : Nat) (group : Nat) (r : Nat), isPage pg = true ∧ group < 256 ∧ (pageKind pg).isSome = true ∧ d.accepts i = true ∧ d.locked pg = false ∧ (d.put (PG_COMMIT_group pg) group).refusal pg 2 ((d.put (PG_COMMIT_group pg) group).rd64 (PG_COMMIT_T_LO pg) (PG_COMMIT_T_HI pg)) = some r) ∧
    (∃ (d : Dev) (i : Initiator) (pg : Nat) (group : Nat) (r : Nat), isPage pg = true ∧ group < 256 ∧ (pageKind pg).isSome = true ∧ d.accepts i = true ∧ d.locked pg = false ∧ (d.put (PG_COMMIT_group pg) group).refusal pg 3 ((d.put (PG_COMMIT_group pg) group).rd64 (PG_COMMIT_T_LO pg) (PG_COMMIT_T_HI pg)) = some r) :=
  ⟨⟨wit.put (PG_STATE_in_reset (pgETH 0)) 0, .host, (pgETH 0), 0, by decide +kernel, by decide +kernel, by decide +kernel, by decide +kernel, by decide +kernel, by decide +kernel⟩,
   ⟨(wit.put (PG_STATE_in_reset (pgETH 0)) 0).wr (PG_COMMIT_T_LO (pgETH 0)) 1000000, .host, (pgETH 0), 0, by decide +kernel, by decide +kernel, by decide +kernel, by decide +kernel, by decide +kernel, by decide +kernel⟩,
   ⟨(wit.put (PG_STATE_in_reset (pgETH 0)) 0).wr (PG_COMMIT_T_LO (pgETH 0)) 1000000, .host, (pgETH 0), 0, by decide +kernel, by decide +kernel, by decide +kernel, by decide +kernel, by decide +kernel, by decide +kernel⟩,
   ⟨wit, .host, 0, 0, _, by decide +kernel, by decide +kernel, by decide +kernel, by decide +kernel, by decide +kernel, rfl⟩,
   ⟨wit, .host, 0, 0, _, by decide +kernel, by decide +kernel, by decide +kernel, by decide +kernel, by decide +kernel, rfl⟩,
   ⟨wit, .host, 0, 0, _, by decide +kernel, by decide +kernel, by decide +kernel, by decide +kernel, by decide +kernel, rfl⟩⟩

/-- The same, part 2. -/
theorem test_witness_CommitCommandsAct_part2 :
    (∃ (d : Dev) (i : Initiator) (pg : Nat) (group : Nat), isPage pg = true ∧ group < 256 ∧ (pageKind pg).isSome = true ∧ d.accepts i = true ∧ d.locked pg = false ∧ d.pw.halted = false ∧ (d.pg pg).group = 0 ∧ (d.put (PG_COMMIT_group pg) group).abortLate pg = false) ∧
    (∃ (d : Dev) (i : Initiator) (pg : Nat) (group : Nat), isPage pg = true ∧ group < 256 ∧ (pageKind pg).isSome = true ∧ d.accepts i = true ∧ d.locked pg = false ∧ d.pw.halted = false ∧ (d.put (PG_COMMIT_group pg) group).flag (PG_CAP_shadow pg) = true ∧ (d.pg pg).phase = .none) ∧
    (∃ (d : Dev) (i : Initiator) (pg : Nat) (group : Nat) (cmd : Nat), isPage pg = true ∧ group < 256 ∧ (pageKind pg).isSome = true ∧ d.accepts i = true ∧ d.locked pg = false ∧ (cmd = 0 ∨ cmd = 6 ∨ cmd = 7) ∧ d.pw.halted = false) ∧
    (∃ (d : Dev) (pg : Nat) (group : Nat) (e : Nat), isPage pg = true ∧ group < 256 ∧ (pageKind pg).isSome = true ∧ d.due ⟨.commitCheck, pg, 0⟩ = some e ∧ (d.pg pg).group = 0 ∧ (d.pg pg).cmd = 1 ∧ (d.cancel ⟨.commitCheck, pg, 0⟩).checkPage pg = none) ∧
    (∃ (d : Dev) (pg : Nat) (group : Nat) (e : Nat) (c : Chk), isPage pg = true ∧ group < 256 ∧ (pageKind pg).isSome = true ∧ d.due ⟨.commitCheck, pg, 0⟩ = some e ∧ (d.cancel ⟨.commitCheck, pg, 0⟩).checkPage pg = some c) ∧
    (∃ (d : Dev) (pg : Nat) (group : Nat), isPage pg = true ∧ group < 256 ∧ (pageKind pg).isSome = true ∧ (d.pg pg).phase = .armed ∧ d.turn (d.commitTurn (d.pg pg).launch) = true) :=
  ⟨⟨((wit.put (PG_STATE_in_reset (pgETH 0)) 0).modPg (pgETH 0) (fun s => { s with phase := .checking, cmd := 1 })).arm ⟨.commitCheck, pgETH 0, 0⟩ 10, .host, (pgETH 0), 0, by decide +kernel, by decide +kernel, by decide +kernel, by decide +kernel, by decide +kernel, by decide +kernel, by decide +kernel, by decide +kernel⟩,
   ⟨wit.put (PG_STATE_in_reset (pgETH 0)) 0, .host, (pgETH 0), 0, by decide +kernel, by decide +kernel, by decide +kernel, by decide +kernel, by decide +kernel, by decide +kernel, by decide +kernel, by decide +kernel⟩,
   ⟨wit, .host, 0, 0, 0, by decide +kernel, by decide +kernel, by decide +kernel, by decide +kernel, by decide +kernel, by decide +kernel, by decide +kernel⟩,
   ⟨(((wit.arm ⟨.commitCheck, (pgETH 0), 0⟩ 10).put (PG_STATE_in_reset (pgETH 0)) 0).modPg (pgETH 0) (fun s => { s with phase := .checking, cmd := 1 })).arm ⟨.commitCheck, pgETH 0, 0⟩ 10, (pgETH 0), 0, 10, by decide +kernel, by decide +kernel, by decide +kernel, by decide +kernel, by decide +kernel, by decide +kernel, by decide +kernel⟩,
   ⟨((wit.put (FRef.shadow (ETH_CFG_max_len 0)) 63).modPg (pgETH 0) (fun s => { s with phase := .checking, cmd := 1 })).arm ⟨.commitCheck, pgETH 0, 0⟩ 10, (pgETH 0), 0, 10, _, by decide +kernel, by decide +kernel, by decide +kernel, by decide +kernel, rfl⟩,
   ⟨((wit.put (PG_STATE_in_reset (pgETH 0)) 0).modPg (pgETH 0) (fun s => { s with phase := .armed, cmd := 1 })).arm ⟨.commitCheck, pgETH 0, 0⟩ 10, (pgETH 0), 0, by decide +kernel, by decide +kernel, by decide +kernel, by decide +kernel, by decide +kernel⟩⟩

/-- The hypotheses of `Obligations.CommitCheckAndRefusalLeave` hold together, clause by clause. -/
theorem test_witness_CommitCheckAndRefusalLeave :
    (∃ (pg : Nat) (q : _), q ≠ pg) ∧
    (∃ (r : Nat), r < 32 ∧ r ≠ rsBusy) ∧
    (∃ (r : Nat), r < 32 ∧ r = rsBusy) :=
  ⟨⟨0, 1, by decide +kernel⟩,
   ⟨0, by decide +kernel, by decide +kernel⟩,
   ⟨_, by decide +kernel, rfl⟩⟩

/-- The hypotheses of `Obligations.GroupCommitsAct` hold together, clause by clause, in 2 parts. -/
theorem test_witness_GroupCommitsAct_part1 :
    (∃ (d : Dev) (i : Initiator) (g : Nat), 1 ≤ g ∧ g < 256 ∧ d.accepts i = true ∧ d.members g = []) ∧
    (∃ (d : Dev) (i : Initiator) (g : Nat), 1 ≤ g ∧ g < 256 ∧ d.accepts i = true ∧ d.members g ≠ [] ∧ d.groupBusy g = false ∧ (∀ p ∈ d.members g, d.memberRefusal p 1 (d.rd64 SYS_GRP_T_LO SYS_GRP_T_HI) = none)) ∧
    (∃ (d : Dev) (i : Initiator) (g : Nat), 1 ≤ g ∧ g < 256 ∧ d.accepts i = true ∧ d.members g ≠ [] ∧ d.groupBusy g = false ∧ (∀ p ∈ d.members g, d.memberRefusal p 2 (d.rd64 SYS_GRP_T_LO SYS_GRP_T_HI) = none)) ∧
    (∃ (d : Dev) (i : Initiator) (g : Nat), 1 ≤ g ∧ g < 256 ∧ d.accepts i = true ∧ d.members g ≠ [] ∧ d.groupBusy g = false ∧ (∀ p ∈ d.members g, d.memberRefusal p 3 (d.rd64 SYS_GRP_T_LO SYS_GRP_T_HI) = none)) ∧
    (∃ (d : Dev) (i : Initiator) (g : Nat), 1 ≤ g ∧ g < 256 ∧ d.accepts i = true ∧ d.members g ≠ [] ∧ d.pw.halted = false ∧ d.committing.filter (fun p => (d.pg p).group == g) = []) ∧
    (∃ (d : Dev) (i : Initiator) (g : Nat) (p : _) (rest : _), 1 ≤ g ∧ g < 256 ∧ d.accepts i = true ∧ d.committing.filter (fun p => (d.pg p).group == g) = p :: rest ∧ d.members g ≠ [] ∧ d.pw.halted = false ∧ d.abortLate p = false ∧ (d.pg p).phase ≠ .prepared) :=
  ⟨⟨wit, .host, 1, by decide +kernel, by decide +kernel, by decide +kernel, by decide +kernel⟩,
   ⟨(wit.put (PG_COMMIT_group (pgETH 0)) 1).put (PG_STATE_in_reset (pgETH 0)) 0, .host, 1, by decide +kernel, by decide +kernel, by decide +kernel, by decide +kernel, by decide +kernel, by decide +kernel⟩,
   ⟨((wit.put (PG_COMMIT_group (pgETH 0)) 1).put (PG_STATE_in_reset (pgETH 0)) 0).wr SYS_GRP_T_LO 1000000, .host, 1, by decide +kernel, by decide +kernel, by decide +kernel, by decide +kernel, by decide +kernel, by decide +kernel⟩,
   ⟨((wit.put (PG_COMMIT_group (pgETH 0)) 1).put (PG_STATE_in_reset (pgETH 0)) 0).wr SYS_GRP_T_LO 1000000, .host, 1, by decide +kernel, by decide +kernel, by decide +kernel, by decide +kernel, by decide +kernel, by decide +kernel⟩,
   ⟨(wit.put (PG_COMMIT_group (pgETH 0)) 1).put (PG_STATE_in_reset (pgETH 0)) 0, .host, 1, by decide +kernel, by decide +kernel, by decide +kernel, by decide +kernel, by decide +kernel, by decide +kernel⟩,
   ⟨((wit.put (PG_COMMIT_group (pgETH 0)) 1).put (PG_STATE_in_reset (pgETH 0)) 0).modPg (pgETH 0) (fun s => { s with phase := .checking, group := 1 }), .host, 1, (pgETH 0), [], by decide +kernel, by decide +kernel, by decide +kernel, by decide +kernel, by decide +kernel, by decide +kernel, by decide +kernel, by decide +kernel⟩⟩

/-- The same, part 2. -/
theorem test_witness_GroupCommitsAct_part2 :
    ∃ (d : Dev) (i : Initiator) (g : Nat), 1 ≤ g ∧ g < 256 ∧ d.accepts i = true ∧ d.members g ≠ [] ∧ d.pw.halted = false ∧ (∀ p ∈ d.members g, d.flag (PG_CAP_shadow p) = true ∧ d.locked p = false ∧ (d.pg p).phase = .none) :=
  ⟨(wit.put (PG_COMMIT_group (pgETH 0)) 1).put (PG_STATE_in_reset (pgETH 0)) 0, .host, 1, by decide +kernel, by decide +kernel, by decide +kernel, by decide +kernel, by decide +kernel, by decide +kernel⟩

/-- The hypotheses of `Obligations.FencesAct` hold together, clause by clause. -/
theorem test_witness_FencesAct :
    (∃ (d : Dev) (i : Initiator) (pg : Nat) (q : Nat) (v : Word), isPage pg = true ∧ q < 16 ∧ (pageKind pg).isSome = true ∧ d.accepts i = true ∧ d.fenceTaken pg (bitsOf v 18 16) (bitsOf v 23 20) = false) ∧
    (∃ (d : Dev) (pg : Nat) (q : Nat) (f : Fence) (rest : List Fence), isPage pg = true ∧ q < 16 ∧ (pageKind pg).isSome = true ∧ (d.pg pg).fences = f :: rest ∧ d.fenceHolds pg f = true) ∧
    (∃ (d : Dev) (pg : Nat) (q : Nat) (e : Nat) (tok : Nat), isPage pg = true ∧ q < 16 ∧ (pageKind pg).isSome = true ∧ d.firstTimeout pg = some tok ∧ d.due ⟨.fence, pg, tok⟩ = some e) :=
  ⟨⟨wit, .host, 0, 0, 0, by decide +kernel, by decide +kernel, by decide +kernel, by decide +kernel, by decide +kernel⟩,
   ⟨wit.modPg 8 (fun s => { s with fences := [⟨0, 1, 0, .host, 0, [], [], false⟩] }), 8, 0, _, _, by decide +kernel, by decide +kernel, by decide +kernel, rfl, by decide +kernel⟩,
   ⟨((wit.arm ⟨.fence, 8, 0⟩ 10).modPg 8 (fun s => { s with fences := [⟨0, 1, 0, .host, 0, [], [], false⟩] })).arm ⟨.fence, 8, 0⟩ 10, 8, 0, 10, 0, by decide +kernel, by decide +kernel, by decide +kernel, by decide +kernel, by decide +kernel⟩⟩

/-- The hypotheses of `Obligations.FenceIssueQueuesToken` hold together, clause by clause. -/
theorem test_witness_FenceIssueQueuesToken :
    ∃ (d : Dev) (pg : Nat) (kind : Nat) (q : Nat), d.fenceTaken pg kind q = true ∧ kind ≠ 3 ∧ d.pw.halted = false :=
  ⟨wit, 8, 1, 0, by decide +kernel, by decide +kernel, by decide +kernel⟩

/-- The hypotheses of `Obligations.InterruptsAndLockAct` hold together, clause by clause. -/
theorem test_witness_InterruptsAndLockAct :
    (∃ (d : Dev) (i : Initiator) (pg : Nat) (v : Word), isPage pg = true ∧ (pageKind pg).isSome = true ∧ d.accepts i = true ∧ (d.pg pg).lockKey = 0 ∧ v ≠ 0) ∧
    (∃ (d : Dev) (i : Initiator) (pg : Nat) (v : Word), isPage pg = true ∧ (pageKind pg).isSome = true ∧ d.accepts i = true ∧ (d.pg pg).lockKey = v ∧ v ≠ 0 ∧ (d.pg pg).wrongKeys < 16) ∧
    (∃ (d : Dev) (i : Initiator) (pg : Nat) (v : Word), isPage pg = true ∧ (pageKind pg).isSome = true ∧ d.accepts i = true ∧ (d.pg pg).lockKey ≠ 0 ∧ (v ≠ (d.pg pg).lockKey ∨ 16 ≤ (d.pg pg).wrongKeys)) :=
  ⟨⟨wit, .host, 0, 1, by decide +kernel, by decide +kernel, by decide +kernel, by decide +kernel, by decide +kernel⟩,
   ⟨wit.modPg 0 (fun s => { s with lockKey := 1 }), .host, 0, 1, by decide +kernel, by decide +kernel, by decide +kernel, by decide +kernel, by decide +kernel, by decide +kernel⟩,
   ⟨wit.modPg 0 (fun s => { s with lockKey := 1 }), .host, 0, 0, by decide +kernel, by decide +kernel, by decide +kernel, by decide +kernel, by decide +kernel⟩⟩

/-- The hypotheses of `Obligations.InterruptStatusWritten` hold together, clause by clause. -/
theorem test_witness_InterruptStatusWritten :
    ∃ (d : Dev) (pg : Nat) (stat : Word) (en : Word), (stat &&& en) &&& ~~~(d.rd (PG_IRQ_STAT pg) &&& d.rd (PG_IRQ_EN pg)) = 0 :=
  ⟨wit, 0, 0, 0, by decide +kernel⟩

/-- The hypotheses of `Obligations.ReceptionActs` hold together, clause by clause, in 2 parts. -/
theorem test_witness_ReceptionActs_part1 :
    (∃ (d : Dev) (p : Nat) (eighth : Nat) (data : List Byte), eighth < 8 ∧ 1 ≤ data.length ∧ data.length ≤ 64 ∧ p < 57 ∧ d.rxOf p = none ∧ d.macUp p = true ∧ d.works (pgETH p) = true ∧ d.sleepSeg p = none) ∧
    (∃ (d : Dev) (z : Dev) (p : Nat) (eighth : Nat) (r : Rx) (n : Rx) (data : List Byte), eighth < 8 ∧ 1 ≤ data.length ∧ data.length ≤ 64 ∧ p < 57 ∧ d.rxOf p = some r ∧ n = { r with bytes := min (r.bytes + data.length) (r.maxLen + 1), head := (r.head ++ data).take 64 } ∧ z = d.setRx p (some n) ∧ r.bytes < z.rxNeed p ∧ n.bytes < z.rxNeed p) ∧
    (∃ (d : Dev) (z : Dev) (p : Nat) (eighth : Nat) (r : Rx) (n : Rx) (data : List Byte), eighth < 8 ∧ 1 ≤ data.length ∧ data.length ≤ 64 ∧ p < 57 ∧ d.rxOf p = some r ∧ n = { r with bytes := min (r.bytes + data.length) (r.maxLen + 1), head := (r.head ++ data).take 64 } ∧ z = d.setRx p (some n) ∧ d.vox p = false ∧ r.bytes < z.rxNeed p ∧ z.rxNeed p ≤ n.bytes ∧ z.entersVault p n = true ∧ r.rst = false ∧ z.flag (PG_STATE_in_reset pgFWD) = false) ∧
    (∃ (d : Dev) (z : Dev) (p : Nat) (eighth : Nat) (fid : Nat) (r : Rx) (n : Rx) (data : List Byte), eighth < 8 ∧ 1 ≤ data.length ∧ data.length ≤ 64 ∧ p < 57 ∧ d.rxOf p = some r ∧ n = { r with bytes := min (r.bytes + data.length) (r.maxLen + 1), head := (r.head ++ data).take 64 } ∧ z = d.setRx p (some n) ∧ z.rxNeed p ≤ r.bytes ∧ r.fid = some fid) ∧
    (∃ (d : Dev) (w : Dev) (x : Dev) (y : Dev) (z : Dev) (p : Nat) (eighth : Nat) (fid : Nat) (k : Nat) (r : Rx) (data : List Byte) (good : Bool) (pcs : Bool) (fr : Nat) (ae : Nat) (se : Nat), eighth < 8 ∧ 1 ≤ data.length ∧ data.length ≤ 64 ∧ p < 57 ∧ d.rxOf p = some r ∧ r.fid = some fid ∧ r.excess = false ∧ be r.head 12 2 ≠ 0x8808 ∧ z = d.ldgMerge p fr ae se ∧ z.rxOf p = some r ∧ y = (z.setRx p none).touch p ∧ k = rxKind r.maxLen r.bytes good pcs ∧ x = (if pcs = true then (y.ldg p 22 1).count (PHY_PCS_ERR p) else y) ∧ w = x.ldgReceived p k r ∧ w.vox p = false ∧ k = 0) ∧
    (∃ (d : Dev) (w : Dev) (x : Dev) (y : Dev) (z : Dev) (p : Nat) (eighth : Nat) (fid : Nat) (k : Nat) (r : Rx) (data : List Byte) (good : Bool) (pcs : Bool) (fr : Nat) (ae : Nat) (se : Nat), eighth < 8 ∧ 1 ≤ data.length ∧ data.length ≤ 64 ∧ p < 57 ∧ d.rxOf p = some r ∧ r.fid = some fid ∧ r.excess = false ∧ be r.head 12 2 ≠ 0x8808 ∧ z = d.ldgMerge p fr ae se ∧ z.rxOf p = some r ∧ y = (z.setRx p none).touch p ∧ k = rxKind r.maxLen r.bytes good pcs ∧ x = (if pcs = true then (y.ldg p 22 1).count (PHY_PCS_ERR p) else y) ∧ w = x.ldgReceived p k r ∧ w.vox p = false ∧ k ≠ 0) :=
  ⟨⟨wit.put (ETH_STAT_link 0) 1, 0, 0, [0], by decide +kernel, by decide +kernel, by decide +kernel, by decide +kernel, by decide +kernel, by decide +kernel, by decide +kernel, by decide +kernel⟩,
   ⟨({ wit with eth := { wit.eth with rx := [(0, some { bytes := 1 })] } } : Dev), _, 0, 0, _, _, [0], by decide +kernel, by decide +kernel, by decide +kernel, by decide +kernel, rfl, rfl, rfl, by decide +kernel, by decide +kernel⟩,
   ⟨({ wit with eth := { wit.eth with rx := [(0, some { bytes := 1 })] } } : Dev).put (PG_STATE_in_reset pgFWD) 0, _, 0, 0, _, _, (List.replicate 64 0), by decide +kernel, by decide +kernel, by decide +kernel, by decide +kernel, rfl, rfl, rfl, by decide +kernel, by decide +kernel, by decide +kernel, by decide +kernel, by decide +kernel, by decide +kernel⟩,
   ⟨({ wit with eth := { wit.eth with rx := [(0, some { fid := some 1, bytes := 9000 })] } } : Dev), _, 0, 0, _, _, _, [0], by decide +kernel, by decide +kernel, by decide +kernel, by decide +kernel, rfl, rfl, rfl, by decide +kernel, rfl⟩,
   ⟨({ wit with eth := { wit.eth with rx := [(0, some { fid := some 1, bytes := 64 })] } } : Dev), _, _, _, _, 0, 0, _, 0, _, [0], true, false, 0, 0, 0, by decide +kernel, by decide +kernel, by decide +kernel, by decide +kernel, rfl, rfl, by decide +kernel, by decide +kernel, rfl, rfl, rfl, by decide +kernel, rfl, rfl, by decide +kernel, by decide +kernel⟩,
   ⟨({ wit with eth := { wit.eth with rx := [(0, some { fid := some 1, bytes := 64 })] } } : Dev), _, _, _, _, 0, 0, _, _, _, [0], false, false, 0, 0, 0, by decide +kernel, by decide +kernel, by decide +kernel, by decide +kernel, rfl, rfl, by decide +kernel, by decide +kernel, rfl, rfl, rfl, rfl, rfl, rfl, by decide +kernel, by decide +kernel⟩⟩

/-- The same, part 2. -/
theorem test_witness_ReceptionActs_part2 :
    (∃ (d : Dev) (p : Nat) (eighth : Nat) (fid : Nat) (r : Rx) (data : List Byte), eighth < 8 ∧ 1 ≤ data.length ∧ data.length ≤ 64 ∧ isPort p = true ∧ d.rxOf p = some r ∧ r.fid = some fid) ∧
    (∃ (d : Dev) (p : Nat) (eighth : Nat) (data : List Byte) (v : VhFrame) (l : List VhFrame), eighth < 8 ∧ 1 ≤ data.length ∧ data.length ≤ 64 ∧ 58 ≤ p ∧ p ≤ 61 ∧ d.inq (p - 58) = v :: l ∧ d.rxOf p = none) ∧
    (∃ (d : Dev) (p : Nat) (eighth : Nat) (fid : Nat) (r : Rx) (data : List Byte) (v : VhFrame) (l : List VhFrame), eighth < 8 ∧ 1 ≤ data.length ∧ data.length ≤ 64 ∧ 58 ≤ p ∧ p ≤ 61 ∧ d.inq (p - 58) = v :: l ∧ d.rxOf p = some r ∧ r.fid = some fid ∧ r.bytes ≠ 0 ∧ ((v.data.drop r.bytes).take 256).isEmpty = false) ∧
    (∃ (d : Dev) (z : Dev) (p : Nat) (eighth : Nat) (fid : Nat) (r : Rx) (data : List Byte) (v : VhFrame) (l : List VhFrame), eighth < 8 ∧ 1 ≤ data.length ∧ data.length ≤ 64 ∧ 58 ≤ p ∧ p ≤ 61 ∧ d.inq (p - 58) = v :: l ∧ d.rxOf p = some r ∧ r.fid = some fid ∧ v.data.length ≤ r.bytes ∧ v.excess = false ∧ z = ((d.setRx p none).setInq (p - 58) l).fillChanged (p - 58)) :=
  ⟨⟨({ wit with eth := { wit.eth with rx := [(0, some { fid := some 1, bytes := 1 })] } } : Dev), 0, 0, _, _, [0], by decide +kernel, by decide +kernel, by decide +kernel, by decide +kernel, rfl, rfl⟩,
   ⟨({ wit with voh := { wit.voh with inq := [(0, [⟨0, (List.replicate 64 0), 0, 0, false⟩])] } } : Dev), 58, 0, [0], _, _, by decide +kernel, by decide +kernel, by decide +kernel, by decide +kernel, by decide +kernel, rfl, by decide +kernel⟩,
   ⟨({ wit with voh := { wit.voh with inq := [(0, [⟨0, [0, 0, 0], 0, 0, false⟩])] }, eth := { wit.eth with rx := [(58, some { fid := some 1, bytes := 1 })] } } : Dev), 58, 0, _, _, [0], _, _, by decide +kernel, by decide +kernel, by decide +kernel, by decide +kernel, by decide +kernel, rfl, rfl, rfl, by decide +kernel, by decide +kernel⟩,
   ⟨({ wit with voh := { wit.voh with inq := [(0, [⟨0, [0], 0, 0, false⟩])] }, eth := { wit.eth with rx := [(58, some { fid := some 1, bytes := 64 })] } } : Dev), _, 58, 0, _, _, [0], _, _, by decide +kernel, by decide +kernel, by decide +kernel, by decide +kernel, by decide +kernel, rfl, rfl, rfl, by decide +kernel, by decide +kernel, rfl⟩⟩

/-- The hypotheses of `Obligations.DecisionStepsAct` hold together, clause by clause, in 2 parts. -/
theorem test_witness_DecisionStepsAct_part1 :
    (∃ (d : Dev) (y : Dev) (p : Nat) (f : Frame) (t : Option TblAt), isPort p = true ∧ d.oldest (fun f => d.flag (PG_CTRL_enable pgFWD) && f.inPort == p && f.tH.isSome && f.tL.isNone) = some f ∧ t.all TblAt.wf = true ∧ y = t.elim (d.at_ (f.tH.getD 0 + fabT 72)) (fun e => (d.at_ (f.tH.getD 0 + fabT 72)).tableUe 8 e.table e.index) ∧ (f.reset = true ∨ y.flag (PG_STATE_in_reset pgFWD) = true)) ∧
    (∃ (d : Dev) (u : Dev) (w : Dev) (y : Dev) (z : Dev) (p : Nat) (vid : Nat) (f : Frame) (s : Snap) (t : Option TblAt) (pipe : Bool), isPort p = true ∧ d.oldest (fun f => d.flag (PG_CTRL_enable pgFWD) && f.inPort == p && f.tH.isSome && f.tL.isNone) = some f ∧ t.all TblAt.wf = true ∧ y = t.elim (d.at_ (f.tH.getD 0 + fabT 72)) (fun e => (d.at_ (f.tH.getD 0 + fabT 72)).tableUe 8 e.table e.index) ∧ f.reset = false ∧ y.flag (PG_STATE_in_reset pgFWD) = false ∧ z = y.setRegs f.old ∧ z.lookup f = (s, u) ∧ vid = (if f.ethFramed then z.vidOf f f.hdr else 0) ∧ w = ((u.setRegs (f.old.map (fun e => (e.1, y.rd e.1)))).countLookup pipe).trace p s ∧ s.reason ≠ 0) ∧
    (∃ (d : Dev) (u : Dev) (w : Dev) (y : Dev) (z : Dev) (p : Nat) (vid : Nat) (f : Frame) (g : Frame) (h : Frame) (s : Snap) (t : Option TblAt) (pipe : Bool), isPort p = true ∧ d.oldest (fun f => d.flag (PG_CTRL_enable pgFWD) && f.inPort == p && f.tH.isSome && f.tL.isNone) = some f ∧ t.all TblAt.wf = true ∧ y = t.elim (d.at_ (f.tH.getD 0 + fabT 72)) (fun e => (d.at_ (f.tH.getD 0 + fabT 72)).tableUe 8 e.table e.index) ∧ f.reset = false ∧ y.flag (PG_STATE_in_reset pgFWD) = false ∧ z = y.setRegs f.old ∧ z.lookup f = (s, u) ∧ vid = (if f.ethFramed then z.vidOf f f.hdr else 0) ∧ w = ((u.setRegs (f.old.map (fun e => (e.1, y.rd e.1)))).countLookup pipe).trace p s ∧ s.reason = 0 ∧ w.frame f.id = some h ∧ g = { h with cls := s.cls, stream := s.stream, ctx := s.ctx, route := s.route, frer := s.frer, outs := s.outs, epoch := w.epoch, vid := vid, pcp := f.hdr.pcp, old := [], unt := if h.ethFramed then w.listPorts (nb (w.ent 3 vid) 39 28) else [], tagged := f.hdr.vlanTagged, seq := Option.map Prod.fst f.hdr.rtag, tL := some w.now }) ∧
    (∃ (d : Dev) (y : Dev) (z : Dev) (p : Nat) (ue : Nat) (f : Frame), isPort p = true ∧ d.oldest (fun f => d.works (pgTRM 1) && f.inPort == p && f.tL.isSome && f.tP.isNone && (f.ct || f.tE.isSome)) = some f ∧ ue < 4 ∧ y = d.at_ (if f.ct = true then f.tL.getD 0 + fabT 6 else max (f.tL.getD 0) (f.tE.getD 0 + fabT 6)) ∧ y.police f f.seq ue = (none, z)) ∧
    (∃ (d : Dev) (y : Dev) (z : Dev) (p : Nat) (ue : Nat) (f : Frame) (col : Nat) (cls : Nat), isPort p = true ∧ d.oldest (fun f => d.works (pgTRM 1) && f.inPort == p && f.tL.isSome && f.tP.isNone && (f.ct || f.tE.isSome)) = some f ∧ ue < 4 ∧ y = d.at_ (if f.ct = true then f.tL.getD 0 + fabT 6 else max (f.tL.getD 0) (f.tE.getD 0 + fabT 6)) ∧ y.police f f.seq ue = (some (col, cls), z)) ∧
    (∃ (d : Dev) (y : Dev) (z : Dev) (p : Nat) (f : Frame), isPort p = true ∧ d.oldest (fun f => d.works pgAUT && f.inPort == p && f.tP.isSome && f.needCv && f.tC.isNone && f.tE.isSome) = some f ∧ y = d.at_ f.checkTime ∧ y.verify f = (.drop, z)) :=
  ⟨⟨({ wit with vlt := { wit.vlt with frames := [{ id := 1, inPort := 0, tH := some 0, reset := true }] } } : Dev), _, 0, _, none, by decide +kernel, rfl, by decide +kernel, rfl, by decide +kernel⟩,
   ⟨({ wit with vlt := { wit.vlt with frames := [{ id := 1, inPort := 0, tH := some 0 }] } } : Dev).put (PG_STATE_in_reset pgFWD) 0, _, _, _, _, 0, _, _, _, none, true, by decide +kernel, rfl, by decide +kernel, rfl, by decide +kernel, by decide +kernel, rfl, rfl, rfl, rfl, by decide +kernel⟩,
   ⟨({ wit with vlt := { wit.vlt with frames := [{ id := 1, inPort := 0, tH := some 0, direct := some (1, 0, 0) }] } } : Dev).put (PG_STATE_in_reset pgFWD) 0, _, _, _, _, 0, _, _, _, _, _, none, true, by decide +kernel, rfl, by decide +kernel, rfl, by decide +kernel, by decide +kernel, rfl, rfl, rfl, rfl, by decide +kernel, rfl, rfl⟩,
   ⟨({ wit with vlt := { wit.vlt with frames := [{ id := 1, inPort := 0, tL := some 0, tE := some 0, stream := some 0 }] }, trm := { wit.trm with streams := [(0, 2 ^ 134)] } } : Dev), _, _, 0, 0, _, by decide +kernel, rfl, by decide +kernel, rfl, rfl⟩,
   ⟨({ wit with vlt := { wit.vlt with frames := [{ id := 1, inPort := 0, tL := some 0, tE := some 0 }] } } : Dev), _, _, 0, 0, _, _, _, by decide +kernel, rfl, by decide +kernel, rfl, rfl⟩,
   ⟨({ wit with vlt := { wit.vlt with frames := [{ id := 1, inPort := 0, tL := some 0, tE := some 0, tP := some 0, needCv := true, cv0 := some {}, ctx := some 0 }] } } : Dev), _, _, 0, _, by decide +kernel, rfl, rfl, rfl⟩⟩

/-- The same, part 2. -/
theorem test_witness_DecisionStepsAct_part2 :
    (∃ (d : Dev) (y : Dev) (z : Dev) (p : Nat) (st : Nat) (f : Frame) (c : Option Nat), isPort p = true ∧ d.oldest (fun f => d.works pgAUT && f.inPort == p && f.tP.isSome && f.needCv && f.tC.isNone && f.tE.isSome) = some f ∧ y = d.at_ f.checkTime ∧ y.verify f = (.pass st c, z)) ∧
    (∃ (d : Dev) (x : Dev) (y : Dev) (z : Dev) (p : Nat) (k : Nat) (f : Frame) (g : Frame) (part : CvPart), isPort p = true ∧ d.oldest (fun f => d.works pgAUT && f.inPort == p && f.tP.isSome && f.needCv && f.tC.isNone && f.tE.isSome) = some f ∧ y = d.at_ f.checkTime ∧ f.checkCtx = some k ∧ g = { f with cv0 := f.cv0.map (fun v : CvStart => v.lose part) } ∧ x = y.contextUe k part ∧ x.verify g = (.drop, z)) ∧
    (∃ (d : Dev) (x : Dev) (y : Dev) (z : Dev) (p : Nat) (k : Nat) (st : Nat) (f : Frame) (g : Frame) (c : Option Nat) (part : CvPart), isPort p = true ∧ d.oldest (fun f => d.works pgAUT && f.inPort == p && f.tP.isSome && f.needCv && f.tC.isNone && f.tE.isSome) = some f ∧ y = d.at_ f.checkTime ∧ f.checkCtx = some k ∧ g = { f with cv0 := f.cv0.map (fun v : CvStart => v.lose part) } ∧ x = y.contextUe k part ∧ x.verify g = (.pass st c, z)) :=
  ⟨⟨({ wit with vlt := { wit.vlt with frames := [{ id := 1, inPort := 0, tL := some 0, tE := some 0, tP := some 0, needCv := true }] } } : Dev), _, _, 0, _, _, _, by decide +kernel, rfl, rfl, rfl⟩,
   ⟨({ wit with vlt := { wit.vlt with frames := [{ id := 1, inPort := 0, tL := some 0, tE := some 0, tP := some 0, needCv := true, ctx := some 0 }] } } : Dev).put ECC_CAP_valid 1, _, _, _, 0, _, _, _, 0, by decide +kernel, rfl, rfl, rfl, rfl, rfl, rfl⟩,
   ⟨({ wit with vlt := { wit.vlt with frames := [{ id := 1, inPort := 0, tL := some 0, tE := some 0, tP := some 0, needCv := true, cv0 := some { ctx := some 0 } }] } } : Dev), _, _, _, 0, _, _, _, _, _, 0, by decide +kernel, rfl, rfl, rfl, rfl, rfl, rfl⟩⟩

/-- The hypotheses of `Obligations.VaultEntriesAct` hold together, clause by clause, in 2 parts. -/
theorem test_witness_VaultEntriesAct_part1 :
    (∃ (d : Dev) (w : Dev) (y : Dev) (z : Dev) (p : Nat) (q : Nat) (m : Option Nat) (f : Frame) (g : Frame), isPort p = true ∧ isVoq q = true ∧ d.oldest (fun f => d.works pgQUE && f.inPort == p && !f.queued && f.tP.isSome && (!f.needCv || f.tC.isSome) && (f.tE.isSome || (f.ct && f.outs.all (fun o => (d.voq (voqIx p o f.cls)).isEmpty)))) = some f ∧ m.all isVoq = true ∧ y = m.elim (d.at_ (max (max (f.tL.getD 0) (f.tP.getD 0)) (f.tC.getD 0) + fabT 3)) (fun v => (d.at_ (max (max (f.tL.getD 0) (f.tP.getD 0)) (f.tC.getD 0) + fabT 3)).voqReset v) ∧ g = { f with ct := f.ct && f.tE.isNone, tQ := y.now } ∧ z = (if f.slipPaid = true then y.uncharge true f.domain else y) ∧ w = ((z.each f.outs (fun o t => t.creditPort o)).saveFrame { g with slipPaid := false }).enqueue f.id f.outs) ∧
    (∃ (d : Dev) (p : Nat) (q : Nat) (r : BusRecord) (ns : Nat) (fr : Nat) (rest : List (BusRecord × Nat × Nat)), isPort p = true ∧ isVoq q = true ∧ isBusPort p = true ∧ NMap.get [] d.bus.handoff p = (r, ns, fr) :: rest) ∧
    (∃ (d : Dev) (y : Dev) (z : Dev) (p : Nat) (q : Nat) (s : Nat), isPort p = true ∧ isVoq q = true ∧ pressured p = true ∧ s = d.pressureSet p ∧ s ≠ d.pressedAt p ∧ y = ({ d with vlt := { d.vlt with reached := NMap.set 0 d.vlt.reached p s } } : Dev) ∧ (z = (if s = 0 ∧ p ≤ 61 then y.put (VLT_HDRM_USE_coins p) 0 else y)) ∧ p < 57) ∧
    (∃ (d : Dev) (y : Dev) (z : Dev) (p : Nat) (q : Nat) (s : Nat), isPort p = true ∧ isVoq q = true ∧ pressured p = true ∧ s = d.pressureSet p ∧ s ≠ d.pressedAt p ∧ y = ({ d with vlt := { d.vlt with reached := NMap.set 0 d.vlt.reached p s } } : Dev) ∧ (z = (if s = 0 ∧ p ≤ 61 then y.put (VLT_HDRM_USE_coins p) 0 else y)) ∧ p = 96) ∧
    (∃ (d : Dev) (y : Dev) (z : Dev) (p : Nat) (q : Nat) (s : Nat), isPort p = true ∧ isVoq q = true ∧ pressured p = true ∧ s = d.pressureSet p ∧ s ≠ d.pressedAt p ∧ y = ({ d with vlt := { d.vlt with reached := NMap.set 0 d.vlt.reached p s } } : Dev) ∧ (z = (if s = 0 ∧ p ≤ 61 then y.put (VLT_HDRM_USE_coins p) 0 else y)) ∧ 58 ≤ p ∧ p ≤ 61) ∧
    (∃ (d : Dev) (y : Dev) (z : Dev) (p : Nat) (q : Nat) (s : Nat), isPort p = true ∧ isVoq q = true ∧ pressured p = true ∧ s = d.pressureSet p ∧ s ≠ d.pressedAt p ∧ y = ({ d with vlt := { d.vlt with reached := NMap.set 0 d.vlt.reached p s } } : Dev) ∧ (z = (if s = 0 ∧ p ≤ 61 then y.put (VLT_HDRM_USE_coins p) 0 else y)) ∧ (p = 57 ∨ 62 ≤ p) ∧ p ≠ 96) :=
  ⟨⟨({ wit with vlt := { wit.vlt with frames := [{ id := 1, inPort := 0, tL := some 0, tE := some 0, tP := some 0 }] } } : Dev), _, _, _, 0, 0, none, _, _, by decide +kernel, by decide +kernel, rfl, by decide +kernel, rfl, rfl, rfl, rfl⟩,
   ⟨({ wit with bus := { wit.bus with handoff := [(64, [({ id := 1, fmt := 0 }, 0, 0)])] } } : Dev), 64, 0, _, _, _, _, by decide +kernel, by decide +kernel, by decide +kernel, rfl⟩,
   ⟨wit.wr VLT_GXOFF 1, _, _, 0, 0, _, by decide +kernel, by decide +kernel, by decide +kernel, rfl, by decide +kernel, rfl, rfl, by decide +kernel⟩,
   ⟨({ wit with vlt := { wit.vlt with reached := [(96, 1)] } } : Dev), _, _, 96, 0, _, by decide +kernel, by decide +kernel, by decide +kernel, rfl, by decide +kernel, rfl, rfl, by decide +kernel⟩,
   ⟨wit.wr VLT_GXOFF 1, _, _, 58, 0, _, by decide +kernel, by decide +kernel, by decide +kernel, rfl, by decide +kernel, rfl, rfl, by decide +kernel, by decide +kernel⟩,
   ⟨wit.wr VLT_GXOFF 1, _, _, 57, 0, _, by decide +kernel, by decide +kernel, by decide +kernel, rfl, by decide +kernel, rfl, rfl, by decide +kernel, by decide +kernel⟩⟩

/-- The same, part 2. -/
theorem test_witness_VaultEntriesAct_part2 :
    (∃ (d : Dev) (y : Dev) (p : Nat) (q : Nat) (e : Nat) (s : Nat) (f : Frame) (sp : Spill), isPort p = true ∧ isVoq q = true ∧ d.vlt.spills.find? (fun s => s.voq == q) = some sp ∧ d.due ⟨.spill, sp.fid, 0⟩ = some e ∧ y = (d.at_ e).cancel ⟨.spill, sp.fid, 0⟩ ∧ y.frame sp.fid = some f) ∧
    (∃ (d : Dev) (p : Nat) (q : Nat) (e : Nat), isPort p = true ∧ isVoq q = true ∧ d.due ⟨.prefetch, q, 0⟩ = some e) ∧
    (∃ (d : Dev) (p : Nat) (q : Nat) (e : Nat), isPort p = true ∧ isVoq q = true ∧ d.due ⟨.mcSweep, 0, 0⟩ = some e) :=
  ⟨⟨({ wit with vlt := { wit.vlt with frames := [{ id := 1, inPort := 0 }], spills := [⟨1, 0, [], 0, false⟩] } } : Dev).arm ⟨.spill, 1, 0⟩ 10, _, 0, 0, 10, 0, _, _, by decide +kernel, by decide +kernel, rfl, by decide +kernel, rfl, rfl⟩,
   ⟨wit.arm ⟨.prefetch, 0, 0⟩ 10, 0, 0, 10, by decide +kernel, by decide +kernel, by decide +kernel⟩,
   ⟨wit.arm ⟨.mcSweep, 0, 0⟩ 10, 0, 0, 10, by decide +kernel, by decide +kernel, by decide +kernel⟩⟩

/-- The hypotheses of `Obligations.EgressActs` hold together, clause by clause, in 2 parts. -/
theorem test_witness_EgressActs_part1 :
    (∃ (d : Dev) (w : Dev) (y : Dev) (z : Dev) (out : Nat) (c : Nat) (q : Nat) (own : Nat) (bp : Option BpDesc) (x : Copy) (l : List Copy) (f : Frame) (g : Option CvGen), d.works pgQUE = true ∧ bp.all BpDesc.wf = true ∧ own < 256 ∧ out < 57 ∧ w = (d.toPick out).creditPort out ∧ d.works (pgETH out) = true ∧ w.drains out = false ∧ w.sleepSeg out = none ∧ w.macUp out = true ∧ w.eth.lpi.contains out = false ∧ w.eth.fcWait.contains out = false ∧ ((d.at_ (d.firstSeen out)).creditPort out).expressClass out = none ∧ w.curTx out = none ∧ highest (fun c => w.ethClass out c false) = some (c, q, y) ∧ y.voq q = x :: l ∧ y.expired x = false ∧ y.frame x.fid = some f ∧ y.noStart out f = none ∧ f.poison = false ∧ y.takeCv out f = (.inr g, z)) ∧
    (∃ (d : Dev) (w : Dev) (y : Dev) (out : Nat) (c : Nat) (q : Nat) (own : Nat) (bp : Option BpDesc) (x : Copy) (l : List Copy) (f : Frame), d.works pgQUE = true ∧ bp.all BpDesc.wf = true ∧ own < 256 ∧ out < 57 ∧ w = (d.toPick out).creditPort out ∧ d.drains out = true ∧ w.drains out = true ∧ highest (fun c => w.ethClass out c true) = some (c, q, y) ∧ y.voq q = x :: l ∧ y.expired x = false ∧ y.frame x.fid = some f) ∧
    (∃ (d : Dev) (y : Dev) (z : Dev) (c : Nat) (q : Nat) (own : Nat) (bp : Option BpDesc) (x : Copy) (l : List Copy) (f : Frame), d.works pgQUE = true ∧ bp.all BpDesc.wf = true ∧ own < 256 ∧ (d.toPick 57).drains 57 = false ∧ (d.toPick 57).hostChoice own = some (c, q, y) ∧ y.voq q = x :: l ∧ y.expired x = false ∧ y.frame x.fid = some f ∧ f.poison = false ∧ (y.shape 57 f).length ≤ y.get (HBR_RING_CFG_buf (hRing false c)) ∧ z = y.popVoq q) ∧
    (∃ (d : Dev) (y : Dev) (z : Dev) (out : Nat) (c : Nat) (q : Nat) (own : Nat) (bp : Option BpDesc) (x : Copy) (l : List Copy) (f : Frame), d.works pgQUE = true ∧ bp.all BpDesc.wf = true ∧ own < 256 ∧ 58 ≤ out ∧ out ≤ 61 ∧ d.works (pgVHL (out - 58)) = true ∧ (d.toPick out).drains out = false ∧ (d.toPick out).flag (VHL_STAT_link (out - 58)) = true ∧ (d.toPick out).flag (VHL_STAT_hold_i (out - 58)) = false ∧ (d.toPick out).curTx out = none ∧ (d.toPick out).flag SYS_DEVID_valid = true ∧ (d.toPick out).linkChoice out = some (c, q, y) ∧ y.voq q = x :: l ∧ y.expired x = false ∧ y.frame x.fid = some f ∧ y.noStart out f = none ∧ f.poison = false ∧ z = y.startTx out q c x f (f.check == 2) ∧ z.vlt.tx.length ≠ y.vlt.tx.length) ∧
    (∃ (d : Dev) (y : Dev) (out : Nat) (c : Nat) (q : Nat) (own : Nat) (bp : Option BpDesc) (x : Copy) (l : List Copy) (f : Frame), d.works pgQUE = true ∧ bp.all BpDesc.wf = true ∧ own < 256 ∧ 64 ≤ out ∧ out ≤ 95 ∧ (d.toPick out).drains out = false ∧ (d.toPick out).sleeping out 0 = none ∧ (d.toPick out).busChoice out = some (c, q, y) ∧ y.sleeping out c = none ∧ y.voq q = x :: l ∧ y.expired x = false ∧ y.frame x.fid = some f ∧ f.poison = false ∧ out ≤ 87) ∧
    (∃ (d : Dev) (y : Dev) (out : Nat) (c : Nat) (q : Nat) (own : Nat) (bp : Option BpDesc) (x : Copy) (l : List Copy) (f : Frame), d.works pgQUE = true ∧ bp.all BpDesc.wf = true ∧ own < 256 ∧ 64 ≤ out ∧ out ≤ 95 ∧ (d.toPick out).drains out = false ∧ (d.toPick out).sleeping out 0 = none ∧ (d.toPick out).busChoice out = some (c, q, y) ∧ y.sleeping out c = none ∧ y.voq q = x :: l ∧ y.expired x = false ∧ y.frame x.fid = some f ∧ f.poison = false ∧ 88 ≤ out) :=
  ⟨⟨({ wit with vlt := { wit.vlt with voqs := [(0, [⟨1, 0, false, none, none, 0⟩])], frames := [{ id := 1, inPort := 0 }] } } : Dev).put (ETH_STAT_link 0) 1, _, _, _, 0, _, _, 0, none, _, _, _, _, by decide +kernel, by decide +kernel, by decide +kernel, by decide +kernel, rfl, by decide +kernel, by decide +kernel, by decide +kernel, by decide +kernel, by decide +kernel, by decide +kernel, by decide +kernel, by decide +kernel, rfl, rfl, by decide +kernel, rfl, by decide +kernel, by decide +kernel, rfl⟩,
   ⟨({ wit with vlt := { wit.vlt with voqs := [(0, [⟨1, 0, false, none, none, 0⟩])], frames := [{ id := 1, inPort := 0 }] }, eth := { wit.eth with draining := [0] } } : Dev).put (ETH_STAT_link 0) 1, _, _, 0, _, _, 0, none, _, _, _, by decide +kernel, by decide +kernel, by decide +kernel, by decide +kernel, rfl, by decide +kernel, by decide +kernel, rfl, rfl, by decide +kernel, rfl⟩,
   ⟨((((({ witAll with vlt := { witAll.vlt with voqs := [(456, [⟨1, 57, false, none, none, 0⟩])], frames := [{ id := 1, inPort := 0 }] } } : Dev).put HBR_STAT_link 1).put HBR_STAT_bme 1).put (HBR_RING_CFG_en 8) 1).put (HBR_RING_TAIL_index 8) 1).put (HBR_RING_CFG_buf 8) 2048, _, _, _, _, 255, none, _, _, _, by decide +kernel, by decide +kernel, by decide +kernel, by decide +kernel, rfl, rfl, by decide +kernel, rfl, by decide +kernel, by decide +kernel, rfl⟩,
   ⟨((((((((((({ wit with vlt := { wit.vlt with voqs := [(464, [⟨1, 58, false, none, none, 0⟩])], frames := [{ id := 1, inPort := 0 }] } } : Dev).put (VHL_STAT_link 0) 1).put (VHL_STAT_hold_i 0) 0).put SYS_DEVID_valid 1).put (VHL_CRED_coins 0 0) 100).put (VHL_CRED_coins 0 1) 100).put (VHL_CRED_coins 0 2) 100).put (VHL_CRED_coins 0 3) 100).put (VHL_CRED_coins 0 4) 100).put (VHL_CRED_coins 0 5) 100).put (VHL_CRED_coins 0 6) 100).put (VHL_CRED_coins 0 7) 100, _, _, 58, _, _, 0, none, _, _, _, by decide +kernel, by decide +kernel, by decide +kernel, by decide +kernel, by decide +kernel, by decide +kernel, by decide +kernel, by decide +kernel, by decide +kernel, by decide +kernel, by decide +kernel, rfl, rfl, by decide +kernel, rfl, by decide +kernel, by decide +kernel, rfl, by decide +kernel⟩,
   ⟨(({ wit with vlt := { wit.vlt with voqs := [(512, [⟨1, 64, false, none, none, 0⟩])], frames := [{ id := 1, inPort := 0 }] } } : Dev).put (PG_READY_ready (pgCAN 0)) 1).put CLK_STAT_stable 255, _, 64, _, _, 0, none, _, _, _, by decide +kernel, by decide +kernel, by decide +kernel, by decide +kernel, by decide +kernel, by decide +kernel, by decide +kernel, rfl, by decide +kernel, rfl, by decide +kernel, rfl, by decide +kernel, by decide +kernel⟩,
   ⟨({ wit with vlt := { wit.vlt with voqs := [(760, [⟨1, 95, false, none, none, 0⟩])], frames := [{ id := 1, inPort := 0 }] } } : Dev).put (PG_READY_ready (pgLIN 7)) 1, _, 95, _, _, 0, none, _, _, _, by decide +kernel, by decide +kernel, by decide +kernel, by decide +kernel, by decide +kernel, by decide +kernel, by decide +kernel, rfl, by decide +kernel, rfl, by decide +kernel, rfl, by decide +kernel, by decide +kernel⟩⟩

/-- The same, part 2. -/
theorem test_witness_EgressActs_part2 :
    (∃ (d : Dev) (v : Dev) (y : Dev) (z : Dev) (c : Nat) (q : Nat) (own : Nat) (head : Nat) (bp : Option BpDesc) (b : BpDesc) (x : Copy) (l : List Copy) (f : Frame) (bs : List Byte), d.works pgQUE = true ∧ bp.all BpDesc.wf = true ∧ own < 256 ∧ b.wf = true ∧ b.own = true ∧ (d.toPick 97).up = true ∧ (d.toPick 97).active.isSome = true ∧ (d.toPick 97).pw.halted = false ∧ head = d.get (BRC_BP_RX_HEAD_index 0) % bpSize (d.get (BRC_BP_RX_RING_log2 0)) ∧ head ≠ (d.toPick 97).get (BRC_BP_RX_TAIL_index 0) % bpSize (d.get (BRC_BP_RX_RING_log2 0)) ∧ highest (fun c => (d.toPick 97).drrTake 97 c ((d.toPick 97).heads 97 c)) = some (c, q, y) ∧ y.voq q = x :: l ∧ y.expired x = false ∧ y.frame x.fid = some f ∧ f.poison = false ∧ bs = y.shape 97 f ∧ bs.length ≤ y.get (BRC_BP_RX_BUF_bytes 0) ∧ v = (y.popVoq q).wrTcm b.buf bs ∧ z = v.wrTcm ((y.popVoq q).get (BRC_BP_RX_RING_base 0) + head * 32) (bpBytes { b with own := false, len := bs.length, port := f.inPort, domain := f.domain, cls := c } true f.check f.inNs f.inFrac)) ∧
    (∃ (d : Dev) (y : Dev) (out : Nat) (eighth : Nat) (t : Tx), out < 57 ∧ eighth < 8 ∧ d.vlt.tx.find? (fun t => t.out == out && !t.stamped && (decide (out < 57) || isVh out)) = some t ∧ y = (d.at_ (t.pick + 672)).swapTx t { t with stamped := true } ∧ t.tsEvent = false) ∧
    (∃ (d : Dev) (y : Dev) (out : Nat) (eighth : Nat) (t : Tx) (f : Frame) (bs : List Byte), out < 57 ∧ eighth < 8 ∧ d.vlt.tx.find? (fun t => t.out == out && !t.stamped && (decide (out < 57) || isVh out)) = some t ∧ y = (d.at_ (t.pick + 672)).swapTx t { t with stamped := true } ∧ t.tsEvent = true ∧ y.frame t.fid = some f ∧ bs = (if t.data.isEmpty = true then y.shape out f else t.data)) ∧
    (∃ (d : Dev) (out : Nat) (t : Tx) (f : Frame), (out < 57 ∨ isVh out = true) ∧ isPort out = true ∧ d.curTx out = some t ∧ d.frame t.fid = some f ∧ f.tE.isSome = true) ∧
    (∃ (d : Dev) (out : Nat) (t : Tx) (f : Frame), (out < 57 ∨ isVh out = true) ∧ isPort out = true ∧ d.curTx out = some t ∧ d.frame t.fid = some f ∧ f.tE = none) :=
  ⟨⟨(((({ wit with vlt := { wit.vlt with voqs := [(776, [⟨1, 97, false, none, none, 0⟩])], frames := [{ id := 1, inPort := 0 }] } } : Dev).put (BRC_ROLE_role 0) 1).put (BRC_BP_RX_TAIL_index 0) 1).put (BRC_BP_RX_RING_log2 0) 4).put (BRC_BP_RX_BUF_bytes 0) 2048, _, _, _, _, _, 0, _, none, ⟨true, false, false, 64, 0, 0, 0, 0⟩, _, _, _, _, by decide +kernel, by decide +kernel, by decide +kernel, by decide +kernel, by decide +kernel, by decide +kernel, by decide +kernel, by decide +kernel, rfl, by decide +kernel, rfl, rfl, by decide +kernel, rfl, by decide +kernel, rfl, by decide +kernel, rfl, rfl⟩,
   ⟨({ wit with vlt := { wit.vlt with tx := [{ out := 0, fid := 1, cls := 0, mc := false, pick := 0, ends := 0, data := [0] }], frames := [{ id := 1, inPort := 0 }] } } : Dev), _, 0, 0, _, by decide +kernel, by decide +kernel, rfl, rfl, by decide +kernel⟩,
   ⟨({ wit with vlt := { wit.vlt with tx := [{ out := 0, fid := 1, cls := 0, mc := false, pick := 0, ends := 0, data := [0], tsEvent := true }], frames := [{ id := 1, inPort := 0 }] } } : Dev), _, 0, 0, _, _, _, by decide +kernel, by decide +kernel, rfl, rfl, by decide +kernel, rfl, rfl⟩,
   ⟨({ wit with vlt := { wit.vlt with tx := [{ out := 0, fid := 1, cls := 0, mc := false, pick := 0, ends := 0, data := [0] }], frames := [{ id := 1, inPort := 0, tE := some 0 }] } } : Dev), 0, _, _, by decide +kernel, by decide +kernel, rfl, rfl, by decide +kernel⟩,
   ⟨({ wit with vlt := { wit.vlt with tx := [{ out := 0, fid := 1, cls := 0, mc := false, pick := 0, ends := 0, data := [0] }], frames := [{ id := 1, inPort := 0 }] } } : Dev), 0, _, _, by decide +kernel, by decide +kernel, rfl, rfl, by decide +kernel⟩⟩

/-- The hypotheses of `Obligations.AuditorActs` hold together, clause by clause, in 3 parts. -/
theorem test_witness_AuditorActs_part1 :
    (∃ (d : Dev) (y : Dev) (z : Dev) (e : Nat), d.due ⟨.audCount, 0, 0⟩ = some e ∧ y = (((d.at_ e).cancel ⟨.audCount, 0, 0⟩).arm ⟨.audCount, 0, 0⟩ (e + msT (max 1 (d.get VLT_AUD_CTRL_period)))) ∧ z = (y.count VLT_AUD_MISM).raise (pgVLT 2) 9 ∧ y.countsAgree = true) ∧
    (∃ (d : Dev) (y : Dev) (z : Dev) (e : Nat), d.due ⟨.audCount, 0, 0⟩ = some e ∧ y = (((d.at_ e).cancel ⟨.audCount, 0, 0⟩).arm ⟨.audCount, 0, 0⟩ (e + msT (max 1 (d.get VLT_AUD_CTRL_period)))) ∧ z = (y.count VLT_AUD_MISM).raise (pgVLT 2) 9 ∧ y.countsAgree = false ∧ z.flag VLT_AUD_CTRL_auto = false) ∧
    (∃ (d : Dev) (y : Dev) (z : Dev) (e : Nat), d.due ⟨.audCount, 0, 0⟩ = some e ∧ y = (((d.at_ e).cancel ⟨.audCount, 0, 0⟩).arm ⟨.audCount, 0, 0⟩ (e + msT (max 1 (d.get VLT_AUD_CTRL_period)))) ∧ z = (y.count VLT_AUD_MISM).raise (pgVLT 2) 9 ∧ y.countsAgree = false ∧ z.flag VLT_AUD_CTRL_auto = true) ∧
    (∃ (d : Dev) (z : Dev) (i : Initiator), d.accepts i = true ∧ z = (if d.locked (pgVLT 2) = true then d.lockViol (pgVLT 2) i 0x100 2 else d) ∧ z.get VLT_AUD_STAT_phase = 0) ∧
    (∃ (d : Dev) (z : Dev) (i : Initiator), d.accepts i = true ∧ z = (if d.locked (pgVLT 2) = true then d.lockViol (pgVLT 2) i 0x100 2 else d) ∧ z.get VLT_AUD_STAT_phase ≠ 0) ∧
    (∃ (d : Dev) (e : Nat), d.get VLT_AUD_STAT_phase = 1 ∧ d.due ⟨.walkPhase, 0, 0⟩ = some e) :=
  ⟨⟨wit.arm ⟨.audCount, 0, 0⟩ 10, _, _, 10, by decide +kernel, rfl, rfl, by decide +kernel⟩,
   ⟨((((wit.arm ⟨.audCount, 0, 0⟩ 10).put VLT_AUD_CTRL_auto 0).arm ⟨.audCount, 0, 0⟩ 10).put VLT_AUD_CTRL_auto 0).put VLT_TILL_FREE_coins 1, _, _, 10, by decide +kernel, rfl, rfl, by decide +kernel, by decide +kernel⟩,
   ⟨((((wit.arm ⟨.audCount, 0, 0⟩ 10).put VLT_AUD_CTRL_auto 1).arm ⟨.audCount, 0, 0⟩ 10).put VLT_AUD_CTRL_auto 1).put VLT_TILL_FREE_coins 1, _, _, 10, by decide +kernel, rfl, rfl, by decide +kernel, by decide +kernel⟩,
   ⟨wit.put VLT_AUD_STAT_phase 0, _, .host, by decide +kernel, rfl, by decide +kernel⟩,
   ⟨wit.put VLT_AUD_STAT_phase 1, _, .host, by decide +kernel, rfl, by decide +kernel⟩,
   ⟨(wit.put VLT_AUD_STAT_phase 1).arm ⟨.walkPhase, 0, 0⟩ 10, 10, by decide +kernel, by decide +kernel⟩⟩

/-- The same, part 2. -/
theorem test_witness_AuditorActs_part2 :
    (∃ (d : Dev), d.get VLT_AUD_STAT_phase = 2) ∧
    (∃ (d : Dev) (leaks : List Nat), d.get VLT_AUD_STAT_phase = 3 ∧ leaks = (d.vlt.coins.filter (fun c => d.oldCoin c.2 && !d.vlt.marked.contains c.1)).map (fun c => c.1)) ∧
    (∃ (d : Dev) (u : Dev) (w : Dev) (x : Dev) (x' : Dev) (y : Dev) (z : Dev) (leaks : List Nat) (dup : List Nat), d.get VLT_AUD_STAT_phase = 4 ∧ dup = d.vlt.doubled ∧ leaks = d.vlt.leaked.filter (fun c => (d.coin c).isSome) ∧ y = (d.put VLT_AUD_LEAK_coins leaks.length).put VLT_AUD_DUP_coins dup.length ∧ z = ({ y with vlt := { y.vlt with leakQ := (y.vlt.leakQ ++ (leaks.map (fun c => (1, c)) ++ dup.map (fun c => (2, c))).take 64).take 64 } } : Dev) ∧ u = (z.each dup Dev.unlistExtra).each leaks Dev.freeCoin ∧ w = (if z.flag VLT_AUD_CTRL_reclaim = true then ((u.each (List.range 16) Dev.correctAcct).put VLT_AUD_RECL_coins leaks.length).put VLT_AUD_CORR_coins (sumDomains u.correction) else (z.put VLT_AUD_RECL_coins 0).put VLT_AUD_CORR_coins 0) ∧ x = ((w.endWalk.wrapInc VLT_AUD_STAT_walks).put VLT_AUD_STAT_last_ok (if leaks.isEmpty && dup.isEmpty then 1 else 0)).raise (pgVLT 2) 8 ∧ x' = (if leaks.isEmpty = true then x else x.raise (pgVLT 2) 10)) ∧
    (∃ (d : Dev) (i : Initiator) (a : Nat × Nat) (rest : List (Nat × Nat)), d.accepts i = true ∧ d.vlt.leakQ = a :: rest) ∧
    (∃ (d : Dev) (i : Initiator), d.accepts i = true ∧ d.vlt.leakQ = []) ∧
    (∃ (d : Dev) (z : Dev) (i : Initiator), d.accepts i = true ∧ z = ({ d with vlt := { d.vlt with leakQ := [] } } : Dev).queueReset 5 0 ∧ z.vlt.leakQ = []) :=
  ⟨⟨wit.put VLT_AUD_STAT_phase 2, by decide +kernel⟩,
   ⟨wit.put VLT_AUD_STAT_phase 3, _, by decide +kernel, rfl⟩,
   ⟨wit.put VLT_AUD_STAT_phase 4, _, _, _, _, _, _, _, _, by decide +kernel, rfl, rfl, rfl, rfl, rfl, rfl, rfl, rfl⟩,
   ⟨({ wit with vlt := { wit.vlt with leakQ := [(1, 2)] } } : Dev), .host, _, _, by decide +kernel, rfl⟩,
   ⟨({ wit with vlt := { wit.vlt with leakQ := [] } } : Dev), .host, by decide +kernel, by decide +kernel⟩,
   ⟨({ wit with vlt := { wit.vlt with leakQ := [] } } : Dev), _, .host, by decide +kernel, rfl, by decide +kernel⟩⟩

/-- The same, part 3. -/
theorem test_witness_AuditorActs_part3 :
    ∃ (d : Dev) (w : Dev) (x : Dev) (y : Dev) (z : Dev) (i : Initiator) (q : Nat) (v : Word), d.accepts i = true ∧ d.locked pgQUE = false ∧ q = v.toNat % 2 ^ 17 ∧ y = d.put QUE_VOQ_SEL_voq q ∧ z = y.put QUE_VOQ_FRAMES_frames (y.voq q).length ∧ w = z.put QUE_VOQ_COINS_coins (z.copyCoins (y.voq q)) ∧ x = w.put QUE_VOQ_TILL_coins (w.voqTill (y.voq q)) :=
  ⟨wit, _, _, _, _, .host, _, 0, by decide +kernel, by decide +kernel, rfl, rfl, rfl, rfl, rfl⟩

/-- The hypotheses of `Obligations.LearningAndSweepAct` hold together, clause by clause, in 3 parts. -/
theorem test_witness_LearningAndSweepAct_part1 :
    (∃ (d : Dev) (y : Dev) (v : Learn), d.works pgLRN = true ∧ d.nextLearn = some v ∧ y = (d.atNs (v.inNs + 16000)).dropLearn v ∧ y.keyLocked 0 v.key = false) ∧
    (∃ (d : Dev) (y : Dev) (v : Learn), d.works pgLRN = true ∧ d.nextLearn = some v ∧ y = (d.atNs (v.inNs + 16000)).dropLearn v ∧ y.keyLocked 0 v.key = true ∧ y.fwd.park.length < 16) ∧
    (∃ (d : Dev) (y : Dev) (v : Learn), d.works pgLRN = true ∧ d.nextLearn = some v ∧ y = (d.atNs (v.inNs + 16000)).dropLearn v ∧ y.keyLocked 0 v.key = true ∧ 16 ≤ y.fwd.park.length) ∧
    (∃ (d : Dev) (y : Dev) (z : Dev) (v : Learn), d.works pgLRN = true ∧ y = ({ d with fwd := { d.fwd with learnQ := [], park := [] } } : Dev).lqCount ∧ z = (y.each (d.fwd.learnQ ++ d.fwd.park) (fun v t => ((t.leashSub v.port).count LRN_LQ_OVF).raise pgLRN 9)).queueReset 4 0 ∧ z.works pgLRN = true ∧ z.nextLearn = none) ∧
    (∃ (d : Dev) (y : Dev) (slot : Nat) (e : Nat) (ent : Nat) (m : Nat), slot < 2 ^ 20 ∧ m = keyOf 0 (d.ent 0 slot) ∧ d.due ⟨.pin, m, 0⟩ = some e ∧ y = (d.at_ e).cancel ⟨.pin, m, 0⟩ ∧ ent = y.ent 0 slot ∧ isValid 0 ent = true ∧ nbit ent 83 = true) ∧
    (∃ (d : Dev) (y : Dev) (slot : Nat) (e : Nat) (ent : Nat) (m : Nat), slot < 2 ^ 20 ∧ m = keyOf 0 (d.ent 0 slot) ∧ d.due ⟨.pin, m, 0⟩ = some e ∧ y = (d.at_ e).cancel ⟨.pin, m, 0⟩ ∧ ent = y.ent 0 slot ∧ (isValid 0 ent = false ∨ nbit ent 83 = false)) :=
  ⟨⟨({ wit with fwd := { wit.fwd with learnQ := [⟨5, 0, 0, 0, 0, 1⟩] } } : Dev), _, _, by decide +kernel, rfl, rfl, by decide +kernel⟩,
   ⟨({ wit with fwd := { wit.fwd with learnQ := [⟨5, 0, 0, 0, 0, 1⟩], tab := [(262144, 2 ^ 84 + 2 ^ 87 + 5)] } } : Dev), _, _, by decide +kernel, rfl, rfl, by decide +kernel, by decide +kernel⟩,
   ⟨({ wit with fwd := { wit.fwd with learnQ := [⟨5, 0, 0, 0, 0, 1⟩], park := List.replicate 16 ⟨5, 0, 0, 0, 0, 1⟩, tab := [(262144, 2 ^ 84 + 2 ^ 87 + 5)] } } : Dev), _, _, by decide +kernel, rfl, rfl, by decide +kernel, by decide +kernel⟩,
   ⟨wit, _, _, ⟨0, 0, 0, 0, 0, 0⟩, by decide +kernel, rfl, rfl, by decide +kernel, by decide +kernel⟩,
   ⟨({ wit with fwd := { wit.fwd with tab := [(0, 2 ^ 84 + 2 ^ 83 + 5)] } } : Dev).arm ⟨.pin, 5, 0⟩ 10, _, 0, 10, _, _, by decide +kernel, rfl, by decide +kernel, rfl, rfl, by decide +kernel, by decide +kernel⟩,
   ⟨({ wit with fwd := { wit.fwd with tab := [(0, 2 ^ 84 + 5)] } } : Dev).arm ⟨.pin, 5, 0⟩ 10, _, 0, 10, _, _, by decide +kernel, rfl, by decide +kernel, rfl, rfl, by decide +kernel⟩⟩

/-- The same, part 2. -/
theorem test_witness_LearningAndSweepAct_part2 :
    (∃ (d : Dev) (y : Dev) (e : Nat), d.due ⟨.sweepPass, 0, 0⟩ = some e ∧ y = ((d.at_ e).cancel ⟨.sweepPass, 0, 0⟩).arm ⟨.sweepPass, 0, 0⟩ (e + msT (d.get LRN_SWEEP_PER_ms)) ∧ y.flag LRN_SWEEP_CTRL_en = true ∧ y.fwd.sweepAt = none) ∧
    (∃ (d : Dev) (y : Dev) (e : Nat), d.due ⟨.sweepPass, 0, 0⟩ = some e ∧ y = ((d.at_ e).cancel ⟨.sweepPass, 0, 0⟩).arm ⟨.sweepPass, 0, 0⟩ (e + msT (d.get LRN_SWEEP_PER_ms)) ∧ (y.flag LRN_SWEEP_CTRL_en = false ∨ y.fwd.sweepAt.isSome = true)) ∧
    (∃ (d : Dev) (y : Dev) (i : Initiator), d.accepts i = true ∧ y = (if d.locked pgLRN = true then d.lockViol pgLRN i 0x114 2 else d) ∧ y.fwd.sweepAt = none) ∧
    (∃ (d : Dev) (y : Dev) (i : Initiator), d.accepts i = true ∧ y = (if d.locked pgLRN = true then d.lockViol pgLRN i 0x114 2 else d) ∧ y.fwd.sweepAt.isSome = true) ∧
    (∃ (d : Dev) (y : Dev) (n : Nat) (ent : Nat), d.fwd.sweepAt = some n ∧ n < tblSize 0 ∧ d.works pgLRN = true ∧ y = ({ d with fwd := { d.fwd with sweepAt := some (n + 1) } } : Dev).at_ (d.now + fabT 8) ∧ ent = y.ent 0 n ∧ (isValid 0 ent = false ∨ nbit ent 82 = true ∨ nbit ent 83 = true ∨ isLocked 0 ent = true ∨ nbit ent 114 = y.fwd.parity)) ∧
    (∃ (d : Dev) (y : Dev) (n : Nat) (ent : Nat) (m : Nat) (hit : Bool), d.fwd.sweepAt = some n ∧ n < tblSize 0 ∧ d.works pgLRN = true ∧ y = ({ d with fwd := { d.fwd with sweepAt := some (n + 1) } } : Dev).at_ (d.now + fabT 8) ∧ ent = y.ent 0 n ∧ isValid 0 ent = true ∧ nbit ent 82 = false ∧ nbit ent 83 = false ∧ isLocked 0 ent = false ∧ nbit ent 114 = (!y.fwd.parity) ∧ m = nset ent 114 114 (if y.fwd.parity = true then 1 else 0) ∧ (hit = true ∨ nbit m 85 = true)) :=
  ⟨⟨(({ wit with fwd := { wit.fwd with sweepAt := none } } : Dev).arm ⟨.sweepPass, 0, 0⟩ 10).put LRN_SWEEP_CTRL_en 1, _, 10, by decide +kernel, rfl, by decide +kernel, by decide +kernel⟩,
   ⟨(wit.arm ⟨.sweepPass, 0, 0⟩ 10).put LRN_SWEEP_CTRL_en 0, _, 10, by decide +kernel, rfl, by decide +kernel⟩,
   ⟨({ wit with fwd := { wit.fwd with sweepAt := none } } : Dev), _, .host, by decide +kernel, rfl, by decide +kernel⟩,
   ⟨({ wit with fwd := { wit.fwd with sweepAt := some 0 } } : Dev), _, .host, by decide +kernel, rfl, by decide +kernel⟩,
   ⟨({ wit with fwd := { wit.fwd with sweepAt := some 0, tab := [(0, 0)] } } : Dev), _, 0, _, by decide +kernel, by decide +kernel, by decide +kernel, rfl, rfl, by decide +kernel⟩,
   ⟨({ wit with fwd := { wit.fwd with sweepAt := some 0, tab := [(0, 2 ^ 84 + 2 ^ 114)] } } : Dev), _, 0, _, _, true, by decide +kernel, by decide +kernel, by decide +kernel, rfl, rfl, by decide +kernel, by decide +kernel, by decide +kernel, by decide +kernel, by decide +kernel, rfl, by decide +kernel⟩⟩

/-- The same, part 3. -/
theorem test_witness_LearningAndSweepAct_part3 :
    (∃ (d : Dev) (y : Dev) (n : Nat) (ent : Nat) (m : Nat) (hit : Bool), d.fwd.sweepAt = some n ∧ n < tblSize 0 ∧ d.works pgLRN = true ∧ y = ({ d with fwd := { d.fwd with sweepAt := some (n + 1) } } : Dev).at_ (d.now + fabT 8) ∧ ent = y.ent 0 n ∧ isValid 0 ent = true ∧ nbit ent 82 = false ∧ nbit ent 83 = false ∧ isLocked 0 ent = false ∧ nbit ent 114 = (!y.fwd.parity) ∧ m = nset ent 114 114 (if y.fwd.parity = true then 1 else 0) ∧ hit = false ∧ nbit m 85 = false ∧ nbit m 86 = false) ∧
    (∃ (d : Dev) (y : Dev) (n : Nat) (ent : Nat) (m : Nat) (hit : Bool), d.fwd.sweepAt = some n ∧ n < tblSize 0 ∧ d.works pgLRN = true ∧ y = ({ d with fwd := { d.fwd with sweepAt := some (n + 1) } } : Dev).at_ (d.now + fabT 8) ∧ ent = y.ent 0 n ∧ isValid 0 ent = true ∧ nbit ent 82 = false ∧ nbit ent 83 = false ∧ isLocked 0 ent = false ∧ nbit ent 114 = (!y.fwd.parity) ∧ m = nset ent 114 114 (if y.fwd.parity = true then 1 else 0) ∧ hit = false ∧ nbit m 85 = false ∧ nbit m 86 = true) ∧
    (∃ (d : Dev), d.fwd.sweepAt = some (tblSize 0)) ∧
    (∃ (d : Dev) (y : Dev) (e : Nat), d.due ⟨.windowPass, 0, 0⟩ = some e ∧ y = ((d.at_ e).cancel ⟨.windowPass, 0, 0⟩).arm ⟨.windowPass, 0, 0⟩ (e + secT 2)) ∧
    (∃ (d : Dev) (x : Dev) (y : Dev) (i : Initiator) (w : Word), d.accepts i = true ∧ d.locked pgFWD = false ∧ y = (d.put FWD_TRACE_CTRL_any (bitsOf w 9 9)).put FWD_TRACE_CTRL_port (bitsOf w 6 0) ∧ x = (if w.getLsbD 8 = true then y.put FWD_TRACE_CTRL_arm 1 else y)) :=
  ⟨⟨({ wit with fwd := { wit.fwd with sweepAt := some 0, tab := [(0, 2 ^ 84 + 2 ^ 114)] } } : Dev), _, 0, _, _, false, by decide +kernel, by decide +kernel, by decide +kernel, rfl, rfl, by decide +kernel, by decide +kernel, by decide +kernel, by decide +kernel, by decide +kernel, rfl, by decide +kernel, by decide +kernel, by decide +kernel⟩,
   ⟨({ wit with fwd := { wit.fwd with sweepAt := some 0, tab := [(0, 2 ^ 84 + 2 ^ 86 + 2 ^ 114)] } } : Dev), _, 0, _, _, false, by decide +kernel, by decide +kernel, by decide +kernel, rfl, rfl, by decide +kernel, by decide +kernel, by decide +kernel, by decide +kernel, by decide +kernel, rfl, by decide +kernel, by decide +kernel, by decide +kernel⟩,
   ⟨({ wit with fwd := { wit.fwd with sweepAt := some (tblSize 0) } } : Dev), by decide +kernel⟩,
   ⟨wit.arm ⟨.windowPass, 0, 0⟩ 10, _, 10, by decide +kernel, rfl⟩,
   ⟨wit, _, _, .host, 0, by decide +kernel, by decide +kernel, rfl, rfl⟩⟩

/-- The hypotheses of `Obligations.TableDescriptorsAct` hold together, clause by clause, in 3 parts. -/
theorem test_witness_TableDescriptorsAct_part1 :
    (∃ (d : Dev) (c : Nat) (x : TblDesc) (op : Instr × Nat), c < 2 ∧ x.wf = true ∧ d.ringBusy c = true ∧ x.own = true ∧ d.running ⟨.flush, c, 0⟩ = false ∧ (op ∈ [(.tblInsert c x, 1), (.tblUpdate c x, 2), (.tblDelete c x, 3), (.tblLookup c x, 4), (.tblReadIdx c x, 5), (.tblWriteIdx c x, 6), (.tblReadLock c x, 7), (.tblWriteUnlock c x, 8), (.tblUnlock c x, 9), (.tblEpoch c x, 11)]) ∧ d.pw.halted = true) ∧
    (∃ (d : Dev) (c : Nat) (x : TblDesc) (op : Instr × Nat), c < 2 ∧ x.wf = true ∧ d.ringBusy c = true ∧ x.own = true ∧ d.running ⟨.flush, c, 0⟩ = false ∧ (op ∈ [(.tblInsert c x, 1), (.tblUpdate c x, 2), (.tblDelete c x, 3), (.tblLookup c x, 4), (.tblReadIdx c x, 5), (.tblWriteIdx c x, 6), (.tblReadLock c x, 7), (.tblWriteUnlock c x, 8), (.tblUnlock c x, 9), (.tblEpoch c x, 11)]) ∧ d.pw.halted = false ∧ x.ue = 1) ∧
    (∃ (d : Dev) (c : Nat) (x : TblDesc), c < 2 ∧ x.wf = true ∧ d.ringBusy c = true ∧ x.own = true ∧ d.running ⟨.flush, c, 0⟩ = false ∧ d.pw.halted = false ∧ x.ue ≠ 1 ∧ x.table < 3 ∧ badEntry x = false ∧ namesReserved x.table (d.hashedEntry x) = false ∧ x.ue = 2) ∧
    (∃ (d : Dev) (c : Nat) (k : Nat) (x : TblDesc), c < 2 ∧ x.wf = true ∧ d.ringBusy c = true ∧ x.own = true ∧ d.running ⟨.flush, c, 0⟩ = false ∧ d.pw.halted = false ∧ x.ue ≠ 1 ∧ x.table < 3 ∧ d.findKey x.table (dmaKey x) = some k ∧ x.ue = 2) ∧
    (∃ (d : Dev) (c : Nat) (x : TblDesc), c < 2 ∧ x.wf = true ∧ d.ringBusy c = true ∧ x.own = true ∧ d.running ⟨.flush, c, 0⟩ = false ∧ d.pw.halted = false ∧ x.ue ≠ 1 ∧ x.index < tblSize x.table ∧ x.ue = 2) ∧
    (∃ (d : Dev) (c : Nat) (x : TblDesc), c < 2 ∧ x.wf = true ∧ d.ringBusy c = true ∧ x.own = true ∧ d.running ⟨.flush, c, 0⟩ = false ∧ d.pw.halted = false ∧ x.ue ≠ 1 ∧ badEntry x = true) :=
  ⟨⟨(({ wit with pw := { wit.pw with halted := true } } : Dev).put (TBL_RING_CTRL_en 0) 1).put (TBL_RING_TAIL_index 0) 1, 0, ⟨true, false, 0, 0, 0, 0, 0, 0⟩, (.tblInsert 0 (⟨true, false, 0, 0, 0, 0, 0, 0⟩), 1), by decide +kernel, by decide +kernel, by decide +kernel, by decide +kernel, by decide +kernel, by decide +kernel, by decide +kernel⟩,
   ⟨(wit.put (TBL_RING_CTRL_en 0) 1).put (TBL_RING_TAIL_index 0) 1, 0, ⟨true, false, 0, 0, 0, 0, 1, 0⟩, (.tblInsert 0 (⟨true, false, 0, 0, 0, 0, 1, 0⟩), 1), by decide +kernel, by decide +kernel, by decide +kernel, by decide +kernel, by decide +kernel, by decide +kernel, by decide +kernel, by decide +kernel⟩,
   ⟨(wit.put (TBL_RING_CTRL_en 0) 1).put (TBL_RING_TAIL_index 0) 1, 0, ⟨true, false, 0, 0, 0, 0, 2, 0⟩, by decide +kernel, by decide +kernel, by decide +kernel, by decide +kernel, by decide +kernel, by decide +kernel, by decide +kernel, by decide +kernel, by decide +kernel, by decide +kernel, by decide +kernel⟩,
   ⟨(({ wit with fwd := { wit.fwd with tab := [(262144, 2 ^ 84)] } } : Dev).put (TBL_RING_CTRL_en 0) 1).put (TBL_RING_TAIL_index 0) 1, 0, _, ⟨true, false, 0, 0, 0, 0, 2, 0⟩, by decide +kernel, by decide +kernel, by decide +kernel, by decide +kernel, by decide +kernel, by decide +kernel, by decide +kernel, by decide +kernel, rfl, by decide +kernel⟩,
   ⟨(wit.put (TBL_RING_CTRL_en 0) 1).put (TBL_RING_TAIL_index 0) 1, 0, ⟨true, false, 0, 0, 0, 0, 2, 0⟩, by decide +kernel, by decide +kernel, by decide +kernel, by decide +kernel, by decide +kernel, by decide +kernel, by decide +kernel, by decide +kernel, by decide +kernel⟩,
   ⟨(wit.put (TBL_RING_CTRL_en 0) 1).put (TBL_RING_TAIL_index 0) 1, 0, ⟨true, false, 1, 0, 0, 0, 0, 0⟩, by decide +kernel, by decide +kernel, by decide +kernel, by decide +kernel, by decide +kernel, by decide +kernel, by decide +kernel, by decide +kernel⟩⟩

/-- The same, part 2. -/
theorem test_witness_TableDescriptorsAct_part2 :
    (∃ (d : Dev) (c : Nat) (x : TblDesc), c < 2 ∧ x.wf = true ∧ d.ringBusy c = true ∧ x.own = true ∧ d.running ⟨.flush, c, 0⟩ = false ∧ d.pw.halted = false ∧ x.ue ≠ 1 ∧ x.table < 3 ∧ badEntry x = false ∧ namesReserved x.table (d.hashedEntry x) = true) ∧
    (∃ (d : Dev) (d' : Dev) (c : Nat) (k : Nat) (x : TblDesc), c < 2 ∧ x.wf = true ∧ d.ringBusy c = true ∧ x.own = true ∧ d.running ⟨.flush, c, 0⟩ = false ∧ d.pw.halted = false ∧ x.ue ≠ 1 ∧ x.ue ≠ 2 ∧ x.table < 3 ∧ badEntry x = false ∧ namesReserved x.table (d.hashedEntry x) = false ∧ d.findKey x.table (dmaKey x) = none ∧ d.insert x.table (d.hashedEntry x) = some (k, d')) ∧
    (∃ (d : Dev) (c : Nat) (x : TblDesc), c < 2 ∧ x.wf = true ∧ d.ringBusy c = true ∧ x.own = true ∧ d.running ⟨.flush, c, 0⟩ = false ∧ d.pw.halted = false ∧ x.ue ≠ 1 ∧ x.ue ≠ 2 ∧ x.table < 3 ∧ badEntry x = false ∧ namesReserved x.table (d.hashedEntry x) = false ∧ d.findKey x.table (dmaKey x) = none ∧ d.insert x.table (d.hashedEntry x) = none) ∧
    (∃ (d : Dev) (c : Nat) (k : Nat) (x : TblDesc), c < 2 ∧ x.wf = true ∧ d.ringBusy c = true ∧ x.own = true ∧ d.running ⟨.flush, c, 0⟩ = false ∧ d.pw.halted = false ∧ x.ue ≠ 1 ∧ x.ue ≠ 2 ∧ x.table < 3 ∧ badEntry x = false ∧ namesReserved x.table (d.hashedEntry x) = false ∧ d.findKey x.table (dmaKey x) = some k ∧ isLocked x.table (d.ent x.table k) = false) ∧
    (∃ (d : Dev) (y : Dev) (c : Nat) (k : Nat) (x : TblDesc), c < 2 ∧ x.wf = true ∧ d.ringBusy c = true ∧ x.own = true ∧ d.running ⟨.flush, c, 0⟩ = false ∧ d.pw.halted = false ∧ x.ue ≠ 1 ∧ x.ue ≠ 2 ∧ x.table < 3 ∧ badEntry x = false ∧ namesReserved x.table (d.hashedEntry x) = false ∧ d.findKey x.table (dmaKey x) = some k ∧ isLocked x.table (d.ent x.table k) = true ∧ y = ((d.rewrite x.table k (d.hashedEntry x)).pinWritten x.table k).unlockEnt x.table k) ∧
    (∃ (d : Dev) (y : Dev) (c : Nat) (k : Nat) (x : TblDesc), c < 2 ∧ x.wf = true ∧ d.ringBusy c = true ∧ x.own = true ∧ d.running ⟨.flush, c, 0⟩ = false ∧ d.pw.halted = false ∧ x.ue ≠ 1 ∧ x.ue ≠ 2 ∧ x.table < 3 ∧ d.findKey x.table (dmaKey x) = some k ∧ isLocked x.table (d.ent x.table k) = false ∧ d.fwd.locks.length < 16 ∧ y = d.lockEnt x.table k) :=
  ⟨⟨(wit.put (TBL_RING_CTRL_en 0) 1).put (TBL_RING_TAIL_index 0) 1, 0, ⟨true, false, 0, 0, 0, (62 * 2 ^ 64), 0, 0⟩, by decide +kernel, by decide +kernel, by decide +kernel, by decide +kernel, by decide +kernel, by decide +kernel, by decide +kernel, by decide +kernel, by decide +kernel, by decide +kernel⟩,
   ⟨(wit.put (TBL_RING_CTRL_en 0) 1).put (TBL_RING_TAIL_index 0) 1, _, 0, _, ⟨true, false, 0, 0, 1, (2 ^ 84 + 1), 0, 0⟩, by decide +kernel, by decide +kernel, by decide +kernel, by decide +kernel, by decide +kernel, by decide +kernel, by decide +kernel, by decide +kernel, by decide +kernel, by decide +kernel, by decide +kernel, by decide +kernel, rfl⟩,
   ⟨(({ wit with fwd := { wit.fwd with tab := ((List.range 4).map (· + 89444) ++ (List.range 4).map (· + 252116) ++ (List.range 16).map (· + 262144)).map (fun a => (a, 2 ^ 87 + 2 ^ 84 + 1)) } } : Dev).put (TBL_RING_CTRL_en 0) 1).put (TBL_RING_TAIL_index 0) 1, 0, ⟨true, false, 0, 0, 0, 0, 0, 0⟩, by decide +kernel, by decide +kernel, by decide +kernel, by decide +kernel, by decide +kernel, by decide +kernel, by decide +kernel, by decide +kernel, by decide +kernel, by decide +kernel, by decide +kernel, by decide +kernel, by decide +kernel⟩,
   ⟨(({ wit with fwd := { wit.fwd with tab := [(262144, 2 ^ 84)] } } : Dev).put (TBL_RING_CTRL_en 0) 1).put (TBL_RING_TAIL_index 0) 1, 0, _, ⟨true, false, 0, 0, 0, 0, 0, 0⟩, by decide +kernel, by decide +kernel, by decide +kernel, by decide +kernel, by decide +kernel, by decide +kernel, by decide +kernel, by decide +kernel, by decide +kernel, by decide +kernel, by decide +kernel, rfl, by decide +kernel⟩,
   ⟨(({ wit with fwd := { wit.fwd with tab := [(262144, 2 ^ 84 + 2 ^ 87)] } } : Dev).put (TBL_RING_CTRL_en 0) 1).put (TBL_RING_TAIL_index 0) 1, _, 0, _, ⟨true, false, 0, 0, 0, 0, 0, 0⟩, by decide +kernel, by decide +kernel, by decide +kernel, by decide +kernel, by decide +kernel, by decide +kernel, by decide +kernel, by decide +kernel, by decide +kernel, by decide +kernel, by decide +kernel, rfl, by decide +kernel, rfl⟩,
   ⟨(({ wit with fwd := { wit.fwd with tab := [(262144, 2 ^ 84)] } } : Dev).put (TBL_RING_CTRL_en 0) 1).put (TBL_RING_TAIL_index 0) 1, _, 0, _, ⟨true, false, 0, 0, 0, 0, 0, 0⟩, by decide +kernel, by decide +kernel, by decide +kernel, by decide +kernel, by decide +kernel, by decide +kernel, by decide +kernel, by decide +kernel, by decide +kernel, rfl, by decide +kernel, by decide +kernel, rfl⟩⟩

/-- The same, part 3. -/
theorem test_witness_TableDescriptorsAct_part3 :
    (∃ (d : Dev) (c : Nat) (k : Nat) (x : TblDesc), c < 2 ∧ x.wf = true ∧ d.ringBusy c = true ∧ x.own = true ∧ d.running ⟨.flush, c, 0⟩ = false ∧ d.pw.halted = false ∧ x.ue ≠ 1 ∧ x.ue ≠ 2 ∧ x.table < 3 ∧ d.findKey x.table (dmaKey x) = some k ∧ isLocked x.table (d.ent x.table k) = false ∧ 16 ≤ d.fwd.locks.length) ∧
    (∃ (d : Dev) (c : Nat) (x : TblDesc), c < 2 ∧ x.wf = true ∧ d.ringBusy c = true ∧ x.own = true ∧ d.running ⟨.flush, c, 0⟩ = false ∧ d.pw.halted = false ∧ x.ue ≠ 1 ∧ x.ue ≠ 2 ∧ tblSize x.table ≤ x.index) ∧
    (∃ (d : Dev) (c : Nat) (x : TblDesc), c < 2 ∧ x.wf = true ∧ d.ringBusy c = true ∧ x.own = true ∧ d.running ⟨.flush, c, 0⟩ = false ∧ d.pw.halted = false ∧ x.ue ≠ 1 ∧ x.ue ≠ 2 ∧ (x.table < 3 ∨ tblSize x.table ≤ x.index ∨ (x.table = 5 ∧ 5 ≤ nb x.entry 2 0))) ∧
    (∃ (d : Dev) (c : Nat) (x : TblDesc), c < 2 ∧ x.wf = true ∧ d.ringBusy c = true ∧ x.own = true ∧ d.running ⟨.flush, c, 0⟩ = false ∧ d.pw.halted = false ∧ x.ue ≠ 1 ∧ x.ue ≠ 2 ∧ 3 ≤ x.table ∧ x.index < tblSize x.table ∧ (x.table = 5 → nb x.entry 2 0 < 5) ∧ namesReserved x.table (dmaWhole x) = true) ∧
    (∃ (d : Dev) (c : Nat) (x : TblDesc), c < 2 ∧ x.wf = true ∧ d.ringBusy c = true ∧ x.own = true ∧ d.running ⟨.flush, c, 0⟩ = false ∧ d.pw.halted = false ∧ x.ue ≠ 1 ∧ x.ue ≠ 2 ∧ 3 ≤ x.table ∧ x.index < tblSize x.table ∧ (x.table = 5 → nb x.entry 2 0 < 5) ∧ namesReserved x.table (dmaWhole x) = false) :=
  ⟨⟨(({ wit with fwd := { wit.fwd with tab := [(262144, 2 ^ 84)], locks := List.replicate 16 (1, 0) } } : Dev).put (TBL_RING_CTRL_en 0) 1).put (TBL_RING_TAIL_index 0) 1, 0, _, ⟨true, false, 0, 0, 0, 0, 0, 0⟩, by decide +kernel, by decide +kernel, by decide +kernel, by decide +kernel, by decide +kernel, by decide +kernel, by decide +kernel, by decide +kernel, by decide +kernel, rfl, by decide +kernel, by decide +kernel⟩,
   ⟨(wit.put (TBL_RING_CTRL_en 0) 1).put (TBL_RING_TAIL_index 0) 1, 0, ⟨true, false, 0, (2 ^ 19 - 1), 0, 0, 0, 0⟩, by decide +kernel, by decide +kernel, by decide +kernel, by decide +kernel, by decide +kernel, by decide +kernel, by decide +kernel, by decide +kernel, by decide +kernel⟩,
   ⟨(wit.put (TBL_RING_CTRL_en 0) 1).put (TBL_RING_TAIL_index 0) 1, 0, ⟨true, false, 0, 0, 0, 0, 0, 0⟩, by decide +kernel, by decide +kernel, by decide +kernel, by decide +kernel, by decide +kernel, by decide +kernel, by decide +kernel, by decide +kernel, by decide +kernel⟩,
   ⟨(wit.put (TBL_RING_CTRL_en 0) 1).put (TBL_RING_TAIL_index 0) 1, 0, ⟨true, false, 5, 0, (127 * 2 ^ 256 + 62), 0, 0, 0⟩, by decide +kernel, by decide +kernel, by decide +kernel, by decide +kernel, by decide +kernel, by decide +kernel, by decide +kernel, by decide +kernel, by decide +kernel, by decide +kernel, by decide +kernel, by decide +kernel⟩,
   ⟨(wit.put (TBL_RING_CTRL_en 0) 1).put (TBL_RING_TAIL_index 0) 1, 0, ⟨true, false, 3, 1, 0, 0, 0, 0⟩, by decide +kernel, by decide +kernel, by decide +kernel, by decide +kernel, by decide +kernel, by decide +kernel, by decide +kernel, by decide +kernel, by decide +kernel, by decide +kernel, by decide +kernel, by decide +kernel⟩⟩

/-- The hypotheses of `Obligations.FlushAndLocksAct` hold together, clause by clause, in 2 parts. -/
theorem test_witness_FlushAndLocksAct_part1 :
    (∃ (d : Dev) (c : Nat) (x : TblDesc), c < 2 ∧ x.wf = true ∧ d.ringBusy c = true ∧ x.own = true ∧ d.running ⟨.flush, c, 0⟩ = false ∧ d.pw.halted = true) ∧
    (∃ (d : Dev) (c : Nat) (x : TblDesc), c < 2 ∧ x.wf = true ∧ d.ringBusy c = true ∧ x.own = true ∧ d.running ⟨.flush, c, 0⟩ = false ∧ d.pw.halted = false ∧ x.ue = 1) ∧
    (∃ (d : Dev) (c : Nat) (x : TblDesc), c < 2 ∧ x.wf = true ∧ d.ringBusy c = true ∧ x.own = true ∧ d.running ⟨.flush, c, 0⟩ = false ∧ d.pw.halted = false ∧ x.ue ≠ 1 ∧ x.table ≠ 0) ∧
    (∃ (d : Dev) (y : Dev) (c : Nat) (x : TblDesc), c < 2 ∧ x.wf = true ∧ d.ringBusy c = true ∧ x.own = true ∧ d.running ⟨.flush, c, 0⟩ = false ∧ d.pw.halted = false ∧ x.ue ≠ 1 ∧ x.table = 0 ∧ y = d.armIn ⟨.flush, c, 0⟩ (msT 2)) ∧
    (∃ (d : Dev) (c : Nat) (x : TblDesc) (op : Instr), c < 2 ∧ x.wf = true ∧ d.running ⟨.flush, c, 0⟩ = true ∧ (op ∈ [.tblInsert c x, .tblUpdate c x, .tblDelete c x, .tblLookup c x, .tblReadIdx c x, .tblWriteIdx c x, .tblReadLock c x, .tblWriteUnlock c x, .tblUnlock c x, .tblEpoch c x, .tblFlush c x])) ∧
    (∃ (d : Dev) (y : Dev) (c : Nat) (e : Nat) (f : Flush), c < 2 ∧ d.due ⟨.flush, c, 0⟩ = some e ∧ d.fwd.flushes.find? (fun f => f.ring == c) = some f ∧ y = ({ d.cancel ⟨.flush, c, 0⟩ with fwd := { d.fwd with flushes := d.fwd.flushes.filter (fun f => f.ring != c) } } : Dev) ∧ f.desc.ue = 2) :=
  ⟨⟨(({ wit with pw := { wit.pw with halted := true } } : Dev).put (TBL_RING_CTRL_en 0) 1).put (TBL_RING_TAIL_index 0) 1, 0, ⟨true, false, 0, 0, 0, 0, 0, 0⟩, by decide +kernel, by decide +kernel, by decide +kernel, by decide +kernel, by decide +kernel, by decide +kernel⟩,
   ⟨(wit.put (TBL_RING_CTRL_en 0) 1).put (TBL_RING_TAIL_index 0) 1, 0, ⟨true, false, 0, 0, 0, 0, 1, 0⟩, by decide +kernel, by decide +kernel, by decide +kernel, by decide +kernel, by decide +kernel, by decide +kernel, by decide +kernel⟩,
   ⟨(wit.put (TBL_RING_CTRL_en 0) 1).put (TBL_RING_TAIL_index 0) 1, 0, ⟨true, false, 1, 0, 0, 0, 0, 0⟩, by decide +kernel, by decide +kernel, by decide +kernel, by decide +kernel, by decide +kernel, by decide +kernel, by decide +kernel, by decide +kernel⟩,
   ⟨(wit.put (TBL_RING_CTRL_en 0) 1).put (TBL_RING_TAIL_index 0) 1, _, 0, ⟨true, false, 0, 0, 0, 0, 0, 0⟩, by decide +kernel, by decide +kernel, by decide +kernel, by decide +kernel, by decide +kernel, by decide +kernel, by decide +kernel, by decide +kernel, rfl⟩,
   ⟨(((wit.arm ⟨.flush, 0, 0⟩ 10).put (TBL_RING_CTRL_en 0) 1).put (TBL_RING_TAIL_index 0) 1).arm ⟨.flush, 0, 0⟩ 10, 0, ⟨true, false, 0, 0, 0, 0, 0, 0⟩, (.tblFlush 0 ⟨true, false, 0, 0, 0, 0, 0, 0⟩), by decide +kernel, by decide +kernel, by decide +kernel, by decide +kernel⟩,
   ⟨(({ wit with fwd := { wit.fwd with flushes := [⟨0, ⟨true, false, 0, 0, 0, 0, 2, 0⟩⟩] } } : Dev).arm ⟨.flush, 0, 0⟩ 10).arm ⟨.flush, 0, 0⟩ 10, _, 0, 10, _, by decide +kernel, by decide +kernel, rfl, rfl, by decide +kernel⟩⟩

/-- The same, part 2. -/
theorem test_witness_FlushAndLocksAct_part2 :
    (∃ (d : Dev) (y : Dev) (z : Dev) (i : Initiator) (c : Nat) (e : Nat) (t : Nat) (f : Flush) (hits : List Nat), c < 2 ∧ d.due ⟨.flush, c, 0⟩ = some e ∧ d.fwd.flushes.find? (fun f => f.ring == c) = some f ∧ y = ({ d.cancel ⟨.flush, c, 0⟩ with fwd := { d.fwd with flushes := d.fwd.flushes.filter (fun f => f.ring != c) } } : Dev) ∧ f.desc.ue ≠ 2 ∧ hits = ((((y.fwd.tab.filter (fun a => decide (a.1 < 2 ^ 20))).map (fun a => a.1)).filter (fun i => flushMatch f.desc (y.ent 0 i)))).reverse ∧ z = y.each hits (fun i t => if flushMatch f.desc (t.ent 0 i) && !isLocked 0 (t.ent 0 i) then t.remove 0 i else t)) ∧
    (∃ (d : Dev) (y : Dev) (i : Initiator) (c : Nat), c < 2 ∧ d.accepts i = true ∧ y = (if d.locked pgTBL = true then d.lockViol pgTBL i (0x118 + 0x20 * c) 2 else d)) ∧
    (∃ (d : Dev) (c : Nat) (e : Nat) (t : Nat) (k : Nat), c < 2 ∧ t < 3 ∧ k < tblSize t ∧ d.due ⟨.tableLock, t, k⟩ = some e) :=
  ⟨⟨(({ wit with fwd := { wit.fwd with flushes := [⟨0, ⟨true, false, 0, 0, 0, 0, 0, 0⟩⟩] } } : Dev).arm ⟨.flush, 0, 0⟩ 10).arm ⟨.flush, 0, 0⟩ 10, _, _, .host, 0, 10, 0, _, _, by decide +kernel, by decide +kernel, rfl, rfl, by decide +kernel, rfl, rfl⟩,
   ⟨wit, _, .host, 0, by decide +kernel, by decide +kernel, rfl⟩,
   ⟨wit.arm ⟨.tableLock, 0, 0⟩ 10, 0, 10, 0, 0, by decide +kernel, by decide +kernel, by decide +kernel, by decide +kernel⟩⟩

/-- The hypotheses of `Obligations.WindowCommandsAct` hold together, clause by clause, in 3 parts. -/
theorem test_witness_WindowCommandsAct_part1 :
    (∃ (d : Dev) (y : Dev) (i : Initiator) (staged : Bool) (s : Nat) (v : Nat), d.accepts i = true ∧ d.flag TRM_STR_STAT_busy = false ∧ y = d.put TRM_STR_STAT_err 0 ∧ s = y.get TRM_STR_SEL_stream ∧ v = (if staged && y.trm.streamsD.contains s then NMap.get 0 y.trm.streamsS s else y.stream s)) ∧
    (∃ (d : Dev) (y : Dev) (z : Dev) (i : Initiator) (s : Nat), d.accepts i = true ∧ d.flag TRM_STR_STAT_busy = false ∧ y = d.put TRM_STR_STAT_err 0 ∧ s = y.get TRM_STR_SEL_stream ∧ d.locked (winRegs .stream).page = false ∧ z = ({ y with trm := { y.trm with streamsS := NMap.set 0 y.trm.streamsS s (y.readWords TRM_STR_DATA 5), streamsD := y.trm.streamsD.filter (fun e => e != s) ++ [s] } } : Dev)) ∧
    (∃ (d : Dev) (y : Dev) (z : Dev) (i : Initiator) (s : Nat), d.accepts i = true ∧ d.flag TRM_STR_STAT_busy = false ∧ y = d.put TRM_STR_STAT_err 0 ∧ s = y.get TRM_STR_SEL_stream ∧ z = y.each (List.range 8) (fun j t => let t := t.wr (TRM_STR_CNT j) (BitVec.ofNat 32 (NMap.get 0 t.trm.streamCnt (s * 8 + j))); { t with trm := { t.trm with streamCnt := NMap.set 0 t.trm.streamCnt (s * 8 + j) 0 } })) ∧
    (∃ (d : Dev) (y : Dev) (i : Initiator) (staged : Bool) (s : Nat) (n : Nat) (v : Nat), d.accepts i = true ∧ d.flag TRM_SG_STAT_busy = false ∧ y = d.put TRM_SG_STAT_err 0 ∧ s = y.get TRM_SG_SEL_gate ∧ n = y.readWords TRM_SG_DATA 4 ∧ v = (if y.flag TRM_SG_SEL_target then y.gateEnt s (y.get TRM_SG_SEL_bank) (y.get TRM_SG_SEL_entry) else if staged && y.trm.gatesD.contains s then NMap.get 0 y.trm.gatesS s else y.gateRec s)) ∧
    (∃ (d : Dev) (y : Dev) (z : Dev) (i : Initiator) (s : Nat) (n : Nat), d.accepts i = true ∧ d.flag TRM_SG_STAT_busy = false ∧ y = d.put TRM_SG_STAT_err 0 ∧ s = y.get TRM_SG_SEL_gate ∧ n = y.readWords TRM_SG_DATA 4 ∧ d.locked (winRegs .streamGate).page = false ∧ d.flag TRM_SG_SEL_target = true ∧ y.flag TRM_SG_SEL_target = true ∧ (d.gateRun (d.get TRM_SG_SEL_gate)).bankBusy (d.get TRM_SG_SEL_bank) = false ∧ z = ({ y with trm := { y.trm with gateEnt := NMap.set 0 y.trm.gateEnt (s * 128 + y.get TRM_SG_SEL_bank * 64 + y.get TRM_SG_SEL_entry) (n % 2 ^ 37) } } : Dev)) ∧
    (∃ (d : Dev) (y : Dev) (i : Initiator) (s : Nat) (n : Nat), d.accepts i = true ∧ d.flag TRM_SG_STAT_busy = false ∧ y = d.put TRM_SG_STAT_err 0 ∧ s = y.get TRM_SG_SEL_gate ∧ n = y.readWords TRM_SG_DATA 4 ∧ d.locked (winRegs .streamGate).page = false ∧ d.flag TRM_SG_SEL_target = true ∧ y.flag TRM_SG_SEL_target = true ∧ (d.gateRun (d.get TRM_SG_SEL_gate)).bankBusy (d.get TRM_SG_SEL_bank) = true) :=
  ⟨⟨wit.put TRM_STR_STAT_busy 0, _, .host, true, _, _, by decide +kernel, by decide +kernel, rfl, rfl, rfl⟩,
   ⟨wit.put TRM_STR_STAT_busy 0, _, _, .host, _, by decide +kernel, by decide +kernel, rfl, rfl, by decide +kernel, rfl⟩,
   ⟨wit.put TRM_STR_STAT_busy 0, _, _, .host, _, by decide +kernel, by decide +kernel, rfl, rfl, rfl⟩,
   ⟨wit.put TRM_SG_STAT_busy 0, _, .host, true, _, _, _, by decide +kernel, by decide +kernel, rfl, rfl, rfl, rfl⟩,
   ⟨((wit.put TRM_SG_STAT_busy 0).put TRM_SG_SEL_target 1).put TRM_SG_SEL_target 1, _, _, .host, _, _, by decide +kernel, by decide +kernel, rfl, rfl, rfl, by decide +kernel, by decide +kernel, by decide +kernel, by decide +kernel, rfl⟩,
   ⟨(((({ wit with trm := { wit.trm with gateRun := [(0, { cur := some ⟨0, 1, 1000, 0, 0⟩ })] } } : Dev).put TRM_SG_STAT_busy 0).put TRM_SG_SEL_target 1).put TRM_SG_SEL_target 1).put TRM_SG_SEL_target 1, _, .host, _, _, by decide +kernel, by decide +kernel, rfl, rfl, rfl, by decide +kernel, by decide +kernel, by decide +kernel, by decide +kernel⟩⟩

/-- The same, part 2. -/
theorem test_witness_WindowCommandsAct_part2 :
    (∃ (d : Dev) (y : Dev) (z : Dev) (i : Initiator) (s : Nat) (n : Nat), d.accepts i = true ∧ d.flag TRM_SG_STAT_busy = false ∧ y = d.put TRM_SG_STAT_err 0 ∧ s = y.get TRM_SG_SEL_gate ∧ n = y.readWords TRM_SG_DATA 4 ∧ d.locked (winRegs .streamGate).page = false ∧ d.flag TRM_SG_SEL_target = false ∧ y.flag TRM_SG_SEL_target = false ∧ z = ({ y with trm := { y.trm with gatesS := NMap.set 0 y.trm.gatesS s n, gatesD := y.trm.gatesD.filter (fun e => e != s) ++ [s] } } : Dev)) ∧
    (∃ (d : Dev) (y : Dev) (z : Dev) (i : Initiator) (staged : Bool) (s : Nat) (v : Nat), d.accepts i = true ∧ d.flag TRM_FR_STAT_busy = false ∧ y = d.put TRM_FR_STAT_err 0 ∧ s = y.get TRM_FR_SEL_fn ∧ v = (if staged && y.trm.recsD.contains s then NMap.get 0 y.trm.recsS s else y.recRec s) ∧ z = y.loadWords TRM_FR_DATA 2 v) ∧
    (∃ (d : Dev) (y : Dev) (z : Dev) (i : Initiator) (s : Nat), d.accepts i = true ∧ d.flag TRM_FR_STAT_busy = false ∧ y = d.put TRM_FR_STAT_err 0 ∧ s = y.get TRM_FR_SEL_fn ∧ d.locked (winRegs .recovery).page = false ∧ z = ({ y with trm := { y.trm with recsS := NMap.set 0 y.trm.recsS s (y.readWords TRM_FR_DATA 2), recsD := y.trm.recsD.filter (fun e => e != s) ++ [s] } } : Dev)) ∧
    (∃ (d : Dev) (y : Dev) (z : Dev) (i : Initiator) (s : Nat), d.accepts i = true ∧ d.flag TRM_FR_STAT_busy = false ∧ y = d.put TRM_FR_STAT_err 0 ∧ s = y.get TRM_FR_SEL_fn ∧ z = y.each (List.range 8) (fun j t => let t := t.wr (TRM_FR_CNT j) (BitVec.ofNat 32 (NMap.get 0 t.trm.recCnt (s * 8 + j))); { t with trm := { t.trm with recCnt := NMap.set 0 t.trm.recCnt (s * 8 + j) 0 } })) ∧
    (∃ (d : Dev) (y : Dev) (i : Initiator) (v : Nat), d.accepts i = true ∧ d.flag TRM_GCL_STAT_busy = false ∧ y = d.put TRM_GCL_STAT_err 0 ∧ d.get TRM_GCL_SEL_port ≤ 56 ∧ v = NMap.get 0 y.trm.gcl y.gclSel) ∧
    (∃ (d : Dev) (y : Dev) (z : Dev) (i : Initiator) (v : Nat), d.accepts i = true ∧ d.flag TRM_GCL_STAT_busy = false ∧ y = d.put TRM_GCL_STAT_err 0 ∧ d.locked (winRegs .gcl).page = false ∧ d.get TRM_GCL_SEL_port ≤ 56 ∧ (d.tas (d.get TRM_GCL_SEL_port)).bankBusy (d.get TRM_GCL_SEL_bank) = false ∧ v = y.get TRM_GCL_DATA_LO_interval + y.get TRM_GCL_DATA_HI_gates * 2 ^ 32 + y.get TRM_GCL_DATA_HI_op * 2 ^ 40 ∧ z = ({ y with trm := { y.trm with gcl := NMap.set 0 y.trm.gcl y.gclSel v } } : Dev)) :=
  ⟨⟨((wit.put TRM_SG_STAT_busy 0).put TRM_SG_SEL_target 0).put TRM_SG_SEL_target 0, _, _, .host, _, _, by decide +kernel, by decide +kernel, rfl, rfl, rfl, by decide +kernel, by decide +kernel, by decide +kernel, rfl⟩,
   ⟨wit.put TRM_FR_STAT_busy 0, _, _, .host, true, _, _, by decide +kernel, by decide +kernel, rfl, rfl, rfl, rfl⟩,
   ⟨wit.put TRM_FR_STAT_busy 0, _, _, .host, _, by decide +kernel, by decide +kernel, rfl, rfl, by decide +kernel, rfl⟩,
   ⟨wit.put TRM_FR_STAT_busy 0, _, _, .host, _, by decide +kernel, by decide +kernel, rfl, rfl, rfl⟩,
   ⟨wit.put TRM_GCL_STAT_busy 0, _, .host, _, by decide +kernel, by decide +kernel, rfl, by decide +kernel, rfl⟩,
   ⟨wit.put TRM_GCL_STAT_busy 0, _, _, .host, _, by decide +kernel, by decide +kernel, rfl, by decide +kernel, by decide +kernel, by decide +kernel, rfl, rfl⟩⟩

/-- The same, part 3. -/
theorem test_witness_WindowCommandsAct_part3 :
    (∃ (d : Dev) (y : Dev) (i : Initiator), d.accepts i = true ∧ d.flag TRM_GCL_STAT_busy = false ∧ y = d.put TRM_GCL_STAT_err 0 ∧ 56 < d.get TRM_GCL_SEL_port) ∧
    (∃ (d : Dev) (y : Dev) (i : Initiator), d.accepts i = true ∧ d.flag TRM_GCL_STAT_busy = false ∧ y = d.put TRM_GCL_STAT_err 0 ∧ d.locked (winRegs .gcl).page = false ∧ (56 < d.get TRM_GCL_SEL_port ∨ (d.tas (d.get TRM_GCL_SEL_port)).bankBusy (d.get TRM_GCL_SEL_bank) = true)) ∧
    (∃ (d : Dev) (i : Initiator) (staged : Bool) (c : Instr × Window × Nat), (c ∈ [(.streamRead i staged, .stream, 1), (.streamStage i, .stream, 2), (.streamCountersCopy i, .stream, 3), (.streamGateRead i staged, .streamGate, 1), (.streamGateWrite i, .streamGate, 2), (.recoveryRead i staged, .recovery, 1), (.recoveryStage i, .recovery, 2), (.recoveryCountersCopy i, .recovery, 3), (.gclRead i, .gcl, 1), (.gclWrite i, .gcl, 2)]) ∧ d.accepts i = true ∧ (c.2.2 = 2 → d.locked (winRegs c.2.1).page = false) ∧ d.flag (winRegs c.2.1).busy = true) ∧
    (∃ (d : Dev) (i : Initiator) (c : Instr × Window × Nat), (c ∈ [(.streamStage i, .stream, 2), (.streamGateWrite i, .streamGate, 2), (.recoveryStage i, .recovery, 2), (.gclWrite i, .gcl, 2)]) ∧ d.accepts i = true ∧ d.locked (winRegs c.2.1).page = true) :=
  ⟨⟨(wit.put TRM_GCL_STAT_busy 0).put TRM_GCL_SEL_port 57, _, .host, by decide +kernel, by decide +kernel, rfl, by decide +kernel⟩,
   ⟨(wit.put TRM_GCL_STAT_busy 0).put TRM_GCL_SEL_port 57, _, .host, by decide +kernel, by decide +kernel, rfl, by decide +kernel, by decide +kernel⟩,
   ⟨wit.put TRM_GCL_STAT_busy 1, .host, true, (.gclRead .host, .gcl, 1), by decide +kernel, by decide +kernel, by decide +kernel, by decide +kernel⟩,
   ⟨wit.modPg (winRegs .stream).page (fun s => { s with lockKey := 1 }), .host, (.streamStage .host, .stream, 2), by decide +kernel, by decide +kernel, by decide +kernel⟩⟩

/-- The hypotheses of `Obligations.GatesAct` hold together, clause by clause, in 3 parts. -/
theorem test_witness_GatesAct_part1 :
    (∃ (d : Dev) (y : Dev) (p : EthPort) (g : Nat) (t : Nat) (f : Nat) (r : GateRun) (r' : GateRun) (c : ListCfg) (n : ListCfg) (ent : Nat → Nat → Nat), g < 128 ∧ f < 1024 ∧ r.pend = some n ∧ (∀ c, r.cur = some c → r.holding = false → r.until_ < r.cycle0 + c.cycle → n.start ≤ r.until_) ∧ r' = { r with cur := some n, cycle0 := n.start, pend := none, holding := false, err := false, entry := 0, until_ := if n.len ≤ 1 then n.start + n.cycle else min (n.start + nb (ent n.bank 0) 31 0) (n.start + n.cycle) } ∧ (∀ c, r.cur = some c → r.holding = false → r.cycle0 + c.cycle ≤ r.until_ → n.start ≤ r.cycle0 + c.cycle) ∧ d.tas p = r ∧ ent = d.gclEnt p ∧ t = n.start - d.tasAdv p ∧ y = d.atNs t ∧ d.pw.halted = false ∧ d.turn (d.turnAt (.gate p) t) = true) ∧
    (∃ (d : Dev) (y : Dev) (p : EthPort) (g : Nat) (t : Nat) (f : Nat) (r : GateRun) (r' : GateRun) (c : ListCfg) (n : ListCfg) (ent : Nat → Nat → Nat), g < 128 ∧ f < 1024 ∧ r.pend = some n ∧ (∀ c, r.cur = some c → r.holding = false → r.until_ < r.cycle0 + c.cycle → n.start ≤ r.until_) ∧ r' = { r with cur := some n, cycle0 := n.start, pend := none, holding := false, err := false, entry := 0, until_ := if n.len ≤ 1 then n.start + n.cycle else min (n.start + nb (ent n.bank 0) 31 0) (n.start + n.cycle) } ∧ (∀ c, r.cur = some c → r.holding = false → r.cycle0 + c.cycle ≤ r.until_ → n.start ≤ r.cycle0 + c.cycle) ∧ d.tas p = r ∧ ent = d.gclEnt p ∧ t = n.start - d.tasAdv p ∧ y = d.atNs t ∧ d.pw.halted = true) ∧
    (∃ (d : Dev) (g : Nat) (f : Nat) (r : GateRun) (r' : GateRun) (c : ListCfg) (n : ListCfg) (ent : Nat → Nat → Nat), g < 128 ∧ f < 1024 ∧ r.pend = some n ∧ (∀ c, r.cur = some c → r.holding = false → r.until_ < r.cycle0 + c.cycle → n.start ≤ r.until_) ∧ r' = { r with cur := some n, cycle0 := n.start, pend := none, holding := false, err := false, entry := 0, until_ := if n.len ≤ 1 then n.start + n.cycle else min (n.start + nb (ent n.bank 0) 31 0) (n.start + n.cycle) } ∧ (∀ c, r.cur = some c → r.holding = false → r.cycle0 + c.cycle ≤ r.until_ → n.start ≤ r.cycle0 + c.cycle) ∧ d.gateRun g = r ∧ ent = d.gateEnt g ∧ d.pw.halted = false ∧ d.turn (d.turnAt (.streamGate g) n.start) = true) ∧
    (∃ (d : Dev) (g : Nat) (f : Nat) (r : GateRun) (r' : GateRun) (c : ListCfg) (n : ListCfg) (ent : Nat → Nat → Nat), g < 128 ∧ f < 1024 ∧ r.pend = some n ∧ (∀ c, r.cur = some c → r.holding = false → r.until_ < r.cycle0 + c.cycle → n.start ≤ r.until_) ∧ r' = { r with cur := some n, cycle0 := n.start, pend := none, holding := false, err := false, entry := 0, until_ := if n.len ≤ 1 then n.start + n.cycle else min (n.start + nb (ent n.bank 0) 31 0) (n.start + n.cycle) } ∧ (∀ c, r.cur = some c → r.holding = false → r.cycle0 + c.cycle ≤ r.until_ → n.start ≤ r.cycle0 + c.cycle) ∧ d.gateRun g = r ∧ ent = d.gateEnt g ∧ d.pw.halted = true) ∧
    (∃ (d : Dev) (y : Dev) (p : EthPort) (g : Nat) (f : Nat) (r : GateRun) (r' : GateRun) (c : ListCfg) (n : ListCfg) (ent : Nat → Nat → Nat), g < 128 ∧ f < 1024 ∧ r.cur = some c ∧ r.holding = false ∧ r.until_ < r.cycle0 + c.cycle ∧ (∀ n, r.pend = some n → r.until_ < n.start) ∧ r' = { r with entry := r.entry + 1, until_ := if c.len ≤ r.entry + 1 + 1 then r.cycle0 + c.cycle else min (r.until_ + nb (ent c.bank (r.entry + 1)) 31 0) (r.cycle0 + c.cycle) } ∧ d.tas p = r ∧ ent = d.gclEnt p ∧ y = d.atNs (r.until_ - d.tasAdv p)) ∧
    (∃ (d : Dev) (g : Nat) (f : Nat) (r : GateRun) (r' : GateRun) (c : ListCfg) (n : ListCfg) (ent : Nat → Nat → Nat), g < 128 ∧ f < 1024 ∧ r.cur = some c ∧ r.holding = false ∧ r.until_ < r.cycle0 + c.cycle ∧ (∀ n, r.pend = some n → r.until_ < n.start) ∧ r' = { r with entry := r.entry + 1, until_ := if c.len ≤ r.entry + 1 + 1 then r.cycle0 + c.cycle else min (r.until_ + nb (ent c.bank (r.entry + 1)) 31 0) (r.cycle0 + c.cycle) } ∧ d.gateRun g = r ∧ ent = d.gateEnt g) :=
  ⟨⟨({ wit with trm := { wit.trm with tas := [(0, { pend := some ⟨0, 1, 1000, 0, 0⟩ })] } } : Dev), _, 0, 0, _, 0, _, _, ⟨0, 1, 1000, 0, 0⟩, ⟨0, 1, 1000, 0, 0⟩, _, by decide +kernel, by decide +kernel, by decide +kernel, by decide +kernel, rfl, by decide +kernel, rfl, rfl, rfl, rfl, by decide +kernel, by decide +kernel⟩,
   ⟨({ wit with trm := { wit.trm with tas := [(0, { pend := some ⟨0, 1, 1000, 0, 0⟩ })] }, pw := { wit.pw with halted := true } } : Dev), _, 0, 0, _, 0, _, _, ⟨0, 1, 1000, 0, 0⟩, ⟨0, 1, 1000, 0, 0⟩, _, by decide +kernel, by decide +kernel, by decide +kernel, by decide +kernel, rfl, by decide +kernel, rfl, rfl, rfl, rfl, by decide +kernel⟩,
   ⟨({ wit with trm := { wit.trm with gateRun := [(0, { pend := some ⟨0, 1, 1000, 0, 0⟩ })] } } : Dev), 0, 0, _, _, ⟨0, 1, 1000, 0, 0⟩, ⟨0, 1, 1000, 0, 0⟩, _, by decide +kernel, by decide +kernel, by decide +kernel, by decide +kernel, rfl, by decide +kernel, rfl, rfl, by decide +kernel, by decide +kernel⟩,
   ⟨({ wit with trm := { wit.trm with gateRun := [(0, { pend := some ⟨0, 1, 1000, 0, 0⟩ })] }, pw := { wit.pw with halted := true } } : Dev), 0, 0, _, _, ⟨0, 1, 1000, 0, 0⟩, ⟨0, 1, 1000, 0, 0⟩, _, by decide +kernel, by decide +kernel, by decide +kernel, by decide +kernel, rfl, by decide +kernel, rfl, rfl, by decide +kernel⟩,
   ⟨({ wit with trm := { wit.trm with tas := [(0, { cur := some ⟨0, 1, 1000, 0, 0⟩ })] } } : Dev), _, 0, 0, 0, _, _, ⟨0, 1, 1000, 0, 0⟩, ⟨0, 1, 1000, 0, 0⟩, _, by decide +kernel, by decide +kernel, by decide +kernel, by decide +kernel, by decide +kernel, by decide +kernel, rfl, rfl, rfl, rfl⟩,
   ⟨({ wit with trm := { wit.trm with gateRun := [(0, { cur := some ⟨0, 1, 1000, 0, 0⟩ })] } } : Dev), 0, 0, _, _, ⟨0, 1, 1000, 0, 0⟩, ⟨0, 1, 1000, 0, 0⟩, _, by decide +kernel, by decide +kernel, by decide +kernel, by decide +kernel, by decide +kernel, by decide +kernel, rfl, rfl, rfl⟩⟩

/-- The same, part 2. -/
theorem test_witness_GatesAct_part2 :
    (∃ (d : Dev) (y : Dev) (p : EthPort) (g : Nat) (t : Nat) (f : Nat) (r : GateRun) (r' : GateRun) (c : ListCfg) (n : ListCfg) (ent : Nat → Nat → Nat), g < 128 ∧ f < 1024 ∧ r.cur = some c ∧ r.holding = false ∧ t = r.cycle0 + c.cycle ∧ t ≤ r.until_ ∧ (∀ n, r.pend = some n → t < n.start) ∧ ((r' = { r with holding := true } ∧ (∃ n, r.pend = some n ∧ n.start - t < n.ext)) ∨ (r' = { r with cycle0 := t, entry := 0, until_ := if c.len ≤ 1 then t + c.cycle else min (t + nb (ent c.bank 0) 31 0) (t + c.cycle) } ∧ (∀ n, r.pend = some n → n.ext ≤ n.start - t))) ∧ d.tas p = r ∧ ent = d.gclEnt p ∧ y = d.atNs (t - d.tasAdv p)) ∧
    (∃ (d : Dev) (g : Nat) (t : Nat) (f : Nat) (r : GateRun) (r' : GateRun) (c : ListCfg) (n : ListCfg) (ent : Nat → Nat → Nat), g < 128 ∧ f < 1024 ∧ r.cur = some c ∧ r.holding = false ∧ t = r.cycle0 + c.cycle ∧ t ≤ r.until_ ∧ (∀ n, r.pend = some n → t < n.start) ∧ ((r' = { r with holding := true } ∧ (∃ n, r.pend = some n ∧ n.start - t < n.ext)) ∨ (r' = { r with cycle0 := t, entry := 0, until_ := if c.len ≤ 1 then t + c.cycle else min (t + nb (ent c.bank 0) 31 0) (t + c.cycle) } ∧ (∀ n, r.pend = some n → n.ext ≤ n.start - t))) ∧ d.gateRun g = r ∧ ent = d.gateEnt g) ∧
    (∃ (d : Dev) (y : Dev) (i : Initiator) (g : Nat) (f : Nat) (v : Word), g < 128 ∧ f < 1024 ∧ d.accepts i = true ∧ d.locked (pgTRM 7) = false ∧ y = ((d.put TRM_CBS_SEL_port (bitsOf v 8 3)).put TRM_CBS_SEL_class (bitsOf v 2 0)).creditPort (bitsOf v 8 3)) ∧
    (∃ (d : Dev) (p : EthPort) (g : Nat) (f : Nat), g < 128 ∧ f < 1024 ∧ d.get (TRM_PRE_STAT_verify p) = 2) ∧
    (∃ (d : Dev) (y : Dev) (z : Dev) (g : Nat) (e : Nat) (f : Nat), g < 128 ∧ f < 1024 ∧ d.due ⟨.recovReset, f, 0⟩ = some e ∧ y = (d.at_ e).cancel ⟨.recovReset, f, 0⟩ ∧ z = y.setRecov f { y.recov f with takeAny := true, history := 0, span := 0 }) ∧
    (∃ (d : Dev) (y : Dev) (z : Dev) (g : Nat) (e : Nat) (t : Nat) (f : Nat), g < 128 ∧ f < 1024 ∧ d.due ⟨.latent, f, 0⟩ = some e ∧ t = e + msT (nb (d.recRec f) 56 41) ∧ y = ((d.at_ e).cancel ⟨.latent, f, 0⟩).arm ⟨.latent, f, 0⟩ t ∧ z = y.setRecov f { y.recov f with passed := 0, discarded := 0 } ∧ (y.recov f).discarded + nb (y.recRec f) 40 25 < (y.recov f).passed) :=
  ⟨⟨({ wit with trm := { wit.trm with tas := [(0, { cur := some ⟨0, 1, 1000, 0, 0⟩, until_ := 1000 })] } } : Dev), _, 0, 0, _, 0, _, _, ⟨0, 1, 1000, 0, 0⟩, ⟨0, 1, 1000, 0, 0⟩, _, by decide +kernel, by decide +kernel, by decide +kernel, by decide +kernel, rfl, by decide +kernel, by decide +kernel, Or.inr ⟨rfl, by decide +kernel⟩, rfl, rfl, rfl⟩,
   ⟨({ wit with trm := { wit.trm with gateRun := [(0, { cur := some ⟨0, 1, 1000, 0, 0⟩, until_ := 1000 })] } } : Dev), 0, _, 0, _, _, ⟨0, 1, 1000, 0, 0⟩, ⟨0, 1, 1000, 0, 0⟩, _, by decide +kernel, by decide +kernel, by decide +kernel, by decide +kernel, rfl, by decide +kernel, by decide +kernel, Or.inr ⟨rfl, by decide +kernel⟩, rfl, rfl⟩,
   ⟨wit, _, .host, 0, 0, 0, by decide +kernel, by decide +kernel, by decide +kernel, by decide +kernel, rfl⟩,
   ⟨wit.put (TRM_PRE_STAT_verify 0) 2, 0, 0, 0, by decide +kernel, by decide +kernel, by decide +kernel⟩,
   ⟨wit.arm ⟨.recovReset, 0, 0⟩ 10, _, _, 0, 10, 0, by decide +kernel, by decide +kernel, by decide +kernel, rfl, rfl⟩,
   ⟨(({ wit with trm := { wit.trm with recov := [(0, { passed := 1000 })] } } : Dev).arm ⟨.latent, 0, 0⟩ 10).arm ⟨.latent, 0, 0⟩ 10, _, _, 0, 10, _, 0, by decide +kernel, by decide +kernel, by decide +kernel, rfl, rfl, rfl, by decide +kernel⟩⟩

/-- The same, part 3. -/
theorem test_witness_GatesAct_part3 :
    ∃ (d : Dev) (y : Dev) (z : Dev) (g : Nat) (e : Nat) (t : Nat) (f : Nat), g < 128 ∧ f < 1024 ∧ d.due ⟨.latent, f, 0⟩ = some e ∧ t = e + msT (nb (d.recRec f) 56 41) ∧ y = ((d.at_ e).cancel ⟨.latent, f, 0⟩).arm ⟨.latent, f, 0⟩ t ∧ z = y.setRecov f { y.recov f with passed := 0, discarded := 0 } ∧ (y.recov f).passed ≤ (y.recov f).discarded + nb (y.recRec f) 40 25 :=
  ⟨wit.arm ⟨.latent, 0, 0⟩ 10, _, _, 0, 10, _, 0, by decide +kernel, by decide +kernel, by decide +kernel, rfl, rfl, rfl, by decide +kernel⟩

/-- The hypotheses of `Obligations.TimeServoActs` hold together, clause by clause, in 3 parts. -/
theorem test_witness_TimeServoActs_part1 :
    (∃ (d : Dev) (y : Dev) (z : Dev) (i : Initiator) (v : Word) (gen : Nat) (slot : Nat) (s : Sample), d.accepts i = true ∧ z = (if d.locked pgTIM = true then d.lockViol pgTIM i 0x150 v.toNat else d) ∧ gen = (if d.locked pgTIM = true then z.get TIM_MEAS_CTL_gen else bitsOf v 15 8) ∧ slot = (if d.locked pgTIM = true then z.get TIM_MEAS_CTL_slot else bitsOf v 5 4) ∧ y = (z.put TIM_MEAS_CTL_gen gen).put TIM_MEAS_CTL_slot slot ∧ s = { e := signed 64 (y.rd64 TIM_MEAS_E_LO TIM_MEAS_E_HI), t := y.rd64 TIM_MEAS_T_LO TIM_MEAS_T_HI, slot := slot, gen := gen, cascade := false } ∧ v.getLsbD 0 = false) ∧
    (∃ (d : Dev) (y : Dev) (z : Dev) (i : Initiator) (v : Word) (gen : Nat) (slot : Nat) (s : Sample), d.accepts i = true ∧ z = (if d.locked pgTIM = true then d.lockViol pgTIM i 0x150 v.toNat else d) ∧ gen = (if d.locked pgTIM = true then z.get TIM_MEAS_CTL_gen else bitsOf v 15 8) ∧ slot = (if d.locked pgTIM = true then z.get TIM_MEAS_CTL_slot else bitsOf v 5 4) ∧ y = (z.put TIM_MEAS_CTL_gen gen).put TIM_MEAS_CTL_slot slot ∧ s = { e := signed 64 (y.rd64 TIM_MEAS_E_LO TIM_MEAS_E_HI), t := y.rd64 TIM_MEAS_T_LO TIM_MEAS_T_HI, slot := slot, gen := gen, cascade := false } ∧ v.getLsbD 0 = true ∧ (z.flag TIM_MEAS_CTL_submit = true ∨ y.get TIM_SRC_src ≠ 1 ∨ slot ≠ y.get TIM_SRC_slot)) ∧
    (∃ (d : Dev) (x : Dev) (y : Dev) (z : Dev) (i : Initiator) (v : Word) (gen : Nat) (slot : Nat) (s : Sample), d.accepts i = true ∧ z = (if d.locked pgTIM = true then d.lockViol pgTIM i 0x150 v.toNat else d) ∧ gen = (if d.locked pgTIM = true then z.get TIM_MEAS_CTL_gen else bitsOf v 15 8) ∧ slot = (if d.locked pgTIM = true then z.get TIM_MEAS_CTL_slot else bitsOf v 5 4) ∧ y = (z.put TIM_MEAS_CTL_gen gen).put TIM_MEAS_CTL_slot slot ∧ s = { e := signed 64 (y.rd64 TIM_MEAS_E_LO TIM_MEAS_E_HI), t := y.rd64 TIM_MEAS_T_LO TIM_MEAS_T_HI, slot := slot, gen := gen, cascade := false } ∧ v.getLsbD 0 = true ∧ z.flag TIM_MEAS_CTL_submit = false ∧ y.get TIM_SRC_src = 1 ∧ slot = y.get TIM_SRC_slot ∧ x = (y.put TIM_MEAS_CTL_submit 1).armIn ⟨.sampleApply, 0, 0⟩ (timT 4)) ∧
    (∃ (d : Dev) (x : Dev) (y : Dev) (e : Nat) (s : Sample), d.due ⟨.sampleApply, 0, 0⟩ = some e ∧ d.tim.sample = some s ∧ x = ({ d.cancel ⟨.sampleApply, 0, 0⟩ with tim := { d.tim with sample := none } } : Dev) ∧ y = (if s.cascade = true then x else x.put TIM_MEAS_CTL_submit 0) ∧ y.sampleRefused s = true) ∧
    (∃ (d : Dev) (x : Dev) (y : Dev) (e : Nat) (s : Sample), d.due ⟨.sampleApply, 0, 0⟩ = some e ∧ d.tim.sample = some s ∧ x = ({ d.cancel ⟨.sampleApply, 0, 0⟩ with tim := { d.tim with sample := none } } : Dev) ∧ y = (if s.cascade = true then x else x.put TIM_MEAS_CTL_submit 0) ∧ y.sampleRefused s = false ∧ s.t < y.tim.tStep) ∧
    (∃ (d : Dev) (x : Dev) (y : Dev) (z : Dev) (e : Nat) (s : Sample) (m : Bool) (rate : Int), d.due ⟨.sampleApply, 0, 0⟩ = some e ∧ d.tim.sample = some s ∧ x = ({ d.cancel ⟨.sampleApply, 0, 0⟩ with tim := { d.tim with sample := none } } : Dev) ∧ y = (if s.cascade = true then x else x.put TIM_MEAS_CTL_submit 0) ∧ y.sampleRefused s = false ∧ y.tim.tStep ≤ s.t ∧ m = (s.gen != y.get TIM_STAT_gen) ∧ rate = (if m = true then y.integ else y.rateQ) ∧ y.get TIM_STAT_state = 2 ∧ m = false ∧ y.get TIM_OUTLIER_ns * 65536 < s.e.natAbs ∧ y.tim.outlRun + 1 < y.get TIM_OUTLIER_cnt ∧ z = ({ y with tim := { y.tim with outlRun := y.tim.outlRun + 1 } } : Dev)) :=
  ⟨⟨wit, _, _, .host, 0, _, _, _, by decide +kernel, rfl, rfl, rfl, rfl, rfl, by decide +kernel⟩,
   ⟨wit, _, _, .host, 1, _, _, _, by decide +kernel, rfl, rfl, rfl, rfl, rfl, by decide +kernel, by decide +kernel⟩,
   ⟨((wit.put TIM_MEAS_CTL_submit 0).put TIM_SRC_src 1).put TIM_SRC_src 1, _, _, _, .host, 1, _, _, _, by decide +kernel, rfl, rfl, rfl, rfl, rfl, by decide +kernel, by decide +kernel, by decide +kernel, by decide +kernel, rfl⟩,
   ⟨(({ wit with tim := { wit.tim with sample := some ⟨0, 0, 0, 0, false⟩ } } : Dev).arm ⟨.sampleApply, 0, 0⟩ 10).arm ⟨.sampleApply, 0, 0⟩ 10, _, _, 10, _, by decide +kernel, rfl, rfl, rfl, by decide +kernel⟩,
   ⟨((({ wit with tim := { wit.tim with tStep := 5, sample := some ⟨0, 0, 0, 0, false⟩ } } : Dev).arm ⟨.sampleApply, 0, 0⟩ 10).put TIM_SRC_src 1).arm ⟨.sampleApply, 0, 0⟩ 10, _, _, 10, _, by decide +kernel, rfl, rfl, rfl, by decide +kernel, by decide +kernel⟩,
   ⟨(((({ wit with tim := { wit.tim with sample := some ⟨1000000 * 65536, 1000, 0, 0, false⟩ } } : Dev).arm ⟨.sampleApply, 0, 0⟩ 10).put TIM_STAT_state 2).put TIM_SRC_src 1).arm ⟨.sampleApply, 0, 0⟩ 10, _, _, _, 10, _, _, _, by decide +kernel, rfl, rfl, rfl, by decide +kernel, by decide +kernel, rfl, rfl, by decide +kernel, by decide +kernel, by decide +kernel, by decide +kernel, rfl⟩⟩

/-- The same, part 2. -/
theorem test_witness_TimeServoActs_part2 :
    (∃ (d : Dev) (u : Dev) (w : Dev) (x : Dev) (y : Dev) (z : Dev) (e : Nat) (s : Sample) (m : Bool) (rate : Int) (iv : Int), d.due ⟨.sampleApply, 0, 0⟩ = some e ∧ d.tim.sample = some s ∧ x = ({ d.cancel ⟨.sampleApply, 0, 0⟩ with tim := { d.tim with sample := none } } : Dev) ∧ y = (if s.cascade = true then x else x.put TIM_MEAS_CTL_submit 0) ∧ y.sampleRefused s = false ∧ y.tim.tStep ≤ s.t ∧ m = (s.gen != y.get TIM_STAT_gen) ∧ rate = (if m = true then y.integ else y.rateQ) ∧ (y.get TIM_STAT_state ≠ 2 ∨ m = true ∨ s.e.natAbs ≤ y.get TIM_OUTLIER_ns * 65536 ∨ y.get TIM_OUTLIER_cnt ≤ y.tim.outlRun + 1) ∧ z = ((({ y with tim := { y.tim with outlRun := 0 } } : Dev).wrapInc ⟨TIM_SAMPLES, 31, 0⟩).put TIM_STAT_gen s.gen).wr TIM_LAST_E (BitVec.ofNat 32 (unsigned 32 (sat32 (s.e / 65536)))) ∧ w = z.armIn ⟨.holdover, 0, 0⟩ (msT (z.get TIM_HOLD_TMO_ms)) ∧ iv = s.t - w.tim.tPrev ∧ w.get TIM_STEP_THR_ns * 65536 ≤ s.e.natAbs ∧ u = (w.servo rate 0).stepTime s.e) ∧
    (∃ (d : Dev) (u : Dev) (w : Dev) (x : Dev) (y : Dev) (z : Dev) (e : Nat) (s : Sample) (m : Bool) (rate : Int) (iv : Int), d.due ⟨.sampleApply, 0, 0⟩ = some e ∧ d.tim.sample = some s ∧ x = ({ d.cancel ⟨.sampleApply, 0, 0⟩ with tim := { d.tim with sample := none } } : Dev) ∧ y = (if s.cascade = true then x else x.put TIM_MEAS_CTL_submit 0) ∧ y.sampleRefused s = false ∧ y.tim.tStep ≤ s.t ∧ m = (s.gen != y.get TIM_STAT_gen) ∧ rate = (if m = true then y.integ else y.rateQ) ∧ (y.get TIM_STAT_state ≠ 2 ∨ m = true ∨ s.e.natAbs ≤ y.get TIM_OUTLIER_ns * 65536 ∨ y.get TIM_OUTLIER_cnt ≤ y.tim.outlRun + 1) ∧ z = ((({ y with tim := { y.tim with outlRun := 0 } } : Dev).wrapInc ⟨TIM_SAMPLES, 31, 0⟩).put TIM_STAT_gen s.gen).wr TIM_LAST_E (BitVec.ofNat 32 (unsigned 32 (sat32 (s.e / 65536)))) ∧ w = z.armIn ⟨.holdover, 0, 0⟩ (msT (z.get TIM_HOLD_TMO_ms)) ∧ iv = s.t - w.tim.tPrev ∧ s.e.natAbs < w.get TIM_STEP_THR_ns * 65536 ∧ u = ({ w with tim := { w.tim with tPrev := s.t } } : Dev) ∧ (m = true ∨ iv ≤ 0 ∨ (u.get TIM_HOLD_TMO_ms : Int) * 1000000 < iv)) ∧
    (∃ (d : Dev) (u : Dev) (w : Dev) (x : Dev) (y : Dev) (z : Dev) (e : Nat) (s : Sample) (m : Bool) (rate : Int) (integ : Int) (r : Int) (iv : Int), d.due ⟨.sampleApply, 0, 0⟩ = some e ∧ d.tim.sample = some s ∧ x = ({ d.cancel ⟨.sampleApply, 0, 0⟩ with tim := { d.tim with sample := none } } : Dev) ∧ y = (if s.cascade = true then x else x.put TIM_MEAS_CTL_submit 0) ∧ y.sampleRefused s = false ∧ y.tim.tStep ≤ s.t ∧ m = (s.gen != y.get TIM_STAT_gen) ∧ rate = (if m = true then y.integ else y.rateQ) ∧ (y.get TIM_STAT_state ≠ 2 ∨ m = true ∨ s.e.natAbs ≤ y.get TIM_OUTLIER_ns * 65536 ∨ y.get TIM_OUTLIER_cnt ≤ y.tim.outlRun + 1) ∧ z = ((({ y with tim := { y.tim with outlRun := 0 } } : Dev).wrapInc ⟨TIM_SAMPLES, 31, 0⟩).put TIM_STAT_gen s.gen).wr TIM_LAST_E (BitVec.ofNat 32 (unsigned 32 (sat32 (s.e / 65536)))) ∧ w = z.armIn ⟨.holdover, 0, 0⟩ (msT (z.get TIM_HOLD_TMO_ms)) ∧ iv = s.t - w.tim.tPrev ∧ s.e.natAbs < w.get TIM_STEP_THR_ns * 65536 ∧ u = ({ w with tim := { w.tim with tPrev := s.t } } : Dev) ∧ m = false ∧ 0 < iv ∧ iv ≤ (u.get TIM_HOLD_TMO_ms : Int) * 1000000 ∧ r = (s.e * 2 ^ 24).tdiv iv ∧ integ = u.clampRate (u.integ + r / 2 ^ u.get TIM_SERVO_CFG_ki)) ∧
    (∃ (d : Dev) (y : Dev) (z : Dev) (e : Nat), d.due ⟨.holdover, 0, 0⟩ = some e ∧ y = (d.at_ e).cancel ⟨.holdover, 0, 0⟩ ∧ z = (y.put TIM_STAT_state 3).raise pgTIM 8 ∧ (y.get TIM_STAT_state = 1 ∨ y.get TIM_STAT_state = 2)) ∧
    (∃ (d : Dev) (y : Dev) (z : Dev) (e : Nat), d.due ⟨.holdover, 0, 0⟩ = some e ∧ y = (d.at_ e).cancel ⟨.holdover, 0, 0⟩ ∧ z = (y.put TIM_STAT_state 3).raise pgTIM 8 ∧ y.get TIM_STAT_state ≠ 1 ∧ y.get TIM_STAT_state ≠ 2) ∧
    (∃ (d : Dev) (y : Dev) (i : Initiator) (rate : Int), d.accepts i = true ∧ (d.get TIM_SRC_src = 0 ∨ d.get TIM_SRC_src = 3) ∧ y = d.at_ (d.now + timT 1) ∧ rate = y.clampRate (signed 32 (y.rd TIM_ADJ_LO).toNat)) :=
  ⟨⟨((({ wit with tim := { wit.tim with sample := some ⟨1000000000 * 65536, 1000, 0, 0, false⟩ } } : Dev).arm ⟨.sampleApply, 0, 0⟩ 10).put TIM_SRC_src 1).arm ⟨.sampleApply, 0, 0⟩ 10, _, _, _, _, _, 10, _, _, _, _, by decide +kernel, rfl, rfl, rfl, by decide +kernel, by decide +kernel, rfl, rfl, by decide +kernel, rfl, rfl, rfl, by decide +kernel, rfl⟩,
   ⟨((({ wit with tim := { wit.tim with sample := some ⟨0, 0, 0, 0, false⟩ } } : Dev).arm ⟨.sampleApply, 0, 0⟩ 10).put TIM_SRC_src 1).arm ⟨.sampleApply, 0, 0⟩ 10, _, _, _, _, _, 10, _, _, _, _, by decide +kernel, rfl, rfl, rfl, by decide +kernel, by decide +kernel, rfl, rfl, by decide +kernel, rfl, rfl, rfl, by decide +kernel, rfl, by decide +kernel⟩,
   ⟨((({ wit with tim := { wit.tim with sample := some ⟨0, 1000, 0, 0, false⟩ } } : Dev).arm ⟨.sampleApply, 0, 0⟩ 10).put TIM_SRC_src 1).arm ⟨.sampleApply, 0, 0⟩ 10, _, _, _, _, _, 10, _, _, _, _, _, _, by decide +kernel, rfl, rfl, rfl, by decide +kernel, by decide +kernel, rfl, rfl, by decide +kernel, rfl, rfl, rfl, by decide +kernel, rfl, by decide +kernel, by decide +kernel, by decide +kernel, rfl, rfl⟩,
   ⟨((wit.arm ⟨.holdover, 0, 0⟩ 10).arm ⟨.holdover, 0, 0⟩ 10).put TIM_STAT_state 1, _, _, 10, by decide +kernel, rfl, rfl, by decide +kernel⟩,
   ⟨wit.arm ⟨.holdover, 0, 0⟩ 10, _, _, 10, by decide +kernel, rfl, rfl, by decide +kernel, by decide +kernel⟩,
   ⟨wit, _, .host, _, by decide +kernel, by decide +kernel, rfl, rfl⟩⟩

/-- The same, part 3. -/
theorem test_witness_TimeServoActs_part3 :
    (∃ (d : Dev) (i : Initiator), d.accepts i = true ∧ d.get TIM_SRC_src ≠ 0 ∧ d.get TIM_SRC_src ≠ 3) ∧
    (∃ (d : Dev) (y : Dev) (i : Initiator) (p : EthPort) (m : Bool), d.accepts i = true ∧ y = (if m = true then d.tsqMismatch p else d) ∧ y.tsqItems p = []) ∧
    (∃ (d : Dev) (y : Dev) (i : Initiator) (n : Nat) (rest : List Nat) (p : EthPort) (m : Bool), d.accepts i = true ∧ y = (if m = true then d.tsqMismatch p else d) ∧ y.tsqItems p = n :: rest) ∧
    (∃ (d : Dev) (i : Initiator), d.accepts i = true ∧ d.locked pgTIM = false) ∧
    (∃ (d : Dev) (i : Initiator), d.accepts i = true ∧ d.locked pgTIM = true) ∧
    (∃ (d : Dev) (y : Dev) (i : Initiator), d.accepts i = true ∧ y = ({ d with tim := { d.tim with tsqCap := NMap.set none d.tim.tsqCap (d.get TIM_TSQ_CAP_SEL_port) none } } : Dev)) :=
  ⟨⟨wit.put TIM_SRC_src 1, .host, by decide +kernel, by decide +kernel, by decide +kernel⟩,
   ⟨wit, _, .host, 0, true, by decide +kernel, rfl, by decide +kernel⟩,
   ⟨({ wit with tim := { wit.tim with tsq := [(0, [0])] } } : Dev), _, .host, _, _, 0, false, by decide +kernel, rfl, rfl⟩,
   ⟨wit, .host, by decide +kernel, by decide +kernel⟩,
   ⟨wit.modPg pgTIM (fun s => { s with lockKey := 1 }), .host, by decide +kernel, by decide +kernel⟩,
   ⟨wit, _, .host, by decide +kernel, rfl⟩⟩

/-- The hypotheses of `Obligations.SlotsAndPinsAct` hold together, clause by clause, in 3 parts. -/
theorem test_witness_SlotsAndPinsAct_part1 :
    (∃ (d : Dev) (i : Initiator) (sl : Slot) (w : Word) (j : Nat), j < 4 ∧ d.accepts i = true ∧ sl.hasWord = true ∧ (sl ≠ .handover ∨ w.getLsbD 31 = false) ∧ d.locked (slotPage sl) = false ∧ w.getLsbD 31 = true ∧ (Sys2Proof.Machine.accepts sl (ctlAction w) = false ∨ badArgs sl w = true ∨ (ctlRearm w = true ∧ (d.slot sl).per < minPeriod sl))) ∧
    (∃ (d : Dev) (i : Initiator) (sl : Slot) (w : Word) (w' : Word) (j : Nat), j < 4 ∧ d.accepts i = true ∧ sl.hasWord = true ∧ (sl ≠ .handover ∨ w.getLsbD 31 = false) ∧ d.locked (slotPage sl) = false ∧ w.getLsbD 31 = true ∧ Sys2Proof.Machine.accepts sl (ctlAction w) = true ∧ badArgs sl w = false ∧ (ctlRearm w = true → minPeriod sl ≤ (d.slot sl).per) ∧ w' = BitVec.ofNat 32 (2 ^ 31 + (if ctlRearm w then 2 ^ 30 else 0) + (if (d.slot sl).ctl.getLsbD 29 then 2 ^ 29 else 0) + bitsOf w 27 0)) ∧
    (∃ (d : Dev) (i : Initiator) (sl : Slot) (w : Word) (j : Nat), j < 4 ∧ d.accepts i = true ∧ sl.hasWord = true ∧ (sl ≠ .handover ∨ w.getLsbD 31 = false) ∧ d.locked (slotPage sl) = false ∧ w.getLsbD 31 = false ∧ d.begun sl = true) ∧
    (∃ (d : Dev) (z : Dev) (i : Initiator) (sl : Slot) (w : Word) (w' : Word) (j : Nat), j < 4 ∧ d.accepts i = true ∧ sl.hasWord = true ∧ (sl ≠ .handover ∨ w.getLsbD 31 = false) ∧ d.locked (slotPage sl) = false ∧ w.getLsbD 31 = false ∧ d.begun sl = false ∧ w' = BitVec.ofNat 32 ((if ctlRearm w then 2 ^ 30 else 0) + ((if (d.slot sl).ctl.getLsbD 29 then 2 ^ 29 else 0) + (if (d.slot sl).ctl.getLsbD 28 then 2 ^ 28 else 0)) + bitsOf w 27 0) ∧ z = (d.setSlot sl { d.slot sl with ctl := w' }).setLate sl none) ∧
    (∃ (d : Dev) (y : Dev) (fin : Dev → Dev) (sl : Slot) (k : TimSlot) (j : Nat) (n : Nat), j < 4 ∧ d.armed sl = true ∧ d.pw.halted = false ∧ d.turn (d.turnAt sl (d.slot sl).time) = true ∧ y = (d.lateTick sl).elim (d.atNs (d.slot sl).time) (fun t => d.atTick t) ∧ fin = (fun t => if (d.lateTick sl).isSome && !d.unowned sl then (t.complete sl true).countLate sl else t.complete sl false) ∧ sl = .tim k ∧ n = y.slotGpio k ∧ ctlAction (d.slot sl).ctl = 0x10) ∧
    (∃ (d : Dev) (y : Dev) (fin : Dev → Dev) (sl : Slot) (k : TimSlot) (j : Nat) (n : Nat), j < 4 ∧ d.armed sl = true ∧ d.pw.halted = false ∧ d.turn (d.turnAt sl (d.slot sl).time) = true ∧ y = (d.lateTick sl).elim (d.atNs (d.slot sl).time) (fun t => d.atTick t) ∧ fin = (fun t => if (d.lateTick sl).isSome && !d.unowned sl then (t.complete sl true).countLate sl else t.complete sl false) ∧ sl = .tim k ∧ n = y.slotGpio k ∧ ctlAction (d.slot sl).ctl = 0x11) :=
  ⟨⟨wit, .host, (.tim 0), 0x80000001, 0, by decide +kernel, by decide +kernel, by decide +kernel, by decide +kernel, by decide +kernel, by decide +kernel, by decide +kernel⟩,
   ⟨wit, .host, (.tim 0), 0x80000000, _, 0, by decide +kernel, by decide +kernel, by decide +kernel, by decide +kernel, by decide +kernel, by decide +kernel, by decide +kernel, by decide +kernel, by decide +kernel, rfl⟩,
   ⟨wit.wr (TIM_SL_CTL 0) 0x80000010, .host, (.tim 0), 0, 0, by decide +kernel, by decide +kernel, by decide +kernel, by decide +kernel, by decide +kernel, by decide +kernel, by decide +kernel⟩,
   ⟨wit, _, .host, .tim 0, 0, _, 0, by decide +kernel, by decide +kernel, by decide +kernel, by decide +kernel, by decide +kernel, by decide +kernel, by decide +kernel, rfl, rfl⟩,
   ⟨wit.wr (TIM_SL_CTL 0) 0x80000010, _, _, (.tim 0), 0, 0, _, by decide +kernel, by decide +kernel, by decide +kernel, by decide +kernel, rfl, rfl, by decide +kernel, rfl, by decide +kernel⟩,
   ⟨wit.wr (TIM_SL_CTL 0) 0x80000011, _, _, (.tim 0), 0, 0, _, by decide +kernel, by decide +kernel, by decide +kernel, by decide +kernel, rfl, rfl, by decide +kernel, rfl, by decide +kernel⟩⟩

/-- The same, part 2. -/
theorem test_witness_SlotsAndPinsAct_part2 :
    (∃ (d : Dev) (y : Dev) (fin : Dev → Dev) (sl : Slot) (k : TimSlot) (j : Nat) (n : Nat), j < 4 ∧ d.armed sl = true ∧ d.pw.halted = false ∧ d.turn (d.turnAt sl (d.slot sl).time) = true ∧ y = (d.lateTick sl).elim (d.atNs (d.slot sl).time) (fun t => d.atTick t) ∧ fin = (fun t => if (d.lateTick sl).isSome && !d.unowned sl then (t.complete sl true).countLate sl else t.complete sl false) ∧ sl = .tim k ∧ n = y.slotGpio k ∧ ctlAction (d.slot sl).ctl = 0x12) ∧
    (∃ (d : Dev) (y : Dev) (fin : Dev → Dev) (sl : Slot) (k : TimSlot) (j : Nat) (n : Nat), j < 4 ∧ d.armed sl = true ∧ d.pw.halted = false ∧ d.turn (d.turnAt sl (d.slot sl).time) = true ∧ y = (d.lateTick sl).elim (d.atNs (d.slot sl).time) (fun t => d.atTick t) ∧ fin = (fun t => if (d.lateTick sl).isSome && !d.unowned sl then (t.complete sl true).countLate sl else t.complete sl false) ∧ sl = .tim k ∧ n = y.slotGpio k ∧ ctlAction (d.slot sl).ctl = 0x13 ∧ y.bit TIM_GPIO_OWN n = true) ∧
    (∃ (d : Dev) (y : Dev) (fin : Dev → Dev) (sl : Slot) (k : TimSlot) (j : Nat) (n : Nat), j < 4 ∧ d.armed sl = true ∧ d.pw.halted = false ∧ d.turn (d.turnAt sl (d.slot sl).time) = true ∧ y = (d.lateTick sl).elim (d.atNs (d.slot sl).time) (fun t => d.atTick t) ∧ fin = (fun t => if (d.lateTick sl).isSome && !d.unowned sl then (t.complete sl true).countLate sl else t.complete sl false) ∧ sl = .tim k ∧ n = y.slotGpio k ∧ ctlAction (d.slot sl).ctl = 0x13 ∧ y.bit TIM_GPIO_OWN n = false) ∧
    (∃ (d : Dev) (y : Dev) (fin : Dev → Dev) (sl : Slot) (k : TimSlot) (j : Nat) (n : Nat), j < 4 ∧ d.armed sl = true ∧ d.pw.halted = false ∧ d.turn (d.turnAt sl (d.slot sl).time) = true ∧ y = (d.lateTick sl).elim (d.atNs (d.slot sl).time) (fun t => d.atTick t) ∧ fin = (fun t => if (d.lateTick sl).isSome && !d.unowned sl then (t.complete sl true).countLate sl else t.complete sl false) ∧ sl = .tim k ∧ n = y.slotGpio k ∧ ctlAction (d.slot sl).ctl = 0x14) ∧
    (∃ (d : Dev) (y : Dev) (fin : Dev → Dev) (sl : Slot) (j : Nat), j < 4 ∧ d.armed sl = true ∧ d.pw.halted = false ∧ d.turn (d.turnAt sl (d.slot sl).time) = true ∧ y = (d.lateTick sl).elim (d.atNs (d.slot sl).time) (fun t => d.atTick t) ∧ fin = (fun t => if (d.lateTick sl).isSome && !d.unowned sl then (t.complete sl true).countLate sl else t.complete sl false) ∧ sl.hasWord = true ∧ sl.wf = true ∧ ctlAction (d.slot sl).ctl = 0) ∧
    (∃ (d : Dev) (sl : Slot) (j : Nat), j < 4 ∧ d.pw.halted = true ∧ sl.hasWord = true ∧ sl.wf = true ∧ d.armed sl = true) :=
  ⟨⟨wit.wr (TIM_SL_CTL 0) 0x80000012, _, _, (.tim 0), 0, 0, _, by decide +kernel, by decide +kernel, by decide +kernel, by decide +kernel, rfl, rfl, by decide +kernel, rfl, by decide +kernel⟩,
   ⟨(wit.wr (TIM_SL_CTL 0) 0x80000013).wr TIM_GPIO_OWN 0xFFFFFFFF, _, _, (.tim 0), 0, 0, _, by decide +kernel, by decide +kernel, by decide +kernel, by decide +kernel, rfl, rfl, by decide +kernel, rfl, by decide +kernel, by decide +kernel⟩,
   ⟨wit.wr (TIM_SL_CTL 0) 0x80000013, _, _, (.tim 0), 0, 0, _, by decide +kernel, by decide +kernel, by decide +kernel, by decide +kernel, rfl, rfl, by decide +kernel, rfl, by decide +kernel, by decide +kernel⟩,
   ⟨wit.wr (TIM_SL_CTL 0) 0x80000014, _, _, (.tim 0), 0, 0, _, by decide +kernel, by decide +kernel, by decide +kernel, by decide +kernel, rfl, rfl, by decide +kernel, rfl, by decide +kernel⟩,
   ⟨wit.wr (TIM_SL_CTL 0) 0x80000000, _, _, (.tim 0), 0, by decide +kernel, by decide +kernel, by decide +kernel, by decide +kernel, rfl, rfl, by decide +kernel, by decide +kernel, by decide +kernel⟩,
   ⟨({ wit with pw := { wit.pw with halted := true } } : Dev).wr (TIM_SL_CTL 0) 0x80000010, (.tim 0), 0, by decide +kernel, by decide +kernel, by decide +kernel, by decide +kernel, by decide +kernel⟩⟩

/-- The same, part 3. -/
theorem test_witness_SlotsAndPinsAct_part3 :
    (∃ (d : Dev) (g : Gpio) (e : Nat) (j : Nat), j < 4 ∧ d.due ⟨.pulse, g, 0⟩ = some e) ∧
    (∃ (d : Dev) (y : Dev) (i : Initiator) (w : Word) (g : Gpio) (j : Nat), j < 4 ∧ d.accepts i = true ∧ d.locked pgTIM = false ∧ y = d.each ((List.range 24).filter (fun g => !bitAt (bitsOf w 23 0) g)) (fun g t => { t.cancel ⟨.pulse, g, 0⟩ with tim := { t.tim with gpio := setBitTo t.tim.gpio g false } })) ∧
    (∃ (d : Dev) (g : Gpio) (j : Nat) (rising : Bool) (wanted : Bool), j < 4 ∧ wanted = (d.flag (TIM_CAP_CFG_en j) && d.get (TIM_CAP_CFG_gpio j) == g.val && !d.bit TIM_GPIO_OWN g && (d.get (TIM_CAP_CFG_edge j) == 2 || (d.get (TIM_CAP_CFG_edge j) == 0 && rising) || (d.get (TIM_CAP_CFG_edge j) == 1 && !rising))) ∧ (∀ j', j' < 4 → j' ≠ j → d.flag (TIM_CAP_CFG_en j') = false) ∧ wanted = false) ∧
    (∃ (d : Dev) (y : Dev) (g : Gpio) (j : Nat) (n : Nat) (rising : Bool) (wanted : Bool), j < 4 ∧ wanted = (d.flag (TIM_CAP_CFG_en j) && d.get (TIM_CAP_CFG_gpio j) == g.val && !d.bit TIM_GPIO_OWN g && (d.get (TIM_CAP_CFG_edge j) == 2 || (d.get (TIM_CAP_CFG_edge j) == 0 && rising) || (d.get (TIM_CAP_CFG_edge j) == 1 && !rising))) ∧ (∀ j', j' < 4 → j' ≠ j → d.flag (TIM_CAP_CFG_en j') = false) ∧ wanted = true ∧ n = NMap.get 0 d.tim.lastEdge j ∧ y = ({ d with tim := { d.tim with lastEdge := NMap.set 0 d.tim.lastEdge j d.now } } : Dev) ∧ (∀ j', j' < 4 → j' ≠ j → y.flag (TIM_CAP_CFG_en j') = false) ∧ n ≠ 0 ∧ d.now < n + nsT 20) ∧
    (∃ (d : Dev) (y : Dev) (z : Dev) (g : Gpio) (j : Nat) (n : Nat) (rising : Bool) (wanted : Bool), j < 4 ∧ wanted = (d.flag (TIM_CAP_CFG_en j) && d.get (TIM_CAP_CFG_gpio j) == g.val && !d.bit TIM_GPIO_OWN g && (d.get (TIM_CAP_CFG_edge j) == 2 || (d.get (TIM_CAP_CFG_edge j) == 0 && rising) || (d.get (TIM_CAP_CFG_edge j) == 1 && !rising))) ∧ (∀ j', j' < 4 → j' ≠ j → d.flag (TIM_CAP_CFG_en j') = false) ∧ wanted = true ∧ n = NMap.get 0 d.tim.lastEdge j ∧ y = ({ d with tim := { d.tim with lastEdge := NMap.set 0 d.tim.lastEdge j d.now } } : Dev) ∧ (∀ j', j' < 4 → j' ≠ j → y.flag (TIM_CAP_CFG_en j') = false) ∧ (n = 0 ∨ n + nsT 20 ≤ d.now) ∧ y.tim.capHeld.contains j = true ∧ z = y.count (TIM_CAP_OVR j) ∧ (∀ j', j' < 4 → j' ≠ j → z.flag (TIM_CAP_CFG_en j') = false)) ∧
    (∃ (d : Dev) (y : Dev) (z : Dev) (g : Gpio) (j : Nat) (n : Nat) (rising : Bool) (wanted : Bool), j < 4 ∧ wanted = (d.flag (TIM_CAP_CFG_en j) && d.get (TIM_CAP_CFG_gpio j) == g.val && !d.bit TIM_GPIO_OWN g && (d.get (TIM_CAP_CFG_edge j) == 2 || (d.get (TIM_CAP_CFG_edge j) == 0 && rising) || (d.get (TIM_CAP_CFG_edge j) == 1 && !rising))) ∧ (∀ j', j' < 4 → j' ≠ j → d.flag (TIM_CAP_CFG_en j') = false) ∧ wanted = true ∧ n = NMap.get 0 d.tim.lastEdge j ∧ y = ({ d with tim := { d.tim with lastEdge := NMap.set 0 d.tim.lastEdge j d.now } } : Dev) ∧ (∀ j', j' < 4 → j' ≠ j → y.flag (TIM_CAP_CFG_en j') = false) ∧ (n = 0 ∨ n + nsT 20 ≤ d.now) ∧ y.tim.capHeld.contains j = false ∧ z = y.wr64 (TIM_CAP_T_LO j) (TIM_CAP_T_HI j) ((y.tq - 491520) / 65536 % 2 ^ 64).toNat ∧ (∀ j', j' < 4 → j' ≠ j → (({ z with tim := { z.tim with capHeld := z.tim.capHeld ++ [j] } } : Dev).raise pgTIM 17).flag (TIM_CAP_CFG_en j') = false)) :=
  ⟨⟨wit.arm ⟨.pulse, 0, 0⟩ 10, 0, 10, 0, by decide +kernel, by decide +kernel⟩,
   ⟨wit, _, .host, 0, 0, 0, by decide +kernel, by decide +kernel, by decide +kernel, rfl⟩,
   ⟨wit, 0, 0, true, false, by decide +kernel, by decide +kernel, by decide +kernel, by decide +kernel⟩,
   ⟨((((({ wit with tim := { wit.tim with lastEdge := [(0, 1)] } } : Dev).put (TIM_CAP_CFG_en 0) 1).put (TIM_CAP_CFG_edge 0) 2).put (TIM_CAP_CFG_en 1) 0).put (TIM_CAP_CFG_en 2) 0).put (TIM_CAP_CFG_en 3) 0, _, 0, 0, _, true, _, by decide +kernel, rfl, by decide +kernel, by decide +kernel, rfl, rfl, by decide +kernel, by decide +kernel, by decide +kernel⟩,
   ⟨((((({ wit with tim := { wit.tim with capHeld := [0] } } : Dev).put (TIM_CAP_CFG_en 0) 1).put (TIM_CAP_CFG_edge 0) 2).put (TIM_CAP_CFG_en 1) 0).put (TIM_CAP_CFG_en 2) 0).put (TIM_CAP_CFG_en 3) 0, _, _, 0, 0, _, true, _, by decide +kernel, rfl, by decide +kernel, by decide +kernel, rfl, rfl, by decide +kernel, by decide +kernel, by decide +kernel, rfl, by decide +kernel⟩,
   ⟨((((wit.put (TIM_CAP_CFG_en 0) 1).put (TIM_CAP_CFG_edge 0) 2).put (TIM_CAP_CFG_en 1) 0).put (TIM_CAP_CFG_en 2) 0).put (TIM_CAP_CFG_en 3) 0, _, _, 0, 0, _, true, _, by decide +kernel, rfl, by decide +kernel, by decide +kernel, rfl, rfl, by decide +kernel, by decide +kernel, by decide +kernel, rfl, by decide +kernel⟩⟩

/-- The hypotheses of `Obligations.EthernetLinkActs` hold together, clause by clause, in 3 parts. -/
theorem test_witness_EthernetLinkActs_part1 :
    (∃ (d : Dev) (p : EthPort), d.ready (pgPHY p) = true ∧ d.ready (pgETH p) = true ∧ d.flag (ETH_STAT_link p) = false ∧ d.testing p = false ∧ d.codeLoading p = false ∧ d.running ⟨.train, p, 0⟩ = false) ∧
    (∃ (d : Dev) (u : Dev) (v : Dev) (w : Dev) (x : Dev) (y : Dev) (z : Dev) (p : EthPort) (e : Nat) (s : Nat) (ms : Nat), d.due ⟨.train, p, 0⟩ = some e ∧ y = d.cancel ⟨.train, p, 0⟩ ∧ s = y.get (PHY_CFG_speed p) ∧ z = ((((((y.creditPort p).put (PHY_STAT_link p) 1).put (PHY_STAT_pcs_lock p) 1).put (PHY_STAT_speed p) s).put (PHY_TRAIN_MS_ms p) ms).put (ETH_STAT_link p) 1).put (ETH_STAT_speed p) s ∧ x = (({ z with eth := { z.eth with lastSpeed := NMap.set 6 z.eth.lastSpeed p s } } : Dev).raise (pgETH p) 8).cancel ⟨.linkHold, p, 0⟩ ∧ w = (if x.get (PG_STATE_iso (pgETH p)) = 0 then x.drainOff p else x).verifyStart p ∧ v = (if w.get (ETH_STAT_bp p) = 0 then w else w.fcChanged p) ∧ u = (if v.vox p = true then v.revertStart (p + 4) else v)) ∧
    (∃ (d : Dev) (x : Dev) (y : Dev) (z : Dev) (p : EthPort), d.flag (ETH_STAT_link p) = true ∧ z = (opFrameEnd p false false ((((d.creditPort p).linkGone p).count (ETH_LINK_DOWNS p)).raise (pgETH p) 8)).forgetSent p ∧ y = (((z.cancel ⟨.lpiIdle, p, 0⟩).cancel ⟨.lpiWake, p, 0⟩).cancel ⟨.fcRefresh, p, 0⟩).verifyStart p ∧ x = (if y.vox p = true then (y.peerGone (p + 4)).revertStop (p + 4) else y) ∧ x.get (ETH_LINK_CFG_hold_ms p) = 0) ∧
    (∃ (d : Dev) (x : Dev) (y : Dev) (z : Dev) (p : EthPort), d.flag (ETH_STAT_link p) = true ∧ z = (opFrameEnd p false false ((((d.creditPort p).linkGone p).count (ETH_LINK_DOWNS p)).raise (pgETH p) 8)).forgetSent p ∧ y = (((z.cancel ⟨.lpiIdle, p, 0⟩).cancel ⟨.lpiWake, p, 0⟩).cancel ⟨.fcRefresh, p, 0⟩).verifyStart p ∧ x = (if y.vox p = true then (y.peerGone (p + 4)).revertStop (p + 4) else y) ∧ x.get (ETH_LINK_CFG_hold_ms p) ≠ 0) ∧
    (∃ (d : Dev) (y : Dev) (p : EthPort), d.flag (PHY_STAT_pll p) = true ∧ y = ((d.put (PHY_STAT_pll p) 0).raise (pgPHY p) 10).cancel ⟨.train, p, 0⟩) ∧
    (∃ (d : Dev) (p : EthPort) (e : Nat), d.due ⟨.linkHold, p, 0⟩ = some e) :=
  ⟨⟨witAll.put (ETH_STAT_link 0) 0, 0, by decide +kernel, by decide +kernel, by decide +kernel, by decide +kernel, by decide +kernel, by decide +kernel⟩,
   ⟨wit.arm ⟨.train, 0, 0⟩ 10, _, _, _, _, _, _, 0, 10, _, 0, by decide +kernel, rfl, rfl, rfl, rfl, rfl, rfl, rfl⟩,
   ⟨(wit.put (ETH_STAT_link 0) 1).put (ETH_LINK_CFG_hold_ms 0) 0, _, _, _, 0, by decide +kernel, rfl, rfl, rfl, by decide +kernel⟩,
   ⟨(wit.put (ETH_STAT_link 0) 1).put (ETH_LINK_CFG_hold_ms 0) 1, _, _, _, 0, by decide +kernel, rfl, rfl, rfl, by decide +kernel⟩,
   ⟨wit.put (PHY_STAT_pll 0) 1, _, 0, by decide +kernel, rfl⟩,
   ⟨wit.arm ⟨.linkHold, 0, 0⟩ 10, 0, 10, by decide +kernel⟩⟩

/-- The same, part 2. -/
theorem test_witness_EthernetLinkActs_part2 :
    (∃ (d : Dev) (y : Dev) (p : EthPort) (e : Nat), d.due ⟨.lpiIdle, p, 0⟩ = some e ∧ y = d.at_ e ∧ (y.macUp p = false ∨ (y.tas p).cur.isSome = true ∨ y.get (TRM_PRE_STAT_verify p) = 2 ∨ y.eth.fcWait.contains p.val = true ∨ (highest (fun c => y.ethClass p c false)).isSome = true)) ∧
    (∃ (d : Dev) (x : Dev) (y : Dev) (z : Dev) (p : EthPort) (e : Nat), d.due ⟨.lpiIdle, p, 0⟩ = some e ∧ y = d.at_ e ∧ y.macUp p = true ∧ (y.tas p).cur = none ∧ y.get (TRM_PRE_STAT_verify p) ≠ 2 ∧ y.eth.fcWait.contains p.val = false ∧ highest (fun c => y.ethClass p c false) = none ∧ z = y.cancel ⟨.lpiIdle, p, 0⟩ ∧ x = ({ z with eth := { z.eth with lpi := z.eth.lpi.filter (fun q => q != p.val) ++ [p.val] } } : Dev)) ∧
    (∃ (d : Dev) (y : Dev) (z : Dev) (p : EthPort) (e : Nat), d.due ⟨.lpiWake, p, 0⟩ = some e ∧ y = (d.at_ e).cancel ⟨.lpiWake, p, 0⟩ ∧ z = ({ y with eth := { y.eth with lpi := y.eth.lpi.filter (fun q => q != p.val), waking := y.eth.waking.filter (fun q => q != p.val) } } : Dev)) ∧
    (∃ (d : Dev) (i : Initiator) (p : EthPort), d.accepts i = true ∧ d.testing p = false ∧ d.handedOver (pgPHY p) = true) ∧
    (∃ (d : Dev) (i : Initiator) (p : EthPort), d.accepts i = true ∧ d.testing p = false ∧ d.handedOver (pgPHY p) = false ∧ d.pw.halted = true) ∧
    (∃ (d : Dev) (y : Dev) (i : Initiator) (p : EthPort), d.accepts i = true ∧ d.testing p = false ∧ d.handedOver (pgPHY p) = false ∧ d.pw.halted = false ∧ y = (d.cancel ⟨.train, p, 0⟩).ethDown p) :=
  ⟨⟨wit.arm ⟨.lpiIdle, 0, 0⟩ 10, _, 0, 10, by decide +kernel, rfl, by decide +kernel⟩,
   ⟨((wit.put (ETH_STAT_link 0) 1).put (ETH_STAT_link 0) 1).arm ⟨.lpiIdle, 0, 0⟩ 10, _, _, _, 0, 10, by decide +kernel, rfl, by decide +kernel, by decide +kernel, by decide +kernel, by decide +kernel, by decide +kernel, rfl, rfl⟩,
   ⟨wit.arm ⟨.lpiWake, 0, 0⟩ 10, _, _, 0, 10, by decide +kernel, rfl, rfl⟩,
   ⟨({ wit with upd := { wit.upd with partPort := some 0 } } : Dev), .host, 0, by decide +kernel, by decide +kernel, by decide +kernel⟩,
   ⟨({ wit with pw := { wit.pw with halted := true } } : Dev), .host, 0, by decide +kernel, by decide +kernel, by decide +kernel, by decide +kernel⟩,
   ⟨wit, _, .host, 0, by decide +kernel, by decide +kernel, by decide +kernel, by decide +kernel, rfl⟩⟩

/-- The same, part 3. -/
theorem test_witness_EthernetLinkActs_part3 :
    (∃ (d : Dev) (i : Initiator) (p : EthPort), d.accepts i = true ∧ d.testing p = true) ∧
    (∃ (d : Dev) (y : Dev) (z : Dev) (p : EthPort) (e : Nat) (result : Nat) (dist : Nat), result < 16 ∧ dist < 4096 ∧ d.due ⟨.diag, p, 0⟩ = some e ∧ y = d.cancel ⟨.diag, p, 0⟩ ∧ z = ((y.put (PHY_DIAG_RES_valid p) 1).put (PHY_DIAG_RES_result p) result).put (PHY_DIAG_RES_dist p) (if dist < 10 then 0 else dist)) ∧
    (∃ (d : Dev) (y : Dev) (z : Dev) (p : EthPort) (sqi : Nat) (corr : Nat) (unc : Nat) (pcs : Nat) (lpi : Bool), sqi < 8 ∧ d.flag (PHY_STAT_link p) = true ∧ y = d.add ⟨PHY_PCS_ERR p, 31, 0⟩ pcs ∧ z = (if 40 ≤ p.val then y else ((y.put (PHY_STAT_lpi_rx p) (if lpi then 1 else 0)).add ⟨PHY_FEC_CORR p, 31, 0⟩ corr).add ⟨PHY_FEC_UNC p, 31, 0⟩ unc) ∧ sqi < z.get (PHY_SQI_THR_sqi p) ∧ z.get (PHY_SQI_THR_sqi p) ≤ z.get (PHY_STAT_sqi p)) ∧
    (∃ (d : Dev) (y : Dev) (z : Dev) (p : EthPort) (sqi : Nat) (corr : Nat) (unc : Nat) (pcs : Nat) (lpi : Bool), sqi < 8 ∧ d.flag (PHY_STAT_link p) = true ∧ y = d.add ⟨PHY_PCS_ERR p, 31, 0⟩ pcs ∧ z = (if 40 ≤ p.val then y else ((y.put (PHY_STAT_lpi_rx p) (if lpi then 1 else 0)).add ⟨PHY_FEC_CORR p, 31, 0⟩ corr).add ⟨PHY_FEC_UNC p, 31, 0⟩ unc) ∧ (z.get (PHY_SQI_THR_sqi p) ≤ sqi ∨ z.get (PHY_STAT_sqi p) < z.get (PHY_SQI_THR_sqi p))) ∧
    (∃ (d : Dev) (p : EthPort) (sqi : Nat), sqi < 8 ∧ d.flag (PHY_STAT_link p) = false) ∧
    (∃ (d : Dev) (y : Dev) (i : Initiator) (p : EthPort), d.accepts i = true ∧ y = ({ d with eth := { d.eth with ledger := d.eth.ledger.filter (fun a => a.1 / 64 != p.val) } } : Dev)) :=
  ⟨⟨wit.arm ⟨.diag, 0, 0⟩ 10, .host, 0, by decide +kernel, by decide +kernel⟩,
   ⟨wit.arm ⟨.diag, 0, 0⟩ 10, _, _, 0, 10, 0, 0, by decide +kernel, by decide +kernel, by decide +kernel, rfl, rfl⟩,
   ⟨(((wit.put (PHY_STAT_link 0) 1).put (PHY_STAT_link 0) 1).put (PHY_STAT_sqi 0) 4).put (PHY_SQI_THR_sqi 0) 3, _, _, 0, 2, 0, 0, 0, true, by decide +kernel, by decide +kernel, rfl, rfl, by decide +kernel, by decide +kernel⟩,
   ⟨wit.put (PHY_STAT_link 0) 1, _, _, 0, 0, 0, 0, 0, true, by decide +kernel, by decide +kernel, rfl, rfl, by decide +kernel⟩,
   ⟨wit.put (PHY_STAT_link 0) 0, 0, 0, by decide +kernel, by decide +kernel⟩,
   ⟨wit, _, .host, 0, by decide +kernel, rfl⟩⟩

/-- The hypotheses of `Obligations.FlowControlActs` hold together, clause by clause, in 3 parts. -/
theorem test_witness_FlowControlActs_part1 :
    (∃ (d : Dev) (d' : Dev) (p : EthPort) (q : Nat) (vec : Nat) (times : List Nat), q < 65536 ∧ vec < 256 ∧ times.length = 8 ∧ times.all (fun t => decide (t < 65536)) = true ∧ d.macUp p = true ∧ d.ldgControl p 5 = (true, d')) ∧
    (∃ (d : Dev) (d' : Dev) (p : EthPort) (q : Nat) (vec : Nat) (times : List Nat), q < 65536 ∧ vec < 256 ∧ times.length = 8 ∧ times.all (fun t => decide (t < 65536)) = true ∧ d.macUp p = true ∧ d.ldgControl p 5 = (false, d')) ∧
    (∃ (d : Dev) (d' : Dev) (p : EthPort) (q : Nat) (vec : Nat) (times : List Nat), q < 65536 ∧ vec < 256 ∧ times.length = 8 ∧ times.all (fun t => decide (t < 65536)) = true ∧ d.macUp p = true ∧ d.ldgControl p 6 = (true, d')) ∧
    (∃ (d : Dev) (d' : Dev) (p : EthPort) (q : Nat) (vec : Nat) (times : List Nat), q < 65536 ∧ vec < 256 ∧ times.length = 8 ∧ times.all (fun t => decide (t < 65536)) = true ∧ d.macUp p = true ∧ d.ldgControl p 6 = (false, d')) ∧
    (∃ (d : Dev) (p : EthPort) (q : Nat) (vec : Nat) (times : List Nat), q < 65536 ∧ vec < 256 ∧ times.length = 8 ∧ times.all (fun t => decide (t < 65536)) = true ∧ d.macUp p = true ∧ d.get (PG_STATE_iso (pgETH p)) = 0) ∧
    (∃ (d : Dev) (p : EthPort) (q : Nat) (vec : Nat) (times : List Nat), q < 65536 ∧ vec < 256 ∧ times.length = 8 ∧ times.all (fun t => decide (t < 65536)) = true ∧ d.macUp p = true ∧ d.get (PG_STATE_iso (pgETH p)) ≠ 0) :=
  ⟨⟨wit.put (ETH_STAT_link 0) 1, _, 0, 65535, 255, [0, 0, 0, 0, 0, 0, 0, 65535], by decide +kernel, by decide +kernel, by decide +kernel, by decide +kernel, by decide +kernel, rfl⟩,
   ⟨(wit.put (ETH_STAT_link 0) 1).put (ETH_FC_CFG_rx_ign 0) 1, _, 0, 65535, 255, [0, 0, 0, 0, 0, 0, 0, 65535], by decide +kernel, by decide +kernel, by decide +kernel, by decide +kernel, by decide +kernel, rfl⟩,
   ⟨wit.put (ETH_STAT_link 0) 1, _, 0, 65535, 255, [0, 0, 0, 0, 0, 0, 0, 65535], by decide +kernel, by decide +kernel, by decide +kernel, by decide +kernel, by decide +kernel, rfl⟩,
   ⟨(wit.put (ETH_STAT_link 0) 1).put (ETH_FC_CFG_rx_ign 0) 1, _, 0, 65535, 255, [0, 0, 0, 0, 0, 0, 0, 65535], by decide +kernel, by decide +kernel, by decide +kernel, by decide +kernel, by decide +kernel, rfl⟩,
   ⟨(wit.put (PG_STATE_iso (pgETH 0)) 0).put (ETH_STAT_link 0) 1, 0, 65535, 255, [0, 0, 0, 0, 0, 0, 0, 65535], by decide +kernel, by decide +kernel, by decide +kernel, by decide +kernel, by decide +kernel, by decide +kernel⟩,
   ⟨(wit.put (PG_STATE_iso (pgETH 0)) 1).put (ETH_STAT_link 0) 1, 0, 65535, 255, [0, 0, 0, 0, 0, 0, 0, 65535], by decide +kernel, by decide +kernel, by decide +kernel, by decide +kernel, by decide +kernel, by decide +kernel⟩⟩

/-- The same, part 2. -/
theorem test_witness_FlowControlActs_part2 :
    (∃ (d : Dev) (p : EthPort) (q : Nat) (vec : Nat) (times : List Nat) (op : Instr), q < 65536 ∧ vec < 256 ∧ times.length = 8 ∧ times.all (fun t => decide (t < 65536)) = true ∧ d.macUp p = false ∧ (op ∈ [.pauseReceived p q, .pfcReceived p vec times, .macctlUnknownReceived p])) ∧
    (∃ (d : Dev) (p : EthPort) (c : Sys2Proof.Class) (e : Nat), d.due ⟨.pauseEnd, p, c⟩ = some e) ∧
    (∃ (d : Dev) (y : Dev) (p : EthPort) (e : Nat), d.due ⟨.fcRefresh, p, 0⟩ = some e ∧ y = (d.at_ e).cancel ⟨.fcRefresh, p, 0⟩ ∧ (y.eth.fcWait.contains p.val = true ∨ y.fcState p ≠ 0)) ∧
    (∃ (d : Dev) (y : Dev) (p : EthPort) (e : Nat), d.due ⟨.fcRefresh, p, 0⟩ = some e ∧ y = (d.at_ e).cancel ⟨.fcRefresh, p, 0⟩ ∧ y.eth.fcWait.contains p.val = false ∧ y.fcState p = 0) ∧
    (∃ (d : Dev) (y : Dev) (z : Dev) (p : EthPort) (c : Sys2Proof.Class) (e : Nat), d.due ⟨.pwd, p, c⟩ = some e ∧ y = (((d.at_ e).cancel ⟨.pwd, p, c⟩).count (ETH_PWD_TRIPS p)).raise (pgETH p) 9 ∧ y.get (ETH_PWD_CFG_action p) = 1 ∧ z = y.unpause p c) ∧
    (∃ (d : Dev) (y : Dev) (p : EthPort) (c : Sys2Proof.Class) (e : Nat), d.due ⟨.pwd, p, c⟩ = some e ∧ y = (((d.at_ e).cancel ⟨.pwd, p, c⟩).count (ETH_PWD_TRIPS p)).raise (pgETH p) 9 ∧ y.get (ETH_PWD_CFG_action p) = 2) :=
  ⟨⟨wit, 0, 65535, 255, [0, 0, 0, 0, 0, 0, 0, 65535], (.pauseReceived 0 65535), by decide +kernel, by decide +kernel, by decide +kernel, by decide +kernel, by decide +kernel, by decide +kernel⟩,
   ⟨wit.arm ⟨.pauseEnd, 0, 0⟩ 10, 0, 0, 10, by decide +kernel⟩,
   ⟨(({ wit with eth := { wit.eth with fcWait := [0] } } : Dev).arm ⟨.fcRefresh, 0, 0⟩ 10).arm ⟨.fcRefresh, 0, 0⟩ 10, _, 0, 10, by decide +kernel, rfl, by decide +kernel⟩,
   ⟨wit.arm ⟨.fcRefresh, 0, 0⟩ 10, _, 0, 10, by decide +kernel, rfl, by decide +kernel, by decide +kernel⟩,
   ⟨(wit.arm ⟨.pwd, 0, 0⟩ 10).put (ETH_PWD_CFG_action 0) 1, _, _, 0, 0, 10, by decide +kernel, rfl, by decide +kernel, rfl⟩,
   ⟨(wit.arm ⟨.pwd, 0, 0⟩ 10).put (ETH_PWD_CFG_action 0) 2, _, 0, 0, 10, by decide +kernel, rfl, by decide +kernel⟩⟩

/-- The same, part 3. -/
theorem test_witness_FlowControlActs_part3 :
    (∃ (d : Dev) (y : Dev) (p : EthPort) (c : Sys2Proof.Class) (e : Nat), d.due ⟨.pwd, p, c⟩ = some e ∧ y = (((d.at_ e).cancel ⟨.pwd, p, c⟩).count (ETH_PWD_TRIPS p)).raise (pgETH p) 9 ∧ y.get (ETH_PWD_CFG_action p) ≠ 1 ∧ y.get (ETH_PWD_CFG_action p) ≠ 2) ∧
    (∃ (d : Dev) (y : Dev) (p : EthPort) (c : Sys2Proof.Class) (e : Nat), d.due ⟨.pwdBreak, p, c⟩ = some e ∧ y = (d.at_ e).cancel ⟨.pwdBreak, p, c⟩) :=
  ⟨⟨((wit.arm ⟨.pwd, 0, 0⟩ 10).arm ⟨.pwd, 0, 0⟩ 10).put (ETH_PWD_CFG_action 0) 0, _, 0, 0, 10, by decide +kernel, rfl, by decide +kernel, by decide +kernel⟩,
   ⟨wit.arm ⟨.pwdBreak, 0, 0⟩ 10, _, 0, 0, 10, by decide +kernel, rfl⟩⟩

/-- The hypotheses of `Obligations.CanReceptionAct` hold together, clause by clause, in 4 parts. -/
theorem test_witness_CanReceptionAct_part1 :
    (∃ (d : Dev) (ch : CanCh) (r : BusRecord), r.wf = true ∧ d.canHears ch = false) ∧
    (∃ (d : Dev) (y : Dev) (ch : CanCh) (r : BusRecord) (r' : BusRecord), r.wf = true ∧ d.canHears ch = true ∧ (r' = (if r.fmt < 2 ∧ r.fdf = false then { r with data := r.data.take 8 } else r)) ∧ y = (((d.recDown ch).canConfine ch).touch (canPort ch)).canIdle ch ∧ y.isoed (pgCAN ch) = true) ∧
    (∃ (d : Dev) (x : Dev) (y : Dev) (z : Dev) (ch : CanCh) (r : BusRecord) (r' : BusRecord) (ago : Nat) (t : Nat × Nat) (ue : Option Nat), r.wf = true ∧ d.canHears ch = true ∧ (r' = (if r.fmt < 2 ∧ r.fdf = false then { r with data := r.data.take 8 } else r)) ∧ y = (((d.recDown ch).canConfine ch).touch (canPort ch)).canIdle ch ∧ y.isoed (pgCAN ch) = false ∧ t = y.busTime (canPort ch) ago ∧ z = (if (y.ownHit ch r').isSome then y.ownAlarm ch r' t.1 else y) ∧ x = ue.elim z (fun e => z.mrUe ch (z.get (CAN_LB_FLT_base ch (z.get (CAN_RX_CFG_lbank ch))) + 3 * e))) ∧
    (∃ (d : Dev) (y : Dev) (ch : CanCh) (lec : Nat), lec < 8 ∧ d.canHears ch = true ∧ y = (d.count (CAN_CNT ch 15)).put (CAN_STAT_lec ch) lec) ∧
    (∃ (d : Dev) (ch : CanCh) (lec : Nat), lec < 8 ∧ d.canHears ch = false) ∧
    (∃ (d : Dev) (i : Initiator) (ch : CanCh) (o : Nat), d.accepts i = true ∧ o = d.get (CAN_OBJ_SEL_obj ch) ∧ d.get (CAN_OBJ_CFG_n ch) ≤ o) :=
  ⟨⟨wit, 0, { id := 1, fmt := 0 }, by decide +kernel, by decide +kernel⟩,
   ⟨(({ wit with bus := { wit.bus with inUse := [(2, some 1)] } } : Dev).put (CAN_STAT_state 0) 0).put (PG_STATE_iso (pgCAN 0)) 2, _, 0, { id := 1, fmt := 3 }, _, by decide +kernel, by decide +kernel, rfl, rfl, by decide +kernel⟩,
   ⟨({ witAll with bus := { witAll.bus with inUse := [(2, some 1)] } } : Dev).put (CAN_STAT_state 0) 0, _, _, _, 0, { id := 1, fmt := 3 }, _, 0, _, none, by decide +kernel, by decide +kernel, rfl, rfl, by decide +kernel, rfl, rfl, rfl⟩,
   ⟨((({ wit with bus := { wit.bus with inUse := [(2, some 1)] } } : Dev).put (CAN_STAT_state 0) 0).put (PG_READY_ready (pgCAN 0)) 1).put CLK_STAT_stable 255, _, 0, 7, by decide +kernel, by decide +kernel, rfl⟩,
   ⟨wit, 0, 0, by decide +kernel, by decide +kernel⟩,
   ⟨wit, .host, 0, _, by decide +kernel, rfl, by decide +kernel⟩⟩

/-- The same, part 2. -/
theorem test_witness_CanReceptionAct_part2 :
    (∃ (d : Dev) (x : Dev) (y : Dev) (z : Dev) (i : Initiator) (ch : CanCh) (o : Nat) (a : Nat) (b : Bool) (obj : CanObj), d.accepts i = true ∧ o = d.get (CAN_OBJ_SEL_obj ch) ∧ o < d.get (CAN_OBJ_CFG_n ch) ∧ y = (if d.lockedObj ch = some o then d else d.objRelease ch) ∧ obj = y.canObj ch o ∧ a = y.objAt ch o obj.cur ∧ z = (if b then y.mrUe ch a else y) ∧ x = ((((z.put (CAN_OBJ_STAT_locked ch) 1).put (CAN_OBJ_STAT_new ch) (if obj.unread then 1 else 0)).put (CAN_OBJ_STAT_lost ch) (if obj.lost then 1 else 0)).put (CAN_OBJ_STAT_ue ch) (if b then 1 else 0)).put (CAN_OBJ_STAT_addr ch) a) ∧
    (∃ (d : Dev) (i : Initiator) (ch : CanCh) (o : Nat), d.accepts i = true ∧ o = d.get (CAN_OBJ_SEL_obj ch) ∧ d.lockedObj ch = none) ∧
    (∃ (d : Dev) (i : Initiator) (ch : CanCh) (o : Nat) (k : Nat) (obj : CanObj), d.accepts i = true ∧ o = d.get (CAN_OBJ_SEL_obj ch) ∧ d.lockedObj ch = some k ∧ obj = (if (d.canObj ch k).shadow then { d.canObj ch k with cur := !(d.canObj ch k).cur, unread := true, shadow := false } else d.canObj ch k)) ∧
    (∃ (d : Dev) (i : Initiator) (ch : CanCh) (o : Nat) (v : Word), d.accepts i = true ∧ o = d.get (CAN_OBJ_SEL_obj ch) ∧ v.getLsbD 0 = false ∧ v.getLsbD 1 = false) ∧
    (∃ (d : Dev) (y : Dev) (z : Dev) (i : Initiator) (ch : CanCh) (o : Nat) (k : Nat) (v : Word) (m : Bool), d.accepts i = true ∧ o = d.get (CAN_OBJ_SEL_obj ch) ∧ k < 2 ∧ v.getLsbD k = true ∧ v.getLsbD (1 - k) = false ∧ y = (if m then (d.fifoGone ch k).queueReset 3 ch else d) ∧ z = y.fifoPop ch k) ∧
    (∃ (d : Dev) (i : Initiator) (ch : CanCh) (o : Nat) (v : Word), d.accepts i = true ∧ o = d.get (CAN_OBJ_SEL_obj ch) ∧ v.getLsbD 0 = true ∧ v.getLsbD 1 = true) :=
  ⟨⟨wit.put (CAN_OBJ_CFG_n 0) 1, _, _, _, .host, 0, _, _, true, _, by decide +kernel, rfl, by decide +kernel, rfl, rfl, rfl, rfl, rfl⟩,
   ⟨wit, .host, 0, _, by decide +kernel, rfl, by decide +kernel⟩,
   ⟨({ wit with bus := { wit.bus with lock := [(0, some 0)] } } : Dev), .host, 0, _, _, _, by decide +kernel, rfl, rfl, rfl⟩,
   ⟨wit, .host, 0, _, 0, by decide +kernel, rfl, by decide +kernel, by decide +kernel⟩,
   ⟨wit, _, _, .host, 0, _, 0, 1, true, by decide +kernel, rfl, by decide +kernel, by decide +kernel, by decide +kernel, rfl, rfl⟩,
   ⟨wit, .host, 0, _, 3, by decide +kernel, rfl, by decide +kernel, by decide +kernel⟩⟩

/-- The same, part 3. -/
theorem test_witness_CanReceptionAct_part3 :
    (∃ (d : Dev) (y : Dev) (z : Dev) (i : Initiator) (ch : CanCh) (o : Nat) (a : Nat) (b : Bool), d.accepts i = true ∧ o = d.get (CAN_OBJ_SEL_obj ch) ∧ a = d.get (CAN_MR_ADDR_word ch) ∧ y = (if b then d.mrUe ch a else d) ∧ z = y.put (CAN_MR_ADDR_word ch) (a + 1)) ∧
    (∃ (d : Dev) (i : Initiator) (ch : CanCh) (o : Nat) (a : Nat), d.accepts i = true ∧ o = d.get (CAN_OBJ_SEL_obj ch) ∧ a = d.get (CAN_MR_ADDR_word ch) ∧ d.locked (pgCAN ch) = true) ∧
    (∃ (d : Dev) (i : Initiator) (ch : CanCh) (o : Nat) (a : Nat), d.accepts i = true ∧ o = d.get (CAN_OBJ_SEL_obj ch) ∧ a = d.get (CAN_MR_ADDR_word ch) ∧ d.locked (pgCAN ch) = false ∧ (d.mrLive ch).any (fun e => decide (e.1 ≤ a) && decide (a < e.1 + e.2)) = true) ∧
    (∃ (d : Dev) (i : Initiator) (ch : CanCh) (o : Nat) (a : Nat), d.accepts i = true ∧ o = d.get (CAN_OBJ_SEL_obj ch) ∧ a = d.get (CAN_MR_ADDR_word ch) ∧ d.locked (pgCAN ch) = false ∧ (d.mrLive ch).any (fun e => decide (e.1 ≤ a) && decide (a < e.1 + e.2)) = false) ∧
    (∃ (d : Dev) (ch : CanCh), d.canCur ch = none ∧ d.canHears ch = true) ∧
    (∃ (d : Dev) (ch : CanCh), d.canCur ch = none ∧ d.canHears ch = false) :=
  ⟨⟨wit, _, _, .host, 0, _, _, true, by decide +kernel, rfl, rfl, rfl, rfl⟩,
   ⟨wit.modPg (pgCAN 0) (fun s => { s with lockKey := 1 }), .host, 0, _, _, by decide +kernel, rfl, rfl, by decide +kernel⟩,
   ⟨wit.put (CAN_OBJ_CFG_n 0) 1, .host, 0, _, _, by decide +kernel, rfl, rfl, by decide +kernel, by decide +kernel⟩,
   ⟨wit, .host, 0, _, _, by decide +kernel, rfl, rfl, by decide +kernel, by decide +kernel⟩,
   ⟨({ witAll with bus := { witAll.bus with inUse := [(2, some 1)] } } : Dev).put (CAN_STAT_state 0) 0, 0, by decide +kernel, by decide +kernel⟩,
   ⟨wit, 0, by decide +kernel, by decide +kernel⟩⟩

/-- The same, part 4. -/
theorem test_witness_CanReceptionAct_part4 :
    (∃ (d : Dev) (x : Dev) (y : Dev) (z : Dev) (ch : CanCh), d.canCur ch = none ∧ y = (if d.bus.trxWait.contains ch.val then d.canLatch ch 2 (d.rd (CAN_TRX ch)) else d) ∧ z = (if d.bus.cfgWait.contains ch.val then (y.canLatch ch 0 (y.rd (CAN_CFG ch))).canLatch ch 1 (y.rd (CAN_NBT ch)) else y).cfgInEffect ch.val ∧ x = ({ z with bus := { z.bus with cfgWait := z.bus.cfgWait.filter (fun c => c != ch.val), trxWait := z.bus.trxWait.filter (fun c => c != ch.val) } } : Dev).put (CAN_STAT_busy ch) 0) ∧
    (∃ (d : Dev) (ch : CanCh), d.canCur ch ≠ none) ∧
    (∃ (d : Dev) (ch : CanCh), d.canState ch = 3 ∧ d.chanOn (pgCAN ch) = true) :=
  ⟨⟨wit, _, _, _, 0, by decide +kernel, rfl, rfl, rfl⟩,
   ⟨({ wit with bus := { wit.bus with cur := [(0, some (.draw 0))] } } : Dev), 0, by decide +kernel⟩,
   ⟨witAll, 0, by decide +kernel, by decide +kernel⟩⟩

/-- The hypotheses of `Obligations.CanTransmissionAct` hold together, clause by clause, in 3 parts. -/
theorem test_witness_CanTransmissionAct_part1 :
    (∃ (d : Dev) (x : Dev) (y : Dev) (z : Dev) (ch : CanCh) (b : Bid) (r : BusRecord) (n : Nat), d.canCur ch = some b ∧ d.bidRecord ch b = some r ∧ y = (((d.emit (.busFrame (canPort ch) (d.canForm ch r) d.now)).touch (canPort ch)).count (CAN_CNT ch 9)) ∧ z = y.put (CAN_STAT_tec ch) (((d.emit (.busFrame (canPort ch) (d.canForm ch r) d.now)).touch (canPort ch)).get (CAN_STAT_tec ch) - 1) ∧ (x = (if z.get (CAN_STAT_tec ch) < 128 ∧ z.get (CAN_STAT_rec ch) < 128 then z.put (CAN_STAT_state ch) 0 else z)) ∧ b = .copy n r) ∧
    (∃ (d : Dev) (x : Dev) (y : Dev) (z : Dev) (ch : CanCh) (b : Bid) (r : BusRecord) (w : Draw) (n : Nat), d.canCur ch = some b ∧ d.bidRecord ch b = some r ∧ y = (((d.emit (.busFrame (canPort ch) (d.canForm ch r) d.now)).touch (canPort ch)).count (CAN_CNT ch 9)) ∧ z = y.put (CAN_STAT_tec ch) (((d.emit (.busFrame (canPort ch) (d.canForm ch r) d.now)).touch (canPort ch)).get (CAN_STAT_tec ch) - 1) ∧ (x = (if z.get (CAN_STAT_tec ch) < 128 ∧ z.get (CAN_STAT_rec ch) < 128 then z.put (CAN_STAT_state ch) 0 else z)) ∧ b = .draw n ∧ (x.drawsOf (canPort ch)).find? (fun t : Draw => t.copy.serial == n) = some w ∧ w.place = 0) ∧
    (∃ (d : Dev) (u : Dev) (x : Dev) (y : Dev) (z : Dev) (ch : CanCh) (b : Bid) (r : BusRecord) (w : Draw) (n : Nat), d.canCur ch = some b ∧ d.bidRecord ch b = some r ∧ y = (((d.emit (.busFrame (canPort ch) (d.canForm ch r) d.now)).touch (canPort ch)).count (CAN_CNT ch 9)) ∧ z = y.put (CAN_STAT_tec ch) (((d.emit (.busFrame (canPort ch) (d.canForm ch r) d.now)).touch (canPort ch)).get (CAN_STAT_tec ch) - 1) ∧ (x = (if z.get (CAN_STAT_tec ch) < 128 ∧ z.get (CAN_STAT_rec ch) < 128 then z.put (CAN_STAT_state ch) 0 else z)) ∧ b = .draw n ∧ (x.drawsOf (canPort ch)).find? (fun t : Draw => t.copy.serial == n) = some w ∧ w.place ≠ 0 ∧ u = x.endDraw w) ∧
    (∃ (d : Dev) (y : Dev) (z : Dev) (ch : CanCh) (b : Bid) (r : BusRecord) (lec : Nat) (clash : Bool), lec < 8 ∧ d.canCur ch = some b ∧ y = (d.count (CAN_CNT ch 11)).put (CAN_STAT_lec ch) lec ∧ z = (if clash = true then (y.bidRecord ch b).elim y (fun r => y.clash ch r) else y)) ∧
    (∃ (d : Dev) (y : Dev) (ch : CanCh) (e : Nat), d.due ⟨.boffWait, ch, 0⟩ = some e ∧ y = (d.at_ e).cancel ⟨.boffWait, ch, 0⟩ ∧ y.canState ch = 2) ∧
    (∃ (d : Dev) (y : Dev) (ch : CanCh) (e : Nat), d.due ⟨.boffWait, ch, 0⟩ = some e ∧ y = (d.at_ e).cancel ⟨.boffWait, ch, 0⟩ ∧ y.canState ch ≠ 2) :=
  ⟨⟨({ wit with bus := { wit.bus with cur := [(0, some (.copy 0 { id := 1, fmt := 0 }))] } } : Dev), _, _, _, 0, _, _, _, rfl, rfl, rfl, rfl, rfl, rfl⟩,
   ⟨({ wit with bus := { wit.bus with cur := [(0, some (.draw 0))] }, vlt := { wit.vlt with drawn := [{ q := 0, copy := ⟨1, 64, false, none, none, 0⟩, port := 64, place := 0, record := { id := 1, fmt := 0 } }] } } : Dev), _, _, _, 0, _, _, _, _, rfl, rfl, rfl, rfl, rfl, rfl, rfl, by decide +kernel⟩,
   ⟨({ wit with bus := { wit.bus with cur := [(0, some (.draw 0))] }, vlt := { wit.vlt with drawn := [{ q := 0, copy := ⟨1, 64, false, none, none, 0⟩, port := 64, place := 1, record := { id := 1, fmt := 0 } }] } } : Dev), _, _, _, _, 0, _, _, _, _, rfl, rfl, rfl, rfl, rfl, rfl, rfl, by decide +kernel, rfl⟩,
   ⟨({ wit with bus := { wit.bus with cur := [(0, some (.copy 0 { id := 1, fmt := 0 }))] } } : Dev), _, _, 0, _, { id := 1, fmt := 0 }, 7, true, by decide +kernel, rfl, rfl, rfl⟩,
   ⟨((wit.arm ⟨.boffWait, 0, 0⟩ 10).put (CAN_STAT_state 0) 2).arm ⟨.boffWait, 0, 0⟩ 10, _, 0, 10, by decide +kernel, rfl, by decide +kernel⟩,
   ⟨wit.arm ⟨.boffWait, 0, 0⟩ 10, _, 0, 10, by decide +kernel, rfl, by decide +kernel⟩⟩

/-- The same, part 2. -/
theorem test_witness_CanTransmissionAct_part2 :
    (∃ (d : Dev) (i : Initiator) (ch : CanCh), d.accepts i = true ∧ d.canState ch = 2 ∧ bitsOf (d.canUse ch 0) 16 16 = 0) ∧
    (∃ (d : Dev) (i : Initiator) (ch : CanCh), d.accepts i = true ∧ (d.canState ch ≠ 2 ∨ bitsOf (d.canUse ch 0) 16 16 ≠ 0)) ∧
    (∃ (d : Dev) (y : Dev) (z : Dev) (ch : CanCh), d.canState ch = 2 ∧ d.bus.recovering.contains ch.val = true ∧ y = ((({ d with bus := { d.bus with recovering := d.bus.recovering.filter (fun c => c != ch.val) } } : Dev).put (CAN_STAT_state ch) 0).put (CAN_STAT_tec ch) 0).put (CAN_STAT_rec ch) 0 ∧ z = (y.cancel ⟨.boffWait, ch, 0⟩).cancel ⟨.boffHold, ch, 0⟩) ∧
    (∃ (d : Dev) (y : Dev) (ch : CanCh) (e : Nat), d.due ⟨.boffHold, ch, 0⟩ = some e ∧ y = (d.at_ e).cancel ⟨.boffHold, ch, 0⟩ ∧ y.canState ch = 2) ∧
    (∃ (d : Dev) (y : Dev) (ch : CanCh) (e : Nat), d.due ⟨.boffHold, ch, 0⟩ = some e ∧ y = (d.at_ e).cancel ⟨.boffHold, ch, 0⟩ ∧ y.canState ch ≠ 2) ∧
    (∃ (d : Dev) (z : Dev) (ch : CanCh) (k : TimSlot), d.armed (.can ch k) = true ∧ d.pw.halted = false ∧ ctlAction (d.slot (.can ch k)).ctl = 4 ∧ d.turn (d.turnAt (.can ch k) (d.slot (.can ch k)).time) = true ∧ d.lateTick (.can ch k) = none ∧ z = d.atNs (d.slot (.can ch k)).time ∧ (z.flag (CAN_TO_CFG_en ch k) = false ∨ (z.objDraw ch k = none ∧ (z.flag (CAN_TO_CFG_repeat ch k) = false ∨ z.keptAt ch k = none)))) :=
  ⟨⟨({ wit with bus := { wit.bus with inUse := [(0, some 0)] } } : Dev).put (CAN_STAT_state 0) 2, .host, 0, by decide +kernel, by decide +kernel, by decide +kernel⟩,
   ⟨wit, .host, 0, by decide +kernel, by decide +kernel⟩,
   ⟨({ wit with bus := { wit.bus with recovering := [0] } } : Dev).put (CAN_STAT_state 0) 2, _, _, 0, by decide +kernel, by decide +kernel, rfl, rfl⟩,
   ⟨((wit.arm ⟨.boffHold, 0, 0⟩ 10).put (CAN_STAT_state 0) 2).arm ⟨.boffHold, 0, 0⟩ 10, _, 0, 10, by decide +kernel, rfl, by decide +kernel⟩,
   ⟨wit.arm ⟨.boffHold, 0, 0⟩ 10, _, 0, 10, by decide +kernel, rfl, by decide +kernel⟩,
   ⟨(({ wit with bus := { wit.bus with inUse := [(2, some 1)] } } : Dev).wr (CAN_TO_SL_CTL 0 0) 0x80000004).put (CAN_STAT_state 0) 0, _, 0, 0, by decide +kernel, by decide +kernel, by decide +kernel, by decide +kernel, by decide +kernel, rfl, by decide +kernel⟩⟩

/-- The same, part 3. -/
theorem test_witness_CanTransmissionAct_part3 :
    (∃ (d : Dev) (z : Dev) (ch : CanCh) (k : TimSlot), d.armed (.can ch k) = true ∧ d.pw.halted = false ∧ ctlAction (d.slot (.can ch k)).ctl = 4 ∧ d.turn (d.turnAt (.can ch k) (d.slot (.can ch k)).time) = true ∧ d.lateTick (.can ch k) = none ∧ z = d.atNs (d.slot (.can ch k)).time ∧ z.flag (CAN_TO_CFG_en ch k) = true ∧ ((z.objDraw ch k).isSome = true ∨ (z.flag (CAN_TO_CFG_repeat ch k) = true ∧ (z.keptAt ch k).isSome = true)) ∧ (z.bids ch).contains k.val = true) ∧
    (∃ (d : Dev) (x : Dev) (y : Dev) (z : Dev) (ch : CanCh) (k : TimSlot), d.armed (.can ch k) = true ∧ d.pw.halted = false ∧ ctlAction (d.slot (.can ch k)).ctl = 4 ∧ d.turn (d.turnAt (.can ch k) (d.slot (.can ch k)).time) = true ∧ d.lateTick (.can ch k) = none ∧ z = d.atNs (d.slot (.can ch k)).time ∧ z.flag (CAN_TO_CFG_en ch k) = true ∧ ((z.objDraw ch k).isSome = true ∨ (z.flag (CAN_TO_CFG_repeat ch k) = true ∧ (z.keptAt ch k).isSome = true)) ∧ (z.bids ch).contains k.val = false ∧ y = z.setBids ch (z.bids ch ++ [k.val]) ∧ x = ({ y with bus := { y.bus with copyErrors := NMap.set 0 y.bus.copyErrors (ch * 16 + k) 0 } } : Dev) ∧ (z.canFree ch = false ∨ (z.objDraw ch k).any (fun x => decide (z.now < x.ready)) = true)) ∧
    (∃ (d : Dev) (x : Dev) (y : Dev) (z : Dev) (ch : CanCh) (k : TimSlot) (w : Draw), d.armed (.can ch k) = true ∧ d.pw.halted = false ∧ ctlAction (d.slot (.can ch k)).ctl = 4 ∧ d.turn (d.turnAt (.can ch k) (d.slot (.can ch k)).time) = true ∧ d.lateTick (.can ch k) = none ∧ z = d.atNs (d.slot (.can ch k)).time ∧ z.flag (CAN_TO_CFG_en ch k) = true ∧ ((z.objDraw ch k).isSome = true ∨ (z.flag (CAN_TO_CFG_repeat ch k) = true ∧ (z.keptAt ch k).isSome = true)) ∧ (z.bids ch).contains k.val = false ∧ y = z.setBids ch (z.bids ch ++ [k.val]) ∧ x = ({ y with bus := { y.bus with copyErrors := NMap.set 0 y.bus.copyErrors (ch * 16 + k) 0 } } : Dev) ∧ z.canFree ch = true ∧ z.objDraw ch k = some w ∧ z.now ≥ w.ready ∧ x.objDraw ch k = some w) ∧
    (∃ (d : Dev) (x : Dev) (y : Dev) (z : Dev) (ch : CanCh) (k : TimSlot) (r : BusRecord), d.armed (.can ch k) = true ∧ d.pw.halted = false ∧ ctlAction (d.slot (.can ch k)).ctl = 4 ∧ d.turn (d.turnAt (.can ch k) (d.slot (.can ch k)).time) = true ∧ d.lateTick (.can ch k) = none ∧ z = d.atNs (d.slot (.can ch k)).time ∧ z.flag (CAN_TO_CFG_en ch k) = true ∧ ((z.objDraw ch k).isSome = true ∨ (z.flag (CAN_TO_CFG_repeat ch k) = true ∧ (z.keptAt ch k).isSome = true)) ∧ (z.bids ch).contains k.val = false ∧ y = z.setBids ch (z.bids ch ++ [k.val]) ∧ x = ({ y with bus := { y.bus with copyErrors := NMap.set 0 y.bus.copyErrors (ch * 16 + k) 0 } } : Dev) ∧ z.canFree ch = true ∧ z.objDraw ch k = none ∧ x.objDraw ch k = none ∧ x.keptAt ch k = some r) :=
  ⟨⟨((({ wit with vlt := { wit.vlt with drawn := [{ q := 0, copy := ⟨1, 64, false, none, none, 0⟩, port := 64, place := 1, record := { id := 1, fmt := 0 } }] }, bus := { wit.bus with bidding := [(0, [0])], inUse := [(2, some 1)] } } : Dev).put (CAN_TO_CFG_en 0 0) 1).wr (CAN_TO_SL_CTL 0 0) 0x80000004).put (CAN_STAT_state 0) 0, _, 0, 0, by decide +kernel, by decide +kernel, by decide +kernel, by decide +kernel, by decide +kernel, rfl, by decide +kernel, by decide +kernel, by decide +kernel⟩,
   ⟨(((((({ wit with vlt := { wit.vlt with drawn := [{ q := 0, copy := ⟨1, 64, false, none, none, 0⟩, port := 64, place := 1, record := { id := 1, fmt := 0 } }] }, bus := { wit.bus with inUse := [(2, some 1)] } } : Dev).put (CAN_TO_CFG_en 0 0) 1).put (CAN_TO_CFG_en 0 0) 1).wr (CAN_TO_SL_CTL 0 0) 0x80000004).put (CAN_STAT_state 0) 0).put (PG_READY_ready (pgCAN 0)) 1).put CLK_STAT_stable 255, _, _, _, 0, 0, by decide +kernel, by decide +kernel, by decide +kernel, by decide +kernel, by decide +kernel, rfl, by decide +kernel, by decide +kernel, by decide +kernel, rfl, rfl, by decide +kernel⟩,
   ⟨((((((({ wit with vlt := { wit.vlt with drawn := [{ q := 0, copy := ⟨1, 64, false, none, none, 0⟩, port := 64, place := 1, record := { id := 1, fmt := 0 } }] } } : Dev).put (CAN_TO_CFG_en 0 0) 1).put (CAN_TO_CFG_en 0 0) 1).put (CAN_TRX_mode 0) 0).wr (CAN_TO_SL_CTL 0 0) 0x80000004).put (CAN_STAT_state 0) 0).put (PG_READY_ready (pgCAN 0)) 1).put CLK_STAT_stable 255, _, _, _, 0, 0, _, by decide +kernel, by decide +kernel, by decide +kernel, by decide +kernel, by decide +kernel, rfl, by decide +kernel, by decide +kernel, by decide +kernel, rfl, rfl, by decide +kernel, rfl, by decide +kernel, by decide +kernel⟩,
   ⟨(((((((({ wit with bus := { wit.bus with kept := [(0, some { id := 1, fmt := 0 })] } } : Dev).put (CAN_TO_CFG_en 0 0) 1).put (CAN_TO_CFG_en 0 0) 1).put (CAN_TO_CFG_repeat 0 0) 1).put (CAN_TRX_mode 0) 0).wr (CAN_TO_SL_CTL 0 0) 0x80000004).put (CAN_STAT_state 0) 0).put (PG_READY_ready (pgCAN 0)) 1).put CLK_STAT_stable 255, _, _, _, 0, 0, _, by decide +kernel, by decide +kernel, by decide +kernel, by decide +kernel, by decide +kernel, rfl, by decide +kernel, by decide +kernel, by decide +kernel, rfl, rfl, by decide +kernel, by decide +kernel, by decide +kernel, rfl⟩⟩

/-- The hypotheses of `Obligations.LinActs` hold together, clause by clause, in 3 parts. -/
theorem test_witness_LinActs_part1 :
    (∃ (d : Dev) (ch : LinCh) (brk : Nat) (baud : Nat) (pid : Nat), baud < 65536 ∧ pid < 256 ∧ (d.chanOn (pgLIN ch) = false ∨ d.flag (LIN_CFG_role ch) = true ∨ brk < 11)) ∧
    (∃ (d : Dev) (y : Dev) (ch : LinCh) (brk : Nat) (baud : Nat) (pid : Nat) (own : Nat), baud < 65536 ∧ pid < 256 ∧ d.chanOn (pgLIN ch) = true ∧ d.flag (LIN_CFG_role ch) = false ∧ 11 ≤ brk ∧ own = d.get (LIN_CFG_baud ch) ∧ y = d.put (LIN_STAT_meas_baud ch) baud ∧ own * 14 < absDiff baud own * 100) ∧
    (∃ (d : Dev) (y : Dev) (z : Dev) (ch : LinCh) (brk : Nat) (baud : Nat) (pid : Nat) (own : Nat), baud < 65536 ∧ pid < 256 ∧ d.chanOn (pgLIN ch) = true ∧ d.flag (LIN_CFG_role ch) = false ∧ 11 ≤ brk ∧ own = d.get (LIN_CFG_baud ch) ∧ y = d.put (LIN_STAT_meas_baud ch) baud ∧ absDiff baud own * 100 ≤ own * 14 ∧ z = (y.put (LIN_STAT_sync ch) 1).touch (linPort ch)) ∧
    (∃ (d : Dev) (y : Dev) (z : Dev) (ch : LinCh) (id : Nat) (lim : Nat) (len : Nat) (data : List Byte) (ev : Bool), d.linAwait ch = some (id, ev) ∧ d.due ⟨.linResp, ch, 0⟩ = some lim ∧ data.length ≤ 8 ∧ len = d.get (LIN_RESP_len ch id) ∧ y = (d.setLinAwait ch none).touch (linPort ch) ∧ z = (y.count (LIN_CNT ch 4)).raise (pgLIN ch) 11 ∧ lim < d.now) ∧
    (∃ (d : Dev) (y : Dev) (z : Dev) (ch : LinCh) (id : Nat) (lim : Nat) (len : Nat) (data : List Byte) (ev : Bool), d.linAwait ch = some (id, ev) ∧ d.due ⟨.linResp, ch, 0⟩ = some lim ∧ data.length ≤ 8 ∧ len = d.get (LIN_RESP_len ch id) ∧ y = (d.setLinAwait ch none).touch (linPort ch) ∧ z = (y.count (LIN_CNT ch 4)).raise (pgLIN ch) 11 ∧ data.length < len) ∧
    (∃ (d : Dev) (y : Dev) (z : Dev) (ch : LinCh) (id : Nat) (lim : Nat) (len : Nat) (data : List Byte) (ev : Bool), d.linAwait ch = some (id, ev) ∧ d.due ⟨.linResp, ch, 0⟩ = some lim ∧ data.length ≤ 8 ∧ len = d.get (LIN_RESP_len ch id) ∧ y = (d.setLinAwait ch none).touch (linPort ch) ∧ z = (y.count (LIN_CNT ch 4)).raise (pgLIN ch) 11 ∧ d.now ≤ lim ∧ len ≤ data.length ∧ y.isoed (pgLIN ch) = true) :=
  ⟨⟨wit, 0, 0, 0, 0, by decide +kernel, by decide +kernel, by decide +kernel⟩,
   ⟨witAll.put (LIN_CFG_role 0) 0, _, 0, 11, 0, 0, _, by decide +kernel, by decide +kernel, by decide +kernel, by decide +kernel, by decide +kernel, rfl, rfl, by decide +kernel⟩,
   ⟨(((wit.put (LIN_CFG_role 0) 0).put (PG_READY_ready (pgLIN 0)) 1).put CLK_STAT_stable 255).put (LIN_CFG_baud 0) 19200, _, _, 0, 13, 19200, 0, _, by decide +kernel, by decide +kernel, by decide +kernel, by decide +kernel, by decide +kernel, rfl, rfl, by decide +kernel, rfl⟩,
   ⟨({ wit with now := 5000000, bus := { wit.bus with linAwait := [(0, some (0, false))] } } : Dev).arm ⟨.linResp, 0, 0⟩ 10, _, _, 0, _, 10, _, [], _, rfl, by decide +kernel, by decide +kernel, rfl, rfl, rfl, by decide +kernel⟩,
   ⟨({ wit with bus := { wit.bus with linAwait := [(0, some (0, false))] } } : Dev).arm ⟨.linResp, 0, 0⟩ 10, _, _, 0, _, 10, _, [], _, rfl, by decide +kernel, by decide +kernel, rfl, rfl, rfl, by decide +kernel⟩,
   ⟨((({ wit with bus := { wit.bus with linAwait := [(0, some (0, false))] } } : Dev).put (PG_STATE_iso (pgLIN 0)) 1).put (LIN_RESP_len 0 0) 8).arm ⟨.linResp, 0, 0⟩ 10, _, _, 0, _, 10, _, [1, 2, 3, 4, 5, 6, 7, 8], _, rfl, by decide +kernel, by decide +kernel, rfl, rfl, rfl, by decide +kernel, by decide +kernel, by decide +kernel⟩⟩

/-- The same, part 2. -/
theorem test_witness_LinActs_part2 :
    (∃ (d : Dev) (y : Dev) (z : Dev) (w : Dev) (ch : LinCh) (id : Nat) (ago : Nat) (lim : Nat) (len : Nat) (data : List Byte) (ev : Bool) (r : BusRecord), d.linAwait ch = some (id, ev) ∧ d.due ⟨.linResp, ch, 0⟩ = some lim ∧ data.length ≤ 8 ∧ len = d.get (LIN_RESP_len ch id) ∧ y = (d.setLinAwait ch none).touch (linPort ch) ∧ z = (y.count (LIN_CNT ch 4)).raise (pgLIN ch) 11 ∧ d.now ≤ lim ∧ len ≤ data.length ∧ y.isoed (pgLIN ch) = false ∧ r = { id := id, fmt := 3, enh := y.linEnh ch id, data := data.take (y.get (LIN_RESP_len ch id)) } ∧ w = (y.count (LIN_CNT ch 0)).handOff (linPort ch) r (y.busTime (linPort ch) ago)) ∧
    (∃ (d : Dev) (ch : LinCh) (t : Nat) (first : Bool) (run : GateRun), d.nextSlot ch = some (t, first, run) ∧ d.pw.halted = false ∧ d.turn (d.turnAt (.linSch ch) t) = true ∧ d.sleepSeg (linPort ch) ≠ none) ∧
    (∃ (d : Dev) (ch : LinCh) (t : Nat) (first : Bool) (run : GateRun), d.nextSlot ch = some (t, first, run) ∧ d.pw.halted = false ∧ d.turn (d.turnAt (.linSch ch) t) = true ∧ d.sleepSeg (linPort ch) = none ∧ d.chanOn (pgLIN ch) = true ∧ (d.atNs t).isoed (pgLIN ch) = true) ∧
    (∃ (d : Dev) (z : Dev) (ch : LinCh) (id : Nat) (t : Nat) (ent : Nat) (c : ListCfg) (first : Bool) (run : GateRun), d.nextSlot ch = some (t, first, run) ∧ d.pw.halted = false ∧ d.turn (d.turnAt (.linSch ch) t) = true ∧ d.sleepSeg (linPort ch) = none ∧ d.chanOn (pgLIN ch) = true ∧ (d.atNs t).isoed (pgLIN ch) = false ∧ z = (if first then ((d.atNs t).setSchRun ch run).raise (pgLIN ch) 15 else (d.atNs t).setSchRun ch run) ∧ run.cur = some c ∧ ent = z.schEnt ch c.bank run.entry ∧ id = nb ent 5 0 ∧ nb ent 7 6 = 2 ∧ z.pubDraw ch id = none) ∧
    (∃ (d : Dev) (x : Dev) (z : Dev) (w : Dev) (ch : LinCh) (id : Nat) (t : Nat) (ent : Nat) (c : ListCfg) (first : Bool) (run : GateRun), d.nextSlot ch = some (t, first, run) ∧ d.pw.halted = false ∧ d.turn (d.turnAt (.linSch ch) t) = true ∧ d.sleepSeg (linPort ch) = none ∧ d.chanOn (pgLIN ch) = true ∧ (d.atNs t).isoed (pgLIN ch) = false ∧ z = (if first then ((d.atNs t).setSchRun ch run).raise (pgLIN ch) 15 else (d.atNs t).setSchRun ch run) ∧ run.cur = some c ∧ ent = z.schEnt ch c.bank run.entry ∧ id = nb ent 5 0 ∧ (nb ent 7 6 ≠ 2 ∨ (z.pubDraw ch id).isSome = true) ∧ w = ((z.linUnanswered ch).count (LIN_CNT ch 2)).touch (linPort ch) ∧ x = (w.emit (.linHeader ch (w.get (LIN_CFG_brk ch)) (w.get (LIN_CFG_del ch)) (linPid id) (w.now + nsT 50))).linTakesUp ch (w.get (LIN_CFG_brk ch) + w.get (LIN_CFG_del ch) + 20)) ∧
    (∃ (d : Dev) (y : Dev) (i : Initiator) (ch : LinCh) (m : Bool) (l : List (List Word)) (it : List Word), d.accepts i = true ∧ y = (if m then (d.linFifoGone ch).queueReset 3 (24 + ch) else d) ∧ NMap.get [] y.bus.linFifo ch = it :: l) :=
  ⟨⟨(({ wit with bus := { wit.bus with linAwait := [(0, some (0, false))] } } : Dev).arm ⟨.linResp, 0, 0⟩ 10).arm ⟨.linResp, 0, 0⟩ 10, _, _, _, 0, _, 0, 10, _, [1, 2, 3, 4, 5, 6, 7, 8], _, _, rfl, by decide +kernel, by decide +kernel, rfl, rfl, rfl, by decide +kernel, by decide +kernel, by decide +kernel, rfl, rfl⟩,
   ⟨({ wit with bus := { wit.bus with schRun := [(0, { pend := some ⟨0, 1, 1000, 0, 0⟩ })] }, wak := { wit.wak with asleepPages := [(pgLIN 0, 0)] } } : Dev), 0, _, _, _, rfl, by decide +kernel, by decide +kernel, by decide +kernel⟩,
   ⟨({ wit with bus := { wit.bus with schRun := [(0, { pend := some ⟨0, 1, 1000, 0, 0⟩ })] } } : Dev).put (PG_STATE_iso (pgLIN 0)) 1, 0, _, _, _, rfl, by decide +kernel, by decide +kernel, by decide +kernel, by decide +kernel, by decide +kernel⟩,
   ⟨(({ wit with bus := { wit.bus with schRun := [(0, { pend := some ⟨0, 1, 1000, 0, 0⟩ })], sch := [(0, 128)] } } : Dev).put (PG_READY_ready (pgLIN 0)) 1).put CLK_STAT_stable 255, _, 0, _, _, _, _, _, _, rfl, by decide +kernel, by decide +kernel, by decide +kernel, by decide +kernel, by decide +kernel, rfl, rfl, rfl, rfl, by decide +kernel, by decide +kernel⟩,
   ⟨(({ wit with bus := { wit.bus with schRun := [(0, { pend := some ⟨0, 1, 1000, 0, 0⟩ })] } } : Dev).put (PG_READY_ready (pgLIN 0)) 1).put CLK_STAT_stable 255, _, _, _, 0, _, _, _, _, _, _, rfl, by decide +kernel, by decide +kernel, by decide +kernel, by decide +kernel, by decide +kernel, rfl, rfl, rfl, rfl, by decide +kernel, rfl, rfl⟩,
   ⟨({ wit with bus := { wit.bus with linFifo := [(0, [[0, 0]])] } } : Dev), _, .host, 0, false, _, _, by decide +kernel, rfl, rfl⟩⟩

/-- The same, part 3. -/
theorem test_witness_LinActs_part3 :
    (∃ (d : Dev) (y : Dev) (i : Initiator) (ch : LinCh) (m : Bool), d.accepts i = true ∧ y = (if m then (d.linFifoGone ch).queueReset 3 (24 + ch) else d) ∧ NMap.get [] y.bus.linFifo ch = []) ∧
    (∃ (d : Dev) (i : Initiator) (ch : LinCh), d.accepts i = true ∧ d.flag (LIN_SCH_WSTAT_busy ch) = true) ∧
    (∃ (d : Dev) (y : Dev) (i : Initiator) (ch : LinCh) (ent : Nat), d.accepts i = true ∧ d.flag (LIN_SCH_WSTAT_busy ch) = false ∧ y = d.put (winRegs (.linSch ch)).err 0 ∧ ent = y.schEnt ch (y.get (LIN_SCH_SEL_bank ch)) (y.get (LIN_SCH_SEL_entry ch))) ∧
    (∃ (d : Dev) (y : Dev) (i : Initiator) (ch : LinCh), d.accepts i = true ∧ d.locked (pgLIN ch) = false ∧ (d.flag (LIN_SCH_WSTAT_busy ch) = true ∨ (d.schRun ch).bankBusy (d.get (LIN_SCH_SEL_bank ch)) = true) ∧ y = d.put (LIN_SCH_STAT_err ch) 1 ∧ (y.flag (LIN_SCH_WSTAT_busy ch) = true ∨ (y.schRun ch).bankBusy (y.get (LIN_SCH_SEL_bank ch)) = true) ∧ y.locked (pgLIN ch) = false ∧ y.accepts i = true) ∧
    (∃ (d : Dev) (x : Dev) (y : Dev) (z : Dev) (i : Initiator) (ch : LinCh) (ent : Nat), d.accepts i = true ∧ d.locked (pgLIN ch) = false ∧ d.flag (LIN_SCH_WSTAT_busy ch) = false ∧ (d.schRun ch).bankBusy (d.get (LIN_SCH_SEL_bank ch)) = false ∧ y = d.put (LIN_SCH_STAT_err ch) 0 ∧ y.flag (LIN_SCH_WSTAT_busy ch) = false ∧ (y.schRun ch).bankBusy (y.get (LIN_SCH_SEL_bank ch)) = false ∧ y.locked (pgLIN ch) = false ∧ y.accepts i = true ∧ z = y.put (winRegs (.linSch ch)).err 0 ∧ ent = z.get (LIN_SCH_DATA_slot_us ch) * 2 ^ 16 + z.get (LIN_SCH_DATA_type ch) * 2 ^ 6 + z.get (LIN_SCH_DATA_id ch) ∧ x = ({ z with bus := { z.bus with sch := NMap.set 0 z.bus.sch (ch * 128 + z.get (LIN_SCH_SEL_bank ch) * 64 + z.get (LIN_SCH_SEL_entry ch)) ent } } : Dev)) :=
  ⟨⟨wit, _, .host, 0, true, by decide +kernel, rfl, by decide +kernel⟩,
   ⟨wit.put (LIN_SCH_WSTAT_busy 0) 1, .host, 0, by decide +kernel, by decide +kernel⟩,
   ⟨wit.put (LIN_SCH_WSTAT_busy 0) 0, _, .host, 0, _, by decide +kernel, by decide +kernel, rfl, rfl⟩,
   ⟨wit.put (LIN_SCH_WSTAT_busy 0) 1, _, .host, 0, by decide +kernel, by decide +kernel, by decide +kernel, rfl, by decide +kernel, by decide +kernel, by decide +kernel⟩,
   ⟨(wit.put (LIN_SCH_WSTAT_busy 0) 0).put (LIN_SCH_WSTAT_busy 0) 0, _, _, _, .host, 0, _, by decide +kernel, by decide +kernel, by decide +kernel, by decide +kernel, rfl, by decide +kernel, by decide +kernel, by decide +kernel, by decide +kernel, rfl, rfl, rfl⟩⟩

/-- The hypotheses of `Obligations.KalowPacksAct` hold together, clause by clause, in 5 parts. -/
theorem test_witness_KalowPacksAct_part1 :
    (∃ (d : Dev), (d.works (pgKLW 0) = false ∨ d.pw.halted = true)) ∧
    (∃ (d : Dev) (c : Copy), d.works (pgKLW 0) = true ∧ d.pw.halted = false ∧ highest (fun c => (d.toPick 96).drrTake 96 c ((d.toPick 96).heads 96 c)) = none) ∧
    (∃ (d : Dev) (y : Dev) (q : Nat) (cl : Nat) (c : Copy) (l : List Copy), d.works (pgKLW 0) = true ∧ d.pw.halted = false ∧ highest (fun c => (d.toPick 96).drrTake 96 c ((d.toPick 96).heads 96 c)) = some (cl, q, y) ∧ y.voq q = c :: l ∧ y.expired c = true) ∧
    (∃ (d : Dev) (y : Dev) (q : Nat) (cl : Nat) (c : Copy) (l : List Copy) (f : Frame), d.works (pgKLW 0) = true ∧ d.pw.halted = false ∧ highest (fun c => (d.toPick 96).drrTake 96 c ((d.toPick 96).heads 96 c)) = some (cl, q, y) ∧ y.voq q = c :: l ∧ y.expired c = false ∧ y.frame c.fid = some f ∧ f.poison = true) ∧
    (∃ (d : Dev) (y : Dev) (q : Nat) (cl : Nat) (c : Copy) (l : List Copy) (f : Frame), d.works (pgKLW 0) = true ∧ d.pw.halted = false ∧ highest (fun c => (d.toPick 96).drrTake 96 c ((d.toPick 96).heads 96 c)) = some (cl, q, y) ∧ y.voq q = c :: l ∧ y.expired c = false ∧ y.frame c.fid = some f ∧ f.poison = false) ∧
    (∃ (d : Dev), nextJob d.kal.jobs = none) :=
  ⟨⟨({ wit with pw := { wit.pw with halted := true } } : Dev), by decide +kernel⟩,
   ⟨wit, ⟨1, 0, false, none, none, 0⟩, by decide +kernel, by decide +kernel, by decide +kernel⟩,
   ⟨({ wit with tim := { wit.tim with offQ := 65536 * 100000000 }, vlt := { wit.vlt with voqs := [(768, [⟨1, 96, true, none, none, 0⟩])], frames := [{ id := 1, inPort := 0 }] } } : Dev).put (QUE_MC_HOLD_us 0) 0, _, _, _, _, _, by decide +kernel, by decide +kernel, rfl, rfl, by decide +kernel⟩,
   ⟨({ wit with vlt := { wit.vlt with voqs := [(768, [⟨1, 96, false, none, none, 0⟩])], frames := [{ id := 1, inPort := 0, poison := true }] } } : Dev), _, _, _, _, _, _, by decide +kernel, by decide +kernel, rfl, rfl, by decide +kernel, rfl, by decide +kernel⟩,
   ⟨({ wit with vlt := { wit.vlt with voqs := [(768, [⟨1, 96, false, none, none, 0⟩])], frames := [{ id := 1, inPort := 0 }] } } : Dev), _, _, _, _, _, _, by decide +kernel, by decide +kernel, rfl, rfl, by decide +kernel, rfl, by decide +kernel⟩,
   ⟨wit, by decide +kernel⟩⟩

/-- The same, part 2. -/
theorem test_witness_KalowPacksAct_part2 :
    (∃ (d : Dev) (y : Dev) (z : Dev) (s : Nat) (w : Nat × Nat × Nat) (ce : Option Nat) (j : KJob), nextJob d.kal.jobs = some j ∧ y = (d.at_ j.at_).ownTick j ∧ z = ce.elim y (fun s => y.storeUe s) ∧ j.writes.any (fun w => z.needed w.1) = true) ∧
    (∃ (d : Dev) (y : Dev) (z : Dev) (s : Nat) (w : Nat × Nat × Nat) (ce : Option Nat) (j : KJob), nextJob d.kal.jobs = some j ∧ y = (d.at_ j.at_).ownTick j ∧ z = ce.elim y (fun s => y.storeUe s) ∧ j.writes.any (fun w => z.needed w.1) = false) ∧
    (∃ (d : Dev) (y : Dev) (r : Nat) (w : Nat × Nat × Nat) (ue : KlwUe), r < 8192 ∧ ue.wf = true ∧ d.kal.trigs.find? (fun u => u.1 == r) = some w ∧ y = ({ d with kal := { d.kal with trigs := d.kal.trigs.filter (fun u => decide (u ≠ w)) } } : Dev) ∧ y.packs r = false) ∧
    (∃ (d : Dev) (y : Dev) (r : Nat) (w : Nat × Nat × Nat) (ue : KlwUe), r < 8192 ∧ ue.wf = true ∧ d.kal.trigs.find? (fun u => u.1 == r) = some w ∧ y = ({ d with kal := { d.kal with trigs := d.kal.trigs.filter (fun u => decide (u ≠ w)) } } : Dev) ∧ y.packs r = true ∧ y.kal.defer.contains r = true) ∧
    (∃ (d : Dev) (y : Dev) (r : Nat) (w : Nat × Nat × Nat) (ue : KlwUe), r < 8192 ∧ ue.wf = true ∧ d.kal.trigs.find? (fun u => u.1 == r) = some w ∧ y = ({ d with kal := { d.kal with trigs := d.kal.trigs.filter (fun u => decide (u ≠ w)) } } : Dev) ∧ y.packs r = true ∧ y.kal.defer.contains r = false ∧ (NMap.get none y.kal.pend r).isSome = true) ∧
    (∃ (d : Dev) (y : Dev) (r : Nat) (s : Nat) (w : Nat × Nat × Nat) (ue : KlwUe), r < 8192 ∧ ue.wf = true ∧ d.kal.trigs.find? (fun u => u.1 == r) = some w ∧ y = ({ d with kal := { d.kal with trigs := d.kal.trigs.filter (fun u => decide (u ≠ w)) } } : Dev) ∧ y.packs r = true ∧ y.kal.defer.contains r = false ∧ NMap.get none y.kal.pend r = none ∧ NMap.get none y.kal.lastS r = some s ∧ w.2.2 < s) :=
  ⟨⟨({ wit with kal := { wit.kal with jobs := [{ at_ := 10, fid := some 1, writes := [(0, 0)] }], packs := [⟨0, 0, 10, [0], none, 0, 0, 0, 0, none, [], 0, false, 0, 0, none⟩], store := [(0, { tick := 1000 })] } } : Dev), _, _, 0, (0, 0, 0), none, _, rfl, rfl, rfl, by decide +kernel⟩,
   ⟨({ wit with kal := { wit.kal with jobs := [{ at_ := 10, fid := some 1 }] } } : Dev), _, _, 0, (0, 0, 0), none, _, rfl, rfl, rfl, by decide +kernel⟩,
   ⟨({ wit with kal := { wit.kal with recs := [(3 * 2 ^ 14, 0)], trigs := [(0, 0, 0)] } } : Dev), _, 0, _, .none, by decide +kernel, by decide +kernel, rfl, rfl, by decide +kernel⟩,
   ⟨({ wit with kal := { wit.kal with recs := [(3 * 2 ^ 14, 3)], trigs := [(0, 0, 0)], defer := [0] } } : Dev), _, 0, _, .none, by decide +kernel, by decide +kernel, rfl, rfl, by decide +kernel, by decide +kernel⟩,
   ⟨({ wit with kal := { wit.kal with recs := [(3 * 2 ^ 14, 3)], trigs := [(0, 0, 0)], pend := [(0, some 0)] } } : Dev), _, 0, _, .none, by decide +kernel, by decide +kernel, rfl, rfl, by decide +kernel, by decide +kernel, by decide +kernel⟩,
   ⟨({ wit with kal := { wit.kal with recs := [(3 * 2 ^ 14, 3)], trigs := [(0, 0, 0)], lastS := [(0, some 5)] } } : Dev), _, 0, _, _, .none, by decide +kernel, by decide +kernel, rfl, rfl, by decide +kernel, by decide +kernel, by decide +kernel, rfl, by decide +kernel⟩⟩

/-- The same, part 3. -/
theorem test_witness_KalowPacksAct_part3 :
    (∃ (d : Dev) (y : Dev) (r : Nat) (t : Nat) (s : Nat) (w : Nat × Nat × Nat) (ue : KlwUe), r < 8192 ∧ ue.wf = true ∧ d.kal.trigs.find? (fun u => u.1 == r) = some w ∧ y = ({ d with kal := { d.kal with trigs := d.kal.trigs.filter (fun u => decide (u ≠ w)) } } : Dev) ∧ y.packs r = true ∧ y.kal.defer.contains r = false ∧ NMap.get none y.kal.pend r = none ∧ NMap.get none y.kal.lastS r = some s ∧ s ≤ w.2.2 ∧ t = s + nb (y.route r) 38 19 * 1000 ∧ w.2.2 < t) ∧
    (∃ (d : Dev) (y : Dev) (r : Nat) (s : Nat) (w : Nat × Nat × Nat) (ue : KlwUe), r < 8192 ∧ ue.wf = true ∧ d.kal.trigs.find? (fun u => u.1 == r) = some w ∧ y = ({ d with kal := { d.kal with trigs := d.kal.trigs.filter (fun u => decide (u ≠ w)) } } : Dev) ∧ y.packs r = true ∧ y.kal.defer.contains r = false ∧ NMap.get none y.kal.pend r = none ∧ (∀ s, NMap.get none y.kal.lastS r = some s → s ≤ w.2.2 ∧ s + nb (y.route r) 38 19 * 1000 ≤ w.2.2) ∧ y.deferred r = true) ∧
    (∃ (d : Dev) (y : Dev) (z : Dev) (r : Nat) (s : Nat) (w : Nat × Nat × Nat) (ue : KlwUe), r < 8192 ∧ ue.wf = true ∧ d.kal.trigs.find? (fun u => u.1 == r) = some w ∧ y = ({ d with kal := { d.kal with trigs := d.kal.trigs.filter (fun u => decide (u ≠ w)) } } : Dev) ∧ y.packs r = true ∧ y.kal.defer.contains r = false ∧ NMap.get none y.kal.pend r = none ∧ (∀ s, NMap.get none y.kal.lastS r = some s → s ≤ w.2.2 ∧ s + nb (y.route r) 38 19 * 1000 ≤ w.2.2) ∧ y.deferred r = false ∧ z = y.at_ (w.2.1 + nsT 25)) ∧
    (∃ (d : Dev) (y : Dev) (r : Nat) (t : Nat) (ue : KlwUe), r < 8192 ∧ ue.wf = true ∧ d.armed (.kalow r) = true ∧ d.pw.halted = false ∧ ctlAction (d.slot (.kalow r)).ctl = 6 ∧ d.turn (d.turnAt (.kalow r) (d.slot (.kalow r)).time) = true ∧ d.lateTick (.kalow r) = none ∧ t = (d.slot (.kalow r)).time ∧ y = d.atNs t ∧ (y.packs r = false ∨ nbit (y.route r) 16 = false)) ∧
    (∃ (d : Dev) (y : Dev) (r : Nat) (t : Nat) (ue : KlwUe), r < 8192 ∧ ue.wf = true ∧ d.armed (.kalow r) = true ∧ d.pw.halted = false ∧ ctlAction (d.slot (.kalow r)).ctl = 6 ∧ d.turn (d.turnAt (.kalow r) (d.slot (.kalow r)).time) = true ∧ d.lateTick (.kalow r) = none ∧ t = (d.slot (.kalow r)).time ∧ y = d.atNs t ∧ y.packs r = true ∧ nbit (y.route r) 16 = true ∧ y.deferred r = true) ∧
    (∃ (d : Dev) (y : Dev) (r : Nat) (t : Nat) (ue : KlwUe), r < 8192 ∧ ue.wf = true ∧ d.armed (.kalow r) = true ∧ d.pw.halted = false ∧ ctlAction (d.slot (.kalow r)).ctl = 6 ∧ d.turn (d.turnAt (.kalow r) (d.slot (.kalow r)).time) = true ∧ d.lateTick (.kalow r) = none ∧ t = (d.slot (.kalow r)).time ∧ y = d.atNs t ∧ y.packs r = true ∧ nbit (y.route r) 16 = true ∧ y.deferred r = false ∧ (y.slot (.kalow r)).time = t) :=
  ⟨⟨({ wit with kal := { wit.kal with recs := [(3 * 2 ^ 14, 3 + 2 ^ 19)], trigs := [(0, 0, 0)], lastS := [(0, some 0)] } } : Dev), _, 0, _, _, _, .none, by decide +kernel, by decide +kernel, rfl, rfl, by decide +kernel, by decide +kernel, by decide +kernel, rfl, by decide +kernel, rfl, by decide +kernel⟩,
   ⟨({ wit with kal := { wit.kal with recs := [(3 * 2 ^ 14, 3)], trigs := [(0, 0, 0)] } } : Dev).put KLW_DEFER_STAT_cls 255, _, 0, 0, _, .none, by decide +kernel, by decide +kernel, rfl, rfl, by decide +kernel, by decide +kernel, by decide +kernel, by decide +kernel, by decide +kernel⟩,
   ⟨({ wit with kal := { wit.kal with recs := [(3 * 2 ^ 14, 3)], trigs := [(0, 0, 0)] } } : Dev), _, _, 0, 0, _, .none, by decide +kernel, by decide +kernel, rfl, rfl, by decide +kernel, by decide +kernel, by decide +kernel, by decide +kernel, by decide +kernel, rfl⟩,
   ⟨({ wit with kal := { wit.kal with recs := [(3 * 2 ^ 14, 3)], slots := [(0, { ctl := 0x80000006 })] } } : Dev), _, 0, _, .none, by decide +kernel, by decide +kernel, by decide +kernel, by decide +kernel, by decide +kernel, by decide +kernel, by decide +kernel, rfl, rfl, by decide +kernel⟩,
   ⟨({ wit with kal := { wit.kal with recs := [(3 * 2 ^ 14, 3 + 2 ^ 16)], slots := [(0, { ctl := 0x80000006 })] } } : Dev).put KLW_DEFER_STAT_cls 255, _, 0, _, .none, by decide +kernel, by decide +kernel, by decide +kernel, by decide +kernel, by decide +kernel, by decide +kernel, by decide +kernel, rfl, rfl, by decide +kernel, by decide +kernel, by decide +kernel⟩,
   ⟨({ wit with kal := { wit.kal with recs := [(3 * 2 ^ 14, 3 + 2 ^ 16)], slots := [(0, { ctl := 0x80000006 })] } } : Dev), _, 0, _, .none, by decide +kernel, by decide +kernel, by decide +kernel, by decide +kernel, by decide +kernel, by decide +kernel, by decide +kernel, rfl, rfl, by decide +kernel, by decide +kernel, by decide +kernel, by decide +kernel⟩⟩

/-- The same, part 4. -/
theorem test_witness_KalowPacksAct_part4 :
    (∃ (d : Dev) (d' : Dev) (y : Dev) (r : Nat) (t : Nat) (ue : KlwUe), r < 8192 ∧ ue.wf = true ∧ NMap.get none d.kal.pend r = some t ∧ d' = d.atNs t ∧ y = ({ d' with kal := { d'.kal with pend := NMap.set none d'.kal.pend r none } } : Dev) ∧ y.packs r = false) ∧
    (∃ (d : Dev) (d' : Dev) (y : Dev) (r : Nat) (t : Nat) (ue : KlwUe), r < 8192 ∧ ue.wf = true ∧ NMap.get none d.kal.pend r = some t ∧ d' = d.atNs t ∧ y = ({ d' with kal := { d'.kal with pend := NMap.set none d'.kal.pend r none } } : Dev) ∧ y.packs r = true ∧ y.deferred r = true) ∧
    (∃ (d : Dev) (d' : Dev) (y : Dev) (r : Nat) (t : Nat) (ue : KlwUe), r < 8192 ∧ ue.wf = true ∧ NMap.get none d.kal.pend r = some t ∧ d' = d.atNs t ∧ y = ({ d' with kal := { d'.kal with pend := NMap.set none d'.kal.pend r none } } : Dev) ∧ y.packs r = true ∧ y.deferred r = false) ∧
    (∃ (d : Dev) (r : Nat) (ue : KlwUe), r < 8192 ∧ ue.wf = true ∧ d.kal.defer.contains r = true ∧ d.deferred r = false ∧ d.packs r = true) ∧
    (∃ (d : Dev) (r : Nat) (ue : KlwUe), r < 8192 ∧ ue.wf = true ∧ (d.kal.defer.contains r = false ∨ d.deferred r = true ∨ d.packs r = false)) ∧
    (∃ (d : Dev) (d' : Dev) (y : Dev) (z : Dev) (p : KPack) (rec' : Option BusRecord) (bs : List Byte), firstPack d.kal.packs = some p ∧ (d.at_ p.at_).bodyOf p = (rec', bs, d') ∧ y = ({ d' with kal := { d'.kal with packs := d'.kal.packs.erase p } } : Dev) ∧ z = (if p.plan.isSome then y.count (KLW_CNT 1) else y)) :=
  ⟨⟨({ wit with kal := { wit.kal with recs := [(3 * 2 ^ 14, 0)], pend := [(0, some 0)] } } : Dev), _, _, 0, _, .none, by decide +kernel, by decide +kernel, rfl, rfl, rfl, by decide +kernel⟩,
   ⟨({ wit with kal := { wit.kal with recs := [(3 * 2 ^ 14, 3)], pend := [(0, some 0)] } } : Dev).put KLW_DEFER_STAT_cls 255, _, _, 0, _, .none, by decide +kernel, by decide +kernel, rfl, rfl, rfl, by decide +kernel, by decide +kernel⟩,
   ⟨({ wit with kal := { wit.kal with recs := [(3 * 2 ^ 14, 3)], pend := [(0, some 0)] } } : Dev), _, _, 0, _, .none, by decide +kernel, by decide +kernel, rfl, rfl, rfl, by decide +kernel, by decide +kernel⟩,
   ⟨({ wit with kal := { wit.kal with recs := [(3 * 2 ^ 14, 3)], defer := [0] } } : Dev), 0, .none, by decide +kernel, by decide +kernel, by decide +kernel, by decide +kernel, by decide +kernel⟩,
   ⟨wit, 0, .none, by decide +kernel, by decide +kernel, by decide +kernel⟩,
   ⟨({ wit with kal := { wit.kal with packs := [⟨0, 0, 10, [], none, 0, 0, 0, 0, none, [], 0, false, 0, 0, none⟩] } } : Dev), _, _, _, _, _, _, rfl, rfl, rfl, rfl⟩⟩

/-- The same, part 5. -/
theorem test_witness_KalowPacksAct_part5 :
    (∃ (d : Dev) (y : Dev) (z : Dev) (e : Nat), d.due ⟨.kalTmo, 0, 0⟩ = some e ∧ y = ((d.at_ e).cancel ⟨.kalTmo, 0, 0⟩).arm ⟨.kalTmo, 0, 0⟩ (e + msT 1) ∧ z = ({ (y.put KLW_LOAD_ops y.kal.ops) with kal := { y.kal with ops := 0 } } : Dev)) ∧
    (∃ (d : Dev) (e : Nat) (r : Nat), r < 8192 ∧ d.due ⟨.kalAgg, r, 0⟩ = some e) :=
  ⟨⟨wit.arm ⟨.kalTmo, 0, 0⟩ 10, _, _, 10, by decide +kernel, rfl, rfl⟩,
   ⟨wit.arm ⟨.kalAgg, 0, 0⟩ 10, 10, 0, by decide +kernel, by decide +kernel⟩⟩

/-- The hypotheses of `Obligations.StoreAndDumpAct` hold together, clause by clause, in 3 parts. -/
theorem test_witness_StoreAndDumpAct_part1 :
    (∃ (d : Dev) (y : Dev) (z : Dev) (i : Initiator) (s : Nat) (u : Bool) (a : Nat), d.accepts i = true ∧ s = d.get KLW_S_SEL_sig ∧ y = (if u then d.storeUe s else d) ∧ z = ((y.wr64 KLW_S_VAL_LO KLW_S_VAL_HI (y.sig s).value).put KLW_S_STAT_status (y.sig s).st).put KLW_S_STAT_unv (if (y.sig s).unv then 1 else 0) ∧ a = (ageOf (y.sig s) z.ns 1000).elim (2 ^ 32 - 1) (fun a => min a (2 ^ 32 - 1))) ∧
    (∃ (d : Dev) (i : Initiator) (s : Nat), d.accepts i = true ∧ s = d.get KLW_S_SEL_sig ∧ d.needed s = false) ∧
    (∃ (d : Dev) (i : Initiator) (s : Nat) (j : KJob), d.accepts i = true ∧ s = d.get KLW_S_SEL_sig ∧ d.needed s = true ∧ j = { at_ := d.now, fid := none, cls := 8, writes := [(s, d.rd64 KLW_S_VAL_LO KLW_S_VAL_HI)], unpack := true, tsrc := d.ns, waits := true, recs := d.kal.recs }) ∧
    (∃ (d : Dev) (i : Initiator) (s : Nat), d.accepts i = true ∧ s = d.get KLW_S_SEL_sig ∧ d.kal.dump = none ∧ d.flag KLW_DUMP_STAT_halted = false) ∧
    (∃ (d : Dev) (i : Initiator) (s : Nat), d.accepts i = true ∧ s = d.get KLW_S_SEL_sig ∧ (d.kal.dump.isSome = true ∨ d.flag KLW_DUMP_STAT_halted = true)) ∧
    (∃ (d : Dev) (y : Dev) (v : KDump), y = (d.wr64 KLW_DUMP_T_LO KLW_DUMP_T_HI d.ns) ∧ v = { addr := d.get KLW_DUMP_HI_base * 2 ^ 32 + d.get KLW_DUMP_LO_base * 16, first := y.get KLW_DUMP_FIRST_sig, n := y.get KLW_DUMP_N_count, s := y.now, ns := y.ns, recs := y.kal.recs }) :=
  ⟨⟨wit, _, _, .host, _, true, _, by decide +kernel, rfl, rfl, rfl, rfl⟩,
   ⟨wit, .host, _, by decide +kernel, rfl, by decide +kernel⟩,
   ⟨({ wit with kal := { wit.kal with packs := [⟨0, 0, 10, [0], none, 0, 0, 0, 0, none, [], 0, false, 0, 0, none⟩], store := [(0, { tick := 1000 })] } } : Dev), .host, _, _, by decide +kernel, rfl, by decide +kernel, rfl⟩,
   ⟨({ wit with kal := { wit.kal with dump := none } } : Dev).put KLW_DUMP_STAT_halted 0, .host, _, by decide +kernel, rfl, by decide +kernel, by decide +kernel⟩,
   ⟨({ wit with kal := { wit.kal with dump := some ⟨0, 0, 0, 0, 0, []⟩ } } : Dev), .host, _, by decide +kernel, rfl, by decide +kernel⟩,
   ⟨wit, _, _, rfl, rfl⟩⟩

/-- The same, part 2. -/
theorem test_witness_StoreAndDumpAct_part2 :
    (∃ (d : Dev) (y : Dev) (e : Nat), d.due ⟨.kalDump, 0, 0⟩ = some e ∧ y = ((d.at_ e).cancel ⟨.kalDump, 0, 0⟩).dumpArm ∧ y.kal.dump = none ∧ y.flag KLW_DUMP_STAT_halted = false) ∧
    (∃ (d : Dev) (y : Dev) (e : Nat), d.due ⟨.kalDump, 0, 0⟩ = some e ∧ y = ((d.at_ e).cancel ⟨.kalDump, 0, 0⟩).dumpArm ∧ (y.kal.dump.isSome = true ∨ y.flag KLW_DUMP_STAT_halted = true)) ∧
    (∃ (d : Dev) (y : Dev) (bs : List Byte) (v : KDump), d.kal.dump = some v ∧ bs = d.dumpBytes v ∧ y = ({ (d.put KLW_DUMP_CTL_go 0) with kal := { d.kal with dump := none } } : Dev)) ∧
    (∃ (d : Dev) (i : Initiator), d.accepts i = true ∧ d.locked (pgKLW 1) = false ∧ d.locked (pgKLW 3) = false ∧ d.flag KLW_D_STAT_busy = true) ∧
    (∃ (d : Dev) (y : Dev) (i : Initiator) (k : Nat) (n : Nat) (staged : Bool), d.accepts i = true ∧ d.locked (pgKLW 1) = false ∧ d.locked (pgKLW 3) = false ∧ d.flag KLW_D_STAT_busy = false ∧ y = d.put KLW_D_STAT_err 0 ∧ k = y.dSel ∧ n = (if staged && y.kal.recsD.contains k then NMap.get 0 y.kal.recsS k else NMap.get 0 y.kal.recs k)) ∧
    (∃ (d : Dev) (y : Dev) (z : Dev) (i : Initiator) (e : Nat) (k : Nat), d.accepts i = true ∧ d.locked (pgKLW 1) = false ∧ d.locked (pgKLW 3) = false ∧ d.flag KLW_D_STAT_busy = false ∧ y = d.put KLW_D_STAT_err 0 ∧ k = y.dSel ∧ z = ({ y with kal := { y.kal with recsS := NMap.set 0 y.kal.recsS k (y.readWords KLW_D_DATA 24), recsD := y.kal.recsD.filter (fun e => e != k) ++ [k] } } : Dev)) :=
  ⟨⟨(({ wit with kal := { wit.kal with dump := none } } : Dev).arm ⟨.kalDump, 0, 0⟩ 10).put KLW_DUMP_STAT_halted 0, _, 10, by decide +kernel, rfl, by decide +kernel, by decide +kernel⟩,
   ⟨(({ wit with kal := { wit.kal with dump := some ⟨0, 0, 0, 0, 0, []⟩ } } : Dev).arm ⟨.kalDump, 0, 0⟩ 10).arm ⟨.kalDump, 0, 0⟩ 10, _, 10, by decide +kernel, rfl, by decide +kernel⟩,
   ⟨({ wit with kal := { wit.kal with dump := some ⟨0, 0, 0, 0, 0, []⟩ } } : Dev), _, _, _, rfl, rfl, rfl⟩,
   ⟨wit.put KLW_D_STAT_busy 1, .host, by decide +kernel, by decide +kernel, by decide +kernel, by decide +kernel⟩,
   ⟨wit.put KLW_D_STAT_busy 0, _, .host, _, _, true, by decide +kernel, by decide +kernel, by decide +kernel, by decide +kernel, rfl, rfl, rfl⟩,
   ⟨wit.put KLW_D_STAT_busy 0, _, _, .host, 0, _, by decide +kernel, by decide +kernel, by decide +kernel, by decide +kernel, rfl, rfl, rfl⟩⟩

/-- The same, part 3. -/
theorem test_witness_StoreAndDumpAct_part3 :
    (∃ (d : Dev) (i : Initiator), d.accepts i = true ∧ d.locked (pgKLW 1) = false ∧ d.locked (pgKLW 3) = false ∧ d.flag KLW_L_STAT_busy = true) ∧
    (∃ (d : Dev) (y : Dev) (i : Initiator), d.accepts i = true ∧ d.locked (pgKLW 1) = false ∧ d.locked (pgKLW 3) = false ∧ d.flag KLW_L_STAT_busy = false ∧ y = d.put KLW_L_STAT_err 0) :=
  ⟨⟨wit.put KLW_L_STAT_busy 1, .host, by decide +kernel, by decide +kernel, by decide +kernel, by decide +kernel⟩,
   ⟨wit.put KLW_L_STAT_busy 0, _, .host, by decide +kernel, by decide +kernel, by decide +kernel, by decide +kernel, rfl⟩⟩

/-- The hypotheses of `Obligations.CipherBankAct` hold together, clause by clause, in 3 parts. -/
theorem test_witness_CipherBankAct_part1 :
    (∃ (d : Dev) (k : Nat) (failed : Word), ((List.range 32).filter (fun k => failed.getLsbD k && !d.bit AUT_ENG_FAIL k)).length = k ∧ k = 0) ∧
    (∃ (d : Dev) (y : Dev) (k : Nat) (failed : Word), ((List.range 32).filter (fun k => failed.getLsbD k && !d.bit AUT_ENG_FAIL k)).length = k ∧ k ≠ 0 ∧ y = ((d.wr AUT_ENG_FAIL (d.rd AUT_ENG_FAIL ||| failed)).add ⟨AUT_KAT_FAIL, 31, 0⟩ k).raise pgAUT 14) ∧
    (∃ (d : Dev) (i : Initiator), d.accepts i = true ∧ d.locked pgAUT = false ∧ d.flag AUT_CTX_STAT_busy = true) ∧
    (∃ (d : Dev) (y : Dev) (i : Initiator) (c : Nat) (k : Nat) (staged : Bool), d.accepts i = true ∧ d.locked pgAUT = false ∧ d.flag AUT_CTX_STAT_busy = false ∧ y = d.put AUT_CTX_STAT_err 0 ∧ c = y.selCtx ∧ k = (if staged && y.aut.ctxD.contains c then NMap.get 0 y.aut.ctxS c else y.ctx c)) ∧
    (∃ (d : Dev) (y : Dev) (z : Dev) (i : Initiator) (e : Nat) (c : Nat), d.accepts i = true ∧ d.locked pgAUT = false ∧ d.flag AUT_CTX_STAT_busy = false ∧ y = d.put AUT_CTX_STAT_err 0 ∧ c = y.selCtx ∧ z = ({ y with aut := { y.aut with ctxS := NMap.set 0 y.aut.ctxS c (y.readWords AUT_CTX_DATA 8), ctxD := y.aut.ctxD.filter (fun e => e != c) ++ [c] } } : Dev)) ∧
    (∃ (d : Dev) (y : Dev) (z : Dev) (i : Initiator) (c : Nat), d.accepts i = true ∧ d.locked pgAUT = false ∧ d.flag AUT_CTX_STAT_busy = false ∧ y = d.put AUT_CTX_STAT_err 0 ∧ c = y.selCtx ∧ z = y.each (List.range 12) (fun j t => { t.wr (AUT_CTX_CNT j) (BitVec.ofNat 32 (NMap.get 0 t.aut.cnt (c * 12 + j))) with aut := { t.aut with cnt := NMap.set 0 t.aut.cnt (c * 12 + j) 0 } })) :=
  ⟨⟨wit, 0, 0, by decide +kernel, by decide +kernel⟩,
   ⟨wit, _, _, 0x80000000, rfl, by decide +kernel, rfl⟩,
   ⟨wit.put AUT_CTX_STAT_busy 1, .host, by decide +kernel, by decide +kernel, by decide +kernel⟩,
   ⟨wit.put AUT_CTX_STAT_busy 0, _, .host, _, _, true, by decide +kernel, by decide +kernel, by decide +kernel, rfl, rfl, rfl⟩,
   ⟨wit.put AUT_CTX_STAT_busy 0, _, _, .host, 0, _, by decide +kernel, by decide +kernel, by decide +kernel, rfl, rfl, rfl⟩,
   ⟨wit.put AUT_CTX_STAT_busy 0, _, _, .host, _, by decide +kernel, by decide +kernel, by decide +kernel, rfl, rfl, rfl⟩⟩

/-- The same, part 2. -/
theorem test_witness_CipherBankAct_part2 :
    (∃ (d : Dev) (x : Dev) (y : Dev) (z : Dev) (i : Initiator) (c : Nat) (b : Bool) (s : CtxState), d.accepts i = true ∧ d.locked pgAUT = false ∧ d.flag AUT_CTX_STAT_busy = false ∧ y = d.put AUT_CTX_STAT_err 0 ∧ c = y.selCtx ∧ s = y.cst c ∧ b = (s.inState 2).getD s.newest ∧ z = ((((y.put AUT_ST_SLOT_act (if s.newest then 1 else 0)).put AUT_ST_SLOT_an0 s.s0.an).put AUT_ST_SLOT_an1 s.s1.an).put AUT_ST_SLOT_st0 s.s0.st).put AUT_ST_SLOT_st1 s.s1.st ∧ (x = (z.wr64 AUT_ST_SPEND_LO AUT_ST_SPEND_HI (s.slot b).spend).wr64 AUT_ST_PN_LO AUT_ST_PN_HI (if ctxFmt (z.ctx z.selCtx) = 4 ∧ nb (z.ctx z.selCtx) 117 116 = 2 then s.c16 else (s.slot b).pn))) ∧
    (∃ (d : Dev) (c : Nat) (s : CtxState) (s' : CtxState), s = d.cst c ∧ ctxFmt (d.ctx c) = 1 ∧ s.s0.st ≠ 0 ∧ s.s1.st ≠ 0 ∧ s' = (s.put s.newest { s.slot s.newest with st := 2 }).put (!s.newest) {}) ∧
    (∃ (d : Dev) (c : Nat) (s : CtxState), s = d.cst c ∧ ctxFmt (d.ctx c) ≠ 1 ∧ s.inState 1 = none) ∧
    (∃ (d : Dev) (y : Dev) (z : Dev) (c : Nat) (b : Bool) (s : CtxState) (s' : CtxState), s = d.cst c ∧ ctxFmt (d.ctx c) ≠ 1 ∧ s.inState 1 = some b ∧ s' = s.put b { s.slot b with st := 2, pn := if ctxFmt (d.ctx c) = 2 then (s.slot b).pn0 else 0, spend := 0, warned := false } ∧ y = d.setCst c { (if (s.slot (!b)).st = 0 then s' else s'.put (!b) { s.slot (!b) with st := 3 }) with newest := b, unit := 0, c16 := 0 } ∧ (z = (if ctxFmt (d.ctx c) = 3 ∧ (s.slot (!b)).st ≠ 0 then y.armIn ⟨.oldKey, c, 0⟩ (msT (nb (y.ctx c) 143 128)) else y))) ∧
    (∃ (d : Dev) (y : Dev) (g : Nat), g < 64 ∧ d.armed (.aut g) = true ∧ d.pw.halted = false ∧ ctlAction (d.slot (.aut g)).ctl = 7 ∧ d.turn (d.turnAt (.aut g) (d.slot (.aut g)).time) = true ∧ d.lateTick (.aut g) = none ∧ y = d.atNs (d.slot (.aut g)).time) ∧
    (∃ (d : Dev) (y : Dev) (e : Nat) (c : Nat) (b : Bool), c < 4096 ∧ d.due ⟨.oldKey, c, 0⟩ = some e ∧ y = (d.at_ e).cancel ⟨.oldKey, c, 0⟩ ∧ (y.cst c).inState 3 = some b) :=
  ⟨⟨wit.put AUT_CTX_STAT_busy 0, _, _, _, .host, _, _, _, by decide +kernel, by decide +kernel, by decide +kernel, rfl, rfl, rfl, rfl, rfl, rfl⟩,
   ⟨({ wit with aut := { wit.aut with live := [(0, { s0 := { st := 1 }, s1 := { st := 2 } })], ctx := [(0, 1)] } } : Dev), 0, _, _, rfl, by decide +kernel, by decide +kernel, by decide +kernel, rfl⟩,
   ⟨wit, 0, _, rfl, by decide +kernel, by decide +kernel⟩,
   ⟨({ wit with aut := { wit.aut with live := [(0, { s0 := { st := 1 } })], ctx := [(0, 2)] } } : Dev), _, _, 0, _, _, _, rfl, by decide +kernel, rfl, rfl, rfl, rfl⟩,
   ⟨({ wit with aut := { wit.aut with chg := [(63, { time := 1000, ctl := 0x80000007 })] } } : Dev), _, 63, by decide +kernel, by decide +kernel, by decide +kernel, by decide +kernel, by decide +kernel, by decide +kernel, rfl⟩,
   ⟨(({ wit with aut := { wit.aut with live := [(0, { s0 := { st := 3 } })] } } : Dev).arm ⟨.oldKey, 0, 0⟩ 10).arm ⟨.oldKey, 0, 0⟩ 10, _, 10, 0, _, by decide +kernel, by decide +kernel, rfl, rfl⟩⟩

/-- The same, part 3. -/
theorem test_witness_CipherBankAct_part3 :
    (∃ (d : Dev) (y : Dev) (e : Nat) (c : Nat), c < 4096 ∧ d.due ⟨.oldKey, c, 0⟩ = some e ∧ y = (d.at_ e).cancel ⟨.oldKey, c, 0⟩ ∧ (y.cst c).inState 3 = none) ∧
    (∃ (d : Dev) (x : Dev) (c : Nat) (b : Bool), c < 4096 ∧ (ctxFmt (d.ctx c) = 2 ∨ ctxFmt (d.ctx c) = 4) ∧ (d.cst c).inState 3 = some b ∧ d.vlt.tx.any (fun t => t.cv == some c) = false ∧ d.vlt.drawn.any (fun x => x.cv == some c && decide (d.now < x.ready)) = false) ∧
    (∃ (d : Dev) (i : Initiator), d.accepts i = true ∧ d.locked pgAUT = false ∧ d.flag AUT_CHG_STAT_busy = true) ∧
    (∃ (d : Dev) (y : Dev) (i : Initiator), d.accepts i = true ∧ d.locked pgAUT = false ∧ d.flag AUT_CHG_STAT_busy = false ∧ y = d.put AUT_CHG_STAT_err 0) :=
  ⟨⟨wit.arm ⟨.oldKey, 0, 0⟩ 10, _, 10, 0, by decide +kernel, by decide +kernel, rfl, by decide +kernel⟩,
   ⟨({ wit with aut := { wit.aut with live := [(0, { s0 := { st := 3 } })], ctx := [(0, 2)] } } : Dev), wit, 0, _, by decide +kernel, by decide +kernel, rfl, by decide +kernel, by decide +kernel⟩,
   ⟨wit.put AUT_CHG_STAT_busy 1, .host, by decide +kernel, by decide +kernel, by decide +kernel⟩,
   ⟨wit.put AUT_CHG_STAT_busy 0, _, .host, by decide +kernel, by decide +kernel, by decide +kernel, rfl⟩⟩

/-- The hypotheses of `Obligations.KeyOperationsAct` hold together, clause by clause, in 3 parts. -/
theorem test_witness_KeyOperationsAct_part1 :
    (∃ (d : Dev) (z : Dev) (i : Initiator) (data : List Byte) (o : KeyOp) (k : Instr × Nat × List Byte), (k ∈ [(.importPlain i, 1, []), (.importWrapped i, 2, []), (.load i, 3, []), (.derive i, 4, []), (.unwrap i, 5, []), (.wrap i, 6, []), (.cmac i data, 7, data), (.generate i, 8, []), (.random i, 9, []), (.zero i, 0xA, []), (.token i, 0xB, [])]) ∧ z = d.each (List.range 12) (fun j d => d.wr (KEY_RES j) 0) ∧ o = z.keyOperands k.2.1 (z.dataAt (z.rd64 KEY_DATA_LO KEY_DATA_HI) (z.get KEY_DATA_LEN_bytes) k.2.2) ∧ d.accepts i = true ∧ d.flag KEY_CSTAT_busy = false ∧ z.flag KEY_STAT_sealed = true ∧ k.2.1 ≠ 0xB) ∧
    (∃ (d : Dev) (z : Dev) (i : Initiator) (data : List Byte) (o : KeyOp) (k : Instr × Nat × List Byte), (k ∈ [(.importPlain i, 1, []), (.importWrapped i, 2, []), (.load i, 3, []), (.derive i, 4, []), (.unwrap i, 5, []), (.wrap i, 6, []), (.cmac i data, 7, data), (.generate i, 8, []), (.random i, 9, []), (.zero i, 0xA, []), (.token i, 0xB, [])]) ∧ z = d.each (List.range 12) (fun j d => d.wr (KEY_RES j) 0) ∧ o = z.keyOperands k.2.1 (z.dataAt (z.rd64 KEY_DATA_LO KEY_DATA_HI) (z.get KEY_DATA_LEN_bytes) k.2.2) ∧ d.accepts i = true ∧ d.flag KEY_CSTAT_busy = false ∧ z.flag KEY_STAT_ready = false ∧ (z.flag KEY_STAT_sealed = false ∨ (k.2.1 = 0xB ∧ z.get KEY_STAT_root = 3))) ∧
    (∃ (d : Dev) (z : Dev) (i : Initiator) (data : List Byte) (o : KeyOp) (st : Nat) (k : Instr × Nat × List Byte), (k ∈ [(.importPlain i, 1, []), (.importWrapped i, 2, []), (.load i, 3, []), (.derive i, 4, []), (.unwrap i, 5, []), (.wrap i, 6, []), (.cmac i data, 7, data), (.generate i, 8, []), (.random i, 9, []), (.zero i, 0xA, []), (.token i, 0xB, [])]) ∧ z = d.each (List.range 12) (fun j d => d.wr (KEY_RES j) 0) ∧ o = z.keyOperands k.2.1 (z.dataAt (z.rd64 KEY_DATA_LO KEY_DATA_HI) (z.get KEY_DATA_LEN_bytes) k.2.2) ∧ d.accepts i = true ∧ d.flag KEY_CSTAT_busy = false ∧ (z.flag KEY_STAT_sealed = false ∨ k.2.1 = 0xB) ∧ (z.flag KEY_STAT_ready = true ∨ (z.flag KEY_STAT_sealed = true ∧ z.get KEY_STAT_root ≠ 3)) ∧ z.argRefuses o = some st) ∧
    (∃ (d : Dev) (y : Dev) (z : Dev) (i : Initiator) (data : List Byte) (o : KeyOp) (k : Instr × Nat × List Byte), (k ∈ [(.importPlain i, 1, []), (.importWrapped i, 2, []), (.load i, 3, []), (.derive i, 4, []), (.unwrap i, 5, []), (.wrap i, 6, []), (.cmac i data, 7, data), (.generate i, 8, []), (.random i, 9, []), (.zero i, 0xA, []), (.token i, 0xB, [])]) ∧ z = d.each (List.range 12) (fun j d => d.wr (KEY_RES j) 0) ∧ o = z.keyOperands k.2.1 (z.dataAt (z.rd64 KEY_DATA_LO KEY_DATA_HI) (z.get KEY_DATA_LEN_bytes) k.2.2) ∧ d.accepts i = true ∧ d.flag KEY_CSTAT_busy = false ∧ (z.flag KEY_STAT_sealed = false ∨ k.2.1 = 0xB) ∧ (z.flag KEY_STAT_ready = true ∨ (z.flag KEY_STAT_sealed = true ∧ z.get KEY_STAT_root ≠ 3)) ∧ z.argRefuses o = none ∧ y = ({ z with key := { z.key with op := some o, touched := [] } } : Dev)) ∧
    (∃ (d : Dev) (z : Dev) (i : Initiator) (data : List Byte) (o : KeyOp) (op : Nat) (k : Instr × Nat × List Byte), (k ∈ [(.importPlain i, 1, []), (.importWrapped i, 2, []), (.load i, 3, []), (.derive i, 4, []), (.unwrap i, 5, []), (.wrap i, 6, []), (.cmac i data, 7, data), (.generate i, 8, []), (.random i, 9, []), (.zero i, 0xA, []), (.token i, 0xB, [])]) ∧ z = d.each (List.range 12) (fun j d => d.wr (KEY_RES j) 0) ∧ o = z.keyOperands k.2.1 (z.dataAt (z.rd64 KEY_DATA_LO KEY_DATA_HI) (z.get KEY_DATA_LEN_bytes) k.2.2) ∧ d.accepts i = true ∧ (op = 0 ∨ (12 ≤ op ∧ op < 16)) ∧ d.flag KEY_CSTAT_busy = true) ∧
    (∃ (d : Dev) (z : Dev) (i : Initiator) (data : List Byte) (o : KeyOp) (op : Nat) (k : Instr × Nat × List Byte), (k ∈ [(.importPlain i, 1, []), (.importWrapped i, 2, []), (.load i, 3, []), (.derive i, 4, []), (.unwrap i, 5, []), (.wrap i, 6, []), (.cmac i data, 7, data), (.generate i, 8, []), (.random i, 9, []), (.zero i, 0xA, []), (.token i, 0xB, [])]) ∧ z = d.each (List.range 12) (fun j d => d.wr (KEY_RES j) 0) ∧ o = z.keyOperands k.2.1 (z.dataAt (z.rd64 KEY_DATA_LO KEY_DATA_HI) (z.get KEY_DATA_LEN_bytes) k.2.2) ∧ d.accepts i = true ∧ (op = 0 ∨ (12 ≤ op ∧ op < 16)) ∧ d.flag KEY_CSTAT_busy = false) :=
  ⟨⟨(wit.put KEY_CSTAT_busy 0).put KEY_STAT_sealed 1, _, .host, [], _, (.importPlain (.host), 1, []), by decide +kernel, rfl, rfl, by decide +kernel, by decide +kernel, by decide +kernel, by decide +kernel⟩,
   ⟨(wit.put KEY_CSTAT_busy 0).put KEY_STAT_ready 0, _, .host, [], _, (.importPlain (.host), 1, []), by decide +kernel, rfl, rfl, by decide +kernel, by decide +kernel, by decide +kernel, by decide +kernel⟩,
   ⟨((wit.put KEY_CSTAT_busy 0).put KEY_STAT_ready 1).put KEY_STAT_sealed 0, _, .host, [], _, _, (.random .host, 9, []), by decide +kernel, rfl, rfl, by decide +kernel, by decide +kernel, by decide +kernel, by decide +kernel, rfl⟩,
   ⟨(((wit.put KEY_CSTAT_busy 0).put KEY_STAT_ready 1).put KEY_STAT_sealed 0).put KEY_STAT_rng_ok 1, _, _, .host, [], _, (.random .host, 9, []), by decide +kernel, rfl, rfl, by decide +kernel, by decide +kernel, by decide +kernel, by decide +kernel, by decide +kernel, rfl⟩,
   ⟨wit.put KEY_CSTAT_busy 1, _, .host, [], _, 0, (.importPlain (.host), 1, []), by decide +kernel, rfl, rfl, by decide +kernel, by decide +kernel, by decide +kernel⟩,
   ⟨wit.put KEY_CSTAT_busy 0, _, .host, [], _, 0, (.importPlain (.host), 1, []), by decide +kernel, rfl, rfl, by decide +kernel, by decide +kernel, by decide +kernel⟩⟩

/-- The same, part 2. -/
theorem test_witness_KeyOperationsAct_part2 :
    (∃ (d : Dev) (z : Dev) (i : Initiator) (data : List Byte) (o : KeyOp) (e : Nat) (k : Instr × Nat × List Byte), (k ∈ [(.importPlain i, 1, []), (.importWrapped i, 2, []), (.load i, 3, []), (.derive i, 4, []), (.unwrap i, 5, []), (.wrap i, 6, []), (.cmac i data, 7, data), (.generate i, 8, []), (.random i, 9, []), (.zero i, 0xA, []), (.token i, 0xB, [])]) ∧ z = d.each (List.range 12) (fun j d => d.wr (KEY_RES j) 0) ∧ o = z.keyOperands k.2.1 (z.dataAt (z.rd64 KEY_DATA_LO KEY_DATA_HI) (z.get KEY_DATA_LEN_bytes) k.2.2) ∧ d.accepts i = true ∧ d.key.anchors.any (fun e => e.2.valid && e.2.purpose == 1) = true) ∧
    (∃ (d : Dev) (z : Dev) (i : Initiator) (data : List Byte) (o : KeyOp) (e : Nat) (k : Instr × Nat × List Byte), (k ∈ [(.importPlain i, 1, []), (.importWrapped i, 2, []), (.load i, 3, []), (.derive i, 4, []), (.unwrap i, 5, []), (.wrap i, 6, []), (.cmac i data, 7, data), (.generate i, 8, []), (.random i, 9, []), (.zero i, 0xA, []), (.token i, 0xB, [])]) ∧ z = d.each (List.range 12) (fun j d => d.wr (KEY_RES j) 0) ∧ o = z.keyOperands k.2.1 (z.dataAt (z.rd64 KEY_DATA_LO KEY_DATA_HI) (z.get KEY_DATA_LEN_bytes) k.2.2) ∧ d.accepts i = true ∧ d.key.anchors.any (fun e => e.2.valid && e.2.purpose == 1) = false) ∧
    (∃ (d : Dev) (z : Dev) (i : Initiator) (data : List Byte) (o : KeyOp) (g : KeyOp) (e : Nat) (k : Instr × Nat × List Byte), (k ∈ [(.importPlain i, 1, []), (.importWrapped i, 2, []), (.load i, 3, []), (.derive i, 4, []), (.unwrap i, 5, []), (.wrap i, 6, []), (.cmac i data, 7, data), (.generate i, 8, []), (.random i, 9, []), (.zero i, 0xA, []), (.token i, 0xB, [])]) ∧ z = d.each (List.range 12) (fun j d => d.wr (KEY_RES j) 0) ∧ o = z.keyOperands k.2.1 (z.dataAt (z.rd64 KEY_DATA_LO KEY_DATA_HI) (z.get KEY_DATA_LEN_bytes) k.2.2) ∧ d.key.op = some g ∧ d.due ⟨.keyOp, 0, 0⟩ = some e) ∧
    (∃ (d : Dev) (y : Dev) (z : Dev) (i : Initiator) (data : List Byte) (o : KeyOp) (e : Nat) (k : Instr × Nat × List Byte), (k ∈ [(.importPlain i, 1, []), (.importWrapped i, 2, []), (.load i, 3, []), (.derive i, 4, []), (.unwrap i, 5, []), (.wrap i, 6, []), (.cmac i data, 7, data), (.generate i, 8, []), (.random i, 9, []), (.zero i, 0xA, []), (.token i, 0xB, [])]) ∧ z = d.each (List.range 12) (fun j d => d.wr (KEY_RES j) 0) ∧ o = z.keyOperands k.2.1 (z.dataAt (z.rd64 KEY_DATA_LO KEY_DATA_HI) (z.get KEY_DATA_LEN_bytes) k.2.2) ∧ y = (d.due ⟨.reseed, 0, 0⟩).elim d (fun e => (d.at_ e).cancel ⟨.reseed, 0, 0⟩) ∧ (d.running ⟨.reseed, 0, 0⟩ = true ∨ d.flag KEY_STAT_rng_ok = true)) ∧
    (∃ (d : Dev) (y : Dev) (z : Dev) (i : Initiator) (data : List Byte) (o : KeyOp) (e : Nat) (k : Instr × Nat × List Byte), (k ∈ [(.importPlain i, 1, []), (.importWrapped i, 2, []), (.load i, 3, []), (.derive i, 4, []), (.unwrap i, 5, []), (.wrap i, 6, []), (.cmac i data, 7, data), (.generate i, 8, []), (.random i, 9, []), (.zero i, 0xA, []), (.token i, 0xB, [])]) ∧ z = d.each (List.range 12) (fun j d => d.wr (KEY_RES j) 0) ∧ o = z.keyOperands k.2.1 (z.dataAt (z.rd64 KEY_DATA_LO KEY_DATA_HI) (z.get KEY_DATA_LEN_bytes) k.2.2) ∧ y = (d.due ⟨.reseed, 0, 0⟩).elim d (fun e => (d.at_ e).cancel ⟨.reseed, 0, 0⟩) ∧ d.running ⟨.reseed, 0, 0⟩ = false ∧ d.flag KEY_STAT_rng_ok = false) ∧
    (∃ (d : Dev) (y : Dev) (z : Dev) (i : Initiator) (data : List Byte) (o : KeyOp) (e : Nat) (k : Instr × Nat × List Byte), (k ∈ [(.importPlain i, 1, []), (.importWrapped i, 2, []), (.load i, 3, []), (.derive i, 4, []), (.unwrap i, 5, []), (.wrap i, 6, []), (.cmac i data, 7, data), (.generate i, 8, []), (.random i, 9, []), (.zero i, 0xA, []), (.token i, 0xB, [])]) ∧ z = d.each (List.range 12) (fun j d => d.wr (KEY_RES j) 0) ∧ o = z.keyOperands k.2.1 (z.dataAt (z.rd64 KEY_DATA_LO KEY_DATA_HI) (z.get KEY_DATA_LEN_bytes) k.2.2) ∧ y = (d.due ⟨.reseed, 0, 0⟩).elim d (fun e => (d.at_ e).cancel ⟨.reseed, 0, 0⟩) ∧ (d.running ⟨.reseed, 0, 0⟩ = true ∨ 2 ^ 20 ≤ d.key.requests)) :=
  ⟨⟨({ wit with key := { wit.key with anchors := [(0, { valid := true, purpose := 1 })] } } : Dev), _, .host, [], _, 10, (.random .host, 9, []), by decide +kernel, rfl, rfl, by decide +kernel, by decide +kernel⟩,
   ⟨wit, _, .host, [], _, 0, (.importPlain (.host), 1, []), by decide +kernel, rfl, rfl, by decide +kernel, by decide +kernel⟩,
   ⟨({ wit with key := { wit.key with op := some (wit.keyOperands 9 []) } } : Dev).arm ⟨.keyOp, 0, 0⟩ 10, _, .host, [], _, _, 10, (.random .host, 9, []), by decide +kernel, rfl, rfl, rfl, by decide +kernel⟩,
   ⟨wit.put KEY_STAT_rng_ok 1, _, _, .host, [], _, 0, (.random .host, 9, []), by decide +kernel, rfl, rfl, rfl, by decide +kernel⟩,
   ⟨wit.put KEY_STAT_rng_ok 0, _, _, .host, [], _, 0, (.importPlain (.host), 1, []), by decide +kernel, rfl, rfl, rfl, by decide +kernel, by decide +kernel⟩,
   ⟨({ wit with key := { wit.key with requests := 2 ^ 20 } } : Dev), _, _, .host, [], _, 0, (.random .host, 9, []), by decide +kernel, rfl, rfl, rfl, by decide +kernel⟩⟩

/-- The same, part 3. -/
theorem test_witness_KeyOperationsAct_part3 :
    (∃ (d : Dev) (y : Dev) (z : Dev) (i : Initiator) (data : List Byte) (o : KeyOp) (e : Nat) (k : Instr × Nat × List Byte), (k ∈ [(.importPlain i, 1, []), (.importWrapped i, 2, []), (.load i, 3, []), (.derive i, 4, []), (.unwrap i, 5, []), (.wrap i, 6, []), (.cmac i data, 7, data), (.generate i, 8, []), (.random i, 9, []), (.zero i, 0xA, []), (.token i, 0xB, [])]) ∧ z = d.each (List.range 12) (fun j d => d.wr (KEY_RES j) 0) ∧ o = z.keyOperands k.2.1 (z.dataAt (z.rd64 KEY_DATA_LO KEY_DATA_HI) (z.get KEY_DATA_LEN_bytes) k.2.2) ∧ y = (d.due ⟨.reseed, 0, 0⟩).elim d (fun e => (d.at_ e).cancel ⟨.reseed, 0, 0⟩) ∧ d.running ⟨.reseed, 0, 0⟩ = false ∧ d.key.requests < 2 ^ 20) ∧
    (∃ (d : Dev) (z : Dev) (i : Initiator) (data : List Byte) (o : KeyOp) (k : Instr × Nat × List Byte), (k ∈ [(.importPlain i, 1, []), (.importWrapped i, 2, []), (.load i, 3, []), (.derive i, 4, []), (.unwrap i, 5, []), (.wrap i, 6, []), (.cmac i data, 7, data), (.generate i, 8, []), (.random i, 9, []), (.zero i, 0xA, []), (.token i, 0xB, [])]) ∧ z = d.each (List.range 12) (fun j d => d.wr (KEY_RES j) 0) ∧ o = z.keyOperands k.2.1 (z.dataAt (z.rd64 KEY_DATA_LO KEY_DATA_HI) (z.get KEY_DATA_LEN_bytes) k.2.2) ∧ d.pw.main = true) ∧
    (∃ (d : Dev) (z : Dev) (i : Initiator) (data : List Byte) (o : KeyOp) (k : Instr × Nat × List Byte), (k ∈ [(.importPlain i, 1, []), (.importWrapped i, 2, []), (.load i, 3, []), (.derive i, 4, []), (.unwrap i, 5, []), (.wrap i, 6, []), (.cmac i data, 7, data), (.generate i, 8, []), (.random i, 9, []), (.zero i, 0xA, []), (.token i, 0xB, [])]) ∧ z = d.each (List.range 12) (fun j d => d.wr (KEY_RES j) 0) ∧ o = z.keyOperands k.2.1 (z.dataAt (z.rd64 KEY_DATA_LO KEY_DATA_HI) (z.get KEY_DATA_LEN_bytes) k.2.2) ∧ d.pw.main = false) :=
  ⟨⟨wit, _, _, .host, [], _, 0, (.importPlain (.host), 1, []), by decide +kernel, rfl, rfl, rfl, by decide +kernel, by decide +kernel⟩,
   ⟨wit, _, .host, [], _, (.importPlain (.host), 1, []), by decide +kernel, rfl, rfl, by decide +kernel⟩,
   ⟨({ wit with pw := { wit.pw with main := false } } : Dev), _, .host, [], _, (.random .host, 9, []), by decide +kernel, rfl, rfl, by decide +kernel⟩⟩

/-- The hypotheses of `Obligations.TamperAndSignaturesAct` hold together, clause by clause, in 3 parts. -/
theorem test_witness_TamperAndSignaturesAct_part1 :
    (∃ (d : Dev) (s : Sensor) (b : Nat), b = sensorBit s ∧ (d.pw.base = .off ∨ bitAt (d.get TMP_EN_sensors) b = false ∨ (2 ≤ b ∧ d.pw.main = false) ∨ bitAt (d.get TMP_LATCH_sensors) b = true)) ∧
    (∃ (d : Dev) (y : Dev) (s : Sensor) (b : Nat) (n : Nat) (ev : TamperLog), b = sensorBit s ∧ d.pw.base ≠ .off ∧ bitAt (d.get TMP_EN_sensors) b = true ∧ (2 ≤ b → d.pw.main = true) ∧ bitAt (d.get TMP_LATCH_sensors) b = false ∧ n = d.get TMP_LATCH_sensors ∧ y = (d.put TMP_LATCH_sensors (setBitTo n b true)).put TMP_STAT_alarm 1 ∧ ev = { aon := !y.pw.main || y.tim.released.isNone, sensors := 2 ^ b, mode := y.mode, start := y.key.starts % 65536, time := if y.pw.main && y.tim.released.isSome then y.ns else y.aonUs } ∧ y.pw.main = true ∧ y.pw.losing = false ∧ (y.flag KEY_STAT_ready = true ∨ y.flag KEY_STAT_sealed = true ∨ (y.get KEY_STAT_root = 3 ∧ y.pw.optionsLoaded = true)) ∧ n = 0) ∧
    (∃ (d : Dev) (y : Dev) (s : Sensor) (b : Nat) (n : Nat) (ev : TamperLog), b = sensorBit s ∧ d.pw.base ≠ .off ∧ bitAt (d.get TMP_EN_sensors) b = true ∧ (2 ≤ b → d.pw.main = true) ∧ bitAt (d.get TMP_LATCH_sensors) b = false ∧ n = d.get TMP_LATCH_sensors ∧ y = (d.put TMP_LATCH_sensors (setBitTo n b true)).put TMP_STAT_alarm 1 ∧ ev = { aon := !y.pw.main || y.tim.released.isNone, sensors := 2 ^ b, mode := y.mode, start := y.key.starts % 65536, time := if y.pw.main && y.tim.released.isSome then y.ns else y.aonUs } ∧ y.pw.main = true ∧ y.pw.losing = false ∧ (y.flag KEY_STAT_ready = true ∨ y.flag KEY_STAT_sealed = true ∨ (y.get KEY_STAT_root = 3 ∧ y.pw.optionsLoaded = true)) ∧ n ≠ 0) ∧
    (∃ (d : Dev) (y : Dev) (z : Dev) (s : Sensor) (b : Nat) (n : Nat) (ev : TamperLog), b = sensorBit s ∧ d.pw.base ≠ .off ∧ bitAt (d.get TMP_EN_sensors) b = true ∧ (2 ≤ b → d.pw.main = true) ∧ bitAt (d.get TMP_LATCH_sensors) b = false ∧ n = d.get TMP_LATCH_sensors ∧ y = (d.put TMP_LATCH_sensors (setBitTo n b true)).put TMP_STAT_alarm 1 ∧ ev = { aon := !y.pw.main || y.tim.released.isNone, sensors := 2 ^ b, mode := y.mode, start := y.key.starts % 65536, time := if y.pw.main && y.tim.released.isSome then y.ns else y.aonUs } ∧ (y.pw.main = false ∨ y.pw.losing = true ∨ (y.flag KEY_STAT_ready = false ∧ y.flag KEY_STAT_sealed = false ∧ (y.get KEY_STAT_root ≠ 3 ∨ y.pw.optionsLoaded = false))) ∧ z = ({ y with key := { y.key with waiting := ev :: y.key.waiting, alarmWaits := y.key.alarmWaits || n == 0 } } : Dev) ∧ n = 0 ∧ (y.pw.main = false ∨ y.pw.optionsLoaded = false ∨ 2 ≤ y.get TMP_STAT_resp)) ∧
    (∃ (d : Dev) (y : Dev) (z : Dev) (s : Sensor) (b : Nat) (n : Nat) (ev : TamperLog), b = sensorBit s ∧ d.pw.base ≠ .off ∧ bitAt (d.get TMP_EN_sensors) b = true ∧ (2 ≤ b → d.pw.main = true) ∧ bitAt (d.get TMP_LATCH_sensors) b = false ∧ n = d.get TMP_LATCH_sensors ∧ y = (d.put TMP_LATCH_sensors (setBitTo n b true)).put TMP_STAT_alarm 1 ∧ ev = { aon := !y.pw.main || y.tim.released.isNone, sensors := 2 ^ b, mode := y.mode, start := y.key.starts % 65536, time := if y.pw.main && y.tim.released.isSome then y.ns else y.aonUs } ∧ (y.pw.main = false ∨ y.pw.losing = true ∨ (y.flag KEY_STAT_ready = false ∧ y.flag KEY_STAT_sealed = false ∧ (y.get KEY_STAT_root ≠ 3 ∨ y.pw.optionsLoaded = false))) ∧ z = ({ y with key := { y.key with waiting := ev :: y.key.waiting, alarmWaits := y.key.alarmWaits || n == 0 } } : Dev) ∧ (n ≠ 0 ∨ (y.pw.main = true ∧ y.pw.optionsLoaded = true ∧ y.get TMP_STAT_resp < 2))) ∧
    (∃ (d : Dev) (y : Dev) (z : Dev) (e : Nat), d.due ⟨.tmpErase, 0, 0⟩ = some e ∧ y = d.cancel ⟨.tmpErase, 0, 0⟩ ∧ z = y.each y.key.recs (fun e t => t.setKrc e.1 { e.2 with sel := 0 })) :=
  ⟨⟨wit.put TMP_EN_sensors 0, .mesh, _, rfl, by decide +kernel⟩,
   ⟨((wit.put TMP_EN_sensors 31).put KEY_STAT_ready 1).put TMP_LATCH_sensors 0, _, .mesh, _, _, _, rfl, by decide +kernel, by decide +kernel, by decide +kernel, by decide +kernel, rfl, rfl, rfl, by decide +kernel, by decide +kernel, by decide +kernel, by decide +kernel⟩,
   ⟨((wit.put TMP_EN_sensors 31).put KEY_STAT_ready 1).put TMP_LATCH_sensors 1, _, .mesh, _, _, _, rfl, by decide +kernel, by decide +kernel, by decide +kernel, by decide +kernel, rfl, rfl, rfl, by decide +kernel, by decide +kernel, by decide +kernel, by decide +kernel⟩,
   ⟨({ wit with pw := { wit.pw with main := false } } : Dev), _, _, .mesh, _, 0, _, rfl, by decide +kernel, by decide +kernel, by decide +kernel, by decide +kernel, by decide +kernel, rfl, rfl, by decide +kernel, rfl, by decide +kernel, by decide +kernel⟩,
   ⟨wit, _, _, .mesh, _, _, _, rfl, by decide +kernel, by decide +kernel, by decide +kernel, by decide +kernel, rfl, rfl, rfl, by decide +kernel, rfl, by decide +kernel⟩,
   ⟨wit.arm ⟨.tmpErase, 0, 0⟩ 10, _, _, 10, by decide +kernel, rfl, rfl⟩⟩

/-- The same, part 2. -/
theorem test_witness_TamperAndSignaturesAct_part2 :
    (∃ (d : Dev) (i : Initiator), d.accepts i = true ∧ d.get TMP_STAT_resp ≠ 0) ∧
    (∃ (d : Dev) (y : Dev) (z : Dev) (i : Initiator) (b : Nat) (n : Nat) (v : Word), d.accepts i = true ∧ d.get TMP_STAT_resp = 0 ∧ n = ((List.range 5).filter (fun b => bitAt (d.get TMP_LATCH_sensors) b && !v.getLsbD b)).foldl (fun n b => n + 2 ^ b) 0 ∧ y = (d.put TMP_LATCH_sensors n).put TMP_STAT_alarm (if n = 0 then 0 else 1) ∧ z = (if n = 0 then y.put TMP_STAT_erase_pend 0 else y)) ∧
    (∃ (d : Dev) (y : Dev) (i : Initiator), d.accepts i = true ∧ y = (if d.locked pgSIG = true then d.lockViol pgSIG i 0x100 1 else d) ∧ y.sigBusy = true) ∧
    (∃ (d : Dev) (y : Dev) (z : Dev) (i : Initiator) (n : Nat) (data : List Byte) (op : SigOp), d.accepts i = true ∧ y = (if d.locked pgSIG = true then d.lockViol pgSIG i 0x100 1 else d) ∧ y.sigBusy = false ∧ n = y.get SIG_DATA_LEN_bytes ∧ op = { curve := y.flag SIG_CTL_curve, hash := y.flag SIG_CTL_hash, addr := y.rd64 SIG_DATA_LO SIG_DATA_HI, anchor := if y.flag SIG_CTL_anchor then some (y.get SIG_CTL_slot) else none, len := n, data := y.dataAt (y.rd64 SIG_DATA_LO SIG_DATA_HI) n data, digest := (y.wordBytes SIG_DIG 12).take (if y.flag SIG_CTL_curve then 48 else 32), q := halves (y.flag SIG_CTL_curve) (y.wordBytes SIG_Q 24), sig := halves (y.flag SIG_CTL_curve) (y.wordBytes SIG_SG 24) } ∧ z = ({ y with key := { y.key with sig := some op } } : Dev)) ∧
    (∃ (d : Dev) (i : Initiator) (k : Nat) (purpose : Nat) (a : Anchor), d.accepts i = true ∧ k = d.get SIG_ANCH_SEL_slot ∧ a = NMap.get {} d.key.anchors k ∧ purpose < 4 ∧ a.valid = false ∧ d.flag KEY_STAT_prov = true) ∧
    (∃ (d : Dev) (i : Initiator) (k : Nat) (purpose : Nat) (a : Anchor), d.accepts i = true ∧ k = d.get SIG_ANCH_SEL_slot ∧ a = NMap.get {} d.key.anchors k ∧ purpose < 4 ∧ (a.valid = true ∨ d.flag KEY_STAT_prov = false)) :=
  ⟨⟨wit.put TMP_STAT_resp 1, .host, by decide +kernel, by decide +kernel⟩,
   ⟨wit.put TMP_STAT_resp 0, _, _, .host, 0, _, 0, by decide +kernel, by decide +kernel, rfl, rfl, rfl⟩,
   ⟨({ wit with key := { wit.key with sig := some ⟨false, false, 0, none, 0, [], [], [], []⟩ } } : Dev), _, .host, by decide +kernel, rfl, by decide +kernel⟩,
   ⟨wit, _, _, .host, _, [], _, by decide +kernel, rfl, by decide +kernel, rfl, rfl, rfl⟩,
   ⟨(({ wit with key := { wit.key with anchors := [] } } : Dev).put KEY_STAT_prov 1).put KEY_STAT_prov 1, .host, _, 0, _, by decide +kernel, rfl, rfl, by decide +kernel, by decide +kernel, by decide +kernel⟩,
   ⟨wit, .host, _, 0, _, by decide +kernel, rfl, rfl, by decide +kernel, by decide +kernel⟩⟩

/-- The same, part 3. -/
theorem test_witness_TamperAndSignaturesAct_part3 :
    (∃ (d : Dev) (i : Initiator) (e : Nat) (k : Nat) (a : Anchor), d.accepts i = true ∧ k = d.get SIG_ANCH_SEL_slot ∧ a = NMap.get {} d.key.anchors k ∧ a.valid = true ∧ a.revoked = false ∧ a.purpose = 0 ∧ d.key.anchors.any (fun e => e.1 != k && (e.2.valid && !e.2.revoked && e.2.purpose == 0)) = false) ∧
    (∃ (d : Dev) (i : Initiator) (e : Nat) (k : Nat) (a : Anchor), d.accepts i = true ∧ k = d.get SIG_ANCH_SEL_slot ∧ a = NMap.get {} d.key.anchors k ∧ (a.valid = false ∨ a.revoked = true ∨ a.purpose ≠ 0 ∨ d.key.anchors.any (fun e => e.1 != k && (e.2.valid && !e.2.revoked && e.2.purpose == 0)) = true)) ∧
    (∃ (d : Dev) (w : Dev) (x : Dev) (y : Dev) (z : Dev) (e : Nat) (n : Nat) (r : Nat) (op : SigOp) (ue : Option Nat) (out : Option (List Byte)), d.key.sig = some op ∧ d.due ⟨.sigOp, 0, 0⟩ = some e ∧ d.cancel ⟨.sigOp, 0, 0⟩ = y ∧ y.sigResult op ue.isSome = (r, out) ∧ z = ({ y with key := { y.key with sig := none } } : Dev) ∧ x = ue.elim z (fun n => if r = 4 then z.memUe (op.addr + n % op.len) else z) ∧ w = out.elim x (fun bs => x.putBytes SIG_DIG 12 bs)) :=
  ⟨⟨wit, .host, 0, _, _, by decide +kernel, rfl, rfl, by decide +kernel, by decide +kernel, by decide +kernel, by decide +kernel⟩,
   ⟨({ wit with key := { wit.key with anchors := [] } } : Dev), .host, 0, _, _, by decide +kernel, rfl, rfl, by decide +kernel⟩,
   ⟨(({ wit with key := { wit.key with sig := some ⟨false, false, 0, none, 0, [], [], [], []⟩ } } : Dev).arm ⟨.sigOp, 0, 0⟩ 10).arm ⟨.sigOp, 0, 0⟩ 10, _, _, _, _, 10, 0, _, _, none, _, rfl, by decide +kernel, rfl, rfl, rfl, rfl, rfl⟩⟩

/-- The hypotheses of `Obligations.WakesAct` hold together, clause by clause, in 6 parts. -/
theorem test_witness_WakesAct_part1 :
    (∃ (d : Dev) (src : WakeSrc), (d.wakeEnabled src = false ∨ d.pw.base = .off ∨ d.pw.losing = true)) ∧
    (∃ (d : Dev) (pn : Fin 8) (src : WakeSrc), d.pw.base ≠ .off ∧ d.pw.losing = false ∧ d.wakeEnabled src = true ∧ d.pw.main = false ∧ src = .pin pn) ∧
    (∃ (d : Dev) (src : WakeSrc), d.pw.base ≠ .off ∧ d.pw.losing = false ∧ d.wakeEnabled src = true ∧ d.pw.main = false ∧ src = .host) ∧
    (∃ (d : Dev) (vn : VhLink) (src : WakeSrc), d.pw.base ≠ .off ∧ d.pw.losing = false ∧ d.wakeEnabled src = true ∧ d.pw.main = false ∧ src = .vh vn) ∧
    (∃ (d : Dev) (ch : CanCh) (src : WakeSrc), d.pw.base ≠ .off ∧ d.pw.losing = false ∧ d.wakeEnabled src = true ∧ d.pw.main = false ∧ src = .can ch) ∧
    (∃ (d : Dev) (ln : LinCh) (src : WakeSrc), d.pw.base ≠ .off ∧ d.pw.losing = false ∧ d.wakeEnabled src = true ∧ d.pw.main = false ∧ src = .lin ln) :=
  ⟨⟨wit.put WAK_WK_BUS1_host 0, .host, by decide +kernel⟩,
   ⟨({ wit with pw := { wit.pw with main := false, base := .kennel } } : Dev).put (WAK_WK_CFG_en 7) 1, 7, (.pin 7), by decide +kernel, by decide +kernel, by decide +kernel, by decide +kernel, by decide +kernel⟩,
   ⟨({ wit with pw := { wit.pw with main := false } } : Dev), _, by decide +kernel, by decide +kernel, by decide +kernel, by decide +kernel, rfl⟩,
   ⟨({ wit with pw := { wit.pw with main := false } } : Dev), 0, _, by decide +kernel, by decide +kernel, by decide +kernel, by decide +kernel, rfl⟩,
   ⟨({ wit with pw := { wit.pw with main := false } } : Dev), 0, _, by decide +kernel, by decide +kernel, by decide +kernel, by decide +kernel, rfl⟩,
   ⟨({ wit with pw := { wit.pw with main := false } } : Dev), 0, _, by decide +kernel, by decide +kernel, by decide +kernel, by decide +kernel, rfl⟩⟩

/-- The same, part 2. -/
theorem test_witness_WakesAct_part2 :
    (∃ (d : Dev) (p : EthPort) (src : WakeSrc), d.pw.base ≠ .off ∧ d.pw.losing = false ∧ d.wakeEnabled src = true ∧ d.pw.main = false ∧ src = .eth p) ∧
    (∃ (d : Dev) (src : WakeSrc), d.pw.base ≠ .off ∧ d.pw.losing = false ∧ d.wakeEnabled src = true ∧ d.pw.main = true ∧ (d.pw.rails = false ∨ d.pw.asserted = true)) ∧
    (∃ (d : Dev) (src : WakeSrc), d.pw.base ≠ .off ∧ d.pw.losing = false ∧ d.wakeEnabled src = true ∧ d.pw.main = true ∧ d.pw.rails = true ∧ d.pw.asserted = false ∧ d.standsBy src = true) ∧
    (∃ (d : Dev) (src : WakeSrc), d.pw.base ≠ .off ∧ d.pw.losing = false ∧ d.wakeEnabled src = true ∧ d.pw.main = true ∧ d.pw.rails = true ∧ d.pw.asserted = false ∧ d.standsBy src = false ∧ d.pw.halted = true) ∧
    (∃ (d : Dev) (src : WakeSrc), d.pw.base ≠ .off ∧ d.pw.losing = false ∧ d.wakeEnabled src = true ∧ d.pw.main = true ∧ d.pw.rails = true ∧ d.pw.asserted = false ∧ d.standsBy src = false ∧ d.pw.halted = false ∧ d.pw.base = .start ∧ d.tim.released = none) ∧
    (∃ (d : Dev) (y : Dev) (z : Dev) (pn : Fin 8) (ch : CanCh) (ln : LinCh) (p : EthPort) (vn : VhLink) (src : WakeSrc), d.pw.base ≠ .off ∧ d.pw.losing = false ∧ d.wakeEnabled src = true ∧ d.pw.main = true ∧ d.pw.rails = true ∧ d.pw.asserted = false ∧ d.standsBy src = false ∧ d.pw.halted = false ∧ (d.pw.base ≠ .start ∨ d.tim.released.isSome = true) ∧ y = ({ d with wak := { d.wak with pins := setBitTo d.wak.pins pn true } } : Dev).wakeSeen ∧ ((src = .pin pn ∧ z = (if y.flag (WAK_WK_CFG_seg_v pn) = true then y.segWake (y.get (WAK_WK_CFG_seg pn)) else y)) ∨ (src = .host ∧ z = d.wakeSeen) ∨ (src = .vh vn ∧ z = d) ∨ (src = .can ch ∧ z = d.portWake (canPort ch)) ∨ (src = .lin ln ∧ z = d.portWake (linPort ln)) ∨ (src = .eth p ∧ z = d.portWake p)) ∧ (d.pw.settling = true ∨ d.get WAK_SEG_STAT_asleep ≠ z.get WAK_SEG_STAT_asleep)) :=
  ⟨⟨({ wit with pw := { wit.pw with main := false, base := .kennel } } : Dev).put (WAK_WK_ETH_ports 0) 1, 0, (.eth 0), by decide +kernel, by decide +kernel, by decide +kernel, by decide +kernel, by decide +kernel⟩,
   ⟨({ wit with pw := { wit.pw with rails := false } } : Dev), .host, by decide +kernel, by decide +kernel, by decide +kernel, by decide +kernel, by decide +kernel⟩,
   ⟨(wit.put WAK_WK_BUS0_can 1).put (PG_STATE_in_reset (pgCAN 0)) 1, (.can 0), by decide +kernel, by decide +kernel, by decide +kernel, by decide +kernel, by decide +kernel, by decide +kernel, by decide +kernel⟩,
   ⟨({ wit with pw := { wit.pw with halted := true } } : Dev), .host, by decide +kernel, by decide +kernel, by decide +kernel, by decide +kernel, by decide +kernel, by decide +kernel, by decide +kernel, by decide +kernel⟩,
   ⟨({ wit with pw := { wit.pw with base := .start }, tim := { wit.tim with released := none } } : Dev), .host, by decide +kernel, by decide +kernel, by decide +kernel, by decide +kernel, by decide +kernel, by decide +kernel, by decide +kernel, by decide +kernel, by decide +kernel, by decide +kernel⟩,
   ⟨({ wit with pw := { wit.pw with settling := true } } : Dev).put WAK_WK_BUS1_host 1, _, _, 0, 0, 0, 0, 0, .host, by decide +kernel, by decide +kernel, by decide +kernel, by decide +kernel, by decide +kernel, by decide +kernel, by decide +kernel, by decide +kernel, by decide +kernel, rfl, Or.inr (Or.inl ⟨rfl, rfl⟩), by decide +kernel⟩⟩

/-- The same, part 3. -/
theorem test_witness_WakesAct_part3 :
    (∃ (d : Dev) (y : Dev) (z : Dev) (pn : Fin 8) (ch : CanCh) (ln : LinCh) (p : EthPort) (vn : VhLink) (src : WakeSrc), d.pw.base ≠ .off ∧ d.pw.losing = false ∧ d.wakeEnabled src = true ∧ d.pw.main = true ∧ d.pw.rails = true ∧ d.pw.asserted = false ∧ d.standsBy src = false ∧ d.pw.halted = false ∧ (d.pw.base ≠ .start ∨ d.tim.released.isSome = true) ∧ y = ({ d with wak := { d.wak with pins := setBitTo d.wak.pins pn true } } : Dev).wakeSeen ∧ ((src = .pin pn ∧ z = (if y.flag (WAK_WK_CFG_seg_v pn) = true then y.segWake (y.get (WAK_WK_CFG_seg pn)) else y)) ∨ (src = .host ∧ z = d.wakeSeen) ∨ (src = .vh vn ∧ z = d) ∨ (src = .can ch ∧ z = d.portWake (canPort ch)) ∨ (src = .lin ln ∧ z = d.portWake (linPort ln)) ∨ (src = .eth p ∧ z = d.portWake p)) ∧ d.pw.settling = false ∧ d.get WAK_SEG_STAT_asleep = z.get WAK_SEG_STAT_asleep) ∧
    (∃ (d : Dev) (c : Decoder) (r : BusRecord), r.wf = true ∧ (d.decodes c = false ∨ (c.val < 24 ∧ (r.fdf = true ∨ 1 < r.fmt)))) ∧
    (∃ (d : Dev) (y : Dev) (c : Decoder) (r : BusRecord), r.wf = true ∧ d.decodes c = true ∧ (c.val < 24 → r.fdf = false ∧ r.fmt ≤ 1) ∧ y = { d with wak := { d.wak with listenErr := NMap.set 0 d.wak.listenErr c (NMap.get 0 d.wak.listenErr c - 1) } } ∧ y.flag WAK_LISTEN_CFG_sel = false) ∧
    (∃ (d : Dev) (y : Dev) (ch : CanCh) (c : Decoder) (r : BusRecord), r.wf = true ∧ d.decodes c = true ∧ (c.val < 24 → r.fdf = false ∧ r.fmt ≤ 1) ∧ y = { d with wak := { d.wak with listenErr := NMap.set 0 d.wak.listenErr c (NMap.get 0 d.wak.listenErr c - 1) } } ∧ c.val = ch.val ∧ y.wakeMatch c r = false) ∧
    (∃ (d : Dev) (y : Dev) (ch : CanCh) (c : Decoder) (r : BusRecord), r.wf = true ∧ d.decodes c = true ∧ (c.val < 24 → r.fdf = false ∧ r.fmt ≤ 1) ∧ y = { d with wak := { d.wak with listenErr := NMap.set 0 d.wak.listenErr c (NMap.get 0 d.wak.listenErr c - 1) } } ∧ c.val = ch.val ∧ y.flag WAK_LISTEN_CFG_sel = true ∧ y.wakeMatch c r = true) ∧
    (∃ (d : Dev) (y : Dev) (ln : LinCh) (c : Decoder) (r : BusRecord), r.wf = true ∧ d.decodes c = true ∧ (c.val < 24 → r.fdf = false ∧ r.fmt ≤ 1) ∧ y = { d with wak := { d.wak with listenErr := NMap.set 0 d.wak.listenErr c (NMap.get 0 d.wak.listenErr c - 1) } } ∧ c.val = 24 + ln.val ∧ y.wakeMatch c { r with data := [] } = false) :=
  ⟨⟨({ wit with pw := { wit.pw with settling := false } } : Dev).put WAK_WK_BUS1_host 1, _, _, 0, 0, 0, 0, 0, .host, by decide +kernel, by decide +kernel, by decide +kernel, by decide +kernel, by decide +kernel, by decide +kernel, by decide +kernel, by decide +kernel, by decide +kernel, rfl, Or.inr (Or.inl ⟨rfl, rfl⟩), by decide +kernel, rfl⟩,
   ⟨wit, 0, { id := 1, fmt := 0 }, by decide +kernel, by decide +kernel⟩,
   ⟨((({ wit with pw := { wit.pw with main := false, base := .listen } } : Dev).put WAK_LISTEN_CFG_sel 0).put WAK_WK_BUS0_can 1).put WAK_LISTEN_CFG_sel 0, _, 0, { id := 1, fmt := 0 }, by decide +kernel, by decide +kernel, by decide +kernel, rfl, by decide +kernel⟩,
   ⟨({ wit with pw := { wit.pw with main := false, base := .listen } } : Dev).put WAK_WK_BUS0_can 1, _, 0, 0, { id := 1, fmt := 0 }, by decide +kernel, by decide +kernel, by decide +kernel, rfl, by decide +kernel, by decide +kernel⟩,
   ⟨((((((((({ wit with pw := { wit.pw with main := false, base := .listen } } : Dev).put WAK_LISTEN_CFG_sel 1).put WAK_WK_BUS0_can 1).put WAK_LISTEN_CFG_sel 1).put (WAK_WF_valid 0) 1).put (WAK_WF2_chan 0) 0).put (WAK_WF_fmt 0) 0).put (WAK_WF_id 0) 1).put (WAK_WF1_mask 0) 1).put (WAK_WF2_data_v 0) 0, _, 0, 0, { id := 1, fmt := 0 }, by decide +kernel, by decide +kernel, by decide +kernel, rfl, by decide +kernel, by decide +kernel, by decide +kernel⟩,
   ⟨({ wit with pw := { wit.pw with main := false, base := .listen } } : Dev).put WAK_WK_BUS1_lin 1, _, 0, 24, { id := 1, fmt := 0 }, by decide +kernel, by decide +kernel, by decide +kernel, rfl, by decide +kernel, by decide +kernel⟩⟩

/-- The same, part 4. -/
theorem test_witness_WakesAct_part4 :
    (∃ (d : Dev) (y : Dev) (ln : LinCh) (c : Decoder) (r : BusRecord), r.wf = true ∧ d.decodes c = true ∧ (c.val < 24 → r.fdf = false ∧ r.fmt ≤ 1) ∧ y = { d with wak := { d.wak with listenErr := NMap.set 0 d.wak.listenErr c (NMap.get 0 d.wak.listenErr c - 1) } } ∧ c.val = 24 + ln.val ∧ y.flag WAK_LISTEN_CFG_sel = true ∧ y.wakeMatch c { r with data := [] } = true) ∧
    (∃ (d : Dev) (ch : CanCh), d.decodes ch.val = false) ∧
    (∃ (d : Dev) (y : Dev) (ch : CanCh), d.decodes ch.val = true ∧ y = { d with wak := { d.wak with listenErr := NMap.set 0 d.wak.listenErr ch (d.get WAK_LISTEN_CFG_err_lim) } }) ∧
    (∃ (d : Dev) (p : EthPort), d.pw.base = .listen ∧ d.wakeEnabled (.eth p) = true) ∧
    (∃ (d : Dev) (p : EthPort), (d.pw.base ≠ .listen ∨ d.wakeEnabled (.eth p) = false)) ∧
    (∃ (d : Dev) (y : Dev) (z : Dev) (e : Nat), d.due ⟨.listen, 0, 0⟩ = some e ∧ y = (d.at_ e).cancel ⟨.listen, 0, 0⟩ ∧ z = { y with pw := { y.pw with base := .dormant } }) :=
  ⟨⟨((((((((({ wit with pw := { wit.pw with main := false, base := .listen } } : Dev).put WAK_LISTEN_CFG_sel 1).put WAK_WK_BUS1_lin 1).put WAK_LISTEN_CFG_sel 1).put (WAK_WF_valid 0) 1).put (WAK_WF2_chan 0) 24).put (WAK_WF_fmt 0) 3).put (WAK_WF_id 0) 1).put (WAK_WF1_mask 0) 1).put (WAK_WF2_data_v 0) 0, _, 0, 24, { id := 1, fmt := 3 }, by decide +kernel, by decide +kernel, by decide +kernel, rfl, by decide +kernel, by decide +kernel, by decide +kernel⟩,
   ⟨wit, 0, by decide +kernel⟩,
   ⟨({ wit with pw := { wit.pw with main := false, base := .listen } } : Dev).put WAK_WK_BUS0_can 1, _, 0, by decide +kernel, rfl⟩,
   ⟨({ wit with pw := { wit.pw with main := false, base := .listen } } : Dev).put (WAK_WK_ETH_ports 0) 1, 0, by decide +kernel, by decide +kernel⟩,
   ⟨wit, 0, by decide +kernel⟩,
   ⟨wit.arm ⟨.listen, 0, 0⟩ 10, _, _, 10, by decide +kernel, rfl, rfl⟩⟩

/-- The same, part 5. -/
theorem test_witness_WakesAct_part5 :
    (∃ (d : Dev) (e : Nat) (x : Nat × Nat × Nat × Nat × Nat), d.wak.held = some x ∧ d.due ⟨.mainDark, 0, 0⟩ = some e) ∧
    (∃ (d : Dev), d.wak.held = none) ∧
    (∃ (d : Dev) (y : Dev) (k : WakSlot) (fin : Dev → Dev), d.armed (.wak k) = true ∧ d.pw.halted = false ∧ ctlAction (d.slot (.wak k)).ctl = 9 ∧ d.turn (d.turnAt (.wak k) (d.slot (.wak k)).time) = true ∧ y = (d.lateTick (.wak k)).elim (d.atNs (d.slot (.wak k)).time) (fun t => d.atTick t) ∧ fin = (fun t => if (d.lateTick (.wak k)).isSome then (t.complete (.wak k) true).countLate (.wak k) else t.complete (.wak k) false)) ∧
    (∃ (d : Dev) (n : SupenIdx) (e : Nat), d.due ⟨.supenOff, n, 0⟩ = some e) ∧
    (∃ (d : Dev) (i : Initiator) (b : Nat) (on : Bool), d.accepts i = true ∧ b = (if on then 1 else 0) ∧ d.locked pgPWR = true) ∧
    (∃ (d : Dev) (y : Dev) (i : Initiator) (n : SupenIdx) (b : Nat) (on : Bool), d.accepts i = true ∧ b = (if on then 1 else 0) ∧ d.locked pgPWR = false ∧ y = d.put (PWR_SUPEN_CFG_cmd n) b ∧ y.get (PWR_SUPEN_CFG_mode n) = 0) :=
  ⟨⟨(({ wit with wak := { wit.wak with held := some (0, 0, 0, 0, 0) } } : Dev).arm ⟨.mainDark, 0, 0⟩ 10).arm ⟨.mainDark, 0, 0⟩ 10, 10, _, rfl, by decide +kernel⟩,
   ⟨({ wit with wak := { wit.wak with held := none } } : Dev), by decide +kernel⟩,
   ⟨wit.wr (WAK_SL_CTL 0) 0x80000009, _, 0, _, by decide +kernel, by decide +kernel, by decide +kernel, by decide +kernel, rfl, rfl⟩,
   ⟨wit.arm ⟨.supenOff, 0, 0⟩ 10, 0, 10, by decide +kernel⟩,
   ⟨wit.modPg pgPWR (fun s => { s with lockKey := 1 }), .host, _, true, by decide +kernel, rfl, by decide +kernel⟩,
   ⟨wit.put (PWR_SUPEN_CFG_mode 0) 0, _, .host, 0, _, true, by decide +kernel, rfl, by decide +kernel, rfl, by decide +kernel⟩⟩

/-- The same, part 6. -/
theorem test_witness_WakesAct_part6 :
    ∃ (d : Dev) (y : Dev) (i : Initiator) (n : SupenIdx) (b : Nat) (on : Bool), d.accepts i = true ∧ b = (if on then 1 else 0) ∧ d.locked pgPWR = false ∧ y = d.put (PWR_SUPEN_CFG_cmd n) b ∧ y.get (PWR_SUPEN_CFG_mode n) ≠ 0 :=
  ⟨wit.put (PWR_SUPEN_CFG_mode 0) 1, _, .host, 0, _, true, by decide +kernel, rfl, by decide +kernel, rfl, by decide +kernel⟩

/-- The hypotheses of `Obligations.ConsentRoundsAct` hold together, clause by clause, in 6 parts. -/
theorem test_witness_ConsentRoundsAct_part1 :
    (∃ (d : Dev) (z : Dev) (i : Initiator) (pins : Nat) (tk : Token), tk.wf = true ∧ pins < 256 ∧ z = d.seePins pins ∧ d.accepts i = true ∧ z.ringRuns = true ∧ z.flag WAK_CONS_CFG_init = true ∧ z.phase = 0 ∧ z.maySettle = true) ∧
    (∃ (d : Dev) (z : Dev) (i : Initiator) (pins : Nat) (tk : Token), tk.wf = true ∧ pins < 256 ∧ z = d.seePins pins ∧ d.accepts i = true ∧ z.ringRuns = true ∧ z.flag WAK_CONS_CFG_init = true ∧ (z.phase ≠ 0 ∨ z.maySettle = false)) ∧
    (∃ (d : Dev) (z : Dev) (i : Initiator) (pins : Nat) (tk : Token), tk.wf = true ∧ pins < 256 ∧ z = d.seePins pins ∧ d.accepts i = true ∧ (z.ringRuns = false ∨ z.flag WAK_CONS_CFG_init = false)) ∧
    (∃ (d : Dev) (z : Dev) (i : Initiator) (pins : Nat) (tk : Token), tk.wf = true ∧ pins < 256 ∧ z = d.seePins pins ∧ d.accepts i = true ∧ d.ringRuns = false) ∧
    (∃ (d : Dev) (z : Dev) (i : Initiator) (pins : Nat) (tk : Token), tk.wf = true ∧ pins < 256 ∧ z = d.seePins pins ∧ d.accepts i = true ∧ d.ringRuns = true ∧ d.phase ≠ 0) ∧
    (∃ (d : Dev) (z : Dev) (i : Initiator) (pins : Nat) (tk : Token), tk.wf = true ∧ pins < 256 ∧ z = d.seePins pins ∧ d.accepts i = true ∧ d.ringRuns = true ∧ d.phase = 0) :=
  ⟨⟨(({ wit with pw := { wit.pw with tablesGood := true } } : Dev).put WAK_CONS_CFG_init 1).put (PG_STATE_in_reset pgWAK) 0, _, .host, 0, ⟨1, 0, 0, 1, 0, 0, 0⟩, by decide +kernel, by decide +kernel, rfl, by decide +kernel, by decide +kernel, by decide +kernel, by decide +kernel, by decide +kernel⟩,
   ⟨(((({ wit with pw := { wit.pw with tablesGood := true } } : Dev).put WAK_CONS_CFG_init 1).put (PG_STATE_in_reset pgWAK) 0).put WAK_CONS_CFG_init 1).put WAK_CONS_STAT_phase 1, _, .host, 0, ⟨1, 0, 0, 1, 0, 0, 0⟩, by decide +kernel, by decide +kernel, rfl, by decide +kernel, by decide +kernel, by decide +kernel, by decide +kernel⟩,
   ⟨wit, _, .host, 0, ⟨1, 0, 0, 1, 0, 0, 0⟩, by decide +kernel, by decide +kernel, rfl, by decide +kernel, by decide +kernel⟩,
   ⟨wit, _, .host, 0, ⟨1, 0, 0, 1, 0, 0, 0⟩, by decide +kernel, by decide +kernel, rfl, by decide +kernel, by decide +kernel⟩,
   ⟨witAll.put WAK_CONS_STAT_phase 1, _, .host, 0, ⟨1, 0, 0, 1, 0, 0, 0⟩, by decide +kernel, by decide +kernel, rfl, by decide +kernel, by decide +kernel, by decide +kernel⟩,
   ⟨witAll, _, .host, 0, ⟨1, 0, 0, 1, 0, 0, 0⟩, by decide +kernel, by decide +kernel, rfl, by decide +kernel, by decide +kernel, by decide +kernel⟩⟩

/-- The same, part 2. -/
theorem test_witness_ConsentRoundsAct_part2 :
    (∃ (d : Dev) (z : Dev) (pins : Nat) (n : Nat) (tk : Token), tk.wf = true ∧ pins < 256 ∧ z = d.seePins pins ∧ n = z.get WAK_CONS_CFG_auto_set ∧ z.ringRuns = true ∧ z.flag WAK_CONS_CFG_init = true ∧ z.flag WAK_CONS_CFG_auto = true ∧ z.phase = 0 ∧ z.maySettle = true ∧ z.consents n = true ∧ z.portsIdle n (z.get WAK_CONS_IDLE_ms) = true ∧ z.wak.holdOff ≤ z.now ∧ z.wak.blocked + msT (z.get WAK_CONS_IDLE_ms) ≤ z.now) ∧
    (∃ (d : Dev) (z : Dev) (pins : Nat) (n : Nat) (tk : Token), tk.wf = true ∧ pins < 256 ∧ z = d.seePins pins ∧ n = z.get WAK_CONS_CFG_auto_set ∧ (z.ringRuns = false ∨ z.flag WAK_CONS_CFG_init = false ∨ z.flag WAK_CONS_CFG_auto = false ∨ z.phase ≠ 0 ∨ z.maySettle = false ∨ z.consents n = false ∨ z.portsIdle n (z.get WAK_CONS_IDLE_ms) = false ∨ z.now < z.wak.holdOff ∨ z.now < z.wak.blocked + msT (z.get WAK_CONS_IDLE_ms))) ∧
    (∃ (d : Dev) (z : Dev) (pins : Nat) (tk : Token), tk.wf = true ∧ pins < 256 ∧ z = d.seePins pins ∧ z.ringRuns = false) ∧
    (∃ (d : Dev) (z : Dev) (pins : Nat) (tk : Token), tk.wf = true ∧ pins < 256 ∧ z = d.seePins pins ∧ z.ringRuns = true ∧ tk.origin = z.ownId ∧ z.ofRound tk = true ∧ z.phase = 1) ∧
    (∃ (d : Dev) (z : Dev) (pins : Nat) (tk : Token), tk.wf = true ∧ pins < 256 ∧ z = d.seePins pins ∧ z.ringRuns = true ∧ tk.origin = z.ownId ∧ (z.ofRound tk = false ∨ z.phase ≠ 1)) ∧
    (∃ (d : Dev) (z : Dev) (pins : Nat) (tk : Token), tk.wf = true ∧ pins < 256 ∧ z = d.seePins pins ∧ z.ringRuns = true ∧ tk.origin ≠ z.ownId ∧ z.phase = 0) :=
  ⟨⟨((({ wit with now := 48000000000000, pw := { wit.pw with tablesGood := true } } : Dev).put (PG_STATE_in_reset pgWAK) 0).put WAK_CONS_CFG_init 1).put WAK_CONS_CFG_auto 1, _, 0, _, ⟨1, 0, 0, 1, 0, 0, 0⟩, by decide +kernel, by decide +kernel, rfl, rfl, by decide +kernel, by decide +kernel, by decide +kernel, by decide +kernel, by decide +kernel, by decide +kernel, by decide +kernel, by decide +kernel, by decide +kernel⟩,
   ⟨wit, _, 0, _, ⟨1, 0, 0, 1, 0, 0, 0⟩, by decide +kernel, by decide +kernel, rfl, rfl, by decide +kernel⟩,
   ⟨wit, _, 0, ⟨1, 0, 0, 1, 0, 0, 0⟩, by decide +kernel, by decide +kernel, rfl, by decide +kernel⟩,
   ⟨((({ wit with pw := { wit.pw with tablesGood := true } } : Dev).put (PG_STATE_in_reset pgWAK) 0).put WAK_CONS_STAT_phase 1).put WAK_CONS_STAT_seq 1, _, 0, ⟨1, 0, 0, 1, 0, 0, 0⟩, by decide +kernel, by decide +kernel, rfl, by decide +kernel, by decide +kernel, by decide +kernel, by decide +kernel⟩,
   ⟨({ wit with pw := { wit.pw with tablesGood := true } } : Dev).put (PG_STATE_in_reset pgWAK) 0, _, 0, ⟨1, 0, 0, 1, 0, 0, 0⟩, by decide +kernel, by decide +kernel, rfl, by decide +kernel, by decide +kernel, by decide +kernel⟩,
   ⟨({ wit with pw := { wit.pw with tablesGood := true } } : Dev).put (PG_STATE_in_reset pgWAK) 0, _, 0, ⟨1, 0, 3, 1, 0, 0, 0⟩, by decide +kernel, by decide +kernel, rfl, by decide +kernel, by decide +kernel, by decide +kernel⟩⟩

/-- The same, part 3. -/
theorem test_witness_ConsentRoundsAct_part3 :
    (∃ (d : Dev) (z : Dev) (pins : Nat) (tk : Token), tk.wf = true ∧ pins < 256 ∧ z = d.seePins pins ∧ z.ringRuns = true ∧ tk.origin ≠ z.ownId ∧ z.phase ≠ 0 ∧ z.ofRound tk = true) ∧
    (∃ (d : Dev) (z : Dev) (y : Dev) (pins : Nat) (tk : Token), tk.wf = true ∧ pins < 256 ∧ z = d.seePins pins ∧ z.ringRuns = true ∧ tk.origin ≠ z.ownId ∧ z.phase ≠ 0 ∧ z.ofRound tk = false ∧ y = z.wakCount 5 ∧ tk.origin < y.get WAK_CONS_ORG_origin) ∧
    (∃ (d : Dev) (z : Dev) (y : Dev) (pins : Nat) (tk : Token), tk.wf = true ∧ pins < 256 ∧ z = d.seePins pins ∧ z.ringRuns = true ∧ tk.origin ≠ z.ownId ∧ z.phase ≠ 0 ∧ z.ofRound tk = false ∧ y = z.wakCount 5 ∧ y.get WAK_CONS_ORG_origin ≤ tk.origin) ∧
    (∃ (d : Dev) (z : Dev) (pins : Nat) (tk : Token), tk.wf = true ∧ pins < 256 ∧ z = d.seePins pins ∧ z.ringRuns = true ∧ z.phase ≠ 0 ∧ z.consents (z.get WAK_CONS_STAT_set) = false) ∧
    (∃ (d : Dev) (z : Dev) (pins : Nat) (tk : Token), tk.wf = true ∧ pins < 256 ∧ z = d.seePins pins ∧ z.ringRuns = true ∧ (z.phase = 0 ∨ z.consents (z.get WAK_CONS_STAT_set) = true)) ∧
    (∃ (d : Dev) (z : Dev) (pins : Nat) (tk : Token), tk.wf = true ∧ pins < 256 ∧ z = d.seePins pins ∧ (d.ringRuns = false ∨ d.ofRound tk = false)) :=
  ⟨⟨(((({ wit with pw := { wit.pw with tablesGood := true } } : Dev).put (PG_STATE_in_reset pgWAK) 0).put WAK_CONS_STAT_phase 1).put WAK_CONS_STAT_seq 1).put WAK_CONS_ORG_origin 3, _, 0, ⟨1, 0, 3, 1, 0, 0, 0⟩, by decide +kernel, by decide +kernel, rfl, by decide +kernel, by decide +kernel, by decide +kernel, by decide +kernel⟩,
   ⟨((({ wit with pw := { wit.pw with tablesGood := true } } : Dev).put (PG_STATE_in_reset pgWAK) 0).put WAK_CONS_STAT_phase 1).put WAK_CONS_ORG_origin 5, _, _, 0, ⟨1, 0, 3, 1, 0, 0, 0⟩, by decide +kernel, by decide +kernel, rfl, by decide +kernel, by decide +kernel, by decide +kernel, by decide +kernel, rfl, by decide +kernel⟩,
   ⟨((({ wit with pw := { wit.pw with tablesGood := true } } : Dev).put (PG_STATE_in_reset pgWAK) 0).put WAK_CONS_STAT_phase 1).put WAK_CONS_ORG_origin 0, _, _, 0, ⟨1, 0, 3, 1, 0, 0, 0⟩, by decide +kernel, by decide +kernel, rfl, by decide +kernel, by decide +kernel, by decide +kernel, by decide +kernel, rfl, by decide +kernel⟩,
   ⟨((({ wit with pw := { wit.pw with tablesGood := true } } : Dev).put (PG_STATE_in_reset pgWAK) 0).put WAK_CONS_STAT_phase 1).put (WAK_WK_CFG_en 0) 1, _, 1, ⟨1, 0, 0, 1, 0, 0, 0⟩, by decide +kernel, by decide +kernel, rfl, by decide +kernel, by decide +kernel, by decide +kernel⟩,
   ⟨({ wit with pw := { wit.pw with tablesGood := true } } : Dev).put (PG_STATE_in_reset pgWAK) 0, _, 0, ⟨1, 0, 0, 1, 0, 0, 0⟩, by decide +kernel, by decide +kernel, rfl, by decide +kernel, by decide +kernel⟩,
   ⟨wit, _, 0, ⟨1, 0, 0, 1, 0, 0, 0⟩, by decide +kernel, by decide +kernel, rfl, by decide +kernel⟩⟩

/-- The same, part 4. -/
theorem test_witness_ConsentRoundsAct_part4 :
    (∃ (d : Dev) (z : Dev) (pins : Nat) (tk : Token), tk.wf = true ∧ pins < 256 ∧ z = d.seePins pins ∧ d.ringRuns = true ∧ d.ofRound tk = true ∧ d.isOrigin = true ∧ d.phase = 2 ∧ d.ns + d.get WAK_CONS_TIM_guard_us * 1000 ≤ d.sleepT) ∧
    (∃ (d : Dev) (z : Dev) (pins : Nat) (tk : Token), tk.wf = true ∧ pins < 256 ∧ z = d.seePins pins ∧ d.ringRuns = true ∧ d.ofRound tk = true ∧ d.isOrigin = true ∧ (d.phase ≠ 2 ∨ d.sleepT < d.ns + d.get WAK_CONS_TIM_guard_us * 1000)) ∧
    (∃ (d : Dev) (z : Dev) (pins : Nat) (tk : Token), tk.wf = true ∧ pins < 256 ∧ z = d.seePins pins ∧ d.ringRuns = true ∧ d.ofRound tk = true ∧ d.isOrigin = false ∧ d.phase = 1) ∧
    (∃ (d : Dev) (z : Dev) (pins : Nat) (tk : Token), tk.wf = true ∧ pins < 256 ∧ z = d.seePins pins ∧ d.ringRuns = true ∧ d.ofRound tk = true ∧ d.isOrigin = false ∧ d.phase ≠ 1) ∧
    (∃ (d : Dev) (z : Dev) (pins : Nat) (tk : Token), tk.wf = true ∧ pins < 256 ∧ z = d.seePins pins ∧ (d.ringRuns = false ∨ d.wak.sent.contains (3, tk.origin, tk.seq) = true)) ∧
    (∃ (d : Dev) (z : Dev) (y : Dev) (x : Dev) (pins : Nat) (tk : Token), tk.wf = true ∧ pins < 256 ∧ z = d.seePins pins ∧ d.ringRuns = true ∧ d.wak.sent.contains (3, tk.origin, tk.seq) = false ∧ y = d.wakCount 3 ∧ x = y.tokenOnce { tk with sender := y.ownId, t := y.ns } none ∧ x.ofRound tk = true) :=
  ⟨⟨(((witAll.put WAK_CONS_STAT_phase 2).put WAK_CONS_STAT_seq 1).put WAK_CONS_ORG_origin witAll.ownId).wr WAK_CONS_T_HI 1, _, 0, ⟨2, 0, witAll.ownId, 1, 0, 0, 0⟩, by decide +kernel, by decide +kernel, rfl, by decide +kernel, by decide +kernel, by decide +kernel, by decide +kernel, by decide +kernel⟩,
   ⟨((witAll.put WAK_CONS_STAT_phase 1).put WAK_CONS_STAT_seq 1).put WAK_CONS_ORG_origin witAll.ownId, _, 0, ⟨2, 0, witAll.ownId, 1, 0, 0, 0⟩, by decide +kernel, by decide +kernel, rfl, by decide +kernel, by decide +kernel, by decide +kernel, by decide +kernel⟩,
   ⟨((({ witAll with pw := { witAll.pw with tablesGood := true } } : Dev).put WAK_CONS_STAT_phase 1).put WAK_CONS_STAT_seq 1).put WAK_CONS_ORG_origin 3, _, 0, ⟨1, 0, 3, 1, 0, 0, 0⟩, by decide +kernel, by decide +kernel, rfl, by decide +kernel, by decide +kernel, by decide +kernel, by decide +kernel⟩,
   ⟨((({ witAll with pw := { witAll.pw with tablesGood := true } } : Dev).put WAK_CONS_STAT_phase 2).put WAK_CONS_STAT_seq 1).put WAK_CONS_ORG_origin 3, _, 0, ⟨1, 0, 3, 1, 0, 0, 0⟩, by decide +kernel, by decide +kernel, rfl, by decide +kernel, by decide +kernel, by decide +kernel, by decide +kernel⟩,
   ⟨wit, _, 0, ⟨1, 0, 0, 1, 0, 0, 0⟩, by decide +kernel, by decide +kernel, rfl, by decide +kernel⟩,
   ⟨(({ witAll with pw := { witAll.pw with tablesGood := true } } : Dev).put WAK_CONS_STAT_phase 1).put WAK_CONS_STAT_seq 1, _, _, _, 0, ⟨3, 0, 0, 1, 0, 0, 0⟩, by decide +kernel, by decide +kernel, rfl, by decide +kernel, by decide +kernel, rfl, rfl, by decide +kernel⟩⟩

/-- The same, part 5. -/
theorem test_witness_ConsentRoundsAct_part5 :
    (∃ (d : Dev) (z : Dev) (y : Dev) (x : Dev) (pins : Nat) (tk : Token), tk.wf = true ∧ pins < 256 ∧ z = d.seePins pins ∧ d.ringRuns = true ∧ d.wak.sent.contains (3, tk.origin, tk.seq) = false ∧ y = d.wakCount 3 ∧ x = y.tokenOnce { tk with sender := y.ownId, t := y.ns } none ∧ x.ofRound tk = false ∧ x.ofSleep tk = true) ∧
    (∃ (d : Dev) (z : Dev) (y : Dev) (x : Dev) (w : Dev) (pins : Nat) (tk : Token), tk.wf = true ∧ pins < 256 ∧ z = d.seePins pins ∧ d.ringRuns = true ∧ d.wak.sent.contains (3, tk.origin, tk.seq) = false ∧ y = d.wakCount 3 ∧ x = y.tokenOnce { tk with sender := y.ownId, t := y.ns } none ∧ x.ofRound tk = false ∧ x.ofSleep tk = false ∧ x.wak.aside.isSome = true ∧ tk.origin = x.ownId ∧ w = { x with wak := { x.wak with aside := none } }) ∧
    (∃ (d : Dev) (z : Dev) (y : Dev) (x : Dev) (pins : Nat) (tk : Token), tk.wf = true ∧ pins < 256 ∧ z = d.seePins pins ∧ d.ringRuns = true ∧ d.wak.sent.contains (3, tk.origin, tk.seq) = false ∧ y = d.wakCount 3 ∧ x = y.tokenOnce { tk with sender := y.ownId, t := y.ns } none ∧ x.ofRound tk = false ∧ x.ofSleep tk = false ∧ (x.wak.aside = none ∨ tk.origin ≠ x.ownId)) ∧
    (∃ (d : Dev) (z : Dev) (pins : Nat) (tk : Token), tk.wf = true ∧ pins < 256 ∧ z = d.seePins pins ∧ (d.ringRuns = false ∨ d.wak.sent.contains (4, tk.origin, tk.seq) = true)) ∧
    (∃ (d : Dev) (z : Dev) (x : Dev) (pins : Nat) (tk : Token), tk.wf = true ∧ pins < 256 ∧ z = d.seePins pins ∧ d.ringRuns = true ∧ d.wak.sent.contains (4, tk.origin, tk.seq) = false ∧ x = d.tokenOnce { tk with sender := d.ownId, t := d.ns } none) ∧
    (∃ (d : Dev) (z : Dev) (pins : Nat) (tk : Token), tk.wf = true ∧ pins < 256 ∧ z = d.seePins pins ∧ (d.ringRuns = false ∨ d.isOrigin = false ∨ d.phase ≠ 2)) :=
  ⟨⟨((((({ wit with pw := { wit.pw with tablesGood := true } } : Dev).put (PG_STATE_in_reset pgWAK) 0).put WAK_SLEEP_REC_set 1).put WAK_SLEEP_REC_seq 1).put WAK_SLEEP_REC_origin 0).put WAK_SEG_STAT_asleep 1, _, _, _, 0, ⟨3, 0, 0, 1, 0, 0, 0⟩, by decide +kernel, by decide +kernel, rfl, by decide +kernel, by decide +kernel, rfl, rfl, by decide +kernel, by decide +kernel⟩,
   ⟨({ wit with pw := { wit.pw with tablesGood := true }, wak := { wit.wak with aside := some (0, 1) } } : Dev).put (PG_STATE_in_reset pgWAK) 0, _, _, _, _, 0, ⟨3, 0, 0, 1, 0, 0, 0⟩, by decide +kernel, by decide +kernel, rfl, by decide +kernel, by decide +kernel, rfl, rfl, by decide +kernel, by decide +kernel, by decide +kernel, by decide +kernel, rfl⟩,
   ⟨({ wit with pw := { wit.pw with tablesGood := true } } : Dev).put (PG_STATE_in_reset pgWAK) 0, _, _, _, 0, ⟨1, 0, 0, 1, 0, 0, 0⟩, by decide +kernel, by decide +kernel, rfl, by decide +kernel, by decide +kernel, rfl, rfl, by decide +kernel, by decide +kernel, by decide +kernel⟩,
   ⟨wit, _, 0, ⟨1, 0, 0, 1, 0, 0, 0⟩, by decide +kernel, by decide +kernel, rfl, by decide +kernel⟩,
   ⟨witAll, _, _, 0, ⟨1, 0, 0, 1, 0, 0, 0⟩, by decide +kernel, by decide +kernel, rfl, by decide +kernel, by decide +kernel, rfl⟩,
   ⟨wit, _, 0, ⟨1, 0, 0, 1, 0, 0, 0⟩, by decide +kernel, by decide +kernel, rfl, by decide +kernel⟩⟩

/-- The same, part 6. -/
theorem test_witness_ConsentRoundsAct_part6 :
    (∃ (d : Dev) (z : Dev) (pins : Nat) (e : Nat) (tk : Token), tk.wf = true ∧ pins < 256 ∧ z = d.seePins pins ∧ d.wak.aside = none ∧ d.due ⟨.consTmo, 0, 0⟩ = some e) ∧
    (∃ (d : Dev) (z : Dev) (y : Dev) (x : Dev) (w : Dev) (pins : Nat) (e : Nat) (q : Nat × Nat) (tk : Token), tk.wf = true ∧ pins < 256 ∧ z = d.seePins pins ∧ d.wak.aside = some q ∧ d.due ⟨.consTmo, 1, 0⟩ = some e ∧ y = (d.at_ e).cancel ⟨.consTmo, 1, 0⟩ ∧ x = { y with wak := { y.wak with aside := none } } ∧ w = (x.wakCount 4).raise pgWAK 13) ∧
    (∃ (d : Dev) (z : Dev) (pins : Nat) (tk : Token), tk.wf = true ∧ pins < 256 ∧ z = d.seePins pins ∧ d.sleepArmed = false) ∧
    (∃ (d : Dev) (z : Dev) (y : Dev) (x : Dev) (pins : Nat) (tk : Token), tk.wf = true ∧ pins < 256 ∧ z = d.seePins pins ∧ d.sleepArmed = true ∧ d.turn (d.turnAt .sleepCommit d.sleepT) = true ∧ y = d.atNs d.sleepT ∧ d.get WAK_CONS_STAT_set ≠ 0 ∧ x = y.sleepRecord) ∧
    (∃ (d : Dev) (z : Dev) (y : Dev) (x : Dev) (w : Dev) (u : Dev) (pins : Nat) (tk : Token), tk.wf = true ∧ pins < 256 ∧ z = d.seePins pins ∧ d.sleepArmed = true ∧ d.turn (d.turnAt .sleepCommit d.sleepT) = true ∧ y = d.atNs d.sleepT ∧ d.get WAK_CONS_STAT_set = 0 ∧ u = y.endCanTx (List.finRange 24) ∧ x = u.each u.followers Dev.supenDelay ∧ w = { x with wak := { x.wak with follow := u.followers.foldl (fun a k => a + 2 ^ k) 0 } }) :=
  ⟨⟨({ wit with wak := { wit.wak with aside := none } } : Dev).arm ⟨.consTmo, 0, 0⟩ 10, _, 0, 10, ⟨1, 0, 0, 1, 0, 0, 0⟩, by decide +kernel, by decide +kernel, rfl, by decide +kernel, by decide +kernel⟩,
   ⟨(({ wit with wak := { wit.wak with aside := some (0, 1) } } : Dev).arm ⟨.consTmo, 1, 0⟩ 10).arm ⟨.consTmo, 1, 0⟩ 10, _, _, _, _, 0, 10, _, ⟨1, 0, 0, 1, 0, 0, 0⟩, by decide +kernel, by decide +kernel, rfl, rfl, by decide +kernel, rfl, rfl, rfl⟩,
   ⟨wit, _, 0, ⟨1, 0, 0, 1, 0, 0, 0⟩, by decide +kernel, by decide +kernel, rfl, by decide +kernel⟩,
   ⟨((({ witAll with pw := { witAll.pw with tablesGood := true } } : Dev).put WAK_CONS_STAT_set 1).put WAK_CONS_STAT_phase 2).put WAK_CONS_STAT_set 1, _, _, _, 0, ⟨1, 0, 0, 1, 0, 0, 0⟩, by decide +kernel, by decide +kernel, rfl, by decide +kernel, by decide +kernel, rfl, by decide +kernel, rfl⟩,
   ⟨((({ witAll with pw := { witAll.pw with tablesGood := true } } : Dev).put WAK_CONS_STAT_set 0).put WAK_CONS_STAT_phase 2).put WAK_CONS_STAT_set 0, _, _, _, _, _, 0, ⟨1, 0, 0, 1, 0, 0, 0⟩, by decide +kernel, by decide +kernel, rfl, by decide +kernel, by decide +kernel, rfl, by decide +kernel, rfl, rfl, rfl⟩⟩

/-- The hypotheses of `Obligations.BracesAct` hold together, clause by clause, in 6 parts. -/
theorem test_witness_BracesAct_part1 :
    (∃ (d : Dev) (br : Brace) (b : Nat) (group : Nat), b = brIx br ∧ group < 32 ∧ (d.up = false ∨ d.braceRuns b = false)) ∧
    (∃ (d : Dev) (y : Dev) (z : Dev) (br : Brace) (b : Nat) (group : Nat), b = brIx br ∧ group < 32 ∧ d.up = true ∧ d.braceRuns b = true ∧ y = d.count (BRC_CMP_MISM b) ∧ z = (if y.flag (BRC_CMP_CAP_valid b) = true then y else ((y.put (BRC_CMP_CAP_valid b) 1).put (BRC_CMP_CAP_group b) group).wr64 (BRC_CMP_CAP_T_LO b) (BRC_CMP_CAP_T_HI b) y.ns)) ∧
    (∃ (d : Dev) (br : Brace) (b : Nat) (e : Nat), b = brIx br ∧ d.due ⟨.wdg, b, 0⟩ = some e) ∧
    (∃ (d : Dev) (br : Brace) (b : Nat), b = brIx br ∧ (d.up = false ∨ d.running ⟨.wdg, b, 0⟩ = false)) ∧
    (∃ (d : Dev) (br : Brace) (b : Nat) (v : Word), b = brIx br ∧ d.up = true ∧ d.running ⟨.wdg, b, 0⟩ = true ∧ (v ≠ 0x5A5AA5A5 ∨ (NMap.get 0 d.brc.kick b ≠ 0 ∧ d.now + 1 < NMap.get 0 d.brc.kick b + msT (d.get (BRC_WDG_CFG_min_ms b))))) ∧
    (∃ (d : Dev) (y : Dev) (br : Brace) (b : Nat), b = brIx br ∧ d.up = true ∧ d.running ⟨.wdg, b, 0⟩ = true ∧ (NMap.get 0 d.brc.kick b = 0 ∨ NMap.get 0 d.brc.kick b + msT (d.get (BRC_WDG_CFG_min_ms b)) ≤ d.now + 1) ∧ y = { d with brc := { d.brc with kick := NMap.set 0 d.brc.kick b (d.now + 1) } }) :=
  ⟨⟨wit, .a, _, 0, rfl, by decide +kernel, by decide +kernel⟩,
   ⟨wit.put (BRC_ROLE_role 0) 1, _, _, .a, _, 31, rfl, by decide +kernel, by decide +kernel, by decide +kernel, rfl, rfl⟩,
   ⟨wit.arm ⟨.wdg, (brIx (.a)), 0⟩ 10, .a, _, 10, rfl, by decide +kernel⟩,
   ⟨wit, .a, _, rfl, by decide +kernel⟩,
   ⟨wit.arm ⟨.wdg, (brIx (.a)), 0⟩ 10, .a, _, 0, rfl, by decide +kernel, by decide +kernel, by decide +kernel⟩,
   ⟨wit.arm ⟨.wdg, (brIx (.a)), 0⟩ 10, _, .a, _, rfl, by decide +kernel, by decide +kernel, by decide +kernel, rfl⟩⟩

/-- The same, part 2. -/
theorem test_witness_BracesAct_part2 :
    (∃ (d : Dev) (i : Initiator) (br : Brace) (b : Nat) (v : Word), b = brIx br ∧ d.accepts i = true ∧ bitsOf v 31 16 ≠ 0xB0A7) ∧
    (∃ (d : Dev) (i : Initiator) (br : Brace) (b : Nat) (v : Word), b = brIx br ∧ d.accepts i = true ∧ bitsOf v 31 16 = 0xB0A7 ∧ d.canHandOver b = true ∧ d.mayHandOver = true) ∧
    (∃ (d : Dev) (i : Initiator) (br : Brace) (b : Nat) (v : Word), b = brIx br ∧ d.accepts i = true ∧ bitsOf v 31 16 = 0xB0A7 ∧ d.canHandOver b = true ∧ d.mayHandOver = false) ∧
    (∃ (d : Dev) (i : Initiator) (br : Brace) (b : Nat) (v : Word), b = brIx br ∧ d.accepts i = true ∧ bitsOf v 31 16 = 0xB0A7 ∧ d.canHandOver b = false) ∧
    (∃ (d : Dev) (i : Initiator) (br : Brace) (b : Nat), b = brIx br ∧ d.accepts i = true ∧ d.locked (pgBRC b) = true) ∧
    (∃ (d : Dev) (i : Initiator) (br : Brace) (b : Nat), b = brIx br ∧ d.accepts i = true ∧ d.locked (pgBRC b) = false ∧ d.role b = 1 ∧ d.canHandOver (1 - b) = true) :=
  ⟨⟨wit, .host, .a, _, 0, rfl, by decide +kernel, by decide +kernel⟩,
   ⟨(wit.put (BRC_ROLE_role 0) 2).put (BRC_ROLE_role 1) 1, .host, .a, _, 0xB0A70000, rfl, by decide +kernel, by decide +kernel, by decide +kernel, by decide +kernel⟩,
   ⟨(({ wit with pw := { wit.pw with updating := true } } : Dev).put (BRC_ROLE_role 0) 2).put (BRC_ROLE_role 1) 1, .host, .a, _, 0xB0A70000, rfl, by decide +kernel, by decide +kernel, by decide +kernel, by decide +kernel⟩,
   ⟨(wit.put (BRC_ROLE_role 0) 1).put (BRC_ROLE_role 1) 0, .host, .a, _, 0xB0A70000, rfl, by decide +kernel, by decide +kernel, by decide +kernel⟩,
   ⟨wit.modPg (pgBRC 0) (fun s => { s with lockKey := 1 }), .host, .a, _, rfl, by decide +kernel, by decide +kernel⟩,
   ⟨(wit.put (BRC_ROLE_role 0) 1).put (BRC_ROLE_role 1) 2, .host, .a, _, rfl, by decide +kernel, by decide +kernel, by decide +kernel, by decide +kernel⟩⟩

/-- The same, part 3. -/
theorem test_witness_BracesAct_part3 :
    (∃ (d : Dev) (i : Initiator) (br : Brace) (b : Nat), b = brIx br ∧ d.accepts i = true ∧ d.locked (pgBRC b) = false ∧ d.role b = 1 ∧ d.canHandOver (1 - b) = false) ∧
    (∃ (d : Dev) (i : Initiator) (br : Brace) (b : Nat), b = brIx br ∧ d.accepts i = true ∧ d.locked (pgBRC b) = false ∧ d.role b ≠ 1 ∧ (d.running ⟨.bFill, b, 0⟩ = true ∨ d.running ⟨.selfTest, b, 0⟩ = true)) ∧
    (∃ (d : Dev) (i : Initiator) (br : Brace) (b : Nat), b = brIx br ∧ d.accepts i = true ∧ d.locked (pgBRC b) = false ∧ d.role b ≠ 1 ∧ d.running ⟨.bFill, b, 0⟩ = false ∧ d.running ⟨.selfTest, b, 0⟩ = false) ∧
    (∃ (d : Dev) (i : Initiator) (br : Brace) (b : Nat), b = brIx br ∧ d.accepts i = true ∧ d.handedOver (pgBRC b) = true) ∧
    (∃ (d : Dev) (i : Initiator) (br : Brace) (b : Nat), b = brIx br ∧ d.accepts i = true ∧ d.handedOver (pgBRC b) = false ∧ d.role b = 2) ∧
    (∃ (d : Dev) (i : Initiator) (br : Brace) (b : Nat), b = brIx br ∧ d.accepts i = true ∧ d.handedOver (pgBRC b) = false ∧ d.role b ≠ 2) :=
  ⟨⟨(wit.put (BRC_ROLE_role 0) 1).put (BRC_ROLE_role 1) 0, .host, .a, _, rfl, by decide +kernel, by decide +kernel, by decide +kernel, by decide +kernel⟩,
   ⟨((wit.put (BRC_ROLE_role 0) 0).put (BRC_ROLE_role 1) 1).arm ⟨.bFill, 0, 0⟩ 10, .host, .a, _, rfl, by decide +kernel, by decide +kernel, by decide +kernel, by decide +kernel⟩,
   ⟨wit, .host, .a, _, rfl, by decide +kernel, by decide +kernel, by decide +kernel, by decide +kernel, by decide +kernel⟩,
   ⟨({ wit with upd := { wit.upd with target := some .a } } : Dev), .host, .a, _, rfl, by decide +kernel, by decide +kernel⟩,
   ⟨(wit.put (BRC_ROLE_role 0) 2).put (BRC_ROLE_role 1) 1, .host, .a, _, rfl, by decide +kernel, by decide +kernel, by decide +kernel⟩,
   ⟨wit, .host, .a, _, rfl, by decide +kernel, by decide +kernel, by decide +kernel⟩⟩

/-- The same, part 4. -/
theorem test_witness_BracesAct_part4 :
    (∃ (d : Dev) (i : Initiator) (br : Brace) (b : Nat), b = brIx br ∧ d.accepts i = true ∧ d.pw.bracesOut = true ∧ d.running ⟨.sweepDone, 0, 0⟩ = false) ∧
    (∃ (d : Dev) (i : Initiator) (br : Brace) (b : Nat), b = brIx br ∧ d.accepts i = true ∧ (d.pw.bracesOut = false ∨ d.running ⟨.sweepDone, 0, 0⟩ = true)) ∧
    (∃ (d : Dev) (y : Dev) (z : Dev) (br : Brace) (b : Nat) (e : Nat) (v : Word), b = brIx br ∧ d.due ⟨.selfTest, b, 0⟩ = some e ∧ y = d.cancel ⟨.selfTest, b, 0⟩ ∧ z = (if (y.pg (pgBRC b)).diag = true then y.setDiag (pgBRC b) false else y) ∧ v = 0) ∧
    (∃ (d : Dev) (y : Dev) (z : Dev) (br : Brace) (b : Nat) (e : Nat) (v : Word), b = brIx br ∧ d.due ⟨.selfTest, b, 0⟩ = some e ∧ y = d.cancel ⟨.selfTest, b, 0⟩ ∧ z = (if (y.pg (pgBRC b)).diag = true then y.setDiag (pgBRC b) false else y) ∧ v ≠ 0) ∧
    (∃ (d : Dev) (br : Brace) (b : Nat) (e : Nat), b = brIx br ∧ d.due ⟨.bFill, b, 0⟩ = some e) ∧
    (∃ (d : Dev) (y : Dev) (w : Dev) (br : Brace) (b : Nat) (e : Nat), b = brIx br ∧ d.due ⟨.resyncCopy, b, 0⟩ = some e ∧ y = ((d.at_ e).cancel ⟨.resyncCopy, b, 0⟩).copyTcm (1 - b) b ∧ w = { y with brc := { y.brc with copied := y.brc.copied.filter (· != b) ++ [b] } }) :=
  ⟨⟨({ wit with pw := { wit.pw with bracesOut := true } } : Dev), .host, .a, _, rfl, by decide +kernel, by decide +kernel, by decide +kernel⟩,
   ⟨wit, .host, .a, _, rfl, by decide +kernel, by decide +kernel⟩,
   ⟨wit.arm ⟨.selfTest, (brIx (.a)), 0⟩ 10, _, _, .a, _, 10, _, rfl, by decide +kernel, rfl, rfl, rfl⟩,
   ⟨wit.arm ⟨.selfTest, (brIx (.a)), 0⟩ 10, _, _, .a, _, 10, 1, rfl, by decide +kernel, rfl, rfl, by decide +kernel⟩,
   ⟨wit.arm ⟨.bFill, (brIx (.a)), 0⟩ 10, .a, _, 10, rfl, by decide +kernel⟩,
   ⟨wit.arm ⟨.resyncCopy, (brIx (.a)), 0⟩ 10, _, _, .a, _, 10, rfl, by decide +kernel, rfl, rfl⟩⟩

/-- The same, part 5. -/
theorem test_witness_BracesAct_part5 :
    (∃ (d : Dev) (br : Brace) (b : Nat), b = brIx br ∧ (d.up = false ∨ d.brc.copied.contains b = false ∨ d.role b = 1)) ∧
    (∃ (d : Dev) (y : Dev) (br : Brace) (b : Nat), b = brIx br ∧ d.up = true ∧ d.brc.copied.contains b = true ∧ d.role b ≠ 1 ∧ y = d.put (BRC_ROLE_sb_ok b) 1 ∧ y.role b = 3) ∧
    (∃ (d : Dev) (y : Dev) (br : Brace) (b : Nat), b = brIx br ∧ d.up = true ∧ d.brc.copied.contains b = true ∧ d.role b ≠ 1 ∧ y = d.put (BRC_ROLE_sb_ok b) 1 ∧ y.role b ≠ 3 ∧ y.get UPD_STAT_state = 3 ∧ y.upd.target = some br) ∧
    (∃ (d : Dev) (y : Dev) (br : Brace) (b : Nat), b = brIx br ∧ d.up = true ∧ d.brc.copied.contains b = true ∧ d.role b ≠ 1 ∧ y = d.put (BRC_ROLE_sb_ok b) 1 ∧ y.role b ≠ 3 ∧ (y.get UPD_STAT_state ≠ 3 ∨ y.upd.target ≠ some br)) ∧
    (∃ (d : Dev) (y : Dev) (br : Brace) (b : Nat) (e : Nat), b = brIx br ∧ d.due ⟨.sweep, 0, 0⟩ = some e ∧ y = ((d.at_ e).cancel ⟨.sweep, 0, 0⟩).arm ⟨.sweep, 0, 0⟩ (e + msT (max 1 (d.get (BRC_SWP_CFG_period_ms 0)))) ∧ y.flag (BRC_SWP_CFG_en 0) = true ∧ y.running ⟨.sweepDone, 0, 0⟩ = false) ∧
    (∃ (d : Dev) (y : Dev) (br : Brace) (b : Nat) (e : Nat), b = brIx br ∧ d.due ⟨.sweep, 0, 0⟩ = some e ∧ y = ((d.at_ e).cancel ⟨.sweep, 0, 0⟩).arm ⟨.sweep, 0, 0⟩ (e + msT (max 1 (d.get (BRC_SWP_CFG_period_ms 0)))) ∧ (y.flag (BRC_SWP_CFG_en 0) = false ∨ y.running ⟨.sweepDone, 0, 0⟩ = true)) :=
  ⟨⟨wit, .a, _, rfl, by decide +kernel⟩,
   ⟨(({ wit with brc := { wit.brc with copied := [0] } } : Dev).put (BRC_ROLE_role 0) 3).put (BRC_ROLE_role 1) 1, _, .a, _, rfl, by decide +kernel, by decide +kernel, by decide +kernel, rfl, by decide +kernel⟩,
   ⟨(((({ wit with brc := { wit.brc with copied := [0] }, upd := { wit.upd with target := some .a } } : Dev).put UPD_STAT_state 3).put (BRC_ROLE_role 0) 0).put (BRC_ROLE_role 1) 1).put UPD_STAT_state 3, _, _, _, rfl, by decide +kernel, by decide +kernel, by decide +kernel, rfl, by decide +kernel, by decide +kernel, rfl⟩,
   ⟨(({ wit with brc := { wit.brc with copied := [0] } } : Dev).put (BRC_ROLE_role 0) 0).put (BRC_ROLE_role 1) 1, _, .a, _, rfl, by decide +kernel, by decide +kernel, by decide +kernel, rfl, by decide +kernel, by decide +kernel⟩,
   ⟨(wit.arm ⟨.sweep, 0, 0⟩ 10).put (BRC_SWP_CFG_en 0) 1, _, .a, _, 10, rfl, by decide +kernel, rfl, by decide +kernel, by decide +kernel⟩,
   ⟨(wit.arm ⟨.sweep, 0, 0⟩ 10).put (BRC_SWP_CFG_en 0) 0, _, .a, _, 10, rfl, by decide +kernel, rfl, by decide +kernel⟩⟩

/-- The same, part 6. -/
theorem test_witness_BracesAct_part6 :
    (∃ (d : Dev) (y : Dev) (z : Dev) (br : Brace) (b : Nat) (e : Nat) (diffs : List SweepDiff) (l : List SweepDiff), b = brIx br ∧ diffs.all SweepDiff.wf = true ∧ d.due ⟨.sweepDone, 0, 0⟩ = some e ∧ y = d.cancel ⟨.sweepDone, 0, 0⟩ ∧ l = diffs.filter (fun q => y.braceRuns (brIx q.brace)) ∧ z = ((y.wrapInc (BRC_SWP_STAT_passes 0)).put (BRC_SWP_STAT_last_ok 0) (if l.isEmpty = true then 1 else 0)).each l Dev.latent) ∧
    (∃ (d : Dev) (br : Brace) (b : Nat) (c : Sys2Proof.Class) (x : BpDesc) (n : Nat) (head : Nat), b = brIx br ∧ x.wf = true ∧ n = bpSize (d.get (BRC_BP_TX_RING_log2 0 c)) ∧ head = d.get (BRC_BP_TX_HEAD_index 0 c) ∧ (d.up = false ∨ d.active = none ∨ d.pw.halted = true ∨ x.own = false ∨ bitAt (d.pressedAt 97) c = true ∨ x.len = 0 ∨ 9216 < x.len ∨ head % n = d.get (BRC_BP_TX_TAIL_index 0 c) % n)) ∧
    (∃ (d : Dev) (y : Dev) (br : Brace) (b : Nat) (c : Sys2Proof.Class) (x : BpDesc) (data : List Byte) (n : Nat) (head : Nat), b = brIx br ∧ x.wf = true ∧ n = bpSize (d.get (BRC_BP_TX_RING_log2 0 c)) ∧ head = d.get (BRC_BP_TX_HEAD_index 0 c) ∧ d.up = true ∧ d.active.isSome = true ∧ d.pw.halted = false ∧ x.own = true ∧ bitAt (d.pressedAt 97) c = false ∧ 1 ≤ x.len ∧ x.len ≤ 9216 ∧ head % n ≠ d.get (BRC_BP_TX_TAIL_index 0 c) % n ∧ y = (d.ringAdmit 97 c x.direct x.tsEvent x.port x.domain x.cls x.len data).2) :=
  ⟨⟨wit.arm ⟨.sweepDone, 0, 0⟩ 10, _, _, .a, _, 10, [], _, rfl, by decide +kernel, by decide +kernel, rfl, rfl, rfl⟩,
   ⟨wit, .a, _, 0, ⟨true, false, false, 64, 0, 0, 0, 0⟩, _, _, rfl, by decide +kernel, rfl, rfl, by decide +kernel⟩,
   ⟨((wit.put (BRC_ROLE_role 0) 1).put (BRC_BP_TX_TAIL_index 0 0) 1).put (BRC_BP_TX_RING_log2 0 0) 4, _, .a, _, 0, ⟨true, false, false, 9216, 0, 0, 0, 0⟩, [], _, _, rfl, by decide +kernel, rfl, rfl, by decide +kernel, by decide +kernel, by decide +kernel, by decide +kernel, by decide +kernel, by decide +kernel, by decide +kernel, by decide +kernel, rfl⟩⟩

/-- The hypotheses of `Obligations.IntegrityAct` hold together, clause by clause, in 5 parts. -/
theorem test_witness_IntegrityAct_part1 :
    (∃ (d : Dev) (y : Dev) (mism : Bool), (y = (if mism = true ∧ d.up = true ∧ d.works pgSCB = true then d.repairsLost else d)) ∧ (y.ecc.repairQ = [] ∨ y.up = false ∨ y.works pgSCB = false)) ∧
    (∃ (d : Dev) (y : Dev) (z : Dev) (u : Dev) (region : Nat) (unit : Nat) (k : Nat) (rest : List (Nat × Nat × Nat)) (hard : Bool) (mism : Bool), (y = (if mism = true ∧ d.up = true ∧ d.works pgSCB = true then d.repairsLost else d)) ∧ y.ecc.repairQ = (region, unit, k) :: rest ∧ y.up = true ∧ y.works pgSCB = true ∧ z = { y with ecc := { y.ecc with repairQ := rest } } ∧ u = (z.put SCB_REPQ_CNT_items rest.length).repairWrite region unit ∧ hard = false) ∧
    (∃ (d : Dev) (y : Dev) (z : Dev) (u : Dev) (region : Nat) (unit : Nat) (k : Nat) (rest : List (Nat × Nat × Nat)) (hard : Bool) (mism : Bool), (y = (if mism = true ∧ d.up = true ∧ d.works pgSCB = true then d.repairsLost else d)) ∧ y.ecc.repairQ = (region, unit, k) :: rest ∧ y.up = true ∧ y.works pgSCB = true ∧ z = { y with ecc := { y.ecc with repairQ := rest } } ∧ u = (z.put SCB_REPQ_CNT_items rest.length).repairWrite region unit ∧ hard = true ∧ (u.remap region unit).1 = true) ∧
    (∃ (d : Dev) (y : Dev) (z : Dev) (u : Dev) (region : Nat) (unit : Nat) (k : Nat) (rest : List (Nat × Nat × Nat)) (hard : Bool) (mism : Bool), (y = (if mism = true ∧ d.up = true ∧ d.works pgSCB = true then d.repairsLost else d)) ∧ y.ecc.repairQ = (region, unit, k) :: rest ∧ y.up = true ∧ y.works pgSCB = true ∧ z = { y with ecc := { y.ecc with repairQ := rest } } ∧ u = (z.put SCB_REPQ_CNT_items rest.length).repairWrite region unit ∧ hard = true ∧ (u.remap region unit).1 = false) ∧
    (∃ (d : Dev) (i : Initiator) (region : Nat) (unit : Nat) (k : Nat), d.accepts i = true ∧ region = d.get SCB_REGION_region ∧ unit = d.get SCB_FIRST_unit ∧ k = d.get SCB_COUNT_units ∧ (d.flag SCB_CTL_go = true ∨ k = 0 ∨ region = 13 ∨ regionSize region < unit + k)) ∧
    (∃ (d : Dev) (y : Dev) (z : Dev) (i : Initiator) (region : Nat) (unit : Nat) (k : Nat) (per : Nat), d.accepts i = true ∧ region = d.get SCB_REGION_region ∧ unit = d.get SCB_FIRST_unit ∧ k = d.get SCB_COUNT_units ∧ d.flag SCB_CTL_go = false ∧ k ≠ 0 ∧ region ≠ 13 ∧ unit + k ≤ regionSize region ∧ y = { d with ecc := { d.ecc with region := region, first := unit, units := k } } ∧ z = (y.put SCB_STAT_err 0).passBegins ∧ per = z.get SCB_PER_ms ∧ per = 0) :=
  ⟨⟨wit, _, true, rfl, by decide +kernel⟩,
   ⟨({ wit with ecc := { wit.ecc with repairQ := [(0, 0, 0)] } } : Dev), _, _, _, _, _, _, _, false, false, rfl, rfl, by decide +kernel, by decide +kernel, rfl, rfl, by decide +kernel⟩,
   ⟨({ wit with ecc := { wit.ecc with repairQ := [(0, 0, 0)] } } : Dev), _, _, _, _, _, _, _, true, false, rfl, rfl, by decide +kernel, by decide +kernel, rfl, rfl, by decide +kernel, by decide +kernel⟩,
   ⟨({ wit with ecc := { wit.ecc with repairQ := [(1, 0, 0)] } } : Dev), _, _, _, _, _, _, _, true, false, rfl, rfl, by decide +kernel, by decide +kernel, rfl, rfl, by decide +kernel, by decide +kernel⟩,
   ⟨wit, .host, _, _, _, by decide +kernel, rfl, rfl, rfl, by decide +kernel⟩,
   ⟨(((wit.put SCB_CTL_go 0).put SCB_COUNT_units 1).put SCB_REGION_region 1).put SCB_PER_ms 0, _, _, .host, _, _, _, _, by decide +kernel, rfl, rfl, rfl, by decide +kernel, by decide +kernel, by decide +kernel, by decide +kernel, rfl, rfl, rfl, by decide +kernel⟩⟩

/-- The same, part 2. -/
theorem test_witness_IntegrityAct_part2 :
    (∃ (d : Dev) (y : Dev) (z : Dev) (i : Initiator) (region : Nat) (unit : Nat) (k : Nat) (per : Nat), d.accepts i = true ∧ region = d.get SCB_REGION_region ∧ unit = d.get SCB_FIRST_unit ∧ k = d.get SCB_COUNT_units ∧ d.flag SCB_CTL_go = false ∧ k ≠ 0 ∧ region ≠ 13 ∧ unit + k ≤ regionSize region ∧ y = { d with ecc := { d.ecc with region := region, first := unit, units := k } } ∧ z = (y.put SCB_STAT_err 0).passBegins ∧ per = z.get SCB_PER_ms ∧ per ≠ 0) ∧
    (∃ (d : Dev) (y : Dev) (i : Initiator), d.accepts i = true ∧ d.flag SCB_CTL_go = true ∧ y = { d with ecc := { d.ecc with passLeft := 0 } }) ∧
    (∃ (d : Dev) (y : Dev) (i : Initiator), d.accepts i = true ∧ y = { d with ecc := { d.ecc with clearRec := true } }) ∧
    (∃ (d : Dev) (y : Dev) (i : Initiator) (v : Word) (region : Nat) (k : Nat), d.accepts i = true ∧ v.getLsbD 31 = true ∧ y = (if d.locked pgECC = true then d.lockViol pgECC i 0x300 v.toNat else d) ∧ region = (if d.locked pgECC = true then y.get ECC_INJ_region else bitsOf v 27 24) ∧ k = (if d.locked pgECC = true then y.get ECC_INJ_bits else bitsOf v 17 16) ∧ (y.flag ECC_INJ_arm = true ∨ region = 13 ∨ region = 14 ∨ k = 0)) ∧
    (∃ (d : Dev) (y : Dev) (i : Initiator) (v : Word) (region : Nat) (k : Nat), d.accepts i = true ∧ v.getLsbD 31 = true ∧ y = (if d.locked pgECC = true then d.lockViol pgECC i 0x300 v.toNat else d) ∧ region = (if d.locked pgECC = true then y.get ECC_INJ_region else bitsOf v 27 24) ∧ k = (if d.locked pgECC = true then y.get ECC_INJ_bits else bitsOf v 17 16) ∧ y.flag ECC_INJ_arm = false ∧ region ≠ 13 ∧ region ≠ 14 ∧ k ≠ 0) ∧
    (∃ (v : Word), v.getLsbD 31 = false) :=
  ⟨⟨(((wit.put SCB_CTL_go 0).put SCB_COUNT_units 1).put SCB_REGION_region 1).put SCB_PER_ms 100, _, _, .host, _, _, _, _, by decide +kernel, rfl, rfl, rfl, by decide +kernel, by decide +kernel, by decide +kernel, by decide +kernel, rfl, rfl, rfl, by decide +kernel⟩,
   ⟨wit.put SCB_CTL_go 1, _, .host, by decide +kernel, by decide +kernel, rfl⟩,
   ⟨wit, _, .host, by decide +kernel, rfl⟩,
   ⟨wit, _, .host, 0x8D010000, _, _, by decide +kernel, by decide +kernel, rfl, rfl, rfl, by decide +kernel⟩,
   ⟨wit.put ECC_INJ_arm 0, _, .host, 0x82010000, _, _, by decide +kernel, by decide +kernel, rfl, rfl, rfl, by decide +kernel, by decide +kernel, by decide +kernel, by decide +kernel⟩,
   ⟨0, by decide +kernel⟩⟩

/-- The same, part 3. -/
theorem test_witness_IntegrityAct_part3 :
    (∃ (d : Dev) (y : Dev) (e : Nat) (per : Nat), d.due ⟨.scrubPeriod, 0, 0⟩ = some e ∧ per = d.get SCB_PER_ms ∧ y = (d.at_ e).cancel ⟨.scrubPeriod, 0, 0⟩ ∧ per = 0) ∧
    (∃ (d : Dev) (y : Dev) (z : Dev) (e : Nat) (per : Nat), d.due ⟨.scrubPeriod, 0, 0⟩ = some e ∧ per = d.get SCB_PER_ms ∧ y = (d.at_ e).cancel ⟨.scrubPeriod, 0, 0⟩ ∧ per ≠ 0 ∧ z = y.arm ⟨.scrubPeriod, 0, 0⟩ (e + msT per) ∧ z.flag SCB_CTL_go = true) ∧
    (∃ (d : Dev) (y : Dev) (z : Dev) (e : Nat) (per : Nat), d.due ⟨.scrubPeriod, 0, 0⟩ = some e ∧ per = d.get SCB_PER_ms ∧ y = (d.at_ e).cancel ⟨.scrubPeriod, 0, 0⟩ ∧ per ≠ 0 ∧ z = y.arm ⟨.scrubPeriod, 0, 0⟩ (e + msT per) ∧ z.flag SCB_CTL_go = false) ∧
    (∃ (d : Dev), (d.up = false ∨ d.works pgSCB = false ∨ d.flag SCB_CTL_go = false ∨ d.ecc.passLeft = 0)) ∧
    (∃ (d : Dev) (y : Dev), d.up = true ∧ d.works pgSCB = true ∧ d.flag SCB_CTL_go = true ∧ d.ecc.passLeft ≠ 0 ∧ y = { d with ecc := { d.ecc with passAt := d.ecc.passAt + 1, passLeft := d.ecc.passLeft - 1, words := d.ecc.words + 1 } } ∧ d.ecc.region ≠ 0) ∧
    (∃ (d : Dev) (y : Dev) (z : Dev) (w : Dev) (hard : Bool) (f : ScrubFind), d.up = true ∧ d.works pgSCB = true ∧ d.flag SCB_CTL_go = true ∧ d.ecc.passLeft ≠ 0 ∧ y = { d with ecc := { d.ecc with passAt := d.ecc.passAt + 1, passLeft := d.ecc.passLeft - 1, words := d.ecc.words + 1 } } ∧ (f = .uncorrectable ∨ (d.ecc.region = 0 ∧ f = .correctable hard)) ∧ z = { y with ecc := { y.ecc with ue := y.ecc.ue + 1, firstUe := if y.ecc.ue = 0 then d.ecc.passAt else y.ecc.firstUe } } ∧ w = z.scrubUe d.ecc.region d.ecc.passAt) :=
  ⟨⟨wit.arm ⟨.scrubPeriod, 0, 0⟩ 10, _, 10, 0, by decide +kernel, by decide +kernel, rfl, by decide +kernel⟩,
   ⟨((((wit.arm ⟨.scrubPeriod, 0, 0⟩ 10).put SCB_CTL_go 1).arm ⟨.scrubPeriod, 0, 0⟩ 10).put SCB_PER_ms 1).put SCB_CTL_go 1, _, _, 10, _, by decide +kernel, rfl, rfl, by decide +kernel, rfl, by decide +kernel⟩,
   ⟨(((wit.arm ⟨.scrubPeriod, 0, 0⟩ 10).put SCB_CTL_go 0).arm ⟨.scrubPeriod, 0, 0⟩ 10).put SCB_PER_ms 1, _, _, 10, _, by decide +kernel, rfl, rfl, by decide +kernel, rfl, by decide +kernel⟩,
   ⟨wit, by decide +kernel⟩,
   ⟨(({ wit with ecc := { wit.ecc with passLeft := 1, region := 6 } } : Dev).put SCB_CTL_go 1).put SCB_CTL_go 1, _, by decide +kernel, by decide +kernel, by decide +kernel, by decide +kernel, rfl, by decide +kernel⟩,
   ⟨(({ wit with ecc := { wit.ecc with passLeft := 1 } } : Dev).put SCB_CTL_go 1).put SCB_CTL_go 1, _, _, _, true, .uncorrectable, by decide +kernel, by decide +kernel, by decide +kernel, by decide +kernel, rfl, by decide +kernel, rfl, rfl⟩⟩

/-- The same, part 4. -/
theorem test_witness_IntegrityAct_part4 :
    (∃ (d : Dev), (d.flag SCB_CTL_go = false ∨ d.ecc.passLeft ≠ 0)) ∧
    (∃ (d : Dev) (y : Dev) (z : Dev) (u : Dev), d.flag SCB_CTL_go = true ∧ d.ecc.passLeft = 0 ∧ y = ((((d.wr SCB_S_WORDS (BitVec.ofNat 32 d.ecc.words)).wr SCB_S_CE (BitVec.ofNat 32 d.ecc.ce)).wr SCB_S_UE (BitVec.ofNat 32 d.ecc.ue)).wr SCB_S_HARD (BitVec.ofNat 32 d.ecc.hard)).wr SCB_S_REMAP (BitVec.ofNat 32 d.ecc.remaps) ∧ z = (y.wr SCB_S_FIRST_UE (BitVec.ofNat 32 d.ecc.firstUe)).wr SCB_S_DUR (BitVec.ofNat 32 ((y.now - d.ecc.passStart) / 4800)) ∧ u = (z.wr64 SCB_S_T_LO SCB_S_T_HI z.ns).put SCB_CTL_go 0) ∧
    (∃ (d : Dev) (chan : Nat), chan < 16 ∧ d.ecc.rowCopies = 0) ∧
    (∃ (d : Dev) (y : Dev) (z : Dev) (chan : Nat) (k : Nat), chan < 16 ∧ d.ecc.rowCopies ≠ 0 ∧ y = { d with ecc := { d.ecc with rowCopies := d.ecc.rowCopies - 1 } } ∧ k = y.get (ECC_RSV_ROWS_used chan) ∧ k < 64 ∧ z = { y with mram := { y.mram with remapped := y.mram.remapped ++ [(1, chan * 64 + k)] } }) ∧
    (∃ (d : Dev) (y : Dev) (chan : Nat) (k : Nat), chan < 16 ∧ d.ecc.rowCopies ≠ 0 ∧ y = { d with ecc := { d.ecc with rowCopies := d.ecc.rowCopies - 1 } } ∧ k = y.get (ECC_RSV_ROWS_used chan) ∧ 64 ≤ k) ∧
    (∃ (d : Dev) (y : Dev) (z : Dev) (e : Nat), d.due ⟨.ceSecond, 0, 0⟩ = some e ∧ y = ((d.at_ e).cancel ⟨.ceSecond, 0, 0⟩).arm ⟨.ceSecond, 0, 0⟩ (e + secT 1) ∧ z = { y with ecc := { y.ecc with ceSecond := [] } } ∧ y.get ECC_CE_THR_per_s ≠ 0 ∧ y.ecc.ceSecond.any (fun q => decide (y.get ECC_CE_THR_per_s < q.2)) = true) :=
  ⟨⟨wit, by decide +kernel⟩,
   ⟨({ wit with ecc := { wit.ecc with passLeft := 0 } } : Dev).put SCB_CTL_go 1, _, _, _, by decide +kernel, by decide +kernel, rfl, rfl, rfl⟩,
   ⟨({ wit with ecc := { wit.ecc with rowCopies := 0 } } : Dev), 0, by decide +kernel, by decide +kernel⟩,
   ⟨({ wit with ecc := { wit.ecc with rowCopies := 2 } } : Dev), _, _, 15, _, by decide +kernel, by decide +kernel, rfl, rfl, by decide +kernel, rfl⟩,
   ⟨({ wit with ecc := { wit.ecc with rowCopies := 2 } } : Dev).put (ECC_RSV_ROWS_used 15) 64, _, 15, _, by decide +kernel, by decide +kernel, rfl, rfl, by decide +kernel⟩,
   ⟨(((({ wit with ecc := { wit.ecc with ceSecond := [(0, 1000)] } } : Dev).arm ⟨.ceSecond, 0, 0⟩ 10).put ECC_CE_THR_per_s 1).arm ⟨.ceSecond, 0, 0⟩ 10).put ECC_CE_THR_per_s 1, _, _, 10, by decide +kernel, rfl, rfl, by decide +kernel, by decide +kernel⟩⟩

/-- The same, part 5. -/
theorem test_witness_IntegrityAct_part5 :
    ∃ (d : Dev) (y : Dev) (z : Dev) (e : Nat), d.due ⟨.ceSecond, 0, 0⟩ = some e ∧ y = ((d.at_ e).cancel ⟨.ceSecond, 0, 0⟩).arm ⟨.ceSecond, 0, 0⟩ (e + secT 1) ∧ z = { y with ecc := { y.ecc with ceSecond := [] } } ∧ (y.get ECC_CE_THR_per_s = 0 ∨ y.ecc.ceSecond.any (fun q => decide (y.get ECC_CE_THR_per_s < q.2)) = false) :=
  ⟨wit.arm ⟨.ceSecond, 0, 0⟩ 10, _, _, 10, by decide +kernel, rfl, rfl, by decide +kernel⟩

/-- The hypotheses of `Obligations.HostLinkAct` hold together, clause by clause, in 4 parts. -/
theorem test_witness_HostLinkAct_part1 :
    (∃ (d : Dev) (y : Dev), d.hbr.perst = false ∧ y = { d with hbr := { d.hbr with perst := true } } ∧ d.up = false) ∧
    (∃ (d : Dev) (y : Dev) (z : Dev), d.hbr.perst = false ∧ y = { d with hbr := { d.hbr with perst := true } } ∧ d.up = true ∧ z = ((y.put HBR_STAT_perst 1).pcieDown).hostGone.cfgReset ∧ z.flag (PG_STATE_in_reset pgHBR) = true) ∧
    (∃ (d : Dev) (y : Dev) (z : Dev), d.hbr.perst = false ∧ y = { d with hbr := { d.hbr with perst := true } } ∧ d.up = true ∧ z = ((y.put HBR_STAT_perst 1).pcieDown).hostGone.cfgReset ∧ z.flag (PG_STATE_in_reset pgHBR) = false) ∧
    (∃ (d : Dev) (y : Dev) (z : Dev), d.hbr.perst = true ∧ z = { d with hbr := { d.hbr with perst := false, waken := false } } ∧ y = z.cancel ⟨.wakenPin, 0, 0⟩ ∧ d.up = false) ∧
    (∃ (d : Dev) (y : Dev) (z : Dev) (u : Dev), d.hbr.perst = true ∧ z = { d with hbr := { d.hbr with perst := false, waken := false } } ∧ y = z.cancel ⟨.wakenPin, 0, 0⟩ ∧ d.up = true ∧ u = y.put HBR_STAT_perst 0 ∧ u.pw.filled = true ∧ u.flag (PG_STATE_in_reset pgHBR) = true ∧ u.running ⟨.unitReset, pgHBR, 0⟩ = false) ∧
    (∃ (d : Dev) (y : Dev) (z : Dev) (u : Dev), d.hbr.perst = true ∧ z = { d with hbr := { d.hbr with perst := false, waken := false } } ∧ y = z.cancel ⟨.wakenPin, 0, 0⟩ ∧ d.up = true ∧ u = y.put HBR_STAT_perst 0 ∧ (u.pw.filled = false ∨ u.flag (PG_STATE_in_reset pgHBR) = false ∨ u.running ⟨.unitReset, pgHBR, 0⟩ = true)) :=
  ⟨⟨({ wit with hbr := { wit.hbr with perst := false }, pw := { wit.pw with rails := false } } : Dev), _, by decide +kernel, rfl, by decide +kernel⟩,
   ⟨({ wit with hbr := { wit.hbr with perst := false } } : Dev).put (PG_STATE_in_reset pgHBR) 1, _, _, by decide +kernel, rfl, by decide +kernel, rfl, by decide +kernel⟩,
   ⟨({ wit with hbr := { wit.hbr with perst := false } } : Dev).put (PG_STATE_in_reset pgHBR) 0, _, _, by decide +kernel, rfl, by decide +kernel, rfl, by decide +kernel⟩,
   ⟨({ wit with hbr := { wit.hbr with perst := true }, pw := { wit.pw with rails := false } } : Dev), _, _, by decide +kernel, rfl, rfl, by decide +kernel⟩,
   ⟨({ wit with hbr := { wit.hbr with perst := true } } : Dev).put (PG_STATE_in_reset pgHBR) 1, _, _, _, by decide +kernel, rfl, rfl, by decide +kernel, rfl, by decide +kernel, by decide +kernel, by decide +kernel⟩,
   ⟨({ wit with hbr := { wit.hbr with perst := true } } : Dev), _, _, _, by decide +kernel, rfl, rfl, by decide +kernel, rfl, by decide +kernel⟩⟩

/-- The same, part 2. -/
theorem test_witness_HostLinkAct_part2 :
    (∃ (d : Dev), (d.flag HBR_STAT_link = false ∨ d.flag (PG_STATE_in_reset pgHBR) = true)) ∧
    (∃ (d : Dev), d.flag HBR_STAT_link = true ∧ d.flag (PG_STATE_in_reset pgHBR) = false) ∧
    (∃ (d : Dev) (g : Nat) (w : Nat), 1 ≤ g ∧ g ≤ 4 ∧ [1, 2, 4].contains w = true ∧ (d.hbr.perst = true ∨ d.up = false ∨ d.inService pgHBR = false ∨ d.flag HBR_STAT_link = true)) ∧
    (∃ (d : Dev) (g : Nat) (w : Nat), 1 ≤ g ∧ g ≤ 4 ∧ [1, 2, 4].contains w = true ∧ d.hbr.perst = false ∧ d.up = true ∧ d.inService pgHBR = true ∧ d.flag HBR_STAT_link = false) ∧
    (∃ (d : Dev) (y : Dev) (z : Dev) (e : Nat), d.due ⟨.wakenPin, 0, 0⟩ = some e ∧ y = (d.at_ e).cancel ⟨.wakenPin, 0, 0⟩ ∧ z = { y with hbr := { y.hbr with waken := false } }) ∧
    (∃ (d : Dev) (y : Dev) (z : Dev) (bme : Bool) (d3 : Bool) (en : Bool) (fm : Bool), d.flag HBR_STAT_link = true ∧ y = ((d.put HBR_STAT_bme (if bme = true then 1 else 0)).put HBR_STAT_msix_en (if en = true then 1 else 0)).put HBR_STAT_fmask (if fm = true then 1 else 0) ∧ z = { y with hbr := { y.hbr with d3 := d3 } } ∧ d.hostUp = true ∧ z.hostUp = false) :=
  ⟨⟨wit, by decide +kernel⟩,
   ⟨(wit.put HBR_STAT_link 1).put (PG_STATE_in_reset pgHBR) 0, by decide +kernel, by decide +kernel⟩,
   ⟨wit.put HBR_STAT_link 1, 4, 4, by decide +kernel, by decide +kernel, by decide +kernel, by decide +kernel⟩,
   ⟨({ witAll with hbr := { witAll.hbr with perst := false } } : Dev).put HBR_STAT_link 0, 4, 4, by decide +kernel, by decide +kernel, by decide +kernel, by decide +kernel, by decide +kernel, by decide +kernel, by decide +kernel⟩,
   ⟨wit.arm ⟨.wakenPin, 0, 0⟩ 10, _, _, 10, by decide +kernel, rfl, rfl⟩,
   ⟨((wit.put HBR_STAT_link 1).put HBR_STAT_link 1).put HBR_STAT_bme 1, _, _, false, true, true, true, by decide +kernel, rfl, rfl, by decide +kernel, by decide +kernel⟩⟩

/-- The same, part 3. -/
theorem test_witness_HostLinkAct_part3 :
    (∃ (d : Dev) (y : Dev) (z : Dev) (bme : Bool) (d3 : Bool) (en : Bool) (fm : Bool), d.flag HBR_STAT_link = true ∧ y = ((d.put HBR_STAT_bme (if bme = true then 1 else 0)).put HBR_STAT_msix_en (if en = true then 1 else 0)).put HBR_STAT_fmask (if fm = true then 1 else 0) ∧ z = { y with hbr := { y.hbr with d3 := d3 } } ∧ (d.hostUp = false ∨ z.hostUp = true)) ∧
    (∃ (d : Dev) (e : Nat), d.due ⟨.hostHold, 0, 0⟩ = some e) ∧
    (∃ (d : Dev) (y : Dev) (k : Fin 64), y = { d with hbr := { d.hbr with masked := d.hbr.masked.filter (· != k.val) } }) ∧
    (∃ (d : Dev) (y : Dev) (i : Initiator) (n : Sem), d.accepts i = true ∧ d.get (HBR_SEM_holder n) = 0xF ∧ y = (d.put (HBR_SEM_holder n) (iniCode i)).armIn ⟨.sem, n, 0⟩ (msT ((d.put (HBR_SEM_holder n) (iniCode i)).get HBR_SEM_TMO_ms))) ∧
    (∃ (d : Dev) (i : Initiator) (n : Sem), d.accepts i = true ∧ d.get (HBR_SEM_holder n) ≠ 0xF) ∧
    (∃ (d : Dev) (i : Initiator) (n : Sem), d.accepts i = true ∧ d.get (HBR_SEM_holder n) = iniCode i) :=
  ⟨⟨wit.put HBR_STAT_link 1, _, _, true, true, true, true, by decide +kernel, rfl, rfl, by decide +kernel⟩,
   ⟨wit.arm ⟨.hostHold, 0, 0⟩ 10, 10, by decide +kernel⟩,
   ⟨wit, _, 0, rfl⟩,
   ⟨wit.put (HBR_SEM_holder 0) 0xF, _, .host, 0, by decide +kernel, by decide +kernel, rfl⟩,
   ⟨wit.put (HBR_SEM_holder 31) 2, .host, 31, by decide +kernel, by decide +kernel⟩,
   ⟨wit.put (HBR_SEM_holder 31) (iniCode .host), .host, 31, by decide +kernel, by decide +kernel⟩⟩

/-- The same, part 4. -/
theorem test_witness_HostLinkAct_part4 :
    (∃ (d : Dev) (i : Initiator) (n : Sem), d.accepts i = true ∧ d.get (HBR_SEM_holder n) ≠ iniCode i) ∧
    (∃ (d : Dev) (i : Initiator), d.accepts i = true ∧ d.hbr.log = []) ∧
    (∃ (d : Dev) (y : Dev) (i : Initiator) (x : PweItem) (l : List PweItem), d.accepts i = true ∧ d.hbr.log = x :: l ∧ y = { d with hbr := { d.hbr with log := l } }) ∧
    (∃ (d : Dev) (n : Sem) (e : Nat), d.due ⟨.sem, n, 0⟩ = some e) :=
  ⟨⟨wit, .host, 0, by decide +kernel, by decide +kernel⟩,
   ⟨({ wit with hbr := { wit.hbr with log := [] } } : Dev), .host, by decide +kernel, by decide +kernel⟩,
   ⟨({ wit with hbr := { wit.hbr with log := [⟨0, 0⟩] } } : Dev), _, .host, _, _, by decide +kernel, rfl, rfl⟩,
   ⟨wit.arm ⟨.sem, 0, 0⟩ 10, 0, 10, by decide +kernel⟩⟩

/-- The hypotheses of `Obligations.HostAccessesAct` hold together, clause by clause, in 6 parts. -/
theorem test_witness_HostAccessesAct_part1 :
    (∃ (d : Dev) (br : Brace) (i : Initiator) (code : Nat), i = braceIni (brIx br) ∧ code = iniCode i ∧ d.hostServed = false) ∧
    (∃ (d : Dev) (br : Brace) (i : Initiator) (off : Nat) (o : Nat) (a : Nat) (code : Nat), i = braceIni (brIx br) ∧ code = iniCode i ∧ d.hostServed = true ∧ o = off / 4 * 4 ∧ a = 0x40000000 + o ∧ o < 0x10000000) ∧
    (∃ (d : Dev) (br : Brace) (i : Initiator) (off : Nat) (o : Nat) (a : Nat) (code : Nat), i = braceIni (brIx br) ∧ code = iniCode i ∧ d.hostServed = true ∧ o = off / 4 * 4 ∧ a = 0x40000000 + o ∧ o < 0x4000) ∧
    (∃ (d : Dev) (br : Brace) (i : Initiator) (off : Nat) (o : Nat) (a : Nat) (code : Nat), i = braceIni (brIx br) ∧ code = iniCode i ∧ d.hostServed = true ∧ o = off / 4 * 4 ∧ a = 0x40000000 + o ∧ o < 0x4000000 ∧ pageKind (o / 0x1000) = none) ∧
    (∃ (d : Dev) (br : Brace) (i : Initiator) (off : Nat) (o : Nat) (a : Nat) (code : Nat), i = braceIni (brIx br) ∧ code = iniCode i ∧ d.hostServed = true ∧ o = off / 4 * 4 ∧ a = 0x40000000 + o ∧ o < 0x4000000 ∧ (pageKind (o / 0x1000)).isSome = true) ∧
    (∃ (d : Dev) (y : Dev) (br : Brace) (i : Initiator) (off : Nat) (o : Nat) (a : Nat) (code : Nat) (w : Word), i = braceIni (brIx br) ∧ code = iniCode i ∧ d.hostServed = true ∧ o = off / 4 * 4 ∧ a = 0x40000000 + o ∧ o < 0x4000000 ∧ retryAddr .registers off = none ∧ d.prefetchable a = false ∧ d.fetchWord a = (w, y)) :=
  ⟨⟨wit, .a, _, _, rfl, rfl, by decide +kernel⟩,
   ⟨wit.put HBR_STAT_link 1, .a, _, 0x3FFF, _, _, _, rfl, rfl, by decide +kernel, rfl, rfl, by decide +kernel⟩,
   ⟨wit.put HBR_STAT_link 1, .a, _, 0x3FFF, _, _, _, rfl, rfl, by decide +kernel, rfl, rfl, by decide +kernel⟩,
   ⟨wit.put HBR_STAT_link 1, .a, _, 0x6000, _, _, _, rfl, rfl, by decide +kernel, rfl, rfl, by decide +kernel, by decide +kernel⟩,
   ⟨wit.put HBR_STAT_link 1, .a, _, 0x100000, _, _, _, rfl, rfl, by decide +kernel, rfl, rfl, by decide +kernel, by decide +kernel⟩,
   ⟨wit.put HBR_STAT_link 1, _, .a, _, 0x100000, _, _, _, _, rfl, rfl, by decide +kernel, rfl, rfl, by decide +kernel, by decide +kernel, by decide +kernel, rfl⟩⟩

/-- The same, part 2. -/
theorem test_witness_HostAccessesAct_part2 :
    (∃ (d : Dev) (y : Dev) (z : Dev) (br : Brace) (i : Initiator) (off : Nat) (o : Nat) (n : Nat) (a : Nat) (code : Nat) (l : PfLine), i = braceIni (brIx br) ∧ code = iniCode i ∧ d.hostServed = true ∧ o = off / 4 * 4 ∧ a = 0x40000000 + o ∧ o < 0x4000000 ∧ retryAddr .registers off = none ∧ d.prefetchable a = true ∧ d.freshLine 2 a = (some (n, l), y) ∧ z = y.emit (.hostData a (l.word a))) ∧
    (∃ (d : Dev) (y : Dev) (z : Dev) (br : Brace) (i : Initiator) (off : Nat) (o : Nat) (a : Nat) (code : Nat) (l : PfLine) (bs : List Byte), i = braceIni (brIx br) ∧ code = iniCode i ∧ d.hostServed = true ∧ o = off / 4 * 4 ∧ a = 0x40000000 + o ∧ o < 0x4000000 ∧ retryAddr .registers off = none ∧ d.prefetchable a = true ∧ d.freshLine 2 a = (none, y) ∧ y.fetchBlock a = (bs, z) ∧ l = { addr := a / 64 * 64, by_ := 2, data := bs, left := List.range 16, at_ := z.now }) ∧
    (∃ (d : Dev) (br : Brace) (i : Initiator) (off : Nat) (e : Nat) (addr : Nat) (code : Nat) (x : RtvEntry) (bar : Bar) (bs : List Byte), i = braceIni (brIx br) ∧ code = iniCode i ∧ d.hostServed = true ∧ retryAddr bar off = some addr ∧ d.rtvAt addr = some (e, x) ∧ x.data = some bs) ∧
    (∃ (d : Dev) (br : Brace) (i : Initiator) (off : Nat) (e : Nat) (addr : Nat) (code : Nat) (x : RtvEntry) (bar : Bar), i = braceIni (brIx br) ∧ code = iniCode i ∧ d.hostServed = true ∧ retryAddr bar off = some addr ∧ d.rtvAt addr = some (e, x) ∧ x.data = none) ∧
    (∃ (d : Dev) (y : Dev) (br : Brace) (i : Initiator) (off : Nat) (e : Nat) (addr : Nat) (code : Nat) (bar : Bar), i = braceIni (brIx br) ∧ code = iniCode i ∧ d.hostServed = true ∧ retryAddr bar off = some addr ∧ d.rtvAt addr = none ∧ (List.range 8).find? (fun e => (NMap.get none d.hbr.rtv e).isNone) = some e ∧ y = d.setRtv e (some { addr := addr, block := d.prefetchable addr })) ∧
    (∃ (d : Dev) (br : Brace) (i : Initiator) (off : Nat) (e : Nat) (addr : Nat) (code : Nat) (bar : Bar), i = braceIni (brIx br) ∧ code = iniCode i ∧ d.hostServed = true ∧ retryAddr bar off = some addr ∧ d.rtvAt addr = none ∧ (List.range 8).find? (fun e => (NMap.get none d.hbr.rtv e).isNone) = none) :=
  ⟨⟨(((((({ wit with hbr := { wit.hbr with lines := [(15, some ⟨0x40100000, 2, [], [], 10⟩)] } } : Dev).put HBR_STAT_link 1).put (HBR_RANGE_CFG_en 0) 1).put (HBR_RANGE_CFG_log2 0) 30).put (HBR_RANGE_CFG_pf 0) 1).put (HBR_RANGE_HI_base 0) 0).put (HBR_RANGE_LO_base 0) 262144, _, _, .a, _, 0x100000, _, _, _, _, _, rfl, rfl, by decide +kernel, rfl, rfl, by decide +kernel, by decide +kernel, by decide +kernel, rfl, rfl⟩,
   ⟨(((((wit.put HBR_STAT_link 1).put (HBR_RANGE_CFG_en 0) 1).put (HBR_RANGE_CFG_log2 0) 30).put (HBR_RANGE_CFG_pf 0) 1).put (HBR_RANGE_HI_base 0) 0).put (HBR_RANGE_LO_base 0) 262144, _, _, .a, _, 0x100000, _, _, _, _, _, rfl, rfl, by decide +kernel, rfl, rfl, by decide +kernel, by decide +kernel, by decide +kernel, rfl, rfl, rfl⟩,
   ⟨({ wit with hbr := { wit.hbr with rtv := [(7, some { addr := 0x80000000, data := some [1, 2, 3, 4] })] } } : Dev).put HBR_STAT_link 1, .a, _, 0, _, _, _, _, .mram, _, rfl, rfl, by decide +kernel, rfl, rfl, rfl⟩,
   ⟨({ wit with hbr := { wit.hbr with rtv := [(7, some { addr := 0x80000000 })] } } : Dev).put HBR_STAT_link 1, .a, _, 0, _, _, _, _, .mram, rfl, rfl, by decide +kernel, rfl, rfl, by decide +kernel⟩,
   ⟨wit.put HBR_STAT_link 1, _, .a, _, 0xFFFFFFF, _, _, _, .mram, rfl, rfl, by decide +kernel, rfl, by decide +kernel, rfl, rfl⟩,
   ⟨({ wit with hbr := { wit.hbr with rtv := (List.range 8).map (fun a => (a, some { addr := 0 })) } } : Dev).put HBR_STAT_link 1, .a, _, 0, 0, _, _, .mram, rfl, rfl, by decide +kernel, rfl, by decide +kernel, by decide +kernel⟩⟩

/-- The same, part 3. -/
theorem test_witness_HostAccessesAct_part3 :
    (∃ (br : Brace) (i : Initiator) (off : Nat) (code : Nat) (bar : Bar), i = braceIni (brIx br) ∧ code = iniCode i ∧ retryAddr bar off = none) ∧
    (∃ (d : Dev) (br : Brace) (i : Initiator) (e : Nat) (n : Nat) (code : Nat) (x : RtvEntry), i = braceIni (brIx br) ∧ code = iniCode i ∧ e < 8 ∧ NMap.get none d.hbr.rtv e = some x ∧ d.due ⟨.rtvWait, e, 0⟩ = some n) ∧
    (∃ (d : Dev) (br : Brace) (i : Initiator) (e : Nat) (code : Nat) (x : RtvEntry), i = braceIni (brIx br) ∧ code = iniCode i ∧ e < 8 ∧ NMap.get none d.hbr.rtv e = some x ∧ x.data.isSome = true) ∧
    (∃ (d : Dev) (y : Dev) (br : Brace) (i : Initiator) (e : Nat) (code : Nat) (w : Word) (x : RtvEntry) (bs : List Byte), i = braceIni (brIx br) ∧ code = iniCode i ∧ e < 8 ∧ NMap.get none d.hbr.rtv e = some x ∧ x.data = none ∧ ((x.block = true ∧ d.fetchBlock x.addr = (bs, y)) ∨ (x.block = false ∧ d.fetchWord x.addr = (w, y) ∧ bs = leBytes 4 w.toNat)) ∧ x.waiting = true) ∧
    (∃ (d : Dev) (y : Dev) (br : Brace) (i : Initiator) (e : Nat) (code : Nat) (w : Word) (x : RtvEntry) (bs : List Byte), i = braceIni (brIx br) ∧ code = iniCode i ∧ e < 8 ∧ NMap.get none d.hbr.rtv e = some x ∧ x.data = none ∧ ((x.block = true ∧ d.fetchBlock x.addr = (bs, y)) ∨ (x.block = false ∧ d.fetchWord x.addr = (w, y) ∧ bs = leBytes 4 w.toNat)) ∧ x.waiting = false) ∧
    (∃ (d : Dev) (y : Dev) (br : Brace) (i : Initiator) (e : Nat) (n : Nat) (code : Nat) (x : RtvEntry), i = braceIni (brIx br) ∧ code = iniCode i ∧ e < 8 ∧ NMap.get none d.hbr.rtv e = some x ∧ d.due ⟨.rtvHold, e, 0⟩ = some n ∧ y = (((d.at_ n).cancel ⟨.rtvHold, e, 0⟩).rtvFree e).count (HBR_CNT 9) ∧ (y.pg pgHBR).captured = true) :=
  ⟨⟨.a, _, 0, _, .registers, rfl, rfl, by decide +kernel⟩,
   ⟨(({ wit with hbr := { wit.hbr with rtv := [(7, some { addr := 0x80000000 })] } } : Dev).arm ⟨.rtvWait, 7, 0⟩ 10).arm ⟨.rtvWait, 7, 0⟩ 10, .a, _, 7, 10, _, _, rfl, rfl, by decide +kernel, rfl, by decide +kernel⟩,
   ⟨({ wit with hbr := { wit.hbr with rtv := [(7, some { addr := 0x80000000, data := some [1, 2, 3, 4] })] } } : Dev), .a, _, 7, _, _, rfl, rfl, by decide +kernel, rfl, by decide +kernel⟩,
   ⟨({ wit with hbr := { wit.hbr with rtv := [(7, some { addr := 0x80000000 })] } } : Dev), _, .a, _, 7, _, _, _, _, rfl, rfl, by decide +kernel, rfl, by decide +kernel, Or.inr ⟨rfl, rfl, rfl⟩, by decide +kernel⟩,
   ⟨({ wit with hbr := { wit.hbr with rtv := [(7, some { addr := 0x80000000, waiting := false })] } } : Dev), _, .a, _, 7, _, _, _, _, rfl, rfl, by decide +kernel, rfl, by decide +kernel, Or.inr ⟨rfl, rfl, rfl⟩, by decide +kernel⟩,
   ⟨((({ wit with hbr := { wit.hbr with rtv := [(7, some { addr := 0x80000000 })] } } : Dev).arm ⟨.rtvHold, 7, 0⟩ 10).arm ⟨.rtvHold, 7, 0⟩ 10).modPg pgHBR (fun s => { s with captured := true }), _, .a, _, 7, 10, _, _, rfl, rfl, by decide +kernel, rfl, by decide +kernel, rfl, by decide +kernel⟩⟩

/-- The same, part 4. -/
theorem test_witness_HostAccessesAct_part4 :
    (∃ (d : Dev) (y : Dev) (br : Brace) (i : Initiator) (e : Nat) (n : Nat) (code : Nat) (x : RtvEntry), i = braceIni (brIx br) ∧ code = iniCode i ∧ e < 8 ∧ NMap.get none d.hbr.rtv e = some x ∧ d.due ⟨.rtvHold, e, 0⟩ = some n ∧ y = (((d.at_ n).cancel ⟨.rtvHold, e, 0⟩).rtvFree e).count (HBR_CNT 9) ∧ (y.pg pgHBR).captured = false) ∧
    (∃ (d : Dev) (br : Brace) (i : Initiator) (n : Nat) (code : Nat) (l : PfLine), i = braceIni (brIx br) ∧ code = iniCode i ∧ n < 16 ∧ NMap.get none d.hbr.lines n = some l) ∧
    (∃ (d : Dev) (br : Brace) (i : Initiator) (n : Nat) (code : Nat), i = braceIni (brIx br) ∧ code = iniCode i ∧ n < 16 ∧ NMap.get none d.hbr.lines n = none) ∧
    (∃ (br : Brace) (i : Initiator) (addr : Nat) (code : Nat), i = braceIni (brIx br) ∧ code = iniCode i ∧ addr < 2 ^ 39) ∧
    (∃ (d : Dev) (y : Dev) (br : Brace) (i : Initiator) (addr : Nat) (a : Nat) (code : Nat) (v : Word), i = braceIni (brIx br) ∧ code = iniCode i ∧ 2 ^ 39 ≤ addr ∧ addr < 2 ^ 40 ∧ d.accepts i = true ∧ a = addr / 4 * 4 ∧ y = (d.lineWritten code a).outWrite code a (leBytes 4 v.toNat) ∧ (d.outFails a).isSome = true ∧ d.acked a = true) ∧
    (∃ (d : Dev) (y : Dev) (br : Brace) (i : Initiator) (addr : Nat) (a : Nat) (code : Nat) (v : Word), i = braceIni (brIx br) ∧ code = iniCode i ∧ 2 ^ 39 ≤ addr ∧ addr < 2 ^ 40 ∧ d.accepts i = true ∧ a = addr / 4 * 4 ∧ y = (d.lineWritten code a).outWrite code a (leBytes 4 v.toNat) ∧ (d.outFails a = none ∨ d.acked a = false)) :=
  ⟨⟨(({ wit with hbr := { wit.hbr with rtv := [(7, some { addr := 0x80000000 })] } } : Dev).arm ⟨.rtvHold, 7, 0⟩ 10).arm ⟨.rtvHold, 7, 0⟩ 10, _, .a, _, 7, 10, _, _, rfl, rfl, by decide +kernel, rfl, by decide +kernel, rfl, by decide +kernel⟩,
   ⟨({ wit with hbr := { wit.hbr with lines := [(15, some ⟨0, 0, [], [], 10⟩)] } } : Dev), .a, _, 15, _, _, rfl, rfl, by decide +kernel, rfl⟩,
   ⟨wit, .a, _, 0, _, rfl, rfl, by decide +kernel, by decide +kernel⟩,
   ⟨.a, _, 0, _, rfl, rfl, by decide +kernel⟩,
   ⟨(((((wit.put (BRC_ROLE_role 0) 1).put (HBR_RANGE_CFG_en 0) 1).put (HBR_RANGE_CFG_log2 0) 30).put (HBR_RANGE_CFG_ack 0) 1).put (HBR_RANGE_HI_base 0) 128).put (HBR_RANGE_LO_base 0) 0, _, .a, _, 0x8000000003, _, _, 0, rfl, rfl, by decide +kernel, by decide +kernel, by decide +kernel, rfl, rfl, by decide +kernel, by decide +kernel⟩,
   ⟨(((wit.put HBR_STAT_link 1).put HBR_STAT_bme 1).put (BRC_ROLE_role 0) 1).put HBR_WIN_SIZE_log2 32, _, .a, _, 0x8000000003, _, _, 0, rfl, rfl, by decide +kernel, by decide +kernel, by decide +kernel, rfl, rfl, by decide +kernel⟩⟩

/-- The same, part 5. -/
theorem test_witness_HostAccessesAct_part5 :
    (∃ (d : Dev) (y : Dev) (z : Dev) (br : Brace) (i : Initiator) (n : Nat) (addr : Nat) (a : Nat) (code : Nat) (l : PfLine), i = braceIni (brIx br) ∧ code = iniCode i ∧ 2 ^ 39 ≤ addr ∧ addr < 2 ^ 40 ∧ d.accepts i = true ∧ a = addr / 4 * 4 ∧ d.outFails a = none ∧ d.prefetchable a = true ∧ d.freshLine code a = (some (n, l), y) ∧ z = y.emit (.readValue i a (l.word a))) ∧
    (∃ (d : Dev) (y : Dev) (br : Brace) (i : Initiator) (addr : Nat) (a : Nat) (code : Nat), i = braceIni (brIx br) ∧ code = iniCode i ∧ 2 ^ 39 ≤ addr ∧ addr < 2 ^ 40 ∧ d.accepts i = true ∧ a = addr / 4 * 4 ∧ d.outFails a = none ∧ ((d.prefetchable a = false ∧ y = d) ∨ (d.prefetchable a = true ∧ d.freshLine code a = (none, y)))) ∧
    (∃ (br : Brace) (i : Initiator) (tag : Nat) (code : Nat) (st : CplStatus), i = braceIni (brIx br) ∧ code = iniCode i ∧ tag < 32 ∧ st ≠ .ok) ∧
    (∃ (d : Dev) (y : Dev) (br : Brace) (i : Initiator) (tag : Nat) (code : Nat) (r : OutRead), i = braceIni (brIx br) ∧ code = iniCode i ∧ 32 ≤ tag ∧ NMap.get none d.hbr.reads tag = some r ∧ y = d.takeRead tag ∧ r.ack = true) ∧
    (∃ (d : Dev) (y : Dev) (z : Dev) (br : Brace) (i : Initiator) (tag : Nat) (code : Nat) (data : Word) (r : OutRead), i = braceIni (brIx br) ∧ code = iniCode i ∧ 32 ≤ tag ∧ NMap.get none d.hbr.reads tag = some r ∧ y = d.takeRead tag ∧ r.ack = false ∧ z = y.emit (.readValue (braceIni r.by_) r.addr data) ∧ r.n < 64) ∧
    (∃ (d : Dev) (y : Dev) (z : Dev) (br : Brace) (i : Initiator) (tag : Nat) (code : Nat) (data : Word) (r : OutRead), i = braceIni (brIx br) ∧ code = iniCode i ∧ 32 ≤ tag ∧ NMap.get none d.hbr.reads tag = some r ∧ y = d.takeRead tag ∧ r.ack = false ∧ z = y.emit (.readValue (braceIni r.by_) r.addr data) ∧ 64 ≤ r.n ∧ r.n < 128) :=
  ⟨⟨((((((((({ wit with hbr := { wit.hbr with lines := [(15, some ⟨0x8000000000, 0, [], [], 10⟩)] } } : Dev).put HBR_STAT_link 1).put HBR_STAT_bme 1).put (BRC_ROLE_role 0) 1).put HBR_WIN_SIZE_log2 32).put (HBR_RANGE_CFG_en 0) 1).put (HBR_RANGE_CFG_log2 0) 30).put (HBR_RANGE_CFG_pf 0) 1).put (HBR_RANGE_HI_base 0) 128).put (HBR_RANGE_LO_base 0) 0, _, _, .a, _, _, 0x8000000003, _, _, _, rfl, rfl, by decide +kernel, by decide +kernel, by decide +kernel, rfl, by decide +kernel, by decide +kernel, rfl, rfl⟩,
   ⟨(((wit.put HBR_STAT_link 1).put HBR_STAT_bme 1).put (BRC_ROLE_role 0) 1).put HBR_WIN_SIZE_log2 32, _, .a, _, 0x8000000003, _, _, rfl, rfl, by decide +kernel, by decide +kernel, by decide +kernel, rfl, by decide +kernel, Or.inl ⟨by decide +kernel, rfl⟩⟩,
   ⟨.a, _, 31, _, .poisoned, rfl, rfl, by decide +kernel, by decide +kernel⟩,
   ⟨({ wit with hbr := { wit.hbr with reads := [(40, some ⟨0, 0x8000000000, true, 0, 0⟩)] } } : Dev), _, .a, _, 40, _, _, rfl, rfl, by decide +kernel, rfl, rfl, by decide +kernel⟩,
   ⟨({ wit with hbr := { wit.hbr with reads := [(40, some ⟨0, 0x8000000000, false, 0, 0⟩)] } } : Dev), _, _, .a, _, 40, _, 0, _, rfl, rfl, by decide +kernel, rfl, rfl, by decide +kernel, rfl, by decide +kernel⟩,
   ⟨({ wit with hbr := { wit.hbr with reads := [(40, some ⟨0, 0x8000000000, false, 0, 64⟩)] } } : Dev), _, _, .a, _, 40, _, 0, _, rfl, rfl, by decide +kernel, rfl, rfl, by decide +kernel, rfl, by decide +kernel, by decide +kernel⟩⟩

/-- The same, part 6. -/
theorem test_witness_HostAccessesAct_part6 :
    (∃ (d : Dev) (y : Dev) (z : Dev) (br : Brace) (i : Initiator) (tag : Nat) (code : Nat) (data : Word) (r : OutRead), i = braceIni (brIx br) ∧ code = iniCode i ∧ 32 ≤ tag ∧ NMap.get none d.hbr.reads tag = some r ∧ y = d.takeRead tag ∧ r.ack = false ∧ z = y.emit (.readValue (braceIni r.by_) r.addr data) ∧ 128 ≤ r.n) ∧
    (∃ (d : Dev) (y : Dev) (br : Brace) (i : Initiator) (tag : Nat) (code : Nat) (r : OutRead) (st : CplStatus), i = braceIni (brIx br) ∧ code = iniCode i ∧ 32 ≤ tag ∧ NMap.get none d.hbr.reads tag = some r ∧ y = d.takeRead tag ∧ st ≠ .ok) ∧
    (∃ (d : Dev) (y : Dev) (br : Brace) (i : Initiator) (e : Nat) (tag : Nat) (code : Nat) (r : OutRead), i = braceIni (brIx br) ∧ code = iniCode i ∧ 32 ≤ tag ∧ NMap.get none d.hbr.reads tag = some r ∧ y = d.takeRead tag ∧ d.due ⟨.cplTmo, tag, 0⟩ = some e) :=
  ⟨⟨({ wit with hbr := { wit.hbr with reads := [(40, some ⟨0, 0x8000000000, false, 0, 128⟩)] } } : Dev), _, _, .a, _, 40, _, 0, _, rfl, rfl, by decide +kernel, rfl, rfl, by decide +kernel, rfl, by decide +kernel⟩,
   ⟨({ wit with hbr := { wit.hbr with reads := [(40, some ⟨0, 0x8000000000, false, 0, 0⟩)] } } : Dev), _, .a, _, 40, _, _, .poisoned, rfl, rfl, by decide +kernel, rfl, rfl, by decide +kernel⟩,
   ⟨(({ wit with hbr := { wit.hbr with reads := [(40, some ⟨0, 0x8000000000, false, 0, 0⟩)] } } : Dev).arm ⟨.cplTmo, 40, 0⟩ 10).arm ⟨.cplTmo, 40, 0⟩ 10, _, .a, _, 10, 40, _, _, rfl, rfl, by decide +kernel, rfl, rfl, by decide +kernel⟩⟩

/-- The hypotheses of `Obligations.HostRingsAct` hold together, clause by clause, in 2 parts. -/
theorem test_witness_HostRingsAct_part1 :
    (∃ (d : Dev) (c : Sys2Proof.Class) (x : HostDesc), x.wf = true ∧ (d.hRuns c = false ∨ d.hPosted c = false ∨ x.own = false ∨ (NMap.get none d.hbr.txBusy c).isSome = true ∨ bitAt (d.pressedAt 57) c = true)) ∧
    (∃ (d : Dev) (c : Sys2Proof.Class) (x : HostDesc), x.wf = true ∧ d.hRuns c = true ∧ d.hPosted c = true ∧ x.own = true ∧ NMap.get none d.hbr.txBusy c = none ∧ bitAt (d.pressedAt 57) c = false ∧ (x.len = 0 ∨ 9216 < x.len)) ∧
    (∃ (d : Dev) (y : Dev) (c : Sys2Proof.Class) (x : HostDesc) (data : List Byte), x.wf = true ∧ d.hRuns c = true ∧ d.hPosted c = true ∧ x.own = true ∧ NMap.get none d.hbr.txBusy c = none ∧ bitAt (d.pressedAt 57) c = false ∧ 1 ≤ x.len ∧ x.len ≤ 9216 ∧ y = (d.ringAdmit 57 c x.direct x.tsEvent x.port x.domain x.cls x.len data).2) ∧
    (∃ (d : Dev) (y : Dev) (z : Dev) (c : Sys2Proof.Class) (x : HostDesc), NMap.get none d.hbr.txBusy c = some x ∧ y = { d with hbr := { d.hbr with txBusy := NMap.set none d.hbr.txBusy c none } } ∧ z = ((((y.emit (.pcieWrite (y.hAddr c) (txDescBytes x 0))).hAdvance c).count (HBR_CNT 0)).add ⟨HBR_CNT 1, 31, 0⟩ x.len) ∧ x.irq = true) ∧
    (∃ (d : Dev) (y : Dev) (z : Dev) (c : Sys2Proof.Class) (x : HostDesc), NMap.get none d.hbr.txBusy c = some x ∧ y = { d with hbr := { d.hbr with txBusy := NMap.set none d.hbr.txBusy c none } } ∧ z = ((((y.emit (.pcieWrite (y.hAddr c) (txDescBytes x 0))).hAdvance c).count (HBR_CNT 0)).add ⟨HBR_CNT 1, 31, 0⟩ x.len) ∧ x.irq = false) ∧
    (∃ (d : Dev) (c : Sys2Proof.Class) (x : HostDesc) (r : Nat), x.wf = true ∧ r = hRing false c ∧ (x.own = false ∨ d.hostTx c = none)) :=
  ⟨⟨wit, 0, ⟨true, false, false, false, 64, 0, 0, 0, 0⟩, by decide +kernel, by decide +kernel⟩,
   ⟨((((witAll.put HBR_STAT_link 1).put HBR_STAT_bme 1).put (HBR_RING_CFG_en 0) 1).put (HBR_RING_TAIL_index 0) 1).put (HBR_RING_CFG_log2 0) 4, 0, ⟨true, false, false, false, 0, 0, 0, 0, 0⟩, by decide +kernel, by decide +kernel, by decide +kernel, by decide +kernel, by decide +kernel, by decide +kernel, by decide +kernel⟩,
   ⟨((((witAll.put HBR_STAT_link 1).put HBR_STAT_bme 1).put (HBR_RING_CFG_en 0) 1).put (HBR_RING_TAIL_index 0) 1).put (HBR_RING_CFG_log2 0) 4, _, 0, ⟨true, false, false, false, 9216, 0, 0, 0, 0⟩, [], by decide +kernel, by decide +kernel, by decide +kernel, by decide +kernel, by decide +kernel, by decide +kernel, by decide +kernel, by decide +kernel, rfl⟩,
   ⟨({ wit with hbr := { wit.hbr with txBusy := [(0, some ⟨true, true, false, false, 64, 0, 0, 0, 0⟩)] } } : Dev), _, _, 0, _, rfl, rfl, rfl, by decide +kernel⟩,
   ⟨({ wit with hbr := { wit.hbr with txBusy := [(0, some ⟨true, false, false, false, 64, 0, 0, 0, 0⟩)] } } : Dev), _, _, 0, _, rfl, rfl, rfl, by decide +kernel⟩,
   ⟨wit, 0, ⟨true, false, false, false, 64, 0, 0, 0, 0⟩, _, by decide +kernel, rfl, by decide +kernel⟩⟩

/-- The same, part 2. -/
theorem test_witness_HostRingsAct_part2 :
    (∃ (d : Dev) (c : Sys2Proof.Class) (x : HostDesc) (t : Tx) (r : Nat), x.wf = true ∧ r = hRing false c ∧ x.own = true ∧ d.hostTx c = some t ∧ d.hostUp = false) ∧
    (∃ (d : Dev) (y : Dev) (c : Sys2Proof.Class) (x : HostDesc) (t : Tx) (f : Frame) (r : Nat) (k : Nat) (st : CplStatus) (bs : List Byte), x.wf = true ∧ r = hRing false c ∧ x.own = true ∧ d.hostTx c = some t ∧ d.hostUp = true ∧ st ≠ .ok ∧ k = (if st = .poisoned then 1 else 3) ∧ y = d.writeFailed 7 (if st = .unsupported then 0xB else 0xC) x.buf ∧ bs = (y.frame t.fid).elim [] (fun f => rxDescBytes f c 0 x.buf x.irq k)) ∧
    (∃ (d : Dev) (y : Dev) (z : Dev) (u : Dev) (c : Sys2Proof.Class) (x : HostDesc) (t : Tx) (f : Frame) (r : Nat), x.wf = true ∧ r = hRing false c ∧ x.own = true ∧ d.hostTx c = some t ∧ d.hostUp = true ∧ y = d.emit (.pcieWrite x.buf t.data) ∧ y.frame t.fid = some f ∧ z = ((y.emit (.pcieWrite (y.hAddr r) (rxDescBytes f c t.data.length x.buf x.irq 0))).hAdvance r).dropTx t ∧ u = ((z.release t.fid).count (HBR_CNT 2)).add ⟨HBR_CNT 3, 31, 0⟩ t.data.length ∧ x.irq = true) ∧
    (∃ (d : Dev) (y : Dev) (z : Dev) (u : Dev) (c : Sys2Proof.Class) (x : HostDesc) (t : Tx) (f : Frame) (r : Nat), x.wf = true ∧ r = hRing false c ∧ x.own = true ∧ d.hostTx c = some t ∧ d.hostUp = true ∧ y = d.emit (.pcieWrite x.buf t.data) ∧ y.frame t.fid = some f ∧ z = ((y.emit (.pcieWrite (y.hAddr r) (rxDescBytes f c t.data.length x.buf x.irq 0))).hAdvance r).dropTx t ∧ u = ((z.release t.fid).count (HBR_CNT 2)).add ⟨HBR_CNT 3, 31, 0⟩ t.data.length ∧ x.irq = false) ∧
    (∃ (d : Dev) (i : Initiator) (c : Sys2Proof.Class) (tx : Bool), d.accepts i = true ∧ d.get (HBR_RING_STAT_cause (hRing tx c)) = 5) ∧
    (∃ (d : Dev) (i : Initiator) (c : Sys2Proof.Class) (tx : Bool), d.accepts i = true ∧ d.get (HBR_RING_STAT_cause (hRing tx c)) ≠ 5) :=
  ⟨⟨({ wit with vlt := { wit.vlt with tx := [{ out := 57, fid := 1, cls := 0, mc := false, pick := 0, ends := 0, data := [] }], frames := [{ id := 1, inPort := 0 }] } } : Dev), 0, ⟨true, true, false, false, 64, 0, 0, 0, 0⟩, _, _, by decide +kernel, rfl, by decide +kernel, rfl, by decide +kernel⟩,
   ⟨(({ wit with vlt := { wit.vlt with tx := [{ out := 57, fid := 1, cls := 0, mc := false, pick := 0, ends := 0, data := [] }], frames := [{ id := 1, inPort := 0 }] } } : Dev).put HBR_STAT_link 1).put HBR_STAT_bme 1, _, 0, ⟨true, true, false, false, 64, 0, 0, 0, 0⟩, _, { id := 1, inPort := 0 }, _, _, .poisoned, _, by decide +kernel, rfl, by decide +kernel, rfl, by decide +kernel, by decide +kernel, rfl, rfl, rfl⟩,
   ⟨(({ wit with vlt := { wit.vlt with tx := [{ out := 57, fid := 1, cls := 0, mc := false, pick := 0, ends := 0, data := [] }], frames := [{ id := 1, inPort := 0 }] } } : Dev).put HBR_STAT_link 1).put HBR_STAT_bme 1, _, _, _, 0, ⟨true, true, false, false, 64, 0, 0, 0, 0⟩, _, _, _, by decide +kernel, rfl, by decide +kernel, rfl, by decide +kernel, rfl, rfl, rfl, rfl, by decide +kernel⟩,
   ⟨(({ wit with vlt := { wit.vlt with tx := [{ out := 57, fid := 1, cls := 0, mc := false, pick := 0, ends := 0, data := [] }], frames := [{ id := 1, inPort := 0 }] } } : Dev).put HBR_STAT_link 1).put HBR_STAT_bme 1, _, _, _, 0, ⟨true, false, false, false, 64, 0, 0, 0, 0⟩, _, _, _, by decide +kernel, rfl, by decide +kernel, rfl, by decide +kernel, rfl, rfl, rfl, rfl, by decide +kernel⟩,
   ⟨wit.put (HBR_RING_STAT_cause (hRing true 0)) 5, .host, 0, true, by decide +kernel, by decide +kernel⟩,
   ⟨wit, .host, 0, true, by decide +kernel, by decide +kernel⟩⟩

/-- The hypotheses of `Obligations.CascadeLinksAct` hold together, clause by clause, in 3 parts. -/
theorem test_witness_CascadeLinksAct_part1 :
    (∃ (d : Dev) (n : VhLink) (grant : List Nat), grant.length = 8 ∧ (d.flag (VHL_STAT_link n) = true ∨ d.flag (VHL_CFG_en n) = false ∨ d.vcRole = 0 ∨ d.up = false ∨ d.flag (PG_STATE_in_reset (pgVHL n)) = true ∨ d.inq n ≠ [] ∨ d.inService (pgVHL n) = false)) ∧
    (∃ (d : Dev) (y : Dev) (z : Dev) (u : Dev) (n : VhLink) (grant : List Nat), grant.length = 8 ∧ d.flag (VHL_STAT_link n) = false ∧ d.flag (VHL_CFG_en n) = true ∧ d.vcRole ≠ 0 ∧ d.up = true ∧ d.flag (PG_STATE_in_reset (pgVHL n)) = false ∧ d.inq n = [] ∧ d.inService (pgVHL n) = true ∧ y = ((d.put (VHL_STAT_link n) 1).put (VHL_STAT_fec n) 1).put (VHL_STAT_state n) (if d.get (PG_STATE_iso (pgVHL n)) = 0 then 2 else 3) ∧ z = y.each (List.range 8) (fun q s => let s := s.put (VHL_CRED_coins n q) (grant.getD q 0); { s with voh := { s.voh with credIn := NMap.set 0 s.voh.credIn (n.val * 8 + q) (s.get (VHL_CRED_INIT_coins n q)), held := NMap.set 0 s.voh.held (n.val * 8 + q) 0, returned := NMap.set 0 s.voh.returned (n.val * 8 + q) 0, peerRet := NMap.set 0 s.voh.peerRet (n.val * 8 + q) 0 } }) ∧ u = (z.raise (pgVHL n) 8).fillChanged n ∧ d.get (PG_STATE_iso (pgVHL n)) ≠ 0) ∧
    (∃ (d : Dev) (y : Dev) (z : Dev) (u : Dev) (n : VhLink) (grant : List Nat), grant.length = 8 ∧ d.flag (VHL_STAT_link n) = false ∧ d.flag (VHL_CFG_en n) = true ∧ d.vcRole ≠ 0 ∧ d.up = true ∧ d.flag (PG_STATE_in_reset (pgVHL n)) = false ∧ d.inq n = [] ∧ d.inService (pgVHL n) = true ∧ y = ((d.put (VHL_STAT_link n) 1).put (VHL_STAT_fec n) 1).put (VHL_STAT_state n) (if d.get (PG_STATE_iso (pgVHL n)) = 0 then 2 else 3) ∧ z = y.each (List.range 8) (fun q s => let s := s.put (VHL_CRED_coins n q) (grant.getD q 0); { s with voh := { s.voh with credIn := NMap.set 0 s.voh.credIn (n.val * 8 + q) (s.get (VHL_CRED_INIT_coins n q)), held := NMap.set 0 s.voh.held (n.val * 8 + q) 0, returned := NMap.set 0 s.voh.returned (n.val * 8 + q) 0, peerRet := NMap.set 0 s.voh.peerRet (n.val * 8 + q) 0 } }) ∧ u = (z.raise (pgVHL n) 8).fillChanged n ∧ d.get (PG_STATE_iso (pgVHL n)) = 0) ∧
    (∃ (d : Dev) (n : VhLink) (ret : List Nat), ret.length = 8 ∧ ret.all (fun t => decide (t < 65536)) = true ∧ d.flag (VHL_STAT_link n) = false) ∧
    (∃ (d : Dev) (n : VhLink) (ret : List Nat), ret.length = 8 ∧ ret.all (fun t => decide (t < 65536)) = true ∧ d.flag (VHL_STAT_link n) = true) ∧
    (∃ (d : Dev) (n : VhLink) (eighth : Nat) (chk : Nat), eighth < 8 ∧ chk < 4294967296 ∧ (d.flag (VHL_STAT_link n) = false ∨ d.inService (pgVHL n) = false)) :=
  ⟨⟨wit.put (VHL_STAT_link 0) 1, 0, [0, 0, 0, 0, 0, 0, 0, 0], by decide +kernel, by decide +kernel⟩,
   ⟨((((((witAll.put (VHL_STAT_link 0) 0).put (VHL_CFG_en 0) 1).put (PG_STATE_in_reset (pgVHL 0)) 0).put (PG_STATE_iso (pgVHL 0)) 1).put (VHL_CFG_en 0) 1).put (VHL_VC_STAT_role 0) 2).put (PG_STATE_iso (pgVHL 0)) 1, _, _, _, 0, [1, 2, 3, 4, 5, 6, 7, 8], by decide +kernel, by decide +kernel, by decide +kernel, by decide +kernel, by decide +kernel, by decide +kernel, by decide +kernel, by decide +kernel, rfl, rfl, rfl, by decide +kernel⟩,
   ⟨(((((witAll.put (VHL_STAT_link 0) 0).put (VHL_CFG_en 0) 1).put (PG_STATE_in_reset (pgVHL 0)) 0).put (PG_STATE_iso (pgVHL 0)) 0).put (VHL_CFG_en 0) 1).put (VHL_VC_STAT_role 0) 2, _, _, _, 0, [1, 2, 3, 4, 5, 6, 7, 8], by decide +kernel, by decide +kernel, by decide +kernel, by decide +kernel, by decide +kernel, by decide +kernel, by decide +kernel, by decide +kernel, rfl, rfl, rfl, by decide +kernel⟩,
   ⟨wit.put (VHL_STAT_link 0) 0, 0, [0, 0, 0, 0, 0, 0, 0, 65535], by decide +kernel, by decide +kernel, by decide +kernel⟩,
   ⟨(wit.put (VHL_STAT_link 0) 1).put (VHL_STAT_link 0) 1, 0, [0, 0, 0, 0, 0, 0, 0, 65535], by decide +kernel, by decide +kernel, by decide +kernel⟩,
   ⟨wit, 0, 0, 0, by decide +kernel, by decide +kernel, by decide +kernel⟩⟩

/-- The same, part 2. -/
theorem test_witness_CascadeLinksAct_part2 :
    (∃ (d : Dev) (y : Dev) (n : VhLink) (tag : BitVec 64) (data : List Byte) (eighth : Nat) (chk : Nat) (p : CwPairs), eighth < 8 ∧ chk < 4294967296 ∧ d.flag (VHL_STAT_link n) = true ∧ d.inService (pgVHL n) = true ∧ y = d.add ⟨VHL_CNT n 4, 31, 0⟩ p.corrected ∧ (chk ≠ cascadeCheck tag.toNat data ∨ 0 < p.lost)) ∧
    (∃ (d : Dev) (y : Dev) (n : VhLink) (tag : BitVec 64) (data : List Byte) (eighth : Nat) (chk : Nat) (p : CwPairs), eighth < 8 ∧ chk < 4294967296 ∧ d.flag (VHL_STAT_link n) = true ∧ d.inService (pgVHL n) = true ∧ y = d.add ⟨VHL_CNT n 4, 31, 0⟩ p.corrected ∧ chk = cascadeCheck tag.toNat data ∧ p.lost = 0 ∧ nb tag.toNat 3 0 = 2) ∧
    (∃ (d : Dev) (y : Dev) (n : VhLink) (tag : BitVec 64) (data : List Byte) (eighth : Nat) (chk : Nat) (p : CwPairs), eighth < 8 ∧ chk < 4294967296 ∧ d.flag (VHL_STAT_link n) = true ∧ d.inService (pgVHL n) = true ∧ y = d.add ⟨VHL_CNT n 4, 31, 0⟩ p.corrected ∧ chk = cascadeCheck tag.toNat data ∧ p.lost = 0 ∧ nb tag.toNat 3 0 ≠ 1 ∧ nb tag.toNat 3 0 ≠ 2) ∧
    (∃ (d : Dev) (y : Dev) (n : VhLink) (tag : BitVec 64) (data : List Byte) (eighth : Nat) (chk : Nat) (p : CwPairs), eighth < 8 ∧ chk < 4294967296 ∧ d.flag (VHL_STAT_link n) = true ∧ d.inService (pgVHL n) = true ∧ y = d.add ⟨VHL_CNT n 4, 31, 0⟩ p.corrected ∧ chk = cascadeCheck tag.toNat data ∧ p.lost = 0 ∧ nb tag.toNat 3 0 = 1 ∧ (y.get (PG_STATE_iso (pgVHL n)) ≠ 0 ∨ y.flag SYS_DEVID_valid = false)) ∧
    (∃ (d : Dev) (y : Dev) (n : VhLink) (tag : BitVec 64) (data : List Byte) (eighth : Nat) (chk : Nat) (p : CwPairs), eighth < 8 ∧ chk < 4294967296 ∧ d.flag (VHL_STAT_link n) = true ∧ d.inService (pgVHL n) = true ∧ y = d.add ⟨VHL_CNT n 4, 31, 0⟩ p.corrected ∧ chk = cascadeCheck tag.toNat data ∧ p.lost = 0 ∧ nb tag.toNat 3 0 = 1 ∧ y.get (PG_STATE_iso (pgVHL n)) = 0 ∧ y.flag SYS_DEVID_valid = true) ∧
    (∃ (d : Dev) (y : Dev) (dev : Nat) (e : Nat), dev < 1024 ∧ d.due ⟨.pathRevert, dev, 0⟩ = some e ∧ y = (d.at_ e).cancel ⟨.pathRevert, dev, 0⟩ ∧ y.linkUsable (nb (y.path dev) 2 0) = true) :=
  ⟨⟨witAll.put (VHL_STAT_link 0) 1, _, 0, 0, [], 0, 0, ⟨0, 0⟩, by decide +kernel, by decide +kernel, by decide +kernel, by decide +kernel, rfl, by decide +kernel⟩,
   ⟨(witAll.put (VHL_STAT_link 0) 1).put (VHL_STAT_link 0) 1, _, 0, 2, [], 7, _, ⟨0, 0⟩, by decide +kernel, by decide +kernel, by decide +kernel, by decide +kernel, rfl, rfl, by decide +kernel, by decide +kernel⟩,
   ⟨witAll.put (VHL_STAT_link 0) 1, _, 0, 0, [], 0, _, ⟨0, 0⟩, by decide +kernel, by decide +kernel, by decide +kernel, by decide +kernel, rfl, rfl, by decide +kernel, by decide +kernel, by decide +kernel⟩,
   ⟨(witAll.put (VHL_STAT_link 0) 1).put (VHL_STAT_link 0) 1, _, 0, 1, [], 7, _, ⟨0, 0⟩, by decide +kernel, by decide +kernel, by decide +kernel, by decide +kernel, rfl, rfl, by decide +kernel, by decide +kernel, by decide +kernel⟩,
   ⟨((((witAll.put (VHL_STAT_link 0) 1).put (PG_STATE_iso (pgVHL 0)) 0).put SYS_DEVID_valid 1).put (VHL_STAT_link 0) 1).put SYS_DEVID_valid 1, _, 0, 1, [], 7, _, ⟨0, 0⟩, by decide +kernel, by decide +kernel, by decide +kernel, by decide +kernel, rfl, rfl, by decide +kernel, by decide +kernel, by decide +kernel, by decide +kernel⟩,
   ⟨((wit.arm ⟨.pathRevert, 1023, 0⟩ 10).put (VHL_STAT_link 0) 1).arm ⟨.pathRevert, 1023, 0⟩ 10, _, 1023, 10, by decide +kernel, by decide +kernel, rfl, by decide +kernel⟩⟩

/-- The same, part 3. -/
theorem test_witness_CascadeLinksAct_part3 :
    (∃ (d : Dev) (y : Dev) (dev : Nat) (e : Nat), dev < 1024 ∧ d.due ⟨.pathRevert, dev, 0⟩ = some e ∧ y = (d.at_ e).cancel ⟨.pathRevert, dev, 0⟩ ∧ y.linkUsable (nb (y.path dev) 2 0) = false) ∧
    (∃ (d : Dev) (i : Initiator), d.accepts i = true ∧ d.flag (VHL_PATH_STAT_busy 0) = true ∧ d.locked (pgVHL 0) = false) ∧
    (∃ (d : Dev) (y : Dev) (i : Initiator) (e : Nat) (k : Nat) (b : Bool), d.accepts i = true ∧ d.flag (VHL_PATH_STAT_busy 0) = false ∧ y = d.put (VHL_PATH_STAT_err 0) 0 ∧ k = y.get (VHL_PATH_SEL_dev 0) ∧ e = (if (b && y.voh.pathsD.contains k) = true then NMap.get 0 y.voh.pathsS k else y.path k)) ∧
    (∃ (d : Dev) (y : Dev) (z : Dev) (i : Initiator) (k : Nat), d.accepts i = true ∧ d.flag (VHL_PATH_STAT_busy 0) = false ∧ y = d.put (VHL_PATH_STAT_err 0) 0 ∧ k = y.get (VHL_PATH_SEL_dev 0) ∧ d.locked (pgVHL 0) = false ∧ z = { y with voh := { y.voh with pathsS := NMap.set 0 y.voh.pathsS k (nset (y.rd (VHL_PATH_DATA 0)).toNat 18 18 0), pathsD := y.voh.pathsD.filter (· != k) ++ [k] } }) ∧
    (∃ (d : Dev) (i : Initiator), d.accepts i = true ∧ d.locked (pgVHL 0) = true) :=
  ⟨⟨wit.arm ⟨.pathRevert, 0, 0⟩ 10, _, 0, 10, by decide +kernel, by decide +kernel, rfl, by decide +kernel⟩,
   ⟨wit.put (VHL_PATH_STAT_busy 0) 1, .host, by decide +kernel, by decide +kernel, by decide +kernel⟩,
   ⟨wit.put (VHL_PATH_STAT_busy 0) 0, _, .host, _, _, true, by decide +kernel, by decide +kernel, rfl, rfl, rfl⟩,
   ⟨wit.put (VHL_PATH_STAT_busy 0) 0, _, _, .host, _, by decide +kernel, by decide +kernel, rfl, rfl, by decide +kernel, rfl⟩,
   ⟨wit.modPg (pgVHL 0) (fun s => { s with lockKey := 1 }), .host, by decide +kernel, by decide +kernel⟩⟩

/-- The hypotheses of `Obligations.CascadeMembersAct` hold together, clause by clause, in 4 parts. -/
theorem test_witness_CascadeMembersAct_part1 :
    (∃ (d : Dev) (y : Dev) (z : Dev) (w : Dev) (e : Nat), d.due ⟨.hello, 0, 0⟩ = some e ∧ z = (d.at_ e).cancel ⟨.hello, 0, 0⟩ ∧ y = z.armIn ⟨.hello, 0, 0⟩ (usT (z.get (VHL_VC_CFG_hello_us 0))) ∧ w = (if y.flag (VHL_VC_STAT_is_master 0) = true then { y with voh := { y.voh with seq := y.voh.seq + 1 } } else y)) ∧
    (∃ (d : Dev) (c : LinkCode) (h : Hello), h.wf = true ∧ (d.cascades = false ∨ d.linkUp c = false)) ∧
    (∃ (d : Dev) (y : Dev) (z : Dev) (w : Dev) (c : LinkCode) (h : Hello), h.wf = true ∧ d.cascades = true ∧ d.linkUp c = true ∧ y = { d with voh := { d.voh with nbr := NMap.set none d.voh.nbr c (some h), mgenMax := max d.voh.mgenMax (if h.master = true then h.mgen else 0) } } ∧ z = (if h.devV = true then (y.setPeer c h).idClash h.dev h.uid else y.setPeer c h) ∧ w = (if h.master = true then z.idClash h.mid h.muid else z)) ∧
    (∃ (d : Dev) (y : Dev) (e : Nat), d.due ⟨.mloss, 0, 0⟩ = some e ∧ y = (d.at_ e).cancel ⟨.mloss, 0, 0⟩ ∧ y.cascades = false) ∧
    (∃ (d : Dev) (y : Dev) (z : Dev) (e : Nat), d.due ⟨.mloss, 0, 0⟩ = some e ∧ y = (d.at_ e).cancel ⟨.mloss, 0, 0⟩ ∧ y.cascades = true ∧ y.flag (VHL_VC_STAT_master_v 0) = true ∧ z = { y with voh := { y.voh with dropped := some (y.rd64 (VHL_MASTER_UID_LO 0) (VHL_MASTER_UID_HI 0), y.voh.seq) } }) ∧
    (∃ (d : Dev) (y : Dev) (e : Nat), d.due ⟨.mloss, 0, 0⟩ = some e ∧ y = (d.at_ e).cancel ⟨.mloss, 0, 0⟩ ∧ y.cascades = true ∧ y.flag (VHL_VC_STAT_master_v 0) = false ∧ y.vcRole = 2) :=
  ⟨⟨wit.arm ⟨.hello, 0, 0⟩ 10, _, _, _, 10, by decide +kernel, rfl, rfl, rfl⟩,
   ⟨wit, 0, ⟨0, 0, 0, false, false, 0, 0, 0, 0, 0, 0⟩, by decide +kernel, by decide +kernel⟩,
   ⟨(wit.put (VHL_VC_STAT_role 0) 2).put (VHL_STAT_link 0) 1, _, _, _, 0, ⟨0, 0, 0, false, false, 0, 0, 0, 0, 0, 0⟩, by decide +kernel, by decide +kernel, by decide +kernel, rfl, rfl, rfl⟩,
   ⟨wit.arm ⟨.mloss, 0, 0⟩ 10, _, 10, by decide +kernel, rfl, by decide +kernel⟩,
   ⟨((((wit.arm ⟨.mloss, 0, 0⟩ 10).put (VHL_VC_STAT_master_v 0) 1).put (VHL_VC_STAT_role 0) 2).put (VHL_VC_STAT_master_v 0) 1).arm ⟨.mloss, 0, 0⟩ 10, _, _, 10, by decide +kernel, rfl, by decide +kernel, by decide +kernel, rfl⟩,
   ⟨(((wit.arm ⟨.mloss, 0, 0⟩ 10).put (VHL_VC_STAT_master_v 0) 0).put (VHL_VC_STAT_role 0) 2).arm ⟨.mloss, 0, 0⟩ 10, _, 10, by decide +kernel, rfl, by decide +kernel, by decide +kernel, by decide +kernel⟩⟩

/-- The same, part 2. -/
theorem test_witness_CascadeMembersAct_part2 :
    (∃ (d : Dev) (y : Dev) (e : Nat), d.due ⟨.mloss, 0, 0⟩ = some e ∧ y = (d.at_ e).cancel ⟨.mloss, 0, 0⟩ ∧ y.cascades = true ∧ y.flag (VHL_VC_STAT_master_v 0) = false ∧ y.vcRole ≠ 2) ∧
    (∃ (d : Dev) (c : LinkCode) (want : Nat), want < 1024 ∧ (d.cascades = false ∨ d.linkUp c = false)) ∧
    (∃ (d : Dev) (y : Dev) (c : LinkCode) (uid : Word64) (want : Nat) (k : Nat), want < 1024 ∧ d.cascades = true ∧ d.linkUp c = true ∧ d.flag (VHL_VC_STAT_is_master 0) = true ∧ d.grantId uid.toNat want = (some k, y)) ∧
    (∃ (d : Dev) (y : Dev) (c : LinkCode) (uid : Word64) (want : Nat), want < 1024 ∧ d.cascades = true ∧ d.linkUp c = true ∧ d.flag (VHL_VC_STAT_is_master 0) = true ∧ d.grantId uid.toNat want = (none, y)) ∧
    (∃ (d : Dev) (c : LinkCode) (want : Nat), want < 1024 ∧ d.cascades = true ∧ d.linkUp c = true ∧ d.flag (VHL_VC_STAT_is_master 0) = false ∧ d.upstream = none) ∧
    (∃ (d : Dev) (y : Dev) (c : LinkCode) (uid : Word64) (want : Nat) (k : Nat), want < 1024 ∧ d.cascades = true ∧ d.linkUp c = true ∧ d.flag (VHL_VC_STAT_is_master 0) = false ∧ d.upstream = some k ∧ y = { d with voh := { d.voh with relays := d.voh.relays.filter (fun (r : Nat × Nat) => r.1 != uid.toNat) ++ [(uid.toNat, c.val)] } }) :=
  ⟨⟨(((wit.arm ⟨.mloss, 0, 0⟩ 10).put (VHL_VC_STAT_master_v 0) 0).put (VHL_VC_STAT_role 0) 1).arm ⟨.mloss, 0, 0⟩ 10, _, 10, by decide +kernel, rfl, by decide +kernel, by decide +kernel, by decide +kernel⟩,
   ⟨wit, 0, 0, by decide +kernel, by decide +kernel⟩,
   ⟨(((wit.put (VHL_VC_STAT_is_master 0) 1).put (VHL_VC_STAT_role 0) 2).put (VHL_STAT_link 0) 1).put (VHL_VC_STAT_is_master 0) 1, _, 0, 5, 5, _, by decide +kernel, by decide +kernel, by decide +kernel, by decide +kernel, rfl⟩,
   ⟨witFull, witFull, 0, 5, 5, by decide +kernel, by decide +kernel, by decide +kernel, by decide +kernel, witFull_grants_none⟩,
   ⟨((wit.put (VHL_VC_STAT_is_master 0) 0).put (VHL_VC_STAT_role 0) 2).put (VHL_STAT_link 0) 1, 0, 1023, by decide +kernel, by decide +kernel, by decide +kernel, by decide +kernel, by decide +kernel⟩,
   ⟨(((wit.put (VHL_VC_STAT_is_master 0) 0).put (VHL_VC_STAT_role 0) 2).put (VHL_STAT_link 0) 1).put (VHL_STAT_upstream 3) 1, _, 0, 0, 1023, _, by decide +kernel, by decide +kernel, by decide +kernel, by decide +kernel, rfl, rfl⟩⟩

/-- The same, part 3. -/
theorem test_witness_CascadeMembersAct_part3 :
    (∃ (d : Dev) (dev : Nat), dev < 1024 ∧ d.cascades = false) ∧
    (∃ (d : Dev) (uid : Word64) (dev : Nat), dev < 1024 ∧ d.cascades = true ∧ uid.toNat = d.uid ∧ d.flag SYS_DEVID_valid = false ∧ d.fixedId = false) ∧
    (∃ (d : Dev) (uid : Word64) (dev : Nat), dev < 1024 ∧ d.cascades = true ∧ uid.toNat = d.uid ∧ (d.flag SYS_DEVID_valid = true ∨ d.fixedId = true)) ∧
    (∃ (d : Dev) (y : Dev) (uid : Word64) (dev : Nat) (k : Nat) (n : Nat), dev < 1024 ∧ d.cascades = true ∧ uid.toNat ≠ d.uid ∧ y = { d with voh := { d.voh with granted := d.voh.granted.filter (fun (r : Nat × Nat) => r.1 != uid.toNat) ++ [(uid.toNat, dev)] } } ∧ d.voh.relays.find? (fun r => r.1 == uid.toNat) = some (n, k)) ∧
    (∃ (d : Dev) (y : Dev) (uid : Word64) (dev : Nat), dev < 1024 ∧ d.cascades = true ∧ uid.toNat ≠ d.uid ∧ y = { d with voh := { d.voh with granted := d.voh.granted.filter (fun (r : Nat × Nat) => r.1 != uid.toNat) ++ [(uid.toNat, dev)] } } ∧ d.voh.relays.find? (fun r => r.1 == uid.toNat) = none) ∧
    (∃ (d : Dev) (y : Dev) (z : Dev) (uid : Word64) (e : Nat), d.due ⟨.idRelay, uid.toNat, 0⟩ = some e ∧ y = (d.at_ e).cancel ⟨.idRelay, uid.toNat, 0⟩ ∧ z = { y with voh := { y.voh with relays := y.voh.relays.filter (fun (r : Nat × Nat) => r.1 != uid.toNat) } }) :=
  ⟨⟨wit, 0, by decide +kernel, by decide +kernel⟩,
   ⟨(wit.put SYS_DEVID_valid 0).put (VHL_VC_STAT_role 0) 2, (BitVec.ofNat 64 wit.uid), 1023, by decide +kernel, by decide +kernel, by decide +kernel, by decide +kernel, by decide +kernel⟩,
   ⟨(wit.put (VHL_VC_STAT_role 0) 2).put SYS_DEVID_valid 1, (BitVec.ofNat 64 wit.uid), 1023, by decide +kernel, by decide +kernel, by decide +kernel, by decide +kernel⟩,
   ⟨({ wit with voh := { wit.voh with relays := [(5, 0)] } } : Dev).put (VHL_VC_STAT_role 0) 2, _, 5, 1023, _, _, by decide +kernel, by decide +kernel, by decide +kernel, rfl, rfl⟩,
   ⟨wit.put (VHL_VC_STAT_role 0) 2, _, 5, 1023, by decide +kernel, by decide +kernel, by decide +kernel, rfl, by decide +kernel⟩,
   ⟨wit.arm ⟨.idRelay, 5, 0⟩ 10, _, _, 5, 10, by decide +kernel, rfl, rfl⟩⟩

/-- The same, part 4. -/
theorem test_witness_CascadeMembersAct_part4 :
    (∃ (d : Dev) (y : Dev) (z : Dev) (e : Nat) (k : Nat), d.due ⟨.timeSync, 0, 0⟩ = some e ∧ z = (d.at_ e).cancel ⟨.timeSync, 0, 0⟩ ∧ y = z.armIn ⟨.timeSync, 0, 0⟩ (usT (z.get (VHL_VC_TMR_sync_us 0))) ∧ y.upstream = some k) ∧
    (∃ (d : Dev) (y : Dev) (z : Dev) (e : Nat), d.due ⟨.timeSync, 0, 0⟩ = some e ∧ z = (d.at_ e).cancel ⟨.timeSync, 0, 0⟩ ∧ y = z.armIn ⟨.timeSync, 0, 0⟩ (usT (z.get (VHL_VC_TMR_sync_us 0))) ∧ y.upstream = none) ∧
    (∃ (d : Dev), (d.upstream = none ∨ d.cascades = false)) ∧
    (∃ (d : Dev) (y : Dev) (k : Nat) (t1 : Int) (t2 : Int) (t3 : Int) (t4 : Int) (asym : Int) (delay : Int) (err : Int), d.upstream = some k ∧ d.cascades = true ∧ asym = ofPs (signed 32 (if k < 4 then d.get (VHL_ASYM_ps k) else d.get (VHL_VOX_ASYM_ps 0 (k - 4)))) ∧ delay = ((t4 - t1) - (t3 - t2)).tdiv 2 ∧ err = ((t2 - t1) - (t4 - t3)).tdiv 2 - asym ∧ y = (if k < 4 then (d.put (VHL_DELAY_ps k) (unsigned 32 (toPs delay))).put (VHL_LAST_E_ps k) (unsigned 32 (sat32 (toPs err))) else d.put (VHL_VOX_DELAY_ps 0 (k - 4)) (unsigned 32 (toPs delay))) ∧ y.get TIM_SRC_src ≠ 2) ∧
    (∃ (d : Dev) (y : Dev) (k : Nat) (t1 : Int) (t2 : Int) (t3 : Int) (t4 : Int) (asym : Int) (delay : Int) (err : Int), d.upstream = some k ∧ d.cascades = true ∧ asym = ofPs (signed 32 (if k < 4 then d.get (VHL_ASYM_ps k) else d.get (VHL_VOX_ASYM_ps 0 (k - 4)))) ∧ delay = ((t4 - t1) - (t3 - t2)).tdiv 2 ∧ err = ((t2 - t1) - (t4 - t3)).tdiv 2 - asym ∧ y = (if k < 4 then (d.put (VHL_DELAY_ps k) (unsigned 32 (toPs delay))).put (VHL_LAST_E_ps k) (unsigned 32 (sat32 (toPs err))) else d.put (VHL_VOX_DELAY_ps 0 (k - 4)) (unsigned 32 (toPs delay))) ∧ y.get TIM_SRC_src = 2 ∧ y.tim.sample.isSome = true) ∧
    (∃ (d : Dev) (y : Dev) (k : Nat) (t1 : Int) (t2 : Int) (t3 : Int) (t4 : Int) (asym : Int) (delay : Int) (err : Int), d.upstream = some k ∧ d.cascades = true ∧ asym = ofPs (signed 32 (if k < 4 then d.get (VHL_ASYM_ps k) else d.get (VHL_VOX_ASYM_ps 0 (k - 4)))) ∧ delay = ((t4 - t1) - (t3 - t2)).tdiv 2 ∧ err = ((t2 - t1) - (t4 - t3)).tdiv 2 - asym ∧ y = (if k < 4 then (d.put (VHL_DELAY_ps k) (unsigned 32 (toPs delay))).put (VHL_LAST_E_ps k) (unsigned 32 (sat32 (toPs err))) else d.put (VHL_VOX_DELAY_ps 0 (k - 4)) (unsigned 32 (toPs delay))) ∧ y.get TIM_SRC_src = 2 ∧ y.tim.sample = none) :=
  ⟨⟨((wit.arm ⟨.timeSync, 0, 0⟩ 10).put (VHL_STAT_upstream 3) 1).arm ⟨.timeSync, 0, 0⟩ 10, _, _, 10, _, by decide +kernel, rfl, rfl, rfl⟩,
   ⟨wit.arm ⟨.timeSync, 0, 0⟩ 10, _, _, 10, by decide +kernel, rfl, rfl, by decide +kernel⟩,
   ⟨wit, by decide +kernel⟩,
   ⟨(wit.put (VHL_VC_STAT_role 0) 2).put (VHL_STAT_upstream 0) 1, _, _, 0, 0, 0, 0, _, _, _, rfl, by decide +kernel, rfl, rfl, rfl, rfl, by decide +kernel⟩,
   ⟨(((({ wit with tim := { wit.tim with sample := some ⟨0, 0, 0, 0, false⟩ } } : Dev).put TIM_SRC_src 2).put (VHL_VC_STAT_role 0) 2).put (VHL_STAT_upstream 0) 1).put TIM_SRC_src 2, _, _, 0, 0, 0, 0, _, _, _, rfl, by decide +kernel, rfl, rfl, rfl, rfl, by decide +kernel, by decide +kernel⟩,
   ⟨(((({ wit with tim := { wit.tim with sample := none } } : Dev).put TIM_SRC_src 2).put (VHL_VC_STAT_role 0) 2).put (VHL_STAT_upstream 0) 1).put TIM_SRC_src 2, _, _, 0, 0, 0, 0, _, _, _, rfl, by decide +kernel, rfl, rfl, rfl, rfl, by decide +kernel, by decide +kernel⟩⟩

/-- The hypotheses of `Obligations.CascadeCommitsAct` hold together, clause by clause, in 3 parts. -/
theorem test_witness_CascadeCommitsAct_part1 :
    (∃ (d : Dev) (v : Vote) (key : CommitKey), key.wf = true ∧ v.wf = true ∧ d.cascades = false) ∧
    (∃ (d : Dev) (v : Vote) (key : CommitKey), key.wf = true ∧ v.wf = true ∧ d.cascades = true ∧ d.decides = true) ∧
    (∃ (d : Dev) (y : Dev) (v : Vote) (key : CommitKey) (c : Nat), key.wf = true ∧ v.wf = true ∧ d.cascades = true ∧ d.decides = false ∧ d.toMaster = (some c, y)) ∧
    (∃ (d : Dev) (y : Dev) (v : Vote) (key : CommitKey), key.wf = true ∧ v.wf = true ∧ d.cascades = true ∧ d.decides = false ∧ d.toMaster = (none, y)) ∧
    (∃ (d : Dev) (x : Decide) (key : CommitKey), key.wf = true ∧ x.wf = true ∧ (d.cascades = false ∨ d.voh.seen.contains (x.src, x.seq) = true)) ∧
    (∃ (d : Dev) (y : Dev) (x : Decide) (key : CommitKey), key.wf = true ∧ x.wf = true ∧ d.cascades = true ∧ d.voh.seen.contains (x.src, x.seq) = false ∧ y = { d with voh := { d.voh with seen := d.voh.seen ++ [(x.src, x.seq)] } }) :=
  ⟨⟨wit, ⟨⟨100, 1⟩, 0, 0, 1⟩, ⟨100, 1⟩, by decide +kernel, by decide +kernel, by decide +kernel⟩,
   ⟨(wit.put (VHL_VC_STAT_role 0) 2).put (VHL_VC_STAT_is_master 0) 1, ⟨⟨100, 1⟩, 0, 0, 1⟩, ⟨100, 1⟩, by decide +kernel, by decide +kernel, by decide +kernel, by decide +kernel⟩,
   ⟨((wit.put (VHL_VC_STAT_role 0) 1).put (VHL_VC_STAT_master_v 0) 1).put (VHL_STAT_upstream 3) 1, _, ⟨⟨100, 1⟩, 0, 0, 1⟩, ⟨100, 1⟩, _, by decide +kernel, by decide +kernel, by decide +kernel, by decide +kernel, rfl⟩,
   ⟨wit.put (VHL_VC_STAT_role 0) 1, _, ⟨⟨100, 1⟩, 0, 0, 1⟩, ⟨100, 1⟩, by decide +kernel, by decide +kernel, by decide +kernel, by decide +kernel, rfl⟩,
   ⟨wit, ⟨⟨100, 1⟩, true, 0, 0, 0⟩, ⟨100, 1⟩, by decide +kernel, by decide +kernel, by decide +kernel⟩,
   ⟨wit.put (VHL_VC_STAT_role 0) 2, _, ⟨⟨100, 1⟩, true, 0, 0, 0⟩, ⟨100, 1⟩, by decide +kernel, by decide +kernel, by decide +kernel, by decide +kernel, rfl⟩⟩

/-- The same, part 2. -/
theorem test_witness_CascadeCommitsAct_part2 :
    (∃ (d : Dev) (key : CommitKey), key.wf = true ∧ d.cascades = true ∧ d.voh.keys.any (fun o => decide (o.key = key) && o.decided.isNone) = true) ∧
    (∃ (d : Dev) (key : CommitKey), key.wf = true ∧ (d.cascades = false ∨ d.voh.keys.any (fun o => decide (o.key = key) && o.decided.isNone) = false)) ∧
    (∃ (d : Dev) (y : Dev) (z : Dev) (key : CommitKey) (e : Nat) (l : List OpenKey), key.wf = true ∧ d.due ⟨.decideResend, 0, 0⟩ = some e ∧ y = (d.at_ e).cancel ⟨.decideResend, 0, 0⟩ ∧ l = y.voh.keys.filter (fun o => o.decided.isNone || decide (y.ns + y.guardNs < o.key.t)) ∧ z = ({ y with voh := { y.voh with keys := l } } : Dev).each l (fun o t => o.decided.elim t (fun b => t.broadcast (fun src q => .decide { key := o.key, commit := b, src := src, seq := q, link := 0 }))) ∧ l.any (fun o => o.decided.isSome) = true) ∧
    (∃ (d : Dev) (y : Dev) (z : Dev) (key : CommitKey) (e : Nat) (l : List OpenKey), key.wf = true ∧ d.due ⟨.decideResend, 0, 0⟩ = some e ∧ y = (d.at_ e).cancel ⟨.decideResend, 0, 0⟩ ∧ l = y.voh.keys.filter (fun o => o.decided.isNone || decide (y.ns + y.guardNs < o.key.t)) ∧ z = ({ y with voh := { y.voh with keys := l } } : Dev).each l (fun o t => o.decided.elim t (fun b => t.broadcast (fun src q => .decide { key := o.key, commit := b, src := src, seq := q, link := 0 }))) ∧ l.any (fun o => o.decided.isSome) = false) ∧
    (∃ (d : Dev) (y : Dev) (key : CommitKey), key.wf = true ∧ (d.waitingFor key).isEmpty = false ∧ y = d.atNs (key.t - d.guardNs)) ∧
    (∃ (d : Dev) (key : CommitKey), key.wf = true ∧ (d.waitingFor key).isEmpty = true) :=
  ⟨⟨({ wit with voh := { wit.voh with keys := [⟨⟨100, 1⟩, 1, [], none⟩] } } : Dev).put (VHL_VC_STAT_role 0) 2, ⟨100, 1⟩, by decide +kernel, by decide +kernel, by decide +kernel⟩,
   ⟨wit, ⟨100, 1⟩, by decide +kernel, by decide +kernel⟩,
   ⟨(({ wit with voh := { wit.voh with keys := [⟨⟨10 ^ 18, 1⟩, 1, [], some true⟩] } } : Dev).arm ⟨.decideResend, 0, 0⟩ 10).arm ⟨.decideResend, 0, 0⟩ 10, _, _, ⟨100, 1⟩, 10, _, by decide +kernel, by decide +kernel, rfl, rfl, rfl, by decide +kernel⟩,
   ⟨wit.arm ⟨.decideResend, 0, 0⟩ 10, _, _, ⟨100, 1⟩, 10, _, by decide +kernel, by decide +kernel, rfl, rfl, rfl, by decide +kernel⟩,
   ⟨({ wit with pgs := [(pgETH 0, { phase := .prepared })] } : Dev), _, ⟨0, 256 + pgETH 0⟩, by decide +kernel, by decide +kernel, rfl⟩,
   ⟨wit, ⟨100, 1⟩, by decide +kernel, by decide +kernel⟩⟩

/-- The same, part 3. -/
theorem test_witness_CascadeCommitsAct_part3 :
    (∃ (d : Dev) (key : CommitKey), key.wf = true ∧ (d.decidedFor key).isEmpty = true) ∧
    (∃ (d : Dev) (key : CommitKey), key.wf = true ∧ (d.decidedFor key).isEmpty = false ∧ d.turn (d.commitTurn key.t) = true) :=
  ⟨⟨wit, ⟨100, 1⟩, by decide +kernel, by decide +kernel⟩,
   ⟨({ witAll with pgs := [(pgETH 0, { phase := .prepared, decided := true })] } : Dev), ⟨0, 256 + pgETH 0⟩, by decide +kernel, by decide +kernel, by decide +kernel⟩⟩

/-- The hypotheses of `Obligations.BanksAct` hold together, clause by clause, in 5 parts. -/
theorem test_witness_BanksAct_part1 :
    (∃ (d : Dev) (bank : Bool) (b : Nat) (e : Nat), b = (if bank = true then 1 else 0) ∧ d.due ⟨.bankWrite, 0, 0⟩ = some e) ∧
    (∃ (d : Dev) (bank : Bool) (b : Nat), b = (if bank = true then 1 else 0) ∧ d.running ⟨.bankWrite, 0, 0⟩ = false) ∧
    (∃ (d : Dev) (i : Initiator) (bank : Bool) (b : Nat), b = (if bank = true then 1 else 0) ∧ d.accepts i = true ∧ d.updBusy = true) ∧
    (∃ (d : Dev) (i : Initiator) (bank : Bool) (b : Nat) (n : Nat), b = (if bank = true then 1 else 0) ∧ d.accepts i = true ∧ d.updBusy = false ∧ n = d.get UPD_W_LEN_bytes ∧ b = d.get UPD_BANK_run) ∧
    (∃ (d : Dev) (i : Initiator) (bank : Bool) (b : Nat) (n : Nat), b = (if bank = true then 1 else 0) ∧ d.accepts i = true ∧ d.updBusy = false ∧ n = d.get UPD_W_LEN_bytes ∧ b ≠ d.get UPD_BANK_run ∧ d.ownerLocked = true) ∧
    (∃ (d : Dev) (i : Initiator) (bank : Bool) (b : Nat) (n : Nat), b = (if bank = true then 1 else 0) ∧ d.accepts i = true ∧ d.updBusy = false ∧ n = d.get UPD_W_LEN_bytes ∧ b ≠ d.get UPD_BANK_run ∧ d.ownerLocked = false ∧ bankRange (d.get UPD_W_DST_offset) n = false) :=
  ⟨⟨wit.arm ⟨.bankWrite, 0, 0⟩ 10, true, _, 10, rfl, by decide +kernel⟩,
   ⟨wit, true, _, rfl, by decide +kernel⟩,
   ⟨wit.put UPD_STAT_busy 1, .host, false, _, rfl, by decide +kernel, by decide +kernel⟩,
   ⟨wit, .host, false, _, _, rfl, by decide +kernel, by decide +kernel, rfl, by decide +kernel⟩,
   ⟨(wit.put UPD_OLOCK_locked 1).put UPD_OLOCK_unlocked 0, .host, true, _, _, rfl, by decide +kernel, by decide +kernel, rfl, by decide +kernel, by decide +kernel⟩,
   ⟨wit.put UPD_W_LEN_bytes 4, .host, true, _, _, rfl, by decide +kernel, by decide +kernel, rfl, by decide +kernel, by decide +kernel, by decide +kernel⟩⟩

/-- The same, part 2. -/
theorem test_witness_BanksAct_part2 :
    (∃ (d : Dev) (y : Dev) (i : Initiator) (bank : Bool) (b : Nat) (n : Nat), b = (if bank = true then 1 else 0) ∧ d.accepts i = true ∧ d.updBusy = false ∧ n = d.get UPD_W_LEN_bytes ∧ b ≠ d.get UPD_BANK_run ∧ d.ownerLocked = false ∧ bankRange (d.get UPD_W_DST_offset) n = true ∧ y = { d with upd := { d.upd with bank := b, src := sourceAddr i (d.rd64 UPD_W_SRC_LO UPD_W_SRC_HI % 2 ^ 40), dst := d.get UPD_W_DST_offset, len := n } }) ∧
    (∃ (d : Dev) (i : Initiator) (bank : Bool) (b : Nat), b = (if bank = true then 1 else 0) ∧ d.accepts i = true ∧ (d.updBusy = true ∨ d.sigBusy = true)) ∧
    (∃ (d : Dev) (i : Initiator) (bank : Bool) (b : Nat), b = (if bank = true then 1 else 0) ∧ d.accepts i = true ∧ d.updBusy = false ∧ d.sigBusy = false ∧ b = d.get UPD_BANK_run) ∧
    (∃ (d : Dev) (y : Dev) (i : Initiator) (bank : Bool) (b : Nat), b = (if bank = true then 1 else 0) ∧ d.accepts i = true ∧ d.updBusy = false ∧ d.sigBusy = false ∧ b ≠ d.get UPD_BANK_run ∧ y = { d with upd := { d.upd with bank := b } }) ∧
    (∃ (d : Dev) (y : Dev) (i : Initiator) (bank : Bool) (b : Nat), b = (if bank = true then 1 else 0) ∧ d.accepts i = true ∧ y = (d.put UPD_OLOCK_locked 1).put UPD_OLOCK_unlocked 0) ∧
    (∃ (d : Dev) (i : Initiator) (bank : Bool) (b : Nat), b = (if bank = true then 1 else 0) ∧ d.accepts i = true ∧ d.flag UPD_OLOCK_unlocked = true) :=
  ⟨⟨wit, _, .host, true, _, _, rfl, by decide +kernel, by decide +kernel, rfl, by decide +kernel, by decide +kernel, by decide +kernel, rfl⟩,
   ⟨wit.put UPD_STAT_busy 1, .host, false, _, rfl, by decide +kernel, by decide +kernel⟩,
   ⟨wit, .host, false, _, rfl, by decide +kernel, by decide +kernel, by decide +kernel, by decide +kernel⟩,
   ⟨wit, _, .host, true, _, rfl, by decide +kernel, by decide +kernel, by decide +kernel, by decide +kernel, rfl⟩,
   ⟨wit, _, .host, true, _, rfl, by decide +kernel, rfl⟩,
   ⟨wit.put UPD_OLOCK_unlocked 1, .host, true, _, rfl, by decide +kernel, by decide +kernel⟩⟩

/-- The same, part 3. -/
theorem test_witness_BanksAct_part3 :
    (∃ (d : Dev) (i : Initiator) (bank : Bool) (b : Nat), b = (if bank = true then 1 else 0) ∧ d.accepts i = true ∧ d.flag UPD_OLOCK_unlocked = false) ∧
    (∃ (d : Dev) (i : Initiator) (bank : Bool) (b : Nat), b = (if bank = true then 1 else 0) ∧ d.accepts i = true ∧ d.sigBusy = true) ∧
    (∃ (d : Dev) (y : Dev) (i : Initiator) (bank : Bool) (b : Nat), b = (if bank = true then 1 else 0) ∧ d.accepts i = true ∧ d.sigBusy = false ∧ d.unlockGood = true ∧ y = d.put UPD_OLOCK_unlocked 1) ∧
    (∃ (d : Dev) (i : Initiator) (bank : Bool) (b : Nat), b = (if bank = true then 1 else 0) ∧ d.accepts i = true ∧ d.sigBusy = false ∧ d.unlockGood = false) ∧
    (∃ (d : Dev) (z : Dev) (w : Dev) (i : Initiator) (bank : Bool) (motion : Bool) (b : Nat) (k : Nat) (mv : Nat) (group : Nat), b = (if bank = true then 1 else 0) ∧ d.accepts i = true ∧ group < 256 ∧ w = (if d.locked pgUPD = true then d.lockViol pgUPD i 0x170 (2 ^ 8 + group % 8) else d) ∧ k = (if d.locked pgUPD = true then w.get UPD_PART_group else group) ∧ z = (w.seeGuards motion mv).put UPD_PART_group k ∧ z.upd.partPort.isSome = true) ∧
    (∃ (d : Dev) (z : Dev) (w : Dev) (i : Initiator) (bank : Bool) (motion : Bool) (b : Nat) (k : Nat) (mv : Nat) (group : Nat), b = (if bank = true then 1 else 0) ∧ d.accepts i = true ∧ group < 256 ∧ w = (if d.locked pgUPD = true then d.lockViol pgUPD i 0x170 (2 ^ 8 + group % 8) else d) ∧ k = (if d.locked pgUPD = true then w.get UPD_PART_group else group) ∧ z = (w.seeGuards motion mv).put UPD_PART_group k ∧ z.upd.partPort = none ∧ 4 < k) :=
  ⟨⟨wit.put UPD_OLOCK_unlocked 0, .host, true, _, rfl, by decide +kernel, by decide +kernel⟩,
   ⟨({ wit with key := { wit.key with sig := some ⟨false, false, 0, none, 0, [], [], [], []⟩ } } : Dev), .host, false, _, rfl, by decide +kernel, by decide +kernel⟩,
   ⟨({ wit with key := { wit.key with anchors := [(0, { valid := true, purpose := 1, digest := sha true (beBytes 64 (0x4db7ec22fb2dbedcd0f000feb71476c17e9f15bf9fee26213f4a13e4db333235 * 2 ^ 256 + 0x16db88594456d2ae6a3757613b58a04bdd9a6650a73dcfe2175d64c3c5ced654)) })] } } : Dev).each ([(SIG_Q 0, 0x4db7ec22), (SIG_Q 1, 0xfb2dbedc), (SIG_Q 2, 0xd0f000fe), (SIG_Q 3, 0xb71476c1), (SIG_Q 4, 0x7e9f15bf), (SIG_Q 5, 0x9fee2621), (SIG_Q 6, 0x3f4a13e4), (SIG_Q 7, 0xdb333235), (SIG_Q 12, 0x16db8859), (SIG_Q 13, 0x4456d2ae), (SIG_Q 14, 0x6a375761), (SIG_Q 15, 0x3b58a04b), (SIG_Q 16, 0xdd9a6650), (SIG_Q 17, 0xa73dcfe2), (SIG_Q 18, 0x175d64c3), (SIG_Q 19, 0xc5ced654), (SIG_SG 0, 0xbf1eda06), (SIG_SG 1, 0xa011fc5d), (SIG_SG 2, 0x8ced54a8), (SIG_SG 3, 0x7e3756cf), (SIG_SG 4, 0x7558a6d4), (SIG_SG 5, 0xee15e388), (SIG_SG 6, 0x478236d9), (SIG_SG 7, 0xbc0d5e9e), (SIG_SG 12, 0x3fb4f357), (SIG_SG 13, 0x8ab0a974), (SIG_SG 14, 0x844f1c38), (SIG_SG 15, 0x2a127245), (SIG_SG 16, 0x271d8cf1), (SIG_SG 17, 0xa4b1f682), (SIG_SG 18, 0xc280bcf3), (SIG_SG 19, 0x3eaf1f8a)] : List (Nat × Word)) (fun e t => t.wr e.1 e.2), _, .host, false, _, rfl, by decide +kernel, by decide +kernel, by decide +kernel, rfl⟩,
   ⟨wit, .host, true, _, rfl, by decide +kernel, by decide +kernel, by decide +kernel⟩,
   ⟨({ wit with upd := { wit.upd with partPort := some 0 } } : Dev), _, _, .host, false, false, _, _, 50000, 1, rfl, by decide +kernel, by decide +kernel, rfl, rfl, rfl, by decide +kernel⟩,
   ⟨({ wit with upd := { wit.upd with partPort := none } } : Dev), _, _, .host, false, false, _, _, 50000, 7, rfl, by decide +kernel, by decide +kernel, rfl, rfl, rfl, by decide +kernel, by decide +kernel⟩⟩

/-- The same, part 4. -/
theorem test_witness_BanksAct_part4 :
    (∃ (d : Dev) (z : Dev) (w : Dev) (i : Initiator) (bank : Bool) (motion : Bool) (b : Nat) (k : Nat) (mv : Nat) (group : Nat) (r : Nat), b = (if bank = true then 1 else 0) ∧ d.accepts i = true ∧ group < 256 ∧ w = (if d.locked pgUPD = true then d.lockViol pgUPD i 0x170 (2 ^ 8 + group % 8) else d) ∧ k = (if d.locked pgUPD = true then w.get UPD_PART_group else group) ∧ z = (w.seeGuards motion mv).put UPD_PART_group k ∧ z.upd.partPort = none ∧ k ≤ 4 ∧ z.guardReason = some r) ∧
    (∃ (d : Dev) (y : Dev) (z : Dev) (w : Dev) (i : Initiator) (bank : Bool) (motion : Bool) (b : Nat) (k : Nat) (mv : Nat) (group : Nat), b = (if bank = true then 1 else 0) ∧ d.accepts i = true ∧ group < 256 ∧ w = (if d.locked pgUPD = true then d.lockViol pgUPD i 0x170 (2 ^ 8 + group % 8) else d) ∧ k = (if d.locked pgUPD = true then w.get UPD_PART_group else group) ∧ z = (w.seeGuards motion mv).put UPD_PART_group k ∧ z.upd.partPort = none ∧ k ≤ 4 ∧ z.guardReason = none ∧ y = { z with upd := { z.upd with partGroup := k } }) ∧
    (∃ (d : Dev) (y : Dev) (z : Dev) (bank : Bool) (b : Nat) (e : Nat) (img : BankImage) (res : VerifyResult), b = (if bank = true then 1 else 0) ∧ img.wf = true ∧ d.due ⟨.bankVerify, 0, 0⟩ = some e ∧ y = d.cancel ⟨.bankVerify, 0, 0⟩ ∧ z = y.updIdle ∧ (res = (if imageWellMade img = false ∨ y.imageSigned img = false then .badImage else if y.get SYS_SYS_ID_die < img.hwMin then .incompatible else if img.blocks.any (fun b => decide (sha false b.data ≠ b.digest)) = true then .blockCheck else .pass)) ∧ res ≠ .pass) ∧
    (∃ (d : Dev) (y : Dev) (z : Dev) (w : Dev) (bank : Bool) (b : Nat) (e : Nat) (img : BankImage) (res : VerifyResult), b = (if bank = true then 1 else 0) ∧ img.wf = true ∧ d.due ⟨.bankVerify, 0, 0⟩ = some e ∧ y = d.cancel ⟨.bankVerify, 0, 0⟩ ∧ z = y.updIdle ∧ (res = (if imageWellMade img = false ∨ y.imageSigned img = false then .badImage else if y.get SYS_SYS_ID_die < img.hwMin then .incompatible else if img.blocks.any (fun b => decide (sha false b.data ≠ b.digest)) = true then .blockCheck else .pass)) ∧ res = .pass ∧ w = (z.setVerified y.upd.bank true).wr (if y.upd.bank = 0 then UPD_VER_A else UPD_VER_B) (BitVec.ofNat 32 img.version) ∧ y.upd.bank = 0) ∧
    (∃ (d : Dev) (y : Dev) (z : Dev) (w : Dev) (bank : Bool) (b : Nat) (e : Nat) (img : BankImage) (res : VerifyResult), b = (if bank = true then 1 else 0) ∧ img.wf = true ∧ d.due ⟨.bankVerify, 0, 0⟩ = some e ∧ y = d.cancel ⟨.bankVerify, 0, 0⟩ ∧ z = y.updIdle ∧ (res = (if imageWellMade img = false ∨ y.imageSigned img = false then .badImage else if y.get SYS_SYS_ID_die < img.hwMin then .incompatible else if img.blocks.any (fun b => decide (sha false b.data ≠ b.digest)) = true then .blockCheck else .pass)) ∧ res = .pass ∧ w = (z.setVerified y.upd.bank true).wr (if y.upd.bank = 0 then UPD_VER_A else UPD_VER_B) (BitVec.ofNat 32 img.version) ∧ y.upd.bank ≠ 0) ∧
    (∃ (d : Dev) (bank : Bool) (b : Nat) (p : EthPort), b = (if bank = true then 1 else 0) ∧ d.upd.partPort = some p.val ∧ d.flag (ETH_STAT_link p) = true ∧ d.codeLoading p = false) :=
  ⟨⟨(({ wit with upd := { wit.upd with partPort := none } } : Dev).put UPD_OLOCK_locked 1).put UPD_OLOCK_unlocked 0, _, _, .host, false, false, _, _, 50000, 1, _, rfl, by decide +kernel, by decide +kernel, rfl, rfl, rfl, by decide +kernel, by decide +kernel, rfl⟩,
   ⟨({ wit with upd := { wit.upd with partPort := none } } : Dev), _, _, _, .host, true, true, _, _, 0, 0, rfl, by decide +kernel, by decide +kernel, rfl, rfl, rfl, by decide +kernel, by decide +kernel, by decide +kernel, rfl⟩,
   ⟨(wit.arm ⟨.bankVerify, 0, 0⟩ 10).arm ⟨.bankVerify, 0, 0⟩ 10, _, _, false, _, 10, ⟨0x47423936, 0, 0, 0, 0, 0, 0, 0, 0, 0, 0, true, [], true⟩, .badImage, rfl, by decide +kernel, by decide +kernel, rfl, rfl, by decide +kernel, by decide +kernel⟩,
   ⟨(({ wit with upd := { wit.upd with bank := 0 } } : Dev).arm ⟨.bankVerify, 0, 0⟩ 10).arm ⟨.bankVerify, 0, 0⟩ 10, _, _, _, false, _, 10, goodImage, _, rfl, by decide +kernel, by decide +kernel, rfl, rfl, by decide +kernel, rfl, rfl, by decide +kernel⟩,
   ⟨(({ wit with upd := { wit.upd with bank := 1 } } : Dev).arm ⟨.bankVerify, 0, 0⟩ 10).arm ⟨.bankVerify, 0, 0⟩ 10, _, _, _, false, _, 10, goodImage, _, rfl, by decide +kernel, by decide +kernel, rfl, rfl, by decide +kernel, rfl, rfl, by decide +kernel⟩,
   ⟨(({ wit with upd := { wit.upd with partPort := some 55 } } : Dev).put (ETH_STAT_link 55) 1).put (ETH_STAT_link 55) 1, false, _, 55, rfl, by decide +kernel, by decide +kernel, by decide +kernel⟩⟩

/-- The same, part 5. -/
theorem test_witness_BanksAct_part5 :
    (∃ (d : Dev) (bank : Bool) (b : Nat) (e : Nat) (p : EthPort), b = (if bank = true then 1 else 0) ∧ d.upd.partPort = some p.val ∧ d.flag (ETH_STAT_link p) = false ∧ d.due ⟨.phyCodeTimeout, p, 0⟩ = some e) ∧
    (∃ (d : Dev) (bank : Bool) (b : Nat) (p : EthPort), b = (if bank = true then 1 else 0) ∧ (d.upd.partPort ≠ some p.val ∨ d.flag (ETH_STAT_link p) = false ∨ d.codeLoading p = true)) ∧
    (∃ (d : Dev) (bank : Bool) (b : Nat) (p : EthPort), b = (if bank = true then 1 else 0) ∧ (d.upd.partPort ≠ some p.val ∨ d.flag (ETH_STAT_link p) = true)) :=
  ⟨⟨((({ wit with upd := { wit.upd with partPort := some 0 } } : Dev).put (ETH_STAT_link 0) 0).arm ⟨.phyCodeTimeout, 0, 0⟩ 10).arm ⟨.phyCodeTimeout, 0, 0⟩ 10, false, _, 10, 0, rfl, by decide +kernel, by decide +kernel, by decide +kernel⟩,
   ⟨wit, true, _, 0, rfl, by decide +kernel⟩,
   ⟨wit, true, _, 0, rfl, by decide +kernel⟩⟩

/-- The hypotheses of `Obligations.ActivationAct` hold together, clause by clause, in 6 parts. -/
theorem test_witness_ActivationAct_part1 :
    (∃ (d : Dev) (z : Dev) (i : Initiator) (motion : Bool) (mv : Nat), d.accepts i = true ∧ z = d.seeGuards motion mv ∧ z.pw.base = .start ∧ z.pw.halted = false) ∧
    (∃ (d : Dev) (z : Dev) (i : Initiator) (motion : Bool) (mv : Nat) (r : Nat), d.accepts i = true ∧ z = d.seeGuards motion mv ∧ (z.pw.base ≠ .start ∨ z.pw.halted = true) ∧ z.activation true = .error r) ∧
    (∃ (d : Dev) (z : Dev) (u : Dev) (x : Dev) (y : Dev) (i : Initiator) (motion : Bool) (mv : Nat) (sb : Nat) (hd : ImageHeader), d.accepts i = true ∧ z = d.seeGuards motion mv ∧ (z.pw.base ≠ .start ∨ z.pw.halted = true) ∧ z.activation true = .ok hd ∧ z.standby = some sb ∧ u = z.resetBrace sb 3 ∧ x = { u with pw := { u.pw with updating := true }, upd := { u.upd with hdr := some hd, target := some (braceOf sb) } } ∧ y = (x.put UPD_STAT_state 3).syncMode ∧ y.flag (BRC_ROLE_failed sb) = true) ∧
    (∃ (d : Dev) (z : Dev) (u : Dev) (x : Dev) (y : Dev) (i : Initiator) (motion : Bool) (mv : Nat) (sb : Nat) (hd : ImageHeader), d.accepts i = true ∧ z = d.seeGuards motion mv ∧ (z.pw.base ≠ .start ∨ z.pw.halted = true) ∧ z.activation true = .ok hd ∧ z.standby = some sb ∧ u = z.resetBrace sb 3 ∧ x = { u with pw := { u.pw with updating := true }, upd := { u.upd with hdr := some hd, target := some (braceOf sb) } } ∧ y = (x.put UPD_STAT_state 3).syncMode ∧ y.flag (BRC_ROLE_failed sb) = false) ∧
    (∃ (d : Dev) (z : Dev) (i : Initiator) (motion : Bool) (mv : Nat) (r : Nat), d.accepts i = true ∧ z = d.seeGuards motion mv ∧ (z.pw.base ≠ .start ∨ z.pw.halted = true) ∧ z.activation false = .error r) ∧
    (∃ (d : Dev) (z : Dev) (i : Initiator) (motion : Bool) (mv : Nat) (hd : ImageHeader), d.accepts i = true ∧ z = d.seeGuards motion mv ∧ (z.pw.base ≠ .start ∨ z.pw.halted = true) ∧ z.activation false = .ok hd ∧ z.running ⟨.optionWrite, 0, 0⟩ = true) :=
  ⟨⟨({ wit with pw := { wit.pw with base := .start } } : Dev), _, .host, true, 0, by decide +kernel, rfl, by decide +kernel, by decide +kernel⟩,
   ⟨wit, _, .host, true, 0, _, by decide +kernel, rfl, by decide +kernel, rfl⟩,
   ⟨(((({ wit with mram := { wit.mram with headerB := some ⟨1, 0, 0, 0, 0, 0, none⟩ } } : Dev).put UPD_BANK_verified 3).put (BRC_ROLE_role 0) 1).put (BRC_ROLE_role 1) 2).put (BRC_ROLE_failed 1) 1, _, _, _, _, .host, false, 50000, _, _, by decide +kernel, rfl, by decide +kernel, rfl, rfl, rfl, rfl, rfl, by decide +kernel⟩,
   ⟨(((({ wit with mram := { wit.mram with headerB := some ⟨1, 0, 0, 0, 0, 0, none⟩ } } : Dev).put UPD_BANK_verified 3).put (BRC_ROLE_role 0) 1).put (BRC_ROLE_role 1) 2).put (BRC_ROLE_failed 1) 0, _, _, _, _, .host, false, 50000, _, _, by decide +kernel, rfl, by decide +kernel, rfl, rfl, rfl, rfl, rfl, by decide +kernel⟩,
   ⟨wit, _, .host, true, 0, _, by decide +kernel, rfl, by decide +kernel, rfl⟩,
   ⟨((((({ wit with mram := { wit.mram with headerB := some ⟨1, 0, 0, 0, 0, 0, none⟩ } } : Dev).arm ⟨.optionWrite, 0, 0⟩ 10).put UPD_BANK_verified 3).put (BRC_ROLE_role 0) 1).put (BRC_ROLE_role 1) 2).arm ⟨.optionWrite, 0, 0⟩ 10, _, .host, false, 50000, _, by decide +kernel, rfl, by decide +kernel, rfl, by decide +kernel⟩⟩

/-- The same, part 2. -/
theorem test_witness_ActivationAct_part2 :
    (∃ (d : Dev) (z : Dev) (y : Dev) (i : Initiator) (motion : Bool) (mv : Nat) (hd : ImageHeader), d.accepts i = true ∧ z = d.seeGuards motion mv ∧ (z.pw.base ≠ .start ∨ z.pw.halted = true) ∧ z.activation false = .ok hd ∧ z.running ⟨.optionWrite, 0, 0⟩ = false ∧ y = z.put UPD_STAT_state 7) ∧
    (∃ (d : Dev), d.upd.target = none) ∧
    (∃ (d : Dev) (y : Dev) (dest : Nat) (n : Nat) (e : Nat) (br : Brace) (code : List Byte) (digest : List Byte) (hd : ImageHeader), d.upd.target = some br ∧ d.due ⟨.prepareCopy, 0, 0⟩ = some e ∧ y = d.cancel ⟨.prepareCopy, 0, 0⟩ ∧ y.upd.hdr = some hd ∧ hd.code = some (dest, n, digest) ∧ (code.length ≠ n ∨ sha false code ≠ digest)) ∧
    (∃ (d : Dev) (z : Dev) (u : Dev) (x : Dev) (y : Dev) (dest : Nat) (n : Nat) (e : Nat) (br : Brace) (code : List Byte) (digest : List Byte) (hd : ImageHeader), d.upd.target = some br ∧ d.due ⟨.prepareCopy, 0, 0⟩ = some e ∧ y = d.cancel ⟨.prepareCopy, 0, 0⟩ ∧ y.upd.hdr = some hd ∧ hd.code = some (dest, n, digest) ∧ code.length = n ∧ sha false code = digest ∧ z = Dev.wrBytes (tcmAddr (brIx br) dest) (code.take (0x80000 - dest % 0x80000)) y ∧ u = { z with brc := { z.brc with copied := z.brc.copied.filter (· != brIx br) ++ [brIx br] } } ∧ x = u.wdgStart (brIx br)) ∧
    (∃ (d : Dev) (y : Dev) (e : Nat) (br : Brace), d.upd.target = some br ∧ d.due ⟨.prepareCopy, 0, 0⟩ = some e ∧ y = d.cancel ⟨.prepareCopy, 0, 0⟩ ∧ y.upd.hdr.bind (fun h => h.code) = none) ∧
    (∃ (d : Dev) (e : Nat), d.due ⟨.standby, 0, 0⟩ = some e) :=
  ⟨⟨((({ wit with mram := { wit.mram with headerB := some ⟨1, 0, 0, 0, 0, 0, none⟩ } } : Dev).put UPD_BANK_verified 3).put (BRC_ROLE_role 0) 1).put (BRC_ROLE_role 1) 2, _, _, .host, false, 50000, _, by decide +kernel, rfl, by decide +kernel, rfl, by decide +kernel, rfl⟩,
   ⟨({ wit with upd := { wit.upd with target := none } } : Dev), by decide +kernel⟩,
   ⟨(({ wit with upd := { wit.upd with target := some .b, hdr := some ⟨1, 0, 0, 0, 0, 0, some (0, 0, sha false [])⟩ } } : Dev).arm ⟨.prepareCopy, 0, 0⟩ 10).arm ⟨.prepareCopy, 0, 0⟩ 10, _, _, _, 10, .b, [1], _, _, by decide +kernel, by decide +kernel, rfl, rfl, rfl, by decide +kernel⟩,
   ⟨(({ wit with upd := { wit.upd with target := some .b, hdr := some ⟨1, 0, 0, 0, 0, 0, some (0, 0, sha false [])⟩ } } : Dev).arm ⟨.prepareCopy, 0, 0⟩ 10).arm ⟨.prepareCopy, 0, 0⟩ 10, _, _, _, _, _, _, 10, .b, [], _, _, by decide +kernel, by decide +kernel, rfl, rfl, rfl, by decide +kernel, by decide +kernel, rfl, rfl, rfl⟩,
   ⟨(({ wit with upd := { wit.upd with target := some .b } } : Dev).arm ⟨.prepareCopy, 0, 0⟩ 10).arm ⟨.prepareCopy, 0, 0⟩ 10, _, 10, .b, by decide +kernel, by decide +kernel, rfl, by decide +kernel⟩,
   ⟨wit.arm ⟨.standby, 0, 0⟩ 10, 10, by decide +kernel⟩⟩

/-- The same, part 3. -/
theorem test_witness_ActivationAct_part3 :
    (∃ (d : Dev) (i : Initiator), d.accepts i = true ∧ d.get UPD_STAT_state = 1) ∧
    (∃ (d : Dev) (i : Initiator), d.accepts i = true ∧ d.get UPD_STAT_state = 2) ∧
    (∃ (d : Dev) (i : Initiator), d.accepts i = true ∧ d.get UPD_STAT_state ≠ 1 ∧ d.get UPD_STAT_state ≠ 2 ∧ d.activating = true ∧ d.handoverDue = false) ∧
    (∃ (d : Dev) (i : Initiator), d.accepts i = true ∧ d.get UPD_STAT_state ≠ 1 ∧ d.get UPD_STAT_state ≠ 2 ∧ (d.activating = false ∨ d.handoverDue = true)) ∧
    (∃ (d : Dev) (i : Initiator) (w : Word) (cmd : Instr), d.accepts i = true ∧ w.getLsbD 31 = true ∧ (cmd = .handoverSlotArm i w ∨ cmd = .slotArm i .handover w) ∧ d.locked pgUPD = true) ∧
    (∃ (d : Dev) (i : Initiator) (w : Word) (cmd : Instr), d.accepts i = true ∧ w.getLsbD 31 = true ∧ (cmd = .handoverSlotArm i w ∨ cmd = .slotArm i .handover w) ∧ d.locked pgUPD = false ∧ (d.get UPD_STAT_state ≠ 4 ∨ ctlAction w ≠ 0x0B)) :=
  ⟨⟨wit.put UPD_STAT_state 1, .host, by decide +kernel, by decide +kernel⟩,
   ⟨wit.put UPD_STAT_state 2, .host, by decide +kernel, by decide +kernel⟩,
   ⟨wit.put UPD_STAT_state 3, .host, by decide +kernel, by decide +kernel, by decide +kernel, by decide +kernel, by decide +kernel⟩,
   ⟨wit, .host, by decide +kernel, by decide +kernel, by decide +kernel, by decide +kernel⟩,
   ⟨wit.modPg pgUPD (fun s => { s with lockKey := 1 }), .host, 0x8000000B, (.handoverSlotArm .host 0x8000000B), by decide +kernel, by decide +kernel, by decide +kernel, by decide +kernel⟩,
   ⟨wit, .host, 0x8000000B, (.handoverSlotArm .host 0x8000000B), by decide +kernel, by decide +kernel, by decide +kernel, by decide +kernel, by decide +kernel⟩⟩

/-- The same, part 4. -/
theorem test_witness_ActivationAct_part4 :
    (∃ (d : Dev) (i : Initiator) (r : Nat) (w : Word) (cmd : Instr), d.accepts i = true ∧ w.getLsbD 31 = true ∧ (cmd = .handoverSlotArm i w ∨ cmd = .slotArm i .handover w) ∧ d.locked pgUPD = false ∧ d.get UPD_STAT_state = 4 ∧ ctlAction w = 0x0B ∧ d.guardReason = some r) ∧
    (∃ (d : Dev) (y : Dev) (i : Initiator) (w : Word) (cmd : Instr), d.accepts i = true ∧ w.getLsbD 31 = true ∧ (cmd = .handoverSlotArm i w ∨ cmd = .slotArm i .handover w) ∧ d.locked pgUPD = false ∧ d.get UPD_STAT_state = 4 ∧ ctlAction w = 0x0B ∧ d.guardReason = none ∧ y = d.armSlot i .handover w ∧ y.armed .handover = true) ∧
    (∃ (d : Dev) (y : Dev) (i : Initiator) (w : Word) (cmd : Instr), d.accepts i = true ∧ w.getLsbD 31 = true ∧ (cmd = .handoverSlotArm i w ∨ cmd = .slotArm i .handover w) ∧ d.locked pgUPD = false ∧ d.get UPD_STAT_state = 4 ∧ ctlAction w = 0x0B ∧ d.guardReason = none ∧ y = d.armSlot i .handover w ∧ y.armed .handover = false) ∧
    (∃ (d : Dev) (i : Initiator) (w : Word), d.accepts i = true ∧ (w ≠ 0xC0F10960 ∨ iniBrace i = none ∨ d.get UPD_STAT_state ≠ 6)) ∧
    (∃ (d : Dev) (i : Initiator), d.accepts i = true ∧ (iniBrace i).isSome = true ∧ d.get UPD_STAT_state = 6 ∧ d.running ⟨.optionWrite, 0, 0⟩ = true) ∧
    (∃ (d : Dev) (i : Initiator), d.accepts i = true ∧ (iniBrace i).isSome = true ∧ d.get UPD_STAT_state = 6 ∧ d.running ⟨.optionWrite, 0, 0⟩ = false) :=
  ⟨⟨(((wit.put UPD_STAT_state 4).put UPD_STAT_state 4).put UPD_OLOCK_locked 1).put UPD_OLOCK_unlocked 0, .host, _, 0x8000000B, (.handoverSlotArm .host 0x8000000B), by decide +kernel, by decide +kernel, by decide +kernel, by decide +kernel, by decide +kernel, by decide +kernel, rfl⟩,
   ⟨(wit.put UPD_STAT_state 4).put UPD_STAT_state 4, _, .host, 0x8000000B, (.handoverSlotArm .host 0x8000000B), by decide +kernel, by decide +kernel, by decide +kernel, by decide +kernel, by decide +kernel, by decide +kernel, by decide +kernel, rfl, by decide +kernel⟩,
   ⟨(wit.put UPD_STAT_state 4).put UPD_STAT_state 4, _, .host, 0xC000000B, (.handoverSlotArm .host 0xC000000B), by decide +kernel, by decide +kernel, by decide +kernel, by decide +kernel, by decide +kernel, by decide +kernel, by decide +kernel, rfl, by decide +kernel⟩,
   ⟨wit, .host, 0, by decide +kernel, by decide +kernel⟩,
   ⟨((wit.put (BRC_ROLE_role 0) 1).put UPD_STAT_state 6).arm ⟨.optionWrite, 0, 0⟩ 10, .braceA, by decide +kernel, by decide +kernel, by decide +kernel, by decide +kernel⟩,
   ⟨(wit.put (BRC_ROLE_role 0) 1).put UPD_STAT_state 6, .braceA, by decide +kernel, by decide +kernel, by decide +kernel, by decide +kernel⟩⟩

/-- The same, part 5. -/
theorem test_witness_ActivationAct_part5 :
    (∃ (d : Dev) (y : Dev) (e : Nat) (k : Nat), d.due ⟨.confirm, 0, 0⟩ = some e ∧ y = (d.at_ e).cancel ⟨.confirm, 0, 0⟩ ∧ y.due ⟨.optionWrite, 0, 0⟩ = some k ∧ y.upd.optWrite = 1) ∧
    (∃ (d : Dev) (y : Dev) (e : Nat), d.due ⟨.confirm, 0, 0⟩ = some e ∧ y = (d.at_ e).cancel ⟨.confirm, 0, 0⟩ ∧ (y.due ⟨.optionWrite, 0, 0⟩ = none ∨ y.upd.optWrite ≠ 1)) ∧
    (∃ (d : Dev), (d.upd.target = none ∨ d.get UPD_STAT_state ≠ 5)) ∧
    (∃ (d : Dev) (r : Nat) (br : Brace), d.upd.target = some br ∧ d.get UPD_STAT_state = 5 ∧ d.handoverDue = false ∧ d.guardReason = some r) ∧
    (∃ (d : Dev) (z : Dev) (u : Dev) (x : Dev) (y : Dev) (br : Brace) (fin : Dev → Dev), d.upd.target = some br ∧ d.get UPD_STAT_state = 5 ∧ (d.handoverDue = true ∨ d.guardReason = none) ∧ d.armed .handover = true ∧ d.pw.halted = false ∧ ctlAction (d.slot .handover).ctl = 0x0B ∧ d.turn (d.turnAt .handover (d.slot .handover).time) = true ∧ u = (d.lateTick .handover).elim (d.atNs (d.slot .handover).time) (fun t => d.atTick t) ∧ fin = (fun t => if (d.lateTick .handover).isSome then (t.complete .handover true).countLate .handover else t.complete .handover false) ∧ z = u.handover (1 - brIx br) (brIx br) 5 ∧ x = { z with upd := { z.upd with target := none } } ∧ y = x.upd.hdr.elim x (fun h => x.wr UPD_RUN_VER (BitVec.ofNat 32 h.version))) ∧
    (∃ (d : Dev), d.up = false) :=
  ⟨⟨(({ wit with upd := { wit.upd with optWrite := 1 } } : Dev).arm ⟨.confirm, 0, 0⟩ 10).arm ⟨.optionWrite, 0, 0⟩ 10, _, 10, _, by decide +kernel, rfl, rfl, by decide +kernel⟩,
   ⟨wit.arm ⟨.confirm, 0, 0⟩ 10, _, 10, by decide +kernel, rfl, by decide +kernel⟩,
   ⟨wit, by decide +kernel⟩,
   ⟨(((({ wit with upd := { wit.upd with target := some .b } } : Dev).put UPD_STAT_state 5).put UPD_STAT_state 5).put UPD_OLOCK_locked 1).put UPD_OLOCK_unlocked 0, _, .b, by decide +kernel, by decide +kernel, by decide +kernel, rfl⟩,
   ⟨((({ wit with upd := { wit.upd with target := some .b } } : Dev).put UPD_STAT_state 5).put UPD_STAT_state 5).setSlot .handover { time := 1000, ctl := 0x8000000B }, _, _, _, _, .b, _, by decide +kernel, by decide +kernel, by decide +kernel, by decide +kernel, by decide +kernel, by decide +kernel, by decide +kernel, rfl, rfl, rfl, rfl, rfl⟩,
   ⟨({ wit with pw := { wit.pw with main := false } } : Dev), by decide +kernel⟩⟩

/-- The same, part 6. -/
theorem test_witness_ActivationAct_part6 :
    (∃ (d : Dev) (y : Dev), d.up = true ∧ (y = (if (d.opt 8 % 4 = 1 ∨ d.opt 8 % 4 = 3) ∧ d.moving = false then d.put PWR_STAT_motion (d.opt 8 / 4 % 2) else d))) ∧
    (∃ (d : Dev), d.up = true ∧ d.opt 9 = 0) ∧
    (∃ (d : Dev) (y : Dev), d.up = true ∧ d.opt 9 ≠ 0 ∧ y = { d with upd := { d.upd with supplyLow := true } }) :=
  ⟨⟨wit, _, by decide +kernel, rfl⟩,
   ⟨wit, by decide +kernel, by decide +kernel⟩,
   ⟨wit.wr (OPT_IMG 2) 0x00000100, _, by decide +kernel, by decide +kernel, rfl⟩⟩

/-- The hypotheses of `Obligations.ResetStateHolds` hold together, clause by clause. -/
theorem test_witness_ResetStateHolds :
    (∃ (pg : _), (pg ∈ [1, 2, 4, 5])) ∧
    (∃ (pg : _), (pg ∈ allPages) ∧ pg ∉ [1, 2, 4, 5]) ∧
    (∃ (m : _), m < 8) :=
  ⟨⟨1, by decide +kernel⟩,
   ⟨0, by decide +kernel, by decide +kernel⟩,
   ⟨0, by decide +kernel⟩⟩

/-- The hypotheses of `Obligations.FactoryOptionImageHolds` hold together, clause by clause. -/
theorem test_witness_FactoryOptionImageHolds :
    (∃ (b : _), (b ∈ [3, 4, 5, 6, 7, 8, 9])) ∧
    (∃ (b : _), b < 24 ∧ 16 ≤ b) ∧
    (∃ (b : _), b < 60 ∧ b ∉ [0, 1, 2, 10, 12, 14, 24, 25, 26, 27, 28]) :=
  ⟨⟨3, by decide +kernel⟩,
   ⟨16, by decide +kernel, by decide +kernel⟩,
   ⟨59, by decide +kernel, by decide +kernel⟩⟩

/-- The hypotheses of `Obligations.TimestampItemIsLaidOut` hold together, clause by clause. -/
theorem test_witness_TimestampItemIsLaidOut :
    (∃ (d : Dev) (bs : List Byte) (a : Nat) (s : Nat), ptpAt bs = some a ∧ s < 4 ∧ d.flag (TIM_DOM_CFG_en s) = true ∧ d.get (TIM_DOM_CFG_number s) = be bs (a + 4) 1 ∧ (∀ k, k < s → d.flag (TIM_DOM_CFG_en k) = false ∨ d.get (TIM_DOM_CFG_number k) ≠ be bs (a + 4) 1)) ∧
    (∃ (d : Dev) (bs : List Byte) (a : Nat), ptpAt bs = some a ∧ (∀ k, k < 4 → d.flag (TIM_DOM_CFG_en k) = false ∨ d.get (TIM_DOM_CFG_number k) ≠ be bs (a + 4) 1)) ∧
    (∃ (d : Dev) (i : Initiator) (p : EthPort), d.accepts i = true ∧ d.tsqItems p = []) :=
  ⟨⟨(wit.put (TIM_DOM_CFG_en 0) 1).put (TIM_DOM_CFG_en 0) 1, (List.replicate 12 0 ++ [0x88, 0xF7] ++ List.replicate 34 0), _, 0, rfl, by decide +kernel, by decide +kernel, by decide +kernel, by decide +kernel⟩,
   ⟨(((wit.put (TIM_DOM_CFG_en 0) 0).put (TIM_DOM_CFG_en 1) 0).put (TIM_DOM_CFG_en 2) 0).put (TIM_DOM_CFG_en 3) 0, (List.replicate 12 0 ++ [0x88, 0xF7] ++ List.replicate 34 0), _, rfl, by decide +kernel⟩,
   ⟨wit, .host, 0, by decide +kernel, by decide +kernel⟩⟩

/-- The hypotheses of `Obligations.StepKeepsCanonicalForm` hold together, clause by clause. -/
theorem test_witness_StepKeepsCanonicalForm :
    ∃ (s : State) (t : State), step s = .next t ∧ s.dev.canonical = true :=
  ⟨State.reset, _, rfl, by decide +kernel⟩

end Sys2Proof.Machine
end

section
/-!
PROOF. The register accesses of chapter 0: what the bus carries of an admitted initiator's write or read, when an access
finds nothing to answer it, and what a shadow write leaves.
-/

namespace Sys2Proof.Machine

variable {d : Dev} {i : Initiator} {pg off addr : Nat} {v : Word}

/-! ### The commands apply their operations -/

/-- An offset in a page lies below the next page (R32). -/
theorem isOffset_lt (h : isOffset off = true) : off < 0x1000 := by
  simp [isOffset] at h
  exact h.1

section InPage
variable (hp : isPage pg = true) (ho : isOffset off = true)
include hp ho

theorem shadowWrite_answers : Answers (.shadowWrite i pg off v) d (opShadowWrite i pg off v d) :=
  answers_of (ok := isPage pg && isOffset off) (fun _ => rfl) (by simp [hp, ho]) rfl

theorem liveRegisterWrite_answers : Answers (.liveRegisterWrite i pg off v) d (opLiveWrite i pg off v d) :=
  answers_of (ok := isPage pg && isOffset off) (fun _ => rfl) (by simp [hp, ho]) rfl

theorem registerWrite_answers : Answers (.registerWrite i pg off v) d (opRegisterWrite i pg off v d) :=
  answers_of (ok := isPage pg && isOffset off) (fun _ => rfl) (by simp [hp, ho]) rfl

theorem counterReadClear_answers : Answers (.counterReadClear i pg off) d (opCounterRead i pg off d) :=
  answers_of (ok := isPage pg && isOffset off) (fun _ => rfl) (by simp [hp, ho]) rfl

theorem captureReadRearm_answers : Answers (.captureReadRearm i pg off) d (opCaptureRead i pg off d) :=
  answers_of (ok := isPage pg && isOffset off) (fun _ => rfl) (by simp [hp, ho]) rfl

end InPage

theorem unmappedAccess_answers (write narrow : Bool) (h : addr < 2 ^ 26) :
    Answers (.unmappedAccess i addr write narrow) d (opUnmapped i addr write narrow d) :=
  answers_of (ok := decide (addr < 2 ^ 26)) (fun _ => rfl) (decide_eq_true h) rfl

/-! ### What the bus carries -/

/-- The bus carries an admitted write to the register, but for a brace's own registers (R280, R281, R287). -/
theorem busWrite_accepts (h : d.accepts i = true)
    (hown : ∀ br, iniBrace i = some br → addr ≠ BRC_WDG_KICK (brIx br) ∧ addr ≠ BRC_ROLE (brIx br)) :
    d.busWrite i addr v = d.regWrite i addr v := by
  unfold Dev.busWrite
  cases hb : iniBrace i with
  | none => exact access_accepts _ h
  | some br =>
    obtain ⟨hkick, hrole⟩ := hown br hb
    simpa [hkick, hrole] using access_accepts (Dev.regWrite i addr v) h

/-- An admitted read is answered with the register's value and has the read's effects (R33). -/
theorem busRead_accepts (h : d.accepts i = true) :
    d.busRead i addr = (d.regRead i addr).2.emit (.readValue i addr (d.regRead i addr).1) :=
  access_accepts _ h

/-! ### Accesses to nothing (R32) -/

/-- A read where no page is gives zero and is captured. -/
theorem opUnmapped_read (narrow : Bool) (h : d.accepts i = true) (hlt : addr < 0x4000000)
    (hpage : pageKind (addr / 0x1000) = none) :
    opUnmapped i addr false narrow d = (d.badAccess i false addr).emit (.readValue i addr 0) := by
  unfold opUnmapped
  rw [if_neg (Nat.not_le.mpr hlt), access_accepts _ h]
  simp [hpage]

/-- A write that is narrow, or finds no page, or finds no register, is captured and has no other effect. -/
theorem opUnmapped_write {narrow : Bool} (h : d.accepts i = true) (hlt : addr < 0x4000000)
    (hbad : narrow = true ∨ pageKind (addr / 0x1000) = none ∨ regRow addr = none) :
    opUnmapped i addr true narrow d = d.badAccess i true addr := by
  unfold opUnmapped
  rw [if_neg (Nat.not_le.mpr hlt), access_accepts _ h]
  obtain hn | hpage | hreg := hbad
  · simp [hn]
  · simp [hpage]
  · simp [hreg]

/-! ### Shadows (R39) -/

/-- A page that is neither locked nor armed takes a write into the shadow's RWS fields. -/
theorem shadowWrite_open {r : RegRow} (hrow : liveRow (pg * 0x1000 + off - 0x800) = some r) (hl : d.locked pg = false)
    (ha : d.flag (PG_STATE_armed pg) = false) :
    d.shadowWrite i pg off v = d.wr (pg * 0x1000 + off) (r.mix (d.rd (pg * 0x1000 + off)) v) := by
  simp [Dev.shadowWrite, hrow, hl, ha]

/-- Storing a register leaves every other register and the memory alone. -/
theorem sameBut_wr (d : Dev) (a : Nat) (v : Word) : d.SameBut (d.wr a v) [a] :=
  ⟨fun _ hb => rd_wr_other d v (List.ne_of_not_mem_cons hb), rdByte_wr d a v⟩

/-! ### The obligation -/

/-- Settles O13: each command's operation reaches the register through the bus, which an admitted initiator passes. -/
theorem registerAccessesAct : Obligations.RegisterAccessesAct := by
  intro d i pg off addr v r write
  refine ⟨fun _ _ hrow hl ha => ?shadow, fun hp ho hacc hown => ⟨fun hoff => ?shadowWrite, fun hrow hrws hoff => ?liveWrite,
    ?regWrite⟩, fun hacc hlt => ⟨fun hpage => ⟨?read, ?writeNoPage⟩, fun hreg => ?writeNoReg, ?writeNarrow⟩,
    fun hp ho hacc => ⟨fun hrc => ?counter, fun hcap => ?capture⟩⟩
  case shadow =>
    rw [shadowWrite_open hrow hl ha]
    exact ⟨rd_wr_same d _ _, sameBut_wr d _ _⟩
  case shadowWrite =>
    rw [← busWrite_accepts hacc hown]
    simpa [opShadowWrite, hoff, isOffset_lt ho] using shadowWrite_answers (d := d) (i := i) (v := v) hp ho
  case liveWrite =>
    rw [← busWrite_accepts hacc hown]
    simpa [opLiveWrite, hrow, hrws, hoff] using liveRegisterWrite_answers (d := d) (i := i) (v := v) hp ho
  case regWrite =>
    rw [← busWrite_accepts hacc hown]
    simpa [opRegisterWrite, isOffset_lt ho] using registerWrite_answers (d := d) (i := i) (v := v) hp ho
  case read => exact opUnmapped_read write hacc hlt hpage ▸ unmappedAccess_answers false write hlt
  case writeNoPage => exact opUnmapped_write hacc hlt (.inr (.inl hpage)) ▸ unmappedAccess_answers true false hlt
  case writeNoReg => exact opUnmapped_write hacc hlt (.inr (.inr hreg)) ▸ unmappedAccess_answers true false hlt
  case writeNarrow => exact opUnmapped_write hacc hlt (.inl rfl) ▸ unmappedAccess_answers true true hlt
  case counter =>
    rw [← busRead_accepts hacc]
    simpa [opCounterRead, hrc, isOffset_lt ho] using counterReadClear_answers (d := d) (i := i) hp ho
  case capture =>
    rw [← busRead_accepts hacc]
    simpa [opCaptureRead, hcap, isOffset_lt ho] using captureReadRearm_answers (d := d) (i := i) hp ho

end Sys2Proof.Machine
end

section
/-!
PROOF. The Auditor of the Vault: its count check, the phases and the end of its walk, its leak queue, and the latched counts
of a VOQ.
-/

namespace Sys2Proof.Machine

variable {d : Dev}

/-! ### Events of a period, and writes that act on a locked page too -/

/-- An event at a running period's end happens at that instant, the next period running. -/
theorem onPeriod_due (d : Dev) {t : Timer} {period e : Nat} (f : Dev → Dev) (h : d.due t = some e) :
    d.onPeriod t period f = f (((d.at_ e).cancel t).arm t (e + period)) := by simp [Dev.onPeriod, h]

/-- A register with fields of both kinds takes an admitted write; a locked page records it first (R53). -/
theorem writeMixed_accepts {i : Initiator} {pg off v : Nat} (f : Bool → Dev → Dev) (h : d.accepts i = true) :
    d.writeMixed i pg off v f = f (d.locked pg) (if d.locked pg = true then d.lockViol pg i off v else d) := by
  unfold Dev.writeMixed
  rw [access_accepts _ h]
  cases d.locked pg <;> rfl

/-! ### The count check (R77) -/

section CountCheck
variable {e : Nat} {y z : Dev} (hdue : d.due ⟨.audCount, 0, 0⟩ = some e)
  (hy : ((d.at_ e).cancel ⟨.audCount, 0, 0⟩).arm ⟨.audCount, 0, 0⟩ (e + msT (max 1 (d.get VLT_AUD_CTRL_period))) = y)
include hdue hy

theorem opAuditorCountCheck_agree (h : y.countsAgree = true) : opAuditorCountCheck d = y := by
  simp only [opAuditorCountCheck, onPeriod_due d _ hdue, hy, h, ↓reduceIte]

theorem opAuditorCountCheck_differ (hz : (y.count VLT_AUD_MISM).raise (pgVLT 2) 9 = z) (h : y.countsAgree = false) :
    opAuditorCountCheck d = if z.flag VLT_AUD_CTRL_auto then z.startWalk else z := by
  simp only [opAuditorCountCheck, onPeriod_due d _ hdue, hy, hz, h, Bool.false_eq_true, ↓reduceIte]

end CountCheck

/-! ### The walk (R78) -/

theorem startWalk_idle (h : d.get VLT_AUD_STAT_phase = 0) :
    d.startWalk = ((({ d with vlt := { d.vlt with gen := !d.vlt.gen, marked := [], leaked := [], doubled := [] } } : Dev).put
      VLT_AUD_STAT_phase 1).put VLT_AUD_CTRL_walk 1).armIn ⟨.walkPhase, 0, 0⟩ (msT 1) := by
  simp [Dev.startWalk, h]

theorem startWalk_running (h : d.get VLT_AUD_STAT_phase ≠ 0) : d.startWalk = d := by
  simp [Dev.startWalk, h]

theorem opWalkStart_accepts {i : Initiator} (h : d.accepts i = true) :
    opWalkStart i d = (if d.locked (pgVLT 2) = true then d.lockViol (pgVLT 2) i 0x100 2 else d).startWalk :=
  writeMixed_accepts _ h

theorem opWalkPhaseDone_settle {e : Nat} (h : d.get VLT_AUD_STAT_phase = 1) (hdue : d.due ⟨.walkPhase, 0, 0⟩ = some e) :
    opWalkPhaseDone d = ((d.at_ e).cancel ⟨.walkPhase, 0, 0⟩).put VLT_AUD_STAT_phase 2 := by
  simp only [opWalkPhaseDone, h, onTimer_due d _ hdue]

theorem opWalkPhaseDone_mark (h : d.get VLT_AUD_STAT_phase = 2) :
    opWalkPhaseDone d =
      ({ d with vlt := { d.vlt with marked := d.reached (fun _ => true) } } : Dev).put VLT_AUD_STAT_phase 3 := by
  simp only [opWalkPhaseDone, h]

theorem opWalkPhaseDone_find (h : d.get VLT_AUD_STAT_phase = 3) :
    opWalkPhaseDone d = ({ d with vlt := { d.vlt with
        leaked := (d.vlt.coins.filter (fun c => d.oldCoin c.2 && !d.vlt.marked.contains c.1)).map (fun c => c.1)
        doubled := d.doubleListed } } : Dev).put VLT_AUD_STAT_phase 4 := by
  simp only [opWalkPhaseDone, h]

/-! ### The leak queue (R84) -/

section LeakQueue
variable {i : Initiator} {mism : Bool} {z : Dev} (hacc : d.accepts i = true)
  (hz : (if mism then ({ d with vlt := { d.vlt with leakQ := [] } } : Dev).queueReset 5 0 else d) = z)
include hacc hz

theorem opLeakqRead_empty (hq : z.vlt.leakQ = []) :
    opLeakqRead i mism d = (z.wr VLT_AUD_LEAKQ_HI idleHi).emit (.readValue i VLT_AUD_LEAKQ_LO 0) := by
  simp only [opLeakqRead, access_accepts _ hacc, hz, hq]

theorem opLeakqRead_item {a : Nat × Nat} {rest : List (Nat × Nat)} (hq : z.vlt.leakQ = a :: rest) :
    opLeakqRead i mism d = (({ z with vlt := { z.vlt with leakQ := rest } } : Dev).wr VLT_AUD_LEAKQ_HI
      (BitVec.ofNat 32 (leakItem a / 2 ^ 32))).emit (.readValue i VLT_AUD_LEAKQ_LO (BitVec.ofNat 32 (leakItem a))) := by
  simp only [opLeakqRead, access_accepts _ hacc, hz, hq]

end LeakQueue

/-! ### The obligation -/

/-- Settles O25: each clause is its command's operation in the case that the clause's hypotheses choose. -/
theorem auditorActs : Obligations.AuditorActs := by
  intro d u w x x' y z i e q v a rest leaks dup
  refine ⟨fun hdue hy hz => ⟨fun hag => ?agree, fun hdiff hauto => ?differ, fun hdiff hauto => ?differAuto⟩,
    fun hacc hz => ⟨fun hidle => ?start, fun hrun => ?running⟩, fun hphase hdue => ?settle,
    fun hphase => ?mark, fun hphase hleaks => ?find,
    fun hphase hdup hleaks hy hz hu hw hx hx' => ?walkDone, fun hacc hq => ?item, fun hacc hq => ?empty,
    fun hacc hz hq => ?mismatch, fun hacc hl hq hy hz hw hx => ?counts⟩
  case agree => exact answers_of_effect (fun _ => rfl) (opAuditorCountCheck_agree hdue hy.symm hag)
  case differ =>
    exact answers_of_effect (fun _ => rfl)
      ((opAuditorCountCheck_differ hdue hy.symm hz.symm hdiff).trans (if_neg (ne_true_of_eq_false hauto)))
  case differAuto =>
    exact answers_of_effect (fun _ => rfl) ((opAuditorCountCheck_differ hdue hy.symm hz.symm hdiff).trans (if_pos hauto))
  case start =>
    subst hz
    exact answers_of_effect (fun _ => rfl) ((opWalkStart_accepts hacc).trans (startWalk_idle hidle))
  case running =>
    subst hz
    exact answers_of_effect (fun _ => rfl) ((opWalkStart_accepts hacc).trans (startWalk_running hrun))
  case settle => exact answers_of_effect (fun _ => rfl) (opWalkPhaseDone_settle hphase hdue)
  case mark => exact answers_of_effect (fun _ => rfl) (opWalkPhaseDone_mark hphase)
  case find =>
    subst hleaks
    exact answers_of_effect (fun _ => rfl) (opWalkPhaseDone_find hphase)
  case walkDone =>
    -- The clause names the states that R79 passes through; in phase 4 the operation passes through them in this order.
    subst hdup hleaks hy hz hu hw hx hx'
    exact answers_of_effect (fun _ => rfl) (if_neg (by simp [hphase]))
  case item => exact answers_of_effect (fun _ => rfl) (opLeakqRead_item hacc rfl hq)
  case empty => exact answers_of_effect (fun _ => rfl) (opLeakqRead_empty hacc rfl hq)
  case mismatch =>
    subst hz
    exact answers_of_effect (fun _ => rfl) (opLeakqRead_empty hacc rfl hq)
  case counts =>
    subst hq hy hz hw hx
    exact answers_of_effect (fun _ => rfl) (write_accepts _ _ _ hacc hl)

end Sys2Proof.Machine
end

section
/-!
PROOF. The egress point: what the pick of each kind of output does with the head it serves, and what a copy in transmission
does at its timestamp point and at its end.
-/

namespace Sys2Proof.Machine

variable {d y : Dev} {out c q own : Nat} {bp : Option BpDesc}

/-! ### The head that a pick serves -/

/-- Where no memory error is met, a poisoned frame is lost at its pick and any other starts (R80). -/
theorem meetErr_none (q out : Nat) (f : Frame) (d : Dev) :
    d.meetErr q out f none = if f.poison then (none, d.lostHead q out) else (some false, d) := rfl

section Head
variable {x : Copy} {l : List Copy} {f : Frame} (hq : y.voq q = x :: l) (he : y.expired x = false)
  (hf : y.frame x.fid = some f)
include hq he hf

theorem serveWire_starts (hn : y.noStart out f = none) (hp : f.poison = false) :
    y.serveWire out q c none = y.startTx out q c x f (f.check == 2) := by
  simp [Dev.serveWire, hq, he, hf, hn, meetErr_none, hp]

theorem discardPicked_discards (count : Dev → Dev) :
    y.discardPicked out q count =
      ((y.dropHead q (fun t => count (t.countDrain out))).saidDrain out).occupy out (y.egressLen out f) := by
  simp [Dev.discardPicked, hq, he, hf]

/-! ### The pick of each kind of output -/

theorem pickEth_starts {w : Dev} (hw : (d.toPick out).creditPort out = w) (hdr : w.drains out = false)
    (hsl : w.sleepSeg out = none) (hup : w.macUp out = true) (hlpi : w.eth.lpi.contains out = false)
    (hfc : w.eth.fcWait.contains out = false)
    (hex : ((d.at_ (d.firstSeen out)).creditPort out).expressClass out = none) (htx : w.curTx out = none)
    (hc : highest (fun c => w.ethClass out c false) = some (c, q, y)) (hn : y.noStart out f = none) (hp : f.poison = false) :
    d.pickEth out none = y.startTx out q c x f (f.check == 2) := by
  rw [← serveWire_starts hq he hf hn hp]
  simp only [Dev.pickEth, hw, hdr, hsl, hup, hlpi, hfc, hex, htx, hc, Bool.not_true, Bool.false_eq_true, ↓reduceIte,
    Option.isSome_none]

theorem pickEth_drains {w : Dev} (hw : (d.toPick out).creditPort out = w) (hdr : w.drains out = true)
    (hc : highest (fun c => w.ethClass out c true) = some (c, q, y)) :
    d.pickEth out none =
      ((y.dropHead q (fun t => t.countDrain out)).saidDrain out).occupy out (y.egressLen out f) := by
  refine Eq.trans ?_ (discardPicked_discards hq he hf id)
  simp only [Dev.pickEth, hw, hdr, hc, ↓reduceIte]

theorem pickHost_takes (hdr : (d.toPick 57).drains 57 = false) (hc : (d.toPick 57).hostChoice own = some (c, q, y))
    (hp : f.poison = false) (hfit : (y.shape 57 f).length ≤ y.get (HBR_RING_CFG_buf (hRing false c))) :
    d.pickHost none own = { y.popVoq q with vlt := { (y.popVoq q).vlt with tx := (y.popVoq q).vlt.tx ++
      [{ out := 57, fid := f.id, cls := c, mc := x.mc, pick := (y.popVoq q).now, ends := (y.popVoq q).now,
         data := y.shape 57 f, bad := false }] } } := by
  simp only [Dev.pickHost, hdr, hc, hq, he, hf, Nat.not_lt.mpr hfit, meetErr_none, hp, Bool.false_eq_true, ↓reduceIte]

theorem pickVh_starts {w z : Dev} (hw : d.toPick out = w) (hdr : w.drains out = false)
    (hlink : w.flag (VHL_STAT_link (out - 58)) = true) (hhold : w.flag (VHL_STAT_hold_i (out - 58)) = false)
    (htx : w.curTx out = none) (hid : w.flag SYS_DEVID_valid = true) (hc : w.linkChoice out = some (c, q, y))
    (hn : y.noStart out f = none) (hp : f.poison = false) (hz : y.startTx out q c x f (f.check == 2) = z)
    (hlen : z.vlt.tx.length ≠ y.vlt.tx.length) :
    d.pickVh out none = z.put (VHL_CRED_coins (out - 58) c) (z.get (VHL_CRED_coins (out - 58) c) - y.headCost out q) := by
  simp only [Dev.pickVh, hw, hdr, hlink, hhold, htx, hid, hc, serveWire_starts hq he hf hn hp, hz, hlen, Bool.not_true,
    Bool.or_self, Bool.false_eq_true, ↓reduceIte, Option.isSome_none]

theorem pickBus_takes (hdr : (d.toPick out).drains out = false) (hs0 : (d.toPick out).sleeping out 0 = none)
    (hc : (d.toPick out).busChoice out = some (c, q, y)) (hs : y.sleeping out c = none) (hp : f.poison = false) :
    d.pickBus out none = if out ≤ 87 then y.canTake (out - 64) q else y.linTake (out - 88) q := by
  simp [Dev.pickBus, hdr, hs0, hc, hs, hq, he, hf, meetErr_none, hp]

theorem pickBrace_writes {b : BpDesc} {head : Nat} {bs : List Byte} {v z : Dev} (hb : b.own = true)
    (hup : (d.toPick 97).up = true) (hact : (d.toPick 97).active.isSome = true) (hh : (d.toPick 97).pw.halted = false)
    (hhead : d.get (BRC_BP_RX_HEAD_index 0) % bpSize (d.get (BRC_BP_RX_RING_log2 0)) = head)
    (hne : head ≠ (d.toPick 97).get (BRC_BP_RX_TAIL_index 0) % bpSize (d.get (BRC_BP_RX_RING_log2 0)))
    (hc : highest (fun c => (d.toPick 97).drrTake 97 c ((d.toPick 97).heads 97 c)) = some (c, q, y))
    (hp : f.poison = false) (hbs : y.shape 97 f = bs) (hfit : bs.length ≤ y.get (BRC_BP_RX_BUF_bytes 0))
    (hv : (y.popVoq q).wrTcm b.buf bs = v)
    (hz : v.wrTcm ((y.popVoq q).get (BRC_BP_RX_RING_base 0) + head * 32) (bpBytes { b with
      own := false, len := bs.length, port := f.inPort, domain := f.domain, cls := c } true f.check f.inNs f.inFrac) = z) :
    d.pickBrace none (some b) = ((z.put (BRC_BP_RX_HEAD_index 0)
      ((head + 1) % bpSize (d.get (BRC_BP_RX_RING_log2 0)))).release f.id).raise (pgBRC 0) 13 := by
  simp only [Dev.pickBrace, hhead, hup, Option.isNone_eq_false_iff.mpr hact, hh, hb, beq_false_of_ne hne, hc, hq, he, hf,
    hbs, Nat.not_lt.mpr hfit, meetErr_none, hp, hv, hz, Bool.not_true, Bool.or_self, Bool.false_eq_true, ↓reduceIte]

end Head

/-! ### The output that a pick is for (R117) -/

section Output
variable (hq : d.works pgQUE = true)
include hq

theorem opEgressPick_eth (hout : out < 57) (h : d.works (pgETH out) = true ∨ d.drains out = true) :
    opEgressPick out none bp own d = d.pickEth out none := by
  obtain h | h := h <;> simp [opEgressPick, hq, hout, h]

theorem opEgressPick_host : opEgressPick 57 none bp own d = d.pickHost none own := by
  simp [opEgressPick, hq]

theorem opEgressPick_link (hlo : 58 ≤ out) (hhi : out ≤ 61) (h : d.works (pgVHL (out - 58)) = true) :
    opEgressPick out none bp own d = d.pickVh out none := by
  simp [opEgressPick, hq, hhi, h, show ¬ out < 57 by omega, show out ≠ 57 by omega]

theorem opEgressPick_bus (hlo : 64 ≤ out) (hhi : out ≤ 95) : opEgressPick out none bp own d = d.pickBus out none := by
  simp [opEgressPick, hq, hlo, hhi, show ¬ out < 57 by omega, show out ≠ 57 by omega, show ¬ out ≤ 61 by omega]

theorem opEgressPick_brace : opEgressPick 97 none bp own d = d.pickBrace none bp := by
  simp [opEgressPick, hq]

end Output

/-- A pick takes effect at a port of the device with a descriptor and rings of its width. -/
theorem egressPick_answers {e : Dev} (hport : isPort out = true) (hbp : bp.all BpDesc.wf = true) (hown : own < 256)
    (h : opEgressPick out none bp own d = e) : Answers (.egressPick out none bp own) d e :=
  answers_of (fun _ => rfl) (by simp [hport, hbp, hown]) h

theorem isPort_of_le {p : Nat} (h : p ≤ 61) : isPort p = true := by simp [isPort, h]

theorem isPort_of_bus {p : Nat} (hlo : 64 ≤ p) (hhi : p ≤ 95) : isPort p = true := by
  simp [isPort, hlo, show p ≤ 97 by omega]

/-! ### The copy that a start puts in transmission (R75) -/

theorem creditUntil_vlt (d : Dev) (p c t : Nat) : (d.creditUntil p c t).vlt = d.vlt := by
  unfold Dev.creditUntil
  split <;> rfl

/-- A frame that starts is in the list of transmissions, at its output and class. -/
theorem startTx_sends {x : Copy} {f : Frame} {bad : Bool} {g : Option CvGen} {z : Dev} (h : y.takeCv out f = (.inr g, z)) :
    ∃ t ∈ (y.startTx out q c x f bad).vlt.tx, t.out = out ∧ t.fid = f.id ∧ t.cls = c ∧ t.bad = bad := by
  unfold Dev.startTx
  rw [h]
  simp only [Dev.cancel, apply_ite Dev.vlt, creditUntil_vlt, ite_self, Dev.occupy, List.mem_append, List.mem_singleton]
  exact ⟨_, .inr rfl, rfl, rfl, rfl, rfl⟩

/-! ### The timestamp point and the end (R75, R139, R141) -/

theorem egressTimestamp_answers {eighth : Nat} {m : Bool} {e : Dev} (hport : isPort out = true) (he : eighth < 8)
    (h : opEgressStamp out eighth m d = e) : Answers (.egressTimestamp out eighth m) d e :=
  answers_of (fun _ => rfl) (by simp [hport, he]) h

section Stamp
variable {t : Tx} {eighth : Nat} {m : Bool}
  (ht : d.vlt.tx.find? (fun t => t.out == out && !t.stamped && (decide (out < 57) || isVh out)) = some t)
  (hy : (d.at_ (t.pick + 672)).swapTx t { t with stamped := true } = y)
include ht hy

theorem opEgressStamp_plain (he : t.tsEvent = false) : opEgressStamp out eighth m d = y := by
  simp only [opEgressStamp, ht, hy]
  simp only [he, Bool.false_and, Bool.false_eq_true, ↓reduceIte]

theorem opEgressStamp_event {f : Frame} {bs : List Byte} (hout : out < 57) (he : t.tsEvent = true)
    (hf : y.frame t.fid = some f) (hbs : (if t.data.isEmpty = true then y.shape out f else t.data) = bs) :
    opEgressStamp out eighth m d =
      (let z := if m then y.tsqMismatch out else y
       (z.tsqPush out bs (z.tqEighth z.ticks eighth + z.outCorr out)).ldg out 54 1) := by
  simp only [opEgressStamp, ht, hy]
  simp only [he, hout, hf, hbs, decide_true, Bool.and_self, ↓reduceIte]

end Stamp

section End
variable {t : Tx} {f : Frame} (hout : out < 57 ∨ isVh out = true) (ht : d.curTx out = some t) (hf : d.frame t.fid = some f)
include hout ht hf

theorem opTransmitEnd_ends (h : f.tE.isSome = true) : opTransmitEnd out d = d.endTx t f := by
  obtain ⟨e, he⟩ := Option.isSome_iff_exists.mp h
  obtain ho | ho := hout <;> simp [opTransmitEnd, ho, ht, hf, he]

theorem opTransmitEnd_waits (h : f.tE = none) : opTransmitEnd out d = d := by
  obtain ho | ho := hout <;> simp [opTransmitEnd, ho, ht, hf, h]

end End

/-! ### The obligation -/

/-- Settles O24: each clause is the pick of its kind of output with the head that the clause's hypotheses choose. -/
theorem egressActs : Obligations.EgressActs := by
  intro d v w y z out eighth c q own head bp b t x l f bs g m
  refine ⟨fun hque hbp hown => ⟨fun hout hw =>
        ⟨fun hwk hdr hsl hup hlpi hfc hex htx hc hq he hf hn hp => ⟨?start, fun hcv => ?sends⟩,
        fun hdr hdrw hc hq he hf => ?drain⟩,
      fun hdr hc hq he hf hp hfit hz => ?host,
      fun hlo hhi hwk hdr hlink hhold htx hid hc hq he hf hn hp hz hlen => ?link,
      fun hlo hhi hdr hs0 hc hs hq he hf hp => ⟨fun hcan => ?can, fun hlin => ?lin⟩,
      fun hb hbo hup hact hh hhead hne hc hq he hf hp hbs hfit hv hz => ?brace⟩,
    fun hout heighth ht hy => ⟨fun he => ?stampPlain, fun he hf hbs => ⟨?stampEvent, ?stampMismatch⟩⟩,
    fun hout hport ht hf => ⟨fun hdone => ?ends, fun hrun => ?waits⟩⟩
  case start =>
    exact egressPick_answers (isPort_of_le (by omega)) hbp hown ((opEgressPick_eth hque hout (.inl hwk)).trans
      (pickEth_starts hq he hf hw.symm hdr hsl hup hlpi hfc hex htx hc hn hp))
  case sends => exact startTx_sends hcv
  case drain =>
    exact egressPick_answers (isPort_of_le (by omega)) hbp hown ((opEgressPick_eth hque hout (.inr hdr)).trans
      (pickEth_drains hq he hf hw.symm hdrw hc))
  case host =>
    subst hz
    exact egressPick_answers rfl hbp hown ((opEgressPick_host hque).trans (pickHost_takes hq he hf hdr hc hp hfit))
  case link =>
    exact egressPick_answers (isPort_of_le hhi) hbp hown ((opEgressPick_link hque hlo hhi hwk).trans
      (pickVh_starts hq he hf rfl hdr hlink hhold htx hid hc hn hp hz.symm hlen))
  case can =>
    exact egressPick_answers (isPort_of_bus hlo hhi) hbp hown ((opEgressPick_bus hque hlo hhi).trans
      ((pickBus_takes hq he hf hdr hs0 hc hs hp).trans (if_pos hcan)))
  case lin =>
    exact egressPick_answers (isPort_of_bus hlo hhi) hbp hown ((opEgressPick_bus hque hlo hhi).trans
      ((pickBus_takes hq he hf hdr hs0 hc hs hp).trans (if_neg (by omega))))
  case brace =>
    exact egressPick_answers rfl hb hown ((opEgressPick_brace hque).trans
      (pickBrace_writes hq he hf hbo hup hact hh hhead.symm hne hc hp hbs.symm hfit hv.symm hz.symm))
  case stampPlain =>
    exact egressTimestamp_answers (isPort_of_le (by omega)) heighth (opEgressStamp_plain ht hy.symm he)
  case stampEvent =>
    exact egressTimestamp_answers (isPort_of_le (by omega)) heighth (opEgressStamp_event ht hy.symm hout he hf hbs.symm)
  case stampMismatch =>
    exact egressTimestamp_answers (isPort_of_le (by omega)) heighth (opEgressStamp_event ht hy.symm hout he hf hbs.symm)
  case ends => exact answers_of (fun _ => rfl) hport (opTransmitEnd_ends hout ht hf hdone)
  case waits => exact answers_of (fun _ => rfl) hport (opTransmitEnd_waits hout ht hf hrun)

end Sys2Proof.Machine
end

section
/-!
PROOF. Kalow: the pick of its input, the commit of its next job, what makes a pack, and the hand-over of what it built.
-/

namespace Sys2Proof.Machine

variable {d : Dev}

/-! ### The pick of input 96 (R194) -/

section Pick
variable {ue : KlwUe}

theorem opKalowPick_idle (err : Option VaultErr) (h : d.works (pgKLW 0) = false ∨ d.pw.halted = true) :
    opKalowPick ue err d = d := by
  obtain h | h := h <;> simp [opKalowPick, h]

variable {q cl : Nat} {y : Dev} {c : Copy} {l : List Copy} {f : Frame}
  (hw : d.works (pgKLW 0) = true) (hh : d.pw.halted = false)
include hw hh

theorem opKalowPick_nothing (err : Option VaultErr)
    (hc : highest (fun c => (d.toPick 96).drrTake 96 c ((d.toPick 96).heads 96 c)) = none) : opKalowPick ue err d = d := by
  simp [opKalowPick, hw, hh, hc]

variable (hc : highest (fun c => (d.toPick 96).drrTake 96 c ((d.toPick 96).heads 96 c)) = some (cl, q, y))
  (hq : y.voq q = c :: l)
include hc hq

theorem opKalowPick_expired (err : Option VaultErr) (he : y.expired c = true) : opKalowPick ue err d = y.holdDiscard q := by
  simp [opKalowPick, hw, hh, hc, hq, he]

theorem opKalowPick_poisoned (he : y.expired c = false) (hf : y.frame c.fid = some f) (hp : f.poison = true) :
    opKalowPick ue none d = y.lostHead q 96 := by
  simp [opKalowPick, hw, hh, hc, hq, he, hf, meetErr_none, hp]

theorem opKalowPick_consumes (he : y.expired c = false) (hf : y.frame c.fid = some f) (hp : f.poison = false) :
    opKalowPick ue none d = ((y.consume f ue).popVoq q).release f.id := by
  simp [opKalowPick, hw, hh, hc, hq, he, hf, meetErr_none, hp]

end Pick

/-! ### The commit of the next job (R198, R199) -/

theorem opKalowCommit_idle (ce : Option Nat) (h : nextJob d.kal.jobs = none) : opKalowCommit ce d = d := by
  simp [opKalowCommit, h]

theorem opKalowCommit_next {j : KJob} (ce : Option Nat) (h : nextJob d.kal.jobs = some j) :
    opKalowCommit ce d = (ce.elim ((d.at_ j.at_).ownTick j) (fun s => ((d.at_ j.at_).ownTick j).storeUe s)).tryJob j := by
  cases ce <;> simp [opKalowCommit, h]

theorem tryJob_waits {j : KJob} (h : j.writes.any (fun w => d.needed w.1) = true) :
    d.tryJob j = ({ d with kal := { d.kal with
      jobs := d.kal.jobs.map (fun k => if k = j then { k with waits := true } else k) } } : Dev).count (KLW_CNT 17) :=
  if_pos h

theorem tryJob_commits {j : KJob} (h : j.writes.any (fun w => d.needed w.1) = false) :
    d.tryJob j = ({ d with kal := { d.kal with jobs := d.kal.jobs.erase j } } : Dev).runJob j :=
  if_neg (by simp [h])

/-! ### The trigger of a route (R202, R203) -/

section Trigger
variable {r s : Nat} {w : Nat × Nat × Nat} {ue : KlwUe} {y : Dev} (ht : d.kal.trigs.find? (fun u => u.1 == r) = some w)
  (hy : ({ d with kal := { d.kal with trigs := d.kal.trigs.filter (fun u => decide (u ≠ w)) } } : Dev) = y)
include ht hy

theorem opKalowTriggered_outOfService (hp : y.packs r = false) : opKalowTriggered r ue d = y := by
  simp only [opKalowTriggered, ht, hy, hp, Bool.not_false, ↓reduceIte]

variable (hp : y.packs r = true)
include hp

theorem opKalowTriggered_putOff (hd : d.kal.defer.contains r = true) : opKalowTriggered r ue d = y.deferPack r := by
  simp only [opKalowTriggered, ht, hy, hp, hd, Bool.not_true, Bool.false_eq_true, ↓reduceIte]

variable (hd : d.kal.defer.contains r = false)
include hd

theorem opKalowTriggered_joinsPending (hn : (NMap.get none d.kal.pend r).isSome = true) :
    opKalowTriggered r ue d = y.count (KLW_CNT 10) := by
  simp only [opKalowTriggered, ht, hy, hp, hd, hn, Bool.not_true, Bool.false_eq_true, ↓reduceIte]

variable (hn : NMap.get none d.kal.pend r = none)
include hn

theorem opKalowTriggered_joinsLast (hs : NMap.get none d.kal.lastS r = some s) (hlt : w.2.2 < s) :
    opKalowTriggered r ue d = y.count (KLW_CNT 10) := by
  simp only [opKalowTriggered, ht, hy, hp, hd, hn, hs, Option.any_some, hlt, decide_true, Bool.not_true, Bool.false_eq_true,
    ↓reduceIte, Option.isSome_none]

theorem opKalowTriggered_pends (hs : NMap.get none d.kal.lastS r = some s) (hle : s ≤ w.2.2)
    (hlt : w.2.2 < s + nb (y.route r) 38 19 * 1000) :
    opKalowTriggered r ue d = { y with kal := { y.kal with
      pend := NMap.set none y.kal.pend r (some (s + nb (y.route r) 38 19 * 1000)) } } := by
  simp only [opKalowTriggered, ht, hy, hp, hd, hn, hs, Option.any_some, Nat.not_lt.mpr hle, hlt, decide_true, decide_false,
    Bool.not_true, Bool.false_eq_true, ↓reduceIte, Option.isSome_none, Option.filter_some]
  subst hy
  rfl

/-- A trigger that no earlier pack takes in packs, unless back-pressure puts it off. -/
theorem opKalowTriggered_free
    (hs : ∀ s, NMap.get none d.kal.lastS r = some s → s ≤ w.2.2 ∧ s + nb (y.route r) 38 19 * 1000 ≤ w.2.2) :
    opKalowTriggered r ue d = if y.deferred r then y.deferPack r else (y.at_ (w.2.1 + nsT 25)).pack r ue := by
  have hafter : (NMap.get none d.kal.lastS r).any (fun s => decide (w.2.2 < s)) = false := by
    cases hl : NMap.get none d.kal.lastS r with
    | none => rfl
    | some s => simpa using (hs s hl).1
  have hlong : (NMap.get none d.kal.lastS r).filter (fun s => decide (w.2.2 < s + nb (y.route r) 38 19 * 1000)) = none := by
    cases hl : NMap.get none d.kal.lastS r with
    | none => rfl
    | some s => simpa using (hs s hl).2
  simp only [opKalowTriggered, ht, hy, hp, hd, hn, hafter, hlong, Bool.not_true, Bool.false_eq_true, ↓reduceIte,
    Option.isSome_none]

end Trigger

/-! ### The launch, the end of an interval and the end of back-pressure (R202, R203) -/

/-- A launch whose turn has come, and that is not late, happens at its time. -/
theorem launch_onTime {sl : Slot} {acts : List Nat} (f : Dev → Dev) (ha : d.armed sl = true)
    (hc : acts.contains (ctlAction (d.slot sl).ctl) = true) (hh : d.pw.halted = false)
    (ht : d.turn (d.turnAt sl (d.slot sl).time) = true) (hl : d.lateTick sl = none) :
    d.launch sl acts f = (f (d.atNs (d.slot sl).time)).complete sl false := by
  simp [Dev.launch, ha, List.contains_iff_mem.mp hc, hh, ht, hl]

section Due
variable {r t : Nat} {ue : KlwUe}

theorem opKalowPeriodic_onTime (ha : d.armed (.kalow r) = true) (hh : d.pw.halted = false)
    (hc : ctlAction (d.slot (.kalow r)).ctl = 6) (ht : d.turn (d.turnAt (.kalow r) (d.slot (.kalow r)).time) = true)
    (hl : d.lateTick (.kalow r) = none) {y : Dev} (hy : d.atNs (d.slot (.kalow r)).time = y) :
    opKalowPeriodic r ue d = Dev.complete (.kalow r) false
      (if !y.packs r || !nbit (y.route r) 16 then y
       else if y.deferred r then y.deferPack r
       else y.packDue r ue (y.slot (.kalow r)).time) :=
  hy ▸ launch_onTime _ ha (by rw [hc]; rfl) hh ht hl

theorem opKalowPending_due {y : Dev} (hp : NMap.get none d.kal.pend r = some t)
    (hy : ({ d.atNs t with kal := { (d.atNs t).kal with pend := NMap.set none (d.atNs t).kal.pend r none } } : Dev) = y) :
    opKalowPending r ue d = if !y.packs r then y else if y.deferred r then y.deferPack r else y.packDue r ue t := by
  simp only [opKalowPending, hp, hy]

theorem opKalowDeferred_released (hd : d.kal.defer.contains r = true) (hb : d.deferred r = false) (hp : d.packs r = true) :
    opKalowDeferred r ue d = d.pack r ue :=
  if_neg (by simp only [hd, hb, hp]; decide)

theorem opKalowDeferred_nothing (h : d.kal.defer.contains r = false ∨ d.deferred r = true ∨ d.packs r = false) :
    opKalowDeferred r ue d = d := by
  refine if_pos ?_
  obtain h | h | h := h <;> simp only [h, Bool.not_false, Bool.true_or, Bool.or_true]

end Due

/-! ### The hand-over and the time-outs (R199, R200, R209) -/

theorem opKalowHandoff_first {p : KPack} {rec' : Option BusRecord} {bs : List Byte} {d' y z : Dev}
    (h : firstPack d.kal.packs = some p) (hb : (d.at_ p.at_).bodyOf p = (rec', bs, d'))
    (hy : ({ d' with kal := { d'.kal with packs := d'.kal.packs.erase p } } : Dev) = y)
    (hz : (if p.plan.isSome then y.count (KLW_CNT 1) else y) = z) :
    opKalowHandoff d = (z.takeIn (fun i =>
        { id := i, inPort := 96, domain := p.dom, cls := p.cls, data := bs, record := rec', ctx := p.ctx,
          kdest := some (p.dest, p.list), inNs := p.ns, inFrac := p.frac })).2.unhold := by
  simp only [opKalowHandoff, h, hb, Dev.when, hy, hz]

/-! ### The commands apply their operations -/

section Answers
variable {r : Nat} {ue : KlwUe} {e : Dev} (hr : r < 8192) (hu : ue.wf = true)
include hr hu

theorem kalowTriggeredPack_answers (h : opKalowTriggered r ue d = e) : Answers (.kalowTriggeredPack r ue) d e :=
  answers_of (fun _ => rfl) (by simp [hr, hu]) h

theorem kalowPeriodicPack_answers (h : opKalowPeriodic r ue d = e) : Answers (.kalowPeriodicPack r ue) d e :=
  answers_of (fun _ => rfl) (by simp [hr, hu]) h

theorem kalowPendingPack_answers (h : opKalowPending r ue d = e) : Answers (.kalowPendingPack r ue) d e :=
  answers_of (fun _ => rfl) (by simp [hr, hu]) h

theorem kalowDeferredPack_answers (h : opKalowDeferred r ue d = e) : Answers (.kalowDeferredPack r ue) d e :=
  answers_of (fun _ => rfl) (by simp [hr, hu]) h

end Answers

/-! ### The obligation -/

/-- Settles O38: each clause is its command's operation in the case that the clause's hypotheses choose. -/
theorem kalowPacksAct : Obligations.KalowPacksAct := by
  intro d d' y z q e r t s cl w ue ce c l f j p rec' bs
  refine ⟨fun h => ?pickIdle, fun hw hh => ⟨fun hc => ?pickNothing, fun hc hq => ⟨fun he => ?pickExpired,
      fun he hf => ⟨fun hp => ?pickPoisoned, fun hp => ?pickConsumes⟩⟩⟩, fun h => ?commitIdle,
    fun h hy hz => ⟨fun hn => ?commitWaits, fun hn => ?commits⟩,
    fun hr hu ht hy => ⟨fun hp => ?outOfService, fun hp => ⟨fun hd => ?putOff, fun hd hn => ?joinsPending,
      fun hd hn => ⟨fun hs hlt => ?joinsLast, fun hs hle ht' hlt => ?pends, fun hs => ⟨fun hb => ?freeDeferred,
        fun hb hz => ?freePacks⟩⟩⟩⟩,
    fun hr hu ha hh hc hturn hl ht hy => ⟨fun hp => ?launchNothing, fun hp hper => ⟨fun hb => ?launchDeferred,
      fun hb hslot => ?launchPacks⟩⟩,
    fun hr hu hpend hd' hy => ⟨fun hp => ?pendingOut, fun hp hb => ?pendingDeferred, fun hp hb => ?pendingPacks⟩,
    fun hr hu => ⟨fun hd hb hp => ?releasedPacks, fun h => ?deferredNothing⟩,
    fun h hb hy hz => ?handoff, fun hdue hy hz => ?timeouts, fun hr hdue => ?aggregation⟩
  case pickIdle => exact answers_of_effect (fun _ => rfl) (opKalowPick_idle none h)
  case pickNothing => exact answers_of_effect (fun _ => rfl) (opKalowPick_nothing hw hh none hc)
  case pickExpired => exact answers_of_effect (fun _ => rfl) (opKalowPick_expired hw hh hc hq none he)
  case pickPoisoned => exact answers_of_effect (fun _ => rfl) (opKalowPick_poisoned hw hh hc hq he hf hp)
  case pickConsumes => exact answers_of_effect (fun _ => rfl) (opKalowPick_consumes hw hh hc hq he hf hp)
  case commitIdle => exact answers_of_effect (fun _ => rfl) (opKalowCommit_idle ce h)
  case commitWaits =>
    subst hy hz
    exact answers_of_effect (fun _ => rfl) ((opKalowCommit_next ce h).trans (tryJob_waits hn))
  case commits =>
    subst hy hz
    exact answers_of_effect (fun _ => rfl) ((opKalowCommit_next ce h).trans (tryJob_commits hn))
  case outOfService =>
    subst hy
    exact kalowTriggeredPack_answers hr hu (opKalowTriggered_outOfService ht rfl hp)
  case putOff =>
    subst hy
    exact kalowTriggeredPack_answers hr hu (opKalowTriggered_putOff ht rfl hp hd)
  case joinsPending =>
    subst hy
    exact kalowTriggeredPack_answers hr hu (opKalowTriggered_joinsPending ht rfl hp hd hn)
  case joinsLast =>
    subst hy
    exact kalowTriggeredPack_answers hr hu (opKalowTriggered_joinsLast ht rfl hp hd hn hs hlt)
  case pends =>
    subst hy ht'
    exact kalowTriggeredPack_answers hr hu (opKalowTriggered_pends ht rfl hp hd hn hs hle hlt)
  case freeDeferred =>
    subst hy
    exact kalowTriggeredPack_answers hr hu ((opKalowTriggered_free ht rfl hp hd hn hs).trans (if_pos hb))
  case freePacks =>
    subst hy hz
    exact kalowTriggeredPack_answers hr hu ((opKalowTriggered_free ht rfl hp hd hn hs).trans
      (if_neg (ne_true_of_eq_false hb)))
  case launchNothing =>
    exact kalowPeriodicPack_answers hr hu ((opKalowPeriodic_onTime ha hh hc hturn hl (ht ▸ hy.symm)).trans
      (congrArg _ (if_pos (by obtain hp | hp := hp <;> simp [hp]))))
  case launchDeferred =>
    exact kalowPeriodicPack_answers hr hu ((opKalowPeriodic_onTime ha hh hc hturn hl (ht ▸ hy.symm)).trans
      (by simp [hp, hper, hb]))
  case launchPacks =>
    exact kalowPeriodicPack_answers hr hu ((opKalowPeriodic_onTime ha hh hc hturn hl (ht ▸ hy.symm)).trans
      (by simp [hp, hper, hb, hslot, Dev.packDue]))
  case pendingOut =>
    subst hd'
    exact kalowPendingPack_answers hr hu ((opKalowPending_due hpend hy.symm).trans (by simp [hp]))
  case pendingDeferred =>
    subst hd'
    exact kalowPendingPack_answers hr hu ((opKalowPending_due hpend hy.symm).trans (by simp [hp, hb]))
  case pendingPacks =>
    subst hd'
    exact kalowPendingPack_answers hr hu ((opKalowPending_due hpend hy.symm).trans (by simp [hp, hb, Dev.packDue]))
  case releasedPacks => exact kalowDeferredPack_answers hr hu (opKalowDeferred_released hd hb hp)
  case deferredNothing => exact kalowDeferredPack_answers hr hu (opKalowDeferred_nothing h)
  case handoff => exact answers_of_effect (fun _ => rfl) (opKalowHandoff_first h hb hy.symm hz.symm)
  case timeouts =>
    subst hy hz
    exact answers_of_effect (fun _ => rfl) (onPeriod_due d _ hdue)
  case aggregation => exact answers_of (fun _ => rfl) (decide_eq_true hr) (onTimer_due d _ hdue)

end Sys2Proof.Machine
end

section
/-!
PROOF. The end of a pin's hold: the exact-match table has 262,160 slots (R91, Table 4-4), fewer than the 2^20 that
`Obligations.LearningAndSweepAct` ranges over.
-/

namespace Sys2Proof.Machine

/-- The end of a pin's hold at a slot that the exact-match table does not have is ill-formed. -/
theorem exec_pinHoldExpiry_outside {slot : Nat} (h : tblSize 0 ≤ slot) (s : State) :
    exec (.pinHoldExpiry slot) s = .fault .illFormed :=
  if_neg (by simpa [TblAt.wf, tblSize, tblSlots, tblW] using h)

/-- A command that faults answers no next state. -/
theorem not_answers_of_fault {c : Instr} {d e : Dev} {x : Fault} (h : ∀ s, exec c s = .fault x) : ¬ Answers c d e :=
  fun ha => nomatch (h ⟨d, []⟩).symm.trans (ha [])

/-- A device in which the hold of the pin of key 0 runs, and whose tables are empty. -/
def pinHeld : Dev := Dev.init.arm ⟨.pin, 0, 0⟩ 10

/-- Refutes O26: its clause on pins admits slot 262,160, which lies below 2^20 and past the exact-match table's last slot.
There the command is ill-formed and answers no next state. -/
theorem not_learningAndSweepAct : ¬ Obligations.LearningAndSweepAct := by
  intro h
  obtain ⟨-, -, hpin, -⟩ := h pinHeld pinHeld _ pinHeld .host ⟨0, 0, 0, 0, 0, 0⟩ 262160 10 0 _ 0 false 0
  obtain ⟨-, hunpinned⟩ := hpin (by decide) rfl (due_arm_same _ _ _) rfl rfl
  exact not_answers_of_fault (exec_pinHoldExpiry_outside (by decide)) (hunpinned (.inl rfl))

end Sys2Proof.Machine
end

section
/-!
PROOF. The table DMA descriptors: when a ring processes the descriptor at its head, what the search by key finds, and the
status that each operation writes back.
-/

namespace Sys2Proof.Machine

variable {d d' : Dev} {c op k st ix : Nat} {x : TblDesc} {res : Option (Nat × Nat)}

/-! ### A ring processes a descriptor (R101) -/

/-- The ring takes the descriptor: it is busy and flushes nothing, and the descriptor is well-formed and has own 1. -/
structure Takes (d : Dev) (c : Nat) (x : TblDesc) : Prop where
  ring : c < 2
  wf : x.wf = true
  busy : d.ringBusy c = true
  own : x.own = true
  noFlush : d.running ⟨.flush, c, 0⟩ = false

/-- The ring carries the descriptor's operation out: the device is not in Halt, and the descriptor reads. -/
structure CarriesOut (d : Dev) (c : Nat) (x : TblDesc) : Prop extends Takes d c x where
  notHalted : d.pw.halted = false
  reads : x.ue ≠ 1

section Process
variable {f : Dev → Nat × Nat × Option (Nat × Nat) × Dev}

theorem Takes.dma_halt (h : Takes d c x) (hh : d.pw.halted = true) :
    d.dma c op x f = d.writeBack c op x stHalt x.index none := by
  simp [Dev.dma, h.busy, h.own, h.noFlush, hh]

theorem Takes.dma_descriptorUe (h : Takes d c x) (hh : d.pw.halted = false) (hu : x.ue = 1) :
    d.dma c op x f = d.ringHalt c op x := by
  simp [Dev.dma, h.busy, h.own, h.noFlush, hh, hu]

theorem CarriesOut.dma_writeBack (h : CarriesOut d c x) (hf : f d = (st, ix, res, d')) (hst : st ≠ stUe := by decide) :
    d.dma c op x f = d'.writeBack c op x st ix res := by
  simp [Dev.dma, h.busy, h.own, h.noFlush, h.notHalted, h.reads, hf, hst]

theorem CarriesOut.dma_entryUe (h : CarriesOut d c x) (hf : f d = (stUe, ix, res, d')) :
    d.dma c op x f = d'.ringHalt c op x := by
  simp [Dev.dma, h.busy, h.own, h.noFlush, h.notHalted, h.reads, hf]

end Process

/-! ### The commands apply their operations -/

section Answers
variable {e : Dev} (ht : Takes d c x)
include ht

theorem Takes.operands : (decide (c < 2) && x.wf) = true := by simp [ht.ring, ht.wf]

theorem tblInsert_answers (h : opTblInsert c x d = e) : Answers (.tblInsert c x) d e :=
  answers_of (fun _ => rfl) ht.operands h

theorem tblUpdate_answers (h : opTblUpdate c x d = e) : Answers (.tblUpdate c x) d e :=
  answers_of (fun _ => rfl) ht.operands h

theorem tblDelete_answers (h : opTblDelete c x d = e) : Answers (.tblDelete c x) d e :=
  answers_of (fun _ => rfl) ht.operands h

theorem tblLookup_answers (h : opTblLookup c x d = e) : Answers (.tblLookup c x) d e :=
  answers_of (fun _ => rfl) ht.operands h

theorem tblReadIdx_answers (h : opTblReadIdx c x d = e) : Answers (.tblReadIdx c x) d e :=
  answers_of (fun _ => rfl) ht.operands h

theorem tblWriteIdx_answers (h : opTblWriteIdx c x d = e) : Answers (.tblWriteIdx c x) d e :=
  answers_of (fun _ => rfl) ht.operands h

theorem tblReadLock_answers (h : opTblReadLock c x d = e) : Answers (.tblReadLock c x) d e :=
  answers_of (fun _ => rfl) ht.operands h

theorem tblWriteUnlock_answers (h : opTblWriteUnlock c x d = e) : Answers (.tblWriteUnlock c x) d e :=
  answers_of (fun _ => rfl) ht.operands h

theorem tblUnlock_answers (h : opTblUnlock c x d = e) : Answers (.tblUnlock c x) d e :=
  answers_of (fun _ => rfl) ht.operands h

theorem tblEpoch_answers (h : opTblEpoch c x d = e) : Answers (.tblEpoch c x) d e :=
  answers_of (fun _ => rfl) ht.operands h

/-- Each command of Table 4-12 but FLUSH is a ring's processing of its descriptor. -/
theorem answers_of_dma {o : Instr × Nat} (ho : o ∈ [(.tblInsert c x, 1), (.tblUpdate c x, 2), (.tblDelete c x, 3),
    (.tblLookup c x, 4), (.tblReadIdx c x, 5), (.tblWriteIdx c x, 6), (.tblReadLock c x, 7), (.tblWriteUnlock c x, 8),
    (.tblUnlock c x, 9), (.tblEpoch c x, 11)]) : ∃ f, ∀ e, d.dma c o.2 x f = e → Answers o.1 d e := by
  revert o
  simp only [List.forall_mem_cons]
  exact ⟨⟨_, fun _ => tblInsert_answers ht⟩, ⟨_, fun _ => tblUpdate_answers ht⟩, ⟨_, fun _ => tblDelete_answers ht⟩,
    ⟨_, fun _ => tblLookup_answers ht⟩, ⟨_, fun _ => tblReadIdx_answers ht⟩, ⟨_, fun _ => tblWriteIdx_answers ht⟩,
    ⟨_, fun _ => tblReadLock_answers ht⟩, ⟨_, fun _ => tblWriteUnlock_answers ht⟩, ⟨_, fun _ => tblUnlock_answers ht⟩,
    ⟨_, fun _ => tblEpoch_answers ht⟩, fun _ h => nomatch h⟩

end Answers

/-! ### The entry of a key (R101, R102, R104) -/

section ByKey
variable (m : Bool) (f : Nat → Dev → Nat × Nat × Option (Nat × Nat) × Dev)

theorem byKey_badTable (ht : 3 ≤ x.table) : d.byKey x m f = (stBadOp, x.index, none, d) := if_pos ht

variable (ht : x.table < 3)
include ht

theorem byKey_absent (hk : d.findKey x.table (dmaKey x) = none) : d.byKey x m f = (stNotFound, x.index, none, d) := by
  simp [Dev.byKey, Nat.not_le.mpr ht, hk]

variable (hk : d.findKey x.table (dmaKey x) = some k)
include hk

theorem byKey_ue (hu : x.ue = 2) : d.byKey x m f = (stUe, k, none, d.tableUe 4 x.table k) := by
  simp [Dev.byKey, Nat.not_le.mpr ht, hk, hu]

variable (hu : x.ue ≠ 2)
include hu

theorem byKey_locked (hl : isLocked x.table (d.ent x.table k) = true) : d.byKey x true f = (stLocked, k, none, d) := by
  simp [Dev.byKey, Nat.not_le.mpr ht, hk, hu, hl]

/-- The operation goes on with an entry that is not locked, or whose lock does not matter to it. -/
theorem byKey_found (hl : (m && isLocked x.table (d.ent x.table k)) = false) : d.byKey x m f = f k d := by
  simp [Dev.byKey, Nat.not_le.mpr ht, hk, hu, hl]

end ByKey

/-! ### The obligation -/

/-- Settles O27: each clause is its command's operation in the case that the clause's hypotheses choose. -/
theorem tableDescriptorsAct : Obligations.TableDescriptorsAct := by
  intro d d' y c k x hc hw hb ho hnf
  have ht : Takes d c x := ⟨hc, hw, hb, ho, hnf⟩
  refine ⟨fun o hmem => ?beforeIt, fun hh hu => ?checks, fun hh hu hu2 htab => ?hashed, fun hh hu hu2 => ?indexed⟩
  case beforeIt =>
    obtain ⟨f, hop⟩ := answers_of_dma ht hmem
    exact ⟨fun hh => hop _ (ht.dma_halt hh), fun hh hu => hop _ (ht.dma_descriptorUe hh hu)⟩
  all_goals have h : CarriesOut d c x := ⟨ht, hh, hu⟩
  case checks =>
    refine ⟨?epoch, fun htab hbad hres hu2 => ?insertUe, fun htab hk hu2 => ?byKeyUe, fun hix hu2 => ?readIdxUe,
      fun htab => ?badTable, fun hbad => ?badEntry, fun htab hbad hres => ?reserved⟩
    case epoch => exact tblEpoch_answers ht (h.dma_writeBack rfl)
    case insertUe =>
      exact tblInsert_answers ht (h.dma_entryUe (ix := x.bad) (res := none) (by simp [Nat.not_le.mpr htab, hbad, hres, hu2]))
    case byKeyUe =>
      exact ⟨tblLookup_answers ht (h.dma_entryUe (byKey_ue _ _ htab hk hu2)),
        tblDelete_answers ht (h.dma_entryUe (byKey_ue _ _ htab hk hu2)),
        tblReadLock_answers ht (h.dma_entryUe (byKey_ue _ _ htab hk hu2)),
        tblUnlock_answers ht (h.dma_entryUe (byKey_ue _ _ htab hk hu2))⟩
    case readIdxUe =>
      exact tblReadIdx_answers ht (h.dma_entryUe ((if_neg (Nat.not_le.mpr hix)).trans (if_pos hu2)))
    case badTable =>
      exact ⟨tblInsert_answers ht (h.dma_writeBack (by simp [htab])),
        tblDelete_answers ht (h.dma_writeBack (byKey_badTable _ _ htab)),
        tblLookup_answers ht (h.dma_writeBack (byKey_badTable _ _ htab)),
        tblReadLock_answers ht (h.dma_writeBack (byKey_badTable _ _ htab)),
        tblUnlock_answers ht (h.dma_writeBack (byKey_badTable _ _ htab))⟩
    case badEntry =>
      exact ⟨tblInsert_answers ht (h.dma_writeBack (by simp [hbad])), tblUpdate_answers ht (h.dma_writeBack (if_pos hbad)),
        tblWriteUnlock_answers ht (h.dma_writeBack (if_pos hbad))⟩
    case reserved =>
      exact ⟨tblInsert_answers ht (h.dma_writeBack (by simp [Nat.not_le.mpr htab, hbad, hres])),
        tblUpdate_answers ht (h.dma_writeBack (by simp [htab, hbad, hres])),
        tblWriteUnlock_answers ht (h.dma_writeBack (by simp [htab, hbad, hres]))⟩
  case hashed =>
    refine ⟨fun hbad hres => ⟨fun hk => ⟨fun hins => ?inserted, fun hins => ?full, ?updateAbsent, ?writeUnlockAbsent⟩,
        fun hk hl => ?writeUnlocked, fun hk hl hy => ?writeLocked⟩,
      fun hk => ?absent, fun hk => ?lookup, fun hk hl => ⟨?deletes, fun hn hy => ?locks, fun hn => ?lockLimit, ?notLocked⟩,
      fun hk hl => ⟨?deleteLocked, ?readLocked, ?unlocks⟩⟩
    case inserted =>
      exact tblInsert_answers ht (h.dma_writeBack (by simp [Nat.not_le.mpr htab, hbad, hres, hu2, hk, hins]))
    case full => exact tblInsert_answers ht (h.dma_writeBack (by simp [Nat.not_le.mpr htab, hbad, hres, hu2, hk, hins]))
    case updateAbsent => exact tblUpdate_answers ht (h.dma_writeBack (by simp [hbad, hres, byKey_absent _ _ htab hk]))
    case writeUnlockAbsent => exact tblWriteUnlock_answers ht (h.dma_writeBack (by simp [hbad, hres, byKey_absent _ _ htab hk]))
    case writeUnlocked =>
      exact ⟨tblInsert_answers ht (h.dma_writeBack (by simp [Nat.not_le.mpr htab, hbad, hres, hu2, hk, hl])),
        tblUpdate_answers ht (h.dma_writeBack (by simp [hbad, hres, byKey_found true _ htab hk hu2, hl])),
        tblWriteUnlock_answers ht (h.dma_writeBack (by simp [hbad, hres, byKey_found false _ htab hk hu2, hl]))⟩
    case writeLocked =>
      subst hy
      exact ⟨tblInsert_answers ht (h.dma_writeBack (by simp [Nat.not_le.mpr htab, hbad, hres, hu2, hk, hl])),
        tblUpdate_answers ht (h.dma_writeBack (by simp [hbad, hres, byKey_locked _ htab hk hu2 hl])),
        tblWriteUnlock_answers ht (h.dma_writeBack (by simp [hbad, hres, byKey_found false _ htab hk hu2, hl]))⟩
    case absent =>
      exact ⟨tblDelete_answers ht (h.dma_writeBack (byKey_absent _ _ htab hk)),
        tblLookup_answers ht (h.dma_writeBack (byKey_absent _ _ htab hk)),
        tblReadLock_answers ht (h.dma_writeBack (byKey_absent _ _ htab hk)),
        tblUnlock_answers ht (h.dma_writeBack (byKey_absent _ _ htab hk))⟩
    case lookup => exact tblLookup_answers ht (h.dma_writeBack (byKey_found _ _ htab hk hu2 rfl))
    case deletes => exact tblDelete_answers ht (h.dma_writeBack (byKey_found _ _ htab hk hu2 hl))
    case locks =>
      subst hy
      exact tblReadLock_answers ht (h.dma_writeBack ((byKey_found true _ htab hk hu2 hl).trans (if_neg (Nat.not_le.mpr hn))))
    case lockLimit =>
      exact tblReadLock_answers ht (h.dma_writeBack ((byKey_found true _ htab hk hu2 hl).trans (if_pos hn)))
    case notLocked =>
      exact tblUnlock_answers ht (h.dma_writeBack ((byKey_found _ _ htab hk hu2 rfl).trans (if_neg (ne_true_of_eq_false hl))))
    case deleteLocked => exact tblDelete_answers ht (h.dma_writeBack (byKey_locked _ htab hk hu2 hl))
    case readLocked => exact tblReadLock_answers ht (h.dma_writeBack (byKey_locked _ htab hk hu2 hl))
    case unlocks => exact tblUnlock_answers ht (h.dma_writeBack ((byKey_found _ _ htab hk hu2 rfl).trans (if_pos hl)))
  case indexed =>
    refine ⟨fun hix => ?badIndex, fun hix => ?reads, fun hbad => ?badWrite, fun htab hix hact => ?writes⟩
    case badIndex => exact tblReadIdx_answers ht (h.dma_writeBack (if_pos hix))
    case reads =>
      exact tblReadIdx_answers ht (h.dma_writeBack (by
        simp only [Nat.not_le.mpr hix, hu2, ↓reduceIte]
        by_cases h5 : x.table = 5 <;> simp [h5]))
    case badWrite => exact tblWriteIdx_answers ht (h.dma_writeBack (if_pos (by simpa [or_assoc] using hbad)))
    case writes =>
      have hallowed : ¬ (decide (x.table < 3) || decide (tblSize x.table ≤ x.index) ||
          x.table == 5 && decide (5 ≤ nb x.entry 2 0)) = true := by
        simp only [Bool.or_eq_true, Bool.and_eq_true, decide_eq_true_eq, beq_iff_eq]
        omega
      exact ⟨fun hres => tblWriteIdx_answers ht (h.dma_writeBack ((if_neg hallowed).trans (if_pos hres))),
        fun hres => tblWriteIdx_answers ht (h.dma_writeBack ((if_neg hallowed).trans (if_neg (ne_true_of_eq_false hres))))⟩

end Sys2Proof.Machine
end

section
/-!
PROOF. Gate lists: what a list does next and the list after it, as a port's list and a stream gate's do it; the credit read,
preemption verification, the recovery time-out and the latent error test.
-/

namespace Sys2Proof.Machine

/-! ### What a list does next (R119, R122) -/

section List
variable {r r' : GateRun} {c n : ListCfg} {ent : Nat → Nat → Nat} {t : Nat}

/-- An entry that is entered ends with its interval or is cut by the cycle, and the last one ends with the cycle. -/
theorem GateRun.enter_of_cur {ent : Nat → Nat} {k : Nat} (hc : r.cur = some c) :
    r.enter ent k t = { r with entry := k, until_ := if c.len ≤ k + 1 then r.cycle0 + c.cycle
                                                     else min (t + nb (ent k) 31 0) (r.cycle0 + c.cycle) } := by
  simp only [GateRun.enter, hc]

/-- Without a list that runs on, only the pending list's start can come. -/
theorem GateRun.next_of_stopped (h : r.cur = none ∨ r.holding = true) :
    r.next = r.pend.map (fun n => (.start, n.start)) := by
  obtain hc | hh := h
  · cases hp : r.pend <;> simp [GateRun.next, hp, hc]
  · cases hp : r.pend <;> cases hc : r.cur <;> simp [GateRun.next, hp, hc, hh]

/-- The entry in effect ends inside its cycle where the pending list does not start before that or with it. -/
theorem GateRun.next_of_entry (hc : r.cur = some c) (hh : r.holding = false) (hu : r.until_ < r.cycle0 + c.cycle) :
    r.next = match r.pend with
      | some n => if n.start ≤ r.until_ then some (.start, n.start) else some (.entry, r.until_)
      | none => some (.entry, r.until_) := by
  have he : r.entryEnds = true := by simp [GateRun.entryEnds, hc, hh, hu]
  cases hp : r.pend <;> simp [GateRun.next, hp, hc, hh, he]

/-- The cycle ends with its last entry where the pending list does not start before that or with it. -/
theorem GateRun.next_of_cycle (hc : r.cur = some c) (hh : r.holding = false) (hu : r.cycle0 + c.cycle ≤ r.until_) :
    r.next = match r.pend with
      | some n => if n.start ≤ r.cycle0 + c.cycle then some (.start, n.start) else some (.cycle, r.cycle0 + c.cycle)
      | none => some (.cycle, r.cycle0 + c.cycle) := by
  have he : r.entryEnds = false := by simp [GateRun.entryEnds, hc, hu]
  cases hp : r.pend <;> simp [GateRun.next, hp, hc, hh, he]

theorem GateRun.next_start (hp : r.pend = some n)
    (he : ∀ c, r.cur = some c → r.holding = false → r.until_ < r.cycle0 + c.cycle → n.start ≤ r.until_)
    (hcy : ∀ c, r.cur = some c → r.holding = false → r.cycle0 + c.cycle ≤ r.until_ → n.start ≤ r.cycle0 + c.cycle) :
    r.next = some (.start, n.start) := by
  cases hc : r.cur with
  | none => simp [next_of_stopped (.inl hc), hp]
  | some c =>
    cases hh : r.holding with
    | true => simp [next_of_stopped (.inr hh), hp]
    | false =>
      obtain hu | hu := Nat.lt_or_ge r.until_ (r.cycle0 + c.cycle)
      · simp [next_of_entry hc hh hu, hp, he c hc hh hu]
      · simp [next_of_cycle hc hh hu, hp, hcy c hc hh hu]

theorem GateRun.next_entry (hc : r.cur = some c) (hh : r.holding = false) (hu : r.until_ < r.cycle0 + c.cycle)
    (hp : ∀ n, r.pend = some n → r.until_ < n.start) : r.next = some (.entry, r.until_) := by
  rw [next_of_entry hc hh hu]
  cases hn : r.pend with
  | none => rfl
  | some n => exact if_neg (Nat.not_le.mpr (hp n hn))

theorem GateRun.next_cycle (hc : r.cur = some c) (hh : r.holding = false) (hu : r.cycle0 + c.cycle ≤ r.until_)
    (hp : ∀ n, r.pend = some n → r.cycle0 + c.cycle < n.start) : r.next = some (.cycle, r.cycle0 + c.cycle) := by
  rw [next_of_cycle hc hh hu]
  cases hn : r.pend with
  | none => rfl
  | some n => exact if_neg (Nat.not_le.mpr (hp n hn))

/-! ### The list after it -/

theorem GateRun.advance_start (hnext : r.next = some (.start, t)) (hp : r.pend = some n) :
    r.advance ent = { r with cur := some n, cycle0 := n.start, pend := none, holding := false, err := false, entry := 0,
                             until_ := if n.len ≤ 1 then n.start + n.cycle
                                       else min (n.start + nb (ent n.bank 0) 31 0) (n.start + n.cycle) } := by
  simp only [GateRun.advance, hnext, GateRun.startPend, hp, GateRun.enter, Nat.zero_add]

theorem GateRun.advance_entry (hnext : r.next = some (.entry, t)) (hc : r.cur = some c) :
    r.advance ent = { r with entry := r.entry + 1, until_ := if c.len ≤ r.entry + 1 + 1 then r.cycle0 + c.cycle
                                       else min (r.until_ + nb (ent c.bank (r.entry + 1)) 31 0) (r.cycle0 + c.cycle) } := by
  simp only [GateRun.advance, hnext, hc, GateRun.enter_of_cur hc]

/-- A cycle that would begin within the extension before the pending start does not begin. -/
theorem GateRun.advance_cycle_holds (hnext : r.next = some (.cycle, t)) (hc : r.cur = some c) (hp : r.pend = some n)
    (hlt : r.cycle0 + c.cycle < n.start) (hext : n.start - (r.cycle0 + c.cycle) < n.ext) :
    r.advance ent = { r with holding := true } := by
  simp [GateRun.advance, hnext, GateRun.cycleEnd, hc, hp, hlt, hext]

theorem GateRun.advance_cycle_begins (hnext : r.next = some (.cycle, t)) (hc : r.cur = some c)
    (hext : ∀ n, r.pend = some n → n.ext ≤ n.start - (r.cycle0 + c.cycle)) :
    r.advance ent = { r with cycle0 := r.cycle0 + c.cycle, entry := 0,
                             until_ := if c.len ≤ 1 then r.cycle0 + c.cycle + c.cycle
                               else min (r.cycle0 + c.cycle + nb (ent c.bank 0) 31 0) (r.cycle0 + c.cycle + c.cycle) } := by
  cases hp : r.pend with
  | none => simp [GateRun.advance, hnext, GateRun.cycleEnd, hc, hp, GateRun.enter]
  | some n => simp [GateRun.advance, hnext, GateRun.cycleEnd, hc, hp, Nat.not_lt.mpr (hext n hp), GateRun.enter]

end List

/-! ### The list of a port acts (R119, R125) -/

variable {d : Dev} {t : Nat}

/-- Reaching a device time moves only the clock. -/
theorem atNs_trm (d : Dev) (t : Nat) : (d.atNs t).trm = d.trm := by
  unfold Dev.atNs
  split <;> rfl

section Port
variable {p : EthPort} {ue : Bool} {r' : GateRun}

theorem tas_atNs : (d.atNs t).tas p = d.tas p := by simp only [Dev.tas, atNs_trm]

theorem gclEnt_atNs : (d.atNs t).gclEnt p = d.gclEnt p := by
  funext bank k
  simp only [Dev.gclEnt, atNs_trm]

section Acts
variable (hadv : (d.tas p).advance (d.gclEnt p) = r')
include hadv

theorem gateActs_atNs : (d.atNs t).gateActs p false = ((d.atNs t).setTas p r').applyEntry p := by
  simp [Dev.gateActs, tas_atNs, gclEnt_atNs, hadv]

theorem gateActs_atNs_ue {c : ListCfg} (hc : r'.cur = some c) : (d.atNs t).gateActs p true =
    ((d.atNs t).gclStop p).uncorrectable 7 (trmUnit 4 (p * 2048 + c.bank * 1024 + r'.entry)) 8 := by
  simp [Dev.gateActs, tas_atNs, gclEnt_atNs, hadv, hc]

end Acts

/-- A port's list starts at its turn, its advance ahead of its start (R145). -/
theorem opGateListStart_turn (hn : (d.tas p).next = some (.start, t)) (hh : d.pw.halted = false)
    (ht : d.turn (d.turnAt (.gate p) (t - d.tasAdv p)) = true) :
    opGateListStart p ue d = (d.atNs (t - d.tasAdv p)).gateActs p ue := by
  simp [opGateListStart, hn, hh, ht]

theorem opGateListStart_halt (hh : d.pw.halted = true) : opGateListStart p ue d = d := by
  unfold opGateListStart
  split
  · simp [hh]
  · rfl

theorem opGateEntryEnd_ends (hn : (d.tas p).next = some (.entry, t)) :
    opGateEntryEnd p ue d = (d.atNs (t - d.tasAdv p)).gateActs p ue := by simp only [opGateEntryEnd, hn]

theorem opGateCycleEnd_ends (hn : (d.tas p).next = some (.cycle, t)) :
    opGateCycleEnd p ue d = (d.atNs (t - d.tasAdv p)).gateActs p ue := by simp only [opGateCycleEnd, hn]

end Port

/-! ### The list of a stream gate acts (R111) -/

section StreamGate
variable {g : Nat} {e : Dev}

theorem opStreamGateStart_turn (hn : (d.gateRun g).next = some (.start, t)) (hh : d.pw.halted = false)
    (ht : d.turn (d.turnAt (.streamGate g) t) = true) :
    opStreamGateStart g d = (d.atNs t).setGateRun g ((d.gateRun g).advance (d.gateEnt g)) := by
  simp [opStreamGateStart, hn, hh, ht]

theorem opStreamGateStart_halt (hh : d.pw.halted = true) : opStreamGateStart g d = d := by
  unfold opStreamGateStart
  split
  · simp [hh]
  · rfl

theorem opStreamGateEntryEnd_ends {ev : ListEvent} (hn : (d.gateRun g).next = some (ev, t)) (hev : ev ≠ .start) :
    opStreamGateEntryEnd g d = (d.atNs t).setGateRun g ((d.gateRun g).advance (d.gateEnt g)) := by
  cases ev with
  | start => exact absurd rfl hev
  | entry => simp only [opStreamGateEntryEnd, hn]
  | cycle => simp only [opStreamGateEntryEnd, hn]

variable (hg : g < 128)
include hg

theorem streamGateListStart_answers (h : opStreamGateStart g d = e) : Answers (.streamGateListStart g) d e :=
  answers_of (fun _ => rfl) (decide_eq_true hg) h

theorem streamGateEntryEnd_answers (h : opStreamGateEntryEnd g d = e) : Answers (.streamGateEntryEnd g) d e :=
  answers_of (fun _ => rfl) (decide_eq_true hg) h

end StreamGate

/-! ### Preemption verification (R124), the recovery time-out (R114) and the latent error test (R116) -/

theorem opVerifyDone_inProgress {p : EthPort} (ok : Bool) (h : d.get (TRM_PRE_STAT_verify p) = 2) :
    opVerifyDone p ok d = if ok then d.put (TRM_PRE_STAT_verify p) 3
      else (d.put (TRM_PRE_STAT_verify p) 4).raise (pgTRM (4 + p / 20)) 10 := by
  simp [opVerifyDone, h]

section Recovery
variable {f e : Nat}

theorem opRecoveryReset_due {y : Dev} (h : d.due ⟨.recovReset, f, 0⟩ = some e)
    (hy : (d.at_ e).cancel ⟨.recovReset, f, 0⟩ = y) : opRecoveryReset f d = (y.recReset f).raise (pgTRM 3) 9 :=
  hy ▸ onTimer_due d _ h

theorem opLatentTest_due {y : Dev} (h : d.due ⟨.latent, f, 0⟩ = some e)
    (hy : ((d.at_ e).cancel ⟨.latent, f, 0⟩).arm ⟨.latent, f, 0⟩ (e + msT (nb (d.recRec f) 56 41)) = y) :
    opLatentTest f d =
      let z := y.setRecov f { y.recov f with passed := 0, discarded := 0 }
      if (y.recov f).discarded + nb (y.recRec f) 40 25 < (y.recov f).passed then (z.recCount f 7 1).raise (pgTRM 3) 8
      else z :=
  hy ▸ onPeriod_due d _ h

variable {y : Dev} (hf : f < 1024)
include hf

theorem recoveryResetTimeout_answers (h : opRecoveryReset f d = y) : Answers (.recoveryResetTimeout f) d y :=
  answers_of (fun _ => rfl) (decide_eq_true hf) h

theorem latentErrorTest_answers (h : opLatentTest f d = y) : Answers (.latentErrorTest f) d y :=
  answers_of (fun _ => rfl) (decide_eq_true hf) h

end Recovery

/-! ### The obligation -/

/-- Settles O30: each clause on a list rests on what the list does next and on the list after it; the others are their
command's operation in the case that the clause's hypotheses choose. -/
theorem gatesAct : Obligations.GatesAct := by
  intro d y z i p g e t f r r' c n v ent hg hf
  refine ⟨fun hp hent hr' hcyc => ?starts, fun hc hh hu hp hr' => ?entryEnds, fun hc hh ht hu hp hr' => ?cycleEnds,
    fun hacc hl hy => ?credit, fun hver => ⟨?verified, ?verifyFails⟩, fun hdue hy hz => ?recoveryTimeout,
    fun hdue ht hy hz => ⟨fun hlow => ?latentReports, fun hok => ?latentSilent⟩⟩
  case starts =>
    have hnext : r.next = some (.start, n.start) := GateRun.next_start hp hent hcyc
    have hadv : r.advance ent = r' := (GateRun.advance_start hnext hp).trans hr'.symm
    have hcur : r'.cur = some n := by rw [hr']
    have hentry : r'.entry = 0 := by rw [hr']
    refine ⟨fun hr he ht hy => ?port, fun hr he => ?gate⟩
    case port =>
      subst hr he ht hy
      refine ⟨fun hh hturn => ?acts, fun hh hturn => ?stops, fun hh => ?halted⟩
      case acts =>
        exact answers_of_effect (fun _ => rfl) ((opGateListStart_turn hnext hh hturn).trans (gateActs_atNs hadv))
      case stops =>
        exact answers_of_effect (fun _ => rfl) ((opGateListStart_turn hnext hh hturn).trans
          (by rw [gateActs_atNs_ue hadv hcur, hentry, Nat.add_zero]))
      case halted => exact answers_of_effect (fun _ => rfl) (opGateListStart_halt hh)
    case gate =>
      subst hr he hadv
      exact ⟨fun hh hturn => streamGateListStart_answers hg (opStreamGateStart_turn hnext hh hturn),
        fun hh => streamGateListStart_answers hg (opStreamGateStart_halt hh)⟩
  case entryEnds =>
    have hnext : r.next = some (.entry, r.until_) := GateRun.next_entry hc hh hu hp
    have hadv : r.advance ent = r' := (GateRun.advance_entry hnext hc).trans hr'.symm
    have hcur : r'.cur = some c := by rw [hr']; exact hc
    have hentry : r'.entry = r.entry + 1 := by rw [hr']
    refine ⟨fun hr he hy => ?port, fun hr he => ?gate⟩
    case port =>
      subst hr he hy
      exact ⟨answers_of_effect (fun _ => rfl) ((opGateEntryEnd_ends hnext).trans (gateActs_atNs hadv)),
        answers_of_effect (fun _ => rfl) ((opGateEntryEnd_ends hnext).trans (hentry ▸ gateActs_atNs_ue hadv hcur))⟩
    case gate =>
      subst hr he hadv
      exact streamGateEntryEnd_answers hg (opStreamGateEntryEnd_ends hnext nofun)
  case cycleEnds =>
    subst ht
    have hnext : r.next = some (.cycle, r.cycle0 + c.cycle) := GateRun.next_cycle hc hh hu hp
    obtain ⟨hadv, hcur⟩ : r.advance ent = r' ∧ r'.cur = some c := by
      obtain ⟨rfl, m, hm, hext⟩ | ⟨rfl, hext⟩ := hr'
      · exact ⟨GateRun.advance_cycle_holds hnext hc hm (hp m hm) hext, hc⟩
      · exact ⟨GateRun.advance_cycle_begins hnext hc hext, hc⟩
    refine ⟨fun hr he hy => ?port, fun hr he => ?gate⟩
    case port =>
      subst hr he hy
      exact ⟨answers_of_effect (fun _ => rfl) ((opGateCycleEnd_ends hnext).trans (gateActs_atNs hadv)),
        answers_of_effect (fun _ => rfl) ((opGateCycleEnd_ends hnext).trans (gateActs_atNs_ue hadv hcur))⟩
    case gate =>
      subst hr he hadv
      exact streamGateEntryEnd_answers hg (opStreamGateEntryEnd_ends hnext nofun)
  case credit =>
    subst hy
    exact answers_of_effect (fun _ => rfl) (write_accepts _ _ _ hacc hl)
  case verified => exact answers_of_effect (fun _ => rfl) (opVerifyDone_inProgress true hver)
  case verifyFails => exact answers_of_effect (fun _ => rfl) (opVerifyDone_inProgress false hver)
  case recoveryTimeout =>
    subst hz
    exact recoveryResetTimeout_answers hf (opRecoveryReset_due hdue hy.symm)
  case latentReports =>
    subst ht hz
    exact latentErrorTest_answers hf ((opLatentTest_due hdue hy.symm).trans (if_pos hlow))
  case latentSilent =>
    subst ht hz
    exact latentErrorTest_answers hf ((opLatentTest_due hdue hy.symm).trans (if_neg (Nat.not_lt.mpr hok)))

end Sys2Proof.Machine
end

section
/-!
PROOF. The items of an egress timestamp queue, packed from their fields (Table 6-6).
-/

namespace Sys2Proof.Machine

/-! ### Numbers in network order -/

/-- The bytes that follow a number put it below the next number followed by zeros. -/
theorem foldl_bytes_lt (bs : List Byte) (acc : Nat) :
    bs.foldl (fun acc b => acc * 256 + b.toNat) acc < (acc + 1) * 256 ^ bs.length := by
  induction bs generalizing acc with
  | nil => simp only [List.foldl_nil, List.length_nil, Nat.pow_zero, Nat.mul_one, Nat.lt_add_one]
  | cons b bs ih =>
    have hstep : acc * 256 + b.toNat + 1 ≤ (acc + 1) * 256 := by have hb := b.isLt; omega
    rw [List.foldl_cons, List.length_cons, Nat.pow_succ']
    calc
      _ < (acc * 256 + b.toNat + 1) * 256 ^ bs.length := ih _
      _ ≤ (acc + 1) * 256 * 256 ^ bs.length := Nat.mul_le_mul_right _ hstep
      _ = (acc + 1) * (256 * 256 ^ bs.length) := Nat.mul_assoc _ _ _

theorem ofBe_lt (bs : List Byte) : ofBe bs < 256 ^ bs.length := by
  rw [← Nat.one_mul (256 ^ bs.length)]
  exact foldl_bytes_lt bs 0

theorem be_lt (bs : List Byte) (a n : Nat) : be bs a n < 256 ^ n := by
  simpa [be] using ofBe_lt ((List.range n).map (fun i => bs.getD (a + i) 0))

/-! ### The fields of an item -/

/-- A timestamp item of its fields: messageType, `dm`, domain slot, sequenceId, ns and fraction. -/
def tsWord (msg dm slot seq ns frac : Nat) : Nat :=
  2 ^ 60 + msg * 2 ^ 56 + dm * 2 ^ 55 + slot * 2 ^ 53 + seq * 2 ^ 37 + ns * 2 ^ 4 + frac

/-- Fields that keep to their widths come back out of the item they are packed into. -/
theorem tsWord_fields {msg dm slot seq ns frac : Nat} (hm : msg < 16) (hd : dm < 2) (hs : slot < 4) (hq : seq < 65536)
    (hn : ns < 2 ^ 33) (hf : frac < 16) :
    tsWord msg dm slot seq ns frac < 2 ^ 64 ∧ nb (tsWord msg dm slot seq ns frac) 63 60 = 1 ∧
      nb (tsWord msg dm slot seq ns frac) 59 56 = msg ∧ nb (tsWord msg dm slot seq ns frac) 55 55 = dm ∧
      nb (tsWord msg dm slot seq ns frac) 54 53 = slot ∧ nb (tsWord msg dm slot seq ns frac) 52 37 = seq ∧
      nb (tsWord msg dm slot seq ns frac) 36 4 = ns ∧ nb (tsWord msg dm slot seq ns frac) 3 0 = frac := by
  simp only [nb, tsWord]
  omega

theorem markerItem_fields (n : Nat) :
    markerItem n < 2 ^ 64 ∧ nb (markerItem n) 63 60 = 2 ∧ nb (markerItem n) 59 36 = 0 ∧ nb (markerItem n) 35 4 = n % 2 ^ 32 ∧
      nb (markerItem n) 3 0 = 0 := by
  simp only [nb, markerItem]
  omega

/-! ### The domain slot of a PTP header -/

/-- The first enabled domain slot with the domain number `dom`. -/
def Dev.domSlot (d : Dev) (dom : Nat) : Option Nat :=
  (List.range 4).find? (fun s => d.flag (TIM_DOM_CFG_en s) && d.get (TIM_DOM_CFG_number s) == dom)

variable {d : Dev} {dom s : Nat}

theorem Dev.domSlot_lt (h : d.domSlot dom = some s) : s < 4 :=
  List.mem_range.mp (List.mem_of_find?_eq_some h)

/-- A slot that is off, or has another number, is not the one looked for. -/
theorem domSlot_passes {k : Nat} (h : d.flag (TIM_DOM_CFG_en k) = false ∨ d.get (TIM_DOM_CFG_number k) ≠ dom) :
    (d.flag (TIM_DOM_CFG_en k) && d.get (TIM_DOM_CFG_number k) == dom) = false := by
  obtain he | hn := h
  · rw [he, Bool.false_and]
  · rw [beq_false_of_ne hn, Bool.and_false]

theorem Dev.domSlot_first (hs : s < 4) (he : d.flag (TIM_DOM_CFG_en s) = true) (hn : d.get (TIM_DOM_CFG_number s) = dom)
    (hb : ∀ k, k < s → d.flag (TIM_DOM_CFG_en k) = false ∨ d.get (TIM_DOM_CFG_number k) ≠ dom) : d.domSlot dom = some s := by
  rw [domSlot, List.find?_range_eq_some]
  exact ⟨by rw [he, hn, beq_self_eq_true, Bool.and_true], List.mem_range.mpr hs, fun k hk => by
    rw [domSlot_passes (hb k hk), Bool.not_false]⟩

theorem Dev.domSlot_none (h : ∀ k, k < 4 → d.flag (TIM_DOM_CFG_en k) = false ∨ d.get (TIM_DOM_CFG_number k) ≠ dom) :
    d.domSlot dom = none :=
  List.find?_eq_none.mpr fun k hk => ne_true_of_eq_false (domSlot_passes (h k (List.mem_range.mp hk)))

/-! ### The item of a frame's timestamp -/

/-- The low 33 bits of a time's ns, and its fraction in units of 1/16 ns. -/
def tsNs (q : Int) : Nat := (q / 65536 % 2 ^ 33).toNat
def tsFrac (q : Int) : Nat := (q % 65536).toNat / 4096

theorem tsNs_lt (q : Int) : tsNs q < 2 ^ 33 := by unfold tsNs; omega
theorem tsFrac_lt (q : Int) : tsFrac q < 16 := by unfold tsFrac; omega
theorem tsNs_cast (q : Int) : (tsNs q : Int) = q / 65536 % 2 ^ 33 := by unfold tsNs; omega
theorem tsFrac_cast (q : Int) : (tsFrac q : Int) = q % 65536 / 4096 := by unfold tsFrac; omega

variable {bs : List Byte} {a : Nat}

theorem tsItem_of_noPtp (q : Int) (h : ptpAt bs = none) : d.tsItem bs q = tsWord 0xF 0 0 0xFFFF (tsNs q) (tsFrac q) := by
  simp only [Dev.tsItem, h, tsWord, tsNs, tsFrac]
  omega

section Header
variable (h : ptpAt bs = some a) (q : Int)
include h

theorem tsItem_of_domSlot (hs : d.domSlot (be bs (a + 4) 1) = some s) :
    d.tsItem bs q = tsWord (be bs a 1 % 16) 1 s (be bs (a + 30) 2) (tsNs q) (tsFrac q) := by
  rw [Dev.domSlot] at hs
  simp only [Dev.tsItem, h, hs, tsWord, tsNs, tsFrac]
  omega

theorem tsItem_of_noDomSlot (hs : d.domSlot (be bs (a + 4) 1) = none) :
    d.tsItem bs q = tsWord (be bs a 1 % 16) 0 0 (be bs (a + 30) 2) (tsNs q) (tsFrac q) := by
  rw [Dev.domSlot] at hs
  simp only [Dev.tsItem, h, hs, tsWord, tsNs, tsFrac]
  omega

end Header

/-- Every timestamp item is packed from fields that keep to their widths, those of the header where the frame has one. -/
theorem tsItem_eq (d : Dev) (bs : List Byte) (q : Int) : ∃ msg dm slot seq, msg < 16 ∧ dm < 2 ∧ slot < 4 ∧ seq < 65536 ∧
    d.tsItem bs q = tsWord msg dm slot seq (tsNs q) (tsFrac q) ∧
    ∀ a, ptpAt bs = some a → msg = be bs a 1 % 16 ∧ seq = be bs (a + 30) 2 ∧
      (dm, slot) = (d.domSlot (be bs (a + 4) 1)).elim (0, 0) (fun s => (1, s)) := by
  cases hp : ptpAt bs with
  | none => exact ⟨_, _, _, _, by decide, by decide, by decide, by decide, tsItem_of_noPtp q hp, nofun⟩
  | some a =>
    have hm : be bs a 1 % 16 < 16 := Nat.mod_lt _ (by decide)
    have hseq : be bs (a + 30) 2 < 65536 := be_lt bs (a + 30) 2
    cases hs : d.domSlot (be bs (a + 4) 1) with
    | none =>
      refine ⟨_, _, _, _, hm, by decide, by decide, hseq, tsItem_of_noDomSlot hp q hs, ?_⟩
      rintro _ ⟨⟩
      exact ⟨rfl, rfl, by rw [hs]; rfl⟩
    | some s =>
      refine ⟨_, _, _, _, hm, by decide, Dev.domSlot_lt hs, hseq, tsItem_of_domSlot hp q hs, ?_⟩
      rintro _ ⟨⟩
      exact ⟨rfl, rfl, by rw [hs]; rfl⟩

/-! ### A read of an empty queue -/

theorem opTsqRead_empty {i : Initiator} {p : EthPort} (hacc : d.accepts i = true) (hq : d.tsqItems p = []) :
    opTsqRead i p false d = (d.wr (TIM_TSQ_HI p) 0xF0000000).emit (.readValue i (TIM_TSQ_LO p) 0) := by
  simp only [opTsqRead, access_accepts _ hacc, Bool.false_eq_true, ↓reduceIte, hq]

/-! ### The obligation -/

/-- Settles O58: every item is packed from fields that keep to their widths, so each field reads back. -/
theorem timestampItemIsLaidOut : Obligations.TimestampItemIsLaidOut := by
  intro d i p bs q a s n
  obtain ⟨msg, dm, slot, seq, hm, hd, hs, hseq, hitem, hheader⟩ := tsItem_eq d bs q
  obtain ⟨hlt, hkind, hmsg, hdm, hslot, hsq, hns, hfrac⟩ := tsWord_fields hm hd hs hseq (tsNs_lt q) (tsFrac_lt q)
  rw [hitem]
  refine ⟨⟨hlt, hkind, by rw [hns, tsNs_cast], by rw [hfrac, tsFrac_cast]⟩, fun hptp => ?header, markerItem_fields n,
    fun hacc hq => ?idle⟩
  case header =>
    obtain ⟨rfl, rfl, hdom⟩ := hheader a hptp
    refine ⟨hmsg, hsq, fun hs4 hen hnum hfirst => ?inSlot, fun hnone => ?noSlot⟩
    case inSlot =>
      rw [Dev.domSlot_first hs4 hen hnum hfirst] at hdom
      obtain ⟨rfl, rfl⟩ := Prod.mk.inj hdom
      exact ⟨hdm, hslot⟩
    case noSlot =>
      rw [Dev.domSlot_none hnone] at hdom
      obtain ⟨rfl, rfl⟩ := Prod.mk.inj hdom
      exact hdm
  case idle =>
    refine reaches_of_effect (fun _ => rfl) ?_
    rw [opTsqRead_empty hacc hq]
    exact ⟨rfl, by simp⟩

end Sys2Proof.Machine
end

section
/-!
PROOF. CAN transmission: how a transmission ends, the way into and out of bus-off, and the launch of a timed object.
-/

namespace Sys2Proof.Machine

variable {d x y z : Dev} {ch : CanCh} {b : Bid} {r : BusRecord} {w : Draw} {n e : Nat}

/-! ### A frame sent (R181) -/

section Sent
variable (hy : (((d.emit (.busFrame (canPort ch) (d.canForm ch r) d.now)).touch (canPort ch)).count (CAN_CNT ch 9)) = y)
  (hz : y.put (CAN_STAT_tec ch) (((d.emit (.busFrame (canPort ch) (d.canForm ch r) d.now)).touch (canPort ch)).get
    (CAN_STAT_tec ch) - 1) = z)
  (hx : (if z.get (CAN_STAT_tec ch) < 128 ∧ z.get (CAN_STAT_rec ch) < 128 then z.put (CAN_STAT_state ch) 0 else z) = x)
include hy hz hx

/-- A copy that a timed object keeps stays kept; its bid ends. -/
theorem opCanTxDone_copy (hcur : d.canCur ch = some (.copy n r)) :
    opCanTxDone ch d = (x.setBids ch ((x.bids ch).filter (fun m => m != n))).canIdle ch := by
  subst hy hz hx
  simp only [opCanTxDone, hcur, Dev.bidRecord]

section Drawn
variable (hcur : d.canCur ch = some (.draw n)) (hrec : d.bidRecord ch (.draw n) = some r)
  (hw : (x.drawsOf (canPort ch)).find? (fun t : Draw => t.copy.serial == n) = some w)
include hcur hrec hw

theorem opCanTxDone_bidSet (hp : w.place = 0) : opCanTxDone ch d = (x.endDraw w).canIdle ch := by
  subst hy hz hx
  simp only [opCanTxDone, hcur, hrec, hw, hp, ↓reduceIte]

theorem opCanTxDone_timed (hp : w.place ≠ 0) {u : Dev} (hu : x.endDraw w = u) :
    opCanTxDone ch d = (((u.setKept ch (w.place - 1) (some r)).setBids ch
      ((u.bids ch).filter (fun m => m != w.place - 1))).showFull ch (w.place - 1)).canIdle ch := by
  subst hy hz hx hu
  simp only [opCanTxDone, hcur, hrec, hw, hp, ↓reduceIte]

end Drawn

end Sent

/-! ### Arbitration lost, and an error (R182, R184, R186) -/

section Ended
variable (hcur : d.canCur ch = some b)
include hcur

theorem opCanArbLost_sending : opCanArbLost ch d = ((d.setCanCur ch none).count (CAN_CNT ch 10)).canYield ch := by
  simp only [opCanArbLost, hcur]

theorem opCanTxError_sending {lec : Nat} {clash : Bool} (ex : Bool) (n : Nat)
    (hy : (d.count (CAN_CNT ch 11)).put (CAN_STAT_lec ch) lec = y)
    (hz : (if clash = true then (y.bidRecord ch b).elim y (fun r => y.clash ch r) else y) = z) :
    opCanTxError ch lec clash ex n d = (((z.put (CAN_STAT_tec ch) (min 511 (z.get (CAN_STAT_tec ch) +
      ((if ex && z.tecExempt ch lec then 0 else 8) + 8 * n)))).canRetry ch b).canConfine ch).canIdle ch := by
  subst hz
  simp only [opCanTxError, hcur, hy]
  cases clash with
  | false => rfl
  | true => cases hr : y.bidRecord ch b <;> rfl

end Ended

/-! ### Bus-off and recovery (R184) -/

/-- The channel waits, behind those that wait already, for the idle sequences that end its bus-off. -/
def Dev.awaitRecovery (ch : CanCh) (d : Dev) : Dev :=
  { d with bus := { d.bus with recovering := d.bus.recovering.filter (fun c => c != ch.val) ++ [ch.val] } }

theorem opBoffWait_due (h : d.due ⟨.boffWait, ch, 0⟩ = some e) (hy : (d.at_ e).cancel ⟨.boffWait, ch, 0⟩ = y) :
    opBoffWait ch d = if y.canState ch = 2 then y.awaitRecovery ch else y :=
  hy ▸ onTimer_due d _ h

theorem opBoffRestart_accepts {i : Initiator} (h : d.accepts i = true) :
    opBoffRestart i ch d = if d.canState ch = 2 ∧ bitsOf (d.canUse ch 0) 16 16 = 0 then d.awaitRecovery ch else d :=
  access_accepts _ h

theorem opBoffRecovered_recovers (hs : d.canState ch = 2) (hr : d.bus.recovering.contains ch.val = true)
    (hy : ((({ d with bus := { d.bus with recovering := d.bus.recovering.filter (fun c => c != ch.val) } } : Dev).put
      (CAN_STAT_state ch) 0).put (CAN_STAT_tec ch) 0).put (CAN_STAT_rec ch) 0 = y)
    (hz : (y.cancel ⟨.boffWait, ch, 0⟩).cancel ⟨.boffHold, ch, 0⟩ = z) :
    opBoffRecovered ch d =
      ((if z.isoed (pgCAN ch) then z else z.drainOff (canPort ch)).raise (pgCAN ch) 19).canIdle ch := by
  subst hy hz
  exact if_neg (by simp [hs, List.contains_iff_mem.mp hr])

theorem opBoffHold_due (h : d.due ⟨.boffHold, ch, 0⟩ = some e) (hy : (d.at_ e).cancel ⟨.boffHold, ch, 0⟩ = y) :
    opBoffHold ch d = if y.canState ch ≠ 2 then y
      else (((y.drainDraws (canPort ch)).setBids ch []).each (List.range 16) (fun k t => t.showFull ch k)).drainOn
        (canPort ch) :=
  hy ▸ onTimer_due d _ h

/-! ### The launch of a timed object (R183) -/

section Launch
variable {k : TimSlot}

theorem canLaunch_draw (h : d.objDraw ch k = some w) :
    d.canLaunch ch k = (d.setCanCur ch (some (.draw w.copy.serial))).emit (.canSof ch (d.now + nsT 50)) := by
  simp only [Dev.canLaunch, h]

theorem canLaunch_copy (hd : d.objDraw ch k = none) (hk : d.keptAt ch k = some r) :
    d.canLaunch ch k = (d.setCanCur ch (some (.copy k r))).emit (.canSof ch (d.now + nsT 50)) := by
  simp only [Dev.canLaunch, hd, hk, Option.map_some]

/-- A timed object has a frame to send: a drawn one, or the copy that it repeats. -/
def Dev.objSends (d : Dev) (ch : CanCh) (k : TimSlot) : Bool :=
  (d.objDraw ch k).isSome || (d.flag (CAN_TO_CFG_repeat ch k) && (d.keptAt ch k).isSome)

theorem objSends_true (h : (d.objDraw ch k).isSome = true ∨
    (d.flag (CAN_TO_CFG_repeat ch k) = true ∧ (d.keptAt ch k).isSome = true)) : d.objSends ch k = true := by
  simpa [Dev.objSends] using h

theorem objSends_false (hd : d.objDraw ch k = none) (h : d.flag (CAN_TO_CFG_repeat ch k) = false ∨ d.keptAt ch k = none) :
    d.objSends ch k = false := by
  obtain hr | hk := h
  · simp [Dev.objSends, hd, hr]
  · simp [Dev.objSends, hd, hk]

/-- A timed object joins arbitration, its errors counted afresh. -/
def Dev.joinBids (ch : CanCh) (k : TimSlot) (d : Dev) : Dev :=
  let y := d.setBids ch (d.bids ch ++ [k.val])
  { y with bus := { y.bus with copyErrors := NMap.set 0 y.bus.copyErrors (ch * 16 + k) 0 } }

variable (ha : d.armed (.can ch k) = true) (hh : d.pw.halted = false) (hc : ctlAction (d.slot (.can ch k)).ctl = 4)
  (ht : d.turn (d.turnAt (.can ch k) (d.slot (.can ch k)).time) = true) (hl : d.lateTick (.can ch k) = none)
  (hz : d.atNs (d.slot (.can ch k)).time = z)
include ha hh hc ht hl hz

theorem opTimedDispatch_onTime : opTimedDispatch ch k d = Dev.complete (.can ch k) false
    (if !z.flag (CAN_TO_CFG_en ch k) || !z.objSends ch k then z.count (CAN_CNT ch 20)
     else if (z.bids ch).contains k.val then z.count (CAN_CNT ch 21)
     else if !z.canFree ch || (z.objDraw ch k).any (fun w => decide (z.now < w.ready)) then
       ((z.joinBids ch k).count (CAN_CNT ch 19)).raise (pgCAN ch) 17
     else (z.joinBids ch k).canLaunch ch k) :=
  hz ▸ launch_onTime _ ha (by rw [hc]; rfl) hh ht hl

/-- An object that is off, or has no frame to send, is counted. -/
theorem opTimedDispatch_nothing (h : z.flag (CAN_TO_CFG_en ch k) = false ∨ z.objSends ch k = false) :
    opTimedDispatch ch k d = (z.count (CAN_CNT ch 20)).complete (.can ch k) false := by
  rw [opTimedDispatch_onTime ha hh hc ht hl hz, if_pos (by simpa using h)]

section Ready
variable (hen : z.flag (CAN_TO_CFG_en ch k) = true) (hs : z.objSends ch k = true)
include hen hs

/-- An object whose last frame still bids is counted. -/
theorem opTimedDispatch_bidding (hb : (z.bids ch).contains k.val = true) :
    opTimedDispatch ch k d = (z.count (CAN_CNT ch 21)).complete (.can ch k) false := by
  rw [opTimedDispatch_onTime ha hh hc ht hl hz, if_neg (by simp [hen, hs]), if_pos hb]

variable (hb : (z.bids ch).contains k.val = false)
include hb

/-- A frame that cannot start at once is late, and bids. -/
theorem opTimedDispatch_late
    (h : z.canFree ch = false ∨ (z.objDraw ch k).any (fun w => decide (z.now < w.ready)) = true) :
    opTimedDispatch ch k d =
      (((z.joinBids ch k).count (CAN_CNT ch 19)).raise (pgCAN ch) 17).complete (.can ch k) false := by
  rw [opTimedDispatch_onTime ha hh hc ht hl hz, if_neg (by simp [hen, hs]), if_neg (ne_true_of_eq_false hb),
    if_pos (by simpa using h)]

theorem opTimedDispatch_starts (hf : z.canFree ch = true) (hr : ∀ w, z.objDraw ch k = some w → w.ready ≤ z.now) :
    opTimedDispatch ch k d = ((z.joinBids ch k).canLaunch ch k).complete (.can ch k) false := by
  have hready : (z.objDraw ch k).any (fun w => decide (z.now < w.ready)) = false := by
    cases hd : z.objDraw ch k with
    | none => rfl
    | some w => simpa using hr w hd
  rw [opTimedDispatch_onTime ha hh hc ht hl hz, if_neg (by simp [hen, hs]), if_neg (ne_true_of_eq_false hb),
    if_neg (by simp [hf, hready])]

end Ready
end Launch

/-! ### The obligation -/

/-- Settles O36: each clause is its command's operation in the case that the clause's hypotheses choose. -/
theorem canTransmissionAct : Obligations.CanTransmissionAct := by
  intro d u x y z i ch k b r w e lec n clash ex
  refine ⟨fun hcur hrec hy hz hx => ⟨fun hb => ?copySent, fun hb hw => ⟨fun hp => ?drawnSent, fun hp hu => ?timedSent⟩⟩,
    fun hcur => ?arbLost, fun hlec hcur hy hz => ?error,
    fun hdue hy => ⟨fun hs => ?waitEnds, fun hs => ?waitStale⟩,
    fun hacc => ⟨fun hs hauto => ?restarts, fun h => ?restartsNothing⟩, fun hs hr hy hz => ?recovered,
    fun hdue hy => ⟨fun hs => ?holdEnds, fun hs => ?holdStale⟩,
    fun ha hh hc ht hl hz => ⟨fun h => ?launchesNothing, fun hen hhas => ⟨fun hb => ?stillBids, fun hb hy hx =>
      ⟨fun hlate => ?late, fun hfree hw hready hxw => ?drawnStarts, fun hfree hw hxw hkept => ?copyStarts⟩⟩⟩⟩
  case copySent =>
    subst hb
    exact answers_of_effect (fun _ => rfl) (opCanTxDone_copy hy.symm hz.symm hx.symm hcur)
  case drawnSent =>
    subst hb
    exact answers_of_effect (fun _ => rfl) (opCanTxDone_bidSet hy.symm hz.symm hx.symm hcur hrec hw hp)
  case timedSent =>
    subst hb
    exact answers_of_effect (fun _ => rfl) (opCanTxDone_timed hy.symm hz.symm hx.symm hcur hrec hw hp hu.symm)
  case arbLost => exact answers_of_effect (fun _ => rfl) (opCanArbLost_sending hcur)
  case error =>
    exact answers_of (fun _ => rfl) (decide_eq_true hlec) (opCanTxError_sending hcur ex n hy.symm hz.symm)
  case waitEnds => exact answers_of_effect (fun _ => rfl) ((opBoffWait_due hdue hy.symm).trans (if_pos hs))
  case waitStale => exact answers_of_effect (fun _ => rfl) ((opBoffWait_due hdue hy.symm).trans (if_neg hs))
  case restarts =>
    exact answers_of_effect (fun _ => rfl) ((opBoffRestart_accepts hacc).trans (if_pos ⟨hs, hauto⟩))
  case restartsNothing =>
    exact answers_of_effect (fun _ => rfl) ((opBoffRestart_accepts hacc).trans (if_neg fun ⟨hs, hauto⟩ => h.elim (absurd hs) (absurd hauto)))
  case recovered => exact answers_of_effect (fun _ => rfl) (opBoffRecovered_recovers hs hr hy.symm hz.symm)
  case holdEnds =>
    exact answers_of_effect (fun _ => rfl) ((opBoffHold_due hdue hy.symm).trans (if_neg (not_not_intro hs)))
  case holdStale => exact answers_of_effect (fun _ => rfl) ((opBoffHold_due hdue hy.symm).trans (if_pos hs))
  case launchesNothing =>
    have hnothing := h.imp_right fun ⟨hdraw, hcopy⟩ => objSends_false hdraw hcopy
    exact answers_of_effect (fun _ => rfl) (opTimedDispatch_nothing ha hh hc ht hl hz.symm hnothing)
  case stillBids =>
    exact answers_of_effect (fun _ => rfl)
      (opTimedDispatch_bidding ha hh hc ht hl hz.symm hen (objSends_true hhas) hb)
  case late =>
    subst hy hx
    exact answers_of_effect (fun _ => rfl)
      (opTimedDispatch_late ha hh hc ht hl hz.symm hen (objSends_true hhas) hb hlate)
  case drawnStarts =>
    subst hy hx
    have hstarts := opTimedDispatch_starts ha hh hc ht hl hz.symm hen (objSends_true hhas) hb hfree
      (fun v hv => Option.some.inj (hw.symm.trans hv) ▸ hready)
    exact answers_of_effect (fun _ => rfl) (hstarts.trans (congrArg _ (canLaunch_draw hxw)))
  case copyStarts =>
    subst hy hx
    have hstarts := opTimedDispatch_starts ha hh hc ht hl hz.symm hen (objSends_true hhas) hb hfree
      (fun v hv => absurd (hw.symm.trans hv) nofun)
    exact answers_of_effect (fun _ => rfl) (hstarts.trans (congrArg _ (canLaunch_copy hxw hkept)))

end Sys2Proof.Machine
end

section
/-!
PROOF. A step: the command at the front of the queue, or a CK_TIM period of an idle block.
-/

namespace Sys2Proof.Machine

variable (d : Dev)

/-- Reaching an instant that is not past sets the clock to it. -/
theorem at_of_le {t : Nat} (h : d.now ≤ t) : d.at_ t = { d with now := t } := by
  rw [Dev.at_, Nat.max_eq_right h]

theorem step_cons (c : Instr) (q : List Instr) : step ⟨d, c :: q⟩ = exec c ⟨d, q⟩ := rfl

theorem step_nil : step ⟨d, []⟩ = .next ⟨{ d with now := d.now + timT 1 }, []⟩ := by
  rw [← at_of_le d (Nat.le_add_right _ _)]
  rfl

/-- Settles O55: the two rows of the step, its clock never past the instant that an idle step reaches. -/
theorem stepRunsFrontCommand : Obligations.StepRunsFrontCommand :=
  fun d c q => ⟨step_cons d c q, step_nil d⟩

end Sys2Proof.Machine
end

section
/-!
PROOF. The link of an Ethernet port: its training and its fall, low-power idle, the cable test, signal quality and the
windows of the Ledger.
-/

namespace Sys2Proof.Machine

variable {d y z : Dev} {p : EthPort} {i : Initiator} {e : Nat}

/-! ### Training and the fall of a link (R153 to R155) -/

theorem opTrainStart_starts (hphy : d.ready (pgPHY p) = true) (heth : d.ready (pgETH p) = true)
    (hlink : d.flag (ETH_STAT_link p) = false) (htest : d.testing p = false) (hcode : d.codeLoading p = false)
    (hrun : d.running ⟨.train, p, 0⟩ = false) :
    opTrainStart p d = (d.put (PHY_STAT_pll p) 1).armIn ⟨.train, p, 0⟩ (trainTime p) :=
  if_neg (by simp [hphy, heth, hlink, htest, hcode, hrun])

/-- A link that is down does not fall. -/
theorem ethDown_down {p : Nat} (h : d.flag (ETH_STAT_link p) = false) : d.ethDown p = d :=
  if_pos (by simp [h])

/-- The VOQs of a port whose link falls drain at once where no hold time is set, and are held for that time otherwise. -/
theorem ethDown_up {p : Nat} {x : Dev} (h : d.flag (ETH_STAT_link p) = true)
    (hz : (opFrameEnd p false false
      ((((d.creditPort p).linkGone p).count (ETH_LINK_DOWNS p)).raise (pgETH p) 8)).forgetSent p = z)
    (hy : (((z.cancel ⟨.lpiIdle, p, 0⟩).cancel ⟨.lpiWake, p, 0⟩).cancel ⟨.fcRefresh, p, 0⟩).verifyStart p = y)
    (hx : (if y.vox p = true then (y.peerGone (p + 4)).revertStop (p + 4) else y) = x) :
    d.ethDown p = if x.get (ETH_LINK_CFG_hold_ms p) = 0 then x.drainOn p
      else x.armIn ⟨.linkHold, p, 0⟩ (msT (x.get (ETH_LINK_CFG_hold_ms p))) := by
  subst hz hy hx
  exact if_neg (by simp [h])

theorem opPllLoss_locked (h : d.flag (PHY_STAT_pll p) = true) :
    opPllLoss p d = (((d.put (PHY_STAT_pll p) 0).raise (pgPHY p) 10).cancel ⟨.train, p, 0⟩).ethDown p :=
  if_neg (by simp [h])

/-! ### Low-power idle (R156) -/

section Idle
variable (hdue : d.due ⟨.lpiIdle, p, 0⟩ = some e) (hy : d.at_ e = y)
include hdue hy

theorem opLpiIdle_stays (h : y.macUp p = false ∨ (y.tas p).cur.isSome = true ∨ y.get (TRM_PRE_STAT_verify p) = 2 ∨
    y.eth.fcWait.contains p.val = true ∨ (highest (fun c => y.ethClass p c false)).isSome = true) : opLpiIdle p d = y := by
  simp only [opLpiIdle, hdue, hy]
  exact if_pos (by simpa [or_assoc] using h)

theorem opLpiIdle_enters (hup : y.macUp p = true) (hlist : (y.tas p).cur = none) (hver : y.get (TRM_PRE_STAT_verify p) ≠ 2)
    (hwait : y.eth.fcWait.contains p.val = false) (hsend : highest (fun c => y.ethClass p c false) = none)
    (hz : y.cancel ⟨.lpiIdle, p, 0⟩ = z) :
    opLpiIdle p d = ((({ z with eth := { z.eth with lpi := z.eth.lpi.filter (fun q => q != p.val) ++ [p.val] } } : Dev).put
      (PHY_STAT_lpi_tx p) 1).ldg p 53 1) := by
  subst hz
  simp only [opLpiIdle, hdue, hy]
  exact if_neg (by rw [hup, hlist, beq_false_of_ne hver, hwait, hsend]; decide)

end Idle

/-! ### The cable test (R157) -/

theorem opDiagRun_accepts (h : d.accepts i = true) :
    opDiagRun i p d =
      if d.testing p then d
      else if d.handedOver (pgPHY p) then d.updateBusy (pgPHY p) i 0x114 1
      else if d.pw.halted then d.rejectTrig 0x14
      else (((((d.cancel ⟨.train, p, 0⟩).ethDown p).put (PHY_DIAG_CMD_run p) 1).put (PHY_DIAG_RES_valid p) 0).setDiag
        (pgPHY p) true).armIn ⟨.diag, p, 0⟩ (msT 50) :=
  access_accepts _ h

theorem opDiagAbort_accepts (h : d.accepts i = true) :
    opDiagAbort i p d = if d.testing p then (d.cancel ⟨.diag, p, 0⟩).diagEnd p 7 0 else d :=
  access_accepts _ h

/-! ### Signal quality (R157) -/

/-- The quality of a link that is up is shown; falling below the threshold raises PHY 11. -/
theorem opSqi_linked {sqi corr unc pcs : Nat} {lpi : Bool} (hsqi : sqi < 8) (h : d.flag (PHY_STAT_link p) = true)
    (hz : (if 40 ≤ p.val then d.add ⟨PHY_PCS_ERR p, 31, 0⟩ pcs
      else (((d.add ⟨PHY_PCS_ERR p, 31, 0⟩ pcs).put (PHY_STAT_lpi_rx p) (if lpi then 1 else 0)).add
        ⟨PHY_FEC_CORR p, 31, 0⟩ corr).add ⟨PHY_FEC_UNC p, 31, 0⟩ unc) = z) :
    opSqi p sqi lpi corr unc pcs d =
      if sqi < z.get (PHY_SQI_THR_sqi p) ∧ z.get (PHY_SQI_THR_sqi p) ≤ z.get (PHY_STAT_sqi p)
      then (z.put (PHY_STAT_sqi p) sqi).raise (pgPHY p) 11 else z.put (PHY_STAT_sqi p) sqi := by
  have hmin : min sqi 7 = sqi := Nat.min_eq_left (Nat.le_of_lt_succ hsqi)
  simp only [opSqi, hmin, hz, h, Bool.not_true, Bool.false_eq_true, ↓reduceIte]

/-! ### The obligation -/

/-- Settles O33: each clause is its command's operation in the case that the clause's hypotheses choose. -/
theorem ethernetLinkActs : Obligations.EthernetLinkActs := by
  intro d u v w x y z i p e s ms result dist sqi corr unc pcs lpi
  refine ⟨fun hphy heth hlink htest hcode hrun => ?trains,
    fun hdue => ⟨?trainsAgain, fun hy hs hz hx hw hv hu => ?linkUp⟩, ?linkDown, ethDown_down,
    fun hlink hz hy hx => ⟨fun hhold => ?drains, fun hhold => ?holds⟩, fun hpll hy => ?pllLost, fun hdue => ?holdEnds,
    fun hdue hy => ⟨fun h => ?staysAwake, fun hup hlist hver hwait hsend hz hx => ?idles⟩, fun hdue hy hz => ?wakes,
    fun hacc htest => ⟨fun hover => ?runRefused, fun hover hhalt => ?runRejected, fun hover hhalt hy => ?runs,
      ?abortsNothing⟩,
    fun hacc htest => ⟨?runsAlready, ?aborts⟩, fun hres hdist hdue hy hz => ?diagDone,
    fun hsqi hlink hy hz => ⟨fun hlt hle => ?falls, fun hkeeps => ?shown⟩, fun hsqi hlink => ?noLink,
    fun hacc => ⟨?snap, fun hy => ?clear⟩⟩
  case trains => exact answers_of_effect (fun _ => rfl) (opTrainStart_starts hphy heth hlink htest hcode hrun)
  case trainsAgain => exact answers_of_effect (fun _ => rfl) (onTimer_due d _ hdue)
  case linkUp =>
    -- The clause names the states that R154 passes through; the operation passes through them in this order.
    subst hy hs hz hx hw hv hu
    exact answers_of_effect (fun _ => rfl) (endTimer_due d _ hdue)
  case linkDown => exact answers_of_effect (fun _ => rfl) rfl
  case drains => exact (ethDown_up hlink hz.symm hy.symm hx.symm).trans (if_pos hhold)
  case holds => exact (ethDown_up hlink hz.symm hy.symm hx.symm).trans (if_neg hhold)
  case pllLost =>
    subst hy
    exact answers_of_effect (fun _ => rfl) (opPllLoss_locked hpll)
  case holdEnds => exact answers_of_effect (fun _ => rfl) (onTimer_due d _ hdue)
  case staysAwake => exact answers_of_effect (fun _ => rfl) (opLpiIdle_stays hdue hy.symm h)
  case idles =>
    subst hx
    exact answers_of_effect (fun _ => rfl) (opLpiIdle_enters hdue hy.symm hup hlist hver hwait hsend hz.symm)
  case wakes =>
    subst hy hz
    exact answers_of_effect (fun _ => rfl) (onTimer_due d _ hdue)
  case runRefused =>
    exact answers_of_effect (fun _ => rfl)
      ((opDiagRun_accepts hacc).trans (by simp only [htest, hover, Bool.false_eq_true, ↓reduceIte]))
  case runRejected =>
    exact answers_of_effect (fun _ => rfl)
      ((opDiagRun_accepts hacc).trans (by simp only [htest, hover, hhalt, Bool.false_eq_true, ↓reduceIte]))
  case runs =>
    subst hy
    exact answers_of_effect (fun _ => rfl)
      ((opDiagRun_accepts hacc).trans (by simp only [htest, hover, hhalt, Bool.false_eq_true, ↓reduceIte]))
  case abortsNothing =>
    exact answers_of_effect (fun _ => rfl) ((opDiagAbort_accepts hacc).trans (if_neg (ne_true_of_eq_false htest)))
  case runsAlready => exact answers_of_effect (fun _ => rfl) ((opDiagRun_accepts hacc).trans (if_pos htest))
  case aborts => exact answers_of_effect (fun _ => rfl) ((opDiagAbort_accepts hacc).trans (if_pos htest))
  case diagDone =>
    subst hy hz
    exact answers_of (fun _ => rfl) (by simp [hres, hdist]) (endTimer_due d _ hdue)
  case falls =>
    subst hy
    exact answers_of (fun _ => rfl) (decide_eq_true hsqi) ((opSqi_linked hsqi hlink hz.symm).trans (if_pos ⟨hlt, hle⟩))
  case shown =>
    subst hy
    exact answers_of (fun _ => rfl) (decide_eq_true hsqi)
      ((opSqi_linked hsqi hlink hz.symm).trans (if_neg (by omega)))
  case noLink => exact answers_of (fun _ => rfl) (decide_eq_true hsqi) (if_pos (by simp [hlink]))
  case snap => exact answers_of_effect (fun _ => rfl) (access_accepts _ hacc)
  case clear =>
    subst hy
    exact answers_of_effect (fun _ => rfl) (access_accepts _ hacc)

end Sys2Proof.Machine
end

section
/-!
PROOF. Flow control at an Ethernet port: MAC control frames received, the refresh of what the port sends, and the pause
watchdog.
-/

namespace Sys2Proof.Machine

variable {d d' y : Dev} {p : EthPort} {c : Sys2Proof.Class} {e : Nat}

/-! ### MAC control frames (R161, R163) -/

section Received
variable {q vec : Nat} {times : List Nat}

theorem pauseReceived_answers (hq : q < 65536) (h : opPauseRx p q d = y) : Answers (.pauseReceived p q) d y :=
  answers_of (fun _ => rfl) (decide_eq_true hq) h

theorem pfcReceived_answers (hvec : vec < 256) (hlen : times.length = 8)
    (htimes : times.all (fun t => decide (t < 65536)) = true) (h : opPfcRx p vec times d = y) :
    Answers (.pfcReceived p vec times) d y :=
  answers_of (fun _ => rfl) (by rw [htimes, decide_eq_true hvec, decide_eq_true hlen]; rfl) h

section Down
variable (h : d.macUp p = false)
include h

theorem opPauseRx_down : opPauseRx p q d = d := if_pos (by simp [h])

theorem opPfcRx_down : opPfcRx p vec times d = d := if_pos (by simp [h])

theorem opMacCtlUnk_down : opMacCtlUnk p d = d := if_pos (by simp [h])

end Down

section Up
variable (h : d.macUp p = true)
include h

/-- The answer of `Dev.ldgControl` tells whether the port obeys the frame. -/
theorem opPauseRx_up {obey : Bool} (hc : d.ldgControl p 5 = (obey, d')) :
    opPauseRx p q d = if obey then d'.pauseLoad p ((d'.pauseSlots p).map (fun i => (i, q % 65536))) else d' := by
  simp only [opPauseRx, h, hc, Bool.not_true, Bool.false_eq_true, ↓reduceIte]

theorem opPfcRx_up {obey : Bool} (hc : d.ldgControl p 6 = (obey, d')) :
    opPfcRx p vec times d = if obey then
        d'.pauseLoad p (((List.range 8).filter (fun i => bitAt vec i)).map (fun i => (i, times.getD i 0 % 65536)))
      else d' := by
  simp only [opPfcRx, h, hc, Bool.not_true, Bool.false_eq_true, ↓reduceIte]

/-- An unknown frame is counted, and raised where the port is not isolated. -/
theorem opMacCtlUnk_up : opMacCtlUnk p d =
    if d.get (PG_STATE_iso (pgETH p)) = 0 then (d.ldgControl p 7).2.raise (pgETH p) 12 else (d.ldgControl p 7).2 := by
  simp only [opMacCtlUnk, h, Bool.not_true, Bool.false_eq_true, ↓reduceIte, bne_iff_ne, ite_not]

end Up
end Received

/-! ### The refresh (R162) -/

theorem opFcRefresh_due (h : d.due ⟨.fcRefresh, p, 0⟩ = some e) (hy : (d.at_ e).cancel ⟨.fcRefresh, p, 0⟩ = y) :
    opFcRefresh p d = if y.eth.fcWait.contains p.val || y.fcState p != 0 then y.fcPush p else y :=
  hy ▸ onTimer_due d _ h

/-! ### The pause watchdog (R164) -/

/-- The class lets its pause go, and its pauses are ignored for the time set. -/
def Dev.breakPause (p : EthPort) (c : Sys2Proof.Class) (d : Dev) : Dev :=
  let z := d.unpause p c
  let x := z.put (ETH_PWD_STAT_broken p) (setBitTo (z.get (ETH_PWD_STAT_broken p)) c true)
  x.armIn ⟨.pwdBreak, p, c⟩ (msT (x.get (ETH_PWD_IGN_ms p)))

/-- A trip is counted and raised, and the port then acts as `PWD_CFG.action` says. -/
theorem opPwdTrip_due (h : d.due ⟨.pwd, p, c⟩ = some e)
    (hy : (((d.at_ e).cancel ⟨.pwd, p, c⟩).count (ETH_PWD_TRIPS p)).raise (pgETH p) 9 = y) :
    opPwdTrip p c d = if y.get (ETH_PWD_CFG_action p) = 1 then y.breakPause p c
      else if y.get (ETH_PWD_CFG_action p) = 2 then y.isoEth p else y := by
  subst hy
  refine (onTimer_due d _ h).trans ?_
  dsimp only
  split
  next hact => exact (if_pos hact).symm
  next hact => rw [hact]; rfl
  next hne1 hne2 => rw [if_neg hne1, if_neg hne2]

/-! ### The obligation -/

/-- Settles O34: each clause is its command's operation in the case that the clause's hypotheses choose. -/
theorem flowControlActs : Obligations.FlowControlActs := by
  intro d d' y z p c q vec e times
  refine ⟨fun hq hvec hlen htimes => ⟨fun hup => ⟨fun hc => ?pauses, fun hc => ?pauseIgnored, fun hc => ?pfc,
      fun hc => ?pfcIgnored, fun hiso => ?unknownRaised, fun hiso => ?unknownCounted⟩, fun hdown op hop => ?macDown⟩,
    fun hdue => ?pauseEnds, fun hdue hy => ⟨fun h => ?refreshes, fun hwait hstate => ?refreshesNothing⟩,
    fun hdue hy => ⟨fun hact hz => ?breaks, fun hact => ?isolates, fun hne1 hne2 => ?tripsOnly⟩,
    fun hdue hy => ?breakEnds⟩
  case pauses => exact pauseReceived_answers hq (opPauseRx_up hup hc)
  case pauseIgnored => exact pauseReceived_answers hq (opPauseRx_up hup hc)
  case pfc => exact pfcReceived_answers hvec hlen htimes (opPfcRx_up hup hc)
  case pfcIgnored => exact pfcReceived_answers hvec hlen htimes (opPfcRx_up hup hc)
  case unknownRaised => exact answers_of_effect (fun _ => rfl) ((opMacCtlUnk_up hup).trans (if_pos hiso))
  case unknownCounted => exact answers_of_effect (fun _ => rfl) ((opMacCtlUnk_up hup).trans (if_neg hiso))
  case macDown =>
    simp only [List.mem_cons, List.not_mem_nil, or_false] at hop
    obtain rfl | rfl | rfl := hop
    · exact pauseReceived_answers hq (opPauseRx_down hdown)
    · exact pfcReceived_answers hvec hlen htimes (opPfcRx_down hdown)
    · exact answers_of_effect (fun _ => rfl) (opMacCtlUnk_down hdown)
  case pauseEnds => exact answers_of_effect (fun _ => rfl) (onTimer_due d _ hdue)
  case refreshes =>
    exact answers_of_effect (fun _ => rfl) ((opFcRefresh_due hdue hy.symm).trans (if_pos (by simpa using h)))
  case refreshesNothing =>
    exact answers_of_effect (fun _ => rfl) ((opFcRefresh_due hdue hy.symm).trans (if_neg (by rw [hwait, hstate]; decide)))
  case breaks =>
    subst hz
    exact answers_of_effect (fun _ => rfl) ((opPwdTrip_due hdue hy.symm).trans (if_pos hact))
  case isolates =>
    exact answers_of_effect (fun _ => rfl)
      ((opPwdTrip_due hdue hy.symm).trans ((if_neg (by omega)).trans (if_pos hact)))
  case tripsOnly =>
    exact answers_of_effect (fun _ => rfl)
      ((opPwdTrip_due hdue hy.symm).trans ((if_neg hne1).trans (if_neg hne2)))
  case breakEnds =>
    subst hy
    exact answers_of_effect (fun _ => rfl) (onTimer_due d _ hdue)

end Sys2Proof.Machine
end

section
/-!
PROOF. The Strongbox: the write of a key operation and its end, the closing of provisioning, and the noise source.
-/

namespace Sys2Proof.Machine

variable {d y z : Dev} {i : Initiator}

/-! ### The write of a key operation (R240, R244) -/

/-- Each of the eleven key operations is a write of its code, with the data that its command carries (Table 11-3). -/
theorem exec_keyCommand {data : List Byte} {k : Instr × Nat × List Byte}
    (hk : k ∈ [(.importPlain i, 1, []), (.importWrapped i, 2, []), (.load i, 3, []), (.derive i, 4, []), (.unwrap i, 5, []),
      (.wrap i, 6, []), (.cmac i data, 7, data), (.generate i, 8, []), (.random i, 9, []), (.zero i, 0xA, []),
      (.token i, 0xB, [])]) (s : State) :
    exec k.1 s = effect (fun d => d.keyCommand i k.2.1 k.2.2) s := by
  simp only [List.mem_cons, List.not_mem_nil, or_false] at hk
  obtain rfl | rfl | rfl | rfl | rfl | rfl | rfl | rfl | rfl | rfl | rfl := hk <;> rfl

section Command
variable {code : Nat} {data : List Byte} {o : KeyOp} (hacc : d.accepts i = true)
include hacc

theorem keyCommand_busy (h : d.flag KEY_CSTAT_busy = true) : d.keyCommand i code data = d.put KEY_CSTAT_status ksBusy :=
  (access_accepts _ hacc).trans (if_pos h)

section Idle
variable (hidle : d.flag KEY_CSTAT_busy = false) (hz : d.each (List.range 12) (fun j d => d.wr (KEY_RES j) 0) = z)
include hidle hz

/-- The checks of a write in their order: sealed, which TOKEN passes with a good root, not ready, and its arguments. -/
theorem keyCommand_idle
    (ho : z.keyOperands code (z.dataAt (z.rd64 KEY_DATA_LO KEY_DATA_HI) (z.get KEY_DATA_LEN_bytes) data) = o) :
    d.keyCommand i code data =
      if z.flag KEY_STAT_sealed && code != 0xB then z.keyEnd ksSealed
      else if !z.flag KEY_STAT_ready && (!z.flag KEY_STAT_sealed || z.get KEY_STAT_root == 3) then z.keyEnd ksNotReady
      else (z.argRefuses o).elim
        ((({ z with key := { z.key with op := some o, touched := [] } } : Dev).put KEY_CSTAT_busy 1).armIn ⟨.keyOp, 0, 0⟩
          (opTime o)) (fun st => z.keyEnd st) := by
  subst hz ho
  refine (access_accepts _ hacc).trans ((if_neg (ne_true_of_eq_false hidle)).trans
    (ite_congr rfl (fun _ => rfl) (fun _ => ite_congr rfl (fun _ => rfl) (fun _ => ?_))))
  split
  next st h => rw [h]; rfl
  next h => rw [h]; rfl

theorem keyCommand_sealed (hs : z.flag KEY_STAT_sealed = true) (hc : code ≠ 0xB) :
    d.keyCommand i code data = z.keyEnd ksSealed :=
  (keyCommand_idle hacc hidle hz rfl).trans (if_pos (by simp [hs, hc]))

theorem keyCommand_notReady (hr : z.flag KEY_STAT_ready = false)
    (h : z.flag KEY_STAT_sealed = false ∨ (code = 0xB ∧ z.get KEY_STAT_root = 3)) :
    d.keyCommand i code data = z.keyEnd ksNotReady := by
  rw [keyCommand_idle hacc hidle hz rfl]
  obtain hs | ⟨hc, hroot⟩ := h
  · simp [hs, hr]
  · simp [hc, hroot, hr]

/-- A write that passes the state's checks is judged by its arguments. -/
theorem keyCommand_judged (hs : z.flag KEY_STAT_sealed = false ∨ code = 0xB)
    (hr : z.flag KEY_STAT_ready = true ∨ (z.flag KEY_STAT_sealed = true ∧ z.get KEY_STAT_root ≠ 3))
    (ho : z.keyOperands code (z.dataAt (z.rd64 KEY_DATA_LO KEY_DATA_HI) (z.get KEY_DATA_LEN_bytes) data) = o) :
    d.keyCommand i code data = (z.argRefuses o).elim
      ((({ z with key := { z.key with op := some o, touched := [] } } : Dev).put KEY_CSTAT_busy 1).armIn ⟨.keyOp, 0, 0⟩
        (opTime o)) (fun st => z.keyEnd st) := by
  have hpass : ¬(z.flag KEY_STAT_sealed && code != 0xB) = true := by
    obtain hs | hc := hs
    · simp [hs]
    · simp [hc]
  have hready : ¬(!z.flag KEY_STAT_ready && (!z.flag KEY_STAT_sealed || z.get KEY_STAT_root == 3)) = true := by
    obtain hr | ⟨hs, hroot⟩ := hr
    · simp [hr]
    · simp [hs, hroot]
  rw [keyCommand_idle hacc hidle hz ho, if_neg hpass, if_neg hready]

end Idle

theorem opKeyBad_accepts {op : Nat} (hop : op = 0 ∨ (12 ≤ op ∧ op < 16)) :
    opKeyBad i op d = if d.flag KEY_CSTAT_busy then d.put KEY_CSTAT_status ksBusy
      else (d.each (List.range 12) (fun j d => d.wr (KEY_RES j) 0)).keyEnd ksBadArg :=
  (if_neg (by omega)).trans (access_accepts _ hacc)

/-- Provisioning closes where a valid owner anchor exists (R245). -/
theorem opProvClose_accepts :
    opProvClose i d = if d.key.anchors.any (fun e => e.2.valid && e.2.purpose == 1)
      then ({ d with key := { d.key with closed := true } } : Dev).put KEY_STAT_prov 0 else d.ignoredErr pgKEY i 0x1A4 1 :=
  access_accepts _ hacc

end Command

theorem keyBadOp_answers {op : Nat} (hop : op = 0 ∨ (12 ≤ op ∧ op < 16)) (h : opKeyBad i op d = y) :
    Answers (.keyBadOp i op) d y :=
  answers_of (fun _ => rfl) (by simpa using hop) h

/-! ### The end of a key operation (R244) -/

theorem opKeyDone_due {o : KeyOp} {e : Nat} (ho : d.key.op = some o) (h : d.due ⟨.keyOp, 0, 0⟩ = some e) (ue : Option KeyUe) :
    opKeyDone ue d = ue.elim ((d.cancel ⟨.keyOp, 0, 0⟩).keyResult o) (fun w => (d.cancel ⟨.keyOp, 0, 0⟩).keyUe o w) := by
  simp only [opKeyDone, ho, endTimer_due d _ h]
  cases ue <;> rfl

/-! ### The noise source (R243) -/

section Reseed
variable (hy : (d.due ⟨.reseed, 0, 0⟩).elim d (fun e => (d.at_ e).cancel ⟨.reseed, 0, 0⟩) = y)
include hy

theorem opReseed_unhealthy :
    opReseed false d = if d.running ⟨.reseed, 0, 0⟩ || d.flag KEY_STAT_rng_ok then y.rngFails else d := by
  subst hy
  unfold opReseed
  cases d.due ⟨.reseed, 0, 0⟩ <;> rfl

theorem opReseed_healthy :
    opReseed true d =
      if d.running ⟨.reseed, 0, 0⟩ || decide (2 ^ 20 ≤ d.key.requests) then y.seed.put KEY_STAT_rng_ok 1 else d := by
  subst hy
  unfold opReseed
  cases d.due ⟨.reseed, 0, 0⟩ <;> rfl

end Reseed

/-! ### The obligation -/

/-- Settles O41: the eleven operations are one write of a code, so each clause on them is that write in its case; the other
clauses are their commands' operations. -/
theorem keyOperationsAct : Obligations.KeyOperationsAct := by
  intro d y z i data o g e st op k w hk hz ho
  have hexec := exec_keyCommand hk
  refine ⟨fun hacc => ⟨fun hb => ?busy, fun hi hs hc => ?sealed, fun hi hr h => ?notReady,
      fun hi hs hr => ⟨fun ha => ?argRefused, fun ha hy => ?starts⟩,
      fun hop => ⟨fun hb => ?badOpBusy, fun hi => ?badOp⟩, fun h => ?closes, fun h => ?closeIgnored⟩,
    fun hg hdue => ⟨?ends, ?endsUe⟩,
    fun hy => ⟨fun h => ?rngFails, fun hr hok => ?rngStays, fun h => ?reseeds, fun hr hreq => ?reseedsNothing⟩,
    fun hm => ?renews, fun hm => ?noMasks⟩
  case busy => exact answers_of_effect hexec (keyCommand_busy hacc hb)
  case sealed => exact answers_of_effect hexec (keyCommand_sealed hacc hi hz.symm hs hc)
  case notReady => exact answers_of_effect hexec (keyCommand_notReady hacc hi hz.symm hr h)
  case argRefused =>
    exact answers_of_effect hexec ((keyCommand_judged hacc hi hz.symm hs hr ho.symm).trans (by rw [ha]; rfl))
  case starts =>
    subst hy
    exact answers_of_effect hexec ((keyCommand_judged hacc hi hz.symm hs hr ho.symm).trans (by rw [ha]; rfl))
  case badOpBusy => exact keyBadOp_answers hop ((opKeyBad_accepts hacc hop).trans (if_pos hb))
  case badOp =>
    subst hz
    exact keyBadOp_answers hop ((opKeyBad_accepts hacc hop).trans (if_neg (ne_true_of_eq_false hi)))
  case closes => exact answers_of_effect (fun _ => rfl) ((opProvClose_accepts hacc).trans (if_pos h))
  case closeIgnored =>
    exact answers_of_effect (fun _ => rfl) ((opProvClose_accepts hacc).trans (if_neg (ne_true_of_eq_false h)))
  case ends => exact answers_of_effect (fun _ => rfl) (opKeyDone_due hg hdue none)
  case endsUe => exact answers_of_effect (fun _ => rfl) (opKeyDone_due hg hdue (some w))
  case rngFails =>
    exact answers_of_effect (fun _ => rfl) ((opReseed_unhealthy hy.symm).trans (if_pos (by simpa using h)))
  case rngStays => exact answers_of_effect (fun _ => rfl) ((opReseed_unhealthy rfl).trans (if_neg (by simp [hr, hok])))
  case reseeds =>
    exact answers_of_effect (fun _ => rfl) ((opReseed_healthy hy.symm).trans (if_pos (by simpa using h)))
  case reseedsNothing =>
    exact answers_of_effect (fun _ => rfl) ((opReseed_healthy rfl).trans (if_neg (by simpa [hr] using hreq)))
  case renews => exact answers_of_effect (fun _ => rfl) (if_pos hm)
  case noMasks => exact answers_of_effect (fun _ => rfl) (if_neg (ne_true_of_eq_false hm))

end Sys2Proof.Machine
end

section
/-!
PROOF. The tamper sensors with the end of their erase, the sensors' enables and latches, the signature-check unit and its
anchors.
-/

namespace Sys2Proof.Machine

variable {d y z : Dev} {i : Initiator}

/-! ### A sensor fires (R246 to R248) -/

/-- The log entry of a sensor that fires now (R246, Table 11-10). -/
def Dev.tamperEntry (d : Dev) (b : Nat) : TamperLog :=
  { aon := !d.pw.main || d.tim.released.isNone, sensors := 2 ^ b, mode := d.mode, start := d.key.starts % 65536,
    time := if d.pw.main && d.tim.released.isSome then d.ns else d.aonUs }

section Fire
variable {s : Sensor} {b : Nat} (hb : b = sensorBit s)
include hb

theorem opTamperFire_nothing
    (h : d.pw.base = .off ∨ bitAt (d.get TMP_EN_sensors) b = false ∨ (2 ≤ b ∧ d.pw.main = false) ∨
      bitAt (d.get TMP_LATCH_sensors) b = true) : opTamperFire s d = d := by
  subst hb
  refine if_pos ?_
  obtain h | h | ⟨h2, hm⟩ | h := h
  · simp [h]
  · simp [h]
  · simp [h2, hm]
  · simp [h]

section Latches
variable (hon : d.pw.base ≠ .off) (hen : bitAt (d.get TMP_EN_sensors) b = true) (hmain : 2 ≤ b → d.pw.main = true)
  (hlatch : bitAt (d.get TMP_LATCH_sensors) b = false)
  (hy : y = (d.put TMP_LATCH_sensors (setBitTo (d.get TMP_LATCH_sensors) b true)).put TMP_STAT_alarm 1)
include hon hen hmain hlatch hy

/-- A sensor that latches and shows the alarm has its effect now where KEY is decided, and at the start check elsewhere. -/
theorem opTamperFire_latches (hz : z = ({ y with key := { y.key with
      waiting := y.tamperEntry b :: y.key.waiting
      alarmWaits := y.key.alarmWaits || d.get TMP_LATCH_sensors == 0 } } : Dev)) :
    opTamperFire s d =
      if !y.pw.main || y.pw.losing || (!y.flag KEY_STAT_ready && !y.flag KEY_STAT_sealed &&
          !(y.get KEY_STAT_root == 3 && y.pw.optionsLoaded)) then
        if d.get TMP_LATCH_sensors = 0 && !(y.pw.main && y.pw.optionsLoaded && decide (y.get TMP_STAT_resp < 2))
        then z.put TMP_STAT_erase_pend 1 else z
      else if d.get TMP_LATCH_sensors = 0 then (y.logTamper (y.tamperEntry b)).tamperAlarm
        else y.logTamper (y.tamperEntry b) := by
  subst hb hy hz
  have hpowered : (decide (2 ≤ sensorBit s) && !d.pw.main) = false := by simpa using hmain
  exact if_neg (by simp [hon, hen, hpowered, hlatch])

theorem opTamperFire_decided (hm : y.pw.main = true) (hl : y.pw.losing = false)
    (hk : y.flag KEY_STAT_ready = true ∨ y.flag KEY_STAT_sealed = true ∨
      (y.get KEY_STAT_root = 3 ∧ y.pw.optionsLoaded = true)) :
    opTamperFire s d = if d.get TMP_LATCH_sensors = 0 then (y.logTamper (y.tamperEntry b)).tamperAlarm
      else y.logTamper (y.tamperEntry b) := by
  refine (opTamperFire_latches hb hon hen hmain hlatch hy rfl).trans (if_neg ?_)
  obtain hk | hk | ⟨hroot, hopt⟩ := hk
  · simp [hm, hl, hk]
  · simp [hm, hl, hk]
  · simp [hm, hl, hroot, hopt]

theorem opTamperFire_waits
    (hz : z = ({ y with key := { y.key with
      waiting := y.tamperEntry b :: y.key.waiting
      alarmWaits := y.key.alarmWaits || d.get TMP_LATCH_sensors == 0 } } : Dev))
    (h : y.pw.main = false ∨ y.pw.losing = true ∨ (y.flag KEY_STAT_ready = false ∧ y.flag KEY_STAT_sealed = false ∧
      (y.get KEY_STAT_root ≠ 3 ∨ y.pw.optionsLoaded = false))) :
    opTamperFire s d =
      if d.get TMP_LATCH_sensors = 0 && !(y.pw.main && y.pw.optionsLoaded && decide (y.get TMP_STAT_resp < 2))
      then z.put TMP_STAT_erase_pend 1 else z := by
  refine (opTamperFire_latches hb hon hen hmain hlatch hy hz).trans (if_pos ?_)
  obtain h | h | ⟨hr, hs, hroot | hopt⟩ := h
  · simp [h]
  · simp [h]
  · simp [hr, hs, hroot]
  · simp [hr, hs, hopt]

end Latches
end Fire

/-! ### Enables and latches (R247, R249) -/

section Access
variable {v : Word} (hacc : d.accepts i = true)
include hacc

theorem opTamperEnable_accepts :
    opTamperEnable i v d = d.put TMP_EN_sensors (Nat.lor (d.get TMP_EN_sensors) (bitsOf v 4 0)) :=
  access_accepts _ hacc

theorem opLatchClear_refused (h : d.get TMP_STAT_resp ≠ 0) :
    opLatchClear i v d = d.ignoredErr pgTMP i 0x104 v.toNat :=
  (access_accepts _ hacc).trans (if_pos h)

theorem opLatchClear_clears {n : Nat} (h : d.get TMP_STAT_resp = 0)
    (hn : n = ((List.range 5).filter (fun b => bitAt (d.get TMP_LATCH_sensors) b && !v.getLsbD b)).foldl (fun n b => n + 2 ^ b) 0)
    (hy : y = (d.put TMP_LATCH_sensors n).put TMP_STAT_alarm (if n = 0 then 0 else 1))
    (hz : z = if n = 0 then y.put TMP_STAT_erase_pend 0 else y) :
    opLatchClear i v d = if n ≠ d.get TMP_LATCH_sensors then z.raise pgTMP 10 else z := by
  subst hn hy hz
  exact (access_accepts _ hacc).trans (if_neg (not_not_intro h))

/-! ### Verification and anchors (R250, R251) -/

theorem opSigGo_busy {data : List Byte} (hy : y = if d.locked pgSIG = true then d.lockViol pgSIG i 0x100 1 else d)
    (h : y.sigBusy = true) : opSigGo i data d = y.ignoredErr pgSIG i 0x100 1 := by
  subst hy
  exact (writeMixed_accepts _ hacc).trans (if_pos h)

theorem opSigGo_starts {data : List Byte} {n : Nat} {op : SigOp}
    (hy : y = if d.locked pgSIG = true then d.lockViol pgSIG i 0x100 1 else d) (h : y.sigBusy = false)
    (hn : n = y.get SIG_DATA_LEN_bytes)
    (hop : op =
      { curve := y.flag SIG_CTL_curve, hash := y.flag SIG_CTL_hash, addr := y.rd64 SIG_DATA_LO SIG_DATA_HI,
        anchor := if y.flag SIG_CTL_anchor then some (y.get SIG_CTL_slot) else none, len := n,
        data := y.dataAt (y.rd64 SIG_DATA_LO SIG_DATA_HI) n data,
        digest := (y.wordBytes SIG_DIG 12).take (if y.flag SIG_CTL_curve then 48 else 32),
        q := halves (y.flag SIG_CTL_curve) (y.wordBytes SIG_Q 24),
        sig := halves (y.flag SIG_CTL_curve) (y.wordBytes SIG_SG 24) }) :
    opSigGo i data d = (({ y with key := { y.key with sig := some op } } : Dev).put SIG_CTL_go 1).armIn ⟨.sigOp, 0, 0⟩
      ((if op.hash then nsT n else 0) + usT (if op.curve then 800 else 350)) := by
  subst hy hn hop
  exact (writeMixed_accepts _ hacc).trans (if_neg (ne_true_of_eq_false h))

section Anchor
variable {k : Nat} {a : Anchor} (hk : k = d.get SIG_ANCH_SEL_slot) (ha : a = NMap.get {} d.key.anchors k)
include hk ha

theorem opAnchWrite_accepts (purpose : Nat) :
    opAnchWrite i purpose d =
      if a.valid || !d.flag KEY_STAT_prov then d.ignoredErr pgSIG i 0x308 (1 + purpose % 4 * 16)
      else d.setAnchor k { valid := true, revoked := a.revoked, purpose := purpose % 4, curve := d.flag SIG_CTL_curve,
                           digest := sha true (d.sigKey (d.flag SIG_CTL_curve)) } := by
  subst hk ha
  exact access_accepts _ hacc

theorem opAnchRevoke_accepts :
    opAnchRevoke i d =
      if (a.valid && !a.revoked && a.purpose == 0) &&
          !d.key.anchors.any (fun e => e.1 != k && (e.2.valid && !e.2.revoked && e.2.purpose == 0))
      then d.ignoredErr pgSIG i 0x308 2 else d.setAnchor k { a with revoked := true } := by
  subst hk ha
  exact access_accepts _ hacc

end Anchor
end Access

theorem anchWrite_answers {purpose : Nat} (hp : purpose < 4) (h : opAnchWrite i purpose d = y) :
    Answers (.anchWrite i purpose) d y :=
  answers_of (fun _ => rfl) (decide_eq_true hp) h

theorem opSigDone_due {op : SigOp} {e r : Nat} {ue : Option Nat} {out : Option (List Byte)} {w x : Dev}
    (hs : d.key.sig = some op) (hdue : d.due ⟨.sigOp, 0, 0⟩ = some e) (hy : d.cancel ⟨.sigOp, 0, 0⟩ = y)
    (hr : y.sigResult op ue.isSome = (r, out)) (hz : z = ({ y with key := { y.key with sig := none } } : Dev))
    (hx : x = ue.elim z (fun n => if r = 4 then z.memUe (op.addr + n % op.len) else z))
    (hw : w = out.elim x (fun bs => x.putBytes SIG_DIG 12 bs)) :
    opSigDone ue d = ((w.put SIG_STAT_result r).put SIG_CTL_go 0).raise pgSIG (if r = 4 then 9 else 8) := by
  subst hz hx hw
  simp only [opSigDone, hs, endTimer_due d _ hdue, hy, hr]
  cases ue <;> cases out <;> simp only [Option.elim]

/-! ### The obligation -/

/-- Settles O42: each clause is its command's operation in the case that the clause's hypotheses choose. -/
theorem tamperAndSignaturesAct : Obligations.TamperAndSignaturesAct := by
  intro d w x y z i s b e k n r purpose v data op ev ue out a
  refine ⟨fun hb => ⟨fun h => ?firesNothing, fun hon hen hmain hlatch hn hy hev =>
      ⟨fun hm hl hkey => ⟨fun h0 => ?alarms, fun h0 => ?logs⟩,
        fun hkey hz => ⟨fun h0 herase => ?waitsErase, fun h => ?waits⟩⟩⟩,
    fun hdue hy hz => ?eraseEnds,
    fun hacc => ⟨?enables, fun hresp => ?clearRefused, fun hresp hn hy hz => ?clears,
      fun hy => ⟨fun hbusy => ?goBusy, fun hbusy hn hop hz => ?goes⟩,
      fun hk ha => ⟨fun hp hvalid hprov => ?writes, fun hp h => ?writeRefused,
        fun hvalid hrev hpur hlast => ?revokeRefused, fun h => ?revokes⟩⟩,
    fun hs hdue hy hr hz hx hw => ?sigEnds⟩
  case firesNothing => exact answers_of_effect (fun _ => rfl) (opTamperFire_nothing hb h)
  case alarms =>
    subst hn hev
    exact answers_of_effect (fun _ => rfl) ((opTamperFire_decided hb hon hen hmain hlatch hy hm hl hkey).trans (if_pos h0))
  case logs =>
    subst hn hev
    exact answers_of_effect (fun _ => rfl) ((opTamperFire_decided hb hon hen hmain hlatch hy hm hl hkey).trans (if_neg h0))
  case waitsErase =>
    subst hn hev
    refine answers_of_effect (fun _ => rfl) ((opTamperFire_waits hb hon hen hmain hlatch hy hz hkey).trans (if_pos ?_))
    obtain h | h | h := herase
    · simp [h0, h]
    · simp [h0, h]
    · simp [h0, Nat.not_lt.mpr h]
  case waits =>
    subst hn hev
    refine answers_of_effect (fun _ => rfl) ((opTamperFire_waits hb hon hen hmain hlatch hy hz hkey).trans (if_neg ?_))
    obtain h | ⟨hm, hopt, hresp⟩ := h
    · simp [h]
    · simp [hm, hopt, hresp]
  case eraseEnds =>
    subst hy hz
    exact answers_of_effect (fun _ => rfl) (endTimer_due d _ hdue)
  case enables => exact answers_of_effect (fun _ => rfl) (opTamperEnable_accepts hacc)
  case clearRefused => exact answers_of_effect (fun _ => rfl) (opLatchClear_refused hacc hresp)
  case clears => exact answers_of_effect (fun _ => rfl) (opLatchClear_clears hacc hresp hn hy hz)
  case goBusy => exact answers_of_effect (fun _ => rfl) (opSigGo_busy hacc hy hbusy)
  case goes =>
    subst hz
    exact answers_of_effect (fun _ => rfl) (opSigGo_starts hacc hy hbusy hn hop)
  case writes => exact anchWrite_answers hp ((opAnchWrite_accepts hacc hk ha purpose).trans (if_neg (by simp [hvalid, hprov])))
  case writeRefused =>
    exact anchWrite_answers hp ((opAnchWrite_accepts hacc hk ha purpose).trans (if_pos (by simpa using h)))
  case revokeRefused =>
    exact answers_of_effect (fun _ => rfl)
      ((opAnchRevoke_accepts hacc hk ha).trans (if_pos (by rw [hvalid, hrev, hpur, hlast]; rfl)))
  case revokes =>
    refine answers_of_effect (fun _ => rfl) ((opAnchRevoke_accepts hacc hk ha).trans (if_neg ?_))
    obtain h | h | h | h := h
    · simp [h]
    · simp [h]
    · simp [h]
    · rw [h]
      simp
  case sigEnds => exact answers_of_effect (fun _ => rfl) (opSigDone_due hs hdue hy hr hz hx hw)

end Sys2Proof.Machine
end

section
/-!
PROOF. The start up to the key record check: the rails, the attempts on the root, the options, the fill and the Reserve
rows.
-/

namespace Sys2Proof.Machine

variable {d u w x y z : Dev} {e n : Nat}

/-! ### The rails (R293, R349) -/

theorem opMainRails_due (hdue : d.due ⟨.railsValid, 0, 0⟩ = some e)
    (hy : y = ((({ d.cancel ⟨.railsValid, 0, 0⟩ with pw := { d.pw with rails := true, asserted := true } } : Dev).armIn
      ⟨.dieTemp, 0, 0⟩ (usT 100)).armIn ⟨.refCheck, 0, 0⟩ (msT 1)))
    (hz : z = if d.get WAK_WSR_cause = 1 then (if d.pw.resetnLow = true then y.put WAK_WSR_cause 6 else y)
      else (y.put RST_CAUSE_cause 9).put RST_CAUSE_class 1) :
    opMainRails d = ((z.put KEY_STAT_prov (if d.key.closed then 0 else 1)).put HBR_STAT_perst
      (if d.hbr.perst then 1 else 0)).assertionEnds := by
  have hcause : y.get WAK_WSR_cause = d.get WAK_WSR_cause := by
    subst hy
    simp [Dev.get, Dev.rd]
  have hresetn : y.pw.resetnLow = d.pw.resetnLow := by
    subst hy
    simp
  have hkeeps {α : Type} (f : Dev → α) (hf : ∀ (t : Dev) r v, f (t.put r v) = f t) : f z = f y := by
    subst hz
    split
    · split
      · exact hf _ _ _
      · rfl
    · exact (hf _ _ _).trans (hf _ _ _)
  have hykey : y.key = d.key := by
    subst hy
    rfl
  have hyhbr : y.hbr = d.hbr := by
    subst hy
    rfl
  rw [← hcause, ← hresetn] at hz
  rw [← hykey, ← hyhbr, ← hkeeps Dev.key Dev.put_key, ← hkeeps Dev.hbr Dev.put_hbr]
  subst hy hz
  exact endTimer_due d _ hdue

/-! ### The root (R235) -/

/-- An attempt while the root is being regenerated counts, and the first of a start advances the start counter. The third
one without a secret ends the regeneration; a waiting alarm stays for the load of the options where that is still to come. -/
theorem opRootAttempt_regenerates {cells : List Byte} (hroot : d.get KEY_STAT_root = 1)
    (hy : y = d.put KEY_ROOT_att (d.get KEY_ROOT_att + 1))
    (hz : z = if d.get KEY_ROOT_att = 0 then { y with key := { y.key with starts := (y.key.starts + 1) % 2 ^ 64 } } else y)
    (hopt : d.get KEY_ROOT_att < 2 ∨ d.pw.optionsLoaded = false) :
    opRootAttempt cells d = (z.rootTry cells).elim
      (if d.get KEY_ROOT_att < 2 then z else (z.put KEY_STAT_root 3).raise pgKEY 9)
      (fun r => if 8 < r.2 then (((z.holdRoot r.1).put KEY_STAT_root 2).put KEY_ROOT_margin r.2).raise pgKEY 10
        else ((z.holdRoot r.1).put KEY_STAT_root 2).put KEY_ROOT_margin r.2) := by
  have hpw : z.pw = d.pw := by
    have hkept : z.pw = y.pw := by
      subst hz
      split <;> rfl
    rw [hkept, hy, Dev.put_pw]
  have hfirst : (if d.get KEY_ROOT_att + 1 = 1 then { y with key := { y.key with starts := (y.key.starts + 1) % 2 ^ 64 } }
      else y) = z := hz.symm ▸ ite_congr (propext (by omega)) (fun _ => rfl) (fun _ => rfl)
  simp only [opRootAttempt, hroot, ne_eq, not_true_eq_false, ↓reduceIte, ← hy, hfirst]
  cases z.rootTry cells with
  | some r => rfl
  | none =>
    by_cases hatt : d.get KEY_ROOT_att < 2
    · simp [hatt, show ¬3 ≤ d.get KEY_ROOT_att + 1 by omega]
    · have hunloaded := hopt.resolve_left hatt
      simp [hatt, show 3 ≤ d.get KEY_ROOT_att + 1 by omega, hpw, hunloaded]

/-! ### The options (R356, R362) -/

/-- A choice by the Boolean of a proposition is the choice by the proposition. -/
theorem if_decide {α : Type} (p : Prop) [Decidable p] (a b : α) :
    (if decide p = true then a else b) = if p then a else b := by
  simp only [decide_eq_true_eq]

theorem opOptionLoad_due {v : OptVote} (hdue : d.due ⟨.options, 0, 0⟩ = some e) (hv : v = optVote d.mram.options)
    (hx : x = (((d.at_ e).cancel ⟨.options, 0, 0⟩).showOptions v).optionsAct)
    (hy : y = ({ x.when v.repair (fun t => t.raise pgRST 10) with
      pw := { (x.when v.repair (fun t => t.raise pgRST 10)).pw with optionsLoaded := true } } : Dev).mile 0)
    (hn : n = if y.opt 2 % 8 ≤ y.get RST_BOOT_CNT_count then y.get RST_BOOT_CNT_count else y.get RST_BOOT_CNT_count + 1)
    (hz : z = ((y.put RST_BOOT_CNT_limit (y.opt 2 % 8)).put RST_BOOT_CNT_count n).newRecord
      (if v.rom then 10 else y.get RST_CAUSE_cause) n)
    (hw : w = if v.rom = true then z.enterKennel 2 3
      else if y.opt 2 % 8 ≤ y.get RST_BOOT_CNT_count then z.enterKennel 1 2 else z)
    (hu : u = if w.pw.halted = true then w.outcome 9 else w) :
    opOptionLoad d = (if u.mram.rollback = true then
      (({ u with mram := { u.mram with rollback := false } } : Dev).raise pgUPD 13) else u).refresh.syncMode := by
  have hcause : ((y.put RST_BOOT_CNT_limit (y.opt 2 % 8)).put RST_BOOT_CNT_count n).get RST_CAUSE_cause =
      y.get RST_CAUSE_cause :=
    (get_put_reg _ _ (by decide)).trans (get_put_reg _ _ (by decide))
  rw [← hcause] at hz
  replace hn := hn.trans (if_decide ..).symm
  replace hw := hw.trans (ite_congr rfl (fun _ => rfl) (fun _ => (if_decide ..).symm))
  subst hv hx hy hn hz hw hu
  exact onTimer_due d _ hdue

/-! ### The fill and the Reserve rows (R293) -/

theorem opFillDone_fills (hup : d.up = true) (hopt : d.pw.optionsLoaded = true) (hf : d.pw.filled = false)
    (hy : y = (((({ d with pw := { d.pw with filled := true } } : Dev).put ECC_FILL_STAT_ondie 1).put ECC_FILL_STAT_region
      0x7FFD).raise pgECC 13).mile 1)
    (hz : z = (y.when (decide (y.pw.base = .kennel)) Dev.kennelProfile).each pagesAtFill Dev.askRelease)
    (hw : w = z.when (z.flag OPT_COPY_STAT_repair) (fun t => t.armIn ⟨.optionRepair, 0, 0⟩ (usT 30))) :
    opFillDone d =
      (w.when (decide (w.pw.base = .kennel) && !w.pw.halted) (fun t => t.releaseBraces [0])).refresh := by
  subst hy hz hw
  exact if_neg (by simp [hup, hopt, hf])

theorem opReserveRow_joins (coins : Nat) (last : Bool) (hup : d.up = true) (hf : d.pw.filled = true)
    (hreg : bitAt (d.get ECC_FILL_STAT_region) 1 = false)
    (hy : y = d.joinReserve (if last then rsvFirst - d.vlt.rsvJoined else min coins (rsvFirst - d.vlt.rsvJoined))) :
    opReserveRow coins last d =
      if last then (y.put ECC_FILL_STAT_region (setBitTo (y.get ECC_FILL_STAT_region) 1 true)).mile 6 else y := by
  subst hy
  exact if_neg (by simp [hup, hf, hreg])

/-! ### The key record check (R238) -/

/-- Nothing that fired waits for the start check. -/
theorem lateAlarm_nothing (hw : d.key.waiting = []) (ha : d.key.alarmWaits = false) : d.lateAlarm = d := by
  have hsame : ({ d with key := { d.key with waiting := [], alarmWaits := false } } : Dev) = d := by rw [← hw, ← ha]
  simp only [Dev.lateAlarm, hw, ha, List.reverse_nil, Dev.each, List.foldl_nil, Bool.false_eq_true, ↓reduceIte]
  exact hsame

theorem opRecordCheck_healthy (hroot : d.get KEY_STAT_root = 2) (hready : d.flag KEY_STAT_ready = false)
    (hs : d.flag KEY_STAT_sealed = false) (hrng : d.flag KEY_STAT_rng_ok = false) (hdue : d.due ⟨.reseed, 0, 0⟩ = none)
    (hopt : d.pw.optionsLoaded = true)
    (hy : y = ({ d with key := { d.key with recs := d.key.recs.map (fun (r : Nat × KeyRec) =>
      (r.1, { r.2 with s0 := { r.2.s0 with bad := false }, s1 := { r.2.s1 with bad := false } })) } } : Dev))
    (hz : z = (y.countRecs.seed.put KEY_STAT_rng_ok 1).recShow) (hl : z.get TMP_LATCH_sensors = 0)
    (hw : z.key.waiting = []) (ha : z.key.alarmWaits = false) : opRecordCheck [] true d = z.keyReady true := by
  have hchecked : opRecordCheck [] true d =
      if z.lateAlarm.get TMP_LATCH_sensors = 0 || z.lateAlarm.get TMP_STAT_resp = 0 then z.lateAlarm.keyReady true
      else z.lateAlarm.lateRespond := by
    subst hy hz
    exact if_neg (by simp [hroot, hready, hs, hrng, hdue, hopt, Dev.running])
  rw [hchecked, lateAlarm_nothing hw ha, if_pos (by simp [hl])]

/-! ### The obligation -/

/-- Settles O7: each clause is its command's operation in the case that the clause's hypotheses choose. -/
theorem startMemoriesAct : Obligations.StartMemoriesAct := by
  intro d u w x y z e coins n cells v
  refine ⟨fun hdue hy hz => ?rails, fun hdue => ?rootArray, fun hroot hy hz hopt => ?rootAttempt,
    fun hdue hv hx hy hn hz hw hu => ?options, fun hup hopt hf hy hz hw => ?fill,
    fun hup hf hreg => ⟨?row, fun hy => ?lastRow⟩,
    fun hroot hready hs hrng hdue hopt hy hz hl hw ha => ?records⟩
  case rails => exact answers_of_effect (fun _ => rfl) (opMainRails_due hdue hy hz)
  case rootArray => exact answers_of_effect (fun _ => rfl) (onTimer_due d _ hdue)
  case rootAttempt => exact answers_of_effect (fun _ => rfl) (opRootAttempt_regenerates hroot hy hz hopt)
  case options => exact answers_of_effect (fun _ => rfl) (opOptionLoad_due hdue hv hx hy hn hz hw hu)
  case fill => exact answers_of_effect (fun _ => rfl) (opFillDone_fills hup hopt hf hy hz hw)
  case row => exact answers_of_effect (fun _ => rfl) (opReserveRow_joins coins false hup hf hreg rfl)
  case lastRow => exact answers_of_effect (fun _ => rfl) (opReserveRow_joins coins true hup hf hreg hy)
  case records =>
    exact answers_of (fun _ => rfl) (List.all_nil (f := RecordFail.wf))
      (opRecordCheck_healthy hroot hready hs hrng hdue hopt hy hz hl hw ha)

end Sys2Proof.Machine
end

section
/-!
PROOF. Wake detection and Listen, the held wake, the wake of segments and the SUPEN outputs.
-/

namespace Sys2Proof.Machine

variable {d y z : Dev} {i : Initiator}

/-! ### Wake sources (R258, R259, R270) -/

/-- What an enabled source does with MAIN off: it goes to the wake decision, or its bus to Listen. -/
def Dev.darkWake (d : Dev) : WakeSrc → Dev
  | .pin n => d.wakeOff (.pin n) 2 n 0 0 0
  | .host => d.wakeOff .host 4 0 0 0 0
  | .vh n => d.wakeOff (.vh n) 5 n 0 0 0
  | .can ch => d.busActivity (.can ch) ch true
  | .lin ch => d.busActivity (.lin ch) (24 + ch.val) true
  | .eth p => d.busActivity (.eth p) p false

/-- A wake pin is seen active. -/
def Dev.pinActive (n : Fin 8) (d : Dev) : Dev := { d with wak := { d.wak with pins := setBitTo d.wak.pins n true } }

/-- The own effect of a source with MAIN powered and its units released. -/
def Dev.litWake (d : Dev) : WakeSrc → Dev
  | .pin n => if (d.pinActive n).wakeSeen.flag (WAK_WK_CFG_seg_v n) = true then
      (d.pinActive n).wakeSeen.segWake ((d.pinActive n).wakeSeen.get (WAK_WK_CFG_seg n)) else (d.pinActive n).wakeSeen
  | .host => d.wakeSeen
  | .vh _ => d
  | .can ch => d.portWake (canPort ch)
  | .lin ch => d.portWake (linPort ch)
  | .eth p => d.portWake p

section Detect
variable {src : WakeSrc}

/-- The own effects source by source, a pin's with the veto that it brings. -/
theorem litWake_of_source {pn : Fin 8} {vn : VhLink} {ch : CanCh} {ln : LinCh} {p : EthPort}
    (hy : y = (d.pinActive pn).wakeSeen)
    (hz : (src = .pin pn ∧ z = if y.flag (WAK_WK_CFG_seg_v pn) = true then y.segWake (y.get (WAK_WK_CFG_seg pn)) else y) ∨
      (src = .host ∧ z = d.wakeSeen) ∨ (src = .vh vn ∧ z = d) ∨ (src = .can ch ∧ z = d.portWake (canPort ch)) ∨
      (src = .lin ln ∧ z = d.portWake (linPort ln)) ∨ (src = .eth p ∧ z = d.portWake p)) : z = d.litWake src := by
  subst hy
  obtain ⟨rfl, rfl⟩ | ⟨rfl, rfl⟩ | ⟨rfl, rfl⟩ | ⟨rfl, rfl⟩ | ⟨rfl, rfl⟩ | ⟨rfl, rfl⟩ := hz <;> rfl

/-- The order in which a source's conditions are looked at. -/
theorem opWakeDetect_eq : opWakeDetect src d =
    if !d.wakeEnabled src || decide (d.pw.base = .off) || d.pw.losing then d
    else if !d.pw.main then d.darkWake src
    else if !d.pw.rails || d.pw.asserted then d.seeWake (seenBit src)
    else if d.standsBy src then d.raise pgWAK 14
    else if d.pw.halted then d.rejectTrig (wakeTrigger src)
    else if decide (d.pw.base = .start) && d.tim.released.isNone then (d.seeWake (seenBit src)).rejectTrig (wakeTrigger src)
    else if d.pw.settling || decide (d.get WAK_SEG_STAT_asleep ≠ (d.litWake src).get WAK_SEG_STAT_asleep) then d.litWake src
    else (d.litWake src).rejectTrig (wakeTrigger src) := by
  cases src <;> rfl

theorem opWakeDetect_nothing (h : d.wakeEnabled src = false ∨ d.pw.base = .off ∨ d.pw.losing = true) :
    opWakeDetect src d = d := by
  rw [opWakeDetect_eq]
  refine if_pos ?_
  obtain h | h | h := h
  · simp [h]
  · simp [h]
  · simp [h]

variable (hb : d.pw.base ≠ .off) (hl : d.pw.losing = false) (he : d.wakeEnabled src = true)
include hb hl he

theorem opWakeDetect_dark (hm : d.pw.main = false) : opWakeDetect src d = d.darkWake src := by
  simp [opWakeDetect_eq, hb, hl, he, hm]

section Powered
variable (hm : d.pw.main = true)
include hm

theorem opWakeDetect_reset (h : d.pw.rails = false ∨ d.pw.asserted = true) :
    opWakeDetect src d = d.seeWake (seenBit src) := by
  simp [opWakeDetect_eq, hb, hl, he, hm, h]

variable (hr : d.pw.rails = true) (ha : d.pw.asserted = false)
include hr ha

theorem opWakeDetect_standby (hs : d.standsBy src = true) : opWakeDetect src d = d.raise pgWAK 14 := by
  simp [opWakeDetect_eq, hb, hl, he, hm, hr, ha, hs]

variable (hs : d.standsBy src = false)
include hs

theorem opWakeDetect_halted (hh : d.pw.halted = true) : opWakeDetect src d = d.rejectTrig (wakeTrigger src) := by
  simp [opWakeDetect_eq, hb, hl, he, hm, hr, ha, hs, hh]

variable (hh : d.pw.halted = false)
include hh

omit hb in
theorem opWakeDetect_unreleased (hst : d.pw.base = .start) (hrel : d.tim.released = none) :
    opWakeDetect src d = (d.seeWake (seenBit src)).rejectTrig (wakeTrigger src) := by
  simp [opWakeDetect_eq, hl, he, hm, hr, ha, hs, hh, hst, hrel]

/-- A source has its own effect, and is rejected too where no power settles and no segment woke (R29). -/
theorem opWakeDetect_released (hrel : d.pw.base ≠ .start ∨ d.tim.released.isSome = true) (hz : z = d.litWake src) :
    opWakeDetect src d = if d.pw.settling = true ∨ d.get WAK_SEG_STAT_asleep ≠ z.get WAK_SEG_STAT_asleep
      then z else z.rejectTrig (wakeTrigger src) := by
  have hstart : ¬(d.pw.base = .start ∧ d.tim.released = none) :=
    fun h => hrel.elim (fun hne => hne h.1) (fun hsome => Option.isSome_iff_ne_none.mp hsome h.2)
  subst hz
  simp [opWakeDetect_eq, hb, hl, he, hm, hr, ha, hs, hh, -not_and, hstart]

end Powered
end Detect

/-! ### Listen (R260) -/

section Listen
variable {c : Decoder} {r : BusRecord}

theorem opListenFrame_ignores (h : d.decodes c = false ∨ (c.val < 24 ∧ (r.fdf = true ∨ 1 < r.fmt))) :
    opListenFrame c r d = d := by
  refine if_pos ?_
  obtain h | ⟨hc, h⟩ := h
  · simp [h]
  · simp [hc, h]

section Decoded
variable (hd : d.decodes c = true) (hv : c.val < 24 → r.fdf = false ∧ r.fmt ≤ 1)
  (hy : y = { d with wak := { d.wak with listenErr := NMap.set 0 d.wak.listenErr c (NMap.get 0 d.wak.listenErr c - 1) } })
include hd hv hy

/-- A taken frame works off one error, and is a bus wake where the wake list is selected and matches it. -/
theorem opListenFrame_taken : opListenFrame c r d =
    if y.flag WAK_LISTEN_CFG_sel && y.wakeMatch c (if c.val < 24 then r else { r with data := [] }) then
      y.wakeOff (if h : c.val < 24 then .can ⟨c, h⟩ else .lin ⟨c - 24, by omega⟩) 3 c 0 r.fmt r.id
    else y := by
  have htaken : ¬(!d.decodes c || (decide (c.val < 24) && (r.fdf || decide (1 < r.fmt)))) = true := by
    by_cases hc : c.val < 24
    · simp [hd, hc, hv hc]
    · simp [hd, hc]
  subst hy
  exact if_neg htaken

theorem opListenFrame_unselected (h : y.flag WAK_LISTEN_CFG_sel = false) : opListenFrame c r d = y := by
  rw [opListenFrame_taken hd hv hy, if_neg (by simp [h])]

theorem opListenFrame_can {ch : CanCh} (hc : c.val = ch.val) : opListenFrame c r d =
    if y.flag WAK_LISTEN_CFG_sel && y.wakeMatch c r then y.wakeOff (.can ch) 3 c 0 r.fmt r.id else y := by
  have hlt : c.val < 24 := hc ▸ ch.isLt
  have hch : (⟨c.val, hlt⟩ : CanCh) = ch := Fin.ext hc
  rw [opListenFrame_taken hd hv hy, if_pos hlt, dif_pos hlt, hch]

theorem opListenFrame_lin {ln : LinCh} (hc : c.val = 24 + ln.val) : opListenFrame c r d =
    if y.flag WAK_LISTEN_CFG_sel && y.wakeMatch c { r with data := [] } then y.wakeOff (.lin ln) 3 c 0 r.fmt r.id
    else y := by
  have hge : ¬c.val < 24 := by omega
  have hln : (⟨c.val - 24, by omega⟩ : LinCh) = ln := Fin.ext (by simp [hc])
  rw [opListenFrame_taken hd hv hy, if_neg hge, dif_neg hge, hln]

end Decoded

theorem opListenErrors_limit {ch : CanCh} (hd : d.decodes ch.val = true)
    (hy : y = { d with wak := { d.wak with listenErr := NMap.set 0 d.wak.listenErr ch (d.get WAK_LISTEN_CFG_err_lim) } }) :
    opListenErrors ch d = y.wakeOff (.can ch) 3 ch 2 0 0 := by
  subst hy
  exact if_neg (by simp [hd])

end Listen

/-! ### The held wake (R267) -/

theorem opHeldWake_held {x : Nat × Nat × Nat × Nat × Nat} {e : Nat} (hx : d.wak.held = some x)
    (hdue : d.due ⟨.mainDark, 0, 0⟩ = some e) :
    opHeldWake d = ((d.at_ e).cancel ⟨.mainDark, 0, 0⟩).wakeDecide x.1 x.2.1 x.2.2.1 x.2.2.2.1 x.2.2.2.2 := by
  rw [opHeldWake, hx]
  exact onTimer_due d _ hdue

theorem opHeldWake_none (h : d.wak.held = none) : opHeldWake d = d := by
  rw [opHeldWake, h]

/-! ### The launch of a segment wake (R26, R270) -/

/-- A launch in its turn happens at its time; armed late, it happens at its late tick and is counted. -/
theorem launch_inTurn {sl : Slot} {acts : List Nat} (f : Dev → Dev) (ha : d.armed sl = true)
    (hc : acts.contains (ctlAction (d.slot sl).ctl) = true) (hh : d.pw.halted = false)
    (ht : d.turn (d.turnAt sl (d.slot sl).time) = true) (ho : d.unowned sl = false)
    (hy : y = (d.lateTick sl).elim (d.atNs (d.slot sl).time) (fun t => d.atTick t)) :
    d.launch sl acts f =
      if (d.lateTick sl).isSome = true then ((f y).complete sl true).countLate sl else (f y).complete sl false := by
  cases hl : d.lateTick sl with
  | none =>
    rw [hl] at hy
    rw [launch_onTime f ha hc hh ht hl, hy]
    rfl
  | some t =>
    rw [hl] at hy
    subst hy
    simp [Dev.launch, ha, List.contains_iff_mem.mp hc, hh, ht, hl, ho]

/-! ### SUPEN commands (R257, R53) -/

/-- An admitted write of a locked page is a violation and nothing else. -/
theorem write_locked {pg : Nat} (off v : Nat) (f : Dev → Dev) (h : d.accepts i = true) (hl : d.locked pg = true) :
    d.write i pg off v f = d.lockViol pg i off v := by
  rw [Dev.write, access_accepts _ h, if_pos hl]

section Supen
variable {n : SupenIdx} {on : Bool} {b : Nat} (hacc : d.accepts i = true) (hb : b = if on then 1 else 0)
include hacc hb

theorem opSupenCmd_locked (hl : d.locked pgPWR = true) :
    opSupenCmd i n on d = d.lockViol pgPWR i (0x200 + 4 * n.val) (b * 2 ^ 16) := by
  have hword : b * 2 ^ 16 = if on then 2 ^ 16 else 0 := by
    rw [hb]
    cases on <;> rfl
  exact hword ▸ write_locked _ _ _ hacc hl

theorem opSupenCmd_unlocked (hl : d.locked pgPWR = false) (hy : y = d.put (PWR_SUPEN_CFG_cmd n) b) :
    opSupenCmd i n on d = if y.get (PWR_SUPEN_CFG_mode n) = 0 then y.setSupen n on else y := by
  subst hb hy
  exact write_accepts _ _ _ hacc hl

end Supen

/-! ### The obligation -/

/-- Settles O43: each clause is its command's operation in the case that the clause's hypotheses choose. -/
theorem wakesAct : Obligations.WakesAct := by
  intro d y z i n pn ch ln c r p vn k src v e b x on fin
  refine ⟨fun h => ?detectsNothing,
    fun hb hl he => ⟨fun hm => ?dark, fun hm => ⟨fun h => ?inReset, fun hr ha => ⟨fun hs => ?standby,
      fun hs hh => ?halted, fun hs hh hst hrel => ?unreleased,
      fun hs hh hrel hy hz => ⟨fun h => ?wakes, fun hset hasl => ?rejected⟩⟩⟩⟩,
    fun hwf => ⟨fun h => ?frameIgnored, fun hd hv hy => ⟨fun hsel => ?frameUnselected,
      fun hc => ⟨fun hmatch => ?canMiss, fun hsel hmatch => ?canMatch⟩,
      fun hc => ⟨fun hmatch => ?linMiss, fun hsel hmatch => ?linMatch⟩⟩⟩,
    fun hd => ?errorsIgnored, fun hd hy => ?errorLimit, fun hb he => ?energy, fun h => ?noEnergy,
    fun hdue hy hz => ?listenEnds, fun hx hdue => ?heldDecided, fun h => ?noneHeld, fun hacc => ?segmentCommand,
    fun ha hh hc ht hy hfin => ?segmentLaunch, fun hdue => ?supenDelay,
    fun hacc hbit => ⟨fun hl => ?supenLocked, fun hl hy => ⟨fun hmode => ?supenFollows, fun hmode => ?supenKeeps⟩⟩⟩
  case detectsNothing => exact answers_of_effect (fun _ => rfl) (opWakeDetect_nothing h)
  case dark =>
    have hdark : Answers (.wakeDetect src) d (d.darkWake src) :=
      answers_of_effect (fun _ => rfl) (opWakeDetect_dark hb hl he hm)
    refine ⟨fun hsrc => ?_, fun hsrc => ?_, fun hsrc => ?_, fun hsrc => ?_, fun hsrc => ?_, fun hsrc => ?_⟩ <;>
      (subst hsrc; exact hdark)
  case inReset => exact answers_of_effect (fun _ => rfl) (opWakeDetect_reset hb hl he hm h)
  case standby => exact answers_of_effect (fun _ => rfl) (opWakeDetect_standby hb hl he hm hr ha hs)
  case halted => exact answers_of_effect (fun _ => rfl) (opWakeDetect_halted hb hl he hm hr ha hs hh)
  case unreleased => exact answers_of_effect (fun _ => rfl) (opWakeDetect_unreleased hl he hm hr ha hs hh hst hrel)
  case wakes =>
    exact answers_of_effect (fun _ => rfl)
      ((opWakeDetect_released hb hl he hm hr ha hs hh hrel (litWake_of_source hy hz)).trans (if_pos h))
  case rejected =>
    exact answers_of_effect (fun _ => rfl)
      ((opWakeDetect_released hb hl he hm hr ha hs hh hrel (litWake_of_source hy hz)).trans (if_neg (by simp [hset, hasl])))
  case frameIgnored => exact answers_of (fun _ => rfl) hwf (opListenFrame_ignores h)
  case frameUnselected => exact answers_of (fun _ => rfl) hwf (opListenFrame_unselected hd hv hy hsel)
  case canMiss => exact answers_of (fun _ => rfl) hwf ((opListenFrame_can hd hv hy hc).trans (if_neg (by simp [hmatch])))
  case canMatch => exact answers_of (fun _ => rfl) hwf ((opListenFrame_can hd hv hy hc).trans (if_pos (by simp [hsel, hmatch])))
  case linMiss => exact answers_of (fun _ => rfl) hwf ((opListenFrame_lin hd hv hy hc).trans (if_neg (by simp [hmatch])))
  case linMatch => exact answers_of (fun _ => rfl) hwf ((opListenFrame_lin hd hv hy hc).trans (if_pos (by simp [hsel, hmatch])))
  case errorsIgnored => exact answers_of_effect (fun _ => rfl) (if_pos (by simp [hd]))
  case errorLimit => exact answers_of_effect (fun _ => rfl) (opListenErrors_limit hd hy)
  case energy => exact answers_of_effect (fun _ => rfl) (if_pos (by simp [hb, he]))
  case noEnergy =>
    refine answers_of_effect (fun _ => rfl) (if_neg ?_)
    obtain h | h := h
    · simp [h]
    · simp [h]
  case listenEnds =>
    subst hy hz
    exact answers_of_effect (fun _ => rfl) (onTimer_due d _ hdue)
  case heldDecided => exact answers_of_effect (fun _ => rfl) (opHeldWake_held hx hdue)
  case noneHeld => exact answers_of_effect (fun _ => rfl) (opHeldWake_none h)
  case segmentCommand => exact answers_of_effect (fun _ => rfl) (access_accepts _ hacc)
  case segmentLaunch =>
    subst hfin
    exact answers_of_effect (fun _ => rfl) (launch_inTurn _ ha (by rw [hc]; rfl) hh ht rfl hy)
  case supenDelay => exact answers_of_effect (fun _ => rfl) (onTimer_due d _ hdue)
  case supenLocked => exact answers_of_effect (fun _ => rfl) (opSupenCmd_locked hacc hbit hl)
  case supenFollows => exact answers_of_effect (fun _ => rfl) ((opSupenCmd_unlocked hacc hbit hl hy).trans (if_pos hmode))
  case supenKeeps => exact answers_of_effect (fun _ => rfl) ((opSupenCmd_unlocked hacc hbit hl hy).trans (if_neg hmode))

end Sys2Proof.Machine
end

section
/-!
PROOF. The consent ring: rounds begun, joined, committed and vetoed, their time-outs, and the two sleep commits.
-/

namespace Sys2Proof.Machine

variable {d u w x y z : Dev} {i : Initiator} {s : SleepSet} {pins : Nat} {tk : Token}

/-! ### The commands apply their operations -/

theorem consentRoundStart_answers (hp : pins < 256) (h : opRoundStart i s pins d = y) :
    Answers (.consentRoundStart i s pins) d y :=
  answers_of (fun _ => rfl) (decide_eq_true hp) h

theorem autoRoundStart_answers (hp : pins < 256) (h : opAutoRound pins d = y) : Answers (.autoRoundStart pins) d y :=
  answers_of (fun _ => rfl) (decide_eq_true hp) h

theorem proposeReceived_answers (ht : tk.wf = true) (hp : pins < 256) (h : opPropose tk pins d = y) :
    Answers (.proposeReceived tk pins) d y :=
  answers_of (fun _ => rfl) (by simp [ht, hp]) h

theorem localConsentLost_answers (hp : pins < 256) (h : opConsentLost pins d = y) : Answers (.localConsentLost pins) d y :=
  answers_of (fun _ => rfl) (decide_eq_true hp) h

section Token
variable (ht : tk.wf = true)
include ht

theorem commitTokenReceived_answers (h : opCommitToken tk d = y) : Answers (.commitTokenReceived tk) d y :=
  answers_of (fun _ => rfl) ht h

theorem vetoReceived_answers (h : opVetoToken tk d = y) : Answers (.vetoReceived tk) d y :=
  answers_of (fun _ => rfl) ht h

end Token

/-! ### Rounds that this device begins or vetoes (R263, R265) -/

section Access
variable (hacc : d.accepts i = true)
include hacc

theorem opRoundStart_accepts (hz : z = d.seePins pins) : opRoundStart i s pins d =
    if !z.ringRuns || !z.flag WAK_CONS_CFG_init then z
    else if z.phase != 0 || !z.maySettle then z.rejectTrig 0x0B
    else z.startRound s := by
  subst hz
  exact access_accepts _ hacc

theorem opVetoCmd_accepts :
    opVetoCmd i d = if !d.ringRuns then d else if d.phase = 0 then d.rejectTrig 0x0C else d.veto :=
  access_accepts _ hacc

end Access

section Auto
variable {n : Nat} (hz : z = d.seePins pins) (hn : n = z.get WAK_CONS_CFG_auto_set)
include hz hn

theorem opAutoRound_starts (hr : z.ringRuns = true) (hi : z.flag WAK_CONS_CFG_init = true)
    (ha : z.flag WAK_CONS_CFG_auto = true) (hph : z.phase = 0) (hm : z.maySettle = true) (hc : z.consents n = true)
    (hidle : z.portsIdle n (z.get WAK_CONS_IDLE_ms) = true) (hoff : z.wak.holdOff ≤ z.now)
    (hbl : z.wak.blocked + msT (z.get WAK_CONS_IDLE_ms) ≤ z.now) : opAutoRound pins d = z.startRound n := by
  subst hz hn
  exact if_pos (by simp [hr, hi, ha, hph, hm, hc, hidle, hoff, hbl])

theorem opAutoRound_waits (h : z.ringRuns = false ∨ z.flag WAK_CONS_CFG_init = false ∨ z.flag WAK_CONS_CFG_auto = false ∨
    z.phase ≠ 0 ∨ z.maySettle = false ∨ z.consents n = false ∨ z.portsIdle n (z.get WAK_CONS_IDLE_ms) = false ∨
    z.now < z.wak.holdOff ∨ z.now < z.wak.blocked + msT (z.get WAK_CONS_IDLE_ms)) : opAutoRound pins d = z := by
  subst hz hn
  refine if_neg ?_
  simp only [Bool.and_eq_true, decide_eq_true_eq, beq_iff_eq]
  rintro ⟨⟨⟨⟨⟨⟨⟨⟨hr, hi⟩, ha⟩, hph⟩, hm⟩, hc⟩, hidle⟩, hoff⟩, hbl⟩
  simp [hr, hi, ha, hph, hm, hc, hidle, Nat.not_lt.mpr hoff, Nat.not_lt.mpr hbl] at h

end Auto

theorem opConsentLost_eq (hz : z = d.seePins pins) : opConsentLost pins d =
    if z.ringRuns && z.phase != 0 && !z.consents (z.get WAK_CONS_STAT_set) then z.veto else z := by
  subst hz
  rfl

/-! ### PROPOSE and COMMIT (R263, R264) -/

section Propose
variable (hz : z = d.seePins pins) (hr : z.ringRuns = true)
include hz hr

theorem opPropose_own (ho : tk.origin = z.ownId) :
    opPropose tk pins d = if z.ofRound tk && z.phase == 1 then z.proposeBack tk else z := by
  subst hz
  exact (if_neg (by simp [hr])).trans (if_pos ho)

section Other
variable (ho : tk.origin ≠ z.ownId)
include ho

theorem opPropose_joins (hph : z.phase = 0) : opPropose tk pins d = z.join tk := by
  subst hz
  exact (if_neg (by simp [hr])).trans ((if_neg ho).trans (if_pos hph))

variable (hph : z.phase ≠ 0)
include hph

theorem opPropose_known (hround : z.ofRound tk = true) : opPropose tk pins d = z := by
  subst hz
  exact (if_neg (by simp [hr])).trans ((if_neg ho).trans ((if_neg hph).trans (if_pos hround)))

/-- Two open rounds are a conflict, which the lower origin wins. -/
theorem opPropose_conflict (hround : z.ofRound tk = false) (hy : y = z.wakCount 5) :
    opPropose tk pins d = if tk.origin < y.get WAK_CONS_ORG_origin then y.setAside.join tk else y := by
  subst hz hy
  exact (if_neg (by simp [hr])).trans ((if_neg ho).trans ((if_neg hph).trans (if_neg (by simp [hround]))))

end Other
end Propose

theorem opPropose_stopped (hz : z = d.seePins pins) (hr : z.ringRuns = false) : opPropose tk pins d = z := by
  subst hz
  exact if_pos (by simp [hr])

theorem opCommitToken_ignored (h : d.ringRuns = false ∨ d.ofRound tk = false) : opCommitToken tk d = d :=
  if_pos (by simpa using h)

theorem opCommitToken_ofRound (hr : d.ringRuns = true) (ho : d.ofRound tk = true) : opCommitToken tk d =
    if d.isOrigin then
      (if d.phase = 2 ∧ d.ns + d.get WAK_CONS_TIM_guard_us * 1000 ≤ d.sleepT then (d.put WAK_CONS_STAT_phase 3).raise pgWAK 9
       else d)
    else if d.phase = 1 then
      ((((d.put WAK_CONS_STAT_phase 2).wr64 WAK_CONS_T_LO WAK_CONS_T_HI tk.t).cancel ⟨.consTmo, 0, 0⟩).wakCount 1).passOn tk
    else d :=
  if_neg (by simp [hr, ho])

/-! ### VETO and WAKE (R265, R270) -/

/-- A count of the consent counters leaves every other register as it is. -/
theorem get_wakCount {f : FRef} {k : Nat} (h : f.addr ≠ WAK_CONS_CNT k) : (d.wakCount k).get f = d.get f :=
  get_put_reg _ _ h

/-- The device's ID stands in one register. -/
theorem ownId_of_rd {e : Dev} (h : e.rd SYS_DEVID_id.addr = d.rd SYS_DEVID_id.addr) : e.ownId = d.ownId := by
  have hid : e.get SYS_DEVID_id = d.get SYS_DEVID_id := by rw [Dev.get, h, Dev.get]
  have hvalid : e.get SYS_DEVID_valid = d.get SYS_DEVID_valid := by
    rw [Dev.get, show SYS_DEVID_valid.addr = SYS_DEVID_id.addr from rfl, h]
    rfl
  rw [Dev.ownId, Dev.flag, hid, hvalid, Dev.ownId, Dev.flag]

theorem ownId_wakCount {k : Nat} (h : SYS_DEVID_id.addr ≠ WAK_CONS_CNT k) : (d.wakCount k).ownId = d.ownId :=
  ownId_of_rd (rd_count_other d h)

theorem ownId_raise {pg b : Nat} (h : SYS_DEVID_id.addr ≠ PG_IRQ_STAT pg) : (d.raise pg b).ownId = d.ownId :=
  ownId_of_rd (rd_raise_other d h)

theorem ns_wakCount_veto : (d.wakCount 3).ns = d.ns := by
  have hrate : (d.wakCount 3).rd TIM_RATE = d.rd TIM_RATE := rd_count_other d (by decide)
  simp only [Dev.ns, Dev.tq, Dev.tqAt, Dev.rateQ, Dev.ticks, hrate]
  rfl

theorem opVetoToken_ignored (h : d.ringRuns = false ∨ d.wak.sent.contains (3, tk.origin, tk.seq) = true) :
    opVetoToken tk d = d :=
  if_pos (by simpa using h)

/-- A VETO not passed on before is counted and passed on; it ends the open round, wakes the segments that slept, or ends the
round that was set aside. -/
theorem opVetoToken_passes (hr : d.ringRuns = true) (hs : d.wak.sent.contains (3, tk.origin, tk.seq) = false)
    (hy : y = d.wakCount 3) (hx : x = y.tokenOnce { tk with sender := y.ownId, t := y.ns } none) : opVetoToken tk d =
      if x.ofRound tk then (x.raise pgWAK 10).vetoed
      else if x.ofSleep tk then (x.wakCount 6).wakeSet ((x.wakCount 6).get WAK_SLEEP_REC_set)
      else if x.wak.aside.isSome && tk.origin == x.ownId then
        ({ x with wak := { x.wak with aside := none } } : Dev).cancel ⟨.consTmo, 1, 0⟩
      else x := by
  have hset : (x.wakCount 6).get WAK_SLEEP_REC_set = x.get WAK_SLEEP_REC_set := get_wakCount (by decide)
  rw [hset]
  rw [hy, ownId_wakCount (by decide), ns_wakCount_veto] at hx
  subst hx
  exact if_neg (by rw [hr, hs]; decide)

theorem opWakeToken_ignored (h : d.ringRuns = false ∨ d.wak.sent.contains (4, tk.origin, tk.seq) = true) :
    opWakeToken tk d = d :=
  if_pos (by simpa using h)

theorem opWakeToken_passes (hr : d.ringRuns = true) (hs : d.wak.sent.contains (4, tk.origin, tk.seq) = false)
    (hx : x = d.tokenOnce { tk with sender := d.ownId, t := d.ns } none) :
    opWakeToken tk d = (if d.ofSleep tk = true then x.wakCount 6 else x).wakeSet (tk.set_ % 64) := by
  subst hx
  exact if_neg (by rw [hr, hs]; decide)

/-! ### Time-outs (R264) -/

theorem opConsTimeout_open {e : Nat} (ha : d.wak.aside = none) (hdue : d.due ⟨.consTmo, 0, 0⟩ = some e) :
    opConsTimeout d = ((((d.at_ e).cancel ⟨.consTmo, 0, 0⟩).wakCount 4).raise pgWAK 13).veto := by
  rw [opConsTimeout, ha]
  exact onTimer_due d _ hdue

theorem opConsTimeout_aside {e : Nat} {q : Nat × Nat} (ha : d.wak.aside = some q) (hdue : d.due ⟨.consTmo, 1, 0⟩ = some e)
    (hy : y = (d.at_ e).cancel ⟨.consTmo, 1, 0⟩) (hx : x = { y with wak := { y.wak with aside := none } })
    (hw : w = (x.wakCount 4).raise pgWAK 13) : opConsTimeout d = w.sendVeto q.1 w.ownId q.2 := by
  have hid : w.ownId = x.ownId := by
    rw [hw, ownId_raise (by decide), ownId_wakCount (by decide)]
  rw [hid, hw, opConsTimeout, ha]
  subst hx hy
  exact onTimer_due d _ hdue

/-! ### The sleep commits (R267, R268) -/

theorem opSleepSet_unarmed (h : d.sleepArmed = false ∨ d.get WAK_CONS_STAT_set = 0) : opSleepSet d = d := by
  refine if_pos ?_
  obtain h | h := h
  · simp [h]
  · simp [h]

theorem opSleepDevice_unarmed (h : d.sleepArmed = false ∨ d.get WAK_CONS_STAT_set ≠ 0) : opSleepDevice d = d := by
  refine if_pos ?_
  obtain h | h := h
  · simp [h]
  · simp [h]

section Commit
variable (ha : d.sleepArmed = true) (ht : d.turn (d.turnAt .sleepCommit d.sleepT) = true) (hy : y = d.atNs d.sleepT)
include ha ht hy

theorem opSleepSet_commits (hs : d.get WAK_CONS_STAT_set ≠ 0) (hx : x = y.sleepRecord) :
    opSleepSet d = (x.closeRound.each (x.setSegs (x.get WAK_CONS_STAT_set)) Dev.segSleep).syncMode := by
  subst hy hx
  exact if_neg (by simp [ha, ht, hs])

theorem opSleepDevice_commits (hs : d.get WAK_CONS_STAT_set = 0) (hu : u = y.endCanTx (List.finRange 24))
    (hx : x = u.each u.followers Dev.supenDelay)
    (hw : w = { x with wak := { x.wak with follow := u.followers.foldl (fun a k => a + 2 ^ k) 0 } }) :
    opSleepDevice d =
      ((w.copyTimings.sleepRecord.put WAK_WSR_SEEN_src 0).closeRound.mainOff .dormant).armIn ⟨.mainDark, 0, 0⟩ (msT 1) := by
  rw [opSleepDevice, if_neg (by simp [ha, ht, hs])]
  simp only [← hy, ← hu, ← hx, ← hw]

end Commit

/-! ### The obligation -/

/-- Settles O44: each clause is its command's operation in the case that the clause's hypotheses choose. -/
theorem consentRoundsAct : Obligations.ConsentRoundsAct := by
  intro d z y x w u i s pins e n q tk htk hpins hz
  refine ⟨fun hacc => ⟨fun hr hi => ⟨fun hph hm => ?starts, fun h => ?startRejected⟩, fun h => ?startIgnored,
      fun hr => ?vetoIgnored, fun hr hph => ?vetoes, fun hr hph => ?vetoRejected⟩,
    fun hn => ⟨fun hr hi ha hph hm hc hidle hoff hbl => ?autoStarts, fun h => ?autoWaits⟩,
    fun hr => ⟨?proposeStopped, ?lostStopped⟩,
    fun hr => ⟨fun ho => ⟨fun hround hph => ?returns, fun h => ?returnsStale⟩,
      fun ho => ⟨fun hph => ?joins, fun hph hround => ?known,
        fun hph hround hy => ⟨fun hlt => ?conflictLost, fun hle => ?conflictWon⟩⟩,
      fun hph hc => ?lost, fun h => ?kept⟩,
    fun h => ?commitIgnored,
    fun hr hround => ⟨fun ho hph ht => ?completes, fun ho h => ?commitLate, fun ho hph => ?commits, fun ho hph => ?commitsStale⟩,
    fun h => ?vetoKnown,
    fun hr hs hy hx => ⟨fun hround => ?vetoEnds, fun hround hsl => ?vetoWakes, fun hround hsl ha ho hw => ?vetoAside,
      fun hround hsl h => ?vetoPasses⟩,
    fun h => ?wakeKnown, fun hr hs hx => ?wakePasses, fun hr ho hph => ?guardExpires, fun h => ?guardIdle,
    fun ha hdue => ?timeout, fun ha hdue hy hx hw => ?timeoutAside,
    fun h => ⟨?setUnarmed, ?deviceUnarmed⟩,
    fun ha => ⟨fun hset => ?setOther, fun hset => ?deviceOther,
      fun ht hy => ⟨fun hset hx => ?setSleeps, fun hset hu hx hw => ?deviceSleeps⟩⟩⟩
  case starts =>
    exact consentRoundStart_answers hpins
      ((opRoundStart_accepts hacc hz).trans ((if_neg (by simp [hr, hi])).trans (if_neg (by simp [hph, hm]))))
  case startRejected =>
    exact consentRoundStart_answers hpins
      ((opRoundStart_accepts hacc hz).trans ((if_neg (by simp [hr, hi])).trans (if_pos (by simpa using h))))
  case startIgnored => exact consentRoundStart_answers hpins ((opRoundStart_accepts hacc hz).trans (if_pos (by simpa using h)))
  case vetoIgnored => exact answers_of_effect (fun _ => rfl) ((opVetoCmd_accepts hacc).trans (if_pos (by simp [hr])))
  case vetoes =>
    exact answers_of_effect (fun _ => rfl) ((opVetoCmd_accepts hacc).trans ((if_neg (by simp [hr])).trans (if_neg hph)))
  case vetoRejected =>
    exact answers_of_effect (fun _ => rfl) ((opVetoCmd_accepts hacc).trans ((if_neg (by simp [hr])).trans (if_pos hph)))
  case autoStarts => exact autoRoundStart_answers hpins (opAutoRound_starts hz hn hr hi ha hph hm hc hidle hoff hbl)
  case autoWaits => exact autoRoundStart_answers hpins (opAutoRound_waits hz hn h)
  case proposeStopped => exact proposeReceived_answers htk hpins (opPropose_stopped hz hr)
  case lostStopped => exact localConsentLost_answers hpins ((opConsentLost_eq hz).trans (if_neg (by simp [hr])))
  case returns =>
    exact proposeReceived_answers htk hpins
      ((opPropose_own hz hr ho).trans (if_pos (by simp [hround, hph])))
  case returnsStale =>
    refine proposeReceived_answers htk hpins ((opPropose_own hz hr ho).trans (if_neg ?_))
    obtain h | h := h
    · simp [h]
    · simp [h]
  case joins => exact proposeReceived_answers htk hpins (opPropose_joins hz hr ho hph)
  case known =>
    exact proposeReceived_answers htk hpins (opPropose_known hz hr ho hph hround)
  case conflictLost =>
    exact proposeReceived_answers htk hpins ((opPropose_conflict hz hr ho hph hround hy).trans (if_pos hlt))
  case conflictWon =>
    exact proposeReceived_answers htk hpins ((opPropose_conflict hz hr ho hph hround hy).trans (if_neg (Nat.not_lt.mpr hle)))
  case lost => exact localConsentLost_answers hpins ((opConsentLost_eq hz).trans (if_pos (by simp [hr, hph, hc])))
  case kept =>
    refine localConsentLost_answers hpins ((opConsentLost_eq hz).trans (if_neg ?_))
    obtain h | h := h
    · simp [h]
    · simp [h]
  case commitIgnored => exact commitTokenReceived_answers htk (opCommitToken_ignored h)
  case completes =>
    exact commitTokenReceived_answers htk ((opCommitToken_ofRound hr hround).trans ((if_pos ho).trans (if_pos ⟨hph, ht⟩)))
  case commitLate =>
    exact commitTokenReceived_answers htk ((opCommitToken_ofRound hr hround).trans ((if_pos ho).trans (if_neg (by omega))))
  case commits =>
    exact commitTokenReceived_answers htk ((opCommitToken_ofRound hr hround).trans ((if_neg (by simp [ho])).trans (if_pos hph)))
  case commitsStale =>
    exact commitTokenReceived_answers htk ((opCommitToken_ofRound hr hround).trans ((if_neg (by simp [ho])).trans (if_neg hph)))
  case vetoKnown => exact vetoReceived_answers htk (opVetoToken_ignored h)
  case vetoEnds => exact vetoReceived_answers htk ((opVetoToken_passes hr hs hy hx).trans (if_pos hround))
  case vetoWakes =>
    exact vetoReceived_answers htk ((opVetoToken_passes hr hs hy hx).trans ((if_neg (by simp [hround])).trans (if_pos hsl)))
  case vetoAside =>
    subst hw
    exact vetoReceived_answers htk ((opVetoToken_passes hr hs hy hx).trans
      ((if_neg (by simp [hround])).trans ((if_neg (by simp [hsl])).trans (if_pos (by simp [ha, ho])))))
  case vetoPasses =>
    refine vetoReceived_answers htk ((opVetoToken_passes hr hs hy hx).trans
      ((if_neg (by simp [hround])).trans ((if_neg (by simp [hsl])).trans (if_neg ?_))))
    obtain h | h := h
    · simp [h]
    · simp [h]
  case wakeKnown => exact answers_of (fun _ => rfl) htk (opWakeToken_ignored h)
  case wakePasses => exact answers_of (fun _ => rfl) htk (opWakeToken_passes hr hs hx)
  case guardExpires => exact answers_of_effect (fun _ => rfl) (if_pos (by simp [hr, ho, hph]))
  case guardIdle =>
    refine answers_of_effect (fun _ => rfl) (if_neg ?_)
    obtain h | h | h := h
    · simp [h]
    · simp [h]
    · simp [h]
  case timeout => exact answers_of_effect (fun _ => rfl) (opConsTimeout_open ha hdue)
  case timeoutAside => exact answers_of_effect (fun _ => rfl) (opConsTimeout_aside ha hdue hy hx hw)
  case setUnarmed => exact answers_of_effect (fun _ => rfl) (opSleepSet_unarmed (.inl h))
  case deviceUnarmed => exact answers_of_effect (fun _ => rfl) (opSleepDevice_unarmed (.inl h))
  case setOther => exact answers_of_effect (fun _ => rfl) (opSleepSet_unarmed (.inr hset))
  case deviceOther => exact answers_of_effect (fun _ => rfl) (opSleepDevice_unarmed (.inr hset))
  case setSleeps => exact answers_of_effect (fun _ => rfl) (opSleepSet_commits ha ht hy hset hx)
  case deviceSleeps => exact answers_of_effect (fun _ => rfl) (opSleepDevice_commits ha ht hy hset hu hx hw)

end Sys2Proof.Machine
end

section
/-!
PROOF. The braces: mismatch and self-test, the watchdog, handover, class B reset and resynchronisation, the sweep, and the
transmit ring of the BRACE port.
-/

namespace Sys2Proof.Machine

variable {d w x y z : Dev} {i : Initiator} {br : Brace} {e : Nat} {v : Word}

/-! ### Mismatch and self-test (R275, R278) -/

theorem opMismatch_stopped {group : Nat} (h : d.up = false ∨ d.braceRuns (brIx br) = false) : opMismatch br group d = d :=
  if_pos (by simpa using h)

theorem opMismatch_runs {group : Nat} (hup : d.up = true) (hr : d.braceRuns (brIx br) = true)
    (hy : y = d.count (BRC_CMP_MISM (brIx br)))
    (hz : z = if y.flag (BRC_CMP_CAP_valid (brIx br)) = true then y
      else ((y.put (BRC_CMP_CAP_valid (brIx br)) 1).put (BRC_CMP_CAP_group (brIx br)) group).wr64
        (BRC_CMP_CAP_T_LO (brIx br)) (BRC_CMP_CAP_T_HI (brIx br)) y.ns) :
    opMismatch br group d = (z.raise (pgBRC (brIx br)) 8).braceFault (brIx br) 1 1 := by
  subst hy hz
  exact if_neg (by simp [hup, hr])

theorem braceMismatch_answers {group : Nat} (hg : group < 32) (h : opMismatch br group d = y) :
    Answers (.braceMismatch br group) d y :=
  answers_of (fun _ => rfl) (decide_eq_true hg) h

theorem opStestRun_accepts (h : d.accepts i = true) : opStestRun i br d =
    if d.handedOver (pgBRC (brIx br)) then d.updateBusy (pgBRC (brIx br)) i (BRC_STEST_CMD (brIx br) % 0x1000) 1
    else if d.role (brIx br) ≠ 2 then d
    else (((d.braceStops (brIx br)).setDiag (pgBRC (brIx br)) true).armIn ⟨.selfTest, brIx br, 0⟩ (4 * 2048)).refreshFrom
      (pgBRC (brIx br)) := by
  unfold opStestRun
  exact access_accepts _ h

/-- The end of a self-test takes the brace out of Diagnostic, and any group shown as failed fails the brace. -/
theorem opSelfTestDone_due (hdue : d.due ⟨.selfTest, brIx br, 0⟩ = some e) (hx : x = d.cancel ⟨.selfTest, brIx br, 0⟩)
    (hy : y = if (x.pg (pgBRC (brIx br))).diag = true then x.setDiag (pgBRC (brIx br)) false else x) :
    opSelfTestDone br v d =
      if v = 0 then (y.wr (BRC_STEST_RES (brIx br)) v).testPassed (brIx br)
      else (y.wr (BRC_STEST_RES (brIx br)) v).testFailed (brIx br) := by
  subst hx hy
  unfold opSelfTestDone
  exact endTimer_due d _ hdue

/-! ### The watchdog (R287) -/

/-- A kick now would come too early after the previous one. -/
def Dev.kickEarly (d : Dev) (b : Nat) : Prop :=
  NMap.get 0 d.brc.kick b ≠ 0 ∧ d.now + 1 < NMap.get 0 d.brc.kick b + msT (d.get (BRC_WDG_CFG_min_ms b))

theorem not_kickEarly {b : Nat}
    (h : NMap.get 0 d.brc.kick b = 0 ∨ NMap.get 0 d.brc.kick b + msT (d.get (BRC_WDG_CFG_min_ms b)) ≤ d.now + 1) :
    ¬ d.kickEarly b :=
  fun ⟨hkick, hearly⟩ => h.elim hkick (Nat.not_le.mpr hearly)

theorem opWdgKick_unwatched (h : d.up = false ∨ d.running ⟨.wdg, brIx br, 0⟩ = false) : opWdgKick br v d = d :=
  if_pos (by simpa using h)

section Watched
variable (hup : d.up = true) (hrun : d.running ⟨.wdg, brIx br, 0⟩ = true)
include hup hrun

theorem opWdgKick_expires (h : v ≠ 0x5A5AA5A5 ∨ d.kickEarly (brIx br)) : opWdgKick br v d = d.wdgExpires (brIx br) :=
  (if_neg (by simp [hup, hrun])).trans (if_pos (by simpa [Dev.kickEarly] using h))

theorem opWdgKick_restarts (h : ¬ d.kickEarly (brIx br))
    (hy : y = { d with brc := { d.brc with kick := NMap.set 0 d.brc.kick (brIx br) (d.now + 1) } }) :
    opWdgKick br 0x5A5AA5A5 d = y.armIn ⟨.wdg, brIx br, 0⟩ (msT (max 1 (y.get (BRC_WDG_CFG_ms (brIx br))))) := by
  subst hy
  exact (if_neg (by simp [hup, hrun])).trans (if_neg (by simpa [Dev.kickEarly] using h))

end Watched

/-! ### Handover and class B reset (R282, R290, R293) -/

theorem opHandoverCmd_accepts (h : d.accepts i = true) : opHandoverCmd i br v d =
    if bitsOf v 31 16 ≠ 0xB0A7 then d
    else if d.canHandOver (brIx br) then
      (if d.mayHandOver then d.handover (1 - brIx br) (brIx br) 4 else d.rejectTrig 0x10)
    else (d.put (BRC_HO_STAT_err (brIx br)) 1).setErr (pgBRC (brIx br)) i 0x104 v.toNat := by
  unfold opHandoverCmd
  exact access_accepts _ h

theorem opClassBRequest_unlocked (h : d.accepts i = true) (hl : d.locked (pgBRC (brIx br)) = false) :
    opClassBRequest i br d = d.classBAsked i (brIx br) :=
  write_accepts _ _ _ h hl

theorem classBAsked_active {b : Nat} (h : d.role b = 1) : d.classBAsked i b =
    if d.canHandOver (1 - b) then (d.handover b (1 - b) 4).classB b 3 else d.setErr (pgBRC b) i 0x10 2 :=
  if_pos h

/-- A brace that is not active is reset, but for one being filled or tested. -/
theorem classBAsked_other {b : Nat} (h : d.role b ≠ 1) : d.classBAsked i b =
    if d.running ⟨.bFill, b, 0⟩ || d.running ⟨.selfTest, b, 0⟩ then d else d.classB b 3 :=
  if_neg h

theorem opClassBFill_due (hdue : d.due ⟨.bFill, brIx br, 0⟩ = some e) :
    opClassBFill br d = ((d.cancel ⟨.bFill, brIx br, 0⟩).askRelease (pgBRC (brIx br))).refreshFrom (pgBRC (brIx br)) := by
  unfold opClassBFill
  exact endTimer_due d _ hdue

/-! ### Resynchronisation (R281) -/

theorem opResyncDone_due (hdue : d.due ⟨.resyncCopy, brIx br, 0⟩ = some e)
    (hy : y = ((d.at_ e).cancel ⟨.resyncCopy, brIx br, 0⟩).copyTcm (1 - brIx br) (brIx br)) :
    opResyncDone br d = y.setBrc (fun r => { r with copied := r.copied.filter (· != brIx br) ++ [brIx br] }) := by
  subst hy
  unfold opResyncDone
  exact onTimer_due d _ hdue

theorem opSbOk_ignored (h : d.up = false ∨ d.brc.copied.contains (brIx br) = false ∨ d.role (brIx br) = 1) :
    opSbOk br d = d := by
  refine if_pos ?_
  obtain h | h | h := h
  · simp [h]
  · rw [h]
    simp
  · simp [h]

theorem opSbOk_taken (hup : d.up = true) (hc : d.brc.copied.contains (brIx br) = true) (hr : d.role (brIx br) ≠ 1)
    (hy : y = d.put (BRC_ROLE_sb_ok (brIx br)) 1) : opSbOk br d =
      if y.role (brIx br) = 3 then ((y.put (BRC_ROLE_role (brIx br)) 2).wdgStart (brIx br)).refreshFrom (pgBRC (brIx br))
      else if y.get UPD_STAT_state = 3 && decide (y.upd.target = some br) then
        ((y.cancel ⟨.standby, 0, 0⟩).put UPD_STAT_state 4).raise pgUPD 10
      else y := by
  subst hy
  exact if_neg (by rw [hup, hc, decide_eq_false hr]; decide)

/-! ### The sweep (R285, R286) -/

theorem sweepBegins_idle (h : d.running ⟨.sweepDone, 0, 0⟩ = false) :
    d.sweepBegins = d.armIn ⟨.sweepDone, 0, 0⟩ (msT 2) :=
  if_neg (ne_true_of_eq_false h)

theorem sweepBegins_running (h : d.running ⟨.sweepDone, 0, 0⟩ = true) : d.sweepBegins = d := if_pos h

theorem opBraceSweepNow_accepts (h : d.accepts i = true) :
    opBraceSweepNow i d = if d.pw.bracesOut then d.sweepBegins else d :=
  access_accepts _ h

theorem opBraceSweep_due (hdue : d.due ⟨.sweep, 0, 0⟩ = some e)
    (hy : y = ((d.at_ e).cancel ⟨.sweep, 0, 0⟩).arm ⟨.sweep, 0, 0⟩ (e + msT (max 1 (d.get (BRC_SWP_CFG_period_ms 0))))) :
    opBraceSweep d = if y.flag (BRC_SWP_CFG_en 0) then y.sweepBegins else y := by
  subst hy
  exact onPeriod_due d _ hdue

/-- The end of a sweep records the differences of the braces that run, and acts on them where action 1 is set. -/
theorem opSweepDone_due {diffs l : List SweepDiff} (hdue : d.due ⟨.sweepDone, 0, 0⟩ = some e)
    (hy : y = d.cancel ⟨.sweepDone, 0, 0⟩) (hl : l = diffs.filter (fun q => y.braceRuns (brIx q.brace)))
    (hz : z = ((y.wrapInc (BRC_SWP_STAT_passes 0)).put (BRC_SWP_STAT_last_ok 0) (if l.isEmpty = true then 1 else 0)).each
      l Dev.latent) :
    opSweepDone diffs d = if z.flag (BRC_SWP_CFG_action 0) = true
      then z.each (l.map (fun q => brIx q.brace)).eraseDups Dev.latentActs else z := by
  subst hy hl hz
  exact endTimer_due d _ hdue

/-! ### The transmit ring of the BRACE port (R289) -/

section Ring
variable {c : Sys2Proof.Class} {b : BpDesc} {data : List Byte} {n head : Nat}

theorem bpTxFetch_answers (hwf : b.wf = true) (h : opBpTxFetch c b data d = y) : Answers (.bpTxFetch c b data) d y :=
  answers_of (fun _ => rfl) hwf h

variable (hn : n = bpSize (d.get (BRC_BP_TX_RING_log2 0 c))) (hhead : head = d.get (BRC_BP_TX_HEAD_index 0 c))
include hn hhead

theorem opBpTxFetch_waits (h : d.up = false ∨ d.active = none ∨ d.pw.halted = true ∨ b.own = false ∨
    bitAt (d.pressedAt 97) c = true ∨ b.len = 0 ∨ 9216 < b.len ∨ head % n = d.get (BRC_BP_TX_TAIL_index 0 c) % n) :
    opBpTxFetch c b data d = d := by
  subst hn hhead
  exact if_pos (by simpa [or_assoc] using h)

theorem opBpTxFetch_sends (hup : d.up = true) (ha : d.active.isSome = true) (hh : d.pw.halted = false) (ho : b.own = true)
    (hp : bitAt (d.pressedAt 97) c = false) (hlo : 1 ≤ b.len) (hhi : b.len ≤ 9216)
    (ht : head % n ≠ d.get (BRC_BP_TX_TAIL_index 0 c) % n)
    (hy : y = (d.ringAdmit 97 c b.direct b.tsEvent b.port b.domain b.cls b.len data).2) :
    opBpTxFetch c b data d = ((y.wrTcm (y.get (BRC_BP_TX_RING_base 0 c) + head % n * 32)
      (bpBytes { b with own := false } false 0 0 0)).put (BRC_BP_TX_HEAD_index 0 c) ((head + 1) % n)).raise (pgBRC 0) 14 := by
  subst hn hhead hy
  exact if_neg (by simp [hup, Option.isSome_iff_ne_none.mp ha, hh, ho, hp, Nat.ne_of_gt hlo, Nat.not_lt.mpr hhi, ht])

end Ring

/-! ### The obligation -/

/-- Settles O45: each clause is its command's operation in the case that the clause's hypotheses choose. -/
theorem bracesAct : Obligations.BracesAct := by
  intro d y z w i br b group e v c x data diffs l n head hb
  subst hb
  refine ⟨fun hg => ⟨fun h => ?mismatchStopped, fun hup hr hy hz => ?mismatch⟩, fun hdue => ?watchdogExpires,
    fun h => ?kickUnwatched, fun hup hrun => ⟨fun h => ?kickExpires, fun h hy => ?kickRestarts⟩,
    fun hacc => ⟨fun hkey => ?handoverBadKey, fun hkey hcan => ⟨fun hmay => ?handsOver, fun hmay => ?handoverRejected⟩,
      fun hkey hcan => ?handoverRefused, fun hl => ?resetLocked,
      fun hl => ⟨fun hr hcan => ?resetHandsOver, fun hr hcan => ?resetRefused, fun hr h => ?resetBusy,
        fun hr hfill htest => ?resets⟩,
      fun hover => ?testBusy, fun hover => ⟨fun hr => ?tests, fun hr => ?testsNothing⟩,
      fun hout hrun => ?sweepNow, fun h => ?sweepNowNothing⟩,
    fun hdue hy hz => ⟨fun hv => ?testPassed, fun hv => ?testFailed⟩, fun hdue => ?fillEnds, fun hdue hy hw => ?copied,
    fun h => ?reportIgnored, fun hup hc hr hy => ⟨fun hrole => ?standsBy, fun hrole hstate ht => ?activationStarts,
      fun hrole h => ?reported⟩,
    fun hdue hy => ⟨fun hen hrun => ?sweeps, fun h => ?sweepsNothing⟩, fun hwf hdue hy hl hz => ?sweepEnds,
    fun hwf hn hhead => ⟨fun h => ?ringWaits, fun hup ha hh ho hp hlo hhi ht hy => ?ringSends⟩⟩
  case mismatchStopped => exact braceMismatch_answers hg (opMismatch_stopped h)
  case mismatch => exact braceMismatch_answers hg (opMismatch_runs hup hr hy hz)
  case watchdogExpires => exact answers_of_effect (fun _ => rfl) (onTimer_due d _ hdue)
  case kickUnwatched => exact answers_of_effect (fun _ => rfl) (opWdgKick_unwatched h)
  case kickExpires => exact answers_of_effect (fun _ => rfl) (opWdgKick_expires hup hrun h)
  case kickRestarts => exact answers_of_effect (fun _ => rfl) (opWdgKick_restarts hup hrun (not_kickEarly h) hy)
  case handoverBadKey => exact answers_of_effect (fun _ => rfl) ((opHandoverCmd_accepts hacc).trans (if_pos hkey))
  case handsOver =>
    exact answers_of_effect (fun _ => rfl) ((opHandoverCmd_accepts hacc).trans (by simp [hkey, hcan, hmay]))
  case handoverRejected =>
    exact answers_of_effect (fun _ => rfl) ((opHandoverCmd_accepts hacc).trans (by simp [hkey, hcan, hmay]))
  case handoverRefused =>
    exact answers_of_effect (fun _ => rfl) ((opHandoverCmd_accepts hacc).trans (by simp [hkey, hcan]))
  case resetLocked => exact answers_of_effect (fun _ => rfl) (write_locked _ _ _ hacc hl)
  case resetHandsOver =>
    exact answers_of_effect (fun _ => rfl)
      ((opClassBRequest_unlocked hacc hl).trans ((classBAsked_active hr).trans (if_pos hcan)))
  case resetRefused =>
    exact answers_of_effect (fun _ => rfl)
      ((opClassBRequest_unlocked hacc hl).trans ((classBAsked_active hr).trans (if_neg (ne_true_of_eq_false hcan))))
  case resetBusy =>
    exact answers_of_effect (fun _ => rfl)
      ((opClassBRequest_unlocked hacc hl).trans ((classBAsked_other hr).trans (if_pos (by simpa using h))))
  case resets =>
    exact answers_of_effect (fun _ => rfl)
      ((opClassBRequest_unlocked hacc hl).trans ((classBAsked_other hr).trans (if_neg (by simp [hfill, htest]))))
  case testBusy => exact answers_of_effect (fun _ => rfl) ((opStestRun_accepts hacc).trans (if_pos hover))
  case tests => exact answers_of_effect (fun _ => rfl) ((opStestRun_accepts hacc).trans (by simp [hover, hr]))
  case testsNothing => exact answers_of_effect (fun _ => rfl) ((opStestRun_accepts hacc).trans (by simp [hover, hr]))
  case sweepNow =>
    exact answers_of_effect (fun _ => rfl)
      ((opBraceSweepNow_accepts hacc).trans ((if_pos hout).trans (sweepBegins_idle hrun)))
  case sweepNowNothing =>
    refine answers_of_effect (fun _ => rfl) ((opBraceSweepNow_accepts hacc).trans ?_)
    obtain hin | hrun := h
    · exact if_neg (ne_true_of_eq_false hin)
    · rw [sweepBegins_running hrun, ite_self]
  case testPassed => exact answers_of_effect (fun _ => rfl) ((opSelfTestDone_due hdue hy hz).trans (if_pos hv))
  case testFailed => exact answers_of_effect (fun _ => rfl) ((opSelfTestDone_due hdue hy hz).trans (if_neg hv))
  case fillEnds => exact answers_of_effect (fun _ => rfl) (opClassBFill_due hdue)
  case copied =>
    subst hw
    exact answers_of_effect (fun _ => rfl) (opResyncDone_due hdue hy)
  case reportIgnored => exact answers_of_effect (fun _ => rfl) (opSbOk_ignored h)
  case standsBy => exact answers_of_effect (fun _ => rfl) ((opSbOk_taken hup hc hr hy).trans (if_pos hrole))
  case activationStarts =>
    exact answers_of_effect (fun _ => rfl)
      ((opSbOk_taken hup hc hr hy).trans ((if_neg hrole).trans (if_pos (by simp [hstate, ht]))))
  case reported =>
    refine answers_of_effect (fun _ => rfl) ((opSbOk_taken hup hc hr hy).trans ((if_neg hrole).trans (if_neg ?_)))
    obtain hstate | ht := h
    · simp [hstate]
    · simp [ht]
  case sweeps =>
    exact answers_of_effect (fun _ => rfl)
      ((opBraceSweep_due hdue hy).trans ((if_pos hen).trans (sweepBegins_idle hrun)))
  case sweepsNothing =>
    refine answers_of_effect (fun _ => rfl) ((opBraceSweep_due hdue hy).trans ?_)
    obtain hoff | hrun := h
    · exact if_neg (ne_true_of_eq_false hoff)
    · rw [sweepBegins_running hrun, ite_self]
  case sweepEnds => exact answers_of (fun _ => rfl) hwf (opSweepDone_due hdue hy hl hz)
  case ringWaits => exact bpTxFetch_answers hwf (opBpTxFetch_waits hn hhead h)
  case ringSends => exact bpTxFetch_answers hwf (opBpTxFetch_sends hn hhead hup ha hh ho hp hlo hhi ht hy)

end Sys2Proof.Machine
end

section
/-!
PROOF. The start from the image on: its check and its tables, boot-good and its limits, and the boot counter.
-/

namespace Sys2Proof.Machine

variable {d z : Dev} {i : Initiator} {e : Nat} {v : Word}

/-! ### The image and its tables (R361) -/

section Image
variable {img : BankImage} {si : StartImage} (hawaits : d.awaitsImage = true)
include hawaits

theorem opImageCheck_good {bank : Nat} (hgood : d.pw.imageGood = false) (hmade : imageWellMade img = true)
    (hsigned : d.imageSigned img = true)
    (hbank : bank = if d.pw.secondCheck then 1 - d.get UPD_BANK_boot else d.get UPD_BANK_boot)
    (hz : z = ((({ d with pw := { d.pw with imageGood := true } } : Dev).put SIG_STAT_result 1).mile 3).wr UPD_RUN_VER
      (BitVec.ofNat 32 img.version)) :
    opImageCheck img d =
      (((z.put UPD_BANK_run bank).put recBank bank).put recFb (if d.pw.secondCheck then 1 else 0)).refresh := by
  subst hbank hz
  exact (if_neg (by simp [hawaits, hgood])).trans (if_neg (by simp [hmade, hsigned]))

theorem opImageCheck_bad (hgood : d.pw.imageGood = false) (h : imageWellMade img = false ∨ d.imageSigned img = false) :
    opImageCheck img d = (d.put SIG_STAT_result 2).imageFails 4 :=
  (if_neg (by simp [hawaits, hgood])).trans (if_pos (by simpa using h))

theorem opTablesLoaded_loads (hgood : d.pw.imageGood = true)
    (hz : z = (({ d.loadImage si with pw := { (d.loadImage si).pw with tablesGood := true } } : Dev).mile 4).refresh) :
    opTablesLoaded true si d = if z.pw.base = .kennel then z else (z.releaseBraces [0, 1]).bootTimers := by
  subst hz
  exact if_neg (by simp [hawaits, hgood])

theorem opTablesLoaded_fails (hgood : d.pw.imageGood = true) : opTablesLoaded false si d = d.imageFails 5 :=
  if_neg (by simp [hawaits, hgood])

end Image

/-! ### Boot-good and its limits (R361, R363) -/

theorem opBootGood_enters (h : d.accepts i = true) (hbrace : (iniBrace i).isSome = true) (hst : d.pw.base = .start)
    (hh : d.pw.halted = false)
    (hz : z = ({ d with pw := { d.pw with base := .service, goodSeen := true, faultn := true, readyUp := true } } : Dev)) :
    opBootGood i 0x600D0960 d =
      ((((z.cancel ⟨.bootGood, 0, 0⟩).cancel ⟨.bootHalf, 0, 0⟩).put RST_BOOT_CNT_count 0).mile 7).syncMode.outcome 1 := by
  subst hz
  exact (access_accepts _ h).trans (if_pos (by simp [hbrace, hst, hh]))

theorem opBootTimeout_due (hdue : d.due ⟨.bootGood, 0, 0⟩ = some e) (hst : d.pw.base = .start) :
    opBootTimeout d = ((d.at_ e).cancel ⟨.bootGood, 0, 0⟩).startFails 7 :=
  (onTimer_due d _ hdue).trans (if_pos hst)

/-! ### The boot counter (R365) -/

theorem opBootClr_accepts (h : d.accepts i = true) : opBootClr i v d =
    if v = 0xC1EA0960 ∧ d.pw.base = .kennel then d.put RST_BOOT_CNT_count 0 else d.ignoredErr pgRST i 0x10C v.toNat :=
  access_accepts _ h

/-! ### The obligation -/

/-- Settles O8: each clause is its command's operation in the case that the clause's hypotheses choose. -/
theorem startImageActs : Obligations.StartImageActs := by
  intro d x y z bank img si i e br failed v
  refine ⟨fun hwf hawaits hgood => ⟨fun hmade hsigned hbank hz => ?imageGood, fun h => ?imageBad⟩,
    fun hawaits hgood => ⟨fun hz => ⟨fun hb => ?released, fun hb => ?kennel⟩, ?tablesFail⟩,
    fun hdue hx hy => ⟨?testPassed, fun hv => ?testFailed⟩, fun hacc hbrace hst hh hz => ?bootGood,
    fun hdue hst => ?timeout, fun hdue => ?half, fun hacc hk => ?clears, fun hacc hv => ?clearIgnored⟩
  case imageGood => exact answers_of (fun _ => rfl) hwf (opImageCheck_good hawaits hgood hmade hsigned hbank hz)
  case imageBad => exact answers_of (fun _ => rfl) hwf (opImageCheck_bad hawaits hgood h)
  case released =>
    exact answers_of_effect (fun _ => rfl) ((opTablesLoaded_loads hawaits hgood hz).trans (if_neg hb))
  case kennel => exact answers_of_effect (fun _ => rfl) ((opTablesLoaded_loads hawaits hgood hz).trans (if_pos hb))
  case tablesFail => exact answers_of_effect (fun _ => rfl) (opTablesLoaded_fails hawaits hgood)
  case testPassed => exact answers_of_effect (fun _ => rfl) ((opSelfTestDone_due hdue hx hy).trans (if_pos rfl))
  case testFailed => exact answers_of_effect (fun _ => rfl) ((opSelfTestDone_due hdue hx hy).trans (if_neg hv))
  case bootGood => exact answers_of_effect (fun _ => rfl) (opBootGood_enters hacc hbrace hst hh hz)
  case timeout => exact answers_of_effect (fun _ => rfl) (opBootTimeout_due hdue hst)
  case half => exact answers_of_effect (fun _ => rfl) (onTimer_due d _ hdue)
  case clears => exact answers_of_effect (fun _ => rfl) ((opBootClr_accepts hacc).trans (if_pos ⟨rfl, hk⟩))
  case clearIgnored =>
    exact answers_of_effect (fun _ => rfl) ((opBootClr_accepts hacc).trans (if_neg (fun h => hv h.1)))

end Sys2Proof.Machine
end

section
/-!
PROOF. The power-loss journal: the registers that its writing sets, and that it sets no other.
-/

namespace Sys2Proof.Machine

variable {d : Dev} {cause mode ns vmin : Nat}

/-! ### The two registers of fields -/

/-- `PWR.JRN_STAT` with the entry's fields written (Table 19-11). -/
def Dev.journalStat (d : Dev) (cause mode vmin : Nat) : Dev :=
  (((d.put PWR_JRN_STAT_valid 1).put PWR_JRN_STAT_mode mode).put PWR_JRN_STAT_cause cause).put PWR_JRN_STAT_vmin (vmin / 2)

/-- The newest entry of the boot record with the halt code of a supply loss and the mode (Table 17-5). -/
def Dev.recordLoss (d : Dev) (mode : Nat) : Dev := (d.put recHalt 4).put recModeF mode

/-- The registers of the entry written, the entry still waiting. -/
def Dev.journalWritten (d : Dev) (cause mode ns vmin : Nat) : Dev :=
  ((d.journalStat cause mode vmin).wr64 PWR_JRN_T_LO PWR_JRN_T_HI ns).recordLoss mode

theorem writeJournal_eq (h : d.pw.journal = some (cause, mode, ns, vmin)) :
    d.writeJournal = { d.journalWritten cause mode ns vmin with
      pw := { (d.journalWritten cause mode ns vmin).pw with journal := none } } := by
  unfold Dev.writeJournal
  rw [h]
  rfl

theorem rd_journalStat_other {a : Nat} (h : a ≠ PWR_JRN_STAT) : (d.journalStat cause mode vmin).rd a = d.rd a := by
  unfold Dev.journalStat
  iterate 4 rw [rd_put_other (h := h)]

theorem rd_recordLoss_other {a : Nat} (h : a ≠ RST_BOOT_REC 0) : (d.recordLoss mode).rd a = d.rd a := by
  unfold Dev.recordLoss
  iterate 2 rw [rd_put_other (h := h)]

/-- A field reads what was written where the field written after it lies beside it. -/
theorem get_put_same_beside {f g : FRef} {v w : Nat} (hf : f.ok) (hg : g.ok) (hd : f.hi < g.lo ∨ g.hi < f.lo) :
    ((d.put f v).put g w).get f = v % 2 ^ (f.hi - f.lo + 1) :=
  (get_put_beside _ w hg hf.1 hd).trans (get_put_same d f v hf)

theorem get_journalStat :
    (d.journalStat cause mode vmin).get PWR_JRN_STAT_valid = 1 ∧
    (d.journalStat cause mode vmin).get PWR_JRN_STAT_mode = mode % 16 ∧
    (d.journalStat cause mode vmin).get PWR_JRN_STAT_cause = cause % 16 ∧
    (d.journalStat cause mode vmin).get PWR_JRN_STAT_vmin = vmin / 2 % 4096 := by
  have hvalid : PWR_JRN_STAT_valid.ok := by constructor <;> decide
  have hmode : PWR_JRN_STAT_mode.ok := by constructor <;> decide
  have hcause : PWR_JRN_STAT_cause.ok := by constructor <;> decide
  have hvmin : PWR_JRN_STAT_vmin.ok := by constructor <;> decide
  refine ⟨?valid, ?mode, ?cause, get_put_same _ _ _ hvmin⟩
  case valid =>
    exact (get_put_beside _ _ hvmin hvalid.1 (by decide)).trans
      ((get_put_beside _ _ hcause hvalid.1 (by decide)).trans (get_put_same_beside hvalid hmode (by decide)))
  case mode =>
    exact (get_put_beside _ _ hvmin hmode.1 (by decide)).trans (get_put_same_beside hmode hcause (by decide))
  case cause => exact get_put_same_beside hcause hvmin (by decide)

theorem get_recordLoss :
    (d.recordLoss mode).get recHalt = 4 ∧ (d.recordLoss mode).get recModeF = mode % 16 := by
  have hhalt : recHalt.ok := by constructor <;> decide
  have hmode : recModeF.ok := by constructor <;> decide
  exact ⟨get_put_same_beside hhalt hmode (by decide), get_put_same _ _ _ hmode⟩

/-! ### The time -/

theorem rd_wr64_other {lo hi a v : Nat} (hlo : a ≠ lo) (hhi : a ≠ hi) : (d.wr64 lo hi v).rd a = d.rd a :=
  (rd_wr_other _ _ hhi).trans (rd_wr_other _ _ hlo)

/-- A pair of registers holds 64 bits of what is stored in it (R8). -/
theorem rd64_wr64 {lo hi v : Nat} (h : lo ≠ hi) : (d.wr64 lo hi v).rd64 lo hi = v % 2 ^ 64 := by
  have hlo : (d.wr64 lo hi v).rd lo = BitVec.ofNat 32 v := (rd_wr_other _ _ h).trans (rd_wr_same d _ _)
  have hhi : (d.wr64 lo hi v).rd hi = BitVec.ofNat 32 (v / 2 ^ 32) := rd_wr_same _ _ _
  rw [Dev.rd64, hlo, hhi, BitVec.toNat_ofNat, BitVec.toNat_ofNat]
  omega

theorem get_withPw (p : Power) (f : FRef) : ({ d with pw := p } : Dev).get f = d.get f := rfl
theorem rd_withPw (p : Power) (a : Nat) : ({ d with pw := p } : Dev).rd a = d.rd a := rfl
theorem rd64_withPw (p : Power) (lo hi : Nat) : ({ d with pw := p } : Dev).rd64 lo hi = d.rd64 lo hi := rfl
theorem rdByte_withPw (p : Power) (a : Nat) : ({ d with pw := p } : Dev).rdByte a = d.rdByte a := rfl

theorem get_of_rd {e : Dev} {f : FRef} (h : d.rd f.addr = e.rd f.addr) : d.get f = e.get f := by rw [Dev.get, h, Dev.get]

/-! ### All of the entry -/

theorem rd_journalWritten_stat : (d.journalWritten cause mode ns vmin).rd PWR_JRN_STAT =
    (d.journalStat cause mode vmin).rd PWR_JRN_STAT :=
  (rd_recordLoss_other (by decide)).trans (rd_wr64_other (by decide) (by decide))

theorem rd64_journalWritten : (d.journalWritten cause mode ns vmin).rd64 PWR_JRN_T_LO PWR_JRN_T_HI = ns % 2 ^ 64 := by
  have hlo : (d.journalWritten cause mode ns vmin).rd PWR_JRN_T_LO = _ := rd_recordLoss_other (by decide)
  have hhi : (d.journalWritten cause mode ns vmin).rd PWR_JRN_T_HI = _ := rd_recordLoss_other (by decide)
  rw [Dev.rd64, hlo, hhi]
  exact rd64_wr64 (by decide)

theorem get_journalWritten_record : (d.journalWritten cause mode ns vmin).get recHalt = 4 ∧
    (d.journalWritten cause mode ns vmin).get recModeF = mode % 16 := get_recordLoss

theorem rd_journalWritten_other {a : Nat} (h : a ∉ [PWR_JRN_STAT, PWR_JRN_T_LO, PWR_JRN_T_HI, RST_BOOT_REC 0]) :
    (d.journalWritten cause mode ns vmin).rd a = d.rd a := by
  simp only [List.mem_cons, List.not_mem_nil, or_false, not_or] at h
  obtain ⟨hstat, hlo, hhi, hrec⟩ := h
  exact (rd_recordLoss_other hrec).trans ((rd_wr64_other hlo hhi).trans (rd_journalStat_other hstat))

theorem rdByte_journalWritten (a : Nat) : (d.journalWritten cause mode ns vmin).rdByte a = d.rdByte a := by
  unfold Dev.rdByte Dev.journalWritten Dev.recordLoss Dev.journalStat
  rw [Dev.put_mem, Dev.put_mem, Dev.wr64_mem, Dev.put_mem, Dev.put_mem, Dev.put_mem, Dev.put_mem]

/-! ### The obligation -/

/-- Settles O2: the entry's registers are written one after another, and none of the later writes reaches an earlier one. -/
theorem journalWriteRecordsTheLoss : Obligations.JournalWriteRecordsTheLoss := by
  intro d cause mode ns vmin h
  rw [writeJournal_eq h]
  obtain ⟨hvalid, hmode, hcause, hvmin⟩ := get_journalStat (d := d) (cause := cause) (mode := mode) (vmin := vmin)
  obtain ⟨hhalt, hrec⟩ := get_journalWritten_record (d := d) (cause := cause) (mode := mode) (ns := ns) (vmin := vmin)
  have hstat := rd_journalWritten_stat (d := d) (cause := cause) (mode := mode) (ns := ns) (vmin := vmin)
  refine ⟨(get_withPw _ _).trans ((get_of_rd hstat).trans hvalid), (get_withPw _ _).trans ((get_of_rd hstat).trans hmode),
    (get_withPw _ _).trans ((get_of_rd hstat).trans hcause), (get_withPw _ _).trans ((get_of_rd hstat).trans hvmin),
    (rd64_withPw _ _ _).trans rd64_journalWritten, (get_withPw _ _).trans hhalt, (get_withPw _ _).trans hrec, ?waits,
    fun a ha => (rd_withPw _ a).trans (rd_journalWritten_other ha), fun a => (rdByte_withPw _ a).trans (rdByte_journalWritten a)⟩
  case waits => dsimp only

end Sys2Proof.Machine
end

section
/-!
PROOF. The factory option image: its fields, its zeros and its crc, each read off the 64 bytes that the model lists.
-/

namespace Sys2Proof.Machine

/-! ### Bytes that hold fields (Tables 17-3, 17-11) -/

theorem factoryImage_boot :
    optField factoryImage 0 7 0 = 1 ∧ optField factoryImage 1 0 0 = 0 ∧ optField factoryImage 1 1 1 = 1 ∧
    optField factoryImage 1 7 2 = 0 ∧ optField factoryImage 2 2 0 = 3 ∧ optField factoryImage 2 5 4 = 0 ∧
    optField factoryImage 2 3 3 = 0 ∧ optField factoryImage 2 7 6 = 0 := by decide

/-- The tamper response, the port locks, the cascade, motion and the supply guard are all off. -/
theorem factoryImage_off : ∀ b ∈ [3, 4, 5, 6, 7, 8, 9], optField factoryImage b 7 0 = 0 := by decide

theorem factoryImage_kennel :
    optField factoryImage 12 1 0 = 0 ∧ optField factoryImage 12 2 2 = 1 ∧ optField factoryImage 12 7 3 = 0 ∧
    kVid factoryImage = 1 ∧ optField factoryImage 15 7 4 = 0 := by decide

theorem factoryImage_kPorts : ∀ b, b < 24 → 16 ≤ b → optField factoryImage b 7 0 = 0 := by decide

theorem factoryImage_kIp : ((factoryImage.drop 24).take 4).map BitVec.toNat = [169, 254, 9, 96] ∧
    optField factoryImage 28 5 0 = 16 ∧ optField factoryImage 28 7 6 = 0 := by decide

/-! ### Every other byte, and the crc -/

theorem factoryImage_zero_elsewhere :
    ∀ b, b < 60 → b ∉ [0, 1, 2, 10, 12, 14, 24, 25, 26, 27, 28] → factoryImage.getD b 0 = 0 := by decide

theorem crc32_factoryImage : crc32 (factoryImage.take 60) = 0xAF280A34 := by decide +kernel

theorem factoryImage_crc :
    (factoryImage.drop 60).map BitVec.toNat = (leBytes 4 (crc32 (factoryImage.take 60))).map BitVec.toNat := by
  rw [crc32_factoryImage]
  decide

/-! ### The obligation -/

/-- Settles O57: the fields group by group, then the zeros, the crc over them and the copies of the machine after reset. -/
theorem factoryOptionImageHolds : Obligations.FactoryOptionImageHolds := by
  obtain ⟨hlayout, hbank, hfb, hfb', hlim, href, hlim', href'⟩ := factoryImage_boot
  obtain ⟨hprof, hrole, hprof', hvid, hvid'⟩ := factoryImage_kennel
  obtain ⟨hip, hplen, hplen'⟩ := factoryImage_kIp
  exact ⟨rfl, hlayout, hbank, hfb, hfb', hlim, href, hlim', href', factoryImage_off, by decide, hprof, hrole, hprof', hvid, hvid',
    factoryImage_kPorts, hip, hplen, hplen', factoryImage_zero_elsewhere, factoryImage_crc, rfl⟩

end Sys2Proof.Machine
end

section
/-!
PROOF. What a class D reset leaves: what goes before the clear moves neither the clock nor the supply of MAIN, the clear
brings every MAIN unit to its initial state, and what comes after writes its cause and starts the assertion phase.
-/

namespace Sys2Proof.Machine

variable {d e t : Dev}

/-! ### The instant and the supply of MAIN -/

/-- The instant, MAIN's power and the start of the always-on domain are those of d. -/
structure Dev.Steady (d e : Dev) : Prop where
  now : e.now = d.now
  main : e.pw.main = d.pw.main
  aon0 : e.pw.aon0 = d.pw.aon0

theorem Dev.Steady.refl (d : Dev) : d.Steady d := ⟨rfl, rfl, rfl⟩

theorem Dev.Steady.trans (h : d.Steady e) (k : e.Steady t) : d.Steady t :=
  ⟨k.now.trans h.now, k.main.trans h.main, k.aon0.trans h.aon0⟩

theorem steady_wr (d : Dev) (a : Nat) (v : Word) : d.Steady (d.wr a v) := ⟨rfl, rfl, rfl⟩

theorem steady_put (d : Dev) (f : FRef) (v : Nat) : d.Steady (d.put f v) := ⟨rfl, rfl, rfl⟩

theorem steady_withMram (d : Dev) (m : Mram) : d.Steady { d with mram := m } := ⟨rfl, rfl, rfl⟩

theorem steady_settled (d : Dev) : d.Steady { d with pw := { d.pw with settling := false } } := ⟨rfl, rfl, rfl⟩

theorem steady_cancel (d : Dev) (x : Timer) : d.Steady (d.cancel x) := ⟨rfl, rfl, rfl⟩

theorem steady_free (d : Dev) (w : Nat) : d.Steady (d.free w).2 := ⟨rfl, rfl, rfl⟩

theorem steady_wrByte (d : Dev) (a : Nat) (b : Byte) : d.Steady (d.wrByte a b) := ⟨rfl, rfl, rfl⟩

/-- Updates that keep the instant and the supply keep them one after another. -/
theorem steady_each {α : Type} {f : α → Dev → Dev} (hf : ∀ x d, Dev.Steady d (f x d)) (l : List α) (d : Dev) :
    d.Steady (d.each l f) := by
  induction l generalizing d with
  | nil => exact .refl d
  | cons x l ih => exact (hf x d).trans (ih (f x d))

theorem steady_outcome (o : Nat) (d : Dev) : d.Steady (d.outcome o) := by
  unfold Dev.outcome
  split
  · exact (steady_put ..).trans (steady_put ..)
  · exact .refl d

theorem steady_resetRollsBack (d : Dev) : d.Steady d.resetRollsBack := by
  unfold Dev.resetRollsBack
  split
  · exact .refl d
  · exact (steady_put d UPD_LAST_outcome 4).trans <| (steady_put _ UPD_LAST_reason 0).trans <|
      (steady_put _ UPD_LAST_minor_patch d.activated).trans (steady_withMram _ _)

theorem steady_cutOptionWrite (d : Dev) : d.Steady d.cutOptionWrite := by
  unfold Dev.cutOptionWrite
  split
  · exact .refl d
  · exact ⟨rfl, rfl, rfl⟩

theorem steady_copyBytes (src dst n : Nat) (d : Dev) : d.Steady (d.copyBytes src dst n) := by
  unfold Dev.copyBytes
  split
  · refine steady_each (fun k e => ?_) _ d
    exact Dev.Steady.trans (steady_free e 8) (steady_wrByte ..)
  · dsimp only
    refine Dev.Steady.trans ?_ (steady_each (fun _ _ => steady_wrByte ..) _ _)
    exact ⟨rfl, rfl, rfl⟩

theorem steady_stopBankWrite (d : Dev) : d.Steady d.stopBankWrite := by
  unfold Dev.stopBankWrite
  split
  · exact .refl d
  · exact (steady_cancel d _).trans (steady_copyBytes ..)

theorem steady_syncMode (d : Dev) : d.Steady d.syncMode := (steady_put ..).trans (steady_put ..)

theorem steady_closeRound (d : Dev) : d.Steady d.closeRound := by
  unfold Dev.closeRound
  refine Dev.Steady.trans ?_ (steady_syncMode _)
  exact (steady_wr ..).trans <| (steady_wr ..).trans <| (steady_wr ..).trans <| (steady_wr ..).trans <|
    (steady_cancel ..).trans (steady_settled _)

theorem steady_dropRound (d : Dev) : d.Steady d.dropRound := by
  have haside : d.Steady { d with wak := { d.wak with aside := none } } := ⟨rfl, rfl, rfl⟩
  have hcancel := haside.trans (steady_cancel _ ⟨.consTmo, 1, 0⟩)
  unfold Dev.dropRound
  dsimp only
  split
  · exact hcancel
  · exact hcancel.trans (steady_closeRound _)

theorem steady_releaseGpio (g : Nat) (d : Dev) : d.Steady (d.releaseGpio g) := by
  unfold Dev.releaseGpio
  dsimp only
  split <;> exact ⟨rfl, rfl, rfl⟩

theorem steady_clearRecord (d : Dev) : d.Steady d.clearRecord := by
  unfold Dev.clearRecord
  split <;> exact ⟨rfl, rfl, rfl⟩

theorem steady_keyMade (o : KeyOp) (d : Dev) : d.Steady (d.keyMade o).2 := by
  unfold Dev.keyMade
  dsimp only
  split <;> exact ⟨rfl, rfl, rfl⟩

theorem steady_cutRec (r n : Nat) (k : HeldKey) (d : Dev) : d.Steady (d.cutRec r n k) := by
  unfold Dev.cutRec
  dsimp only
  split <;> exact ⟨rfl, rfl, rfl⟩

theorem steady_keyStops (d : Dev) : d.Steady d.keyStops := by
  unfold Dev.keyStops
  split
  · exact .refl d
  · next o _ =>
    dsimp only
    have hmade : d.Steady ((d.free 5).2.keyMade o).2 := (steady_free d 5).trans (steady_keyMade o _)
    split
    · split
      · next h =>
        rw [h] at hmade
        exact hmade.trans (steady_cutRec ..)
      · next h =>
        rw [h] at hmade
        exact hmade
    · exact .refl d

theorem steady_holdPins (old d : Dev) : d.Steady (old.holdPins d) := by
  unfold Dev.holdPins
  exact steady_each (fun _ _ => steady_put ..) _ d

theorem steady_clearMain (lvl : Nat) (d : Dev) : d.Steady (d.clearMain lvl) := by
  unfold Dev.clearMain
  refine (steady_keyStops d).trans (Dev.Steady.trans ?_ (steady_holdPins ..))
  exact ⟨rfl, rfl, rfl⟩

/-! ### What the clear leaves of MAIN -/

/-- Every page is in reset, every unit of MAIN in its initial state, and memory below MRAM reads zero. -/
structure Dev.MainClear (d : Dev) : Prop where
  pages : d.pgs = []
  units : d.tim = Tim.init ∧ d.vlt = Vault.init ∧ d.fwd = Fwd.init ∧ d.eth = Eth.init ∧ d.bus = Bus.init ∧
    d.trm = Trm.init ∧ d.kal = Kal.init ∧ d.aut = Aut.init ∧ d.brc = Braces.init ∧ d.sys = Sys.init ∧
    d.voh = Voh.init ∧ d.upd = Update.init
  held : ∀ pg ∈ allPages, d.flag (PG_STATE_in_reset pg) = true
  memory : ∀ a, a < 0x80000000 → d.rdByte a = 0

/-- The row of `PG_STATE` (Table 2-2). -/
def stateRow : RegRow :=
  row1 0xC [rf 31 16 .ro 0, rf 8 8 .ro 0, rf 7 7 .ro 0, rf 6 6 .ro 0, rf 5 4 .ro 0, rf 1 1 .ro 0, rf 0 0 .ro 1]

theorem stateAddr_mod (pg : Nat) : PG_STATE pg % 0x1000 = 0xC := by unfold PG_STATE; omega

theorem liveRow_state (pg : Nat) : liveRow (PG_STATE pg) = (pageKind pg).map (fun _ => stateRow) := by
  have hpg : PG_STATE pg / 0x1000 = pg := by unfold PG_STATE; omega
  unfold liveRow
  rw [hpg, stateAddr_mod]
  cases pageKind pg <;> rfl

/-- `PG_STATE` is no register's shadow. -/
theorem liveRow_of_shadow_state {a pg : Nat} (h : a + 0x800 = PG_STATE pg) : liveRow a = none := by
  have hmod : a % 0x1000 = 0x80C := by have := stateAddr_mod pg; omega
  unfold liveRow
  rw [hmod]
  split <;> rfl

theorem resetValue_state {pg : Nat} (h : (pageKind pg).isSome = true) : resetValue (PG_STATE pg) = 1 := by
  obtain ⟨k, hk⟩ := Option.isSome_iff_exists.mp h
  unfold resetValue regRow
  rw [stateAddr_mod, liveRow_state, hk]
  rfl

/-- No field of `PG_STATE` outlasts a class D reset. -/
theorem get_clearReg_state (z : Word) (pg : Nat) (x : Nat × Word) (m : NMap Word) :
    NMap.get z (Dev.clearReg 1 x m) (PG_STATE pg) = NMap.get z m (PG_STATE pg) := by
  unfold Dev.clearReg
  split
  · rfl
  · next r hr =>
    split
    · rfl
    · next hkept =>
      have hlive : PG_STATE pg ≠ x.1 := by
        intro ha
        rw [← ha, liveRow_state, Option.map_eq_some_iff] at hr
        obtain ⟨_, _, rfl⟩ := hr
        exact hkept (by decide)
      have hshadow : PG_STATE pg ≠ x.1 + 0x800 := by
        intro ha
        rw [liveRow_of_shadow_state ha.symm] at hr
        exact Option.some_ne_none r hr.symm
      dsimp only
      split
      · rw [NMap.get_set_other _ _ _ _ hshadow, NMap.get_set_other _ _ _ _ hlive]
      · exact NMap.get_set_other _ _ _ _ hlive

theorem get_clearRegs_state (z : Word) (pg : Nat) (m : NMap Word) : NMap.get z (clearRegs 1 m) (PG_STATE pg) = z := by
  have hfold : ∀ acc : NMap Word, NMap.get z (m.foldl (fun acc x => Dev.clearReg 1 x acc) acc) (PG_STATE pg) =
      NMap.get z acc (PG_STATE pg) := by
    induction m with
    | nil => exact fun _ => rfl
    | cons x m ih => exact fun acc => (ih _).trans (get_clearReg_state z pg x acc)
  exact hfold []

/-- A key that a filter leaves out reads as an unlisted one. -/
theorem NMap.find_filter_none {α : Type} {p : Nat × α → Bool} {a : Nat} (m : NMap α) (h : ∀ v, p (a, v) = false) :
    NMap.find (m.filter p) a = none := by
  induction m with
  | nil => rfl
  | cons x m ih =>
    obtain ⟨k, v⟩ := x
    by_cases hp : p (k, v) = true
    · have hk : k ≠ a := by
        rintro rfl
        exact absurd hp (by simp [h v])
      simp [hp, NMap.find, hk, ih]
    · simp [hp, ih]

theorem pageKind_of_mem : ∀ pg ∈ allPages, (pageKind pg).isSome = true := by decide +kernel

theorem flag_of_rd {f : FRef} {v : Word} (h : d.rd f.addr = v) : d.flag f = (bitsOf v f.hi f.lo == 1) := by
  rw [Dev.flag, Dev.get, h]

/-- Writing a register other than a page's `PG_STATE` keeps MAIN cleared. -/
theorem Dev.MainClear.put (h : d.MainClear) {f : FRef} {v : Nat} (hf : f.addr % 0x1000 ≠ 0xC) : (d.put f v).MainClear where
  pages := h.pages
  units := h.units
  held := by
    intro pg hpg
    have hne : (PG_STATE_in_reset pg).addr ≠ f.addr := by
      rintro ha
      exact hf (ha ▸ stateAddr_mod pg)
    rw [Dev.flag, get_put_reg d v hne]
    exact h.held pg hpg
  memory := h.memory

theorem mainClear_each_put {α : Type} {f : α → FRef} {v : α → Nat} (hf : ∀ x, (f x).addr % 0x1000 ≠ 0xC) (l : List α)
    (h : d.MainClear) : (d.each l (fun x d => d.put (f x) (v x))).MainClear := by
  induction l generalizing d with
  | nil => exact h
  | cons x l ih => exact ih (h.put (hf x))

theorem mainClear_clearMain (d : Dev) : (d.clearMain 1).MainClear := by
  unfold Dev.clearMain Dev.holdPins
  refine mainClear_each_put (fun n => ?pin) _ ⟨rfl, ⟨rfl, rfl, rfl, rfl, rfl, rfl, rfl, rfl, rfl, rfl, rfl, rfl⟩,
    fun pg hpg => ?held, fun a ha => ?memory⟩
  case pin =>
    change (0x2E0180 + 0x1000 * n) % 0x1000 ≠ 0xC
    omega
  case held =>
    have hrst := resetValue_state (pageKind_of_mem pg hpg)
    have hrd := get_clearRegs_state (resetValue (PG_STATE pg)) pg d.keyStops.regs
    refine (flag_of_rd (v := 1) ?_).trans (show (bitsOf 1 0 0 == 1) = true by decide)
    exact hrd.trans hrst
  case memory =>
    have hnone := NMap.find_filter_none (p := fun c : Host.Cell => decide (0x80000000 ≤ c.1)) d.keyStops.mem
      (fun _ => decide_eq_false (Nat.not_le.mpr ha))
    exact congrArg (Option.getD · 0) hnone

theorem Dev.MainClear.clearRecord (h : d.MainClear) : d.clearRecord.MainClear := by
  unfold Dev.clearRecord
  split <;> exact ⟨h.pages, h.units, h.held, h.memory⟩

theorem mainClear_mainCleared (d : Dev) : d.mainCleared.MainClear := mainClear_clearMain _

theorem steady_mainCleared (d : Dev) : d.Steady d.mainCleared :=
  (steady_resetRollsBack d).trans <| (steady_cutOptionWrite _).trans <| (steady_stopBankWrite _).trans <|
    (steady_dropRound _).trans <| (steady_each steady_releaseGpio _ _).trans (steady_clearMain 1 _)

/-! ### The reset -/

/-- The device after a class D reset but for the base state and the assertion phase: its cause, and the two inputs that the
reset shows again. -/
def Dev.classDRegs (cause : Nat) (d : Dev) : Dev :=
  let d := (d.put RST_CAUSE_cause cause).put RST_CAUSE_class 1
  (d.put KEY_STAT_prov (if d.key.closed then 0 else 1)).put HBR_STAT_perst (if d.hbr.perst then 1 else 0)

/-- The device as a class D reset clears it, the outcome of a start that it ends recorded first. -/
def Dev.classDCleared (d : Dev) : Dev := (if d.pw.base = .start then d.outcome 8 else d).mainCleared.clearRecord

theorem classD_eq {cause : Nat} (hm : d.pw.main = true) (hr : d.pw.rails = true) (hl : d.pw.losing = false)
    (he : e = d.classDCleared.classDRegs cause) :
    d.classD cause = ({ e with pw := { e.pw with base := .start, asserted := true } } : Dev).armIn ⟨.classDEnd, 0, 0⟩ (usT 200) := by
  subst he
  unfold Dev.classD
  rw [if_neg (by simp [hm, hr, hl])]
  rfl

theorem steady_classDCleared (d : Dev) : d.Steady d.classDCleared := by
  refine Dev.Steady.trans ?_ ((steady_mainCleared _).trans (steady_clearRecord _))
  split
  · exact steady_outcome 8 d
  · exact .refl d

theorem pw_holdPins (old d : Dev) : (old.holdPins d).pw = d.pw := by
  have hfold : ∀ (l : List Nat) (d : Dev), (d.each l fun n d => d.put (VHL_STAT_hold_i n) (old.get (VHL_STAT_hold_i n))).pw =
      d.pw := by
    intro l
    induction l with
    | nil => exact fun _ => rfl
    | cons n l ih => exact fun d => (ih _).trans (Dev.put_pw d _ _)
  exact hfold _ d

theorem halted_mainCleared (d : Dev) : d.mainCleared.pw.halted = false := by
  unfold Dev.mainCleared Dev.clearMain
  dsimp only
  rw [pw_holdPins]

theorem pw_clearRecord (d : Dev) : d.clearRecord.pw = d.pw := by
  unfold Dev.clearRecord
  split <;> rfl

theorem Dev.MainClear.classDRegs (h : d.MainClear) (cause : Nat) : (d.classDRegs cause).MainClear :=
  (((h.put (by decide)).put (by decide)).put (by decide)).put (by decide)

theorem steady_classDRegs (cause : Nat) (d : Dev) : d.Steady (d.classDRegs cause) :=
  (steady_put ..).trans <| (steady_put ..).trans <| (steady_put ..).trans (steady_put ..)

theorem pw_classDRegs (cause : Nat) (d : Dev) : (d.classDRegs cause).pw = d.pw := by
  unfold Dev.classDRegs
  rw [Dev.put_pw, Dev.put_pw, Dev.put_pw, Dev.put_pw]

theorem get_classDRegs {cause : Nat} (hc : cause < 32) :
    (d.classDRegs cause).get RST_CAUSE_cause = cause ∧ (d.classDRegs cause).get RST_CAUSE_class = 1 := by
  have hcause : RST_CAUSE_cause.ok := by constructor <;> decide
  have hclass : RST_CAUSE_class.ok := by constructor <;> decide
  unfold Dev.classDRegs
  have hother {f : FRef} (h : f.addr = RST_CAUSE) (s : Dev) (v w : Nat) :
      ((s.put KEY_STAT_prov v).put HBR_STAT_perst w).get f = s.get f :=
    (get_put_reg _ _ (h ▸ by decide)).trans (get_put_reg _ _ (h ▸ by decide))
  rw [hother rfl, hother rfl, get_put_same_beside hcause hclass (by decide), get_put_same _ _ _ hclass]
  exact ⟨Nat.mod_eq_of_lt hc, rfl⟩

/-! ### The obligation -/

/-- Settles O4: the clear leaves every unit of MAIN in its initial state, and what comes after it writes neither a unit nor a
`PG_STATE`. -/
theorem classDResetLeaves : Obligations.ClassDResetLeaves := by
  intro d cause hc hm hr hl
  obtain ⟨e, he⟩ : ∃ e, e = d.classDCleared.classDRegs cause := ⟨_, rfl⟩
  rw [classD_eq hm hr hl he]
  have hs : d.Steady e := by
    subst he
    exact (steady_classDCleared d).trans (steady_classDRegs cause _)
  have hclear : e.MainClear := by
    subst he
    exact (mainClear_mainCleared _).clearRecord.classDRegs cause
  have hhalted : e.pw.halted = false := by
    subst he
    rw [pw_classDRegs, Dev.classDCleared, pw_clearRecord, halted_mainCleared]
  obtain ⟨hcause, hclass⟩ : e.get RST_CAUSE_cause = cause ∧ e.get RST_CAUSE_class = 1 := he ▸ get_classDRegs hc
  obtain ⟨hpgs, ⟨htim, hvlt, hfwd, heth, hbus, htrm, hkal, haut, hbrc, hsys, hvoh, hupd⟩, hheld, hmem⟩ := hclear
  exact ⟨hcause, hclass, rfl, rfl, Bool.and_false _, (due_armIn_same _ _ _).trans (congrArg (some <| · + usT 200) hs.now), hs.now,
    hs.main.trans hm, hs.aon0, hhalted, hpgs, htim, hvlt, hfwd, heth, hbus, htrm, hkal, haut, hbrc, hsys, hvoh, hupd,
    fun pg hpg _ => hheld pg hpg, hmem⟩

end Sys2Proof.Machine
end

section
/-!
PROOF. Memory integrity: the repair queue, the passes of the scrubber, the Reserve's rows, the second's threshold, and
injection.
-/

namespace Sys2Proof.Machine

variable {d w x y z : Dev} {i : Initiator} {e region unit k : Nat} {hard mism : Bool}

/-! ### Repair (R295, R301) -/

theorem remapped_or_withdrawn (region unit : Nat) (p : Bool × Dev) :
    (match p with
      | (true, t) => t
      | (false, t) => t.withdraw region unit) = if p.1 = true then p.2 else p.2.withdraw region unit := by
  obtain ⟨remapped, t⟩ := p
  cases remapped
  · exact (if_neg Bool.false_ne_true).symm
  · exact (if_pos rfl).symm

section Repair
variable {rest : List (Nat × Nat × Nat)}
  (hy : y = (if mism = true ∧ d.up = true ∧ d.works pgSCB = true then d.repairsLost else d))
include hy

theorem opRepair_waits (h : y.ecc.repairQ = [] ∨ y.up = false ∨ y.works pgSCB = false) : opRepair hard mism d = y := by
  unfold opRepair
  simp only [Bool.and_eq_true, and_assoc, ← hy]
  split
  · rfl
  · next hq => exact if_pos (by simpa [hq] using h)

theorem opRepair_head (hq : y.ecc.repairQ = (region, unit, k) :: rest) (hup : y.up = true) (hw : y.works pgSCB = true)
    (hz : z = { y with ecc := { y.ecc with repairQ := rest } })
    (hx : x = (z.put SCB_REPQ_CNT_items rest.length).repairWrite region unit) :
    opRepair hard mism d =
      if hard = false then x
      else if (x.remap region unit).1 = true then (x.remap region unit).2
      else (x.remap region unit).2.withdraw region unit := by
  unfold opRepair
  simp only [Bool.and_eq_true, and_assoc, ← hy]
  rw [hq]
  dsimp only at hz ⊢
  rw [if_neg (by simp [hup, hw])]
  subst hx hz
  cases hard
  · rw [if_pos (show (!false) = true from rfl), if_pos (show false = false from rfl)]
  · rw [if_neg (show ¬ (!true) = true by decide), if_neg (show ¬ true = false by decide)]
    exact remapped_or_withdrawn region unit _

end Repair

/-! ### The passes (R296, R297) -/

theorem opScrubGo_refused (hacc : d.accepts i = true)
    (h : d.flag SCB_CTL_go = true ∨ d.get SCB_COUNT_units = 0 ∨ d.get SCB_REGION_region = 13 ∨
      regionSize (d.get SCB_REGION_region) < d.get SCB_FIRST_unit + d.get SCB_COUNT_units) :
    opScrubGo i d = (d.put SCB_STAT_err 1).setErr pgSCB i 0x110 1 :=
  (access_accepts _ hacc).trans (if_pos (by simpa [or_assoc] using h))

theorem opScrubGo_begins (hacc : d.accepts i = true) (hgo : d.flag SCB_CTL_go = false) (hk : d.get SCB_COUNT_units ≠ 0)
    (hr : d.get SCB_REGION_region ≠ 13)
    (hle : d.get SCB_FIRST_unit + d.get SCB_COUNT_units ≤ regionSize (d.get SCB_REGION_region))
    (hy : y = { d with ecc := { d.ecc with
      region := d.get SCB_REGION_region, first := d.get SCB_FIRST_unit, units := d.get SCB_COUNT_units } })
    (hz : z = (y.put SCB_STAT_err 0).passBegins) :
    opScrubGo i d = if z.get SCB_PER_ms = 0 then z.cancel ⟨.scrubPeriod, 0, 0⟩
      else z.armIn ⟨.scrubPeriod, 0, 0⟩ (msT (z.get SCB_PER_ms)) := by
  subst hz hy
  exact (access_accepts _ hacc).trans (if_neg (by simp [hgo, hk, hr, Nat.not_lt.mpr hle]))

theorem opScrubAbort_accepts (hacc : d.accepts i = true) : opScrubAbort i d =
    if d.flag SCB_CTL_go then { d with ecc := { d.ecc with passLeft := 0 } } else d :=
  access_accepts _ hacc

section Period
variable (hdue : d.due ⟨.scrubPeriod, 0, 0⟩ = some e)
include hdue

theorem opScrubPeriod_ends (hper : d.get SCB_PER_ms = 0) : opScrubPeriod d = (d.at_ e).cancel ⟨.scrubPeriod, 0, 0⟩ :=
  (if_pos hper).trans (onTimer_due d _ hdue)

theorem opScrubPeriod_repeats (hper : d.get SCB_PER_ms ≠ 0)
    (hz : z = ((d.at_ e).cancel ⟨.scrubPeriod, 0, 0⟩).arm ⟨.scrubPeriod, 0, 0⟩ (e + msT (d.get SCB_PER_ms))) :
    opScrubPeriod d = if z.flag SCB_CTL_go then z else z.passBegins := by
  subst hz
  exact (if_neg hper).trans (onPeriod_due d _ hdue)

end Period

theorem opScrubRead_nothing (f : ScrubFind)
    (h : d.up = false ∨ d.works pgSCB = false ∨ d.flag SCB_CTL_go = false ∨ d.ecc.passLeft = 0) : opScrubRead f d = d :=
  if_pos (by simpa [or_assoc] using h)

section Read
variable (hup : d.up = true) (hworks : d.works pgSCB = true) (hgo : d.flag SCB_CTL_go = true) (hleft : d.ecc.passLeft ≠ 0)
  (hy : y = { d with ecc := { d.ecc with passAt := d.ecc.passAt + 1, passLeft := d.ecc.passLeft - 1,
                                         words := d.ecc.words + 1 } })
include hup hworks hgo hleft hy

theorem opScrubRead_clean : opScrubRead .clean d = y := by
  subst hy
  exact if_neg (by simp [hup, hworks, hgo, hleft])

theorem opScrubRead_correctable (hr : d.ecc.region ≠ 0) :
    opScrubRead (.correctable hard) d = y.scrubCe d.ecc.region d.ecc.passAt hard := by
  subst hy
  exact (if_neg (by simp [hup, hworks, hgo, hleft])).trans (if_neg (by simpa using hr))

/-- Parity corrects nothing: what errs in the Till is uncorrectable. -/
theorem opScrubRead_uncorrectable {f : ScrubFind} (hf : f = .uncorrectable ∨ (d.ecc.region = 0 ∧ f = .correctable hard))
    (hz : z = { y with ecc :=
      { y.ecc with ue := y.ecc.ue + 1, firstUe := if y.ecc.ue = 0 then d.ecc.passAt else y.ecc.firstUe } })
    (hw : w = z.scrubUe d.ecc.region d.ecc.passAt) :
    opScrubRead f d = if d.ecc.ue = 0 then w.raise pgSCB 9 else w := by
  subst hw hz hy
  refine (if_neg (by simp [hup, hworks, hgo, hleft])).trans ?_
  obtain rfl | ⟨hr, rfl⟩ := hf
  · simp
  · simp [hr]

end Read

theorem opScrubDone_notEnded (h : d.flag SCB_CTL_go = false ∨ d.ecc.passLeft ≠ 0) : opScrubDone d = d :=
  if_pos (by simpa using h)

theorem opScrubDone_ends (hgo : d.flag SCB_CTL_go = true) (hleft : d.ecc.passLeft = 0)
    (hy : y = ((((d.wr SCB_S_WORDS (BitVec.ofNat 32 d.ecc.words)).wr SCB_S_CE (BitVec.ofNat 32 d.ecc.ce)).wr SCB_S_UE
      (BitVec.ofNat 32 d.ecc.ue)).wr SCB_S_HARD (BitVec.ofNat 32 d.ecc.hard)).wr SCB_S_REMAP (BitVec.ofNat 32 d.ecc.remaps))
    (hz : z = (y.wr SCB_S_FIRST_UE (BitVec.ofNat 32 d.ecc.firstUe)).wr SCB_S_DUR
      (BitVec.ofNat 32 ((y.now - d.ecc.passStart) / 4800)))
    (hx : x = (z.wr64 SCB_S_T_LO SCB_S_T_HI z.ns).put SCB_CTL_go 0) :
    opScrubDone d = (if d.ecc.words = regionSize d.ecc.region then
      x.put SCB_RESCAN_region (setBitTo (x.get SCB_RESCAN_region) d.ecc.region false) else x).raise pgSCB 8 := by
  subst hx hz hy
  exact if_neg (by simp [hgo, hleft])

/-! ### The Reserve's rows, and the correctable-error threshold (R299, R305) -/

theorem reserveRowRemapDone_answers {chan : Nat} {coins : List Nat} (hc : chan < 16) (h : opRowRemap chan coins d = y) :
    Answers (.reserveRowRemapDone chan coins) d y :=
  answers_of (fun _ => rfl) (decide_eq_true hc) h

theorem opRowRemap_row {chan : Nat} (coins : List Nat) (hc : chan < 16) (hrow : d.ecc.rowCopies ≠ 0)
    (hy : y = { d with ecc := { d.ecc with rowCopies := d.ecc.rowCopies - 1 } })
    (hk : k = y.get (ECC_RSV_ROWS_used chan)) :
    opRowRemap chan coins d = if k < 64 then
        ({ y with mram := { y.mram with remapped := y.mram.remapped ++ [(1, chan * 64 + k)] } } : Dev).showRemaps.raise pgECC 10
      else (y.each coins (fun q t => t.withdraw 1 (q * 2))).raise pgECC 11 := by
  subst hk hy
  unfold opRowRemap
  rw [if_neg hrow, Nat.mod_eq_of_lt hc]

theorem opCeThreshold_due (hdue : d.due ⟨.ceSecond, 0, 0⟩ = some e)
    (hy : y = ((d.at_ e).cancel ⟨.ceSecond, 0, 0⟩).arm ⟨.ceSecond, 0, 0⟩ (e + secT 1))
    (hz : z = { y with ecc := { y.ecc with ceSecond := [] } }) :
    opCeThreshold d =
      if y.get ECC_CE_THR_per_s != 0 && y.ecc.ceSecond.any (fun q => decide (y.get ECC_CE_THR_per_s < q.2)) then
        z.raise pgECC 9
      else z := by
  subst hz hy
  exact onPeriod_due d _ hdue

/-! ### Injection (R304, R53) -/

section Inject
variable {v : Word} (hacc : d.accepts i = true) (harm : v.getLsbD 31 = true)
  (hy : y = (if d.locked pgECC = true then d.lockViol pgECC i 0x300 v.toNat else d))
  (hr : region = (if d.locked pgECC = true then y.get ECC_INJ_region else bitsOf v 27 24))
  (hk : k = (if d.locked pgECC = true then y.get ECC_INJ_bits else bitsOf v 17 16))
include hacc harm hy hr hk

/-- An admitted write with `arm`: on a locked page the fields keep their values. -/
theorem opInject_accepts : opInject i v d =
    if y.flag ECC_INJ_arm = true ∨ region = 13 ∨ region = 14 ∨ k = 0 then y.setErr pgECC i 0x300 v.toNat
    else ((y.put ECC_INJ_region region).put ECC_INJ_bits k).put ECC_INJ_arm 1 := by
  unfold opInject
  rw [if_neg (by simp [harm]), writeMixed_accepts _ hacc]
  by_cases hl : d.locked pgECC = true
  · simp only [hl, if_true] at hy hr hk ⊢
    simp [← hy, ← hr, ← hk, or_assoc]
  · rw [if_neg hl] at hy hr hk
    subst hy hr hk
    simp [hl, or_assoc]

end Inject

/-! ### The obligation -/

/-- Settles O46: each clause is its command's operation in the case that the clause's hypotheses choose. -/
theorem integrityAct : Obligations.IntegrityAct := by
  intro d y z u w i v e chan region unit k per coins rest hard mism f
  refine ⟨fun hy => ⟨fun h => ?repairWaits, fun hq hup hworks hz hu => ⟨fun hh => ?repairWrites, fun hh hm => ?repairRemaps,
      fun hh hm => ?repairWithdraws⟩⟩,
    fun hacc => ⟨fun hr hn hk => ⟨fun h => ?goRefused, fun hgo hk0 hr13 hle hy hz hper => ⟨fun hp => ?goOnce, fun hp => ?goRepeats⟩⟩,
      fun hgo hy => ?aborts, fun hgo => ?abortsNothing, fun hy => ?recordClear,
      fun harm hy hr hk => ⟨fun h => ?injectRefused, fun ha h13 h14 hk0 => ?injects⟩⟩,
    fun harm => ?injectNot, fun hdue hper hy => ⟨fun hp => ?periodEnds, fun hp hz => ⟨fun hgo => ?periodRuns, fun hgo => ?periodBegins⟩⟩,
    fun h => ?readNothing, fun hup hworks hgo hleft hy => ⟨?clean, fun hr => ?correctable, fun hf hz hw => ?uncorrectable⟩,
    fun h => ?passGoesOn, fun hgo hleft hy hz hu => ?passEnds,
    fun hc => ⟨fun h => ?noRow, fun hrow hy hk => ⟨fun hlt hz => ?rowRemapped, fun hle => ?rowWithdrawn⟩⟩,
    fun hdue hy hz => ⟨fun hthr hany => ?threshold, fun h => ?belowThreshold⟩⟩
  case repairWaits => exact answers_of_effect (fun _ => rfl) (opRepair_waits hy h)
  case repairWrites => exact answers_of_effect (fun _ => rfl) ((opRepair_head hy hq hup hworks hz hu).trans (if_pos hh))
  case repairRemaps =>
    exact answers_of_effect (fun _ => rfl) ((opRepair_head hy hq hup hworks hz hu).trans (by simp [hh, hm]))
  case repairWithdraws =>
    exact answers_of_effect (fun _ => rfl) ((opRepair_head hy hq hup hworks hz hu).trans (by simp [hh, hm]))
  case goRefused =>
    subst hr hn hk
    exact answers_of_effect (fun _ => rfl) (opScrubGo_refused hacc h)
  case goOnce =>
    subst hr hn hk hper
    exact answers_of_effect (fun _ => rfl) ((opScrubGo_begins hacc hgo hk0 hr13 hle hy hz).trans (if_pos hp))
  case goRepeats =>
    subst hr hn hk hper
    exact answers_of_effect (fun _ => rfl) ((opScrubGo_begins hacc hgo hk0 hr13 hle hy hz).trans (if_neg hp))
  case aborts =>
    subst hy
    exact answers_of_effect (fun _ => rfl) ((opScrubAbort_accepts hacc).trans (if_pos hgo))
  case abortsNothing =>
    exact answers_of_effect (fun _ => rfl) ((opScrubAbort_accepts hacc).trans (if_neg (ne_true_of_eq_false hgo)))
  case recordClear =>
    subst hy
    exact answers_of_effect (fun _ => rfl) (access_accepts _ hacc)
  case injectRefused => exact answers_of_effect (fun _ => rfl) ((opInject_accepts hacc harm hy hr hk).trans (if_pos h))
  case injects =>
    exact answers_of_effect (fun _ => rfl) ((opInject_accepts hacc harm hy hr hk).trans (if_neg (by simp [ha, h13, h14, hk0])))
  case injectNot => exact answers_of_effect (fun _ => rfl) (if_pos (by rw [harm]; rfl))
  case periodEnds =>
    subst hy hper
    exact answers_of_effect (fun _ => rfl) (opScrubPeriod_ends hdue hp)
  case periodRuns =>
    subst hy hper
    exact answers_of_effect (fun _ => rfl) ((opScrubPeriod_repeats hdue hp hz).trans (if_pos hgo))
  case periodBegins =>
    subst hy hper
    exact answers_of_effect (fun _ => rfl) ((opScrubPeriod_repeats hdue hp hz).trans (if_neg (ne_true_of_eq_false hgo)))
  case readNothing => exact answers_of_effect (fun _ => rfl) (opScrubRead_nothing f h)
  case clean => exact answers_of_effect (fun _ => rfl) (opScrubRead_clean hup hworks hgo hleft hy)
  case correctable => exact answers_of_effect (fun _ => rfl) (opScrubRead_correctable hup hworks hgo hleft hy hr)
  case uncorrectable => exact answers_of_effect (fun _ => rfl) (opScrubRead_uncorrectable hup hworks hgo hleft hy hf hz hw)
  case passGoesOn => exact answers_of_effect (fun _ => rfl) (opScrubDone_notEnded h)
  case passEnds => exact answers_of_effect (fun _ => rfl) (opScrubDone_ends hgo hleft hy hz hu)
  case noRow => exact reserveRowRemapDone_answers hc (if_pos h)
  case rowRemapped =>
    subst hz
    exact reserveRowRemapDone_answers hc ((opRowRemap_row coins hc hrow hy hk).trans (if_pos hlt))
  case rowWithdrawn =>
    exact reserveRowRemapDone_answers hc ((opRowRemap_row coins hc hrow hy hk).trans (if_neg (Nat.not_lt.mpr hle)))
  case threshold =>
    exact answers_of_effect (fun _ => rfl) ((opCeThreshold_due hdue hy hz).trans (if_pos (by simp [hthr, hany])))
  case belowThreshold =>
    refine answers_of_effect (fun _ => rfl) ((opCeThreshold_due hdue hy hz).trans (if_neg ?_))
    obtain h | h := h
    · simp [h]
    · simp [h]

end Sys2Proof.Machine
end

section
/-!
PROOF. The members of the cascade: hellos and the election, the loss of a master, device IDs, and cascade time.
-/

namespace Sys2Proof.Machine

variable {d w y z : Dev} {c : LinkCode} {e k : Nat}

/-! ### Hellos and the master (R340) -/

theorem opHelloSend_due (hdue : d.due ⟨.hello, 0, 0⟩ = some e) (hz : z = (d.at_ e).cancel ⟨.hello, 0, 0⟩)
    (hy : y = z.armIn ⟨.hello, 0, 0⟩ (usT (z.get (VHL_VC_CFG_hello_us 0))))
    (hw : w = (if y.flag (VHL_VC_STAT_is_master 0) = true then { y with voh := { y.voh with seq := y.voh.seq + 1 } } else y)) :
    opHelloSend d = (w.each w.upLinks (fun c t => t.ctl c (.hello w.hello))).askId := by
  subst hw hy hz
  exact onTimer_due d _ hdue

/-- The cascade does not run, or the link that a message came over is not up. -/
def Dev.offLink (d : Dev) (c : Nat) : Prop := d.cascades = false ∨ d.linkUp c = false

theorem offLink_guard (h : d.offLink c) : (!d.cascades || !d.linkUp c) = true := by simpa [Dev.offLink] using h

theorem onLink_guard (hc : d.cascades = true) (hl : d.linkUp c = true) : ¬ (!d.cascades || !d.linkUp c) = true := by
  simp [hc, hl]

theorem helloReceived_answers {h : Hello} (hwf : h.wf = true) (hop : opHelloReceived c h d = y) :
    Answers (.helloReceived c h) d y :=
  answers_of (fun _ => rfl) hwf hop

theorem opHelloReceived_onLink {h : Hello} (hc : d.cascades = true) (hl : d.linkUp c = true)
    (hy : y = { d with voh := { d.voh with
      nbr := NMap.set none d.voh.nbr c (some h), mgenMax := max d.voh.mgenMax (if h.master = true then h.mgen else 0) } })
    (hz : z = (if h.devV = true then (y.setPeer c h).idClash h.dev h.uid else y.setPeer c h))
    (hw : w = (if h.master = true then z.idClash h.mid h.muid else z)) :
    opHelloReceived c h d = w.elect := by
  subst hw hz hy
  exact if_neg (onLink_guard hc hl)

/-- A master whose sequence stands still is dropped; a candidate that knows none becomes one. -/
theorem opMasterLoss_due (hdue : d.due ⟨.mloss, 0, 0⟩ = some e) (hy : y = (d.at_ e).cancel ⟨.mloss, 0, 0⟩)
    (hz : z = { y with voh := { y.voh with dropped := some (y.rd64 (VHL_MASTER_UID_LO 0) (VHL_MASTER_UID_HI 0), y.voh.seq) } }) :
    opMasterLoss d =
      if !y.cascades then y
      else if y.flag (VHL_VC_STAT_master_v 0) then z.noMaster.elect
      else if y.vcRole = 2 then y.becomeMaster
      else y := by
  subst hz hy
  exact onTimer_due d _ hdue

/-! ### Device IDs (R337) -/

section Request
variable {uid : Word64} {want : Nat}

theorem idReqReceived_answers (hw : want < 1024) (hop : opIdReq c uid want d = y) : Answers (.idReqReceived c uid want) d y :=
  answers_of (fun _ => rfl) (decide_eq_true hw) hop

variable (hc : d.cascades = true) (hl : d.linkUp c = true)
include hc hl

theorem opIdReq_master {g : Option Nat} (hm : d.flag (VHL_VC_STAT_is_master 0) = true) (hg : d.grantId uid.toNat want = (g, y)) :
    opIdReq c uid want d = g.elim y (fun i => y.ctl c (.idGrant uid.toNat i)) := by
  unfold opIdReq
  rw [if_neg (onLink_guard hc hl), if_pos hm, hg]
  cases g <;> rfl

theorem opIdReq_lost (hm : d.flag (VHL_VC_STAT_is_master 0) = false) (hu : d.upstream = none) : opIdReq c uid want d = d := by
  unfold opIdReq
  rw [if_neg (onLink_guard hc hl), if_neg (ne_true_of_eq_false hm), hu]

theorem opIdReq_relays (hm : d.flag (VHL_VC_STAT_is_master 0) = false) (hu : d.upstream = some k)
    (hy : y = { d with voh := { d.voh with
      relays := d.voh.relays.filter (fun (r : Nat × Nat) => r.1 != uid.toNat) ++ [(uid.toNat, c.val)] } }) :
    opIdReq c uid want d = (y.armIn ⟨.idRelay, uid.toNat, 0⟩ (msT 1)).ctl k (.idReq uid.toNat want) := by
  unfold opIdReq
  rw [if_neg (onLink_guard hc hl), if_neg (ne_true_of_eq_false hm), hu, hy]

end Request

section Grant
variable {uid : Word64} {dev : Nat}

theorem idGrantReceived_answers (hd : dev < 1024) (hop : opIdGrant uid dev d = y) : Answers (.idGrantReceived uid dev) d y :=
  answers_of (fun _ => rfl) (decide_eq_true hd) hop

variable (hc : d.cascades = true)
include hc

theorem opIdGrant_own (hd : dev < 1024) (hu : uid.toNat = d.uid) :
    opIdGrant uid dev d = if d.flag SYS_DEVID_valid || d.fixedId then d else d.takeId dev := by
  unfold opIdGrant
  rw [if_neg (by simp [hc]), if_pos hu, Nat.mod_eq_of_lt hd]

/-- A grant to another device is recorded, and goes back on the link that its request came over. -/
theorem opIdGrant_other {r : Option (Nat × Nat)} (hu : uid.toNat ≠ d.uid)
    (hy : y = { d with voh := { d.voh with
      granted := d.voh.granted.filter (fun (r : Nat × Nat) => r.1 != uid.toNat) ++ [(uid.toNat, dev)] } })
    (hr : d.voh.relays.find? (fun r => r.1 == uid.toNat) = r) :
    opIdGrant uid dev d = r.elim y (fun r => y.ctl r.2 (.idGrant uid.toNat dev)) := by
  have hnote : y = d.noteGrant uid.toNat dev := hy
  unfold opIdGrant
  rw [if_neg (by simp [hc]), if_neg hu, hr, hnote]
  cases r <;> rfl

end Grant

/-! ### Cascade time (R341) -/

theorem opTimeSync_due {u : Option Nat} (hdue : d.due ⟨.timeSync, 0, 0⟩ = some e) (hz : z = (d.at_ e).cancel ⟨.timeSync, 0, 0⟩)
    (hy : y = z.armIn ⟨.timeSync, 0, 0⟩ (usT (z.get (VHL_VC_TMR_sync_us 0)))) (hu : y.upstream = u) :
    opTimeSync d = u.elim y (fun k => y.ctl k (.timeReq y.tq)) := by
  unfold opTimeSync
  rw [onTimer_due d _ hdue, ← hz, ← hy]
  dsimp only
  rw [hu]
  cases u <;> rfl

section Response
variable {t1 t2 t3 t4 asym delay err : Int}

theorem opTimeRsp_alone (h : d.upstream = none ∨ d.cascades = false) : opTimeRsp t1 t2 t3 t4 d = d := by
  unfold opTimeRsp
  split
  · rfl
  · next hu =>
    obtain hn | hc := h
    · rw [hn] at hu
      cases hu
    · exact if_pos (by simp [hc])

theorem opTimeRsp_measures (hu : d.upstream = some k) (hc : d.cascades = true)
    (hasym : asym = ofPs (signed 32 (if k < 4 then d.get (VHL_ASYM_ps k) else d.get (VHL_VOX_ASYM_ps 0 (k - 4)))))
    (hdelay : delay = ((t4 - t1) - (t3 - t2)).tdiv 2) (herr : err = ((t2 - t1) - (t4 - t3)).tdiv 2 - asym)
    (hy : y = (if k < 4 then
        (d.put (VHL_DELAY_ps k) (unsigned 32 (toPs delay))).put (VHL_LAST_E_ps k) (unsigned 32 (sat32 (toPs err)))
      else d.put (VHL_VOX_DELAY_ps 0 (k - 4)) (unsigned 32 (toPs delay)))) :
    opTimeRsp t1 t2 t3 t4 d =
      if y.get TIM_SRC_src ≠ 2 then y
      else if y.tim.sample.isSome then y.count TIM_REFUSED
      else y.latchSample { e := err, t := t4 / 65536, slot := 0, gen := y.get (VHL_VC_STAT_mgen 0), cascade := true } := by
  subst hy herr hdelay hasym
  unfold opTimeRsp
  rw [hu]
  exact if_neg (by simp [hc])

end Response

/-! ### The obligation -/

/-- Settles O51: each clause is its command's operation in the case that the clause's hypotheses choose. -/
theorem cascadeMembersAct : Obligations.CascadeMembersAct := by
  intro d y z w c h uid want dev e k n t1 t2 t3 t4 asym delay err
  refine ⟨fun hdue hz hy hw => ?helloSends, fun hwf hoff => ?helloIgnored, fun hwf hc hl hy hz hw => ?helloTaken,
    fun hdue hy => ⟨fun hc => ?lossStopped, fun hc hm hz => ?lossDrops, fun hc hm => ⟨fun hr => ?lossBecomes, fun hr => ?lossWaits⟩⟩,
    fun hw hoff => ?reqIgnored,
    fun hw hc hl => ⟨fun hm => ⟨fun hg => ?reqGranted, fun hg => ?reqFull⟩, fun hm => ⟨fun hu => ?reqLost, fun hu hy => ?reqRelayed⟩⟩,
    fun hd hc => ?grantIgnored,
    fun hd hc => ⟨fun hu hv hf => ?grantTaken, fun hu h => ?grantNotNeeded,
      fun hu hy => ⟨fun hr => ?grantRelayed, fun hr => ?grantNoted⟩⟩,
    fun hdue hy hz => ?linkReleased, fun hdue hz hy => ⟨fun hu => ?timeAsked, fun hu => ?timeNotAsked⟩,
    fun hc hl => ?timeAnswered, fun hoff => ?timeIgnored, fun h => ?responseIgnored,
    fun hu hc hasym hdelay herr hy => ⟨fun hs => ?measured, fun hs hsample => ?sampleRefused, fun hs hsample => ?sampled⟩⟩
  case helloSends => exact answers_of_effect (fun _ => rfl) (opHelloSend_due hdue hz hy hw)
  case helloIgnored => exact helloReceived_answers hwf (if_pos (offLink_guard hoff))
  case helloTaken => exact helloReceived_answers hwf (opHelloReceived_onLink hc hl hy hz hw)
  case lossStopped => exact answers_of_effect (fun _ => rfl) ((opMasterLoss_due hdue hy rfl).trans (by simp [hc]))
  case lossDrops => exact answers_of_effect (fun _ => rfl) ((opMasterLoss_due hdue hy hz).trans (by simp [hc, hm]))
  case lossBecomes => exact answers_of_effect (fun _ => rfl) ((opMasterLoss_due hdue hy rfl).trans (by simp [hc, hm, hr]))
  case lossWaits => exact answers_of_effect (fun _ => rfl) ((opMasterLoss_due hdue hy rfl).trans (by simp [hc, hm, hr]))
  case reqIgnored => exact idReqReceived_answers hw (if_pos (offLink_guard hoff))
  case reqGranted => exact idReqReceived_answers hw (opIdReq_master hc hl hm hg)
  case reqFull => exact idReqReceived_answers hw (opIdReq_master hc hl hm hg)
  case reqLost => exact idReqReceived_answers hw (opIdReq_lost hc hl hm hu)
  case reqRelayed => exact idReqReceived_answers hw (opIdReq_relays hc hl hm hu hy)
  case grantIgnored => exact idGrantReceived_answers hd (if_pos (by simp [hc]))
  case grantTaken => exact idGrantReceived_answers hd ((opIdGrant_own hc hd hu).trans (if_neg (by simp [hv, hf])))
  case grantNotNeeded => exact idGrantReceived_answers hd ((opIdGrant_own hc hd hu).trans (if_pos (by simpa using h)))
  case grantRelayed => exact idGrantReceived_answers hd (opIdGrant_other hc hu hy hr)
  case grantNoted => exact idGrantReceived_answers hd (opIdGrant_other hc hu hy hr)
  case linkReleased =>
    subst hz hy
    exact answers_of_effect (fun _ => rfl) (onTimer_due d _ hdue)
  case timeAsked => exact answers_of_effect (fun _ => rfl) (opTimeSync_due hdue hz hy hu)
  case timeNotAsked => exact answers_of_effect (fun _ => rfl) (opTimeSync_due hdue hz hy hu)
  case timeAnswered => exact answers_of_effect (fun _ => rfl) (if_neg (onLink_guard hc hl))
  case timeIgnored => exact answers_of_effect (fun _ => rfl) (if_pos (offLink_guard hoff))
  case responseIgnored => exact answers_of_effect (fun _ => rfl) (opTimeRsp_alone h)
  case measured =>
    exact answers_of_effect (fun _ => rfl) ((opTimeRsp_measures hu hc hasym hdelay herr hy).trans (if_pos hs))
  case sampleRefused =>
    exact answers_of_effect (fun _ => rfl) ((opTimeRsp_measures hu hc hasym hdelay herr hy).trans (by simp [hs, hsample]))
  case sampled =>
    exact answers_of_effect (fun _ => rfl) ((opTimeRsp_measures hu hc hasym hdelay herr hy).trans (by simp [hs, hsample]))

end Sys2Proof.Machine
end

section
/-!
PROOF. The rings of the host: a transmit descriptor and its frame, a received frame, and the resume of a halted ring.
-/

namespace Sys2Proof.Machine

variable {d u y z : Dev} {i : Initiator} {c : Sys2Proof.Class} {x : HostDesc} {data : List Byte} {r k : Nat} {st : CplStatus}

/-! ### A transmit ring (R321, R324) -/

theorem hostTxDescFetch_answers (hwf : x.wf = true) (h : opHostTxFetch c x data d = y) : Answers (.hostTxDescFetch c x data) d y :=
  answers_of (fun _ => rfl) hwf h

theorem opHostTxFetch_waits (h : d.hRuns c = false ∨ d.hPosted c = false ∨ x.own = false ∨
    (NMap.get none d.hbr.txBusy c).isSome = true ∨ bitAt (d.pressedAt 57) c = true) : opHostTxFetch c x data d = d :=
  if_pos (by simpa [or_assoc] using h)

/-- A descriptor that its ring may take: one of a length that no frame has halts the ring, any other sends its frame. -/
theorem opHostTxFetch_takes (hruns : d.hRuns c = true) (hposted : d.hPosted c = true) (hown : x.own = true)
    (hbusy : NMap.get none d.hbr.txBusy c = none) (hpressed : bitAt (d.pressedAt 57) c = false)
    (hy : y = (d.ringAdmit 57 c x.direct x.tsEvent x.port x.domain x.cls x.len data).2) :
    opHostTxFetch c x data d =
      if x.len = 0 ∨ 9216 < x.len then (d.emit (.pcieWrite (d.hAddr c) (txDescBytes x 4))).hHalt c 4 true
      else { y with hbr := { y.hbr with txBusy := NMap.set none y.hbr.txBusy c (some x) } } := by
  subst hy
  exact if_neg (by simp [hruns, hposted, hown, hbusy, hpressed])

theorem opHostTxDone_idle (h : NMap.get none d.hbr.txBusy c = none) : opHostTxDone c d = d := by
  unfold opHostTxDone
  rw [h]

theorem opHostTxDone_busy (h : NMap.get none d.hbr.txBusy c = some x)
    (hy : y = { d with hbr := { d.hbr with txBusy := NMap.set none d.hbr.txBusy c none } })
    (hz : z = ((((y.emit (.pcieWrite (y.hAddr c) (txDescBytes x 0))).hAdvance c).count (HBR_CNT 0)).add
      ⟨HBR_CNT 1, 31, 0⟩ x.len)) :
    opHostTxDone c d = if x.irq then z.hMessage c else z := by
  subst hz hy
  unfold opHostTxDone
  rw [h]

/-! ### A receive ring (R322, R324, R319) -/

theorem hostRxWriteDone_answers (hwf : x.wf = true) (h : opHostRxDone c x st d = y) : Answers (.hostRxWriteDone c x st) d y :=
  answers_of (fun _ => rfl) hwf h

theorem opHostRxDone_nothing (h : x.own = false ∨ d.hostTx c = none) : opHostRxDone c x st d = d := by
  have htx : (if x.own = true then d.hostTx c else none) = none := by
    obtain h | h := h <;> simp [h]
  unfold opHostRxDone
  rw [htx]

section Written
variable {t : Tx} {f : Frame} (hr : r = hRing false c) (hown : x.own = true) (htx : d.hostTx c = some t)
include hr hown htx

theorem opHostRxDone_noHost (hup : d.hostUp = false) : opHostRxDone c x st d = (d.hostLose t).hHalt r 5 false := by
  subst hr
  unfold opHostRxDone
  simp only [hown, if_true, htx, hup, Bool.not_false]

variable (hup : d.hostUp = true)
include hup

theorem opHostRxDone_fails {bs : List Byte} (hst : st ≠ .ok) (hk : k = (if st = .poisoned then 1 else 3))
    (hy : y = d.writeFailed 7 (if st = .unsupported then 0xB else 0xC) x.buf)
    (hbs : bs = (y.frame t.fid).elim [] (fun f => rxDescBytes f c 0 x.buf x.irq k)) :
    opHostRxDone c x st d = ((y.emit (.pcieWrite (y.hAddr r) bs)).hostLose t).hHalt r k true := by
  subst hr
  unfold opHostRxDone
  simp only [hown, if_true, htx, hup, Bool.not_true]
  cases st
  case ok => exact absurd rfl hst
  all_goals
    subst hk hbs
    simp only [reduceCtorEq, if_true, if_false] at hy ⊢
    rw [← hy]
    cases y.frame t.fid with
    | none => simp only [Option.elim]
    | some f => simp only [Option.elim]

theorem opHostRxDone_written (hy : y = d.emit (.pcieWrite x.buf t.data)) (hf : y.frame t.fid = some f)
    (hz : z = ((y.emit (.pcieWrite (y.hAddr r) (rxDescBytes f c t.data.length x.buf x.irq 0))).hAdvance r).dropTx t)
    (hu : u = ((z.release t.fid).count (HBR_CNT 2)).add ⟨HBR_CNT 3, 31, 0⟩ t.data.length) :
    opHostRxDone c x .ok d = if x.irq then u.hMessage r else u := by
  subst hu hz hr
  unfold opHostRxDone
  simp only [hown, if_true, htx, hup, Bool.not_true, Bool.false_eq_true, if_false, ← hy, hf]

end Written

/-! ### The resume of a halted ring (R319, R324) -/

theorem opHostResume_accepts (tx : Bool) (h : d.accepts i = true) :
    opHostResume i tx c d =
      if d.get (HBR_RING_STAT_cause (hRing tx c)) = 5 then d
      else (d.put (HBR_RING_STAT_halted (hRing tx c)) 0).put (HBR_RING_STAT_cause (hRing tx c)) 0 :=
  access_accepts _ h

/-- Settles O49: each clause is its command's operation in the case that the clause's hypotheses choose. -/
theorem hostRingsAct : Obligations.HostRingsAct := by
  unfold Obligations.HostRingsAct
  intro d y z u i c x data t f tx r k st bs
  refine ⟨fun hwf => ⟨fun h => ?waits, fun hruns hposted hown hbusy hpressed => ⟨fun hlen => ?badLength, fun h1 h2 hy => ?sends⟩⟩,
    fun h => ?txIdle, fun h hy hz => ⟨fun hirq => ?txMessage, fun hirq => ?txSilent⟩,
    fun hwf hr => ⟨fun h => ?rxNothing, fun hown htx => ⟨fun hup => ?rxNoHost, fun hup hst hk hy hbs => ?rxFails,
      fun hup hy hf hz hu => ⟨fun hirq => ?rxMessage, fun hirq => ?rxSilent⟩⟩⟩,
    fun h => ⟨fun hc => ?resumeNot, fun hc => ?resume⟩⟩
  case waits => exact hostTxDescFetch_answers hwf (opHostTxFetch_waits h)
  case badLength =>
    exact hostTxDescFetch_answers hwf ((opHostTxFetch_takes hruns hposted hown hbusy hpressed rfl).trans (if_pos hlen))
  case sends =>
    exact hostTxDescFetch_answers hwf ((opHostTxFetch_takes hruns hposted hown hbusy hpressed hy).trans (if_neg (by omega)))
  case txIdle => exact answers_of_effect (fun _ => rfl) (opHostTxDone_idle h)
  case txMessage => exact answers_of_effect (fun _ => rfl) ((opHostTxDone_busy h hy hz).trans (if_pos hirq))
  case txSilent => exact answers_of_effect (fun _ => rfl) ((opHostTxDone_busy h hy hz).trans (if_neg (by simp [hirq])))
  case rxNothing => exact hostRxWriteDone_answers hwf (opHostRxDone_nothing h)
  case rxNoHost => exact hostRxWriteDone_answers hwf (opHostRxDone_noHost hr hown htx hup)
  case rxFails => exact hostRxWriteDone_answers hwf (opHostRxDone_fails hr hown htx hup hst hk hy hbs)
  case rxMessage => exact hostRxWriteDone_answers hwf ((opHostRxDone_written hr hown htx hup hy hf hz hu).trans (if_pos hirq))
  case rxSilent =>
    exact hostRxWriteDone_answers hwf ((opHostRxDone_written hr hown htx hup hy hf hz hu).trans (if_neg (by simp [hirq])))
  case resumeNot => exact answers_of_effect (fun _ => rfl) ((opHostResume_accepts tx h).trans (if_pos hc))
  case resume => exact answers_of_effect (fun _ => rfl) ((opHostResume_accepts tx h).trans (if_neg hc))

end Sys2Proof.Machine
end

section
/-!
PROOF. The host link and its function: PE_RSTN, training and loss, configuration, messages, semaphores and the log of failed writes.
-/

namespace Sys2Proof.Machine

variable {d u y z : Dev} {i : Initiator} {n : Sem} {x : PweItem} {l : List PweItem} {g w e : Nat} {bme d3 en fm : Bool}

/-! ### PE_RSTN and the function's reset (R310) -/

theorem opPeRstnLow_again (h : d.hbr.perst = true) : opPeRstnLow d = d := if_pos h

theorem opPeRstnLow_off (h : d.hbr.perst = false) (hy : y = { d with hbr := { d.hbr with perst := true } }) (hup : d.up = false) :
    opPeRstnLow d = y := by
  subst hy
  unfold opPeRstnLow
  rw [if_neg (by simp [h])]
  exact if_pos (congrArg (!·) hup)

theorem opPeRstnLow_up (h : d.hbr.perst = false) (hy : y = { d with hbr := { d.hbr with perst := true } }) (hup : d.up = true)
    (hz : z = ((y.put HBR_STAT_perst 1).pcieDown).hostGone.cfgReset) :
    opPeRstnLow d = if z.flag (PG_STATE_in_reset pgHBR) then z else z.unitReset pgHBR := by
  subst hz hy
  unfold opPeRstnLow
  rw [if_neg (by simp [h])]
  exact if_neg (fun hc => Bool.false_ne_true ((congrArg (!·) hup).symm.trans hc))

theorem opPeRstnRise_again (h : d.hbr.perst = false) : opPeRstnRise d = d := if_pos (by simp [h])

theorem opPeRstnRise_off (h : d.hbr.perst = true) (hz : z = { d with hbr := { d.hbr with perst := false, waken := false } })
    (hy : y = z.cancel ⟨.wakenPin, 0, 0⟩) (hup : d.up = false) : opPeRstnRise d = opWakeDetect .host y := by
  subst hz hy
  unfold opPeRstnRise
  rw [if_neg (by simp [h])]
  exact congrArg (opWakeDetect .host) (if_pos (congrArg (!·) hup))

theorem opPeRstnRise_up (h : d.hbr.perst = true) (hz : z = { d with hbr := { d.hbr with perst := false, waken := false } })
    (hy : y = z.cancel ⟨.wakenPin, 0, 0⟩) (hup : d.up = true) (hu : u = y.put HBR_STAT_perst 0) :
    opPeRstnRise d = opWakeDetect .host
      (if u.pw.filled && u.flag (PG_STATE_in_reset pgHBR) && !u.running ⟨.unitReset, pgHBR, 0⟩ then
        (u.askRelease pgHBR).refreshFrom pgHBR
      else u) := by
  subst hu hy hz
  unfold opPeRstnRise
  rw [if_neg (by simp [h])]
  exact congrArg (opWakeDetect .host) (if_neg (fun hc => Bool.false_ne_true ((congrArg (!·) hup).symm.trans hc)))

theorem opFlr_idle (h : d.flag HBR_STAT_link = false ∨ d.flag (PG_STATE_in_reset pgHBR) = true) : opFlr d = d :=
  if_pos (by simpa using h)

theorem opFlr_resets (hl : d.flag HBR_STAT_link = true) (hr : d.flag (PG_STATE_in_reset pgHBR) = false) :
    opFlr d = ((d.unitReset pgHBR).cfgReset).hostGone := if_neg (by simp [hl, hr])

/-! ### The link and its configuration (R310, R325) -/

theorem pcieLinkUp_answers (hg : 1 ≤ g) (hg' : g ≤ 4) (hw : [1, 2, 4].contains w = true) (h : opPcieUp g w d = y) :
    Answers (.pcieLinkUp g w) d y :=
  answers_of (fun _ => rfl) (by simp only [hg, hg', hw, decide_true, Bool.and_self]) h

theorem opPcieUp_not (h : d.hbr.perst = true ∨ d.up = false ∨ d.inService pgHBR = false ∨ d.flag HBR_STAT_link = true) :
    opPcieUp g w d = d := if_pos (by simpa [or_assoc] using h)

theorem opPcieUp_trains (hp : d.hbr.perst = false) (hup : d.up = true) (hs : d.inService pgHBR = true)
    (hl : d.flag HBR_STAT_link = false) :
    opPcieUp g w d = ((((d.put HBR_STAT_link 1).put HBR_STAT_gen g).put HBR_STAT_width w).raise pgHBR 14).hostBack :=
  if_neg (by simp [hp, hup, hs, hl])

theorem opPcieConfig_down (h : d.flag HBR_STAT_link = false) : opPcieConfig bme d3 en fm d = d := if_pos (by simp [h])

theorem opPcieConfig_stores (hl : d.flag HBR_STAT_link = true)
    (hy : y = ((d.put HBR_STAT_bme (if bme = true then 1 else 0)).put HBR_STAT_msix_en (if en = true then 1 else 0)).put
      HBR_STAT_fmask (if fm = true then 1 else 0)) (hz : z = { y with hbr := { y.hbr with d3 := d3 } }) :
    opPcieConfig bme d3 en fm d = if d.hostUp && !z.hostUp then z.readsLost.hostGone else z.hostBack.flushMsix := by
  subst hz hy
  exact if_neg (by simp [hl])

/-! ### Semaphores (R318) -/

theorem opSemRead_takes (ha : d.accepts i = true) (hfree : d.get (HBR_SEM_holder n) = 0xF)
    (hy : y = (d.put (HBR_SEM_holder n) (iniCode i)).armIn ⟨.sem, n, 0⟩ (msT ((d.put (HBR_SEM_holder n) (iniCode i)).get HBR_SEM_TMO_ms))) :
    opSemRead i n d = y.emit (.readValue i (HBR_SEM n) (BitVec.ofNat 32 (2 ^ 31 + iniCode i * 2 ^ 16))) := by
  have haddr : HBR_SEM_TMO_ms.addr ≠ (HBR_SEM_holder n).addr := by
    simp [HBR_SEM_TMO_ms, HBR_SEM_holder, HBR_SEM_TMO, HBR_SEM]
    omega
  rw [get_put_reg d _ haddr] at hy
  subst hy
  exact (access_accepts _ ha).trans (if_pos hfree)

theorem opSemRead_held (ha : d.accepts i = true) (h : d.get (HBR_SEM_holder n) ≠ 0xF) :
    opSemRead i n d = d.emit (.readValue i (HBR_SEM n) (BitVec.ofNat 32 (d.get (HBR_SEM_holder n) * 2 ^ 16))) :=
  (access_accepts _ ha).trans (if_neg h)

theorem opSemRelease_accepts (ha : d.accepts i = true) :
    opSemRelease i n d = if d.get (HBR_SEM_holder n) = iniCode i then d.semFree n else d.ignoredErr pgHBR i (0x300 + 4 * n) (2 ^ 31) :=
  access_accepts _ ha

/-! ### The log of failed writes (R319) -/

theorem opPweRead_idle (ha : d.accepts i = true) (h : d.hbr.log = []) :
    opPweRead i d = ((d.wr HBR_PWE_LO 0).wr HBR_PWE_HI 0xF0000000).emit (.readValue i HBR_PWE_LO 0) := by
  unfold opPweRead
  rw [access_accepts _ ha, h]

theorem opPweRead_takes (ha : d.accepts i = true) (h : d.hbr.log = x :: l) (hy : y = { d with hbr := { d.hbr with log := l } }) :
    opPweRead i d = (((y.put HBR_PWE_CNT_items l.length).wr64 HBR_PWE_LO HBR_PWE_HI x.item).wr64 HBR_PWE_T_LO HBR_PWE_T_HI x.ns).emit
      (.readValue i HBR_PWE_LO (BitVec.ofNat 32 x.item)) := by
  subst hy
  unfold opPweRead
  rw [access_accepts _ ha, h]

/-! ### The obligation -/

/-- Settles O47: each clause is its command's operation in the case that the clause's hypotheses choose. -/
theorem hostLinkAct : Obligations.HostLinkAct := by
  unfold Obligations.HostLinkAct
  intro d y z u i n g w e x l bme d3 en fm k
  refine ⟨fun h => ?lowAgain, fun h hy => ⟨fun hup => ?lowOff, fun hup hz => ⟨fun hr => ?lowInReset, fun hr => ?lowResets⟩⟩,
    fun h => ?riseAgain,
    fun h hz hy => ⟨fun hup => ?riseOff, fun hup hu => ⟨fun hf hr hn => ?riseReleases, fun hk => ?riseKeeps⟩⟩,
    fun h => ?flrIdle, fun hl hr => ?flrResets,
    fun hg hg' hw => ⟨fun h => ?upNot, fun hp hup hs hl => ?upTrains⟩,
    fun hl => ?down, fun hl => ⟨?downIdle, ?configDown⟩, fun hdue hy hz => ?wakenReleased,
    fun hl hy hz => ⟨fun hwas hnow => ?configTakesHost, fun hk => ?configKeepsHost⟩,
    fun hdue => ?holdEnds, ?unmaskFunction, ?unmaskEnable, fun hy => ?unmaskVector,
    fun ha => ⟨fun hfree hy => ?semTaken, fun hheld => ?semShown, fun ho => ?semReleased, fun ho => ?semRefused,
      fun hlog => ?logIdle, fun hlog hy => ?logTaken⟩,
    fun hdue => ?semTimesOut⟩
  case lowAgain => exact answers_of_effect (fun _ => rfl) (opPeRstnLow_again h)
  case lowOff => exact answers_of_effect (fun _ => rfl) (opPeRstnLow_off h hy hup)
  case lowInReset => exact answers_of_effect (fun _ => rfl) ((opPeRstnLow_up h hy hup hz).trans (if_pos hr))
  case lowResets => exact answers_of_effect (fun _ => rfl) ((opPeRstnLow_up h hy hup hz).trans (if_neg (by simp [hr])))
  case riseAgain => exact answers_of_effect (fun _ => rfl) (opPeRstnRise_again h)
  case riseOff => exact answers_of_effect (fun _ => rfl) (opPeRstnRise_off h hz hy hup)
  case riseReleases =>
    exact answers_of_effect (fun _ => rfl) ((opPeRstnRise_up h hz hy hup hu).trans
      (congrArg (opWakeDetect .host) (if_pos (by simp [hf, hr, hn]))))
  case riseKeeps =>
    exact answers_of_effect (fun _ => rfl) ((opPeRstnRise_up h hz hy hup hu).trans
      (congrArg (opWakeDetect .host) (if_neg (by obtain hk | hk | hk := hk <;> simp [hk]))))
  case flrIdle => exact answers_of_effect (fun _ => rfl) (opFlr_idle h)
  case flrResets => exact answers_of_effect (fun _ => rfl) (opFlr_resets hl hr)
  case upNot => exact pcieLinkUp_answers hg hg' hw (opPcieUp_not h)
  case upTrains => exact pcieLinkUp_answers hg hg' hw (opPcieUp_trains hp hup hs hl)
  case down => exact answers_of_effect (fun _ => rfl) (if_pos hl)
  case downIdle => exact answers_of_effect (fun _ => rfl) (if_neg (by simp [hl]))
  case configDown => exact answers_of_effect (fun _ => rfl) (opPcieConfig_down hl)
  case wakenReleased =>
    subst hz hy
    exact answers_of_effect (fun _ => rfl) (onTimer_due d _ hdue)
  case configTakesHost =>
    exact answers_of_effect (fun _ => rfl) ((opPcieConfig_stores hl hy hz).trans (if_pos (by simp [hwas, hnow])))
  case configKeepsHost =>
    exact answers_of_effect (fun _ => rfl) ((opPcieConfig_stores hl hy hz).trans (if_neg (by obtain hk | hk := hk <;> simp [hk])))
  case holdEnds => exact answers_of_effect (fun _ => rfl) (onTimer_due d _ hdue)
  case unmaskFunction => exact answers_of_effect (fun _ => rfl) rfl
  case unmaskEnable => exact answers_of_effect (fun _ => rfl) rfl
  case unmaskVector =>
    subst hy
    exact answers_of_effect (fun _ => rfl) rfl
  case semTaken => exact answers_of_effect (fun _ => rfl) (opSemRead_takes ha hfree hy)
  case semShown => exact answers_of_effect (fun _ => rfl) (opSemRead_held ha hheld)
  case semReleased => exact answers_of_effect (fun _ => rfl) ((opSemRelease_accepts ha).trans (if_pos ho))
  case semRefused => exact answers_of_effect (fun _ => rfl) ((opSemRelease_accepts ha).trans (if_neg ho))
  case logIdle => exact answers_of_effect (fun _ => rfl) (opPweRead_idle ha hlog)
  case logTaken => exact answers_of_effect (fun _ => rfl) (opPweRead_takes ha hlog hy)
  case semTimesOut => exact answers_of_effect (fun _ => rfl) (onTimer_due d _ hdue)

end Sys2Proof.Machine
end

section
/-!
PROOF. Accesses through the host bridge: host writes, retry and split reads, the Retriever, and the outbound accesses of the braces.
-/

namespace Sys2Proof.Machine

variable {d y z : Dev} {br : Brace} {i : Initiator} {off o e n addr a tag code : Nat} {v data w : Word} {x : RtvEntry} {r : OutRead}
  {l : PfLine} {bar : Bar} {nar poi : Bool} {bs : List Byte} {st : CplStatus}

/-! ### Host writes (R312, R319) -/

theorem opHostWrite_unserved (h : d.hostServed = false) : opHostWrite bar off v nar poi d = d := if_pos (by simp [h])

section Served
variable (hs : d.hostServed = true) (ho : o = off / 4 * 4)
include hs ho

theorem opHostWrite_mram (hr : o < 0x10000000) :
    opHostWrite .mram off v nar poi d = d.writeFailed 2 (if poi = true then 4 else 3) (0x80000000 + o) := by
  subst ho
  exact (if_neg (by simp [hs])).trans (if_neg (Nat.not_le.mpr hr))

theorem opHostWrite_msix (hr : o < 0x4000) : opHostWrite .msix off v false false d = d.msixWrite o v := by
  subst ho
  exact (if_neg (by simp [hs])).trans (if_neg (by simpa using hr))

/-- What a host write to register space does, in the order of its checks. -/
theorem opHostWrite_registers (hr : o < 0x4000000) (ha : a = 0x40000000 + o) :
    opHostWrite .registers off v nar poi d =
      if poi then d.writeFailed 2 4 a
      else if nar then (d.badAccess .host true o).writeFailed 2 2 a
      else if (pageKind (o / 0x1000)).isNone then (d.badAccess .host true o).writeFailed 2 1 a
      else ((d.rtvWritten a).lineWritten 2 a).regWrite .host o v := by
  subst ha ho
  exact (if_neg (by simp [hs])).trans (if_neg (Nat.not_le.mpr hr))

/-! ### Split reads (R315, R316) -/

theorem opHostSplitRead_msix (hr : o < 0x4000) : opHostSplitRead .msix off d = d.emit (.hostData o (d.msixShown o)) := by
  subst ho
  exact (if_neg (by simp [hs, retryAddr])).trans (if_neg (Nat.not_le.mpr hr))

variable (hr : o < 0x4000000) (ha : a = 0x40000000 + o) (hret : retryAddr .registers off = none)
include hr ha hret

theorem opHostSplitRead_direct (hp : d.prefetchable a = false) (hf : d.fetchWord a = (w, y)) :
    opHostSplitRead .registers off d = y.emit (.hostData a w) := by
  subst ha ho
  unfold opHostSplitRead
  simp only [hs, hret, hp, hf, Nat.not_le.mpr hr, Option.isSome_none, Bool.not_true, Bool.or_self, Bool.false_eq_true, if_false]

theorem opHostSplitRead_line (hp : d.prefetchable a = true) (hf : d.freshLine 2 a = (some (n, l), y))
    (hz : z = y.emit (.hostData a (l.word a))) :
    opHostSplitRead .registers off d = { z with hbr := { z.hbr with lines := NMap.set none z.hbr.lines n (some (l.took a)) } } := by
  subst hz ha ho
  unfold opHostSplitRead
  simp only [hs, hret, hp, hf, Nat.not_le.mpr hr, Option.isSome_none, Bool.not_true, Bool.or_self, Bool.false_eq_true, if_false, if_true]

theorem opHostSplitRead_newLine (hp : d.prefetchable a = true) (hf : d.freshLine 2 a = (none, y)) (hb : y.fetchBlock a = (bs, z))
    (hl : l = { addr := a / 64 * 64, by_ := 2, data := bs, left := List.range 16, at_ := z.now }) :
    opHostSplitRead .registers off d = (z.keepLine (l.took a)).emit (.hostData a (l.word a)) := by
  subst hl ha ho
  unfold opHostSplitRead
  simp only [hs, hret, hp, hf, hb, Nat.not_le.mpr hr, Option.isSome_none, Bool.not_true, Bool.or_self, Bool.false_eq_true, if_false,
    if_true]

end Served

theorem opHostSplitRead_idle (h : d.hostServed = false ∨ (retryAddr bar off).isSome = true) : opHostSplitRead bar off d = d :=
  if_pos (by simpa using h)

/-! ### The Retriever (R313, R314) -/

theorem opHostRetryRead_other (h : retryAddr bar off = none) : opHostRetryRead bar off d = d := by
  unfold opHostRetryRead
  rw [h]

theorem opHostRetryRead_unserved (h : d.hostServed = false) : opHostRetryRead bar off d = d := by
  unfold opHostRetryRead
  cases retryAddr bar off with
  | none => rfl
  | some a => exact if_pos (by simp [h])

section Retry
variable (hs : d.hostServed = true) (hret : retryAddr bar off = some addr)
include hs hret

theorem opHostRetryRead_filled (hx : d.rtvAt addr = some (e, x)) (hb : x.data = some bs) :
    opHostRetryRead bar off d = (d.rtvFree e).rtvData addr (x.word addr bs) := by
  unfold opHostRetryRead
  simp only [hret, hs, hx, hb, Bool.not_true, Bool.false_eq_true, if_false]

theorem opHostRetryRead_unfilled (hx : d.rtvAt addr = some (e, x)) (hb : x.data = none) :
    opHostRetryRead bar off d = d.rtvRetry addr := by
  unfold opHostRetryRead
  simp only [hret, hs, hx, hb, Bool.not_true, Bool.false_eq_true, if_false]

theorem opHostRetryRead_takes (hx : d.rtvAt addr = none)
    (he : (List.range 8).find? (fun e => (NMap.get none d.hbr.rtv e).isNone) = some e)
    (hy : y = d.setRtv e (some { addr := addr, block := d.prefetchable addr })) :
    opHostRetryRead bar off d = y.armIn ⟨.rtvWait, e, 0⟩ (nsT (y.get HBR_RTV_CFG_wait_ns)) := by
  subst hy
  unfold opHostRetryRead
  simp only [hret, hs, hx, he, Bool.not_true, Bool.false_eq_true, if_false]
  rfl

theorem opHostRetryRead_full (hx : d.rtvAt addr = none)
    (he : (List.range 8).find? (fun e => (NMap.get none d.hbr.rtv e).isNone) = none) :
    opHostRetryRead bar off d = d.rtvRetry addr := by
  unfold opHostRetryRead
  simp only [hret, hs, hx, he, Bool.not_true, Bool.false_eq_true, if_false]

end Retry

section Entry
variable (hx : NMap.get none d.hbr.rtv e = some x)
include hx

theorem opRtvWait_ends (hdue : d.due ⟨.rtvWait, e, 0⟩ = some n) :
    opRtvWait e d = (((d.at_ n).cancel ⟨.rtvWait, e, 0⟩).setRtv e (some { x with waiting := false })).rtvRetry x.addr := by
  have hx' : NMap.get none ((d.at_ n).cancel ⟨.rtvWait, e, 0⟩).hbr.rtv e = some x := hx
  unfold opRtvWait
  rw [onTimer_due d _ hdue, hx']

theorem opRtvFetch_filled (h : x.data.isSome = true) : opRtvFetch e d = d := by
  unfold opRtvFetch
  simp only [hx, h, if_true]

/-- Fetched data complete the read that waits, or fill the entry, which holds them for the hold time. -/
theorem opRtvFetch_fetches (hdata : x.data = none)
    (hf : (x.block = true ∧ d.fetchBlock x.addr = (bs, y)) ∨
      (x.block = false ∧ d.fetchWord x.addr = (w, y) ∧ bs = leBytes 4 w.toNat)) :
    opRtvFetch e d =
      if x.waiting then (y.rtvFree e).rtvData x.addr (x.word x.addr bs)
      else (y.setRtv e (some { x with data := some bs })).armIn ⟨.rtvHold, e, 0⟩
        (usT ((y.setRtv e (some { x with data := some bs })).get HBR_RTV_CFG_hold_us)) := by
  unfold opRtvFetch
  obtain ⟨hb, hf⟩ | ⟨hb, hf, rfl⟩ := hf
  · simp only [hx, hdata, hb, hf, Option.isSome_none, Bool.false_eq_true, if_false, if_true]
    rfl
  · simp only [hx, hdata, hb, hf, Option.isSome_none, Bool.false_eq_true, if_false]
    rfl

theorem opRtvHold_ends (hdue : d.due ⟨.rtvHold, e, 0⟩ = some n)
    (hy : y = (((d.at_ n).cancel ⟨.rtvHold, e, 0⟩).rtvFree e).count (HBR_CNT 9)) :
    opRtvHold e d =
      (if (y.pg pgHBR).captured then y
        else (y.wr HBR_RTV_EXP_ADDR (BitVec.ofNat 32 x.addr)).modPg pgHBR (fun s => { s with captured := true })).raise pgHBR 15 := by
  have hx' : NMap.get none ((d.at_ n).cancel ⟨.rtvHold, e, 0⟩).hbr.rtv e = some x := hx
  subst hy
  unfold opRtvHold
  rw [onTimer_due d _ hdue, hx']

end Entry

/-! ### Lines of the read buffer (R316) -/

theorem prefetchLineDiscard_answers (hn : n < 16) (h : opLineDiscard n d = y) : Answers (.prefetchLineDiscard n) d y :=
  answers_of (fun _ => rfl) (decide_eq_true hn) h

theorem opLineDiscard_drops (h : NMap.get none d.hbr.lines n = some l) : opLineDiscard n d = (d.at_ (d.lineEnd l)).dropLine n := by
  unfold opLineDiscard
  rw [h]

theorem opLineDiscard_empty (h : NMap.get none d.hbr.lines n = none) : opLineDiscard n d = d := by
  unfold opLineDiscard
  rw [h]

/-! ### Outbound accesses of a brace (R312, R315, R316) -/

theorem outboundAccess_answers {q : Option Word} (hlt : addr < 2 ^ 40) (h : opOutbound br addr q d = y) :
    Answers (.outboundAccess br addr q) d y :=
  answers_of (fun _ => rfl) (decide_eq_true hlt) h

theorem opOutbound_below {q : Option Word} (h : addr < 2 ^ 39) : opOutbound br addr q d = d := if_pos (Or.inl h)

section Window
variable (hi : i = braceIni (brIx br)) (hcode : code = iniCode i) (hlo : 2 ^ 39 ≤ addr) (hhi : addr < 2 ^ 40)
  (hacc : d.accepts i = true) (ha : a = addr / 4 * 4)
include hi hcode hlo hhi hacc ha

theorem opOutbound_store (hy : y = (d.lineWritten code a).outWrite code a (leBytes 4 v.toNat)) :
    opOutbound br addr (some v) d = if (d.outFails a).isSome && d.acked a then y.emit (.braceFault code a true) else y := by
  subst hy ha hcode hi
  exact (if_neg (by omega)).trans (access_accepts _ hacc)

theorem opOutbound_loadFails (h : (d.outFails a).isSome = true) :
    opOutbound br addr none d = d.emit (.braceFault code a false) := by
  obtain ⟨c, hc⟩ := Option.isSome_iff_exists.mp h
  subst ha hcode hi
  unfold opOutbound
  dsimp only
  rw [if_neg (by omega), access_accepts _ hacc, hc]

theorem opOutbound_loadLine (hok : d.outFails a = none) (hp : d.prefetchable a = true) (hf : d.freshLine code a = (some (n, l), y))
    (hz : z = y.emit (.readValue i a (l.word a))) :
    opOutbound br addr none d = { z with hbr := { z.hbr with lines := NMap.set none z.hbr.lines n (some (l.took a)) } } := by
  subst hz ha hcode hi
  unfold opOutbound
  dsimp only
  rw [if_neg (by omega), access_accepts _ hacc, hok]
  simp only [hp, hf, if_true]

theorem opOutbound_loadReads (hok : d.outFails a = none)
    (hf : (d.prefetchable a = false ∧ y = d) ∨ (d.prefetchable a = true ∧ d.freshLine code a = (none, y))) :
    opOutbound br addr none d = (y.outRead { by_ := code, addr := a, ack := false } (y.readSpan a)).2 := by
  subst ha hcode hi
  unfold opOutbound
  dsimp only
  rw [if_neg (by omega), access_accepts _ hacc, hok]
  obtain ⟨hp, rfl⟩ | ⟨hp, hf⟩ := hf
  · simp only [hp, Bool.false_eq_true, if_false]
  · simp only [hp, hf, if_true]

end Window

/-! ### The end of an outbound read (R315) -/

theorem opOutDone_ring (h : tag < 32) : opOutDone tag st data d = if st = .ok then d else d.ringReadFails tag (haltCause st) := if_pos h

theorem opOutTimeout_ring (h : tag < 32) : opOutTimeout tag d = d.ringReadFails tag 2 := if_pos h

section Read
variable (ht : 32 ≤ tag) (hr : NMap.get none d.hbr.reads tag = some r)
include ht hr

/-- The data of an outbound read: none for an acknowledging one; a prefetch keeps the blocks that it spans. -/
theorem opOutDone_data (hy : y = d.takeRead tag) (hz : z = y.emit (.readValue (braceIni r.by_) r.addr data)) :
    opOutDone tag .ok data d =
      if r.ack then y
      else if r.n < 64 then z
      else if r.n < 128 then z.keepBlock r.by_ (r.addr / 64 * 64) r.addr data
      else (z.keepBlock r.by_ (r.addr / 64 * 64) r.addr data).keepBlock r.by_ (r.addr / 64 * 64 + 64) r.addr data := by
  subst hz hy
  unfold opOutDone
  rw [if_neg (by omega), hr]
  dsimp only
  rw [if_pos rfl]
  by_cases h1 : r.n < 64
  · rw [if_pos h1, if_pos h1, if_pos (show r.n < 128 by omega)]
  · rw [if_neg h1, if_neg h1]

theorem opOutDone_fails (hst : st ≠ .ok) (hy : y = d.takeRead tag) :
    opOutDone tag st data d = y.readEnds r (haltCause st) (if st = .unsupported then 0xB else 0xC) := by
  subst hy
  unfold opOutDone
  rw [if_neg (by omega), hr]
  exact if_neg hst

theorem opOutTimeout_ends (hdue : d.due ⟨.cplTmo, tag, 0⟩ = some e) :
    opOutTimeout tag d = (((d.at_ e).cancel ⟨.cplTmo, tag, 0⟩).takeRead tag).readEnds r 2 0xD := by
  have hr' : NMap.get none ((d.at_ e).cancel ⟨.cplTmo, tag, 0⟩).hbr.reads tag = some r := hr
  unfold opOutTimeout
  rw [if_neg (by omega), onTimer_due d _ hdue, hr']

end Read

/-! ### The obligation -/

/-- Settles O48: each clause is its command's operation in the case that the clause's hypotheses choose. -/
theorem hostAccessesAct : Obligations.HostAccessesAct := by
  unfold Obligations.HostAccessesAct
  intro d y z br i off o e n addr a tag code v data w x r l bar nar poi bs st hi hcode
  refine ⟨fun hs => ⟨?writeUnserved, ?retryUnserved, ?splitUnserved⟩,
    fun hs ho ha => ⟨fun hr => ?writeMram, fun hr => ⟨?writeMsix, ?readMsix⟩,
      fun hr => ⟨?writePoisoned, ?writeNarrow, fun hk => ?writeNoPage, fun hk => ?writeRegister, fun hret =>
        ⟨fun hp hf => ?splitDirect, fun hp hf hz => ?splitLine, fun hp hf hb hl => ?splitNewLine⟩⟩⟩,
    fun hs hret => ⟨?splitOfRetry, fun hx hb => ?retryFilled, fun hx hb => ?retryUnfilled, fun hx he hy => ?retryTakes,
      fun hx he => ?retryFull⟩,
    fun hret => ?retryOther,
    fun he hx => ⟨fun hdue => ?waitEnds, fun hdata => ?fetchFilled,
      fun hdata hf => ⟨fun hw => ?fetchCompletes, fun hw => ?fetchFills⟩,
      fun hdue hy => ⟨fun hcap => ?holdCaptured, fun hcap => ?holdCaptures⟩⟩,
    fun hn hl => ?lineDropped, fun hn hl => ?lineEmpty, fun hlt => ⟨?storeBelow, ?loadBelow⟩,
    fun hlo hhi hacc ha => ⟨fun hy => ⟨fun hf hk => ?storeFaults, fun hk => ?storeGoes⟩, fun hf => ?loadFaults,
      fun hok => ⟨fun hp hf hz => ?loadLine, fun hf => ?loadReads⟩⟩,
    fun ht => ⟨?ringData, fun hst => ?ringFails, ?ringTimeout⟩,
    fun ht hr hy => ⟨fun hk => ?readAcked, fun hk hz => ⟨fun h1 => ?readData, fun h1 h2 => ?readBlock, fun h2 => ?readBlocks⟩,
      fun hst => ?readFails, fun hdue => ?readTimesOut⟩⟩
  case writeUnserved => exact answers_of_effect (fun _ => rfl) (opHostWrite_unserved hs)
  case retryUnserved => exact answers_of_effect (fun _ => rfl) (opHostRetryRead_unserved hs)
  case splitUnserved => exact answers_of_effect (fun _ => rfl) (opHostSplitRead_idle (.inl hs))
  case writeMram => exact answers_of_effect (fun _ => rfl) (opHostWrite_mram hs ho hr)
  case writeMsix => exact answers_of_effect (fun _ => rfl) (opHostWrite_msix hs ho hr)
  case readMsix => exact answers_of_effect (fun _ => rfl) (opHostSplitRead_msix hs ho hr)
  case writePoisoned => exact answers_of_effect (fun _ => rfl) ((opHostWrite_registers hs ho hr ha).trans (by simp))
  case writeNarrow => exact answers_of_effect (fun _ => rfl) ((opHostWrite_registers hs ho hr ha).trans (by simp))
  case writeNoPage => exact answers_of_effect (fun _ => rfl) ((opHostWrite_registers hs ho hr ha).trans (by simp [hk]))
  case writeRegister =>
    exact answers_of_effect (fun _ => rfl) ((opHostWrite_registers hs ho hr ha).trans (by simp [Option.isSome_iff_ne_none.mp hk]))
  case splitDirect => exact answers_of_effect (fun _ => rfl) (opHostSplitRead_direct hs ho hr ha hret hp hf)
  case splitLine => exact answers_of_effect (fun _ => rfl) (opHostSplitRead_line hs ho hr ha hret hp hf hz)
  case splitNewLine => exact answers_of_effect (fun _ => rfl) (opHostSplitRead_newLine hs ho hr ha hret hp hf hb hl)
  case splitOfRetry => exact answers_of_effect (fun _ => rfl) (opHostSplitRead_idle (.inr (by rw [hret]; rfl)))
  case retryFilled => exact answers_of_effect (fun _ => rfl) (opHostRetryRead_filled hs hret hx hb)
  case retryUnfilled => exact answers_of_effect (fun _ => rfl) (opHostRetryRead_unfilled hs hret hx hb)
  case retryTakes => exact answers_of_effect (fun _ => rfl) (opHostRetryRead_takes hs hret hx he hy)
  case retryFull => exact answers_of_effect (fun _ => rfl) (opHostRetryRead_full hs hret hx he)
  case retryOther => exact answers_of_effect (fun _ => rfl) (opHostRetryRead_other hret)
  case waitEnds => exact answers_of (fun _ => rfl) (decide_eq_true he) (opRtvWait_ends hx hdue)
  case fetchFilled => exact answers_of (fun _ => rfl) (decide_eq_true he) (opRtvFetch_filled hx hdata)
  case fetchCompletes => exact answers_of (fun _ => rfl) (decide_eq_true he) ((opRtvFetch_fetches hx hdata hf).trans (if_pos hw))
  case fetchFills =>
    exact answers_of (fun _ => rfl) (decide_eq_true he) ((opRtvFetch_fetches hx hdata hf).trans (if_neg (by simp [hw])))
  case holdCaptured =>
    exact answers_of (fun _ => rfl) (decide_eq_true he) ((opRtvHold_ends hx hdue hy).trans (by rw [if_pos hcap]))
  case holdCaptures =>
    exact answers_of (fun _ => rfl) (decide_eq_true he) ((opRtvHold_ends hx hdue hy).trans (by rw [if_neg (by simp [hcap])]))
  case lineDropped => exact prefetchLineDiscard_answers hn (opLineDiscard_drops hl)
  case lineEmpty => exact prefetchLineDiscard_answers hn (opLineDiscard_empty hl)
  case storeBelow => exact outboundAccess_answers (by omega) (opOutbound_below hlt)
  case loadBelow => exact outboundAccess_answers (by omega) (opOutbound_below hlt)
  case storeFaults =>
    exact outboundAccess_answers hhi ((opOutbound_store hi hcode hlo hhi hacc ha hy).trans (if_pos (by simp [hf, hk])))
  case storeGoes =>
    exact outboundAccess_answers hhi ((opOutbound_store hi hcode hlo hhi hacc ha hy).trans
      (if_neg (by obtain hk | hk := hk <;> simp [hk])))
  case loadFaults => exact outboundAccess_answers hhi (opOutbound_loadFails hi hcode hlo hhi hacc ha hf)
  case loadLine => exact outboundAccess_answers hhi (opOutbound_loadLine hi hcode hlo hhi hacc ha hok hp hf hz)
  case loadReads => exact outboundAccess_answers hhi (opOutbound_loadReads hi hcode hlo hhi hacc ha hok hf)
  case ringData => exact answers_of_effect (fun _ => rfl) ((opOutDone_ring ht).trans (if_pos rfl))
  case ringFails => exact answers_of_effect (fun _ => rfl) ((opOutDone_ring ht).trans (if_neg hst))
  case ringTimeout => exact answers_of_effect (fun _ => rfl) (opOutTimeout_ring ht)
  case readAcked => exact answers_of_effect (fun _ => rfl) ((opOutDone_data ht hr hy rfl).trans (if_pos hk))
  case readData => exact answers_of_effect (fun _ => rfl) ((opOutDone_data ht hr hy hz).trans (by simp [hk, h1]))
  case readBlock =>
    exact answers_of_effect (fun _ => rfl) ((opOutDone_data ht hr hy hz).trans (by simp [hk, h2, Nat.not_lt.mpr h1]))
  case readBlocks =>
    exact answers_of_effect (fun _ => rfl) ((opOutDone_data ht hr hy hz).trans
      (by simp [hk, Nat.not_lt.mpr h2, Nat.not_lt.mpr (Nat.le_trans (by decide : 64 ≤ 128) h2)]))
  case readFails => exact answers_of_effect (fun _ => rfl) (opOutDone_fails ht hr hst hy)
  case readTimesOut => exact answers_of_effect (fun _ => rfl) (opOutTimeout_ends ht hr hdue)

end Sys2Proof.Machine
end

section
/-!
PROOF. The queue: every well-formed command has one effect on the device, an ill-formed one stops, and so a queue of
well-formed commands is worked off first in, first out.
-/

namespace Sys2Proof.Machine

/-- Each command has one effect on the device, with which it completes where it is well formed. -/
theorem exec_effectIf (c : Instr) : Laws.Runs.Statement c := by
  cases c <;> exact ⟨_, fun _ => rfl⟩

/-- A queue that starts with commands of known effect is worked off by as many steps (R29). -/
theorem run_queue {f : Instr → Dev → Dev}
    (hf : ∀ (c : Instr) (s : State), c.wf = true → exec c s = .next { s with dev := f c s.dev }) (cs q : List Instr) (d : Dev)
    (hcs : ∀ c ∈ cs, c.wf = true) :
    Sys2Proof.core.run cs.length (⟨d, cs ++ q⟩ : State) = .next (⟨cs.foldl (fun d c => f c d) d, q⟩ : State) := by
  induction cs generalizing d with
  | nil => rfl
  | cons c cs ih =>
    have hstep : Sys2Proof.core.step (⟨d, c :: (cs ++ q)⟩ : State) = .next (⟨f c d, cs ++ q⟩ : State) :=
      hf c ⟨d, cs ++ q⟩ (hcs c List.mem_cons_self)
    have hrest := ih (f c d) (fun x hx => hcs x (List.mem_cons_of_mem c hx))
    simpa only [List.length_cons, Host.Core.run, List.cons_append, hstep, List.foldl_cons] using hrest

/-- Settles O59: the effects are those that each command's law gives, and the queue follows by induction. -/
theorem queueIsWorkedOffInOrder : Obligations.QueueIsWorkedOffInOrder := by
  choose f hf using exec_effectIf
  have hrun : ∀ (c : Instr) (s : State), c.wf = true → exec c s = .next { s with dev := f c s.dev } :=
    fun c s hc => (hf c s).trans (if_pos hc)
  exact ⟨f, hrun, fun c s hc => (hf c s).trans (if_neg (ne_true_of_eq_false hc)), run_queue hrun⟩

end Sys2Proof.Machine
end

section
/-!
PROOF. What shared operations leave alone, as a frame that composes: writes of registers, events, captures and messages;
and with it what a write of the interrupt registers, a refused and an accepted commit and an accepted fence leave.
-/

namespace Sys2Proof.Machine

variable {d e t : Dev}

/-! ### The frame of an update -/

theorem sameBut_refl (d : Dev) (l : List Nat) : d.SameBut d l := ⟨fun _ _ => rfl, fun _ => rfl⟩

theorem Dev.SameBut.trans {l : List Nat} (h : d.SameBut e l) (k : e.SameBut t l) : d.SameBut t l :=
  ⟨fun a ha => (k.1 a ha).trans (h.1 a ha), fun a => (k.2 a).trans (h.2 a)⟩

theorem Dev.SameBut.mono {l m : List Nat} (h : d.SameBut e l) (hl : l ⊆ m) : d.SameBut e m :=
  ⟨fun a ha => h.1 a (fun hm => ha (hl hm)), h.2⟩

/-- Registers and memory that are the same data read alike. -/
theorem sameBut_of_eq {l : List Nat} (hr : e.regs = d.regs) (hm : e.mem = d.mem) : d.SameBut e l :=
  ⟨fun _ _ => rd_of_regs hr, fun _ => by rw [Dev.rdByte, hm, Dev.rdByte]⟩

theorem sameBut_put (d : Dev) (f : FRef) (v : Nat) : d.SameBut (d.put f v) [f.addr] := sameBut_wr d _ _

theorem sameBut_raise (d : Dev) (pg b : Nat) : d.SameBut (d.raise pg b) [PG_IRQ_STAT pg] :=
  ⟨fun _ ha => rd_raise_other d (List.ne_of_not_mem_cons ha), rdByte_raise d pg b⟩

theorem sameBut_setPg (d : Dev) (pg : Nat) (x : PgState) (l : List Nat) : d.SameBut (d.setPg pg x) l :=
  sameBut_of_eq (Dev.setPg_regs ..) (Dev.setPg_mem ..)

theorem sameBut_armIn (d : Dev) (k : Timer) (n : Nat) (l : List Nat) : d.SameBut (d.armIn k n) l :=
  sameBut_of_eq (Dev.armIn_regs ..) (Dev.armIn_mem ..)

/-- The registers that a page's capture writes (R52). -/
def captureRegs (pg : Nat) : List Nat := [PG_IRQ_STAT pg, PG_ERR_CAP0 pg, PG_ERR_CAP1 pg, PG_ERR_CAP2 pg, PG_ERR_CAP3 pg]

theorem sameBut_capture (d : Dev) (pg kind reason : Nat) (i : Initiator) (off detail detail2 : Nat) :
    d.SameBut (d.capture pg kind reason i off detail detail2) (captureRegs pg) := by
  have hwr (s : Dev) {a : Nat} (v : Word) (ha : a ∈ captureRegs pg) : s.SameBut (s.wr a v) (captureRegs pg) :=
    (sameBut_wr s a v).mono (by simpa using ha)
  unfold Dev.capture
  split
  · exact sameBut_refl d _
  · exact (hwr _ _ (by simp [captureRegs])).trans <| (hwr _ _ (by simp [captureRegs])).trans <|
      (hwr _ _ (by simp [captureRegs])).trans <| (hwr _ _ (by simp [captureRegs])).trans <|
      (sameBut_raise ..).mono (by simp [captureRegs])

/-- Updates that each keep a relation to the first device keep it one after another. -/
theorem each_induct {α : Type} {P : Dev → Prop} {f : α → Dev → Dev} (l : List α) (hf : ∀ x ∈ l, ∀ s, P s → P (f x s))
    (h : P d) : P (d.each l f) := by
  induction l generalizing d with
  | nil => exact h
  | cons x l ih =>
    exact ih (fun y hy => hf y (List.mem_cons_of_mem x hy)) (hf x List.mem_cons_self d h)

/-! ### A write of the interrupt registers (R50) -/

/-- The bits of status and enable together that rise with a write of both. -/
def risingBits (old new : Word) : List Nat := (List.range 32).filter (fun i => new.getLsbD i && !old.getLsbD i)

theorem irqWrite_eq (pg : Nat) (stat en : Word) : d.irqWrite pg stat.toNat en.toNat =
    ((d.wr (PG_IRQ_STAT pg) stat).wr (PG_IRQ_EN pg) en).each
      (risingBits (d.rd (PG_IRQ_STAT pg) &&& d.rd (PG_IRQ_EN pg)) (stat &&& en)) (fun _ s => s.sendMsg pg) := by
  unfold Dev.irqWrite
  rw [BitVec.ofNat_toNat, BitVec.ofNat_toNat, BitVec.setWidth_eq, BitVec.setWidth_eq]
  rfl

theorem sameBut_sendMsg (d : Dev) (pg : Nat) (l : List Nat) : d.SameBut (d.sendMsg pg) l :=
  sameBut_of_eq (sendMsg_regs d pg) (sendMsg_mem d pg)

theorem sameBut_sendMsgs (d : Dev) (pg : Nat) (bits l : List Nat) : d.SameBut (d.each bits (fun _ s => s.sendMsg pg)) l :=
  each_induct (P := fun s => d.SameBut s l) bits (fun _ _ s hs => hs.trans (sameBut_sendMsg s pg l)) (sameBut_refl d l)

theorem risingBits_eq_nil {old new : Word} (h : new &&& ~~~old = 0) : risingBits old new = [] := by
  refine List.filter_eq_nil_iff.mpr (fun i hi => ?_)
  have hbit := congrArg (fun w : Word => w.getLsbD i) h
  have hlt := List.mem_range.mp hi
  simpa [hlt] using hbit

theorem irqStat_ne_irqEn (pg : Nat) : PG_IRQ_STAT pg ≠ PG_IRQ_EN pg := by unfold PG_IRQ_STAT PG_IRQ_EN; omega

/-- Settles O20: the two registers are stored, and the messages write no register; with no rising bit there is none. -/
theorem interruptStatusWritten : Obligations.InterruptStatusWritten := by
  intro d pg stat en
  rw [irqWrite_eq]
  have hmsgs := sameBut_sendMsgs ((d.wr (PG_IRQ_STAT pg) stat).wr (PG_IRQ_EN pg) en) pg
    (risingBits (d.rd (PG_IRQ_STAT pg) &&& d.rd (PG_IRQ_EN pg)) (stat &&& en))
  have hstored : d.SameBut ((d.wr (PG_IRQ_STAT pg) stat).wr (PG_IRQ_EN pg) en) [PG_IRQ_STAT pg, PG_IRQ_EN pg] :=
    ((sameBut_wr ..).mono (by simp)).trans ((sameBut_wr ..).mono (by simp))
  refine ⟨?status, ?enable, hstored.trans (hmsgs _), fun hrise => ?silent⟩
  case status =>
    exact ((hmsgs []).1 _ List.not_mem_nil).trans ((rd_wr_other _ _ (irqStat_ne_irqEn pg)).trans (rd_wr_same ..))
  case enable => exact ((hmsgs []).1 _ List.not_mem_nil).trans (rd_wr_same ..)
  case silent =>
    rw [risingBits_eq_nil hrise]
    exact ⟨rfl, rfl⟩

/-! ### The check of a commit and its refusal (R41) -/

theorem commitFields_ok (pg : Nat) : (PG_COMMIT_status pg).ok ∧ (PG_COMMIT_reason pg).ok :=
  ⟨⟨(by decide : 8 ≤ 11), (by decide : 11 < 32)⟩, ⟨(by decide : 16 ≤ 23), (by decide : 23 < 32)⟩⟩

section Refuse
variable (pg r : Nat) (i : Initiator) (off v : Nat)

/-- The commit register as a refusal writes it: BUSY leaves the status. -/
def Dev.refused (d : Dev) (pg r : Nat) : Dev :=
  if r = rsBusy then d.put (PG_COMMIT_reason pg) r
  else (d.put (PG_COMMIT_reason pg) r).put (PG_COMMIT_status pg) csRefused

theorem refuse_eq : d.refuse pg r i off v = ((d.refused pg r).raise pg irqCommitFail).capture pg 0x01 r i off v 0 := by
  unfold Dev.refuse Dev.refused
  dsimp only

theorem sameBut_refused (d : Dev) : d.SameBut (d.refused pg r) [PG_COMMIT pg] := by
  unfold Dev.refused
  split
  · exact sameBut_put d (PG_COMMIT_reason pg) r
  · exact (sameBut_put d (PG_COMMIT_reason pg) r).trans (sameBut_put _ (PG_COMMIT_status pg) csRefused)

theorem commit_not_mem_capture : PG_COMMIT pg ∉ captureRegs pg := by
  simp [captureRegs, PG_COMMIT, PG_IRQ_STAT, PG_ERR_CAP0, PG_ERR_CAP1, PG_ERR_CAP2, PG_ERR_CAP3]

theorem sameBut_refuse_refused : (d.refused pg r).SameBut (d.refuse pg r i off v) (captureRegs pg) :=
  ((sameBut_raise ..).mono (by simp [captureRegs])).trans (sameBut_capture ..)

theorem sameBut_refuse : d.SameBut (d.refuse pg r i off v) (PG_COMMIT pg :: captureRegs pg) :=
  ((sameBut_refused pg r d).mono (by simp)).trans ((sameBut_refuse_refused pg r i off v).mono (List.subset_cons_self _ _))

theorem get_refuse {f : FRef} (hf : f.addr = PG_COMMIT pg) : (d.refuse pg r i off v).get f = (d.refused pg r).get f :=
  get_of_rd ((sameBut_refuse_refused pg r i off v).1 _ (hf ▸ commit_not_mem_capture pg))

theorem get_refused_reason (hr : r < 32) : (d.refused pg r).get (PG_COMMIT_reason pg) = r := by
  obtain ⟨hstatus, hreason⟩ := commitFields_ok pg
  have hmod : r % 2 ^ (23 - 16 + 1) = r := Nat.mod_eq_of_lt (by omega)
  unfold Dev.refused
  split
  · exact (get_put_same d _ _ hreason).trans hmod
  · exact (get_put_same_beside hreason hstatus (.inr (by decide : 11 < 16))).trans hmod

theorem get_refused_status :
    (r ≠ rsBusy → (d.refused pg r).get (PG_COMMIT_status pg) = csRefused) ∧
    (r = rsBusy → (d.refused pg r).get (PG_COMMIT_status pg) = d.get (PG_COMMIT_status pg)) := by
  obtain ⟨hstatus, hreason⟩ := commitFields_ok pg
  unfold Dev.refused
  refine ⟨fun hr => ?_, fun hr => ?_⟩
  · rw [if_neg hr]
    exact get_put_same _ _ _ hstatus
  · rw [if_pos hr]
    exact get_put_beside d _ hreason hstatus.1 (.inl (by decide : 11 < 16))

theorem bit_eq_get (a b : Nat) : d.bit a b = (d.get ⟨a, b, b⟩ == 1) := by
  simp [Dev.bit, bitAt, Dev.get, bitsOf]

/-- Setting one bit of a register clears no other. -/
theorem bit_setBit_of_bit {a b n : Nat} (hb : b < 32) (hn : n < 32) (h : d.bit a b = true) :
    (d.setBit a n true).bit a b = true := by
  by_cases hbn : b = n
  · subst hbn
    have hsame := get_put_same d ⟨a, b, b⟩ 1 ⟨Nat.le_refl b, hb⟩
    simp only [Nat.sub_self, Nat.zero_add, Nat.pow_one] at hsame
    rw [bit_eq_get]
    exact beq_iff_eq.mpr hsame
  · rw [bit_eq_get] at h ⊢
    have hbeside := get_put_beside d (f := ⟨a, n, n⟩) (g := ⟨a, b, b⟩) 1 ⟨Nat.le_refl n, hn⟩ (Nat.le_refl b)
      (Nat.lt_or_gt_of_ne hbn)
    exact hbeside.symm ▸ h

/-- An event that is recorded stays so while others of its page are raised. -/
theorem bit_raise_of_bit {b n : Nat} (hb : b < 32) (hn : n < 32) (h : d.bit (PG_IRQ_STAT pg) b = true) :
    (d.raise pg n).bit (PG_IRQ_STAT pg) b = true := by
  have hset := bit_setBit_of_bit hb hn h
  unfold Dev.raise
  split
  · exact h
  · dsimp only
    split
    · rwa [Dev.bit, rd_of_regs (sendMsg_regs _ _)]
    · exact hset

theorem bit_capture {kind reason : Nat} {detail2 b : Nat} (hb : b < 32) (h : d.bit (PG_IRQ_STAT pg) b = true) :
    (d.capture pg kind reason i off v detail2).bit (PG_IRQ_STAT pg) b = true := by
  have hcaps (x : Nat) (hx : x ∈ [PG_ERR_CAP0 pg, PG_ERR_CAP1 pg, PG_ERR_CAP2 pg, PG_ERR_CAP3 pg]) : PG_IRQ_STAT pg ≠ x := by
    rintro rfl
    simp [PG_IRQ_STAT, PG_ERR_CAP0, PG_ERR_CAP1, PG_ERR_CAP2, PG_ERR_CAP3] at hx
  unfold Dev.capture
  split
  · exact h
  · refine bit_raise_of_bit pg hb (by decide) ?_
    unfold Dev.bit
    rw [rd_wr_other _ _ (hcaps _ (by simp)), rd_wr_other _ _ (hcaps _ (by simp)), rd_wr_other _ _ (hcaps _ (by simp)),
      rd_wr_other _ _ (hcaps _ (by simp))]
    exact h

end Refuse

section Check
variable (i : Initiator) (pg cmd group t : Nat)

/-- What a page holds of a commit while its check runs. -/
def PgState.checking (s : PgState) (i : Initiator) (cmd group t : Nat) : PgState :=
  { s with phase := .checking, cmd := cmd, group := group, by_ := i, launch := t, decided := false }

theorem startCheck_eq : d.startCheck i pg cmd group t =
    ((d.setPg pg ((d.pg pg).checking i cmd group t)).put (PG_COMMIT_status pg) csChecking).armIn ⟨.commitCheck, pg, 0⟩
      (perT 256) := rfl

theorem pg_startCheck (q : Nat) :
    (d.startCheck i pg cmd group t).pg q = (d.setPg pg ((d.pg pg).checking i cmd group t)).pg q := by
  simp only [startCheck_eq, Dev.pg, Dev.armIn_pgs, Dev.put_pgs]

theorem get_startCheck_status : (d.startCheck i pg cmd group t).get (PG_COMMIT_status pg) = csChecking := by
  rw [startCheck_eq, get_armIn, get_put_same _ _ _ (commitFields_ok pg).1]
  rfl

theorem sameBut_startCheck : d.SameBut (d.startCheck i pg cmd group t) [PG_COMMIT pg] := by
  rw [startCheck_eq]
  exact (sameBut_setPg ..).trans ((sameBut_put _ (PG_COMMIT_status pg) csChecking).trans (sameBut_armIn ..))

theorem due_startCheck : (d.startCheck i pg cmd group t).due ⟨.commitCheck, pg, 0⟩ = some (d.now + perT 256) := by
  rw [startCheck_eq, due_armIn_same, Dev.put_now, Dev.setPg_now]

end Check

/-- Settles O15: the check writes the commit register and the page's data; a refusal writes the commit register, then
raises its event and is captured. -/
theorem commitCheckAndRefusalLeave : Obligations.CommitCheckAndRefusalLeave := by
  intro d i pg cmd group t r off v
  have hsame : (d.startCheck i pg cmd group t).pg pg = (d.pg pg).checking i cmd group t :=
    (pg_startCheck ..).trans (pg_setPg_same ..)
  refine ⟨get_startCheck_status .., due_startCheck .., hsame ▸ rfl, hsame ▸ rfl, hsame ▸ rfl, hsame ▸ rfl,
    fun q hq => (pg_startCheck ..).trans (pg_setPg_other _ _ hq), sameBut_startCheck .., fun hr =>
    ⟨?reason, fun hbusy => ?status, fun hbusy => ?keeps, ?raised, sameBut_refuse ..⟩⟩
  case reason => exact (get_refuse pg r i off v rfl).trans (get_refused_reason pg r hr)
  case status => exact (get_refuse pg r i off v rfl).trans ((get_refused_status pg r).1 hbusy)
  case keeps => exact (get_refuse pg r i off v rfl).trans ((get_refused_status pg r).2 hbusy)
  case raised =>
    rw [refuse_eq]
    exact bit_capture pg i off v (by decide) (bit_raise _ pg irqCommitFail (by decide))

/-! ### A fence that is taken (R46) -/

section Fence
variable (i : Initiator) (pg kind q : Nat)

/-- What the page holds after it took a fence: the fence behind the earlier ones, and the next token. -/
def PgState.fenced (s : PgState) (f : Fence) : PgState :=
  { s with fences := s.fences ++ [f], nextToken := (s.nextToken + 1) % 65536 }

theorem fence_taken (h : d.fenceTaken pg kind q = true) (hk : kind ≠ 3) (hh : d.pw.halted = false) :
    d.fence i pg kind q = ((d.setPg pg ((d.pg pg).fenced (d.newFence i pg kind q))).setLast pg i
      (q, kind, (d.newFence i pg kind q).token)).armIn ⟨.fence, pg, (d.newFence i pg kind q).token⟩
        (msT (d.get SYS_FENCE_TMO_ms)) := by
  unfold Dev.fence
  simp only [h, Bool.not_true, Bool.false_eq_true, ↓reduceIte, hk, Dev.armIn_pw, Dev.setLast, Dev.modPg_pw, hh]
  rfl

theorem newFence_token : (d.newFence i pg kind q).token = (d.pg pg).nextToken := by
  unfold Dev.newFence
  split <;> rfl

theorem pg_setLast_same (v : Nat × Nat × Nat) : (d.setLast pg i v).pg pg =
    { d.pg pg with last := (i, v) :: (d.pg pg).last.filter (fun e => decide (e.1 ≠ i)) } := pg_setPg_same ..

/-- The initiator's last fence is the one just recorded. -/
theorem lastFence_setLast (v : Nat × Nat × Nat) : (d.setLast pg i v).lastFence pg i = v := by
  simp [Dev.lastFence, pg_setLast_same]

end Fence

/-- Settles O18: the fence goes into the page's data, and the rest of the issue is the record of it and its timer. -/
theorem fenceIssueQueuesToken : Obligations.FenceIssueQueuesToken := by
  intro d i pg kind q htaken hk hh
  have htok := newFence_token (d := d) i pg kind q
  rw [fence_taken i pg kind q htaken hk hh]
  have hpg : ((d.setPg pg ((d.pg pg).fenced (d.newFence i pg kind q))).setLast pg i
      (q, kind, (d.newFence i pg kind q).token)).pg pg = _ := pg_setLast_same ..
  rw [pg_setPg_same] at hpg
  refine ⟨?queued, htok, ?next, ?last, ?due, sameBut_of_eq (Dev.armIn_regs ..) (Dev.armIn_mem ..)⟩
  case queued => exact (congrArg PgState.fences hpg).trans rfl
  case next => exact (congrArg PgState.nextToken hpg).trans rfl
  case last => exact (lastFence_setLast ..).trans (by rw [htok])
  case due => exact htok ▸ due_armIn_same ..

end Sys2Proof.Machine
end

section
/-!
PROOF. The supply events of chapter 19: what each does in the cases that its statement separates.
-/

namespace Sys2Proof.Machine

variable {d y z : Dev} {e mv10 : Nat}

/-- A supply falls while its device still runs (R387): the SUPEN outputs go first, then MAIN or the state that has none. -/
theorem opBrownOut_falls {cause : BrownOutCause} {vmin : Nat} (hb : d.pw.base ≠ .off) (hl : d.pw.losing = false)
    (hz : z = d.each (List.range 8) (fun n t => t.setSupen n false))
    (hy : y = (if z.pw.main = true then z.mainCleared else { z with pw := { z.pw with base := .dormant } }).each
      [.railsValid, .classDEnd, .dieTemp, .refCheck, .mainDark, .listen] (fun k t => t.cancel ⟨k, 0, 0⟩)) :
    opBrownOut cause vmin d =
      (({ y with pw := { y.pw with brown := true, losing := true, asserted := true, thermal := false,
                                   journal := some (brownCode cause, z.mode, z.ns, vmin) } } : Dev).armIn
        ⟨.journal, 0, 0⟩ (usT 200)).armIn ⟨.mainOff, 0, 0⟩ (msT 2) := by
  subst hy hz
  exact if_neg (by simp [hb, hl])

theorem opSupplyOff_due (h : d.due ⟨.mainOff, 0, 0⟩ = some e)
    (hz : z = ((d.cancel ⟨.mainOff, 0, 0⟩).writeJournal.cancel ⟨.journal, 0, 0⟩).mainOff .off) :
    opSupplyOff d = { z with pw := { z.pw with losing := false } } := by
  subst hz
  exact endTimer_due d _ h

theorem opCrank_counts (hb : d.pw.base ≠ .off) (hv : mv10 < 800) (hz : z = (d.seeVsup mv10).count PWR_CRANK_CNT) :
    opCrank mv10 d = if z.up then z.raise pgPWR 9 else z := by
  subst hz
  exact if_neg (by simp [hb, hv])

theorem opOvervoltage_counts (hb : d.pw.base ≠ .off) (hv : 4000 < mv10) (hz : z = (d.seeVsup mv10).count PWR_OV_CNT) :
    opOvervoltage mv10 d = if z.up then z.raise pgPWR 10 else z := by
  subst hz
  exact if_neg (by simp [hb, hv])

theorem opUvWarn_raises (hu : d.up = true) (ho : d.pw.optionsLoaded = true) (hv : mv10 < 25 * d.opt 10) :
    opUvWarn mv10 d = (d.seeVsup mv10).raise pgPWR 8 := if_neg (by simp [hu, ho, hv])

/-- Settles O1: each supply event in the case that its clause chooses. -/
theorem supplyEventsAct : Obligations.SupplyEventsAct := by
  intro d y z cause vmin mv10 e
  refine ⟨fun hoff => ?powerOn, fun hb hu => ?rejected, fun hv hb hl hz hy => ?brownOut, fun hdue => ?journal,
    fun hdue hz => ?mainOff, fun hb hv hz => ⟨fun hu => ?crank, fun hu => ?crankDark⟩,
    fun hb hv hz => ⟨fun hu => ?overvolt, fun hu => ?overDark⟩, fun hu ho hv => ?under⟩
  case powerOn => exact answers_of_effect (fun _ => rfl) (if_pos hoff)
  case rejected => exact answers_of_effect (fun _ => rfl) ((if_neg hb).trans (if_pos hu))
  case brownOut => exact answers_of (fun _ => rfl) (decide_eq_true hv) (opBrownOut_falls hb hl hz hy)
  case journal => exact answers_of_effect (fun _ => rfl) (endTimer_due d _ hdue)
  case mainOff => exact answers_of_effect (fun _ => rfl) (opSupplyOff_due hdue hz)
  case crank => exact answers_of_effect (fun _ => rfl) ((opCrank_counts hb hv hz).trans (if_pos hu))
  case crankDark =>
    exact answers_of_effect (fun _ => rfl) ((opCrank_counts hb hv hz).trans (if_neg (ne_true_of_eq_false hu)))
  case overvolt => exact answers_of_effect (fun _ => rfl) ((opOvervoltage_counts hb hv hz).trans (if_pos hu))
  case overDark =>
    exact answers_of_effect (fun _ => rfl) ((opOvervoltage_counts hb hv hz).trans (if_neg (ne_true_of_eq_false hu)))
  case under => exact answers_of_effect (fun _ => rfl) (opUvWarn_raises hu ho hv)

end Sys2Proof.Machine
end

section
/-!
PROOF. The reset sources and the clock events of chapter 17: what each does in the cases that its statement separates.
-/

namespace Sys2Proof.Machine

variable {d x y z : Dev} {i : Initiator} {v : Word} {e t : Nat}

/-! ### RESETN (R349) -/

section Resetn
variable (hlow : d.pw.resetnLow = false)
  (hx : x = ({ d with pw := { d.pw with resetnLow := true } } : Dev))
include hlow hx

theorem opResetnLow_resets (hdor : d.pw.base ≠ .dormant) (hlis : d.pw.base ≠ .listen) : opResetnLow d = x.classD 3 := by
  subst hx
  exact (if_neg (by simp [hlow])).trans (if_neg (by simp [hdor, hlis]))

theorem opResetnLow_seen (hdark : d.pw.base = .dormant ∨ d.pw.base = .listen) :
    opResetnLow d = x.put WAK_WSR_SEEN_src (setBitTo (d.get WAK_WSR_SEEN_src) 11 true) := by
  subst hx
  exact (if_neg (by simp [hlow])).trans (if_pos hdark)

end Resetn

/-! ### Commands and temperature (R55, R347, R350) -/

theorem opDevReset_accepts (h : d.accepts i = true) :
    opDevReset i v d = if v = 0x5A5A0960 then d.classD 4 else d.badAccess i true 0x12C := access_accepts _ h

/-- A temperature within the range clears the warning and the time above the limit. -/
theorem opDieTemp_normal {celsius : Int} (h : d.due ⟨.dieTemp, 0, 0⟩ = some e) (ha : d.pw.asserted = false)
    (hc : celsius ≤ 125) :
    opDieTemp celsius d =
      { ((((d.at_ e).cancel ⟨.dieTemp, 0, 0⟩).armIn ⟨.dieTemp, 0, 0⟩ (usT 100)).put RST_THERM_temp
          (min 255 (celsius + 64).toNat)).put RST_THERM_warn 0 with pw := { d.pw with hotSince := none } } := by
  have hle : celsius ≤ 140 := by omega
  unfold opDieTemp
  rw [onTimer_due d _ h]
  simp only [Dev.put_pw, Dev.armIn_pw, Dev.cancel_pw, Dev.at__pw, ha, Int.not_lt.mpr hc, hle, ↓reduceIte, Bool.false_eq_true]

/-- Settles O5: each source of a reset in the case that its clause chooses. -/
theorem resetSourcesAct : Obligations.ResetSourcesAct := by
  intro d i v celsius e
  refine ⟨fun hlow hdor hlis => ?assert, fun hlow hdark => ?seen, fun hlow => ?release,
    fun hacc => ⟨?key, fun hv => ?noKey⟩, ?region, ?watchdogs, fun hst => ?start, fun hm hr hl => ?thermal,
    fun hdue => ?ends, fun hdue ha hc => ?temp⟩
  case assert => exact answers_of_effect (fun _ => rfl) (opResetnLow_resets hlow rfl hdor hlis)
  case seen => exact answers_of_effect (fun _ => rfl) (opResetnLow_seen hlow rfl hdark)
  case release => exact answers_of_effect (fun _ => rfl) (if_neg (by simp [hlow]))
  case key => exact answers_of_effect (fun _ => rfl) ((opDevReset_accepts hacc).trans (if_pos rfl))
  case noKey => exact answers_of_effect (fun _ => rfl) ((opDevReset_accepts hacc).trans (if_neg hv))
  case region => exact answers_of_effect (fun _ => rfl) rfl
  case watchdogs => exact answers_of_effect (fun _ => rfl) rfl
  case start => exact answers_of_effect (fun _ => rfl) (if_pos hst)
  case thermal => exact answers_of_effect (fun _ => rfl) (if_neg (by simp [hm, hr, hl]))
  case ends => exact answers_of_effect (fun _ => rfl) (onTimer_due d _ hdue)
  case temp => exact answers_of_effect (fun _ => rfl) (opDieTemp_normal hdue ha hc)

/-! ### The reference and the root PLL (R15, R16) -/

/-- A deviation within the limit is shown as it is. -/
theorem opReference_ok {ppm : Int} (h : d.due ⟨.refCheck, 0, 0⟩ = some e) (ha : d.pw.asserted = false)
    (hlo : -2000 ≤ ppm) (hhi : ppm ≤ 2000) :
    opReference ppm d = ((((d.at_ e).cancel ⟨.refCheck, 0, 0⟩).armIn ⟨.refCheck, 0, 0⟩ (msT 1)).put CLK_REF_DEV_ppm
      (unsigned 16 ppm)).put CLK_STAT_ref_ok 1 := by
  have hclamp : max (-32768) (min 32767 ppm) = ppm := by omega
  unfold opReference
  rw [onTimer_due d _ h]
  simp only [Dev.armIn_pw, Dev.cancel_pw, Dev.at__pw, ha, hlo, hhi, hclamp, and_self, decide_true, Bool.true_or, ↓reduceIte,
    Bool.false_eq_true]

theorem opRelock_returns {ns : Nat} (hl : d.pw.lockLost = some t) (hdue : d.due ⟨.pllLoss, 0, 0⟩ = some e) (hns : ns ≤ 10000)
    (hy : y = (d.at_ (t + nsT ns)).cancel ⟨.pllLoss, 0, 0⟩)
    (hz : z = ({ y with pw := { y.pw with lockLost := none, lockAt := y.now } } : Dev)) :
    opRelock ns d = (((z.put CLK_STAT_root_lock 1).count CLK_LOL_CNT).put CLK_LOL_MAX_ns
      (max ns (d.get CLK_LOL_MAX_ns))).raise pgCLK 8 := by
  have hrun : d.running ⟨.pllLoss, 0, 0⟩ = true := by rw [Dev.running, hdue]; rfl
  have hmax : ((z.put CLK_STAT_root_lock 1).count CLK_LOL_CNT).get CLK_LOL_MAX_ns = d.get CLK_LOL_MAX_ns := by
    rw [Dev.count, Dev.add, get_put_reg _ _ (by decide), get_put_reg _ _ (by decide)]
    subst hz hy
    rfl
  unfold opRelock
  simp only [hl, hrun, Nat.not_lt.mpr hns, Bool.not_true, decide_false, Bool.or_self, Bool.false_eq_true, ↓reduceIte]
  rw [← hmax, hz, hy]

theorem opLockLossEnd_due (h : d.due ⟨.pllLoss, 0, 0⟩ = some e) (hh : d.pw.halted = false) :
    opLockLossEnd d = ((d.at_ e).cancel ⟨.pllLoss, 0, 0⟩).haltEntry 2 := by
  unfold opLockLossEnd
  rw [onTimer_due d _ h]
  exact if_neg (by simp [hh])

/-! ### Stable indicators and their wait (R15, R359) -/

theorem opClockStable_rises {c : Clock} (hu : d.up = true) (hs : d.stable c = false) (hl : d.pw.lockLost = none)
    (hy : y = ((d.locked1 c).at_ ((d.locked1 c).pw.lockAt + stableAfter c)).put CLK_STAT_stable
      (setBitTo ((d.locked1 c).get CLK_STAT_stable) (clockIx c) true)) :
    opClockStable c d =
      (y.each (allPages.filter (fun pg => (y.pg pg).clockWait && y.clockOk pg)) Dev.freeUnit).refresh := by
  subst hy
  exact if_neg (by simp [hu, hs, hl])

/-- The clocks that a unit waits for in vain: CK_VLT's wait may be for the clocks it is made from. -/
def Dev.failing (d : Dev) (c : Clock) : List Clock :=
  if c = .vlt then [Clock.vlt, Clock.fab, Clock.dram].filter (fun k => !d.stable k) else [c]

theorem opClockWait_ends {pg : Nat} {c : Clock} (h : d.due ⟨.clockWait, pg, 0⟩ = some e) (hc : clockOf pg = some c)
    (hy : y = ((d.at_ e).cancel ⟨.clockWait, pg, 0⟩).modPg pg (fun s => { s with clockWait := false, clockFail := true }))
    (hz : z = ((y.each (y.failing c) (fun k t => t.put CLK_FAIL_clocks (setBitTo (t.get CLK_FAIL_clocks) (clockIx k) true))).raise
      pgCLK 9).refreshFrom pg) :
    opClockWait pg d = if c = .brc ∧ z.pw.base = .start ∧ z.pw.halted = false then z.haltEntry 2 else z := by
  subst hz
  unfold opClockWait
  rw [onTimer_due d _ h]
  simp only [hc, ← hy]
  cases c <;> exact if_congr (by simp [and_assoc, Dev.failing]) rfl rfl

/-- Settles O6: each clock event in the case that its clause chooses. -/
theorem clockEventsAct : Obligations.ClockEventsAct := by
  intro d y z ppm ns e t pg c l
  refine ⟨fun hdue ha hlo hhi => ?reference, fun hu hl => ?loss, fun hl hdue hns hy hz => ?relock,
    fun hdue hh => ?timeout, fun hu hs hl hy => ?stable, fun hpg hdue hc hy hl hz => ⟨fun hbrc => ?brace, fun hno => ?other⟩⟩
  case reference => exact answers_of_effect (fun _ => rfl) (opReference_ok hdue ha hlo hhi)
  case loss => exact answers_of_effect (fun _ => rfl) (if_neg (by simp [hu, hl]))
  case relock => exact answers_of_effect (fun _ => rfl) (opRelock_returns hl hdue hns hy hz)
  case timeout => exact answers_of_effect (fun _ => rfl) (opLockLossEnd_due hdue hh)
  case stable => exact answers_of_effect (fun _ => rfl) (opClockStable_rises hu hs hl hy)
  case brace =>
    subst hl
    exact answers_of (fun _ => rfl) hpg ((opClockWait_ends hdue hc hy hz).trans (if_pos hbrc))
  case other =>
    subst hl
    exact answers_of (fun _ => rfl) hpg ((opClockWait_ends hdue hc hy hz).trans
      (if_neg (fun ⟨hbrc, hst, hh⟩ => hno.elim (· hbrc) (·.elim (· hst) (by simp [hh])))))

end Sys2Proof.Machine
end

section
/-!
PROOF. The output control, the writing of the options and the unrecoverable faults; and the controls of a page: unit reset,
enable, isolation and return.
-/

namespace Sys2Proof.Machine

variable {d y z : Dev} {i : Initiator} {v : Word} {e : Nat}

/-! ### Outputs and options (R29, R355, R357) -/

theorem opOutCtl_open (h : d.accepts i = true) (hl : d.locked pgRST = false)
    (hz : z = (d.put RST_OUT_CTL_ready_hold (bitsOf v 1 1)).put RST_OUT_CTL_fault (bitsOf v 0 0)) :
    opOutCtl i v d = { z with pw := { z.pw with
      faultn := (bitsOf v 0 0 == 0) && z.pw.goodSeen && !z.pw.halted && decide (z.pw.base ≠ .kennel) } } := by
  subst hz
  exact write_accepts _ _ _ h hl

theorem opOptionWrite_keyless (h : d.accepts i = true) (hv : v ≠ 0x0B7E0960) : opOptionWrite i v d = d :=
  (access_accepts _ h).trans (if_pos hv)

theorem opOptionWrite_key (h : d.accepts i = true) : opOptionWrite i 0x0B7E0960 d =
    match d.optRefusal d.stagedImage with
    | some st => d.put OPT_STAT_status st
    | none => d.writeOptions 3 d.stagedImage := (access_accepts _ h).trans (if_neg (not_not_intro rfl))

theorem opOptionWrite_refused {st : Nat} (h : d.accepts i = true) (hr : d.optRefusal d.stagedImage = some st) :
    opOptionWrite i 0x0B7E0960 d = d.put OPT_STAT_status st := by rw [opOptionWrite_key h, hr]

theorem opOptionWrite_taken (h : d.accepts i = true) (hr : d.optRefusal d.stagedImage = none) :
    opOptionWrite i 0x0B7E0960 d = d.writeOptions 3 d.stagedImage := by rw [opOptionWrite_key h, hr]

/-- A write that software asked for ends without a further step (R357). -/
theorem opOptionDone_software (h : d.due ⟨.optionWrite, 0, 0⟩ = some e) (hw : d.upd.optWrite = 3)
    (hz : z = ({ d.cancel ⟨.optionWrite, 0, 0⟩ with
      mram := { d.mram with options := writeCopies d.upd.optImage 24 d.mram.options },
      upd := { d.upd with optWrite := 0, optImage := [] } } : Dev)) :
    opOptionDone true d = ((z.put OPT_STAT_busy 0).put OPT_STAT_status 0).raise pgOPT 8 := by
  subst hz
  unfold opOptionDone
  rw [endTimer_due d _ h]
  simp only [Dev.cancel_upd, hw, ↓reduceIte, Dev.cancel_mram]

/-- Settles O9: each command in the case that its clause chooses. -/
theorem optionsAndHaltAct : Obligations.OptionsAndHaltAct := by
  intro d z i v e st why
  refine ⟨fun hacc hl hz => ?outputs, fun hacc hr => ?taken, fun hacc hr => ?refused, fun hacc hv => ?keyless,
    fun hdue hw hz => ?done, fun hdue => ?repair, ?fault⟩
  case outputs => exact answers_of_effect (fun _ => rfl) (opOutCtl_open hacc hl hz)
  case taken => exact answers_of_effect (fun _ => rfl) (opOptionWrite_taken hacc hr)
  case refused => exact answers_of_effect (fun _ => rfl) (opOptionWrite_refused hacc hr)
  case keyless => exact answers_of_effect (fun _ => rfl) (opOptionWrite_keyless hacc hv)
  case done => exact answers_of_effect (fun _ => rfl) (opOptionDone_software hdue hw hz)
  case repair => exact answers_of_effect (fun _ => rfl) (endTimer_due d _ hdue)
  case fault => exact answers_of_effect (fun _ => rfl) rfl

/-! ### The controls of a page (R36 to R38) -/

section Page
variable {pg n : Nat} {k : PgKind} (hk : pageKind pg = some (k, n))
include hk

theorem pageKind_known : ¬ (pageKind pg).isNone = true := by simp [hk]

section Access
variable (hacc : d.accepts i = true) (hl : d.locked pg = false)
include hacc hl

theorem opUnitReset_resets (hf : k.fixed = false) (hb : k ≠ .brc) (hu : k ≠ .upd)
    (hr : d.flag (PG_STATE_in_reset pg) = false) : opUnitReset i pg d = d.unitReset pg := by
  rw [opUnitReset, if_neg (pageKind_known hk), write_accepts _ _ _ hacc hl]
  simp only [Dev.resetAsked, hk, hf, hb, hu, hr, Bool.false_eq_true, ↓reduceIte]

theorem opUnitReset_fixed (hf : k.fixed = true) : opUnitReset i pg d = d.ignoredErr pg i 0x10 2 := by
  rw [opUnitReset, if_neg (pageKind_known hk), write_accepts _ _ _ hacc hl]
  simp only [Dev.resetAsked, hk, hf, ↓reduceIte]

theorem opPgEnable_open (en : Bool) :
    opPgEnable i pg en d = (d.put (PG_CTRL_enable pg) (if en then 1 else 0)).refreshFrom pg := by
  rw [opPgEnable, if_neg (pageKind_known hk), write_accepts _ _ _ hacc hl, Dev.setEnable]

theorem opReturn_open : opReturn i pg d = d.returnAsked pg := by
  rw [opReturn, if_neg (pageKind_known hk), write_accepts _ _ _ hacc hl]

end Access

/-- A page with the isolate capability that is not isolated starts its isolation (R38). -/
theorem isolateAsked_starts (hc : d.flag (PG_CAP_isolate pg) = true) (hi : d.get (PG_STATE_iso pg) = 0)
    (hh : d.pw.halted = false) (ho : d.handedOver pg = false) : d.isolateAsked i pg = Dev.isolate k pg n d := by
  simp [Dev.isolateAsked, hk, hc, hi, hh, ho]

end Page

theorem returnAsked_isolated {pg : Nat} (h : d.get (PG_STATE_iso pg) = 2) : d.returnAsked pg = d.returning pg := by
  simp only [Dev.returnAsked, h]

theorem returnAsked_isolating {pg : Nat} (h : d.get (PG_STATE_iso pg) = 1) :
    d.returnAsked pg = (d.put (PG_CTRL_isolate pg) 0).modPg pg (fun s => { s with returnAsked := true }) := by
  simp only [Dev.returnAsked, h]

theorem opIsolationDone_stays {pg : Nat} (hi : d.get (PG_STATE_iso pg) = 1) (hd : d.unitDone pg = true)
    (hr : ((d.setIso pg 2).pg pg).returnAsked = false) : opIsolationDone pg d = d.setIso pg 2 :=
  (if_neg (by simp [hi, hd])).trans (if_neg (by simp [hr]))

/-- Settles O11: each control of a page in the case that its clause chooses. -/
theorem pageControlsAct : Obligations.PageControlsAct := by
  intro d i pg e n k en hpg hk
  refine ⟨fun hacc hl => ⟨fun hf hb hu hr => ?reset, fun hf => ?fixed, ?enable, fun hc hi hh ho => ?isolate,
    fun hi => ?return_, fun hi => ?noted⟩, fun hu hc hi hh ho => ?isolateSelf, fun hdue => ?resetEnds,
    fun hi hd hr => ?isolated, fun hi hr => ?returned⟩
  case reset => exact answers_of (fun _ => rfl) hpg (opUnitReset_resets hk hacc hl hf hb hu hr)
  case fixed => exact answers_of (fun _ => rfl) hpg (opUnitReset_fixed hk hacc hl hf)
  case enable => exact answers_of (fun _ => rfl) hpg (opPgEnable_open hk hacc hl en)
  case isolate =>
    exact answers_of (fun _ => rfl) hpg ((write_accepts _ _ _ hacc hl).trans (isolateAsked_starts hk hc hi hh ho))
  case return_ => exact answers_of (fun _ => rfl) hpg ((opReturn_open hk hacc hl).trans (returnAsked_isolated hi))
  case noted => exact answers_of (fun _ => rfl) hpg ((opReturn_open hk hacc hl).trans (returnAsked_isolating hi))
  case isolateSelf => exact answers_of (fun _ => rfl) hpg ((if_pos hu).trans (isolateAsked_starts hk hc hi hh ho))
  case resetEnds => exact answers_of (fun _ => rfl) hpg (onTimer_due d _ hdue)
  case isolated => exact answers_of (fun _ => rfl) hpg (opIsolationDone_stays hi hd hr)
  case returned => exact answers_of (fun _ => rfl) hpg (if_neg (by simp [hi, hr]))

end Sys2Proof.Machine
end

section
/-!
PROOF. The commit commands of a page and of a group: what each does in the cases that its statement separates.
-/

namespace Sys2Proof.Machine

variable {d y z : Dev} {i : Initiator} {e : Nat}

/-! ### The commands of a page (R41 to R43) -/

section Page
variable {pg group : Nat}

/-- A commit command of an open page stores the group field and then acts. -/
theorem commitWrite_open {cmd : Nat} (f : Nat → Dev → Dev) (hk : (pageKind pg).isSome = true) (hacc : d.accepts i = true)
    (hl : d.locked pg = false) :
    d.commitWrite i pg group cmd f = f (group % 256 * 2 ^ 24 + cmd % 8) (d.put (PG_COMMIT_group pg) group) :=
  (if_neg (by simp [Option.isSome_iff_ne_none.mp hk])).trans (write_accepts _ _ _ hacc hl)

section Open
variable (hk : (pageKind pg).isSome = true) (hacc : d.accepts i = true) (hl : d.locked pg = false)
  (hy : y = d.put (PG_COMMIT_group pg) group)
include hk hacc hl hy

theorem commitCmd_checks {cmd : Nat} (h : y.refusal pg cmd (y.rd64 (PG_COMMIT_T_LO pg) (PG_COMMIT_T_HI pg)) = none) :
    d.commitCmd i pg group cmd = y.startCheck i pg cmd 0 (y.rd64 (PG_COMMIT_T_LO pg) (PG_COMMIT_T_HI pg)) := by
  rw [Dev.commitCmd, commitWrite_open _ hk hacc hl, ← hy]
  simp only [h]

theorem commitCmd_refuses {cmd r : Nat}
    (h : y.refusal pg cmd (y.rd64 (PG_COMMIT_T_LO pg) (PG_COMMIT_T_HI pg)) = some r) :
    d.commitCmd i pg group cmd = y.refuse pg r i 0x14 (group % 256 * 2 ^ 24 + cmd % 8) := by
  rw [Dev.commitCmd, commitWrite_open _ hk hacc hl, ← hy]
  simp only [h]

theorem opCommitAbort_ends (hh : d.pw.halted = false) (hg : (d.pg pg).group = 0) (ha : y.abortLate pg = false) :
    opCommitAbort i pg group d = y.abortCommit pg 0 := by
  have hpg : y.pg pg = d.pg pg := by subst hy; rw [Dev.pg, Dev.put_pgs, Dev.pg]
  have hpw : y.pw = d.pw := by subst hy; rw [Dev.put_pw]
  rw [opCommitAbort, commitWrite_open _ hk hacc hl, ← hy]
  rw [if_neg (by simp [hpw, hh]), if_neg (by simp [hpg, hg]), if_neg (by simp [ha])]

theorem opCommitRevert_reverts (hh : d.pw.halted = false) (hs : y.flag (PG_CAP_shadow pg) = true)
    (hp : (d.pg pg).phase = .none) : opCommitRevert i pg group d = y.revert pg := by
  have hpg : y.pg pg = d.pg pg := by subst hy; rw [Dev.pg, Dev.put_pgs, Dev.pg]
  have hpw : y.pw = d.pw := by subst hy; rw [Dev.put_pw]
  rw [opCommitRevert, commitWrite_open _ hk hacc hl, ← hy]
  rw [if_neg (by simp [hpw, hh]), if_neg (by simp [hs]), if_neg (by simp [hpg, hp])]

theorem opCommitBad_refused {cmd : Nat} (hc : cmd = 0 ∨ cmd = 6 ∨ cmd = 7) (hh : d.pw.halted = false) :
    opCommitBad i pg group cmd d = y.refuse pg rsBadCmd i 0x14 (group % 256 * 2 ^ 24 + cmd % 8) := by
  have hpw : y.pw = d.pw := by subst hy; rw [Dev.put_pw]
  rw [opCommitBad, if_neg (by omega), commitWrite_open _ hk hacc hl, ← hy, if_neg (by simp [hpw, hh])]

end Open

/-- A page alone that passes its check under command 1 commits at once. -/
theorem opCheckDone_commits (hdue : d.due ⟨.commitCheck, pg, 0⟩ = some e) (hg : (d.pg pg).group = 0) (hc : (d.pg pg).cmd = 1)
    (hy : d.cancel ⟨.commitCheck, pg, 0⟩ = y) (hok : y.checkPage pg = none) :
    opCheckDone pg false d = (y.modPg pg (fun s => { s with phase := .checked })).commitPages [pg] := by
  have hpg : y.pg pg = d.pg pg := by subst hy; rfl
  have hself : y.comrades pg = [pg] := if_pos (hpg ▸ hg)
  have hchecked : (y.modPg pg (fun s => { s with phase := .checked })).pg pg = { d.pg pg with phase := .checked } := by
    rw [Dev.modPg, pg_setPg_same, hpg]
  unfold opCheckDone
  rw [endTimer_due d _ hdue, hy]
  simp only [hok, hself, List.all_cons, List.all_nil, hchecked, decide_true, Bool.and_self, ↓reduceIte, Bool.false_eq_true,
    Dev.passed, List.headD_cons, hc]

theorem opCheckDone_refuses {c : Chk} (hdue : d.due ⟨.commitCheck, pg, 0⟩ = some e)
    (hbad : (d.cancel ⟨.commitCheck, pg, 0⟩).checkPage pg = some c) :
    opCheckDone pg false d = (d.cancel ⟨.commitCheck, pg, 0⟩).memberRefuses (d.comrades pg) pg c.reason (d.pg pg).by_
      (c.addr % 0x1000) (d.shw c.addr).toNat := by
  unfold opCheckDone
  rw [endTimer_due d _ hdue]
  simp only [hbad, ↓reduceIte, Bool.false_eq_true]
  rfl

end Page

/-- Settles O14: each command on an open page, the end of a check and a launch, in the case that the clause chooses. -/
theorem commitCommandsAct : Obligations.CommitCommandsAct := by
  intro d i pg group e cmd r c hpg hg hk
  have hok : (isPage pg && decide (group < 256)) = true := by simp [hpg, hg]
  refine ⟨fun hacc hl => ⟨fun h => ?now, fun h => ?timed, fun h => ?cascade, fun h => ?noNow, fun h => ?noTimed,
    fun h => ?noCascade, fun hh hgrp ha => ?abort, fun hh hs hp => ?revert, fun hc hh => ?bad⟩,
    fun hdue hgrp hc h => ?passes, fun hdue h => ?fails, fun hp ht => ?launch⟩
  case now => exact answers_of (fun _ => rfl) hok (commitCmd_checks hk hacc hl rfl h)
  case timed => exact answers_of (fun _ => rfl) hok (commitCmd_checks hk hacc hl rfl h)
  case cascade => exact answers_of (fun _ => rfl) hok (commitCmd_checks hk hacc hl rfl h)
  case noNow => exact answers_of (fun _ => rfl) hok (commitCmd_refuses hk hacc hl rfl h)
  case noTimed => exact answers_of (fun _ => rfl) hok (commitCmd_refuses hk hacc hl rfl h)
  case noCascade => exact answers_of (fun _ => rfl) hok (commitCmd_refuses hk hacc hl rfl h)
  case abort => exact answers_of (fun _ => rfl) hok (opCommitAbort_ends hk hacc hl rfl hh hgrp ha)
  case revert => exact answers_of (fun _ => rfl) hok (opCommitRevert_reverts hk hacc hl rfl hh hs hp)
  case bad => exact answers_of (fun _ => rfl) (by simp [hpg, hg, hc, or_assoc]) (opCommitBad_refused hk hacc hl rfl hc hh)
  case passes => exact answers_of (fun _ => rfl) hpg (opCheckDone_commits hdue hgrp hc rfl h)
  case fails => exact answers_of (fun _ => rfl) hpg (opCheckDone_refuses hdue h)
  case launch => exact answers_of (fun _ => rfl) hpg (if_neg (by simp [hp, ht]))

/-! ### The commands of a group (R44) -/

section Group
variable {g : Nat} (hacc : d.accepts i = true)
include hacc

section NoMember
variable (hm : d.members g = [])
include hm

theorem groupCmd_memberless (cmd : Nat) : d.groupCmd i g cmd = d.groupBad :=
  (access_accepts _ hacc).trans (if_pos (by simp [hm]))

theorem opGrpAbort_memberless : opGrpAbort i g d = d.groupBad := (access_accepts _ hacc).trans (if_pos (by simp [hm]))

theorem opGrpRevert_memberless : opGrpRevert i g d = d.groupBad := (access_accepts _ hacc).trans (if_pos (by simp [hm]))

end NoMember

section Members
variable (hpos : 1 ≤ g) (hlt : g < 256) (hm : d.members g ≠ [])
include hpos hlt hm

theorem group_taken : ¬ (decide (g = 0) || decide (255 < g) || (d.members g).isEmpty) = true := by
  simp only [Bool.or_eq_true, decide_eq_true_eq, List.isEmpty_iff, hm, or_false]
  omega

theorem groupCmd_checks {cmd : Nat} (hb : d.groupBusy g = false)
    (hr : ∀ p ∈ d.members g, d.memberRefusal p cmd (d.rd64 SYS_GRP_T_LO SYS_GRP_T_HI) = none) :
    d.groupCmd i g cmd = (d.each (d.members g) (fun p t =>
      t.startCheck i p cmd g (d.rd64 SYS_GRP_T_LO SYS_GRP_T_HI))).groupStat csChecking 0 0 := by
  have hnone : (d.members g).find? (fun p => (d.memberRefusal p cmd (d.rd64 SYS_GRP_T_LO SYS_GRP_T_HI)).isSome) = none :=
    List.find?_eq_none.mpr (fun p hp => by simp [hr p hp])
  rw [Dev.groupCmd, access_accepts _ hacc, if_neg (group_taken hacc hpos hlt hm), if_neg (ne_true_of_eq_false hb)]
  simp only [hnone]

section Running
variable (hh : d.pw.halted = false)
include hh

theorem opGrpAbort_late (hb : d.committing.filter (fun p => (d.pg p).group == g) = []) :
    opGrpAbort i g d = (d.put SYS_GRP_STAT_reason rsTooLate).each (d.members g) (fun p t => t.tooLate p i 0) := by
  rw [opGrpAbort, access_accepts _ hacc, if_neg (group_taken hacc hpos hlt hm), if_neg (ne_true_of_eq_false hh)]
  simp only [hb]

theorem opGrpAbort_ends {p : Nat} {rest : List Nat} (hb : d.committing.filter (fun p => (d.pg p).group == g) = p :: rest)
    (ha : d.abortLate p = false) (hp : (d.pg p).phase ≠ .prepared) :
    opGrpAbort i g d = (d.each (p :: rest) (fun q t => t.commitEnds q csAborted 0)).groupStat csAborted 0 0 := by
  rw [opGrpAbort, access_accepts _ hacc, if_neg (group_taken hacc hpos hlt hm), if_neg (ne_true_of_eq_false hh)]
  simp only [hb, ha, hp, ↓reduceIte, Bool.false_eq_true]

theorem opGrpRevert_reverts
    (hr : ∀ p ∈ d.members g, d.flag (PG_CAP_shadow p) = true ∧ d.locked p = false ∧ (d.pg p).phase = .none) :
    opGrpRevert i g d = d.each (d.members g) Dev.revert := by
  rw [opGrpRevert, access_accepts _ hacc, if_neg (group_taken hacc hpos hlt hm)]
  dsimp only
  rw [List.find?_eq_none.mpr (fun p hp => ?_)]
  obtain ⟨hs, hl, hph⟩ := hr p hp
  simp [hh, hs, hl, hph]

end Running
end Members
end Group

/-- Settles O16: a group without a member, then each command on a group that has some. -/
theorem groupCommitsAct : Obligations.GroupCommitsAct := by
  intro d i g hpos hlt hacc
  have hok : decide (g < 256) = true := decide_eq_true hlt
  refine ⟨fun hm => ⟨?badNow, ?badTimed, ?badCascade, ?badAbort, ?badRevert⟩,
    fun hm hb => ⟨fun hr => ?now, fun hr => ?timed, fun hr => ?cascade⟩, fun hm hh hb => ?late,
    fun p rest hb hm hh ha hp => ?abort, fun hm hh hr => ?revert⟩
  case badNow => exact answers_of (fun _ => rfl) hok (groupCmd_memberless hacc hm 1)
  case badTimed => exact answers_of (fun _ => rfl) hok (groupCmd_memberless hacc hm 2)
  case badCascade => exact answers_of (fun _ => rfl) hok (groupCmd_memberless hacc hm 3)
  case badAbort => exact answers_of (fun _ => rfl) hok (opGrpAbort_memberless hacc hm)
  case badRevert => exact answers_of (fun _ => rfl) hok (opGrpRevert_memberless hacc hm)
  case now => exact answers_of (fun _ => rfl) hok (groupCmd_checks hacc hpos hlt hm hb hr)
  case timed => exact answers_of (fun _ => rfl) hok (groupCmd_checks hacc hpos hlt hm hb hr)
  case cascade => exact answers_of (fun _ => rfl) hok (groupCmd_checks hacc hpos hlt hm hb hr)
  case late => exact answers_of (fun _ => rfl) hok (opGrpAbort_late hacc hpos hlt hm hh hb)
  case abort => exact answers_of (fun _ => rfl) hok (opGrpAbort_ends hacc hpos hlt hm hh hb ha hp)
  case revert => exact answers_of (fun _ => rfl) hok (opGrpRevert_reverts hacc hpos hlt hm hh hr)

end Sys2Proof.Machine
end

section
/-!
PROOF. The fences, and the interrupt registers and the lock of a page: what each command does in the cases that its
statement separates.
-/

namespace Sys2Proof.Machine

variable {d : Dev} {i : Initiator} {pg : Nat} {v : Word}

/-! ### Fences (R46, R47) -/

theorem fenceWrite_accepts {kind q : Nat} (hk : (pageKind pg).isSome = true) (hacc : d.accepts i = true) :
    d.fenceWrite i pg kind q = d.fence i pg kind q :=
  (if_neg (by simp [Option.isSome_iff_ne_none.mp hk])).trans (access_accepts _ hacc)

theorem fence_refused {kind q : Nat} (h : d.fenceTaken pg kind q = false) : d.fence i pg kind q = d.fenceRefused i pg kind q :=
  if_pos (by simp [h])

theorem opFenceRefused_refuses (hk : (pageKind pg).isSome = true) (hacc : d.accepts i = true)
    (h : d.fenceTaken pg (bitsOf v 18 16) (bitsOf v 23 20) = false) :
    opFenceRefused i pg v d = d.fenceRefused i pg (bitsOf v 18 16) (bitsOf v 23 20) :=
  (if_neg (ne_true_of_eq_false h)).trans ((fenceWrite_accepts hk hacc).trans (fence_refused h))

theorem opFenceComplete_holds {f : Fence} {rest : List Fence} (hf : (d.pg pg).fences = f :: rest)
    (h : d.fenceHolds pg f = true) :
    opFenceComplete pg d = Dev.fenceDrain pg 16 (d.fenceEnds pg f (f.kind == 3 && f.mark == 1)) := by
  simp only [opFenceComplete, hf, h, ↓reduceIte]

theorem opFenceTimeout_first {tok e : Nat} (h : d.firstTimeout pg = some tok) (hdue : d.due ⟨.fence, pg, tok⟩ = some e) :
    opFenceTimeout pg d = ((d.at_ e).cancel ⟨.fence, pg, tok⟩).fencesFail pg (fun x => x.token == tok) := by
  simp only [opFenceTimeout, h]
  exact onTimer_due d _ hdue

/-- Settles O17: each command is the write of the fence register; the rest are the page's oldest fence and its time-out. -/
theorem fencesAct : Obligations.FencesAct := by
  intro d i pg q e tok v f rest hpg hq hk
  refine ⟨fun hacc => ⟨?config, ?table, ?bridge, ?time, ?queue, fun h => ?refused⟩, fun hf h => ?complete,
    fun h hdue => ?timeout⟩
  case config => exact answers_of (fun _ => rfl) hpg (fenceWrite_accepts hk hacc)
  case table => exact answers_of (fun _ => rfl) hpg (fenceWrite_accepts hk hacc)
  case bridge => exact answers_of (fun _ => rfl) hpg (fenceWrite_accepts hk hacc)
  case time => exact answers_of (fun _ => rfl) hpg (fenceWrite_accepts hk hacc)
  case queue => exact answers_of (fun _ => rfl) (by simp [hpg, hq]) (fenceWrite_accepts hk hacc)
  case refused => exact answers_of (fun _ => rfl) hpg (opFenceRefused_refuses hk hacc h)
  case complete => exact answers_of (fun _ => rfl) hpg (opFenceComplete_holds hf h)
  case timeout => exact answers_of (fun _ => rfl) hpg (opFenceTimeout_first h hdue)

/-! ### The interrupt registers and the lock (R50, R53) -/

section Access
variable (hk : (pageKind pg).isSome = true) (hacc : d.accepts i = true)
include hk hacc

theorem opIrqEn_accepts : opIrqEn i pg v d = d.irqWrite pg (d.rd (PG_IRQ_STAT pg)).toNat v.toNat :=
  (if_neg (by simp [Option.isSome_iff_ne_none.mp hk])).trans (access_accepts _ hacc)

theorem opIrqClear_accepts :
    opIrqClear i pg v d = d.irqWrite pg (d.rd (PG_IRQ_STAT pg) &&& ~~~v).toNat (d.rd (PG_IRQ_EN pg)).toNat :=
  (if_neg (by simp [Option.isSome_iff_ne_none.mp hk])).trans (access_accepts _ hacc)

theorem opIrqSet_accepts : opIrqSet i pg v none d =
    d.irqWrite pg (d.rd (PG_IRQ_STAT pg) ||| v).toNat (d.rd (PG_IRQ_EN pg)).toNat :=
  (if_neg (by simp [Option.isSome_iff_ne_none.mp hk])).trans (access_accepts _ hacc)

theorem opIrqSet_resets {dest : MsgDest} {y : Dev} (hy : y = d.msgReset dest) : opIrqSet i pg v (some dest) d =
    y.irqWrite pg (y.rd (PG_IRQ_STAT pg) ||| v).toNat (y.rd (PG_IRQ_EN pg)).toNat := by
  subst hy
  exact (if_neg (by simp [Option.isSome_iff_ne_none.mp hk])).trans (access_accepts _ hacc)

theorem opPgLock_accepts : opPgLock i pg v d = d.lockKey i pg v :=
  (if_neg (by simp [Option.isSome_iff_ne_none.mp hk])).trans (access_accepts _ hacc)

end Access

/-- The lock is permanent after 16 wrong keys (R53). -/
theorem permanent_iff {s : PgState} : s.permanent = true ↔ 16 ≤ s.wrongKeys := by simp [PgState.permanent]

theorem lockKey_locks (hkey : (d.pg pg).lockKey = 0) (hv : v ≠ 0) :
    d.lockKey i pg v = (d.setPg pg { d.pg pg with lockKey := v }).put (PG_STATE_locked pg) 1 :=
  (if_pos hkey).trans (if_neg hv)

theorem lockKey_open (hkey : (d.pg pg).lockKey = 0) : d.lockKey i pg 0 = d := (if_pos hkey).trans (if_pos rfl)

theorem lockKey_opens (hkey : (d.pg pg).lockKey = v) (hv : v ≠ 0) (hw : (d.pg pg).wrongKeys < 16) :
    d.lockKey i pg v = (d.setPg pg { d.pg pg with lockKey := 0 }).put (PG_STATE_locked pg) 0 := by
  have hopen : (d.pg pg).permanent = false := Bool.eq_false_iff.mpr (fun h => by have := permanent_iff.mp h; omega)
  exact (if_neg (hkey ▸ hv)).trans (if_pos (by simp [hopen, hkey]))

theorem lockKey_wrong (hkey : (d.pg pg).lockKey ≠ 0) (hv : v ≠ (d.pg pg).lockKey ∨ 16 ≤ (d.pg pg).wrongKeys) :
    d.lockKey i pg v =
      (d.setPg pg { d.pg pg with wrongKeys := min 16 ((d.pg pg).wrongKeys + 1) }).lockViol pg i 0x48 v.toNat := by
  refine (if_neg hkey).trans (if_neg ?_)
  simp only [Bool.and_eq_true, Bool.not_eq_true', beq_iff_eq, not_and]
  intro hopen heq
  exact hv.elim (· heq.symm) (fun h => by simp [permanent_iff.mpr h] at hopen)

/-- Settles O19: the writes of the interrupt registers, and the key of the lock in each case of what the page holds. -/
theorem interruptsAndLockAct : Obligations.InterruptsAndLockAct := by
  intro d i pg v dest hpg hk hacc
  refine ⟨?enable, ?set, ?clear, fun hkey hv => ?locks, fun hkey => ?open_, fun hkey hv hw => ?opens,
    fun hkey hv => ?wrong, ?resets⟩
  case enable => exact answers_of (fun _ => rfl) hpg (opIrqEn_accepts hk hacc)
  case set => exact answers_of (fun _ => rfl) hpg (opIrqSet_accepts hk hacc)
  case clear => exact answers_of (fun _ => rfl) hpg (opIrqClear_accepts hk hacc)
  case locks => exact answers_of (fun _ => rfl) hpg ((opPgLock_accepts hk hacc).trans (lockKey_locks hkey hv))
  case open_ => exact answers_of (fun _ => rfl) hpg ((opPgLock_accepts hk hacc).trans (lockKey_open hkey))
  case opens => exact answers_of (fun _ => rfl) hpg ((opPgLock_accepts hk hacc).trans (lockKey_opens hkey hv hw))
  case wrong => exact answers_of (fun _ => rfl) hpg ((opPgLock_accepts hk hacc).trans (lockKey_wrong hkey hv))
  case resets => exact answers_of (fun _ => rfl) hpg (opIrqSet_resets hk hacc rfl)

end Sys2Proof.Machine
end

section
/-!
PROOF. A frame in reception: its start, its bytes, its head and its end, at an Ethernet port and at the input of a cascade
link.
-/

namespace Sys2Proof.Machine

variable {d w x y z : Dev} {p eighth fid k : Nat} {r n : Rx} {data : List Byte}

/-! ### Which input it is (Table 0-4) -/

theorem isVh_of_lt (h : p < 57) : isVh p = false := by
  have hn : ¬ 58 ≤ p := by omega
  simp [isVh, hn]

theorem isVh_of_link (hlo : 58 ≤ p) (hhi : p ≤ 61) : isVh p = true := by simp [isVh, hlo, hhi]

/-! ### An Ethernet port (R68, R138, R158) -/

section Start
variable (hv : isVh p = false)
include hv

theorem opFrameStartAny_opens (hr : d.rxOf p = none) (hm : d.macUp p = true) (hw : d.works (pgETH p) = true)
    (hs : d.sleepSeg p = none) :
    opFrameStartAny p eighth d = d.setRx p (some
      { iso := d.get (PG_STATE_iso (pgETH p)) != 0, press := d.pressedAt p, inNs := (d.ingressTime p eighth).1,
        inFrac := (d.ingressTime p eighth).2, t0 := d.now, maxLen := d.get (ETH_CFG_max_len p) }) :=
  (if_neg (ne_true_of_eq_false hv)).trans (if_neg (by simp [hr, hm, hw, hs]))

theorem opFrameStartAny_open (hr : d.rxOf p = some r) : opFrameStartAny p eighth d = d :=
  (if_neg (ne_true_of_eq_false hv)).trans (if_pos (by simp [hr]))

end Start

section Data
variable (hv : isVh p = false) (hr : d.rxOf p = some r)
  (hn : n = { r with bytes := min (r.bytes + data.length) (r.maxLen + 1), head := (r.head ++ data).take 64 })
  (hz : z = d.setRx p (some n))
include hv hr hn hz

theorem opFrameDataAny_counts (hwas : r.bytes < z.rxNeed p) (hnow : n.bytes < z.rxNeed p) : opFrameDataAny p data d = z := by
  have hbytes : min (r.bytes + data.length) (r.maxLen + 1) < z.rxNeed p := by rwa [hn] at hnow
  simp only [opFrameDataAny, hv, opFrameData, hr, ← hn, ← hz, hwas, hbytes, decide_true, Bool.true_or, ↓reduceIte,
    Bool.false_eq_true]

theorem opFrameDataAny_enters (hvox : d.vox p = false) (hwas : r.bytes < z.rxNeed p) (hnow : z.rxNeed p ≤ n.bytes)
    (hent : z.entersVault p n = true) (hrst : r.rst = false) (hres : z.flag (PG_STATE_in_reset pgFWD) = false) :
    opFrameDataAny p data d = z.startFrame p n (n.head.take r.bytes ++ data.take (r.maxLen - r.bytes)) := by
  have hbytes : z.rxNeed p ≤ min (r.bytes + data.length) (r.maxLen + 1) := by rwa [hn] at hnow
  have hhead : n.head = (r.head ++ data).take 64 := by rw [hn]
  simp only [opFrameDataAny, hv, opFrameData, hr, ← hn, ← hz, Bool.false_eq_true, ↓reduceIte]
  simp only [hwas, Nat.not_lt.mpr hbytes, hent, hrst, hres, hvox, hhead, decide_false, Bool.not_true, Bool.or_self, ↓reduceIte,
    Bool.false_eq_true]

theorem opFrameDataAny_stores (hwas : z.rxNeed p ≤ r.bytes) (hfid : r.fid = some fid) :
    opFrameDataAny p data d = z.storeBytes fid (data.take (r.maxLen - r.bytes)) := by
  simp only [opFrameDataAny, hv, opFrameData, hr, ← hn, ← hz, Bool.false_eq_true, ↓reduceIte]
  simp only [Nat.not_lt.mpr hwas, hfid, ↓reduceIte]

end Data

/-- What a reception of whole frames brings to the Ledger, and its end. -/
theorem opFrameEnd_ends {good pcs : Bool} (hr : z.rxOf p = some r) (hfid : r.fid = some fid) (hex : r.excess = false)
    (hctl : be r.head 12 2 ≠ 0x8808) (hy : y = (z.setRx p none).touch p) (hk : k = rxKind r.maxLen r.bytes good pcs)
    (hx : x = (if pcs = true then (y.ldg p 22 1).count (PHY_PCS_ERR p) else y)) (hw : w = x.ldgReceived p k r)
    (hvox : w.vox p = false) :
    opFrameEnd p good pcs z = if k = 0 then w.acceptRx fid 1 else w.rejectRx fid := by
  unfold opFrameEnd
  simp only [hr, hctl, hfid, hex, false_and, ↓reduceIte, ← hy, ← hk, ← hx, ← hw, hvox, Bool.false_and, Bool.false_eq_true]

theorem opFrameHead_known (hr : d.rxOf p = some r) (hfid : r.fid = some fid) :
    opFrameHead p d = d.modFrame fid (fun f => if f.tH.isNone then { f with tH := some d.now } else f) := by
  simp only [opFrameHead, hr, hfid]

/-! ### The input of a cascade link (R334, R335) -/

section Link
variable {v : VhFrame} {l : List VhFrame} (hv : isVh p = true) (hq : d.inq (p - 58) = v :: l)
include hv hq

theorem opFrameStartAny_link (hr : d.rxOf p = none) :
    opFrameStartAny p eighth d = d.setRx p (some
      { press := d.pressedAt p, inNs := v.inNs, inFrac := v.inFrac, t0 := d.now, head := v.data.take 64 }) := by
  simp only [opFrameStartAny, hv, ↓reduceIte, Dev.vhStart, hq, hr, Option.isSome_none, Bool.false_eq_true]

theorem opFrameDataAny_link (hr : d.rxOf p = some r) (hfid : r.fid = some fid) (hb : r.bytes ≠ 0)
    (hpart : ((v.data.drop r.bytes).take 256).isEmpty = false) :
    opFrameDataAny p data d = (d.setRx p (some { r with
      bytes := r.bytes + ((v.data.drop r.bytes).take 256).length })).storeBytes fid ((v.data.drop r.bytes).take 256) := by
  have hfirst : (r.bytes == 0) = false := beq_false_of_ne hb
  simp only [opFrameDataAny, hv, ↓reduceIte, Dev.vhData, hq, hr, hpart, hfirst, hfid, Bool.false_eq_true]

theorem opFrameEndAny_link {good pcs : Bool} {fr ae se : Nat} (hr : d.rxOf p = some r) (hfid : r.fid = some fid)
    (hb : v.data.length ≤ r.bytes) (hex : v.excess = false)
    (hz : z = ((d.setRx p none).setInq (p - 58) l).fillChanged (p - 58)) :
    opFrameEndAny p good pcs fr ae se d = ((z.storeBytes fid (fcsOf v.data)).acceptRx fid (nb v.tag 41 39)).credDone (p - 58)
      (nb v.tag 6 4) (credCost v.data.length) := by
  subst hz
  simp only [opFrameEndAny, hv, ↓reduceIte, Dev.vhEnd, hq, hr, Nat.not_lt.mpr hb, hfid, hex, Bool.false_and, Bool.false_eq_true]

end Link

/-- Settles O21: each command at an Ethernet port and at a cascade link's input, in the case that the clause chooses. -/
theorem receptionActs : Obligations.ReceptionActs := by
  intro d w x y z p eighth fid k r n data good pcs fr ae se v l heighth hmin hmax
  have hlen (hp : isPort p = true) : (isPort p && decide (1 ≤ data.length) && decide (data.length ≤ 64)) = true := by
    simp [hp, hmin, hmax]
  have hbit (hp : isPort p = true) : (isPort p && decide (eighth < 8)) = true := by simp [hp, heighth]
  refine ⟨fun hp => ?ethernet, fun hp hr hfid => ?head, fun hlo hhi hq => ?link⟩
  case ethernet =>
    have hport : isPort p = true := isPort_of_le (by omega)
    have hv := isVh_of_lt hp
    refine ⟨fun hr hm hw hs => ?start, fun hr => ?open_, fun hr hn hz => ⟨fun hwas hnow => ?counts,
      fun hvox hwas hnow hent hrst hres => ?enters, fun hwas hfid => ?stores⟩,
      fun _ hfid hex hctl hz hr hy hk hx hw hvox => ⟨fun h0 => ?accepts, fun h0 => ?rejects⟩⟩
    case start => exact answers_of (fun _ => rfl) (hbit hport) (opFrameStartAny_opens hv hr hm hw hs)
    case open_ => exact answers_of (fun _ => rfl) (hbit hport) (opFrameStartAny_open hv hr)
    case counts => exact answers_of (fun _ => rfl) (hlen hport) (opFrameDataAny_counts hv hr hn hz hwas hnow)
    case enters =>
      exact answers_of (fun _ => rfl) (hlen hport) (opFrameDataAny_enters hv hr hn hz hvox hwas hnow hent hrst hres)
    case stores => exact answers_of (fun _ => rfl) (hlen hport) (opFrameDataAny_stores hv hr hn hz hwas hfid)
    all_goals
      refine answers_of (fun _ => rfl) hport ((if_neg (ne_true_of_eq_false hv)).trans ?_)
      rw [← hz]
    case accepts => exact (opFrameEnd_ends hr hfid hex hctl hy hk hx hw hvox).trans (if_pos h0)
    case rejects => exact (opFrameEnd_ends hr hfid hex hctl hy hk hx hw hvox).trans (if_neg h0)
  case head => exact answers_of (fun _ => rfl) hp (opFrameHead_known hr hfid)
  case link =>
    have hport : isPort p = true := isPort_of_le hhi
    have hv := isVh_of_link hlo hhi
    refine ⟨fun hr => ?start, fun hr hfid hb hpart => ?data, fun hr hfid hb hex hz => ?ends⟩
    case start => exact answers_of (fun _ => rfl) (hbit hport) (opFrameStartAny_link hv hq hr)
    case data => exact answers_of (fun _ => rfl) (hlen hport) (opFrameDataAny_link hv hq hr hfid hb hpart)
    case ends => exact answers_of (fun _ => rfl) hport (opFrameEndAny_link hv hq hr hfid hb hex hz)

end Sys2Proof.Machine
end

section
/-!
PROOF. The steps of a frame between its head and its queues: the lookup result, the policing decision and the check at
ingress.
-/

namespace Sys2Proof.Machine

variable {d u w x y z : Dev} {p ue : Nat} {f g h : Frame}

/-! ### The lookup result (R20, R104) -/

section Lookup
variable {t : Option TblAt} {pipe : Bool} {s : Snap} {vid : Nat}
  (hf : d.oldest (fun f => d.flag (PG_CTRL_enable pgFWD) && f.inPort == p && f.tH.isSome && f.tL.isNone) = some f)
  (hy : y = t.elim (d.at_ (f.tH.getD 0 + fabT 72)) (fun e => (d.at_ (f.tH.getD 0 + fabT 72)).tableUe 8 e.table e.index))
include hf hy

/-- A frame whose lookup a unit reset meets is discarded (R37). -/
theorem opLookupResult_reset (hr : f.reset = true ∨ y.flag (PG_STATE_in_reset pgFWD) = true) :
    opLookupResult p pipe t d = y.fwdDiscard f.id 0x0A := by
  have hcond : (f.reset || y.flag (PG_STATE_in_reset pgFWD)) = true := by simpa using hr
  cases t <;> (simp only [Option.elim] at hy; simp only [opLookupResult, hf, ← hy, hcond, ↓reduceIte])

section Looked
variable (hr : f.reset = false) (hres : y.flag (PG_STATE_in_reset pgFWD) = false) (hz : z = y.setRegs f.old)
  (hl : z.lookup f = (s, u)) (hvid : vid = (if f.ethFramed then z.vidOf f f.hdr else 0))
  (hw : w = ((u.setRegs (f.old.map (fun e => (e.1, y.rd e.1)))).countLookup pipe).trace p s)
include hr hres hz hl hvid hw

theorem opLookupResult_discards (hs : s.reason ≠ 0) : opLookupResult p pipe t d = w.fwdDiscard f.id s.reason := by
  cases t <;>
    (simp only [Option.elim] at hy
     simp only [opLookupResult, hf, ← hy, hr, hres, ← hz, hl, ← hw, hs, Bool.or_self, Bool.false_eq_true, ↓reduceIte, ne_eq,
       not_false_eq_true])

/-- The frame goes on with the snapshot of its lookup. -/
theorem opLookupResult_takes (hs : s.reason = 0) (hh : w.frame f.id = some h)
    (hg : g = { h with
      cls := s.cls, stream := s.stream, ctx := s.ctx, route := s.route, frer := s.frer, outs := s.outs,
      epoch := w.epoch, vid := vid, pcp := f.hdr.pcp, old := [],
      unt := if h.ethFramed then w.listPorts (nb (w.ent 3 vid) 39 28) else [],
      tagged := f.hdr.vlanTagged, seq := Option.map Prod.fst f.hdr.rtag, tL := some w.now }) :
    opLookupResult p pipe t d = w.saveFrame
      { g with needCv := w.needsCheck g, newCv := w.marksNew g, cv0 := w.recordStart g,
               ct := w.cutThrough { g with needCv := w.needsCheck g, newCv := w.marksNew g, cv0 := w.recordStart g } } := by
  subst hvid hg
  cases t <;>
    (simp only [Option.elim] at hy
     simp only [opLookupResult, hf, ← hy, hr, hres, ← hz, hl, ← hw, hs, hh, Option.getD_some, Bool.or_self,
       Bool.false_eq_true, ↓reduceIte, ne_eq, not_true_eq_false])

end Looked
end Lookup

/-! ### The policing decision (R106) -/

section Policing
variable (hf : d.oldest (fun f => d.works (pgTRM 1) && f.inPort == p && f.tL.isSome && f.tP.isNone && (f.ct || f.tE.isSome)) =
    some f)
  (hy : y = d.at_ (if f.ct = true then f.tL.getD 0 + fabT 6 else max (f.tL.getD 0) (f.tE.getD 0 + fabT 6)))
include hf hy

theorem opPolicing_drops (hp : y.police f f.seq ue = (none, z)) : opPolicing p ue d = z.dropArriving f.id := by
  simp only [opPolicing, hf, ← hy, hp]

theorem opPolicing_passes {col cls : Nat} (hp : y.police f f.seq ue = (some (col, cls), z)) :
    opPolicing p ue d = z.modFrame f.id (fun f => { f with colour := col, cls := cls, tP := some z.now }) := by
  simp only [opPolicing, hf, ← hy, hp]

end Policing

/-! ### The check at ingress (R223, R233) -/

section Check
variable {st : Nat} {c : Option Nat}
  (hf : d.oldest (fun f => d.works pgAUT && f.inPort == p && f.tP.isSome && f.needCv && f.tC.isNone && f.tE.isSome) = some f)
  (hy : y = d.at_ f.checkTime)
include hf hy

theorem opIngressCheck_drops (hv : y.verify f = (.drop, z)) : opIngressCheck p none d = z.dropArriving f.id := by
  simp only [opIngressCheck, hf, ← hy, hv]

theorem opIngressCheck_passes (hv : y.verify f = (.pass st c, z)) :
    opIngressCheck p none d = z.modFrame f.id (fun g => { g with
      check := st, vctx := c, secAt := Option.map (fun s : SecTag => (s.at_, s.len)) g.hdr.sec, tC := some z.now }) := by
  simp only [opIngressCheck, hf, ← hy, hv]

section Uncorrectable
variable {k : Nat} {part : CvPart} (hk : f.checkCtx = some k)
  (hg : g = { f with cv0 := f.cv0.map (fun v : CvStart => v.lose part) }) (hx : x = y.contextUe k part)
include hk hg hx

theorem opIngressCheck_uncorrectableDrops (hv : x.verify g = (.drop, z)) :
    opIngressCheck p (some part) d = z.dropArriving g.id := by
  simp only [opIngressCheck, hf, ← hy, hk, ← hg, ← hx, hv]

theorem opIngressCheck_uncorrectablePasses (hv : x.verify g = (.pass st c, z)) :
    opIngressCheck p (some part) d = z.modFrame g.id (fun h => { h with
      check := st, vctx := c, secAt := Option.map (fun s : SecTag => (s.at_, s.len)) h.hdr.sec, tC := some z.now }) := by
  simp only [opIngressCheck, hf, ← hy, hk, ← hg, ← hx, hv]

end Uncorrectable
end Check

/-- Settles O22: each step in the case that the clause chooses. -/
theorem decisionStepsAct : Obligations.DecisionStepsAct := by
  intro d u w x y z p vid ue k st f g h s t pipe col cls c part hp
  refine ⟨fun hf ht hy => ⟨fun hr => ?reset, fun hr hres hz hl hvid hw => ⟨fun hs => ?discards, fun hs hh hg => ?takes⟩⟩,
    fun hf hue hy => ⟨fun hpol => ?polDrops, fun hpol => ?polPasses⟩,
    fun hf hy => ⟨fun hv => ?drops, fun hv => ?passes, fun hk hg hx => ⟨fun hv => ?ueDrops, fun hv => ?uePasses⟩⟩⟩
  case reset => exact answers_of (fun _ => rfl) (by simp [hp, ht]) (opLookupResult_reset hf hy hr)
  case discards =>
    exact answers_of (fun _ => rfl) (by simp [hp, ht]) (opLookupResult_discards hf hy hr hres hz hl hvid hw hs)
  case takes =>
    exact answers_of (fun _ => rfl) (by simp [hp, ht]) (opLookupResult_takes hf hy hr hres hz hl hvid hw hs hh hg)
  case polDrops => exact answers_of (fun _ => rfl) (by simp [hp, hue]) (opPolicing_drops hf hy hpol)
  case polPasses => exact answers_of (fun _ => rfl) (by simp [hp, hue]) (opPolicing_passes hf hy hpol)
  case drops => exact answers_of (fun _ => rfl) hp (opIngressCheck_drops hf hy hv)
  case passes => exact answers_of (fun _ => rfl) hp (opIngressCheck_passes hf hy hv)
  case ueDrops => exact answers_of (fun _ => rfl) hp (opIngressCheck_uncorrectableDrops hf hy hk hg hx hv)
  case uePasses => exact answers_of (fun _ => rfl) hp (opIngressCheck_uncorrectablePasses hf hy hk hg hx hv)

end Sys2Proof.Machine
end

section
/-!
PROOF. The entry into the VOQs, the hand-off of bus frames, back-pressure, the spill copy, the prefetch and the hold sweep.
-/

namespace Sys2Proof.Machine

variable {d w y z : Dev} {p q s : Nat} {f g : Frame}

/-! ### The entry into the VOQs (R18, R69) -/

theorem opVoqEnqueue_enters {m : Option Nat}
    (hf : d.oldest (fun f => d.works pgQUE && f.inPort == p && !f.queued && f.tP.isSome && (!f.needCv || f.tC.isSome) &&
        (f.tE.isSome || (f.ct && f.outs.all (fun o => (d.voq (voqIx p o f.cls)).isEmpty)))) = some f)
    (hy : y = m.elim (d.at_ (max (max (f.tL.getD 0) (f.tP.getD 0)) (f.tC.getD 0) + fabT 3))
        (fun v => (d.at_ (max (max (f.tL.getD 0) (f.tP.getD 0)) (f.tC.getD 0) + fabT 3)).voqReset v))
    (hg : g = { f with ct := f.ct && f.tE.isNone, tQ := y.now })
    (hz : z = (if f.slipPaid = true then y.uncharge true f.domain else y))
    (hw : w = ((z.each f.outs (fun o t => t.creditPort o)).saveFrame { g with slipPaid := false }).enqueue f.id f.outs) :
    opVoqEnqueue p m d = (w.each f.outs (fun o t => t.wakeFor o f.cls)).settle := by
  subst hw hg
  cases m <;> (simp only [Option.elim] at hy; simp only [opVoqEnqueue, hf, ← hy, Dev.when, ← hz])

theorem opBusHandoff_hands {r : BusRecord} {ns fr : Nat} {rest : List (BusRecord × Nat × Nat)}
    (h : NMap.get [] d.bus.handoff p = (r, ns, fr) :: rest) :
    opBusHandoff p d =
      ({ d with bus := { d.bus with handoff := NMap.set [] d.bus.handoff p rest } } : Dev).admitBus p r ns fr := by
  simp only [opBusHandoff, h]

/-! ### Back-pressure (R70) -/

section Pressure
variable (hp : pressured p = true) (hs : s = d.pressureSet p) (hn : s ≠ d.pressedAt p)
  (hy : y = ({ d with vlt := { d.vlt with reached := NMap.set 0 d.vlt.reached p s } } : Dev))
  (hz : z = (if s = 0 ∧ p ≤ 61 then y.put (VLT_HDRM_USE_coins p) 0 else y))
include hp hs hn hy hz

theorem opPressureReach_changes : opPressureReach p d =
    if p < 57 then (z.put (ETH_STAT_bp p) s).fcChanged p else if p = 96 then z.put KLW_DEFER_STAT_cls s else z := by
  subst hz hy hs
  exact if_neg (by simp [hp, hn])

theorem opPressureReachAny_eth (h : p < 57) : opPressureReachAny p d = (z.put (ETH_STAT_bp p) s).fcChanged p := by
  have hlink : ¬ (58 ≤ p ∧ p ≤ 61) := by omega
  rw [opPressureReachAny, if_neg hlink, opPressureReach_changes hp hs hn hy hz, if_pos h]

theorem opPressureReachAny_kalow (h : p = 96) : opPressureReachAny p d = z.put KLW_DEFER_STAT_cls s := by
  have hlink : ¬ (58 ≤ p ∧ p ≤ 61) := by omega
  rw [opPressureReachAny, if_neg hlink, opPressureReach_changes hp hs hn hy hz, if_neg (by omega), if_pos h]

theorem opPressureReachAny_link (hlo : 58 ≤ p) (hhi : p ≤ 61) : opPressureReachAny p d = z.credRelease (p - 58) := by
  rw [opPressureReachAny, if_pos ⟨hlo, hhi⟩, opPressureReach_changes hp hs hn hy hz, if_neg (by omega), if_neg (by omega)]

theorem opPressureReachAny_other (h : p = 57 ∨ 62 ≤ p) (h96 : p ≠ 96) : opPressureReachAny p d = z := by
  have hlink : ¬ (58 ≤ p ∧ p ≤ 61) := by omega
  rw [opPressureReachAny, if_neg hlink, opPressureReach_changes hp hs hn hy hz, if_neg (by omega), if_neg h96]

end Pressure

/-! ### The spill copy, the prefetch and the sweep (R63, R65, R75) -/

section Spill
variable {sp : Spill} {e : Nat} (hsp : d.vlt.spills.find? (fun s => s.voq == q) = some sp)
  (hdue : d.due ⟨.spill, sp.fid, 0⟩ = some e) (hy : y = (d.at_ e).cancel ⟨.spill, sp.fid, 0⟩)
include hsp hdue hy

theorem opSpillCopyDone_due (ue : Bool) : opSpillCopyDone q ue d = (y.spillDone sp ue).settle := by
  subst hy
  simp only [opSpillCopyDone, hsp, onTimer_due d _ hdue]

/-- A copy that met an uncorrectable word loses its frame. -/
theorem opSpillCopyDone_uncorrectable (hf : y.frame sp.fid = some f) : opSpillCopyDone q true d =
    ((((((y.count VLT_TILL_PE).lost 1).raise (pgVLT 0) 12).uncorrectable 0 ((f.coins.find? inTill).getD 0 * 32) 8).dropSpill
      f sp).discardFrame f).settle := by
  rw [opSpillCopyDone_due hsp hdue hy]
  simp only [Dev.spillDone, hf, ↓reduceIte]

end Spill

theorem opMcHoldSweep_due {e : Nat} (h : d.due ⟨.mcSweep, 0, 0⟩ = some e) :
    opMcHoldSweep d = (((d.at_ e).cancel ⟨.mcSweep, 0, 0⟩).arm ⟨.mcSweep, 0, 0⟩ (e + usT 100)).each d.vlt.voqs
      (fun v t => t.sweepVoq v.1 v.2.length) := by
  rw [opMcHoldSweep, onPeriod_due d _ h, Dev.arm_vlt, Dev.cancel_vlt, Dev.at__vlt]

/-- Settles O23: each step in the case that the clause chooses. -/
theorem vaultEntriesAct : Obligations.VaultEntriesAct := by
  intro d w y z p q e s m ue f g r ns fr rest sp hp hq
  refine ⟨fun hf hm hy hg hz hw => ?enters, fun hbus h => ?hands,
    fun hpr hs hn hy hz => ⟨fun h => ?eth, fun h => ?kalow, fun hlo hhi => ?link, fun h h96 => ?other⟩,
    fun hsp hdue hy => ⟨?spill, fun hfr => ?lost⟩, fun hdue => ?prefetch, fun hdue => ?sweep⟩
  case enters => exact answers_of (fun _ => rfl) (by simp [hp, hm]) (opVoqEnqueue_enters hf hy hg hz hw)
  case hands => exact answers_of (fun _ => rfl) hbus (opBusHandoff_hands h)
  case eth => exact answers_of (fun _ => rfl) hp (opPressureReachAny_eth hpr hs hn hy hz h)
  case kalow => exact answers_of (fun _ => rfl) hp (opPressureReachAny_kalow hpr hs hn hy hz h)
  case link => exact answers_of (fun _ => rfl) hp (opPressureReachAny_link hpr hs hn hy hz hlo hhi)
  case other => exact answers_of (fun _ => rfl) hp (opPressureReachAny_other hpr hs hn hy hz h h96)
  case spill => exact answers_of (fun _ => rfl) hq (opSpillCopyDone_due hsp hdue hy ue)
  case lost => exact answers_of (fun _ => rfl) hq (opSpillCopyDone_uncorrectable hsp hdue hy hfr)
  case prefetch => exact answers_of (fun _ => rfl) hq (endTimer_due d _ hdue)
  case sweep => exact answers_of_effect (fun _ => rfl) (opMcHoldSweep_due hdue)

end Sys2Proof.Machine
end

section
/-!
PROOF. The flush of the exact-match table, the resume of a ring and the expiry of a lock.
-/

namespace Sys2Proof.Machine

variable {d y z : Dev} {i : Initiator} {c e : Nat} {x : TblDesc}

/-! ### A ring that flushes (R101, R102) -/

/-- While a flush runs the ring takes no descriptor. -/
theorem dma_flushing {op : Nat} {f : Dev → Nat × Nat × Option (Nat × Nat) × Dev} (h : d.running ⟨.flush, c, 0⟩ = true) :
    d.dma c op x f = d := by
  simp [Dev.dma, h]

theorem opTblFlush_flushing (h : d.running ⟨.flush, c, 0⟩ = true) : opTblFlush c x d = d := if_pos (by simp [h])

/-- Every table descriptor leaves a ring that flushes as it was. -/
theorem answers_flushing (hc : c < 2) (hw : x.wf = true) (h : d.running ⟨.flush, c, 0⟩ = true) :
    ∀ op : Instr, op ∈ [.tblInsert c x, .tblUpdate c x, .tblDelete c x, .tblLookup c x, .tblReadIdx c x, .tblWriteIdx c x,
      .tblReadLock c x, .tblWriteUnlock c x, .tblUnlock c x, .tblEpoch c x, .tblFlush c x] → Answers op d d := by
  have hok : (decide (c < 2) && x.wf) = true := by simp [hc, hw]
  simp only [List.forall_mem_cons]
  exact ⟨answers_of (fun _ => rfl) hok (dma_flushing h), answers_of (fun _ => rfl) hok (dma_flushing h),
    answers_of (fun _ => rfl) hok (dma_flushing h), answers_of (fun _ => rfl) hok (dma_flushing h),
    answers_of (fun _ => rfl) hok (dma_flushing h), answers_of (fun _ => rfl) hok (dma_flushing h),
    answers_of (fun _ => rfl) hok (dma_flushing h), answers_of (fun _ => rfl) hok (dma_flushing h),
    answers_of (fun _ => rfl) hok (dma_flushing h), answers_of (fun _ => rfl) hok (dma_flushing h),
    answers_of (fun _ => rfl) hok (opTblFlush_flushing h), fun _ hop => nomatch hop⟩

/-! ### A flush descriptor (R101) -/

theorem Takes.tblFlush_halt (h : Takes d c x) (hh : d.pw.halted = true) :
    opTblFlush c x d = d.writeBack c 0xA x stHalt x.index none := by
  simp [opTblFlush, h.busy, h.own, h.noFlush, hh]

section Running
variable (ht : Takes d c x) (hh : d.pw.halted = false)
include ht hh

theorem Takes.tblFlush_descriptorUe (hu : x.ue = 1) : opTblFlush c x d = d.ringHalt c 0xA x := by
  simp [opTblFlush, ht.busy, ht.own, ht.noFlush, hh, hu]

theorem Takes.tblFlush_badTable (hu : x.ue ≠ 1) (hx : x.table ≠ 0) :
    opTblFlush c x d = d.writeBack c 0xA x stBadOp x.index none := by
  simp [opTblFlush, ht.busy, ht.own, ht.noFlush, hh, hu, hx]

theorem Takes.tblFlush_starts (hu : x.ue ≠ 1) (hx : x.table = 0) (hy : y = d.armIn ⟨.flush, c, 0⟩ (msT 2)) :
    opTblFlush c x d = { y with fwd := { d.fwd with flushes := d.fwd.flushes ++ [⟨c, x⟩] } } := by
  subst hy
  simp [opTblFlush, ht.busy, ht.own, ht.noFlush, hh, hu, hx]

end Running

/-! ### The end of a flush (R102, R104) -/

section Done
variable {f : Flush} (hdue : d.due ⟨.flush, c, 0⟩ = some e) (hf : d.fwd.flushes.find? (fun f => f.ring == c) = some f)
  (hy : y = ({ d.cancel ⟨.flush, c, 0⟩ with fwd := { d.fwd with flushes := d.fwd.flushes.filter (fun f => f.ring != c) } } : Dev))
include hdue hf hy

theorem opTblFlushDone_entryUe (hu : f.desc.ue = 2) :
    opTblFlushDone c d = (y.tableUe 4 0 f.desc.bad).ringHalt c 0xA f.desc := by
  rw [opTblFlushDone, endTimer_due d _ hdue]
  simp only [Dev.cancel_fwd, hf, hu, ↓reduceIte, ← hy]

theorem opTblFlushDone_removes {hits : List Nat} (hu : f.desc.ue ≠ 2)
    (hhits : hits = ((((y.fwd.tab.filter (fun a => decide (a.1 < 2 ^ 20))).map (fun a => a.1)).filter (fun i =>
      flushMatch f.desc (y.ent 0 i)))).reverse)
    (hz : z = y.each hits (fun i t => if flushMatch f.desc (t.ent 0 i) && !isLocked 0 (t.ent 0 i) then t.remove 0 i else t)) :
    opTblFlushDone c d = z.writeBack c 0xA f.desc
      (if hits.any (fun i => isLocked 0 (y.ent 0 i)) then stLocked else stOk) f.desc.index none := by
  subst hz hhits hy
  have hf' : (d.cancel ⟨.flush, c, 0⟩).fwd.flushes.find? (fun f => f.ring == c) = some f := hf
  rw [opTblFlushDone, endTimer_due d _ hdue]
  simp only [hf']
  exact if_neg hu

end Done

theorem opTblResume_accepts (h : d.accepts i = true)
    (hy : y = (if d.locked pgTBL = true then d.lockViol pgTBL i (0x118 + 0x20 * c) 2 else d)) :
    opTblResume i c d = y.put (TBL_RING_STAT_halted c) 0 := by
  subst hy
  exact writeMixed_accepts _ h

/-- A slot of a hashed table is an entry that the device has. -/
theorem tblAt_wf {t k : Nat} (ht : t < 3) (hk : k < tblSize t) : (TblAt.wf ⟨t, k⟩) = true := by
  obtain rfl | rfl | rfl : t = 0 ∨ t = 1 ∨ t = 2 := by omega
  all_goals exact decide_eq_true hk

/-- Settles O28: a flush from its descriptor to its end, the resume and the expiry of a lock. -/
theorem flushAndLocksAct : Obligations.FlushAndLocksAct := by
  intro d y z i c e t k x f hits hc
  have hring : decide (c < 2) = true := decide_eq_true hc
  refine ⟨fun hw hb ho hnf => ?flush, fun hw hrun => answers_flushing hc hw hrun,
    fun hdue hf hy => ⟨fun hu => ?entryUe, fun hu hh hz => ?removes⟩, fun hacc hy => ?resume, fun ht hk hdue => ?expiry⟩
  case flush =>
    have ht : Takes d c x := ⟨hc, hw, hb, ho, hnf⟩
    refine ⟨fun hh => ?halt, fun hh => ⟨fun hu => ?descUe, fun hu hx => ?badTable, fun hu hx hy => ?starts⟩⟩
    case halt => exact answers_of (fun _ => rfl) ht.operands (ht.tblFlush_halt hh)
    case descUe => exact answers_of (fun _ => rfl) ht.operands (ht.tblFlush_descriptorUe hh hu)
    case badTable => exact answers_of (fun _ => rfl) ht.operands (ht.tblFlush_badTable hh hu hx)
    case starts => exact answers_of (fun _ => rfl) ht.operands (ht.tblFlush_starts hh hu hx hy)
  case entryUe => exact answers_of (fun _ => rfl) hring (opTblFlushDone_entryUe hdue hf hy hu)
  case removes => exact answers_of (fun _ => rfl) hring (opTblFlushDone_removes hdue hf hy hu hh hz)
  case resume => exact answers_of (fun _ => rfl) hring (opTblResume_accepts hacc hy)
  case expiry => exact answers_of (fun _ => rfl) (tblAt_wf ht hk) (onTimer_due d _ hdue)

end Sys2Proof.Machine
end

/-!
PROOF. The windows: what a command does on a free window, on a busy or unsuited one and on a locked page, once
for every window; and with it the windows of the traffic manager (O29).
-/

section

namespace Sys2Proof.Machine

variable {d e t x y z : Dev} {i : Initiator} {w : Window} {v : Nat} {ok : Dev → Bool} {f : Dev → Dev}

/-! ### A command of a window -/

/-- What a window does with a command once its access is let in. -/
def Dev.windowGo (i : Initiator) (w : Window) (v : Nat) (ok : Dev → Bool) (f : Dev → Dev) (d : Dev) : Dev :=
  if d.flag (winRegs w).busy || !ok d then d.winRefuse i w v
  else (f (d.put (winRegs w).err 0)).put (winRegs w).busy 1

theorem window_writes (d : Dev) : d.window i w v true ok f = d.write i (winRegs w).page (winRegs w).off v (Dev.windowGo i w v ok f) := rfl

theorem window_shows (d : Dev) : d.window i w v false ok f = d.access i (Dev.windowGo i w v ok f) := rfl

/-- An admitted command of a window, on an open page where it writes, is what the window does with it. -/
theorem window_accepts {writes : Bool} (h : d.accepts i = true) (hl : writes = true → d.locked (winRegs w).page = false) :
    d.window i w v writes ok f = d.windowGo i w v ok f := by
  cases writes with
  | false => rw [window_shows, access_accepts _ h]
  | true => rw [window_writes, write_accepts _ _ _ h (hl rfl)]

/-- On a free window a command clears `err`, acts and keeps the window busy. -/
theorem window_acts {writes : Bool} (h : d.accepts i = true) (hl : writes = true → d.locked (winRegs w).page = false)
    (hb : d.flag (winRegs w).busy = false) (hk : ok d = true) :
    d.window i w v writes ok f = (f (d.put (winRegs w).err 0)).put (winRegs w).busy 1 := by
  rw [window_accepts h hl, Dev.windowGo, hb, hk]
  rfl

/-- A command that the window does not suit is refused with `err` and a capture. -/
theorem window_unsuited {writes : Bool} (h : d.accepts i = true) (hl : writes = true → d.locked (winRegs w).page = false)
    (hk : ok d = false) : d.window i w v writes ok f = d.winRefuse i w v := by
  rw [window_accepts h hl, Dev.windowGo, hk, Bool.not_false, Bool.or_true]
  rfl

/-- On a busy window a command is refused with `err` and a capture. -/
theorem window_busy {writes : Bool} (h : d.accepts i = true) (hl : writes = true → d.locked (winRegs w).page = false)
    (hb : d.flag (winRegs w).busy = true) : d.window i w v writes ok f = d.winRefuse i w v := by
  rw [window_accepts h hl, Dev.windowGo, hb, Bool.true_or]
  rfl

/-- A command that writes is a lock violation on a locked page. -/
theorem window_locked (h : d.accepts i = true) (hl : d.locked (winRegs w).page = true) :
    d.window i w v true ok f = d.lockViol (winRegs w).page i (winRegs w).off v := by
  rw [window_writes, write_locked _ _ _ h hl]

/-- The command `c` is command `v` of window `w`; `writes` says that it writes a record. -/
def WindowCommand (i : Initiator) (c : Instr) (w : Window) (v : Nat) (writes : Bool) : Prop :=
  ∃ ok f, ∀ s, exec c s = effect (Dev.window i w v writes ok f) s

theorem WindowCommand.busy {c : Instr} {writes : Bool} (hc : WindowCommand i c w v writes) (h : d.accepts i = true)
    (hl : writes = true → d.locked (winRegs w).page = false) (hb : d.flag (winRegs w).busy = true) :
    Answers c d (d.winRefuse i w v) := by
  obtain ⟨_, _, hex⟩ := hc
  exact answers_of_effect hex (window_busy h hl hb)

theorem WindowCommand.locked {c : Instr} (hc : WindowCommand i c w v true) (h : d.accepts i = true)
    (hl : d.locked (winRegs w).page = true) : Answers c d (d.lockViol (winRegs w).page i (winRegs w).off v) := by
  obtain ⟨_, _, hex⟩ := hc
  exact answers_of_effect hex (window_locked h hl)

/-! ### The windows of the traffic manager (R122, R126, R127) -/

section TrafficManager
variable {s n : Nat} {staged : Bool} (h : d.accepts i = true)
include h

section Stream
variable (hb : d.flag TRM_STR_STAT_busy = false) (hy : y = d.put TRM_STR_STAT_err 0) (hs : s = y.get TRM_STR_SEL_stream)
include hb hy hs

theorem opStreamRead_acts (hv : v = (if staged && y.trm.streamsD.contains s then NMap.get 0 y.trm.streamsS s else y.stream s)) :
    opStreamRead i staged d = (y.loadWords TRM_STR_DATA 5 v).put TRM_STR_STAT_busy 1 := by
  subst hv hs hy
  exact window_acts h nofun hb rfl

theorem opStreamStage_acts (hl : d.locked (winRegs .stream).page = false) (hz : z = ({ y with trm := { y.trm with
      streamsS := NMap.set 0 y.trm.streamsS s (y.readWords TRM_STR_DATA 5),
      streamsD := y.trm.streamsD.filter (fun e => e != s) ++ [s] } } : Dev)) :
    opStreamStage i d = z.put TRM_STR_STAT_busy 1 := by
  subst hz hs hy
  exact window_acts h (fun _ => hl) hb rfl

theorem opStreamCounters_acts (hz : z = y.each (List.range 8) (fun j t =>
      let t := t.wr (TRM_STR_CNT j) (BitVec.ofNat 32 (NMap.get 0 t.trm.streamCnt (s * 8 + j)))
      { t with trm := { t.trm with streamCnt := NMap.set 0 t.trm.streamCnt (s * 8 + j) 0 } })) :
    opStreamCounters i d = z.put TRM_STR_STAT_busy 1 := by
  subst hz hs hy
  exact window_acts h nofun hb rfl

end Stream

section StreamGate
variable (hb : d.flag TRM_SG_STAT_busy = false) (hy : y = d.put TRM_SG_STAT_err 0) (hs : s = y.get TRM_SG_SEL_gate)

include hb hy hs in
theorem opSgRead_acts (hv : v = (if y.flag TRM_SG_SEL_target then y.gateEnt s (y.get TRM_SG_SEL_bank) (y.get TRM_SG_SEL_entry)
      else if staged && y.trm.gatesD.contains s then NMap.get 0 y.trm.gatesS s else y.gateRec s)) :
    opSgRead i staged d = (y.loadWords TRM_SG_DATA 4 v).put TRM_SG_STAT_busy 1 := by
  subst hv hs hy
  exact window_acts h nofun hb rfl

/-- A write of a gate entry suits a bank that is neither operational nor pending. -/
theorem opSgWrite_busyBank (hl : d.locked (winRegs .streamGate).page = false) (ht : d.flag TRM_SG_SEL_target = true)
    (hk : (d.gateRun (d.get TRM_SG_SEL_gate)).bankBusy (d.get TRM_SG_SEL_bank) = true) :
    opSgWrite i d = d.winRefuse i .streamGate 2 :=
  window_unsuited h (fun _ => hl) (by rw [ht, hk]; rfl)

variable (hl : d.locked (winRegs .streamGate).page = false) (hn : n = y.readWords TRM_SG_DATA 4)
include hb hy hs hl hn

theorem opSgWrite_entry (ht : d.flag TRM_SG_SEL_target = true) (hty : y.flag TRM_SG_SEL_target = true)
    (hk : (d.gateRun (d.get TRM_SG_SEL_gate)).bankBusy (d.get TRM_SG_SEL_bank) = false)
    (hz : z = ({ y with trm := { y.trm with
      gateEnt := NMap.set 0 y.trm.gateEnt (s * 128 + y.get TRM_SG_SEL_bank * 64 + y.get TRM_SG_SEL_entry) (n % 2 ^ 37) } } : Dev)) :
    opSgWrite i d = z.put TRM_SG_STAT_busy 1 := by
  rw [opSgWrite, window_acts h (fun _ => hl) hb (by rw [ht, hk]; rfl)]
  subst hz hn hs hy
  exact congrArg (fun t : Dev => t.put TRM_SG_STAT_busy 1) (if_pos hty)

theorem opSgWrite_record (ht : d.flag TRM_SG_SEL_target = false) (hty : y.flag TRM_SG_SEL_target = false)
    (hz : z = ({ y with trm := { y.trm with
      gatesS := NMap.set 0 y.trm.gatesS s n, gatesD := y.trm.gatesD.filter (fun e => e != s) ++ [s] } } : Dev)) :
    opSgWrite i d = z.put TRM_SG_STAT_busy 1 := by
  rw [opSgWrite, window_acts h (fun _ => hl) hb (by rw [ht]; rfl)]
  subst hz hn hs hy
  exact congrArg (fun t : Dev => t.put TRM_SG_STAT_busy 1) (if_neg (Bool.eq_false_iff.mp hty))

end StreamGate

section Recovery
variable (hb : d.flag TRM_FR_STAT_busy = false) (hy : y = d.put TRM_FR_STAT_err 0) (hs : s = y.get TRM_FR_SEL_fn)
include hb hy hs

theorem opRecoveryRead_acts (hv : v = (if staged && y.trm.recsD.contains s then NMap.get 0 y.trm.recsS s else y.recRec s))
    (hz : z = y.loadWords TRM_FR_DATA 2 v) :
    opRecoveryRead i staged d = (((z.put TRM_FR_ST0_take_any (if (y.recov s).takeAny then 1 else 0)).put TRM_FR_ST0_seq
      (y.recov s).seq).put TRM_FR_ST1_history (y.recov s).history).put TRM_FR_STAT_busy 1 := by
  subst hz hv hs hy
  exact window_acts h nofun hb rfl

theorem opRecoveryStage_acts (hl : d.locked (winRegs .recovery).page = false) (hz : z = ({ y with trm := { y.trm with
      recsS := NMap.set 0 y.trm.recsS s (y.readWords TRM_FR_DATA 2),
      recsD := y.trm.recsD.filter (fun e => e != s) ++ [s] } } : Dev)) :
    opRecoveryStage i d = z.put TRM_FR_STAT_busy 1 := by
  subst hz hs hy
  exact window_acts h (fun _ => hl) hb rfl

theorem opRecoveryCounters_acts (hz : z = y.each (List.range 8) (fun j t =>
      let t := t.wr (TRM_FR_CNT j) (BitVec.ofNat 32 (NMap.get 0 t.trm.recCnt (s * 8 + j)))
      { t with trm := { t.trm with recCnt := NMap.set 0 t.trm.recCnt (s * 8 + j) 0 } })) :
    opRecoveryCounters i d = z.put TRM_FR_STAT_busy 1 := by
  subst hz hs hy
  exact window_acts h nofun hb rfl

end Recovery

section GateList
variable (hb : d.flag TRM_GCL_STAT_busy = false) (hy : y = d.put TRM_GCL_STAT_err 0)

include hb hy in
theorem opGclRead_acts (hp : d.get TRM_GCL_SEL_port ≤ 56) (hv : v = NMap.get 0 y.trm.gcl y.gclSel) :
    opGclRead i d = (((y.put TRM_GCL_DATA_LO_interval (nb v 31 0)).put TRM_GCL_DATA_HI_op (nb v 41 40)).put TRM_GCL_DATA_HI_gates
      (nb v 39 32)).put TRM_GCL_STAT_busy 1 := by
  subst hv hy
  exact window_acts h nofun hb (decide_eq_true hp)

include hb hy in
theorem opGclWrite_acts (hl : d.locked (winRegs .gcl).page = false) (hp : d.get TRM_GCL_SEL_port ≤ 56)
    (hk : (d.tas (d.get TRM_GCL_SEL_port)).bankBusy (d.get TRM_GCL_SEL_bank) = false)
    (hv : v = y.get TRM_GCL_DATA_LO_interval + y.get TRM_GCL_DATA_HI_gates * 2 ^ 32 + y.get TRM_GCL_DATA_HI_op * 2 ^ 40)
    (hz : z = ({ y with trm := { y.trm with gcl := NMap.set 0 y.trm.gcl y.gclSel v } } : Dev)) :
    opGclWrite i d = z.put TRM_GCL_STAT_busy 1 := by
  subst hz hv hy
  exact window_acts h (fun _ => hl) hb (by rw [hk, decide_eq_true hp]; rfl)

/-- A port above 56 has no gate list. -/
theorem opGclRead_noList (hp : 56 < d.get TRM_GCL_SEL_port) : opGclRead i d = d.winRefuse i .gcl 1 :=
  window_unsuited h nofun (decide_eq_false (not_le.mpr hp))

theorem opGclWrite_unsuited (hl : d.locked (winRegs .gcl).page = false)
    (hu : 56 < d.get TRM_GCL_SEL_port ∨ (d.tas (d.get TRM_GCL_SEL_port)).bankBusy (d.get TRM_GCL_SEL_bank) = true) :
    opGclWrite i d = d.winRefuse i .gcl 2 := by
  refine window_unsuited h (fun _ => hl) ?_
  obtain hp | hk := hu
  · rw [decide_eq_false (not_le.mpr hp), Bool.false_and]
  · rw [hk, Bool.not_true, Bool.and_false]

end GateList

end TrafficManager

/-- The commands of the traffic manager's windows; the ones that write are command 2. -/
theorem trafficCommand_of_mem {staged : Bool} {c : Instr × Window × Nat} (hc : c ∈ [(.streamRead i staged, .stream, 1),
    (.streamStage i, .stream, 2), (.streamCountersCopy i, .stream, 3), (.streamGateRead i staged, .streamGate, 1),
    (.streamGateWrite i, .streamGate, 2), (.recoveryRead i staged, .recovery, 1), (.recoveryStage i, .recovery, 2),
    (.recoveryCountersCopy i, .recovery, 3), (.gclRead i, .gcl, 1), (.gclWrite i, .gcl, 2)]) :
    ∃ writes : Bool, (writes = true → c.2.2 = 2) ∧ WindowCommand i c.1 c.2.1 c.2.2 writes := by
  revert c
  simp only [List.forall_mem_cons]
  exact ⟨⟨false, nofun, _, _, fun _ => rfl⟩, ⟨true, fun _ => trivial, _, _, fun _ => rfl⟩, ⟨false, nofun, _, _, fun _ => rfl⟩,
    ⟨false, nofun, _, _, fun _ => rfl⟩, ⟨true, fun _ => trivial, _, _, fun _ => rfl⟩, ⟨false, nofun, _, _, fun _ => rfl⟩,
    ⟨true, fun _ => trivial, _, _, fun _ => rfl⟩, ⟨false, nofun, _, _, fun _ => rfl⟩, ⟨false, nofun, _, _, fun _ => rfl⟩,
    ⟨true, fun _ => trivial, _, _, fun _ => rfl⟩, List.forall_mem_nil _⟩

theorem trafficWrite_of_mem {c : Instr × Window × Nat} (hc : c ∈ [(.streamStage i, .stream, 2), (.streamGateWrite i, .streamGate, 2),
    (.recoveryStage i, .recovery, 2), (.gclWrite i, .gcl, 2)]) : WindowCommand i c.1 c.2.1 c.2.2 true := by
  revert c
  simp only [List.forall_mem_cons]
  exact ⟨⟨_, _, fun _ => rfl⟩, ⟨_, _, fun _ => rfl⟩, ⟨_, _, fun _ => rfl⟩, ⟨_, _, fun _ => rfl⟩, List.forall_mem_nil _⟩

/-- Settles O29: the windows of the traffic manager by what every window does with a command. -/
theorem windowCommandsAct : Obligations.WindowCommandsAct := by
  intro d y z i w staged s n v
  refine ⟨fun h hb hy hs => ⟨fun hv => ?streamRead, fun hl hz => ?streamStage, fun hz => ?streamCounters⟩,
    fun h hb hy hs hn => ⟨fun hv => ?gateRead, fun hl ht hty => ⟨fun hk hz => ?gateEntry, fun hk => ?gateBank⟩,
      fun hl ht hty hz => ?gateRecord⟩,
    fun h hb hy hs => ⟨fun hv hz => ?recRead, fun hl hz => ?recStage, fun hz => ?recCounters⟩,
    fun h hb hy => ⟨fun hp hv => ?gclRead, fun hl hp hk hv hz => ?gclWrite, fun hp => ?gclNoList, fun hl hu => ?gclUnsuited⟩,
    ?busy, ?locked, answers_of_effect (fun _ => rfl) rfl⟩
  case streamRead => exact answers_of_effect (fun _ => rfl) (opStreamRead_acts h hb hy hs hv)
  case streamStage => exact answers_of_effect (fun _ => rfl) (opStreamStage_acts h hb hy hs hl hz)
  case streamCounters => exact answers_of_effect (fun _ => rfl) (opStreamCounters_acts h hb hy hs hz)
  case gateRead => exact answers_of_effect (fun _ => rfl) (opSgRead_acts h hb hy hs hv)
  case gateEntry => exact answers_of_effect (fun _ => rfl) (opSgWrite_entry h hb hy hs hl hn ht hty hk hz)
  case gateBank => exact answers_of_effect (fun _ => rfl) (opSgWrite_busyBank h hl ht hk)
  case gateRecord => exact answers_of_effect (fun _ => rfl) (opSgWrite_record h hb hy hs hl hn ht hty hz)
  case recRead => exact answers_of_effect (fun _ => rfl) (opRecoveryRead_acts h hb hy hs hv hz)
  case recStage => exact answers_of_effect (fun _ => rfl) (opRecoveryStage_acts h hb hy hs hl hz)
  case recCounters => exact answers_of_effect (fun _ => rfl) (opRecoveryCounters_acts h hb hy hs hz)
  case gclRead => exact answers_of_effect (fun _ => rfl) (opGclRead_acts h hb hy hp hv)
  case gclWrite => exact answers_of_effect (fun _ => rfl) (opGclWrite_acts h hb hy hl hp hk hv hz)
  case gclNoList => exact answers_of_effect (fun _ => rfl) (opGclRead_noList h hp)
  case gclUnsuited => exact answers_of_effect (fun _ => rfl) (opGclWrite_unsuited h hl hu)
  case busy =>
    intro c hc h hl hb
    obtain ⟨writes, hw, hwin⟩ := trafficCommand_of_mem hc
    exact hwin.busy h (fun hwr => hl (hw hwr)) hb
  case locked =>
    intro c hc h hl
    exact (trafficWrite_of_mem hc).locked h hl

end Sys2Proof.Machine
end

/-!
PROOF. The time servo: its samples, the adjustments of device time and the egress timestamp queues (O31).
-/

section

namespace Sys2Proof.Machine

variable {d u x y z : Dev} {i : Initiator} {v : Word} {e : Nat} {s : Sample}

/-! ### The submission of a sample (R132) -/

/-- A sample of software is refused where the source or the slot does not match. -/
theorem sampleRefused_software (hs : s.cascade = false) :
    d.sampleRefused s = true ↔ d.get TIM_SRC_src ≠ 1 ∨ s.slot ≠ d.get TIM_SRC_slot := by
  simp [Dev.sampleRefused, hs]

theorem latchSample_eq (hx : x = d.armIn ⟨.sampleApply, 0, 0⟩ (timT 4)) :
    d.latchSample s = { x with tim := { d.tim with sample := some s } } := by
  subst hx
  rfl

section Submit
variable {gen slot : Nat} (h : d.accepts i = true) (hz : z = (if d.locked pgTIM = true then d.lockViol pgTIM i 0x150 v.toNat else d))
  (hgen : gen = (if d.locked pgTIM = true then z.get TIM_MEAS_CTL_gen else bitsOf v 15 8))
  (hslot : slot = (if d.locked pgTIM = true then z.get TIM_MEAS_CTL_slot else bitsOf v 5 4))
  (hy : y = (z.put TIM_MEAS_CTL_gen gen).put TIM_MEAS_CTL_slot slot)
include h hz hgen hslot hy

theorem opSampleSubmit_stores (hv : v.getLsbD 0 = false) : opSampleSubmit i v d = y := by
  subst hy hgen hslot hz
  exact (writeMixed_accepts _ h).trans (if_pos (by rw [hv]; rfl))

variable (hs : s = { e := signed 64 (y.rd64 TIM_MEAS_E_LO TIM_MEAS_E_HI), t := y.rd64 TIM_MEAS_T_LO TIM_MEAS_T_HI,
                         slot := slot, gen := gen, cascade := false }) (hv : v.getLsbD 0 = true)
include hs hv

theorem opSampleSubmit_refused (hr : (z.flag TIM_MEAS_CTL_submit || y.sampleRefused s) = true) :
    opSampleSubmit i v d = y.count TIM_REFUSED := by
  subst hs hy hgen hslot hz
  exact (writeMixed_accepts _ h).trans ((if_neg (by rw [hv]; decide)).trans (if_pos hr))

theorem opSampleSubmit_latched (hr : (z.flag TIM_MEAS_CTL_submit || y.sampleRefused s) = false) :
    opSampleSubmit i v d = (y.put TIM_MEAS_CTL_submit 1).latchSample s := by
  subst hs hy hgen hslot hz
  exact (writeMixed_accepts _ h).trans ((if_neg (by rw [hv]; decide)).trans (if_neg (Bool.eq_false_iff.mp hr)))

end Submit

/-! ### The application of a sample (R133) -/

/-- The sample is taken out of its latch, and a sample of software clears `submit`. -/
theorem opSampleApply_takes (hdue : d.due ⟨.sampleApply, 0, 0⟩ = some e) (hs : d.tim.sample = some s)
    (hx : x = ({ d.cancel ⟨.sampleApply, 0, 0⟩ with tim := { d.tim with sample := none } } : Dev))
    (hy : y = (if s.cascade = true then x else x.put TIM_MEAS_CTL_submit 0)) : opSampleApply d = y.applySample s := by
  subst hy hx
  rw [opSampleApply, endTimer_due d _ hdue]
  simp only [Dev.cancel_tim, hs]

theorem applySample_refused (hr : d.sampleRefused s = true) : d.applySample s = d.count TIM_REFUSED := if_pos hr

theorem applySample_stale (hr : d.sampleRefused s = false) (ht : s.t < d.tim.tStep) : d.applySample s = d.count TIM_STALE := by
  rw [Dev.applySample, if_neg (Bool.eq_false_iff.mp hr), if_pos ht]

/-- A sample is no outlier outside LOCKED, of a new master, near enough or at the limit of its run. -/
theorem not_outlier {m : Bool} (hin : d.get TIM_STAT_state ≠ 2 ∨ m = true ∨ s.e.natAbs ≤ d.get TIM_OUTLIER_ns * 65536 ∨
      d.get TIM_OUTLIER_cnt ≤ d.tim.outlRun + 1) :
    ¬ (d.get TIM_STAT_state = 2 ∧ (!m) = true ∧ d.get TIM_OUTLIER_ns * 65536 < s.e.natAbs ∧
      d.tim.outlRun + 1 < d.get TIM_OUTLIER_cnt) := by
  rintro ⟨hst, hm, ho, hrun⟩
  obtain h | h | h | h := hin
  · exact h hst
  · rw [h] at hm; cases hm
  · exact absurd ho (not_lt.mpr h)
  · exact absurd hrun (not_lt.mpr h)

section Fresh
variable (hr : d.sampleRefused s = false) (ht : d.tim.tStep ≤ s.t)
include hr ht

theorem applySample_outlier (hst : d.get TIM_STAT_state = 2) (hm : (s.gen != d.get TIM_STAT_gen) = false)
    (ho : d.get TIM_OUTLIER_ns * 65536 < s.e.natAbs) (hrun : d.tim.outlRun + 1 < d.get TIM_OUTLIER_cnt)
    (hz : z = ({ d with tim := { d.tim with outlRun := d.tim.outlRun + 1 } } : Dev)) :
    d.applySample s = (z.count TIM_OUTLIERS).raise pgTIM 11 := by
  subst hz
  rw [Dev.applySample, if_neg (Bool.eq_false_iff.mp hr), if_neg (not_lt.mpr ht)]
  exact if_pos ⟨hst, by rw [hm]; rfl, ho, hrun⟩

variable {m : Bool} {rate : Int} {w : Dev} (hm : m = (s.gen != d.get TIM_STAT_gen)) (hrate : rate = (if m = true then d.integ else d.rateQ))
  (hin : ¬ (d.get TIM_STAT_state = 2 ∧ (!m) = true ∧ d.get TIM_OUTLIER_ns * 65536 < s.e.natAbs ∧
    d.tim.outlRun + 1 < d.get TIM_OUTLIER_cnt))
  (hz : z = ((({ d with tim := { d.tim with outlRun := 0 } } : Dev).wrapInc ⟨TIM_SAMPLES, 31, 0⟩).put TIM_STAT_gen s.gen).wr
    TIM_LAST_E (BitVec.ofNat 32 (unsigned 32 (sat32 (s.e / 65536)))))
  (hw : w = z.armIn ⟨.holdover, 0, 0⟩ (msT (z.get TIM_HOLD_TMO_ms)))
include hm hrate hin hz hw

theorem applySample_steps (hthr : w.get TIM_STEP_THR_ns * 65536 ≤ s.e.natAbs) (hu : u = (w.servo rate 0).stepTime s.e) :
    d.applySample s = ({ u with tim := { u.tim with tPrev := s.t + s.e / 65536 } } : Dev).accepted s.e m true := by
  subst hu hw hz hrate hm
  rw [Dev.applySample, if_neg (Bool.eq_false_iff.mp hr), if_neg (not_lt.mpr ht)]
  exact (if_neg hin).trans (if_pos hthr)

variable {iv : Int} (hiv : iv = s.t - w.tim.tPrev) (hthr : s.e.natAbs < w.get TIM_STEP_THR_ns * 65536)
  (hu : u = ({ w with tim := { w.tim with tPrev := s.t } } : Dev))
include hiv hthr hu

theorem applySample_restarts (hn : m = true ∨ iv ≤ 0 ∨ (u.get TIM_HOLD_TMO_ms : Int) * 1000000 < iv) :
    d.applySample s = (u.servo rate 0).accepted s.e m false := by
  subst hu hiv hw hz hrate hm
  rw [Dev.applySample, if_neg (Bool.eq_false_iff.mp hr), if_neg (not_lt.mpr ht)]
  exact (if_neg hin).trans ((if_neg (not_le.mpr hthr)).trans (if_pos hn))

theorem applySample_servoes {r integ : Int} (hn : m = false) (hiv0 : 0 < iv) (hiv1 : iv ≤ (u.get TIM_HOLD_TMO_ms : Int) * 1000000)
    (hr' : r = (s.e * 2 ^ 24).tdiv iv) (hint : integ = u.clampRate (u.integ + r / 2 ^ u.get TIM_SERVO_CFG_ki)) :
    d.applySample s =
      ((u.setInteg integ).servo (u.clampRate (integ + r / 2 ^ u.get TIM_SERVO_CFG_kp)) 0).accepted s.e m false := by
  have hno : ¬ (m = true ∨ iv ≤ 0 ∨ (u.get TIM_HOLD_TMO_ms : Int) * 1000000 < iv) := by
    rintro (h | h | h)
    · exact absurd h (Bool.eq_false_iff.mp hn)
    · omega
    · omega
  subst hint hr' hu hiv hw hz hrate hm
  rw [Dev.applySample, if_neg (Bool.eq_false_iff.mp hr), if_neg (not_lt.mpr ht)]
  exact (if_neg hin).trans ((if_neg (not_le.mpr hthr)).trans (if_neg hno))

end Fresh

/-! ### The holdover (R135) -/

theorem opHoldoverTimeout_enters (hdue : d.due ⟨.holdover, 0, 0⟩ = some e) (hy : y = (d.at_ e).cancel ⟨.holdover, 0, 0⟩)
    (hst : y.get TIM_STAT_state = 1 ∨ y.get TIM_STAT_state = 2) (hz : z = (y.put TIM_STAT_state 3).raise pgTIM 8) :
    opHoldoverTimeout d = ((z.servo z.integ 0).put TIM_STAT_lock_run 0).raise pgTIM 9 := by
  subst hz hy
  rw [opHoldoverTimeout, onTimer_due d _ hdue]
  refine (if_pos hst).trans ((if_neg ?_).trans (if_pos rfl))
  rintro h3
  rw [h3] at hst
  omega

theorem opHoldoverTimeout_keeps (hdue : d.due ⟨.holdover, 0, 0⟩ = some e) (hy : y = (d.at_ e).cancel ⟨.holdover, 0, 0⟩)
    (h1 : y.get TIM_STAT_state ≠ 1) (h2 : y.get TIM_STAT_state ≠ 2) : opHoldoverTimeout d = y := by
  subst hy
  rw [opHoldoverTimeout, onTimer_due d _ hdue]
  exact if_neg (not_or.mpr ⟨h1, h2⟩)

/-! ### The adjustments (R129) -/

/-- With source 0 or 3 an adjustment acts one tick after its write. -/
theorem adj_acts {c : Nat} {f : Dev → Dev} (h : d.accepts i = true) (hs : d.get TIM_SRC_src = 0 ∨ d.get TIM_SRC_src = 3) :
    d.adj i c f = f (d.at_ (d.now + timT 1)) := (access_accepts _ h).trans (if_pos hs)

/-- With another source it sets ERR. -/
theorem adj_errs {c : Nat} {f : Dev → Dev} (h : d.accepts i = true) (h0 : d.get TIM_SRC_src ≠ 0) (h3 : d.get TIM_SRC_src ≠ 3) :
    d.adj i c f = d.setErr pgTIM i 0x178 c := (access_accepts _ h).trans (if_neg (not_or.mpr ⟨h0, h3⟩))

/-! ### The egress timestamp queues (R141) -/

section Queue
variable {p : EthPort} {m : Bool} (h : d.accepts i = true) (hy : y = (if m = true then d.tsqMismatch p else d))
include h hy

theorem opTsqRead_drained (hq : y.tsqItems p = []) :
    opTsqRead i p m d = (y.wr (TIM_TSQ_HI p) 0xF0000000).emit (.readValue i (TIM_TSQ_LO p) 0) := by
  rw [opTsqRead, access_accepts _ h]
  simp only [← hy, hq]

theorem opTsqRead_head {n : Nat} {rest : List Nat} (hq : y.tsqItems p = n :: rest) :
    opTsqRead i p m d = ((y.setTsq p rest).wr (TIM_TSQ_HI p) (BitVec.ofNat 32 (n / 2 ^ 32))).emit
      (.readValue i (TIM_TSQ_LO p) (BitVec.ofNat 32 n)) := by
  rw [opTsqRead, access_accepts _ h]
  simp only [← hy, hq]

end Queue

/-- Settles O31: the time servo from a sample's submission to its effect on device time. -/
theorem timeServoActs : Obligations.TimeServoActs := by
  intro d u w x y z i v e n gen slot rest s p m rate integ r iv
  refine ⟨fun h hz hgen hslot hy hs => ⟨fun hv => ?stores, fun hv hr => ?refused, fun hv hb hs1 hs2 hx => ?latched⟩,
    fun hdue hsm hx hy => ⟨fun hr => ?applyRefused, fun hr ht => ?stale, fun hr ht hm hrate => ⟨fun hst hm0 ho hrun hz => ?outlier,
      fun hin hz hw hiv => ⟨fun hthr hu => ?steps, fun hthr hu => ⟨fun hn => ?restarts, fun hn h0 h1 hr' hi => ?servoes⟩⟩⟩⟩,
    fun hdue hy hz => ⟨fun hst => ?holdover, fun h1 h2 => ?holdKeeps⟩,
    fun h hs hy => ⟨?adjStep, ?adjSet, fun hrate => ?adjRate⟩,
    fun h h0 h3 => ⟨?errStep, ?errSet, ?errRate⟩,
    fun h hy => ⟨fun hq => ?tsqEmpty, fun hq => ?tsqHead⟩, fun h hl => ?capSel, fun h hl => ?capSelLocked, fun h hy => ?capClear⟩
  case stores => exact answers_of_effect (fun _ => rfl) (opSampleSubmit_stores h hz hgen hslot hy hv)
  case refused =>
    refine answers_of_effect (fun _ => rfl) (opSampleSubmit_refused h hz hgen hslot hy hs hv ?_)
    rw [Bool.or_eq_true, sampleRefused_software (by rw [hs])]
    rwa [hs]
  case latched =>
    have hno : (z.flag TIM_MEAS_CTL_submit || y.sampleRefused s) = false := by
      rw [hb, Bool.false_or, Bool.eq_false_iff, ne_eq, sampleRefused_software (by rw [hs]), hs]
      exact fun hor => hor.elim (fun h1 => h1 hs1) (fun h2 => h2 hs2)
    refine answers_of_effect (fun _ => rfl) ((opSampleSubmit_latched h hz hgen hslot hy hs hv hno).trans (latchSample_eq hx))
  case applyRefused =>
    exact answers_of_effect (fun _ => rfl) (congrArg (Dev.afterStep · d) ((opSampleApply_takes hdue hsm hx hy).trans (applySample_refused hr)))
  case stale =>
    exact answers_of_effect (fun _ => rfl) (congrArg (Dev.afterStep · d) ((opSampleApply_takes hdue hsm hx hy).trans (applySample_stale hr ht)))
  case outlier =>
    exact answers_of_effect (fun _ => rfl) (congrArg (Dev.afterStep · d)
      ((opSampleApply_takes hdue hsm hx hy).trans (applySample_outlier hr ht hst (hm ▸ hm0) ho hrun hz)))
  case steps =>
    exact answers_of_effect (fun _ => rfl) (congrArg (Dev.afterStep · d)
      ((opSampleApply_takes hdue hsm hx hy).trans (applySample_steps hr ht hm hrate (not_outlier hin) hz hw hthr hu)))
  case restarts =>
    exact answers_of_effect (fun _ => rfl) (congrArg (Dev.afterStep · d)
      ((opSampleApply_takes hdue hsm hx hy).trans (applySample_restarts hr ht hm hrate (not_outlier hin) hz hw hiv hthr hu hn)))
  case servoes =>
    exact answers_of_effect (fun _ => rfl) (congrArg (Dev.afterStep · d)
      ((opSampleApply_takes hdue hsm hx hy).trans
        (applySample_servoes hr ht hm hrate (not_outlier hin) hz hw hiv hthr hu hn h0 h1 hr' hi)))
  case holdover => exact answers_of_effect (fun _ => rfl) (opHoldoverTimeout_enters hdue hy hst hz)
  case holdKeeps => exact answers_of_effect (fun _ => rfl) (opHoldoverTimeout_keeps hdue hy h1 h2)
  case adjStep => subst hy; exact answers_of_effect (fun _ => rfl) (congrArg (Dev.afterStep · d) (adj_acts h hs))
  case adjSet => subst hy; exact answers_of_effect (fun _ => rfl) (congrArg (Dev.afterStep · d) (adj_acts h hs))
  case adjRate => subst hrate hy; exact answers_of_effect (fun _ => rfl) (adj_acts h hs)
  case errStep => exact answers_of_effect (fun _ => rfl) (congrArg (Dev.afterStep · d) (adj_errs h h0 h3))
  case errSet => exact answers_of_effect (fun _ => rfl) (congrArg (Dev.afterStep · d) (adj_errs h h0 h3))
  case errRate => exact answers_of_effect (fun _ => rfl) (adj_errs h h0 h3)
  case tsqEmpty => exact answers_of_effect (fun _ => rfl) (opTsqRead_drained h hy hq)
  case tsqHead => exact answers_of_effect (fun _ => rfl) (opTsqRead_head h hy hq)
  case capSel => exact answers_of_effect (fun _ => rfl) (write_accepts _ _ _ h hl)
  case capSelLocked => exact answers_of_effect (fun _ => rfl) (write_locked _ _ _ h hl)
  case capClear => subst hy; exact answers_of_effect (fun _ => rfl) (access_accepts _ h)

end Sys2Proof.Machine
end

/-!
PROOF. The launch slots, from arming to completion, and the pins of the TIM slots with the capture of edges (O32).
-/

section

namespace Sys2Proof.Machine

variable {d y z : Dev} {i : Initiator} {sl : Slot} {w w' : Word}

/-! ### Arming and cancelling (R143, R144) -/

/-- What the unit of a slot takes: the action, the argument and, rearmed, the period. -/
theorem armSlot_ignored (h : accepts sl (ctlAction w) = false ∨ badArgs sl w = true ∨
      (ctlRearm w = true ∧ (d.slot sl).per < minPeriod sl)) :
    d.armSlot i sl w = d.ignoredErr (slotPage sl) i (slotOff sl) w.toNat := by
  refine if_pos ?_
  obtain h | h | ⟨hr, hp⟩ := h
  · rw [h]; rfl
  · rw [h, Bool.or_true, Bool.true_or]
  · rw [hr, decide_eq_true hp, Bool.true_and, Bool.or_true]

theorem armSlot_arms (ha : accepts sl (ctlAction w) = true) (hb : badArgs sl w = false)
    (hp : ctlRearm w = true → minPeriod sl ≤ (d.slot sl).per)
    (hw : w' = BitVec.ofNat 32 (2 ^ 31 + (if ctlRearm w then 2 ^ 30 else 0) + (if (d.slot sl).ctl.getLsbD 29 then 2 ^ 29 else 0) +
      bitsOf w 27 0)) :
    d.armSlot i sl w = (d.setSlot sl { d.slot sl with ctl := w' }).setLate sl
      (if (d.slot sl).time ≤ d.ns + 5 then some (d.ticks + 2) else none) := by
  subst hw
  refine if_neg ?_
  rw [ha, hb, Bool.not_true, Bool.false_or, Bool.false_or, Bool.and_eq_true, decide_eq_true_eq, not_and, not_lt]
  exact hp

theorem disarmSlot_begun (h : d.begun sl = true) : d.disarmSlot sl w = d := if_pos h

theorem disarmSlot_cancels (h : d.begun sl = false)
    (hw : w' = BitVec.ofNat 32 ((if ctlRearm w then 2 ^ 30 else 0) + ((if (d.slot sl).ctl.getLsbD 29 then 2 ^ 29 else 0) +
      (if (d.slot sl).ctl.getLsbD 28 then 2 ^ 28 else 0)) + bitsOf w 27 0))
    (hz : z = (d.setSlot sl { d.slot sl with ctl := w' }).setLate sl none) :
    d.disarmSlot sl w = if sl = .handover ∧ z.get UPD_STAT_state = 5 then z.put UPD_STAT_state 4 else z := by
  subst hz hw
  exact if_neg (Bool.eq_false_iff.mp h)

section Control
variable (hi : d.accepts i = true) (hword : sl.hasWord = true) (hl : d.locked (slotPage sl) = false)
include hi hword hl

/-- An admitted arming of a slot with a control word is the arming of the slot, but for the handover slot. -/
theorem slotArm_answers {e : Dev} (hne : sl ≠ .handover) (hw : w.getLsbD 31 = true) (h : d.armSlot i sl w = e) :
    Answers (.slotArm i sl w) d e := by
  refine answers_of (fun _ => rfl) (by rw [hword, hw]; rfl) ((if_neg hne).trans ?_)
  rw [opSlotArm, if_pos (by rw [hword, ctlArmed, hw, decide_eq_true hne]; rfl), write_accepts _ _ _ hi hl, h]

theorem slotDisarm_answers {e : Dev} (hw : w.getLsbD 31 = false) (h : d.disarmSlot sl w = e) :
    Answers (.slotDisarm i sl w) d e := by
  refine answers_of (fun _ => rfl) (by rw [hword, hw]; rfl) ?_
  rw [opSlotDisarm, if_pos (by rw [hword, ctlArmed, hw]; rfl), write_accepts _ _ _ hi hl, h]

end Control

/-! ### The launch (R146, R147) -/

/-- A slot at its turn executes at its launch time, or at its late tick, and completes; one that was late and owns its
pin is counted. -/
theorem launch_turns {acts : List Nat} {fin : Dev → Dev} (f : Dev → Dev) (ha : d.armed sl = true) (hh : d.pw.halted = false)
    (ht : d.turn (d.turnAt sl (d.slot sl).time) = true)
    (hy : y = (d.lateTick sl).elim (d.atNs (d.slot sl).time) (fun t => d.atTick t))
    (hfin : fin = (fun t => if (d.lateTick sl).isSome && !d.unowned sl then (t.complete sl true).countLate sl
      else t.complete sl false)) (hc : acts.contains (ctlAction (d.slot sl).ctl) = true) :
    d.launch sl acts f = fin (f y) := by
  subst hfin
  cases hl : d.lateTick sl with
  | none =>
    rw [hl] at hy
    subst hy
    exact launch_onTime f ha hc hh ht hl
  | some t =>
    rw [hl] at hy
    subst hy
    cases ho : d.unowned sl <;> simp [Dev.launch, ha, List.contains_iff_mem.mp hc, hh, ht, hl, ho]

/-- In Halt an armed slot completes without its action. -/
theorem opLaunchInHalt_completes (hh : d.pw.halted = true) (hword : sl.hasWord = true) (ha : d.armed sl = true) :
    opLaunchInHalt sl d = (d.atNs (d.slot sl).time).complete sl false := if_pos (by rw [hh, hword, ha]; rfl)

/-! ### The capture of edges (R148) -/

section Capture
variable {g : Nat} {rising : Bool} {j n : Nat}

/-- A channel that does not capture is left as it was. -/
theorem captureEdge_disabled (h : d.flag (TIM_CAP_CFG_en j) = false) : d.captureEdge g rising j = d :=
  if_pos (by rw [h]; rfl)

/-- A channel that another pin, an owned pin or the other edge does not concern is left as it was. -/
theorem captureEdge_unwanted (h : (d.flag (TIM_CAP_CFG_en j) && d.get (TIM_CAP_CFG_gpio j) == g && !d.bit TIM_GPIO_OWN g &&
      (d.get (TIM_CAP_CFG_edge j) == 2 || (d.get (TIM_CAP_CFG_edge j) == 0 && rising) ||
        (d.get (TIM_CAP_CFG_edge j) == 1 && !rising))) = false) : d.captureEdge g rising j = d := by
  refine if_pos ?_
  simp only [Bool.and_eq_false_iff, Bool.or_eq_false_iff] at h
  simp only [Bool.or_eq_true, Bool.not_eq_true']
  obtain ((h | h) | h) | h := h
  · exact .inl (.inl (.inl h))
  · exact .inl (.inl (.inr (by rw [bne, h]; rfl)))
  · exact .inl (.inr (by simpa using h))
  · exact .inr (by simpa [not_or, and_assoc, imp_iff_not_or] using h)

/-- The edge at a channel that wants it. -/
theorem captureEdge_wanted (h : (d.flag (TIM_CAP_CFG_en j) && d.get (TIM_CAP_CFG_gpio j) == g && !d.bit TIM_GPIO_OWN g &&
      (d.get (TIM_CAP_CFG_edge j) == 2 || (d.get (TIM_CAP_CFG_edge j) == 0 && rising) ||
        (d.get (TIM_CAP_CFG_edge j) == 1 && !rising))) = true) (hn : n = NMap.get 0 d.tim.lastEdge j)
    (hy : y = ({ d with tim := { d.tim with lastEdge := NMap.set 0 d.tim.lastEdge j d.now } } : Dev))
    (hz : z = y.wr64 (TIM_CAP_T_LO j) (TIM_CAP_T_HI j) ((y.tq - 491520) / 65536 % 2 ^ 64).toNat) :
    d.captureEdge g rising j = if n ≠ 0 ∧ d.now < n + nsT 20 then y
      else if y.tim.capHeld.contains j then y.count (TIM_CAP_OVR j)
      else ({ z with tim := { z.tim with capHeld := z.tim.capHeld ++ [j] } } : Dev).raise pgTIM 17 := by
  subst hz hy hn
  simp only [Bool.and_eq_true, Bool.or_eq_true, beq_iff_eq, Bool.not_eq_true'] at h
  obtain ⟨⟨⟨hen, hg⟩, hown⟩, hedge⟩ := h
  have hgo : ¬ (!d.flag (TIM_CAP_CFG_en j) || d.get (TIM_CAP_CFG_gpio j) != g || d.bit TIM_GPIO_OWN g ||
      !decide (d.get (TIM_CAP_CFG_edge j) = 2 ∨ d.get (TIM_CAP_CFG_edge j) = 0 ∧ rising = true ∨
        d.get (TIM_CAP_CFG_edge j) = 1 ∧ (!rising) = true)) = true := by
    simp only [hen, hg, hown, Bool.not_true, bne_self_eq_false, Bool.or_self, Bool.false_or, Bool.not_eq_true',
      decide_eq_false_iff_not, not_not, Bool.not_eq_true']
    tauto
  refine (if_neg hgo).trans ?_
  simp only [Bool.and_eq_true, decide_eq_true_eq]

/-- An edge at a pin that one channel alone listens to is that channel's edge. -/
theorem opGpioEdge_only {p : Gpio} (hj : j < 4) (hother : ∀ j', j' < 4 → j' ≠ j → d.flag (TIM_CAP_CFG_en j') = false)
    (hy : d.captureEdge p rising j = y) (hafter : ∀ j', j' < 4 → j' ≠ j → y.flag (TIM_CAP_CFG_en j') = false) :
    opGpioEdge p rising d = y := by
  have hb : ∀ k, k < 4 → k ≠ j → d.captureEdge p rising k = d := fun k hk hne => captureEdge_disabled (hother k hk hne)
  have ha : ∀ k, k < 4 → k ≠ j → y.captureEdge p rising k = y := fun k hk hne => captureEdge_disabled (hafter k hk hne)
  obtain rfl | rfl | rfl | rfl : j = 0 ∨ j = 1 ∨ j = 2 ∨ j = 3 := by omega
  all_goals simp [opGpioEdge, Dev.each, ha, hb, hy]

end Capture

/-- Settles O32: the slots from arming to completion, the pins and the capture of edges. -/
theorem slotsAndPinsAct : Obligations.SlotsAndPinsAct := by
  intro d y z fin i sl w w' k g e j n rising wanted hj
  refine ⟨fun hi hword hsl hl => ⟨fun hw => ⟨fun hbad => ?ignored, fun ha hb hp hw' => ?arms⟩, fun hw hbg => ?begun,
      fun hw hbg hw' hz => ?cancels⟩,
    fun ha hh ht hy hfin => ⟨fun hk hn => ⟨fun hc => ?high, fun hc => ?low, fun hc => ?toggle, fun hc ho => ?pulse,
      fun hc ho => ?pulseUnowned, fun hc => ?message⟩, fun hword hwf hc => ?none⟩,
    fun hh hword hwf ha => ?inHalt, fun hdue => ?pulseEnd, fun hi hl hy => ?owned,
    fun hwant hother => ⟨fun hno => ?unwanted, fun hyes hn hy hoy => ⟨fun hn0 hlt => ?close, fun hfar hheld hz hoz => ?overrun,
      fun hfar hheld hz hoz => ?captured⟩⟩⟩
  case ignored => exact slotArm_answers hi hword hl (hsl.resolve_right (by rw [hw]; decide)) hw (armSlot_ignored hbad)
  case arms => exact slotArm_answers hi hword hl (hsl.resolve_right (by rw [hw]; decide)) hw (armSlot_arms ha hb hp hw')
  case begun => exact slotDisarm_answers hi hword hl hw (disarmSlot_begun hbg)
  case cancels => exact slotDisarm_answers hi hword hl hw (disarmSlot_cancels hbg hw' hz)
  case high => subst hk hn; exact answers_of_effect (fun _ => rfl) (launch_turns _ ha hh ht hy hfin (by rw [hc]; rfl))
  case low => subst hk hn; exact answers_of_effect (fun _ => rfl) (launch_turns _ ha hh ht hy hfin (by rw [hc]; rfl))
  case toggle => subst hk hn; exact answers_of_effect (fun _ => rfl) (launch_turns _ ha hh ht hy hfin (by rw [hc]; rfl))
  case pulse =>
    subst hk hn
    exact answers_of_effect (fun _ => rfl) ((launch_turns _ ha hh ht hy hfin (by rw [hc]; rfl)).trans (congrArg fin (if_pos ho)))
  case pulseUnowned =>
    subst hk hn
    exact answers_of_effect (fun _ => rfl) ((launch_turns _ ha hh ht hy hfin (by rw [hc]; rfl)).trans
      (congrArg fin (if_neg (Bool.eq_false_iff.mp ho))))
  case message => subst hk; exact answers_of_effect (fun _ => rfl) (launch_turns _ ha hh ht hy hfin (by rw [hc]; rfl))
  case none =>
    exact answers_of (fun _ => rfl) hwf ((if_pos hword).trans (launch_turns _ ha hh ht hy hfin (by rw [hc]; rfl)))
  case inHalt => exact answers_of (fun _ => rfl) hwf (opLaunchInHalt_completes hh hword ha)
  case pulseEnd => exact answers_of_effect (fun _ => rfl) (onTimer_due d _ hdue)
  case owned => subst hy; exact answers_of_effect (fun _ => rfl) (write_accepts _ _ _ hi hl)
  case unwanted =>
    exact answers_of_effect (fun _ => rfl) (opGpioEdge_only hj hother (captureEdge_unwanted (hwant ▸ hno)) hother)
  case close =>
    exact answers_of_effect (fun _ => rfl) (opGpioEdge_only hj hother
      ((captureEdge_wanted (hwant ▸ hyes) hn hy rfl).trans (if_pos ⟨hn0, hlt⟩)) hoy)
  case overrun =>
    refine answers_of_effect (fun _ => rfl) (opGpioEdge_only hj hother
      ((captureEdge_wanted (hwant ▸ hyes) hn hy rfl).trans ((if_neg ?_).trans ((if_pos hheld).trans hz.symm))) hoz)
    omega
  case captured =>
    refine answers_of_effect (fun _ => rfl) (opGpioEdge_only hj hother
      ((captureEdge_wanted (hwant ▸ hyes) hn hy hz).trans ((if_neg ?_).trans (if_neg (Bool.eq_false_iff.mp hheld)))) hoz)
    omega

end Sys2Proof.Machine
end

/-!
PROOF. CAN reception: frames, error frames, the object locks, the FIFOs, the message RAM and the bus idle (O35).
-/

section

namespace Sys2Proof.Machine

variable {d x y z : Dev} {i : Initiator} {ch : CanCh} {r r' : BusRecord} {b : Bool} {v : Word}

/-! ### Frames (R171, R173, R174) -/

theorem opCanFrameValid_deaf {ago : Nat} {ue : Option Nat} (h : d.canHears ch = false) : opCanFrameValid ch r ago ue d = d :=
  if_pos (by rw [h]; rfl)

section Heard
variable {ago : Nat} {ue : Option Nat} (h : d.canHears ch = true)
  (hr : r' = (if r.fmt < 2 ∧ r.fdf = false then { r with data := r.data.take 8 } else r))
  (hy : y = (((d.recDown ch).canConfine ch).touch (canPort ch)).canIdle ch)
include h hr hy

theorem opCanFrameValid_isolated (hiso : y.isoed (pgCAN ch) = true) : opCanFrameValid ch r ago ue d = y.count (CAN_CNT ch 4) := by
  subst hy
  exact (if_neg (by rw [h]; decide)).trans (if_pos hiso)

theorem opCanFrameValid_takes {t : Nat × Nat} (hiso : y.isoed (pgCAN ch) = false) (ht : t = y.busTime (canPort ch) ago)
    (hz : z = (if (y.ownHit ch r').isSome then y.ownAlarm ch r' t.1 else y))
    (hx : x = ue.elim z (fun e => z.mrUe ch (z.get (CAN_LB_FLT_base ch (z.get (CAN_RX_CFG_lbank ch))) + 3 * e))) :
    opCanFrameValid ch r ago ue d = (x.count (CAN_CNT ch 0)).canAct ch r' t (y.ownHit ch r') (x.fltAction ch r' ue) := by
  simp only [opCanFrameValid, h, Bool.not_true, Bool.false_eq_true, ↓reduceIte, Bool.not_eq_true', ← hr, ← hy, hiso, ← ht, ← hz]
  subst hx
  cases ue <;> rfl

end Heard

theorem opCanErrorFrame_heard {lec n : Nat} (h : d.canHears ch = true)
    (hy : y = (d.count (CAN_CNT ch 15)).put (CAN_STAT_lec ch) lec) : opCanErrorFrame ch lec n d =
    ((y.put (CAN_STAT_rec ch) (min 255 (y.get (CAN_STAT_rec ch) + 1 + 8 * n))).canConfine ch).canIdle ch := by
  subst hy
  exact if_neg (by rw [h]; decide)

theorem opCanErrorFrame_deaf {lec n : Nat} (h : d.canHears ch = false) : opCanErrorFrame ch lec n d = d :=
  if_pos (by rw [h]; rfl)

/-! ### Object locks (R176) -/

section Lock
variable {o a k : Nat} {obj : CanObj} (h : d.accepts i = true)

include h in
theorem opObjLock_noObject (hn : d.get (CAN_OBJ_CFG_n ch) ≤ d.get (CAN_OBJ_SEL_obj ch)) : opObjLock i ch b d = d := by
  rw [opObjLock, access_accepts _ h]
  exact if_pos hn

include h in
theorem opObjLock_takes (ho : o = d.get (CAN_OBJ_SEL_obj ch)) (hn : o < d.get (CAN_OBJ_CFG_n ch))
    (hy : y = (if d.lockedObj ch = some o then d else d.objRelease ch)) (hobj : obj = y.canObj ch o) (ha : a = y.objAt ch o obj.cur)
    (hz : z = (if b then y.mrUe ch a else y))
    (hx : x = ((((z.put (CAN_OBJ_STAT_locked ch) 1).put (CAN_OBJ_STAT_new ch) (if obj.unread then 1 else 0)).put (CAN_OBJ_STAT_lost ch)
      (if obj.lost then 1 else 0)).put (CAN_OBJ_STAT_ue ch) (if b then 1 else 0)).put (CAN_OBJ_STAT_addr ch) a) :
    opObjLock i ch b d = ((x.setCanObj ch o { obj with unread := false, lost := false }).setLockedObj ch (some o)).setBit
      (CAN_OBJ_NEW ch (o / 32)) (o % 32) false := by
  rw [opObjLock, access_accepts _ h]
  subst hx hz ha hobj hy ho
  exact if_neg (not_le.mpr hn)

theorem objRelease_none (hk : d.lockedObj ch = none) : d.objRelease ch = d := by
  rw [Dev.objRelease, hk]

theorem objRelease_gives (hk : d.lockedObj ch = some k) (hobj : obj = (if (d.canObj ch k).shadow then
      { d.canObj ch k with cur := !(d.canObj ch k).cur, unread := true, shadow := false } else d.canObj ch k)) :
    d.objRelease ch = ((d.setCanObj ch k obj).setLockedObj ch none).put (CAN_OBJ_STAT_locked ch) 0 := by
  subst hobj
  rw [Dev.objRelease, hk]

end Lock

/-! ### The receive FIFOs (R177, R301) -/

section Pop
variable {k : Nat} {m : Bool} (h : d.accepts i = true)
include h

/-- A pop removes the head of each FIFO that its word names. -/
theorem opRxfPop_eq : opRxfPop i ch v b m d = d.each ((List.range 2).filter (fun k => v.getLsbD k)) (fun k d =>
    let d := if m then (d.fifoGone ch k).queueReset 3 ch else d
    let d := d.fifoPop ch k
    if b && d.get (fifoCnt ch k) != 0 then d.mrUe ch (d.fifoAt ch k 0) else d) := access_accepts _ h

theorem opRxfPop_none (h0 : v.getLsbD 0 = false) (h1 : v.getLsbD 1 = false) : opRxfPop i ch v b m d = d := by
  have hl : (List.range 2).filter (fun k => v.getLsbD k) = [] := by
    simp only [List.range_succ, List.range_zero, List.nil_append, List.cons_append, List.filter_cons, h0, h1, Bool.false_eq_true,
      ↓reduceIte, List.filter_nil]
  rw [opRxfPop_eq h, hl, Dev.each, List.foldl_nil]

theorem opRxfPop_one (hk : k < 2) (h0 : v.getLsbD k = true) (h1 : v.getLsbD (1 - k) = false)
    (hy : y = (if m then (d.fifoGone ch k).queueReset 3 ch else d)) (hz : z = y.fifoPop ch k) :
    opRxfPop i ch v b m d = if b && z.get (fifoCnt ch k) != 0 then z.mrUe ch (z.fifoAt ch k 0) else z := by
  have hl : (List.range 2).filter (fun k => v.getLsbD k) = [k] := by
    obtain rfl | rfl : k = 0 ∨ k = 1 := by omega
    · simp only [Nat.sub_zero] at h1
      simp only [List.range_succ, List.range_zero, List.nil_append, List.cons_append, List.filter_cons, h0, h1, Bool.false_eq_true,
        ↓reduceIte, List.filter_nil]
    · simp only [Nat.sub_self] at h1
      simp only [List.range_succ, List.range_zero, List.nil_append, List.cons_append, List.filter_cons, h0, h1, Bool.false_eq_true,
        ↓reduceIte, List.filter_nil]
  subst hz hy
  rw [opRxfPop_eq h, hl, Dev.each, List.foldl_cons, List.foldl_nil]

theorem opRxfPop_both (h0 : v.getLsbD 0 = true) (h1 : v.getLsbD 1 = true) :
    opRxfPop i ch v false false d = (d.fifoPop ch 0).fifoPop ch 1 := by
  have hl : (List.range 2).filter (fun k => v.getLsbD k) = [0, 1] := by simp [List.range_succ, h0, h1]
  rw [opRxfPop_eq h, hl, Dev.each, List.foldl_cons, List.foldl_cons, List.foldl_nil]
  rfl

end Pop

/-! ### The message RAM (R179, R53) -/

section MessageRam
variable {a : Nat} (h : d.accepts i = true) (ha : a = d.get (CAN_MR_ADDR_word ch))
include h ha

theorem opMrAccess_reads (hy : y = (if b then d.mrUe ch a else d)) (hz : z = y.put (CAN_MR_ADDR_word ch) (a + 1)) :
    opMrAccess i ch none b d = z.emit (.readValue i (CAN_MR_DATA ch) (BitVec.ofNat 32 (y.mr ch a))) := by
  simp only [opMrAccess, access_accepts _ h, ← ha, ← hy, ← hz]

variable (hl : d.locked (pgCAN ch) = false)
include hl

theorem opMrAccess_live (hm : (d.mrLive ch).any (fun e => decide (e.1 ≤ a) && decide (a < e.1 + e.2)) = true) :
    opMrAccess i ch (some v) b d = (d.put (CAN_MR_ADDR_word ch) (a + 1)).raise (pgCAN ch) irqLiveWr := by
  subst ha
  exact (write_accepts _ _ _ h hl).trans (if_pos hm)

theorem opMrAccess_stores (hm : (d.mrLive ch).any (fun e => decide (e.1 ≤ a) && decide (a < e.1 + e.2)) = false) :
    opMrAccess i ch (some v) b d = (d.setMr ch a v.toNat).put (CAN_MR_ADDR_word ch) (a + 1) := by
  subst ha
  exact (write_accepts _ _ _ h hl).trans (if_neg (Bool.eq_false_iff.mp hm))

end MessageRam

/-! ### Bus idle and integration (R180, R185) -/

theorem opCanIdleApply_sending (h : d.canCur ch ≠ none) : opCanIdleApply ch b d = d :=
  if_pos (Option.isSome_iff_ne_none.mpr h)

section Idle
variable (h : d.canCur ch = none)
include h

theorem opCanIdleApply_busy : opCanIdleApply ch false d = if d.canHears ch then d.put (CAN_STAT_busy ch) 1 else d := by
  rw [opCanIdleApply, h]
  rfl

theorem opCanIdleApply_applies (hy : y = (if d.bus.trxWait.contains ch.val then d.canLatch ch 2 (d.rd (CAN_TRX ch)) else d))
    (hz : z = (if d.bus.cfgWait.contains ch.val then (y.canLatch ch 0 (y.rd (CAN_CFG ch))).canLatch ch 1
      (y.rd (CAN_NBT ch)) else y).cfgInEffect ch.val)
    (hx : x = ({ z with bus := { z.bus with cfgWait := z.bus.cfgWait.filter (fun c => c != ch.val),
                                            trxWait := z.bus.trxWait.filter (fun c => c != ch.val) } } : Dev).put (CAN_STAT_busy ch) 0) :
    opCanIdleApply ch true d = if d.bus.cfgWait.contains ch.val && x.canState ch != 2 then x.put (CAN_STAT_state ch) 3
      else x.canStart ch := by
  subst hx hz hy
  rw [opCanIdleApply, h]
  rfl

end Idle

theorem opCanIntegrated_done (hst : d.canState ch = 3) (hon : d.chanOn (pgCAN ch) = true) : opCanIntegrated ch d =
    ((d.put (CAN_STAT_state ch) (if 128 ≤ d.get (CAN_STAT_tec ch) ∨ 128 ≤ d.get (CAN_STAT_rec ch) then 1 else 0)).put
      (CAN_STAT_busy ch) 0).canStart ch := by
  rw [opCanIntegrated, if_neg (by rw [hst, hon]; decide)]
  simp only [Bool.or_eq_true, decide_eq_true_eq]

/-- Settles O35: CAN reception from the frame to its object, FIFO and message RAM. -/
theorem canReceptionAct : Obligations.CanReceptionAct := by
  intro d x y z i ch r r' ago lec n o a k v b t ue obj m
  refine ⟨fun hwf => ⟨fun h => ?deaf, fun h hr hy => ⟨fun hiso => ?isolated, fun hiso ht hz hx => ?takes⟩⟩,
    fun hlec => ⟨fun h hy => ?errorFrame, fun h => ?errorDeaf⟩,
    fun hi ho => ⟨fun hn => ?noObject, fun hn hy hobj ha hz hx => ?lock, fun hk => ?releaseNone, fun hk hobj => ?release,
      fun h0 h1 => ?popNone, fun hk h0 h1 hy hz => ?popOne, fun h0 h1 => ?popBoth,
      fun ha => ⟨fun hy hz => ?mrReads, fun hl => ?mrLocked, fun hl hm => ?mrLive, fun hl hm => ?mrStores⟩⟩,
    fun h => ⟨fun hh => ?sof, fun hh => ?sofDeaf, fun hy hz hx => ?idle⟩, fun h => ?sending, fun hst hon => ?integrated⟩
  case deaf => exact answers_of (fun _ => rfl) hwf (opCanFrameValid_deaf h)
  case isolated => exact answers_of (fun _ => rfl) hwf (opCanFrameValid_isolated h hr hy hiso)
  case takes => exact answers_of (fun _ => rfl) hwf (opCanFrameValid_takes h hr hy hiso ht hz hx)
  case errorFrame => exact answers_of (fun _ => rfl) (decide_eq_true hlec) (opCanErrorFrame_heard h hy)
  case errorDeaf => exact answers_of (fun _ => rfl) (decide_eq_true hlec) (opCanErrorFrame_deaf h)
  case noObject => exact answers_of_effect (fun _ => rfl) (opObjLock_noObject hi (ho ▸ hn))
  case lock => exact answers_of_effect (fun _ => rfl) (opObjLock_takes hi ho hn hy hobj ha hz hx)
  case releaseNone => exact answers_of_effect (fun _ => rfl) ((access_accepts _ hi).trans (objRelease_none hk))
  case release => exact answers_of_effect (fun _ => rfl) ((access_accepts _ hi).trans (objRelease_gives hk hobj))
  case popNone => exact answers_of_effect (fun _ => rfl) (opRxfPop_none hi h0 h1)
  case popOne => exact answers_of_effect (fun _ => rfl) (opRxfPop_one hi hk h0 h1 hy hz)
  case popBoth => exact answers_of_effect (fun _ => rfl) (opRxfPop_both hi h0 h1)
  case mrReads => exact answers_of_effect (fun _ => rfl) (opMrAccess_reads hi ha hy hz)
  case mrLocked => exact answers_of_effect (fun _ => rfl) (write_locked _ _ _ hi hl)
  case mrLive => exact answers_of_effect (fun _ => rfl) (opMrAccess_live hi ha hl hm)
  case mrStores => exact answers_of_effect (fun _ => rfl) (opMrAccess_stores hi ha hl hm)
  case sof => exact answers_of_effect (fun _ => rfl) ((opCanIdleApply_busy h).trans (if_pos hh))
  case sofDeaf => exact answers_of_effect (fun _ => rfl) ((opCanIdleApply_busy h).trans (if_neg (Bool.eq_false_iff.mp hh)))
  case idle => exact answers_of_effect (fun _ => rfl) (opCanIdleApply_applies h hy hz hx)
  case sending => exact answers_of_effect (fun _ => rfl) (opCanIdleApply_sending h)
  case integrated => exact answers_of_effect (fun _ => rfl) (opCanIntegrated_done hst hon)

end Sys2Proof.Machine
end

/-!
PROOF. LIN: headers at a responder, responses, the slots of a commander's schedule, the receive FIFO and the schedule
window (O37).
-/

section

namespace Sys2Proof.Machine

variable {d w x y z : Dev} {i : Initiator} {ch : LinCh}

/-! ### Headers at a responder (R187) -/

section Header
variable {brk baud pid own : Nat}

theorem opLinHeader_ignored (h : d.chanOn (pgLIN ch) = false ∨ d.flag (LIN_CFG_role ch) = true ∨ brk < 11) :
    opLinHeader ch brk baud pid d = d := by
  refine if_pos ?_
  simp only [Bool.or_eq_true, Bool.not_eq_true', decide_eq_true_eq]
  tauto

variable (hon : d.chanOn (pgLIN ch) = true) (hrole : d.flag (LIN_CFG_role ch) = false) (hb : 11 ≤ brk)
  (hown : own = d.get (LIN_CFG_baud ch)) (hy : y = d.put (LIN_STAT_meas_baud ch) baud)
include hon hrole hb hown hy

theorem opLinHeader_offRate (hr : own * 14 < absDiff baud own * 100) :
    opLinHeader ch brk baud pid d = (y.count (LIN_CNT ch 6)).raise (pgLIN ch) 13 := by
  subst hy hown
  rw [opLinHeader, if_neg (by rw [hon, hrole, decide_eq_false (not_lt.mpr hb)]; decide)]
  exact if_pos hr

theorem opLinHeader_synced (hr : absDiff baud own * 100 ≤ own * 14) (hz : z = (y.put (LIN_STAT_sync ch) 1).touch (linPort ch)) :
    opLinHeader ch brk baud pid d = if pid = linPid (pid % 64) then z.linHeader ch (pid % 64) false else z := by
  subst hz hy hown
  rw [opLinHeader, if_neg (by rw [hon, hrole, decide_eq_false (not_lt.mpr hb)]; decide)]
  exact if_neg (not_lt.mpr hr)

end Header

/-! ### Responses (R188) -/

section Response
variable {id lim ago : Nat} {ev cks m : Bool} {data : List Byte} (haw : d.linAwait ch = some (id, ev))
  (hdue : d.due ⟨.linResp, ch, 0⟩ = some lim)
include haw hdue

/-- A response too late, or with too few bytes, leaves the header waiting. -/
theorem opLinResponse_waits (h : lim < d.now ∨ (data.length < d.get (LIN_RESP_len ch id) ∧ m = true)) :
    opLinResponse ch data cks m ago d = d.touch (linPort ch) := by
  simp only [opLinResponse, haw, hdue]
  exact if_pos h

theorem opLinResponse_badFraming (hlim : d.now ≤ lim) (hy : y = (d.setLinAwait ch none).touch (linPort ch)) :
    opLinResponse ch data cks false ago d = y.count (LIN_CNT ch 7) := by
  subst hy
  simp only [opLinResponse, haw, hdue]
  exact (if_neg (by simp [hlim])).trans (if_pos rfl)

variable (hlim : d.now ≤ lim) (hlen : d.get (LIN_RESP_len ch id) ≤ data.length) (hy : y = (d.setLinAwait ch none).touch (linPort ch))
include hlim hlen hy

theorem opLinResponse_badChecksum (hz : z = (y.count (LIN_CNT ch 4)).raise (pgLIN ch) 11) :
    opLinResponse ch data false true ago d = if ev = true then (z.count (LIN_CNT ch 8)).raise (pgLIN ch) 12 else z := by
  subst hz hy
  simp only [opLinResponse, haw, hdue]
  exact (if_neg (by simp [hlim, hlen])).trans ((if_neg (by decide)).trans (if_pos rfl))

theorem opLinResponse_isolated (hiso : y.isoed (pgLIN ch) = true) :
    opLinResponse ch data true true ago d = y.count (LIN_CNT ch 12) := by
  subst hy
  simp only [opLinResponse, haw, hdue]
  exact (if_neg (by simp [hlim, hlen])).trans ((if_neg (by decide)).trans ((if_neg (by decide)).trans (if_pos hiso)))

theorem opLinResponse_takes {r : BusRecord} (hiso : y.isoed (pgLIN ch) = false)
    (hr : r = { id := id, fmt := 3, enh := y.linEnh ch id, data := data.take (y.get (LIN_RESP_len ch id)) })
    (hw : w = (y.count (LIN_CNT ch 0)).handOff (linPort ch) r (y.busTime (linPort ch) ago)) :
    opLinResponse ch data true true ago d =
      if w.flag (LIN_RESP_store ch id) then w.linPush ch r (y.busTime (linPort ch) ago).1 else w := by
  subst hw hr hy
  simp only [opLinResponse, haw, hdue]
  exact (if_neg (by simp [hlim, hlen])).trans ((if_neg (by decide)).trans ((if_neg (by decide)).trans
    (if_neg (Bool.eq_false_iff.mp hiso))))

end Response

/-! ### The slots of a schedule (R189, R190) -/

section SlotOfSchedule
variable {t id ent : Nat} {first err : Bool} {run : GateRun} (hs : d.nextSlot ch = some (t, first, run))
  (hh : d.pw.halted = false) (ht : d.turn (d.turnAt (.linSch ch) t) = true)
include hs hh ht

theorem opLinSlot_asleep (hsl : d.sleepSeg (linPort ch) ≠ none) : opLinSlot ch err d = (d.atNs t).setSchRun ch {} := by
  simp only [opLinSlot, hs, hh, ht]
  exact (if_neg (by decide)).trans (if_pos (Option.isSome_iff_ne_none.mpr hsl))

variable (hsl : d.sleepSeg (linPort ch) = none) (hon : d.chanOn (pgLIN ch) = true)
include hsl hon

theorem opLinSlot_isolated (hiso : (d.atNs t).isoed (pgLIN ch) = true) : opLinSlot ch err d = (d.atNs t).setSchRun ch {} := by
  simp only [opLinSlot, hs, hh, ht, hsl, hon]
  exact (if_neg (by decide)).trans ((if_neg (by decide)).trans ((if_neg (by decide)).trans (if_pos hiso)))

variable {c : ListCfg} (hiso : (d.atNs t).isoed (pgLIN ch) = false)
  (hz : z = (if first then ((d.atNs t).setSchRun ch run).raise (pgLIN ch) 15 else (d.atNs t).setSchRun ch run))
  (hc : run.cur = some c) (hent : ent = z.schEnt ch c.bank run.entry) (hid : id = nb ent 5 0)
include hiso hz hc hent hid

theorem opLinSlot_nothing (h2 : nb ent 7 6 = 2) (hp : z.pubDraw ch id = none) : opLinSlot ch err d = z.count (LIN_CNT ch 13) := by
  subst hid hent hz
  simp only [opLinSlot, hs, hh, ht, hsl, hon, hiso, hc, Bool.not_true, Bool.or_self, Option.isSome_none, Bool.false_eq_true, ↓reduceIte]
  exact if_pos ⟨h2, by rw [hp]; rfl⟩

theorem opLinSlot_sends (hn : nb ent 7 6 ≠ 2 ∨ (z.pubDraw ch id).isSome = true)
    (hw : w = ((z.linUnanswered ch).count (LIN_CNT ch 2)).touch (linPort ch))
    (hx : x = (w.emit (.linHeader ch (w.get (LIN_CFG_brk ch)) (w.get (LIN_CFG_del ch)) (linPid id) (w.now + nsT 50))).linTakesUp ch
      (w.get (LIN_CFG_brk ch) + w.get (LIN_CFG_del ch) + 20)) :
    opLinSlot ch err d = if err then (x.count (LIN_CNT ch 5)).raise (pgLIN ch) 14 else x.linHeader ch id (nb ent 7 6 == 1) := by
  have hno : ¬ (nb ent 7 6 = 2 ∧ (z.pubDraw ch id).isNone = true) := by
    rintro ⟨h2, hnone⟩
    obtain h | h := hn
    · exact h h2
    · rw [Option.isNone_iff_eq_none.mp hnone] at h
      cases h
  subst hx hw hid hent hz
  simp only [opLinSlot, hs, hh, ht, hsl, hon, hiso, hc, Bool.not_true, Bool.or_self, Option.isSome_none, Bool.false_eq_true, ↓reduceIte]
  exact if_neg hno

end SlotOfSchedule

/-! ### The receive FIFO and the schedule window (R301, R53) -/

section Software
variable {m : Bool} (h : d.accepts i = true)
include h

section Pop
variable (hy : y = (if m then (d.linFifoGone ch).queueReset 3 (24 + ch) else d))
include hy

theorem opLinPop_head {it : List Word} {l : List (List Word)} (hq : NMap.get [] y.bus.linFifo ch = it :: l) :
    opLinPop i ch m d = (y.setLinFifo ch l).fenceTook (pgLIN ch) 1 := by
  rw [opLinPop, access_accepts _ h]
  simp only [← hy, hq]

theorem opLinPop_empty (hq : NMap.get [] y.bus.linFifo ch = []) : opLinPop i ch m d = y := by
  rw [opLinPop, access_accepts _ h]
  simp only [← hy, hq]

end Pop

variable {ent : Nat}

theorem opLinSchRead_acts (hb : d.flag (LIN_SCH_WSTAT_busy ch) = false) (hy : y = d.put (winRegs (.linSch ch)).err 0)
    (he : ent = y.schEnt ch (y.get (LIN_SCH_SEL_bank ch)) (y.get (LIN_SCH_SEL_entry ch))) :
    opLinSchRead i ch d = (((y.put (LIN_SCH_DATA_slot_us ch) (nb ent 31 16)).put (LIN_SCH_DATA_type ch)
      (nb ent 7 6)).put (LIN_SCH_DATA_id ch) (nb ent 5 0)).put (LIN_SCH_WSTAT_busy ch) 1 := by
  subst he hy
  exact window_acts h nofun hb rfl

variable (hl : d.locked (pgLIN ch) = false)
include hl

theorem opLinSchWrite_refused (hr : d.flag (LIN_SCH_WSTAT_busy ch) = true ∨ (d.schRun ch).bankBusy (d.get (LIN_SCH_SEL_bank ch)) = true)
    (hy : y = d.put (LIN_SCH_STAT_err ch) 1)
    (hry : y.flag (LIN_SCH_WSTAT_busy ch) = true ∨ (y.schRun ch).bankBusy (y.get (LIN_SCH_SEL_bank ch)) = true)
    (hly : y.locked (pgLIN ch) = false) (hay : y.accepts i = true) : opLinSchWrite i ch d = y.winRefuse i (.linSch ch) 2 := by
  have hfree : (d.flag (LIN_SCH_WSTAT_busy ch) || !!(d.schRun ch).bankBusy (d.get (LIN_SCH_SEL_bank ch))) = true := by
    rw [Bool.not_not, Bool.or_eq_true]
    exact hr
  rw [opLinSchWrite, write_accepts _ _ _ h hl]
  simp only [hfree, ↓reduceIte, ← hy]
  obtain hb | hb := hry
  · exact window_busy hay (fun _ => hly) hb
  · exact window_unsuited hay (fun _ => hly) (by rw [hb]; rfl)

theorem opLinSchWrite_stores (hb : d.flag (LIN_SCH_WSTAT_busy ch) = false)
    (hk : (d.schRun ch).bankBusy (d.get (LIN_SCH_SEL_bank ch)) = false) (hy : y = d.put (LIN_SCH_STAT_err ch) 0)
    (hby : y.flag (LIN_SCH_WSTAT_busy ch) = false) (hky : (y.schRun ch).bankBusy (y.get (LIN_SCH_SEL_bank ch)) = false)
    (hly : y.locked (pgLIN ch) = false) (hay : y.accepts i = true) (hz : z = y.put (winRegs (.linSch ch)).err 0)
    (he : ent = z.get (LIN_SCH_DATA_slot_us ch) * 2 ^ 16 + z.get (LIN_SCH_DATA_type ch) * 2 ^ 6 + z.get (LIN_SCH_DATA_id ch))
    (hx : x = ({ z with bus := { z.bus with
      sch := NMap.set 0 z.bus.sch (ch * 128 + z.get (LIN_SCH_SEL_bank ch) * 64 + z.get (LIN_SCH_SEL_entry ch)) ent } } : Dev)) :
    opLinSchWrite i ch d = x.put (winRegs (.linSch ch)).busy 1 := by
  rw [opLinSchWrite, write_accepts _ _ _ h hl]
  simp only [hb, hk, Bool.not_false, Bool.not_true, Bool.or_self, Bool.false_eq_true, ↓reduceIte, ← hy]
  subst hx he hz
  exact window_acts hay (fun _ => hly) hby (by rw [hky]; rfl)

end Software

/-- Settles O37: LIN from the header to the response, the schedule and the windows of software. -/
theorem linActs : Obligations.LinActs := by
  intro d x y z w i ch id brk baud pid own ago lim len t ent data c first ev cks m err run l it r
  refine ⟨fun hbaud hpid => ⟨fun hno => ?ignored, fun hon hrole hb hown hy => ⟨fun hr => ?offRate, fun hr hz => ?synced⟩⟩,
    fun haw hdue hdata hlen hy hz => ⟨fun hlate => ?late, fun hshort => ?short, fun hlim => ?framing,
      fun hlim hl => ⟨?checksum, fun hiso => ?isolated, fun hiso hr hw => ?takes⟩⟩,
    fun hdue => ?noResponse,
    fun hs hh ht => ⟨fun hsl => ?asleep, fun hsl hon hiso => ?slotIsolated, fun hsl hon hiso hz hc he hid =>
      ⟨fun h2 hp => ?nothing, fun hn hw hx => ⟨?sends, ?bitError⟩⟩⟩,
    fun hi => ⟨fun hy => ⟨fun hq => ?popHead, fun hq => ?popEmpty⟩, fun hb => ?readBusy, fun hb hy he => ?read,
      fun hl => ⟨fun hr hy hry hly hay => ?writeRefused, fun hb hk hy hby hky hly hay hz he hx => ?write⟩⟩⟩
  case ignored =>
    exact answers_of (fun _ => rfl) (by rw [decide_eq_true hbaud, decide_eq_true hpid]; rfl) (opLinHeader_ignored hno)
  case offRate =>
    exact answers_of (fun _ => rfl) (by rw [decide_eq_true hbaud, decide_eq_true hpid]; rfl)
      (opLinHeader_offRate hon hrole hb hown hy hr)
  case synced =>
    exact answers_of (fun _ => rfl) (by rw [decide_eq_true hbaud, decide_eq_true hpid]; rfl)
      (opLinHeader_synced hon hrole hb hown hy hr hz)
  case late => exact answers_of (fun _ => rfl) (decide_eq_true hdata) (opLinResponse_waits haw hdue (.inl hlate))
  case short => exact answers_of (fun _ => rfl) (decide_eq_true hdata) (opLinResponse_waits haw hdue (.inr ⟨hlen ▸ hshort, rfl⟩))
  case framing => exact answers_of (fun _ => rfl) (decide_eq_true hdata) (opLinResponse_badFraming haw hdue hlim hy)
  case checksum =>
    exact answers_of (fun _ => rfl) (decide_eq_true hdata) (opLinResponse_badChecksum haw hdue hlim (hlen ▸ hl) hy hz)
  case isolated =>
    exact answers_of (fun _ => rfl) (decide_eq_true hdata) (opLinResponse_isolated haw hdue hlim (hlen ▸ hl) hy hiso)
  case takes =>
    exact answers_of (fun _ => rfl) (decide_eq_true hdata) (opLinResponse_takes haw hdue hlim (hlen ▸ hl) hy hiso hr hw)
  case noResponse => exact answers_of_effect (fun _ => rfl) (onTimer_due d _ hdue)
  case asleep => exact answers_of_effect (fun _ => rfl) (opLinSlot_asleep hs hh ht hsl)
  case slotIsolated => exact answers_of_effect (fun _ => rfl) (opLinSlot_isolated hs hh ht hsl hon hiso)
  case nothing => exact answers_of_effect (fun _ => rfl) (opLinSlot_nothing hs hh ht hsl hon hiso hz hc he hid h2 hp)
  case sends => exact answers_of_effect (fun _ => rfl) (opLinSlot_sends hs hh ht hsl hon hiso hz hc he hid hn hw hx)
  case bitError => exact answers_of_effect (fun _ => rfl) (opLinSlot_sends hs hh ht hsl hon hiso hz hc he hid hn hw hx)
  case popHead => exact answers_of_effect (fun _ => rfl) (opLinPop_head hi hy hq)
  case popEmpty => exact answers_of_effect (fun _ => rfl) (opLinPop_empty hi hy hq)
  case readBusy => exact answers_of_effect (fun _ => rfl) (window_busy hi nofun hb)
  case read => exact answers_of_effect (fun _ => rfl) (opLinSchRead_acts hi hb hy he)
  case writeRefused => exact answers_of_effect (fun _ => rfl) (opLinSchWrite_refused hi hl hr hy hry hly hay)
  case write => exact answers_of_effect (fun _ => rfl) (opLinSchWrite_stores hi hl hb hk hy hby hky hly hay hz he hx)

end Sys2Proof.Machine
end

/-!
PROOF. The signal store of Kalow, its dump and its windows (O39).
-/

section

namespace Sys2Proof.Machine

variable {d y z : Dev} {i : Initiator}

/-! ### The signal store (R199, R204) -/

section Store
variable {s : Nat} (h : d.accepts i = true) (hs : s = d.get KLW_S_SEL_sig)
include h hs

theorem opStoreRead_shows {u : Bool} {a : Nat} (hy : y = (if u then d.storeUe s else d))
    (hz : z = ((y.wr64 KLW_S_VAL_LO KLW_S_VAL_HI (y.sig s).value).put KLW_S_STAT_status (y.sig s).st).put KLW_S_STAT_unv
      (if (y.sig s).unv then 1 else 0))
    (ha : a = (ageOf (y.sig s) z.ns 1000).elim (2 ^ 32 - 1) (fun a => min a (2 ^ 32 - 1))) :
    opStoreRead i u d = (z.put KLW_S_AGE_us a).wr64 KLW_S_TSRC_LO KLW_S_TSRC_HI (y.sig s).tsrc := by
  simp only [opStoreRead, access_accepts _ h, ← hs, ← hy, ← hz]
  subst ha
  cases ageOf (y.sig s) z.ns 1000 <;> rfl

theorem opStoreForce_commits (hn : d.needed s = false) :
    opStoreForce i d = d.commitSigs d.kal.recs [(s, d.rd64 KLW_S_VAL_LO KLW_S_VAL_HI)] d.ns false none := by
  subst hs
  rw [opStoreForce, access_accepts _ h]
  exact if_neg (Bool.eq_false_iff.mp hn)

theorem opStoreForce_waits {j : KJob} (hn : d.needed s = true)
    (hj : j = { at_ := d.now, fid := none, cls := 8, writes := [(s, d.rd64 KLW_S_VAL_LO KLW_S_VAL_HI)], unpack := true,
                tsrc := d.ns, waits := true, recs := d.kal.recs }) :
    opStoreForce i d = ({ d with kal := { d.kal with jobs := d.kal.jobs ++ [j] } } : Dev).count (KLW_CNT 17) := by
  subst hj hs
  rw [opStoreForce, access_accepts _ h]
  exact if_pos hn

end Store

/-! ### The dump (R213, R215) -/

section Dump
variable {v : KDump}

/-- A dump starts with none running and the channel not halted. -/
theorem opDumpGo_starts (h : d.accepts i = true) (hn : d.kal.dump = none) (hh : d.flag KLW_DUMP_STAT_halted = false) :
    opDumpGo i d = d.dumpStart.dumpArm := by
  rw [opDumpGo, access_accepts _ h]
  exact if_neg (by rw [hn, hh]; decide)

theorem opDumpGo_passed (h : d.accepts i = true) (hb : d.kal.dump.isSome = true ∨ d.flag KLW_DUMP_STAT_halted = true) :
    opDumpGo i d = d := by
  rw [opDumpGo, access_accepts _ h]
  exact if_pos (by rw [Bool.or_eq_true]; exact hb)

theorem dumpStart_eq (hy : y = (d.wr64 KLW_DUMP_T_LO KLW_DUMP_T_HI d.ns))
    (hv : v = { addr := d.get KLW_DUMP_HI_base * 2 ^ 32 + d.get KLW_DUMP_LO_base * 16, first := y.get KLW_DUMP_FIRST_sig,
                n := y.get KLW_DUMP_N_count, s := y.now, ns := y.ns, recs := y.kal.recs }) :
    d.dumpStart = { (y.put KLW_DUMP_CTL_go 1) with kal := { y.kal with dump := some v } } := by
  subst hv hy
  rfl

section Period
variable {e : Nat} (hdue : d.due ⟨.kalDump, 0, 0⟩ = some e) (hy : y = ((d.at_ e).cancel ⟨.kalDump, 0, 0⟩).dumpArm)
include hdue hy

theorem opDumpPeriod_starts (hn : y.kal.dump = none) (hh : y.flag KLW_DUMP_STAT_halted = false) : opDumpPeriod d = y.dumpStart := by
  subst hy
  rw [opDumpPeriod, onTimer_due d _ hdue]
  exact if_neg (by rw [hn, hh]; decide)

theorem opDumpPeriod_passed (hb : y.kal.dump.isSome = true ∨ y.flag KLW_DUMP_STAT_halted = true) : opDumpPeriod d = y := by
  subst hy
  rw [opDumpPeriod, onTimer_due d _ hdue]
  exact if_pos (by rw [Bool.or_eq_true]; exact hb)

end Period

section Done
variable {bs : List Byte} (hd : d.kal.dump = some v) (hy : y = ({ (d.put KLW_DUMP_CTL_go 0) with kal := { d.kal with dump := none } } : Dev))
include hd hy

theorem opDumpDone_writes (hbs : bs = d.dumpBytes v) : opDumpDone none d = ((y.fabWrite 8 v.addr bs).raise (pgKLW 4) 8).unhold := by
  subst hbs hy
  simp only [opDumpDone, hd]

theorem opDumpDone_entryUe {n : Nat} : opDumpDone (some n) d = ((((y.storeUe ((v.first + n % v.n) % 16384)).put KLW_DUMP_STAT_cause 8).put
    KLW_DUMP_STAT_halted 1).raise (pgKLW 4) 9).unhold := by
  subst hy
  simp only [opDumpDone, hd]

end Done
end Dump

/-! ### The windows of Kalow (R209) -/

section Windows
variable {k n : Nat} {staged : Bool} (h : d.accepts i = true)
include h

section Descriptor
variable (hb : d.flag KLW_D_STAT_busy = false) (hy : y = d.put KLW_D_STAT_err 0) (hk : k = y.dSel)
include hb hy hk

theorem opKlwRead_acts (hn : n = (if staged && y.kal.recsD.contains k then NMap.get 0 y.kal.recsS k else NMap.get 0 y.kal.recs k)) :
    opKlwRead i staged d = (y.loadWords KLW_D_DATA 24 n).put KLW_D_STAT_busy 1 := by
  subst hn hk hy
  exact window_acts h nofun hb rfl

theorem opKlwStage_acts (hl : d.locked (winRegs .klwDesc).page = false) (hz : z = ({ y with kal := { y.kal with
      recsS := NMap.set 0 y.kal.recsS k (y.readWords KLW_D_DATA 24),
      recsD := y.kal.recsD.filter (fun e => e != k) ++ [k] } } : Dev)) :
    opKlwStage i d = z.put KLW_D_STAT_busy 1 := by
  subst hz hk hy
  exact window_acts h (fun _ => hl) hb rfl

end Descriptor

section SlotWindow
variable (hb : d.flag KLW_L_STAT_busy = false) (hy : y = d.put KLW_L_STAT_err 0)
include hb hy

theorem opKlwSlotRead_acts : opKlwSlotRead i d = (((y.wr64 KLW_L_T_LO KLW_L_T_HI (y.slot (.kalow (y.get KLW_L_SEL_route))).time).wr
    KLW_L_CTL (y.slot (.kalow (y.get KLW_L_SEL_route))).ctl).wr KLW_L_PER
      (BitVec.ofNat 32 (y.slot (.kalow (y.get KLW_L_SEL_route))).per)).put KLW_L_STAT_busy 1 := by
  subst hy
  exact window_acts h nofun hb rfl

theorem opKlwSlotWrite_acts (hl : d.locked (winRegs .klwSlot).page = false) : opKlwSlotWrite i d =
    (y.winSlot i (.kalow (y.get KLW_L_SEL_route)) (y.rd64 KLW_L_T_LO KLW_L_T_HI) (y.rd KLW_L_CTL)
      (y.rd KLW_L_PER).toNat).put KLW_L_STAT_busy 1 := by
  subst hy
  exact window_acts h (fun _ => hl) hb rfl

end SlotWindow
end Windows

/-- Settles O39: the signal store, the dump and Kalow's windows. -/
theorem storeAndDumpAct : Obligations.StoreAndDumpAct := by
  intro d y z i e k n s u staged bs v a j
  refine ⟨fun h hs => ⟨fun hy hz ha => ?read, fun hn => ?commits, fun hn hj => ?waits, fun hn hh => ?starts, fun hb => ?passed, ?resume⟩,
    dumpStart_eq, fun hdue hy => ⟨fun hn hh => ?period, fun hb => ?periodPassed⟩,
    fun hd hbs hy => ⟨?writes, ?entryUe⟩,
    fun h hl1 hl3 => ⟨fun hb => ⟨?descReadBusy, ?descStageBusy⟩, fun hb hy hk => ⟨fun hn => ?descRead, fun hz => ?descStage⟩,
      fun hb => ⟨?slotReadBusy, ?slotWriteBusy⟩, fun hb hy => ⟨?slotRead, ?slotWrite⟩⟩⟩
  case read => exact answers_of_effect (fun _ => rfl) (opStoreRead_shows h hs hy hz ha)
  case commits => exact answers_of_effect (fun _ => rfl) (opStoreForce_commits h hs hn)
  case waits => exact answers_of_effect (fun _ => rfl) (opStoreForce_waits h hs hn hj)
  case starts => exact answers_of_effect (fun _ => rfl) (opDumpGo_starts h hn hh)
  case passed => exact answers_of_effect (fun _ => rfl) (opDumpGo_passed h hb)
  case resume => exact answers_of_effect (fun _ => rfl) (access_accepts _ h)
  case period => exact answers_of_effect (fun _ => rfl) (opDumpPeriod_starts hdue hy hn hh)
  case periodPassed => exact answers_of_effect (fun _ => rfl) (opDumpPeriod_passed hdue hy hb)
  case writes => exact answers_of_effect (fun _ => rfl) (opDumpDone_writes hd hy hbs)
  case entryUe => exact answers_of_effect (fun _ => rfl) (opDumpDone_entryUe hd hy)
  case descReadBusy => exact answers_of_effect (fun _ => rfl) (window_busy h nofun hb)
  case descStageBusy => exact answers_of_effect (fun _ => rfl) (window_busy h (fun _ => hl1) hb)
  case descRead => exact answers_of_effect (fun _ => rfl) (opKlwRead_acts h hb hy hk hn)
  case descStage => exact answers_of_effect (fun _ => rfl) (opKlwStage_acts h hb hy hk hl1 hz)
  case slotReadBusy => exact answers_of_effect (fun _ => rfl) (window_busy h nofun hb)
  case slotWriteBusy => exact answers_of_effect (fun _ => rfl) (window_busy h (fun _ => hl3) hb)
  case slotRead => exact answers_of_effect (fun _ => rfl) (opKlwSlotRead_acts h hb hy)
  case slotWrite => exact answers_of_effect (fun _ => rfl) (opKlwSlotWrite_acts h hb hy hl3)

end Sys2Proof.Machine
end

/-!
PROOF. The cipher bank: engine tests, the context window, the changeover of keys and the end of old ones (O40).
-/

section

namespace Sys2Proof.Machine

variable {d x y z : Dev} {i : Initiator}

/-! ### The engines (R217) -/

section Engines
variable {failed : Word}

/-- A test that finds no engine newly failed changes nothing. -/
theorem opKnownAnswer_none (h : ((List.range 32).filter (fun k => failed.getLsbD k && !d.bit AUT_ENG_FAIL k)).length = 0) :
    opKnownAnswer failed d = d := if_pos (List.isEmpty_iff_length_eq_zero.mpr h)

theorem opKnownAnswer_some {k : Nat} (hk : ((List.range 32).filter (fun k => failed.getLsbD k && !d.bit AUT_ENG_FAIL k)).length = k)
    (h0 : k ≠ 0) (hy : y = ((d.wr AUT_ENG_FAIL (d.rd AUT_ENG_FAIL ||| failed)).add ⟨AUT_KAT_FAIL, 31, 0⟩ k).raise pgAUT 14) :
    opKnownAnswer failed d = if 24 ≤ d.engines ∧ y.engines < 24 then y.raise pgAUT 18 else y := by
  subst hy hk
  exact if_neg (fun he => h0 (List.isEmpty_iff_length_eq_zero.mp he))

end Engines

/-! ### The context window (R220) -/

section Window
variable {c k : Nat} {staged b : Bool} {s : CtxState} (h : d.accepts i = true) (hb : d.flag AUT_CTX_STAT_busy = false)
  (hy : y = d.put AUT_CTX_STAT_err 0)
include h hb hy

theorem opCtxRead_acts (hc : c = y.selCtx)
    (hk : k = (if staged && y.aut.ctxD.contains c then NMap.get 0 y.aut.ctxS c else y.ctx c)) :
    opCtxRead i staged d = (y.loadWords AUT_CTX_DATA 8 k).put AUT_CTX_STAT_busy 1 := by
  subst hk hc hy
  exact window_acts h nofun hb rfl

theorem opCtxStage_acts (hl : d.locked (winRegs .autCtx).page = false) (hc : c = y.selCtx)
    (hz : z = ({ y with aut := { y.aut with
      ctxS := NMap.set 0 y.aut.ctxS c (y.readWords AUT_CTX_DATA 8),
      ctxD := y.aut.ctxD.filter (fun e => e != c) ++ [c] } } : Dev)) :
    opCtxStage i d = z.put AUT_CTX_STAT_busy 1 := by
  subst hz hc hy
  exact window_acts h (fun _ => hl) hb rfl

theorem opCtxCounters_acts (hc : c = y.selCtx) (hz : z = y.each (List.range 12) (fun j t =>
      { t.wr (AUT_CTX_CNT j) (BitVec.ofNat 32 (NMap.get 0 t.aut.cnt (c * 12 + j))) with
          aut := { t.aut with cnt := NMap.set 0 t.aut.cnt (c * 12 + j) 0 } })) :
    opCtxCounters i d = z.put AUT_CTX_STAT_busy 1 := by
  subst hz hc hy
  exact window_acts h nofun hb rfl

theorem opCtxLatch_acts (hc : c = y.selCtx) (hs : s = y.cst c) (hst : b = (s.inState 2).getD s.newest)
    (hz : z = ((((y.put AUT_ST_SLOT_act (if s.newest then 1 else 0)).put AUT_ST_SLOT_an0 s.s0.an).put AUT_ST_SLOT_an1 s.s1.an).put
      AUT_ST_SLOT_st0 s.s0.st).put AUT_ST_SLOT_st1 s.s1.st)
    (hx : x = (z.wr64 AUT_ST_SPEND_LO AUT_ST_SPEND_HI (s.slot b).spend).wr64 AUT_ST_PN_LO AUT_ST_PN_HI
      (if ctxFmt (z.ctx z.selCtx) = 4 ∧ nb (z.ctx z.selCtx) 117 116 = 2 then s.c16 else (s.slot b).pn)) :
    opCtxLatch i d = x.put AUT_CTX_STAT_busy 1 := by
  subst hx hz hst hs hc hy
  exact window_acts h nofun hb rfl

theorem opChangeoverNow_acts (hc : c = y.selCtx) : opChangeoverNow i d = (y.changeover c).put AUT_CTX_STAT_busy 1 := by
  subst hc hy
  exact window_acts h nofun hb rfl

end Window

/-! ### The changeover of a context (R231) -/

section Changeover
variable {c : Nat} {b : Bool} {s s' : CtxState} (hs : s = d.cst c)
include hs

/-- Under format 1 the newest association becomes ACTIVE and the other is retired. -/
theorem changeover_association (hf : ctxFmt (d.ctx c) = 1) (h0 : s.s0.st ≠ 0) (h1 : s.s1.st ≠ 0)
    (hs' : s' = (s.put s.newest { s.slot s.newest with st := 2 }).put (!s.newest) {}) :
    d.changeover c = ((d.setCst c s').count AUT_CHG_CNT).raise pgAUT 11 := by
  subst hs' hs
  exact (if_pos hf).trans (if_neg (not_or.mpr ⟨h0, h1⟩))

theorem changeover_none (hf : ctxFmt (d.ctx c) ≠ 1) (hn : s.inState 1 = none) : d.changeover c = d.raise pgAUT 12 := by
  subst hs
  refine (if_neg hf).trans ?_
  rw [hn]

/-- Otherwise the LOADED slot becomes ACTIVE and the other OLD. -/
theorem changeover_loaded (hf : ctxFmt (d.ctx c) ≠ 1) (hb : s.inState 1 = some b)
    (hs' : s' = s.put b { s.slot b with
        st := 2, pn := if ctxFmt (d.ctx c) = 2 then (s.slot b).pn0 else 0, spend := 0, warned := false })
    (hy : y = d.setCst c { (if (s.slot (!b)).st = 0 then s' else s'.put (!b) { s.slot (!b) with st := 3 }) with
      newest := b, unit := 0, c16 := 0 })
    (hz : z = (if ctxFmt (d.ctx c) = 3 ∧ (s.slot (!b)).st ≠ 0 then y.armIn ⟨.oldKey, c, 0⟩ (msT (nb (y.ctx c) 143 128)) else y)) :
    d.changeover c = (z.count AUT_CHG_CNT).raise pgAUT 11 := by
  subst hz hy hs' hs
  refine (if_neg hf).trans ?_
  rw [hb]

end Changeover

/-! ### The end of an old key (R231) -/

section OldKey
variable {c : Nat} {b : Bool}

theorem opOverlapEnd_zeroises {e : Nat} (hdue : d.due ⟨.oldKey, c, 0⟩ = some e) (hy : y = (d.at_ e).cancel ⟨.oldKey, c, 0⟩)
    (hb : (y.cst c).inState 3 = some b) : opOverlapEnd c d = y.setCst c ((y.cst c).put b {}) := by
  subst hy
  rw [opOverlapEnd, onTimer_due d _ hdue]
  simp only [hb]
  rfl

theorem opOverlapEnd_none {e : Nat} (hdue : d.due ⟨.oldKey, c, 0⟩ = some e) (hy : y = (d.at_ e).cancel ⟨.oldKey, c, 0⟩)
    (hn : (y.cst c).inState 3 = none) : opOverlapEnd c d = y := by
  subst hy
  rw [opOverlapEnd, onTimer_due d _ hdue]
  simp only [hn]

/-- An old slot is zeroised once no transmission and no generation uses it. -/
theorem opOldZeroise_zeroises (hf : ctxFmt (d.ctx c) = 2 ∨ ctxFmt (d.ctx c) = 4) (hb : (d.cst c).inState 3 = some b)
    (ht : d.vlt.tx.any (fun t => t.cv == some c) = false)
    (hg : d.vlt.drawn.any (fun x => x.cv == some c && decide (d.now < x.ready)) = false) :
    opOldZeroise c d = d.setCst c ((d.cst c).put b {}) := by
  refine (if_pos ⟨hf, by rw [ht]; rfl, by rw [hg]; rfl⟩).trans ?_
  rw [hb]
  rfl

end OldKey

/-! ### The changeover window (R144) -/

section SlotWindow
variable (h : d.accepts i = true) (hb : d.flag AUT_CHG_STAT_busy = false) (hy : y = d.put AUT_CHG_STAT_err 0)
include h hb hy

theorem opChgRead_acts : opChgRead i d = (((y.wr64 AUT_CHG_T_LO AUT_CHG_T_HI (y.slot (.aut (y.get AUT_CHG_SEL_slot))).time).wr
    AUT_CHG_CTL (y.slot (.aut (y.get AUT_CHG_SEL_slot))).ctl).wr AUT_CHG_PER
      (BitVec.ofNat 32 (y.slot (.aut (y.get AUT_CHG_SEL_slot))).per)).put AUT_CHG_STAT_busy 1 := by
  subst hy
  exact window_acts h nofun hb rfl

theorem opChgWrite_acts (hl : d.locked (winRegs .autChg).page = false) : opChgWrite i d =
    (y.winSlot i (.aut (y.get AUT_CHG_SEL_slot)) (y.rd64 AUT_CHG_T_LO AUT_CHG_T_HI) (y.rd AUT_CHG_CTL)
      (y.rd AUT_CHG_PER).toNat).put AUT_CHG_STAT_busy 1 := by
  subst hy
  exact window_acts h (fun _ => hl) hb rfl

end SlotWindow

/-- Settles O40: the cipher bank, its windows and the life of its keys. -/
theorem cipherBankAct : Obligations.CipherBankAct := by
  intro d x y z i e c g k failed v b staged s s'
  refine ⟨fun hk => ⟨fun h0 => ?katNone, fun h0 hy => ?katSome⟩, fun h => ?clear,
    fun h hl => ⟨fun hb => ⟨?readBusy, ?stageBusy, ?copyBusy, ?latchBusy, ?changeBusy⟩,
      fun hb hy hc => ⟨fun hk => ?ctxRead, fun hz => ?ctxStage, fun hz => ?ctxCopy, fun hs hst hz hx => ?ctxLatch, ?ctxChange⟩⟩,
    fun hs => ⟨fun hf h0 h1 hs' => changeover_association hs hf h0 h1 hs', fun hf hn => changeover_none hs hf hn,
      fun hf hb hs' hy hz => changeover_loaded hs hf hb hs' hy hz⟩,
    fun hg ha hh hc ht hlt hy => ?group, fun hc hdue hy => ⟨fun hb => ?overlap, fun hn => ?overlapNone⟩,
    fun hc hf hb ht hd => ?zeroise,
    fun h hl => ⟨fun hb => ⟨?chgReadBusy, ?chgWriteBusy⟩, fun hb hy => ⟨?chgRead, ?chgWrite⟩⟩⟩
  case katNone => exact answers_of_effect (fun _ => rfl) (opKnownAnswer_none (hk.trans h0))
  case katSome => exact answers_of_effect (fun _ => rfl) (opKnownAnswer_some hk h0 hy)
  case clear => exact answers_of_effect (fun _ => rfl) (access_accepts _ h)
  case readBusy => exact answers_of_effect (fun _ => rfl) (window_busy h nofun hb)
  case stageBusy => exact answers_of_effect (fun _ => rfl) (window_busy h (fun _ => hl) hb)
  case copyBusy => exact answers_of_effect (fun _ => rfl) (window_busy h nofun hb)
  case latchBusy => exact answers_of_effect (fun _ => rfl) (window_busy h nofun hb)
  case changeBusy => exact answers_of_effect (fun _ => rfl) (window_busy h nofun hb)
  case ctxRead => exact answers_of_effect (fun _ => rfl) (opCtxRead_acts h hb hy hc hk)
  case ctxStage => exact answers_of_effect (fun _ => rfl) (opCtxStage_acts h hb hy hl hc hz)
  case ctxCopy => exact answers_of_effect (fun _ => rfl) (opCtxCounters_acts h hb hy hc hz)
  case ctxLatch => exact answers_of_effect (fun _ => rfl) (opCtxLatch_acts h hb hy hc hs hst hz hx)
  case ctxChange => exact answers_of_effect (fun _ => rfl) (opChangeoverNow_acts h hb hy hc)
  case group =>
    subst hy
    exact answers_of (fun _ => rfl) (decide_eq_true hg) (launch_onTime _ ha (by rw [hc]; rfl) hh ht hlt)
  case overlap => exact answers_of (fun _ => rfl) (decide_eq_true hc) (opOverlapEnd_zeroises hdue hy hb)
  case overlapNone => exact answers_of (fun _ => rfl) (decide_eq_true hc) (opOverlapEnd_none hdue hy hn)
  case zeroise => exact answers_of (fun _ => rfl) (decide_eq_true hc) (opOldZeroise_zeroises hf hb ht hd)
  case chgReadBusy => exact answers_of_effect (fun _ => rfl) (window_busy h nofun hb)
  case chgWriteBusy => exact answers_of_effect (fun _ => rfl) (window_busy h (fun _ => hl) hb)
  case chgRead => exact answers_of_effect (fun _ => rfl) (opChgRead_acts h hb hy)
  case chgWrite => exact answers_of_effect (fun _ => rfl) (opChgWrite_acts h hb hy hl)

end Sys2Proof.Machine
end

/-!
PROOF. The Voholt links: up and down, credit, frames, and the path window with the revert of a path (O50).
-/

section

namespace Sys2Proof.Machine

variable {d u y z : Dev} {i : Initiator} {n : VhLink}

/-! ### Up and down (R328, R329) -/

section Up
variable {grant : List Nat}

theorem opVhLinkUp_stays (h : d.flag (VHL_STAT_link n) = true ∨ d.flag (VHL_CFG_en n) = false ∨ d.vcRole = 0 ∨ d.up = false ∨
      d.flag (PG_STATE_in_reset (pgVHL n)) = true ∨ d.inq n ≠ [] ∨ d.inService (pgVHL n) = false) : opVhLinkUp n grant d = d := by
  refine if_pos ?_
  simp only [Bool.or_eq_true, Bool.not_eq_true', beq_iff_eq, List.isEmpty_eq_false_iff]
  tauto

variable (hl : d.flag (VHL_STAT_link n) = false) (hen : d.flag (VHL_CFG_en n) = true) (hrole : d.vcRole ≠ 0) (hup : d.up = true)
  (hres : d.flag (PG_STATE_in_reset (pgVHL n)) = false) (hq : d.inq n = []) (hserv : d.inService (pgVHL n) = true)
  (hy : y = ((d.put (VHL_STAT_link n) 1).put (VHL_STAT_fec n) 1).put (VHL_STAT_state n)
    (if d.get (PG_STATE_iso (pgVHL n)) = 0 then 2 else 3))
  (hz : z = y.each (List.range 8) (fun q s =>
    let s := s.put (VHL_CRED_coins n q) (grant.getD q 0)
    { s with voh := { s.voh with
      credIn := NMap.set 0 s.voh.credIn (n.val * 8 + q) (s.get (VHL_CRED_INIT_coins n q)),
      held := NMap.set 0 s.voh.held (n.val * 8 + q) 0, returned := NMap.set 0 s.voh.returned (n.val * 8 + q) 0,
      peerRet := NMap.set 0 s.voh.peerRet (n.val * 8 + q) 0 } }))
  (hu : u = (z.raise (pgVHL n) 8).fillChanged n)
include hl hen hrole hup hres hq hserv hy hz hu

/-- A link comes up with the coins granted and its own initial credit; isolated it keeps its drain. -/
theorem opVhLinkUp_up : opVhLinkUp n grant d =
    if d.get (PG_STATE_iso (pgVHL n)) = 0 then (u.drainOff (58 + n.val)).revertStart n.val else u := by
  have hgo : ¬ (d.flag (VHL_STAT_link n) || !d.flag (VHL_CFG_en n) || d.vcRole == 0 || !d.up ||
      d.flag (PG_STATE_in_reset (pgVHL n)) || !(d.inq n).isEmpty || !d.inService (pgVHL n)) = true := by
    rw [hl, hen, hup, hres, hq, hserv, beq_eq_false_iff_ne.mpr hrole]
    decide
  refine (if_neg hgo).trans ?_
  subst hu hz hy
  by_cases hiso : d.get (PG_STATE_iso (pgVHL n)) = 0
  · simp only [hiso, bne_self_eq_false, Bool.false_eq_true, ↓reduceIte]
  · simp only [bne_iff_ne.mpr hiso, if_neg hiso, ↓reduceIte]

end Up

theorem opVhLinkDown_down {b : Bool} (h : d.flag (VHL_STAT_link n) = true) :
    opVhLinkDown n b d = if b then (d.count (VHL_CNT n 15)).vhDown n else d.vhDown n := by
  rw [opVhLinkDown, if_neg (by rw [h]; decide)]
  cases b <;> rfl

theorem opVhLinkDown_stays {b : Bool} (h : d.flag (VHL_STAT_link n) = false) : opVhLinkDown n b d = d := if_pos (by rw [h]; rfl)

/-! ### Control blocks and frames (R332, R334, R335, R338) -/

section Block
variable {ret : List Nat}

theorem opVhControlBlock_down (h : d.flag (VHL_STAT_link n) = false) : opVhControlBlock n ret d = d := if_pos (by rw [h]; rfl)

theorem opVhControlBlock_up (h : d.flag (VHL_STAT_link n) = true) : opVhControlBlock n ret d =
    d.each (List.range 8) (fun q s =>
      let w := ret.getD q (NMap.get 0 s.voh.peerRet (n.val * 8 + q)) % 65536
      let g := (w + 65536 - NMap.get 0 s.voh.peerRet (n.val * 8 + q)) % 65536
      let s := { s with voh := { s.voh with peerRet := NMap.set 0 s.voh.peerRet (n.val * 8 + q) w } }
      s.put (VHL_CRED_coins n q) (min 65535 (s.get (VHL_CRED_coins n q) + g))) := if_neg (by rw [h]; decide)

end Block

section Frame
variable {tag : BitVec 64} {data : List Byte} {chk eighth : Nat} {p : CwPairs}

theorem opVhFrame_down (h : d.flag (VHL_STAT_link n) = false ∨ d.inService (pgVHL n) = false) :
    opVhFrame n tag data chk p eighth d = d := by
  refine if_pos ?_
  rw [Bool.or_eq_true, Bool.not_eq_true', Bool.not_eq_true']
  exact h

variable (hl : d.flag (VHL_STAT_link n) = true) (hs : d.inService (pgVHL n) = true)
  (hy : y = d.add ⟨VHL_CNT n 4, 31, 0⟩ p.corrected)
include hl hs hy

/-- A frame whose check value fails, or with a lost pair, is counted. -/
theorem opVhFrame_bad (h : chk ≠ cascadeCheck tag.toNat data ∨ 0 < p.lost) :
    opVhFrame n tag data chk p eighth d = (y.count (VHL_CNT n 6)).pairsLost n p.lost := by
  subst hy
  rw [opVhFrame, if_neg (by rw [hl, hs]; decide)]
  refine if_pos ?_
  rw [Bool.or_eq_true, bne_iff_ne, decide_eq_true_eq]
  exact h

variable (hchk : chk = cascadeCheck tag.toNat data) (hlost : p.lost = 0)
include hchk hlost

/-- A good frame goes by its type. -/
theorem opVhFrame_good : opVhFrame n tag data chk p eighth d =
    if nb tag.toNat 3 0 = 2 then y.vhControl n tag.toNat data
    else if nb tag.toNat 3 0 ≠ 1 then y.count (VHL_CNT n 7)
    else if (decide (y.get (PG_STATE_iso (pgVHL n)) ≠ 0) || !y.flag SYS_DEVID_valid) = true then y.count (VHL_CNT n 14)
    else y.vhQueue n tag.toNat data eighth := by
  subst hy
  rw [opVhFrame, if_neg (by rw [hl, hs]; decide)]
  refine if_neg ?_
  rw [Bool.or_eq_true, bne_iff_ne, decide_eq_true_eq, hlost]
  exact not_or.mpr ⟨not_not.mpr hchk, lt_irrefl 0⟩

theorem opVhFrame_control (ht : nb tag.toNat 3 0 = 2) : opVhFrame n tag data chk p eighth d = y.vhControl n tag.toNat data :=
  (opVhFrame_good hl hs hy hchk hlost).trans (if_pos ht)

theorem opVhFrame_otherType (h1 : nb tag.toNat 3 0 ≠ 1) (h2 : nb tag.toNat 3 0 ≠ 2) :
    opVhFrame n tag data chk p eighth d = y.count (VHL_CNT n 7) :=
  (opVhFrame_good hl hs hy hchk hlost).trans ((if_neg h2).trans (if_pos h1))

theorem opVhFrame_noDevice (h1 : nb tag.toNat 3 0 = 1) (h : y.get (PG_STATE_iso (pgVHL n)) ≠ 0 ∨ y.flag SYS_DEVID_valid = false) :
    opVhFrame n tag data chk p eighth d = y.count (VHL_CNT n 14) := by
  refine (opVhFrame_good hl hs hy hchk hlost).trans ((if_neg (by omega)).trans ((if_neg (not_not.mpr h1)).trans (if_pos ?_)))
  rw [Bool.or_eq_true, decide_eq_true_eq, Bool.not_eq_true']
  exact h

theorem opVhFrame_queues (h1 : nb tag.toNat 3 0 = 1) (hiso : y.get (PG_STATE_iso (pgVHL n)) = 0) (hid : y.flag SYS_DEVID_valid = true) :
    opVhFrame n tag data chk p eighth d = y.vhQueue n tag.toNat data eighth := by
  refine (opVhFrame_good hl hs hy hchk hlost).trans ((if_neg (by omega)).trans ((if_neg (not_not.mpr h1)).trans (if_neg ?_)))
  rw [hid, Bool.not_true, Bool.or_false, decide_eq_true_eq]
  exact not_not.mpr hiso

end Frame

/-! ### Paths (R344) -/

theorem opPathRevert_due {dev e : Nat} (hdue : d.due ⟨.pathRevert, dev, 0⟩ = some e) (hy : y = (d.at_ e).cancel ⟨.pathRevert, dev, 0⟩) :
    opPathRevert dev d = if y.linkUsable (nb (y.path dev) 2 0) then y.pathSwitch dev false else y := by
  subst hy
  rw [opPathRevert, onTimer_due d _ hdue]

section PathWindow
variable {k : Nat} {b : Bool} (h : d.accepts i = true) (hb : d.flag (VHL_PATH_STAT_busy 0) = false)
  (hy : y = d.put (VHL_PATH_STAT_err 0) 0) (hk : k = y.get (VHL_PATH_SEL_dev 0))
include h hb hy hk

theorem opPathRead_acts {e : Nat} (he : e = (if (b && y.voh.pathsD.contains k) = true then NMap.get 0 y.voh.pathsS k else y.path k)) :
    opPathRead i b d = ((y.wr (VHL_PATH_DATA 0) (BitVec.ofNat 32 e)).put (VHL_PATH_DATA_using_alt 0)
      (if y.voh.onAlt.contains k = true then 1 else 0)).put (VHL_PATH_STAT_busy 0) 1 := by
  subst he hk hy
  exact window_acts h nofun hb rfl

theorem opPathStage_acts (hl : d.locked (pgVHL 0) = false) (hz : z = { y with voh := { y.voh with
      pathsS := NMap.set 0 y.voh.pathsS k (nset (y.rd (VHL_PATH_DATA 0)).toNat 18 18 0),
      pathsD := y.voh.pathsD.filter (· != k) ++ [k] } }) :
    opPathStage i d = z.put (VHL_PATH_STAT_busy 0) 1 := by
  subst hz hk hy
  exact window_acts h (fun _ => hl) hb rfl

end PathWindow

/-- Settles O50: the cascade links and their paths. -/
theorem cascadeLinksAct : Obligations.CascadeLinksAct := by
  intro d y z u i n grant ret tag data dev e k eighth chk p b
  refine ⟨fun hg => ⟨fun h => ?stays, fun hl hen hrole hup hres hq hserv hy hz hu => ⟨fun hiso => ?upIsolated, fun hiso => ?up⟩⟩,
    fun h => ⟨?down, ?downInRx⟩, fun h => ?downStays, fun hr hall => ⟨fun h => ?blockDown, fun h => ?block⟩,
    fun he hc => ⟨fun h => ?frameDown, fun hl hs hy => ⟨fun h => ?frameBad, fun hchk hlost => ⟨fun ht => ?control,
      fun h1 h2 => ?otherType, fun h1 => ⟨fun h => ?noDevice, fun hiso hid => ?queues⟩⟩⟩⟩,
    answers_of_effect (fun _ => rfl) rfl, answers_of_effect (fun _ => rfl) rfl,
    fun hdev hdue hy => ⟨fun hu => ?revert, fun hu => ?revertNot⟩, fun h hb => ⟨?readBusy, fun hl => ?stageBusy⟩,
    fun h hb hy hk => ⟨fun he => ?read, fun hl hz => ?stage⟩, fun h hl => ?stageLocked⟩
  case stays => exact answers_of (fun _ => rfl) (decide_eq_true hg) (opVhLinkUp_stays h)
  case upIsolated =>
    exact answers_of (fun _ => rfl) (decide_eq_true hg) ((opVhLinkUp_up hl hen hrole hup hres hq hserv hy hz hu).trans (if_neg hiso))
  case up =>
    exact answers_of (fun _ => rfl) (decide_eq_true hg) ((opVhLinkUp_up hl hen hrole hup hres hq hserv hy hz hu).trans (if_pos hiso))
  case down => exact answers_of_effect (fun _ => rfl) (opVhLinkDown_down h)
  case downInRx => exact answers_of_effect (fun _ => rfl) (opVhLinkDown_down h)
  case downStays => exact answers_of_effect (fun _ => rfl) (opVhLinkDown_stays h)
  case blockDown => exact answers_of (fun _ => rfl) (by rw [hr, hall]; rfl) (opVhControlBlock_down h)
  case block => exact answers_of (fun _ => rfl) (by rw [hr, hall]; rfl) (opVhControlBlock_up h)
  case frameDown =>
    exact answers_of (fun _ => rfl) (by rw [decide_eq_true he, decide_eq_true hc]; rfl) (opVhFrame_down h)
  case frameBad =>
    exact answers_of (fun _ => rfl) (by rw [decide_eq_true he, decide_eq_true hc]; rfl) (opVhFrame_bad hl hs hy h)
  case control =>
    exact answers_of (fun _ => rfl) (by rw [decide_eq_true he, decide_eq_true hc]; rfl) (opVhFrame_control hl hs hy hchk hlost ht)
  case otherType =>
    exact answers_of (fun _ => rfl) (by rw [decide_eq_true he, decide_eq_true hc]; rfl) (opVhFrame_otherType hl hs hy hchk hlost h1 h2)
  case noDevice =>
    exact answers_of (fun _ => rfl) (by rw [decide_eq_true he, decide_eq_true hc]; rfl) (opVhFrame_noDevice hl hs hy hchk hlost h1 h)
  case queues =>
    exact answers_of (fun _ => rfl) (by rw [decide_eq_true he, decide_eq_true hc]; rfl)
      (opVhFrame_queues hl hs hy hchk hlost h1 hiso hid)
  case revert => exact answers_of (fun _ => rfl) (decide_eq_true hdev) ((opPathRevert_due hdue hy).trans (if_pos hu))
  case revertNot =>
    exact answers_of (fun _ => rfl) (decide_eq_true hdev) ((opPathRevert_due hdue hy).trans (if_neg (Bool.eq_false_iff.mp hu)))
  case readBusy => exact answers_of_effect (fun _ => rfl) (window_busy h nofun hb)
  case stageBusy => exact answers_of_effect (fun _ => rfl) (window_busy h (fun _ => hl) hb)
  case read => exact answers_of_effect (fun _ => rfl) (opPathRead_acts h hb hy hk he)
  case stage => exact answers_of_effect (fun _ => rfl) (opPathStage_acts h hb hy hk hl hz)
  case stageLocked => exact answers_of_effect (fun _ => rfl) (window_locked h hl)

end Sys2Proof.Machine
end

/-!
PROOF. Cascade commits: votes, decisions, the deadline, the guard and the execution at T (O52).
-/

section

namespace Sys2Proof.Machine

variable {d y z : Dev}

/-- Running through a list depends on what each element does alone. -/
theorem each_congr {α : Type} {l : List α} {f g : α → Dev → Dev} (h : ∀ a t, f a t = g a t) : d.each l f = d.each l g := by
  rw [show f = g from funext fun a => funext (h a)]

section Vote
variable {v : Vote}

theorem opVote_noCascade (h : d.cascades = false) : opVote v d = d := if_pos (by rw [h]; rfl)

theorem opVote_decides (h : d.cascades = true) (hd : d.decides = true) : opVote v d = d.voteIn v :=
  (if_neg (by rw [h]; decide)).trans (if_pos hd)

/-- Another device relays a vote toward the master, where it has a way to it. -/
theorem opVote_relays {c : Option Nat} (h : d.cascades = true) (hd : d.decides = false) (hm : d.toMaster = (c, y)) :
    opVote v d = c.elim y (fun c => y.ctl c (.vote v)) := by
  refine (if_neg (by rw [h]; decide)).trans ((if_neg (by rw [hd]; decide)).trans ?_)
  rw [hm]
  cases c <;> rfl

end Vote

section Decision
variable {x : Decide}

theorem opDecide_ignored (h : d.cascades = false ∨ d.voh.seen.contains (x.src, x.seq) = true) : opDecide x d = d := by
  refine if_pos ?_
  rw [Bool.or_eq_true, Bool.not_eq_true']
  exact h

theorem opDecide_acts (h : d.cascades = true) (hs : d.voh.seen.contains (x.src, x.seq) = false)
    (hy : y = { d with voh := { d.voh with seen := d.voh.seen ++ [(x.src, x.seq)] } }) :
    opDecide x d = (y.each (y.upLinks.filter (fun c => c != x.link))
      (fun c t => t.ctl c (.decide { x with link := 0 }))).decideActs x.key x.commit := by
  subst hy
  exact if_neg (by rw [h, hs]; decide)

end Decision

section Deadline
variable {key : CommitKey}

theorem opCcDeadline_undecided (h : d.cascades = true) (hk : d.voh.keys.any (fun o => decide (o.key = key) && o.decided.isNone) = true) :
    opCcDeadline key d = (d.atNs (key.t - d.leadNs)).decideKey key false := if_pos (by rw [h, hk]; rfl)

theorem opCcDeadline_passed (h : d.cascades = false ∨ d.voh.keys.any (fun o => decide (o.key = key) && o.decided.isNone) = false) :
    opCcDeadline key d = d := by
  refine if_neg ?_
  rw [Bool.not_eq_true, Bool.and_eq_false_iff]
  exact h

theorem opCcGuard_waiting (h : (d.waitingFor key).isEmpty = false) (hy : y = d.atNs (key.t - d.guardNs)) :
    opCcGuard key d = y.ccFails (d.waitingFor key) rsCascadeDown := by
  subst hy
  exact if_neg (Bool.eq_false_iff.mp h)

theorem opCcGuard_none (h : (d.waitingFor key).isEmpty = true) : opCcGuard key d = d := if_pos h

theorem opCascadeExecute_none (h : (d.decidedFor key).isEmpty = true) : opCascadeExecute key d = d := if_pos (by rw [h]; rfl)

theorem opCascadeExecute_commits (h : (d.decidedFor key).isEmpty = false) (ht : d.turn (d.commitTurn key.t) = true) :
    opCascadeExecute key d = ((d.atNs key.t).commitPages (d.decidedFor key)).ccStat csDone 0 := if_neg (by rw [h, ht]; decide)

end Deadline

/-- A resend drops the decided keys whose guard has come and sends the decisions of the others again. -/
theorem opDecideResend_due {e : Nat} {l : List OpenKey} (hdue : d.due ⟨.decideResend, 0, 0⟩ = some e)
    (hy : y = (d.at_ e).cancel ⟨.decideResend, 0, 0⟩)
    (hl : l = y.voh.keys.filter (fun o => o.decided.isNone || decide (y.ns + y.guardNs < o.key.t)))
    (hz : z = ({ y with voh := { y.voh with keys := l } } : Dev).each l (fun o t => o.decided.elim t (fun b =>
      t.broadcast (fun src q => .decide { key := o.key, commit := b, src := src, seq := q, link := 0 })))) :
    opDecideResend d = if l.any (fun o => o.decided.isSome) then z.armIn ⟨.decideResend, 0, 0⟩ (usT 10) else z := by
  subst hz hl hy
  rw [opDecideResend, onTimer_due d _ hdue]
  refine congrArg (fun t : Dev => if List.any _ _ then t.armIn _ _ else t) (each_congr fun o t => ?_)
  cases o.decided <;> rfl

/-- Settles O52: cascade commits from the votes to the execution. -/
theorem cascadeCommitsAct : Obligations.CascadeCommitsAct := by
  intro d y z v x key e c l hkey
  refine ⟨fun hv => ⟨fun h => ?noCascade, fun h hd => ?decides, fun h hd => ⟨fun hm => ?relays, fun hm => ?noWay⟩⟩,
    fun hx => ⟨fun h => ?seen, fun h hs hy => ?decision⟩, fun h hk => ?deadline, fun h => ?deadlinePassed,
    fun hdue hy hl hz => ⟨fun ha => ?resend, fun ha => ?resendLast⟩, fun h hy => ?guard, fun h => ?guardNone,
    fun h => ?executeNone, fun h ht => ?execute⟩
  case noCascade => exact answers_of (fun _ => rfl) hv (opVote_noCascade h)
  case decides => exact answers_of (fun _ => rfl) hv (opVote_decides h hd)
  case relays => exact answers_of (fun _ => rfl) hv (opVote_relays h hd hm)
  case noWay => exact answers_of (fun _ => rfl) hv (opVote_relays h hd hm)
  case seen => exact answers_of (fun _ => rfl) hx (opDecide_ignored h)
  case decision => exact answers_of (fun _ => rfl) hx (opDecide_acts h hs hy)
  case deadline => exact answers_of (fun _ => rfl) hkey (opCcDeadline_undecided h hk)
  case deadlinePassed => exact answers_of (fun _ => rfl) hkey (opCcDeadline_passed h)
  case resend => exact answers_of_effect (fun _ => rfl) ((opDecideResend_due hdue hy hl hz).trans (if_pos ha))
  case resendLast =>
    exact answers_of_effect (fun _ => rfl) ((opDecideResend_due hdue hy hl hz).trans (if_neg (Bool.eq_false_iff.mp ha)))
  case guard => exact answers_of (fun _ => rfl) hkey (opCcGuard_waiting h hy)
  case guardNone => exact answers_of (fun _ => rfl) hkey (opCcGuard_none h)
  case executeNone => exact answers_of (fun _ => rfl) hkey (opCascadeExecute_none h)
  case execute => exact answers_of (fun _ => rfl) hkey (opCascadeExecute_commits h ht)

end Sys2Proof.Machine
end

/-!
PROOF. The banks: their writing and verification, the owner lock and the loading of PHY code (O53).
-/

section

namespace Sys2Proof.Machine

variable {d w y z : Dev} {i : Initiator}

/-! ### The write of a bank (R371, R372) -/

section Write
variable {bank : Bool} {b e n : Nat}

theorem opBankWriteDone_ok (hdue : d.due ⟨.bankWrite, 0, 0⟩ = some e) :
    opBankWriteDone true d = ((d.at_ e).stopBankWrite.updIdle).raise pgUPD 8 := by
  simp only [opBankWriteDone, Dev.running, hdue, Option.isSome_some, Bool.not_true, Bool.false_eq_true, ↓reduceIte]

theorem opBankWriteDone_sourceUe (hdue : d.due ⟨.bankWrite, 0, 0⟩ = some e) :
    opBankWriteDone false d = ((d.stopBankWrite.updIdle.memUe (sourceWord d)).put UPD_STAT_reason 0x2D).raise pgUPD 8 := by
  simp only [opBankWriteDone, Dev.running, hdue, Option.isSome_some, Bool.not_true, Bool.false_eq_true, ↓reduceIte]

theorem opBankWriteDone_idle {ok : Bool} (h : d.running ⟨.bankWrite, 0, 0⟩ = false) : opBankWriteDone ok d = d :=
  if_pos (by rw [h]; rfl)

variable (hi : d.accepts i = true) (hbank : b = (if bank = true then 1 else 0))
include hi

theorem opBankWrite_busy (h : d.updBusy = true) : opBankWrite i bank d = d.updRefuse 0x02 := by
  rw [opBankWrite, access_accepts _ hi]
  exact if_pos h

variable (h : d.updBusy = false)
include hbank h

theorem opBankWrite_running (hr : b = d.get UPD_BANK_run) : opBankWrite i bank d = d.updRefuse 0x28 := by
  subst hbank
  rw [opBankWrite, access_accepts _ hi]
  exact (if_neg (Bool.eq_false_iff.mp h)).trans (if_pos hr)

variable (hr : b ≠ d.get UPD_BANK_run)
include hr

theorem opBankWrite_owned (ho : d.ownerLocked = true) : opBankWrite i bank d = d.updRefuse 0x22 := by
  subst hbank
  rw [opBankWrite, access_accepts _ hi]
  exact (if_neg (Bool.eq_false_iff.mp h)).trans ((if_neg hr).trans (if_pos ho))

variable (ho : d.ownerLocked = false)
include ho

theorem opBankWrite_outside (hn : n = d.get UPD_W_LEN_bytes) (hg : bankRange (d.get UPD_W_DST_offset) n = false) :
    opBankWrite i bank d = d.updRefuse 0 := by
  subst hn hbank
  rw [opBankWrite, access_accepts _ hi]
  exact (if_neg (Bool.eq_false_iff.mp h)).trans ((if_neg hr).trans ((if_neg (Bool.eq_false_iff.mp ho)).trans
    (if_pos (by rw [hg]; rfl))))

theorem opBankWrite_starts (hn : n = d.get UPD_W_LEN_bytes) (hg : bankRange (d.get UPD_W_DST_offset) n = true)
    (hy : y = { d with upd := { d.upd with
      bank := b, src := sourceAddr i (d.rd64 UPD_W_SRC_LO UPD_W_SRC_HI % 2 ^ 40), dst := d.get UPD_W_DST_offset, len := n } }) :
    opBankWrite i bank d =
      (((y.setVerified b false).put UPD_STAT_busy 1).put UPD_STAT_state 1).armIn ⟨.bankWrite, 0, 0⟩ (bankTime n) := by
  subst hy hn hbank
  rw [opBankWrite, access_accepts _ hi]
  exact (if_neg (Bool.eq_false_iff.mp h)).trans ((if_neg hr).trans ((if_neg (Bool.eq_false_iff.mp ho)).trans
    (if_neg (by rw [hg]; decide))))

end Write

/-! ### The verification of a bank (R374, R375) -/

section Verify
variable {bank : Bool} {b : Nat} (hi : d.accepts i = true)
include hi

theorem opBankVerify_busy (h : d.updBusy = true ∨ d.sigBusy = true) : opBankVerify i bank d = d.updRefuse 0x02 := by
  rw [opBankVerify, access_accepts _ hi]
  exact if_pos (by rw [Bool.or_eq_true]; exact h)

variable (hbank : b = (if bank = true then 1 else 0)) (h : d.updBusy = false) (hs : d.sigBusy = false)
include hbank h hs

theorem opBankVerify_running (hr : b = d.get UPD_BANK_run) : opBankVerify i bank d = d.updRefuse 0x28 := by
  subst hbank
  rw [opBankVerify, access_accepts _ hi]
  exact (if_neg (by rw [h, hs]; decide)).trans (if_pos hr)

theorem opBankVerify_starts (hr : b ≠ d.get UPD_BANK_run) (hy : y = { d with upd := { d.upd with bank := b } }) :
    opBankVerify i bank d = ((y.put UPD_STAT_busy 1).put UPD_STAT_state 2).armIn ⟨.bankVerify, 0, 0⟩ (msT 110) := by
  subst hy hbank
  rw [opBankVerify, access_accepts _ hi]
  exact (if_neg (by rw [h, hs]; decide)).trans (if_neg hr)

end Verify

section Verified
variable {img : BankImage} {res : VerifyResult} {e : Nat} (hdue : d.due ⟨.bankVerify, 0, 0⟩ = some e)
  (hy : y = d.cancel ⟨.bankVerify, 0, 0⟩) (hz : z = y.updIdle)

/-- The verdict on an image: its making and signature, the hardware it asks for and the digests of its blocks. -/
theorem imageVerdict_eq (hres : res = (if imageWellMade img = false ∨ y.imageSigned img = false then .badImage
    else if y.get SYS_SYS_ID_die < img.hwMin then .incompatible
    else if img.blocks.any (fun b => decide (sha false b.data ≠ b.digest)) = true then .blockCheck else .pass)) :
    res = y.imageVerdict img := by
  rw [hres, Dev.imageVerdict]
  simp only [Bool.or_eq_true, Bool.not_eq_true']

variable (hres : res = y.imageVerdict img)
include hdue hy hz hres

theorem opBankVerifyDone_fails (hf : res ≠ .pass) :
    opBankVerifyDone img d = ((z.setVerified y.upd.bank false).put UPD_STAT_reason (verifyReason res)).raise pgUPD 8 := by
  subst hres hz hy
  rw [opBankVerifyDone, endTimer_due d _ hdue]
  simp only [if_neg hf]

theorem opBankVerifyDone_passes (hp : res = .pass) (hw : w = (z.setVerified y.upd.bank true).wr
      (if y.upd.bank = 0 then UPD_VER_A else UPD_VER_B) (BitVec.ofNat 32 img.version)) :
    opBankVerifyDone img d = (if y.upd.bank = 0
      then { w with mram := { w.mram with headerA := some (imageHeader img) } }
      else { w with mram := { w.mram with headerB := some (imageHeader img) } } : Dev).raise pgUPD 8 := by
  rw [hres] at hp
  subst hw hz hy
  rw [opBankVerifyDone, endTimer_due d _ hdue]
  simp only [if_pos hp]

end Verified

/-! ### The owner lock (R375) -/

section Owner
variable (hi : d.accepts i = true)
include hi

theorem opOlockSet_locks (hy : y = (d.put UPD_OLOCK_locked 1).put UPD_OLOCK_unlocked 0) :
    opOlockSet i d = if y.handoverDue = true then y else y.guardAborts 0x22 := by
  subst hy
  exact access_accepts _ hi

theorem opOlockClear_acts : opOlockClear i d = if d.flag UPD_OLOCK_unlocked then d.put UPD_OLOCK_locked 0 else d :=
  access_accepts _ hi

theorem opOlockUnlock_busy (hs : d.sigBusy = true) : opOlockUnlock i d = d.updRefuse 0x02 := by
  rw [opOlockUnlock, access_accepts _ hi]
  exact if_pos hs

theorem opOlockUnlock_good (hs : d.sigBusy = false) (hg : d.unlockGood = true) (hy : y = d.put UPD_OLOCK_unlocked 1) :
    opOlockUnlock i d = y.put UPD_OLOCK_CTR_ctr (d.get UPD_OLOCK_CTR_ctr + 1) := by
  subst hy
  rw [opOlockUnlock, access_accepts _ hi]
  exact (if_neg (Bool.eq_false_iff.mp hs)).trans (if_pos hg)

theorem opOlockUnlock_bad (hs : d.sigBusy = false) (hg : d.unlockGood = false) : opOlockUnlock i d = d.updRefuse 0x22 := by
  rw [opOlockUnlock, access_accepts _ hi]
  exact (if_neg (Bool.eq_false_iff.mp hs)).trans (if_neg (Bool.eq_false_iff.mp hg))

end Owner

/-! ### The loading of PHY code (R379, R382) -/

section Code
variable {group k mv : Nat} {motion : Bool} (hi : d.accepts i = true)
  (hw : w = (if d.locked pgUPD = true then d.lockViol pgUPD i 0x170 (2 ^ 8 + group % 8) else d))
  (hk : k = (if d.locked pgUPD = true then w.get UPD_PART_group else group)) (hz : z = (w.seeGuards motion mv).put UPD_PART_group k)
include hi hw hk hz

theorem opPhyCode_loading (hp : z.upd.partPort.isSome = true) : opPhyCode i group motion mv d = z.updRefuse 0x02 := by
  subst hz hk hw
  exact (writeMixed_accepts _ hi).trans (if_pos hp)

variable (hp : z.upd.partPort = none)
include hp

theorem opPhyCode_noGroup (h4 : 4 < k) : opPhyCode i group motion mv d = z.updRefuse 0 := by
  subst hz hk hw
  exact (writeMixed_accepts _ hi).trans ((if_neg (by rw [hp]; decide)).trans (if_pos h4))

variable (h4 : k ≤ 4)
include h4

theorem opPhyCode_guarded {r : Nat} (hg : z.guardReason = some r) : opPhyCode i group motion mv d = z.updRefuse r := by
  subst hz hk hw
  refine (writeMixed_accepts _ hi).trans ((if_neg (by rw [hp]; decide)).trans ((if_neg (not_lt.mpr h4)).trans ?_))
  rw [hg]

theorem opPhyCode_starts (hg : z.guardReason = none) (hy : y = { z with upd := { z.upd with partGroup := k } }) :
    opPhyCode i group motion mv d = ((y.put UPD_PART_go 1).put UPD_PART_DONE_done 0).codeNext (phyGroup k) := by
  subst hy hz hk hw
  refine (writeMixed_accepts _ hi).trans ((if_neg (by rw [hp]; decide)).trans ((if_neg (not_lt.mpr h4)).trans ?_))
  rw [hg]

end Code

section Port
variable {p : EthPort}

theorem opPhyCodeDone_done (hp : d.upd.partPort = some p.val) (hl : d.flag (ETH_STAT_link p) = true) (hc : d.codeLoading p = false) :
    opPhyCodeDone p d = d.codeDone p := if_pos (by rw [hl, hc, decide_eq_true hp]; rfl)

theorem opPhyCodeDone_waits (h : d.upd.partPort ≠ some p.val ∨ d.flag (ETH_STAT_link p) = false ∨ d.codeLoading p = true) :
    opPhyCodeDone p d = d := by
  refine if_neg ?_
  simp only [Bool.and_eq_true, decide_eq_true_eq, Bool.not_eq_true', ← Bool.not_eq_true] at h ⊢
  tauto

theorem opPhyCodeTimeout_due {e : Nat} (hp : d.upd.partPort = some p.val) (hl : d.flag (ETH_STAT_link p) = false)
    (hdue : d.due ⟨.phyCodeTimeout, p, 0⟩ = some e) :
    opPhyCodeTimeout p d = Dev.codeDone p ((d.at_ e).cancel ⟨.phyCodeTimeout, p, 0⟩) :=
  (if_pos (by rw [hl, decide_eq_true hp]; rfl)).trans (onTimer_due d _ hdue)

theorem opPhyCodeTimeout_ignored (h : d.upd.partPort ≠ some p.val ∨ d.flag (ETH_STAT_link p) = true) : opPhyCodeTimeout p d = d := by
  refine if_neg ?_
  simp only [Bool.and_eq_true, decide_eq_true_eq, Bool.not_eq_true', ← Bool.not_eq_true]
  tauto

end Port

/-- Settles O53: the banks, the owner lock and the PHY code. -/
theorem banksAct : Obligations.BanksAct := by
  intro d y z w i bank motion ok b k e mv group n r img res p hb
  refine ⟨fun hdue => ⟨?writeOk, ?writeUe⟩, fun h => ?writeIdle,
    fun hi => ⟨fun h => ?wBusy, fun h hn => ⟨fun hr => ?wRunning, fun hr ho => ?wOwned, fun hr ho hg => ?wOutside,
        fun hr ho hg hy => ?wStarts⟩, fun h => ?vBusy, fun h hs => ⟨fun hr => ?vRunning, fun hr hy => ?vStarts⟩,
      fun hy => ?lock, fun hu => ?clear, fun hu => ?clearNot, fun hs => ?unlockBusy, fun hs hg hy => ?unlockGood,
      fun hs hg => ?unlockBad, fun hgr hw hk hz => ⟨fun hp => ?codeBusy, fun hp => ⟨fun h4 => ?codeNoGroup, fun h4 hg => ?codeGuarded,
        fun h4 hg hy => ?codeStarts⟩⟩⟩,
    fun hwf hdue hy hz hres => ⟨fun hf => ?verifyFails, fun hp hw => ⟨fun hbk => ?verifyA, fun hbk => ?verifyB⟩⟩,
    fun hp => ⟨fun hl hc => ?portDone, fun hl hdue => ?portTimeout⟩, fun h => ?portWaits, fun h => ?portIgnored⟩
  case writeOk => exact answers_of_effect (fun _ => rfl) (opBankWriteDone_ok hdue)
  case writeUe => exact answers_of_effect (fun _ => rfl) (opBankWriteDone_sourceUe hdue)
  case writeIdle => exact answers_of_effect (fun _ => rfl) (opBankWriteDone_idle h)
  case wBusy => exact answers_of_effect (fun _ => rfl) (opBankWrite_busy hi h)
  case wRunning => exact answers_of_effect (fun _ => rfl) (opBankWrite_running hi hb h hr)
  case wOwned => exact answers_of_effect (fun _ => rfl) (opBankWrite_owned hi hb h hr ho)
  case wOutside => exact answers_of_effect (fun _ => rfl) (opBankWrite_outside hi hb h hr ho hn hg)
  case wStarts => exact answers_of_effect (fun _ => rfl) (opBankWrite_starts hi hb h hr ho hn hg hy)
  case vBusy => exact answers_of_effect (fun _ => rfl) (opBankVerify_busy hi h)
  case vRunning => exact answers_of_effect (fun _ => rfl) (opBankVerify_running hi hb h hs hr)
  case vStarts => exact answers_of_effect (fun _ => rfl) (opBankVerify_starts hi hb h hs hr hy)
  case lock => exact answers_of_effect (fun _ => rfl) (opOlockSet_locks hi hy)
  case clear => exact answers_of_effect (fun _ => rfl) ((opOlockClear_acts hi).trans (if_pos hu))
  case clearNot => exact answers_of_effect (fun _ => rfl) ((opOlockClear_acts hi).trans (if_neg (Bool.eq_false_iff.mp hu)))
  case unlockBusy => exact answers_of_effect (fun _ => rfl) (opOlockUnlock_busy hi hs)
  case unlockGood => exact answers_of_effect (fun _ => rfl) (opOlockUnlock_good hi hs hg hy)
  case unlockBad => exact answers_of_effect (fun _ => rfl) (opOlockUnlock_bad hi hs hg)
  case codeBusy => exact answers_of (fun _ => rfl) (decide_eq_true hgr) (opPhyCode_loading hi hw hk hz hp)
  case codeNoGroup => exact answers_of (fun _ => rfl) (decide_eq_true hgr) (opPhyCode_noGroup hi hw hk hz hp h4)
  case codeGuarded => exact answers_of (fun _ => rfl) (decide_eq_true hgr) (opPhyCode_guarded hi hw hk hz hp h4 hg)
  case codeStarts => exact answers_of (fun _ => rfl) (decide_eq_true hgr) (opPhyCode_starts hi hw hk hz hp h4 hg hy)
  case verifyFails => exact answers_of (fun _ => rfl) hwf (opBankVerifyDone_fails hdue hy hz (imageVerdict_eq hres) hf)
  case verifyA =>
    refine answers_of (fun _ => rfl) hwf ((opBankVerifyDone_passes hdue hy hz (imageVerdict_eq hres) hp hw).trans ?_)
    rw [if_pos hbk]
  case verifyB =>
    refine answers_of (fun _ => rfl) hwf ((opBankVerifyDone_passes hdue hy hz (imageVerdict_eq hres) hp hw).trans ?_)
    rw [if_neg hbk]
  case portDone => exact answers_of_effect (fun _ => rfl) (opPhyCodeDone_done hp hl hc)
  case portTimeout => exact answers_of_effect (fun _ => rfl) (opPhyCodeTimeout_due hp hl hdue)
  case portWaits => exact answers_of_effect (fun _ => rfl) (opPhyCodeDone_waits h)
  case portIgnored => exact answers_of_effect (fun _ => rfl) (opPhyCodeTimeout_ignored h)

end Sys2Proof.Machine
end

/-!
PROOF. The activation: preparation, the standby's copy, the handover slot and its launch, confirmation, restart, abort
and the onset of a guard (O54).
-/

section

namespace Sys2Proof.Machine

variable {d u x y z : Dev} {i : Initiator} {motion : Bool} {mv r : Nat} {hd : ImageHeader}

/-- The state field of the update unit is beside its bank register. -/
theorem bankImage_put_state {v : Nat} :
    (d.put UPD_STAT_state v).bankImage (d.put UPD_STAT_state v).otherBank = d.bankImage d.otherBank := by
  have hrun : (d.put UPD_STAT_state v).get UPD_BANK_run = d.get UPD_BANK_run := get_put_reg d v (by decide)
  have himg : (d.put UPD_STAT_state v).optImage = d.optImage := by
    refine List.flatMap_congr fun k hk => ?_
    have hk : k < 16 := List.mem_range.mp hk
    rw [rd_put_other d v (by simp only [OPT_IMG, UPD_STAT_state, UPD_STAT]; omega)]
  rw [Dev.bankImage, Dev.bankImage, Dev.otherBank, Dev.otherBank, hrun, himg, Dev.put_mram]

/-! ### Preparation and restart (R374, R375, R29) -/

section Start
variable (hi : d.accepts i = true) (hz : z = d.seeGuards motion mv)
include hi hz

theorem opPrepare_inStart (hb : z.pw.base = .start) (hh : z.pw.halted = false) : opPrepare i motion mv d = z.rejectTrig 0x10 := by
  subst hz
  rw [opPrepare, access_accepts _ hi]
  exact if_pos ⟨hb, by rw [hh]; rfl⟩

theorem opRestart_inStart (hb : z.pw.base = .start) (hh : z.pw.halted = false) : opRestart i motion mv d = z.rejectTrig 0x10 := by
  subst hz
  rw [opRestart, access_accepts _ hi]
  exact if_pos ⟨hb, by rw [hh]; rfl⟩

variable (hn : ¬ (z.pw.base = .start ∧ (!z.pw.halted) = true))
include hn

theorem opPrepare_refused (ha : z.activation true = .error r) : opPrepare i motion mv d = z.updRefuse r := by
  simp only [opPrepare, access_accepts _ hi, ← hz, if_neg hn, ha]

theorem opPrepare_accepted {sb : Nat} (ha : z.activation true = .ok hd) (hs : z.standby = some sb) (hu : u = z.resetBrace sb 3)
    (hx : x = { u with pw := { u.pw with updating := true }, upd := { u.upd with hdr := some hd, target := some (braceOf sb) } })
    (hy : y = (x.put UPD_STAT_state 3).syncMode) :
    opPrepare i motion mv d = if y.flag (BRC_ROLE_failed sb) then y.updOver 0x2C else y := by
  subst hy hx hu
  simp only [opPrepare, access_accepts _ hi, ← hz, if_neg hn, ha, hs]

theorem opRestart_refused (ha : z.activation false = .error r) : opRestart i motion mv d = z.updRefuse r := by
  simp only [opRestart, access_accepts _ hi, ← hz, if_neg hn, ha]

theorem opRestart_writing (ha : z.activation false = .ok hd) (ho : z.running ⟨.optionWrite, 0, 0⟩ = true) :
    opRestart i motion mv d = z.updRefuse 0x02 := by
  simp only [opRestart, access_accepts _ hi, ← hz, if_neg hn, ha, ho, ↓reduceIte]

theorem opRestart_writes (ha : z.activation false = .ok hd) (ho : z.running ⟨.optionWrite, 0, 0⟩ = false)
    (hy : y = z.put UPD_STAT_state 7) : opRestart i motion mv d = y.writeOptions 2 (y.bankImage y.otherBank) := by
  subst hy
  simp only [opRestart, access_accepts _ hi, ← hz, if_neg hn, ha, ho, Bool.false_eq_true, ↓reduceIte]
  rw [bankImage_put_state]

end Start

/-! ### The copied code (R376) -/

section Copy
variable {code : List Byte} {br : Brace} {e : Nat}

theorem opPrepareCopy_noTarget (h : d.upd.target = none) : opPrepareCopy code d = d := by
  rw [opPrepareCopy, h]

theorem codePlace_noCode (h : d.upd.hdr.bind (fun h => h.code) = none) : d.codePlace code = none := by
  rw [Dev.codePlace, h]

section Place
variable {dest n : Nat} {digest : List Byte} (hh : d.upd.hdr = some hd) (hc : hd.code = some (dest, n, digest))
include hh hc

theorem codePlace_eq : d.codePlace code = if code.length = n ∧ sha false code = digest then some dest else none := by
  have hb : d.upd.hdr.bind (fun h => h.code) = some (dest, n, digest) := by rw [hh]; exact hc
  rw [Dev.codePlace, hb]

theorem codePlace_wrong (hw : code.length ≠ n ∨ sha false code ≠ digest) : d.codePlace code = none := by
  rw [codePlace_eq hh hc, if_neg (not_and_or.mpr hw)]

theorem codePlace_right (hl : code.length = n) (hs : sha false code = digest) : d.codePlace code = some dest := by
  rw [codePlace_eq hh hc, if_pos ⟨hl, hs⟩]

end Place

variable (ht : d.upd.target = some br) (hdue : d.due ⟨.prepareCopy, 0, 0⟩ = some e) (hy : y = d.cancel ⟨.prepareCopy, 0, 0⟩)
include ht hdue hy

theorem opPrepareCopy_wrong (hp : y.codePlace code = none) : opPrepareCopy code d = y.updEnds 0x24 := by
  simp only [opPrepareCopy, ht, endTimer_due d _ hdue, ← hy, hp]

theorem opPrepareCopy_stands {dest : Nat} (hp : y.codePlace code = some dest)
    (hz : z = Dev.wrBytes (tcmAddr (brIx br) dest) (code.take (0x80000 - dest % 0x80000)) y)
    (hu : u = { z with brc := { z.brc with copied := z.brc.copied.filter (· != brIx br) ++ [brIx br] } })
    (hx : x = u.wdgStart (brIx br)) :
    opPrepareCopy code d = x.armIn ⟨.standby, 0, 0⟩ (msT (max 10 (x.get UPD_SB_TMO_ms))) := by
  subst hx hu hz
  simp only [opPrepareCopy, ht, endTimer_due d _ hdue, ← hy, hp]
  rfl

end Copy

/-! ### The abort (R382) -/

section Abort
variable (hi : d.accepts i = true)
include hi

theorem opUpdAbort_write (h : d.get UPD_STAT_state = 1) : opUpdAbort i d = d.stopBankWrite.updIdle.put UPD_STAT_reason 0x2C := by
  rw [opUpdAbort, access_accepts _ hi, h]
  rfl

theorem opUpdAbort_verify (h : d.get UPD_STAT_state = 2) :
    opUpdAbort i d = (d.cancel ⟨.bankVerify, 0, 0⟩).updIdle.put UPD_STAT_reason 0x2C := by
  rw [opUpdAbort, access_accepts _ hi, h]
  rfl

theorem opUpdAbort_other (h1 : d.get UPD_STAT_state ≠ 1) (h2 : d.get UPD_STAT_state ≠ 2) :
    opUpdAbort i d = if d.activating && !d.handoverDue then d.updEnds 0x2C else d.updRefuse 0x0B := by
  rw [opUpdAbort, access_accepts _ hi]
  split
  · exact absurd ‹_› h1
  · exact absurd ‹_› h2
  · rfl

end Abort

/-! ### The handover slot and its launch (R377) -/

section Arm
variable {w : Word} (hi : d.accepts i = true) (hw : w.getLsbD 31 = true)
include hi hw

/-- Both commands of the handover slot arm it in the same way. -/
theorem handoverArm_answers {cmd : Instr} (hcmd : cmd = .handoverSlotArm i w ∨ cmd = .slotArm i .handover w)
    (h : opHandoverArm i w d = y) : Answers cmd d y := by
  obtain rfl | rfl := hcmd
  · exact answers_of (fun _ => rfl) hw h
  · exact answers_of (fun _ => rfl) (by rw [hw]; rfl) ((if_pos rfl).trans h)

theorem opHandoverArm_locked (hl : d.locked pgUPD = true) : opHandoverArm i w d = d.lockViol pgUPD i 0x148 w.toNat :=
  (if_neg (by rw [ctlArmed, hw]; decide)).trans (write_locked _ _ _ hi hl)

variable (hl : d.locked pgUPD = false)
include hl

theorem opHandoverArm_errs (h : d.get UPD_STAT_state ≠ 4 ∨ ctlAction w ≠ 0x0B) :
    opHandoverArm i w d = d.setErr pgUPD i 0x148 w.toNat :=
  (if_neg (by rw [ctlArmed, hw]; decide)).trans ((write_accepts _ _ _ hi hl).trans (if_pos h))

variable (hs : d.get UPD_STAT_state = 4) (ha : ctlAction w = 0x0B)
include hs ha

theorem opHandoverArm_guarded (hg : d.guardReason = some r) : opHandoverArm i w d = d.updRefuse r := by
  refine (if_neg (by rw [ctlArmed, hw]; decide)).trans ((write_accepts _ _ _ hi hl).trans ((if_neg (by simp [hs, ha])).trans ?_))
  rw [hg]

theorem opHandoverArm_arms (hg : d.guardReason = none) (hy : y = d.armSlot i .handover w) :
    opHandoverArm i w d = if y.armed .handover then y.put UPD_STAT_state 5 else y := by
  subst hy
  refine (if_neg (by rw [ctlArmed, hw]; decide)).trans ((write_accepts _ _ _ hi hl).trans ((if_neg (by simp [hs, ha])).trans ?_))
  rw [hg]

end Arm

section Launch
variable {br : Brace}

theorem opHandoverLaunch_notArmed (h : d.upd.target = none ∨ d.get UPD_STAT_state ≠ 5) : opHandoverLaunch d = d := by
  cases ht : d.upd.target with
  | none => rw [opHandoverLaunch, ht]
  | some t => simp only [opHandoverLaunch, ht, if_pos (h.resolve_left (by rw [ht]; exact Option.some_ne_none t))]

variable (ht : d.upd.target = some br) (hs : d.get UPD_STAT_state = 5)
include ht hs

theorem opHandoverLaunch_guarded (hh : d.handoverDue = false) (hg : d.guardReason = some r) :
    opHandoverLaunch d = d.guardAborts r := by
  simp only [opHandoverLaunch, ht, hs, hh, hg, ne_eq, not_true_eq_false, Bool.not_false, Option.isSome_some, Bool.and_self,
    Option.getD_some, ↓reduceIte]

theorem opHandoverLaunch_hands {fin : Dev → Dev} (hg : d.handoverDue = true ∨ d.guardReason = none) (ha : d.armed .handover = true)
    (hh : d.pw.halted = false) (hc : ctlAction (d.slot .handover).ctl = 0x0B)
    (hturn : d.turn (d.turnAt .handover (d.slot .handover).time) = true)
    (hu : u = (d.lateTick .handover).elim (d.atNs (d.slot .handover).time) (fun t => d.atTick t))
    (hfin : fin = (fun t => if (d.lateTick .handover).isSome then (t.complete .handover true).countLate .handover
      else t.complete .handover false))
    (hz : z = u.handover (1 - brIx br) (brIx br) 5) (hx : x = { z with upd := { z.upd with target := none } })
    (hy : y = x.upd.hdr.elim x (fun h => x.wr UPD_RUN_VER (BitVec.ofNat 32 h.version))) :
    opHandoverLaunch d = fin (((y.put UPD_STAT_state 6).raise pgUPD 11).armIn ⟨.confirm, 0, 0⟩
      (secT (max 1 (min 600 (y.get UPD_CONF_TMO_s))))) := by
  have hfree : ¬ (!d.handoverDue && d.guardReason.isSome) = true := by
    obtain h | h := hg
    · rw [h, Bool.not_true, Bool.false_and]; decide
    · rw [h, Option.isSome_none, Bool.and_false]; decide
  simp only [opHandoverLaunch, ht, hs, ne_eq, not_true_eq_false, ↓reduceIte, if_neg hfree]
  rw [launch_inTurn _ ha (by rw [hc]; rfl) hh hturn rfl hu, hfin]
  simp only [← hz, ← hx]
  have hhdr : x.upd.hdr = z.upd.hdr := by rw [hx]
  cases hv : z.upd.hdr with
  | none =>
    rw [hhdr, hv, Option.elim_none] at hy
    simp only [hy]
  | some v =>
    rw [hhdr, hv, Option.elim_some] at hy
    simp only [hy]

end Launch

/-! ### Confirmation (R380) -/

section Confirm
variable {w : Word} (hi : d.accepts i = true)
include hi

theorem opConfirm_ignored (h : w ≠ 0xC0F10960 ∨ iniBrace i = none ∨ d.get UPD_STAT_state ≠ 6) : opConfirm i w d = d := by
  rw [opConfirm, access_accepts _ hi]
  exact if_pos (by rw [Option.isNone_iff_eq_none]; exact h)

variable (hb : (iniBrace i).isSome = true) (hs : d.get UPD_STAT_state = 6)
include hb hs

theorem opConfirm_confirms : opConfirm i 0xC0F10960 d =
    if d.running ⟨.optionWrite, 0, 0⟩ then d.updRefuse 0x02 else d.writeOptions 1 (d.bankImage d.otherBank) := by
  rw [opConfirm, access_accepts _ hi]
  refine if_neg ?_
  rw [Option.isNone_iff_eq_none, ← Option.not_isSome_iff_eq_none]
  simp [hb, hs]

end Confirm

section ConfirmTimeout
variable {e : Nat} (hdue : d.due ⟨.confirm, 0, 0⟩ = some e) (hy : y = (d.at_ e).cancel ⟨.confirm, 0, 0⟩)
include hdue hy

theorem opConfirmTimeout_writing {k : Nat} (hk : y.due ⟨.optionWrite, 0, 0⟩ = some k) (ho : y.upd.optWrite = 1) :
    opConfirmTimeout d = y.arm ⟨.confirm, 0, 0⟩ (k + 1) := by
  simp only [opConfirmTimeout, onTimer_due d _ hdue, ← hy, hk, ho, ↓reduceIte]

theorem opConfirmTimeout_rollsBack (h : y.due ⟨.optionWrite, 0, 0⟩ = none ∨ y.upd.optWrite ≠ 1) :
    opConfirmTimeout d = y.rollsBack := by
  simp only [opConfirmTimeout, onTimer_due d _ hdue, ← hy]
  cases hk : y.due ⟨.optionWrite, 0, 0⟩ with
  | none => rfl
  | some k => exact if_neg (h.resolve_left (by rw [hk]; exact Option.some_ne_none k))

end ConfirmTimeout

/-! ### The onset of a guard (R377) -/

section Guard
variable {g : Guard}

theorem opGuardOnset_down (h : d.up = false) : opGuardOnset g d = d := if_pos (by rw [h]; rfl)

/-- A guard that sets in aborts unless the handover's tick has come. -/
theorem guardStarts_aborts {c : Bool} : (if c then d.guardStarts r else d) = if c = true ∧ d.handoverDue = false then d.guardAborts r else d := by
  rw [Dev.guardStarts]
  cases c <;> cases d.handoverDue <;> rfl

variable (h : d.up = true)
include h

theorem opGuardOnset_motion (hy : y = (if (d.opt 8 % 4 = 1 ∨ d.opt 8 % 4 = 3) ∧ d.moving = false
      then d.put PWR_STAT_motion (d.opt 8 / 4 % 2) else d)) :
    opGuardOnset .motion d = if y.moving = true ∧ y.handoverDue = false then y.guardAborts 0x20 else y := by
  subst hy
  rw [← guardStarts_aborts]
  refine (if_neg (by rw [h]; decide)).trans ?_
  simp only [Bool.and_eq_true, decide_eq_true_eq, Bool.not_eq_true']

theorem opGuardOnset_noSupply (h9 : d.opt 9 = 0) : opGuardOnset .supply d = d :=
  (if_neg (by rw [h]; decide)).trans (if_pos h9)

theorem opGuardOnset_supply (h9 : d.opt 9 ≠ 0) (hy : y = { d with upd := { d.upd with supplyLow := true } }) :
    opGuardOnset .supply d = if y.handoverDue = true then y else y.guardAborts 0x21 := by
  subst hy
  exact (if_neg (by rw [h]; decide)).trans (if_neg h9)

theorem opGuardOnset_owner :
    opGuardOnset .owner d = if d.ownerLocked = true ∧ d.handoverDue = false then d.guardAborts 0x22 else d :=
  (if_neg (by rw [h]; decide)).trans guardStarts_aborts

theorem opGuardOnset_sleep :
    opGuardOnset .sleep d = if d.pw.settling = true ∧ d.handoverDue = false then d.guardAborts 0x10 else d :=
  (if_neg (by rw [h]; decide)).trans guardStarts_aborts

theorem opGuardOnset_halt :
    opGuardOnset .halt d = if d.pw.halted = true ∧ d.handoverDue = false then d.guardAborts 0x0D else d :=
  (if_neg (by rw [h]; decide)).trans guardStarts_aborts

end Guard

/-- Settles O54: the activation from PREPARE to its confirmation or its end. -/
theorem activationAct : Obligations.ActivationAct := by
  intro d z u x y i motion mv r sb dest n e k br code digest w hd g cmd fin
  refine ⟨fun hi hz => ⟨fun hb hh => ⟨?prepareStart, ?restartStart⟩, fun hno => ?prep⟩, fun h => ?copyNone,
    fun ht hdue hy => ⟨fun hh hc => ⟨fun hw => ?copyWrong, fun hl hs hz hu hx => ?copyRight⟩, fun hn => ?copyNoCode⟩,
    fun hdue => ?standby,
    fun hi => ⟨fun h => ?abortWrite, fun h => ?abortVerify, fun h1 h2 => ⟨fun ha hh => ?abortEnds, fun h => ?abortRefused⟩,
      fun hw hcmd => ⟨fun hl => ?armLocked, fun hl h => ?armErrs, fun hl hs ha => ⟨fun hg => ?armGuarded,
        fun hg hy => ⟨fun hr => ?armed, fun hr => ?notArmed⟩⟩⟩,
      fun h => ?confirmIgnored, fun hb hs => ⟨fun ho => ?confirmBusy, fun ho => ?confirms⟩⟩,
    fun hdue hy => ⟨fun hk ho => ?timeoutWaits, fun h => ?rollsBack⟩, fun h => ?launchNone,
    fun ht hs => ⟨fun hh hg => ?launchGuarded, fun hg ha hh hc hturn hu hfin hz hx hy => ?launch⟩, fun h => ?guardDown,
    fun h => ⟨fun hy => ?motion, fun h9 => ?noSupply, fun h9 hy => ?supply, ?owner, ?sleep, ?halt⟩⟩
  case prepareStart => exact answers_of_effect (fun _ => rfl) (opPrepare_inStart hi hz hb hh)
  case restartStart => exact answers_of_effect (fun _ => rfl) (opRestart_inStart hi hz hb hh)
  case prep =>
    have hn : ¬ (z.pw.base = .start ∧ (!z.pw.halted) = true) := by
      rw [not_and_or, Bool.not_eq_true', Bool.not_eq_false]
      exact hno
    refine ⟨fun ha => ?_, fun ha hsb hu hx hy => ⟨fun hf => ?_, fun hf => ?_⟩, fun ha => ?_, fun ha ho => ?_, fun ha ho hy => ?_⟩
    · exact answers_of_effect (fun _ => rfl) (opPrepare_refused hi hz hn ha)
    · exact answers_of_effect (fun _ => rfl) ((opPrepare_accepted hi hz hn ha hsb hu hx hy).trans (if_pos hf))
    · exact answers_of_effect (fun _ => rfl)
        ((opPrepare_accepted hi hz hn ha hsb hu hx hy).trans (if_neg (Bool.eq_false_iff.mp hf)))
    · exact answers_of_effect (fun _ => rfl) (opRestart_refused hi hz hn ha)
    · exact answers_of_effect (fun _ => rfl) (opRestart_writing hi hz hn ha ho)
    · exact answers_of_effect (fun _ => rfl) (opRestart_writes hi hz hn ha ho hy)
  case copyNone => exact answers_of_effect (fun _ => rfl) (opPrepareCopy_noTarget h)
  case copyWrong => exact answers_of_effect (fun _ => rfl) (opPrepareCopy_wrong ht hdue hy (codePlace_wrong hh hc hw))
  case copyRight =>
    exact answers_of_effect (fun _ => rfl) (opPrepareCopy_stands ht hdue hy (codePlace_right hh hc hl hs) hz hu hx)
  case copyNoCode => exact answers_of_effect (fun _ => rfl) (opPrepareCopy_wrong ht hdue hy (codePlace_noCode hn))
  case standby => exact answers_of_effect (fun _ => rfl) (onTimer_due d _ hdue)
  case abortWrite => exact answers_of_effect (fun _ => rfl) (opUpdAbort_write hi h)
  case abortVerify => exact answers_of_effect (fun _ => rfl) (opUpdAbort_verify hi h)
  case abortEnds => exact answers_of_effect (fun _ => rfl) ((opUpdAbort_other hi h1 h2).trans (if_pos (by rw [ha, hh]; rfl)))
  case abortRefused =>
    refine answers_of_effect (fun _ => rfl) ((opUpdAbort_other hi h1 h2).trans (if_neg ?_))
    rw [Bool.and_eq_true, Bool.not_eq_true', not_and_or, Bool.not_eq_true, Bool.not_eq_false]
    exact h
  case armLocked => exact handoverArm_answers hi hw hcmd (opHandoverArm_locked hi hw hl)
  case armErrs => exact handoverArm_answers hi hw hcmd (opHandoverArm_errs hi hw hl h)
  case armGuarded => exact handoverArm_answers hi hw hcmd (opHandoverArm_guarded hi hw hl hs ha hg)
  case armed => exact handoverArm_answers hi hw hcmd ((opHandoverArm_arms hi hw hl hs ha hg hy).trans (if_pos hr))
  case notArmed =>
    exact handoverArm_answers hi hw hcmd ((opHandoverArm_arms hi hw hl hs ha hg hy).trans (if_neg (Bool.eq_false_iff.mp hr)))
  case confirmIgnored => exact answers_of_effect (fun _ => rfl) (opConfirm_ignored hi h)
  case confirmBusy => exact answers_of_effect (fun _ => rfl) ((opConfirm_confirms hi hb hs).trans (if_pos ho))
  case confirms =>
    exact answers_of_effect (fun _ => rfl) ((opConfirm_confirms hi hb hs).trans (if_neg (Bool.eq_false_iff.mp ho)))
  case timeoutWaits => exact answers_of_effect (fun _ => rfl) (opConfirmTimeout_writing hdue hy hk ho)
  case rollsBack => exact answers_of_effect (fun _ => rfl) (opConfirmTimeout_rollsBack hdue hy h)
  case launchNone => exact answers_of_effect (fun _ => rfl) (opHandoverLaunch_notArmed h)
  case launchGuarded => exact answers_of_effect (fun _ => rfl) (opHandoverLaunch_guarded ht hs hh hg)
  case launch => exact answers_of_effect (fun _ => rfl) (opHandoverLaunch_hands ht hs hg ha hh hc hturn hu hfin hz hx hy)
  case guardDown => exact answers_of_effect (fun _ => rfl) (opGuardOnset_down h)
  case motion => exact answers_of_effect (fun _ => rfl) (opGuardOnset_motion h hy)
  case noSupply => exact answers_of_effect (fun _ => rfl) (opGuardOnset_noSupply h h9)
  case supply => exact answers_of_effect (fun _ => rfl) (opGuardOnset_supply h h9 hy)
  case owner => exact answers_of_effect (fun _ => rfl) (opGuardOnset_owner h)
  case sleep => exact answers_of_effect (fun _ => rfl) (opGuardOnset_sleep h)
  case halt => exact answers_of_effect (fun _ => rfl) (opGuardOnset_halt h)

end Sys2Proof.Machine
end

/-!
PROOF. The machine right after reset (O56).
-/

section

namespace Sys2Proof.Machine

theorem NMap.find_none_of_not_mem {α : Type} {a : Nat} (m : NMap α) (h : ∀ e ∈ m, e.1 ≠ a) : NMap.find m a = none := by
  induction m with
  | nil => rfl
  | cons x m ih =>
    rw [List.forall_mem_cons] at h
    simp [NMap.find, h.1, ih h.2]

/-- The pages whose `PG_STATE` is not at its reset value after reset are RST, OPT, PWR and WAK. -/
theorem page_of_mem_resetRegs : ∀ e ∈ resetRegs, e.1 % 0x1000 = 0xC → e.1 / 0x1000 ∈ [1, 2, 4, 5] := by decide +kernel

theorem find_resetRegs_state {pg : Nat} (h : pg ∉ [1, 2, 4, 5]) : NMap.find resetRegs (PG_STATE pg) = none := by
  refine NMap.find_none_of_not_mem _ fun e he ha => h ?_
  have hpage := page_of_mem_resetRegs e he (ha ▸ stateAddr_mod pg)
  rwa [ha, show PG_STATE pg / 0x1000 = pg by unfold PG_STATE; omega] at hpage

/-- Every other page is in reset. -/
theorem inReset_reset {pg : Nat} (hm : pg ∈ allPages) (h : pg ∉ [1, 2, 4, 5]) :
    State.reset.dev.flag (PG_STATE_in_reset pg) = true := by
  have hrd : State.reset.dev.rd (PG_STATE pg) = 1 := by
    have hnone : (NMap.find resetRegs (PG_STATE pg)).getD (resetValue (PG_STATE pg)) = resetValue (PG_STATE pg) := by
      rw [find_resetRegs_state h]
      rfl
    exact hnone.trans (resetValue_state (pageKind_of_mem pg hm))
  exact (flag_of_rd (v := 1) hrd).trans (show (bitsOf 1 0 0 == 1) = true by decide)

theorem canonical_reset : State.reset.dev.canonical = true := by decide +kernel

theorem alwaysOn_reset : ∀ pg ∈ [1, 2, 4, 5], State.reset.dev.flag (PG_STATE_in_reset pg) = false ∧
    State.reset.dev.flag (PG_READY_ready pg) = true := by decide +kernel

theorem milestones_reset : ∀ m, m < 8 → State.reset.dev.rd (RST_MILE m) = 0xFFFFFFFF := by decide +kernel

/-- Settles O56: what reset lists, and for the pages that it does not list their reset value. -/
theorem resetStateHolds : Obligations.ResetStateHolds :=
  ⟨rfl, canonical_reset, rfl, rfl, rfl, rfl, alwaysOn_reset, fun _ hm h => inReset_reset hm h, by decide +kernel,
    milestones_reset, by decide +kernel, by decide +kernel, rfl, rfl⟩

end Sys2Proof.Machine
end

/-!
PROOF. What a class P reset leaves: the clear brings every unit to its initial state and keeps MRAM and the memory from
0x80000000 on, and what comes after it writes the supply's state and the registers of the reset (O3).
-/

section

namespace Sys2Proof.Machine

variable {d e t : Dev}

/-! ### What a class P reset keeps -/

/-- The instant, the record of MRAM and the memory from 0x80000000 on are those of d. -/
structure Dev.StoreKept (d e : Dev) : Prop where
  now : e.now = d.now
  mram : e.mram = d.mram
  high : ∀ a, 0x80000000 ≤ a → e.rdByte a = d.rdByte a

theorem Dev.StoreKept.trans (h : d.StoreKept e) (k : e.StoreKept t) : d.StoreKept t :=
  ⟨k.now.trans h.now, k.mram.trans h.mram, fun a ha => (k.high a ha).trans (h.high a ha)⟩

theorem Dev.StoreKept.of_eq (hn : e.now = d.now) (hm : e.mram = d.mram) (hmem : e.mem = d.mem) : d.StoreKept e :=
  ⟨hn, hm, fun a _ => by rw [Dev.rdByte, hmem, Dev.rdByte]⟩

theorem storeKept_put (d : Dev) (f : FRef) (v : Nat) : d.StoreKept (d.put f v) :=
  .of_eq (Dev.put_now ..) (Dev.put_mram ..) (Dev.put_mem ..)

theorem storeKept_free (d : Dev) (w : Nat) : d.StoreKept (d.free w).2 := .of_eq rfl rfl rfl

theorem storeKept_keyMade (o : KeyOp) (d : Dev) : d.StoreKept (d.keyMade o).2 := by
  unfold Dev.keyMade
  dsimp only
  split <;> exact .of_eq rfl rfl rfl

theorem storeKept_cutRec (r n : Nat) (k : HeldKey) (d : Dev) : d.StoreKept (d.cutRec r n k) := by
  unfold Dev.cutRec
  dsimp only
  split <;> exact .of_eq rfl rfl rfl

/-- A key command that a reset cuts off leaves its partly written record in the key store alone. -/
theorem storeKept_keyStops (d : Dev) : d.StoreKept d.keyStops := by
  unfold Dev.keyStops
  split
  · exact .of_eq rfl rfl rfl
  · next o _ =>
    dsimp only
    have hmade : d.StoreKept ((d.free 5).2.keyMade o).2 := (storeKept_free d 5).trans (storeKept_keyMade o _)
    split
    · split
      · next h =>
        rw [h] at hmade
        exact hmade.trans (storeKept_cutRec ..)
      · next h =>
        rw [h] at hmade
        exact hmade
    · exact .of_eq rfl rfl rfl

theorem storeKept_each {α : Type} {f : α → Dev → Dev} (hf : ∀ x d, Dev.StoreKept d (f x d)) (l : List α) (d : Dev) :
    d.StoreKept (d.each l f) := by
  induction l generalizing d with
  | nil => exact .of_eq rfl rfl rfl
  | cons x l ih => exact (hf x d).trans (ih (f x d))

theorem storeKept_holdPins (old d : Dev) : d.StoreKept (old.holdPins d) := by
  unfold Dev.holdPins
  exact storeKept_each (fun _ _ => storeKept_put ..) _ d

/-- A key that a filter takes reads as before it. -/
theorem NMap.find_filter_taken {α : Type} {p : Nat × α → Bool} {a : Nat} (m : NMap α) (h : ∀ v, p (a, v) = true) :
    NMap.find (m.filter p) a = NMap.find m a := by
  induction m with
  | nil => rfl
  | cons x m ih =>
    obtain ⟨k, v⟩ := x
    by_cases hk : k = a
    · subst hk
      simp [h v, NMap.find]
    · by_cases hp : p (k, v) = true
      · simp [hp, NMap.find, hk, ih]
      · simp [hp, NMap.find, hk, ih]

theorem storeKept_clearMain (lvl : Nat) (d : Dev) : d.StoreKept (d.clearMain lvl) := by
  unfold Dev.clearMain
  refine (storeKept_keyStops d).trans (Dev.StoreKept.trans ?_ (storeKept_holdPins ..))
  refine ⟨rfl, rfl, fun a ha => ?_⟩
  exact congrArg (Option.getD · 0) (NMap.find_filter_taken (p := fun c : Host.Cell => decide (0x80000000 ≤ c.1)) _
    (fun _ => decide_eq_true ha))

/-! ### What the clear leaves -/

/-- No field of `PG_STATE` outlasts a reset of class P. -/
theorem get_clearReg_state_of_classP (z : Word) (pg : Nat) (x : Nat × Word) (m : NMap Word) :
    NMap.get z (Dev.clearReg 2 x m) (PG_STATE pg) = NMap.get z m (PG_STATE pg) := by
  unfold Dev.clearReg
  split
  · rfl
  · next r hr =>
    split
    · rfl
    · next hkept =>
      have hlive : PG_STATE pg ≠ x.1 := by
        intro ha
        rw [← ha, liveRow_state, Option.map_eq_some_iff] at hr
        obtain ⟨_, _, rfl⟩ := hr
        exact hkept (by decide)
      have hshadow : PG_STATE pg ≠ x.1 + 0x800 := by
        intro ha
        rw [liveRow_of_shadow_state ha.symm] at hr
        exact Option.some_ne_none r hr.symm
      dsimp only
      split
      · rw [NMap.get_set_other _ _ _ _ hshadow, NMap.get_set_other _ _ _ _ hlive]
      · exact NMap.get_set_other _ _ _ _ hlive

theorem get_clearRegs_state_of_classP (z : Word) (pg : Nat) (m : NMap Word) : NMap.get z (clearRegs 2 m) (PG_STATE pg) = z := by
  have hfold : ∀ acc : NMap Word, NMap.get z (m.foldl (fun acc x => Dev.clearReg 2 x acc) acc) (PG_STATE pg) =
      NMap.get z acc (PG_STATE pg) := by
    induction m with
    | nil => exact fun _ => rfl
    | cons x m ih => exact fun acc => (ih _).trans (get_clearReg_state_of_classP z pg x acc)
  exact hfold []

theorem mainClear_clearMain_of_classP (d : Dev) : (d.clearMain 2).MainClear := by
  unfold Dev.clearMain Dev.holdPins
  refine mainClear_each_put (fun n => ?pin) _ ⟨rfl, ⟨rfl, rfl, rfl, rfl, rfl, rfl, rfl, rfl, rfl, rfl, rfl, rfl⟩,
    fun pg hpg => ?held, fun a ha => ?memory⟩
  case pin =>
    change (0x2E0180 + 0x1000 * n) % 0x1000 ≠ 0xC
    omega
  case held =>
    have hrst := resetValue_state (pageKind_of_mem pg hpg)
    have hrd := get_clearRegs_state_of_classP (resetValue (PG_STATE pg)) pg d.keyStops.regs
    refine (flag_of_rd (v := 1) ?_).trans (show (bitsOf 1 0 0 == 1) = true by decide)
    exact hrd.trans hrst
  case memory =>
    have hnone := NMap.find_filter_none (p := fun c : Host.Cell => decide (0x80000000 ≤ c.1)) d.keyStops.mem
      (fun _ => decide_eq_false (Nat.not_le.mpr ha))
    exact congrArg (Option.getD · 0) hnone

/-! ### What comes after the clear -/

/-- The supply and the clear record as a class P reset leaves them. -/
def Dev.classPSupply (d : Dev) : Dev :=
  let d := { d with pw := { Power.init with resetnLow := d.pw.resetnLow, rails := false, aon0 := d.now } }
  { d with ecc := { d.ecc with clearRec := false } }

/-- The registers of a class P reset: its cause and wake source, the supply of MAIN and the two inputs shown again. -/
def Dev.classPRegs (cause : Nat) (d : Dev) : Dev :=
  let d := (d.put RST_CAUSE_cause cause).put RST_CAUSE_class 0
  let d := (d.put WAK_WSR_cause 1).put PWR_MAIN_STAT_main 1
  (d.put KEY_STAT_prov (if d.key.closed then 0 else 1)).put HBR_STAT_perst (if d.hbr.perst then 1 else 0)

theorem classP_eq (cause : Nat) (d : Dev) : d.classP cause =
    ((d.clearMain 2).classPSupply.classPRegs cause).latchWaiting.armIn ⟨.railsValid, 0, 0⟩ (msT 5) := rfl

theorem Dev.MainClear.classPSupply (h : d.MainClear) : d.classPSupply.MainClear := ⟨h.pages, h.units, h.held, h.memory⟩

theorem storeKept_classPSupply (d : Dev) : d.StoreKept d.classPSupply := .of_eq rfl rfl rfl

theorem pw_classPSupply (d : Dev) : d.classPSupply.pw.base = .start ∧ d.classPSupply.pw.main = true ∧ d.classPSupply.pw.rails = false :=
  ⟨rfl, rfl, rfl⟩

theorem Dev.MainClear.classPRegs (h : d.MainClear) (cause : Nat) : (d.classPRegs cause).MainClear :=
  (((((h.put (by decide)).put (by decide)).put (by decide)).put (by decide)).put (by decide)).put (by decide)

theorem storeKept_classPRegs (cause : Nat) (d : Dev) : d.StoreKept (d.classPRegs cause) :=
  (storeKept_put ..).trans <| (storeKept_put ..).trans <| (storeKept_put ..).trans <| (storeKept_put ..).trans <|
    (storeKept_put ..).trans (storeKept_put ..)

theorem pw_classPRegs (cause : Nat) (d : Dev) : (d.classPRegs cause).pw = d.pw := by
  unfold Dev.classPRegs
  rw [Dev.put_pw, Dev.put_pw, Dev.put_pw, Dev.put_pw, Dev.put_pw, Dev.put_pw]

theorem get_classPRegs {cause : Nat} (hc : cause < 32) :
    (d.classPRegs cause).get RST_CAUSE_cause = cause ∧ (d.classPRegs cause).get RST_CAUSE_class = 0 ∧
      (d.classPRegs cause).get WAK_WSR_cause = 1 ∧ (d.classPRegs cause).get PWR_MAIN_STAT_main = 1 := by
  have hcause : RST_CAUSE_cause.ok := by constructor <;> decide
  have hclass : RST_CAUSE_class.ok := by constructor <;> decide
  have hwsr : WAK_WSR_cause.ok := by constructor <;> decide
  have hmain : PWR_MAIN_STAT_main.ok := by constructor <;> decide
  have hinputs {f : FRef} (hk : f.addr ≠ KEY_STAT_prov.addr) (hh : f.addr ≠ HBR_STAT_perst.addr) (s : Dev) (v w : Nat) :
      ((s.put KEY_STAT_prov v).put HBR_STAT_perst w).get f = s.get f := (get_put_reg _ _ hh).trans (get_put_reg _ _ hk)
  have hsupply {f : FRef} (hk : f.addr ≠ WAK_WSR_cause.addr) (hh : f.addr ≠ PWR_MAIN_STAT_main.addr) (s : Dev) :
      ((s.put WAK_WSR_cause 1).put PWR_MAIN_STAT_main 1).get f = s.get f := (get_put_reg _ _ hh).trans (get_put_reg _ _ hk)
  unfold Dev.classPRegs
  rw [hinputs (by decide) (by decide), hinputs (by decide) (by decide), hinputs (by decide) (by decide),
    hinputs (by decide) (by decide), hsupply (by decide) (by decide), hsupply (by decide) (by decide),
    get_put_same_beside hcause hclass (by decide), get_put_same _ _ _ hclass, get_put_same _ _ _ hmain,
    get_put_reg (f := PWR_MAIN_STAT_main) (g := WAK_WSR_cause) _ _ (by decide), get_put_same _ _ _ hwsr]
  exact ⟨Nat.mod_eq_of_lt hc, rfl, rfl, rfl⟩

theorem Dev.MainClear.latchWaiting (h : d.MainClear) : d.latchWaiting.MainClear := by
  unfold Dev.latchWaiting
  split
  · exact h
  · exact ((h.put (by decide)).put (by decide)).put (by decide)

theorem storeKept_latchWaiting (d : Dev) : d.StoreKept d.latchWaiting := by
  unfold Dev.latchWaiting
  split
  · exact .of_eq rfl rfl rfl
  · exact (storeKept_put ..).trans ((storeKept_put ..).trans (storeKept_put ..))

theorem pw_latchWaiting (d : Dev) : d.latchWaiting.pw = d.pw := by
  unfold Dev.latchWaiting
  split
  · rfl
  · rw [Dev.put_pw, Dev.put_pw, Dev.put_pw]

/-- A waiting tamper record is shown in the registers of TMP alone. -/
theorem get_latchWaiting {f : FRef} (hl : f.addr ≠ TMP_LATCH) (hs : f.addr ≠ TMP_STAT) : d.latchWaiting.get f = d.get f := by
  unfold Dev.latchWaiting
  split
  · rfl
  · rw [get_put_reg _ _ hs, get_put_reg _ _ hs, get_put_reg _ _ hl]

/-- Settles O3: the clear, the supply and the registers of the reset. -/
theorem classPResetLeaves : Obligations.ClassPResetLeaves := by
  intro d cause hc
  obtain ⟨e, he⟩ : ∃ e, e = ((d.clearMain 2).classPSupply.classPRegs cause).latchWaiting := ⟨_, rfl⟩
  have hstore : d.StoreKept e := by
    rw [he]
    exact (storeKept_clearMain 2 d).trans <| (storeKept_classPSupply _).trans <| (storeKept_classPRegs cause _).trans
      (storeKept_latchWaiting _)
  have hclear : e.MainClear := by
    rw [he]
    exact ((mainClear_clearMain_of_classP d).classPSupply.classPRegs cause).latchWaiting
  have hpw : e.pw = (d.clearMain 2).classPSupply.pw := by rw [he, pw_latchWaiting, pw_classPRegs]
  obtain ⟨hbase, hmain, hrails⟩ := pw_classPSupply (d.clearMain 2)
  obtain ⟨hcause, hclass, hwsr, hstat⟩ := get_classPRegs (d := (d.clearMain 2).classPSupply) hc
  have hget {f : FRef} (hl : f.addr ≠ TMP_LATCH) (hs : f.addr ≠ TMP_STAT) :
      e.get f = ((d.clearMain 2).classPSupply.classPRegs cause).get f := he ▸ get_latchWaiting hl hs
  obtain ⟨hpgs, ⟨htim, hvlt, hfwd, heth, hbus, htrm, hkal, haut, hbrc, hsys, hvoh, hupd⟩, hheld, hmem⟩ := hclear
  rw [classP_eq, ← he]
  exact ⟨(hget (by decide) (by decide)).trans hcause, (hget (by decide) (by decide)).trans hclass,
    (hget (by decide) (by decide)).trans hwsr, (hget (by decide) (by decide)).trans hstat,
    (congrArg Power.base hpw).trans hbase, (congrArg Power.main hpw).trans hmain, (congrArg Power.rails hpw).trans hrails,
    (due_armIn_same _ _ _).trans (congrArg (some <| · + msT 5) hstore.now),
    hpgs, htim, hvlt, hfwd, heth, hbus, htrm, hkal, haut, hbrc, hsys, hvoh, hupd, fun pg hpg _ => hheld pg hpg, hstore.mram,
    hmem, hstore.high⟩

end Sys2Proof.Machine
end

section
/-!
PROOF. The canonical form, the time and the outputs through every operation of the device: `Dev.Follows` is shown once for each
operation, by the operation's own cases and with the lemmas of the operations it is made of. Here: the relation, the device's plain
updates, choices and repetitions.
-/

namespace Sys2Proof.Machine

variable {d₀ : Dev}

/-! ### The relation and the device's plain updates -/

theorem Dev.Follows.refl (d : Dev) : d.Follows d := ⟨id, le_refl _, List.prefix_refl _⟩

/-- What the relation speaks of is the registers, the memory, the pages, the instant and the outputs. -/
theorem Dev.Follows.units {d : Dev} (h : d₀.Follows d) {aut bus timers drawn serial pw mram brc ecc upd eth fwd hbr kal key sys tim
    trm vlt voh wak} :
    d₀.Follows { aut := aut, bus := bus, now := d.now, regs := d.regs, mem := d.mem, timers := timers, drawn := drawn,
                 serial := serial, out := d.out, pgs := d.pgs, pw := pw, mram := mram, brc := brc, ecc := ecc, upd := upd,
                 eth := eth, fwd := fwd, hbr := hbr, kal := kal, key := key, sys := sys, tim := tim, trm := trm, vlt := vlt,
                 voh := voh, wak := wak } := ⟨h.canonical, h.time, h.outputs⟩

theorem canonical_iff {d : Dev} : d.canonical = true ↔ NMap.wf resetValue d.regs = true ∧ Memory.wf d.mem = true ∧
    NMap.wf (fun _ => ({} : PgState)) d.pgs = true := by
  rw [Dev.canonical, Bool.and_eq_true, Bool.and_eq_true, and_assoc]

/-- A change of registers, memory and pages that keeps each of them canonical. -/
theorem Dev.Follows.stores {d : Dev} (h : d₀.Follows d) {regs : NMap Word} {mem : List Host.Cell} {pgs : NMap PgState}
    (hr : NMap.wf resetValue d.regs = true → NMap.wf resetValue regs = true) (hm : Memory.wf d.mem = true → Memory.wf mem = true)
    (hp : NMap.wf (fun _ => ({} : PgState)) d.pgs = true → NMap.wf (fun _ => ({} : PgState)) pgs = true) :
    d₀.Follows { d with regs := regs, mem := mem, pgs := pgs } := by
  refine ⟨fun hc => ?_, h.time, h.outputs⟩
  obtain ⟨hregs, hmem, hpgs⟩ := canonical_iff.mp (h.canonical hc)
  exact canonical_iff.mpr ⟨hr hregs, hm hmem, hp hpgs⟩

theorem NMap.wf_filter {α : Type} [DecidableEq α] {z : Nat → α} {m : NMap α} (p : Nat × α → Bool) (h : NMap.wf z m = true) :
    NMap.wf z (m.filter p) = true := by
  have hrising : ∀ (m : NMap α) (b : Nat), NMap.rising b m = true → NMap.rising b (m.filter p) = true := by
    intro m
    induction m with
    | nil => exact fun _ _ => rfl
    | cons e m ih =>
      intro b hr
      obtain ⟨k, v⟩ := e
      simp only [NMap.rising, Bool.and_eq_true, decide_eq_true_eq] at hr
      by_cases hp : p (k, v) = true
      · simp only [List.filter_cons, hp, ↓reduceIte, NMap.rising, Bool.and_eq_true, decide_eq_true_eq]
        exact ⟨hr.1, ih (k + 1) hr.2⟩
      · simp only [List.filter_cons, hp, Bool.false_eq_true, ↓reduceIte]
        exact NMap.rising_weaken _ (by omega) (ih (k + 1) hr.2)
  rw [NMap.wf, Bool.and_eq_true, List.all_eq_true] at h ⊢
  exact ⟨hrising m 0 h.1, fun e he => h.2 e (List.mem_of_mem_filter he)⟩

/-! ### Choices and repetitions -/

theorem Dev.Follows.ite {x y : Dev} {c : Prop} {dec : Decidable c} (hx : d₀.Follows x) (hy : d₀.Follows y) :
    d₀.Follows (if c then x else y) := by
  split
  · exact hx
  · exact hy

theorem Dev.Follows.dite {c : Prop} {dec : Decidable c} {x : c → Dev} {y : ¬c → Dev} (hx : ∀ hc, d₀.Follows (x hc))
    (hy : ∀ hc, d₀.Follows (y hc)) : d₀.Follows (dite c x y) := by
  split
  · exact hx _
  · exact hy _

theorem Dev.Follows.iteSnd {α : Type} {x y : α × Dev} {c : Prop} {dec : Decidable c} (hx : d₀.Follows x.2) (hy : d₀.Follows y.2) :
    d₀.Follows (if c then x else y).2 := by
  split
  · exact hx
  · exact hy

theorem Dev.Follows.iteSnd2 {α β : Type} {x y : α × β × Dev} {c : Prop} {dec : Decidable c} (hx : d₀.Follows x.2.2)
    (hy : d₀.Follows y.2.2) : d₀.Follows (if c then x else y).2.2 := by
  split
  · exact hx
  · exact hy

theorem Dev.Follows.iteSnd3 {α β γ : Type} {x y : α × β × γ × Dev} {c : Prop} {dec : Decidable c} (hx : d₀.Follows x.2.2.2)
    (hy : d₀.Follows y.2.2.2) : d₀.Follows (if c then x else y).2.2.2 := by
  split
  · exact hx
  · exact hy

/-- The device of a pair that was taken apart. -/
theorem Dev.Follows.ofSnd {α : Type} {p : α × Dev} {x : α} {d : Dev} (h : d₀.Follows p.2) (he : p = (x, d)) : d₀.Follows d := by
  rw [he] at h
  exact h

/-- A device that later steps start from more than once. -/
theorem Dev.Follows.through {x y : Dev} (k : d₀.Follows x → d₀.Follows y) (h : d₀.Follows x) : d₀.Follows y := k h

theorem Dev.Follows.foldl {α : Type} {l : List α} {f : Dev → α → Dev} {d : Dev}
    (hf : ∀ t x, d₀.Follows t → d₀.Follows (f t x)) (h : d₀.Follows d) : d₀.Follows (l.foldl f d) := by
  induction l generalizing d with
  | nil => exact h
  | cons x l ih => exact ih (hf d x h)

theorem Dev.Follows.foldlSnd {α β : Type} {l : List α} {f : β × Dev → α → β × Dev} {p : β × Dev}
    (hf : ∀ t x, d₀.Follows t.2 → d₀.Follows (f t x).2) (h : d₀.Follows p.2) : d₀.Follows (l.foldl f p).2 := by
  induction l generalizing p with
  | nil => exact h
  | cons x l ih => exact ih (hf p x h)

end Sys2Proof.Machine
end

section
/-!
PROOF. The canonical form, the time and the outputs through the operations of Machine/Ops.lean: registers, timers, messages, captures, readiness and other plain operations.
-/

namespace Sys2Proof.Machine

variable {d₀ : Dev}

theorem Dev.Follows.wr {d : Dev} {a : Nat} {v : Word} (h : d₀.Follows d) : d₀.Follows (d.wr a v) :=
  h.stores (NMap.wf_set _ _ _ _) id id

theorem Dev.Follows.put {d : Dev} {f : FRef} {v : Nat} (h : d₀.Follows d) : d₀.Follows (d.put f v) := by
  unfold Dev.put
  exact h.wr

theorem Dev.Follows.putIf {c : Bool} {f : FRef} {v : Nat} {d : Dev} (h : d₀.Follows d) : d₀.Follows (Dev.putIf c f v d) := by
  unfold Dev.putIf
  exact .ite h.put h

theorem Dev.Follows.add {f : FRef} {n : Nat} {d : Dev} (h : d₀.Follows d) : d₀.Follows (Dev.add f n d) := by
  unfold Dev.add
  exact h.put

theorem Dev.Follows.wrapInc {f : FRef} {d : Dev} (h : d₀.Follows d) : d₀.Follows (Dev.wrapInc f d) := by
  unfold Dev.wrapInc
  exact h.put

theorem Dev.Follows.count {a : Nat} {d : Dev} (h : d₀.Follows d) : d₀.Follows (Dev.count a d) := by
  unfold Dev.count
  exact h.add

theorem Dev.Follows.wr64 {lo hi v : Nat} {d : Dev} (h : d₀.Follows d) : d₀.Follows (Dev.wr64 lo hi v d) := by
  unfold Dev.wr64
  exact h.wr.wr

theorem Dev.Follows.setBit {a i : Nat} {b : Bool} {d : Dev} (h : d₀.Follows d) : d₀.Follows (Dev.setBit a i b d) := by
  unfold Dev.setBit
  exact h.put

theorem Dev.Follows.when {c : Bool} {f : Dev → Dev} {d : Dev} (hf : ∀ (t : Dev), d₀.Follows t → d₀.Follows (f t)) (h : d₀.Follows d) :
    d₀.Follows (Dev.when c f d) := by
  unfold Dev.when
  exact .ite (hf _ h) h

theorem Dev.Follows.each {α : Type} {l : List α} {f : α → Dev → Dev} {d : Dev}
    (hf : ∀ (x1 : α) (t : Dev), d₀.Follows t → d₀.Follows (f x1 t)) (h : d₀.Follows d) :
    d₀.Follows (Dev.each l f d) := by
  unfold Dev.each
  exact .foldl (fun _ _ h1 => hf _ _ h1) h

theorem Dev.Follows.wrByte {a : Nat} {b : Byte} {d : Dev} (h : d₀.Follows d) : d₀.Follows (d.wrByte a b) :=
  h.stores id (NMap.wf_set (fun _ => 0) _ _ _) id

theorem Dev.Follows.wrBytes {a : Nat} {bs : List Byte} {d : Dev} (h : d₀.Follows d) : d₀.Follows (Dev.wrBytes a bs d) := by
  induction bs generalizing a d with
  | nil => exact h
  | cons b bs ih => exact ih h.wrByte

theorem Dev.Follows.at_ {t : Nat} {d : Dev} (h : d₀.Follows d) : d₀.Follows (d.at_ t) :=
  ⟨h.canonical, h.time.trans (le_max_left _ _), h.outputs⟩

theorem Dev.Follows.atNs {t : Nat} {d : Dev} (h : d₀.Follows d) : d₀.Follows (Dev.atNs t d) := by
  unfold Dev.atNs
  split
  · exact h.at_
  · exact h

theorem Dev.Follows.atTick {k : Nat} {d : Dev} (h : d₀.Follows d) : d₀.Follows (Dev.atTick k d) := by
  unfold Dev.atTick
  split
  · exact h.at_
  · exact h

theorem Dev.Follows.cancel {t : Timer} {d : Dev} (h : d₀.Follows d) : d₀.Follows (Dev.cancel t d) := by
  unfold Dev.cancel
  exact h.units

theorem Dev.Follows.arm {t : Timer} {at_ : Nat} {d : Dev} (h : d₀.Follows d) : d₀.Follows (Dev.arm t at_ d) := by
  unfold Dev.arm
  exact h.cancel.units

theorem Dev.Follows.armIn {t : Timer} {len : Nat} {d : Dev} (h : d₀.Follows d) : d₀.Follows (Dev.armIn t len d) := by
  unfold Dev.armIn
  exact h.arm

theorem Dev.Follows.onTimer {t : Timer} {f : Dev → Dev} {d : Dev} (hf : ∀ (t : Dev), d₀.Follows t → d₀.Follows (f t)) (h : d₀.Follows d) :
    d₀.Follows (Dev.onTimer t f d) := by
  unfold Dev.onTimer
  split
  · exact hf _ h.at_.cancel
  · exact h

theorem Dev.Follows.onPeriod {t : Timer} {period : Nat} {f : Dev → Dev} {d : Dev} (hf : ∀ (t : Dev), d₀.Follows t → d₀.Follows (f t))
    (h : d₀.Follows d) :
    d₀.Follows (Dev.onPeriod t period f d) := by
  unfold Dev.onPeriod
  split
  · exact hf _ h.at_.cancel.arm
  · exact h

theorem Dev.Follows.endTimer {t : Timer} {f : Dev → Dev} {d : Dev} (hf : ∀ (t : Dev), d₀.Follows t → d₀.Follows (f t))
    (h : d₀.Follows d) :
    d₀.Follows (Dev.endTimer t f d) := by
  unfold Dev.endTimer
  split
  · exact hf _ h.cancel
  · exact h

theorem Dev.Follows.free {d : Dev} {w : Nat} (h : d₀.Follows d) : d₀.Follows (d.free w).2 := by
  unfold Dev.free
  exact h.units

theorem Dev.Follows.emit {o : Output} {d : Dev} (h : d₀.Follows d) : d₀.Follows (d.emit o) :=
  ⟨h.canonical, h.time, h.outputs.trans (List.prefix_append _ _)⟩

theorem Dev.Follows.sendMsix {v : Nat} {d : Dev} (h : d₀.Follows d) : d₀.Follows (Dev.sendMsix v d) := by
  unfold Dev.sendMsix
  exact .ite h.emit (.ite h h.units)

theorem Dev.Follows.sendMsg {pg : Nat} {d : Dev} (h : d₀.Follows d) : d₀.Follows (Dev.sendMsg pg d) := by
  unfold Dev.sendMsg
  exact .through (fun h1 => .ite h1.sendMsix h1) (.ite h.emit h)

theorem Dev.Follows.irqWrite {pg stat en : Nat} {d : Dev} (h : d₀.Follows d) : d₀.Follows (Dev.irqWrite pg stat en d) := by
  unfold Dev.irqWrite
  exact .each (fun _ _ h1 => h1.sendMsg) h.wr.wr

theorem Dev.Follows.raise {pg bit : Nat} {d : Dev} (h : d₀.Follows d) : d₀.Follows (Dev.raise pg bit d) := by
  unfold Dev.raise
  exact .ite h (.ite h.setBit.sendMsg h.setBit)

theorem Dev.Follows.capture {pg kind reason : Nat} {i : Initiator} {off detail detail2 : Nat} {d : Dev} (h : d₀.Follows d) :
    d₀.Follows (Dev.capture pg kind reason i off detail detail2 d) := by
  unfold Dev.capture
  exact .ite h h.wr.wr.wr.wr.raise

theorem Dev.Follows.setErr {pg : Nat} {i : Initiator} {off detail : Nat} {d : Dev} (h : d₀.Follows d) :
    d₀.Follows (Dev.setErr pg i off detail d) := by
  unfold Dev.setErr
  exact h.capture

theorem Dev.Follows.ignoredErr {pg : Nat} {i : Initiator} {off detail : Nat} {d : Dev} (h : d₀.Follows d) :
    d₀.Follows (Dev.ignoredErr pg i off detail d) := by
  unfold Dev.ignoredErr
  exact h.capture

theorem Dev.Follows.setPg {pg : Nat} {s : PgState} {d : Dev} (h : d₀.Follows d) : d₀.Follows (d.setPg pg s) :=
  h.stores id id (NMap.wf_set (fun _ => ({} : PgState)) _ _ _)

theorem Dev.Follows.modPg {pg : Nat} {f : PgState → PgState} {d : Dev} (h : d₀.Follows d) : d₀.Follows (Dev.modPg pg f d) := by
  unfold Dev.modPg
  exact h.setPg

theorem Dev.Follows.refreshPg {pg : Nat} {d : Dev} (h : d₀.Follows d) : d₀.Follows (Dev.refreshPg pg d) := by
  unfold Dev.refreshPg
  exact .ite h.put.put.put h.put.put.put.raise

theorem Dev.Follows.refresh {d : Dev} (h : d₀.Follows d) : d₀.Follows d.refresh := by
  unfold Dev.refresh
  exact .each (fun _ _ h1 => h1.refreshPg) h

theorem Dev.Follows.refreshFrom {pg : Nat} {d : Dev} (h : d₀.Follows d) : d₀.Follows (Dev.refreshFrom pg d) := by
  unfold Dev.refreshFrom
  exact .ite h.refresh h.refreshPg

theorem Dev.Follows.access {i : Initiator} {f : Dev → Dev} {d : Dev} (hf : ∀ (t : Dev), d₀.Follows t → d₀.Follows (f t))
    (h : d₀.Follows d) :
    d₀.Follows (Dev.access i f d) := by
  unfold Dev.access
  refine .ite h ?_
  split
  · exact .ite (hf _ h) h.count
  · exact hf _ h

theorem Dev.Follows.fenceTook {pg q : Nat} {d : Dev} (h : d₀.Follows d) : d₀.Follows (Dev.fenceTook pg q d) := by
  unfold Dev.fenceTook
  exact .ite h h.modPg

/-- A page that holds something still holds something when its fences change. -/
theorem PgState.fences_ne_empty {s : PgState} (f : Fence → Fence) (h : s ≠ {}) : { s with fences := s.fences.map f } ≠ ({} : PgState) := by
  rintro he
  have hnil : s.fences = [] := List.map_eq_nil_iff.mp (congrArg PgState.fences he)
  refine h (Eq.trans ?_ he)
  rw [hnil]
  cases s
  simp only at hnil
  subst hnil
  rfl

theorem NMap.wf_map {α : Type} [DecidableEq α] {z : Nat → α} {m : NMap α} {g : α → α} (hg : ∀ k v, v ≠ z k → g v ≠ z k)
    (h : NMap.wf z m = true) : NMap.wf z (m.map (fun e => (e.1, g e.2))) = true := by
  have hrising : ∀ (m : NMap α) (b : Nat), NMap.rising b m = true → NMap.rising b (m.map (fun e => (e.1, g e.2))) = true := by
    intro m
    induction m with
    | nil => exact fun _ _ => rfl
    | cons e m ih =>
      intro b hr
      obtain ⟨k, v⟩ := e
      simp only [List.map_cons, NMap.rising, Bool.and_eq_true, decide_eq_true_eq] at hr ⊢
      exact ⟨hr.1, ih (k + 1) hr.2⟩
  rw [NMap.wf, Bool.and_eq_true, List.all_eq_true] at h ⊢
  refine ⟨hrising m 0 h.1, fun e he => ?_⟩
  obtain ⟨⟨k, v⟩, hkv, rfl⟩ := List.mem_map.mp he
  have hv := h.2 _ hkv
  rw [decide_eq_true_eq] at hv ⊢
  exact hg k v hv

theorem Dev.Follows.cfgInEffect {ch : Nat} {d : Dev} (h : d₀.Follows d) : d₀.Follows (d.cfgInEffect ch) :=
  h.stores id id (NMap.wf_map fun _ _ hv => PgState.fences_ne_empty _ hv)

theorem Dev.Follows.lockViol {pg : Nat} {i : Initiator} {off v : Nat} {d : Dev} (h : d₀.Follows d) :
    d₀.Follows (Dev.lockViol pg i off v d) := by
  unfold Dev.lockViol
  exact h.capture.raise

theorem Dev.Follows.write {i : Initiator} {pg off v : Nat} {f : Dev → Dev} {d : Dev} (hf : ∀ (t : Dev), d₀.Follows t → d₀.Follows (f t))
    (h : d₀.Follows d) :
    d₀.Follows (Dev.write i pg off v f d) := by
  unfold Dev.write
  exact .access (fun _ h1 => .ite h1.lockViol (hf _ h1)) h

theorem Dev.Follows.writeMixed {i : Initiator} {pg off v : Nat} {f : Bool → Dev → Dev} {d : Dev}
    (hf : ∀ (x1 : Bool) (t : Dev), d₀.Follows t → d₀.Follows (f x1 t)) (h : d₀.Follows d) :
    d₀.Follows (Dev.writeMixed i pg off v f d) := by
  unfold Dev.writeMixed
  exact .access (fun _ h1 => .ite (hf _ _ h1.lockViol) (hf _ _ h1)) h

theorem Dev.Follows.badAccess {i : Initiator} {write : Bool} {off : Nat} {d : Dev} (h : d₀.Follows d) :
    d₀.Follows (Dev.badAccess i write off d) := by
  unfold Dev.badAccess
  exact .ite h h.put.put.put.units

theorem Dev.Follows.syncMode {d : Dev} (h : d₀.Follows d) : d₀.Follows d.syncMode := by
  unfold Dev.syncMode
  exact h.put.put

theorem Dev.Follows.rejectTrig {code : Nat} {d : Dev} (h : d₀.Follows d) : d₀.Follows (Dev.rejectTrig code d) := by
  unfold Dev.rejectTrig
  exact .add (.ite h.put.put h)

end Sys2Proof.Machine
end

section
/-!
PROOF. The canonical form, the time and the outputs through the operations of Machine/Integrity.lean: the integrity counters and repairs.
-/

namespace Sys2Proof.Machine

variable {d₀ : Dev}

theorem Dev.Follows.wroteUnits {region first n : Nat} {d : Dev} (h : d₀.Follows d) : d₀.Follows (Dev.wroteUnits region first n d) := by
  unfold Dev.wroteUnits
  exact .ite h.put h

theorem Dev.Follows.pushRepair {region unit : Nat} {d : Dev} (h : d₀.Follows d) : d₀.Follows (Dev.pushRepair region unit d) := by
  unfold Dev.pushRepair
  exact .ite h (.ite h.count.put.raise h.units.units.put)

theorem Dev.Follows.needRepair {region unit : Nat} {d : Dev} (h : d₀.Follows d) : d₀.Follows (Dev.needRepair region unit d) := by
  unfold Dev.needRepair
  exact .ite h (.ite (.ite h.pushRepair (.ite h h.units)) h.pushRepair)

theorem Dev.Follows.uncorrectable {region unit reader : Nat} {d : Dev} (h : d₀.Follows d) :
    d₀.Follows (Dev.uncorrectable region unit reader d) := by
  unfold Dev.uncorrectable
  exact .needRepair (.ite h.count h.count.units.put.put.put.wr.put.wr64.raise)

theorem Dev.Follows.memUe {a : Nat} {d : Dev} (h : d₀.Follows d) : d₀.Follows (Dev.memUe a d) := by
  unfold Dev.memUe
  exact .ite h.uncorrectable (.ite h.uncorrectable (.ite h.uncorrectable h))

theorem Dev.Follows.correctable {region : Nat} {d : Dev} (h : d₀.Follows d) : d₀.Follows (Dev.correctable region d) := by
  unfold Dev.correctable
  exact h.count.units

theorem Dev.Follows.queueReset {kind index : Nat} {d : Dev} (h : d₀.Follows d) : d₀.Follows (Dev.queueReset kind index d) := by
  unfold Dev.queueReset
  exact .raise (.ite h.count h.count.put.put.put)

theorem Dev.Follows.releaseWaiting {coin : Nat} {d : Dev} (h : d₀.Follows d) : d₀.Follows (Dev.releaseWaiting coin d) := by
  unfold Dev.releaseWaiting
  exact .each (fun _ _ h1 => h1.pushRepair) h.units

end Sys2Proof.Machine
end

section
/-!
PROOF. The canonical form, the time and the outputs through the operations of Machine/Vault.lean: the Vault.
-/

namespace Sys2Proof.Machine

variable {d₀ : Dev}

theorem Dev.Follows.setCoin {c : Nat} {s : Option (CoinSt × Bool)} {d : Dev} (h : d₀.Follows d) : d₀.Follows (Dev.setCoin c s d) := by
  unfold Dev.setCoin
  exact h.units

theorem Dev.Follows.tillChanged {d : Dev} (h : d₀.Follows d) : d₀.Follows d.tillChanged := by
  unfold Dev.tillChanged
  exact .through (fun h1 => .ite h1.setBit.raise (.ite h1.setBit h1)) (.ite h.units.count.raise (.ite h.units h))

theorem Dev.Follows.pinChanged {d : Dev} (h : d₀.Follows d) : d₀.Follows d.pinChanged := by
  unfold Dev.pinChanged
  exact .ite h.setBit.raise (.ite h.setBit h)

theorem Dev.Follows.setPool {p : Pool} {l : List (Nat × Nat)} {d : Dev} (h : d₀.Follows d) : d₀.Follows (Dev.setPool p l d) := by
  unfold Dev.setPool
  split <;> exact h.units

theorem Dev.Follows.takeCoin {p : Pool} {d : Dev} {r : Nat × Dev} (h : d₀.Follows d) (he : d.takeCoin p = some r) : d₀.Follows r.2 := by
  unfold Dev.takeCoin at he
  split at he
  · cases he
  · cases he
    exact .ite h.setPool.put.setCoin.tillChanged h.setPool.put.setCoin

theorem Dev.Follows.takeCoins {p : Pool} {n : Nat} {d : Dev} {r : List Nat × Dev} (h : d₀.Follows d) (he : d.takeCoins p n = some r) :
    d₀.Follows r.2 := by
  induction n generalizing d r with
  | zero => cases he; exact h
  | succ n ih =>
    unfold Dev.takeCoins at he
    split at he
    · cases he
    · next _ t h1 =>
      have ht : d₀.Follows t := h.takeCoin h1
      split at he
      · cases he
      · next h2 =>
        cases he
        have hu := ih ht h2
        exact hu

theorem Dev.Follows.freeCoin {c : Nat} {d : Dev} (h : d₀.Follows d) : d₀.Follows (Dev.freeCoin c d) := by
  unfold Dev.freeCoin
  split
  · exact h
  · exact .releaseWaiting (.ite h.setCoin.setPool.put.tillChanged h.setCoin.setPool.put)

theorem Dev.Follows.holdCoin {c : Nat} {d : Dev} (h : d₀.Follows d) : d₀.Follows (Dev.holdCoin c d) := by
  unfold Dev.holdCoin
  split
  · exact h.setCoin
  · exact h

theorem Dev.Follows.acctChanged {k : Nat} {d : Dev} (h : d₀.Follows d) : d₀.Follows (Dev.acctChanged k d) := by
  unfold Dev.acctChanged
  exact .through (fun h1 => .ite h1.setBit.raise (.ite h1.setBit h1)) (.ite h.put.put.put.setBit.raise
    (.ite h.put.put.put.setBit.raise h.put.put.put))

theorem Dev.Follows.chargeCoin {k : Nat} {d : Dev} (h : d₀.Follows d) : d₀.Follows (Dev.chargeCoin k d) := by
  unfold Dev.chargeCoin
  exact .acctChanged (.put (.ite h.put h))

theorem Dev.Follows.chargeBus {k n : Nat} {d : Dev} (h : d₀.Follows d) : d₀.Follows (Dev.chargeBus k n d) := by
  unfold Dev.chargeBus
  exact h.put.acctChanged

theorem Dev.Follows.uncharge {bus : Bool} {k : Nat} {d : Dev} (h : d₀.Follows d) : d₀.Follows (Dev.uncharge bus k d) := by
  unfold Dev.uncharge
  exact .ite h.put.acctChanged (.acctChanged (.put (.ite h h.put)))

theorem Dev.Follows.charge {bus : Bool} {k : Nat} {d : Dev} (h : d₀.Follows d) : d₀.Follows (Dev.charge bus k d) := by
  unfold Dev.charge
  exact .ite h.chargeBus h.chargeCoin

theorem Dev.Follows.setRx {p : Nat} {r : Option Rx} {d : Dev} (h : d₀.Follows d) : d₀.Follows (Dev.setRx p r d) := by
  unfold Dev.setRx
  exact h.units

theorem Dev.Follows.countHdrm {f : Frame} {d : Dev} (h : d₀.Follows d) : d₀.Follows (Dev.countHdrm f d) := by
  unfold Dev.countHdrm
  refine .ite h (.ite ?_ h.put)
  split
  · exact h.put.setRx
  · exact h.put.units

theorem Dev.Follows.modFrame {fid : Nat} {g : Frame → Frame} {d : Dev} (h : d₀.Follows d) : d₀.Follows (Dev.modFrame fid g d) := by
  unfold Dev.modFrame
  exact h.units

theorem Dev.Follows.newFrame {f : Nat → Frame} {d : Dev} (h : d₀.Follows d) : d₀.Follows (Dev.newFrame f d).2 := by
  unfold Dev.newFrame
  exact h.units

theorem Dev.Follows.dropFrame {fid : Nat} {d : Dev} (h : d₀.Follows d) : d₀.Follows (Dev.dropFrame fid d) := by
  unfold Dev.dropFrame
  exact h.units

theorem Dev.Follows.setVoq {q : Nat} {l : List Copy} {d : Dev} (h : d₀.Follows d) : d₀.Follows (Dev.setVoq q l d) := by
  unfold Dev.setVoq
  exact h.units

theorem Dev.Follows.pin {f : Frame} {on : Bool} {d : Dev} (h : d₀.Follows d) : d₀.Follows (Dev.pin f on d) := by
  unfold Dev.pin
  exact h.put.pinChanged

theorem Dev.Follows.dropSpill {f : Frame} {s : Spill} {d : Dev} (h : d₀.Follows d) : d₀.Follows (Dev.dropSpill f s d) := by
  unfold Dev.dropSpill
  exact .each (fun _ _ h1 => h1.freeCoin.uncharge) h.units.cancel

theorem Dev.Follows.abandonSpill {fid : Nat} {d : Dev} (h : d₀.Follows d) : d₀.Follows (Dev.abandonSpill fid d) := by
  unfold Dev.abandonSpill
  split
  · exact h.dropSpill.count
  · exact h

theorem Dev.Follows.freeSlip {bus : Bool} {k : Nat} {c : Copy} {d : Dev} (h : d₀.Follows d) : d₀.Follows (Dev.freeSlip bus k c d) := by
  unfold Dev.freeSlip
  dsimp only
  split
  · refine .uncharge (.freeCoin ?_)
    split
    · exact h.units.put
    · exact h
  · split
    · exact h.units.put
    · exact h

theorem Dev.Follows.startSpill {q k : Nat} {d : Dev} (h : d₀.Follows d) : d₀.Follows (Dev.startSpill q k d) := by
  unfold Dev.startSpill
  split
  · exact h
  · split
    · exact h
    · dsimp only
      split
      · split
        · next h1 => exact .armIn (.units (.each (fun _ _ h2 => h2.charge) (h.takeCoins h1)))
        · exact h
      · split
        · next h3 => exact .armIn (.units (.each (fun _ _ h4 => h4.charge) ((h.takeCoins h3).charge.countHdrm)))
        · next h5 => exact h

theorem Dev.Follows.spillOne {q : Nat} {d : Dev} (h : d₀.Follows d) : d₀.Follows (Dev.spillOne q d) := by
  unfold Dev.spillOne
  dsimp only
  split
  · exact h.startSpill
  · exact h

theorem Dev.Follows.spillCheck {q : Nat} {d : Dev} (h : d₀.Follows d) : d₀.Follows (Dev.spillCheck q d) := by
  unfold Dev.spillCheck
  exact .each (fun _ _ h1 => h1.spillOne) h

theorem Dev.Follows.spillForced {d : Dev} (h : d₀.Follows d) :
    d₀.Follows d.spillForced := by
  unfold Dev.spillForced
  refine .ite h ?_
  dsimp only
  split
  · exact h
  · split
    · exact h.startSpill
    · exact h

theorem Dev.Follows.newHead {q : Nat} {d : Dev} (h : d₀.Follows d) : d₀.Follows (Dev.newHead q d) := by
  unfold Dev.newHead
  split
  · exact h
  · dsimp only
    split
    · exact .ite h.abandonSpill.armIn h.abandonSpill
    · exact h.abandonSpill

theorem Dev.Follows.freeFrame {f : Frame} {d : Dev} (h : d₀.Follows d) : d₀.Follows (Dev.freeFrame f d) := by
  unfold Dev.freeFrame
  exact .dropFrame (.each (fun _ _ h1 => h1.freeCoin.uncharge) h.abandonSpill)

theorem Dev.Follows.release {fid : Nat} {d : Dev} (h : d₀.Follows d) :
    d₀.Follows (Dev.release fid d) := by
  unfold Dev.release
  split
  · exact h
  · refine .ite h.freeFrame (.ite ?_ h.modFrame)
    dsimp only
    split
    · exact h.modFrame.pin.spillCheck
    · exact h.modFrame.pin

theorem Dev.Follows.popVoq {q : Nat} {d : Dev} (h : d₀.Follows d) : d₀.Follows (Dev.popVoq q d) := by
  unfold Dev.popVoq
  split
  · exact h
  · exact h.setVoq.units.cancel.freeSlip.newHead

theorem Dev.Follows.cutVoq {q : Nat} {c : Copy} {d : Dev} (h : d₀.Follows d) : d₀.Follows (Dev.cutVoq q c d) := by
  unfold Dev.cutVoq
  exact .ite h.popVoq h.setVoq.freeSlip

theorem Dev.Follows.discardFrame {f : Frame} {d : Dev} (h : d₀.Follows d) : d₀.Follows (Dev.discardFrame f d) := by
  unfold Dev.discardFrame
  exact .freeFrame (.each (fun _ _ h1 => .each (fun _ _ h2 => h2.cutVoq) h1) (.ite h.pin h))

theorem Dev.Follows.giveSlip {f : Frame} {first : Bool} {d : Dev} (h : d₀.Follows d) :
    d₀.Follows (Dev.giveSlip f first d).2.2 := by
  unfold Dev.giveSlip
  refine .iteSnd2 h ?_
  split
  · exact h.units.put
  · extract_lets v d1
    have h1 : d₀.Follows d1 := .ite h h.units.raise
    split
    · next h2 => exact (h1.takeCoin h2).charge.countHdrm.holdCoin
    · exact h1

theorem Dev.Follows.enqueue {fid : Nat} {outs : List Nat} {d : Dev} (h : d₀.Follows d) : d₀.Follows (Dev.enqueue fid outs d) := by
  unfold Dev.enqueue
  split
  · exact h
  · exact .through (fun h1 => .each (fun _ _ h2 => .through (fun h3 => .spillForced (.spillCheck
      (.ite h3.newHead h3))) h2.giveSlip.units.setVoq) (.ite (.each (fun _ _ h4 => h4.holdCoin) h1) h1)) (.ite h.modFrame.pin h.modFrame)

theorem Dev.Follows.lost {n : Nat} {d : Dev} (h : d₀.Follows d) : d₀.Follows (Dev.lost n d) := by
  unfold Dev.lost
  exact h.add

theorem Dev.Follows.startWalk {d : Dev} (h : d₀.Follows d) : d₀.Follows d.startWalk := by
  unfold Dev.startWalk
  exact .ite h h.units.put.put.armIn

theorem Dev.Follows.opAuditorCountCheck {d : Dev} (h : d₀.Follows d) : d₀.Follows (opAuditorCountCheck d) := by
  unfold Machine.opAuditorCountCheck
  exact .onPeriod (fun _ h1 => .ite h1 (.ite h1.count.raise.startWalk h1.count.raise)) h

theorem Dev.Follows.opWalkPhaseDone {d : Dev} (h : d₀.Follows d) : d₀.Follows (opWalkPhaseDone d) := by
  unfold Machine.opWalkPhaseDone
  split
  · exact .onTimer (fun _ h1 => h1.put) h
  · exact h.units.put
  · exact h.units.put
  · exact h

theorem Dev.Follows.unlistExtra {c : Nat} {d : Dev} (h : d₀.Follows d) : d₀.Follows (Dev.unlistExtra c d) := by
  unfold Dev.unlistExtra
  exact h.setPool

theorem Dev.Follows.correctAcct {k : Nat} {d : Dev} (h : d₀.Follows d) : d₀.Follows (Dev.correctAcct k d) := by
  unfold Dev.correctAcct
  exact h.put.put.put.acctChanged

theorem Dev.Follows.endWalk {d : Dev} (h : d₀.Follows d) : d₀.Follows d.endWalk := by
  unfold Dev.endWalk
  exact h.units.put.put.cancel

theorem Dev.Follows.opWalkDone {d : Dev} (h : d₀.Follows d) : d₀.Follows (opWalkDone d) := by
  unfold Machine.opWalkDone
  exact .ite h (.through (fun h1 => .through (fun h2 => .ite h2 h2.raise) (.ite h1.put.raise h1.put.raise.raise)) (.wrapInc (.endWalk
    (.ite (.put (.put (.each (fun _ _ h3 => h3.correctAcct) (.each (fun _ _ h4 => h4.freeCoin) (.each
    (fun _ _ h5 => h5.unlistExtra) h.put.put.units))))) h.put.put.units.put.put))))

theorem Dev.Follows.opWalkStart {i : Initiator} {d : Dev} (h : d₀.Follows d) : d₀.Follows (opWalkStart i d) := by
  unfold Machine.opWalkStart
  exact .writeMixed (fun _ _ h1 => h1.startWalk) h

theorem Dev.Follows.opLeakqRead {i : Initiator} {mism : Bool} {d : Dev} (h : d₀.Follows d) :
    d₀.Follows (opLeakqRead i mism d) := by
  unfold Machine.opLeakqRead
  refine .access (fun _ h1 => ?_) h
  extract_lets v d2
  have h2 : d₀.Follows d2 := .ite h1.units.queueReset h1
  split
  · exact h2.wr.emit
  · exact h2.units.wr.emit

theorem Dev.Follows.opVoqSel {i : Initiator} {v : Word} {d : Dev} (h : d₀.Follows d) : d₀.Follows (opVoqSel i v d) := by
  unfold Machine.opVoqSel
  exact .write (fun _ h1 => h1.put.put.put.put.put) h

theorem Dev.Follows.spillDone {s : Spill} {ue : Bool} {d : Dev} (h : d₀.Follows d) : d₀.Follows (Dev.spillDone s ue d) := by
  unfold Dev.spillDone
  split
  · exact h
  · exact .ite h.count.lost.raise.uncorrectable.dropSpill.discardFrame (.spillForced (.spillCheck (.wr64 (.each (fun _ _ h1 =>
      .ite h1.freeSlip.setVoq h1) (.each (fun _ _ h2 => h2.freeCoin.uncharge) (.modFrame (.each (fun _ _ h3 => h3.holdCoin) h.units)))))))

theorem Dev.Follows.opPrefetchDone {q : Nat} {d : Dev} (h : d₀.Follows d) : d₀.Follows (opPrefetchDone q d) := by
  unfold Machine.opPrefetchDone
  exact .endTimer (fun _ h1 => h1.units) h

theorem Dev.Follows.ldg {p i n : Nat} {d : Dev} (h : d₀.Follows d) : d₀.Follows (Dev.ldg p i n d) := by
  unfold Dev.ldg
  exact .ite h (.ite h.units.setBit.raise h.units)

theorem Dev.Follows.holdDiscard {q : Nat} {d : Dev} (h : d₀.Follows d) : d₀.Follows (Dev.holdDiscard q d) := by
  unfold Dev.holdDiscard
  split
  · exact h
  · exact h.popVoq.ldg.count.raise.release

theorem Dev.Follows.sweepVoq {q n : Nat} {d : Dev} (h : d₀.Follows d) : d₀.Follows (d.sweepVoq q n) := by
  induction n generalizing d with
  | zero => exact h
  | succ n ih =>
    unfold Dev.sweepVoq
    split
    · exact h
    · exact .ite (ih h.holdDiscard) h

theorem Dev.Follows.opMcHoldSweep {d : Dev} (h : d₀.Follows d) : d₀.Follows (opMcHoldSweep d) := by
  unfold Machine.opMcHoldSweep
  exact .onPeriod (fun _ h1 => .each (fun _ _ h2 => h2.sweepVoq) h1) h

theorem Dev.Follows.vltUnitReset {d : Dev} (h : d₀.Follows d) : d₀.Follows d.vltUnitReset := by
  unfold Dev.vltUnitReset
  exact h.endWalk

end Sys2Proof.Machine
end

section
/-!
PROOF. The canonical form, the time and the outputs through the operations of Machine/Tables.lean: the exact-match tables.
-/

namespace Sys2Proof.Machine

variable {d₀ : Dev}

theorem Dev.Follows.setEnt {t i e : Nat} {d : Dev} (h : d₀.Follows d) : d₀.Follows (Dev.setEnt t i e d) := by
  unfold Dev.setEnt
  exact h.wroteUnits.units

theorem Dev.Follows.bumpEpoch {d : Dev} (h : d₀.Follows d) : d₀.Follows d.bumpEpoch := by
  unfold Dev.bumpEpoch
  exact h.wr64

theorem Dev.Follows.leashAdd {p : Nat} {d : Dev} (h : d₀.Follows d) : d₀.Follows (Dev.leashAdd p d) := by
  unfold Dev.leashAdd
  exact h.put

theorem Dev.Follows.leashSub {p : Nat} {d : Dev} (h : d₀.Follows d) : d₀.Follows (Dev.leashSub p d) := by
  unfold Dev.leashSub
  exact h.put

theorem Dev.Follows.leashOpt {o : Option Nat} {f : Nat → Dev → Dev} {d : Dev}
    (hf : ∀ (x1 : Nat) (t : Dev), d₀.Follows t → d₀.Follows (f x1 t)) (h : d₀.Follows d) :
    d₀.Follows (Dev.leashOpt o f d) := by
  unfold Dev.leashOpt
  split
  · exact hf _ _ h
  · exact h

theorem Dev.Follows.setLink {k v : Nat} {d : Dev} (h : d₀.Follows d) : d₀.Follows (Dev.setLink k v d) := by
  unfold Dev.setLink
  exact h.units

theorem Dev.Follows.setMac {i e : Nat} {via : Option Nat} {d : Dev} (h : d₀.Follows d) : d₀.Follows (Dev.setMac i e via d) := by
  unfold Dev.setMac
  exact .through (fun h1 => .ite h1.setEnt (.leashOpt (fun _ _ h2 => h2.leashAdd) (.leashOpt (fun _ _ h3 => h3.leashSub) h1.setEnt)))
    (.ite h h.setLink.setLink)

theorem Dev.Follows.putEnt {t i e : Nat} {d : Dev} {via : Option Nat} (h : d₀.Follows d) : d₀.Follows (Dev.putEnt t i e d via) := by
  unfold Dev.putEnt
  exact .ite h.setMac h.setEnt

theorem Dev.Follows.stashCount {t n : Nat} {d : Dev} (h : d₀.Follows d) : d₀.Follows (Dev.stashCount t n d) := by
  unfold Dev.stashCount
  exact .ite h.put.raise h.put

theorem Dev.Follows.relocate {t free : Nat} {l : List Nat} {d : Dev} (h : d₀.Follows d) : d₀.Follows (d.relocate t free l) := by
  induction l generalizing free d with
  | nil => exact h
  | cons i rest ih => exact ih h.setEnt.setEnt

theorem Dev.Follows.makeRoom {t k : Nat} {d : Dev} {r : Nat × Dev} (h : d₀.Follows d) (he : d.makeRoom t k = some r) :
    d₀.Follows r.2 := by
  unfold Dev.makeRoom at he
  dsimp only at he
  split at he
  · cases he; exact h
  · split at he
    · cases he; exact h
    · split at he
      · cases he; exact h.relocate
      · split at he
        · cases he; exact h.stashCount
        · cases he

theorem Dev.Follows.insert {t e : Nat} {via : Option Nat} {d : Dev} {r : Nat × Dev} (h : d₀.Follows d) (he : d.insert t e via = some r) :
    d₀.Follows r.2 := by
  unfold Dev.insert at he
  split at he
  · cases he
  · next _ u h1 =>
    cases he
    exact (h.makeRoom h1).putEnt.put.bumpEpoch

theorem Dev.Follows.rewrite {t i e : Nat} {d : Dev} {via : Option Nat} (h : d₀.Follows d) : d₀.Follows (Dev.rewrite t i e d via) := by
  unfold Dev.rewrite
  exact .ite h.putEnt h.putEnt.bumpEpoch

theorem Dev.Follows.unstash {t i : Nat} {d : Dev} (h : d₀.Follows d) :
    d₀.Follows (Dev.unstash t i d) := by
  unfold Dev.unstash
  refine .ite h ?_
  dsimp only
  split
  · exact h.setEnt.setEnt.stashCount
  · exact h

theorem Dev.Follows.remove {t i : Nat} {d : Dev} (h : d₀.Follows d) : d₀.Follows (Dev.remove t i d) := by
  unfold Dev.remove
  exact .through (fun h1 => .ite h1.put.unstash h1.put.stashCount) (.bumpEpoch (.putEnt (.ite h.cancel h)))

theorem Dev.Follows.lqCount {d : Dev} (h : d₀.Follows d) : d₀.Follows d.lqCount := by
  unfold Dev.lqCount
  exact h.put

theorem Dev.Follows.dropLearn {v : Learn} {d : Dev} (h : d₀.Follows d) : d₀.Follows (Dev.dropLearn v d) := by
  unfold Dev.dropLearn
  exact h.units.lqCount

theorem Dev.Follows.flapCap {v : Learn} {first : Nat} {d : Dev} (h : d₀.Follows d) : d₀.Follows (Dev.flapCap v first d) := by
  unfold Dev.flapCap
  exact .ite h h.wr.put.put.put.put.modPg

theorem Dev.Follows.startPin {k : Nat} {d : Dev} (h : d₀.Follows d) : d₀.Follows (Dev.startPin k d) := by
  unfold Dev.startPin
  exact .ite h.cancel h.armIn

theorem Dev.Follows.serve {v : Learn} {d : Dev} (h : d₀.Follows d) : d₀.Follows (Dev.serve v d) := by
  unfold Dev.serve
  split
  · split
    · next h1 => exact (h.insert h1).count
    · exact h.count.raise
  · exact .ite h (.ite h.rewrite.startPin.count.flapCap.raise h.rewrite.count)

theorem Dev.Follows.unpark {k : Nat} {d : Dev} (h : d₀.Follows d) : d₀.Follows (Dev.unpark k d) := by
  unfold Dev.unpark
  exact .each (fun _ _ h1 => h1.leashSub.serve) h.units

theorem Dev.Follows.showLocks {d : Dev} (h : d₀.Follows d) : d₀.Follows d.showLocks := by
  unfold Dev.showLocks
  exact h.put

theorem Dev.Follows.lockOver {t i k : Nat} {d : Dev} (h : d₀.Follows d) : d₀.Follows (Dev.lockOver t i k d) := by
  unfold Dev.lockOver
  exact .ite h (.through (fun h1 => .ite h1.unpark h1) h.units.showLocks.cancel)

theorem Dev.Follows.tableLost {t i : Nat} {d : Dev} (h : d₀.Follows d) : d₀.Follows (Dev.tableLost t i d) := by
  unfold Dev.tableLost
  exact .through (fun h1 => .ite (.through (fun h2 => .lockOver (.ite h2 h2.stashCount)) (.put (.putEnt
    (.ite h1.raise.cancel h1.raise)))) h1.raise.setEnt) (.ite h.count h.count.put.put.modPg)

theorem Dev.Follows.tableUe {reader t i : Nat} {d : Dev} (h : d₀.Follows d) : d₀.Follows (Dev.tableUe reader t i d) := by
  unfold Dev.tableUe
  exact h.uncorrectable.tableLost

theorem Dev.Follows.learnGone {d : Dev} (h : d₀.Follows d) : d₀.Follows d.learnGone := by
  unfold Dev.learnGone
  exact .each (fun _ _ h1 => h1.leashSub.count.raise) h.units.lqCount

theorem Dev.Follows.opLearnService {mism : Bool} {d : Dev} (h : d₀.Follows d) : d₀.Follows (opLearnService mism d) := by
  unfold Machine.opLearnService
  dsimp only
  split
  · exact .ite h.learnGone.queueReset h
  · exact .through (fun h1 => .ite (.ite h1.units h1.leashSub.count.raise) h1.leashSub.serve) (.dropLearn (.atNs
      (.ite h.learnGone.queueReset h)))

theorem Dev.Follows.cancelLearn {fid : Nat} {d : Dev} (h : d₀.Follows d) : d₀.Follows (Dev.cancelLearn fid d) := by
  unfold Dev.cancelLearn
  exact .each (fun _ _ h1 => h1.units.dropLearn.leashSub) h

theorem Dev.Follows.opPinExpiry {slot : Nat} {d : Dev} (h : d₀.Follows d) : d₀.Follows (opPinExpiry slot d) := by
  unfold Machine.opPinExpiry
  exact .onTimer (fun _ h1 => .ite h1.rewrite h1) h

theorem Dev.Follows.startPass {d : Dev} (h : d₀.Follows d) : d₀.Follows d.startPass := by
  unfold Dev.startPass
  exact .ite h h.units

theorem Dev.Follows.opSweepPassStart {d : Dev} (h : d₀.Follows d) : d₀.Follows (opSweepPassStart d) := by
  unfold Machine.opSweepPassStart
  exact .onPeriod (fun _ h1 => .ite h1.startPass h1) h

theorem Dev.Follows.opSweepNow {i : Initiator} {d : Dev} (h : d₀.Follows d) : d₀.Follows (opSweepNow i d) := by
  unfold Machine.opSweepNow
  exact .writeMixed (fun _ _ h1 => h1.startPass) h

theorem Dev.Follows.sweepEntry {i : Nat} {hitNow : Bool} {d : Dev} (h : d₀.Follows d) : d₀.Follows (Dev.sweepEntry i hitNow d) := by
  unfold Dev.sweepEntry
  exact .ite h (.ite h.rewrite (.ite h.rewrite h.remove.count))

theorem Dev.Follows.opSweepVisit {hitNow : Bool} {d : Dev} (h : d₀.Follows d) : d₀.Follows (opSweepVisit hitNow d) := by
  unfold Machine.opSweepVisit
  split
  · exact h
  · exact .ite h h.units.at_.sweepEntry

theorem Dev.Follows.opSweepPassDone {d : Dev} (h : d₀.Follows d) : d₀.Follows (opSweepPassDone d) := by
  unfold Machine.opSweepPassDone
  exact .ite h.units.wrapInc.raise h

theorem Dev.Follows.opWindowPass {d : Dev} (h : d₀.Follows d) : d₀.Follows (opWindowPass d) := by
  unfold Machine.opWindowPass
  exact .onPeriod (fun _ h1 => .each (fun _ _ h2 => .ite h2.setEnt h2) h1) h

theorem Dev.Follows.lrnReset {d : Dev} (h : d₀.Follows d) : d₀.Follows d.lrnReset := by
  unfold Dev.lrnReset
  exact h.units.learnGone.cancel.cancel

end Sys2Proof.Machine
end

section
/-!
PROOF. The canonical form, the time and the outputs through the operations of Machine/Forward.lean: forwarding.
-/

namespace Sys2Proof.Machine

variable {d₀ : Dev}

theorem Dev.Follows.pathSwitch {dev : Nat} {alt : Bool} {d : Dev} (h : d₀.Follows d) : d₀.Follows (Dev.pathSwitch dev alt d) := by
  unfold Dev.pathSwitch
  exact .ite h h.units.count.raise

theorem Dev.Follows.pathCode {d : Dev} {dev : Nat} (h : d₀.Follows d) : d₀.Follows (d.pathCode dev).2 := by
  unfold Dev.pathCode
  refine .iteSnd h (.iteSnd h ?_)
  split
  · exact h.pathSwitch
  · exact .iteSnd h.pathSwitch h

theorem Dev.Follows.revertStart {code : Nat} {d : Dev} (h : d₀.Follows d) : d₀.Follows (Dev.revertStart code d) := by
  unfold Dev.revertStart
  exact .ite h (.each (fun _ _ h1 => h1.pathSwitch) (.each (fun _ _ h2 => h2.armIn) h))

theorem Dev.Follows.revertStop {code : Nat} {d : Dev} (h : d₀.Follows d) : d₀.Follows (Dev.revertStop code d) := by
  unfold Dev.revertStop
  exact .each (fun _ _ h1 => .ite h1.cancel.pathSwitch h1.cancel) h

theorem Dev.Follows.resolve {d : Dev} {g : Nat} (h : d₀.Follows d) : d₀.Follows (d.resolve g).2 := by
  unfold Dev.resolve
  refine .iteSnd h (.iteSnd h ?_)
  split
  · next h1 => exact h.pathCode.ofSnd h1
  · next h2 => exact h.pathCode.ofSnd h2

theorem Dev.Follows.learnCheck {f : Frame} {h : Hdr} {fid : Nat} {d : Dev} (hd : d₀.Follows d) :
    d₀.Follows (Dev.learnCheck f h fid d).2.2 := by
  unfold Dev.learnCheck
  extract_lets k p dest mode d1
  have h1 : d₀.Follows d1 := by
    unfold d1
    split
    · exact hd.setEnt
    · exact hd
  exact .iteSnd2 h1 (.iteSnd2 h1 (.iteSnd2 h1 (.iteSnd2 h1 (.iteSnd2 h1.count.raise (.iteSnd2 h1.count.raise h1.units.lqCount.leashAdd)))))

theorem Dev.Follows.step3 {h : Hdr} {fid members : Nat} {s : Snap} {d : Dev} (hd : d₀.Follows d) :
    d₀.Follows (Dev.step3 h fid members s d).2 := by
  unfold Dev.step3
  split
  · exact hd
  · refine .iteSnd hd.setEnt ?_
    split
    · next h1 => exact hd.setEnt.resolve.ofSnd h1
    · next h1 => exact hd.setEnt.resolve.ofSnd h1

theorem Dev.Follows.step5 {f : Frame} {s : Snap} {d : Dev} (h : d₀.Follows d) : d₀.Follows (Dev.step5 f s d).2 := by
  unfold Dev.step5
  exact .through (fun h1 => .iteSnd h1 (.iteSnd h1.raise (.iteSnd h1 h1))) (.ite h.count h)

theorem Dev.Follows.lookup {f : Frame} {d : Dev} (h : d₀.Follows d) :
    d₀.Follows (Dev.lookup f d).2 := by
  unfold Dev.lookup
  refine Dev.Follows.step5 ?_
  dsimp only
  split
  · exact h
  · refine .iteSnd ?_ ?_
    · split <;> exact h
    · split
      · split
        · exact h
        · split <;> exact h
      · refine .iteSnd h ?_
        split <;> exact .iteSnd2 h.step3.learnCheck h.step3

theorem Dev.Follows.countLookup {pipe : Bool} {d : Dev} (h : d₀.Follows d) : d₀.Follows (Dev.countLookup pipe d) := by
  unfold Dev.countLookup
  exact .ite h.wr64 h.wr64

theorem Dev.Follows.trace {p : Nat} {s : Snap} {d : Dev} (h : d₀.Follows d) : d₀.Follows (Dev.trace p s d) := by
  unfold Dev.trace
  exact .ite (.raise (.put (.each (fun _ _ h1 => h1.wr) h))) h

theorem Dev.Follows.opTraceArm {i : Initiator} {v : Word} {d : Dev} (h : d₀.Follows d) : d₀.Follows (opTraceArm i v d) := by
  unfold Machine.opTraceArm
  exact .write (fun _ h1 => h1.put.put.putIf) h

end Sys2Proof.Machine
end

section
/-!
PROOF. The canonical form, the time and the outputs through the operations of Machine/Lists.lean: the port lists.
-/

namespace Sys2Proof.Machine

variable {d₀ : Dev}

theorem Dev.Follows.setGateRun {g : Nat} {r : GateRun} {d : Dev} (h : d₀.Follows d) : d₀.Follows (Dev.setGateRun g r d) := by
  unfold Dev.setGateRun
  exact h.units

theorem Dev.Follows.setTas {p : Nat} {r : GateRun} {d : Dev} (h : d₀.Follows d) : d₀.Follows (Dev.setTas p r d) := by
  unfold Dev.setTas
  exact h.units

end Sys2Proof.Machine
end

section
/-!
PROOF. The canonical form, the time and the outputs through the operations of Machine/Slots.lean: the launch slots.
-/

namespace Sys2Proof.Machine

variable {d₀ : Dev}

theorem Dev.Follows.setSlot {sl : Slot} {v : LSlot} {d : Dev} (h : d₀.Follows d) : d₀.Follows (Dev.setSlot sl v d) := by
  unfold Dev.setSlot
  split
  · dsimp only
    split
    · exact h.wr64.wr.wr
    · exact h.wr64.wr
  · split
    · exact h.units
    · exact h.units
    · exact h

theorem Dev.Follows.setLate {sl : Slot} {k : Option Nat} {d : Dev} (h : d₀.Follows d) : d₀.Follows (Dev.setLate sl k d) := by
  unfold Dev.setLate
  exact h.units

theorem Dev.Follows.armSlot {i : Initiator} {sl : Slot} {w : Word} {d : Dev} (h : d₀.Follows d) : d₀.Follows (Dev.armSlot i sl w d) := by
  unfold Dev.armSlot
  exact .ite h.ignoredErr h.setSlot.setLate

theorem Dev.Follows.disarmSlot {sl : Slot} {w : Word} {d : Dev} (h : d₀.Follows d) : d₀.Follows (Dev.disarmSlot sl w d) := by
  unfold Dev.disarmSlot
  exact .ite h (.ite h.setSlot.setLate.put h.setSlot.setLate)

theorem Dev.Follows.opSlotArm {i : Initiator} {sl : Slot} {w : Word} {d : Dev} (h : d₀.Follows d) : d₀.Follows (opSlotArm i sl w d) := by
  unfold Machine.opSlotArm
  exact .ite (.write (fun _ h1 => h1.armSlot) h) h

theorem Dev.Follows.opSlotDisarm {i : Initiator} {sl : Slot} {w : Word} {d : Dev} (h : d₀.Follows d) :
    d₀.Follows (opSlotDisarm i sl w d) := by
  unfold Machine.opSlotDisarm
  exact .ite (.write (fun _ h1 => h1.disarmSlot) h) h

theorem Dev.Follows.countLate {sl : Slot} {d : Dev} (h : d₀.Follows d) : d₀.Follows (Dev.countLate sl d) := by
  unfold Dev.countLate
  split
  · exact h.count.raise
  · exact h.count
  · exact h

theorem Dev.Follows.countSkip {sl : Slot} {n : Nat} {d : Dev} (h : d₀.Follows d) : d₀.Follows (Dev.countSkip sl n d) := by
  unfold Dev.countSkip
  split
  · exact h.add
  · exact h

theorem Dev.Follows.complete {sl : Slot} {late : Bool} {d : Dev} (h : d₀.Follows d) : d₀.Follows (Dev.complete sl late d) := by
  unfold Dev.complete
  exact .ite h.setSlot.setLate h.setSlot.setLate.countSkip

theorem Dev.Follows.launch {sl : Slot} {acts : List Nat} {f : Dev → Dev} {d : Dev} (hf : ∀ (t : Dev), d₀.Follows t → d₀.Follows (f t))
    (h : d₀.Follows d) :
    d₀.Follows (Dev.launch sl acts f d) := by
  unfold Dev.launch
  refine .ite h (.through (fun h1 => .ite h1.countLate h1) (.complete (hf _ ?_)))
  split
  · exact h.atTick
  · exact h.atNs

theorem Dev.Follows.opLaunchInHalt {sl : Slot} {d : Dev} (h : d₀.Follows d) : d₀.Follows (opLaunchInHalt sl d) := by
  unfold Machine.opLaunchInHalt
  exact .ite h.atNs.complete h

theorem Dev.Follows.opSlotNone {sl : Slot} {d : Dev} (h : d₀.Follows d) : d₀.Follows (opSlotNone sl d) := by
  unfold Machine.opSlotNone
  exact .ite (.launch (fun _ h1 => h1) h) h

theorem Dev.Follows.winRefuse {i : Initiator} {w : Window} {v : Nat} {d : Dev} (h : d₀.Follows d) :
    d₀.Follows (Dev.winRefuse i w v d) := by
  unfold Dev.winRefuse
  exact h.put.capture

theorem Dev.Follows.window {i : Initiator} {w : Window} {v : Nat} {writes : Bool} {ok : Dev → Bool} {f : Dev → Dev} {d : Dev}
    (hf : ∀ (t : Dev), d₀.Follows t → d₀.Follows (f t)) (h : d₀.Follows d) :
    d₀.Follows (Dev.window i w v writes ok f d) := by
  unfold Dev.window
  exact .ite (.write (fun _ h1 => .ite h1.winRefuse (.put (hf _ h1.put))) h) (.access (fun _ h2 => .ite h2.winRefuse (.put
    (hf _ h2.put))) h)

theorem Dev.Follows.opWindowDone {w : Window} {d : Dev} (h : d₀.Follows d) : d₀.Follows (opWindowDone w d) := by
  unfold Machine.opWindowDone
  exact h.put

theorem Dev.Follows.loadWords {f : Nat → Nat} {n v : Nat} {d : Dev} (h : d₀.Follows d) : d₀.Follows (Dev.loadWords f n v d) := by
  unfold Dev.loadWords
  exact .each (fun _ _ h1 => h1.wr) h

end Sys2Proof.Machine
end

section
/-!
PROOF. The canonical form, the time and the outputs through the operations of Machine/Cipher.lean: the cipher bank.
-/

namespace Sys2Proof.Machine

variable {d₀ : Dev}

theorem Dev.Follows.setCst {c : Nat} {s : CtxState} {d : Dev} (h : d₀.Follows d) : d₀.Follows (Dev.setCst c s d) := by
  unfold Dev.setCst
  exact h.units

theorem Dev.Follows.zeroSlot {c : Nat} {b : Bool} {d : Dev} (h : d₀.Follows d) : d₀.Follows (Dev.zeroSlot c b d) := by
  unfold Dev.zeroSlot
  exact h.setCst

theorem Dev.Follows.ctxCount {c i : Nat} {d : Dev} (h : d₀.Follows d) : d₀.Follows (Dev.ctxCount c i d) := by
  unfold Dev.ctxCount
  exact h.units

theorem Dev.Follows.cvFail {f : Frame} {c cause : Nat} {d : Dev} (h : d₀.Follows d) : d₀.Follows (Dev.cvFail f c cause d) := by
  unfold Dev.cvFail
  exact .raise (.ite h.ctxCount h.ctxCount.put.put.put.put.wr64)

theorem Dev.Follows.keepValue {c : Nat} {b : Bool} {k : KeySlot} {v : Nat} {d : Dev} (h : d₀.Follows d) :
    d₀.Follows (Dev.keepValue c b k v d) := by
  unfold Dev.keepValue
  exact .ite h.setCst h

theorem Dev.Follows.engineAsked {d : Dev} (h : d₀.Follows d) : d₀.Follows d.engineAsked := by
  unfold Dev.engineAsked
  exact .ite h (.ite h.units.count h.units)

theorem Dev.Follows.noKey {f : Frame} {c r : Nat} {d : Dev} (h : d₀.Follows d) : d₀.Follows (Dev.noKey f c r d).2 := by
  unfold Dev.noKey
  exact .iteSnd h.ctxCount h.cvFail

theorem Dev.Follows.verifySec {f : Frame} {v : CvStart} {c : Nat} {t : SecTag} {d : Dev} (h : d₀.Follows d) :
    d₀.Follows (Dev.verifySec f v c t d).2 := by
  unfold Dev.verifySec
  refine .iteSnd h.noKey (.through (fun h1 => ?_) h.engineAsked)
  split
  · exact h1.cvFail
  · exact .iteSnd h1.cvFail (.iteSnd h1.cvFail h1.keepValue.ctxCount)

theorem Dev.Follows.verifyPort {f : Frame} {v : CvStart} {h : Hdr} {d : Dev} (hd : d₀.Follows d) :
    d₀.Follows (Dev.verifyPort f v h d).2 := by
  unfold Dev.verifyPort
  dsimp only
  split
  · exact .iteSnd hd.count (.iteSnd hd.count hd)
  · refine .iteSnd hd.count ?_
    split
    · exact hd.count
    · exact hd.verifySec

theorem Dev.Follows.verifyCmac {f : Frame} {v : CvStart} {c : Nat} {x : BusRecord} {d : Dev} (h : d₀.Follows d) :
    d₀.Follows (Dev.verifyCmac f v c x d).2 := by
  unfold Dev.verifyCmac
  exact .iteSnd h.cvFail (.iteSnd h.noKey (.through (fun h1 => .iteSnd h1.keepValue.ctxCount
    (.iteSnd h1.keepValue.ctxCount h1.cvFail)) h.engineAsked))

theorem Dev.Follows.verify {f : Frame} {d : Dev} (h : d₀.Follows d) : d₀.Follows (Dev.verify f d).2 := by
  unfold Dev.verify
  dsimp only
  split
  · next h1 =>
      refine .ofSnd ?_ h1
      split
      · exact .iteSnd h h.verifyPort
      · exact h
  · next h2 =>
      split
      · refine .ofSnd ?_ h2
        split
        · exact .iteSnd h h.verifyPort
        · exact h
      · split
        · refine .iteSnd (.iteSnd (.ofSnd ?_ h2) (.cvFail (.ofSnd ?_ h2))) (.cvFail (.ofSnd ?_ h2))
          · split
            · exact .iteSnd h h.verifyPort
            · exact h
          · split
            · exact .iteSnd h h.verifyPort
            · exact h
          · split
            · exact .iteSnd h h.verifyPort
            · exact h
        · split
          · refine .verifyCmac (.ofSnd ?_ h2)
            split
            · exact .iteSnd h h.verifyPort
            · exact h
          · refine .cvFail (.ofSnd ?_ h2)
            split
            · exact .iteSnd h h.verifyPort
            · exact h

theorem Dev.Follows.spendCap {c : Nat} {exh : Bool} {d : Dev} (h : d₀.Follows d) : d₀.Follows (Dev.spendCap c exh d) := by
  unfold Dev.spendCap
  exact .ite h h.put.put.put

theorem Dev.Follows.changeover {c : Nat} {d : Dev} (h : d₀.Follows d) : d₀.Follows (Dev.changeover c d) := by
  unfold Dev.changeover
  refine .ite (.ite (.ite h h.raise) h.setCst.count.raise) ?_
  split
  · exact h.raise
  · exact .raise (.count (.ite h.setCst.armIn h.setCst))

theorem Dev.Follows.spendActs {c : Nat} {b : Bool} {d : Dev} (h : d₀.Follows d) : d₀.Follows (Dev.spendActs c b d) := by
  unfold Dev.spendActs
  exact .through (fun h1 => .ite h1 (.ite h1.changeover.raise h1.setCst.raise.spendCap)) (.ite h.setCst.raise.spendCap h)

theorem Dev.Follows.spend {c : Nat} {b : Bool} {d : Dev} (h : d₀.Follows d) : d₀.Follows (Dev.spend c b d) := by
  unfold Dev.spend
  exact h.setCst.ctxCount.spendActs

theorem Dev.Follows.takePn {c : Nat} {d : Dev} (h : d₀.Follows d) : d₀.Follows (Dev.takePn c d).2 := by
  unfold Dev.takePn
  split
  · exact h.ctxCount
  · exact h.engineAsked.setCst.spend

theorem Dev.Follows.genCmac {c : Nat} {x : BusRecord} {d : Dev} (h : d₀.Follows d) : d₀.Follows (Dev.genCmac c x d).2 := by
  unfold Dev.genCmac
  refine .iteSnd h.ctxCount ?_
  split
  · exact h.ctxCount
  · exact .iteSnd h.ctxCount h.engineAsked.setCst.spend

theorem Dev.Follows.opKnownAnswer {failed : Word} {d : Dev} (h : d₀.Follows d) : d₀.Follows (opKnownAnswer failed d) := by
  unfold Machine.opKnownAnswer
  exact .ite h (.ite h.wr.add.raise.raise h.wr.add.raise)

theorem Dev.Follows.opEngFailClear {i : Initiator} {v : Word} {d : Dev} (h : d₀.Follows d) : d₀.Follows (opEngFailClear i v d) := by
  unfold Machine.opEngFailClear
  exact .access (fun _ h1 => h1.wr) h

theorem Dev.Follows.opCtxRead {i : Initiator} {staged : Bool} {d : Dev} (h : d₀.Follows d) : d₀.Follows (opCtxRead i staged d) := by
  unfold Machine.opCtxRead
  exact .window (fun _ h1 => h1.loadWords) h

theorem Dev.Follows.opCtxStage {i : Initiator} {d : Dev} (h : d₀.Follows d) : d₀.Follows (opCtxStage i d) := by
  unfold Machine.opCtxStage
  exact .window (fun _ h1 => h1.units) h

theorem Dev.Follows.opCtxCounters {i : Initiator} {d : Dev} (h : d₀.Follows d) : d₀.Follows (opCtxCounters i d) := by
  unfold Machine.opCtxCounters
  exact .window (fun _ h1 => .each (fun _ _ h2 => h2.wr.units) h1) h

theorem Dev.Follows.opCtxLatch {i : Initiator} {d : Dev} (h : d₀.Follows d) : d₀.Follows (opCtxLatch i d) := by
  unfold Machine.opCtxLatch
  exact .window (fun _ h1 => h1.put.put.put.put.put.wr64.wr64) h

theorem Dev.Follows.opChangeoverNow {i : Initiator} {d : Dev} (h : d₀.Follows d) : d₀.Follows (opChangeoverNow i d) := by
  unfold Machine.opChangeoverNow
  exact .window (fun _ h1 => h1.changeover) h

theorem Dev.Follows.opKeyChangeover {grp : Nat} {d : Dev} (h : d₀.Follows d) : d₀.Follows (opKeyChangeover grp d) := by
  unfold Machine.opKeyChangeover
  exact .launch (fun _ h1 => .each (fun _ _ h2 => h2.changeover) h1) h

theorem Dev.Follows.opOverlapEnd {c : Nat} {d : Dev} (h : d₀.Follows d) : d₀.Follows (opOverlapEnd c d) := by
  unfold Machine.opOverlapEnd
  refine .onTimer (fun _ h1 => ?_) h
  split
  · exact h1.zeroSlot
  · exact h1

theorem Dev.Follows.opOldZeroise {c : Nat} {d : Dev} (h : d₀.Follows d) : d₀.Follows (opOldZeroise c d) := by
  unfold Machine.opOldZeroise
  refine .ite ?_ h
  split
  · exact h.zeroSlot
  · exact h

theorem Dev.Follows.opChgRead {i : Initiator} {d : Dev} (h : d₀.Follows d) : d₀.Follows (opChgRead i d) := by
  unfold Machine.opChgRead
  exact .window (fun _ h1 => h1.wr64.wr.wr) h

theorem Dev.Follows.winSlot {i : Initiator} {sl : Slot} {time : Nat} {ctl : Word} {per : Nat} {d : Dev} (h : d₀.Follows d) :
    d₀.Follows (Dev.winSlot i sl time ctl per d) := by
  unfold Dev.winSlot
  exact .through (fun h1 => .ite h1.setSlot.armSlot h1.setSlot.disarmSlot) (.ite (.ite h h.capture) h.setSlot)

theorem Dev.Follows.opChgWrite {i : Initiator} {d : Dev} (h : d₀.Follows d) : d₀.Follows (opChgWrite i d) := by
  unfold Machine.opChgWrite
  exact .window (fun _ h1 => h1.winSlot) h

theorem Dev.Follows.autCommit {d : Dev} (h : d₀.Follows d) : d₀.Follows d.autCommit := by
  unfold Dev.autCommit
  refine .units (.each (fun _ _ h1 => .ite h1.units.units.setCst.cancel ?_) h)
  split
  · exact .ite h1.units.spendActs h1.units
  · exact h1.units

theorem Dev.Follows.ctxLost {c : Nat} {d : Dev} (h : d₀.Follows d) : d₀.Follows (Dev.ctxLost c d) := by
  unfold Dev.ctxLost
  exact h.raise.units

theorem Dev.Follows.slotLost {c : Nat} {b : Bool} {d : Dev} (h : d₀.Follows d) : d₀.Follows (Dev.slotLost c b d) := by
  unfold Dev.slotLost
  exact h.raise.zeroSlot

theorem Dev.Follows.contextUe {c part : Nat} {d : Dev} (h : d₀.Follows d) : d₀.Follows (Dev.contextUe c part d) := by
  unfold Dev.contextUe
  exact .ite h.ctxLost.uncorrectable h.slotLost.uncorrectable

theorem Dev.Follows.autZero {d : Dev} (h : d₀.Follows d) : d₀.Follows d.autZero := by
  unfold Dev.autZero
  exact h.units

end Sys2Proof.Machine
end

section
/-!
PROOF. The canonical form, the time and the outputs through the operations of Machine/Time.lean: device time.
-/

namespace Sys2Proof.Machine

variable {d₀ : Dev}

theorem Dev.Follows.setInteg {r : Int} {d : Dev} (h : d₀.Follows d) : d₀.Follows (Dev.setInteg r d) := by
  unfold Dev.setInteg
  exact h.wr

theorem Dev.Follows.servo {rate step : Int} {d : Dev} (h : d₀.Follows d) : d₀.Follows (Dev.servo rate step d) := by
  unfold Dev.servo
  exact h.units.wr

theorem Dev.Follows.stepTime {step : Int} {d : Dev} (h : d₀.Follows d) : d₀.Follows (Dev.stepTime step d) := by
  unfold Dev.stepTime
  exact h.servo.units.put.put.count.raise

theorem Dev.Follows.setServo {s : Nat} {d : Dev} (h : d₀.Follows d) : d₀.Follows (Dev.setServo s d) := by
  unfold Dev.setServo
  exact .ite h (.ite h.put.raise.servo.put.raise h.put.raise)

theorem Dev.Follows.srcCommitted {d : Dev} (h : d₀.Follows d) : d₀.Follows d.srcCommitted := by
  unfold Dev.srcCommitted
  exact h.servo.put.put.cancel.setServo

theorem Dev.Follows.latchSample {s : Sample} {d : Dev} (h : d₀.Follows d) : d₀.Follows (Dev.latchSample s d) := by
  unfold Dev.latchSample
  exact h.armIn.units

theorem Dev.Follows.opSampleSubmit {i : Initiator} {v : Word} {d : Dev} (h : d₀.Follows d) : d₀.Follows (opSampleSubmit i v d) := by
  unfold Machine.opSampleSubmit
  exact .writeMixed (fun _ _ h1 => .ite h1.put.put (.ite h1.put.put.count h1.put.put.put.latchSample)) h

theorem Dev.Follows.accepted {e : Int} {newm stepped : Bool} {d : Dev} (h : d₀.Follows d) :
    d₀.Follows (Dev.accepted e newm stepped d) := by
  unfold Dev.accepted
  exact .ite h.put.setServo (.ite (.ite h.put.setServo h.put) (.ite (.ite h.put.setServo h.put) h.put))

theorem Dev.Follows.applySample {s : Sample} {d : Dev} (h : d₀.Follows d) : d₀.Follows (Dev.applySample s d) := by
  unfold Dev.applySample
  exact .ite h.count (.ite h.count (.ite h.units.count.raise (.ite h.units.wrapInc.put.wr.armIn.servo.stepTime.units.accepted
    (.ite h.units.wrapInc.put.wr.armIn.units.servo.accepted h.units.wrapInc.put.wr.armIn.units.setInteg.servo.accepted))))

theorem Dev.Follows.opSampleApply {d : Dev} (h : d₀.Follows d) : d₀.Follows (opSampleApply d) := by
  unfold Machine.opSampleApply
  refine .endTimer (fun _ h1 => ?_) h
  split
  · exact h1
  · exact .applySample (.ite h1.units h1.units.put)

theorem Dev.Follows.opHoldoverTimeout {d : Dev} (h : d₀.Follows d) : d₀.Follows (opHoldoverTimeout d) := by
  unfold Machine.opHoldoverTimeout
  exact .onTimer (fun _ h1 => .ite h1.setServo h1) h

theorem Dev.Follows.adj {i : Initiator} {cmd : Nat} {f : Dev → Dev} {d : Dev} (hf : ∀ (t : Dev), d₀.Follows t → d₀.Follows (f t))
    (h : d₀.Follows d) :
    d₀.Follows (Dev.adj i cmd f d) := by
  unfold Dev.adj
  exact .access (fun _ h1 => .ite (hf _ h1.at_) h1.setErr) h

theorem Dev.Follows.opAdjStep {i : Initiator} {d : Dev} (h : d₀.Follows d) : d₀.Follows (opAdjStep i d) := by
  unfold Machine.opAdjStep
  exact .adj (fun _ h1 => h1.stepTime) h

theorem Dev.Follows.opAdjSet {i : Initiator} {d : Dev} (h : d₀.Follows d) : d₀.Follows (opAdjSet i d) := by
  unfold Machine.opAdjSet
  exact .adj (fun _ h1 => h1.stepTime) h

theorem Dev.Follows.opAdjRate {i : Initiator} {d : Dev} (h : d₀.Follows d) : d₀.Follows (opAdjRate i d) := by
  unfold Machine.opAdjRate
  exact .adj (fun _ h1 => h1.setInteg.servo) h

theorem Dev.Follows.drive {pin : Nat} {level : Bool} {d : Dev} (h : d₀.Follows d) : d₀.Follows (Dev.drive pin level d) := by
  unfold Dev.drive
  exact .ite h h.units.emit

theorem Dev.Follows.releaseGpio {g : Nat} {d : Dev} (h : d₀.Follows d) : d₀.Follows (Dev.releaseGpio g d) := by
  unfold Dev.releaseGpio
  exact .ite h.cancel h.cancel.units.emit

theorem Dev.Follows.opGpioHigh {k : TimSlot} {d : Dev} (h : d₀.Follows d) : d₀.Follows (opGpioHigh k d) := by
  unfold Machine.opGpioHigh
  exact .launch (fun _ h1 => h1.cancel.drive) h

theorem Dev.Follows.opGpioLow {k : TimSlot} {d : Dev} (h : d₀.Follows d) : d₀.Follows (opGpioLow k d) := by
  unfold Machine.opGpioLow
  exact .launch (fun _ h1 => h1.cancel.drive) h

theorem Dev.Follows.opGpioToggle {k : TimSlot} {d : Dev} (h : d₀.Follows d) : d₀.Follows (opGpioToggle k d) := by
  unfold Machine.opGpioToggle
  exact .launch (fun _ h1 => h1.cancel.drive) h

theorem Dev.Follows.opGpioPulse {k : TimSlot} {d : Dev} (h : d₀.Follows d) : d₀.Follows (opGpioPulse k d) := by
  unfold Machine.opGpioPulse
  exact .launch (fun _ h1 => .ite h1.drive.armIn h1) h

theorem Dev.Follows.opGpioPulseEnd {g : Gpio} {d : Dev} (h : d₀.Follows d) : d₀.Follows (opGpioPulseEnd g d) := by
  unfold Machine.opGpioPulseEnd
  exact .onTimer (fun _ h1 => h1.drive) h

theorem Dev.Follows.opSlotMessage {k : TimSlot} {d : Dev} (h : d₀.Follows d) : d₀.Follows (opSlotMessage k d) := by
  unfold Machine.opSlotMessage
  exact .launch (fun _ h1 => h1.raise) h

theorem Dev.Follows.opGpioOwn {i : Initiator} {v : Word} {d : Dev} (h : d₀.Follows d) : d₀.Follows (opGpioOwn i v d) := by
  unfold Machine.opGpioOwn
  exact .write (fun _ h1 => .put (.each (fun _ _ h2 => h2.cancel.units) h1)) h

theorem Dev.Follows.captureEdge {g : Nat} {rising : Bool} {k : Nat} {d : Dev} (h : d₀.Follows d) :
    d₀.Follows (Dev.captureEdge g rising k d) := by
  unfold Dev.captureEdge
  exact .ite h (.ite h.units (.ite h.units.count h.units.wr64.units.raise))

theorem Dev.Follows.opGpioEdge {g : Gpio} {rising : Bool} {d : Dev} (h : d₀.Follows d) : d₀.Follows (opGpioEdge g rising d) := by
  unfold Machine.opGpioEdge
  exact .each (fun _ _ h1 => h1.captureEdge) h

theorem Dev.Follows.tsqShow {p : Nat} {d : Dev} (h : d₀.Follows d) : d₀.Follows (Dev.tsqShow p d) := by
  unfold Dev.tsqShow
  exact .ite h.put.setBit h.put.setBit

theorem Dev.Follows.setTsq {p : Nat} {l : List Nat} {d : Dev} (h : d₀.Follows d) : d₀.Follows (Dev.setTsq p l d) := by
  unfold Dev.setTsq
  exact .through (fun h1 => .ite h1.raise h1) h.units.tsqShow

theorem Dev.Follows.tsqPush {p : Nat} {bs : List Byte} {q : Int} {d : Dev} (h : d₀.Follows d) : d₀.Follows (Dev.tsqPush p bs q d) := by
  unfold Dev.tsqPush
  exact .ite (.through (fun h1 => .ite h1.units h1.units.units) h.count.raise) (.ite h.units.setTsq h.setTsq)

theorem Dev.Follows.tsqCapShow {d : Dev} (h : d₀.Follows d) : d₀.Follows d.tsqCapShow := by
  unfold Dev.tsqCapShow
  split <;> exact h.put.put.put.wr64

theorem Dev.Follows.opTsqCapSel {i : Initiator} {v : Word} {d : Dev} (h : d₀.Follows d) : d₀.Follows (opTsqCapSel i v d) := by
  unfold Machine.opTsqCapSel
  exact .write (fun _ h1 => h1.put.tsqCapShow) h

theorem Dev.Follows.opTsqCapClear {i : Initiator} {d : Dev} (h : d₀.Follows d) : d₀.Follows (opTsqCapClear i d) := by
  unfold Machine.opTsqCapClear
  exact .access (fun _ h1 => h1.units.tsqCapShow) h

theorem Dev.Follows.tsqEmpty {p : Nat} {d : Dev} (h : d₀.Follows d) : d₀.Follows (Dev.tsqEmpty p d) := by
  unfold Dev.tsqEmpty
  exact h.add.units.setTsq

theorem Dev.Follows.tsqMismatch {p : Nat} {d : Dev} (h : d₀.Follows d) : d₀.Follows (Dev.tsqMismatch p d) := by
  unfold Dev.tsqMismatch
  exact h.tsqEmpty.count.raise.queueReset

theorem Dev.Follows.opTsqRead {i : Initiator} {p : EthPort} {mism : Bool} {d : Dev} (h : d₀.Follows d) :
    d₀.Follows (opTsqRead i p mism d) := by
  unfold Machine.opTsqRead
  refine .access (fun _ h1 => ?_) h
  extract_lets d2
  have h2 : d₀.Follows d2 := .ite h1.tsqMismatch h1
  split
  · exact h2.wr.emit
  · exact h2.setTsq.wr.emit

theorem Dev.Follows.capsClear {d : Dev} (h : d₀.Follows d) : d₀.Follows d.capsClear := by
  unfold Dev.capsClear
  exact .each (fun _ _ h1 => h1.wr64) h.units.tsqCapShow

theorem Dev.Follows.timReset {d : Dev} (h : d₀.Follows d) : d₀.Follows d.timReset := by
  unfold Dev.timReset
  exact .through (fun h1 => .ite h1.setServo h1) (.capsClear (.each (fun _ _ h2 => h2.tsqEmpty) h))

end Sys2Proof.Machine
end

section
/-!
PROOF. The canonical form, the time and the outputs through the operations of Machine/Traffic.lean: the traffic manager.
-/

namespace Sys2Proof.Machine

variable {d₀ : Dev}

theorem Dev.Follows.setStream {s r : Nat} {d : Dev} (h : d₀.Follows d) : d₀.Follows (Dev.setStream s r d) := by
  unfold Dev.setStream
  exact h.units

theorem Dev.Follows.strCount {s i : Nat} {d : Dev} (h : d₀.Follows d) : d₀.Follows (Dev.strCount s i d) := by
  unfold Dev.strCount
  exact h.units

theorem Dev.Follows.recCount {f i n : Nat} {d : Dev} (h : d₀.Follows d) : d₀.Follows (Dev.recCount f i n d) := by
  unfold Dev.recCount
  exact h.units

theorem Dev.Follows.setRecov {f : Nat} {r : Recov} {d : Dev} (h : d₀.Follows d) : d₀.Follows (Dev.setRecov f r d) := by
  unfold Dev.setRecov
  exact h.units

theorem Dev.Follows.recPass {f : Nat} {r : Recov} {d : Dev} (h : d₀.Follows d) : d₀.Follows (Dev.recPass f r d) := by
  unfold Dev.recPass
  exact h.setRecov.recCount.armIn

theorem Dev.Follows.recDup {f : Nat} {r : Recov} {d : Dev} (h : d₀.Follows d) : d₀.Follows (Dev.recDup f r d) := by
  unfold Dev.recDup
  exact h.setRecov.recCount

theorem Dev.Follows.recReset {f : Nat} {d : Dev} (h : d₀.Follows d) : d₀.Follows (Dev.recReset f d) := by
  unfold Dev.recReset
  exact h.setRecov.recCount

theorem Dev.Follows.recover {f : Nat} {seq : Option Nat} {d : Dev} (h : d₀.Follows d) : d₀.Follows (Dev.recover f seq d).2 := by
  unfold Dev.recover
  refine .iteSnd h ?_
  split
  · exact .iteSnd h.recCount.recPass h.recCount
  · exact .iteSnd h.recPass (.iteSnd (.iteSnd h.recDup (.recPass (.ite h h.recCount))) (.iteSnd h.recCount (.iteSnd
      (.iteSnd h.recDup h.recCount.recPass) (.recPass (.recCount (.ite h h.recCount))))))

theorem Dev.Follows.opRecoveryReset {f : Nat} {d : Dev} (h : d₀.Follows d) : d₀.Follows (opRecoveryReset f d) := by
  unfold Machine.opRecoveryReset
  exact .onTimer (fun _ h1 => h1.recReset.raise) h

theorem Dev.Follows.opLatentTest {f : Nat} {d : Dev} (h : d₀.Follows d) : d₀.Follows (opLatentTest f d) := by
  unfold Machine.opLatentTest
  exact .onPeriod (fun _ h1 => .ite h1.setRecov.recCount.raise h1.setRecov) h

theorem Dev.Follows.trmLost {kind i : Nat} {d : Dev} (h : d₀.Follows d) : d₀.Follows (Dev.trmLost kind i d) := by
  unfold Dev.trmLost
  split
  · exact h.count.raise
  · exact h.raise
  · exact h.recReset.raise

/-- What a stream's meter charges is its own bucket. -/
theorem Dev.Follows.police35 {f : Frame} {seq : Option Nat} {ue : Nat} {d : Dev} (h : d₀.Follows d) :
    d₀.Follows (d.police35 f seq ue).2 := by
  unfold Dev.police35
  extract_lets r s gated g bad d1 gst d2 gr v d3 cls yin met yact
  have h1 : d₀.Follows d1 := .ite h.trmLost.uncorrectable h
  have h2 : d₀.Follows d2 := h1.strCount.count
  have hcharge : ∀ t, d₀.Follows t → d₀.Follows (met.2 t) := by
    intro t ht
    unfold met
    split
    · exact ht.units
    · exact ht
  refine .iteSnd (.ite h2.units.raise h2) ?_
  clear_value met
  split
  next col charge =>
  extract_lets d4 d5 d6 cls' rec5
  have h4 : d₀.Follows d4 := .ite h1.strCount (.ite h1.strCount h1)
  have h6 : d₀.Follows d6 := .through (fun h5 => .ite h5.setStream.raise h5) h4.strCount.count
  have hrec : d₀.Follows rec5.2 := by
    unfold rec5
    split
    · exact h4
    · refine .iteSnd ?_ h4.recover
      dsimp only
      exact h4.trmLost.uncorrectable
  exact .iteSnd h6 (.iteSnd (hcharge _ hrec) hrec.count)

theorem Dev.Follows.police {f : Frame} {seq : Option Nat} {ue : Nat} {d : Dev} (h : d₀.Follows d) :
    d₀.Follows (Dev.police f seq ue d).2 := by
  unfold Dev.police
  split
  · exact h
  · refine .iteSnd h.strCount.trmLost.uncorrectable.strCount.count (.iteSnd h.strCount.strCount.count (.through (fun h1 =>
      .iteSnd h1.strCount.count (.iteSnd h1.strCount ?_)) (.ite h.strCount.setStream.raise h.strCount)))
    split
    · next h2 => exact (h1.police35.ofSnd h2).strCount
    · next h3 => exact h1.police35.ofSnd h3

theorem Dev.Follows.setCredit {p c : Nat} {k : Credit} {d : Dev} (h : d₀.Follows d) : d₀.Follows (Dev.setCredit p c k d) := by
  unfold Dev.setCredit
  exact h.units

theorem Dev.Follows.creditSync {p c : Nat} {d : Dev} (h : d₀.Follows d) : d₀.Follows (Dev.creditSync p c d) := by
  unfold Dev.creditSync
  exact .ite h h.setCredit

theorem Dev.Follows.creditPort {p : Nat} {d : Dev} (h : d₀.Follows d) : d₀.Follows (Dev.creditPort p d) := by
  unfold Dev.creditPort
  exact .ite (.each (fun _ _ h1 => h1.creditSync) h) h

theorem Dev.Follows.creditUntil {p c t : Nat} {d : Dev} (h : d₀.Follows d) : d₀.Follows (Dev.creditUntil p c t d) := by
  unfold Dev.creditUntil
  exact .ite h.setCredit h

theorem Dev.Follows.opCbsSel {i : Initiator} {v : Word} {d : Dev} (h : d₀.Follows d) : d₀.Follows (opCbsSel i v d) := by
  unfold Machine.opCbsSel
  exact .write (fun _ h1 => h1.put.put.creditPort.wr) h

theorem Dev.Follows.tasShow {p : Nat} {d : Dev} (h : d₀.Follows d) : d₀.Follows (Dev.tasShow p d) := by
  unfold Dev.tasShow
  dsimp only
  split <;> exact .wr64 (by split; exacts [h.put.put.put.put.put, h.put.put.put.put])

/-- The cut is made a variable first: the kernel would run into its arithmetic otherwise. -/
theorem Dev.Follows.preemptTx {p : Nat} {d : Dev} (h : d₀.Follows d) :
    d₀.Follows (Dev.preemptTx p d) := by
  obtain ⟨cut, hcut⟩ : ∃ cut, d.cutAt = cut := ⟨_, rfl⟩
  rw [Dev.preemptTx, hcut]
  split
  · exact h
  · split
    · exact h
    · exact h.creditPort.units.creditUntil.ldg

theorem Dev.Follows.gatesTo {p states : Nat} {d : Dev} (h : d₀.Follows d) : d₀.Follows (Dev.gatesTo p states d) := by
  unfold Dev.gatesTo
  exact .through (fun h1 => .through (fun h2 => .ite h2.count.raise h2) (.ite h1.setTas h1.setTas.preemptTx)) h.creditPort

theorem Dev.Follows.holdOp {p op : Nat} {d : Dev} (h : d₀.Follows d) : d₀.Follows (Dev.holdOp p op d) := by
  unfold Dev.holdOp
  split
  · exact .ite h h.put.ldg.preemptTx
  · exact h.put
  · exact h

theorem Dev.Follows.applyEntry {p : Nat} {d : Dev} (h : d₀.Follows d) : d₀.Follows (Dev.applyEntry p d) := by
  unfold Dev.applyEntry
  dsimp only
  split
  · exact h.tasShow
  · exact h.gatesTo.holdOp.tasShow

theorem Dev.Follows.gclStop {p : Nat} {d : Dev} (h : d₀.Follows d) : d₀.Follows (Dev.gclStop p d) := by
  unfold Dev.gclStop
  exact h.setTas.raise.tasShow

theorem Dev.Follows.gateActs {p : Nat} {ue : Bool} {d : Dev} (h : d₀.Follows d) : d₀.Follows (Dev.gateActs p ue d) := by
  unfold Dev.gateActs
  exact .ite h.gclStop.uncorrectable h.setTas.applyEntry

theorem Dev.Follows.opGateListStart {p : EthPort} {ue : Bool} {d : Dev} (h : d₀.Follows d) : d₀.Follows (opGateListStart p ue d) := by
  unfold Machine.opGateListStart
  split
  · exact .ite h h.atNs.gateActs
  · exact h

theorem Dev.Follows.opGateEntryEnd {p : EthPort} {ue : Bool} {d : Dev} (h : d₀.Follows d) : d₀.Follows (opGateEntryEnd p ue d) := by
  unfold Machine.opGateEntryEnd
  split
  · exact h.atNs.gateActs
  · exact h

theorem Dev.Follows.opGateCycleEnd {p : EthPort} {ue : Bool} {d : Dev} (h : d₀.Follows d) : d₀.Follows (opGateCycleEnd p ue d) := by
  unfold Machine.opGateCycleEnd
  split
  · exact h.atNs.gateActs
  · exact h

theorem Dev.Follows.opStreamGateStart {g : Nat} {d : Dev} (h : d₀.Follows d) : d₀.Follows (opStreamGateStart g d) := by
  unfold Machine.opStreamGateStart
  split
  · exact .ite h h.atNs.setGateRun
  · exact h

theorem Dev.Follows.opStreamGateEntryEnd {g : Nat} {d : Dev} (h : d₀.Follows d) : d₀.Follows (opStreamGateEntryEnd g d) := by
  unfold Machine.opStreamGateEntryEnd
  split
  · exact h.atNs.setGateRun
  · exact h.atNs.setGateRun
  · exact h

theorem Dev.Follows.gatePasses {p n : Nat} {d : Dev} (h : d₀.Follows d) : d₀.Follows (d.gatePasses p n) := by
  induction n generalizing d with
  | zero => exact h
  | succ n ih =>
    unfold Dev.gatePasses
    split
    · exact h
    · refine .ite h (ih ?_)
      split
      · exact h.setTas.holdOp
      · exact h.setTas

theorem Dev.Follows.gateStepped {p : Nat} {d : Dev} (h : d₀.Follows d) :
    d₀.Follows (Dev.gateStepped p d) := by
  unfold Dev.gateStepped
  extract_lets e
  have he : d₀.Follows e := h.gatePasses
  refine .ite h ?_
  split
  · exact he.gatesTo.tasShow
  · exact he.tasShow

theorem Dev.Follows.streamPasses {g n : Nat} {d : Dev} (h : d₀.Follows d) : d₀.Follows (d.streamPasses g n) := by
  induction n generalizing d with
  | zero => exact h
  | succ n ih =>
    unfold Dev.streamPasses
    split
    · exact h
    · exact .ite h (ih h.setGateRun)

theorem Dev.Follows.listsStepped {d : Dev} (h : d₀.Follows d) : d₀.Follows d.listsStepped := by
  unfold Dev.listsStepped
  exact .ite h (.each (fun _ _ h1 => h1.streamPasses) (.each (fun _ _ h2 => h2.gateStepped) h))

theorem Dev.Follows.tasCommit {p : Nat} {d : Dev} (h : d₀.Follows d) : d₀.Follows (Dev.tasCommit p d) := by
  unfold Dev.tasCommit
  exact .ite h.setTas.tasShow h.setTas.gatesTo.tasShow

theorem Dev.Follows.gateCommit {g : Nat} {d : Dev} (h : d₀.Follows d) : d₀.Follows (Dev.gateCommit g d) := by
  unfold Dev.gateCommit
  exact .ite h.setGateRun h.setGateRun

theorem Dev.Follows.trmCommit {k : Nat} {d : Dev} (h : d₀.Follows d) : d₀.Follows (Dev.trmCommit k d) := by
  unfold Dev.trmCommit
  split
  · exact .units (.each (fun _ _ h1 => h1.setStream.units) h)
  · exact .units (.each (fun _ _ h2 => .ite h2.units h2.units.gateCommit) h)
  · exact .units (.each (fun _ _ h3 => .through (fun h4 => .through (fun h5 => .ite h5 h5.cancel) (.ite h4.cancel
      (.ite h4 h4.setRecov.armIn))) (.ite h3.units.setRecov h3.units)) h)
  · exact h

theorem Dev.Follows.opVerifyDone {p : EthPort} {ok : Bool} {d : Dev} (h : d₀.Follows d) : d₀.Follows (opVerifyDone p ok d) := by
  unfold Machine.opVerifyDone
  exact .ite h (.ite h.put h.put.raise)

theorem Dev.Follows.verifyStart {p : Nat} {d : Dev} (h : d₀.Follows d) : d₀.Follows (Dev.verifyStart p d) := by
  unfold Dev.verifyStart
  exact h.put

theorem Dev.Follows.opStreamRead {i : Initiator} {staged : Bool} {d : Dev} (h : d₀.Follows d) : d₀.Follows (opStreamRead i staged d) := by
  unfold Machine.opStreamRead
  exact .window (fun _ h1 => h1.loadWords) h

theorem Dev.Follows.opStreamStage {i : Initiator} {d : Dev} (h : d₀.Follows d) : d₀.Follows (opStreamStage i d) := by
  unfold Machine.opStreamStage
  exact .window (fun _ h1 => h1.units) h

theorem Dev.Follows.opStreamCounters {i : Initiator} {d : Dev} (h : d₀.Follows d) : d₀.Follows (opStreamCounters i d) := by
  unfold Machine.opStreamCounters
  exact .window (fun _ h1 => .each (fun _ _ h2 => h2.wr.units) h1) h

theorem Dev.Follows.opSgRead {i : Initiator} {staged : Bool} {d : Dev} (h : d₀.Follows d) : d₀.Follows (opSgRead i staged d) := by
  unfold Machine.opSgRead
  exact .window (fun _ h1 => h1.loadWords) h

theorem Dev.Follows.opSgWrite {i : Initiator} {d : Dev} (h : d₀.Follows d) : d₀.Follows (opSgWrite i d) := by
  unfold Machine.opSgWrite
  exact .window (fun _ h1 => .ite h1.units h1.units) h

theorem Dev.Follows.opRecoveryRead {i : Initiator} {staged : Bool} {d : Dev} (h : d₀.Follows d) :
    d₀.Follows (opRecoveryRead i staged d) := by
  unfold Machine.opRecoveryRead
  exact .window (fun _ h1 => h1.loadWords.put.put.put) h

theorem Dev.Follows.opRecoveryStage {i : Initiator} {d : Dev} (h : d₀.Follows d) : d₀.Follows (opRecoveryStage i d) := by
  unfold Machine.opRecoveryStage
  exact .window (fun _ h1 => h1.units) h

theorem Dev.Follows.opRecoveryCounters {i : Initiator} {d : Dev} (h : d₀.Follows d) : d₀.Follows (opRecoveryCounters i d) := by
  unfold Machine.opRecoveryCounters
  exact .window (fun _ h1 => .each (fun _ _ h2 => h2.wr.units) h1) h

theorem Dev.Follows.opGclRead {i : Initiator} {d : Dev} (h : d₀.Follows d) : d₀.Follows (opGclRead i d) := by
  unfold Machine.opGclRead
  exact .window (fun _ h1 => h1.put.put.put) h

theorem Dev.Follows.opGclWrite {i : Initiator} {d : Dev} (h : d₀.Follows d) : d₀.Follows (opGclWrite i d) := by
  unfold Machine.opGclWrite
  exact .window (fun _ h1 => h1.units) h

end Sys2Proof.Machine
end

section
/-!
PROOF. The canonical form, the time and the outputs through the operations of Machine/Mac.lean: the Ethernet MACs.
-/

namespace Sys2Proof.Machine

variable {d₀ : Dev}

theorem Dev.Follows.ldgSent {p : Nat} {bs : List Byte} {bad : Bool} {d : Dev} (h : d₀.Follows d) :
    d₀.Follows (Dev.ldgSent p bs bad d) := by
  unfold Dev.ldgSent
  exact .ite h.ldg.ldg h.ldg.ldg.ldg

theorem Dev.Follows.setWire {p t : Nat} {d : Dev} (h : d₀.Follows d) : d₀.Follows (Dev.setWire p t d) := by
  unfold Dev.setWire
  exact h.units

theorem Dev.Follows.fcLater {p : Nat} {d : Dev} (h : d₀.Follows d) : d₀.Follows (Dev.fcLater p d) := by
  unfold Dev.fcLater
  exact .through (fun h1 => .ite h1.arm h1) (.ite h h.units)

theorem Dev.Follows.fcSend {p set : Nat} {d : Dev} (h : d₀.Follows d) : d₀.Follows (Dev.fcSend p set d) := by
  unfold Dev.fcSend
  exact .through (fun h1 => .through (fun h2 => .ite h2.cancel h2.arm) (.ite h1.arm h1)) h.emit.ldg.ldg.ldg.units.units.setWire

theorem Dev.Follows.lpiLeave {p : Nat} {d : Dev} (h : d₀.Follows d) : d₀.Follows (Dev.lpiLeave p d) := by
  unfold Dev.lpiLeave
  exact .ite h.units.armIn h

theorem Dev.Follows.fcPush {p : Nat} {d : Dev} (h : d₀.Follows d) : d₀.Follows (Dev.fcPush p d) := by
  unfold Dev.fcPush
  exact .ite h.fcLater.lpiLeave (.ite h.preemptTx.fcLater h.preemptTx.fcSend)

theorem Dev.Follows.fcChanged {p : Nat} {d : Dev} (h : d₀.Follows d) : d₀.Follows (Dev.fcChanged p d) := by
  unfold Dev.fcChanged
  exact .ite h h.fcPush

theorem Dev.Follows.fcDrainWait {p : Nat} {d : Dev} (h : d₀.Follows d) : d₀.Follows (Dev.fcDrainWait p d) := by
  unfold Dev.fcDrainWait
  exact .ite h.fcSend h

theorem Dev.Follows.pauseSync {p c : Nat} {d : Dev} (h : d₀.Follows d) : d₀.Follows (Dev.pauseSync p c d) := by
  unfold Dev.pauseSync
  exact .ite (.ite h.arm h.arm.creditPort.put.units.armIn) (.ite h.creditPort.put.units.cancel.cancel h)

theorem Dev.Follows.pauseLoad {p : Nat} {l : List (Nat × Nat)} {d : Dev} (h : d₀.Follows d) : d₀.Follows (Dev.pauseLoad p l d) := by
  unfold Dev.pauseLoad
  exact .each (fun _ _ h1 => .ite h1 h1.pauseSync) (.each (fun _ _ h2 => .ite h2 h2.units) h)

theorem Dev.Follows.forgetPause {p : Nat} {q : Nat → Bool} {d : Dev} (h : d₀.Follows d) : d₀.Follows (Dev.forgetPause p q d) := by
  unfold Dev.forgetPause
  exact .each (fun _ _ h1 => h1.pauseSync) h.units

theorem Dev.Follows.unpause {p c : Nat} {d : Dev} (h : d₀.Follows d) : d₀.Follows (Dev.unpause p c d) := by
  unfold Dev.unpause
  exact h.forgetPause

theorem Dev.Follows.unpauseAll {p : Nat} {d : Dev} (h : d₀.Follows d) : d₀.Follows (Dev.unpauseAll p d) := by
  unfold Dev.unpauseAll
  exact h.forgetPause

theorem Dev.Follows.drainOn {out : Nat} {d : Dev} (h : d₀.Follows d) : d₀.Follows (Dev.drainOn out d) := by
  unfold Dev.drainOn
  exact .ite h h.units

theorem Dev.Follows.drainOff {out : Nat} {d : Dev} (h : d₀.Follows d) : d₀.Follows (Dev.drainOff out d) := by
  unfold Dev.drainOff
  exact h.units

theorem Dev.Follows.lpiStart {p : Nat} {d : Dev} (h : d₀.Follows d) : d₀.Follows (Dev.lpiStart p d) := by
  unfold Dev.lpiStart
  exact .ite h.armIn h

theorem Dev.Follows.setIso {pg v : Nat} {d : Dev} (h : d₀.Follows d) : d₀.Follows (Dev.setIso pg v d) := by
  unfold Dev.setIso
  exact .ite h h.put.raise

theorem Dev.Follows.isoStart {pg : Nat} {d : Dev} (h : d₀.Follows d) : d₀.Follows (Dev.isoStart pg d) := by
  unfold Dev.isoStart
  exact h.put.setIso.units.refreshFrom.syncMode

theorem Dev.Follows.isoEth {p : Nat} {d : Dev} (h : d₀.Follows d) : d₀.Follows (Dev.isoEth p d) := by
  unfold Dev.isoEth
  exact .ite h (.through (fun h1 => .through (fun h2 => .ite h2.fcPush h2) (.ite h1.revertStop h1)) h.units.cancel.isoStart.drainOn)

end Sys2Proof.Machine
end

section
/-!
PROOF. The canonical form, the time and the outputs through the operations of Machine/Segments.lean: the sleep segments.
-/

namespace Sys2Proof.Machine

variable {d₀ : Dev}

theorem Dev.Follows.touch {p : Nat} {d : Dev} (h : d₀.Follows d) : d₀.Follows (Dev.touch p d) := by
  unfold Dev.touch
  exact h.units

theorem Dev.Follows.setSupen {n : Nat} {on : Bool} {d : Dev} (h : d₀.Follows d) : d₀.Follows (Dev.setSupen n on d) := by
  unfold Dev.setSupen
  exact .ite h.put.put.cancel h.put.put.cancel.emit

theorem Dev.Follows.supenDelay {n : Nat} {d : Dev} (h : d₀.Follows d) : d₀.Follows (Dev.supenDelay n d) := by
  unfold Dev.supenDelay
  exact .ite h (.ite h.setSupen h.put.armIn)

theorem Dev.Follows.countCtl {code : Nat} {d : Dev} (h : d₀.Follows d) : d₀.Follows (Dev.countCtl code d) := by
  unfold Dev.countCtl
  exact .ite h.count h

theorem Dev.Follows.tokenAll {t : Token} {but : Option Nat} {d : Dev} (h : d₀.Follows d) : d₀.Follows (Dev.tokenAll t but d) := by
  unfold Dev.tokenAll
  exact .each (fun _ _ h1 => h1.countCtl.emit) h

theorem Dev.Follows.tokenOnce {t : Token} {but : Option Nat} {d : Dev} (h : d₀.Follows d) : d₀.Follows (Dev.tokenOnce t but d) := by
  unfold Dev.tokenOnce
  exact .ite h h.units.tokenAll

theorem Dev.Follows.schShow {ch : Nat} {d : Dev} (h : d₀.Follows d) : d₀.Follows (Dev.schShow ch d) := by
  unfold Dev.schShow
  extract_lets r d1 d2
  have h1 : d₀.Follows d1 := h.put.put.put
  refine Dev.Follows.wr64 (d := d2) ?_
  unfold d2
  split
  · exact h1.put
  · exact h1

theorem Dev.Follows.setSchRun {ch : Nat} {r : GateRun} {d : Dev} (h : d₀.Follows d) : d₀.Follows (Dev.setSchRun ch r d) := by
  unfold Dev.setSchRun
  exact h.units.schShow

theorem Dev.Follows.schCommit {ch : Nat} {d : Dev} (h : d₀.Follows d) : d₀.Follows (Dev.schCommit ch d) := by
  unfold Dev.schCommit
  exact .ite h.setSchRun h.setSchRun

theorem Dev.Follows.linBack {ch : Nat} {d : Dev} (h : d₀.Follows d) : d₀.Follows (Dev.linBack ch d) := by
  unfold Dev.linBack
  exact .ite h.schCommit h

theorem Dev.Follows.segWake {g : Nat} {d : Dev} (h : d₀.Follows d) : d₀.Follows (Dev.segWake g d) := by
  unfold Dev.segWake
  exact .ite h (.syncMode (.each (fun _ _ h1 => h1.tokenOnce) (.raise (.each (fun _ _ h2 => h2.linBack) (.each
    (fun _ _ h3 => h3.refreshPg) (.each (fun _ _ h4 => .ite h4 h4.put) (.each (fun _ _ h5 => h5.setSupen) h.units.put)))))))

theorem Dev.Follows.wakeFor {out c : Nat} {d : Dev} (h : d₀.Follows d) : d₀.Follows (Dev.wakeFor out c d) := by
  unfold Dev.wakeFor
  split
  · exact .ite h.segWake h
  · exact h

end Sys2Proof.Machine
end

section
/-!
PROOF. The canonical form, the time and the outputs through the operations of Machine/Arrive.lean: the arrival of frames.
-/

namespace Sys2Proof.Machine

variable {d₀ : Dev}

theorem Dev.Follows.unRx {fid : Nat} {d : Dev} (h : d₀.Follows d) : d₀.Follows (Dev.unRx fid d) := by
  unfold Dev.unRx
  exact h.units

theorem Dev.Follows.dropArriving {fid : Nat} {d : Dev} (h : d₀.Follows d) : d₀.Follows (Dev.dropArriving fid d) := by
  unfold Dev.dropArriving
  refine .unRx ?_
  split
  · exact .freeFrame (.when (fun _ h1 => h1.uncharge) h)
  · exact h

theorem Dev.Follows.endBad {fid : Nat} {d : Dev} (h : d₀.Follows d) : d₀.Follows (Dev.endBad fid d) := by
  unfold Dev.endBad
  exact h.modFrame.units

theorem Dev.Follows.chargeArriving {f : Frame} {d : Dev} (h : d₀.Follows d) : d₀.Follows (Dev.chargeArriving f d) := by
  unfold Dev.chargeArriving
  exact h.charge.countHdrm

theorem Dev.Follows.rsvFor {f : Frame} {d : Dev} {r : Nat × Dev} (h : d₀.Follows d) (he : d.rsvFor f = some r) : d₀.Follows r.2 := by
  unfold Dev.rsvFor at he
  split at he
  · next _ t h1 =>
    cases he
    exact (h.takeCoin h1).chargeArriving
  · cases he

theorem Dev.Follows.nextCoin {f : Frame} {pool : Pool} {d : Dev} {r : Frame × Dev} (h : d₀.Follows d)
    (he : d.nextCoin f pool = some r) : d₀.Follows r.2 := by
  unfold Dev.nextCoin at he
  dsimp only at he
  split at he
  · split at he
    · next _ t h1 =>
      cases he
      exact h.rsvFor h1
    · cases he
  · split at he
    · next _ t h1 =>
      cases he
      exact (h.takeCoin h1).chargeArriving
    · split at he
      · cases he
      · next _ t h1 =>
        split at he
        · next _ u h2 =>
          cases he
          exact (h.rsvFor h1).wr64.rsvFor h2
        · cases he

theorem Dev.Follows.moreCoins {pool : Pool} {n : Nat} {f : Frame} {d : Dev} {r : Frame × Dev} (h : d₀.Follows d)
    (he : d.moreCoins pool n f = some r) : d₀.Follows r.2 := by
  induction n generalizing f d with
  | zero => cases he; exact h
  | succ n ih =>
    unfold Dev.moreCoins at he
    split at he
    · next _ t h1 => exact ih (h.nextCoin h1) he
    · cases he

theorem Dev.Follows.saveFrame {f : Frame} {d : Dev} (h : d₀.Follows d) : d₀.Follows (Dev.saveFrame f d) := by
  unfold Dev.saveFrame
  exact h.modFrame

theorem Dev.Follows.noCoin {fid : Nat} {d : Dev} (h : d₀.Follows d) : d₀.Follows (Dev.noCoin fid d) := by
  unfold Dev.noCoin
  split
  · exact .lost (.ite h.endBad.unRx h.dropArriving)
  · exact h

theorem Dev.Follows.pinMore {f : Frame} {was : List Nat} {d : Dev} (h : d₀.Follows d) : d₀.Follows (Dev.pinMore f was d) := by
  unfold Dev.pinMore
  exact .ite h.put.pinChanged h

theorem Dev.Follows.storeBytes {fid : Nat} {bs : List Byte} {d : Dev} (h : d₀.Follows d) : d₀.Follows (Dev.storeBytes fid bs d) := by
  unfold Dev.storeBytes
  split
  · exact h
  · dsimp only
    split
    · next h1 => exact (h.moreCoins h1).pinMore.saveFrame
    · exact h.saveFrame.noCoin

theorem Dev.Follows.takeIn {mk : Nat → Frame} {d : Dev} (h : d₀.Follows d) :
    d₀.Follows (Dev.takeIn mk d).2 := by
  unfold Dev.takeIn
  dsimp only
  split
  · exact h.newFrame
  · split
    · next h3 => exact (h.newFrame.moreCoins h3).saveFrame
    · exact h.newFrame.saveFrame.noCoin

theorem Dev.Follows.admitBus {p : Nat} {r : BusRecord} {inNs inFrac : Nat} {d : Dev} (h : d₀.Follows d) :
    d₀.Follows (Dev.admitBus p r inNs inFrac d) := by
  unfold Dev.admitBus
  dsimp only
  split
  · exact h.newFrame
  · refine .ite h.newFrame.dropFrame.count.raise ?_
    have h1 (k : Nat) (b : Bool) {t : Dev} (ht : d₀.Follows t) : d₀.Follows (Dev.when b (fun d => d.chargeBus k 1) t) :=
      ht.when (fun _ h2 => h2.chargeBus)
    split
    · next h2 => exact ((h1 _ _ h.newFrame).moreCoins h2).saveFrame
    · exact (h1 _ _ h.newFrame).saveFrame.noCoin

theorem Dev.Follows.opFrameStart {p eighth : Nat} {d : Dev} (h : d₀.Follows d) : d₀.Follows (opFrameStart p eighth d) := by
  unfold Machine.opFrameStart
  exact .ite h h.setRx

theorem Dev.Follows.startFrame {p : Nat} {r : Rx} {bytes : List Byte} {d : Dev} (h : d₀.Follows d) :
    d₀.Follows (Dev.startFrame p r bytes d) := by
  unfold Dev.startFrame
  dsimp only
  exact h.newFrame.setRx.modFrame.storeBytes

theorem Dev.Follows.opFrameData {p : Nat} {data : List Byte} {d : Dev} (h : d₀.Follows d) : d₀.Follows (opFrameData p data d) := by
  unfold Machine.opFrameData
  split
  · exact h
  · refine .ite (.ite h.setRx (.ite h.setRx.setRx h.setRx.startFrame)) ?_
    split
    · exact h.setRx.storeBytes
    · exact h.setRx

theorem Dev.Follows.opFrameHead {p : Nat} {d : Dev} (h : d₀.Follows d) : d₀.Follows (opFrameHead p d) := by
  unfold Machine.opFrameHead
  split
  · split
    · exact h.modFrame
    · exact h
  · exact h

theorem Dev.Follows.fwdDiscard {fid reason : Nat} {d : Dev} (h : d₀.Follows d) : d₀.Follows (Dev.fwdDiscard fid reason d) := by
  unfold Dev.fwdDiscard
  exact h.dropArriving.count

theorem Dev.Follows.setRegs {l : List (Nat × Word)} {d : Dev} (h : d₀.Follows d) : d₀.Follows (Dev.setRegs l d) := by
  unfold Dev.setRegs
  exact .each (fun _ _ h1 => h1.wr) h

theorem Dev.Follows.opLookupResult {p : Nat} {pipe : Bool} {ue : Option TblAt} {d : Dev} (h : d₀.Follows d) :
    d₀.Follows (opLookupResult p pipe ue d) := by
  unfold Machine.opLookupResult
  split
  · exact h
  · refine .through (fun h1 => .ite h1.fwdDiscard (.through (fun h2 =>
      .ite h2.fwdDiscard h2.saveFrame) h1.setRegs.lookup.setRegs.countLookup.trace)) ?_
    split
    · exact h.at_.tableUe
    · exact h.at_

theorem Dev.Follows.ldgReceived {p kind : Nat} {r : Rx} {d : Dev} (h : d₀.Follows d) : d₀.Follows (Dev.ldgReceived p kind r d) := by
  unfold Dev.ldgReceived
  exact .ite h.ldg.ldg (.ite (.through (fun h1 => .ite h1.ldg h1) h.ldg.ldg.ldg.ldg) h.ldg.ldg)

theorem Dev.Follows.ldgMerge {p frags asmErr smdErr : Nat} {d : Dev} (h : d₀.Follows d) :
    d₀.Follows (Dev.ldgMerge p frags asmErr smdErr d) := by
  unfold Dev.ldgMerge
  exact .ite h (.through (fun h1 => .ite h1 h1.ldg) h.ldg.ldg.ldg)

theorem Dev.Follows.rejectRx {fid : Nat} {d : Dev} (h : d₀.Follows d) : d₀.Follows (Dev.rejectRx fid d) := by
  unfold Dev.rejectRx
  split
  · exact h
  · exact .cancelLearn (.ite h.endBad h.dropArriving)

theorem Dev.Follows.acceptRx {fid check : Nat} {d : Dev} (h : d₀.Follows d) : d₀.Follows (Dev.acceptRx fid check d) := by
  unfold Dev.acceptRx
  dsimp only
  split
  · exact .ite (.each (fun _ _ h1 => h1.holdCoin) h.modFrame) h.modFrame
  · exact h.modFrame

theorem Dev.Follows.overdraft {p : Nat} {d : Dev} (h : d₀.Follows d) : d₀.Follows (Dev.overdraft p d) := by
  unfold Dev.overdraft
  exact h.raise.capture.isoEth

theorem Dev.Follows.settle {d : Dev} (h : d₀.Follows d) : d₀.Follows d.settle := by
  unfold Dev.settle
  exact .each (fun _ _ h1 => .ite h1 h1.overdraft) h.units

theorem Dev.Follows.opFrameEnd {p : Nat} {fcsGood pcsErr : Bool} {d : Dev} (h : d₀.Follows d) :
    d₀.Follows (opFrameEnd p fcsGood pcsErr d) := by
  unfold Machine.opFrameEnd
  split
  · exact h
  · extract_lets d1 kind ctl d2 d3 v d4 k d5 d6
    have h2 : d₀.Follows d2 := .ite h.setRx h.setRx.touch
    have h3 : d₀.Follows d3 := .ite h2.ldg.count h2
    have h4 : d₀.Follows d4 := .ite h3.units h3.ldgReceived
    have h5 : d₀.Follows d5 := .ite (.ite h4.count (.ite h4.count (.ite h4.ldg h4))) h4
    refine .through (x := d6) (fun h6 => .ite h6.overdraft h6) ?_
    unfold d6
    split
    · exact .ite h5.acceptRx h5.rejectRx
    · refine .ite (.ite h5.count h5) ?_
      split
      · exact h5.cancelLearn
      · exact h5

theorem Dev.Follows.opPolicing {p ue : Nat} {d : Dev} (h : d₀.Follows d) : d₀.Follows (opPolicing p ue d) := by
  unfold Machine.opPolicing
  split
  · exact h
  · dsimp only
    split
    · next h1 => exact (h.at_.police.ofSnd h1).dropArriving
    · next h2 => exact (h.at_.police.ofSnd h2).modFrame

theorem Dev.Follows.opIngressCheck {p : Nat} {ue : Option CvPart} {d : Dev} (h : d₀.Follows d) :
    d₀.Follows (opIngressCheck p ue d) := by
  unfold Machine.opIngressCheck
  split
  · exact h
  · next f _ =>
    extract_lets d1
    have h1 : d₀.Follows d1 := h.at_
    split
    next _ f' d2 h2 =>
    have hd2 : d₀.Follows d2 := by
      split at h2
      · cases h2
        exact h1.contextUe
      · cases h2
        exact h1
    split
    · next h3 => exact (hd2.verify.ofSnd h3).dropArriving
    · next h3 => exact (hd2.verify.ofSnd h3).modFrame

theorem Dev.Follows.voqReset {q : Nat} {d : Dev} (h : d₀.Follows d) : d₀.Follows (Dev.voqReset q d) := by
  unfold Dev.voqReset
  exact .startWalk (.each (fun _ _ h1 => h1.cutVoq.release) h.queueReset.count.raise.lost)

theorem Dev.Follows.opVoqEnqueue {p : Nat} {mism : Option Nat} {d : Dev} (h : d₀.Follows d) : d₀.Follows (opVoqEnqueue p mism d) := by
  unfold Machine.opVoqEnqueue
  split
  · exact h
  · refine .settle (.each (fun _ _ h1 => h1.wakeFor) (.enqueue (.saveFrame (.each (fun _ _ h2 => h2.creditPort) (.when
      (fun _ h3 => h3.uncharge) ?_)))))
    split
    · exact h.at_.voqReset
    · exact h.at_

theorem Dev.Follows.opSpillCopyDone {q : Nat} {ue : Bool} {d : Dev} (h : d₀.Follows d) : d₀.Follows (opSpillCopyDone q ue d) := by
  unfold Machine.opSpillCopyDone
  split
  · exact h
  · exact .settle (.onTimer (fun _ h1 => h1.spillDone) h)

theorem Dev.Follows.opPressureReach {p : Nat} {d : Dev} (h : d₀.Follows d) : d₀.Follows (opPressureReach p d) := by
  unfold Machine.opPressureReach
  exact .ite h (.through (fun h1 => .ite h1.put.fcChanged (.ite h1.put h1)) (.ite h.units.put h.units))

end Sys2Proof.Machine
end

section
/-!
PROOF. The canonical form, the time and the outputs through the operations of Machine/Fabric.lean: fabric accesses.
-/

namespace Sys2Proof.Machine

variable {d₀ : Dev}

theorem Dev.Follows.writeFailed {code resp a : Nat} {d : Dev} (h : d₀.Follows d) : d₀.Follows (Dev.writeFailed code resp a d) := by
  unfold Dev.writeFailed
  exact .through (fun h1 => .ite h1.count h1.units.put.raise) (.ite h h.units)

theorem Dev.Follows.freeBytes {n : Nat} {d : Dev} (h : d₀.Follows d) : d₀.Follows (d.freeBytes n).2 :=
  .foldlSnd (fun _ _ h1 => h1.units) h

theorem Dev.Follows.outRead {r : OutRead} {n : Nat} {d : Dev} (h : d₀.Follows d) : d₀.Follows (Dev.outRead r n d).2 := by
  unfold Dev.outRead
  split
  · exact h
  · exact h.units.units.armIn.emit

theorem Dev.Follows.outWrite {code a : Nat} {bs : List Byte} {d : Dev} (h : d₀.Follows d) : d₀.Follows (Dev.outWrite code a bs d) := by
  unfold Dev.outWrite
  split
  · exact h.writeFailed
  · exact .ite h.emit.outRead h.emit

theorem Dev.Follows.fabWrite {code a : Nat} {bs : List Byte} {d : Dev} (h : d₀.Follows d) : d₀.Follows (Dev.fabWrite code a bs d) := by
  unfold Dev.fabWrite
  exact .ite h.wrBytes h.outWrite

end Sys2Proof.Machine
end

section
/-!
PROOF. The canonical form, the time and the outputs through the operations of Machine/Pick.lean: the choice of the next frame.
-/

namespace Sys2Proof.Machine

variable {d₀ : Dev}

theorem Dev.Follows.drrTake {out c : Nat} {qs : List Nat} {d : Dev} {r : Nat × Dev} (h : d₀.Follows d)
    (he : d.drrTake out c qs = some r) : d₀.Follows r.2 := by
  unfold Dev.drrTake at he
  dsimp only at he
  split at he
  · cases he
  · cases he
    exact h.units

theorem Dev.Follows.takeCv {out : Nat} {f : Frame} {d : Dev} (h : d₀.Follows d) : d₀.Follows (Dev.takeCv out f d).2 := by
  unfold Dev.takeCv
  split
  · exact h
  · split
    · next h1 => exact (h.takePn.ofSnd h1)
    · next h2 => exact (h.takePn.ofSnd h2)

theorem Dev.Follows.dropHead {q : Nat} {count : Dev → Dev} {d : Dev} (hf : ∀ (t : Dev), d₀.Follows t → d₀.Follows (count t))
    (h : d₀.Follows d) :
    d₀.Follows (Dev.dropHead q count d) := by
  unfold Dev.dropHead
  split
  · exact h
  · exact .release (hf _ h.popVoq)

theorem Dev.Follows.countDrain {out : Nat} {d : Dev} (h : d₀.Follows d) : d₀.Follows (Dev.countDrain out d) := by
  unfold Dev.countDrain
  exact .ite h.ldg (.ite h.count (.ite h.count (.ite h.count (.ite h.count h))))

theorem Dev.Follows.saidDrain {out : Nat} {d : Dev} (h : d₀.Follows d) : d₀.Follows (Dev.saidDrain out d) := by
  unfold Dev.saidDrain
  exact .ite h.units.raise h

theorem Dev.Follows.agedOut {q : Nat} {d : Dev} (h : d₀.Follows d) : d₀.Follows (Dev.agedOut q d) := by
  unfold Dev.agedOut
  exact .through (fun h1 => .ite h1.count h1) h.holdDiscard

theorem Dev.Follows.lostHead {q out : Nat} {d : Dev} (h : d₀.Follows d) : d₀.Follows (Dev.lostHead q out d) := by
  unfold Dev.lostHead
  exact .dropHead (fun _ h1 => h1.lost.ldg) h

theorem Dev.Follows.leakFrame {n : Nat} {f : Frame} {d : Dev} (h : d₀.Follows d) : d₀.Follows (Dev.leakFrame n f d) := by
  unfold Dev.leakFrame
  exact .dropFrame (.each (fun _ _ h1 => h1.uncharge) h.abandonSpill)

theorem Dev.Follows.leakHead {q : Nat} {f : Frame} {d : Dev} (h : d₀.Follows d) : d₀.Follows (Dev.leakHead q f d) := by
  unfold Dev.leakHead
  exact .leakFrame (.each (fun _ _ h1 => .each (fun _ _ h2 => h2.cutVoq) h1) (.popVoq (.ite h.pin h)))

theorem Dev.Follows.flushVoq {q : Nat} {d : Dev} (h : d₀.Follows d) :
    d₀.Follows (Dev.flushVoq q d) := by
  unfold Dev.flushVoq
  refine .startWalk (.each (fun _ _ h1 => ?_) h.count.raise.lost)
  dsimp only
  split
  · exact .ite h1.cutVoq.leakFrame h1.cutVoq.release
  · exact h1.cutVoq

theorem Dev.Follows.meetErr {q out : Nat} {f : Frame} {e : Option VaultErr} {d : Dev} (h : d₀.Follows d) :
    d₀.Follows (Dev.meetErr q out f e d).2 := by
  unfold Dev.meetErr
  dsimp only
  split
  · exact .iteSnd h.lostHead h
  · refine .iteSnd (.lostHead ?_) ?_
    · split
      · exact h.contextUe
      · exact h
    · split
      · exact h.contextUe
      · exact h
  · exact .iteSnd (.lostHead (.ite h h.count.correctable)) (.ite h h.count.correctable)
  · exact .iteSnd h.count.raise.uncorrectable.lostHead h.count.raise.uncorrectable
  · exact .iteSnd h.lostHead (.through (fun h1 => .iteSnd h1.modFrame.lost h1.modFrame.lostHead) h.count.raise.uncorrectable)
  · exact h.count.raise.uncorrectable.lostHead
  · exact h.raise.uncorrectable.flushVoq
  · exact h.count.raise.uncorrectable.lost.leakHead.startWalk

theorem Dev.Follows.toPick {out : Nat} {d : Dev} (h : d₀.Follows d) : d₀.Follows (Dev.toPick out d) := by
  unfold Dev.toPick
  exact h.at_

theorem Dev.Follows.occupy {out n : Nat} {d : Dev} (h : d₀.Follows d) : d₀.Follows (Dev.occupy out n d) := by
  unfold Dev.occupy
  exact h.units

theorem Dev.Follows.highest {f : Nat → Option (Nat × Dev)} {r : Nat × Nat × Dev} (hf : ∀ c x, f c = some x → d₀.Follows x.2)
    (he : highest f = some r) : d₀.Follows r.2.2 := by
  obtain ⟨c, -, hc⟩ := List.exists_of_findSome?_eq_some he
  obtain ⟨x, hx, rfl⟩ := Option.map_eq_some_iff.mp hc
  exact hf c x hx

end Sys2Proof.Machine
end

section
/-!
PROOF. The canonical form, the time and the outputs through the operations of Machine/Host.lean: the host interface.
-/

namespace Sys2Proof.Machine

variable {d₀ : Dev}

theorem Dev.Follows.flushMsix {d : Dev} (h : d₀.Follows d) : d₀.Follows d.flushMsix := by
  unfold Dev.flushMsix
  exact .each (fun _ _ h1 => h1.emit) h.units

theorem Dev.Follows.unmaskVec {v : Nat} {d : Dev} (h : d₀.Follows d) : d₀.Follows (Dev.unmaskVec v d) := by
  unfold Dev.unmaskVec
  exact h.units.flushMsix

theorem Dev.Follows.opMsixUnmask {what : Unmask} {d : Dev} (h : d₀.Follows d) : d₀.Follows (opMsixUnmask what d) := by
  unfold Machine.opMsixUnmask
  split
  · exact h.unmaskVec
  · exact h.put.flushMsix
  · exact h.put.flushMsix

theorem Dev.Follows.semFree {n : Nat} {d : Dev} (h : d₀.Follows d) : d₀.Follows (Dev.semFree n d) := by
  unfold Dev.semFree
  exact h.put.cancel

theorem Dev.Follows.semGone {code : Nat} {d : Dev} (h : d₀.Follows d) : d₀.Follows (Dev.semGone code d) := by
  unfold Dev.semGone
  exact .each (fun _ _ h1 => h1.semFree.count) h

theorem Dev.Follows.opSemRead {i : Initiator} {n : Sem} {d : Dev} (h : d₀.Follows d) : d₀.Follows (opSemRead i n d) := by
  unfold Machine.opSemRead
  exact .access (fun _ h1 => .ite h1.put.armIn.emit h1.emit) h

theorem Dev.Follows.opSemRelease {i : Initiator} {n : Sem} {d : Dev} (h : d₀.Follows d) : d₀.Follows (opSemRelease i n d) := by
  unfold Machine.opSemRelease
  exact .access (fun _ h1 => .ite h1.semFree h1.ignoredErr) h

theorem Dev.Follows.opSemTimeout {n : Sem} {d : Dev} (h : d₀.Follows d) : d₀.Follows (opSemTimeout n d) := by
  unfold Machine.opSemTimeout
  exact .onTimer (fun _ h1 => h1.semFree.count.raise) h

theorem Dev.Follows.opPweRead {i : Initiator} {d : Dev} (h : d₀.Follows d) : d₀.Follows (opPweRead i d) := by
  unfold Machine.opPweRead
  refine .access (fun _ h1 => ?_) h
  split
  · exact h1.wr.wr.emit
  · exact h1.units.put.wr64.wr64.emit

theorem Dev.Follows.hAdvance {r : Nat} {d : Dev} (h : d₀.Follows d) : d₀.Follows (Dev.hAdvance r d) := by
  unfold Dev.hAdvance
  exact h.put

theorem Dev.Follows.hHalt {r cause : Nat} {pass : Bool} {d : Dev} (h : d₀.Follows d) : d₀.Follows (Dev.hHalt r cause pass d) := by
  unfold Dev.hHalt
  exact .ite h (.raise (.when (fun _ h1 => h1.hAdvance) h.put.put.put))

theorem Dev.Follows.hMessage {r : Nat} {d : Dev} (h : d₀.Follows d) : d₀.Follows (Dev.hMessage r d) := by
  unfold Dev.hMessage
  exact .ite h.sendMsix h.raise

theorem Dev.Follows.ringAdmit {inp c : Nat} {direct tsEvent : Bool} {port domain cls n : Nat} {data : List Byte} {d : Dev}
    (h : d₀.Follows d) :
    d₀.Follows (Dev.ringAdmit inp c direct tsEvent port domain cls n data d).2 := by
  unfold Dev.ringAdmit
  exact h.takeIn

theorem Dev.Follows.opHostTxFetch {c : Sys2Proof.Class} {x : HostDesc} {data : List Byte} {d : Dev} (h : d₀.Follows d) :
    d₀.Follows (opHostTxFetch c x data d) := by
  unfold Machine.opHostTxFetch
  exact .ite h (.ite h.emit.hHalt h.ringAdmit.units)

theorem Dev.Follows.opHostTxDone {c : Sys2Proof.Class} {d : Dev} (h : d₀.Follows d) : d₀.Follows (opHostTxDone c d) := by
  unfold Machine.opHostTxDone
  split
  · exact h
  · exact .through (fun h1 => .ite h1.count.add.hMessage h1.count.add) h.units.emit.hAdvance

theorem Dev.Follows.dropTx {t : Tx} {d : Dev} (h : d₀.Follows d) : d₀.Follows (Dev.dropTx t d) := by
  unfold Dev.dropTx
  exact h.units

theorem Dev.Follows.hostLose {t : Tx} {d : Dev} (h : d₀.Follows d) : d₀.Follows (Dev.hostLose t d) := by
  unfold Dev.hostLose
  exact h.dropTx.release.count

theorem Dev.Follows.opHostRxDone {c : Sys2Proof.Class} {x : HostDesc} {status : CplStatus} {d : Dev} (h : d₀.Follows d) :
    d₀.Follows (opHostRxDone c x status d) := by
  unfold Machine.opHostRxDone
  split
  · exact h
  · dsimp only
    split
    · exact h.hostLose.hHalt
    · exact h.writeFailed.emit.hostLose.hHalt
    · refine .through (fun h1 => .ite h1.hMessage h1) (.add (.count (.release (.dropTx (.hAdvance ?_)))))
      split
      · exact h.emit.emit
      · exact h.emit

theorem Dev.Follows.opHostResume {i : Initiator} {tx : Bool} {c : Sys2Proof.Class} {d : Dev} (h : d₀.Follows d) :
    d₀.Follows (opHostResume i tx c d) := by
  unfold Machine.opHostResume
  exact .access (fun _ h1 => .ite h1 h1.put.put) h

theorem Dev.Follows.ringsLost {rings : List Nat} {d : Dev} (h : d₀.Follows d) : d₀.Follows (Dev.ringsLost rings d) := by
  unfold Dev.ringsLost
  refine .each (fun _ _ h1 => .ite h1.hHalt.units (.ite ?_ h1.hHalt)) h
  split
  · exact h1.hHalt.hostLose
  · exact h1.hHalt

theorem Dev.Follows.readFails {r : OutRead} {cause : Nat} {d : Dev} (h : d₀.Follows d) : d₀.Follows (Dev.readFails r cause d) := by
  unfold Dev.readFails
  exact .ite h.emit (.ite (.each (fun _ _ h1 => .ite h1 h1.put.put.put.raise) h) h)

theorem Dev.Follows.readsLost {d : Dev} (h : d₀.Follows d) : d₀.Follows d.readsLost := by
  unfold Dev.readsLost
  refine .each (fun _ _ h1 => ?_) h.units
  split
  · exact h1.cancel.readFails
  · exact h1

theorem Dev.Follows.hostGone {d : Dev} (h : d₀.Follows d) : d₀.Follows d.hostGone := by
  unfold Dev.hostGone
  exact .ite h.ringsLost (.ite h.ringsLost.drainOn h.ringsLost.armIn)

theorem Dev.Follows.hostBack {d : Dev} (h : d₀.Follows d) : d₀.Follows d.hostBack := by
  unfold Dev.hostBack
  exact .ite h (.flushMsix (.drainOff (.cancel (.each (fun _ _ h1 => .ite h1.put.put h1) h))))

theorem Dev.Follows.opHostHold {d : Dev} (h : d₀.Follows d) : d₀.Follows (opHostHold d) := by
  unfold Machine.opHostHold
  exact .onTimer (fun _ h1 => h1.drainOn) h

theorem Dev.Follows.pcieDown {d : Dev} (h : d₀.Follows d) : d₀.Follows d.pcieDown := by
  unfold Dev.pcieDown
  exact .ite h h.put.put.put.count.raise.readsLost

theorem Dev.Follows.opPcieUp {gen width : Nat} {d : Dev} (h : d₀.Follows d) : d₀.Follows (opPcieUp gen width d) := by
  unfold Machine.opPcieUp
  exact .ite h h.put.put.put.raise.hostBack

theorem Dev.Follows.opPcieDown {d : Dev} (h : d₀.Follows d) : d₀.Follows (opPcieDown d) := by
  unfold Machine.opPcieDown
  exact .ite h.pcieDown.hostGone h

theorem Dev.Follows.opPcieConfig {bme d3 msixEn fmask : Bool} {d : Dev} (h : d₀.Follows d) :
    d₀.Follows (opPcieConfig bme d3 msixEn fmask d) := by
  unfold Machine.opPcieConfig
  exact .ite h (.through (fun h1 => .ite h1.units.readsLost.hostGone h1.units.hostBack.flushMsix) h.put.put.put)

theorem Dev.Follows.hbrReset {d : Dev} (h : d₀.Follows d) : d₀.Follows d.hbrReset := by
  unfold Dev.hbrReset
  exact .semGone (.each (fun _ _ h1 => h1.cancel.cancel) h.ringsLost.readsLost.units)

theorem Dev.Follows.cfgReset {d : Dev} (h : d₀.Follows d) : d₀.Follows d.cfgReset := by
  unfold Dev.cfgReset
  exact h.put.put.put.units

theorem Dev.Follows.hostChoice {own : Nat} {d : Dev} {r : Nat × Nat × Dev} (h : d₀.Follows d) (he : d.hostChoice own = some r) :
    d₀.Follows r.2.2 := by
  refine .highest (fun c x hx => ?_) he
  dsimp only at hx
  split at hx
  · exact h.drrTake hx
  · cases hx

theorem Dev.Follows.pickHost {err : Option VaultErr} {own : Nat} {d0 : Dev} (h : d₀.Follows d0) :
    d₀.Follows (Dev.pickHost err own d0) := by
  unfold Dev.pickHost
  refine .ite ?_ ?_
  · split
    · next h1 => exact .dropHead (fun _ h2 => h2.countDrain) (.highest (fun _ _ h2 => h.toPick.drrTake h2) h1)
    · exact h
  · split
    · exact h
    · next _ _ t h1 =>
      have ht : d₀.Follows t := h.toPick.hostChoice h1
      split
      · exact h
      · refine .ite ht.agedOut ?_
        split
        · exact h
        · refine .ite (.dropHead (fun _ h2 => h2.count) ht) ?_
          split
          · next h2 => exact ht.meetErr.ofSnd h2
          · next h2 => exact (ht.meetErr.ofSnd h2).popVoq.units

theorem Dev.Follows.wrTcm {off : Nat} {bs : List Byte} {d : Dev} (h : d₀.Follows d) : d₀.Follows (Dev.wrTcm off bs d) := by
  unfold Dev.wrTcm
  split
  · exact h
  · exact .each (fun _ _ h1 => .ite h1.wrByte.wrByte h1.wrByte) h

theorem Dev.Follows.opBpTxFetch {c : Sys2Proof.Class} {x : BpDesc} {data : List Byte} {d : Dev} (h : d₀.Follows d) :
    d₀.Follows (opBpTxFetch c x data d) := by
  unfold Machine.opBpTxFetch
  exact .ite h h.ringAdmit.wrTcm.put.raise

theorem Dev.Follows.pickBrace {err : Option VaultErr} {bp : Option BpDesc} {d0 : Dev} (h : d₀.Follows d0) :
    d₀.Follows (Dev.pickBrace err bp d0) := by
  unfold Dev.pickBrace
  dsimp only
  split
  · exact h
  · refine .ite h ?_
    split
    · exact h
    · next _ _ t h1 =>
      have ht : d₀.Follows t := .highest (fun _ _ h2 => h.toPick.drrTake h2) h1
      split
      · exact h
      · refine .ite ht.agedOut ?_
        split
        · exact h
        · refine .ite (.dropHead (fun _ h2 => h2.count) ht) ?_
          split
          · next h2 => exact ht.meetErr.ofSnd h2
          · next h2 => exact (ht.meetErr.ofSnd h2).popVoq.wrTcm.wrTcm.put.release.raise

end Sys2Proof.Machine
end

section
/-!
PROOF. The canonical form, the time and the outputs through the operations of Machine/Bus.lean: the CAN and LIN channels.
-/

namespace Sys2Proof.Machine

variable {d₀ : Dev}

theorem Dev.Follows.takeHead {q : Nat} {d : Dev} (h : d₀.Follows d) : d₀.Follows (Dev.takeHead q d) := by
  unfold Dev.takeHead
  exact h.setVoq.units.cancel.newHead

theorem Dev.Follows.endDraw {x : Draw} {d : Dev} (h : d₀.Follows d) : d₀.Follows (Dev.endDraw x d) := by
  unfold Dev.endDraw
  exact h.units.freeSlip.release

theorem Dev.Follows.undraw {l : List Draw} {d : Dev} (h : d₀.Follows d) : d₀.Follows (Dev.undraw l d) := by
  unfold Dev.undraw
  exact .each (fun _ _ h1 => h1.setVoq.newHead) h.units

theorem Dev.Follows.dropDraw {count : Dev → Dev} {x : Draw} {d : Dev} (hf : ∀ (t : Dev), d₀.Follows t → d₀.Follows (count t))
    (h : d₀.Follows d) :
    d₀.Follows (Dev.dropDraw count x d) := by
  unfold Dev.dropDraw
  exact .endDraw (hf _ h)

theorem Dev.Follows.busForm {f : Frame} {d : Dev} (h : d₀.Follows d) :
    d₀.Follows (Dev.busForm f d).2 := by
  unfold Dev.busForm
  dsimp only
  split
  · exact h
  · split
    · next h5 => exact h.genCmac.ofSnd h5
    · next h6 => exact h.genCmac.ofSnd h6

theorem Dev.Follows.handOff {port : Nat} {r : BusRecord} {t : Nat × Nat} {d : Dev} (h : d₀.Follows d) :
    d₀.Follows (Dev.handOff port r t d) := by
  unfold Dev.handOff
  exact h.units

theorem Dev.Follows.opBusHandoff {p : Nat} {d : Dev} (h : d₀.Follows d) : d₀.Follows (opBusHandoff p d) := by
  unfold Machine.opBusHandoff
  split
  · exact h
  · exact h.units.admitBus

theorem Dev.Follows.setMr {ch w v : Nat} {d : Dev} (h : d₀.Follows d) : d₀.Follows (Dev.setMr ch w v d) := by
  unfold Dev.setMr
  exact h.wroteUnits.units

theorem Dev.Follows.setMrs {ch w : Nat} {l : List Nat} {d : Dev} (h : d₀.Follows d) : d₀.Follows (Dev.setMrs ch w l d) := by
  unfold Dev.setMrs
  exact .each (fun _ _ h1 => h1.setMr) h

theorem Dev.Follows.fifoShow {ch k : Nat} {d : Dev} (h : d₀.Follows d) : d₀.Follows (Dev.fifoShow ch k d) := by
  unfold Dev.fifoShow
  exact .put (.ite h.wr.wr h.wr.wr)

theorem Dev.Follows.fifoPop {ch k : Nat} {d : Dev} (h : d₀.Follows d) : d₀.Follows (Dev.fifoPop ch k d) := by
  unfold Dev.fifoPop
  exact .ite h h.units.put.fifoShow.fenceTook

theorem Dev.Follows.fifoLost {ch k : Nat} {d : Dev} (h : d₀.Follows d) : d₀.Follows (Dev.fifoLost ch k d) := by
  unfold Dev.fifoLost
  exact h.count.raise.units

theorem Dev.Follows.fifoDrop {ch k : Nat} {d : Dev} (h : d₀.Follows d) : d₀.Follows (Dev.fifoDrop ch k d) := by
  unfold Dev.fifoDrop
  exact .through (fun h1 => .ite h1 h1.units.setMr.fifoShow) h.fifoLost.fifoPop

theorem Dev.Follows.fifoPush {ch k : Nat} {r : BusRecord} {ns : Nat} {own : Bool} {d : Dev} (h : d₀.Follows d) :
    d₀.Follows (Dev.fifoPush ch k r ns own d) := by
  unfold Dev.fifoPush
  exact .ite h.fifoLost (.through (fun h1 => .ite h1.raise h1) (.fifoShow (.put (.when (fun _ h2 => h2.count) (.count (.setMrs (.units
    (.ite h.fifoDrop h))))))))

theorem Dev.Follows.fifoEmpty {ch k : Nat} {d : Dev} (h : d₀.Follows d) : d₀.Follows (Dev.fifoEmpty ch k d) := by
  unfold Dev.fifoEmpty
  exact h.add.units.put.fifoShow

theorem Dev.Follows.fifoGone {ch k : Nat} {d : Dev} (h : d₀.Follows d) : d₀.Follows (Dev.fifoGone ch k d) := by
  unfold Dev.fifoGone
  exact .each (fun _ _ h1 => h1.fenceTook) h.fifoEmpty

theorem Dev.Follows.setCanObj {ch o : Nat} {v : CanObj} {d : Dev} (h : d₀.Follows d) : d₀.Follows (Dev.setCanObj ch o v d) := by
  unfold Dev.setCanObj
  exact h.units

theorem Dev.Follows.setLockedObj {ch : Nat} {v : Option Nat} {d : Dev} (h : d₀.Follows d) : d₀.Follows (Dev.setLockedObj ch v d) := by
  unfold Dev.setLockedObj
  exact h.units

theorem Dev.Follows.objWrite {ch o : Nat} {r : BusRecord} {ns : Nat} {own : Bool} {d : Dev} (h : d₀.Follows d) :
    d₀.Follows (Dev.objWrite ch o r ns own d) := by
  unfold Dev.objWrite
  exact .raise (.setBit (.when (fun _ h1 => h1.put) (.when (fun _ h2 => h2.count.raise) (.setCanObj (.when
    (fun _ h3 => h3.count) h.setMrs)))))

theorem Dev.Follows.objRelease {ch : Nat} {d : Dev} (h : d₀.Follows d) : d₀.Follows (Dev.objRelease ch d) := by
  unfold Dev.objRelease
  split
  · exact h
  · exact h.setCanObj.setLockedObj.put

theorem Dev.Follows.mrLost {ch w : Nat} {d : Dev} (h : d₀.Follows d) :
    d₀.Follows (Dev.mrLost ch w d) := by
  unfold Dev.mrLost
  dsimp only
  split
  · exact h.count.raise
  · split
    · exact .ite h.count.raise.setMr.fifoShow.fifoShow.put h.count.raise.setMr.fifoShow.fifoShow
    · exact h.count.raise.setMr.fifoShow.fifoShow

theorem Dev.Follows.mrUe {ch w : Nat} {d : Dev} (h : d₀.Follows d) : d₀.Follows (Dev.mrUe ch w d) := by
  unfold Dev.mrUe
  exact h.mrLost.uncorrectable

theorem Dev.Follows.opMrAccess {i : Initiator} {ch : CanCh} {write : Option Word} {ue : Bool} {d : Dev} (h : d₀.Follows d) :
    d₀.Follows (opMrAccess i ch write ue d) := by
  unfold Machine.opMrAccess
  dsimp only
  split
  · exact .access (fun _ h1 => .emit (.put (.ite h1.mrUe h1))) h
  · exact .write (fun _ h2 => .ite h2.put.raise h2.setMr.put) h

theorem Dev.Follows.opRxfPop {i : Initiator} {ch : CanCh} {v : Word} {ue mism : Bool} {d : Dev} (h : d₀.Follows d) :
    d₀.Follows (opRxfPop i ch v ue mism d) := by
  unfold Machine.opRxfPop
  exact .access (fun _ h1 => .each (fun _ _ h2 => .through (fun h3 => .ite h3.fifoPop.mrUe h3.fifoPop)
    (.ite h2.fifoGone.queueReset h2)) h1) h

theorem Dev.Follows.opObjLock {i : Initiator} {ch : CanCh} {ue : Bool} {d : Dev} (h : d₀.Follows d) :
    d₀.Follows (opObjLock i ch ue d) := by
  unfold Machine.opObjLock
  exact .access (fun _ h1 => .ite h1 (.through (fun h2 => .setBit (.setLockedObj (.setCanObj (.put (.put (.put (.put (.put
    (.ite h2.mrUe h2))))))))) (.ite h1 h1.objRelease))) h

theorem Dev.Follows.opObjRelease {i : Initiator} {ch : CanCh} {d : Dev} (h : d₀.Follows d) : d₀.Follows (opObjRelease i ch d) := by
  unfold Machine.opObjRelease
  exact .access (fun _ h1 => h1.objRelease) h

theorem Dev.Follows.objsClear {ch : Nat} {d : Dev} (h : d₀.Follows d) : d₀.Follows (Dev.objsClear ch d) := by
  unfold Dev.objsClear
  exact .wr (.setLockedObj (.each (fun _ _ h1 => h1.wr) h.units))

theorem Dev.Follows.canCarve {ch : Nat} {moved : Nat → Bool} {d : Dev} (h : d₀.Follows d) : d₀.Follows (Dev.canCarve ch moved d) := by
  unfold Dev.canCarve
  exact .through (fun h1 => .ite h1.objsClear h1) (.each (fun _ _ h2 => h2.fifoGone) h)

theorem Dev.Follows.setCanCur {ch : Nat} {b : Option Bid} {d : Dev} (h : d₀.Follows d) : d₀.Follows (Dev.setCanCur ch b d) := by
  unfold Dev.setCanCur
  exact h.units.put

theorem Dev.Follows.setBids {ch : Nat} {l : List Nat} {d : Dev} (h : d₀.Follows d) : d₀.Follows (Dev.setBids ch l d) := by
  unfold Dev.setBids
  exact h.units

theorem Dev.Follows.setKept {ch k : Nat} {r : Option BusRecord} {d : Dev} (h : d₀.Follows d) : d₀.Follows (Dev.setKept ch k r d) := by
  unfold Dev.setKept
  exact h.units

theorem Dev.Follows.showFull {ch k : Nat} {d : Dev} (h : d₀.Follows d) : d₀.Follows (Dev.showFull ch k d) := by
  unfold Dev.showFull
  exact h.put

theorem Dev.Follows.canStart {ch : Nat} {d : Dev} (h : d₀.Follows d) : d₀.Follows (Dev.canStart ch d) := by
  unfold Dev.canStart
  refine .ite h ?_
  split
  · exact h
  · exact h.setCanCur

theorem Dev.Follows.canReturn {ch : Nat} {keep : Bool} {d : Dev} (h : d₀.Follows d) : d₀.Follows (Dev.canReturn ch keep d) := by
  unfold Dev.canReturn
  exact .through (fun h1 => .each (fun _ _ h2 => h2.showFull) (.ite h1 h1.setCanCur)) h.undraw.setBids

theorem Dev.Follows.canYield {ch : Nat} {d : Dev} (h : d₀.Follows d) : d₀.Follows (Dev.canYield ch d) := by
  unfold Dev.canYield
  exact .ite h.canReturn h

theorem Dev.Follows.canIdle {ch : Nat} {d : Dev} (h : d₀.Follows d) : d₀.Follows (Dev.canIdle ch d) := by
  unfold Dev.canIdle
  exact h.setCanCur.put.canYield.canStart

theorem Dev.Follows.canLaunch {ch k : Nat} {d : Dev} (h : d₀.Follows d) : d₀.Follows (Dev.canLaunch ch k d) := by
  unfold Dev.canLaunch
  dsimp only
  split
  · exact h
  · exact h.setCanCur.emit

theorem Dev.Follows.opCanTxDone {ch : CanCh} {d : Dev} (h : d₀.Follows d) : d₀.Follows (opCanTxDone ch d) := by
  unfold Machine.opCanTxDone
  split
  · exact h
  · split
    · exact h
    · extract_lets d1 d2 d3 d4
      have h2 : d₀.Follows d2 := h.emit.touch.count.put
      have h3 : d₀.Follows d3 := .ite h2.put h2
      refine Dev.Follows.canIdle (d := d4) ?_
      unfold d4
      split
      · split
        · exact .ite h3.endDraw h3.endDraw.setKept.setBids.showFull
        · exact h3
      · exact h3.setBids

theorem Dev.Follows.opCanArbLost {ch : CanCh} {d : Dev} (h : d₀.Follows d) : d₀.Follows (opCanArbLost ch d) := by
  unfold Machine.opCanArbLost
  split
  · exact h
  · exact h.setCanCur.count.canYield

theorem Dev.Follows.busOff {ch : Nat} {d : Dev} (h : d₀.Follows d) : d₀.Follows (Dev.busOff ch d) := by
  unfold Dev.busOff
  exact .through (fun h1 => .armIn (.ite h1.armIn h1)) h.put.count.raise

theorem Dev.Follows.canConfine {ch : Nat} {d : Dev} (h : d₀.Follows d) : d₀.Follows (Dev.canConfine ch d) := by
  unfold Dev.canConfine
  exact .ite h (.ite h.busOff (.ite (.ite h h.put.raise) h.put))

theorem Dev.Follows.clash {ch : Nat} {r : BusRecord} {d : Dev} (h : d₀.Follows d) : d₀.Follows (Dev.clash ch r d) := by
  unfold Dev.clash
  exact .through (fun h1 => .ite h1 h1.put.put.put) h.count.raise

theorem Dev.Follows.canRetry {ch : Nat} {b : Bid} {d : Dev} (h : d₀.Follows d) : d₀.Follows (Dev.canRetry ch b d) := by
  unfold Dev.canRetry
  dsimp only
  split
  · exact .ite h.setBids.count h.units
  · split
    · exact h
    · exact .ite (.through (fun h1 => .ite h1 h1.setBids.showFull) (.dropDraw (fun _ h2 => h2.count) h)) h.units

theorem Dev.Follows.opCanTxError {ch : CanCh} {lec : Nat} {clash exempt : Bool} {eights : Nat} {d : Dev} (h : d₀.Follows d) :
    d₀.Follows (opCanTxError ch lec clash exempt eights d) := by
  unfold Machine.opCanTxError
  split
  · exact h
  · refine .canIdle (.canConfine (.canRetry (.put ?_)))
    split
    · exact h.count.put.clash
    · exact h.count.put

theorem Dev.Follows.opCanErrorFrame {ch : CanCh} {lec eights : Nat} {d : Dev} (h : d₀.Follows d) :
    d₀.Follows (opCanErrorFrame ch lec eights d) := by
  unfold Machine.opCanErrorFrame
  exact .ite h h.count.put.put.canConfine.canIdle

theorem Dev.Follows.opBoffWait {ch : CanCh} {d : Dev} (h : d₀.Follows d) : d₀.Follows (opBoffWait ch d) := by
  unfold Machine.opBoffWait
  exact .onTimer (fun _ h1 => .ite h1.units h1) h

theorem Dev.Follows.opBoffRestart {i : Initiator} {ch : CanCh} {d : Dev} (h : d₀.Follows d) : d₀.Follows (opBoffRestart i ch d) := by
  unfold Machine.opBoffRestart
  exact .access (fun _ h1 => .ite h1.units h1) h

theorem Dev.Follows.opBoffRecovered {ch : CanCh} {d : Dev} (h : d₀.Follows d) : d₀.Follows (opBoffRecovered ch d) := by
  unfold Machine.opBoffRecovered
  exact .ite h (.through (fun h1 => .canIdle (.raise (.ite h1 h1.drainOff))) h.units.put.put.put.cancel.cancel)

theorem Dev.Follows.drainDraws {port : Nat} {d : Dev} (h : d₀.Follows d) : d₀.Follows (Dev.drainDraws port d) := by
  unfold Dev.drainDraws
  exact .each (fun _ _ h1 => .dropDraw (fun _ h2 => h2.countDrain) h1) h

theorem Dev.Follows.opBoffHold {ch : CanCh} {d : Dev} (h : d₀.Follows d) : d₀.Follows (opBoffHold ch d) := by
  unfold Machine.opBoffHold
  exact .onTimer (fun _ h1 => .ite h1 (.drainOn (.each (fun _ _ h2 => h2.showFull) h1.drainDraws.setBids))) h

theorem Dev.Follows.opTimedDispatch {ch : CanCh} {k : TimSlot} {d : Dev} (h : d₀.Follows d) : d₀.Follows (opTimedDispatch ch k d) := by
  unfold Machine.opTimedDispatch
  exact .launch (fun _ h1 => .ite h1.count (.ite h1.count (.ite h1.setBids.units.count.raise h1.setBids.units.canLaunch))) h

theorem Dev.Follows.canTake {ch q : Nat} {d : Dev} (h : d₀.Follows d) : d₀.Follows (Dev.canTake ch q d) := by
  unfold Dev.canTake
  split
  · exact h
  · split
    · exact h
    · split
      · next h1 => exact .dropHead (fun _ h2 => h2) (h.busForm.ofSnd h1)
      · next h1 =>
        have h2 := h.busForm.ofSnd h1
        refine .ite (.dropHead (fun _ h3 => h3.count) h2) ?_
        dsimp only
        split
        · exact Dev.Follows.units h2.takeHead |>.setKept.showFull
        · exact Dev.Follows.units h2.takeHead |>.canStart

theorem Dev.Follows.ownAlarm {ch : Nat} {r : BusRecord} {ns : Nat} {d : Dev} (h : d₀.Follows d) :
    d₀.Follows (Dev.ownAlarm ch r ns d) := by
  unfold Dev.ownAlarm
  exact .through (fun h1 => .ite h1 h1.put.put.put.wr64) h.count.raise

theorem Dev.Follows.recDown {ch : Nat} {d : Dev} (h : d₀.Follows d) : d₀.Follows (Dev.recDown ch d) := by
  unfold Dev.recDown
  exact .ite h.put h.units.put

theorem Dev.Follows.canAct {ch : Nat} {r : BusRecord} {t : Nat × Nat} {own : Option Bool} {a : Nat} {d : Dev} (h : d₀.Follows d) :
    d₀.Follows (Dev.canAct ch r t own a d) := by
  unfold Dev.canAct
  refine .ite h.count ?_
  extract_lets d1 o
  have h1 : d₀.Follows d1 := .ite h.count.handOff h
  split
  · exact h1.fifoPush
  · exact h1.fifoPush
  · exact .ite h1.count.objWrite h1.count
  · exact h1

theorem Dev.Follows.opCanFrameValid {ch : CanCh} {r : BusRecord} {ago : Nat} {ue : Option Nat} {d : Dev} (h : d₀.Follows d) :
    d₀.Follows (opCanFrameValid ch r ago ue d) := by
  unfold Machine.opCanFrameValid
  refine .ite h ?_
  extract_lets r' d1 d2 t own d3 d4
  have h2 : d₀.Follows d2 := h.recDown.canConfine.touch.canIdle
  have h3 : d₀.Follows d3 := .ite h2.ownAlarm h2
  have h4 : d₀.Follows d4 := by
    unfold d4
    split
    · exact h3.mrUe
    · exact h3
  exact .ite h2.count h4.count.canAct

theorem Dev.Follows.canCfgWait {ch : Nat} {d : Dev} (h : d₀.Follows d) : d₀.Follows (Dev.canCfgWait ch d) := by
  unfold Dev.canCfgWait
  exact h.units

theorem Dev.Follows.canTrxWait {ch : Nat} {d : Dev} (h : d₀.Follows d) : d₀.Follows (Dev.canTrxWait ch d) := by
  unfold Dev.canTrxWait
  exact h.units

theorem Dev.Follows.canLatch {ch k : Nat} {w : Word} {d : Dev} (h : d₀.Follows d) : d₀.Follows (Dev.canLatch ch k w d) := by
  unfold Dev.canLatch
  exact h.units

theorem Dev.Follows.opCanIdleApply {ch : CanCh} {idle : Bool} {d : Dev} (h : d₀.Follows d) : d₀.Follows (opCanIdleApply ch idle d) := by
  unfold Machine.opCanIdleApply
  exact .ite h (.ite (.ite h.put h) (.through (fun h1 => .through (fun h2 => .ite h2.units.put.put h2.units.put.canStart) (.cfgInEffect
    (.ite h1.canLatch.canLatch h1))) (.ite h.canLatch h)))

theorem Dev.Follows.opCanIntegrated {ch : CanCh} {d : Dev} (h : d₀.Follows d) : d₀.Follows (opCanIntegrated ch d) := by
  unfold Machine.opCanIntegrated
  exact .ite h h.put.put.canStart

theorem Dev.Follows.isoCan {ch : Nat} {d : Dev} (h : d₀.Follows d) : d₀.Follows (Dev.isoCan ch d) := by
  unfold Dev.isoCan
  exact .ite h h.canReturn.isoStart.drainOn

theorem Dev.Follows.canReset {ch : Nat} {d : Dev} (h : d₀.Follows d) : d₀.Follows (Dev.canReset ch d) := by
  unfold Dev.canReset
  exact .through (fun h1 => .cancel (.cancel (.put (.put (.put (.put (.ite h1.units h1.units.drainOff))))))) (.objsClear (.each
    (fun _ _ h2 => h2.fifoEmpty) (.each (fun _ _ h3 => h3.setKept.showFull) h.canReturn)))

theorem Dev.Follows.setLinBuf {ch id : Nat} {r : Option BusRecord} {d : Dev} (h : d₀.Follows d) :
    d₀.Follows (Dev.setLinBuf ch id r d) := by
  unfold Dev.setLinBuf
  exact h.units

theorem Dev.Follows.setLinAwait {ch : Nat} {x : Option (Nat × Bool)} {d : Dev} (h : d₀.Follows d) :
    d₀.Follows (Dev.setLinAwait ch x d) := by
  unfold Dev.setLinAwait
  dsimp only
  split
  · exact h.units.arm
  · exact h.units.cancel

theorem Dev.Follows.linTakesUp {ch n : Nat} {d : Dev} (h : d₀.Follows d) : d₀.Follows (Dev.linTakesUp ch n d) := by
  unfold Dev.linTakesUp
  exact h.units

theorem Dev.Follows.linUnanswered {ch : Nat} {d : Dev} (h : d₀.Follows d) : d₀.Follows (Dev.linUnanswered ch d) := by
  unfold Dev.linUnanswered
  split
  · exact h
  · exact h.setLinAwait.count.raise

theorem Dev.Follows.pubShow {ch id : Nat} {d : Dev} (h : d₀.Follows d) : d₀.Follows (Dev.pubShow ch id d) := by
  unfold Dev.pubShow
  exact h.setBit

theorem Dev.Follows.linTake {ch q : Nat} {d : Dev} (h : d₀.Follows d) : d₀.Follows (Dev.linTake ch q d) := by
  unfold Dev.linTake
  split
  · exact h
  · split
    · exact h
    · split
      · next h1 => exact .dropHead (fun _ h2 => h2) (h.busForm.ofSnd h1)
      · next h3 =>
          exact .ite (.dropHead (fun _ h4 => h4.count) (h.busForm.ofSnd h3)) (.pubShow (.when (fun _ h5 => h5.setLinBuf)
            (h.busForm.ofSnd h3).takeHead.units))

theorem Dev.Follows.linHeader {ch id : Nat} {event : Bool} {d : Dev} (h : d₀.Follows d) :
    d₀.Follows (Dev.linHeader ch id event d) := by
  have hu : d₀.Follows (d.linUnanswered ch) := h.linUnanswered
  unfold Dev.linHeader
  extract_lets d1 mine d2
  split
  · exact hu.setLinAwait
  · have h2 : d₀.Follows d2 := by
      unfold d2
      clear_value mine
      split
      · exact hu.setLinBuf
      · exact hu
    split
    · exact h2
    · extract_lets r d3 d4
      have h3 : d₀.Follows d3 := h2.count.linTakesUp.touch
      have h4 : d₀.Follows d4 := h3.emit
      clear_value mine
      split
      · exact h4.endDraw.pubShow
      · exact h4
  · exact hu

theorem Dev.Follows.opLinHeader {ch : LinCh} {brk baud pid : Nat} {d : Dev} (h : d₀.Follows d) :
    d₀.Follows (opLinHeader ch brk baud pid d) := by
  unfold Machine.opLinHeader
  exact .ite h (.ite h.put.count.raise (.ite h.put.put.touch.linHeader h.put.put.touch))

theorem Dev.Follows.linShow {ch : Nat} {d : Dev} (h : d₀.Follows d) : d₀.Follows (Dev.linShow ch d) := by
  unfold Dev.linShow
  exact .each (fun _ _ h1 => h1.wr) h.put

theorem Dev.Follows.setLinFifo {ch : Nat} {l : List (List Word)} {d : Dev} (h : d₀.Follows d) : d₀.Follows (Dev.setLinFifo ch l d) := by
  unfold Dev.setLinFifo
  exact h.units.linShow

theorem Dev.Follows.linPush {ch : Nat} {r : BusRecord} {ns : Nat} {d : Dev} (h : d₀.Follows d) : d₀.Follows (Dev.linPush ch r ns d) := by
  unfold Dev.linPush
  exact .ite h.units.count.raise (.through (fun h1 => .ite h1.raise h1) h.units.setLinFifo)

theorem Dev.Follows.opLinResponse {ch : LinCh} {data : List Byte} {cksOk framingOk : Bool} {ago : Nat} {d : Dev} (h : d₀.Follows d) :
    d₀.Follows (opLinResponse ch data cksOk framingOk ago d) := by
  unfold Machine.opLinResponse
  split
  · exact h
  · exact h
  · exact .ite h.touch (.through (fun h1 => .ite h1.count (.ite (.through (fun h2 => .ite h2.count.raise h2) h1.count.raise)
      (.ite h1.count (.through (fun h3 => .ite h3.linPush h3) h1.count.handOff)))) h.setLinAwait.touch)

theorem Dev.Follows.opLinNoResponse {ch : LinCh} {d : Dev} (h : d₀.Follows d) : d₀.Follows (opLinNoResponse ch d) := by
  unfold Machine.opLinNoResponse
  exact .onTimer (fun _ h1 => h1.linUnanswered) h

theorem Dev.Follows.linFifoGone {ch : Nat} {d : Dev} (h : d₀.Follows d) : d₀.Follows (Dev.linFifoGone ch d) := by
  unfold Dev.linFifoGone
  exact .each (fun _ _ h1 => h1.fenceTook) h.setLinFifo.add

theorem Dev.Follows.opLinPop {i : Initiator} {ch : LinCh} {mism : Bool} {d : Dev} (h : d₀.Follows d) :
    d₀.Follows (opLinPop i ch mism d) := by
  unfold Machine.opLinPop
  refine .access (fun _ h1 => ?_) h
  extract_lets d2
  have h2 : d₀.Follows d2 := .ite h1.linFifoGone.queueReset h1
  split
  · exact h2
  · exact h2.setLinFifo.fenceTook

theorem Dev.Follows.opLinSlot {ch : LinCh} {bitErr : Bool} {d : Dev} (h : d₀.Follows d) :
    d₀.Follows (opLinSlot ch bitErr d) := by
  unfold Machine.opLinSlot
  split
  · exact h
  · refine .ite h (.ite h.atNs.setSchRun (.ite h ?_))
    extract_lets d1 d2 d3
    have h2 : d₀.Follows d2 := h.atNs.setSchRun
    have h3 : d₀.Follows d3 := .ite h2.raise h2
    refine .ite h.atNs.setSchRun ?_
    split
    · exact h3
    · exact .ite h3.count (.through (fun h4 => .ite h4.count.raise h4.linHeader) h3.linUnanswered.count.touch.emit.linTakesUp)

theorem Dev.Follows.opLinSchRead {i : Initiator} {ch : LinCh} {d : Dev} (h : d₀.Follows d) : d₀.Follows (opLinSchRead i ch d) := by
  unfold Machine.opLinSchRead
  exact .window (fun _ h1 => h1.put.put.put) h

theorem Dev.Follows.opLinSchWrite {i : Initiator} {ch : LinCh} {d : Dev} (h : d₀.Follows d) : d₀.Follows (opLinSchWrite i ch d) := by
  unfold Machine.opLinSchWrite
  exact .write (fun _ h1 => .window (fun _ h2 => h2.units) h1.put) h

theorem Dev.Follows.linReturn {ch : Nat} {d : Dev} (h : d₀.Follows d) : d₀.Follows (Dev.linReturn ch d) := by
  unfold Dev.linReturn
  exact .each (fun _ _ h1 => h1.setLinBuf.pubShow) h.undraw

theorem Dev.Follows.isoLin {ch : Nat} {d : Dev} (h : d₀.Follows d) : d₀.Follows (Dev.isoLin ch d) := by
  unfold Dev.isoLin
  exact .ite h h.linReturn.isoStart.drainOn

theorem Dev.Follows.linReset {ch : Nat} {d : Dev} (h : d₀.Follows d) : d₀.Follows (Dev.linReset ch d) := by
  unfold Dev.linReset
  exact .put (.setLinFifo (.units (.add (.each (fun _ _ h1 => h1.setLinBuf) h.linReturn.setLinAwait.setSchRun))))

theorem Dev.Follows.stageDone {ch : Nat} {d : Dev} (h : d₀.Follows d) : d₀.Follows (Dev.stageDone ch d) := by
  unfold Dev.stageDone
  split
  · exact h
  · exact h.at_.canStart

theorem Dev.Follows.busChoice {out : Nat} {d : Dev} {r : Nat × Nat × Dev} (h : d₀.Follows d) (he : d.busChoice out = some r) :
    d₀.Follows r.2.2 := .highest (fun _ _ hx => h.drrTake hx) he

theorem Dev.Follows.pickBus {out : Nat} {err : Option VaultErr} {d0 : Dev} (h : d₀.Follows d0) :
    d₀.Follows (Dev.pickBus out err d0) := by
  unfold Dev.pickBus
  dsimp only
  split
  · exact .ite h.stageDone h
  · next h1 =>
    have ht := h.toPick.busChoice h1
    split
    · exact ht
    · refine .ite ht.agedOut ?_
      split
      · exact ht
      · refine .ite (.dropHead (fun _ h2 => h2.countDrain) ?_) ?_
        · split
          · exact .ite ht ht.count
          · exact ht
        · split
          · next h2 => exact ht.meetErr.ofSnd h2
          · next h2 =>
            have hm := ht.meetErr.ofSnd h2
            exact .ite (.dropHead (fun _ h3 => h3) hm) (.ite hm.canTake hm.linTake)

end Sys2Proof.Machine
end

section
/-!
PROOF. The canonical form, the time and the outputs through the operations of Machine/Kalow.lean: Kalow.
-/

namespace Sys2Proof.Machine

variable {d₀ : Dev}

theorem Dev.Follows.setSig {s : Nat} {v : Signal} {d : Dev} (h : d₀.Follows d) : d₀.Follows (Dev.setSig s v d) := by
  unfold Dev.setSig
  exact h.units

theorem Dev.Follows.putSig {s v tsrc : Nat} {unv : Bool} {d : Dev} (h : d₀.Follows d) : d₀.Follows (Dev.putSig s v tsrc unv d) := by
  unfold Dev.putSig
  exact h.setSig

theorem Dev.Follows.motion {d : Dev} (h : d₀.Follows d) : d₀.Follows d.motion := by
  unfold Dev.motion
  exact .ite h.put.put (.ite h.put.put (.ite h.put.put (.ite h.put.put h.put)))

theorem Dev.Follows.storeLost {s : Nat} {d : Dev} (h : d₀.Follows d) : d₀.Follows (Dev.storeLost s d) := by
  unfold Dev.storeLost
  exact h.setSig.motion.count.raise

theorem Dev.Follows.storeUe {s : Nat} {d : Dev} (h : d₀.Follows d) : d₀.Follows (Dev.storeUe s d) := by
  unfold Dev.storeUe
  exact h.storeLost.uncorrectable

theorem Dev.Follows.descLost {d : Dev} (h : d₀.Follows d) : d₀.Follows d.descLost := by
  unfold Dev.descLost
  exact h.count.raise

theorem Dev.Follows.descUe {m i : Nat} {d : Dev} (h : d₀.Follows d) : d₀.Follows (Dev.descUe m i d) := by
  unfold Dev.descUe
  exact h.descLost.uncorrectable

theorem Dev.Follows.trigger {l : List Nat} {d : Dev} (h : d₀.Follows d) : d₀.Follows (Dev.trigger l d) := by
  unfold Dev.trigger
  exact h.units

theorem Dev.Follows.commitSigs {recs : NMap Nat} {writes : List (Nat × Nat)} {tsrc : Nat} {unv : Bool} {rx : Option Nat} {d : Dev}
    (h : d₀.Follows d) :
    d₀.Follows (Dev.commitSigs recs writes tsrc unv rx d) := by
  unfold Dev.commitSigs
  exact .motion (.trigger (.each (fun _ _ h1 => h1.putSig) h))

theorem Dev.Follows.ageField {x : Signal} {t type len : Nat} {d : Dev} (h : d₀.Follows d) :
    d₀.Follows (Dev.ageField x t type len d).2 := by
  unfold Dev.ageField
  dsimp only
  split
  · exact h
  · exact .iteSnd h h.units

theorem Dev.Follows.packValue {p : Nat} {pl : KPlan} {at_ t : Nat} {d : Dev} (h : d₀.Follows d) :
    d₀.Follows (Dev.packValue p pl at_ t d).2 := by
  unfold Dev.packValue
  dsimp only
  split
  · exact h
  · exact h
  · exact h.ageField
  · exact .iteSnd h (.ite h h.count.raise)

theorem Dev.Follows.packImage {lay : Nat} {pl : KPlan} {at_ t : Nat} {d : Dev} (h : d₀.Follows d) :
    d₀.Follows (d.packImage lay pl at_ t).2 := by
  unfold Dev.packImage
  exact .foldlSnd (fun _ _ h1 => h1.packValue) h

theorem Dev.Follows.sendPdu {p : KPack} {d : Dev} (h : d₀.Follows d) : d₀.Follows (Dev.sendPdu p d) := by
  unfold Dev.sendPdu
  exact h.units

theorem Dev.Follows.packAt {r : Nat} {ue : KlwUe} {at_ t frac : Nat} {d : Dev} (h : d₀.Follows d) :
    d₀.Follows (Dev.packAt r ue at_ t frac d) := by
  unfold Dev.packAt
  refine .through (fun h1 => .ite h1.units.descUe (.ite h1.units.descUe h1.units.units.sendPdu)) ?_
  split
  · exact h.storeUe
  · exact h

theorem Dev.Follows.bodyOf {p : KPack} {d : Dev} (h : d₀.Follows d) : d₀.Follows (Dev.bodyOf p d).2.2 := by
  unfold Dev.bodyOf
  split
  · exact h
  · dsimp only
    split <;> exact h.packImage

theorem Dev.Follows.pack {r : Nat} {ue : KlwUe} {d : Dev} (h : d₀.Follows d) : d₀.Follows (Dev.pack r ue d) := by
  unfold Dev.pack
  exact h.packAt

theorem Dev.Follows.packDue {r : Nat} {ue : KlwUe} {t : Nat} {d : Dev} (h : d₀.Follows d) : d₀.Follows (Dev.packDue r ue t d) := by
  unfold Dev.packDue
  exact h.packAt

theorem Dev.Follows.deferPack {r : Nat} {d : Dev} (h : d₀.Follows d) : d₀.Follows (Dev.deferPack r d) := by
  unfold Dev.deferPack
  exact .ite h.raise.count h.raise.units

theorem Dev.Follows.opKalowTriggered {r : Nat} {ue : KlwUe} {d : Dev} (h : d₀.Follows d) :
    d₀.Follows (opKalowTriggered r ue d) := by
  unfold Machine.opKalowTriggered
  split
  · exact h
  · extract_lets rest v d1 last
    have h1 : d₀.Follows d1 := h.units
    refine .ite h1 (.ite h1.deferPack (.ite h1.count (.ite h1.count ?_)))
    split
    · exact h1.units
    · exact .ite h1.deferPack h1.at_.pack

theorem Dev.Follows.opKalowPeriodic {r : Nat} {ue : KlwUe} {d : Dev} (h : d₀.Follows d) : d₀.Follows (opKalowPeriodic r ue d) := by
  unfold Machine.opKalowPeriodic
  exact .launch (fun _ h1 => .ite h1 (.ite h1.deferPack h1.packDue)) h

theorem Dev.Follows.opKalowPending {r : Nat} {ue : KlwUe} {d : Dev} (h : d₀.Follows d) : d₀.Follows (opKalowPending r ue d) := by
  unfold Machine.opKalowPending
  split
  · exact h
  · exact .ite h.atNs.units (.ite h.atNs.units.deferPack h.atNs.units.packDue)

theorem Dev.Follows.opKalowDeferred {r : Nat} {ue : KlwUe} {d : Dev} (h : d₀.Follows d) : d₀.Follows (opKalowDeferred r ue d) := by
  unfold Machine.opKalowDeferred
  exact .ite h h.pack

theorem Dev.Follows.addJob {len : Nat} {j : KJob} {d : Dev} (h : d₀.Follows d) : d₀.Follows (Dev.addJob len j d) := by
  unfold Dev.addJob
  exact h.units

theorem Dev.Follows.unpackJob {f : Frame} {lay : Nat} {pdu : List Byte} {unv : Bool} {rx : Option Nat} {d : Dev} (h : d₀.Follows d) :
    d₀.Follows (Dev.unpackJob f lay pdu unv rx d) := by
  unfold Dev.unpackJob
  exact h.add.units.addJob

theorem Dev.Follows.openRecord {data : List Byte} {d : Dev} (h : d₀.Follows d) : d₀.Follows (Dev.openRecord data d).2 := by
  unfold Dev.openRecord
  exact h.units

theorem Dev.Follows.mapMsg {x : Nat} {f : Frame} {unv : Bool} {bad : Option Bool} {m : Msg} {d : Dev} (h : d₀.Follows d) :
    d₀.Follows (Dev.mapMsg x f unv bad m d) := by
  unfold Dev.mapMsg
  dsimp only
  split
  · exact h.count
  · refine .through (fun h1 => .ite (.addJob (.iteSnd h1 h1.openRecord)) h1) (.ite ?_ h)
    split
    · exact h.descUe
    · exact h.descUe
    · exact h.unpackJob

theorem Dev.Follows.contErr {d : Dev} (h : d₀.Follows d) : d₀.Follows d.contErr := by
  unfold Dev.contErr
  exact h.count.raise

theorem Dev.Follows.acfAll {x : Nat} {f : Frame} {unv : Bool} {ue : KlwUe} {k n : Nat} {bs : List Byte} {d : Dev} (h : d₀.Follows d) :
    d₀.Follows (d.acfAll x f unv ue k n bs) := by
  induction k generalizing n bs d with
  | zero => exact h
  | succ k ih =>
    unfold Dev.acfAll
    refine .ite h (.ite h.contErr (ih ?_))
    dsimp only
    split
    · exact h.count
    · exact h.mapMsg

theorem Dev.Follows.udpAll {x : Nat} {f : Frame} {unv : Bool} {ue : KlwUe} {k n : Nat} {bs : List Byte} {d : Dev} (h : d₀.Follows d) :
    d₀.Follows (d.udpAll x f unv ue k n bs) := by
  induction k generalizing n bs d with
  | zero => exact h
  | succ k ih =>
    unfold Dev.udpAll
    exact .ite h (.ite h.contErr (ih h.mapMsg))

theorem Dev.Follows.consume {f : Frame} {ue : KlwUe} {d : Dev} (h : d₀.Follows d) :
    d₀.Follows (Dev.consume f ue d) := by
  unfold Dev.consume
  split
  · exact h.count
  · refine .ite h.descUe (.ite h.count ?_)
    extract_lets pend d1
    have h1 : d₀.Follows d1 := .ite h.count h
    refine .ite h.count ?_
    split
    · exact .ite h1.descUe h1.unpackJob
    · split
      · exact h1.contErr
      · exact h1.acfAll
    · exact h1.udpAll
    · split
      · exact h1.count
      · exact .ite h1.count h1.addJob

theorem Dev.Follows.opKalowPick {ue : KlwUe} {err : Option VaultErr} {d0 : Dev} (h : d₀.Follows d0) :
    d₀.Follows (opKalowPick ue err d0) := by
  unfold Machine.opKalowPick
  refine .ite h ?_
  dsimp only
  split
  · exact h
  · next _ _ t h1 =>
    have ht : d₀.Follows t := .highest (fun _ _ h2 => h.toPick.drrTake h2) h1
    split
    · exact ht
    · refine .ite ht.holdDiscard ?_
      split
      · exact ht
      · split
        · next h2 => exact ht.meetErr.ofSnd h2
        · next h2 => exact .dropHead (fun _ h3 => h3) (ht.meetErr.ofSnd h2)
        · next h2 => exact (ht.meetErr.ofSnd h2).consume.popVoq.release

theorem Dev.Follows.sendOpen {r : Nat} {d : Dev} (h : d₀.Follows d) : d₀.Follows (Dev.sendOpen r d) := by
  unfold Dev.sendOpen
  split
  · exact h
  · exact h.units.cancel.sendPdu

theorem Dev.Follows.append {recs : NMap Nat} {r bus tsrc : Nat} {q : BusRecord} {d : Dev} (h : d₀.Follows d) :
    d₀.Follows (Dev.append recs r bus tsrc q d) := by
  unfold Dev.append
  exact .ite h.count (.through (fun h1 => .ite h1.units.sendOpen (.ite h1.units.armIn h1.units)) (.ite h.sendOpen h))

theorem Dev.Follows.opKalowAgg {r : Nat} {d : Dev} (h : d₀.Follows d) : d₀.Follows (opKalowAgg r d) := by
  unfold Machine.opKalowAgg
  exact .onTimer (fun _ h1 => h1.sendOpen) h

theorem Dev.Follows.runJob {j : KJob} {d : Dev} (h : d₀.Follows d) : d₀.Follows (Dev.runJob j d) := by
  unfold Dev.runJob
  dsimp only
  split
  · split
    · exact .append (.ite (.commitSigs (.ite h.units.count h)) (.ite h.units.count h))
    · exact .ite (.commitSigs (.ite h.units.count h)) (.ite h.units.count h)
  · refine .units ?_
    split
    · exact .append (.ite (.commitSigs (.ite h.units.count h)) (.ite h.units.count h))
    · exact .ite (.commitSigs (.ite h.units.count h)) (.ite h.units.count h)

theorem Dev.Follows.tryJob {j : KJob} {d : Dev} (h : d₀.Follows d) : d₀.Follows (Dev.tryJob j d) := by
  unfold Dev.tryJob
  exact .ite h.units.count h.units.runJob

theorem Dev.Follows.ownTick {j : KJob} {d : Dev} (h : d₀.Follows d) : d₀.Follows (Dev.ownTick j d) := by
  unfold Dev.ownTick
  exact .ite h.at_ h

theorem Dev.Follows.opKalowCommit {ue : Option Nat} {d : Dev} (h : d₀.Follows d) : d₀.Follows (opKalowCommit ue d) := by
  unfold Machine.opKalowCommit
  split
  · exact h
  · extract_lets d1 d2
    refine Dev.Follows.tryJob (d := d2) ?_
    unfold d2
    split
    · exact h.at_.ownTick.storeUe
    · exact h.at_.ownTick

theorem Dev.Follows.unhold {d : Dev} (h : d₀.Follows d) : d₀.Follows d.unhold := by
  unfold Dev.unhold
  exact h.units

theorem Dev.Follows.opKalowHandoff {d : Dev} (h : d₀.Follows d) :
    d₀.Follows (opKalowHandoff d) := by
  unfold Machine.opKalowHandoff
  split
  · exact h
  · dsimp only
    exact .unhold (.takeIn (.when (fun _ h1 => h1.count) h.at_.bodyOf.units))

theorem Dev.Follows.timeOut {s : Nat} {d : Dev} (h : d₀.Follows d) : d₀.Follows (Dev.timeOut s d) := by
  unfold Dev.timeOut
  exact .ite h (.through (fun h1 => .motion (.ite h1.raise h1.raise.trigger)) (.ite h.setSig.count h.setSig.count.put.put))

theorem Dev.Follows.opKalowTimeout {d : Dev} (h : d₀.Follows d) : d₀.Follows (opKalowTimeout d) := by
  unfold Machine.opKalowTimeout
  exact .onPeriod (fun _ h1 => .each (fun _ _ h2 => h2.timeOut) h1.put.units) h

theorem Dev.Follows.opStoreRead {i : Initiator} {ue : Bool} {d : Dev} (h : d₀.Follows d) : d₀.Follows (opStoreRead i ue d) := by
  unfold Machine.opStoreRead
  exact .access (fun _ h1 => .wr64 (.put (.put (.put (.wr64 (.ite h1.storeUe h1)))))) h

theorem Dev.Follows.opStoreForce {i : Initiator} {d : Dev} (h : d₀.Follows d) : d₀.Follows (opStoreForce i d) := by
  unfold Machine.opStoreForce
  exact .access (fun _ h1 => .ite h1.units.count h1.commitSigs) h

theorem Dev.Follows.dumpStart {d : Dev} (h : d₀.Follows d) : d₀.Follows d.dumpStart := by
  unfold Dev.dumpStart
  exact h.wr64.put.units

theorem Dev.Follows.dumpArm {d : Dev} (h : d₀.Follows d) : d₀.Follows d.dumpArm := by
  unfold Dev.dumpArm
  exact .ite h h.armIn

theorem Dev.Follows.opDumpGo {i : Initiator} {d : Dev} (h : d₀.Follows d) : d₀.Follows (opDumpGo i d) := by
  unfold Machine.opDumpGo
  exact .access (fun _ h1 => .ite h1 h1.dumpStart.dumpArm) h

theorem Dev.Follows.opDumpPeriod {d : Dev} (h : d₀.Follows d) : d₀.Follows (opDumpPeriod d) := by
  unfold Machine.opDumpPeriod
  exact .onTimer (fun _ h1 => .ite h1.dumpArm h1.dumpArm.dumpStart) h

theorem Dev.Follows.opDumpDone {ue : Option Nat} {d : Dev} (h : d₀.Follows d) : d₀.Follows (opDumpDone ue d) := by
  unfold Machine.opDumpDone
  split
  · exact h
  · refine .unhold ?_
    split
    · exact h.put.units.storeUe.put.put.raise
    · exact h.put.units.fabWrite.raise

theorem Dev.Follows.opDumpResume {i : Initiator} {d : Dev} (h : d₀.Follows d) : d₀.Follows (opDumpResume i d) := by
  unfold Machine.opDumpResume
  exact .access (fun _ h1 => h1.put.put) h

theorem Dev.Follows.opKlwRead {i : Initiator} {staged : Bool} {d : Dev} (h : d₀.Follows d) : d₀.Follows (opKlwRead i staged d) := by
  unfold Machine.opKlwRead
  exact .window (fun _ h1 => h1.loadWords) h

theorem Dev.Follows.opKlwStage {i : Initiator} {d : Dev} (h : d₀.Follows d) : d₀.Follows (opKlwStage i d) := by
  unfold Machine.opKlwStage
  exact .window (fun _ h1 => h1.units) h

theorem Dev.Follows.klwCommit {d : Dev} (h : d₀.Follows d) : d₀.Follows d.klwCommit := by
  unfold Dev.klwCommit
  exact .units (.each (fun _ _ h1 => .units (.when (fun _ h2 => h2.units) h1)) h)

theorem Dev.Follows.opKlwSlotRead {i : Initiator} {d : Dev} (h : d₀.Follows d) : d₀.Follows (opKlwSlotRead i d) := by
  unfold Machine.opKlwSlotRead
  exact .window (fun _ h1 => h1.wr64.wr.wr) h

theorem Dev.Follows.opKlwSlotWrite {i : Initiator} {d : Dev} (h : d₀.Follows d) : d₀.Follows (opKlwSlotWrite i d) := by
  unfold Machine.opKlwSlotWrite
  exact .window (fun _ h1 => h1.winSlot) h

theorem Dev.Follows.klwReset {d : Dev} (h : d₀.Follows d) : d₀.Follows d.klwReset := by
  unfold Dev.klwReset
  exact h.add.units.units

theorem Dev.Follows.dumpReset {d : Dev} (h : d₀.Follows d) : d₀.Follows d.dumpReset := by
  unfold Dev.dumpReset
  exact h.put.units.cancel

end Sys2Proof.Machine
end

section
/-!
PROOF. The canonical form, the time and the outputs through the operations of Machine/Voholt.lean: the Voholt links.
-/

namespace Sys2Proof.Machine

variable {d₀ : Dev}

theorem Dev.Follows.setInq {n : Nat} {l : List VhFrame} {d : Dev} (h : d₀.Follows d) : d₀.Follows (Dev.setInq n l d) := by
  unfold Dev.setInq
  exact h.units

theorem Dev.Follows.holdO {n : Nat} {on : Bool} {d : Dev} (h : d₀.Follows d) : d₀.Follows (Dev.holdO n on d) := by
  unfold Dev.holdO
  exact .ite h (.ite h.put.count.raise h.put)

theorem Dev.Follows.fillChanged {n : Nat} {d : Dev} (h : d₀.Follows d) : d₀.Follows (Dev.fillChanged n d) := by
  unfold Dev.fillChanged
  exact .ite h.put.holdO (.ite h.put.holdO (.ite h.put.holdO h.put))

theorem Dev.Follows.opHoldIRise {n : VhLink} {d : Dev} (h : d₀.Follows d) : d₀.Follows (opHoldIRise n d) := by
  unfold Machine.opHoldIRise
  exact h.put

theorem Dev.Follows.opHoldIFall {n : VhLink} {d : Dev} (h : d₀.Follows d) : d₀.Follows (opHoldIFall n d) := by
  unfold Machine.opHoldIFall
  exact h.put

theorem Dev.Follows.credReturn {n c k : Nat} {d : Dev} (h : d₀.Follows d) : d₀.Follows (Dev.credReturn n c k d) := by
  unfold Dev.credReturn
  exact h.units

theorem Dev.Follows.credDone {n c k : Nat} {d : Dev} (h : d₀.Follows d) : d₀.Follows (Dev.credDone n c k d) := by
  unfold Dev.credDone
  exact .ite h.units h.credReturn

theorem Dev.Follows.credRelease {n : Nat} {d : Dev} (h : d₀.Follows d) : d₀.Follows (Dev.credRelease n d) := by
  unfold Dev.credRelease
  exact .each (fun _ _ h1 => .ite h1 h1.units.credReturn) h

theorem Dev.Follows.opPressureReachAny {p : Nat} {d : Dev} (h : d₀.Follows d) : d₀.Follows (opPressureReachAny p d) := by
  unfold Machine.opPressureReachAny
  exact .through (fun h1 => .ite h1.credRelease h1) h.opPressureReach

theorem Dev.Follows.opVhControlBlock {n : VhLink} {returns : List Nat} {d : Dev} (h : d₀.Follows d) :
    d₀.Follows (opVhControlBlock n returns d) := by
  unfold Machine.opVhControlBlock
  exact .ite h (.each (fun _ _ h1 => h1.units.put) h)

theorem Dev.Follows.opPathRevert {dev : Nat} {d : Dev} (h : d₀.Follows d) : d₀.Follows (opPathRevert dev d) := by
  unfold Machine.opPathRevert
  exact .onTimer (fun _ h1 => .ite h1.pathSwitch h1) h

theorem Dev.Follows.opVhLinkUp {n : VhLink} {grant : List Nat} {d : Dev} (h : d₀.Follows d) : d₀.Follows (opVhLinkUp n grant d) := by
  unfold Machine.opVhLinkUp
  exact .ite h (.through (fun h1 => .ite h1 h1.drainOff.revertStart) (.fillChanged (.raise (.each
    (fun _ _ h2 => h2.put.units) h.put.put.put))))

theorem Dev.Follows.peerGone {code : Nat} {d : Dev} (h : d₀.Follows d) : d₀.Follows (Dev.peerGone code d) := by
  unfold Dev.peerGone
  exact .ite h.units.put.put.put h.units.put.put.put

theorem Dev.Follows.loseTx {out : Nat} {d : Dev} (h : d₀.Follows d) : d₀.Follows (Dev.loseTx out d) := by
  unfold Dev.loseTx
  exact .each (fun _ _ h1 => h1.release) h.units

theorem Dev.Follows.vhDown {n : Nat} {d : Dev} (h : d₀.Follows d) : d₀.Follows (Dev.vhDown n d) := by
  unfold Dev.vhDown
  exact .ite h (.revertStop (.peerGone (.fillChanged (.drainOn (.loseTx (.units (.each
    (fun _ _ h1 => h1.put) h.put.put.put.count.raise)))))))

theorem Dev.Follows.opVhLinkDown {n : VhLink} {inRx : Bool} {d : Dev} (h : d₀.Follows d) : d₀.Follows (opVhLinkDown n inRx d) := by
  unfold Machine.opVhLinkDown
  exact .ite h (.vhDown (.when (fun _ h1 => h1.count) h))

theorem Dev.Follows.vhControl {n tag : Nat} {data : List Byte} {d : Dev} (h : d₀.Follows d) :
    d₀.Follows (Dev.vhControl n tag data d) := by
  unfold Dev.vhControl
  refine .ite h.count (.ite ?_ h.count)
  split
  · next h1 => exact (h.count.pathCode.ofSnd h1).countCtl.emit
  · next h2 => exact h.count.pathCode.ofSnd h2

theorem Dev.Follows.vhQueue {n tag : Nat} {data : List Byte} {eighth : Nat} {d : Dev} (h : d₀.Follows d) :
    d₀.Follows (Dev.vhQueue n tag data eighth d) := by
  unfold Dev.vhQueue
  exact .ite h.count.raise.count.vhDown (.fillChanged (.count (.setInq (.units (.ite h.count.raise h)))))

theorem Dev.Follows.pairsLost {n k : Nat} {d : Dev} (h : d₀.Follows d) : d₀.Follows (Dev.pairsLost n k d) := by
  unfold Dev.pairsLost
  exact .ite h (.ite h.add.raise.units.vhDown h.add.raise.units)

theorem Dev.Follows.opVhFrame {n : VhLink} {tag : BitVec 64} {data : List Byte} {chk : Nat} {pairs : CwPairs} {eighth : Nat} {d : Dev}
    (h : d₀.Follows d) :
    d₀.Follows (opVhFrame n tag data chk pairs eighth d) := by
  unfold Machine.opVhFrame
  exact .ite h (.ite h.add.count.pairsLost (.ite h.add.vhControl (.ite h.add.count (.ite h.add.count h.add.vhQueue))))

theorem Dev.Follows.vhStart {p : Nat} {d : Dev} (h : d₀.Follows d) : d₀.Follows (Dev.vhStart p d) := by
  unfold Dev.vhStart
  split
  · exact h
  · exact .ite h h.setRx

theorem Dev.Follows.vhData {p : Nat} {d : Dev} (h : d₀.Follows d) :
    d₀.Follows (Dev.vhData p d) := by
  unfold Dev.vhData
  split
  · refine .ite h (.ite (.ite h.setRx.setRx ?_) ?_)
    · dsimp only
      exact h.setRx.newFrame.setRx.modFrame.storeBytes
    · dsimp only
      split
      · exact h.setRx.storeBytes
      · exact h.setRx
  · exact h

theorem Dev.Follows.vhEnd {p : Nat} {d : Dev} (h : d₀.Follows d) : d₀.Follows (Dev.vhEnd p d) := by
  unfold Dev.vhEnd
  split
  · refine .ite h ?_
    extract_lets n d1 d2 d3
    have h1 : d₀.Follows d1 := h.setRx.setInq.fillChanged
    have h2 : d₀.Follows d2 := by
      unfold d2
      split
      · exact h1.storeBytes.acceptRx
      · exact .ite h1.count h1
    exact .ite h2.credDone.vhDown h2.credDone
  · exact h

theorem Dev.Follows.opFrameStartAny {p eighth : Nat} {d : Dev} (h : d₀.Follows d) : d₀.Follows (opFrameStartAny p eighth d) := by
  unfold Machine.opFrameStartAny
  exact .ite h.vhStart h.opFrameStart

theorem Dev.Follows.opFrameDataAny {p : Nat} {data : List Byte} {d : Dev} (h : d₀.Follows d) : d₀.Follows (opFrameDataAny p data d) := by
  unfold Machine.opFrameDataAny
  exact .ite h.vhData h.opFrameData

theorem Dev.Follows.opFrameEndAny {p : Nat} {fcsGood pcsErr : Bool} {frags asmErr smdErr : Nat} {d : Dev} (h : d₀.Follows d) :
    d₀.Follows (opFrameEndAny p fcsGood pcsErr frags asmErr smdErr d) := by
  unfold Machine.opFrameEndAny
  exact .ite h.vhEnd h.ldgMerge.opFrameEnd

theorem Dev.Follows.opPathRead {i : Initiator} {staged : Bool} {d : Dev} (h : d₀.Follows d) : d₀.Follows (opPathRead i staged d) := by
  unfold Machine.opPathRead
  exact .window (fun _ h1 => h1.wr.put) h

theorem Dev.Follows.opPathStage {i : Initiator} {d : Dev} (h : d₀.Follows d) : d₀.Follows (opPathStage i d) := by
  unfold Machine.opPathStage
  exact .window (fun _ h1 => h1.units) h

theorem Dev.Follows.pathCommit {d : Dev} (h : d₀.Follows d) : d₀.Follows d.pathCommit := by
  unfold Dev.pathCommit
  exact .units (.each (fun _ _ h1 => h1.units.cancel) h)

theorem Dev.Follows.vhlCommit {n : Nat} {d : Dev} (h : d₀.Follows d) : d₀.Follows (Dev.vhlCommit n d) := by
  unfold Dev.vhlCommit
  exact .through (fun h1 => .ite (.ite h1.put h1) h1.vhDown.put) (.ite h.pathCommit h)

theorem Dev.Follows.isoVhl {n : Nat} {d : Dev} (h : d₀.Follows d) : d₀.Follows (Dev.isoVhl n d) := by
  unfold Dev.isoVhl
  exact .through (fun h1 => .ite h1.put h1) h.isoStart.drainOn.revertStop

theorem Dev.Follows.vhlBack {n : Nat} {d : Dev} (h : d₀.Follows d) : d₀.Follows (Dev.vhlBack n d) := by
  unfold Dev.vhlBack
  exact .ite h.put.drainOff.revertStart h

theorem Dev.Follows.vhlReset {n : Nat} {d : Dev} (h : d₀.Follows d) : d₀.Follows (Dev.vhlReset n d) := by
  unfold Dev.vhlReset
  exact h.vhDown

end Sys2Proof.Machine
end

section
/-!
PROOF. The canonical form, the time and the outputs through the operations of Machine/Egress.lean: the egress.
-/

namespace Sys2Proof.Machine

variable {d₀ : Dev}

theorem Dev.Follows.swapTx {t u : Tx} {d : Dev} (h : d₀.Follows d) : d₀.Follows (Dev.swapTx t u d) := by
  unfold Dev.swapTx
  exact h.units

theorem Dev.Follows.resumeTx {p : Nat} {d : Dev} (h : d₀.Follows d) : d₀.Follows (Dev.resumeTx p d) := by
  unfold Dev.resumeTx
  split
  · exact .ite h.at_.creditPort.cancel.swapTx.units.creditUntil h
  · exact h

theorem Dev.Follows.ethClass {p c : Nat} {drain : Bool} {d : Dev} {r : Nat × Dev} (h : d₀.Follows d)
    (he : d.ethClass p c drain = some r) : d₀.Follows r.2 := by
  unfold Dev.ethClass at he
  dsimp only at he
  split at he
  · cases he
  · split at he
    · exact h.drrTake he
    · split at he
      · cases he
      · split at he
        · cases he
        · next _ t h1 =>
          split at he
          · cases he
          · split at he
            · split at he
              · cases he
                exact h.drrTake h1
              · cases he
            · cases he

theorem Dev.Follows.expressClass {p : Nat} {d : Dev} {r : Nat × Nat × Dev} (h : d₀.Follows d) (he : d.expressClass p = some r) :
    d₀.Follows r.2.2 := by
  unfold Dev.expressClass at he
  split at he
  · refine .highest (fun c x hx => ?_) he
    split at hx
    · cases hx
    · exact h.ethClass hx
  · cases he

theorem Dev.Follows.noStart {out : Nat} {f : Frame} {d e : Dev} {g : Dev → Dev} (h : d₀.Follows e) (he : d.noStart out f = some g) :
    d₀.Follows (g e) := by
  unfold Dev.noStart at he
  split at he
  · cases he
    exact .ite h.count h.count
  · split at he
    · cases he
      exact .ite h.count h.count
    · split at he
      · cases he
        exact h.ldg
      · cases he

theorem Dev.Follows.startTx {out q c : Nat} {x : Copy} {f : Frame} {bad : Bool} {d : Dev} (h : d₀.Follows d) :
    d₀.Follows (Dev.startTx out q c x f bad d) := by
  unfold Dev.startTx
  dsimp only
  split
  · next h1 => exact .dropHead (fun _ h2 => h2) (h.takeCv.ofSnd h1)
  · next h3 => exact .through (fun h4 => .cancel (.ite h4.units.occupy.creditUntil h4.units.occupy)) ((h.takeCv.ofSnd h3).creditPort.popVoq)

theorem Dev.Follows.serveWire {out q c : Nat} {err : Option VaultErr} {d : Dev} (h : d₀.Follows d) :
    d₀.Follows (d.serveWire out q c err) := by
  unfold Dev.serveWire
  split
  · exact h
  · refine .ite h.agedOut ?_
    split
    · exact h
    · split
      · next h1 => exact .dropHead (fun _ h2 => h2.noStart h1) h
      · split
        · next h1 => exact h.meetErr.ofSnd h1
        · next h1 => exact (h.meetErr.ofSnd h1).startTx

theorem Dev.Follows.discardPicked {out q : Nat} {count : Dev → Dev} {d : Dev} (hf : ∀ (t : Dev), d₀.Follows t → d₀.Follows (count t))
    (h : d₀.Follows d) :
    d₀.Follows (Dev.discardPicked out q count d) := by
  unfold Dev.discardPicked
  split
  · exact h
  · exact .ite h.agedOut (.occupy (.saidDrain (.dropHead (fun _ h1 => hf _ h1.countDrain) h)))

theorem Dev.Follows.pickEth {p : Nat} {err : Option VaultErr} {d0 : Dev} (h : d₀.Follows d0) : d₀.Follows (Dev.pickEth p err d0) := by
  have hp : d₀.Follows ((d0.toPick p).creditPort p) := h.toPick.creditPort
  unfold Dev.pickEth
  refine .ite ?_ ?_
  · split
    · next h1 => exact .discardPicked (fun _ h2 => h2) (.highest (fun _ _ h2 => hp.ethClass h2) h1)
    · exact h
  · split
    · split
      · next h1 =>
        refine .discardPicked (fun _ h2 => h2.count) (.highest (fun c x h2 => ?_) h1)
        split at h2
        · exact hp.ethClass h2
        · cases h2
      · exact h
    · refine .ite h (.ite (.ite hp.lpiLeave h) (.ite h ?_))
      split
      · next h1 => exact (h.at_.creditPort.expressClass h1).preemptTx.at_.serveWire
      · refine .ite h ?_
        split
        · next h1 => exact .serveWire (.highest (fun _ _ h2 => hp.ethClass h2) h1)
        · exact .ite hp.resumeTx h

theorem Dev.Follows.linkChoice {out : Nat} {d : Dev} {r : Nat × Nat × Dev} (h : d₀.Follows d) (he : d.linkChoice out = some r) :
    d₀.Follows r.2.2 := by
  refine .highest (fun c x hx => ?_) he
  split at hx
  · next h1 =>
    split at hx
    · cases hx
    · split at hx
      · split at hx
        · cases hx
          exact h.drrTake h1
        · cases hx
      · cases hx
  · cases hx

theorem Dev.Follows.pickVh {out : Nat} {err : Option VaultErr} {d0 : Dev} (h : d₀.Follows d0) : d₀.Follows (Dev.pickVh out err d0) := by
  unfold Dev.pickVh
  refine .ite ?_ (.ite h ?_)
  · split
    · next h1 => exact .discardPicked (fun _ h2 => h2) (.highest (fun _ _ h2 => h.toPick.drrTake h2) h1)
    · exact h
  · split
    · exact h
    · next h1 => exact .ite (h.toPick.linkChoice h1).serveWire (h.toPick.linkChoice h1).serveWire.put

theorem Dev.Follows.opEgressPick {out : Nat} {err : Option VaultErr} {bp : Option BpDesc} {own : Nat} {d : Dev} (h : d₀.Follows d) :
    d₀.Follows (opEgressPick out err bp own d) := by
  unfold Machine.opEgressPick
  exact .ite h (.ite (.ite h.pickEth h) (.ite h.pickHost (.ite (.ite h.pickVh h) (.ite h.pickBus (.ite h.pickBrace h)))))

theorem Dev.Follows.opEgressStamp {out eighth : Nat} {mism : Bool} {d : Dev} (h : d₀.Follows d) :
    d₀.Follows (opEgressStamp out eighth mism d) := by
  unfold Machine.opEgressStamp
  split
  · exact h
  · exact .through (fun h1 => .ite (.ldg (.tsqPush (.ite h1.tsqMismatch h1))) h1) h.at_.swapTx

theorem Dev.Follows.endTx {t : Tx} {f : Frame} {d : Dev} (h : d₀.Follows d) : d₀.Follows (Dev.endTx t f d) := by
  unfold Dev.endTx
  exact .through (fun h1 => .through (fun h2 => .through (fun h3 => .ite h3.release.setWire.lpiStart.fcDrainWait.resumeTx h3.release)
    (.ite (.ite h2.units.creditUntil h2.units) h2)) (.ite h1.ldgSent.touch (.ite h1.count.put h1.count))) h.at_.creditPort.emit.dropTx

theorem Dev.Follows.opTransmitEnd {out : Nat} {d : Dev} (h : d₀.Follows d) : d₀.Follows (opTransmitEnd out d) := by
  unfold Machine.opTransmitEnd
  refine .ite h ?_
  split
  · exact h
  · split
    · exact h.dropTx
    · exact .ite h h.endTx

theorem Dev.Follows.cutTx {out : Nat} {d : Dev} (h : d₀.Follows d) : d₀.Follows (Dev.cutTx out d) := by
  unfold Dev.cutTx
  exact .each (fun _ _ h1 => h1.emit.ldgSent.dropTx.release) h.creditPort

end Sys2Proof.Machine
end

section
/-!
PROOF. The canonical form, the time and the outputs through the operations of Machine/Ethernet.lean: the Ethernet ports.
-/

namespace Sys2Proof.Machine

variable {d₀ : Dev}

theorem Dev.Follows.opTrainStart {p : EthPort} {d : Dev} (h : d₀.Follows d) : d₀.Follows (opTrainStart p d) := by
  unfold Machine.opTrainStart
  exact .ite h h.put.armIn

theorem Dev.Follows.opTrainTimeout {p : EthPort} {d : Dev} (h : d₀.Follows d) : d₀.Follows (opTrainTimeout p d) := by
  unfold Machine.opTrainTimeout
  exact .onTimer (fun _ h1 => h1.count.raise.armIn) h

theorem Dev.Follows.opEthLinkUp {p : EthPort} {ms : Nat} {d : Dev} (h : d₀.Follows d) : d₀.Follows (opEthLinkUp p ms d) := by
  unfold Machine.opEthLinkUp
  exact .endTimer (fun _ h1 => .through (fun h2 => .through (fun h3 => .through (fun h4 => .lpiStart (.ite h4.revertStart h4))
    (.ite h3 h3.fcChanged)) (.verifyStart (.ite h2.drainOff h2))) h1.creditPort.put.put.put.put.put.put.units.raise.cancel) h

theorem Dev.Follows.linkGone {p : Nat} {d : Dev} (h : d₀.Follows d) : d₀.Follows (Dev.linkGone p d) := by
  unfold Dev.linkGone
  exact .each (fun _ _ h1 => h1.put) h

theorem Dev.Follows.forgetSent {p : Nat} {d : Dev} (h : d₀.Follows d) : d₀.Follows (Dev.forgetSent p d) := by
  unfold Dev.forgetSent
  exact h.units

theorem Dev.Follows.ethDown {p : Nat} {d : Dev} (h : d₀.Follows d) : d₀.Follows (Dev.ethDown p d) := by
  unfold Dev.ethDown
  exact .ite h (.through (fun h1 => .through (fun h2 => .ite h2.drainOn h2.armIn)
    (.ite h1.peerGone.revertStop h1)) h.creditPort.linkGone.count.raise.opFrameEnd.forgetSent.cancel.cancel.cancel.verifyStart)

theorem Dev.Follows.opEthLinkDown {p : EthPort} {d : Dev} (h : d₀.Follows d) : d₀.Follows (opEthLinkDown p d) := by
  unfold Machine.opEthLinkDown
  exact h.ethDown

theorem Dev.Follows.opPllLoss {p : EthPort} {d : Dev} (h : d₀.Follows d) : d₀.Follows (opPllLoss p d) := by
  unfold Machine.opPllLoss
  exact .ite h h.put.raise.cancel.ethDown

theorem Dev.Follows.opLinkHold {p : EthPort} {d : Dev} (h : d₀.Follows d) : d₀.Follows (opLinkHold p d) := by
  unfold Machine.opLinkHold
  exact .onTimer (fun _ h1 => h1.drainOn) h

theorem Dev.Follows.opSqi {p : EthPort} {sqi : Nat} {lpiRx : Bool} {corr unc pcs : Nat} {d : Dev} (h : d₀.Follows d) :
    d₀.Follows (opSqi p sqi lpiRx corr unc pcs d) := by
  unfold Machine.opSqi
  exact .ite h (.through (fun h1 => .ite h1.put.raise h1.put) (.ite h.add h.add.put.add.add))

theorem Dev.Follows.opLpiIdle {p : EthPort} {d : Dev} (h : d₀.Follows d) : d₀.Follows (opLpiIdle p d) := by
  unfold Machine.opLpiIdle
  split
  · exact h
  · exact .ite h.at_ h.at_.cancel.units.put.ldg

theorem Dev.Follows.opLpiWake {p : EthPort} {d : Dev} (h : d₀.Follows d) : d₀.Follows (opLpiWake p d) := by
  unfold Machine.opLpiWake
  exact .onTimer (fun _ h1 => h1.units.put.lpiStart.fcDrainWait) h

theorem Dev.Follows.lpiCommit {p : Nat} {was : Bool} {d : Dev} (h : d₀.Follows d) : d₀.Follows (Dev.lpiCommit p was d) := by
  unfold Dev.lpiCommit
  exact .ite h (.ite (.ite h h.lpiStart) h.cancel.lpiLeave)

theorem Dev.Follows.updateBusy {pg : Nat} {i : Initiator} {off v : Nat} {d : Dev} (h : d₀.Follows d) :
    d₀.Follows (Dev.updateBusy pg i off v d) := by
  unfold Dev.updateBusy
  exact h.capture

theorem Dev.Follows.setDiag {pg : Nat} {on : Bool} {d : Dev} (h : d₀.Follows d) : d₀.Follows (Dev.setDiag pg on d) := by
  unfold Dev.setDiag
  exact h.modPg.units.refreshPg.syncMode

theorem Dev.Follows.opDiagRun {i : Initiator} {p : EthPort} {d : Dev} (h : d₀.Follows d) : d₀.Follows (opDiagRun i p d) := by
  unfold Machine.opDiagRun
  exact .access (fun _ h1 => .ite h1 (.ite h1.updateBusy (.ite h1.rejectTrig h1.cancel.ethDown.put.put.setDiag.armIn))) h

theorem Dev.Follows.diagEnd {p result dist : Nat} {d : Dev} (h : d₀.Follows d) : d₀.Follows (Dev.diagEnd p result dist d) := by
  unfold Dev.diagEnd
  exact h.put.put.put.put.raise.setDiag

theorem Dev.Follows.opDiagAbort {i : Initiator} {p : EthPort} {d : Dev} (h : d₀.Follows d) : d₀.Follows (opDiagAbort i p d) := by
  unfold Machine.opDiagAbort
  exact .access (fun _ h1 => .ite h1.cancel.diagEnd h1) h

theorem Dev.Follows.opDiagDone {p : EthPort} {result dist : Nat} {d : Dev} (h : d₀.Follows d) :
    d₀.Follows (opDiagDone p result dist d) := by
  unfold Machine.opDiagDone
  exact .endTimer (fun _ h1 => h1.diagEnd) h

theorem Dev.Follows.ldgControl {p i : Nat} {d : Dev} (h : d₀.Follows d) : d₀.Follows (Dev.ldgControl p i d).2 := by
  unfold Dev.ldgControl
  exact .iteSnd h.units.ldg.ldg h.units.ldg.ldg.ldg.ldg

theorem Dev.Follows.opPauseRx {p : EthPort} {quanta : Nat} {d : Dev} (h : d₀.Follows d) : d₀.Follows (opPauseRx p quanta d) := by
  unfold Machine.opPauseRx
  exact .ite h (.ite h.ldgControl.pauseLoad h.ldgControl)

theorem Dev.Follows.opPfcRx {p : EthPort} {vector : Nat} {times : List Nat} {d : Dev} (h : d₀.Follows d) :
    d₀.Follows (opPfcRx p vector times d) := by
  unfold Machine.opPfcRx
  exact .ite h (.ite h.ldgControl.pauseLoad h.ldgControl)

theorem Dev.Follows.opMacCtlUnk {p : EthPort} {d : Dev} (h : d₀.Follows d) : d₀.Follows (opMacCtlUnk p d) := by
  unfold Machine.opMacCtlUnk
  exact .ite h (.ite h.ldgControl h.ldgControl.raise)

theorem Dev.Follows.opPauseEnd {p : EthPort} {c : Sys2Proof.Class} {d : Dev} (h : d₀.Follows d) : d₀.Follows (opPauseEnd p c d) := by
  unfold Machine.opPauseEnd
  exact .onTimer (fun _ h1 => h1.pauseSync) h

theorem Dev.Follows.opFcRefresh {p : EthPort} {d : Dev} (h : d₀.Follows d) : d₀.Follows (opFcRefresh p d) := by
  unfold Machine.opFcRefresh
  exact .onTimer (fun _ h1 => .ite h1.fcPush h1) h

theorem Dev.Follows.opPwdTrip {p : EthPort} {c : Sys2Proof.Class} {d : Dev} (h : d₀.Follows d) :
    d₀.Follows (opPwdTrip p c d) := by
  unfold Machine.opPwdTrip
  refine .onTimer (fun _ h1 => ?_) h
  dsimp only
  split
  · exact h1.count.raise.unpause.put.armIn
  · exact h1.count.raise.isoEth
  · exact h1.count.raise

theorem Dev.Follows.opPwdBreakEnd {p : EthPort} {c : Sys2Proof.Class} {d : Dev} (h : d₀.Follows d) :
    d₀.Follows (opPwdBreakEnd p c d) := by
  unfold Machine.opPwdBreakEnd
  exact .onTimer (fun _ h1 => h1.put) h

theorem Dev.Follows.ldgShow {p i v : Nat} {d : Dev} (h : d₀.Follows d) : d₀.Follows (Dev.ldgShow p i v d) := by
  unfold Dev.ldgShow
  exact h.put.put

theorem Dev.Follows.opLdgSnap {i : Initiator} {p : EthPort} {d : Dev} (h : d₀.Follows d) : d₀.Follows (opLdgSnap i p d) := by
  unfold Machine.opLdgSnap
  exact .access (fun _ h1 => .each (fun _ _ h2 => h2.ldgShow) h1) h

theorem Dev.Follows.opLdgClear {i : Initiator} {p : EthPort} {d : Dev} (h : d₀.Follows d) : d₀.Follows (opLdgClear i p d) := by
  unfold Machine.opLdgClear
  exact .access (fun _ h1 => .each (fun _ _ h2 => h2.ldgShow) h1.units) h

theorem Dev.Follows.ethReset {p : Nat} {d : Dev} (h : d₀.Follows d) : d₀.Follows (Dev.ethReset p d) := by
  unfold Dev.ethReset
  exact .each (fun _ _ h1 => h1.cancel.cancel) h.opFrameEnd.cutTx.unpauseAll.put

theorem Dev.Follows.ethBack {p : Nat} {d : Dev} (h : d₀.Follows d) : d₀.Follows (Dev.ethBack p d) := by
  unfold Dev.ethBack
  exact .ite h.units h.units.fcChanged

theorem Dev.Follows.ethReturn {p : Nat} {d : Dev} (h : d₀.Follows d) : d₀.Follows (Dev.ethReturn p d) := by
  unfold Dev.ethReturn
  exact .through (fun h1 => .ite h1.revertStart h1) (.ethBack (.ite h.drainOff h))

theorem Dev.Follows.phyReset {p : Nat} {d : Dev} (h : d₀.Follows d) : d₀.Follows (Dev.phyReset p d) := by
  unfold Dev.phyReset
  exact .ethDown (.cancel (.ite h.cancel.put.setDiag h))

end Sys2Proof.Machine
end

section
/-!
PROOF. The canonical form, the time and the outputs through the operations of Machine/Key.lean: the key unit.
-/

namespace Sys2Proof.Machine

variable {d₀ : Dev}

theorem Dev.Follows.deriveStore {d : Dev} (h : d₀.Follows d) : d₀.Follows d.deriveStore := by
  unfold Dev.deriveStore
  exact h.units

theorem Dev.Follows.holdRoot {rs : List Byte} {d : Dev} (h : d₀.Follows d) : d₀.Follows (Dev.holdRoot rs d) := by
  unfold Dev.holdRoot
  exact h.units.deriveStore

theorem Dev.Follows.setKrc {r : Nat} {x : KeyRec} {d : Dev} (h : d₀.Follows d) : d₀.Follows (Dev.setKrc r x d) := by
  unfold Dev.setKrc
  exact h.units

theorem Dev.Follows.recShow {d : Dev} (h : d₀.Follows d) : d₀.Follows d.recShow := by
  unfold Dev.recShow
  dsimp only
  split <;> exact h.put.put.put.put.put

theorem Dev.Follows.writeRec {r : Nat} {k : HeldKey} {d : Dev} (h : d₀.Follows d) : d₀.Follows (Dev.writeRec r k d) := by
  unfold Dev.writeRec
  exact h.setKrc.recShow

theorem Dev.Follows.cutRec {r n : Nat} {k : HeldKey} {d : Dev} (h : d₀.Follows d) : d₀.Follows (Dev.cutRec r n k d) := by
  unfold Dev.cutRec
  exact .ite h h.setKrc

theorem Dev.Follows.loadSlot {o : KeyOp} {k : HeldKey} {d : Dev} (h : d₀.Follows d) : d₀.Follows (Dev.loadSlot o k d) := by
  unfold Dev.loadSlot
  exact h.setCst

theorem Dev.Follows.writeKey {o : KeyOp} {k : HeldKey} {d : Dev} (h : d₀.Follows d) : d₀.Follows (Dev.writeKey o k d) := by
  unfold Dev.writeKey
  split
  · exact h.writeRec
  · exact h.units
  · exact h.loadSlot
  · exact h

theorem Dev.Follows.putBytes {f : Nat → Nat} {n : Nat} {bs : List Byte} {d : Dev} (h : d₀.Follows d) :
    d₀.Follows (Dev.putBytes f n bs d) := by
  unfold Dev.putBytes
  exact .each (fun _ _ h1 => h1.wr) h

theorem Dev.Follows.clearOperands {d : Dev} (h : d₀.Follows d) : d₀.Follows d.clearOperands := by
  unfold Dev.clearOperands
  exact .each (fun _ _ h1 => h1.wr) (.each (fun _ _ h2 => h2.wr) h)

theorem Dev.Follows.keyEnd {status : Nat} {d : Dev} (h : d₀.Follows d) : d₀.Follows (Dev.keyEnd status d) := by
  unfold Dev.keyEnd
  exact h.units.cancel.put.put.clearOperands.raise

theorem Dev.Follows.keyCommand {i : Initiator} {code : Nat} {data : List Byte} {d : Dev} (h : d₀.Follows d) :
    d₀.Follows (Dev.keyCommand i code data d) := by
  unfold Dev.keyCommand
  refine .access (fun _ h1 => .ite h1.put (.through (fun h2 => .ite h2.keyEnd (.ite h2.keyEnd ?_)) (.each (fun _ _ h3 => h3.wr) h1))) h
  split
  · exact h2.keyEnd
  · exact h2.units.put.armIn

theorem Dev.Follows.opImportPlain {i : Initiator} {d : Dev} (h : d₀.Follows d) : d₀.Follows (opImportPlain i d) := by
  unfold Machine.opImportPlain
  exact h.keyCommand

theorem Dev.Follows.opImportWrapped {i : Initiator} {d : Dev} (h : d₀.Follows d) : d₀.Follows (opImportWrapped i d) := by
  unfold Machine.opImportWrapped
  exact h.keyCommand

theorem Dev.Follows.opLoad {i : Initiator} {d : Dev} (h : d₀.Follows d) : d₀.Follows (opLoad i d) := by
  unfold Machine.opLoad
  exact h.keyCommand

theorem Dev.Follows.opDerive {i : Initiator} {d : Dev} (h : d₀.Follows d) : d₀.Follows (opDerive i d) := by
  unfold Machine.opDerive
  exact h.keyCommand

theorem Dev.Follows.opUnwrap {i : Initiator} {d : Dev} (h : d₀.Follows d) : d₀.Follows (opUnwrap i d) := by
  unfold Machine.opUnwrap
  exact h.keyCommand

theorem Dev.Follows.opWrap {i : Initiator} {d : Dev} (h : d₀.Follows d) : d₀.Follows (opWrap i d) := by
  unfold Machine.opWrap
  exact h.keyCommand

theorem Dev.Follows.opCmac {i : Initiator} {data : List Byte} {d : Dev} (h : d₀.Follows d) : d₀.Follows (opCmac i data d) := by
  unfold Machine.opCmac
  exact h.keyCommand

theorem Dev.Follows.opGenerate {i : Initiator} {d : Dev} (h : d₀.Follows d) : d₀.Follows (opGenerate i d) := by
  unfold Machine.opGenerate
  exact h.keyCommand

theorem Dev.Follows.opRandom {i : Initiator} {d : Dev} (h : d₀.Follows d) : d₀.Follows (opRandom i d) := by
  unfold Machine.opRandom
  exact h.keyCommand

theorem Dev.Follows.opZero {i : Initiator} {d : Dev} (h : d₀.Follows d) : d₀.Follows (opZero i d) := by
  unfold Machine.opZero
  exact h.keyCommand

theorem Dev.Follows.opToken {i : Initiator} {d : Dev} (h : d₀.Follows d) : d₀.Follows (opToken i d) := by
  unfold Machine.opToken
  exact h.keyCommand

theorem Dev.Follows.opKeyBad {i : Initiator} {op : Nat} {d : Dev} (h : d₀.Follows d) : d₀.Follows (opKeyBad i op d) := by
  unfold Machine.opKeyBad
  exact .ite h (.access (fun _ h1 => .ite h1.put (.keyEnd (.each (fun _ _ h2 => h2.wr) h1))) h)

theorem Dev.Follows.draw {n : Nat} {d : Dev} (h : d₀.Follows d) : d₀.Follows (Dev.draw n d).2 := by
  unfold Dev.draw
  exact h.units

theorem Dev.Follows.seed {d : Dev} (h : d₀.Follows d) :
    d₀.Follows d.seed := by
  have hb : d₀.Follows (d.freeBytes 48).2 := h.freeBytes
  exact hb.units

theorem Dev.Follows.keyReady {on : Bool} {d : Dev} (h : d₀.Follows d) : d₀.Follows (Dev.keyReady on d) := by
  unfold Dev.keyReady
  exact h.put.put.refreshPg.refreshPg

theorem Dev.Follows.tamperClear {d : Dev} (h : d₀.Follows d) : d₀.Follows d.tamperClear := by
  unfold Dev.tamperClear
  exact .through (fun h1 => .ite h1.put.keyReady h1) h.put.put.raise

theorem Dev.Follows.storeKey {o : KeyOp} {k : HeldKey} {d : Dev} (h : d₀.Follows d) : d₀.Follows (Dev.storeKey o k d) := by
  unfold Dev.storeKey
  refine .ite h.keyEnd ?_
  split
  · exact h.keyEnd
  · exact h.writeKey.keyEnd

theorem Dev.Follows.giveRes {bs : List Byte} {d : Dev} (h : d₀.Follows d) : d₀.Follows (Dev.giveRes bs d) := by
  unfold Dev.giveRes
  exact h.putBytes.keyEnd

theorem Dev.Follows.keyMade {o : KeyOp} {d : Dev} (h : d₀.Follows d) : d₀.Follows (Dev.keyMade o d).2 := by
  unfold Dev.keyMade
  dsimp only
  split
  · exact h
  · exact h
  · exact h
  · exact h
  · exact h
  · exact h.draw
  · exact h

theorem Dev.Follows.keyStops {d : Dev} (h : d₀.Follows d) :
    d₀.Follows d.keyStops := by
  unfold Dev.keyStops
  split
  · exact h
  · refine .ite ?_ h
    dsimp only
    split
    · next h1 => exact (Dev.Follows.keyMade h.units |>.ofSnd h1).cutRec
    · next h1 => exact Dev.Follows.keyMade h.units |>.ofSnd h1

theorem Dev.Follows.keyAbort {status : Nat} {d : Dev} (h : d₀.Follows d) : d₀.Follows (Dev.keyAbort status d) := by
  unfold Dev.keyAbort
  exact .ite h.keyStops.keyEnd h

theorem Dev.Follows.keyResult {o : KeyOp} {d : Dev} (h : d₀.Follows d) : d₀.Follows (Dev.keyResult o d) := by
  unfold Dev.keyResult
  dsimp only
  split
  · split
    · next h1 => exact (h.keyMade.ofSnd h1).storeKey
    · next h2 => exact (h.keyMade.ofSnd h2).keyEnd
  · split
    · next h3 => exact (h.keyMade.ofSnd h3).storeKey
    · next h4 => exact (h.keyMade.ofSnd h4).keyEnd
  · split
    · next h5 => exact (h.keyMade.ofSnd h5).storeKey
    · next h6 => exact (h.keyMade.ofSnd h6).keyEnd
  · split
    · next h7 => exact (h.keyMade.ofSnd h7).storeKey
    · next h8 => exact (h.keyMade.ofSnd h8).keyEnd
  · split
    · next h9 => exact (h.keyMade.ofSnd h9).storeKey
    · next h10 => exact (h.keyMade.ofSnd h10).keyEnd
  · split
    · next h11 => exact (h.keyMade.ofSnd h11).storeKey
    · next h12 => exact (h.keyMade.ofSnd h12).keyEnd
  · split
    · exact h.giveRes
    · exact h.keyEnd
  · exact h.giveRes
  · exact h.draw.giveRes
  · exact .keyEnd (.ite h.setKrc.recShow h.units)
  · exact .ite (.keyEnd (.ite h.put.put h.put.tamperClear)) h.keyEnd

theorem Dev.Follows.keyUe {o : KeyOp} {w : KeyUe} {d : Dev} (h : d₀.Follows d) :
    d₀.Follows (Dev.keyUe o w d) := by
  unfold Dev.keyUe
  split
  · exact h.keyResult
  · refine .ite ?_ (.ite h.units.raise.uncorrectable.keyEnd h.keyResult)
    extract_lets r
    split
    · exact h.keyEnd
    · extract_lets d1 d2 d3
      have h1 : d₀.Follows d1 := h.setKrc
      have h2 : d₀.Follows d2 := .ite h1.count.raise h1.count.raise
      have h3 : d₀.Follows d3 := h2.recShow
      split
      · exact .ite h3.keyResult h3.keyEnd
      · exact h3.keyEnd

theorem Dev.Follows.opKeyDone {ue : Option KeyUe} {d : Dev} (h : d₀.Follows d) : d₀.Follows (opKeyDone ue d) := by
  unfold Machine.opKeyDone
  split
  · exact h
  · refine .endTimer (fun _ h1 => ?_) h
    split
    · exact h1.keyUe
    · exact h1.keyResult

theorem Dev.Follows.opProvClose {i : Initiator} {d : Dev} (h : d₀.Follows d) : d₀.Follows (opProvClose i d) := by
  unfold Machine.opProvClose
  exact .access (fun _ h1 => .ite h1.units.put h1.ignoredErr) h

theorem Dev.Follows.rngFails {d : Dev} (h : d₀.Follows d) : d₀.Follows d.rngFails := by
  unfold Dev.rngFails
  exact h.put.raise.armIn

theorem Dev.Follows.opReseed {healthy : Bool} {d : Dev} (h : d₀.Follows d) : d₀.Follows (opReseed healthy d) := by
  unfold Machine.opReseed
  refine .through (fun h1 => .ite (.ite h1.rngFails h) (.ite h1.seed.put h)) ?_
  split
  · exact h.at_.cancel
  · exact h

theorem Dev.Follows.opMaskRenew {d : Dev} (h : d₀.Follows d) : d₀.Follows (opMaskRenew d) :=
  .ite ⟨h.canonical, h.time.trans (Nat.le_add_right _ _), h.outputs⟩ h

theorem Dev.Follows.seal {d : Dev} (h : d₀.Follows d) : d₀.Follows d.seal := by
  unfold Dev.seal
  exact h.units.autZero.put.keyReady.raise

theorem Dev.Follows.eraseKeys {d : Dev} (h : d₀.Follows d) : d₀.Follows d.eraseKeys := by
  unfold Dev.eraseKeys
  exact h.put.put.deriveStore.recShow.armIn

theorem Dev.Follows.respond {erase : Bool} {d : Dev} (h : d₀.Follows d) : d₀.Follows (Dev.respond erase d) := by
  unfold Dev.respond
  exact .ite h (.ite h.seal (.ite h.seal.eraseKeys (.ite h.keyReady h)))

theorem Dev.Follows.logShow {d : Dev} (h : d₀.Follows d) : d₀.Follows d.logShow := by
  unfold Dev.logShow
  split <;> exact h.put.put.put.put.wr64

theorem Dev.Follows.logTamper {e : TamperLog} {d : Dev} (h : d₀.Follows d) : d₀.Follows (Dev.logTamper e d) := by
  unfold Dev.logTamper
  exact h.units.logShow

theorem Dev.Follows.lateAlarm {d : Dev} (h : d₀.Follows d) : d₀.Follows d.lateAlarm := by
  unfold Dev.lateAlarm
  exact .through (fun h1 => .units (.ite h1.add.raise h1)) (.each (fun _ _ h2 => h2.logTamper) h)

theorem Dev.Follows.lateRespond {d : Dev} (h : d₀.Follows d) : d₀.Follows d.lateRespond := by
  unfold Dev.lateRespond
  exact .ite h h.respond

theorem Dev.Follows.opRootAttempt {cells : List Byte} {d : Dev} (h : d₀.Follows d) :
    d₀.Follows (opRootAttempt cells d) := by
  unfold Machine.opRootAttempt
  refine .ite h ?_
  extract_lets att d1 v d2
  have h2 : d₀.Follows d2 := .ite h.put.units h.put
  split
  · exact .through (fun h3 => .ite h3.raise h3) h2.holdRoot.put.put
  · exact .ite (.ite h2.put.raise.lateAlarm.lateRespond h2.put.raise) h2

theorem Dev.Follows.failSlot {f : RecordFail} {d : Dev} (h : d₀.Follows d) : d₀.Follows (Dev.failSlot f d) := by
  unfold Dev.failSlot
  exact h.setKrc

theorem Dev.Follows.countRecs {d : Dev} (h : d₀.Follows d) : d₀.Follows d.countRecs := by
  unfold Dev.countRecs
  exact .each (fun _ _ h1 => .ite h1 (.ite h1.count.raise h1.count.raise)) h

theorem Dev.Follows.opRecordCheck {fails : List RecordFail} {healthy : Bool} {d : Dev} (h : d₀.Follows d) :
    d₀.Follows (opRecordCheck fails healthy d) := by
  unfold Machine.opRecordCheck
  exact .ite h (.through (fun h1 => .through (fun h2 => .ite h2.lateAlarm.keyReady h2.lateAlarm.lateRespond) (.recShow
    (.ite h1.seed.put h1.rngFails))) (.countRecs (.each (fun _ _ h3 => h3.failSlot) h.units)))

theorem Dev.Follows.autAbort {d : Dev} (h : d₀.Follows d) :
    d₀.Follows d.autAbort := by
  have hmark : ∀ {c : Option Nat} {t : Dev}, d₀.Follows t → d₀.Follows (match c with
      | some c => t.ctxCount c 11
      | none => t) := by
    intro c t ht
    split
    · exact ht.ctxCount
    · exact ht
  unfold Dev.autAbort
  exact .ite h (.raise (.each (fun _ _ h1 => .dropDraw (fun _ h2 => hmark h2) h1)
    (.each (fun _ _ h1 => .swapTx (hmark h1)) (.each (fun _ _ h1 => .dropArriving (hmark h1)) h))))

theorem Dev.Follows.tamperAlarm {d : Dev} (h : d₀.Follows d) : d₀.Follows d.tamperAlarm := by
  unfold Dev.tamperAlarm
  exact h.keyAbort.autAbort.add.raise.respond

theorem Dev.Follows.opTamperFire {sensor : Sensor} {d : Dev} (h : d₀.Follows d) : d₀.Follows (opTamperFire sensor d) := by
  unfold Machine.opTamperFire
  exact .ite h (.ite (.ite h.put.put.units.put h.put.put.units) (.ite h.put.put.logTamper.tamperAlarm h.put.put.logTamper))

theorem Dev.Follows.opEraseDone {d : Dev} (h : d₀.Follows d) : d₀.Follows (opEraseDone d) := by
  unfold Machine.opEraseDone
  exact .endTimer (fun _ h1 => .raise (.keyReady (.recShow (.put (.each (fun _ _ h2 => h2.setKrc) h1))))) h

theorem Dev.Follows.opTamperEnable {i : Initiator} {v : Word} {d : Dev} (h : d₀.Follows d) : d₀.Follows (opTamperEnable i v d) := by
  unfold Machine.opTamperEnable
  exact .access (fun _ h1 => h1.put) h

theorem Dev.Follows.opLatchClear {i : Initiator} {v : Word} {d : Dev} (h : d₀.Follows d) : d₀.Follows (opLatchClear i v d) := by
  unfold Machine.opLatchClear
  exact .access (fun _ h1 => .ite h1.ignoredErr (.through (fun h2 => .ite h2.raise h2) (.ite h1.put.put.put h1.put.put))) h

theorem Dev.Follows.opSigGo {i : Initiator} {data : List Byte} {d : Dev} (h : d₀.Follows d) : d₀.Follows (opSigGo i data d) := by
  unfold Machine.opSigGo
  exact .writeMixed (fun _ _ h1 => .ite h1.ignoredErr h1.units.put.armIn) h

theorem Dev.Follows.opSigDone {ue : Option Nat} {d : Dev} (h : d₀.Follows d) : d₀.Follows (opSigDone ue d) := by
  unfold Machine.opSigDone
  split
  · exact h
  · refine .endTimer (fun t h1 => ?_) h
    split
    next r dig _ =>
    extract_lets v d1 d2 d3
    have h1' : d₀.Follows d1 := h1.units
    have h2 : d₀.Follows d2 := by
      unfold d2
      split
      · exact .ite h1'.memUe h1'
      · exact h1'
    have h3 : d₀.Follows d3 := by
      unfold d3
      split
      · exact h2.putBytes
      · exact h2
    exact h3.put.put.raise

theorem Dev.Follows.anchShow {d : Dev} (h : d₀.Follows d) : d₀.Follows d.anchShow := by
  unfold Dev.anchShow
  exact h.put.put.put.put.putBytes

theorem Dev.Follows.setAnchor {k : Nat} {a : Anchor} {d : Dev} (h : d₀.Follows d) : d₀.Follows (Dev.setAnchor k a d) := by
  unfold Dev.setAnchor
  exact h.units.anchShow

theorem Dev.Follows.opAnchWrite {i : Initiator} {purpose : Nat} {d : Dev} (h : d₀.Follows d) : d₀.Follows (opAnchWrite i purpose d) := by
  unfold Machine.opAnchWrite
  exact .access (fun _ h1 => .ite h1.ignoredErr h1.setAnchor) h

theorem Dev.Follows.opAnchRevoke {i : Initiator} {d : Dev} (h : d₀.Follows d) : d₀.Follows (opAnchRevoke i d) := by
  unfold Machine.opAnchRevoke
  exact .access (fun _ h1 => .ite h1.ignoredErr h1.setAnchor) h

theorem Dev.Follows.keyReset {d : Dev} (h : d₀.Follows d) : d₀.Follows d.keyReset := by
  unfold Dev.keyReset
  exact h.keyAbort

theorem Dev.Follows.sigReset {d : Dev} (h : d₀.Follows d) : d₀.Follows d.sigReset := by
  unfold Dev.sigReset
  exact .ite h.units.cancel.put.put h

end Sys2Proof.Machine
end

section
/-!
PROOF. The canonical form, the time and the outputs through the operations of Machine/Clear.lean: the clears of MAIN.
-/

namespace Sys2Proof.Machine

variable {d₀ : Dev}

theorem Dev.Follows.holdPins {old d : Dev} (h : d₀.Follows d) : d₀.Follows (old.holdPins d) := by
  unfold Dev.holdPins
  exact .each (fun _ _ h1 => h1.put) h

theorem wf_clearRegs {lvl : Nat} (m : NMap Word) : NMap.wf resetValue (clearRegs lvl m) = true := by
  have hreg : ∀ (e : Nat × Word) (acc : NMap Word), NMap.wf resetValue acc = true →
      NMap.wf resetValue (Dev.clearReg lvl e acc) = true := by
    intro e acc hacc
    unfold Dev.clearReg
    split
    · exact hacc
    · split
      · exact hacc
      · dsimp only
        split
        · exact NMap.wf_set _ _ _ _ (NMap.wf_set _ _ _ _ hacc)
        · exact NMap.wf_set _ _ _ _ hacc
  have hfold : ∀ acc : NMap Word, NMap.wf resetValue acc = true →
      NMap.wf resetValue (m.foldl (fun acc e => Dev.clearReg lvl e acc) acc) = true := by
    induction m with
    | nil => exact fun _ h => h
    | cons e m ih => exact fun acc hacc => ih _ (hreg e acc hacc)
  exact hfold [] rfl

theorem Dev.Follows.clearMain {lvl : Nat} {d : Dev} (h : d₀.Follows d) : d₀.Follows (d.clearMain lvl) := by
  unfold Dev.clearMain
  exact .holdPins (h.keyStops.stores (fun _ => wf_clearRegs _) (NMap.wf_filter _) (fun _ => rfl)).units

end Sys2Proof.Machine
end

section
/-!
PROOF. The canonical form, the time and the outputs through the operations of Machine/Sleep.lean: sleep and wake.
-/

namespace Sys2Proof.Machine

variable {d₀ : Dev}

theorem Dev.Follows.seeHold {d : Dev} (h : d₀.Follows d) : d₀.Follows d.seeHold := by
  unfold Dev.seeHold
  exact .ite h h.units

theorem Dev.Follows.seePins {pins : Nat} {d : Dev} (h : d₀.Follows d) : d₀.Follows (Dev.seePins pins d) := by
  unfold Dev.seePins
  exact h.seeHold.units.seeHold

theorem Dev.Follows.wakCount {i : Nat} {d : Dev} (h : d₀.Follows d) : d₀.Follows (Dev.wakCount i d) := by
  unfold Dev.wakCount
  exact h.count

theorem Dev.Follows.passOn {t : Token} {d : Dev} (h : d₀.Follows d) : d₀.Follows (Dev.passOn t d) := by
  unfold Dev.passOn
  refine .ite h.emit ?_
  split
  · exact h
  · split
    · next h1 => exact (h.pathCode.ofSnd h1).countCtl.emit
    · next h2 => exact h.pathCode.ofSnd h2

theorem Dev.Follows.closeRound {d : Dev} (h : d₀.Follows d) : d₀.Follows d.closeRound := by
  unfold Dev.closeRound
  exact h.wr.wr.wr64.cancel.units.syncMode

theorem Dev.Follows.vetoed {d : Dev} (h : d₀.Follows d) : d₀.Follows d.vetoed := by
  unfold Dev.vetoed
  exact .closeRound (.ite h.units h)

theorem Dev.Follows.sendVeto {set_ origin seq : Nat} {d : Dev} (h : d₀.Follows d) : d₀.Follows (Dev.sendVeto set_ origin seq d) := by
  unfold Dev.sendVeto
  exact h.wakCount.raise.tokenOnce

theorem Dev.Follows.veto {d : Dev} (h : d₀.Follows d) : d₀.Follows d.veto := by
  unfold Dev.veto
  exact h.sendVeto.vetoed

theorem Dev.Follows.wakeSeen {d : Dev} (h : d₀.Follows d) : d₀.Follows d.wakeSeen := by
  unfold Dev.wakeSeen
  exact .ite h h.veto

theorem Dev.Follows.enterRound {set_ origin seq count : Nat} {d : Dev} (h : d₀.Follows d) :
    d₀.Follows (Dev.enterRound set_ origin seq count d) := by
  unfold Dev.enterRound
  exact h.put.put.put.put.put.armIn.units.units.wakCount.raise.syncMode

theorem Dev.Follows.startRound {s : Nat} {d : Dev} (h : d₀.Follows d) : d₀.Follows (Dev.startRound s d) := by
  unfold Dev.startRound
  exact .ite h.units.sendVeto h.units.enterRound.passOn

theorem Dev.Follows.opRoundStart {i : Initiator} {set : SleepSet} {pins : Nat} {d : Dev} (h : d₀.Follows d) :
    d₀.Follows (opRoundStart i set pins d) := by
  unfold Machine.opRoundStart
  exact .access (fun _ h1 => .ite h1.seePins (.ite h1.seePins.rejectTrig h1.seePins.startRound)) h

theorem Dev.Follows.opVetoCmd {i : Initiator} {d : Dev} (h : d₀.Follows d) : d₀.Follows (opVetoCmd i d) := by
  unfold Machine.opVetoCmd
  exact .access (fun _ h1 => .ite h1 (.ite h1.rejectTrig h1.veto)) h

theorem Dev.Follows.opAutoRound {pins : Nat} {d : Dev} (h : d₀.Follows d) : d₀.Follows (opAutoRound pins d) := by
  unfold Machine.opAutoRound
  exact .ite h.seePins.startRound h.seePins

theorem Dev.Follows.proposeBack {t : Token} {d : Dev} (h : d₀.Follows d) : d₀.Follows (Dev.proposeBack t d) := by
  unfold Dev.proposeBack
  exact .ite h.put.put.wr64.cancel.wakCount.passOn h.put.wakCount.veto

theorem Dev.Follows.join {t : Token} {d : Dev} (h : d₀.Follows d) : d₀.Follows (Dev.join t d) := by
  unfold Dev.join
  exact .ite h.sendVeto (.ite h.rejectTrig.sendVeto h.enterRound.passOn)

theorem Dev.Follows.setAside {d : Dev} (h : d₀.Follows d) : d₀.Follows d.setAside := by
  unfold Dev.setAside
  exact .through (fun h1 => .ite h1.units.arm h1) h.closeRound

theorem Dev.Follows.opPropose {t : Token} {pins : Nat} {d : Dev} (h : d₀.Follows d) : d₀.Follows (opPropose t pins d) := by
  unfold Machine.opPropose
  exact .ite h.seePins (.ite (.ite h.seePins.proposeBack h.seePins) (.ite h.seePins.join (.ite h.seePins
    (.ite h.seePins.wakCount.setAside.join h.seePins.wakCount))))

theorem Dev.Follows.opCommitToken {t : Token} {d : Dev} (h : d₀.Follows d) : d₀.Follows (opCommitToken t d) := by
  unfold Machine.opCommitToken
  exact .ite h (.ite (.ite h.put.raise h) (.ite h.put.wr64.cancel.wakCount.passOn h))

theorem Dev.Follows.wakeSet {s : Nat} {d : Dev} (h : d₀.Follows d) : d₀.Follows (Dev.wakeSet s d) := by
  unfold Dev.wakeSet
  exact .each (fun _ _ h1 => h1.segWake) h

theorem Dev.Follows.opVetoToken {t : Token} {d : Dev} (h : d₀.Follows d) : d₀.Follows (opVetoToken t d) := by
  unfold Machine.opVetoToken
  exact .ite h (.through (fun h1 => .ite h1.raise.vetoed (.ite h1.wakCount.wakeSet (.ite h1.units.cancel h1))) h.wakCount.tokenOnce)

theorem Dev.Follows.opWakeToken {t : Token} {d : Dev} (h : d₀.Follows d) : d₀.Follows (opWakeToken t d) := by
  unfold Machine.opWakeToken
  exact .ite h (.wakeSet (.ite h.tokenOnce.wakCount h.tokenOnce))

theorem Dev.Follows.opCommitGuard {d : Dev} (h : d₀.Follows d) : d₀.Follows (opCommitGuard d) := by
  unfold Machine.opCommitGuard
  exact .ite h.atNs.veto h

theorem Dev.Follows.opConsTimeout {d : Dev} (h : d₀.Follows d) : d₀.Follows (opConsTimeout d) := by
  unfold Machine.opConsTimeout
  split
  · exact .onTimer (fun _ h1 => h1.units.wakCount.raise.sendVeto) h
  · exact .onTimer (fun _ h2 => h2.wakCount.raise.veto) h

theorem Dev.Follows.opConsentLost {pins : Nat} {d : Dev} (h : d₀.Follows d) : d₀.Follows (opConsentLost pins d) := by
  unfold Machine.opConsentLost
  exact .ite h.seePins.veto h.seePins

theorem Dev.Follows.sleepRecord {d : Dev} (h : d₀.Follows d) : d₀.Follows d.sleepRecord := by
  unfold Dev.sleepRecord
  exact h.put.put.put.wr64

theorem Dev.Follows.endCanTx {l : List CanCh} {d : Dev} (h : d₀.Follows d) : d₀.Follows (Dev.endCanTx l d) := by
  unfold Dev.endCanTx
  exact .each (fun _ _ h1 => h1.opCanTxDone) h

theorem Dev.Follows.mainOff {b : Base} {d : Dev} (h : d₀.Follows d) : d₀.Follows (Dev.mainOff b d) := by
  unfold Dev.mainOff
  exact h.clearMain.units.cancel.cancel.units.put.put

theorem Dev.Follows.copyTimings {d : Dev} (h : d₀.Follows d) : d₀.Follows d.copyTimings := by
  unfold Dev.copyTimings
  exact h.units

theorem Dev.Follows.opSleepDevice {d : Dev} (h : d₀.Follows d) : d₀.Follows (opSleepDevice d) := by
  unfold Machine.opSleepDevice
  exact .ite h (.armIn (.mainOff (.closeRound (.put (.sleepRecord (.copyTimings (.units (.each
    (fun _ _ h1 => h1.supenDelay) h.atNs.endCanTx))))))))

theorem Dev.Follows.ethSleep {p : Nat} {d : Dev} (h : d₀.Follows d) : d₀.Follows (Dev.ethSleep p d) := by
  unfold Dev.ethSleep
  exact .through (fun h1 => .ite h1 h1.drainOff) h.cancel.ethDown.cancel

theorem Dev.Follows.portSleep {p g : Nat} {d : Dev} (h : d₀.Follows d) : d₀.Follows (Dev.portSleep p g d) := by
  unfold Dev.portSleep
  exact .each (fun _ _ h1 => .ite h1.refreshPg.setIso h1.refreshPg) (.units (.ite h.ethSleep (.ite (.put (.canReturn (.dite
    (fun _ => h.opCanTxDone) (fun _ => h)))) h.linReturn.setLinAwait)))

theorem Dev.Follows.segSleep {g : Nat} {d : Dev} (h : d₀.Follows d) : d₀.Follows (Dev.segSleep g d) := by
  unfold Dev.segSleep
  exact .ite h (.raise (.each (fun _ _ h1 => h1.supenDelay) (.put (.each (fun _ _ h2 => h2.portSleep) h))))

theorem Dev.Follows.opSleepSet {d : Dev} (h : d₀.Follows d) : d₀.Follows (opSleepSet d) := by
  unfold Machine.opSleepSet
  exact .ite h (.syncMode (.each (fun _ _ h1 => h1.segSleep) h.atNs.sleepRecord.closeRound))

theorem Dev.Follows.seeWake {b : Nat} {d : Dev} (h : d₀.Follows d) : d₀.Follows (Dev.seeWake b d) := by
  unfold Dev.seeWake
  exact h.put

theorem Dev.Follows.wakeDecide {cause index kind fmt id : Nat} {d : Dev} (h : d₀.Follows d) :
    d₀.Follows (Dev.wakeDecide cause index kind fmt id d) := by
  unfold Dev.wakeDecide
  exact .through (fun h1 => .armIn (.put (.put (.ite h1.units.units.units.armIn h1.units.units)))) (.cancel (.cancel (.each
    (fun _ _ h2 => h2.setSupen) h.put.put.put.put.put.wr64)))

theorem Dev.Follows.wakeOff {src : WakeSrc} {cause index kind fmt id : Nat} {d : Dev} (h : d₀.Follows d) :
    d₀.Follows (Dev.wakeOff src cause index kind fmt id d) := by
  unfold Dev.wakeOff
  exact .ite h.seeWake (.ite h.units h.wakeDecide)

theorem Dev.Follows.enterListen {d : Dev} (h : d₀.Follows d) : d₀.Follows d.enterListen := by
  unfold Dev.enterListen
  exact h.units.units.put.armIn

theorem Dev.Follows.busActivity {src : WakeSrc} {index : Nat} {plain : Bool} {d : Dev} (h : d₀.Follows d) :
    d₀.Follows (Dev.busActivity src index plain d) := by
  unfold Dev.busActivity
  exact .through (fun h1 => .ite h1.wakeOff h1) (.ite h.enterListen h)

theorem Dev.Follows.portWake {p : Nat} {d : Dev} (h : d₀.Follows d) : d₀.Follows (Dev.portWake p d) := by
  unfold Dev.portWake
  split
  · exact .ite h.wakeSeen.segWake h
  · exact h

theorem Dev.Follows.opWakeDetect {src : WakeSrc} {d : Dev} (h : d₀.Follows d) : d₀.Follows (opWakeDetect src d) := by
  unfold Machine.opWakeDetect
  refine .ite h (.ite ?_ (.ite h.seeWake (.ite h.raise (.ite h.rejectTrig (.ite h.seeWake.rejectTrig (.through (fun h1 =>
    .ite h1 h1.rejectTrig) ?_))))))
  · split
    · exact h.wakeOff
    · exact h.wakeOff
    · exact h.wakeOff
    · exact h.busActivity
    · exact h.busActivity
    · exact h.busActivity
  · split
    · exact .through (fun h2 => .ite h2.segWake h2) h.units.wakeSeen
    · exact h.wakeSeen
    · exact h
    · exact h.portWake
    · exact h.portWake
    · exact h.portWake

theorem Dev.Follows.opListenFrame {chan : Decoder} {r : BusRecord} {d : Dev} (h : d₀.Follows d) :
    d₀.Follows (opListenFrame chan r d) := by
  unfold Machine.opListenFrame
  exact .ite h (.ite h.units.wakeOff h.units)

theorem Dev.Follows.opListenErrors {ch : CanCh} {d : Dev} (h : d₀.Follows d) : d₀.Follows (opListenErrors ch d) := by
  unfold Machine.opListenErrors
  exact .ite h h.units.wakeOff

theorem Dev.Follows.opListenEnergy {p : EthPort} {d : Dev} (h : d₀.Follows d) : d₀.Follows (opListenEnergy p d) := by
  unfold Machine.opListenEnergy
  exact .ite h.wakeOff h

theorem Dev.Follows.opListenTimeout {d : Dev} (h : d₀.Follows d) : d₀.Follows (opListenTimeout d) := by
  unfold Machine.opListenTimeout
  exact .onTimer (fun _ h1 => h1.units.put.add) h

theorem Dev.Follows.opHeldWake {d : Dev} (h : d₀.Follows d) : d₀.Follows (opHeldWake d) := by
  unfold Machine.opHeldWake
  split
  · exact .onTimer (fun _ h1 => h1.wakeDecide) h
  · exact h

theorem Dev.Follows.opSegWake {i : Initiator} {v : Word} {d : Dev} (h : d₀.Follows d) : d₀.Follows (opSegWake i v d) := by
  unfold Machine.opSegWake
  exact .access (fun _ h1 => .each (fun _ _ h2 => h2.segWake) h1) h

theorem Dev.Follows.opSegWakeLaunch {k : WakSlot} {d : Dev} (h : d₀.Follows d) : d₀.Follows (opSegWakeLaunch k d) := by
  unfold Machine.opSegWakeLaunch
  exact .launch (fun _ h1 => .each (fun _ _ h2 => h2.segWake) h1) h

theorem Dev.Follows.opSupenDelay {n : SupenIdx} {d : Dev} (h : d₀.Follows d) : d₀.Follows (opSupenDelay n d) := by
  unfold Machine.opSupenDelay
  exact .onTimer (fun _ h1 => h1.setSupen) h

theorem Dev.Follows.opSupenCmd {i : Initiator} {n : SupenIdx} {on : Bool} {d : Dev} (h : d₀.Follows d) :
    d₀.Follows (opSupenCmd i n on d) := by
  unfold Machine.opSupenCmd
  exact .write (fun _ h1 => .ite h1.put.setSupen h1.put) h

theorem Dev.Follows.pwrCommit {d : Dev} (h : d₀.Follows d) : d₀.Follows d.pwrCommit := by
  unfold Dev.pwrCommit
  exact .each (fun _ _ h1 => h1.setSupen) h

theorem Dev.Follows.dropRound {d : Dev} (h : d₀.Follows d) : d₀.Follows d.dropRound := by
  unfold Dev.dropRound
  exact .through (fun h1 => .ite h1 h1.closeRound) h.units.cancel

theorem Dev.Follows.wakReset {d : Dev} (h : d₀.Follows d) : d₀.Follows d.wakReset := by
  unfold Dev.wakReset
  exact .dropRound (.ite h h.veto)

end Sys2Proof.Machine
end

section
/-!
PROOF. The canonical form, the time and the outputs through the operations of Machine/Engine.lean: the commit engine and the fences.
-/

namespace Sys2Proof.Machine

variable {d₀ : Dev}

theorem Dev.Follows.commitIdle {pg : Nat} {d : Dev} (h : d₀.Follows d) : d₀.Follows (Dev.commitIdle pg d) := by
  unfold Dev.commitIdle
  exact h.modPg.put.cancel

theorem Dev.Follows.commitEnds {pg status reason : Nat} {d : Dev} (h : d₀.Follows d) :
    d₀.Follows (Dev.commitEnds pg status reason d) := by
  unfold Dev.commitEnds
  exact h.commitIdle.put.put.raise

theorem Dev.Follows.groupStat {status reason page : Nat} {d : Dev} (h : d₀.Follows d) :
    d₀.Follows (Dev.groupStat status reason page d) := by
  unfold Dev.groupStat
  exact h.put.put.put

theorem Dev.Follows.fenceEnds {pg : Nat} {f : Fence} {err : Bool} {d : Dev} (h : d₀.Follows d) :
    d₀.Follows (Dev.fenceEnds pg f err d) := by
  unfold Dev.fenceEnds
  exact .raise (.cancel (.ite h.modPg.put.put.put.capture h.modPg.put.put))

theorem Dev.Follows.fenceDrain {pg n : Nat} {d : Dev} (h : d₀.Follows d) : d₀.Follows (d.fenceDrain pg n) := by
  induction n generalizing d with
  | zero => exact h
  | succ n ih =>
    unfold Dev.fenceDrain
    split
    · exact h
    · exact .ite (ih h.fenceEnds) h

theorem Dev.Follows.fencesFail {pg : Nat} {bad : Fence → Bool} {d : Dev} (h : d₀.Follows d) : d₀.Follows (Dev.fencesFail pg bad d) := by
  unfold Dev.fencesFail
  exact h.modPg.fenceDrain

theorem Dev.Follows.allFencesFail {bad : Fence → Bool} {d : Dev} (h : d₀.Follows d) : d₀.Follows (Dev.allFencesFail bad d) := by
  unfold Dev.allFencesFail
  exact .each (fun _ _ h1 => h1.fencesFail) h

end Sys2Proof.Machine
end

section
/-!
PROOF. The canonical form, the time and the outputs through the operations of Machine/Cascade.lean: the cascade.
-/

namespace Sys2Proof.Machine

variable {d₀ : Dev}

theorem Dev.Follows.ctl {code : Nat} {m : Ctl} {d : Dev} (h : d₀.Follows d) : d₀.Follows (Dev.ctl code m d) := by
  unfold Dev.ctl
  exact h.countCtl.emit

theorem Dev.Follows.toMaster {d : Dev} (h : d₀.Follows d) : d₀.Follows d.toMaster.2 := by
  unfold Dev.toMaster
  refine .iteSnd h ?_
  split
  · next h1 => exact h.pathCode.ofSnd h1
  · next h2 => exact h.pathCode.ofSnd h2

theorem Dev.Follows.broadcast {m : Nat → Nat → Ctl} {d : Dev} (h : d₀.Follows d) : d₀.Follows (Dev.broadcast m d) := by
  unfold Dev.broadcast
  exact .each (fun _ _ h1 => h1.ctl) h.units

theorem Dev.Follows.ccStat {status reason : Nat} {d : Dev} (h : d₀.Follows d) : d₀.Follows (Dev.ccStat status reason d) := by
  unfold Dev.ccStat
  exact h.put.put

theorem Dev.Follows.ccFails {pages : List Nat} {reason : Nat} {d : Dev} (h : d₀.Follows d) : d₀.Follows (Dev.ccFails pages reason d) := by
  unfold Dev.ccFails
  exact .ite h (.through (fun h1 => .through (fun h2 => .ite h2.ccStat.count.raise h2.ccStat) (.ite h1 h1.groupStat)) (.each
    (fun _ _ h3 => h3.commitEnds) h))

theorem Dev.Follows.decideActs {k : CommitKey} {commit : Bool} {d : Dev} (h : d₀.Follows d) : d₀.Follows (Dev.decideActs k commit d) := by
  unfold Dev.decideActs
  exact .ite h.ccFails (.ite h (.each (fun _ _ h1 => h1.modPg) h))

theorem Dev.Follows.showOpen {d : Dev} (h : d₀.Follows d) : d₀.Follows d.showOpen := by
  unfold Dev.showOpen
  exact h.put

theorem Dev.Follows.decideKey {k : CommitKey} {commit : Bool} {d : Dev} (h : d₀.Follows d) : d₀.Follows (Dev.decideKey k commit d) := by
  unfold Dev.decideKey
  exact .through (fun h1 => .decideActs (.ite h1.broadcast h1.broadcast.armIn)) h.units.count.showOpen

theorem Dev.Follows.voteIn {v : Vote} {d : Dev} (h : d₀.Follows d) : d₀.Follows (Dev.voteIn v d) := by
  unfold Dev.voteIn
  split
  · exact .ite h.units.decideKey (.ite h.units.showOpen.decideKey (.ite h.units.showOpen.decideKey h.units.showOpen))
  · exact .ite h (.ite h.decideKey (.ite h.units.decideKey h.units))

theorem Dev.Follows.castVote {k : CommitKey} {vote : Nat} {d : Dev} (h : d₀.Follows d) : d₀.Follows (Dev.castVote k vote d) := by
  unfold Dev.castVote
  refine .ite h.voteIn ?_
  split
  · next h1 => exact (h.toMaster.ofSnd h1).ctl
  · next h2 => exact h.toMaster.ofSnd h2

theorem Dev.Follows.opVote {v : Vote} {d : Dev} (h : d₀.Follows d) : d₀.Follows (opVote v d) := by
  unfold Machine.opVote
  refine .ite h (.ite h.voteIn ?_)
  split
  · next h1 => exact (h.toMaster.ofSnd h1).ctl
  · next h2 => exact h.toMaster.ofSnd h2

theorem Dev.Follows.opDecide {x : Decide} {d : Dev} (h : d₀.Follows d) : d₀.Follows (opDecide x d) := by
  unfold Machine.opDecide
  exact .ite h (.decideActs (.each (fun _ _ h1 => h1.ctl) h.units))

theorem Dev.Follows.opCcDeadline {key : CommitKey} {d : Dev} (h : d₀.Follows d) : d₀.Follows (opCcDeadline key d) := by
  unfold Machine.opCcDeadline
  exact .ite h.atNs.decideKey h

theorem Dev.Follows.opDecideResend {d : Dev} (h : d₀.Follows d) : d₀.Follows (opDecideResend d) := by
  unfold Machine.opDecideResend
  refine .onTimer (fun _ h1 => .through (fun h2 => .ite h2.armIn h2) (.each (fun _ _ h3 => ?_) h1.units)) h
  split
  · exact h3.broadcast
  · exact h3

theorem Dev.Follows.opCcGuard {key : CommitKey} {d : Dev} (h : d₀.Follows d) : d₀.Follows (opCcGuard key d) := by
  unfold Machine.opCcGuard
  exact .ite h h.atNs.ccFails

theorem Dev.Follows.abortCommit {pg reason : Nat} {d : Dev} (h : d₀.Follows d) : d₀.Follows (Dev.abortCommit pg reason d) := by
  unfold Dev.abortCommit
  exact .ite h (.through (fun h1 => .through (fun h2 => .ite h2.ccStat.castVote h2) (.ite h1 h1.groupStat)) (.each
    (fun _ _ h3 => h3.commitEnds) h))

theorem Dev.Follows.setUpstream {code : Option Nat} {d : Dev} (h : d₀.Follows d) : d₀.Follows (Dev.setUpstream code d) := by
  unfold Dev.setUpstream
  exact .each (fun _ _ h1 => .ite h1.put h1.put) h

theorem Dev.Follows.masterChange {d : Dev} (h : d₀.Follows d) : d₀.Follows d.masterChange := by
  unfold Dev.masterChange
  exact .raise (.count (.each (fun _ _ h1 => h1.ccFails) h))

theorem Dev.Follows.lossArm {d : Dev} (h : d₀.Follows d) : d₀.Follows d.lossArm := by
  unfold Dev.lossArm
  exact h.armIn

theorem Dev.Follows.takeId {id : Nat} {d : Dev} (h : d₀.Follows d) : d₀.Follows (Dev.takeId id d) := by
  unfold Dev.takeId
  exact h.put.put.units

theorem Dev.Follows.noteGrant {uid i : Nat} {d : Dev} (h : d₀.Follows d) : d₀.Follows (Dev.noteGrant uid i d) := by
  unfold Dev.noteGrant
  exact h.units

theorem Dev.Follows.grantId {uid want : Nat} {d : Dev} (h : d₀.Follows d) : d₀.Follows (Dev.grantId uid want d).2 := by
  unfold Dev.grantId
  split
  · exact h
  · split
    · exact h.noteGrant
    · exact h

theorem Dev.Follows.askId {d : Dev} (h : d₀.Follows d) : d₀.Follows d.askId := by
  unfold Dev.askId
  refine .ite h (.ite ?_ ?_)
  · split
    · next h1 => exact (h.grantId.ofSnd h1).takeId.put
    · next h2 => exact h.grantId.ofSnd h2
  · split
    · exact h.ctl
    · exact h

theorem Dev.Follows.becomeMaster {d : Dev} (h : d₀.Follows d) : d₀.Follows d.becomeMaster := by
  unfold Dev.becomeMaster
  exact h.units.put.put.put.put.put.wr64.setUpstream.cancel.masterChange.askId

theorem Dev.Follows.follow {c : Nat} {h : Hello} {d : Dev} (hd : d₀.Follows d) :
    d₀.Follows (Dev.follow c h d) := by
  unfold Dev.follow
  exact .through (fun h1 => .ite (.ite h1.units.lossArm h1) h1.units.lossArm.masterChange.askId)
    (.setUpstream (.wr64 (.put (.put (.put (.put (.put (.ite hd.units.cancel.showOpen hd))))))))

theorem Dev.Follows.noMaster {d : Dev} (h : d₀.Follows d) : d₀.Follows d.noMaster := by
  unfold Dev.noMaster
  exact .through (fun h1 => .ite h1 h1.lossArm) h.put.put.put.put.wr64.setUpstream

theorem Dev.Follows.elect {d : Dev} (h : d₀.Follows d) : d₀.Follows d.elect := by
  unfold Dev.elect
  split
  · exact .ite (.ite h h.noMaster) h.follow
  · exact .ite h h.noMaster

theorem Dev.Follows.opHelloSend {d : Dev} (h : d₀.Follows d) : d₀.Follows (opHelloSend d) := by
  unfold Machine.opHelloSend
  exact .onTimer (fun _ h1 => .askId (.each (fun _ _ h2 => h2.ctl) (.ite h1.armIn.units h1.armIn))) h

theorem Dev.Follows.setPeer {code : Nat} {h : Hello} {d : Dev} (hd : d₀.Follows d) : d₀.Follows (Dev.setPeer code h d) := by
  unfold Dev.setPeer
  exact .ite hd.put.put.wr64 hd.put.put

theorem Dev.Follows.idClash {dev uid : Nat} {d : Dev} (h : d₀.Follows d) : d₀.Follows (Dev.idClash dev uid d) := by
  unfold Dev.idClash
  exact .ite h.units.put.put.count.raise h

theorem Dev.Follows.opHelloReceived {code : LinkCode} {h : Hello} {d : Dev} (hd : d₀.Follows d) :
    d₀.Follows (opHelloReceived code h d) := by
  unfold Machine.opHelloReceived
  exact .ite hd (.through (fun h1 => .elect (.ite h1.idClash h1)) (.ite hd.units.setPeer.idClash hd.units.setPeer))

theorem Dev.Follows.opMasterLoss {d : Dev} (h : d₀.Follows d) : d₀.Follows (opMasterLoss d) := by
  unfold Machine.opMasterLoss
  exact .onTimer (fun _ h1 => .ite h1 (.ite h1.units.noMaster.elect (.ite h1.becomeMaster h1))) h

theorem Dev.Follows.opIdReq {code : LinkCode} {uid : Word64} {want : Nat} {d : Dev} (h : d₀.Follows d) :
    d₀.Follows (opIdReq code uid want d) := by
  unfold Machine.opIdReq
  refine .ite h (.ite ?_ ?_)
  · split
    · next h1 => exact (h.grantId.ofSnd h1).ctl
    · next h2 => exact h.grantId.ofSnd h2
  · split
    · exact h
    · exact h.units.armIn.ctl

theorem Dev.Follows.opIdGrant {uid : Word64} {dev : Nat} {d : Dev} (h : d₀.Follows d) : d₀.Follows (opIdGrant uid dev d) := by
  unfold Machine.opIdGrant
  refine .ite h (.ite (.ite h h.takeId) ?_)
  split
  · exact h.noteGrant.ctl
  · exact h.noteGrant

theorem Dev.Follows.opIdRelease {uid : Word64} {d : Dev} (h : d₀.Follows d) : d₀.Follows (opIdRelease uid d) := by
  unfold Machine.opIdRelease
  exact .onTimer (fun _ h1 => h1.units) h

theorem Dev.Follows.opTimeSync {d : Dev} (h : d₀.Follows d) :
    d₀.Follows (opTimeSync d) := by
  unfold Machine.opTimeSync
  refine .onTimer (fun _ h1 => ?_) h
  dsimp only
  split
  · exact h1.armIn.ctl
  · exact h1.armIn

theorem Dev.Follows.opTimeReq {code : LinkCode} {t3 : Int} {d : Dev} (h : d₀.Follows d) : d₀.Follows (opTimeReq code t3 d) := by
  unfold Machine.opTimeReq
  exact .ite h h.ctl

theorem Dev.Follows.opTimeRsp {t1 t2 t3 t4 : Int} {d : Dev} (h : d₀.Follows d) : d₀.Follows (opTimeRsp t1 t2 t3 t4 d) := by
  unfold Machine.opTimeRsp
  split
  · exact h
  · exact .ite h (.through (fun h1 => .ite h1 (.ite h1.count h1.latchSample)) (.ite h.put.put h.put))

theorem Dev.Follows.cascadeStart {d : Dev} (h : d₀.Follows d) : d₀.Follows d.cascadeStart := by
  unfold Dev.cascadeStart
  exact .ite h h.armIn.armIn.lossArm

end Sys2Proof.Machine
end

section
/-!
PROOF. The canonical form, the time and the outputs through the operations of Machine/Reset.lean: the resets.
-/

namespace Sys2Proof.Machine

variable {d₀ : Dev}

theorem Dev.Follows.outcome {o : Nat} {d : Dev} (h : d₀.Follows d) : d₀.Follows (Dev.outcome o d) := by
  unfold Dev.outcome
  exact .ite h.put.put h

theorem Dev.Follows.mile {m : Nat} {d : Dev} (h : d₀.Follows d) : d₀.Follows (Dev.mile m d) := by
  unfold Dev.mile
  exact h.wr

theorem Dev.Follows.started {pg : Nat} {d : Dev} (h : d₀.Follows d) : d₀.Follows (Dev.started pg d) := by
  unfold Dev.started
  split
  · exact h
  · split
    · exact .ite h h.units
    · exact h.armIn
    · exact h.armIn
    · exact h.armIn.armIn
    · exact h.armIn
    · exact h.armIn
    · exact .ite h.cascadeStart h
    · exact h.ethBack
    · exact h.linBack
    · exact .ite h.hostBack h.hostGone
    · exact h.armIn
    · exact h

theorem Dev.Follows.freeUnit {pg : Nat} {d : Dev} (h : d₀.Follows d) : d₀.Follows (Dev.freeUnit pg d) := by
  unfold Dev.freeUnit
  exact h.put.put.modPg.cancel.started

theorem Dev.Follows.askRelease {pg : Nat} {d : Dev} (h : d₀.Follows d) : d₀.Follows (Dev.askRelease pg d) := by
  unfold Dev.askRelease
  exact .ite h.hostGone (.ite h.freeUnit h.modPg.armIn)

theorem Dev.Follows.opUnitResetEnd {pg : Nat} {d : Dev} (h : d₀.Follows d) : d₀.Follows (opUnitResetEnd pg d) := by
  unfold Machine.opUnitResetEnd
  exact .onTimer (fun _ h1 => h1.askRelease.refreshFrom) h

theorem Dev.Follows.showSupply {d : Dev} (h : d₀.Follows d) : d₀.Follows d.showSupply := by
  unfold Dev.showSupply
  exact .ite h h.put.put.put.put.put

theorem Dev.Follows.showRemaps {d : Dev} (h : d₀.Follows d) : d₀.Follows d.showRemaps := by
  unfold Dev.showRemaps
  exact .each (fun _ _ h1 => h1.put) (.each (fun _ _ h2 => h2.put.put.put) h)

theorem Dev.Follows.applyRecord {d : Dev} (h : d₀.Follows d) : d₀.Follows d.applyRecord := by
  unfold Dev.applyRecord
  exact .showRemaps (.put (.put (.units (.each (fun _ _ h1 => h1.setCoin) h))))

theorem Dev.Follows.releaseBegins {d : Dev} (h : d₀.Follows d) : d₀.Follows d.releaseBegins := by
  unfold Dev.releaseBegins
  exact .through (fun h1 => .syncMode (.refresh (.ite h1.raise h1))) (.armIn (.armIn (.applyRecord (.showSupply (.each
    (fun _ _ h2 => h2.freeUnit) h.units)))))

theorem Dev.Follows.assertionEnds {d : Dev} (h : d₀.Follows d) : d₀.Follows d.assertionEnds := by
  unfold Dev.assertionEnds
  exact .ite h h.releaseBegins

theorem Dev.Follows.opAssertionEnd {d : Dev} (h : d₀.Follows d) : d₀.Follows (opAssertionEnd d) := by
  unfold Machine.opAssertionEnd
  exact .onTimer (fun _ h1 => h1.assertionEnds) h

theorem Dev.Follows.cutOptionWrite {d : Dev} (h : d₀.Follows d) : d₀.Follows d.cutOptionWrite := by
  unfold Dev.cutOptionWrite
  exact .ite h h.units.cancel.units

theorem Dev.Follows.copyBytes {src dst n : Nat} {d : Dev} (h : d₀.Follows d) : d₀.Follows (d.copyBytes src dst n) := by
  unfold Dev.copyBytes
  refine .ite (.each (fun _ _ h1 => ?_) h) (.each (fun _ _ h1 => h1.wrByte) (h.stores id (NMap.wf_filter _) id))
  exact Dev.Follows.wrByte h1.units

theorem Dev.Follows.stopBankWrite {d : Dev} (h : d₀.Follows d) : d₀.Follows d.stopBankWrite := by
  unfold Dev.stopBankWrite
  exact .ite h h.cancel.copyBytes

theorem Dev.Follows.resetRollsBack {d : Dev} (h : d₀.Follows d) : d₀.Follows d.resetRollsBack := by
  unfold Dev.resetRollsBack
  exact .ite h h.put.put.put.units

theorem Dev.Follows.clearRecord {d : Dev} (h : d₀.Follows d) : d₀.Follows d.clearRecord := by
  unfold Dev.clearRecord
  exact .ite h h.units

theorem Dev.Follows.mainCleared {d : Dev} (h : d₀.Follows d) : d₀.Follows d.mainCleared := by
  unfold Dev.mainCleared
  exact .clearMain (.each (fun _ _ h1 => h1.releaseGpio) h.resetRollsBack.cutOptionWrite.stopBankWrite.dropRound)

theorem Dev.Follows.classD {cause : Nat} {d : Dev} (h : d₀.Follows d) : d₀.Follows (Dev.classD cause d) := by
  unfold Dev.classD
  exact .ite h (.armIn (.units (.put (.put (.put (.put (.clearRecord (.mainCleared (.ite h.outcome h)))))))))

theorem Dev.Follows.startFails {o : Nat} {d : Dev} (h : d₀.Follows d) : d₀.Follows (Dev.startFails o d) := by
  unfold Dev.startFails
  exact h.outcome.classD

theorem Dev.Follows.holdOff {d : Dev} (h : d₀.Follows d) : d₀.Follows d.holdOff := by
  unfold Dev.holdOff
  exact .ite h (.ite h.units h.units.add.put)

theorem Dev.Follows.latchWaiting {d : Dev} (h : d₀.Follows d) : d₀.Follows d.latchWaiting := by
  unfold Dev.latchWaiting
  exact .ite h h.put.put.put

theorem Dev.Follows.classP {cause : Nat} {d : Dev} (h : d₀.Follows d) : d₀.Follows (Dev.classP cause d) := by
  unfold Dev.classP
  exact h.clearMain.units.units.put.put.put.put.put.put.latchWaiting.armIn

theorem Dev.Follows.tcmCleared {b : Nat} {d : Dev} (h : d₀.Follows d) : d₀.Follows (d.tcmCleared b) :=
  h.stores id (NMap.wf_filter _) id

theorem Dev.Follows.braceStops {b : Nat} {d : Dev} (h : d₀.Follows d) : d₀.Follows (Dev.braceStops b d) := by
  unfold Dev.braceStops
  exact .units (.put (.cancel (.cancel (.cancel (.ite h.setDiag h)))))

theorem Dev.Follows.resetBrace {b cause : Nat} {d : Dev} (h : d₀.Follows d) : d₀.Follows (Dev.resetBrace b cause d) := by
  unfold Dev.resetBrace
  exact .ite h (.through (fun h1 => .refreshFrom (.ite h1.units.put.put h1.units.put.armIn)) (.count (.put (.put (.each
    (fun _ _ h2 => h2.wr) h.holdOff.braceStops.tcmCleared)))))

theorem Dev.Follows.updOver {reason : Nat} {d : Dev} (h : d₀.Follows d) : d₀.Follows (Dev.updOver reason d) := by
  unfold Dev.updOver
  exact h.cancel.cancel.put.put.put.put.put.put.units.syncMode

theorem Dev.Follows.updEnds {reason : Nat} {d : Dev} (h : d₀.Follows d) :
    d₀.Follows (Dev.updEnds reason d) := by
  unfold Dev.updEnds
  refine .ite h ?_
  dsimp only
  split
  · exact h.updOver.resetBrace
  · exact h.updOver

theorem Dev.Follows.guardAborts {reason : Nat} {d : Dev} (h : d₀.Follows d) : d₀.Follows (Dev.guardAborts reason d) := by
  unfold Dev.guardAborts
  exact .ite h.updEnds.raise h

theorem Dev.Follows.silence {d : Dev} (h : d₀.Follows d) : d₀.Follows d.silence := by
  unfold Dev.silence
  exact .through (fun h1 => .each (fun _ _ h2 => h2.setLinAwait) (.each (fun _ _ h3 => h3.setCanCur.put)
    (.ite h1.pcieDown.hostGone h1))) (.each (fun _ _ h4 => h4.vhDown) (.each (fun _ _ h5 => h5.ethDown) (.each
    (fun _ _ h6 => h6.releaseGpio) h)))

theorem Dev.Follows.dropStarts {d : Dev} (h : d₀.Follows d) : d₀.Follows d.dropStarts := by
  unfold Dev.dropStarts
  exact .each (fun _ _ h1 => h1.setGateRun) (.each (fun _ _ h2 => h2.setTas.tasShow) h)

theorem Dev.Follows.haltEntry {why : Nat} {d : Dev} (h : d₀.Follows d) : d₀.Follows (Dev.haltEntry why d) := by
  unfold Dev.haltEntry
  exact .ite h (.ite h.rejectTrig (.through (fun h1 => .through (fun h2 => .syncMode (.refresh (.dropStarts (.allFencesFail
    (.ite h2.groupStat h2))))) (.each (fun _ _ h3 => h3.commitEnds) (.put (.put
    (.ite h1.units.outcome h1.units))))) h.dropRound.guardAborts.silence))

theorem Dev.Follows.opFault {why : HaltReason} {d : Dev} (h : d₀.Follows d) : d₀.Follows (opFault why d) := by
  unfold Machine.opFault
  exact h.haltEntry

theorem Dev.Follows.opClassD {cause : ResetCause} {d : Dev} (h : d₀.Follows d) : d₀.Follows (opClassD cause d) := by
  unfold Machine.opClassD
  split
  · exact h
  · exact .ite h.classD (.ite h.rejectTrig h)
  · exact .ite h h.units.classD
  · exact h.classD

theorem Dev.Follows.opDevReset {i : Initiator} {v : Word} {d : Dev} (h : d₀.Follows d) : d₀.Follows (opDevReset i v d) := by
  unfold Machine.opDevReset
  exact .access (fun _ h1 => .ite h1.classD h1.badAccess) h

theorem Dev.Follows.opResetnLow {d : Dev} (h : d₀.Follows d) : d₀.Follows (opResetnLow d) := by
  unfold Machine.opResetnLow
  exact .ite h (.ite h.units.put h.units.classD)

theorem Dev.Follows.opResetnHigh {d : Dev} (h : d₀.Follows d) : d₀.Follows (opResetnHigh d) := by
  unfold Machine.opResetnHigh
  exact .ite h h.units.assertionEnds

theorem Dev.Follows.opDieTemp {celsius : Int} {d : Dev} (h : d₀.Follows d) : d₀.Follows (opDieTemp celsius d) := by
  unfold Machine.opDieTemp
  refine .onTimer (fun _ h1 => .ite (.ite h1.armIn.put.put.units.assertionEnds h1.armIn.put.put) (.through (fun h2 => .ite h2.units ?_)
    (.ite h1.armIn.put.put.raise h1.armIn.put.put))) h
  split
  · exact h2.units
  · exact .ite h2 h2.units.classD

theorem Dev.Follows.opReference {ppm : Int} {d : Dev} (h : d₀.Follows d) : d₀.Follows (opReference ppm d) := by
  unfold Machine.opReference
  exact .onTimer (fun _ h1 => .through (fun h2 => .ite h2 h2.haltEntry) (.ite h1.armIn h1.armIn.put.put)) h

theorem Dev.Follows.opLockLoss {d : Dev} (h : d₀.Follows d) : d₀.Follows (opLockLoss d) := by
  unfold Machine.opLockLoss
  exact .ite h h.put.put.units.armIn.refresh

theorem Dev.Follows.opRelock {ns : Nat} {d : Dev} (h : d₀.Follows d) : d₀.Follows (opRelock ns d) := by
  unfold Machine.opRelock
  split
  · exact h
  · exact .ite h h.at_.cancel.units.put.count.put.raise

theorem Dev.Follows.opLockLossEnd {d : Dev} (h : d₀.Follows d) : d₀.Follows (opLockLossEnd d) := by
  unfold Machine.opLockLossEnd
  exact .onTimer (fun _ h1 => .ite h1 h1.haltEntry) h

theorem Dev.Follows.locked1 {c : Clock} {d : Dev} (h : d₀.Follows d) : d₀.Follows (Dev.locked1 c d) := by
  unfold Dev.locked1
  exact .ite h h.put.units

theorem Dev.Follows.opClockStable {c : Clock} {d : Dev} (h : d₀.Follows d) : d₀.Follows (opClockStable c d) := by
  unfold Machine.opClockStable
  exact .ite h (.refresh (.each (fun _ _ h1 => h1.freeUnit) h.locked1.at_.put))

theorem Dev.Follows.opClockWait {pg : Nat} {d : Dev} (h : d₀.Follows d) : d₀.Follows (opClockWait pg d) := by
  unfold Machine.opClockWait
  exact .onTimer (fun _ h1 => .through (fun h2 => .ite h2.haltEntry h2) (.refreshFrom (.raise (.each (fun _ _ h3 => h3.put) h1.modPg)))) h

theorem Dev.Follows.opRootArray {d : Dev} (h : d₀.Follows d) : d₀.Follows (opRootArray d) := by
  unfold Machine.opRootArray
  exact .onTimer (fun _ h1 => h1.put) h

theorem Dev.Follows.opPowerOn {d : Dev} (h : d₀.Follows d) : d₀.Follows (opPowerOn d) := by
  unfold Machine.opPowerOn
  exact .ite h.classP (.ite h.rejectTrig h)

theorem Dev.Follows.opMainRails {d : Dev} (h : d₀.Follows d) : d₀.Follows (opMainRails d) := by
  unfold Machine.opMainRails
  exact .endTimer (fun _ h1 => .through (fun h2 => .assertionEnds (.put (.put (.ite
    (.ite h2.put h2) h2.put.put)))) h1.units.armIn.armIn) h

theorem Dev.Follows.opBrownOut {cause : BrownOutCause} {vmin : Nat} {d : Dev} (h : d₀.Follows d) :
    d₀.Follows (opBrownOut cause vmin d) := by
  unfold Machine.opBrownOut
  exact .ite h (.through (fun h1 => .armIn (.armIn (.units (.each (fun _ _ h2 => h2.cancel) (.ite h1.mainCleared h1.units))))) (.each
    (fun _ _ h3 => h3.setSupen) h))

theorem Dev.Follows.writeJournal {d : Dev} (h : d₀.Follows d) : d₀.Follows d.writeJournal := by
  unfold Dev.writeJournal
  split
  · exact h
  · exact h.put.put.put.put.wr64.put.put.units

theorem Dev.Follows.opJournal {d : Dev} (h : d₀.Follows d) : d₀.Follows (opJournal d) := by
  unfold Machine.opJournal
  exact .endTimer (fun _ h1 => h1.writeJournal) h

theorem Dev.Follows.opSupplyOff {d : Dev} (h : d₀.Follows d) : d₀.Follows (opSupplyOff d) := by
  unfold Machine.opSupplyOff
  exact .endTimer (fun _ h1 => h1.writeJournal.cancel.mainOff.units) h

theorem Dev.Follows.seeVsup {v : Nat} {d : Dev} (h : d₀.Follows d) : d₀.Follows (Dev.seeVsup v d) := by
  unfold Dev.seeVsup
  exact .ite h.units.showSupply h.units

theorem Dev.Follows.opCrank {mv10 : Nat} {d : Dev} (h : d₀.Follows d) : d₀.Follows (opCrank mv10 d) := by
  unfold Machine.opCrank
  exact .ite h (.through (fun h1 => .ite h1.raise h1) h.seeVsup.count)

theorem Dev.Follows.opOvervoltage {mv10 : Nat} {d : Dev} (h : d₀.Follows d) : d₀.Follows (opOvervoltage mv10 d) := by
  unfold Machine.opOvervoltage
  exact .ite h (.through (fun h1 => .ite h1.raise h1) h.seeVsup.count)

theorem Dev.Follows.opUvWarn {mv10 : Nat} {d : Dev} (h : d₀.Follows d) : d₀.Follows (opUvWarn mv10 d) := by
  unfold Machine.opUvWarn
  exact .ite h h.seeVsup.raise

end Sys2Proof.Machine
end

section
/-!
PROOF. The canonical form, the time and the outputs through the operations of Machine/TableDma.lean: the table rings.
-/

namespace Sys2Proof.Machine

variable {d₀ : Dev}

theorem Dev.Follows.writeBack {c op : Nat} {x : TblDesc} {status index : Nat} {res : Option (Nat × Nat)} {d : Dev} (h : d₀.Follows d) :
    d₀.Follows (Dev.writeBack c op x status index res d) := by
  unfold Dev.writeBack
  exact .ite h.fabWrite.put.fenceTook.raise h.fabWrite.put.fenceTook

theorem Dev.Follows.ringHalt {c op : Nat} {x : TblDesc} {d : Dev} (h : d₀.Follows d) : d₀.Follows (Dev.ringHalt c op x d) := by
  unfold Dev.ringHalt
  exact h.writeBack.put.put.put.raise

theorem Dev.Follows.dma {c op : Nat} {x : TblDesc} {f : Dev → Nat × Nat × Option (Nat × Nat) × Dev} {d : Dev}
    (hf : ∀ (t : Dev), d₀.Follows t → d₀.Follows (f t).2.2.2) (h : d₀.Follows d) :
    d₀.Follows (Dev.dma c op x f d) := by
  unfold Dev.dma
  exact .ite h (.ite h.writeBack (.ite h.ringHalt (.ite (.ringHalt (hf _ h)) (.writeBack (hf _ h)))))

theorem Dev.Follows.lockEnt {t i : Nat} {d : Dev} (h : d₀.Follows d) : d₀.Follows (Dev.lockEnt t i d) := by
  unfold Dev.lockEnt
  exact h.setEnt.units.showLocks.armIn

theorem Dev.Follows.unlockEnt {t i : Nat} {d : Dev} (h : d₀.Follows d) : d₀.Follows (Dev.unlockEnt t i d) := by
  unfold Dev.unlockEnt
  exact h.setEnt.lockOver

theorem Dev.Follows.opLockExpiry {t i : Nat} {d : Dev} (h : d₀.Follows d) : d₀.Follows (opLockExpiry t i d) := by
  unfold Machine.opLockExpiry
  exact .onTimer (fun _ h1 => h1.unlockEnt.count.raise) h

theorem Dev.Follows.pinWritten {t i : Nat} {d : Dev} (h : d₀.Follows d) : d₀.Follows (Dev.pinWritten t i d) := by
  unfold Dev.pinWritten
  exact .ite (.ite h.startPin h.cancel) h

theorem Dev.Follows.byKey {x : TblDesc} {lockMatters : Bool} {f : Nat → Dev → Nat × Nat × Option (Nat × Nat) × Dev} {d : Dev}
    (hf : ∀ (x1 : Nat) (t : Dev), d₀.Follows t → d₀.Follows (f x1 t).2.2.2) (h : d₀.Follows d) :
    d₀.Follows (Dev.byKey x lockMatters f d).2.2.2 := by
  unfold Dev.byKey
  refine .iteSnd3 h ?_
  split
  · exact h
  · exact .iteSnd3 h.tableUe (.iteSnd3 h (hf _ _ h))

theorem Dev.Follows.opTblInsert {c : Nat} {x : TblDesc} {d : Dev} (h : d₀.Follows d) : d₀.Follows (opTblInsert c x d) := by
  unfold Machine.opTblInsert
  refine .dma (fun _ h1 => .iteSnd3 h1 (.iteSnd3 h1 (.iteSnd3 h1.tableUe ?_))) h
  split
  · exact .iteSnd3 h1 h1
  · split
    · next h2 => exact (h1.insert h2).pinWritten
    · exact h1.raise

theorem Dev.Follows.opTblUpdate {c : Nat} {x : TblDesc} {d : Dev} (h : d₀.Follows d) : d₀.Follows (opTblUpdate c x d) := by
  unfold Machine.opTblUpdate
  exact .dma (fun _ h1 => .iteSnd3 h1 (.iteSnd3 h1 (.byKey (fun _ _ h2 => h2.rewrite.pinWritten) h1))) h

theorem Dev.Follows.opTblDelete {c : Nat} {x : TblDesc} {d : Dev} (h : d₀.Follows d) : d₀.Follows (opTblDelete c x d) := by
  unfold Machine.opTblDelete
  exact .dma (fun _ h1 => .byKey (fun _ _ h2 => h2.remove) h1) h

theorem Dev.Follows.opTblLookup {c : Nat} {x : TblDesc} {d : Dev} (h : d₀.Follows d) : d₀.Follows (opTblLookup c x d) := by
  unfold Machine.opTblLookup
  exact .dma (fun _ h1 => .byKey (fun _ _ h2 => h2) h1) h

theorem Dev.Follows.opTblReadIdx {c : Nat} {x : TblDesc} {d : Dev} (h : d₀.Follows d) : d₀.Follows (opTblReadIdx c x d) := by
  unfold Machine.opTblReadIdx
  exact .dma (fun _ h1 => .iteSnd3 h1 (.iteSnd3 h1.tableUe h1)) h

theorem Dev.Follows.opTblWriteIdx {c : Nat} {x : TblDesc} {d : Dev} (h : d₀.Follows d) : d₀.Follows (opTblWriteIdx c x d) := by
  unfold Machine.opTblWriteIdx
  exact .dma (fun _ h1 => .iteSnd3 h1 (.iteSnd3 h1 h1.rewrite)) h

theorem Dev.Follows.opTblReadLock {c : Nat} {x : TblDesc} {d : Dev} (h : d₀.Follows d) : d₀.Follows (opTblReadLock c x d) := by
  unfold Machine.opTblReadLock
  exact .dma (fun _ h1 => .byKey (fun _ _ h2 => .iteSnd3 h2 h2.lockEnt) h1) h

theorem Dev.Follows.opTblWriteUnlock {c : Nat} {x : TblDesc} {d : Dev} (h : d₀.Follows d) : d₀.Follows (opTblWriteUnlock c x d) := by
  unfold Machine.opTblWriteUnlock
  exact .dma (fun _ h1 => .iteSnd3 h1 (.iteSnd3 h1 (.byKey (fun _ _ h2 => .iteSnd3 h2.rewrite.pinWritten.unlockEnt h2) h1))) h

theorem Dev.Follows.opTblUnlock {c : Nat} {x : TblDesc} {d : Dev} (h : d₀.Follows d) : d₀.Follows (opTblUnlock c x d) := by
  unfold Machine.opTblUnlock
  exact .dma (fun _ h1 => .byKey (fun _ _ h2 => .iteSnd3 h2.unlockEnt h2) h1) h

theorem Dev.Follows.opTblFlush {c : Nat} {x : TblDesc} {d : Dev} (h : d₀.Follows d) : d₀.Follows (opTblFlush c x d) := by
  unfold Machine.opTblFlush
  exact .ite h (.ite h.writeBack (.ite h.ringHalt (.ite h.writeBack h.armIn.units)))

theorem Dev.Follows.opTblFlushDone {c : Nat} {d : Dev} (h : d₀.Follows d) : d₀.Follows (opTblFlushDone c d) := by
  unfold Machine.opTblFlushDone
  refine .endTimer (fun _ h1 => ?_) h
  split
  · exact h1
  · exact .ite h1.units.tableUe.ringHalt (.writeBack (.each (fun _ _ h2 => .ite h2.remove h2) h1.units))

theorem Dev.Follows.opTblEpoch {c : Nat} {x : TblDesc} {d : Dev} (h : d₀.Follows d) : d₀.Follows (opTblEpoch c x d) := by
  unfold Machine.opTblEpoch
  exact .dma (fun _ h1 => h1) h

theorem Dev.Follows.opTblResume {i : Initiator} {c : Nat} {d : Dev} (h : d₀.Follows d) : d₀.Follows (opTblResume i c d) := by
  unfold Machine.opTblResume
  exact .writeMixed (fun _ _ h1 => h1.put) h

theorem Dev.Follows.tblReset {d : Dev} (h : d₀.Follows d) : d₀.Follows d.tblReset := by
  unfold Dev.tblReset
  exact .each (fun _ _ h1 => h1.unlockEnt) (.units (.raise (.each (fun _ _ h2 => h2.put.put.put.cancel) h)))

end Sys2Proof.Machine
end

section
/-!
PROOF. The canonical form, the time and the outputs through the operations of Machine/Commit.lean: the commits.
-/

namespace Sys2Proof.Machine

variable {d₀ : Dev}

theorem Dev.Follows.shadowToLive {a : Nat} {d : Dev} (h : d₀.Follows d) : d₀.Follows (Dev.shadowToLive a d) := by
  unfold Dev.shadowToLive
  split
  · exact h.wr
  · exact h

theorem Dev.Follows.liveToShadow {a : Nat} {d : Dev} (h : d₀.Follows d) : d₀.Follows (Dev.liveToShadow a d) := by
  unfold Dev.liveToShadow
  split
  · exact h.wr
  · exact h

theorem Dev.Follows.dropRecords {pg : Nat} {d : Dev} (h : d₀.Follows d) : d₀.Follows (Dev.dropRecords pg d) := by
  unfold Dev.dropRecords
  split
  · exact h.units
  · exact h.units
  · exact h.units
  · exact h.units
  · exact h.units
  · exact h.units
  · exact h

theorem Dev.Follows.revert {pg : Nat} {d : Dev} (h : d₀.Follows d) : d₀.Follows (Dev.revert pg d) := by
  unfold Dev.revert
  exact .dropRecords (.each (fun _ _ h1 => h1.liveToShadow) h)

theorem Dev.Follows.beforeCopy {pg : Nat} {chs : List Nat} {d : Dev} (h : d₀.Follows d) : d₀.Follows (Dev.beforeCopy pg chs d) := by
  unfold Dev.beforeCopy
  split
  · exact h.units
  · exact .each (fun _ _ h1 => h1.creditPort) h
  · exact .each (fun _ _ h2 => h2.creditPort) h
  · exact h

theorem Dev.Follows.shaperStarts {chs : List Nat} {was : Nat → Nat → Bool} {d : Dev} (h : d₀.Follows d) :
    d₀.Follows (Dev.shaperStarts chs was d) := by
  unfold Dev.shaperStarts
  exact .each (fun _ _ h1 => .each (fun _ _ h2 => .ite h2.setCredit h2) h1) h

theorem Dev.Follows.afterCopy {pg : Nat} {chs : List Nat} {d was : Dev} (h : d₀.Follows d) : d₀.Follows (Dev.afterCopy pg chs d was) := by
  unfold Dev.afterCopy
  split
  · exact h
  · dsimp only
    split
    · exact .each (fun _ _ h1 => h1.acctChanged) h.tillChanged.pinChanged
    · exact .each (fun _ _ h2 => h2.acctChanged) h
    · exact .each (fun _ _ h3 => h3.spillCheck) h
    · exact .ite h.armIn h
    · exact h.trmCommit
    · exact h.trmCommit
    · exact h.trmCommit
    · exact .each (fun _ _ h4 => .ite h4 (.through (fun h5 => .ite h5.verifyStart h5) (.ite h4.tasCommit h4))) h
    · exact h.shaperStarts
    · exact h.shaperStarts
    · exact .ite h.srcCommitted h
    · exact .through (fun h6 => .ite h6.fcChanged h6) (.ite h.peerGone.revertStop h)
    · exact .ite h.lpiCommit.ethDown h.lpiCommit
    · exact .ite h.canCarve.canCfgWait h.canCarve
    · exact .ite h.schCommit h
    · exact h.motion
    · exact h.klwCommit
    · exact h.autCommit
    · exact h.pwrCommit
    · exact h.vhlCommit
    · exact h

theorem Dev.Follows.copyShadows {pg : Nat} {d : Dev} (h : d₀.Follows d) : d₀.Follows (Dev.copyShadows pg d) := by
  unfold Dev.copyShadows
  exact .afterCopy (.each (fun _ _ h1 => h1.shadowToLive) h.beforeCopy)

theorem Dev.Follows.commitPage {pg : Nat} {d : Dev} (h : d₀.Follows d) : d₀.Follows (Dev.commitPage pg d) := by
  unfold Dev.commitPage
  exact h.commitIdle.copyShadows.put.wrapInc.raise

theorem Dev.Follows.commitPages {pages : List Nat} {d : Dev} (h : d₀.Follows d) : d₀.Follows (Dev.commitPages pages d) := by
  unfold Dev.commitPages
  exact .through (fun h1 => .ite h1 h1.groupStat) (.each (fun _ _ h2 => h2.commitPage) h)

theorem Dev.Follows.refuse {pg reason : Nat} {i : Initiator} {off detail : Nat} {d : Dev} (h : d₀.Follows d) :
    d₀.Follows (Dev.refuse pg reason i off detail d) := by
  unfold Dev.refuse
  exact .capture (.raise (.ite h.put h.put.put))

theorem Dev.Follows.tooLate {pg : Nat} {i : Initiator} {v : Nat} {d : Dev} (h : d₀.Follows d) : d₀.Follows (Dev.tooLate pg i v d) := by
  unfold Dev.tooLate
  exact h.put.capture

theorem Dev.Follows.startCheck {i : Initiator} {pg cmd group t : Nat} {d : Dev} (h : d₀.Follows d) :
    d₀.Follows (Dev.startCheck i pg cmd group t d) := by
  unfold Dev.startCheck
  exact h.modPg.put.armIn

theorem Dev.Follows.commitWrite {i : Initiator} {pg group cmd : Nat} {f : Nat → Dev → Dev} {d : Dev}
    (hf : ∀ (x1 : Nat) (t : Dev), d₀.Follows t → d₀.Follows (f x1 t)) (h : d₀.Follows d) :
    d₀.Follows (Dev.commitWrite i pg group cmd f d) := by
  unfold Dev.commitWrite
  exact .ite h (.write (fun _ h1 => hf _ _ h1.put) h)

theorem Dev.Follows.commitCmd {i : Initiator} {pg group cmd : Nat} {d : Dev} (h : d₀.Follows d) :
    d₀.Follows (Dev.commitCmd i pg group cmd d) := by
  unfold Dev.commitCmd
  refine .commitWrite (fun _ _ h1 => ?_) h
  dsimp only
  split
  · exact h1.refuse
  · exact h1.startCheck

theorem Dev.Follows.opCommitNow {i : Initiator} {pg group : Nat} {d : Dev} (h : d₀.Follows d) :
    d₀.Follows (opCommitNow i pg group d) := by
  unfold Machine.opCommitNow
  exact h.commitCmd

theorem Dev.Follows.opCommitTimed {i : Initiator} {pg group : Nat} {d : Dev} (h : d₀.Follows d) :
    d₀.Follows (opCommitTimed i pg group d) := by
  unfold Machine.opCommitTimed
  exact h.commitCmd

theorem Dev.Follows.opCommitCascade {i : Initiator} {pg group : Nat} {d : Dev} (h : d₀.Follows d) :
    d₀.Follows (opCommitCascade i pg group d) := by
  unfold Machine.opCommitCascade
  exact h.commitCmd

theorem Dev.Follows.opCommitAbort {i : Initiator} {pg group : Nat} {d : Dev} (h : d₀.Follows d) :
    d₀.Follows (opCommitAbort i pg group d) := by
  unfold Machine.opCommitAbort
  exact .commitWrite (fun _ _ h1 => .ite h1.refuse (.ite h1.refuse (.ite h1.tooLate h1.abortCommit))) h

theorem Dev.Follows.opCommitRevert {i : Initiator} {pg group : Nat} {d : Dev} (h : d₀.Follows d) :
    d₀.Follows (opCommitRevert i pg group d) := by
  unfold Machine.opCommitRevert
  exact .commitWrite (fun _ _ h1 => .ite h1.refuse (.ite h1.refuse (.ite h1.refuse h1.revert))) h

theorem Dev.Follows.opCommitBad {i : Initiator} {pg group cmd : Nat} {d : Dev} (h : d₀.Follows d) :
    d₀.Follows (opCommitBad i pg group cmd d) := by
  unfold Machine.opCommitBad
  exact .ite h (.commitWrite (fun _ _ h1 => h1.refuse) h)

theorem Dev.Follows.passed {pages : List Nat} {d : Dev} (h : d₀.Follows d) : d₀.Follows (Dev.passed pages d) := by
  unfold Dev.passed
  exact .ite h.commitPages (.through (fun h1 => .through (fun h2 => .ite h2.ccStat.castVote h2) (.ite h1 h1.groupStat)) (.each
    (fun _ _ h3 => h3.modPg.put.put) h))

theorem Dev.Follows.memberRefuses {pages : List Nat} {pg reason : Nat} {i : Initiator} {off detail : Nat} {d : Dev} (h : d₀.Follows d) :
    d₀.Follows (Dev.memberRefuses pages pg reason i off detail d) := by
  unfold Dev.memberRefuses
  exact .through (fun h1 => .through (fun h2 => .ite h2.castVote h2) (.ite h1 h1.groupStat)) (.each
    (fun _ _ h3 => h3.commitIdle.refuse) h)

theorem Dev.Follows.opCheckDone {pg : Nat} {ue : Bool} {d : Dev} (h : d₀.Follows d) : d₀.Follows (opCheckDone pg ue d) := by
  unfold Machine.opCheckDone
  refine .endTimer (fun _ h1 => .ite h1.memberRefuses ?_) h
  split
  · exact h1.memberRefuses
  · exact .ite h1.modPg.passed h1.modPg

theorem Dev.Follows.opCommitLaunch {pg : Nat} {d : Dev} (h : d₀.Follows d) : d₀.Follows (opCommitLaunch pg d) := by
  unfold Machine.opCommitLaunch
  exact .ite h h.atNs.commitPages

theorem Dev.Follows.opCascadeExecute {key : CommitKey} {d : Dev} (h : d₀.Follows d) : d₀.Follows (opCascadeExecute key d) := by
  unfold Machine.opCascadeExecute
  exact .ite h h.atNs.commitPages.ccStat

theorem Dev.Follows.groupBad {d : Dev} (h : d₀.Follows d) : d₀.Follows d.groupBad := by
  unfold Dev.groupBad
  exact h.groupStat

theorem Dev.Follows.groupCmd {i : Initiator} {g cmd : Nat} {d : Dev} (h : d₀.Follows d) :
    d₀.Follows (Dev.groupCmd i g cmd d) := by
  unfold Dev.groupCmd
  refine .access (fun _ h1 => .ite h1.groupBad (.ite (.each (fun _ _ h2 => h2.refuse) h1.put) ?_)) h
  dsimp only
  split
  · refine .through (fun h2 => .ite h2.castVote h2) (.groupStat ?_)
    exact .each (fun _ _ h2 => h2.refuse) h1
  · exact .groupStat (.each (fun _ _ h2 => h2.startCheck) h1)

theorem Dev.Follows.opGrpNow {i : Initiator} {g : Nat} {d : Dev} (h : d₀.Follows d) : d₀.Follows (opGrpNow i g d) := by
  unfold Machine.opGrpNow
  exact h.groupCmd

theorem Dev.Follows.opGrpTimed {i : Initiator} {g : Nat} {d : Dev} (h : d₀.Follows d) : d₀.Follows (opGrpTimed i g d) := by
  unfold Machine.opGrpTimed
  exact h.groupCmd

theorem Dev.Follows.opGrpCascade {i : Initiator} {g : Nat} {d : Dev} (h : d₀.Follows d) : d₀.Follows (opGrpCascade i g d) := by
  unfold Machine.opGrpCascade
  exact h.groupCmd

theorem Dev.Follows.groupUnknown {i : Initiator} {g v : Nat} {d : Dev} (h : d₀.Follows d) : d₀.Follows (Dev.groupUnknown i g v d) := by
  unfold Dev.groupUnknown
  exact .access (fun _ h1 => .ite h1.groupBad (.each (fun _ _ h2 => h2.refuse) h1.groupStat)) h

theorem Dev.Follows.opGrpAbort {i : Initiator} {g : Nat} {d : Dev} (h : d₀.Follows d) : d₀.Follows (opGrpAbort i g d) := by
  unfold Machine.opGrpAbort
  refine .access (fun _ h1 => .ite h1.groupBad (.ite (.each (fun _ _ h2 => h2.refuse) h1.groupStat) ?_)) h
  split
  · exact .each (fun _ _ h3 => h3.tooLate) h1.put
  · exact .ite (.each (fun _ _ h4 => h4.tooLate) h1.put) (.through (fun h5 => .ite h5.groupStat.ccStat.castVote h5.groupStat) (.each
      (fun _ _ h6 => h6.commitEnds) h1))

theorem Dev.Follows.opGrpRevert {i : Initiator} {g : Nat} {d : Dev} (h : d₀.Follows d) :
    d₀.Follows (opGrpRevert i g d) := by
  unfold Machine.opGrpRevert
  refine .access (fun _ h1 => .ite h1.groupBad ?_) h
  dsimp only
  split
  · exact .each (fun _ _ h2 => h2.refuse) h1.groupStat
  · exact .each (fun _ _ h2 => h2.revert) h1

end Sys2Proof.Machine
end

section
/-!
PROOF. The canonical form, the time and the outputs through the operations of Machine/Braces.lean: the braces.
-/

namespace Sys2Proof.Machine

variable {d₀ : Dev}

theorem Dev.Follows.setBrc {f : Braces → Braces} {d : Dev} (h : d₀.Follows d) : d₀.Follows (Dev.setBrc f d) := by
  unfold Dev.setBrc
  exact h.units

theorem Dev.Follows.wdgStart {b : Nat} {d : Dev} (h : d₀.Follows d) : d₀.Follows (Dev.wdgStart b d) := by
  unfold Dev.wdgStart
  exact h.setBrc.armIn

theorem Dev.Follows.bracesGone {d : Dev} (h : d₀.Follows d) : d₀.Follows d.bracesGone := by
  unfold Dev.bracesGone
  exact .ite h.haltEntry h

theorem Dev.Follows.classB {b cause : Nat} {d : Dev} (h : d₀.Follows d) : d₀.Follows (Dev.classB b cause d) := by
  unfold Dev.classB
  exact .through (fun h1 => .bracesGone (.ite h1.updOver h1)) h.resetBrace

theorem Dev.Follows.activate {b : Nat} {d : Dev} (h : d₀.Follows d) : d₀.Follows (Dev.activate b d) := by
  unfold Dev.activate
  exact h.put.wdgStart.mile.refreshFrom

theorem Dev.Follows.releaseBraces {l : List Nat} {d : Dev} (h : d₀.Follows d) : d₀.Follows (Dev.releaseBraces l d) := by
  unfold Dev.releaseBraces
  exact .each (fun _ _ h1 => h1.askRelease.refreshFrom) h.units.armIn

theorem Dev.Follows.startResync {b : Nat} {d : Dev} (h : d₀.Follows d) : d₀.Follows (Dev.startResync b d) := by
  unfold Dev.startResync
  exact .ite h h.put.put.armIn

theorem Dev.Follows.testPassed {b : Nat} {d : Dev} (h : d₀.Follows d) : d₀.Follows (Dev.testPassed b d) := by
  unfold Dev.testPassed
  exact .ite h.armIn (.ite h.startResync (.ite (.each (fun _ _ h1 => h1.startResync) h.activate.setBrc) h.setBrc))

theorem Dev.Follows.testFailed {b : Nat} {d : Dev} (h : d₀.Follows d) : d₀.Follows (Dev.testFailed b d) := by
  unfold Dev.testFailed
  exact .through (fun h1 => .through (fun h2 => .bracesGone (.ite h2.setBrc (.ite (.ite h2.setBrc.releaseBraces h2.setBrc) (.each
    (fun _ _ h3 => h3.activate) h2.setBrc)))) (.refreshFrom (.ite h1.updOver h1))) h.put.put.raise

theorem Dev.Follows.opSelfTestDone {br : Brace} {failed : Word} {d : Dev} (h : d₀.Follows d) :
    d₀.Follows (opSelfTestDone br failed d) := by
  unfold Machine.opSelfTestDone
  exact .endTimer (fun _ h1 => .through (fun h2 => .ite h2.wr.testPassed h2.wr.testFailed) (.ite h1.setDiag h1)) h

theorem Dev.Follows.opClassBFill {br : Brace} {d : Dev} (h : d₀.Follows d) : d₀.Follows (opClassBFill br d) := by
  unfold Machine.opClassBFill
  exact .endTimer (fun _ h1 => h1.askRelease.refreshFrom) h

theorem Dev.Follows.copyTcm {src dst : Nat} {d : Dev} (h : d₀.Follows d) : d₀.Follows (Dev.copyTcm src dst d) := by
  unfold Dev.copyTcm
  exact .each (fun _ _ h1 => h1.wrByte) h.tcmCleared

theorem Dev.Follows.opResyncDone {br : Brace} {d : Dev} (h : d₀.Follows d) : d₀.Follows (opResyncDone br d) := by
  unfold Machine.opResyncDone
  exact .onTimer (fun _ h1 => h1.copyTcm.setBrc) h

theorem Dev.Follows.opSbOk {br : Brace} {d : Dev} (h : d₀.Follows d) : d₀.Follows (opSbOk br d) := by
  unfold Machine.opSbOk
  exact .ite h (.ite h.put.put.wdgStart.refreshFrom (.ite h.put.cancel.put.raise h.put))

theorem Dev.Follows.opStestRun {i : Initiator} {br : Brace} {d : Dev} (h : d₀.Follows d) : d₀.Follows (opStestRun i br d) := by
  unfold Machine.opStestRun
  exact .access (fun _ h1 => .ite h1.updateBusy (.ite h1 h1.braceStops.setDiag.armIn.refreshFrom)) h

theorem Dev.Follows.handover {old new cause : Nat} {d : Dev} (h : d₀.Follows d) : d₀.Follows (Dev.handover old new cause d) := by
  unfold Dev.handover
  exact h.braceStops.put.put.put.count.refreshFrom.refreshFrom.raise.raise

theorem Dev.Follows.faultHandover {old new cause bcause : Nat} {d : Dev} (h : d₀.Follows d) :
    d₀.Follows (Dev.faultHandover old new cause bcause d) := by
  unfold Dev.faultHandover
  exact h.handover.allFencesFail.semGone.classB

theorem Dev.Follows.opHandoverCmd {i : Initiator} {br : Brace} {v : Word} {d : Dev} (h : d₀.Follows d) :
    d₀.Follows (opHandoverCmd i br v d) := by
  unfold Machine.opHandoverCmd
  exact .access (fun _ h1 => .ite h1 (.ite (.ite h1.handover h1.rejectTrig) h1.put.setErr)) h

theorem Dev.Follows.braceFault {b cause bcause : Nat} {d : Dev} (h : d₀.Follows d) : d₀.Follows (Dev.braceFault b cause bcause d) := by
  unfold Dev.braceFault
  refine .ite h.classB ?_
  split
  · exact h.faultHandover
  · exact h.classD

theorem Dev.Follows.opMismatch {br : Brace} {group : Nat} {d : Dev} (h : d₀.Follows d) : d₀.Follows (opMismatch br group d) := by
  unfold Machine.opMismatch
  exact .ite h (.braceFault (.raise (.ite h.count h.count.put.put.wr64)))

theorem Dev.Follows.wdgExpires {b : Nat} {d : Dev} (h : d₀.Follows d) : d₀.Follows (Dev.wdgExpires b d) := by
  unfold Dev.wdgExpires
  exact .through (fun h1 => .ite h1.startFails h1.braceFault) h.cancel.count.raise

theorem Dev.Follows.opWdgExpiry {br : Brace} {d : Dev} (h : d₀.Follows d) : d₀.Follows (opWdgExpiry br d) := by
  unfold Machine.opWdgExpiry
  exact .onTimer (fun _ h1 => h1.wdgExpires) h

theorem Dev.Follows.opWdgKick {br : Brace} {v : Word} {d : Dev} (h : d₀.Follows d) : d₀.Follows (opWdgKick br v d) := by
  unfold Machine.opWdgKick
  exact .ite h (.ite h.wdgExpires h.setBrc.armIn)

theorem Dev.Follows.wdgWindow {b was : Nat} {d : Dev} (h : d₀.Follows d) : d₀.Follows (Dev.wdgWindow b was d) := by
  unfold Dev.wdgWindow
  split
  · exact h.arm
  · exact h

theorem Dev.Follows.classBAsked {i : Initiator} {b : Nat} {d : Dev} (h : d₀.Follows d) : d₀.Follows (Dev.classBAsked i b d) := by
  unfold Dev.classBAsked
  exact .ite (.ite h.handover.classB h.setErr) (.ite h h.classB)

theorem Dev.Follows.opClassBRequest {i : Initiator} {br : Brace} {d : Dev} (h : d₀.Follows d) : d₀.Follows (opClassBRequest i br d) := by
  unfold Machine.opClassBRequest
  exact .write (fun _ h1 => h1.classBAsked) h

theorem Dev.Follows.sweepBegins {d : Dev} (h : d₀.Follows d) : d₀.Follows d.sweepBegins := by
  unfold Dev.sweepBegins
  exact .ite h h.armIn

theorem Dev.Follows.opBraceSweep {d : Dev} (h : d₀.Follows d) : d₀.Follows (opBraceSweep d) := by
  unfold Machine.opBraceSweep
  exact .onPeriod (fun _ h1 => .ite h1.sweepBegins h1) h

theorem Dev.Follows.opBraceSweepNow {i : Initiator} {d : Dev} (h : d₀.Follows d) : d₀.Follows (opBraceSweepNow i d) := by
  unfold Machine.opBraceSweepNow
  exact .access (fun _ h1 => .ite h1.sweepBegins h1) h

theorem Dev.Follows.latent {x : SweepDiff} {d : Dev} (h : d₀.Follows d) : d₀.Follows (Dev.latent x d) := by
  unfold Dev.latent
  exact .raise (.ite h.count h.count.put.put.put)

theorem Dev.Follows.latentActs {b : Nat} {d : Dev} (h : d₀.Follows d) : d₀.Follows (Dev.latentActs b d) := by
  unfold Dev.latentActs
  split
  · exact h
  · exact .ite h.faultHandover (.ite h.classB h)

theorem Dev.Follows.opSweepDone {diffs : List SweepDiff} {d : Dev} (h : d₀.Follows d) : d₀.Follows (opSweepDone diffs d) := by
  unfold Machine.opSweepDone
  exact .endTimer (fun _ h1 => .through (fun h2 => .ite (.each (fun _ _ h3 => h3.latentActs) h2) h2) (.each
    (fun _ _ h4 => h4.latent) h1.wrapInc.put)) h

end Sys2Proof.Machine
end

section
/-!
PROOF. The canonical form, the time and the outputs through the operations of Machine/Start.lean: the start.
-/

namespace Sys2Proof.Machine

variable {d₀ : Dev}

theorem Dev.Follows.showOptions {v : OptVote} {d : Dev} (h : d₀.Follows d) : d₀.Follows (Dev.showOptions v d) := by
  unfold Dev.showOptions
  exact .put (.put (.put (.put (.put (.each (fun _ _ h1 => h1.wr) h)))))

theorem Dev.Follows.newRecord {cause count : Nat} {d : Dev} (h : d₀.Follows d) : d₀.Follows (Dev.newRecord cause count d) := by
  unfold Dev.newRecord
  exact .wr (.each (fun _ _ h1 => h1.wr) h)

theorem Dev.Follows.enterKennel {reason out : Nat} {d : Dev} (h : d₀.Follows d) : d₀.Follows (Dev.enterKennel reason out d) := by
  unfold Dev.enterKennel
  exact h.units.put.put.outcome

theorem Dev.Follows.optionsAct {d : Dev} (h : d₀.Follows d) : d₀.Follows d.optionsAct := by
  unfold Dev.optionsAct
  exact .through (fun h1 => .through (fun h2 => .showSupply (.ite h2.put.put.takeId h2.put.put)) (.ite h1.lateAlarm.lateRespond h1))
    (.ite h.put.put.put.put h.put.put.put)

theorem Dev.Follows.opOptionLoad {d : Dev} (h : d₀.Follows d) : d₀.Follows (opOptionLoad d) := by
  unfold Machine.opOptionLoad
  exact .onTimer (fun _ h1 => .through (fun h2 => .through (fun h3 => .through (fun h4 => .through (fun h5 => .syncMode (.refresh
    (.ite h5.units.raise h5))) (.ite h4.outcome h4)) (.ite h3.enterKennel (.ite h3.enterKennel h3))) (.newRecord (.put (.put (.mile
    (.units (.ite h2.raise h2))))))) h1.showOptions.optionsAct) h

theorem Dev.Follows.opCopyRepair {d : Dev} (h : d₀.Follows d) : d₀.Follows (opCopyRepair d) := by
  unfold Machine.opCopyRepair
  exact .endTimer (fun _ h1 => h1.units) h

theorem Dev.Follows.putBoth {f : FRef} {v : Nat} {d : Dev} (h : d₀.Follows d) : d₀.Follows (Dev.putBoth f v d) := by
  unfold Dev.putBoth
  exact h.put.put

theorem Dev.Follows.silencePorts {keep : Nat → Bool} {d : Dev} (h : d₀.Follows d) : d₀.Follows (Dev.silencePorts keep d) := by
  unfold Dev.silencePorts
  exact .each (fun _ _ h1 => h1.put) h

theorem Dev.Follows.flatProfile {d : Dev} (h : d₀.Follows d) :
    d₀.Follows d.flatProfile := by
  conv =>
    arg 2
    fun
    delta Dev.flatProfile
  extract_lets vid mask ports d1 d2 d3 d4 e
  have h1 : d₀.Follows d1 := h.silencePorts
  have h4 : d₀.Follows d4 := .each (fun _ _ h1 => h1.putBoth) h1.setEnt.setEnt
  clear_value d4 e
  split
  · next h5 => exact h4.insert h5
  · exact h4

theorem Dev.Follows.kennelProfile {d : Dev} (h : d₀.Follows d) : d₀.Follows d.kennelProfile := by
  unfold Dev.kennelProfile
  dsimp only
  split
  · exact h.putBoth.silencePorts.units
  · exact h.putBoth.flatProfile.units
  · exact h.putBoth

theorem Dev.Follows.kennelFlat {d : Dev} (h : d₀.Follows d) : d₀.Follows d.kennelFlat := by
  unfold Dev.kennelFlat
  exact h.put.kennelProfile.refresh

theorem Dev.Follows.opFillDone {d : Dev} (h : d₀.Follows d) : d₀.Follows (opFillDone d) := by
  unfold Machine.opFillDone
  exact .ite h (.refresh (.when (fun _ h1 => h1.releaseBraces) (.when (fun _ h2 => h2.armIn) (.each (fun _ _ h3 => h3.askRelease) (.when
    (fun _ h4 => h4.kennelProfile) h.units.put.put.raise.mile)))))

theorem Dev.Follows.joinReserve {n : Nat} {d : Dev} (h : d₀.Follows d) : d₀.Follows (Dev.joinReserve n d) := by
  unfold Dev.joinReserve
  exact h.units.put

theorem Dev.Follows.opReserveRow {coins : Nat} {last : Bool} {d : Dev} (h : d₀.Follows d) : d₀.Follows (opReserveRow coins last d) := by
  unfold Machine.opReserveRow
  exact .ite h (.through (fun h1 => .ite h1.put.mile h1) h.joinReserve)

theorem Dev.Follows.imageFails {out : Nat} {d : Dev} (h : d₀.Follows d) : d₀.Follows (Dev.imageFails out d) := by
  unfold Dev.imageFails
  exact .ite h.units.kennelFlat (.ite h.units.units.refresh h.units.startFails)

theorem Dev.Follows.opImageCheck {img : BankImage} {d : Dev} (h : d₀.Follows d) : d₀.Follows (opImageCheck img d) := by
  unfold Machine.opImageCheck
  exact .ite h (.ite h.put.imageFails h.units.put.mile.wr.put.put.put.refresh)

theorem Dev.Follows.loadEntry {e : Nat × Nat × Nat} {d : Dev} (h : d₀.Follows d) : d₀.Follows (Dev.loadEntry e d) := by
  unfold Dev.loadEntry
  refine .ite (.ite h ?_) (.ite (.ite h h.rewrite) h)
  split
  · next h1 => exact (h.insert h1).pinWritten
  · exact h

theorem Dev.Follows.stageShadow {e : Nat × Nat × Nat} {d : Dev} (h : d₀.Follows d) : d₀.Follows (Dev.stageShadow e d) := by
  unfold Dev.stageShadow
  dsimp only
  split
  · exact .ite h.wr h
  · exact h

theorem Dev.Follows.stageRecord {e : Nat × Nat × List Nat} {d : Dev} (h : d₀.Follows d) : d₀.Follows (Dev.stageRecord e d) := by
  unfold Dev.stageRecord
  exact h.units

theorem Dev.Follows.stagePath {e : Nat × Nat} {d : Dev} (h : d₀.Follows d) : d₀.Follows (Dev.stagePath e d) := by
  unfold Dev.stagePath
  exact h.units

theorem Dev.Follows.loadImage {img : StartImage} {d : Dev} (h : d₀.Follows d) : d₀.Follows (Dev.loadImage img d) := by
  unfold Dev.loadImage
  dsimp only
  split
  · exact .each (fun _ _ h1 => h1.refuse) (.each (fun _ _ h2 => h2.stagePath) (.each (fun _ _ h3 => h3.stageRecord) (.each
      (fun _ _ h4 => h4.stageShadow) (.each (fun _ _ h5 => h5.loadEntry) (.each (fun _ _ h6 => h6.wrBytes.wrBytes) h)))))
  · exact .commitPages (.each (fun _ _ h7 => h7.stagePath) (.each (fun _ _ h8 => h8.stageRecord) (.each (fun _ _ h9 => h9.stageShadow)
      (.each (fun _ _ h10 => h10.loadEntry) (.each (fun _ _ h11 => h11.wrBytes.wrBytes) h)))))

theorem Dev.Follows.bootTimers {d : Dev} (h : d₀.Follows d) : d₀.Follows d.bootTimers := by
  unfold Dev.bootTimers
  exact h.armIn.armIn

theorem Dev.Follows.opTablesLoaded {ok : Bool} {img : StartImage} {d : Dev} (h : d₀.Follows d) :
    d₀.Follows (opTablesLoaded ok img d) := by
  unfold Machine.opTablesLoaded
  exact .ite h (.ite h.imageFails (.through (fun h1 => .ite h1 h1.releaseBraces.bootTimers) h.loadImage.units.mile.refresh))

theorem Dev.Follows.opBootGood {i : Initiator} {v : Word} {d : Dev} (h : d₀.Follows d) : d₀.Follows (opBootGood i v d) := by
  unfold Machine.opBootGood
  exact .access (fun _ h1 => .ite h1.units.cancel.cancel.put.mile.syncMode.outcome (.ignoredErr (.ite h1.rejectTrig h1))) h

theorem Dev.Follows.opBootTimeout {d : Dev} (h : d₀.Follows d) : d₀.Follows (opBootTimeout d) := by
  unfold Machine.opBootTimeout
  exact .onTimer (fun _ h1 => .ite h1.startFails h1) h

theorem Dev.Follows.opBootHalf {d : Dev} (h : d₀.Follows d) : d₀.Follows (opBootHalf d) := by
  unfold Machine.opBootHalf
  exact .onTimer (fun _ h1 => h1.raise) h

theorem Dev.Follows.bootLimit {was : Nat} {d : Dev} (h : d₀.Follows d) :
    d₀.Follows (Dev.bootLimit was d) := by
  unfold Dev.bootLimit
  extract_lets ms d1
  have h1 : d₀.Follows d1 := by
    unfold d1
    split
    · exact h.arm
    · exact h
  split
  · exact h1.arm
  · exact h1

theorem Dev.Follows.opBootClr {i : Initiator} {v : Word} {d : Dev} (h : d₀.Follows d) : d₀.Follows (opBootClr i v d) := by
  unfold Machine.opBootClr
  exact .access (fun _ h1 => .ite h1.put h1.ignoredErr) h

theorem Dev.Follows.opOutCtl {i : Initiator} {v : Word} {d : Dev} (h : d₀.Follows d) : d₀.Follows (opOutCtl i v d) := by
  unfold Machine.opOutCtl
  exact .write (fun _ h1 => h1.put.put.units) h

theorem Dev.Follows.writeOptions {why : Nat} {img : List Byte} {d : Dev} (h : d₀.Follows d) :
    d₀.Follows (Dev.writeOptions why img d) := by
  unfold Dev.writeOptions
  exact h.units.put.armIn

theorem Dev.Follows.opOptionWrite {i : Initiator} {v : Word} {d : Dev} (h : d₀.Follows d) :
    d₀.Follows (opOptionWrite i v d) := by
  unfold Machine.opOptionWrite
  refine .access (fun _ h1 => .ite h1 ?_) h
  dsimp only
  split
  · exact h1.put
  · exact h1.writeOptions

end Sys2Proof.Machine
end

section
/-!
PROOF. The canonical form, the time and the outputs through the operations of Machine/Update.lean: the update.
-/

namespace Sys2Proof.Machine

variable {d₀ : Dev}

theorem Dev.Follows.updRefuse {reason : Nat} {d : Dev} (h : d₀.Follows d) : d₀.Follows (Dev.updRefuse reason d) := by
  unfold Dev.updRefuse
  exact h.put.raise

theorem Dev.Follows.setVerified {bank : Nat} {b : Bool} {d : Dev} (h : d₀.Follows d) : d₀.Follows (Dev.setVerified bank b d) := by
  unfold Dev.setVerified
  exact h.put

theorem Dev.Follows.updIdle {d : Dev} (h : d₀.Follows d) : d₀.Follows d.updIdle := by
  unfold Dev.updIdle
  exact h.put.put

theorem Dev.Follows.seeGuards {motion : Bool} {mv10 : Nat} {d : Dev} (h : d₀.Follows d) : d₀.Follows (Dev.seeGuards motion mv10 d) := by
  unfold Dev.seeGuards
  exact h.put.units

theorem Dev.Follows.guardStarts {reason : Nat} {d : Dev} (h : d₀.Follows d) : d₀.Follows (Dev.guardStarts reason d) := by
  unfold Dev.guardStarts
  exact .ite h h.guardAborts

theorem Dev.Follows.opGuardOnset {g : Guard} {d : Dev} (h : d₀.Follows d) : d₀.Follows (opGuardOnset g d) := by
  unfold Machine.opGuardOnset
  refine .ite h ?_
  split
  · exact .through (fun h1 => .ite h1.guardStarts h1) (.ite h.put h)
  · exact .ite h h.units.guardStarts
  · exact .ite h.guardStarts h
  · exact .ite h.guardStarts h
  · exact .ite h.guardStarts h

theorem Dev.Follows.opBankWrite {i : Initiator} {bank : Bool} {d : Dev} (h : d₀.Follows d) : d₀.Follows (opBankWrite i bank d) := by
  unfold Machine.opBankWrite
  exact .access (fun _ h1 => .ite h1.updRefuse (.ite h1.updRefuse (.ite h1.updRefuse
    (.ite h1.updRefuse h1.units.setVerified.put.put.armIn)))) h

theorem Dev.Follows.opBankWriteDone {ok : Bool} {d : Dev} (h : d₀.Follows d) : d₀.Follows (opBankWriteDone ok d) := by
  unfold Machine.opBankWriteDone
  refine .ite h (.through (fun h1 => .raise (.ite h1 h1.memUe.put)) (.updIdle (.stopBankWrite ?_)))
  split
  · exact .ite h.at_ h
  · exact h

theorem Dev.Follows.opBankVerify {i : Initiator} {bank : Bool} {d : Dev} (h : d₀.Follows d) : d₀.Follows (opBankVerify i bank d) := by
  unfold Machine.opBankVerify
  exact .access (fun _ h1 => .ite h1.updRefuse (.ite h1.updRefuse h1.units.put.put.armIn)) h

theorem Dev.Follows.opBankVerifyDone {img : BankImage} {d : Dev} (h : d₀.Follows d) : d₀.Follows (opBankVerifyDone img d) := by
  unfold Machine.opBankVerifyDone
  exact .endTimer (fun _ h1 => .raise (.ite (.through (fun h2 =>
    .ite h2.units h2.units) h1.updIdle.setVerified.wr) h1.updIdle.setVerified.put)) h

theorem Dev.Follows.opPrepare {i : Initiator} {motion : Bool} {mv10 : Nat} {d : Dev} (h : d₀.Follows d) :
    d₀.Follows (opPrepare i motion mv10 d) := by
  unfold Machine.opPrepare
  refine .access (fun _ h1 => .ite h1.seeGuards.rejectTrig ?_) h
  split
  · exact h1.seeGuards.updRefuse
  · split
    · exact h1.seeGuards.updRefuse
    · exact .through (fun h2 => .ite h2.updOver h2) h1.seeGuards.resetBrace.units.put.syncMode

theorem Dev.Follows.opPrepareCopy {code : List Byte} {d : Dev} (h : d₀.Follows d) : d₀.Follows (opPrepareCopy code d) := by
  unfold Machine.opPrepareCopy
  split
  · exact h
  · refine .endTimer (fun _ h1 => ?_) h
    split
    · exact h1.updEnds
    · exact h1.wrBytes.setBrc.wdgStart.armIn

theorem Dev.Follows.opStandbyTimeout {d : Dev} (h : d₀.Follows d) : d₀.Follows (opStandbyTimeout d) := by
  unfold Machine.opStandbyTimeout
  exact .onTimer (fun _ h1 => h1.updEnds) h

theorem Dev.Follows.opHandoverArm {i : Initiator} {ctl : Word} {d : Dev} (h : d₀.Follows d) : d₀.Follows (opHandoverArm i ctl d) := by
  unfold Machine.opHandoverArm
  refine .ite h (.write (fun _ h1 => .ite h1.setErr ?_) h)
  split
  · exact h1.updRefuse
  · exact .ite h1.armSlot.put h1.armSlot

theorem Dev.Follows.opHandoverLaunch {d : Dev} (h : d₀.Follows d) : d₀.Follows (opHandoverLaunch d) := by
  unfold Machine.opHandoverLaunch
  split
  · exact h
  · refine .ite h (.ite h.guardAborts (.launch (fun _ h1 => .armIn (.raise (.put ?_))) h))
    split
    · exact h1.handover.units.wr
    · exact h1.handover.units

theorem Dev.Follows.opUpdAbort {i : Initiator} {d : Dev} (h : d₀.Follows d) : d₀.Follows (opUpdAbort i d) := by
  unfold Machine.opUpdAbort
  refine .access (fun _ h1 => ?_) h
  split
  · exact h1.stopBankWrite.updIdle.put
  · exact h1.cancel.updIdle.put
  · exact .ite h1.updEnds h1.updRefuse

theorem Dev.Follows.opRestart {i : Initiator} {motion : Bool} {mv10 : Nat} {d : Dev} (h : d₀.Follows d) :
    d₀.Follows (opRestart i motion mv10 d) := by
  unfold Machine.opRestart
  refine .access (fun _ h1 => .ite h1.seeGuards.rejectTrig ?_) h
  split
  · exact h1.seeGuards.updRefuse
  · exact .ite h1.seeGuards.updRefuse h1.seeGuards.put.writeOptions

theorem Dev.Follows.opConfirm {i : Initiator} {v : Word} {d : Dev} (h : d₀.Follows d) : d₀.Follows (opConfirm i v d) := by
  unfold Machine.opConfirm
  exact .access (fun _ h1 => .ite h1 (.ite h1.updRefuse h1.writeOptions)) h

theorem Dev.Follows.confirmed {d : Dev} (h : d₀.Follows d) : d₀.Follows d.confirmed := by
  unfold Dev.confirmed
  exact h.cancel.put.put.put.put.put.units.put.raise.syncMode

theorem Dev.Follows.opOptionDone {ok : Bool} {d : Dev} (h : d₀.Follows d) :
    d₀.Follows (opOptionDone ok d) := by
  unfold Machine.opOptionDone
  refine .endTimer (fun t h1 => ?_) h
  have hw : d₀.Follows (if ok then (24, t) else t.free 16).2 := .iteSnd h1 h1.units
  extract_lets why
  split
  next x e he =>
  have h2 : d₀.Follows e := hw.ofSnd he
  extract_lets v w d3 d4
  have h4 : d₀.Follows d4 := Dev.Follows.put (.put h2.units) |>.raise
  clear_value why
  split
  · exact h4.confirmed
  · exact h4.put
  · exact h4.classD
  · exact h4.put.put
  · exact h4

theorem Dev.Follows.rollsBack {d : Dev} (h : d₀.Follows d) : d₀.Follows d.rollsBack := by
  unfold Dev.rollsBack
  exact h.put.put.put.put.units.classD

theorem Dev.Follows.opConfirmTimeout {d : Dev} (h : d₀.Follows d) : d₀.Follows (opConfirmTimeout d) := by
  unfold Machine.opConfirmTimeout
  refine .onTimer (fun _ h1 => ?_) h
  split
  · exact .ite h1.arm h1.rollsBack
  · exact h1.rollsBack

theorem Dev.Follows.opOlockSet {i : Initiator} {d : Dev} (h : d₀.Follows d) : d₀.Follows (opOlockSet i d) := by
  unfold Machine.opOlockSet
  exact .access (fun _ h1 => h1.put.put.guardStarts) h

theorem Dev.Follows.opOlockUnlock {i : Initiator} {d : Dev} (h : d₀.Follows d) : d₀.Follows (opOlockUnlock i d) := by
  unfold Machine.opOlockUnlock
  exact .access (fun _ h1 => .ite h1.updRefuse (.ite h1.put.put h1.updRefuse)) h

theorem Dev.Follows.opOlockClear {i : Initiator} {d : Dev} (h : d₀.Follows d) : d₀.Follows (opOlockClear i d) := by
  unfold Machine.opOlockClear
  exact .access (fun _ h1 => .ite h1.put h1) h

theorem Dev.Follows.updUnknown {i : Initiator} {d : Dev} (h : d₀.Follows d) : d₀.Follows (Dev.updUnknown i d) := by
  unfold Dev.updUnknown
  exact .access (fun _ h1 => h1.updRefuse) h

theorem Dev.Follows.updReset {i : Initiator} {d : Dev} (h : d₀.Follows d) : d₀.Follows (Dev.updReset i d) := by
  unfold Dev.updReset
  split
  · exact h.stopBankWrite.updIdle.put
  · exact h.cancel.updIdle.put
  · exact .ite h.updEnds h.ignoredErr

theorem Dev.Follows.codePort {p : Nat} {d : Dev} (h : d₀.Follows d) : d₀.Follows (Dev.codePort p d) := by
  unfold Dev.codePort
  exact h.cancel.ethDown.armIn.armIn.units

theorem Dev.Follows.codeNext {l : List Nat} {d : Dev} (h : d₀.Follows d) : d₀.Follows (Dev.codeNext l d) := by
  unfold Dev.codeNext
  split
  · exact h.codePort
  · exact h.units.put.raise

theorem Dev.Follows.opPhyCode {i : Initiator} {group : Nat} {motion : Bool} {mv10 : Nat} {d : Dev} (h : d₀.Follows d) :
    d₀.Follows (opPhyCode i group motion mv10 d) := by
  unfold Machine.opPhyCode
  refine .writeMixed (fun _ _ h1 => .through (fun h2 => .ite h2.updRefuse (.ite h2.updRefuse ?_)) h1.seeGuards.put) h
  split
  · exact h2.updRefuse
  · exact h2.units.put.put.codeNext

theorem Dev.Follows.codeDone {p : Nat} {d : Dev} (h : d₀.Follows d) : d₀.Follows (Dev.codeDone p d) := by
  unfold Dev.codeDone
  exact h.cancel.cancel.put.codeNext

theorem Dev.Follows.opPhyCodeDone {p : EthPort} {d : Dev} (h : d₀.Follows d) : d₀.Follows (opPhyCodeDone p d) := by
  unfold Machine.opPhyCodeDone
  exact .ite h.codeDone h

theorem Dev.Follows.opPhyCodeTimeout {p : EthPort} {d : Dev} (h : d₀.Follows d) : d₀.Follows (opPhyCodeTimeout p d) := by
  unfold Machine.opPhyCodeTimeout
  exact .ite (.onTimer (fun _ h1 => h1.codeDone) h) h

end Sys2Proof.Machine
end

section
/-!
PROOF. The canonical form, the time and the outputs through the operations of Machine/Launch.lean: the launches.
-/

namespace Sys2Proof.Machine

variable {d₀ : Dev}

theorem Dev.Follows.linPasses {ch : LinCh} {n : Nat} {d : Dev} (h : d₀.Follows d) : d₀.Follows (d.linPasses ch n) := by
  induction n generalizing d with
  | zero => exact h
  | succ n ih =>
    unfold Dev.linPasses
    split
    · exact .ite (ih h.opLinSlot) h
    · exact h

theorem Dev.Follows.runSlot {sl : Slot} {d : Dev} (h : d₀.Follows d) : d₀.Follows (Dev.runSlot sl d) := by
  unfold Dev.runSlot
  refine .ite h.opLaunchInHalt (.ite h.opSlotNone ?_)
  split
  · split
    · exact h.opGpioHigh
    · exact h.opGpioLow
    · exact h.opGpioToggle
    · exact h.opGpioPulse
    · exact h.opSlotMessage
  · exact h.opTimedDispatch
  · exact h.opSegWakeLaunch
  · exact h.opKalowPeriodic
  · exact h.opKeyChangeover
  · exact h.opHandoverLaunch
  · exact .ite h.opSleepDevice h.opSleepSet
  · exact h.linPasses
  · exact h

theorem Dev.Follows.runWaiting {w : Waiting} {d : Dev} (h : d₀.Follows d) : d₀.Follows (Dev.runWaiting w d) := by
  unfold Dev.runWaiting
  split
  · exact .ite h.opCascadeExecute h.opCommitLaunch
  · exact h.runSlot

theorem Dev.Follows.afterStep {d before : Dev} (h : d₀.Follows d) : d₀.Follows (d.afterStep before) := by
  unfold Dev.afterStep
  exact .ite h (.listsStepped (.each (fun _ _ h1 => h1.runWaiting) h))

theorem Dev.Follows.opSampleTaken {d : Dev} (h : d₀.Follows d) : d₀.Follows (opSampleTaken d) := by
  unfold Machine.opSampleTaken
  exact h.opSampleApply.afterStep

theorem Dev.Follows.opAdjStepped {i : Initiator} {d : Dev} (h : d₀.Follows d) : d₀.Follows (opAdjStepped i d) := by
  unfold Machine.opAdjStepped
  exact h.opAdjStep.afterStep

theorem Dev.Follows.opAdjSetTo {i : Initiator} {d : Dev} (h : d₀.Follows d) : d₀.Follows (opAdjSetTo i d) := by
  unfold Machine.opAdjSetTo
  exact h.opAdjSet.afterStep

end Sys2Proof.Machine
end

section
/-!
PROOF. The canonical form, the time and the outputs through the operations of Machine/Scrub.lean: the scrubber.
-/

namespace Sys2Proof.Machine

variable {d₀ : Dev}

theorem Dev.Follows.quarantine {c : Nat} {d : Dev} (h : d₀.Follows d) : d₀.Follows (Dev.quarantine c d) := by
  unfold Dev.quarantine
  exact .through (fun h1 => .ite h1.setCoin.tillChanged h1.setCoin) (.ite h.setPool.put h)

theorem Dev.Follows.withdraw {region unit : Nat} {d : Dev} (h : d₀.Follows d) : d₀.Follows (Dev.withdraw region unit d) := by
  unfold Dev.withdraw
  exact .through (fun h1 => .raise (.showRemaps (.ite h1.quarantine (.ite h1.quarantine h1)))) (.ite h h.units)

theorem Dev.Follows.remap {region unit : Nat} {d : Dev} (h : d₀.Follows d) : d₀.Follows (Dev.remap region unit d).2 := by
  unfold Dev.remap
  exact .iteSnd h h.units.showRemaps.raise

theorem Dev.Follows.opRowRemap {chan : Nat} {coins : List Nat} {d : Dev} (h : d₀.Follows d) : d₀.Follows (opRowRemap chan coins d) := by
  unfold Machine.opRowRemap
  exact .ite h (.ite h.units.units.showRemaps.raise (.raise (.each (fun _ _ h1 => h1.withdraw) h.units)))

theorem Dev.Follows.repairWrite {region unit : Nat} {d : Dev} (h : d₀.Follows d) : d₀.Follows (Dev.repairWrite region unit d) := by
  unfold Dev.repairWrite
  dsimp only
  split
  · exact .ite h.wroteUnits.setEnt h.wroteUnits
  · exact h.wroteUnits.units
  · exact .ite h.wroteUnits.wrBytes h.wroteUnits
  · exact .ite h.wroteUnits.wrBytes h.wroteUnits
  · exact h.wroteUnits

theorem Dev.Follows.repairsLost {d : Dev} (h : d₀.Follows d) : d₀.Follows d.repairsLost := by
  unfold Dev.repairsLost
  exact h.units.put.add.put.queueReset

theorem Dev.Follows.opRepair {hard mism : Bool} {d : Dev} (h : d₀.Follows d) : d₀.Follows (opRepair hard mism d) := by
  unfold Machine.opRepair
  dsimp only
  split
  · exact .ite h.repairsLost h
  · refine .ite (.ite h.repairsLost h) (.through (fun h1 => .ite h1 ?_) (.repairWrite (.put (.units (.ite h.repairsLost h)))))
    split
    · next h2 => exact h1.remap.ofSnd h2
    · next h3 => exact (h1.remap.ofSnd h3).withdraw

theorem Dev.Follows.passBegins {d : Dev} (h : d₀.Follows d) : d₀.Follows d.passBegins := by
  unfold Dev.passBegins
  exact h.units.put.put

theorem Dev.Follows.opScrubGo {i : Initiator} {d : Dev} (h : d₀.Follows d) : d₀.Follows (opScrubGo i d) := by
  unfold Machine.opScrubGo
  exact .access (fun _ h1 => .ite h1.put.setErr (.through (fun h2 => .ite h2.cancel h2.armIn) h1.units.put.passBegins)) h

theorem Dev.Follows.opScrubAbort {i : Initiator} {d : Dev} (h : d₀.Follows d) : d₀.Follows (opScrubAbort i d) := by
  unfold Machine.opScrubAbort
  exact .access (fun _ h1 => .ite h1.units h1) h

theorem Dev.Follows.opScrubPeriod {d : Dev} (h : d₀.Follows d) : d₀.Follows (opScrubPeriod d) := by
  unfold Machine.opScrubPeriod
  exact .ite (.onTimer (fun _ h1 => h1) h) (.onPeriod (fun _ h2 => .ite h2 h2.passBegins) h)

theorem Dev.Follows.poisonCoin {c count : Nat} {d : Dev} (h : d₀.Follows d) : d₀.Follows (Dev.poisonCoin c count d) := by
  unfold Dev.poisonCoin
  exact .ite h.units.count.raise h

theorem Dev.Follows.trmUnitLost {u : Nat} {d : Dev} (h : d₀.Follows d) : d₀.Follows (Dev.trmUnitLost u d) := by
  unfold Dev.trmUnitLost
  exact .ite h.trmLost (.ite h.trmLost (.ite h.trmLost (.ite (.ite h.gclStop h) h)))

theorem Dev.Follows.klwUnitLost {u : Nat} {d : Dev} (h : d₀.Follows d) : d₀.Follows (Dev.klwUnitLost u d) := by
  unfold Dev.klwUnitLost
  exact .ite h.descLost (.ite h.storeLost h)

theorem Dev.Follows.autUnitLost {u : Nat} {d : Dev} (h : d₀.Follows d) : d₀.Follows (Dev.autUnitLost u d) := by
  unfold Dev.autUnitLost
  exact .ite h.ctxLost (.ite h.slotLost (.ite h.units.raise h))

theorem Dev.Follows.scrubUe {region unit : Nat} {d : Dev} (h : d₀.Follows d) : d₀.Follows (Dev.scrubUe region unit d) := by
  unfold Dev.scrubUe
  refine .through (fun h1 => .ite h1.count h1.uncorrectable) ?_
  split
  · exact h.poisonCoin
  · exact h.poisonCoin
  · exact h.poisonCoin
  · exact h.mrLost
  · exact h.tableLost
  · exact h.trmUnitLost
  · exact h.klwUnitLost
  · exact h.autUnitLost
  · exact h

theorem Dev.Follows.scrubCe {region unit : Nat} {hard : Bool} {d : Dev} (h : d₀.Follows d) :
    d₀.Follows (Dev.scrubCe region unit hard d) := by
  unfold Dev.scrubCe
  refine .through (fun h1 => .ite h1 (.ite h1.units.units ?_)) h.correctable.units.wroteUnits
  split
  · next h2 => exact (h1.units.remap.ofSnd h2).units
  · next h3 => exact (h1.units.remap.ofSnd h3).raise

theorem Dev.Follows.opScrubRead {f : ScrubFind} {d : Dev} (h : d₀.Follows d) : d₀.Follows (opScrubRead f d) := by
  unfold Machine.opScrubRead
  refine .ite h (.ite (.ite h.units.units.scrubUe.raise h.units.units.scrubUe) ?_)
  split
  · exact h.units.scrubCe
  · exact h.units

theorem Dev.Follows.opScrubDone {d : Dev} (h : d₀.Follows d) : d₀.Follows (opScrubDone d) := by
  unfold Machine.opScrubDone
  exact .ite h (.through (fun h1 => .raise (.ite h1.wr.wr.wr64.put.put h1.wr.wr.wr64.put)) h.wr.wr.wr.wr.wr)

theorem Dev.Follows.scbReset {d : Dev} (h : d₀.Follows d) : d₀.Follows d.scbReset := by
  unfold Dev.scbReset
  exact h.put.cancel

theorem Dev.Follows.opCeThreshold {d : Dev} (h : d₀.Follows d) : d₀.Follows (opCeThreshold d) := by
  unfold Machine.opCeThreshold
  exact .onPeriod (fun _ h1 => .ite h1.units.raise h1.units) h

theorem Dev.Follows.opRecordClear {i : Initiator} {d : Dev} (h : d₀.Follows d) : d₀.Follows (opRecordClear i d) := by
  unfold Machine.opRecordClear
  exact .access (fun _ h1 => h1.units.put) h

theorem Dev.Follows.opInject {i : Initiator} {v : Word} {d : Dev} (h : d₀.Follows d) : d₀.Follows (opInject i v d) := by
  unfold Machine.opInject
  exact .ite h (.writeMixed (fun _ _ h1 => .ite h1.setErr h1.put.put.put) h)

end Sys2Proof.Machine
end

section
/-!
PROOF. The canonical form, the time and the outputs through the operations of Machine/Pages.lean: the page controls.
-/

namespace Sys2Proof.Machine

variable {d₀ : Dev}

theorem Dev.Follows.fwdReset {d : Dev} (h : d₀.Follows d) : d₀.Follows d.fwdReset := by
  unfold Dev.fwdReset
  exact h.units

theorem Dev.Follows.unitCleared {pg : Nat} {d : Dev} (h : d₀.Follows d) : d₀.Follows (Dev.unitCleared pg d) := by
  unfold Dev.unitCleared
  split
  · exact h
  · split
    · exact h.wakReset
    · exact h.timReset
    · exact h.vltUnitReset
    · exact h.fwdReset
    · exact h.lrnReset
    · exact h.tblReset
    · exact h.ethReset
    · exact h.phyReset
    · exact h.canReset
    · exact h.linReset
    · exact h.klwReset
    · exact h.dumpReset
    · exact h.autAbort
    · exact h.keyReset
    · exact h.sigReset
    · exact h.scbReset
    · exact h.hbrReset
    · exact h.vhlReset
    · exact h

theorem Dev.Follows.unitReset {pg : Nat} {d : Dev} (h : d₀.Follows d) : d₀.Follows (Dev.unitReset pg d) := by
  unfold Dev.unitReset
  exact h.holdOff.abortCommit.fencesFail.allFencesFail.unitCleared.put.put.armIn.refreshFrom

theorem Dev.Follows.resetAsked {i : Initiator} {pg : Nat} {d : Dev} (h : d₀.Follows d) : d₀.Follows (Dev.resetAsked i pg d) := by
  unfold Dev.resetAsked
  split
  · exact h
  · exact .ite h.ignoredErr (.ite h.classBAsked (.ite h.updReset (.ite (.ite h.modPg.askRelease.refreshFrom h) h.unitReset)))

theorem Dev.Follows.opUnitReset {i : Initiator} {pg : Nat} {d : Dev} (h : d₀.Follows d) : d₀.Follows (opUnitReset i pg d) := by
  unfold Machine.opUnitReset
  exact .ite h (.write (fun _ h1 => h1.resetAsked) h)

theorem Dev.Follows.setEnable {pg : Nat} {en : Bool} {d : Dev} (h : d₀.Follows d) : d₀.Follows (Dev.setEnable pg en d) := by
  unfold Dev.setEnable
  exact h.put.refreshFrom

theorem Dev.Follows.opPgEnable {i : Initiator} {pg : Nat} {en : Bool} {d : Dev} (h : d₀.Follows d) :
    d₀.Follows (opPgEnable i pg en d) := by
  unfold Machine.opPgEnable
  exact .ite h (.write (fun _ h1 => h1.setEnable) h)

theorem Dev.Follows.isolate {k : PgKind} {pg n : Nat} {d : Dev} (h : d₀.Follows d) : d₀.Follows (Dev.isolate k pg n d) := by
  unfold Dev.isolate
  refine .through (fun h1 => .ite h1.modPg.setIso h1.modPg) ?_
  split
  · exact h.put.isoEth
  · exact h.put.isoCan
  · exact h.put.isoLin
  · exact h.put.isoVhl
  · exact h.put

theorem Dev.Follows.isolateAsked {i : Initiator} {pg : Nat} {d : Dev} (h : d₀.Follows d) : d₀.Follows (Dev.isolateAsked i pg d) := by
  unfold Dev.isolateAsked
  split
  · exact h
  · exact .ite h (.ite h.put.modPg (.ite h.rejectTrig (.ite h.updateBusy h.isolate)))

theorem Dev.Follows.opIsolate {i : Option Initiator} {pg : Nat} {d : Dev} (h : d₀.Follows d) : d₀.Follows (opIsolate i pg d) := by
  unfold Machine.opIsolate
  split
  · exact .write (fun _ h1 => h1.isolateAsked) h
  · exact .ite h.isolateAsked h

theorem Dev.Follows.returning {pg : Nat} {d : Dev} (h : d₀.Follows d) : d₀.Follows (Dev.returning pg d) := by
  unfold Dev.returning
  exact h.put.modPg.setIso

theorem Dev.Follows.opIsolationDone {pg : Nat} {d : Dev} (h : d₀.Follows d) : d₀.Follows (opIsolationDone pg d) := by
  unfold Machine.opIsolationDone
  exact .ite h (.ite h.setIso.returning h.setIso)

theorem Dev.Follows.returnAsked {pg : Nat} {d : Dev} (h : d₀.Follows d) : d₀.Follows (Dev.returnAsked pg d) := by
  unfold Dev.returnAsked
  split
  · exact h.put.modPg
  · exact h.returning
  · exact h.put

theorem Dev.Follows.opReturn {i : Initiator} {pg : Nat} {d : Dev} (h : d₀.Follows d) : d₀.Follows (opReturn i pg d) := by
  unfold Machine.opReturn
  exact .ite h (.write (fun _ h1 => h1.returnAsked) h)

theorem Dev.Follows.unitBack {pg : Nat} {d : Dev} (h : d₀.Follows d) : d₀.Follows (Dev.unitBack pg d) := by
  unfold Dev.unitBack
  split
  · exact h
  · split
    · exact h.ethReturn
    · exact .ite h h.drainOff
    · exact h.drainOff.linBack
    · exact h.vhlBack
    · exact h

theorem Dev.Follows.opReturnDone {pg : Nat} {d : Dev} (h : d₀.Follows d) : d₀.Follows (opReturnDone pg d) := by
  unfold Machine.opReturnDone
  exact .ite h h.setIso.units.unitBack.refreshFrom.syncMode

theorem Dev.Follows.setLast {pg : Nat} {i : Initiator} {v : Nat × Nat × Nat} {d : Dev} (h : d₀.Follows d) :
    d₀.Follows (Dev.setLast pg i v d) := by
  unfold Dev.setLast
  exact h.modPg

theorem Dev.Follows.fenceRefused {i : Initiator} {pg kind q : Nat} {d : Dev} (h : d₀.Follows d) :
    d₀.Follows (Dev.fenceRefused i pg kind q d) := by
  unfold Dev.fenceRefused
  exact h.setLast.capture

theorem Dev.Follows.fence {i : Initiator} {pg kind q : Nat} {d : Dev} (h : d₀.Follows d) : d₀.Follows (Dev.fence i pg kind q d) := by
  unfold Dev.fence
  exact .ite h.fenceRefused (.through (fun h1 => .ite h1.fencesFail h1) (.armIn (.setLast (.modPg (.ite h.units h)))))

theorem Dev.Follows.fenceWrite {i : Initiator} {pg kind q : Nat} {d : Dev} (h : d₀.Follows d) :
    d₀.Follows (Dev.fenceWrite i pg kind q d) := by
  unfold Dev.fenceWrite
  exact .ite h (.access (fun _ h1 => h1.fence) h)

theorem Dev.Follows.opFenceConfig {i : Initiator} {pg : Nat} {d : Dev} (h : d₀.Follows d) : d₀.Follows (opFenceConfig i pg d) := by
  unfold Machine.opFenceConfig
  exact h.fenceWrite

theorem Dev.Follows.opFenceTable {i : Initiator} {pg : Nat} {d : Dev} (h : d₀.Follows d) : d₀.Follows (opFenceTable i pg d) := by
  unfold Machine.opFenceTable
  exact h.fenceWrite

theorem Dev.Follows.opFenceBridge {i : Initiator} {pg : Nat} {d : Dev} (h : d₀.Follows d) : d₀.Follows (opFenceBridge i pg d) := by
  unfold Machine.opFenceBridge
  exact h.fenceWrite

theorem Dev.Follows.opFenceTime {i : Initiator} {pg : Nat} {d : Dev} (h : d₀.Follows d) : d₀.Follows (opFenceTime i pg d) := by
  unfold Machine.opFenceTime
  exact h.fenceWrite

theorem Dev.Follows.opFenceQueue {i : Initiator} {pg q : Nat} {d : Dev} (h : d₀.Follows d) : d₀.Follows (opFenceQueue i pg q d) := by
  unfold Machine.opFenceQueue
  exact h.fenceWrite

theorem Dev.Follows.opFenceRefused {i : Initiator} {pg : Nat} {v : Word} {d : Dev} (h : d₀.Follows d) :
    d₀.Follows (opFenceRefused i pg v d) := by
  unfold Machine.opFenceRefused
  exact .ite h h.fenceWrite

theorem Dev.Follows.opFenceComplete {pg : Nat} {d : Dev} (h : d₀.Follows d) : d₀.Follows (opFenceComplete pg d) := by
  unfold Machine.opFenceComplete
  split
  · exact h
  · exact .ite h.fenceEnds.fenceDrain h

theorem Dev.Follows.opFenceTimeout {pg : Nat} {d : Dev} (h : d₀.Follows d) : d₀.Follows (opFenceTimeout pg d) := by
  unfold Machine.opFenceTimeout
  split
  · exact h
  · exact .onTimer (fun _ h1 => h1.fencesFail) h

theorem Dev.Follows.opIrqEn {i : Initiator} {pg : Nat} {v : Word} {d : Dev} (h : d₀.Follows d) : d₀.Follows (opIrqEn i pg v d) := by
  unfold Machine.opIrqEn
  exact .ite h (.access (fun _ h1 => h1.irqWrite) h)

theorem Dev.Follows.sendMsgTo {dest : MsgDest} {pg : Nat} {d : Dev} (h : d₀.Follows d) : d₀.Follows (Dev.sendMsgTo dest pg d) := by
  unfold Dev.sendMsgTo
  split
  · exact .ite h.emit h
  · exact .ite h.sendMsix h

theorem Dev.Follows.msgReset {dest : MsgDest} {d : Dev} (h : d₀.Follows d) : d₀.Follows (Dev.msgReset dest d) := by
  unfold Dev.msgReset
  exact .each (fun _ _ h1 => h1.sendMsgTo) h.queueReset

theorem Dev.Follows.opIrqSet {i : Initiator} {pg : Nat} {v : Word} {mism : Option MsgDest} {d : Dev} (h : d₀.Follows d) :
    d₀.Follows (opIrqSet i pg v mism d) := by
  unfold Machine.opIrqSet
  refine .ite h (.access (fun _ h1 => .irqWrite ?_) h)
  split
  · exact h1.msgReset
  · exact h1

theorem Dev.Follows.opIrqClear {i : Initiator} {pg : Nat} {v : Word} {d : Dev} (h : d₀.Follows d) : d₀.Follows (opIrqClear i pg v d) := by
  unfold Machine.opIrqClear
  exact .ite h (.access (fun _ h1 => h1.irqWrite) h)

theorem Dev.Follows.lockKey {i : Initiator} {pg : Nat} {v : Word} {d : Dev} (h : d₀.Follows d) : d₀.Follows (Dev.lockKey i pg v d) := by
  unfold Dev.lockKey
  exact .ite (.ite h h.setPg.put) (.ite h.setPg.put h.setPg.lockViol)

theorem Dev.Follows.opPgLock {i : Initiator} {pg : Nat} {v : Word} {d : Dev} (h : d₀.Follows d) : d₀.Follows (opPgLock i pg v d) := by
  unfold Machine.opPgLock
  exact .ite h (.access (fun _ h1 => h1.lockKey) h)

end Sys2Proof.Machine
end

section
/-!
PROOF. The canonical form, the time and the outputs through the operations of Machine/Router.lean: the register router.
-/

namespace Sys2Proof.Machine

variable {d₀ : Dev}

theorem Dev.Follows.ignored {i : Initiator} {pg off : Nat} {v : Word} {d : Dev} (h : d₀.Follows d) :
    d₀.Follows (Dev.ignored i pg off v d) := by
  unfold Dev.ignored
  exact h.capture

theorem Dev.Follows.ignoredLive {i : Initiator} {pg off : Nat} {v : Word} {d : Dev} (h : d₀.Follows d) :
    d₀.Follows (Dev.ignoredLive i pg off v d) := by
  unfold Dev.ignoredLive
  exact h.ignored.raise

theorem Dev.Follows.plainWrite {i : Initiator} {a : Nat} {v : Word} {d : Dev} (h : d₀.Follows d) :
    d₀.Follows (Dev.plainWrite i a v d) := by
  unfold Dev.plainWrite
  split
  · exact h
  · exact .ite h.wr.ignoredLive h.wr

theorem Dev.Follows.shadowWrite {i : Initiator} {pg off : Nat} {v : Word} {d : Dev} (h : d₀.Follows d) :
    d₀.Follows (Dev.shadowWrite i pg off v d) := by
  unfold Dev.shadowWrite
  dsimp only
  split
  · exact h
  · exact .ite h.lockViol (.ite h.ignoredLive h.wr)

theorem Dev.Follows.hold {f : FRef} {lo hi : Nat} {d : Dev} (h : d₀.Follows d) : d₀.Follows (Dev.hold f lo hi d) := by
  unfold Dev.hold
  exact h.put

theorem Dev.Follows.ctrlWrite {i : Initiator} {pg : Nat} {v : Word} {d : Dev} (h : d₀.Follows d) :
    d₀.Follows (Dev.ctrlWrite i pg v d) := by
  unfold Dev.ctrlWrite
  exact .through (fun h1 => .through (fun h2 => .ite h2.resetAsked h2) (.ite h1 (.ite h1.isolateAsked h1.returnAsked)))
    (.ite h h.setEnable)

theorem Dev.Follows.commitReg {i : Initiator} {pg : Nat} {v : Word} {d : Dev} (h : d₀.Follows d) :
    d₀.Follows (Dev.commitReg i pg v d) := by
  unfold Dev.commitReg
  dsimp only
  split
  · exact h.opCommitNow
  · exact h.opCommitTimed
  · exact h.opCommitCascade
  · exact h.opCommitAbort
  · exact h.opCommitRevert
  · exact h.opCommitBad

theorem Dev.Follows.headerWrite {i : Initiator} {pg off : Nat} {v : Word} {d : Dev} (h : d₀.Follows d) :
    d₀.Follows (Dev.headerWrite i pg off v d) := by
  unfold Dev.headerWrite
  split
  · exact .ite h.lockViol h.ctrlWrite
  · exact h.commitReg
  · exact .ite h.lockViol (.ite h.ignoredLive h.wr)
  · exact .ite h.lockViol (.ite h.ignoredLive h.wr)
  · exact h.opIrqClear
  · exact h.opIrqEn
  · exact h.opIrqSet
  · exact h.fence
  · exact h.lockKey
  · exact h.plainWrite

theorem Dev.Follows.slotWrite {i : Initiator} {sl : Slot} {v : Word} {d : Dev} (h : d₀.Follows d) :
    d₀.Follows (Dev.slotWrite i sl v d) := by
  unfold Dev.slotWrite
  exact .ite (.ite h.opHandoverArm h.opSlotArm) h.opSlotDisarm

theorem Dev.Follows.windowCmd {i : Initiator} {w : Window} {v : Word} {d : Dev} (h : d₀.Follows d) :
    d₀.Follows (Dev.windowCmd i w v d) := by
  unfold Dev.windowCmd
  dsimp only
  split
  · exact h.opStreamRead
  · exact h.opStreamStage
  · exact h.opStreamCounters
  · exact h.opSgRead
  · exact h.opSgWrite
  · exact h.opRecoveryRead
  · exact h.opRecoveryStage
  · exact h.opRecoveryCounters
  · exact h.opGclRead
  · exact h.opGclWrite
  · exact h.opKlwRead
  · exact h.opKlwStage
  · exact h.opKlwSlotRead
  · exact h.opKlwSlotWrite
  · exact h.opCtxRead
  · exact h.opCtxStage
  · exact h.opCtxCounters
  · exact h.opCtxLatch
  · exact h.opChangeoverNow
  · exact h.winRefuse
  · exact h.opChgRead
  · exact h.opChgWrite
  · exact h.opLinSchRead
  · exact h.opLinSchWrite
  · exact h.opPathRead
  · exact h.opPathStage
  · exact h

theorem Dev.Follows.sysWrite {i : Initiator} {off : Nat} {v : Word} {d : Dev} (h : d₀.Follows d) :
    d₀.Follows (Dev.sysWrite i off v d) := by
  unfold Dev.sysWrite
  split
  · dsimp only
    split
    · exact h.opGrpNow
    · exact h.opGrpTimed
    · exact h.opGrpCascade
    · exact h.opGrpAbort
    · exact h.opGrpRevert
    · exact h.groupUnknown
  · exact h.opDevReset
  · exact h.plainWrite.hold
  · exact h.plainWrite

theorem Dev.Follows.aonWrite {i : Initiator} {k : PgKind} {a : Nat} {v : Word} {d : Dev} (h : d₀.Follows d) :
    d₀.Follows (Dev.aonWrite i k a v d) := by
  unfold Dev.aonWrite
  dsimp only
  split
  · split
    · exact h.opBootGood
    · exact h.opBootClr
    · exact h.opOutCtl
    · exact .ite h.plainWrite.hold.bootLimit h.plainWrite
  · exact .ite h.opOptionWrite h.plainWrite
  · exact .through (fun h1 => .ite h1.opSupenCmd h1) h.plainWrite
  · refine .ite ?_ (.ite h.opSegWake (.ite h.seeHold.plainWrite.seeHold (.ite h.slotWrite h.plainWrite)))
    split
    · exact h.opRoundStart
    · exact h.opVetoCmd
    · exact h
  · exact h.plainWrite

theorem Dev.Follows.timWrite {i : Initiator} {a : Nat} {v : Word} {d : Dev} (h : d₀.Follows d) : d₀.Follows (Dev.timWrite i a v d) := by
  unfold Dev.timWrite
  refine .ite h.opSampleSubmit (.ite ?_ (.ite h.opTsqCapSel (.ite (.ite h.opTsqCapClear h) (.ite h.opGpioOwn (.ite h.slotWrite (.ite
    (.through (fun h1 => .ite h1.put h1) h.plainWrite) h.plainWrite))))))
  split
  · exact h.opAdjStepped
  · exact h.opAdjSetTo
  · exact h.opAdjRate
  · exact h

theorem Dev.Follows.coreWrite {i : Initiator} {k : PgKind} {a : Nat} {v : Word} {d : Dev} (h : d₀.Follows d) :
    d₀.Follows (Dev.coreWrite i k a v d) := by
  unfold Dev.coreWrite
  dsimp only
  split
  · exact .through (fun h1 => .ite (.ite h1.hold.opWalkStart h1.hold) h1) h.plainWrite
  · exact .ite h.opVoqSel h.plainWrite
  · exact .ite h.opTraceArm h.plainWrite
  · exact .through (fun h2 => .ite h2.opSweepNow h2) h.plainWrite
  · exact .through (fun h3 => .ite (.ite h3.opTblResume (.ite h3.hold h3)) (.ite h3.hold h3)) h.plainWrite
  · exact .ite h.windowCmd h.plainWrite
  · exact .ite h.windowCmd h.plainWrite
  · exact .ite h.windowCmd h.plainWrite
  · exact .ite h.opCbsSel h.plainWrite
  · exact .ite h.windowCmd h.plainWrite
  · exact h.plainWrite

theorem Dev.Follows.linkWrite {i : Initiator} {k : PgKind} {n a : Nat} {v : Word} {d : Dev} (h : d₀.Follows d) :
    d₀.Follows (Dev.linkWrite i k n a v d) := by
  unfold Dev.linkWrite
  dsimp only
  split
  · exact .ite (.through (fun h1 => .ite h1.opLdgClear h1) (.ite h.opLdgSnap h)) h.plainWrite
  · exact .ite (.through (fun h2 => .ite h2.opDiagAbort h2) (.ite h.opDiagRun h)) h.plainWrite
  · refine .ite (.ite h.opBoffRestart h) (.ite h.opRxfPop (.ite ?_ (.ite h.opMrAccess (.ite (.through (fun h3 => .canTrxWait
      (.ite h3.put h3)) h.plainWrite) (.ite h.slotWrite h.plainWrite)))))
    split
    · exact h.opObjLock
    · exact h.opObjRelease
    · exact h
  · exact .ite h.windowCmd (.ite (.ite h.opLinPop h) h.plainWrite)
  · exact .ite h.windowCmd h.plainWrite
  · exact h.plainWrite

theorem Dev.Follows.klwWrite {i : Initiator} {k : PgKind} {a : Nat} {v : Word} {d : Dev} (h : d₀.Follows d) :
    d₀.Follows (Dev.klwWrite i k a v d) := by
  unfold Dev.klwWrite
  split
  · exact .ite h.windowCmd h.plainWrite
  · refine .ite ?_ h.plainWrite
    split
    · exact h.opStoreRead
    · exact h.opStoreForce
    · exact h
  · exact .ite h.windowCmd h.plainWrite
  · exact .ite (.through (fun h1 => .ite h1.opDumpGo h1) (.ite h.opDumpResume h)) (.through (fun h2 => .ite (.ite h2.cancel h2.dumpArm)
      (.ite h2.hold h2)) h.plainWrite)
  · exact h.plainWrite

theorem Dev.Follows.secWrite {i : Initiator} {k : PgKind} {a : Nat} {v : Word} {d : Dev} (h : d₀.Follows d) :
    d₀.Follows (Dev.secWrite i k a v d) := by
  unfold Dev.secWrite
  split
  · exact .ite h.windowCmd (.ite h.windowCmd (.ite h.opEngFailClear h.plainWrite))
  · refine .ite (.ite h.opKeyBad (.ite ?_ h.keyCommand)) (.ite (.ite h.opProvClose h) ?_)
    · split
      next h1 => exact (h.freeBytes.ofSnd h1).keyCommand
    · exact .through (fun h1 => .ite h1.recShow h1) h.plainWrite
  · exact .ite h.opTamperEnable (.ite h.opLatchClear (.through (fun h1 => .ite h1.logShow h1) h.plainWrite))
  · refine .ite (.ite h.ignoredErr ?_) (.ite ?_ ?_)
    · refine .through (fun h1 => .ite ?_ h1) h.plainWrite
      split
      next h2 => exact (h1.freeBytes.ofSnd h2).opSigGo
    · split
      · exact h.opAnchWrite
      · exact h.opAnchRevoke
      · exact h
    · exact .through (fun h1 => .ite h1.anchShow h1) h.plainWrite
  · exact h.plainWrite

theorem Dev.Follows.brcWrite {i : Initiator} {n a : Nat} {v : Word} {d : Dev} (h : d₀.Follows d) :
    d₀.Follows (Dev.brcWrite i n a v d) := by
  unfold Dev.brcWrite
  exact .ite h.opHandoverCmd (.ite (.ite h.opStestRun h) (.ite (.ite h.opBraceSweepNow h) (.through (fun h1 => .ite h1.wdgWindow (.ite
    (.ite h1.hold.armIn h1.hold) h1)) h.plainWrite)))

theorem Dev.Follows.careWrite {i : Initiator} {k : PgKind} {a : Nat} {v : Word} {d : Dev} (h : d₀.Follows d) :
    d₀.Follows (Dev.careWrite i k a v d) := by
  unfold Dev.careWrite
  dsimp only
  split
  · exact .ite (.ite h.opRecordClear h) (.ite h.opInject h.plainWrite)
  · exact .ite (.through (fun h1 => .ite h1.opScrubGo h1) (.ite h.opScrubAbort h)) h.plainWrite
  · exact .ite (.ite h.opSemRelease h) (.ite (.ite h.opHostResume h) h.plainWrite)
  · refine .ite ?_ (.ite h.slotWrite (.ite h.opConfirm (.ite (.through (fun h2 => .through (fun h3 => .ite h3.opOlockClear h3)
      (.ite h2.opOlockUnlock h2)) (.ite h.opOlockSet h)) (.ite (.through (fun h4 => .ite h4.opPhyCode h4) h.plainWrite) (.through
      (fun h5 => .ite h5.hold h5) h.plainWrite)))))
    split
    · exact h.opBankWrite
    · exact h.opBankVerify
    · exact h.opPrepare
    · exact h.opRestart
    · exact h.opUpdAbort
    · exact h.updUnknown
  · exact h.plainWrite

theorem Dev.Follows.kindWrite {i : Initiator} {k : PgKind} {n a : Nat} {v : Word} {d : Dev} (h : d₀.Follows d) :
    d₀.Follows (Dev.kindWrite i k n a v d) := by
  unfold Dev.kindWrite
  split
  · exact h.sysWrite
  · exact h.aonWrite
  · exact h.aonWrite
  · exact h.aonWrite
  · exact h.aonWrite
  · exact h.timWrite
  · exact h.coreWrite
  · exact h.coreWrite
  · exact h.coreWrite
  · exact h.coreWrite
  · exact h.coreWrite
  · exact h.coreWrite
  · exact h.coreWrite
  · exact h.coreWrite
  · exact h.coreWrite
  · exact h.coreWrite
  · exact h.linkWrite
  · exact h.linkWrite
  · exact h.linkWrite
  · exact h.linkWrite
  · exact h.linkWrite
  · exact h.klwWrite
  · exact h.klwWrite
  · exact h.klwWrite
  · exact h.klwWrite
  · exact h.secWrite
  · exact h.secWrite
  · exact h.secWrite
  · exact h.secWrite
  · exact h.brcWrite
  · exact h.careWrite
  · exact h.careWrite
  · exact h.careWrite
  · exact h.careWrite
  · exact h.plainWrite

theorem Dev.Follows.blockWrite {i : Initiator} {k : PgKind} {n a : Nat} {r : RegRow} {v : Word} {d : Dev} (h : d₀.Follows d) :
    d₀.Follows (Dev.blockWrite i k n a r v d) := by
  unfold Dev.blockWrite
  exact .ite (.ite h.lockViol.kindWrite h.lockViol) (.ite h.ignored h.kindWrite)

theorem Dev.Follows.regWrite {i : Initiator} {a : Nat} {v : Word} {d : Dev} (h : d₀.Follows d) : d₀.Follows (Dev.regWrite i a v d) := by
  unfold Dev.regWrite
  split
  · exact .ite h.headerWrite (.ite h.shadowWrite h.blockWrite)
  · exact h.badAccess

theorem Dev.Follows.busWrite {i : Initiator} {a : Nat} {v : Word} {d : Dev} (h : d₀.Follows d) : d₀.Follows (Dev.busWrite i a v d) := by
  unfold Dev.busWrite
  split
  · exact .ite h.opWdgKick (.ite (.ite h.opSbOk h) (.access (fun _ h1 => h1.regWrite) h))
  · exact .access (fun _ h2 => h2.regWrite) h

theorem Dev.Follows.opShadowWrite {i : Initiator} {pg off : Nat} {v : Word} {d : Dev} (h : d₀.Follows d) :
    d₀.Follows (opShadowWrite i pg off v d) := by
  unfold Machine.opShadowWrite
  exact .ite h.busWrite h

theorem Dev.Follows.opLiveWrite {i : Initiator} {pg off : Nat} {v : Word} {d : Dev} (h : d₀.Follows d) :
    d₀.Follows (opLiveWrite i pg off v d) := by
  unfold Machine.opLiveWrite
  split
  · exact .ite h.busWrite h
  · exact h

theorem Dev.Follows.opRegisterWrite {i : Initiator} {pg off : Nat} {v : Word} {d : Dev} (h : d₀.Follows d) :
    d₀.Follows (opRegisterWrite i pg off v d) := by
  unfold Machine.opRegisterWrite
  exact .ite h.busWrite h

theorem Dev.Follows.opUnmapped {i : Initiator} {addr : Nat} {write narrow : Bool} {d : Dev} (h : d₀.Follows d) :
    d₀.Follows (opUnmapped i addr write narrow d) := by
  unfold Machine.opUnmapped
  exact .ite h (.access (fun _ h1 => .through (fun h2 => .ite h2.emit h2) (.ite h1.badAccess h1)) h)

theorem Dev.Follows.readClears {a : Nat} {d : Dev} (h : d₀.Follows d) : d₀.Follows (Dev.readClears a d) := by
  unfold Dev.readClears
  split
  · exact h
  · exact .ite h.wr h

theorem Dev.Follows.latch {i : Initiator} {a : Nat} {d : Dev} (h : d₀.Follows d) : d₀.Follows (Dev.latch i a d) := by
  unfold Dev.latch
  exact h.units

theorem Dev.Follows.rearms {a : Nat} {d : Dev} (h : d₀.Follows d) : d₀.Follows (Dev.rearms a d) := by
  unfold Dev.rearms
  exact .ite h.units (.ite h.modPg (.ite h.modPg (.ite h.modPg (.ite h.units h))))

theorem Dev.Follows.clashRead {k : PgKind} {n a : Nat} {d : Dev} (h : d₀.Follows d) : d₀.Follows (Dev.clashRead k n a d) := by
  unfold Dev.clashRead
  exact .ite h.put h

/-- A value taken back is one of the outputs after the first n, so the outputs up to the n-th stay. -/
theorem Dev.Follows.taken {d e : Dev} (h : d₀.Follows d) (k : d.Follows e) : d₀.Follows (e.taken d.out.length).2 := by
  unfold Dev.taken
  dsimp only
  split
  · refine ⟨fun hc => k.canonical (h.canonical hc), h.time.trans k.time, h.outputs.trans ?_⟩
    rw [← List.prefix_iff_eq_take.mp k.outputs]
    exact List.prefix_append _ _
  · exact ⟨fun hc => k.canonical (h.canonical hc), h.time.trans k.time, h.outputs.trans k.outputs⟩

theorem Dev.Follows.takingRead {i : Initiator} {k : PgKind} {n a : Nat} {d e : Dev} (h : d₀.Follows d)
    (he : d.takingRead i k n a = some e) : d₀.Follows e := by
  unfold Dev.takingRead at he
  dsimp only at he
  split at he
  · split at he
    · cases he; exact h.opLeakqRead
    · cases he
  · split at he
    · cases he; exact h.opTsqRead
    · cases he
  · split at he
    · cases he; exact h.opMrAccess
    · cases he
  · split at he
    · cases he; exact h.opPweRead
    · split at he
      · cases he; exact h.opSemRead
      · cases he
  · cases he

theorem Dev.Follows.regRead {i : Initiator} {a : Nat} {d : Dev} (h : d₀.Follows d) : d₀.Follows (d.regRead i a).2 := by
  unfold Dev.regRead
  split
  · split
    · next _ h1 => exact h.taken ((Dev.Follows.refl d).takingRead h1)
    · split
      · exact h.units.readClears
      · dsimp only
        have hl {t : Dev} {c : Prop} {dec : Decidable c} {i : Initiator} {b : Nat} (ht : d₀.Follows t) :
            d₀.Follows (if c then t.latch i b else t) := .ite ht.latch ht
        exact .clashRead (.rearms (.readClears (.through (fun h1 => .ite h1.units h1) (hl (hl (hl h))))))
  · exact h
  · exact h.badAccess

theorem Dev.Follows.busRead {i : Initiator} {a : Nat} {d : Dev} (h : d₀.Follows d) : d₀.Follows (Dev.busRead i a d) := by
  unfold Dev.busRead
  exact .access (fun _ h1 => h1.regRead.emit) h

theorem Dev.Follows.opCounterRead {i : Initiator} {pg off : Nat} {d : Dev} (h : d₀.Follows d) :
    d₀.Follows (opCounterRead i pg off d) := by
  unfold Machine.opCounterRead
  exact .ite h.busRead h

theorem Dev.Follows.opCaptureRead {i : Initiator} {pg off : Nat} {d : Dev} (h : d₀.Follows d) :
    d₀.Follows (opCaptureRead i pg off d) := by
  unfold Machine.opCaptureRead
  exact .ite h.busRead h

end Sys2Proof.Machine
end

section
/-!
PROOF. The canonical form, the time and the outputs through the operations of Machine/HostAccess.lean: the accesses of the host.
-/

namespace Sys2Proof.Machine

variable {d₀ : Dev}

theorem Dev.Follows.opPeRstnLow {d : Dev} (h : d₀.Follows d) : d₀.Follows (opPeRstnLow d) := by
  unfold Machine.opPeRstnLow
  exact .ite h (.ite h.units (.through (fun h1 => .ite h1 h1.unitReset) h.units.put.pcieDown.hostGone.cfgReset))

theorem Dev.Follows.opPeRstnRise {d : Dev} (h : d₀.Follows d) : d₀.Follows (opPeRstnRise d) := by
  unfold Machine.opPeRstnRise
  exact .ite h (.through (fun h1 => .opWakeDetect (.ite h1 (.ite h1.put.askRelease.refreshFrom h1.put))) h.units.cancel)

theorem Dev.Follows.opFlr {d : Dev} (h : d₀.Follows d) : d₀.Follows (opFlr d) := by
  unfold Machine.opFlr
  exact .ite h h.unitReset.cfgReset.hostGone

theorem Dev.Follows.opPeWakenRelease {d : Dev} (h : d₀.Follows d) : d₀.Follows (opPeWakenRelease d) := by
  unfold Machine.opPeWakenRelease
  exact .onTimer (fun _ h1 => h1.units) h

theorem Dev.Follows.dropLine {n : Nat} {d : Dev} (h : d₀.Follows d) : d₀.Follows (Dev.dropLine n d) := by
  unfold Dev.dropLine
  split
  · exact h
  · exact .ite h.units h.units.wr64.count.raise

theorem Dev.Follows.lineWritten {by_ a : Nat} {d : Dev} (h : d₀.Follows d) : d₀.Follows (Dev.lineWritten by_ a d) := by
  unfold Dev.lineWritten
  split
  · exact h.dropLine
  · exact h

theorem Dev.Follows.keepLine {l : PfLine} {d : Dev} (h : d₀.Follows d) : d₀.Follows (Dev.keepLine l d) := by
  unfold Dev.keepLine
  exact h.dropLine.units

theorem Dev.Follows.opLineDiscard {n : Nat} {d : Dev} (h : d₀.Follows d) : d₀.Follows (opLineDiscard n d) := by
  unfold Machine.opLineDiscard
  split
  · exact h.at_.dropLine
  · exact h

theorem Dev.Follows.freshLine {by_ a : Nat} {d : Dev} (h : d₀.Follows d) : d₀.Follows (Dev.freshLine by_ a d).2 := by
  unfold Dev.freshLine
  split
  · exact h
  · exact .iteSnd h h.dropLine

theorem Dev.Follows.fetchWord {a : Nat} {d : Dev} (h : d₀.Follows d) : d₀.Follows (Dev.fetchWord a d).2 := by
  unfold Dev.fetchWord
  exact .iteSnd h.regRead h

theorem Dev.Follows.fetchBlock {a : Nat} {d : Dev} (h : d₀.Follows d) : d₀.Follows (d.fetchBlock a).2 :=
  .foldlSnd (fun _ _ h1 => h1.fetchWord) h

theorem Dev.Follows.rtvData {a : Nat} {w : Word} {d : Dev} (h : d₀.Follows d) : d₀.Follows (Dev.rtvData a w d) := by
  unfold Dev.rtvData
  exact h.put.emit

theorem Dev.Follows.rtvRetry {a : Nat} {d : Dev} (h : d₀.Follows d) : d₀.Follows (Dev.rtvRetry a d) := by
  unfold Dev.rtvRetry
  exact h.put.count.emit

theorem Dev.Follows.setRtv {e : Nat} {x : Option RtvEntry} {d : Dev} (h : d₀.Follows d) : d₀.Follows (Dev.setRtv e x d) := by
  unfold Dev.setRtv
  exact h.units

theorem Dev.Follows.rtvFree {e : Nat} {d : Dev} (h : d₀.Follows d) : d₀.Follows (Dev.rtvFree e d) := by
  unfold Dev.rtvFree
  exact h.setRtv.cancel.cancel

theorem Dev.Follows.opHostRetryRead {bar : Bar} {off : Nat} {d : Dev} (h : d₀.Follows d) : d₀.Follows (opHostRetryRead bar off d) := by
  unfold Machine.opHostRetryRead
  split
  · exact h
  · refine .ite h ?_
    split
    · split
      · exact h.rtvFree.rtvData
      · exact h.rtvRetry
    · split
      · exact h.rtvRetry
      · exact h.setRtv.armIn

theorem Dev.Follows.opRtvWait {e : Nat} {d : Dev} (h : d₀.Follows d) : d₀.Follows (opRtvWait e d) := by
  unfold Machine.opRtvWait
  refine .onTimer (fun _ h1 => ?_) h
  split
  · exact h1.setRtv.rtvRetry
  · exact h1

theorem Dev.Follows.opRtvFetch {e : Nat} {d : Dev} (h : d₀.Follows d) : d₀.Follows (opRtvFetch e d) := by
  unfold Machine.opRtvFetch
  split
  · exact h
  · exact .ite h (.ite (.rtvData (.rtvFree (.iteSnd h.fetchBlock h.fetchWord))) (.armIn (.setRtv (.iteSnd h.fetchBlock h.fetchWord))))

theorem Dev.Follows.opRtvHold {e : Nat} {d : Dev} (h : d₀.Follows d) : d₀.Follows (opRtvHold e d) := by
  unfold Machine.opRtvHold
  refine .onTimer (fun _ h1 => ?_) h
  split
  · exact h1
  · exact .through (fun h2 => .raise (.ite h2 h2.wr.modPg)) h1.rtvFree.count

theorem Dev.Follows.opHostSplitRead {bar : Bar} {off : Nat} {d : Dev} (h : d₀.Follows d) :
    d₀.Follows (opHostSplitRead bar off d) := by
  unfold Machine.opHostSplitRead
  refine .ite h ?_
  dsimp only
  split
  · exact h
  · exact .ite h h.emit
  · refine .ite h (.ite ?_ h.fetchWord.emit)
    split
    · exact h.freshLine.emit.units
    · exact h.freshLine.fetchBlock.keepLine.emit

theorem Dev.Follows.rtvWritten {a : Nat} {d : Dev} (h : d₀.Follows d) : d₀.Follows (Dev.rtvWritten a d) := by
  unfold Dev.rtvWritten
  split
  · exact h
  · exact .ite h.rtvFree.rtvRetry h.rtvFree

theorem Dev.Follows.msixWrite {off : Nat} {v : Word} {d : Dev} (h : d₀.Follows d) : d₀.Follows (Dev.msixWrite off v d) := by
  unfold Dev.msixWrite
  exact .ite h (.ite (.ite h.units h.unmaskVec) h.units)

theorem Dev.Follows.opHostWrite {bar : Bar} {off : Nat} {v : Word} {narrow poisoned : Bool} {d : Dev} (h : d₀.Follows d) :
    d₀.Follows (opHostWrite bar off v narrow poisoned d) := by
  unfold Machine.opHostWrite
  refine .ite h ?_
  split
  · exact .ite h h.writeFailed
  · exact .ite h h.msixWrite
  · exact .ite h (.ite h.writeFailed (.ite h.badAccess.writeFailed (.ite h.badAccess.writeFailed h.rtvWritten.lineWritten.regWrite)))

theorem Dev.Follows.opOutbound {br : Brace} {addr : Nat} {write : Option Word} {d : Dev} (h : d₀.Follows d) :
    d₀.Follows (opOutbound br addr write d) := by
  unfold Machine.opOutbound
  refine .ite h (.access (fun t h1 => ?_) h)
  dsimp only
  split
  · exact .through (fun h2 => .ite h2.emit h2) h1.lineWritten.outWrite
  · split
    · exact h1.emit
    · split
      · exact .units (.emit (.iteSnd h1.freshLine h1))
      · exact .outRead (.iteSnd h1.freshLine h1)

theorem Dev.Follows.ackFails {r : OutRead} {resp : Nat} {d : Dev} (h : d₀.Follows d) : d₀.Follows (Dev.ackFails r resp d) := by
  unfold Dev.ackFails
  exact .through (fun h1 => .ite (.ite h1.modPg h1.modPg.units) h1) h.writeFailed

theorem Dev.Follows.takeRead {tag : Nat} {d : Dev} (h : d₀.Follows d) : d₀.Follows (Dev.takeRead tag d) := by
  unfold Dev.takeRead
  exact h.units.cancel

theorem Dev.Follows.readEnds {r : OutRead} {cause resp : Nat} {d : Dev} (h : d₀.Follows d) :
    d₀.Follows (Dev.readEnds r cause resp d) := by
  unfold Dev.readEnds
  exact .readFails (.ite h.ackFails h)

theorem Dev.Follows.keepBlock {by_ base want : Nat} {w : Word} {d : Dev} (h : d₀.Follows d) :
    d₀.Follows (Dev.keepBlock by_ base want w d) := by
  unfold Dev.keepBlock
  split
  next _ e he =>
  refine Dev.Follows.keepLine (.ofSnd ?_ he)
  refine .foldlSnd (fun acc k h1 => .iteSnd h1 ?_) h
  exact Dev.Follows.units h1

theorem Dev.Follows.ringReadFails {tag cause : Nat} {d : Dev} (h : d₀.Follows d) : d₀.Follows (Dev.ringReadFails tag cause d) := by
  unfold Dev.ringReadFails
  exact .ite (.ite h.hHalt h) (.ite h.put.put.put.raise h)

theorem Dev.Follows.opOutDone {tag : Nat} {status : CplStatus} {data : Word} {d : Dev} (h : d₀.Follows d) :
    d₀.Follows (opOutDone tag status data d) := by
  unfold Machine.opOutDone
  refine .ite (.ite h h.ringReadFails) ?_
  split
  · exact h
  · exact .ite (.ite h.takeRead (.through (fun h1 => .ite h1 h1.keepBlock)
      (.ite h.takeRead.emit h.takeRead.emit.keepBlock))) h.takeRead.readEnds

theorem Dev.Follows.opOutTimeout {tag : Nat} {d : Dev} (h : d₀.Follows d) : d₀.Follows (opOutTimeout tag d) := by
  unfold Machine.opOutTimeout
  refine .ite h.ringReadFails (.onTimer (fun _ h1 => ?_) h)
  split
  · exact h1
  · exact h1.takeRead.readEnds

end Sys2Proof.Machine
end

section
/-!
PROOF. What every step keeps: each command has an effect that keeps the canonical form, does not run time back and takes no output
back, and so has the passing of a tick.
-/

namespace Sys2Proof.Machine

/-- Each command has one effect on the device, which keeps the canonical form, does not run time back and takes no output back. -/
theorem exec_follows (c : Instr) : ∃ f : Dev → Dev, (∀ s, exec c s = effectIf c.wf f s) ∧ ∀ d : Dev, d.Follows (f d) := by
  cases c with
  | powerOn => exact ⟨_, fun _ => rfl, fun d => (Dev.Follows.refl d).opPowerOn⟩
  | mainRailsValid => exact ⟨_, fun _ => rfl, fun d => (Dev.Follows.refl d).opMainRails⟩
  | brownOut => exact ⟨_, fun _ => rfl, fun d => (Dev.Follows.refl d).opBrownOut⟩
  | powerLossJournalWritten => exact ⟨_, fun _ => rfl, fun d => (Dev.Follows.refl d).opJournal⟩
  | supplyLossMainOff => exact ⟨_, fun _ => rfl, fun d => (Dev.Follows.refl d).opSupplyOff⟩
  | vsupCrankEntry => exact ⟨_, fun _ => rfl, fun d => (Dev.Follows.refl d).opCrank⟩
  | vsupOvEntry => exact ⟨_, fun _ => rfl, fun d => (Dev.Follows.refl d).opOvervoltage⟩
  | vsupUvWarn => exact ⟨_, fun _ => rfl, fun d => (Dev.Follows.refl d).opUvWarn⟩
  | resetnAssert => exact ⟨_, fun _ => rfl, fun d => (Dev.Follows.refl d).opResetnLow⟩
  | resetnRelease => exact ⟨_, fun _ => rfl, fun d => (Dev.Follows.refl d).opResetnHigh⟩
  | devReset => exact ⟨_, fun _ => rfl, fun d => (Dev.Follows.refl d).opDevReset⟩
  | classDReset => exact ⟨_, fun _ => rfl, fun d => (Dev.Follows.refl d).opClassD⟩
  | classDAssertionEnd => exact ⟨_, fun _ => rfl, fun d => (Dev.Follows.refl d).opAssertionEnd⟩
  | dieTempSample => exact ⟨_, fun _ => rfl, fun d => (Dev.Follows.refl d).opDieTemp⟩
  | referenceCheck => exact ⟨_, fun _ => rfl, fun d => (Dev.Follows.refl d).opReference⟩
  | rootPllLockLoss => exact ⟨_, fun _ => rfl, fun d => (Dev.Follows.refl d).opLockLoss⟩
  | rootPllRelock => exact ⟨_, fun _ => rfl, fun d => (Dev.Follows.refl d).opRelock⟩
  | rootPllLossTimeout => exact ⟨_, fun _ => rfl, fun d => (Dev.Follows.refl d).opLockLossEnd⟩
  | clockStable => exact ⟨_, fun _ => rfl, fun d => (Dev.Follows.refl d).opClockStable⟩
  | clockWaitTimeout => exact ⟨_, fun _ => rfl, fun d => (Dev.Follows.refl d).opClockWait⟩
  | rootArrayRead => exact ⟨_, fun _ => rfl, fun d => (Dev.Follows.refl d).opRootArray⟩
  | rootRegenAttemptDone => exact ⟨_, fun _ => rfl, fun d => (Dev.Follows.refl d).opRootAttempt⟩
  | optionLoad => exact ⟨_, fun _ => rfl, fun d => (Dev.Follows.refl d).opOptionLoad⟩
  | optionCopyRepair => exact ⟨_, fun _ => rfl, fun d => (Dev.Follows.refl d).opCopyRepair⟩
  | ondieFillDone => exact ⟨_, fun _ => rfl, fun d => (Dev.Follows.refl d).opFillDone⟩
  | reserveRowFilled => exact ⟨_, fun _ => rfl, fun d => (Dev.Follows.refl d).opReserveRow⟩
  | keyRecordCheckDone => exact ⟨_, fun _ => rfl, fun d => (Dev.Follows.refl d).opRecordCheck⟩
  | imageCheckDone => exact ⟨_, fun _ => rfl, fun d => (Dev.Follows.refl d).opImageCheck⟩
  | startTableLoadDone => exact ⟨_, fun _ => rfl, fun d => (Dev.Follows.refl d).opTablesLoaded⟩
  | braceSelfTestDone => exact ⟨_, fun _ => rfl, fun d => (Dev.Follows.refl d).opSelfTestDone⟩
  | bootGood => exact ⟨_, fun _ => rfl, fun d => (Dev.Follows.refl d).opBootGood⟩
  | bootGoodTimeout => exact ⟨_, fun _ => rfl, fun d => (Dev.Follows.refl d).opBootTimeout⟩
  | bootHalf => exact ⟨_, fun _ => rfl, fun d => (Dev.Follows.refl d).opBootHalf⟩
  | bootClr => exact ⟨_, fun _ => rfl, fun d => (Dev.Follows.refl d).opBootClr⟩
  | outCtlWrite => exact ⟨_, fun _ => rfl, fun d => (Dev.Follows.refl d).opOutCtl⟩
  | optionWrite => exact ⟨_, fun _ => rfl, fun d => (Dev.Follows.refl d).opOptionWrite⟩
  | optionWriteDone => exact ⟨_, fun _ => rfl, fun d => (Dev.Follows.refl d).opOptionDone⟩
  | unrecoverableFault => exact ⟨_, fun _ => rfl, fun d => (Dev.Follows.refl d).opFault⟩
  | unitReset => exact ⟨_, fun _ => rfl, fun d => (Dev.Follows.refl d).opUnitReset⟩
  | unitResetEnd => exact ⟨_, fun _ => rfl, fun d => (Dev.Follows.refl d).opUnitResetEnd⟩
  | pgEnableWrite => exact ⟨_, fun _ => rfl, fun d => (Dev.Follows.refl d).opPgEnable⟩
  | isolateRequest => exact ⟨_, fun _ => rfl, fun d => (Dev.Follows.refl d).opIsolate⟩
  | isolationComplete => exact ⟨_, fun _ => rfl, fun d => (Dev.Follows.refl d).opIsolationDone⟩
  | returnRequest => exact ⟨_, fun _ => rfl, fun d => (Dev.Follows.refl d).opReturn⟩
  | returnComplete => exact ⟨_, fun _ => rfl, fun d => (Dev.Follows.refl d).opReturnDone⟩
  | shadowWrite => exact ⟨_, fun _ => rfl, fun d => (Dev.Follows.refl d).opShadowWrite⟩
  | liveRegisterWrite => exact ⟨_, fun _ => rfl, fun d => (Dev.Follows.refl d).opLiveWrite⟩
  | registerWrite => exact ⟨_, fun _ => rfl, fun d => (Dev.Follows.refl d).opRegisterWrite⟩
  | unmappedAccess => exact ⟨_, fun _ => rfl, fun d => (Dev.Follows.refl d).opUnmapped⟩
  | counterReadClear => exact ⟨_, fun _ => rfl, fun d => (Dev.Follows.refl d).opCounterRead⟩
  | captureReadRearm => exact ⟨_, fun _ => rfl, fun d => (Dev.Follows.refl d).opCaptureRead⟩
  | commitNow => exact ⟨_, fun _ => rfl, fun d => (Dev.Follows.refl d).opCommitNow⟩
  | commitTimed => exact ⟨_, fun _ => rfl, fun d => (Dev.Follows.refl d).opCommitTimed⟩
  | commitCascade => exact ⟨_, fun _ => rfl, fun d => (Dev.Follows.refl d).opCommitCascade⟩
  | commitAbort => exact ⟨_, fun _ => rfl, fun d => (Dev.Follows.refl d).opCommitAbort⟩
  | commitRevert => exact ⟨_, fun _ => rfl, fun d => (Dev.Follows.refl d).opCommitRevert⟩
  | commitBadCmd => exact ⟨_, fun _ => rfl, fun d => (Dev.Follows.refl d).opCommitBad⟩
  | commitCheckDone => exact ⟨_, fun _ => rfl, fun d => (Dev.Follows.refl d).opCheckDone⟩
  | commitLaunch => exact ⟨_, fun _ => rfl, fun d => (Dev.Follows.refl d).opCommitLaunch⟩
  | grpCommitNow => exact ⟨_, fun _ => rfl, fun d => (Dev.Follows.refl d).opGrpNow⟩
  | grpCommitTimed => exact ⟨_, fun _ => rfl, fun d => (Dev.Follows.refl d).opGrpTimed⟩
  | grpCommitCascade => exact ⟨_, fun _ => rfl, fun d => (Dev.Follows.refl d).opGrpCascade⟩
  | grpCommitAbort => exact ⟨_, fun _ => rfl, fun d => (Dev.Follows.refl d).opGrpAbort⟩
  | grpCommitRevert => exact ⟨_, fun _ => rfl, fun d => (Dev.Follows.refl d).opGrpRevert⟩
  | fenceConfig => exact ⟨_, fun _ => rfl, fun d => (Dev.Follows.refl d).opFenceConfig⟩
  | fenceTable => exact ⟨_, fun _ => rfl, fun d => (Dev.Follows.refl d).opFenceTable⟩
  | fenceBridge => exact ⟨_, fun _ => rfl, fun d => (Dev.Follows.refl d).opFenceBridge⟩
  | fenceTime => exact ⟨_, fun _ => rfl, fun d => (Dev.Follows.refl d).opFenceTime⟩
  | fenceQueue => exact ⟨_, fun _ => rfl, fun d => (Dev.Follows.refl d).opFenceQueue⟩
  | fenceRefused => exact ⟨_, fun _ => rfl, fun d => (Dev.Follows.refl d).opFenceRefused⟩
  | fenceComplete => exact ⟨_, fun _ => rfl, fun d => (Dev.Follows.refl d).opFenceComplete⟩
  | fenceTimeout => exact ⟨_, fun _ => rfl, fun d => (Dev.Follows.refl d).opFenceTimeout⟩
  | irqEnWrite => exact ⟨_, fun _ => rfl, fun d => (Dev.Follows.refl d).opIrqEn⟩
  | irqSetWrite => exact ⟨_, fun _ => rfl, fun d => (Dev.Follows.refl d).opIrqSet⟩
  | irqStatClear => exact ⟨_, fun _ => rfl, fun d => (Dev.Follows.refl d).opIrqClear⟩
  | pgLockWrite => exact ⟨_, fun _ => rfl, fun d => (Dev.Follows.refl d).opPgLock⟩
  | frameStart => exact ⟨_, fun _ => rfl, fun d => (Dev.Follows.refl d).opFrameStartAny⟩
  | frameDataCoin => exact ⟨_, fun _ => rfl, fun d => (Dev.Follows.refl d).opFrameDataAny⟩
  | frameHeadReceived => exact ⟨_, fun _ => rfl, fun d => (Dev.Follows.refl d).opFrameHead⟩
  | lookupResult => exact ⟨_, fun _ => rfl, fun d => (Dev.Follows.refl d).opLookupResult⟩
  | frameEnd => exact ⟨_, fun _ => rfl, fun d => (Dev.Follows.refl d).opFrameEndAny⟩
  | policingDecision => exact ⟨_, fun _ => rfl, fun d => (Dev.Follows.refl d).opPolicing⟩
  | ingressCheckValueResult => exact ⟨_, fun _ => rfl, fun d => (Dev.Follows.refl d).opIngressCheck⟩
  | voqEnqueue => exact ⟨_, fun _ => rfl, fun d => (Dev.Follows.refl d).opVoqEnqueue⟩
  | busFrameHandoff => exact ⟨_, fun _ => rfl, fun d => (Dev.Follows.refl d).opBusHandoff⟩
  | backpressureReachPort => exact ⟨_, fun _ => rfl, fun d => (Dev.Follows.refl d).opPressureReachAny⟩
  | spillCopyDone => exact ⟨_, fun _ => rfl, fun d => (Dev.Follows.refl d).opSpillCopyDone⟩
  | reservePrefetchDone => exact ⟨_, fun _ => rfl, fun d => (Dev.Follows.refl d).opPrefetchDone⟩
  | egressPick => exact ⟨_, fun _ => rfl, fun d => (Dev.Follows.refl d).opEgressPick⟩
  | egressTimestamp => exact ⟨_, fun _ => rfl, fun d => (Dev.Follows.refl d).opEgressStamp⟩
  | transmitEnd => exact ⟨_, fun _ => rfl, fun d => (Dev.Follows.refl d).opTransmitEnd⟩
  | mcHoldSweep => exact ⟨_, fun _ => rfl, fun d => (Dev.Follows.refl d).opMcHoldSweep⟩
  | auditorCountCheck => exact ⟨_, fun _ => rfl, fun d => (Dev.Follows.refl d).opAuditorCountCheck⟩
  | auditorWalkStart => exact ⟨_, fun _ => rfl, fun d => (Dev.Follows.refl d).opWalkStart⟩
  | auditorWalkPhaseDone => exact ⟨_, fun _ => rfl, fun d => (Dev.Follows.refl d).opWalkPhaseDone⟩
  | walkDone => exact ⟨_, fun _ => rfl, fun d => (Dev.Follows.refl d).opWalkDone⟩
  | audLeakqRead => exact ⟨_, fun _ => rfl, fun d => (Dev.Follows.refl d).opLeakqRead⟩
  | voqSelWrite => exact ⟨_, fun _ => rfl, fun d => (Dev.Follows.refl d).opVoqSel⟩
  | learnEventService => exact ⟨_, fun _ => rfl, fun d => (Dev.Follows.refl d).opLearnService⟩
  | pinHoldExpiry => exact ⟨_, fun _ => rfl, fun d => (Dev.Follows.refl d).opPinExpiry⟩
  | sweepPassStart => exact ⟨_, fun _ => rfl, fun d => (Dev.Follows.refl d).opSweepPassStart⟩
  | sweepNow => exact ⟨_, fun _ => rfl, fun d => (Dev.Follows.refl d).opSweepNow⟩
  | sweepSlotVisit => exact ⟨_, fun _ => rfl, fun d => (Dev.Follows.refl d).opSweepVisit⟩
  | sweepPassDone => exact ⟨_, fun _ => rfl, fun d => (Dev.Follows.refl d).opSweepPassDone⟩
  | windowPass => exact ⟨_, fun _ => rfl, fun d => (Dev.Follows.refl d).opWindowPass⟩
  | tblInsert => exact ⟨_, fun _ => rfl, fun d => (Dev.Follows.refl d).opTblInsert⟩
  | tblUpdate => exact ⟨_, fun _ => rfl, fun d => (Dev.Follows.refl d).opTblUpdate⟩
  | tblDelete => exact ⟨_, fun _ => rfl, fun d => (Dev.Follows.refl d).opTblDelete⟩
  | tblLookup => exact ⟨_, fun _ => rfl, fun d => (Dev.Follows.refl d).opTblLookup⟩
  | tblReadIdx => exact ⟨_, fun _ => rfl, fun d => (Dev.Follows.refl d).opTblReadIdx⟩
  | tblWriteIdx => exact ⟨_, fun _ => rfl, fun d => (Dev.Follows.refl d).opTblWriteIdx⟩
  | tblReadLock => exact ⟨_, fun _ => rfl, fun d => (Dev.Follows.refl d).opTblReadLock⟩
  | tblWriteUnlock => exact ⟨_, fun _ => rfl, fun d => (Dev.Follows.refl d).opTblWriteUnlock⟩
  | tblUnlock => exact ⟨_, fun _ => rfl, fun d => (Dev.Follows.refl d).opTblUnlock⟩
  | tblFlush => exact ⟨_, fun _ => rfl, fun d => (Dev.Follows.refl d).opTblFlush⟩
  | tblFlushDone => exact ⟨_, fun _ => rfl, fun d => (Dev.Follows.refl d).opTblFlushDone⟩
  | tblEpoch => exact ⟨_, fun _ => rfl, fun d => (Dev.Follows.refl d).opTblEpoch⟩
  | tblRingResume => exact ⟨_, fun _ => rfl, fun d => (Dev.Follows.refl d).opTblResume⟩
  | lockExpiry => exact ⟨_, fun _ => rfl, fun d => (Dev.Follows.refl d).opLockExpiry⟩
  | traceArm => exact ⟨_, fun _ => rfl, fun d => (Dev.Follows.refl d).opTraceArm⟩
  | recoveryResetTimeout => exact ⟨_, fun _ => rfl, fun d => (Dev.Follows.refl d).opRecoveryReset⟩
  | latentErrorTest => exact ⟨_, fun _ => rfl, fun d => (Dev.Follows.refl d).opLatentTest⟩
  | gateListStart => exact ⟨_, fun _ => rfl, fun d => (Dev.Follows.refl d).opGateListStart⟩
  | streamGateListStart => exact ⟨_, fun _ => rfl, fun d => (Dev.Follows.refl d).opStreamGateStart⟩
  | gateEntryEnd => exact ⟨_, fun _ => rfl, fun d => (Dev.Follows.refl d).opGateEntryEnd⟩
  | streamGateEntryEnd => exact ⟨_, fun _ => rfl, fun d => (Dev.Follows.refl d).opStreamGateEntryEnd⟩
  | gateListCycleEnd => exact ⟨_, fun _ => rfl, fun d => (Dev.Follows.refl d).opGateCycleEnd⟩
  | streamRead => exact ⟨_, fun _ => rfl, fun d => (Dev.Follows.refl d).opStreamRead⟩
  | streamStage => exact ⟨_, fun _ => rfl, fun d => (Dev.Follows.refl d).opStreamStage⟩
  | streamCountersCopy => exact ⟨_, fun _ => rfl, fun d => (Dev.Follows.refl d).opStreamCounters⟩
  | streamGateRead => exact ⟨_, fun _ => rfl, fun d => (Dev.Follows.refl d).opSgRead⟩
  | streamGateWrite => exact ⟨_, fun _ => rfl, fun d => (Dev.Follows.refl d).opSgWrite⟩
  | recoveryRead => exact ⟨_, fun _ => rfl, fun d => (Dev.Follows.refl d).opRecoveryRead⟩
  | recoveryStage => exact ⟨_, fun _ => rfl, fun d => (Dev.Follows.refl d).opRecoveryStage⟩
  | recoveryCountersCopy => exact ⟨_, fun _ => rfl, fun d => (Dev.Follows.refl d).opRecoveryCounters⟩
  | gclRead => exact ⟨_, fun _ => rfl, fun d => (Dev.Follows.refl d).opGclRead⟩
  | gclWrite => exact ⟨_, fun _ => rfl, fun d => (Dev.Follows.refl d).opGclWrite⟩
  | windowCommandDone => exact ⟨_, fun _ => rfl, fun d => (Dev.Follows.refl d).opWindowDone⟩
  | cbsSelWrite => exact ⟨_, fun _ => rfl, fun d => (Dev.Follows.refl d).opCbsSel⟩
  | preemptVerifyDone => exact ⟨_, fun _ => rfl, fun d => (Dev.Follows.refl d).opVerifyDone⟩
  | sampleSubmit => exact ⟨_, fun _ => rfl, fun d => (Dev.Follows.refl d).opSampleSubmit⟩
  | sampleApply => exact ⟨_, fun _ => rfl, fun d => (Dev.Follows.refl d).opSampleTaken⟩
  | holdoverTimeout => exact ⟨_, fun _ => rfl, fun d => (Dev.Follows.refl d).opHoldoverTimeout⟩
  | adjStep => exact ⟨_, fun _ => rfl, fun d => (Dev.Follows.refl d).opAdjStepped⟩
  | adjSet => exact ⟨_, fun _ => rfl, fun d => (Dev.Follows.refl d).opAdjSetTo⟩
  | adjRate => exact ⟨_, fun _ => rfl, fun d => (Dev.Follows.refl d).opAdjRate⟩
  | slotArm => exact ⟨_, fun _ => rfl, fun d => .ite (Dev.Follows.refl d).opHandoverArm (Dev.Follows.refl d).opSlotArm⟩
  | slotDisarm => exact ⟨_, fun _ => rfl, fun d => (Dev.Follows.refl d).opSlotDisarm⟩
  | gpioHigh => exact ⟨_, fun _ => rfl, fun d => (Dev.Follows.refl d).opGpioHigh⟩
  | gpioLow => exact ⟨_, fun _ => rfl, fun d => (Dev.Follows.refl d).opGpioLow⟩
  | gpioToggle => exact ⟨_, fun _ => rfl, fun d => (Dev.Follows.refl d).opGpioToggle⟩
  | gpioPulse => exact ⟨_, fun _ => rfl, fun d => (Dev.Follows.refl d).opGpioPulse⟩
  | gpioPulseEnd => exact ⟨_, fun _ => rfl, fun d => (Dev.Follows.refl d).opGpioPulseEnd⟩
  | slotMessage => exact ⟨_, fun _ => rfl, fun d => (Dev.Follows.refl d).opSlotMessage⟩
  | slotLaunchInHalt => exact ⟨_, fun _ => rfl, fun d => (Dev.Follows.refl d).opLaunchInHalt⟩
  | gpioCaptureEdge => exact ⟨_, fun _ => rfl, fun d => (Dev.Follows.refl d).opGpioEdge⟩
  | tsqRead => exact ⟨_, fun _ => rfl, fun d => (Dev.Follows.refl d).opTsqRead⟩
  | tsqCapSelWrite => exact ⟨_, fun _ => rfl, fun d => (Dev.Follows.refl d).opTsqCapSel⟩
  | tsqCapClear => exact ⟨_, fun _ => rfl, fun d => (Dev.Follows.refl d).opTsqCapClear⟩
  | phyTrainingStart => exact ⟨_, fun _ => rfl, fun d => (Dev.Follows.refl d).opTrainStart⟩
  | trainingTimeout => exact ⟨_, fun _ => rfl, fun d => (Dev.Follows.refl d).opTrainTimeout⟩
  | ethLinkUp => exact ⟨_, fun _ => rfl, fun d => (Dev.Follows.refl d).opEthLinkUp⟩
  | ethLinkDown => exact ⟨_, fun _ => rfl, fun d => (Dev.Follows.refl d).opEthLinkDown⟩
  | phyPllLoss => exact ⟨_, fun _ => rfl, fun d => (Dev.Follows.refl d).opPllLoss⟩
  | linkHoldExpiry => exact ⟨_, fun _ => rfl, fun d => (Dev.Follows.refl d).opLinkHold⟩
  | lpiIdleTimeout => exact ⟨_, fun _ => rfl, fun d => (Dev.Follows.refl d).opLpiIdle⟩
  | lpiWakeDone => exact ⟨_, fun _ => rfl, fun d => (Dev.Follows.refl d).opLpiWake⟩
  | diagRun => exact ⟨_, fun _ => rfl, fun d => (Dev.Follows.refl d).opDiagRun⟩
  | diagAbort => exact ⟨_, fun _ => rfl, fun d => (Dev.Follows.refl d).opDiagAbort⟩
  | diagDone => exact ⟨_, fun _ => rfl, fun d => (Dev.Follows.refl d).opDiagDone⟩
  | sqiUpdate => exact ⟨_, fun _ => rfl, fun d => (Dev.Follows.refl d).opSqi⟩
  | pauseReceived => exact ⟨_, fun _ => rfl, fun d => (Dev.Follows.refl d).opPauseRx⟩
  | pfcReceived => exact ⟨_, fun _ => rfl, fun d => (Dev.Follows.refl d).opPfcRx⟩
  | macctlUnknownReceived => exact ⟨_, fun _ => rfl, fun d => (Dev.Follows.refl d).opMacCtlUnk⟩
  | pauseTimerExpiry => exact ⟨_, fun _ => rfl, fun d => (Dev.Follows.refl d).opPauseEnd⟩
  | flowControlRefresh => exact ⟨_, fun _ => rfl, fun d => (Dev.Follows.refl d).opFcRefresh⟩
  | pwdTrip => exact ⟨_, fun _ => rfl, fun d => (Dev.Follows.refl d).opPwdTrip⟩
  | pwdBreakEnd => exact ⟨_, fun _ => rfl, fun d => (Dev.Follows.refl d).opPwdBreakEnd⟩
  | ldgSnap => exact ⟨_, fun _ => rfl, fun d => (Dev.Follows.refl d).opLdgSnap⟩
  | ldgClear => exact ⟨_, fun _ => rfl, fun d => (Dev.Follows.refl d).opLdgClear⟩
  | canFrameValid => exact ⟨_, fun _ => rfl, fun d => (Dev.Follows.refl d).opCanFrameValid⟩
  | canErrorFrame => exact ⟨_, fun _ => rfl, fun d => (Dev.Follows.refl d).opCanErrorFrame⟩
  | objLock => exact ⟨_, fun _ => rfl, fun d => (Dev.Follows.refl d).opObjLock⟩
  | objRelease => exact ⟨_, fun _ => rfl, fun d => (Dev.Follows.refl d).opObjRelease⟩
  | rxfPop => exact ⟨_, fun _ => rfl, fun d => (Dev.Follows.refl d).opRxfPop⟩
  | mrDataAccess => exact ⟨_, fun _ => rfl, fun d => (Dev.Follows.refl d).opMrAccess⟩
  | canBusIdleApply => exact ⟨_, fun _ => rfl, fun d => (Dev.Follows.refl d).opCanIdleApply⟩
  | canIntegrationDone => exact ⟨_, fun _ => rfl, fun d => (Dev.Follows.refl d).opCanIntegrated⟩
  | canTxDone => exact ⟨_, fun _ => rfl, fun d => (Dev.Follows.refl d).opCanTxDone⟩
  | canArbLost => exact ⟨_, fun _ => rfl, fun d => (Dev.Follows.refl d).opCanArbLost⟩
  | canTxError => exact ⟨_, fun _ => rfl, fun d => (Dev.Follows.refl d).opCanTxError⟩
  | boffWaitExpiry => exact ⟨_, fun _ => rfl, fun d => (Dev.Follows.refl d).opBoffWait⟩
  | boffRestart => exact ⟨_, fun _ => rfl, fun d => (Dev.Follows.refl d).opBoffRestart⟩
  | boffRecovered => exact ⟨_, fun _ => rfl, fun d => (Dev.Follows.refl d).opBoffRecovered⟩
  | boffHoldExpiry => exact ⟨_, fun _ => rfl, fun d => (Dev.Follows.refl d).opBoffHold⟩
  | timedDispatch => exact ⟨_, fun _ => rfl, fun d => (Dev.Follows.refl d).opTimedDispatch⟩
  | linHeaderReceived => exact ⟨_, fun _ => rfl, fun d => (Dev.Follows.refl d).opLinHeader⟩
  | linResponseReceived => exact ⟨_, fun _ => rfl, fun d => (Dev.Follows.refl d).opLinResponse⟩
  | linNoResponse => exact ⟨_, fun _ => rfl, fun d => (Dev.Follows.refl d).opLinNoResponse⟩
  | linScheduleSlot => exact ⟨_, fun _ => rfl, fun d => (Dev.Follows.refl d).opLinSlot⟩
  | linRxfPop => exact ⟨_, fun _ => rfl, fun d => (Dev.Follows.refl d).opLinPop⟩
  | linSchRead => exact ⟨_, fun _ => rfl, fun d => (Dev.Follows.refl d).opLinSchRead⟩
  | linSchWrite => exact ⟨_, fun _ => rfl, fun d => (Dev.Follows.refl d).opLinSchWrite⟩
  | kalowPick => exact ⟨_, fun _ => rfl, fun d => (Dev.Follows.refl d).opKalowPick⟩
  | kalowUnpackCommit => exact ⟨_, fun _ => rfl, fun d => (Dev.Follows.refl d).opKalowCommit⟩
  | kalowTriggeredPack => exact ⟨_, fun _ => rfl, fun d => (Dev.Follows.refl d).opKalowTriggered⟩
  | kalowPeriodicPack => exact ⟨_, fun _ => rfl, fun d => (Dev.Follows.refl d).opKalowPeriodic⟩
  | kalowPendingPack => exact ⟨_, fun _ => rfl, fun d => (Dev.Follows.refl d).opKalowPending⟩
  | kalowDeferredPack => exact ⟨_, fun _ => rfl, fun d => (Dev.Follows.refl d).opKalowDeferred⟩
  | kalowPackHandoff => exact ⟨_, fun _ => rfl, fun d => (Dev.Follows.refl d).opKalowHandoff⟩
  | kalowTimeoutCheck => exact ⟨_, fun _ => rfl, fun d => (Dev.Follows.refl d).opKalowTimeout⟩
  | kalowAggTimeout => exact ⟨_, fun _ => rfl, fun d => (Dev.Follows.refl d).opKalowAgg⟩
  | storeRead => exact ⟨_, fun _ => rfl, fun d => (Dev.Follows.refl d).opStoreRead⟩
  | storeForce => exact ⟨_, fun _ => rfl, fun d => (Dev.Follows.refl d).opStoreForce⟩
  | dumpGo => exact ⟨_, fun _ => rfl, fun d => (Dev.Follows.refl d).opDumpGo⟩
  | dumpPeriod => exact ⟨_, fun _ => rfl, fun d => (Dev.Follows.refl d).opDumpPeriod⟩
  | dumpDone => exact ⟨_, fun _ => rfl, fun d => (Dev.Follows.refl d).opDumpDone⟩
  | dumpResume => exact ⟨_, fun _ => rfl, fun d => (Dev.Follows.refl d).opDumpResume⟩
  | klwDescRead => exact ⟨_, fun _ => rfl, fun d => (Dev.Follows.refl d).opKlwRead⟩
  | klwDescStage => exact ⟨_, fun _ => rfl, fun d => (Dev.Follows.refl d).opKlwStage⟩
  | klwSlotRead => exact ⟨_, fun _ => rfl, fun d => (Dev.Follows.refl d).opKlwSlotRead⟩
  | klwSlotWrite => exact ⟨_, fun _ => rfl, fun d => (Dev.Follows.refl d).opKlwSlotWrite⟩
  | knownAnswerTest => exact ⟨_, fun _ => rfl, fun d => (Dev.Follows.refl d).opKnownAnswer⟩
  | engFailClear => exact ⟨_, fun _ => rfl, fun d => (Dev.Follows.refl d).opEngFailClear⟩
  | ctxRead => exact ⟨_, fun _ => rfl, fun d => (Dev.Follows.refl d).opCtxRead⟩
  | ctxStage => exact ⟨_, fun _ => rfl, fun d => (Dev.Follows.refl d).opCtxStage⟩
  | ctxCountersCopy => exact ⟨_, fun _ => rfl, fun d => (Dev.Follows.refl d).opCtxCounters⟩
  | ctxLatchState => exact ⟨_, fun _ => rfl, fun d => (Dev.Follows.refl d).opCtxLatch⟩
  | changeoverNow => exact ⟨_, fun _ => rfl, fun d => (Dev.Follows.refl d).opChangeoverNow⟩
  | keyChangeover => exact ⟨_, fun _ => rfl, fun d => (Dev.Follows.refl d).opKeyChangeover⟩
  | oldKeyOverlapEnd => exact ⟨_, fun _ => rfl, fun d => (Dev.Follows.refl d).opOverlapEnd⟩
  | oldSlotZeroise => exact ⟨_, fun _ => rfl, fun d => (Dev.Follows.refl d).opOldZeroise⟩
  | chgSlotRead => exact ⟨_, fun _ => rfl, fun d => (Dev.Follows.refl d).opChgRead⟩
  | chgSlotWrite => exact ⟨_, fun _ => rfl, fun d => (Dev.Follows.refl d).opChgWrite⟩
  | importPlain => exact ⟨_, fun _ => rfl, fun d => (Dev.Follows.refl d).opImportPlain⟩
  | importWrapped => exact ⟨_, fun _ => rfl, fun d => (Dev.Follows.refl d).opImportWrapped⟩
  | load => exact ⟨_, fun _ => rfl, fun d => (Dev.Follows.refl d).opLoad⟩
  | derive => exact ⟨_, fun _ => rfl, fun d => (Dev.Follows.refl d).opDerive⟩
  | unwrap => exact ⟨_, fun _ => rfl, fun d => (Dev.Follows.refl d).opUnwrap⟩
  | wrap => exact ⟨_, fun _ => rfl, fun d => (Dev.Follows.refl d).opWrap⟩
  | cmac => exact ⟨_, fun _ => rfl, fun d => (Dev.Follows.refl d).opCmac⟩
  | generate => exact ⟨_, fun _ => rfl, fun d => (Dev.Follows.refl d).opGenerate⟩
  | random => exact ⟨_, fun _ => rfl, fun d => (Dev.Follows.refl d).opRandom⟩
  | zero => exact ⟨_, fun _ => rfl, fun d => (Dev.Follows.refl d).opZero⟩
  | token => exact ⟨_, fun _ => rfl, fun d => (Dev.Follows.refl d).opToken⟩
  | keyBadOp => exact ⟨_, fun _ => rfl, fun d => (Dev.Follows.refl d).opKeyBad⟩
  | keyOpDone => exact ⟨_, fun _ => rfl, fun d => (Dev.Follows.refl d).opKeyDone⟩
  | provClose => exact ⟨_, fun _ => rfl, fun d => (Dev.Follows.refl d).opProvClose⟩
  | drbgReseed => exact ⟨_, fun _ => rfl, fun d => (Dev.Follows.refl d).opReseed⟩
  | maskRenew => exact ⟨_, fun _ => rfl, fun d => (Dev.Follows.refl d).opMaskRenew⟩
  | tamperSensorFire => exact ⟨_, fun _ => rfl, fun d => (Dev.Follows.refl d).opTamperFire⟩
  | tamperEraseDone => exact ⟨_, fun _ => rfl, fun d => (Dev.Follows.refl d).opEraseDone⟩
  | tamperEnable => exact ⟨_, fun _ => rfl, fun d => (Dev.Follows.refl d).opTamperEnable⟩
  | tamperLatchClear => exact ⟨_, fun _ => rfl, fun d => (Dev.Follows.refl d).opLatchClear⟩
  | sigGo => exact ⟨_, fun _ => rfl, fun d => (Dev.Follows.refl d).opSigGo⟩
  | sigDone => exact ⟨_, fun _ => rfl, fun d => (Dev.Follows.refl d).opSigDone⟩
  | anchWrite => exact ⟨_, fun _ => rfl, fun d => (Dev.Follows.refl d).opAnchWrite⟩
  | anchRevoke => exact ⟨_, fun _ => rfl, fun d => (Dev.Follows.refl d).opAnchRevoke⟩
  | wakeDetect => exact ⟨_, fun _ => rfl, fun d => (Dev.Follows.refl d).opWakeDetect⟩
  | listenFrameMatch => exact ⟨_, fun _ => rfl, fun d => (Dev.Follows.refl d).opListenFrame⟩
  | listenErrorLimit => exact ⟨_, fun _ => rfl, fun d => (Dev.Follows.refl d).opListenErrors⟩
  | listenEnergyPersist => exact ⟨_, fun _ => rfl, fun d => (Dev.Follows.refl d).opListenEnergy⟩
  | listenTimeout => exact ⟨_, fun _ => rfl, fun d => (Dev.Follows.refl d).opListenTimeout⟩
  | consentRoundStart => exact ⟨_, fun _ => rfl, fun d => (Dev.Follows.refl d).opRoundStart⟩
  | consentVetoCmd => exact ⟨_, fun _ => rfl, fun d => (Dev.Follows.refl d).opVetoCmd⟩
  | autoRoundStart => exact ⟨_, fun _ => rfl, fun d => (Dev.Follows.refl d).opAutoRound⟩
  | proposeReceived => exact ⟨_, fun _ => rfl, fun d => (Dev.Follows.refl d).opPropose⟩
  | commitTokenReceived => exact ⟨_, fun _ => rfl, fun d => (Dev.Follows.refl d).opCommitToken⟩
  | vetoReceived => exact ⟨_, fun _ => rfl, fun d => (Dev.Follows.refl d).opVetoToken⟩
  | wakeTokenReceived => exact ⟨_, fun _ => rfl, fun d => (Dev.Follows.refl d).opWakeToken⟩
  | commitGuardExpiry => exact ⟨_, fun _ => rfl, fun d => (Dev.Follows.refl d).opCommitGuard⟩
  | consTimeout => exact ⟨_, fun _ => rfl, fun d => (Dev.Follows.refl d).opConsTimeout⟩
  | localConsentLost => exact ⟨_, fun _ => rfl, fun d => (Dev.Follows.refl d).opConsentLost⟩
  | sleepCommitDevice => exact ⟨_, fun _ => rfl, fun d => (Dev.Follows.refl d).opSleepDevice⟩
  | sleepCommitSet => exact ⟨_, fun _ => rfl, fun d => (Dev.Follows.refl d).opSleepSet⟩
  | segmentWakeCmd => exact ⟨_, fun _ => rfl, fun d => (Dev.Follows.refl d).opSegWake⟩
  | segmentWakeLaunch => exact ⟨_, fun _ => rfl, fun d => (Dev.Follows.refl d).opSegWakeLaunch⟩
  | supenOffDelay => exact ⟨_, fun _ => rfl, fun d => (Dev.Follows.refl d).opSupenDelay⟩
  | braceMismatch => exact ⟨_, fun _ => rfl, fun d => (Dev.Follows.refl d).opMismatch⟩
  | braceWatchdogExpiry => exact ⟨_, fun _ => rfl, fun d => (Dev.Follows.refl d).opWdgExpiry⟩
  | wdgKick => exact ⟨_, fun _ => rfl, fun d => (Dev.Follows.refl d).opWdgKick⟩
  | handoverCmd => exact ⟨_, fun _ => rfl, fun d => (Dev.Follows.refl d).opHandoverCmd⟩
  | classBResetRequest => exact ⟨_, fun _ => rfl, fun d => (Dev.Follows.refl d).opClassBRequest⟩
  | classBFillDone => exact ⟨_, fun _ => rfl, fun d => (Dev.Follows.refl d).opClassBFill⟩
  | resyncCopyDone => exact ⟨_, fun _ => rfl, fun d => (Dev.Follows.refl d).opResyncDone⟩
  | sbOk => exact ⟨_, fun _ => rfl, fun d => (Dev.Follows.refl d).opSbOk⟩
  | stestRun => exact ⟨_, fun _ => rfl, fun d => (Dev.Follows.refl d).opStestRun⟩
  | braceSweep => exact ⟨_, fun _ => rfl, fun d => (Dev.Follows.refl d).opBraceSweep⟩
  | braceSweepNow => exact ⟨_, fun _ => rfl, fun d => (Dev.Follows.refl d).opBraceSweepNow⟩
  | braceSweepDone => exact ⟨_, fun _ => rfl, fun d => (Dev.Follows.refl d).opSweepDone⟩
  | bpTxFetch => exact ⟨_, fun _ => rfl, fun d => (Dev.Follows.refl d).opBpTxFetch⟩
  | repair => exact ⟨_, fun _ => rfl, fun d => (Dev.Follows.refl d).opRepair⟩
  | scrubGo => exact ⟨_, fun _ => rfl, fun d => (Dev.Follows.refl d).opScrubGo⟩
  | scrubAbort => exact ⟨_, fun _ => rfl, fun d => (Dev.Follows.refl d).opScrubAbort⟩
  | scrubPeriod => exact ⟨_, fun _ => rfl, fun d => (Dev.Follows.refl d).opScrubPeriod⟩
  | scrubUnitRead => exact ⟨_, fun _ => rfl, fun d => (Dev.Follows.refl d).opScrubRead⟩
  | scrubPassDone => exact ⟨_, fun _ => rfl, fun d => (Dev.Follows.refl d).opScrubDone⟩
  | reserveRowRemapDone => exact ⟨_, fun _ => rfl, fun d => (Dev.Follows.refl d).opRowRemap⟩
  | ceThresholdCheck => exact ⟨_, fun _ => rfl, fun d => (Dev.Follows.refl d).opCeThreshold⟩
  | injectArm => exact ⟨_, fun _ => rfl, fun d => (Dev.Follows.refl d).opInject⟩
  | remapRecordClear => exact ⟨_, fun _ => rfl, fun d => (Dev.Follows.refl d).opRecordClear⟩
  | peRstnLow => exact ⟨_, fun _ => rfl, fun d => (Dev.Follows.refl d).opPeRstnLow⟩
  | peRstnRise => exact ⟨_, fun _ => rfl, fun d => (Dev.Follows.refl d).opPeRstnRise⟩
  | functionLevelReset => exact ⟨_, fun _ => rfl, fun d => (Dev.Follows.refl d).opFlr⟩
  | pcieLinkUp => exact ⟨_, fun _ => rfl, fun d => (Dev.Follows.refl d).opPcieUp⟩
  | pcieLinkDown => exact ⟨_, fun _ => rfl, fun d => (Dev.Follows.refl d).opPcieDown⟩
  | peWakenRelease => exact ⟨_, fun _ => rfl, fun d => (Dev.Follows.refl d).opPeWakenRelease⟩
  | hostWrite => exact ⟨_, fun _ => rfl, fun d => (Dev.Follows.refl d).opHostWrite⟩
  | hostRetryRead => exact ⟨_, fun _ => rfl, fun d => (Dev.Follows.refl d).opHostRetryRead⟩
  | hostSplitRead => exact ⟨_, fun _ => rfl, fun d => (Dev.Follows.refl d).opHostSplitRead⟩
  | retrieverWaitExpiry => exact ⟨_, fun _ => rfl, fun d => (Dev.Follows.refl d).opRtvWait⟩
  | retrieverFetchDone => exact ⟨_, fun _ => rfl, fun d => (Dev.Follows.refl d).opRtvFetch⟩
  | retrieverHoldExpiry => exact ⟨_, fun _ => rfl, fun d => (Dev.Follows.refl d).opRtvHold⟩
  | prefetchLineDiscard => exact ⟨_, fun _ => rfl, fun d => (Dev.Follows.refl d).opLineDiscard⟩
  | outboundReadCompletion => exact ⟨_, fun _ => rfl, fun d => (Dev.Follows.refl d).opOutDone⟩
  | outboundReadTimeout => exact ⟨_, fun _ => rfl, fun d => (Dev.Follows.refl d).opOutTimeout⟩
  | pweRead => exact ⟨_, fun _ => rfl, fun d => (Dev.Follows.refl d).opPweRead⟩
  | semRead => exact ⟨_, fun _ => rfl, fun d => (Dev.Follows.refl d).opSemRead⟩
  | semRelease => exact ⟨_, fun _ => rfl, fun d => (Dev.Follows.refl d).opSemRelease⟩
  | semTimeout => exact ⟨_, fun _ => rfl, fun d => (Dev.Follows.refl d).opSemTimeout⟩
  | msixUnmask => exact ⟨_, fun _ => rfl, fun d => (Dev.Follows.refl d).opMsixUnmask⟩
  | hostTxDescFetch => exact ⟨_, fun _ => rfl, fun d => (Dev.Follows.refl d).opHostTxFetch⟩
  | hostTxFrameDone => exact ⟨_, fun _ => rfl, fun d => (Dev.Follows.refl d).opHostTxDone⟩
  | hostRxWriteDone => exact ⟨_, fun _ => rfl, fun d => (Dev.Follows.refl d).opHostRxDone⟩
  | hostRingResume => exact ⟨_, fun _ => rfl, fun d => (Dev.Follows.refl d).opHostResume⟩
  | hostLinkHoldExpiry => exact ⟨_, fun _ => rfl, fun d => (Dev.Follows.refl d).opHostHold⟩
  | vhLinkUp => exact ⟨_, fun _ => rfl, fun d => (Dev.Follows.refl d).opVhLinkUp⟩
  | vhLinkDown => exact ⟨_, fun _ => rfl, fun d => (Dev.Follows.refl d).opVhLinkDown⟩
  | vhControlBlock => exact ⟨_, fun _ => rfl, fun d => (Dev.Follows.refl d).opVhControlBlock⟩
  | vhFrameReceived => exact ⟨_, fun _ => rfl, fun d => (Dev.Follows.refl d).opVhFrame⟩
  | holdIRise => exact ⟨_, fun _ => rfl, fun d => (Dev.Follows.refl d).opHoldIRise⟩
  | holdIFall => exact ⟨_, fun _ => rfl, fun d => (Dev.Follows.refl d).opHoldIFall⟩
  | helloSend => exact ⟨_, fun _ => rfl, fun d => (Dev.Follows.refl d).opHelloSend⟩
  | helloReceived => exact ⟨_, fun _ => rfl, fun d => (Dev.Follows.refl d).opHelloReceived⟩
  | masterLoss => exact ⟨_, fun _ => rfl, fun d => (Dev.Follows.refl d).opMasterLoss⟩
  | idReqReceived => exact ⟨_, fun _ => rfl, fun d => (Dev.Follows.refl d).opIdReq⟩
  | idGrantReceived => exact ⟨_, fun _ => rfl, fun d => (Dev.Follows.refl d).opIdGrant⟩
  | idGrantLinkRelease => exact ⟨_, fun _ => rfl, fun d => (Dev.Follows.refl d).opIdRelease⟩
  | timeSync => exact ⟨_, fun _ => rfl, fun d => (Dev.Follows.refl d).opTimeSync⟩
  | timeReqReceived => exact ⟨_, fun _ => rfl, fun d => (Dev.Follows.refl d).opTimeReq⟩
  | timeRspReceived => exact ⟨_, fun _ => rfl, fun d => (Dev.Follows.refl d).opTimeRsp⟩
  | voteReceived => exact ⟨_, fun _ => rfl, fun d => (Dev.Follows.refl d).opVote⟩
  | decideReceived => exact ⟨_, fun _ => rfl, fun d => (Dev.Follows.refl d).opDecide⟩
  | ccDeadline => exact ⟨_, fun _ => rfl, fun d => (Dev.Follows.refl d).opCcDeadline⟩
  | decideResend => exact ⟨_, fun _ => rfl, fun d => (Dev.Follows.refl d).opDecideResend⟩
  | ccGuardExpiry => exact ⟨_, fun _ => rfl, fun d => (Dev.Follows.refl d).opCcGuard⟩
  | cascadeCommitExecute => exact ⟨_, fun _ => rfl, fun d => (Dev.Follows.refl d).opCascadeExecute⟩
  | pathRevert => exact ⟨_, fun _ => rfl, fun d => (Dev.Follows.refl d).opPathRevert⟩
  | pathRead => exact ⟨_, fun _ => rfl, fun d => (Dev.Follows.refl d).opPathRead⟩
  | pathStage => exact ⟨_, fun _ => rfl, fun d => (Dev.Follows.refl d).opPathStage⟩
  | bankWrite => exact ⟨_, fun _ => rfl, fun d => (Dev.Follows.refl d).opBankWrite⟩
  | bankWriteDone => exact ⟨_, fun _ => rfl, fun d => (Dev.Follows.refl d).opBankWriteDone⟩
  | bankVerify => exact ⟨_, fun _ => rfl, fun d => (Dev.Follows.refl d).opBankVerify⟩
  | bankVerifyDone => exact ⟨_, fun _ => rfl, fun d => (Dev.Follows.refl d).opBankVerifyDone⟩
  | prepare => exact ⟨_, fun _ => rfl, fun d => (Dev.Follows.refl d).opPrepare⟩
  | prepareCopyDone => exact ⟨_, fun _ => rfl, fun d => (Dev.Follows.refl d).opPrepareCopy⟩
  | standbyTimeout => exact ⟨_, fun _ => rfl, fun d => (Dev.Follows.refl d).opStandbyTimeout⟩
  | updateRestart => exact ⟨_, fun _ => rfl, fun d => (Dev.Follows.refl d).opRestart⟩
  | updateAbort => exact ⟨_, fun _ => rfl, fun d => (Dev.Follows.refl d).opUpdAbort⟩
  | guardOnset => exact ⟨_, fun _ => rfl, fun d => (Dev.Follows.refl d).opGuardOnset⟩
  | handoverSlotArm => exact ⟨_, fun _ => rfl, fun d => (Dev.Follows.refl d).opHandoverArm⟩
  | braceHandoverLaunch => exact ⟨_, fun _ => rfl, fun d => (Dev.Follows.refl d).opHandoverLaunch⟩
  | confirm => exact ⟨_, fun _ => rfl, fun d => (Dev.Follows.refl d).opConfirm⟩
  | confirmTimeout => exact ⟨_, fun _ => rfl, fun d => (Dev.Follows.refl d).opConfirmTimeout⟩
  | olockSet => exact ⟨_, fun _ => rfl, fun d => (Dev.Follows.refl d).opOlockSet⟩
  | olockUnlock => exact ⟨_, fun _ => rfl, fun d => (Dev.Follows.refl d).opOlockUnlock⟩
  | olockClear => exact ⟨_, fun _ => rfl, fun d => (Dev.Follows.refl d).opOlockClear⟩
  | phyCodeLoad => exact ⟨_, fun _ => rfl, fun d => (Dev.Follows.refl d).opPhyCode⟩
  | phyCodePortDone => exact ⟨_, fun _ => rfl, fun d => (Dev.Follows.refl d).opPhyCodeDone⟩
  | phyCodePortTimeout => exact ⟨_, fun _ => rfl, fun d => (Dev.Follows.refl d).opPhyCodeTimeout⟩
  | heldWakeMainOn => exact ⟨_, fun _ => rfl, fun d => (Dev.Follows.refl d).opHeldWake⟩
  | outboundAccess => exact ⟨_, fun _ => rfl, fun d => (Dev.Follows.refl d).opOutbound⟩
  | pcieConfigWrite => exact ⟨_, fun _ => rfl, fun d => (Dev.Follows.refl d).opPcieConfig⟩
  | supenCmdWrite => exact ⟨_, fun _ => rfl, fun d => (Dev.Follows.refl d).opSupenCmd⟩
  | gpioOwnWrite => exact ⟨_, fun _ => rfl, fun d => (Dev.Follows.refl d).opGpioOwn⟩
  | slotActionNone => exact ⟨_, fun _ => rfl, fun d => (Dev.Follows.refl d).opSlotNone⟩

/-- Settles O60: a step is a command's effect, or with an empty queue the passing of one tick. -/
theorem stepKeepsCanonicalForm : Obligations.StepKeepsCanonicalForm := by
  intro s t hstep
  obtain ⟨d, q⟩ := s
  cases q with
  | nil =>
    cases hstep
    obtain ⟨hcan, htime, hout⟩ := (Dev.Follows.refl d).at_ (t := d.now + timT 1)
    exact ⟨hcan, htime, hout, rfl⟩
  | cons c q =>
    obtain ⟨f, hexec, hf⟩ := exec_follows c
    have hc : effectIf c.wf f ⟨d, q⟩ = .next t := (hexec ⟨d, q⟩).symm.trans hstep
    rw [effectIf] at hc
    split at hc
    · cases hc
      obtain ⟨hcan, htime, hout⟩ := hf d
      exact ⟨hcan, htime, hout, rfl⟩
    · cases hc

end Sys2Proof.Machine
end

section
/-!
PROOF. What the entry to Halt and a unit reset leave alone: the operations they are made of keep the power state, the memory and the
instant and begin no commit, which `Dev.Quiet` says of each of them once.
-/

namespace Sys2Proof.Machine

variable {d₀ : Dev}

/-- The power state, the memory and the instant are those of d, and no page has begun a commit. -/
structure Dev.Quiet (d e : Dev) : Prop where
  pw : e.pw = d.pw
  mem : e.mem = d.mem
  now : e.now = d.now
  idle : ∀ pg, (d.pg pg).phase = .none → (e.pg pg).phase = .none

theorem Dev.Quiet.refl (d : Dev) : d.Quiet d := ⟨rfl, rfl, rfl, fun _ h => h⟩

/-- What the relation speaks of is the power state, the memory, the instant and the pages. -/
theorem Dev.Quiet.units {d : Dev} (h : d₀.Quiet d) {aut bus regs timers drawn serial out mram brc ecc upd eth fwd hbr kal key sys tim
    trm vlt voh wak} :
    d₀.Quiet { aut := aut, bus := bus, now := d.now, regs := regs, mem := d.mem, timers := timers, drawn := drawn,
               serial := serial, out := out, pgs := d.pgs, pw := d.pw, mram := mram, brc := brc, ecc := ecc, upd := upd,
               eth := eth, fwd := fwd, hbr := hbr, kal := kal, key := key, sys := sys, tim := tim, trm := trm, vlt := vlt,
               voh := voh, wak := wak } := ⟨h.pw, h.mem, h.now, h.idle⟩

/-- A change of a page that begins no commit. -/
theorem Dev.Quiet.modPg {pg : Nat} {f : PgState → PgState} {d : Dev} (hf : ∀ s, s.phase = .none → (f s).phase = .none)
    (h : d₀.Quiet d) : d₀.Quiet (d.modPg pg f) := by
  refine ⟨h.pw, h.mem, h.now, fun p hp => ?_⟩
  have hd := h.idle p hp
  by_cases hpg : p = pg
  · subst hpg
    rw [Dev.modPg, pg_setPg_same]
    exact hf _ hd
  · rw [Dev.modPg, pg_setPg_other _ _ hpg]
    exact hd

/-! ### Choices, repetitions and the operations -/

theorem Dev.Quiet.ite {x y : Dev} {c : Prop} {dec : Decidable c} (hx : d₀.Quiet x) (hy : d₀.Quiet y) :
    d₀.Quiet (if c then x else y) := by
  split
  · exact hx
  · exact hy

theorem Dev.Quiet.iteSnd {α : Type} {x y : α × Dev} {c : Prop} {dec : Decidable c} (hx : d₀.Quiet x.2) (hy : d₀.Quiet y.2) :
    d₀.Quiet (if c then x else y).2 := by
  split
  · exact hx
  · exact hy

/-- The device of a pair that was taken apart. -/
theorem Dev.Quiet.ofSnd {α : Type} {p : α × Dev} {x : α} {d : Dev} (h : d₀.Quiet p.2) (he : p = (x, d)) : d₀.Quiet d := by
  rw [he] at h
  exact h

/-- A device that later steps start from more than once. -/
theorem Dev.Quiet.through {x y : Dev} (k : d₀.Quiet x → d₀.Quiet y) (h : d₀.Quiet x) : d₀.Quiet y := k h

theorem Dev.Quiet.foldl {α : Type} {l : List α} {f : Dev → α → Dev} {d : Dev}
    (hf : ∀ t x, d₀.Quiet t → d₀.Quiet (f t x)) (h : d₀.Quiet d) : d₀.Quiet (l.foldl f d) := by
  induction l generalizing d with
  | nil => exact h
  | cons x l ih => exact ih (hf d x h)

theorem Dev.Quiet.wr {d : Dev} {a : Nat} {v : Word} (h : d₀.Quiet d) : d₀.Quiet (d.wr a v) := by
  unfold Dev.wr
  exact h.units

theorem Dev.Quiet.put {d : Dev} {f : FRef} {v : Nat} (h : d₀.Quiet d) : d₀.Quiet (d.put f v) := by
  unfold Dev.put
  exact h.wr

theorem Dev.Quiet.add {f : FRef} {n : Nat} {d : Dev} (h : d₀.Quiet d) : d₀.Quiet (Dev.add f n d) := by
  unfold Dev.add
  exact h.put

theorem Dev.Quiet.count {a : Nat} {d : Dev} (h : d₀.Quiet d) : d₀.Quiet (Dev.count a d) := by
  unfold Dev.count
  exact h.add

theorem Dev.Quiet.wr64 {lo hi v : Nat} {d : Dev} (h : d₀.Quiet d) : d₀.Quiet (Dev.wr64 lo hi v d) := by
  unfold Dev.wr64
  exact h.wr.wr

theorem Dev.Quiet.setBit {a i : Nat} {b : Bool} {d : Dev} (h : d₀.Quiet d) : d₀.Quiet (Dev.setBit a i b d) := by
  unfold Dev.setBit
  exact h.put

theorem Dev.Quiet.when {c : Bool} {f : Dev → Dev} {d : Dev} (hf : ∀ (t : Dev), d₀.Quiet t → d₀.Quiet (f t)) (h : d₀.Quiet d) :
    d₀.Quiet (Dev.when c f d) := by
  unfold Dev.when
  exact .ite (hf _ h) h

theorem Dev.Quiet.each {α : Type} {l : List α} {f : α → Dev → Dev} {d : Dev} (hf : ∀ (x1 : α) (t : Dev), d₀.Quiet t → d₀.Quiet (f x1 t))
    (h : d₀.Quiet d) :
    d₀.Quiet (Dev.each l f d) := by
  unfold Dev.each
  exact .foldl (fun _ _ h1 => hf _ _ h1) h

theorem Dev.Quiet.cancel {t : Timer} {d : Dev} (h : d₀.Quiet d) : d₀.Quiet (Dev.cancel t d) := by
  unfold Dev.cancel
  exact h.units

theorem Dev.Quiet.arm {t : Timer} {at_ : Nat} {d : Dev} (h : d₀.Quiet d) : d₀.Quiet (Dev.arm t at_ d) := by
  unfold Dev.arm
  exact h.cancel.units

theorem Dev.Quiet.armIn {t : Timer} {len : Nat} {d : Dev} (h : d₀.Quiet d) : d₀.Quiet (Dev.armIn t len d) := by
  unfold Dev.armIn
  exact h.arm

theorem Dev.Quiet.emit {o : Output} {d : Dev} (h : d₀.Quiet d) : d₀.Quiet (Dev.emit o d) := by
  unfold Dev.emit
  exact h.units

theorem Dev.Quiet.sendMsix {v : Nat} {d : Dev} (h : d₀.Quiet d) : d₀.Quiet (Dev.sendMsix v d) := by
  unfold Dev.sendMsix
  exact .ite h.emit (.ite h h.units)

theorem Dev.Quiet.sendMsg {pg : Nat} {d : Dev} (h : d₀.Quiet d) : d₀.Quiet (Dev.sendMsg pg d) := by
  unfold Dev.sendMsg
  exact .through (fun h1 => .ite h1.sendMsix h1) (.ite h.emit h)

theorem Dev.Quiet.raise {pg bit : Nat} {d : Dev} (h : d₀.Quiet d) : d₀.Quiet (Dev.raise pg bit d) := by
  unfold Dev.raise
  exact .ite h (.ite h.setBit.sendMsg h.setBit)

theorem Dev.Quiet.capture {pg kind reason : Nat} {i : Initiator} {off detail detail2 : Nat} {d : Dev} (h : d₀.Quiet d) :
    d₀.Quiet (Dev.capture pg kind reason i off detail detail2 d) := by
  unfold Dev.capture
  exact .ite h h.wr.wr.wr.wr.raise

theorem Dev.Quiet.refreshPg {pg : Nat} {d : Dev} (h : d₀.Quiet d) : d₀.Quiet (Dev.refreshPg pg d) := by
  unfold Dev.refreshPg
  exact .ite h.put.put.put h.put.put.put.raise

theorem Dev.Quiet.refresh {d : Dev} (h : d₀.Quiet d) : d₀.Quiet d.refresh := by
  unfold Dev.refresh
  exact .each (fun _ _ h1 => h1.refreshPg) h

theorem Dev.Quiet.refreshFrom {pg : Nat} {d : Dev} (h : d₀.Quiet d) : d₀.Quiet (Dev.refreshFrom pg d) := by
  unfold Dev.refreshFrom
  exact .ite h.refresh h.refreshPg

theorem Dev.Quiet.syncMode {d : Dev} (h : d₀.Quiet d) : d₀.Quiet d.syncMode := by
  unfold Dev.syncMode
  exact h.put.put

theorem Dev.Quiet.pushRepair {region unit : Nat} {d : Dev} (h : d₀.Quiet d) : d₀.Quiet (Dev.pushRepair region unit d) := by
  unfold Dev.pushRepair
  exact .ite h (.ite h.count.put.raise h.units.units.put)

theorem Dev.Quiet.releaseWaiting {coin : Nat} {d : Dev} (h : d₀.Quiet d) : d₀.Quiet (Dev.releaseWaiting coin d) := by
  unfold Dev.releaseWaiting
  exact .each (fun _ _ h1 => h1.pushRepair) h.units

theorem Dev.Quiet.setCoin {c : Nat} {s : Option (CoinSt × Bool)} {d : Dev} (h : d₀.Quiet d) : d₀.Quiet (Dev.setCoin c s d) := by
  unfold Dev.setCoin
  exact h.units

theorem Dev.Quiet.tillChanged {d : Dev} (h : d₀.Quiet d) : d₀.Quiet d.tillChanged := by
  unfold Dev.tillChanged
  exact .through (fun h1 => .ite h1.setBit.raise (.ite h1.setBit h1)) (.ite h.units.count.raise (.ite h.units h))

theorem Dev.Quiet.pinChanged {d : Dev} (h : d₀.Quiet d) : d₀.Quiet d.pinChanged := by
  unfold Dev.pinChanged
  exact .ite h.setBit.raise (.ite h.setBit h)

theorem Dev.Quiet.setPool {p : Pool} {l : List (Nat × Nat)} {d : Dev} (h : d₀.Quiet d) : d₀.Quiet (Dev.setPool p l d) := by
  unfold Dev.setPool
  split <;> exact h.units

theorem Dev.Quiet.takeCoin {p : Pool} {d : Dev} {r : Nat × Dev} (h : d₀.Quiet d) (he : d.takeCoin p = some r) : d₀.Quiet r.2 := by
  unfold Dev.takeCoin at he
  split at he
  · cases he
  · cases he
    exact .ite h.setPool.put.setCoin.tillChanged h.setPool.put.setCoin

theorem Dev.Quiet.takeCoins {p : Pool} {n : Nat} {d : Dev} {r : List Nat × Dev} (h : d₀.Quiet d) (he : d.takeCoins p n = some r) :
    d₀.Quiet r.2 := by
  induction n generalizing d r with
  | zero => cases he; exact h
  | succ n ih =>
    unfold Dev.takeCoins at he
    split at he
    · cases he
    · next _ t h1 =>
      have ht : d₀.Quiet t := h.takeCoin h1
      split at he
      · cases he
      · next h2 =>
        cases he
        have hu := ih ht h2
        exact hu

theorem Dev.Quiet.freeCoin {c : Nat} {d : Dev} (h : d₀.Quiet d) : d₀.Quiet (Dev.freeCoin c d) := by
  unfold Dev.freeCoin
  split
  · exact h
  · exact .releaseWaiting (.ite h.setCoin.setPool.put.tillChanged h.setCoin.setPool.put)

theorem Dev.Quiet.holdCoin {c : Nat} {d : Dev} (h : d₀.Quiet d) : d₀.Quiet (Dev.holdCoin c d) := by
  unfold Dev.holdCoin
  split
  · exact h.setCoin
  · exact h

theorem Dev.Quiet.acctChanged {k : Nat} {d : Dev} (h : d₀.Quiet d) : d₀.Quiet (Dev.acctChanged k d) := by
  unfold Dev.acctChanged
  exact .through (fun h1 => .ite h1.setBit.raise (.ite h1.setBit h1)) (.ite h.put.put.put.setBit.raise
    (.ite h.put.put.put.setBit.raise h.put.put.put))

theorem Dev.Quiet.chargeCoin {k : Nat} {d : Dev} (h : d₀.Quiet d) : d₀.Quiet (Dev.chargeCoin k d) := by
  unfold Dev.chargeCoin
  exact .acctChanged (.put (.ite h.put h))

theorem Dev.Quiet.chargeBus {k n : Nat} {d : Dev} (h : d₀.Quiet d) : d₀.Quiet (Dev.chargeBus k n d) := by
  unfold Dev.chargeBus
  exact h.put.acctChanged

theorem Dev.Quiet.uncharge {bus : Bool} {k : Nat} {d : Dev} (h : d₀.Quiet d) : d₀.Quiet (Dev.uncharge bus k d) := by
  unfold Dev.uncharge
  exact .ite h.put.acctChanged (.acctChanged (.put (.ite h h.put)))

theorem Dev.Quiet.charge {bus : Bool} {k : Nat} {d : Dev} (h : d₀.Quiet d) : d₀.Quiet (Dev.charge bus k d) := by
  unfold Dev.charge
  exact .ite h.chargeBus h.chargeCoin

theorem Dev.Quiet.setRx {p : Nat} {r : Option Rx} {d : Dev} (h : d₀.Quiet d) : d₀.Quiet (Dev.setRx p r d) := by
  unfold Dev.setRx
  exact h.units

theorem Dev.Quiet.countHdrm {f : Frame} {d : Dev} (h : d₀.Quiet d) : d₀.Quiet (Dev.countHdrm f d) := by
  unfold Dev.countHdrm
  refine .ite h (.ite ?_ h.put)
  split
  · exact h.put.setRx
  · exact h.put.units

theorem Dev.Quiet.modFrame {fid : Nat} {g : Frame → Frame} {d : Dev} (h : d₀.Quiet d) : d₀.Quiet (Dev.modFrame fid g d) := by
  unfold Dev.modFrame
  exact h.units

theorem Dev.Quiet.dropFrame {fid : Nat} {d : Dev} (h : d₀.Quiet d) : d₀.Quiet (Dev.dropFrame fid d) := by
  unfold Dev.dropFrame
  exact h.units

theorem Dev.Quiet.setVoq {q : Nat} {l : List Copy} {d : Dev} (h : d₀.Quiet d) : d₀.Quiet (Dev.setVoq q l d) := by
  unfold Dev.setVoq
  exact h.units

theorem Dev.Quiet.pin {f : Frame} {on : Bool} {d : Dev} (h : d₀.Quiet d) : d₀.Quiet (Dev.pin f on d) := by
  unfold Dev.pin
  exact h.put.pinChanged

theorem Dev.Quiet.dropSpill {f : Frame} {s : Spill} {d : Dev} (h : d₀.Quiet d) : d₀.Quiet (Dev.dropSpill f s d) := by
  unfold Dev.dropSpill
  exact .each (fun _ _ h1 => h1.freeCoin.uncharge) h.units.cancel

theorem Dev.Quiet.abandonSpill {fid : Nat} {d : Dev} (h : d₀.Quiet d) : d₀.Quiet (Dev.abandonSpill fid d) := by
  unfold Dev.abandonSpill
  split
  · exact h.dropSpill.count
  · exact h

theorem Dev.Quiet.startSpill {q k : Nat} {d : Dev} (h : d₀.Quiet d) : d₀.Quiet (Dev.startSpill q k d) := by
  unfold Dev.startSpill
  split
  · exact h
  · split
    · exact h
    · dsimp only
      split
      · split
        · next h1 => exact .armIn (.units (.each (fun _ _ h2 => h2.charge) (h.takeCoins h1)))
        · exact h
      · split
        · next h3 => exact .armIn (.units (.each (fun _ _ h4 => h4.charge) ((h.takeCoins h3).charge.countHdrm)))
        · next h5 => exact h

theorem Dev.Quiet.spillOne {q : Nat} {d : Dev} (h : d₀.Quiet d) : d₀.Quiet (Dev.spillOne q d) := by
  unfold Dev.spillOne
  dsimp only
  split
  · exact h.startSpill
  · exact h

theorem Dev.Quiet.spillCheck {q : Nat} {d : Dev} (h : d₀.Quiet d) : d₀.Quiet (Dev.spillCheck q d) := by
  unfold Dev.spillCheck
  exact .each (fun _ _ h1 => h1.spillOne) h

theorem Dev.Quiet.newHead {q : Nat} {d : Dev} (h : d₀.Quiet d) : d₀.Quiet (Dev.newHead q d) := by
  unfold Dev.newHead
  split
  · exact h
  · dsimp only
    split
    · exact .ite h.abandonSpill.armIn h.abandonSpill
    · exact h.abandonSpill

theorem Dev.Quiet.freeFrame {f : Frame} {d : Dev} (h : d₀.Quiet d) : d₀.Quiet (Dev.freeFrame f d) := by
  unfold Dev.freeFrame
  exact .dropFrame (.each (fun _ _ h1 => h1.freeCoin.uncharge) h.abandonSpill)

theorem Dev.Quiet.release {fid : Nat} {d : Dev} (h : d₀.Quiet d) :
    d₀.Quiet (Dev.release fid d) := by
  unfold Dev.release
  split
  · exact h
  · refine .ite h.freeFrame (.ite ?_ h.modFrame)
    dsimp only
    split
    · exact h.modFrame.pin.spillCheck
    · exact h.modFrame.pin

theorem Dev.Quiet.ldg {p i n : Nat} {d : Dev} (h : d₀.Quiet d) : d₀.Quiet (Dev.ldg p i n d) := by
  unfold Dev.ldg
  exact .ite h (.ite h.units.setBit.raise h.units)

theorem Dev.Quiet.leashSub {p : Nat} {d : Dev} (h : d₀.Quiet d) : d₀.Quiet (Dev.leashSub p d) := by
  unfold Dev.leashSub
  exact h.put

theorem Dev.Quiet.lqCount {d : Dev} (h : d₀.Quiet d) : d₀.Quiet d.lqCount := by
  unfold Dev.lqCount
  exact h.put

theorem Dev.Quiet.dropLearn {v : Learn} {d : Dev} (h : d₀.Quiet d) : d₀.Quiet (Dev.dropLearn v d) := by
  unfold Dev.dropLearn
  exact h.units.lqCount

theorem Dev.Quiet.cancelLearn {fid : Nat} {d : Dev} (h : d₀.Quiet d) : d₀.Quiet (Dev.cancelLearn fid d) := by
  unfold Dev.cancelLearn
  exact .each (fun _ _ h1 => h1.units.dropLearn.leashSub) h

theorem Dev.Quiet.pathSwitch {dev : Nat} {alt : Bool} {d : Dev} (h : d₀.Quiet d) : d₀.Quiet (Dev.pathSwitch dev alt d) := by
  unfold Dev.pathSwitch
  exact .ite h h.units.count.raise

theorem Dev.Quiet.pathCode {d : Dev} {dev : Nat} (h : d₀.Quiet d) : d₀.Quiet (d.pathCode dev).2 := by
  unfold Dev.pathCode
  refine .iteSnd h (.iteSnd h ?_)
  split
  · exact h.pathSwitch
  · exact .iteSnd h.pathSwitch h

theorem Dev.Quiet.revertStop {code : Nat} {d : Dev} (h : d₀.Quiet d) : d₀.Quiet (Dev.revertStop code d) := by
  unfold Dev.revertStop
  exact .each (fun _ _ h1 => .ite h1.cancel.pathSwitch h1.cancel) h

theorem Dev.Quiet.setGateRun {g : Nat} {r : GateRun} {d : Dev} (h : d₀.Quiet d) : d₀.Quiet (Dev.setGateRun g r d) := by
  unfold Dev.setGateRun
  exact h.units

theorem Dev.Quiet.setTas {p : Nat} {r : GateRun} {d : Dev} (h : d₀.Quiet d) : d₀.Quiet (Dev.setTas p r d) := by
  unfold Dev.setTas
  exact h.units

theorem Dev.Quiet.releaseGpio {g : Nat} {d : Dev} (h : d₀.Quiet d) : d₀.Quiet (Dev.releaseGpio g d) := by
  unfold Dev.releaseGpio
  exact .ite h.cancel h.cancel.units.emit

theorem Dev.Quiet.setCredit {p c : Nat} {k : Credit} {d : Dev} (h : d₀.Quiet d) : d₀.Quiet (Dev.setCredit p c k d) := by
  unfold Dev.setCredit
  exact h.units

theorem Dev.Quiet.creditSync {p c : Nat} {d : Dev} (h : d₀.Quiet d) : d₀.Quiet (Dev.creditSync p c d) := by
  unfold Dev.creditSync
  exact .ite h h.setCredit

theorem Dev.Quiet.creditPort {p : Nat} {d : Dev} (h : d₀.Quiet d) : d₀.Quiet (Dev.creditPort p d) := by
  unfold Dev.creditPort
  exact .ite (.each (fun _ _ h1 => h1.creditSync) h) h

theorem Dev.Quiet.creditUntil {p c t : Nat} {d : Dev} (h : d₀.Quiet d) : d₀.Quiet (Dev.creditUntil p c t d) := by
  unfold Dev.creditUntil
  exact .ite h.setCredit h

theorem Dev.Quiet.tasShow {p : Nat} {d : Dev} (h : d₀.Quiet d) : d₀.Quiet (Dev.tasShow p d) := by
  unfold Dev.tasShow
  dsimp only
  split <;> exact .wr64 (by split; exacts [h.put.put.put.put.put, h.put.put.put.put])

/-- The cut is made a variable first: the kernel would run into its arithmetic otherwise. -/
theorem Dev.Quiet.preemptTx {p : Nat} {d : Dev} (h : d₀.Quiet d) :
    d₀.Quiet (Dev.preemptTx p d) := by
  obtain ⟨cut, hcut⟩ : ∃ cut, d.cutAt = cut := ⟨_, rfl⟩
  rw [Dev.preemptTx, hcut]
  split
  · exact h
  · split
    · exact h
    · exact h.creditPort.units.creditUntil.ldg

theorem Dev.Quiet.verifyStart {p : Nat} {d : Dev} (h : d₀.Quiet d) : d₀.Quiet (Dev.verifyStart p d) := by
  unfold Dev.verifyStart
  exact h.put

theorem Dev.Quiet.setWire {p t : Nat} {d : Dev} (h : d₀.Quiet d) : d₀.Quiet (Dev.setWire p t d) := by
  unfold Dev.setWire
  exact h.units

theorem Dev.Quiet.fcLater {p : Nat} {d : Dev} (h : d₀.Quiet d) : d₀.Quiet (Dev.fcLater p d) := by
  unfold Dev.fcLater
  exact .through (fun h1 => .ite h1.arm h1) (.ite h h.units)

theorem Dev.Quiet.fcSend {p set : Nat} {d : Dev} (h : d₀.Quiet d) : d₀.Quiet (Dev.fcSend p set d) := by
  unfold Dev.fcSend
  exact .through (fun h1 => .through (fun h2 => .ite h2.cancel h2.arm) (.ite h1.arm h1)) h.emit.ldg.ldg.ldg.units.units.setWire

theorem Dev.Quiet.lpiLeave {p : Nat} {d : Dev} (h : d₀.Quiet d) : d₀.Quiet (Dev.lpiLeave p d) := by
  unfold Dev.lpiLeave
  exact .ite h.units.armIn h

theorem Dev.Quiet.fcPush {p : Nat} {d : Dev} (h : d₀.Quiet d) : d₀.Quiet (Dev.fcPush p d) := by
  unfold Dev.fcPush
  exact .ite h.fcLater.lpiLeave (.ite h.preemptTx.fcLater h.preemptTx.fcSend)

theorem Dev.Quiet.drainOn {out : Nat} {d : Dev} (h : d₀.Quiet d) : d₀.Quiet (Dev.drainOn out d) := by
  unfold Dev.drainOn
  exact .ite h h.units

theorem Dev.Quiet.drainOff {out : Nat} {d : Dev} (h : d₀.Quiet d) : d₀.Quiet (Dev.drainOff out d) := by
  unfold Dev.drainOff
  exact h.units

theorem Dev.Quiet.setIso {pg v : Nat} {d : Dev} (h : d₀.Quiet d) : d₀.Quiet (Dev.setIso pg v d) := by
  unfold Dev.setIso
  exact .ite h h.put.raise

theorem Dev.Quiet.isoStart {pg : Nat} {d : Dev} (h : d₀.Quiet d) : d₀.Quiet (Dev.isoStart pg d) := by
  unfold Dev.isoStart
  exact h.put.setIso.units.refreshFrom.syncMode

theorem Dev.Quiet.isoEth {p : Nat} {d : Dev} (h : d₀.Quiet d) : d₀.Quiet (Dev.isoEth p d) := by
  unfold Dev.isoEth
  exact .ite h (.through (fun h1 => .through (fun h2 => .ite h2.fcPush h2) (.ite h1.revertStop h1)) h.units.cancel.isoStart.drainOn)

theorem Dev.Quiet.touch {p : Nat} {d : Dev} (h : d₀.Quiet d) : d₀.Quiet (Dev.touch p d) := by
  unfold Dev.touch
  exact h.units

theorem Dev.Quiet.countCtl {code : Nat} {d : Dev} (h : d₀.Quiet d) : d₀.Quiet (Dev.countCtl code d) := by
  unfold Dev.countCtl
  exact .ite h.count h

theorem Dev.Quiet.unRx {fid : Nat} {d : Dev} (h : d₀.Quiet d) : d₀.Quiet (Dev.unRx fid d) := by
  unfold Dev.unRx
  exact h.units

theorem Dev.Quiet.dropArriving {fid : Nat} {d : Dev} (h : d₀.Quiet d) : d₀.Quiet (Dev.dropArriving fid d) := by
  unfold Dev.dropArriving
  refine .unRx ?_
  split
  · exact .freeFrame (.when (fun _ h1 => h1.uncharge) h)
  · exact h

theorem Dev.Quiet.endBad {fid : Nat} {d : Dev} (h : d₀.Quiet d) : d₀.Quiet (Dev.endBad fid d) := by
  unfold Dev.endBad
  exact h.modFrame.units

theorem Dev.Quiet.ldgReceived {p kind : Nat} {r : Rx} {d : Dev} (h : d₀.Quiet d) : d₀.Quiet (Dev.ldgReceived p kind r d) := by
  unfold Dev.ldgReceived
  exact .ite h.ldg.ldg (.ite (.through (fun h1 => .ite h1.ldg h1) h.ldg.ldg.ldg.ldg) h.ldg.ldg)

theorem Dev.Quiet.rejectRx {fid : Nat} {d : Dev} (h : d₀.Quiet d) : d₀.Quiet (Dev.rejectRx fid d) := by
  unfold Dev.rejectRx
  split
  · exact h
  · exact .cancelLearn (.ite h.endBad h.dropArriving)

theorem Dev.Quiet.acceptRx {fid check : Nat} {d : Dev} (h : d₀.Quiet d) : d₀.Quiet (Dev.acceptRx fid check d) := by
  unfold Dev.acceptRx
  dsimp only
  split
  · exact .ite (.each (fun _ _ h1 => h1.holdCoin) h.modFrame) h.modFrame
  · exact h.modFrame

theorem Dev.Quiet.overdraft {p : Nat} {d : Dev} (h : d₀.Quiet d) : d₀.Quiet (Dev.overdraft p d) := by
  unfold Dev.overdraft
  exact h.raise.capture.isoEth

theorem Dev.Quiet.opFrameEnd {p : Nat} {fcsGood pcsErr : Bool} {d : Dev} (h : d₀.Quiet d) :
    d₀.Quiet (opFrameEnd p fcsGood pcsErr d) := by
  unfold Machine.opFrameEnd
  split
  · exact h
  · extract_lets d1 kind ctl d2 d3 v d4 k d5 d6
    have h2 : d₀.Quiet d2 := .ite h.setRx h.setRx.touch
    have h3 : d₀.Quiet d3 := .ite h2.ldg.count h2
    have h4 : d₀.Quiet d4 := .ite h3.units h3.ldgReceived
    have h5 : d₀.Quiet d5 := .ite (.ite h4.count (.ite h4.count (.ite h4.ldg h4))) h4
    refine .through (x := d6) (fun h6 => .ite h6.overdraft h6) ?_
    unfold d6
    split
    · exact .ite h5.acceptRx h5.rejectRx
    · refine .ite (.ite h5.count h5) ?_
      split
      · exact h5.cancelLearn
      · exact h5

theorem Dev.Quiet.hAdvance {r : Nat} {d : Dev} (h : d₀.Quiet d) : d₀.Quiet (Dev.hAdvance r d) := by
  unfold Dev.hAdvance
  exact h.put

theorem Dev.Quiet.hHalt {r cause : Nat} {pass : Bool} {d : Dev} (h : d₀.Quiet d) : d₀.Quiet (Dev.hHalt r cause pass d) := by
  unfold Dev.hHalt
  exact .ite h (.raise (.when (fun _ h1 => h1.hAdvance) h.put.put.put))

theorem Dev.Quiet.dropTx {t : Tx} {d : Dev} (h : d₀.Quiet d) : d₀.Quiet (Dev.dropTx t d) := by
  unfold Dev.dropTx
  exact h.units

theorem Dev.Quiet.hostLose {t : Tx} {d : Dev} (h : d₀.Quiet d) : d₀.Quiet (Dev.hostLose t d) := by
  unfold Dev.hostLose
  exact h.dropTx.release.count

theorem Dev.Quiet.ringsLost {rings : List Nat} {d : Dev} (h : d₀.Quiet d) : d₀.Quiet (Dev.ringsLost rings d) := by
  unfold Dev.ringsLost
  refine .each (fun _ _ h1 => .ite h1.hHalt.units (.ite ?_ h1.hHalt)) h
  split
  · exact h1.hHalt.hostLose
  · exact h1.hHalt

theorem Dev.Quiet.readFails {r : OutRead} {cause : Nat} {d : Dev} (h : d₀.Quiet d) : d₀.Quiet (Dev.readFails r cause d) := by
  unfold Dev.readFails
  exact .ite h.emit (.ite (.each (fun _ _ h1 => .ite h1 h1.put.put.put.raise) h) h)

theorem Dev.Quiet.readsLost {d : Dev} (h : d₀.Quiet d) : d₀.Quiet d.readsLost := by
  unfold Dev.readsLost
  refine .each (fun _ _ h1 => ?_) h.units
  split
  · exact h1.cancel.readFails
  · exact h1

theorem Dev.Quiet.hostGone {d : Dev} (h : d₀.Quiet d) : d₀.Quiet d.hostGone := by
  unfold Dev.hostGone
  exact .ite h.ringsLost (.ite h.ringsLost.drainOn h.ringsLost.armIn)

theorem Dev.Quiet.pcieDown {d : Dev} (h : d₀.Quiet d) : d₀.Quiet d.pcieDown := by
  unfold Dev.pcieDown
  exact .ite h h.put.put.put.count.raise.readsLost

theorem Dev.Quiet.undraw {l : List Draw} {d : Dev} (h : d₀.Quiet d) : d₀.Quiet (Dev.undraw l d) := by
  unfold Dev.undraw
  exact .each (fun _ _ h1 => h1.setVoq.newHead) h.units

theorem Dev.Quiet.fifoShow {ch k : Nat} {d : Dev} (h : d₀.Quiet d) : d₀.Quiet (Dev.fifoShow ch k d) := by
  unfold Dev.fifoShow
  exact .put (.ite h.wr.wr h.wr.wr)

theorem Dev.Quiet.fifoEmpty {ch k : Nat} {d : Dev} (h : d₀.Quiet d) : d₀.Quiet (Dev.fifoEmpty ch k d) := by
  unfold Dev.fifoEmpty
  exact h.add.units.put.fifoShow

theorem Dev.Quiet.setLockedObj {ch : Nat} {v : Option Nat} {d : Dev} (h : d₀.Quiet d) : d₀.Quiet (Dev.setLockedObj ch v d) := by
  unfold Dev.setLockedObj
  exact h.units

theorem Dev.Quiet.objsClear {ch : Nat} {d : Dev} (h : d₀.Quiet d) : d₀.Quiet (Dev.objsClear ch d) := by
  unfold Dev.objsClear
  exact .wr (.setLockedObj (.each (fun _ _ h1 => h1.wr) h.units))

theorem Dev.Quiet.setCanCur {ch : Nat} {b : Option Bid} {d : Dev} (h : d₀.Quiet d) : d₀.Quiet (Dev.setCanCur ch b d) := by
  unfold Dev.setCanCur
  exact h.units.put

theorem Dev.Quiet.setBids {ch : Nat} {l : List Nat} {d : Dev} (h : d₀.Quiet d) : d₀.Quiet (Dev.setBids ch l d) := by
  unfold Dev.setBids
  exact h.units

theorem Dev.Quiet.setKept {ch k : Nat} {r : Option BusRecord} {d : Dev} (h : d₀.Quiet d) : d₀.Quiet (Dev.setKept ch k r d) := by
  unfold Dev.setKept
  exact h.units

theorem Dev.Quiet.showFull {ch k : Nat} {d : Dev} (h : d₀.Quiet d) : d₀.Quiet (Dev.showFull ch k d) := by
  unfold Dev.showFull
  exact h.put

theorem Dev.Quiet.canReturn {ch : Nat} {keep : Bool} {d : Dev} (h : d₀.Quiet d) : d₀.Quiet (Dev.canReturn ch keep d) := by
  unfold Dev.canReturn
  exact .through (fun h1 => .each (fun _ _ h2 => h2.showFull) (.ite h1 h1.setCanCur)) h.undraw.setBids

theorem Dev.Quiet.canReset {ch : Nat} {d : Dev} (h : d₀.Quiet d) : d₀.Quiet (Dev.canReset ch d) := by
  unfold Dev.canReset
  exact .through (fun h1 => .cancel (.cancel (.put (.put (.put (.put (.ite h1.units h1.units.drainOff))))))) (.objsClear (.each
    (fun _ _ h2 => h2.fifoEmpty) (.each (fun _ _ h3 => h3.setKept.showFull) h.canReturn)))

theorem Dev.Quiet.setLinAwait {ch : Nat} {x : Option (Nat × Bool)} {d : Dev} (h : d₀.Quiet d) : d₀.Quiet (Dev.setLinAwait ch x d) := by
  unfold Dev.setLinAwait
  dsimp only
  split
  · exact h.units.arm
  · exact h.units.cancel

theorem Dev.Quiet.holdO {n : Nat} {on : Bool} {d : Dev} (h : d₀.Quiet d) : d₀.Quiet (Dev.holdO n on d) := by
  unfold Dev.holdO
  exact .ite h (.ite h.put.count.raise h.put)

theorem Dev.Quiet.fillChanged {n : Nat} {d : Dev} (h : d₀.Quiet d) : d₀.Quiet (Dev.fillChanged n d) := by
  unfold Dev.fillChanged
  exact .ite h.put.holdO (.ite h.put.holdO (.ite h.put.holdO h.put))

theorem Dev.Quiet.peerGone {code : Nat} {d : Dev} (h : d₀.Quiet d) : d₀.Quiet (Dev.peerGone code d) := by
  unfold Dev.peerGone
  exact .ite h.units.put.put.put h.units.put.put.put

theorem Dev.Quiet.loseTx {out : Nat} {d : Dev} (h : d₀.Quiet d) : d₀.Quiet (Dev.loseTx out d) := by
  unfold Dev.loseTx
  exact .each (fun _ _ h1 => h1.release) h.units

theorem Dev.Quiet.vhDown {n : Nat} {d : Dev} (h : d₀.Quiet d) : d₀.Quiet (Dev.vhDown n d) := by
  unfold Dev.vhDown
  exact .ite h (.revertStop (.peerGone (.fillChanged (.drainOn (.loseTx (.units (.each
    (fun _ _ h1 => h1.put) h.put.put.put.count.raise)))))))

theorem Dev.Quiet.linkGone {p : Nat} {d : Dev} (h : d₀.Quiet d) : d₀.Quiet (Dev.linkGone p d) := by
  unfold Dev.linkGone
  exact .each (fun _ _ h1 => h1.put) h

theorem Dev.Quiet.forgetSent {p : Nat} {d : Dev} (h : d₀.Quiet d) : d₀.Quiet (Dev.forgetSent p d) := by
  unfold Dev.forgetSent
  exact h.units

theorem Dev.Quiet.ethDown {p : Nat} {d : Dev} (h : d₀.Quiet d) : d₀.Quiet (Dev.ethDown p d) := by
  unfold Dev.ethDown
  exact .ite h (.through (fun h1 => .through (fun h2 => .ite h2.drainOn h2.armIn)
    (.ite h1.peerGone.revertStop h1)) h.creditPort.linkGone.count.raise.opFrameEnd.forgetSent.cancel.cancel.cancel.verifyStart)

theorem Dev.Quiet.setDiag {pg : Nat} {on : Bool} {d : Dev} (h : d₀.Quiet d) : d₀.Quiet (Dev.setDiag pg on d) := by
  have h1 : d₀.Quiet (d.modPg pg (fun s => { s with diag := on })) := .modPg (fun _ hs => hs) h
  exact h1.units.refreshPg.syncMode

theorem Dev.Quiet.commitIdle {pg : Nat} {d : Dev} (h : d₀.Quiet d) : d₀.Quiet (d.commitIdle pg) := by
  unfold Dev.commitIdle
  exact (Dev.Quiet.modPg (fun _ _ => rfl) h).put.cancel

theorem Dev.Quiet.commitEnds {pg status reason : Nat} {d : Dev} (h : d₀.Quiet d) : d₀.Quiet (Dev.commitEnds pg status reason d) := by
  unfold Dev.commitEnds
  exact h.commitIdle.put.put.raise

theorem Dev.Quiet.groupStat {status reason page : Nat} {d : Dev} (h : d₀.Quiet d) : d₀.Quiet (Dev.groupStat status reason page d) := by
  unfold Dev.groupStat
  exact h.put.put.put

theorem Dev.Quiet.fenceEnds {pg : Nat} {f : Fence} {err : Bool} {d : Dev} (h : d₀.Quiet d) : d₀.Quiet (Dev.fenceEnds pg f err d) := by
  unfold Dev.fenceEnds
  exact .through (fun h1 => .raise (.cancel (.ite h1.put.put.put.capture h1.put.put))) (.modPg (fun _ hs => hs) h)

theorem Dev.Quiet.fenceDrain {pg n : Nat} {d : Dev} (h : d₀.Quiet d) : d₀.Quiet (d.fenceDrain pg n) := by
  induction n generalizing d with
  | zero => exact h
  | succ n ih =>
    unfold Dev.fenceDrain
    split
    · exact h
    · exact .ite (ih h.fenceEnds) h

theorem Dev.Quiet.fencesFail {pg : Nat} {bad : Fence → Bool} {d : Dev} (h : d₀.Quiet d) : d₀.Quiet (Dev.fencesFail pg bad d) := by
  unfold Dev.fencesFail
  exact .fenceDrain (.modPg (fun _ hs => hs) h)

theorem Dev.Quiet.allFencesFail {bad : Fence → Bool} {d : Dev} (h : d₀.Quiet d) : d₀.Quiet (Dev.allFencesFail bad d) := by
  unfold Dev.allFencesFail
  exact .each (fun _ _ h1 => h1.fencesFail) h

theorem Dev.Quiet.ctl {code : Nat} {m : Ctl} {d : Dev} (h : d₀.Quiet d) : d₀.Quiet (Dev.ctl code m d) := by
  unfold Dev.ctl
  exact h.countCtl.emit

theorem Dev.Quiet.toMaster {d : Dev} (h : d₀.Quiet d) : d₀.Quiet d.toMaster.2 := by
  unfold Dev.toMaster
  refine .iteSnd h ?_
  split
  · next h1 => exact h.pathCode.ofSnd h1
  · next h2 => exact h.pathCode.ofSnd h2

theorem Dev.Quiet.broadcast {m : Nat → Nat → Ctl} {d : Dev} (h : d₀.Quiet d) : d₀.Quiet (Dev.broadcast m d) := by
  unfold Dev.broadcast
  exact .each (fun _ _ h1 => h1.ctl) h.units

theorem Dev.Quiet.ccStat {status reason : Nat} {d : Dev} (h : d₀.Quiet d) : d₀.Quiet (Dev.ccStat status reason d) := by
  unfold Dev.ccStat
  exact h.put.put

theorem Dev.Quiet.ccFails {pages : List Nat} {reason : Nat} {d : Dev} (h : d₀.Quiet d) : d₀.Quiet (Dev.ccFails pages reason d) := by
  unfold Dev.ccFails
  exact .ite h (.through (fun h1 => .through (fun h2 => .ite h2.ccStat.count.raise h2.ccStat) (.ite h1 h1.groupStat)) (.each
    (fun _ _ h3 => h3.commitEnds) h))

theorem Dev.Quiet.decideActs {k : CommitKey} {commit : Bool} {d : Dev} (h : d₀.Quiet d) : d₀.Quiet (Dev.decideActs k commit d) := by
  unfold Dev.decideActs
  exact .ite h.ccFails (.ite h (.each (fun _ _ h1 => .modPg (fun _ hs => hs) h1) h))

theorem Dev.Quiet.showOpen {d : Dev} (h : d₀.Quiet d) : d₀.Quiet d.showOpen := by
  unfold Dev.showOpen
  exact h.put

theorem Dev.Quiet.decideKey {k : CommitKey} {commit : Bool} {d : Dev} (h : d₀.Quiet d) : d₀.Quiet (Dev.decideKey k commit d) := by
  unfold Dev.decideKey
  exact .through (fun h1 => .decideActs (.ite h1.broadcast h1.broadcast.armIn)) h.units.count.showOpen

theorem Dev.Quiet.voteIn {v : Vote} {d : Dev} (h : d₀.Quiet d) : d₀.Quiet (Dev.voteIn v d) := by
  unfold Dev.voteIn
  split
  · exact .ite h.units.decideKey (.ite h.units.showOpen.decideKey (.ite h.units.showOpen.decideKey h.units.showOpen))
  · exact .ite h (.ite h.decideKey (.ite h.units.decideKey h.units))

theorem Dev.Quiet.castVote {k : CommitKey} {vote : Nat} {d : Dev} (h : d₀.Quiet d) : d₀.Quiet (Dev.castVote k vote d) := by
  unfold Dev.castVote
  refine .ite h.voteIn ?_
  split
  · next h1 => exact (h.toMaster.ofSnd h1).ctl
  · next h2 => exact h.toMaster.ofSnd h2

theorem Dev.Quiet.abortCommit {pg reason : Nat} {d : Dev} (h : d₀.Quiet d) : d₀.Quiet (Dev.abortCommit pg reason d) := by
  unfold Dev.abortCommit
  exact .ite h (.through (fun h1 => .through (fun h2 => .ite h2.ccStat.castVote h2) (.ite h1 h1.groupStat)) (.each
    (fun _ _ h3 => h3.commitEnds) h))

theorem Dev.Quiet.outcome {o : Nat} {d : Dev} (h : d₀.Quiet d) : d₀.Quiet (Dev.outcome o d) := by
  unfold Dev.outcome
  exact .ite h.put.put h

theorem Dev.Quiet.holdOff {d : Dev} (h : d₀.Quiet d) : d₀.Quiet d.holdOff := by
  unfold Dev.holdOff
  exact .ite h (.ite h.units h.units.add.put)

theorem Dev.Quiet.braceStops {b : Nat} {d : Dev} (h : d₀.Quiet d) : d₀.Quiet (Dev.braceStops b d) := by
  unfold Dev.braceStops
  exact .units (.put (.cancel (.cancel (.cancel (.ite h.setDiag h)))))

theorem Dev.Quiet.silence {d : Dev} (h : d₀.Quiet d) : d₀.Quiet d.silence := by
  unfold Dev.silence
  exact .through (fun h1 => .each (fun _ _ h2 => h2.setLinAwait) (.each (fun _ _ h3 => h3.setCanCur.put)
    (.ite h1.pcieDown.hostGone h1))) (.each (fun _ _ h4 => h4.vhDown) (.each (fun _ _ h5 => h5.ethDown) (.each
    (fun _ _ h6 => h6.releaseGpio) h)))

theorem Dev.Quiet.dropStarts {d : Dev} (h : d₀.Quiet d) : d₀.Quiet d.dropStarts := by
  unfold Dev.dropStarts
  exact .each (fun _ _ h1 => h1.setGateRun) (.each (fun _ _ h2 => h2.setTas.tasShow) h)

end Sys2Proof.Machine
end

section
/-!
PROOF. What the entry to Halt leaves. During a loss of supply (R387) it leaves the device alone, and the statement's hypotheses do
not exclude one: it fails there. Without a loss of supply what goes before the halt condition keeps the base state, what comes after
keeps the power state, and the mode is shown last.
-/

namespace Sys2Proof.Machine

variable {d : Dev}

/-! ### The base state before the halt condition is set -/

theorem syncMode_pw (d : Dev) : d.syncMode.pw = d.pw := (Dev.Quiet.refl d).syncMode.pw

theorem closeRound_base (d : Dev) : d.closeRound.pw.base = d.pw.base := by
  rw [Dev.closeRound, syncMode_pw]
  rfl

theorem dropRound_base (d : Dev) : d.dropRound.pw.base = d.pw.base := by
  unfold Dev.dropRound
  extract_lets v e
  have hquiet : d.Quiet e := (Dev.Quiet.refl d).units.cancel
  by_cases hc : e.phase = 0
  · rw [if_pos hc, hquiet.pw]
  · rw [if_neg hc, closeRound_base, hquiet.pw]

theorem updOver_base (reason : Nat) (d : Dev) : (d.updOver reason).pw.base = d.pw.base := by
  unfold Dev.updOver
  extract_lets d1 d2 d3 d4
  have hquiet : d.Quiet d4 := (Dev.Quiet.refl d).cancel.cancel.put.put.put.put.put.put
  rw [syncMode_pw]
  change d4.pw.base = d.pw.base
  rw [hquiet.pw]

theorem resetBrace_pw (b cause : Nat) (d : Dev) : (d.resetBrace b cause).pw = d.pw := by
  unfold Dev.resetBrace
  split
  · rfl
  · have hstops : d.Quiet (d.holdOff.braceStops b) := (Dev.Quiet.refl d).holdOff.braceStops
    refine Eq.trans ?_ hstops.pw
    have hclear := Dev.Quiet.refl ((d.holdOff.braceStops b).tcmCleared b)
    have hrest := Dev.Quiet.each (l := [BRC_HO_STAT b, BRC_STEST_RES b, BRC_STEST_CMD b, BRC_WDG_CFG b, BRC_SB_REFUSED b])
      (f := fun a d => d.wr a (resetValue a)) (fun _ _ h => h.wr) hclear
    exact (Dev.Quiet.refreshFrom (.ite hrest.put.put.count.units.put.put hrest.put.put.count.units.put.armIn)).pw

theorem guardAborts_base (reason : Nat) (d : Dev) : (d.guardAborts reason).pw.base = d.pw.base := by
  have hends : (d.updEnds reason).pw.base = d.pw.base := by
    unfold Dev.updEnds
    split
    · rfl
    · dsimp only
      split
      · rw [resetBrace_pw, updOver_base]
      · exact updOver_base reason d
  unfold Dev.guardAborts
  split
  · rw [(Dev.Quiet.refl (d.updEnds reason)).raise.pw, hends]
  · rfl

/-! ### The mode shown -/

theorem get_syncMode_mode (d : Dev) : d.syncMode.get SYS_MODE_mode = d.mode % 16 := by
  rw [Dev.syncMode, get_put_beside (f := SYS_MODE_cond) (g := SYS_MODE_mode) _ _ ⟨by decide, by decide⟩ (by decide) (by decide),
    get_put_same _ _ _ ⟨by decide, by decide⟩]
  rfl

theorem mode_of_halted (hb : d.pw.base = .service) (hh : d.pw.halted = true) : d.mode = 0xB := by
  simp only [Dev.mode, hb, hh, ↓reduceIte]

/-- What the entry to Halt does after it has set the power state. -/
theorem haltEntry_quiet {why : Nat} (hm : d.pw.main = true) (hr : d.pw.rails = true) (hl : d.pw.losing = false)
    (hh : d.pw.halted = false) : ∃ t e : Dev, t.pw = { ((d.dropRound.guardAborts 0x0D).silence).pw with
      halted := true, settling := false, faultn := false, readyUp := false } ∧ t.Quiet e ∧ d.haltEntry why = e.syncMode := by
  unfold Dev.haltEntry
  rw [if_neg (by simp [hm, hr, hl]), if_neg (by simp [hh])]
  extract_lets w d1 v d2 d3 d4 grouped d5 d6
  have h3 : d2.Quiet d3 := .ite (Dev.Quiet.refl d2).outcome (.refl d2)
  have h5 : d2.Quiet d5 := .each (fun _ _ h => h.commitEnds) h3.put.put
  have h6 : d2.Quiet d6 := .ite h5.groupStat h5
  exact ⟨d2, _, rfl, h6.allFencesFail.dropStarts.refresh, rfl⟩

/-- What O10 says of a device that is not losing its supply. -/
theorem haltEntry_leaves {why : Nat} (hup : d.up = true) (hl : d.pw.losing = false) (hh : d.pw.halted = false)
    (hb : d.pw.base = .service) :
    (d.haltEntry why).pw.halted = true ∧ (d.haltEntry why).pw.settling = false ∧ (d.haltEntry why).pw.faultn = false ∧
    (d.haltEntry why).pw.readyUp = false ∧ (d.haltEntry why).get SYS_MODE_mode = 0xB := by
  have hmain : d.pw.main = true ∧ d.pw.rails = true := by
    rw [Dev.up, Bool.and_eq_true, Bool.and_eq_true] at hup
    exact hup.1
  obtain ⟨t, e, ht, hq, he⟩ := haltEntry_quiet (why := why) hmain.1 hmain.2 hl hh
  have hbase : ((d.dropRound.guardAborts 0x0D).silence).pw.base = .service := by
    rw [(Dev.Quiet.refl _).silence.pw, guardAborts_base, dropRound_base, hb]
  have hpw : e.pw = _ := hq.pw.trans ht
  have hmode : e.mode = 0xB := mode_of_halted (by rw [hpw, hbase]) (by rw [hpw])
  rw [he, syncMode_pw, get_syncMode_mode, hmode, hpw]
  exact ⟨rfl, rfl, rfl, rfl, rfl⟩

/-- A device in Service with MAIN powered, whose supply is being lost. -/
def losingDev : Dev := { Dev.init with pw := { Power.init with base := .service, main := true, rails := true, losing := true } }

/-- Refutes O10: a device in Service whose supply is being lost (R387) is left as it is, without the halt condition; the statement
lacks the hypothesis that no loss of supply is in progress, with which `haltEntry_leaves` proves it. -/
theorem not_haltEntryLeaves : ¬ Obligations.HaltEntryLeaves := by
  intro h
  have hleft : losingDev.haltEntry 0 = losingDev := if_pos rfl
  have hhalted := (h losingDev 0 rfl rfl rfl).1
  rw [hleft] at hhalted
  exact absurd hhalted (by decide)

end Sys2Proof.Machine
end

section
/-!
PROOF. What a unit reset of a CAN page leaves: the operations it is made of are quiet, the page's own commit ends where it is not
decided, and the readiness that is shown last writes other fields.
-/

namespace Sys2Proof.Machine

variable {d : Dev} {pg : Nat}

/-! ### The commit of the page -/

theorem NMap.mem_of_find {α : Type} {a : Nat} {v : α} (m : NMap α) (h : NMap.find m a = some v) : (a, v) ∈ m := by
  induction m with
  | nil => cases h
  | cons e m ih =>
    obtain ⟨k, x⟩ := e
    simp only [NMap.find] at h
    split at h
    · next hk =>
      cases h
      cases hk
      exact List.mem_cons_self
    · exact List.mem_cons_of_mem _ (ih h)

/-- A page whose commit is in progress is among the pages that commit. -/
theorem mem_committing (h : (d.pg pg).phase ≠ .none) : pg ∈ d.committing := by
  cases hf : NMap.find d.pgs pg with
  | none =>
    rw [Dev.pg, NMap.get, hf] at h
    exact absurd rfl h
  | some s =>
    rw [Dev.pg, NMap.get, hf] at h
    exact List.mem_map.mpr ⟨(pg, s), List.mem_filter.mpr ⟨NMap.mem_of_find _ hf, decide_eq_true h⟩, rfl⟩

theorem mem_comrades (h : (d.pg pg).phase ≠ .none) : pg ∈ d.comrades pg := by
  unfold Dev.comrades
  dsimp only
  split
  · exact List.mem_singleton_self pg
  · exact List.mem_filter.mpr ⟨mem_committing h, beq_self_eq_true _⟩

theorem commitEnds_idle (status reason : Nat) (d : Dev) : ((d.commitEnds pg status reason).pg pg).phase = .none := by
  have hidle : ((d.modPg pg (fun s => { s with phase := .none, cmd := 0, group := 0, decided := false })).pg pg).phase = .none := by
    rw [Dev.modPg, pg_setPg_same]
  unfold Dev.commitEnds Dev.commitIdle
  exact (Dev.Quiet.refl _).put.cancel.put.put.raise.idle pg hidle

theorem each_commitEnds_idle {f : Nat → Nat} (l : List Nat) (h : pg ∈ l) (d : Dev) :
    ((d.each l (fun p d => d.commitEnds p csAborted (f p))).pg pg).phase = .none := by
  induction l generalizing d with
  | nil => cases h
  | cons x l ih =>
    have hcons : d.each (x :: l) (fun p d => d.commitEnds p csAborted (f p)) =
        (d.commitEnds x csAborted (f x)).each l (fun p d => d.commitEnds p csAborted (f p)) := by rw [Dev.each, List.foldl_cons, Dev.each]
    rw [hcons]
    rcases List.mem_cons.mp h with rfl | h
    · exact (Dev.Quiet.each (fun _ _ h1 => h1.commitEnds) (Dev.Quiet.refl _)).idle pg (commitEnds_idle ..)
    · exact ih h _

/-- A commit that is not decided ends with its comrades'. -/
theorem abortCommit_idle (reason : Nat) (hd : (d.pg pg).decided = false) : ((d.abortCommit pg reason).pg pg).phase = .none := by
  unfold Dev.abortCommit
  dsimp only
  split
  · next h => simpa [hd] using h
  · next h =>
    have hbegun : (d.pg pg).phase ≠ .none := fun hp => h (by simp [hp])
    have hends := each_commitEnds_idle (f := fun p => if p = pg then reason else rsGroup) (d.comrades pg)
      (mem_comrades hbegun) d
    refine Dev.Quiet.idle ?_ pg hends
    exact .through (fun h1 => .ite h1.ccStat.castVote h1) (.ite (Dev.Quiet.refl _) (Dev.Quiet.refl _).groupStat)

/-! ### The readiness shown last -/

/-- The readiness of a page is shown in PG_READY, in PG_STATE.clk_ok and in the interrupt status. -/
theorem get_refreshPg {f : FRef} (hf : f.lo ≤ f.hi) (hready : f.addr ≠ PG_READY pg) (hclk : f.addr ≠ PG_STATE pg ∨ f.hi < 1)
    (hirq : f.addr ≠ PG_IRQ_STAT pg) : (d.refreshPg pg).get f = d.get f := by
  have hraise : ∀ e : Dev, (e.raise pg irqReady).get f = e.get f := fun e => by rw [Dev.get, rd_raise_other _ hirq, Dev.get]
  have hput : ∀ (e : Dev) (v : Nat), (e.put (PG_STATE_clk_ok pg) v).get f = e.get f := fun e v => by
    rcases hclk with hne | hlt
    · exact get_put_reg _ _ hne
    · exact get_put_beside _ _ ⟨Nat.le_refl 1, Nat.lt_of_sub_eq_succ rfl⟩ hf (.inl hlt)
  unfold Dev.refreshPg
  dsimp only
  split
  · rw [hput, get_put_reg _ _ hready, get_put_reg _ _ hready]
  · rw [hraise, hput, get_put_reg _ _ hready, get_put_reg _ _ hready]

theorem due_refreshPg (t : Timer) : (d.refreshPg pg).due t = d.due t := by
  unfold Dev.refreshPg
  dsimp only
  split
  · simp only [due_put]
  · simp only [due_raise, due_put]

theorem pageKind_can : ∀ n < 24, pageKind (pgCAN n) = some (.can, n) := by decide

theorem refreshFrom_can {n : Nat} (hn : n < 24) (d : Dev) : d.refreshFrom (pgCAN n) = d.refreshPg (pgCAN n) := by
  have hsub : subsystemOf (pgCAN n) = 7 := by simp only [subsystemOf, pageKind_can n hn]
  simp only [Dev.refreshFrom, hsub]
  exact if_neg (by decide)

theorem unitCleared_can {n : Nat} (hn : n < 24) (d : Dev) : d.unitCleared (pgCAN n) = d.canReset n := by
  rw [Dev.unitCleared, pageKind_can n hn]

/-- A unit reset of a CAN page: quiet operations after the end of its commit, then the reset and its end. -/
theorem unitReset_can {n : Nat} (hn : n < 24) (hopt : d.running ⟨.optionWrite, 0, 0⟩ = false)
    (hbank : d.running ⟨.bankWrite, 0, 0⟩ = false) : ∃ r : Dev, (d.abortCommit (pgCAN n) rsUnitReset).Quiet r ∧
    d.unitReset (pgCAN n) = Dev.refreshPg (pgCAN n) (((r.put (PG_STATE_in_reset (pgCAN n)) 1).put (PG_CTRL_reset (pgCAN n)) 1).armIn
      ⟨.unitReset, pgCAN n, 0⟩ (perT 64)) := by
  have hoff : d.holdOff = d := by simp [Dev.holdOff, hopt, hbank]
  unfold Dev.unitReset
  simp only [hoff, refreshFrom_can hn, unitCleared_can hn]
  exact ⟨_, (Dev.Quiet.refl _).fencesFail.allFencesFail.canReset, rfl⟩

section
variable {n : Nat} {r : Dev}

/-- A page put in reset, with the end of the reset armed and its readiness shown. -/
theorem reset_shown_inReset : (Dev.refreshPg pg (((r.put (PG_STATE_in_reset pg) 1).put (PG_CTRL_reset pg) 1).armIn
    ⟨.unitReset, pg, 0⟩ (perT 64))).get (PG_STATE_in_reset pg) = 1 := by
  rw [get_refreshPg (Nat.le_refl 0) (by simp [PG_STATE_in_reset, PG_STATE, PG_READY]) (.inr Nat.one_pos)
    (by simp [PG_STATE_in_reset, PG_STATE, PG_IRQ_STAT]), get_armIn,
    get_put_reg _ _ (by simp [PG_STATE_in_reset, PG_STATE, PG_CTRL_reset, PG_CTRL]),
    get_put_same _ _ _ ⟨Nat.le_refl 0, Nat.lt_of_sub_eq_succ rfl⟩]
  rfl

theorem reset_shown_ctrl : (Dev.refreshPg pg (((r.put (PG_STATE_in_reset pg) 1).put (PG_CTRL_reset pg) 1).armIn
    ⟨.unitReset, pg, 0⟩ (perT 64))).get (PG_CTRL_reset pg) = 1 := by
  rw [get_refreshPg (Nat.le_refl 1) (by simp [PG_CTRL_reset, PG_CTRL, PG_READY])
    (.inl (by simp [PG_CTRL_reset, PG_CTRL, PG_STATE])) (by simp [PG_CTRL_reset, PG_CTRL, PG_IRQ_STAT]), get_armIn,
    get_put_same _ _ _ ⟨Nat.le_refl 1, Nat.lt_of_sub_eq_succ rfl⟩]
  rfl

theorem reset_shown_due : (Dev.refreshPg pg (((r.put (PG_STATE_in_reset pg) 1).put (PG_CTRL_reset pg) 1).armIn
    ⟨.unitReset, pg, 0⟩ (perT 64))).due ⟨.unitReset, pg, 0⟩ = some (r.now + perT 64) := by
  rw [due_refreshPg, due_armIn_same, Dev.put_now, Dev.put_now]

theorem quiet_reset_shown (h : d.Quiet r) : d.Quiet (Dev.refreshPg pg
    (((r.put (PG_STATE_in_reset pg) 1).put (PG_CTRL_reset pg) 1).armIn ⟨.unitReset, pg, 0⟩ (perT 64))) :=
  h.put.put.armIn.refreshPg

end

/-- Settles O12: the operations before the page is put in reset are quiet, and what follows shows readiness only. -/
theorem unitResetLeaves : Obligations.UnitResetLeaves := by
  intro d n hn hopt hbank
  obtain ⟨r, habort, hreset⟩ := unitReset_can hn hopt hbank
  have hd : d.Quiet (d.abortCommit (pgCAN n) rsUnitReset) := (Dev.Quiet.refl d).abortCommit
  have hquiet := quiet_reset_shown (pg := pgCAN n) habort
  have hdue := reset_shown_due (pg := pgCAN n) (r := r)
  rw [habort.now, hd.now] at hdue
  rw [hreset]
  refine ⟨reset_shown_inReset, reset_shown_ctrl, hdue, fun hdec => hquiet.idle _ (abortCommit_idle _ hdec), fun a => ?_⟩
  rw [Dev.rdByte, hquiet.mem, hd.mem, Dev.rdByte]

end Sys2Proof.Machine
end
